-- ==== Sys2Proof/Word.lean ====
section
/-! DEFINITION. The word types of the module and its plainest arithmetic: bytes, 16- and 32-bit words,
grain counts, and the sparse table in which every large indexed store is held. -/

namespace Sys2Proof

/-- One byte. -/
abbrev Byte := BitVec 8

/-- A 16-bit word. -/
abbrev W16 := BitVec 16

/-- A 32-bit word: every diagnostic register, every mask of strings, every grain count (Table 0.3). -/
abbrev W32 := BitVec 32

/-- A sparse table: index and entry, indices strictly rising, no entry equal to the default of its type.
An index that is not listed holds the default. -/
abbrev Tab (α : Type) := List (Nat × α)

end Sys2Proof
end

