-- ==== Sys2Proof/Machine/StateAdc.lean ====
section
/-! DEFINITION. The state of the local measurement ADC (spec file 14_local_adc.md). -/

namespace Sys2Proof.Machine

/-- One INJ_RES entry (R517): CODE, VALID and SLOT. -/
structure InjRes where
  code : Int := 0
  valid : Bool := false
  slot : Nat := 0
deriving DecidableEq, Repr, Inhabited

/-- The regular round in progress (R500, R504): its codes, the slots lost, and an injected sequence of the round. -/
structure AdcRound where
  /-- start in ns of the present grain, negative for a round that began in the grain before -/
  start : Int := 0
  /-- slots whose results have reached their channels -/
  done : Nat := 0
  /-- codes of slots 0-19 -/
  codes : List Int := []
  /-- bit per lost slot -/
  lost : BitVec 20 := 0
  /-- the injected sequence of this round: its start in ns of the round, and its trigger, 0 comparator, 1 carrier, 2 command -/
  injected : Option (Nat × Nat) := none
  /-- nanoseconds of this round that the sequence of the round before still takes; R505 -/
  busyTo : Nat := 0
deriving DecidableEq, Repr, Inhabited

/-- One converter A, B or C. Spec file 14_local_adc.md. -/
structure AdcConv where
  /-- ADC_STAT.RUNNING; R500, R516; reset 0 -/
  running : Bool := false
  /-- ADC_STAT.CAL_RUN; R513, R516; reset 0 -/
  calRun : Bool := false
  /-- the calibration in progress is the second one; R513; reset: DESIGN CHOICE 0 (log 3) -/
  calAgain : Bool := false
  /-- ADC_STAT.FAILED; R513, R516; reset 0 -/
  failed : Bool := false
  /-- ADC_STAT.CAL_FAIL; R513, R516; reset 0 -/
  calFail : Bool := false
  /-- ADC_STAT.REF_FAIL; R501, R516; reset 0 -/
  refFail : Bool := false
  /-- ADC_STAT.INJ_OVERRUN; R505, R516; reset 0 -/
  injOverrun : Bool := false
  /-- ADC_STAT.TRIG_FALLBACK; R500, R516; reset 0 -/
  trigFallback : Bool := false
  /-- ADC_STAT.LOST_SLOTS of the last grain, 16 bits; R504, R516; reset 0 -/
  lostSlots : Nat := 0
  /-- lost slots of the present grain; R504; reset: DESIGN CHOICE 0 (log 3) -/
  lostNow : Nat := 0
  /-- ADC_SCAL.SC_OFFSET, s16; R506, R513, R516; reset 0 -/
  scOffset : Int := 0
  /-- ADC_SCAL.SC_GAIN, s16; R506, R513, R516; reset 0 -/
  scGain : Int := 0
  /-- successive rounds in which each of the four references read outside 0.05 %; R501; reset: DESIGN CHOICE 0 (log 3) -/
  refBad : List Nat := []
  /-- INJ_RES entries 0-3; R517; reset 0 -/
  injRes : List InjRes := []
  /-- the round in progress; R500; reset: none -/
  round : Option AdcRound := none
  /-- end of the last round in ns of the present grain; R500; reset: none -/
  endNs : Option Int := none
  /-- nanoseconds of the next round that an injected sequence of this one still takes; R504; reset: DESIGN CHOICE 0 (log 3) -/
  carryLost : Nat := 0
  /-- grain in which the carrier injection last ran: one per grain; R503; reset: none -/
  injGrain : Option W32 := none
  /-- TRIG_SRC, TRIG_LINK, TRIG_DELAY in force; R500; reset 0 (defaults of Table 14.7) -/
  trigSrc : Nat := 0
  trigLink : Nat := 0
  trigDelay : Nat := 0
deriving DecidableEq, Repr, Inhabited

/-- One string-current channel. Spec file 14_local_adc.md. -/
structure StrAdc where
  /-- I_MEAN, I_MIN, I_MAX, I_LAST, mA, s32; R518; reset 0 -/
  iMean : Int := 0
  iMin : Int := 0
  iMax : Int := 0
  iLast : Int := 0
  /-- SAMPLES and LOST of the last grain; R518; reset 0 -/
  samples : Nat := 0
  lost : Nat := 0
  /-- sum, least, greatest, valid and lost of the present grain; R507; reset: DESIGN CHOICE 0 (log 3) -/
  sum : Int := 0
  minNow : Int := 0
  maxNow : Int := 0
  nNow : Nat := 0
  lostNow : Nat := 0
  /-- valid samples of the present and the last grain, tick and mA, for the window of a sweep; R133 (04), R502; reset: none -/
  win : List (Nat × Int) := []
  winPrev : List (Nat × Int) := []
  /-- CSTAT AVAILABLE; R507, R518; reset 0 -/
  available : Bool := false
  /-- CSTAT SAT; R506, R518; reset 0 -/
  sat : Bool := false
  /-- CSTAT OVER_RANGE; R499, R518; reset 0 -/
  overRange : Bool := false
  /-- an over-range code in the present grain; R506; reset: DESIGN CHOICE 0 (log 3) -/
  satNow : Bool := false
  /-- CSTAT IMPLAUSIBLE; R507, R518; reset 0 -/
  implausible : Bool := false
  /-- CSTAT CMP_CLAMP; R508, R518; reset 0 -/
  cmpClamp : Bool := false
  /-- successive grains beyond and within the plausibility limit; R507; reset 0 -/
  badRun : Nat := 0
  goodRun : Nat := 0
  /-- comparator DAC codes, upper and lower; R508; reset 0 -/
  dacHi : Int := 0
  dacLo : Int := 0
  /-- grain in whose tick 0 the DACs were last written again; R508; reset: none -/
  dacGrain : Option W32 := none
  /-- OC_HI_THR, OC_LO_THR, mA; R508, R518; reset 0 -/
  ocHi : Int := 0
  ocLo : Int := 0
  /-- PROT_STAT.OC_EVENT: the module's own comparator beyond its window now, above (discharge) and below (charge); R306, R320 (08); reset 0 -/
  ocNowDis : Bool := false
  ocNowChg : Bool := false
  /-- comparator event latched for the fabric, discharge and charge side; R305 (08); reset: DESIGN CHOICE 0 (log 3) -/
  ocLatchDis : Bool := false
  ocLatchChg : Bool := false
  /-- grain of the last comparator event, and OC_PEAK, mA; R322 (08); reset 0 -/
  ocGrain : Option W32 := none
  ocPeak : Int := 0
  /-- sample of largest magnitude of the present grain, mA; R322 (08); reset: DESIGN CHOICE 0 (log 3) -/
  peakNow : Int := 0
  /-- CMP_EVENTS, 32 bits; R518; reset 0 -/
  cmpEvents : Nat := 0
  /-- V_IN, uV; R518; reset 0 -/
  vIn : Int := 0
  /-- I_SUM_DIFF, mA; R518; reset 0 -/
  iSumDiff : Int := 0
  /-- INJ_PEAK, mA, and INJ_GRAIN; R504, R518; reset 0 -/
  injPeak : Int := 0
  injGrain : W32 := 0
deriving DecidableEq, Repr, Inhabited

/-- One analogue input AIa. Spec file 14_local_adc.md. -/
structure AiCh where
  /-- MEAN, LAST, MIN, MAX, uV or nA; R510, R518; reset 0 -/
  mean : Int := 0
  last : Int := 0
  min : Int := 0
  max : Int := 0
  /-- SAMPLES, valid in the last grain; R518; reset 0 -/
  samples : Nat := 0
  /-- sum, least, greatest and count of the present grain; R510; reset: DESIGN CHOICE 0 (log 3) -/
  sum : Int := 0
  minNow : Int := 0
  maxNow : Int := 0
  nNow : Nat := 0
  /-- ASTAT VALID; R510, R518; reset 0 -/
  valid : Bool := false
  /-- ASTAT SAT, of the last grain and of the present one; R518; reset 0 -/
  sat : Bool := false
  satNow : Bool := false
  /-- ASTAT BURDEN_OPEN, and the module ms at which the burden opened; R510, R518; reset 0 -/
  burdenOpen : Option Nat := none
  /-- ASTAT MODE in force, 1 bit; R510, R518; reset 0 -/
  mode : Nat := 0
  /-- the mode changed at the boundary of this grain: invalid in it; R510; reset: DESIGN CHOICE 0 (log 3) -/
  changed : Bool := false
deriving DecidableEq, Repr, Inhabited

/-- A transition at a pulse input (R511): GRAIN_CNT and NS_CNT at it, and whether it rises. -/
structure PiEdge where
  grain : W32 := 0
  ns : W32 := 0
  rising : Bool := true
deriving DecidableEq, Repr, Inhabited

/-- One pulse input PIp. Spec file 14_local_adc.md. -/
structure PiCh where
  /-- FREQ, FREQ_MEAN, mHz; R511, R518; reset 0 -/
  freq : Nat := 0
  freqMean : Nat := 0
  /-- PERIOD, ns; R511, R518; reset 0 -/
  period : Nat := 0
  /-- PULSES, 32 bits, wrapping; R511, R518; reset 0 -/
  pulses : W32 := 0
  /-- PULSES_GRAIN of the last grain; R518; reset 0 -/
  pulsesGrain : Nat := 0
  /-- pulses, completed periods and their sum in ns in the present grain; R511; reset: DESIGN CHOICE 0 (log 3) -/
  pulsesNow : Nat := 0
  periodsNow : Nat := 0
  sumNow : Nat := 0
  /-- PSTAT VALID; R518; reset 0 -/
  valid : Bool := false
  /-- PSTAT NO_PULSE; R511, R518; reset 0 -/
  noPulse : Bool := false
  /-- EDGE_GRAIN, EDGE_NS; R511, R518; reset 0 -/
  edgeGrain : W32 := 0
  edgeNs : W32 := 0
  /-- a pulse has been seen since the start; R511; reset: DESIGN CHOICE 0 (log 3) -/
  seen : Bool := false
  /-- module ms of the last pulse; R511; reset: DESIGN CHOICE 0 (log 3) -/
  lastMs : Nat := 0
deriving DecidableEq, Repr, Inhabited

/-- Local measurement ADC. Spec file 14_local_adc.md. -/
structure AdcSt where
  /-- converters A, B, C -/
  convs : Tab AdcConv := []
  /-- string-current channels S0-S31 -/
  strs : Tab StrAdc := []
  /-- analogue inputs AI0-AI3 -/
  ais : Tab AiCh := []
  /-- pulse inputs PI0-PI1 -/
  pis : Tab PiCh := []
  /-- board channels VIN, V12, V5, V3V3, V1V0 (mV), T_BOARD0-2 (0.01 C), s32; R512, R518; reset 0 -/
  board : List Int := []
  /-- sums and counts of the board channels in the present grain; R512; reset: DESIGN CHOICE 0 (log 3) -/
  boardSum : List (Int × Nat) := []
  /-- grains for which the board temperatures have held their last values; R512; reset: DESIGN CHOICE 0 (log 3) -/
  boardHold : Nat := 0
deriving DecidableEq, Repr, Inhabited

end Sys2Proof.Machine
end

