-- ==== Sys2Proof/Machine/StateCan.lean ====
section
/-! DEFINITION. The state of the CAN FD ports (spec file 13_can_fd_ports.md). -/

namespace Sys2Proof.Machine

/-- CAN_STAT.ERR_STATE (R485-R487), in the order of its codes. -/
inductive CanErr where
  | active | passive | busOff | recovering
deriving DecidableEq, Repr, Inhabited

/-- A CAN frame as received or sent (R470, R480). -/
structure CanFrame where
  ide : Bool := false
  id : Nat := 0
  fdf : Bool := false
  brs : Bool := false
  esi : Bool := false
  rtr : Bool := false
  dlc : Nat := 0
  data : List Byte := []
deriving DecidableEq, Repr, Inhabited

/-- The contents of a received frame with its stamps (R480): what an object or the lock buffer holds. -/
structure CanRx where
  frame : CanFrame := {}
  tsGrain : W32 := 0
  tsNs : W32 := 0
deriving DecidableEq, Repr, Inhabited

/-- One message object. Spec file 13_can_fd_ports.md. -/
structure CanObj where
  /-- OSTAT VALID; R495; reset 0 -/
  valid : Bool := false
  /-- OSTAT PENDING; R482-R484, R495; reset 0 -/
  pending : Bool := false
  /-- OSTAT LOST; R480, R482, R495; reset 0 -/
  lost : Bool := false
  /-- OSTAT STRANDED; R486, R495; reset 0 -/
  stranded : Bool := false
  /-- OSTAT TX_FAIL; R483, R495; reset 0 -/
  txFail : Bool := false
  /-- OSTAT TT_MISS; R489, R495; reset 0 -/
  ttMiss : Bool := false
  /-- received image: FDF, BRS, ESI, REMOTE, ID, LEN, DLC, TS_GRAIN, TS_NS, DATA; R480, R495; reset 0 -/
  rx : CanRx := {}
  /-- FRAMES, 32 bits; R495; reset 0 -/
  frames : Nat := 0
  /-- LOST_CNT, 32 bits; R480, R495; reset 0 -/
  lostCnt : Nat := 0
  /-- RETRIES used by the last frame, 16 bits; R495; reset 0 -/
  retries : Nat := 0
  /-- attempts made for the pending frame; R483; reset 0 -/
  attempts : Nat := 0
  /-- the contents have not been read by SP1; R480; reset: DESIGN CHOICE 0 (log 3) -/
  unread : Bool := false
  /-- transmit data, 64 bytes; R482; reset 0 -/
  txData : List Byte := []
  /-- new data that arrived while the frame was on the bus; R482; reset: none -/
  nextData : Option (List Byte) := none
deriving DecidableEq, Repr, Inhabited

/-- What a port has on the bus: an object's frame, or the reference message of a time master. -/
inductive CanOnBus where
  | object (o : Nat) | reference
deriving DecidableEq, Repr, Inhabited

/-- Rate detection in progress (R477): index of the rate, frames in succession, and module ms of the dwell. -/
structure CanDetect where
  rate : Nat := 0
  run : Nat := 0
  since : Nat := 0
deriving DecidableEq, Repr, Inhabited

/-- One port Fp. Spec file 13_can_fd_ports.md. -/
structure CanPort where
  /-- mode in force: 0 off, 1 normal, 2 listen-only; R471, R493; reset 0 -/
  mode : Nat := 0
  /-- the parameters of Table 13.7 in force (timing set), none until taken; R476; reset: none -/
  timing : List Int := []
  /-- CAN_STAT.ERR_STATE, 2 bits; R485, R493; reset 0 -/
  err : CanErr := .active
  /-- CAN_ERR.TEC, 9 bits; R485, R493; reset 0 -/
  tec : Nat := 0
  /-- CAN_ERR.REC, 8 bits; R485, R493; reset 0 -/
  recCnt : Nat := 0
  /-- CAN_ERR.LEC, 3 bits; R493; reset 0 -/
  lec : Nat := 0
  /-- CAN_STAT.TX_INHIBIT; R472, R493; reset 0 -/
  txInhibit : Bool := false
  /-- CAN_STAT.TT_SYNC; R489, R493; reset 0 -/
  ttSync : Bool := false
  /-- CAN_STAT.LOST_ANY; R493; reset 0 -/
  lostAny : Bool := false
  /-- CAN_STAT.TX_FAIL_ANY; R493; reset 0 -/
  txFailAny : Bool := false
  /-- CAN_STAT.LOCK_ABORT; R481, R493; reset 0 -/
  lockAbort : Bool := false
  /-- CAN_STAT.TT_MISS_ANY; R493; reset 0 -/
  ttMissAny : Bool := false
  /-- CAN_STAT.MODE 3: rate detection running; R477, R493; reset: none -/
  detect : Option CanDetect := none
  /-- DET_RATE, bit/s; R477, R495; reset 0 -/
  detRate : Nat := 0
  /-- CAN_TXW DATA0-DATA15 as 64 bytes; R494; reset 0 -/
  txw : List Byte := []
  /-- CAN_TXW OBJECT, 8 bits; R494; reset 0 -/
  txwObj : Nat := 0
  /-- nanoseconds of bus integration still to come; R471, R476; reset 0 -/
  integ : Nat := 0
  /-- the frame of this port on the bus; R482; reset: none -/
  onBus : Option CanOnBus := none
  /-- object locked by a first-word read, and the frame held in the lock buffer; R481; reset: none -/
  lock : Option Nat := none
  held : Option CanRx := none
  /-- RX_FRAMES, TX_FRAMES, ERR_FRAMES, ARB_LOST, BUSOFF_CNT, UNMATCHED, LOCK_DEFER, TX_DROPPED, 32 bits each; R495; reset 0 -/
  rxFrames : Nat := 0
  txFrames : Nat := 0
  errFrames : Nat := 0
  arbLost : Nat := 0
  busOffCnt : Nat := 0
  unmatched : Nat := 0
  lockDefer : Nat := 0
  txDropped : Nat := 0
  /-- bits of frames seen in the present second, and BUS_LOAD, 0.01 %; R495; reset 0 -/
  busBits : Nat := 0
  busLoad : Nat := 0
  /-- TT_CYCLE_COUNT, 6 bits; R488, R489, R495; reset 0 -/
  cycle : Nat := 0
  /-- a reference message of the time master is pending; R488; reset: none -/
  refPending : Bool := false
  /-- corrected time (ns) at the start of frame of the last two reference messages, newest first; R489; reset: none -/
  refs : List Nat := []
  /-- objects whose window of the present basic cycle has passed; R489, R492; reset: none -/
  ttDone : List Nat := []
  /-- objects 0-255 -/
  objs : Tab CanObj := []
deriving DecidableEq, Repr, Inhabited

/-- CAN FD ports. Spec file 13_can_fd_ports.md. -/
structure CanSt where
  /-- ports F0-F3 -/
  ports : Tab CanPort := []
  /-- the objects of each port as they stood at tick 0 of the present grain; R481; reset: none -/
  tick0 : Tab (Tab CanObj) := []
deriving DecidableEq, Repr, Inhabited

end Sys2Proof.Machine
end

