-- ==== Sys2Proof/Machine/StateChain.lean ====
section
/-! DEFINITION. The state of the cell chain rings, monitors, sweeps, sense wires and balancing (spec files
03_cell_chain_link.md and 04_sweeps_balancing_chain_faults.md). -/

namespace Sys2Proof.Machine

/-- The two ring ends (Table 0.6). -/
inductive RingEnd where
  | A | B
deriving DecidableEq, Repr, Inhabited

/-- An addressed or train command of Table 3.7 with its payload. -/
inductive ChainCmd where
  | sweep (window : Nat) (temp : Bool)
  | enum
  | echo (payload : List Byte)
  | setSkew (skew : Nat)
  | setConfig (cellMask : W16) (ov uv : Nat) (ot : Int)
  | setBalance (timers : List Nat)
  | readBalance
  | openWire (taps : BitVec 17)
  | authChallenge (nonce : List Byte)
  | authRead
  | readStatus
  | hibernate
  | readReg (start count : Nat)
  | read12
deriving DecidableEq, Repr, Inhabited

/-- A command frame sent on a ring (Table 3.3). -/
structure ChainFrame where
  addr : Nat := 0x3F
  dir : RingEnd := .A
  cmd : ChainCmd := .enum
  cnt : Nat := 0
deriving DecidableEq, Repr, Inhabited

/-- A signal that a ring-end transmitter of the module sends when it has no frame (Table 3.2). -/
inductive LineSignal where
  | off | idle | wake
deriving DecidableEq, Repr, Inhabited

/-- A response frame as it arrives at a ring end, bit by bit in bytes (R101, Table 3.4). -/
structure ChainRx where
  /-- the ring end that receives it. -/
  rxEnd : RingEnd := .A
  /-- preamble, start delimiter, header, payload and CRC-16. -/
  bytes : List Byte := []
  /-- inside the response window of the open transaction. -/
  inWindow : Bool := true
  /-- round-trip time in 0.5 ns units, for ECHO (R118). -/
  rtt : Nat := 0
deriving DecidableEq, Repr, Inhabited

/-- What a module sees at its ring end and forwards to its partner (R376, R396): continuity, and the lock of the recovered clock. -/
structure EndObs where
  cont : Bool := false
  lock : Bool := false
deriving DecidableEq, Repr, Inhabited

/-- The fields of a response frame that passed the crossing (Table 3.4). -/
structure ChainResp where
  src : Nat := 0
  dir : RingEnd := .A
  err : Bool := false
  opcode : Nat := 0
  cnt : Nat := 0
  dup : Bool := false
  cmp : Byte := 0
  payload : List Byte := []
  /-- inside the response window of the open transaction. -/
  inWindow : Bool := true
  /-- round-trip time in 0.5 ns units, for ECHO (R118). -/
  rtt : Nat := 0
deriving DecidableEq, Repr, Inhabited

/-- The priorities of R138, highest first, and a train or diagnostic transaction. -/
inductive ChainPrio where
  | balanceStop | setConfigLost | retry | sequence | balance | read | diagnostic
deriving DecidableEq, Repr, Inhabited

/-- A waiting addressed command (R105, R107, R138): the attempts made, and the CNT of the first one. -/
structure ChainWait where
  addr : Nat := 0
  cmd : ChainCmd := .readStatus
  prio : ChainPrio := .read
  attempts : Nat := 0
  cnt : Option Nat := none
  origin : RingEnd := .A
deriving DecidableEq, Repr, Inhabited

/-- The transaction open on a ring (R97, R106): its frame, the addresses from which responses are expected, how many its
response window has room for, and those accepted. -/
structure ChainTxn where
  frame : ChainFrame := {}
  expected : List Nat := []
  room : Nat := 0
  accepted : List Nat := []
  wait : Option ChainWait := none
  /-- ENUM responses taken, in arrival order: SRC, STRAP, TYPE, HOP, CELLS, UID, FW, CAPS. -/
  enumResp : List (List Nat) := []
  /-- first bit of the command, and declared end, in 0.5 ns from the grain boundary (R97, R131). -/
  start : Nat := 0
  closes : Nat := 0
deriving DecidableEq, Repr, Inhabited

/-- The sweeps of one grain of a ring (R131-R151): of each half, whether its turn is over and whether it was sent, whether it
carried temperatures, the monitors it expected and those that answered, its T_s in 0.5 ns from the grain boundary; whether
the forward sweep reached the far end; and the CMP bytes of the answers. -/
structure SweepGrain where
  /-- the forward half's turn is over; R131; reset 0 -/
  fwd : Bool := false
  /-- the forward half was sent; R94, R131; reset 0 -/
  fwdSent : Bool := false
  /-- the forward half carried temperatures; R139; reset 0 -/
  tempFwd : Bool := false
  /-- the monitors the forward half expected; R131, R148; reset: none -/
  expFwd : List Nat := []
  /-- the monitors that answered it; R131; reset: none -/
  gotFwd : List Nat := []
  /-- its T_s, in 0.5 ns from the grain boundary; R131; reset: DESIGN CHOICE 0 (log 3) -/
  tsFwd : Nat := 0
  /-- the reverse half's turn is over; R135; reset 0 -/
  rev : Bool := false
  /-- the reverse half was sent; R135; reset 0 -/
  revSent : Bool := false
  /-- the reverse half carried temperatures; R139, R141; reset 0 -/
  tempRev : Bool := false
  /-- the monitors that answered the reverse half; R135, R147; reset: none -/
  gotRev : List Nat := []
  /-- its T_s, in 0.5 ns from the grain boundary; R133; reset: DESIGN CHOICE 0 (log 3) -/
  tsRev : Nat := 0
  /-- the forward half reached the far end; R98, R149; reset 0 -/
  contFwd : Bool := false
  /-- the CMP bytes of the answers of this grain's sweeps; R151; reset: none -/
  cmps : List (Nat × Byte) := []
deriving DecidableEq, Repr, Inhabited

/-- Enumeration state of a ring (CHN_STAT.ENUM, R119). -/
inductive EnumState where
  | notDone | inProgress | passed | fault
deriving DecidableEq, Repr, Inhabited

/-- One ring Cn. Spec file 03_cell_chain_link.md unless a field says otherwise. -/
structure Ring where
  /-- CHN_STAT A_TONE, B_TONE, 2 bits; R128; reset 0 -/
  tone : BitVec 2 := 0
  /-- CHN_STAT A_WAKE, B_WAKE, 2 bits; R128; reset 0 -/
  wake : BitVec 2 := 0
  /-- CHN_STAT A_INV, B_INV, 2 bits; R93, R128; reset 0 -/
  inv : BitVec 2 := 0
  /-- CHN_STAT.MODE, 2 bits; R127, R128; reset 0b00 -/
  mode : Nat := 0
  /-- CHN_STAT.ENUM, 2 bits; R119, R128; reset 0b00 -/
  enum : EnumState := .notDone
  /-- CHN_STAT.CONT, 1 bit; R98, R128; reset 0 -/
  cont : Bool := false
  /-- CHN_STAT.REACH_A, 6 bits; R128; reset 0 -/
  reachA : Nat := 0
  /-- CHN_STAT.REACH_B, 6 bits; R128; reset 0 -/
  reachB : Nat := 0
  /-- CHN_CNT0.CRC_DISCARD, 16 bits; R129; reset 0 -/
  crcDiscard : Nat := 0
  /-- CHN_CNT0.CNT_MISMATCH, 16 bits; R129; reset 0 -/
  cntMismatch : Nat := 0
  /-- CHN_CNT1.MISSING, 16 bits; R129; reset 0 -/
  missing : Nat := 0
  /-- CHN_CNT1.UNEXPECTED, 16 bits; R129; reset 0 -/
  unexpected : Nat := 0
  /-- ring counter of origin A, 4 bits; R105; reset: DESIGN CHOICE 0 (log 3) -/
  cntA : Nat := 0
  /-- ring counter of origin B, 4 bits; R105; reset: DESIGN CHOICE 0 (log 3) -/
  cntB : Nat := 0
  /-- the open transaction; R97; reset: none -/
  txn : Option ChainTxn := none
  /-- waiting addressed commands, oldest first; R138 (04); reset: none -/
  queue : List ChainWait := []
  /-- ends still to be enumerated, and enumerated in the present enumeration; R119; reset: none -/
  enumTodo : List RingEnd := []
  /-- HOP with which the last ENUM reached the far end, if it did; R116; reset: DESIGN CHOICE none (log 3) -/
  farHop : Option Nat := none
  /-- ENUM responses of the ends enumerated so far; R116; reset: none -/
  enumGot : List (RingEnd × List (List Nat)) := []
  /-- module ms of the last failed enumeration check; R117; reset: DESIGN CHOICE 0 (log 3) -/
  enumFailMs : Nat := 0
  /-- the last enumeration that ended did so with a fault, which lasts until one passes; R117; reset: DESIGN CHOICE 0 (log 3) -/
  enumBad : Bool := false
  /-- an enumeration started by CFG_LOST has not completed yet; R119; reset: none -/
  enumCfgLost : Bool := false
  /-- module ms at which the module's own wake tone began, until its ENUM is due; R125; reset: DESIGN CHOICE none (log 3) -/
  wakeSince : Option Nat := none
  /-- module ms at which the module's last own wake tone began; R126; reset: DESIGN CHOICE none (log 3) -/
  wokeMs : Option Nat := none
  /-- the first command after a wake, an ENUM, is still to be sent; R125; reset: DESIGN CHOICE 0 (log 3) -/
  wakeFirst : Bool := false
  /-- module ms of the last declaration of wake tone at ends A and B; R92, R128; reset: DESIGN CHOICE 0 (log 3) -/
  wakeMsA : Nat := 0
  wakeMsB : Nat := 0
  /-- the signal that the module's ring-end transmitters send between frames; R91, R92; reset Off (ring not configured) -/
  line : LineSignal := .off
  /-- an enumeration has failed for a fault other than COVER: no write goes to the ring; R117; reset: DESIGN CHOICE 0 (log 3) -/
  noWrite : Bool := false
  /-- CHN_FLT.BREAK_HOP, 6 bits; R172 (04); reset 0 -/
  breakHop : Nat := 0
  /-- CHN_FLT.SPLIT, 1 bit; R148, R172 (04); reset 0 -/
  split : Bool := false
  /-- CHN_FLT.REV_FIRST, 1 bit: the reverse half runs first in the next grain; R172 (04); reset 0 -/
  revFirst : Bool := false
  /-- the reverse half runs first in this grain; R147, R148 (04); reset: DESIGN CHOICE 0 (log 3) -/
  revLead : Bool := false
  /-- a reverse sweep is due (tail loss of this grain); R147 (04); reset: DESIGN CHOICE 0 (log 3) -/
  revDue : Bool := false
  /-- monitors answering each half in split mode, n_A and n_B; R148 (04); reset: DESIGN CHOICE 0 (log 3) -/
  nA : Nat := 0
  nB : Nat := 0
  /-- the next forward sweep is full size (probe or run of complete trains); R149 (04); reset: DESIGN CHOICE 0 (log 3) -/
  fullSize : Bool := false
  /-- successive complete full-size forward trains; R149 (04); reset: DESIGN CHOICE 0 (log 3) -/
  completeRun : Nat := 0
  /-- grain of the last displacement of the reverse half by the diagnostic slot; R148 (04); reset: DESIGN CHOICE none (log 3) -/
  displaced : Option W32 := none
  /-- CHN_FLT.OPEN_REQ, grain of the last string-open request of this chapter; R144, R172 (04); reset 0 -/
  openReq : Option W32 := none
  /-- a stale episode of the string is running whose request has been made; R144 (04); reset: DESIGN CHOICE 0 (log 3) -/
  staleEpisode : Bool := false
  /-- CHN_FLT.TONE_TRIP, 1 bit, held in the safety processor; R150, R172 (04); reset 0 -/
  toneTrip : Bool := false
  /-- CHN_FLT.TONE_PATH, 2 bits; R153, R172 (04); reset 0b00 -/
  tonePath : BitVec 2 := 0
  /-- successive grains without tone at every locked end; R152 (04); reset: DESIGN CHOICE 0 (log 3) -/
  toneAbsent : Nat := 0
  /-- sweeps left in which the source of the tone is sought; R151 (04); reset: DESIGN CHOICE 0 (log 3) -/
  toneSeek : Nat := 0
  /-- grain and tick of the tone declaration; R151 (04); reset: DESIGN CHOICE 0 (log 3) -/
  toneGrain : W32 := 0
  toneTick : Nat := 0
  /-- the sweeps of the present grain, and of the grain before; R131-R151 (04); reset: none -/
  now : SweepGrain := {}
  last : SweepGrain := {}
  /-- open-wire tests waiting, in order; R158, R161, R162 (04); reset: none -/
  owQueue : List ChainWait := []
  /-- whose periodic full test comes next, and module ms of the last one ordered; R162 (04); reset: DESIGN CHOICE 0 and none (log 3) -/
  owTurn : Nat := 0
  owMs : Option Nat := none
  /-- grain in which the sweep of the grain before was evaluated; R143 (04); reset: none -/
  evalAt : Option W32 := none
  /-- hop of a tail loss found at the close of this grain's forward sweep; R146, R147 (04); reset: none -/
  tailNow : Option Nat := none
  /-- a full-size forward train of this grain was complete, and its CONT; R149 (04); reset: none -/
  fullNow : Option Bool := none
  /-- a reverse sweep with temperatures is owed; R141 (04); reset: DESIGN CHOICE 0 (log 3) -/
  tempOwed : Bool := false
  /-- grain whose diagnostic slot has been used; R135, R136 (04); reset: DESIGN CHOICE none (log 3) -/
  diagAt : Option W32 := none
  /-- the end of the diagnostic slot of this grain that holds an ENUM or ECHO, in 0.5 ns from the boundary; R136 (04); reset: DESIGN CHOICE 0 (log 3) -/
  diagEnd : Nat := 0
  /-- earliest start of the next transaction, in 0.5 ns from the boundary; R135 (04); reset: DESIGN CHOICE 0 (log 3) -/
  freeAt : Nat := 0
  /-- safety ms of the last tone-detector test; R153 (04); reset: DESIGN CHOICE none (log 3) -/
  toneTestMs : Option Nat := none
  /-- module ms of the last balancing plan; R163 (04); reset: DESIGN CHOICE 0 (log 3) -/
  balMs : Nat := 0
deriving DecidableEq, Repr, Inhabited

/-- What the module keeps of one suspected, tested or open tap (R156-R161). -/
structure TapSt where
  /-- sweeps in succession with the tap pattern. -/
  run : Nat := 0
  suspect : Bool := false
  openTap : Bool := false
  intermittent : Bool := false
  /-- module ms before which the tap may not be suspected again. -/
  notBefore : Nat := 0
  /-- module ms of the clearings within the last hour. -/
  cleared : List Nat := []
  /-- inconclusive results in succession. -/
  inconclusive : Nat := 0
  /-- module ms of confirmation (or suspicion on a compatibility ring). -/
  openSince : Nat := 0
  /-- an enumeration has passed since the confirmation (R159). -/
  enumSeen : Bool := false
  /-- the sense-clear command has been given (R158). -/
  senseClear : Bool := false
deriving DecidableEq, Repr, Inhabited

/-- One monitor position. Spec file 03_cell_chain_link.md unless a field says otherwise. -/
structure Monitor where
  /-- write counter of the monitor, 4 bits; R105; reset: DESIGN CHOICE 0 (log 3) -/
  wcnt : Nat := 0
  /-- MSTAT point, 16 bits; R103, R173 (04); reset 0 -/
  mstat : W16 := 0
  /-- CMP point, 8 bits; R102, R173 (04); reset 0 -/
  cmp : Byte := 0
  /-- DIE_T point, s16; R173 (04); reset 0 -/
  dieT : Int := 0
  /-- UID point, u64; R173 (04); reset 0 -/
  uid : Nat := 0
  /-- the UID of the position UID table, class P; R123; reset: none -/
  tableUid : Option Nat := none
  /-- TYPE and CELLS of TYPE point, 16 bits; R173 (04); reset 0 -/
  mtype : Nat := 0
  cellsFitted : Nat := 0
  /-- FW point, u16; R173 (04); reset 0 -/
  fw : Nat := 0
  /-- HOPS point, HOP_A and HOP_B, 0xFF not enumerated; R173 (04); reset: DESIGN CHOICE 0xFF (log 3) -/
  hopA : Nat := 0xFF
  hopB : Nat := 0xFF
  /-- SKEW_A, SKEW_B points, u16; R118, R173 (04); reset 0 -/
  skewA : Nat := 0
  skewB : Nat := 0
  /-- measured delays d of R118 from origins A and B, in 0.25 ns; R118, R130; reset: DESIGN CHOICE 0 (log 3) -/
  delayA : Int := 0
  delayB : Int := 0
  /-- CNT, command and origin of a write that failed; R107; reset: none -/
  failedWrite : Option (Nat × ChainCmd × RingEnd) := none
  /-- MON_STATE bit 0, enumeration passed; R119, R173 (04); reset 0 -/
  enumPassed : Bool := false
  /-- MON_STATE bit 1, authenticated; R122, R173 (04); reset 0 -/
  authed : Bool := false
  /-- authenticated since the last enumeration (AUTH_OK); R128; reset: DESIGN CHOICE 0 (log 3) -/
  authSince : Bool := false
  /-- MON_STATE bit 2, UNAUTH; R122, R173 (04); reset 0 -/
  unauth : Bool := false
  /-- MON_STATE bit 3, accelerated; R140, R173 (04); reset 0 -/
  accel : Bool := false
  /-- MON_STATE bit 4, full test passed since the last enumeration; R162, R173 (04); reset 0 -/
  fullTest : Bool := false
  /-- MON_STATE bit 5, replaced and not yet in use; R168, R173 (04); reset 0 -/
  replaced : Bool := false
  /-- MON_STATE bit 6, CFG_LOST reported; R173 (04); reset 0 -/
  cfgLost : Bool := false
  /-- SET_CONFIG accepted from this monitor, 1 bit; R119; reset: DESIGN CHOICE 0 (log 3) -/
  configured : Bool := false
  /-- MON_STATE bit 7, DIE_LIMIT reported; R173 (04); reset 0 -/
  dieLimit : Bool := false
  /-- MON_STATE bit 8, BAL_MISMATCH; R167, R173 (04); reset 0 -/
  balMismatch : Bool := false
  /-- the sequence SET_SKEW, authentication, SET_CONFIG still to run: steps done; R119; reset: none -/
  sequence : Option Nat := none
  /-- tick in which the last READ12 response arrived; R188 (05); reset: DESIGN CHOICE 0 (log 3) -/
  readTick : Nat := 0
  /-- LAST_FRESH point, u32, and that the monitor has answered; R173 (04); reset 0 -/
  lastFresh : W32 := 0
  answered : Bool := false
  /-- the monitor has answered some command, an ENUM included; R173 (04); reset: DESIGN CHOICE 0 (log 3) -/
  spoke : Bool := false
  /-- the last response expected of the monitor did not come; R173 (04); reset: DESIGN CHOICE 0 (log 3) -/
  silent : Bool := false
  /-- a READ12 has been accepted in the present slow round; R142 (04), Table 3.12; reset: DESIGN CHOICE 0 (log 3) -/
  roundHeard : Bool := false
  /-- no READ12 was accepted in the slow round that ended last; R142 (04), Table 3.12; reset: DESIGN CHOICE 0 (log 3) -/
  roundMissed : Bool := false
  /-- the words of the last READ_REG response, for host software; R111; reset: none -/
  makerWords : List Nat := []
  /-- NORESP point, u32; R107, R173 (04); reset 0 -/
  noresp : Nat := 0
  /-- module ms of a MON_NORESP in force, and a response since; R107; reset: none -/
  norespMs : Option Nat := none
  norespHeard : Bool := false
  /-- PORT_CRC point, 2 x 16 bits; R111, R173 (04); reset 0 -/
  portCrcA : Nat := 0
  portCrcB : Nat := 0
  /-- OW_GRAIN point, u32; R162, R173 (04); reset 0 -/
  owGrain : W32 := 0
  /-- OW_OPEN point, 17 bits; R161, R173 (04); reset 0 -/
  owOpen : BitVec 17 := 0
  /-- taps judged open or intact since the full test began; R162 (04); reset: DESIGN CHOICE 0 (log 3) -/
  owDone : BitVec 17 := 0
  /-- taps of the OPEN_WIRE under way; R161 (04); reset: DESIGN CHOICE 0 (log 3) -/
  owMask : BitVec 17 := 0
  /-- BAL_MASK point, u16; R110, R173 (04); reset 0 -/
  balMask : W16 := 0
  /-- N_MOD and N_MON of the challenge under way, and its grain; R121, R122; reset: none -/
  nMod : List Byte := []
  nMon : List Byte := []
  challengeAt : Option W32 := none
  /-- module ms of the last authentication; R122; reset: DESIGN CHOICE 0 (log 3) -/
  authMs : Nat := 0
  /-- module ms of the last answer; R169 (04); reset: DESIGN CHOICE 0 (log 3) -/
  heardMs : Nat := 0
  /-- a full test is still to be completed since a return; R169, R175 (04); reset: DESIGN CHOICE 0 (log 3) -/
  testDue : Bool := false
  /-- DIE_T has passed BAL_DIE_SOFT, 1 bit; R166 (04); reset: DESIGN CHOICE 0 (log 3) -/
  dieSoft : Bool := false
  /-- taps 0-16: suspicion, confirmation and hold; R156-R161 (04); reset: none -/
  taps : Tab TapSt := []
  /-- the last balancing plan's charge per cell in nAh, 16 entries; R163 (04); reset: none -/
  balQ : List Nat := []
deriving DecidableEq, Repr, Inhabited

/-- One cell of the 20,480 (R5): the readings and the module's judgement of them. Spec file
04_sweeps_balancing_chain_faults.md. -/
structure Cell where
  /-- voltage point, u16 100 uV; R143; reset 0 -/
  v : Nat := 0
  /-- the reading of a sweep of the present grain, from a reverse sweep, and its temperature; R143, R148, R298 (08); reset: none -/
  vNow : Option Nat := none
  vNowRev : Bool := false
  tNow : Option Int := none
  /-- the reading of the sweep to be evaluated; R143; reset: none -/
  vNew : Option Nat := none
  /-- that reading, and the last evaluated one, came from a reverse sweep; R133, R148; reset: DESIGN CHOICE 0 (log 3) -/
  vNewRev : Bool := false
  vRev : Bool := false
  /-- the temperature reading of the round to be evaluated; R298, R299 (08); reset: none -/
  tNew : Option Int := none
  /-- temperature point, s16 0.01 C; R109 (03); reset 0 -/
  t : Int := 0
  /-- the voltage reading is fresh in the last evaluated sweep; R143; reset: DESIGN CHOICE stale (log 3) -/
  fresh : Bool := false
  /-- STALE_AGE, 0-65,535; R144; reset 0 -/
  staleAge : Nat := 0
  /-- the thermistor has given a reading; R140; reset: DESIGN CHOICE 0 (log 3) -/
  tRead : Bool := false
  /-- temperature rounds missed in succession; R142; reset: DESIGN CHOICE 0 (log 3) -/
  tMissed : Nat := 0
  /-- temperature-stale, 1 bit; R142; reset: DESIGN CHOICE 0 (log 3) -/
  tStale : Bool := false
  /-- deviation d of the last fresh reading, 100 uV, where it had a prediction; R154, R184 (05); reset: none -/
  dev : Option Rat := none
  /-- sweeps in succession with |d| at or above SW_DEV and no tap pattern; R155; reset: DESIGN CHOICE 0 (log 3) -/
  devRun : Nat := 0
  /-- cell deviation in force (DEVIATION bit); R155, R171; reset 0 -/
  deviation : Bool := false
  /-- balance command point, u16 s; R110 (03), R171; reset 0 -/
  balCmd : Nat := 0
  /-- balance timer point, u16 s, counted by the module; R167; reset 0 -/
  balLeft : Nat := 0
deriving DecidableEq, Repr, Inhabited

/-- Rings, monitors and cells (R3, R5). -/
structure ChainSt where
  /-- rings C0-C31 -/
  rings : Tab Ring := []
  /-- monitors, index 40 x ring + address -/
  mons : Tab Monitor := []
  /-- cells, global cell index -/
  cells : Tab Cell := []
deriving DecidableEq, Repr, Inhabited

end Sys2Proof.Machine
end

