-- ==== Sys2Proof/Machine/StateConv.lean ====
section
/-! DEFINITION. The state of the converter links and phases (spec file 06_string_converters.md). -/

namespace Sys2Proof.Machine

/-- The ten link states of R245, in the order of their codes. -/
inductive LinkState where
  | dark | training | off | softStart | run | burst | softStop | localRamp | fault | tripped
deriving DecidableEq, Repr, Inhabited

/-- The phase states of R246, in the order of their codes. -/
inductive PhState where
  | disabled | armed | active | hiccup | soft | mirrored | latched
deriving DecidableEq, Repr, Inhabited

/-- What an upstream frame carries (Table 6.4), and where its current field arrived relative to A (R227). -/
structure UpFrame where
  /-- whole, CRCs good, no code-group error, receiver in lock (R27, R223). -/
  good : Bool := true
  /-- error of the arrival of the current field against A, in 0.5 ns. -/
  err : Int := 0
  tick : Nat := 0
  carrierStart : Bool := false
  fstate : Nat := 0
  obeyed : Bool := false
  conflict : Bool := false
  clim : BitVec 6 := 0
  fault : W16 := 0
  vString : Nat := 0
  vBus : Nat := 0
  tHs : Int := 0
  enabled : BitVec 6 := 0
  regValid : Bool := false
  regError : Bool := false
  regAddr : Nat := 0
  regData : W32 := 0
  dutyEcho : List Nat := []
  /-- I_P0-I_P5 in 10 mA. -/
  iPh : List Int := []
deriving DecidableEq, Repr, Inhabited

/-- One phase Kn.Pp. Spec file 06_string_converters.md. -/
structure Phase where
  /-- KPH_STAT.STATE, 3 bits; R246, R255; reset 0 -/
  st : PhState := .disabled
  /-- KPH_STAT.CAUSE, 4 bits; R251, R255; reset 0 -/
  cause : Nat := 0
  /-- KPH_STAT.RETRIES, 4 bits; R246, R255; reset 0 -/
  retries : Nat := 0
  /-- KPH_STAT.CLIM_RUN, 7 bits reported; R246, R255; reset 0 -/
  climRun : Nat := 0
  /-- CLIM bit in the first frame of the present carrier cycle; R246; reset: DESIGN CHOICE 0 (log 3) -/
  climHalf : Bool := false
  /-- I point, mA: last mid-point sample; R251; reset 0 -/
  i : Int := 0
  /-- I_REF point, mA; R240, R251; reset 0 -/
  iRef : Int := 0
  /-- DUTY and DUTY_ECHO points, 1/65,536; R251; reset 0 -/
  duty : Nat := 0
  dutyEcho : Nat := 0
  /-- x_p, the sharing trim; R240; reset: DESIGN CHOICE 0 (log 3) -/
  xp : Rat := 0
  /-- OFFSET, ns; R247, R251; reset 0 -/
  offset : Nat := 0
  /-- the offset kept from before the phase was shed; R247; reset: DESIGN CHOICE 0 (log 3) -/
  keptOffset : Bool := false
  /-- arm timer: ticks since the phase was armed, and grain ms of a shed; R246; reset: DESIGN CHOICE 0 (log 3) -/
  armTicks : Nat := 0
  /-- the 5 ms arm timer of a shed runs; R246; reset: DESIGN CHOICE 0 (log 3) -/
  armShed : Bool := false
  /-- an add or start is pending for this armed phase; R246; reset: DESIGN CHOICE 0 (log 3) -/
  addPending : Bool := false
  /-- ticks in HICCUP, SOFT or MIRRORED; R246; reset: DESIGN CHOICE 0 (log 3) -/
  timer : Nat := 0
  /-- ticks since the limited-cycle count last reached HICCUP_N; R246; reset: DESIGN CHOICE 0 (log 3) -/
  cleanTicks : Nat := 0
  /-- successive samples with |e_p| above FE_PH; R244; reset: DESIGN CHOICE 0 (log 3) -/
  followRun : Nat := 0
  /-- successive samples meeting the open condition; R249; reset: DESIGN CHOICE 0 (log 3) -/
  openRun : Nat := 0
  /-- successive identical samples, and the duty at the first; R250; reset: DESIGN CHOICE 0 (log 3) -/
  stuckRun : Nat := 0
  stuckDuty : Nat := 0
  /-- successive samples meeting the second condition of R250; reset: DESIGN CHOICE 0 (log 3) -/
  devRun : Nat := 0
  /-- RUN_TIME, class P, in ticks switching; R247, R251; reset: DESIGN CHOICE 0 (log 3) -/
  runTicks : Nat := 0
  /-- RUN_TIME as last written to flash, once per hour; R251; reset: DESIGN CHOICE 0 (log 3) -/
  runSaved : Nat := 0
  /-- CLIM_TOTAL, u32; R251; reset 0 -/
  climTotal : Nat := 0
deriving DecidableEq, Repr, Inhabited

/-- A pending pruning decision (R247): shed or add of a phase, taken in grain `at`. -/
structure Prune where
  shed : Bool := true
  phase : Nat := 0
  decidedAt : W32 := 0
  iTgt : Rat := 0
deriving DecidableEq, Repr, Inhabited

/-- A far-end register access (R235). -/
structure RegAcc where
  write : Bool := false
  addr : Nat := 0
  data : W32 := 0
  /-- frames waited. -/
  waited : Nat := 0
deriving DecidableEq, Repr, Inhabited

/-- Bytes 3-16 of a downstream frame (Table 6.3), which an odd tick repeats (R32, R229). -/
structure FastBlock where
  enable : BitVec 6 := 0
  arm : BitVec 6 := 0
  duties : List Nat := []
deriving DecidableEq, Repr, Inhabited

/-- One link Kn. Spec file 06_string_converters.md. -/
structure Link where
  /-- KLNK_STAT.STATE, 4 bits; R245, R252; reset 0 -/
  st : LinkState := .dark
  /-- the state as the present grain began; R245; reset: DARK, as STATE -/
  stGrain : LinkState := .dark
  /-- FAULT was entered from TRAINING; R245; reset: DESIGN CHOICE 0 (log 3) -/
  faultFromTraining : Bool := false
  /-- SOFT_STOP leads to FAULT (OT_HS, SENSOR, STR_FOLLOW); R245; reset: DESIGN CHOICE 0 (log 3) -/
  stopToFault : Bool := false
  /-- the last string following error latched FAULT (STR_FOLLOW); R244; reset: DESIGN CHOICE 0 (log 3) -/
  strFollow : Bool := false
  /-- KLNK_STAT.FSTATE, 3 bits; R233, R252; reset 0 -/
  fstate : Nat := 0
  /-- KLNK_STAT.ALIGNED; R252; reset 0 -/
  aligned : Bool := false
  /-- KLNK_STAT.TRIP_HELD, the module's trip latch for Kn; R236, R252, R313 (08); reset 0 -/
  tripHeld : Bool := false
  /-- TRIP_CLEAR is being sent; R236, R314 (08); reset: DESIGN CHOICE 0 (log 3) -/
  tripClear : Bool := false
  /-- trip requests standing at the injector (OR-combined sources); R20 (01), R236; reset: none -/
  tripReq : Bool := false
  /-- byte times of K28.6 sent; R236; reset: DESIGN CHOICE 0 (log 3) -/
  tripTicks : Nat := 0
  /-- KLNK_STAT.CONFLICT; R238, R252; reset 0 -/
  conflict : Bool := false
  /-- KLNK_STAT.IDENT_OK; R234, R252; reset 0 -/
  identOk : Bool := false
  /-- KLNK_STAT.FIBRE_DELAY, 11 bits, none until measured (0xFFFF sent); R234, R252; reset 0 -/
  fibreDelay : Option Nat := none
  /-- errors of A over the training frames, 0.5 ns; R234; reset: none -/
  trainErrs : List Int := []
  /-- successive frames within 20 ns of A, and outside 40 ns; R234; reset: DESIGN CHOICE 0 (log 3) -/
  goodRun : Nat := 0
  badRun : Nat := 0
  /-- identity registers read: address and content; R234; reset: none -/
  ident : List (Nat × W32) := []
  /-- the register access under way and those waiting; R235; reset: none -/
  regAcc : Option RegAcc := none
  regQueue : List RegAcc := []
  /-- the words of the maker's registers read last, address and content unaltered, for host software; R235; reset: none -/
  makerRegs : List (Nat × W32) := []
  /-- successive upstream frames discarded; R239; reset: DESIGN CHOICE 0 (log 3) -/
  missRun : Nat := 0
  /-- the loss of the present run of missing frames has been recorded; R239; reset: none -/
  lost : Bool := false
  /-- ticks since LOCAL_RAMP was sent for a lost link; R239; reset: none -/
  rampTicks : Option Nat := none
  /-- KLNK_SAT, 12 bits; R241, R253; reset 0 -/
  sat : BitVec 12 := 0
  /-- KLNK_CNT0.MISSED and MISSED point, 16 bits; R254; reset 0 -/
  missed : Nat := 0
  /-- KLNK_CNT0.ALIGN_ERR, 16 bits; R227, R254; reset 0 -/
  alignErr : Nat := 0
  /-- KLNK_CNT1.TRIPS, 16 bits; R254; reset 0 -/
  trips : Nat := 0
  /-- KLNK_CNT1.HOLDS, 16 bits; R254; reset 0 -/
  holds : Nat := 0
  /-- FAULT point, 16 bits; R231, R251; reset 0 -/
  fault : W16 := 0
  /-- V_STR, V_BUS points, mV; R251; reset 0 -/
  vStr : Nat := 0
  vBus : Nat := 0
  /-- T_HS point, s16; R251; reset 0 -/
  tHs : Int := 0
  /-- ENABLED of the last upstream frame, 6 bits; R230; reset: DESIGN CHOICE 0 (log 3) -/
  enabled : BitVec 6 := 0
  /-- the slot of the string loop, and that of the phase loops, retired in the present tick: only then do the loop's outputs change; R54, R79 (02); reset: DESIGN CHOICE 0 (log 3) -/
  ranSt : Bool := false
  ranPh : Bool := false
  /-- ENABLE, ARM and DUTY0-DUTY5 of the last even tick; R229; reset: zeros, no frame sent -/
  fast : FastBlock := {}
  /-- the upstream frame of the present even tick was accepted as a mid-point sample; R242; reset: DESIGN CHOICE 0 (log 3) -/
  sampleNew : Bool := false
  /-- p_share, W, from the sharing stage; R285 (07); reset: DESIGN CHOICE 0 (log 3) -/
  pShare : Rat := 0
  /-- P_REF, P_MEAS, W; R240, R251; reset 0 -/
  pRef : Rat := 0
  pMeas : Rat := 0
  /-- x_pw, A; R240; reset: DESIGN CHOICE 0 (log 3) -/
  xPw : Rat := 0
  /-- I_SREF in force, A, and the one computed for the next grain; R240; reset 0 -/
  iSref : Rat := 0
  iSrefNext : Rat := 0
  /-- i_sref before ramping (its unramped value); R245; reset: DESIGN CHOICE 0 (log 3) -/
  iUnramped : Rat := 0
  /-- x_s and x_link; R240; reset: DESIGN CHOICE 0 (log 3) -/
  xS : Rat := 0
  xLink : Rat := 0
  /-- i_tgt, i_tot, i_pref of the last runs, A; R240; reset: DESIGN CHOICE 0 (log 3) -/
  iTgt : Rat := 0
  iTot : Rat := 0
  iPref : Rat := 0
  /-- D_FF; R240, R251; reset 0 -/
  dFf : Rat := 0
  /-- I_STR and I_SUM points, mA; R251; reset 0 -/
  iStr : Int := 0
  iSum : Int := 0
  /-- sum and count of I_SUM over the mid-point frames of this grain, and their mean in the grain before, mA; R187 (05); reset: DESIGN CHOICE 0 and none (log 3) -/
  iAcc : Int := 0
  iAccN : Nat := 0
  iGrain : Option Rat := none
  /-- I_LIM_DIS and I_LIM_CHG, A; R243, R251; reset 0 -/
  iLimDis : Rat := 0
  iLimChg : Rat := 0
  /-- successive runs with |e_s| above FE_ST, grains with |p_ref - p_meas| above FE_PW; R244; reset: DESIGN CHOICE 0 (log 3) -/
  followSt : Nat := 0
  followPw : Nat := 0
  /-- successive grains with |p_ref| below BURST_ENTER; R245; reset: DESIGN CHOICE 0 (log 3) -/
  burstRun : Nat := 0
  /-- BURST_S, BURST_PHASE; R248, R251; reset 0 -/
  burstS : Nat := 0
  burstPhase : Nat := 0
  /-- carrier periods left of the present burst or sleep, and asleep; R248; reset: DESIGN CHOICE 0 (log 3) -/
  burstLeft : Nat := 0
  burstSleep : Bool := false
  /-- module ms of the last burst-phase choice; R248; reset: DESIGN CHOICE 0 (log 3) -/
  burstMs : Nat := 0
  /-- module ms at which SOFT_STOP began; R245; reset: DESIGN CHOICE 0 (log 3) -/
  stopMs : Nat := 0
  /-- successive grains with |i_str| below 1 % in SOFT_STOP; R245; reset: DESIGN CHOICE 0 (log 3) -/
  stopRun : Nat := 0
  /-- pending pruning decision; R247; reset: none -/
  prune : Option Prune := none
  /-- a fast add this grain: offsets respread at the boundary; R247; reset: DESIGN CHOICE 0 (log 3) -/
  respread : Bool := false
  /-- TRIP_CAUSE, TRIP_GRAIN points; R251; reset 0 -/
  tripCause : Nat := 0
  tripGrain : W32 := 0
  /-- PHASE_CLEAR mask to be sent with CMD; R229, R246; reset: DESIGN CHOICE 0 (log 3) -/
  phaseClear : BitVec 6 := 0
deriving DecidableEq, Repr, Inhabited

/-- Converter links. Spec file 06_string_converters.md. -/
structure ConvSt where
  /-- links K0-K31 -/
  links : Tab Link := []
  /-- phases by global phase index, 192 entries -/
  phases : Tab Phase := []
deriving DecidableEq, Repr, Inhabited

end Sys2Proof.Machine
end

