-- ==== Sys2Proof/Machine/StateDisp.lean ====
section
/-! DEFINITION. The state of dispatch: lease, profile generator, moves, sharing and service (spec file
07_dispatch.md). -/

namespace Sys2Proof.Machine

/-- DISP_STAT.PSTATE (R278, Table 7.6), in the order of its codes. -/
inductive PState where
  | idle | follow | moveRun | moveBrake | stopping | stopped
deriving DecidableEq, Repr, Inhabited

/-- An energy move (R274). -/
structure Move where
  e : Int := 0
  pMove : Nat := 0
  rate : Nat := 0
  jerk : Nat := 0
  /-- the session that started it, to be told MOVE_DONE. -/
  session : Nat := 0
  seq : W32 := 0
  /-- a retarget takes effect in this grain (R276). -/
  retarget : Bool := false
deriving DecidableEq, Repr, Inhabited

/-- A command of a lease or of the generator that waits for its effective grain (R258, R262, R280): what it carries and
where its reply goes. -/
structure DispCmd where
  opcode : Nat := 0
  session : Nat := 0
  seq : W32 := 0
  /-- host priority number of the session (R262). -/
  prio : Nat := 0
  /-- its numbers in the order of its TLV. -/
  args : List Int := []
deriving DecidableEq, Repr, Inhabited

/-- Where a string stands in the service sequence of R288. -/
inductive SvcStep where
  | none | waitReady | closing | starting | stopping | opening | waitRamp
deriving DecidableEq, Repr, Inhabited

/-- A STRING_SERVICE command that waits for its strings (R288). -/
structure SvcJob where
  session : Nat := 0
  seq : W32 := 0
  named : W32 := 0
  done : W32 := 0
  failed : W32 := 0
deriving DecidableEq, Repr, Inhabited

/-- The service and sharing state of one string. Spec file 07_dispatch.md. -/
structure StrDisp where
  /-- in-service status, class P; R288; reset: DESIGN CHOICE 0 (log 3) -/
  inService : Bool := false
  /-- step of the service sequence, and whether it was started at start-up; R288; reset: none -/
  svc : SvcStep := .none
  svcStartup : Bool := false
  /-- zone, 2 bits; R283, R293; reset 0 -/
  zone : Nat := 0
  /-- effective weight; R284; reset: DESIGN CHOICE 0 (log 3) -/
  weight : Rat := 0
  /-- eligible in the last grain; R281; reset: DESIGN CHOICE 0 (log 3) -/
  eligible : Bool := false
  /-- A_dis,n and A_chg,n, W; R282; reset: DESIGN CHOICE 0 (log 3) -/
  aDis : Rat := 0
  aChg : Rat := 0
  /-- the zone has been taken since the start; R283; reset: DESIGN CHOICE 0 (log 3) -/
  zoneSet : Bool := false
  /-- a rest window is granted and the weight is falling to 0; R291; reset: DESIGN CHOICE 0 (log 3) -/
  restDrain : Bool := false
  /-- bit n of REST_MASK; R291, R293; reset 0 -/
  rest : Bool := false
  /-- grains of the rest window since the weight reached 0; R291; reset: none -/
  restGrains : Option Nat := none
deriving DecidableEq, Repr, Inhabited

/-- Dispatch. Spec file 07_dispatch.md. -/
structure DispSt where
  /-- DISP_OWNER.SESSION, 32 bits, and DISP_STAT.LEASE_HELD; R260, R293; reset 0 -/
  owner : Option Nat := none
  /-- DISP_LEASE.PRIO, 4 bits; R293; reset 0 -/
  ownerPrio : Nat := 0
  /-- DISP_EXP.EXP, 32 bits; R260, R293; reset 0 -/
  exp : W32 := 0
  /-- commands whose effective grain is the next, in order of acceptance; R258, R262, R280; reset: none -/
  cmds : List DispCmd := []
  /-- DISP_STAT.PSTATE; R278, R293; reset 0 -/
  pstate : PState := .idle
  /-- DISP_STAT.SRC, the source in force, 2 bits; R266, R293; reset 0 -/
  src : Nat := 0
  /-- SET_POWER target, W; R266; reset: DESIGN CHOICE 0 (log 3) -/
  setPower : Int := 0
  /-- last valid target of the source in force; R269; reset: none -/
  lastTarget : Option Rat := none
  /-- DISP_STAT.SRC_FAULT; R269, R293; reset 0 -/
  srcFault : Bool := false
  /-- successive invalid and valid grains of the source; R267-R269; reset: DESIGN CHOICE 0 (log 3) -/
  srcBad : Nat := 0
  srcGood : Nat := 0
  /-- DISP_STAT.SRC_KEPT; R263, R293; reset 0 -/
  srcKept : Bool := false
  /-- the last DROOP_AVG frequencies of PI0, mHz, newest first; R268; reset: none -/
  droopF : List Rat := []
  /-- p, W; R270, R293; reset 0 -/
  p : Rat := 0
  /-- r, W/s; R270, R293; reset 0 -/
  r : Rat := 0
  /-- DISP_TGT, W; R293; reset 0 -/
  tgt : Rat := 0
  /-- R and J in force in the last grain; R270; reset: DESIGN CHOICE 0 (log 3) -/
  rLim : Rat := 0
  /-- DISP_STAT.AT_TARGET; R293; reset 0 -/
  atTarget : Bool := false
  /-- DISP_STAT.RATE_LIM; R293; reset 0 -/
  rateLim : Bool := false
  /-- DISP_STAT.AVAIL_LIM; R273, R293; reset 0 -/
  availLim : Bool := false
  /-- DISP_STAT.SHORTFALL; R286, R293; reset 0 -/
  shortfall : Bool := false
  /-- DISP_STAT.REVERSING; R272, R293; reset 0 -/
  reversing : Bool := false
  /-- DISP_SHORT, W; R286, R293; reset 0 -/
  short : Rat := 0
  /-- the move running or kept (DISP_MOVE_E); R274, R293; reset 0 -/
  move : Option Move := none
  /-- DISP_STAT.KEPT; R277, R293; reset 0 -/
  kept : Bool := false
  /-- DISP_MOVE_Q, mWh; R274, R293; reset 0 -/
  q : Rat := 0
  /-- DISP_MOVE_E as last set, mWh, s64; R293; reset 0 -/
  moveE : Int := 0
  /-- DISP_OVERSHOOT, mWh; R276, R293; reset 0 -/
  overshoot : Rat := 0
  /-- overshoot being counted; R276; reset: none -/
  overNow : Option Rat := none
  /-- DISP_SHORTFALL_E, mWh; R275, R293; reset 0 -/
  shortfallE : Int := 0
  /-- DISP_AVAIL_DIS, DISP_AVAIL_CHG, W; R273, R293; reset 0 -/
  availDis : Rat := 0
  availChg : Rat := 0
  /-- the high register latched by a read of a low register, and its offset; R293; reset: none -/
  s64Latch : Option (Nat × W32) := none
  /-- strings, 32 entries -/
  strs : Tab StrDisp := []
  /-- STRING_SERVICE commands that wait; R288; reset: none -/
  jobs : List SvcJob := []
deriving DecidableEq, Repr, Inhabited

end Sys2Proof.Machine
end

