-- ==== Sys2Proof/Machine/StateEst.lean ====
section
/-! DEFINITION. The state of the cell estimators (spec file 05_cell_state_estimation.md). Every real quantity is a
rational, rounded to binary32 where it is stored. -/

namespace Sys2Proof.Machine

/-- The estimate of one cell (Tables 5.1, 5.8, 5.10, 5.11). Spec file 05_cell_state_estimation.md. -/
structure CellEst where
  /-- CHEM_ID, u16; R180; reset: DESIGN CHOICE 0 (log 3) -/
  chemId : Nat := 0
  /-- z, internal SoC; R177; reset: DESIGN CHOICE 0 (log 3) -/
  z : Rat := 0
  /-- v_fast and v_slow, V; R177; reset: DESIGN CHOICE 0 (log 3) -/
  vFast : Rat := 0
  vSlow : Rat := 0
  /-- h, hysteresis state; R177; reset: DESIGN CHOICE 0 (log 3) -/
  h : Rat := 0
  /-- R_OHM, R_FAST, R_SLOW, ohm at 25 C; R177; reset: DESIGN CHOICE 0 (log 3) -/
  rOhm : Rat := 0
  rFast : Rat := 0
  rSlow : Rat := 0
  /-- M, V; R177; reset: DESIGN CHOICE 0 (log 3) -/
  m : Rat := 0
  /-- cap, Ah; R177; reset: DESIGN CHOICE 0 (log 3) -/
  cap : Rat := 0
  /-- TAU_FAST, s at 25 C; R177; reset: DESIGN CHOICE 0 (log 3) -/
  tauFast : Rat := 0
  /-- b, bias bound; R181; reset: DESIGN CHOICE 0 (log 3) -/
  b : Rat := 0
  /-- P, upper triangle of 4 x 4 in the order of Table 5.8, 10 entries; R178; reset: DESIGN CHOICE empty (log 3) -/
  cov : List Rat := []
  /-- variances of R_OHM, R_FAST, R_SLOW, CAP, M, 5 entries; R178; reset: DESIGN CHOICE empty (log 3) -/
  pvar : List Rat := []
  /-- r, reported SoC; R204; reset: DESIGN CHOICE 0 (log 3) -/
  zr : Rat := 0
  /-- coulomb track ANCHOR_Z, ANCHOR_Q (Ah), ANCHOR_U; R196; reset: DESIGN CHOICE 0 (log 3) -/
  anchorZ : Rat := 0
  anchorQ : Rat := 0
  anchorU : Rat := 0
  /-- an applied anchor exists; R196; reset: DESIGN CHOICE 0 (log 3) -/
  anchored : Bool := false
  /-- ANCHOR_AGE in ms at module ms `anchorMs`; R207, R217; reset: DESIGN CHOICE 0 (log 3) -/
  anchorAge : Nat := 0
  anchorMs : Nat := 0
  /-- rejected anchors, a count; R195; reset: DESIGN CHOICE 0 (log 3) -/
  anchorRejected : Nat := 0
  /-- predicted voltage y of the last step, V; R181, R184; reset: none -/
  y : Option Rat := none
  /-- CFLAGS.INIT; R218; reset 0 -/
  init : Bool := false
  /-- CFLAGS.RESET_PENDING; R209, R218; reset 0 -/
  resetPending : Bool := false
  /-- CFLAGS.SUSPENDED; R218; reset 0 -/
  suspended : Bool := false
  /-- CFLAGS.GROUP; R218; reset 0 -/
  group : Bool := false
  /-- CFLAGS.GATED; R218; reset 0 -/
  gated : Bool := false
  /-- CFLAGS.CC_DISAGREE; R196, R218; reset 0 -/
  ccDisagree : Bool := false
  /-- CFLAGS.TEMP_SUBST; R186, R218; reset 0 -/
  tempSubst : Bool := false
  /-- CFLAGS.EIS_VALID; R218; reset 0 -/
  eisValid : Bool := false
  /-- CFLAGS.CAP_CONVERGED; R197, R218; reset 0 -/
  capConverged : Bool := false
  /-- CFLAGS.DEVIATION_HOLD; R218; reset 0 -/
  deviationHold : Bool := false
  /-- CFLAGS.RESTORED_HOST; R214, R218; reset 0 -/
  restoredHost : Bool := false
  /-- CFLAGS.ANOMALY; R185, R218; reset 0 -/
  anomaly : Bool := false
  /-- CFLAGS.IMP_HIGH; R203, R218; reset 0 -/
  impHigh : Bool := false
  /-- fresh readings gated in succession; R185; reset: DESIGN CHOICE 0 (log 3) -/
  gatedRun : Nat := 0
  /-- the next fresh reading is applied ungated; R185; reset: DESIGN CHOICE 0 (log 3) -/
  ungatedNext : Bool := false
  /-- time since a deviating reading while ANOMALY, ms at module ms `anomalyMs`; R185; reset: DESIGN CHOICE 0 (log 3) -/
  anomalyAge : Nat := 0
  anomalyMs : Nat := 0
  /-- grains for which the cell has been temperature-stale; R186; reset: DESIGN CHOICE 0 (log 3) -/
  tStaleGrains : Nat := 0
  /-- CLAMPS, u16; R178, R217; reset 0 -/
  clamps : Nat := 0
  /-- second of the rest, sum (100 uV) and count of its readings, newest first; R193; reset: DESIGN CHOICE empty (log 3) -/
  restV : List (Nat × Nat × Nat) := []
  /-- r takes z when the state is initialised: no state was restored at the start; R204; reset: DESIGN CHOICE 0 (log 3) -/
  rFromZ : Bool := false
  /-- sampling instant of the last step after its grain boundary, 0.5 ns; R181; reset: DESIGN CHOICE 0 (log 3) -/
  tsOff : Nat := 0
  /-- impedance sums per frequency of the interval: v cos, v sin, i cos, i sin, cos, sin, t cos, t sin; R202; reset: DESIGN CHOICE empty (log 3) -/
  eisSum : List Rat := []
  /-- sums of the interval for the least-squares lines and R194: n, t, t2, v, vt, i, it, h, and v_fast and v_slow at its start; R194, R202; reset: DESIGN CHOICE empty (log 3) -/
  eisLine : List Rat := []
  /-- every reading of the interval so far fresh and outside any sum group; R202; reset: DESIGN CHOICE 0 (log 3) -/
  eisClean : Bool := false
  /-- |Z| in nohm and phase in 0.01 degree per frequency of the last valid interval; R208, R217; reset 0 -/
  zMag : List Nat := []
  zPhase : List Int := []
  /-- EIS_GRAIN, u32; R217; reset 0 -/
  eisGrain : W32 := 0
  /-- intervals in succession above 1.5 and below 1.3 times the median; R203; reset: DESIGN CHOICE 0 (log 3) -/
  impRun : Nat := 0
  impLowRun : Nat := 0
  /-- TIME of the checkpoint from which the state came, or of the last reset: s and ns; R214; reset: DESIGN CHOICE 0 (log 3) -/
  timeSec : Nat := 0
  timeNs : Nat := 0
deriving DecidableEq, Repr, Inhabited

/-- A durable checkpoint: its image (R213), operating hours in ms, I_MAX in mA (R211). -/
structure Ckpt where
  image : List Byte := []
  opMs : Nat := 0
  iMax : Nat := 0
deriving DecidableEq, Repr, Inhabited

/-- The estimation state of one string. Spec file 05_cell_state_estimation.md. -/
structure StrEst where
  /-- EST_STAT.READY; R215, R219; reset 0 -/
  ready : Bool := false
  /-- EST_STAT.RESTORE_WAIT and the module ms at which it began; R215, R219; reset 0 -/
  restoreWait : Option Nat := none
  /-- milliseconds of the wait before that, on another module's clock; R216; reset: DESIGN CHOICE 0 (log 3) -/
  restoreAge : Nat := 0
  /-- EST_STAT.REST_REQ, and the grain of the request; R205, R219; reset 0 -/
  restReq : Bool := false
  restReqGrain : W32 := 0
  /-- module ms at which the request began to stand; R292 (07); reset: DESIGN CHOICE 0 (log 3) -/
  restReqMs : Nat := 0
  /-- milliseconds for which the request stood before `restReqMs`, on another module's clock; R216, R292 (07); reset: DESIGN CHOICE 0 (log 3) -/
  restReqAge : Nat := 0
  /-- EST_STAT.REST_DENIED; R205, R219; reset 0 -/
  restDenied : Bool := false
  /-- a refusal of the standing request is recorded, and it has had a grant; R205, R292 (07); reset: DESIGN CHOICE 0 (log 3) -/
  restRefused : Bool := false
  restGranted : Bool := false
  /-- EST_STAT.EIS_RUN; R219; reset 0 -/
  eisRun : Bool := false
  /-- injection ran throughout the present interval so far; R202; reset: DESIGN CHOICE 0 (log 3) -/
  eisWhole : Bool := false
  /-- EST_STAT.EIS_INHIBIT, 3 bits; R201, R219; reset 0 -/
  eisInhibit : Nat := 0
  /-- EST_STAT.CUR_SUBST; R187, R219; reset 0 -/
  curSubst : Bool := false
  /-- EST_STAT.CUR_LOST; R187, R219; reset 0 -/
  curLost : Bool := false
  /-- grain in which the present current loss began; R187; reset: none -/
  lostAt : Option W32 := none
  /-- on a compatibility ring, i_s (A) of the last 16 grains and its samples (ns, mA), newest first; R188; reset: none -/
  iHist : List (Rat × List (Nat × Int)) := []
  /-- i_s of the grains of the present impedance interval, A, newest first; R194; reset: none -/
  eisI : List Rat := []
  /-- grain of the last rest anchor, and of the last that was applied to a cell; R193, R291 (07); reset: none -/
  anchorGrain : Option W32 := none
  anchorApplied : Option W32 := none
  /-- at rest, and rest time in grains; R192; reset: DESIGN CHOICE 0 (log 3) -/
  restGrains : Nat := 0
  /-- rest anchors taken in this rest; R193; reset: DESIGN CHOICE 0 (log 3) -/
  restAnchors : Nat := 0
  /-- I_MAX since the last checkpoint, mA; R211; reset: DESIGN CHOICE 0 (log 3) -/
  iMax : Nat := 0
  /-- the grains of the last 60 s whose |i_s|, mA, no later one reaches, newest first; R187; reset: DESIGN CHOICE empty (log 3) -/
  iMax60 : List (W32 × Nat) := []
  /-- E_DIS and E_CHG, mWh; R206, R207; reset 0 -/
  eDis : Int := 0
  eChg : Int := 0
  /-- P_DIS_10S, 60S, 15M and P_CHG_10S, 60S, 15M, W; R206, R207; reset 0 -/
  pDis10 : Int := 0
  pDis60 : Int := 0
  pDis900 : Int := 0
  pChg10 : Int := 0
  pChg60 : Int := 0
  pChg900 : Int := 0
  /-- REST_TARGET_LO and HI, u16; R205, R207; reset 0 -/
  restLo : Nat := 0
  restHi : Nat := 0
  /-- EIS_LAST, u32; R207; reset 0 -/
  eisLast : W32 := 0
  /-- A_nj amplitudes of the present interval, A, 4 entries; R200; reset: none -/
  eisAmp : List Rat := []
  /-- the interval whose result is still to be released, by its first grain, with its amplitudes and whether injection ran throughout; R202; reset: none -/
  eisEnd : Option W32 := none
  eisEndAmp : List Rat := []
  eisEndWhole : Bool := false
  /-- the grain in which the estimator last ran; R181, R202; reset: none -/
  ranAt : Option W32 := none
  /-- the checkpoint buffer (R213), the I_MAX and the operating hours captured with it; R211; reset: none -/
  ckptBuf : List Byte := []
  ckptIMax : Nat := 0
  ckptOpMs : Nat := 0
  /-- durable checkpoints of the string, newest first (class P); R211, R541 (15); reset: DESIGN CHOICE none (log 3) -/
  ckpts : List Ckpt := []
deriving DecidableEq, Repr, Inhabited

/-- A running host restore (R214): records and origin. -/
structure RestoreJob where
  session : Nat := 0
  seq : W32 := 0
  image : List Byte := []
deriving DecidableEq, Repr, Inhabited

/-- Estimation. Spec file 05_cell_state_estimation.md. -/
structure EstSt where
  /-- cells by global cell index, 20,480 entries; R176-R204 -/
  cells : Tab CellEst := []
  /-- strings, 32 entries; R205-R219 -/
  strs : Tab StrEst := []
  /-- EIS_SCALE.SCALE, 9 bits; R200, R219; reset 0 -/
  scale : Nat := 0
  /-- EIS_SCALE.LIMITED; R219; reset 0 -/
  limited : Bool := false
  /-- grain at which the present impedance interval began; R202; reset: DESIGN CHOICE none (log 3) -/
  interval : Option W32 := none
  /-- host restore running; R214; reset: none -/
  restore : Option RestoreJob := none
deriving DecidableEq, Repr, Inhabited

end Sys2Proof.Machine
end

