-- ==== Sys2Proof/Machine/StateHost.lean ====
section
/-! DEFINITION. The state of the host command interface: sessions, notices, streams, mailboxes, watches,
parameters and the host exchange area (spec file 11_host_commands.md). -/

namespace Sys2Proof.Machine

/-- One TLV of a payload (R411): TYPE and value; LEN is the length of the value. -/
structure Tlv where
  type : Nat := 0
  value : List Byte := []
deriving DecidableEq, Repr, Inhabited

/-- The part of a packet the module answers with (R410, R421): header fields and payload. -/
structure Reply where
  opcode : Nat := 0
  status : Nat := 0
  seq : W32 := 0
  session : Nat := 0
  grain : Nat := 0
  tlvs : List Tlv := []
  /-- FLAGS bit 2: the cached reply of a duplicate request (R417). -/
  dup : Bool := false
deriving DecidableEq, Repr, Inhabited

/-- Where the reply of a request goes: to a host, on the network and to the address and port that the request came from (R408); to the partner
that forwarded it (R449); or into entry `item` of a command batch (R447). -/
inductive ReplyTo where
  | host (net addr port : Nat) | partner | batch (id item : Nat)
deriving DecidableEq, Repr, Inhabited

/-- A copy of a request whose reply is held (R409, R420): its SEQ, where the reply goes, and whether it is a later copy (R417). -/
structure Wait where
  seq : W32 := 0
  dest : ReplyTo := .partner
  dup : Bool := false
deriving DecidableEq, Repr, Inhabited

/-- A command batch whose replies are not yet complete (R447): its mailbox, the session it runs under, where its replies begin in the
exchange area, and the bytes of each reply so far. -/
structure BatchSt where
  id : Nat := 0
  slot : Nat := 0
  sid : Nat := 0
  off : Nat := 0
  items : List (Option (List Byte)) := []
deriving DecidableEq, Repr, Inhabited

/-- A notice in a session's queue (R421, R422). -/
structure Notice where
  seq : Nat := 0
  opcode : Nat := 0
  status : Nat := 0
  tlvs : List Tlv := []
  /-- Times sent so far. -/
  tries : Nat := 0
  /-- Module ms at which it was last sent. -/
  sentAt : Nat := 0
deriving DecidableEq, Repr, Inhabited

/-- An outstanding two-step confirmation (R536, R577): opcode, value and the module ms at which it lapses. -/
structure Confirm where
  opcode : Nat := 0
  value : Nat := 0
  expires : Nat := 0
deriving DecidableEq, Repr, Inhabited

/-- One open session (R414, R417, R422). -/
structure Session where
  /-- mailbox slot 0-15 (R451) -/
  slot : Nat := 0
  sid : Nat := 0
  cred : Nat := 0
  role : Nat := 0
  prio : Nat := 0
  key : List Byte := []
  /-- H of R417. -/
  high : W32 := 0
  /-- bit k: SEQ H - k has been accepted (R417). -/
  seen : BitVec 64 := 0
  /-- the 64 most recent replies, newest first (R417). -/
  cache : List Reply := []
  /-- module ms of the last accepted request (R415). -/
  lastReq : Nat := 0
  /-- module ms of the last request accepted on networks A and B (R408). -/
  lastNetA : Option Nat := none
  lastNetB : Option Nat := none
  net : Nat := 0
  addr : Nat := 0
  port : Nat := 0
  /-- the last notice number given; the next is one more, from 1 (R421). -/
  noticeCtr : Nat := 0
  notices : List Notice := []
  noticeLost : Nat := 0
  /-- module ms of the requests accepted within the last second (R420). -/
  recent : List Nat := []
  confirms : List Confirm := []
  /-- copies of requests whose reply is held; R409, R420; reset: none -/
  waits : List Wait := []
  /-- a recorder query of this session is running (R534): the opcode's SEQ. -/
  query : Option W32 := none
  /-- the credential changed since the session opened (R415). -/
  authLost : Bool := false
deriving DecidableEq, Repr, Inhabited

/-- One open stream (R431). -/
structure Stream where
  id : Nat := 0
  sid : Nat := 0
  period : Nat := 1
  port : Nat := 0
  addr : Nat := 0
  nets : BitVec 2 := 0
  ranges : List (Nat × Nat) := []
  /-- packets sent so far (R432). -/
  sent : Nat := 0
deriving DecidableEq, Repr, Inhabited

/-- A mailbox pair (R445, R451, Table 11.12). -/
structure Mailbox where
  inPtr : W32 := 0
  inLen : W32 := 0
  inType : W16 := 0
  inDomain : Byte := 0
  outPtr : W32 := 0
  outLen : W32 := 0
  outType : W16 := 0
  outDomain : Byte := 0
  inFull : Bool := false
  outFull : Bool := false
  inColl : Bool := false
  outColl : Bool := false
  cross : Bool := false
  /-- module ms at which IN_FULL and OUT_FULL were set. -/
  inSince : Nat := 0
  outSince : Nat := 0
  /-- the posting session of a message in the graft mailbox; R445 (11); reset: none -/
  inSid : Nat := 0
deriving DecidableEq, Repr, Inhabited

/-- The state of one watch (R440). -/
structure WatchSt where
  fired : Bool := false
  held : Nat := 0
  last : Option Int := none
deriving DecidableEq, Repr, Inhabited

/-- Host interface. Spec file 11_host_commands.md unless a field says otherwise. -/
structure HostSt where
  /-- module ms since the start, the model's supervisor clock for every timer in ms or s; reset: DESIGN CHOICE 0 (log 5) -/
  ms : Nat := 0
  /-- open sessions with keys, SEQ windows, reply caches and notice queues, up to 16; R414, R417, R422; reset: none (R453) -/
  sessions : List Session := []
  /-- open streams, up to 32; R431; reset: none (R453) -/
  streams : List Stream := []
  /-- the next STREAM_ID, 16 bits; R431; reset: DESIGN CHOICE 1 (log 3) -/
  nextStream : Nat := 1
  /-- HOST_STAT.STREAM_SKIP, 16 bits; R450; reset 0 -/
  streamSkip : Nat := 0
  /-- HOST_CNT0.BAD_FORM, 16 bits; R450; reset 0 -/
  badForm : Nat := 0
  /-- HOST_CNT0.BAD_TAG, 16 bits; R450; reset 0 -/
  badTag : Nat := 0
  /-- HOST_CNT1.BAD_SEQ, 16 bits; R450; reset 0 -/
  badSeq : Nat := 0
  /-- HOST_CNT1.WATCH_SKIP, 16 bits; R450; reset 0 -/
  watchSkip : Nat := 0
  /-- tag failures of the last 10 s: source address and module ms; R413; reset: DESIGN CHOICE none (log 3) -/
  tagFails : List (Nat × Nat) := []
  /-- blocked source addresses and the module ms until which they are ignored; R413; reset 0 (BLOCKING, R450) -/
  blocked : List (Nat × Nat) := []
  /-- mailbox blocks 0-15 of session slots and 16, the graft mailbox, 8 registers each; R451; reset 0 -/
  mbx : Tab Mailbox := []
  /-- command batches that wait for held replies; R420, R447; reset: DESIGN CHOICE none (log 3) -/
  batches : List BatchSt := []
  /-- watch states and WATCH_HIT0-7, 256 entries; R440, R450; reset 0 -/
  watches : Tab WatchSt := []
  /-- grain of the last directory copy the watches evaluated; R440; reset: DESIGN CHOICE none (log 3) -/
  watchCopy : Option W32 := none
  /-- parameters as accepted, 9,216 entries, an unlisted one at its default; R435, R437; reset: the shipped defaults -/
  params : Tab (Option Int) := []
  /-- parameters as snapshotted at the last tick 0 (parameter snapshot page); R19 (01), R52 (02); reset: the shipped defaults -/
  snap : Tab (Option Int) := []
  /-- a class P write not yet in the configuration partition, 1 bit; R435; reset: DESIGN CHOICE 0 (log 3) -/
  cfgPending : Bool := false
  /-- host exchange area, 16 MiB of DRAM, unlisted bytes read 0; R442; reset: DESIGN CHOICE 0 (log 4) -/
  xa : Tab Byte := []
deriving DecidableEq, Repr, Inhabited

end Sys2Proof.Machine
end

