-- ==== Sys2Proof/Machine/StateProt.lean ====
section
/-! DEFINITION. The state of protection, contactors and thermal management (spec file
08_protection_and_thermal.md). -/

namespace Sys2Proof.Machine

/-- The bands of R302 (PROT_STAT.BAND). -/
inductive Band where
  | restore | hold | derate
deriving DecidableEq, Repr, Inhabited

/-- Contactor states of a group (PROT_STAT.CONT_STATE; CLOSED_SHARED and NONE are read from the rest). -/
inductive ContState where
  | opened | closing | closed | opening | welded
deriving DecidableEq, Repr, Inhabited

/-- One thermistor (R299): the module keeps one per cell position. -/
structure Therm where
  /-- bad; R299; reset: DESIGN CHOICE good (log 3) -/
  bad : Bool := false
  /-- the previous accepted reading, s16; R299; reset: none -/
  prev : Option Int := none
deriving DecidableEq, Repr, Inhabited

/-- Protection of one string. Spec file 08_protection_and_thermal.md. -/
structure StrProt where
  /-- PROT_CAUSE, 18 bits; R313, R320; reset 0 -/
  cause : BitVec 18 := 0
  /-- LAST_CAUSE, LAST_GRAIN points; R322; reset 0 -/
  lastCause : Nat := 0
  lastGrain : W32 := 0
  /-- a cause that the protection slot has latched waits for the next tick, in which the string's trip is requested; R298; reset: DESIGN CHOICE 0 (log 3) -/
  tripDue : Bool := false
  /-- no decision: the protection slot of a newly started bed has not retired yet; R54 (02); reset: DESIGN CHOICE 0 (log 3) -/
  undecided : Bool := false
  /-- PROT_STAT.DERATE_STEP, 0-8; R302, R320; reset 0 -/
  step : Nat := 0
  /-- PROT_STAT.BAND; R302, R320; reset 0b00 -/
  band : Band := .restore
  /-- grains in the band since its entry or the last step; R302; reset: DESIGN CHOICE 0 (log 3) -/
  bandGrains : Nat := 0
  /-- PROT_STAT.CHG_INHIBIT; R303, R320; reset 0 -/
  chgInhibit : Bool := false
  /-- PROT_STAT.DIS_INHIBIT; R315, R320; reset 0 -/
  disInhibit : Bool := false
  /-- SENSOR_BAD_AGE, grains; R301, R322; reset 0 -/
  sensorBadAge : Nat := 0
  /-- the string-open request of R301 has been issued for this age; R301; reset: DESIGN CHOICE 0 (log 3) -/
  sensorHoldDone : Bool := false
  /-- TRIPS point, u32; R322; reset 0 -/
  trips : Nat := 0
  /-- the string has been closed with its group and not opened for service since; R309, R310; reset 0 -/
  joined : Bool := false
deriving DecidableEq, Repr, Inhabited

/-- One contactor group, SQg. Spec file 08_protection_and_thermal.md. -/
structure Group where
  /-- CONT_STATE of the group; R320; reset 0 OPEN -/
  st : ContState := .opened
  /-- CONT_STAT.FB_CLOSED; R321; reset 0 -/
  fbClosed : Bool := false
  /-- CONT_STAT.FAULT; R311, R321; reset 0 -/
  fault : Bool := false
  /-- grain of the last open request or switching off; R312; reset: none -/
  openGrain : Option W32 := none
  /-- safety ms of the open request waiting for PROT_CONT_DELAY; R308; reset: none -/
  openAt : Option Nat := none
  /-- safety ms of the last switching, whose feedback is to be judged; R310, R311; reset: none -/
  switchedAt : Option Nat := none
  /-- the switching under judgement was a closing; reset: DESIGN CHOICE 0 (log 3) -/
  closingJudge : Bool := false
deriving DecidableEq, Repr, Inhabited

/-- One HVAC zone (R318, R319). -/
structure Zone where
  /-- the zone is in cool or heat, with hysteresis; R319; reset: DESIGN CHOICE 0 (log 3) -/
  cool : Bool := false
  heat : Bool := false
  /-- SEQ, 8 bits; R318; reset: DESIGN CHOICE 0 (log 3) -/
  seq : Nat := 0
  /-- ms of the last request; R318; reset: none -/
  sentMs : Option Nat := none
deriving DecidableEq, Repr, Inhabited

/-- Protection and thermal management. Spec file 08_protection_and_thermal.md. -/
structure ProtSt where
  /-- strings, 32 entries -/
  strs : Tab StrProt := []
  /-- thermistors by global cell index; R299 -/
  therms : Tab Therm := []
  /-- contactor groups, 8 entries; R307 -/
  groups : Tab Group := []
  /-- HVAC zones, 8 entries; R318 -/
  zones : Tab Zone := []
  /-- MOD_THERM.T_MOD, s16; R317, R321; reset 0 -/
  tMod : Int := 0
  /-- MOD_THERM.WARN; R317, R321; reset 0 -/
  warn : Bool := false
  /-- MOD_THERM.HIGH; R317, R321; reset 0 -/
  high : Bool := false
  /-- MOD_THERM.TRIP; R317, R321; reset 0 -/
  trip : Bool := false
  /-- thresholds written to the window comparators, OC_DIS and OC_CHG per string, and the codes last read back from its DACs, upper and lower;
  R304, R508; reset: none -/
  ocWritten : Tab (Option (Nat × Nat)) := []
  ocReadback : Tab (Option (Int × Int)) := []
deriving DecidableEq, Repr, Inhabited

end Sys2Proof.Machine
end

