-- ==== Sys2Proof/Machine/StateSafety.lean ====
section
/-! DEFINITION. The state of the safety processor: inputs, functions, outputs, fallow mode, safe stops and Cloche
(spec file 09_safety_functions.md). -/

namespace Sys2Proof.Machine

/-- Function states of Tables 9.2 and 9.3: first RUN or CLOSED, then DEMAND or OPEN, then WAIT_RESET. -/
inductive FnState where
  | run | demand | waitReset
deriving DecidableEq, Repr, Inhabited

/-- Two-hand enable states (Table 9.4). -/
inductive TwoHand where
  | ready | arming | active | blocked
deriving DecidableEq, Repr, Inhabited

/-- Cloche connection states (Table 9.13). -/
inductive ClocheState where
  | off | opening | run | failed
deriving DecidableEq, Repr, Inhabited

/-- One safe input SIi or optical input OIk. Spec file 09_safety_functions.md. -/
structure SafeIn where
  /-- accepted level of channel A (signal 1): closed, or high; R329; reset: DESIGN CHOICE open (log 3) -/
  a : Bool := false
  /-- accepted level of channel B (signal 2); R329; reset: DESIGN CHOICE open (log 3) -/
  b : Bool := false
  /-- FSTATE; R334, R335, R338, R365; reset 0, taken anew at the start (Tables 9.2 to 9.4) -/
  fstate : FnState := .run
  /-- DISC_FAULT; R330, R365; reset 0 -/
  discFault : Bool := false
  /-- CROSS_FAULT per channel, bit 0 A, bit 1 B; R332, R365; reset 0 -/
  crossFault : BitVec 2 := 0
  /-- CLR_SEQ, 2 bits; R331, R365; reset 0 -/
  clrSeq : Nat := 0
  /-- DISC_MS, present disagreement in ms, none while there is none; R330, R365; reset 0 -/
  discMs : Option Nat := none
  /-- SI_DISC_CNT.SHORT, 16 bits; R330, R365; reset 0 -/
  short : Nat := 0
  /-- SI_DISC_CNT.LONGEST, 16 bits; R365; reset 0 -/
  longest : Nat := 0
  /-- successive gaps missing the channel's own pattern, A and B; R332; reset: DESIGN CHOICE 0 (log 3) -/
  gapMissA : Nat := 0
  gapMissB : Nat := 0
  /-- safety ms at which the RESET press began; R339; reset: none -/
  pressAt : Option Nat := none
  /-- grain of last demand, grain of last fault, demands since module restart; R368; reset 0 -/
  demandGrain : W32 := 0
  faultGrain : W32 := 0
  demands : Nat := 0
deriving DecidableEq, Repr, Inhabited

/-- One safe output SQg. Spec file 09_safety_functions.md. -/
structure SafeOut where
  /-- SQ_STAT.REQ_ON: fabric requests on; R342, R366; reset 0 -/
  reqOn : Bool := false
  /-- SQ_STAT.ON; R342, R366; reset 0 -/
  on : Bool := false
  /-- the low side is closed and the high side follows 1 ms later: safety ms; R342; reset: none -/
  lowAt : Option Nat := none
  /-- SQ_STAT.HS_FAULT; R345, R366; reset 0 -/
  hsFault : Bool := false
  /-- SQ_STAT.LS_FAULT; R345, R366; reset 0 -/
  lsFault : Bool := false
  /-- SQ_STAT.STUCK; R345, R366; reset 0 -/
  stuck : Bool := false
  /-- SQ_STAT.OVERLOAD; R345, R366; reset 0 -/
  overload : Bool := false
  /-- SQ_STAT.OPEN_LOAD; R344, R366; reset 0 -/
  openLoad : Bool := false
  /-- ms with the output on and its current below 20 mA, and with it off and its terminal above 5.0 V; R344; reset: DESIGN CHOICE 0 (log 3) -/
  lowMs : Nat := 0
  termMs : Nat := 0
  /-- pulse tests failed in succession, high and low side; R345; reset: DESIGN CHOICE 0 (log 3) -/
  hsFails : Nat := 0
  lsFails : Nat := 0
  /-- the switch being pulsed: none, high (true) or low; R343; reset: none -/
  pulsing : Option Bool := none
  /-- the low side is the next to be pulsed, and safety ms at which it or the high side is due; R343; reset: DESIGN CHOICE 0 (log 3) -/
  nextLow : Bool := false
  pulseAt : Nat := 0
  /-- safety ms of the last switching; R343; reset: none -/
  switchMs : Option Nat := none
  /-- the condition of the last pulse or readback fault has gone; R345; reset: DESIGN CHOICE 0 (log 3) -/
  hsGood : Bool := true
  lsGood : Bool := true
  loadGood : Bool := true
  /-- the output was closed under a maintenance closing; R336; reset: DESIGN CHOICE 0 (log 3) -/
  maint : Bool := false
  /-- V_FIELD mV and current mA as last measured; R344, R368; reset 0 -/
  vField : Nat := 0
  current : Nat := 0
  /-- tests passed, tests failed, grain of last fault, switchings on; R368; reset 0 -/
  passed : Nat := 0
  failed : Nat := 0
  faultGrain : W32 := 0
  switchings : Nat := 0
deriving DecidableEq, Repr, Inhabited

/-- What the output stage reads back in a safety cycle at output `sq` (R343, R344): field supply, high-side node and terminal in mV, and the
load current in mA as its mean over 10 ms and as its highest value over 50 us. -/
structure SqMeas where
  sq : Nat := 0
  vField : Nat := 24000
  hsNode : Nat := 0
  term : Nat := 0
  current : Nat := 0
  peak : Nat := 0
deriving DecidableEq, Repr, Inhabited

/-- What an off-pulse reads back (R343): the pulsed node at the end of the pulse and 200 us after it, mV. -/
structure PulseMeas where
  low : Nat := 0
  back : Nat := 0
deriving DecidableEq, Repr, Inhabited

/-- Where a Cloche frame came from: network 0 A or 1 B, and the source address of its datagram; the graft link has neither (R353, R468). -/
structure NetSrc where
  net : Nat := 0
  addr : Nat := 0
deriving DecidableEq, Repr, Inhabited

/-- One Cloche connection. Spec file 09_safety_functions.md. -/
structure Cloche where
  /-- CLOCHE_STAT.STATE; R356, R367; reset 0 -/
  st : ClocheState := .off
  /-- last SEQ sent; R354; reset: none sent -/
  txSeq : Nat := 0
  /-- last SEQ accepted, 0 none; R353, R355; reset 0 -/
  rxSeq : Nat := 0
  /-- safety ms of the last accepted frame, and per network; R356, R367; reset: DESIGN CHOICE 0, none (log 3) -/
  lastMs : Nat := 0
  netA : Option Nat := none
  netB : Option Nat := none
  /-- network of the last accepted frame, 0 A, 1 B; R355; reset: DESIGN CHOICE 0 (log 3) -/
  lastNet : Nat := 0
  /-- successive frames accepted in OPENING; R356; reset: DESIGN CHOICE 0 (log 3) -/
  recover : Nat := 0
  /-- the next frame is accepted at any SEQ: the first in OPENING or in FAILED; R355; reset: DESIGN CHOICE 0 (log 3) -/
  anySeq : Bool := false
  /-- the connection has failed since the last start; R356; reset: DESIGN CHOICE 0 (log 3) -/
  hasFailed : Bool := false
  /-- DATA of the last accepted frame, 28 bytes; R357; reset: DESIGN CHOICE none (log 3) -/
  data : List Byte := []
  /-- ECHO_LATE, WDOG_EXP; R367; reset 0 -/
  echoLate : Bool := false
  wdogExp : Bool := false
  /-- DISCARDS, 16 bits; R367; reset 0 -/
  discards : Nat := 0
  /-- largest echo lag, watchdog expiries; R368; reset 0 -/
  echoMax : Nat := 0
  wdogs : Nat := 0
  /-- safety ms of the last frame sent; R354; reset: DESIGN CHOICE 0 (log 3) -/
  sentMs : Nat := 0
deriving DecidableEq, Repr, Inhabited

/-- The causes of fallow mode (Table 9.8). -/
inductive FallowCause where
  | siFault (i : Nat) | oiFault (k : Nat) | tpFault | sqFault (g : Nat) | tonePath (n : Nat) | graftCloche
  | supervisor | overrunStr (n : Nat) | overrunMod | modHigh
deriving DecidableEq, Repr, Inhabited

/-- The kinds of safe stop (Table 9.9). -/
inductive StopKind where
  | fabric | cores | critical | stuck (g : Nat) | fallow | overrun
deriving DecidableEq, Repr, Inhabited

/-- A safe stop in force (R352): its kind and the strings it holds. -/
structure SafeStop where
  kind : StopKind := .fabric
  scope : W32 := 0
  mod : Bool := false
deriving DecidableEq, Repr, Inhabited

/-- A fallow scope with its timer (R350): a string or the module, and safety ms at start and end. -/
structure FallowScope where
  mod : Bool := false
  string : Nat := 0
  causes : List FallowCause := []
  started : Nat := 0
  expires : Nat := 0
deriving DecidableEq, Repr, Inhabited

/-- Safety processor. Spec file 09_safety_functions.md. -/
structure SafetySt where
  /-- safety ms, the safety processor's own clock; R325; reset: DESIGN CHOICE 0 (log 5) -/
  ms : Nat := 0
  /-- SAFE_STAT.CORES_AGREE; R364; reset 0 -/
  coresAgree : Bool := false
  /-- SAFE_STAT.SELFTEST_OK; R364; reset 0 -/
  selftestOk : Bool := false
  /-- SAFE_STAT.CFG_VALID; R364; reset 0 -/
  cfgValid : Bool := false
  /-- SAFE_CFG_CRC of the configuration in force, class P; R364; reset: CRC of the shipped configuration, taken at the start -/
  cfgCrc : W32 := 0
  /-- safety configuration in force, group 8, an unlisted value at its default; R326; reset: the shipped configuration -/
  cfg : Tab (Option Int) := []
  /-- a committed configuration that the next safety cycle puts in force; R326; reset: none -/
  commitCfg : Option (Tab (Option Int)) := none
  /-- staged safety configuration with its two copies and the ms of the stage; R326; reset: none -/
  staged : Option (Tab (Option Int)) := none
  stagedMs : Nat := 0
  stagedAgree : Bool := true
  /-- the inputs have been sampled since the last start: CH_A, CH_B, DEMAND, OSSD1 and OSSD2 read 0 before; R365, R366; reset 0 -/
  sampled : Bool := false
  /-- safe inputs SI0-SI15 -/
  si : Tab SafeIn := []
  /-- optical inputs OI0-OI3 -/
  oi : Tab SafeIn := []
  /-- safe outputs SQ0-SQ7 -/
  sq : Tab SafeOut := []
  /-- SAFE_STAT.TP_FAULT per source TP0, TP1, 2 bits; R332, R364; reset 0 -/
  tpFault : BitVec 2 := 0
  /-- the source reads back correctly, 2 bits; R349; reset: DESIGN CHOICE 0b11 (log 3) -/
  tpGood : BitVec 2 := 3
  /-- SAFE_STAT.TWO_HAND; R337, R364; reset 0, BLOCKED from the start (Table 9.4) -/
  twoHand : TwoHand := .ready
  /-- safety ms at which ARMING began, and the button pressed first is L; R337; reset: DESIGN CHOICE 0 (log 3) -/
  armAt : Nat := 0
  firstL : Bool := false
  /-- SAFE_STAT.BP_TRIP_OUT; R341, R364; reset 0 -/
  bpOut : Bool := false
  /-- SAFE_STAT.BP_TRIP_IN; R341, R364; reset 0 -/
  bpIn : Bool := false
  /-- the partner's BP_TRIP_N holds every string until a reset; R341; reset 0 -/
  bpHold : Bool := false
  /-- function of the plant's RUN_OK; R358; reset: DESIGN CHOICE run (log 3) -/
  runOk : FnState := .run
  /-- function of the plant's STRING_OK bits: strings in DEMAND and in WAIT_RESET; R358; reset 0 -/
  strDemand : W32 := 0
  strWait : W32 := 0
  /-- strings the partner demands through the graft connection; R359; reset 0 -/
  graftDemand : W32 := 0
  /-- STRING_SAFE of the partner's last frame; R359; reset: DESIGN CHOICE 0 (log 3) -/
  graftSafe : W32 := 0
  /-- strings held by the partner's STRING_SAFE; R359; reset: DESIGN CHOICE 0 (log 3) -/
  graftHeld : W32 := 0
  /-- the last RESET_REQ level of the plant; R339; reset: DESIGN CHOICE 0 (log 3) -/
  resetReq : Bool := false
  /-- safe stops in force; R352; reset: none -/
  stops : List SafeStop := []
  /-- fallow scopes with timers; R349, R350, FALLOW_STAT, FALLOW_STR; reset 0 -/
  fallow : List FallowScope := []
  /-- FALLOW_EXP, and FALLOW_STAT.EXPIRED; R367; reset 0 -/
  fallowExp : W32 := 0
  fallowExpMod : Bool := false
  /-- Cloche connections: plant (c = 0) and graft (c = 1) -/
  plant : Cloche := {}
  graft : Cloche := {}
  /-- BP_TRIP_N assertions, resets accepted; R368; reset 0 -/
  bpCount : Nat := 0
  resets : Nat := 0
  /-- FIELD_LOW per field supply, 2 bits; R622 (18); reset: DESIGN CHOICE 0 (log 3) -/
  fieldLow : BitVec 2 := 0
  /-- GRAIN_CNT at the last gap of TP0 and TP1; R620 (18); reset: DESIGN CHOICE none (log 3) -/
  gapTp0 : Option W32 := none
  gapTp1 : Option W32 := none
deriving DecidableEq, Repr, Inhabited

end Sys2Proof.Machine
end

