-- ==== Sys2Proof/Machine/StateTime.lean ====
section
/-! DEFINITION. The state of the clocks of corrected time, PTP and the grain base (spec file
12_time_and_synchronisation.md). -/

namespace Sys2Proof.Machine

/-- TIME_STAT.SERVO (R460, Table 12.2), in the order of its codes. -/
inductive Servo where
  | free | acquiring | locked | holdover
deriving DecidableEq, Repr, Inhabited

/-- The best Announce of one port (R464), with the ms at which it was received. -/
structure Announce where
  prio1 : Nat := 128
  clockClass : Nat := 248
  accuracy : Nat := 0xFE
  variance : Nat := 0xFFFF
  prio2 : Nat := 128
  gmId : Nat := 0
  stepsRemoved : Nat := 0
  source : Nat := 0
  utcOffset : Nat := 0
  /-- PTP timescale and currentUtcOffsetValid. -/
  ptpScale : Bool := true
  ms : Nat := 0
deriving DecidableEq, Repr, Inhabited

/-- A two-step Sync waiting for its Follow_Up (R459, Table 12.1): port, sequence, receive time and correction. -/
structure PendSync where
  port : Nat := 0
  seq : Nat := 0
  t2 : Int := 0
  corr : Int := 0
deriving DecidableEq, Repr, Inhabited

/-- A Delay_Req waiting for its response: sequence, send time t3, and t1, t2 of the Sync used (R459). -/
structure PendDelay where
  seq : Nat := 0
  t3 : Int := 0
deriving DecidableEq, Repr, Inhabited

/-- One PTP port: A or B. -/
structure PtpPort where
  /-- best Announce received and not timed out; R464; reset: none -/
  best : Option Announce := none
  /-- Delay_Req outstanding and its sequence number, 16 bits; R454, R459; reset: none -/
  delayReq : Option PendDelay := none
  delaySeq : Nat := 0
  /-- module ms of the last Delay_Req; R454; reset: none -/
  reqMs : Option Nat := none
deriving DecidableEq, Repr, Inhabited

/-- Corrected time. Spec file 12_time_and_synchronisation.md. -/
structure TimeSt where
  /-- NS_CNT, nanoseconds count of corrected time, 32 bits; R456, R467; reset 0 -/
  nsCnt : W32 := 0
  /-- WRAP_CNT, wraps of NS_CNT, 8 bits; R456, R467; reset 0 -/
  wrapCnt : Nat := 0
  /-- fraction accumulator, 24 bits; R456; reset: DESIGN CHOICE 0 (log 3) -/
  frac : Nat := 0
  /-- how far NS_CNT stands beyond the nominal start of the present tick, 2^-24 ns; R457; reset: DESIGN CHOICE 0 (log 3) -/
  excess : Nat := 0
  /-- TIME_INCR.INCR, 32 bits; R456, R467; reset 0x0800_0000 -/
  incr : Nat := 0x08000000
  /-- TIME_STAT.SERVO, 3 bits; R460, R467; reset 0b00 FREE -/
  servo : Servo := .free
  /-- TIME_STAT.TIME_VALID, 1 bit; R461, R467; reset 0 -/
  timeValid : Bool := false
  /-- TIME_STAT.PORT and the selected parent: port, grandmaster and source identity; R464, R467; reset 0 -/
  parent : Option (Nat × Nat × Nat) := none
  /-- TIME_STAT.JUMP_REFUSED, 1 bit; R460, R467; reset 0 -/
  jumpRefused : Bool := false
  /-- TIME_STAT.STEP_DONE, 1 bit; R462, R467; reset 0 -/
  stepDone : Bool := false
  /-- TIME_STAT.INCR_CLAMP, 1 bit; R456, R467; reset 0 -/
  incrClamp : Bool := false
  /-- TIME_STAT.FORCE_ARMED, 1 bit, and the module ms at which it lapses; R463, R467; reset 0 -/
  forceArmed : Option Nat := none
  /-- TIME_FORCE_STEP has been written and waits for the snapshot of R19; R463, R468; reset: DESIGN CHOICE 0 (log 3) -/
  forcePend : Bool := false
  /-- TIME_HOLD.HOLD_S, as the module ms at which holdover began; R461, R467; reset 0 -/
  holdSince : Option Nat := none
  /-- TIME_OFFSET.OFFSET, ns, s32: the filtered offset; R459, R467; reset 0 -/
  offset : Int := 0
  /-- module ms of the last offset taken; R461; reset: DESIGN CHOICE 0 (log 3) -/
  offsetMs : Nat := 0
  /-- TIME_DELAY.DELAY, ns: the mean path delay, and the last PTP_DELAY_FILT delays, newest first; R459, R467; reset 0 -/
  delay : Int := 0
  delays : List Int := []
  /-- epoch, s64 ns, a multiple of 1,000,000; R458; reset: DESIGN CHOICE 0, no time yet (log 3) -/
  epoch : Int := 0
  /-- an epoch waiting for the next grain boundary; R462; reset: none -/
  epochNext : Option Int := none
  /-- grain extension EXT, and the latest 40-bit corrected count seen by the supervisor; R457; reset: DESIGN CHOICE 0 (log 3) -/
  ext : Nat := 0
  last40 : Nat := 0
  /-- servo outputs of the last 64 Syncs, newest first; R460; reset: none -/
  outputs : List Rat := []
  /-- integral term of the servo, ppb; R460; reset: DESIGN CHOICE 0 (log 3) -/
  integral : Rat := 0
  /-- successive offsets inside PTP_LOCK_THRESH, and above TIME_ALIGN_TOL; R460; reset: DESIGN CHOICE 0 (log 3) -/
  lockRun : Nat := 0
  unlockRun : Nat := 0
  /-- successive outliers ignored; R459; reset: DESIGN CHOICE 0 (log 3) -/
  outliers : Nat := 0
  /-- the last Sync of the parent: send time t1 and receive time t2; R459; reset: none -/
  lastPair : Option (Int × Int) := none
  /-- two-step Sync waiting; R454, R459; reset: none -/
  pendSync : Option PendSync := none
  /-- module ms of the last Sync of the parent; R460; reset: DESIGN CHOICE 0 (log 3) -/
  lastSync : Nat := 0
  /-- ports A and B -/
  portA : PtpPort := {}
  portB : PtpPort := {}
  /-- currentUtcOffset of the parent, s; R455; reset: DESIGN CHOICE 0 (log 3) -/
  utcOffset : Nat := 0
  /-- latched TIME_WRAP of a TIME_NS read; R467; reset: DESIGN CHOICE none (log 3) -/
  wrapLatch : Option Nat := none
  /-- latched TIME_SEC_HI of a TIME_SEC_LO read; R467; reset: DESIGN CHOICE none (log 3) -/
  secLatch : Option Nat := none
  /-- module ms of the last hourly save of INCR; R469; reset: DESIGN CHOICE 0 (log 3) -/
  lastSave : Nat := 0
deriving DecidableEq, Repr, Inhabited

end Sys2Proof.Machine
end

