-- ==== Sys2Proof/Machine/StatePair.lean ====
section
/-! DEFINITION. The state of redundant pairs and live insertion (spec file 10_pairs_and_live_insertion.md). -/

namespace Sys2Proof.Machine

/-- PAIR_STAT.SYNC (R402). -/
inductive SyncState where
  | none | images | verifying | synced
deriving DecidableEq, Repr, Inhabited

/-- The steps of joining a running pair (R395), in order. -/
inductive JoinStep where
  | lanes | plan | train | enumerate | calibrate | cloche | resync | done
deriving DecidableEq, Repr, Inhabited

/-- A command accepted by the active module, as the HOST section carries it (Table 10.3): its effective grain, 0 for none, and its reply where
it was not held, from which the standby rebuilds its cache (R449). -/
structure RepCmd where
  opcode : Nat := 0
  session : Nat := 0
  seq : W32 := 0
  prio : Nat := 0
  tlvs : List Tlv := []
  grain : Nat := 0
  reply : Option Reply := none
deriving DecidableEq, Repr, Inhabited

/-- The states of a ring that the CHAIN section carries (Table 10.3): CONT, and the lock and tone of each end. -/
structure RingSeen where
  cont : Bool := false
  lock : BitVec 2 := 0
  tone : BitVec 2 := 0
deriving DecidableEq, Repr, Inhabited

/-- The image of a bed (R383): its class W state, the clocks in it counted to `ms`. What another bed reads of it stands in it, so it is its exchange
block too (R56, log 47). -/
structure BedImage where
  ms : Nat := 0
  disp : DispSt := {}
  est : EstSt := {}
  chain : ChainSt := {}
  conv : ConvSt := {}
  prot : ProtSt := {}
deriving DecidableEq, Repr, Inhabited

/-- The words that the slots of bed `b` commit to its outputs and its replicated range, in slot order, where these hold this state (R380). The
plan's STATE_LAYOUT gives their places, in a binary structure that the spec does not describe, so the list is left free (log 27). -/
opaque Config.bedWords (b : Nat) (img : BedImage) : List W32

/-- A replay record (R379, Tables 10.2 and 10.3) but for its images. -/
structure ReplayRec where
  grain : W32 := 0
  /-- microseconds of the present tick after which its trailer is whole. -/
  sub : Nat := 0
  /-- header, sections and trailer are whole with good CRCs (R379, R382). -/
  good : Bool := true
  /-- PLAN_ID of the running full plan. -/
  planId : W32 := 0
  /-- YIELD with HANDOVER, and DRILL. -/
  handover : Option W32 := none
  drill : Bool := false
  /-- RESYNC_BED, none for 0xFF. -/
  resyncBed : Option Nat := none
  /-- CHAIN: (tick, ring, frame), (tick, ring, far end of a closing window), and each ring's CONT, lock and tone states. -/
  chain : List (Nat × Nat × ChainResp) := []
  closes : List (Nat × Nat × Option Nat) := []
  rings : List (Nat × RingSeen) := []
  /-- KLINK: (tick, link, accepted frame); a link and tick not listed has no frame. -/
  klink : List (Nat × Nat × UpFrame) := []
  /-- ADC: string currents with their converters' states, AI and PI values; (tick, string, discharge, charge, peak in mA) of the latched comparator
  events that the plan read, and the DAC codes that it read back other than written. -/
  convs : Tab AdcConv := []
  oc : List (Nat × Nat × Bool × Bool × Int) := []
  readback : List (Nat × Int × Int) := []
  strAdc : Tab StrAdc := []
  ais : Tab AiCh := []
  pis : Tab PiCh := []
  /-- SAFE_IN: the safety states the plan reads. -/
  safe : SafetySt := {}
  /-- HOST: commands accepted, parameter writes, writes of transmit-object data as (port, object, data) (R472), the grain of a plan activation. -/
  cmds : List RepCmd := []
  params : List (Nat × Int) := []
  tx : List (Nat × Nat × List Byte) := []
  activate : Option W32 := none
  /-- LEASE: owner, priority, EXP; epoch, servo, TIME_VALID. -/
  owner : Option Nat := none
  ownerPrio : Nat := 0
  exp : W32 := 0
  epoch : Int := 0
  servo : Servo := .free
  timeValid : Bool := false
  /-- CONTACT: requests per safe output. -/
  contact : BitVec 8 := 0
  /-- the digest trailer (R381). -/
  trailer : List W32 := []
deriving DecidableEq, Repr, Inhabited

/-- The firmware versions a partner reports (R600): graft protocol and the range it accepts, kernel library and cost table
versions it carries. -/
structure PartnerVer where
  graftProto : Nat := 0
  graftMin : Nat := 0
  graftMax : Nat := 0
  libSupported : List W32 := []
  costSupported : List W32 := []
deriving DecidableEq, Repr, Inhabited

/-- Redundant pairs and live insertion. Spec file 10_pairs_and_live_insertion.md. -/
structure PairSt where
  /-- the module's role driver is enabled to assert its line, which PAIR_STAT.ROLE shows; R372, R402; reset 0 -/
  role : Bool := false
  /-- PAIR_STAT.PARTNER_ROLE; R402; reset 0 -/
  partnerRole : Bool := false
  /-- microseconds for which the partner's line has read released without a break, stopping at 1,000; R372, R388; reset: DESIGN CHOICE 0 (log 3) -/
  releasedUs : Nat := 0
  /-- PAIR_STAT.READY as the partner reports it, for an active module; R402; reset 0 -/
  partnerReady : Bool := false
  /-- PAIR_STAT.SYNC; R402; reset 0b00 -/
  sync : SyncState := .none
  /-- PAIR_STAT.RESYNC_BED, 6 bits; R402; reset 0x3F -/
  resyncBed : Nat := 0x3F
  /-- PAIR_STAT.HB_MISS, 2 bits; R402; reset 0 -/
  hbMiss : Nat := 0
  /-- successive heartbeats without YIELD while the partner's line was released; R388; reset: DESIGN CHOICE 0 (log 3) -/
  hbNoYield : Nat := 0
  /-- PAIR_STAT.YIELD_PEND and the handover grain T; R387, R402; reset 0 -/
  yieldAt : Option W32 := none
  /-- the yield decided is a drill; R398; reset: DESIGN CHOICE 0 (log 3) -/
  yieldDrill : Bool := false
  /-- the role line is released, and the plan still runs to the handover grain T; R387; reset: none -/
  lastRecord : Option W32 := none
  /-- handover grain announced by the partner, and whether a drill; R388; reset: none -/
  announced : Option W32 := none
  announcedDrill : Bool := false
  /-- PAIR_STAT.DRILL_DUE; R397, R402; reset 0 -/
  drillDue : Bool := false
  /-- module ms at which the drill fell due; R397; reset: DESIGN CHOICE 0 (log 3) -/
  drillDueMs : Nat := 0
  /-- DRILL_OVERDUE recorded for this drill; R397; reset: DESIGN CHOICE 0 (log 3) -/
  drillOverdue : Bool := false
  /-- grain T of a drill to be judged and whether its handover was in time; R398; reset: none -/
  drillCheck : Option W32 := none
  drillHandoverOk : Bool := true
  /-- the new standby of the drill has reported ready within 200 grains of T; R398; reset: DESIGN CHOICE 0 (log 3) -/
  drillReady : Bool := false
  /-- PAIR_STAT.DRILL_FAIL; R398, R402; reset 0 -/
  drillFail : Bool := false
  /-- PAIR_STAT.COMMON_MISS; R402; reset 0 -/
  commonMiss : Bool := false
  /-- PAIR_MISS.BED_MISS, 32 bits; R403; reset 0 -/
  bedMiss : W32 := 0
  /-- PAIR_STAT.INCOMPAT; R395, R402; reset 0 -/
  incompat : Bool := false
  /-- PAIR_STAT.COLD_TAKEOVER; R392, R402; reset 0 -/
  coldTakeover : Bool := false
  /-- PAIR_STAT.GRAFT_LOST; R388, R402; reset 0 -/
  graftLost : Bool := false
  /-- GRAFT_STAT.LANE0_UP, LANE1_UP, 2 bits; R403; reset 0 -/
  lanes : BitVec 2 := 0
  /-- GRAFT_STAT.PTR_PRESENT; R403; reset 0 -/
  ptrPresent : Bool := false
  /-- PTR_PRES_N has been released for 100 ms: single operation; R373; reset: DESIGN CHOICE single (log 3) -/
  single : Bool := true
  /-- GRAFT_STAT.GRAIN_LOCK; R403; reset 0 -/
  grainLock : Bool := false
  /-- GRAFT_STAT.TRAILER_US, 16 bits; R403; reset 0 -/
  trailerUs : Nat := 0
  /-- PAIR_CNT0.TAKEOVERS, 16 bits; R404; reset 0 -/
  takeovers : Nat := 0
  /-- PAIR_CNT0.RESYNCS, 16 bits; R404; reset 0 -/
  resyncs : Nat := 0
  /-- PAIR_CNT1.MISMATCHES, 16 bits; R404; reset 0 -/
  mismatches : Nat := 0
  /-- PAIR_CNT1.DRILLS, 16 bits; R404; reset 0 -/
  drills : Nat := 0
  /-- module ms of the role point; R374; reset: none -/
  rolePoint : Option Nat := none
  /-- the fabric's self-diagnosis enables the role driver; R374; reset 0 -/
  driverEnabled : Bool := false
  /-- step of joining; R395; reset: none -/
  join : Option JoinStep := none
  /-- boundary S at which the present resynchronisation began, in the active module as its partner named it, and beds replaced; R384; reset: none -/
  resyncFrom : Option W32 := none
  replaced : List Nat := []
  /-- logical grains whose digests have matched in the verifying part of the present resynchronisation; R384; reset: DESIGN CHOICE 0 (log 3) -/
  verified : Nat := 0
  /-- failed resynchronisations in a row; R385; reset: DESIGN CHOICE 0 (log 3) -/
  resyncFails : Nat := 0
  /-- what the record of the present grain holds so far; R378, R379; reset: none -/
  cap : ReplayRec := {}
  /-- the record of the grain before, with the beds' images as that grain left them, until it is sent; R381, R384; reset: none -/
  held : Option (ReplayRec × List (Nat × BedImage)) := none
  /-- (ring, monitor) of the monitors that have answered the present enumeration at the standby's own ring end; R386, R395; reset: none -/
  endSeen : List (Nat × Nat) := []
  /-- module ms before which no resynchronisation starts (PAIR_RESYNC_RETRY); R385; reset: none -/
  resyncWait : Option Nat := none
  /-- last logical grain completed by the standby; R378, R389; reset: none -/
  logical : Option W32 := none
  /-- the replay record whose logical grain runs now; R378; reset: none -/
  record : Option ReplayRec := none
  /-- the standby's own ports: training and injector of each link while the links of the plan run logically; R375, R386; reset: links DARK -/
  ports : Tab Link := []
  /-- DIGEST[0]-DIGEST[32] as last formed, and that the digest slots of the present grain have retired; R54, R79 (02), R380; reset: DESIGN CHOICE none and 0 (log 3) -/
  digests : List W32 := []
  digestRan : Bool := false
  /-- a resynchronisation is due at the next boundary; R381, R385; reset: DESIGN CHOICE 0 (log 3) -/
  resyncDue : Bool := false
  /-- microseconds since the own line's driver was enabled, stopping at 1,000; R372; reset: DESIGN CHOICE 0 (log 3) -/
  roleUs : Nat := 0
  /-- the heartbeat of the present grain has been judged; R382; reset: DESIGN CHOICE 0 (log 3) -/
  hbJudged : Bool := false
  /-- heartbeat of the present grain received; R382; reset: DESIGN CHOICE 0 (log 3) -/
  hbThis : Bool := false
  /-- a heartbeat has been received since both lanes came up; R37 (01); reset: DESIGN CHOICE 0 (log 3) -/
  hbSeen : Bool := false
  /-- rings on which the partner reports its end locked, 32 bits; R145 (04); reset: DESIGN CHOICE 0 (log 3) -/
  partnerLock : W32 := 0
  /-- grains since the last replay record; R375; reset: DESIGN CHOICE 0 (log 3) -/
  noRecord : Nat := 0
  /-- contactor requests of the active module, 8 bits; R375; reset 0 -/
  contactReq : BitVec 8 := 0
  /-- module ms since which the standby has been ready; R397; reset: none -/
  readySince : Option Nat := none
  /-- operating ms of the last takeover and its grain, class P; R397, R406; reset: DESIGN CHOICE 0 (log 3) -/
  lastTakeoverMs : Nat := 0
  lastTakeoverGrain : W32 := 0
  /-- skipped grains for the first step after a takeover; R389; reset: DESIGN CHOICE 0 (log 3) -/
  skipped : Nat := 0
  /-- PRES_N asserted; R400, R401; reset: DESIGN CHOICE asserted (log 3) -/
  presence : Bool := true
  /-- extraction warning declared; R401; reset: none -/
  extraction : Bool := false
  /-- partner's supervisor down or in reset (PARTNER_DOWN); R451 (11); reset 0 -/
  partnerDown : Bool := false
  /-- the partner's supervisor is in a warm restart; R448; reset: DESIGN CHOICE 0 (log 3) -/
  partnerWarm : Bool := false
  /-- the candidate sent to the partner awaits its report; R75 (02); reset: none -/
  pairCheck : Bool := false
  /-- the versions the partner reported over the graft link; R395, R600 (17); reset: DESIGN CHOICE none (log 3) -/
  partnerVer : Option PartnerVer := none
  /-- the active module's running plan has been received and admitted; R395; reset: DESIGN CHOICE 0 (log 3) -/
  planCopy : Bool := false
  /-- former active role given up and not ready since; R391; reset: DESIGN CHOICE 0 (log 3) -/
  formerActive : Bool := false
deriving DecidableEq, Repr, Inhabited

end Sys2Proof.Machine
end

