-- ==== Sys2Proof/Machine/StateOut.lean ====
section
/-! DEFINITION. What the module sends: frames, packets and symbols on its links, networks and pins. -/

namespace Sys2Proof.Machine

/-- A downstream frame of a converter link (R229, Table 6.3). -/
structure DownFrame where
  tick : Nat := 0
  active : Bool := false
  tripHeld : Bool := false
  enable : BitVec 6 := 0
  arm : BitVec 6 := 0
  duties : List Nat := []
  mode : Nat := 0
  cmd : Nat := 0
  cmdArg : Nat := 0
  gseq : Nat := 0
  offsets : List Nat := []
  fibreDelay : Nat := 0xFFFF
  frameOrigin : Nat := 0
  /-- 10 mA. -/
  climLevel : Nat := 0
  regOp : Nat := 0
  regAddr : Nat := 0
  regData : W32 := 0
  /-- CRC-16 of the fast block, bytes 1-16, and CRC-32C of bytes 1-245 (R229). -/
  fcrc : W16 := 0
  fcs : W32 := 0
deriving DecidableEq, Repr, Inhabited

/-- The fields of a Cloche frame (R353, Table 9.10). -/
structure ClocheFrame where
  conn : Nat := 0
  seq : Nat := 0
  echo : Nat := 0
  flags : Byte := 0
  data : List Byte := []
deriving DecidableEq, Repr, Inhabited

/-- A Delay_Req as it leaves a port (R454): destination, EtherType, VLAN priority, domain and sequence number. -/
structure PtpReq where
  dst : Nat := 0x011B19000000
  etherType : Nat := 0x88F7
  pcp : Nat := 0
  domain : Nat := 0
  seq : Nat := 0
deriving DecidableEq, Repr, Inhabited

/-- Something the module sent or drove on a wire during a command. -/
inductive Output where
  /-- a command frame from end `e` of ring `n`: its bytes (R101), its first bit `start` x 0.5 ns after the grain boundary -/
  | chain (n : Nat) (e : RingEnd) (start : Nat) (bytes : List Byte)
  /-- the signal that the module's transmitters of ring `n` send from now on between frames (R91) -/
  | line (n : Nat) (sig : LineSignal)
  /-- the words of a monitor's diagnostic registers, for host software (R111) -/
  | makerWords (n mon start : Nat) (words : List Nat)
  /-- the word of a maker's register of link `n`, for host software (R235) -/
  | makerReg (n addr : Nat) (word : W32)
  /-- a downstream frame on lane LA (0) or LB (1) of link `n` (R618) -/
  | down (n lane : Nat) (f : DownFrame)
  /-- a trip symbol, K28.6, on link `n` (R236) -/
  | tripSymbol (n : Nat)
  /-- a reply to a host, with its tag -/
  | reply (net addr port : Nat) (r : Reply) (tag : List Byte)
  /-- a notice to a host, with its tag -/
  | notice (net addr port session : Nat) (n : Notice) (tag : List Byte)
  /-- a stream packet: stream, sequence number, grain, payload, tag -/
  | stream (net addr port : Nat) (id seq grain : Nat) (payload tag : List Byte)
  /-- a reply on the Rovisa port, with its tag -/
  | rvReply (r : Reply) (tag : List Byte)
  /-- the 48 bytes of a Cloche frame on networks A and B, port 50233, or on the graft lanes (R353) -/
  | cloche (graft : Bool) (frame : List Byte)
  /-- the start of a CAN frame on port `p` -/
  | can (p : Nat) (f : CanFrame)
  /-- a Delay_Req on port `p` (R454, Table 12.1) -/
  | delayReq (p : Nat) (f : PtpReq)
  /-- currentUtcOffset of the selected Announce, s, as the module reports it (R455): the spec names no register, event or message for the
  report, and this one at each change is the model's choice (log 73) -/
  | utcOffset (s : Nat)
  /-- a PTP frame forwarded out of port `p` with its correctionField -/
  | ptpForward (p : Nat) (corr : Int) (frame : List Byte)
  /-- a graft message: kind, grain and content. To the partner's supervisor: 0 a host's message, 1 a forwarded STOP, 2 a
  forwarded TRIP, 3 a candidate, 4 a yield announced, 5 the report on a candidate, 6 an image of the running plan, 7 versions,
  8 a digest mismatch, 9 the reply to a forwarded command. To its fabric: 18 a grain marker, 20 a window for a transaction of the partner's
  ring end, 21 the grain of an activation, 24 the boundary of a resynchronisation, 25 a demand for the enumeration of its ring ends (R75, R97, R376,
  R384, R387, R395, R396, R445, R449). The numbers of the kinds and their bodies are the model's own (log 42) -/
  | graft (kind : Nat) (grain : W32) (body : List Byte)
  /-- a replay record: header, sections, bed image and exchange blocks, and the digest trailer (R379, R381, R384). The spec lays out the header and
  the trailer; of the sections it gives the content, which stands here as data (log 42) -/
  | record (header : List Byte) (r : ReplayRec) (image : Option BedImage) (exch : List (Nat × BedImage)) (trailer : List Byte)
  /-- field forward: frames received at the standby's ring ends, CONT and lock of its ends, tone states, and in the report of a grain whether
  it is ready (R376, R396) -/
  | field (resps : List (Nat × ChainResp)) (ends : List (Nat × EndObs)) (tones : List (Nat × BitVec 2)) (ready : Option Bool)
  /-- an off-pulse on output `g`, high or low side (R343) -/
  | offPulse (g : Nat) (high : Bool)
  /-- a test of the tone detectors of ring `n` (R153) -/
  | toneTest (n : Nat)
deriving DecidableEq, Repr, Inhabited

end Sys2Proof.Machine
end

