-- ==== Sys2Proof/Machine/StatePlan.lean ====
section
/-! DEFINITION. The state of the time base, the Espalier plan, the supervisor pairs and the module clocks
(spec files 01_architecture.md and 02_grain_and_espalier_plan.md). -/

namespace Sys2Proof.Machine

/-- PLAN_STAT.MODE (R85). -/
inductive PlanMode where
  | stopped | idle | admitted | restarting
deriving DecidableEq, Repr, Inhabited

/-- What the kernel of a slot does. The kernel library names its kernels by identifier only (R52, R61);
the roles are those the spec gives slots (R31, R77, Table 2.9, R240). DEDUCED (log 12). -/
inductive Role where
  | sweep | protection | digest | publication | diagnostic | phaseLoop | stringLoop | estimator | power
  | other
deriving DecidableEq, Repr, Inhabited

/-- Why a slot was aborted (R79, OVERRUN DATA of Table 15.16). -/
inductive OverrunCause where
  | ecc | blocked | time
deriving DecidableEq, Repr, Inhabited

/-- One slot table entry (R48, Table 2.2). -/
structure Slot where
  slotId : Nat := 0
  bed : Nat := 0
  tile : Nat := 0
  startTick : Nat := 0
  period : Nat := 1
  startCycle : Nat := 0
  reserve : Nat := 0
  kernel : Nat := 0
  args : Nat := 0
  window : Nat := 0xFF
deriving DecidableEq, Repr, Inhabited

/-- One DRAM window entry (R57, Table 2.6) of bed `bed`. -/
structure DramWin where
  bed : Nat := 0
  channel : Nat := 0
  startTick : Nat := 0
  period : Nat := 1
  dir : Nat := 0
  startNs : Nat := 0
  lengthNs : Nat := 0
  base : Nat := 0
  size : Nat := 0
deriving DecidableEq, Repr, Inhabited

/-- The LIMITS section of a bed (Table 2.16). -/
structure Limits where
  ov : Nat := 0
  uv : Nat := 0
  tHi : Int := 0
  tLo : Int := 0
  tDerate : Int := 0
  tChgMin : Int := 0
  cmpOv : Nat := 0
  cmpUv : Nat := 0
  cmpOt : Int := 0
  reserved : Nat := 0
  ocDis : Nat := 0
  ocChg : Nat := 0
deriving DecidableEq, Repr, Inhabited

/-- One configured monitor of a ring: what CHAIN_LAYOUT says of it (R61, R116). -/
structure MonCfg where
  addr : Nat := 0
  cells : Nat := 16
  /-- The cells the position has, bit per cell. -/
  cellMask : W16 := 0xFFFF
  compat : Bool := false
  /-- The thermistors fitted, bit per thermistor. -/
  thermMask : W16 := 0
deriving DecidableEq, Repr, Inhabited

/-- What the module reads in a bed's CHAIN_LAYOUT (R61, R116, R131); the binary layout is the library's. -/
structure ChainLayout where
  monitors : List MonCfg := []
  sweepDelay : Nat := 0
  window : Nat := 0
  chemId : Nat := 0
deriving DecidableEq, Repr, Inhabited

/-- The converter definition of a string (R200, R224, R256, Table 6.19): part of the plan, not parameters. -/
structure ConvDef where
  /-- O_n, ns (R224). -/
  frameOrigin : Nat := 0
  phases : Nat := 6
  /-- mA, mA and W. -/
  iRated : Nat := 0
  iPhRated : Nat := 0
  pRated : Nat := 0
  /-- the range of V_BUS in which a start is allowed, mV (Table 6.9). -/
  vBusMin : Nat := 0
  vBusMax : Nat := 0
deriving DecidableEq, Repr, Inhabited

/-- A chemistry model (R180): OCV in V at seven temperatures of 101 SoC points, and the constants of the cell model. -/
structure Chem where
  chemId : Nat := 0
  /-- rows -20, -10, 0, 10, 25, 40, 55 C, each 101 points in V. -/
  ocv : List (List Rat) := []
  gamma : Rat := 0
  mDefault : Rat := 0
  etaC : Rat := 1
  /-- (temperature in C, TAU_SLOW in s), ascending. -/
  tauSlow : List (Rat × Rat) := []
  /-- (temperature in C, k_R, k_tau), ascending. -/
  factors : List (Rat × Rat × Rat) := []
  capNom : Rat := 0
  /-- mean discharge voltage per 0.01 of SoC, 100 entries. -/
  vMean : List Rat := []
  /-- chemistry defaults of R_OHM, R_FAST, R_SLOW and TAU_FAST (R210). -/
  rOhm : Rat := 0
  rFast : Rat := 0
  rSlow : Rat := 0
  tauFast : Rat := 1
deriving DecidableEq, Repr, Inhabited

/-- One bed of a plan with the sections the module runs it from (R631). -/
structure Bed where
  bed : Nat := 0
  tile : Nat := 0
  position : Nat := 0
  limits : Limits := {}
  layout : ChainLayout := {}
  stateLayoutId : Nat := 0
  slots : List Slot := []
  windows : List DramWin := []
  configId : Nat := 0
  /-- the string's converter, none where the plan configures no converter for it. -/
  conv : Option ConvDef := none
  chem : Chem := {}
  /-- the argument blocks of the bed's slots (ARGUMENTS), as bytes, by tile. -/
  args : List (Nat × List Byte) := []
  /-- the exchange-block layout that STATE_LAYOUT declares (R56). -/
  exchange : Nat := 0
  /-- the bytes of the replicated range that STATE_LAYOUT declares (R383). -/
  replicated : Nat := 0
  /-- parameters the bed reads (PARAM_BIND) and user expressions (EXPRESSION), as bytes. -/
  paramBind : List Byte := []
  expression : List Byte := []
deriving DecidableEq, Repr, Inhabited

/-- A plan: a full image with the bed images applied to it (R60, R70). -/
structure Plan where
  planId : W32 := 0
  libVersion : W32 := 0
  costVersion : W32 := 0
  beds : List Bed := []
deriving DecidableEq, Repr, Inhabited

/-- One kernel of the installed library: its cost-table entry (R50) and its role. -/
structure Kernel where
  kid : Nat := 0
  role : Role := .other
  base : Nat := 0
  /-- (PER_k, offset of N_k in the argument block) for each k. -/
  per : List (Nat × Nat) := []
  stall : Nat := 0
  needsDram : Bool := false
deriving DecidableEq, Repr, Inhabited

/-- The installed kernel library and cost table (R50), part of the FAB component of the firmware. -/
structure KernelLib where
  libVersion : W32 := 0
  costVersion : W32 := 0
  kernels : List Kernel := []
deriving DecidableEq, Repr, Inhabited

/-- Who is to be told the result of a command that replied PENDING (R421). -/
structure Origin where
  session : Nat := 0
  opcode : Nat := 0
  seq : Nat := 0
deriving DecidableEq, Repr, Inhabited

/-- An admission check that is running (R64): the copied image and its origin. -/
structure Check where
  image : List Byte := []
  loadedLen : Nat := 0
  origin : Option Origin := none
deriving DecidableEq, Repr, Inhabited

/-- A staged candidate (R64, R72). -/
structure Candidate where
  kind : Nat := 0
  bed : Nat := 0xFF
  plan : Plan := {}
  image : List Byte := []
  origin : Option Origin := none
deriving DecidableEq, Repr, Inhabited

/-- The overrun account of one bed (R80, R82, R88). -/
structure BedAcct where
  /-- The bed's overrun count. -/
  count : Nat := 0
  /-- OVR_CNT[b], stopping at 0xFFFF_FFFF (R88). -/
  total : Nat := 0
  /-- The bed overran in the present grain. -/
  thisGrain : Bool := false
  selfFault : Bool := false
  /-- The self-fault was declared in the present tick: fallow mode follows from the next (R81). -/
  fresh : Bool := false
  /-- Grains run without overrun since the replant that may clear the self-fault (R82). -/
  cleanGrains : Option Nat := none
  /-- Bed generation (Table 2.10). -/
  generation : Nat := 0
deriving DecidableEq, Repr, Inhabited

/-- Time base and plan. Spec file 02_grain_and_espalier_plan.md unless a field says otherwise. -/
structure PlanSt where
  /-- GRAIN_CNT, 32 bits; R40; reset 0 -/
  grainCnt : W32 := 0
  /-- 1 bit: the fabric has run its first grain since the start; R40; reset 0 -/
  firstGrain : Bool := false
  /-- GRN_NOW.TICK, 7 bits; R42; reset 0 -/
  tick : Nat := 0
  /-- GRN_NOW.GRAIN_OF_SEC, 10 bits; R41, R42; reset 0 -/
  grainOfSec : Nat := 0
  /-- the latched GRAIN_CNT for the read that directly follows, 32 bits and present; R42; reset: DESIGN CHOICE none (log 3) -/
  grnLatch : Option W32 := none
  /-- PLAN_STAT.MODE, 2 bits; R85; reset 0b00 -/
  mode : PlanMode := .stopped
  /-- PLAN_STAT.CHECKING and the image being checked, 1 bit and bytes; R64, R85; reset 0 -/
  check : Option Check := none
  /-- PLAN_STAT.STAGED, STAGED_KIND, STAGED_BED and the candidate in plan staging; R64, R85; reset 0 -/
  staged : Option Candidate := none
  /-- PLAN_STAT.SCHEDULED and the activation grain, 1 + 32 bits; R66, R85; reset 0 -/
  scheduled : Option W32 := none
  /-- PLAN_STAT.REFUSAL, 8 bits; R65, R85; reset 0x00 -/
  refusal : Nat := 0
  /-- PLAN_STAT.REFUSAL_BED, 6 bits; R65, R85; reset 0 -/
  refusalBed : Nat := 0
  /-- the running plan: tile maps, windows, limits, layouts, and PLAN_RUN; R52, R55, R85; reset: none (idle) -/
  running : Plan := {}
  /-- slot tables in tile memory, two banks a tile: entry 2 t + k is bank k of tile t; R52, R72; reset: DESIGN CHOICE empty (log 3) -/
  tables : Tab (List Slot) := []
  /-- bank of each tile in force, 4 bits; R52, R72; reset: DESIGN CHOICE bank 0 (log 3) -/
  bank : BitVec 4 := 0
  /-- the previous plan, whose limits judge the sweep of grain G-1 in grain G; R68; reset: DESIGN CHOICE none (log 3) -/
  previous : Option Plan := none
  /-- the stored full image with its bed images (class P, configuration partition); R70; reset: DESIGN CHOICE none (log 3) -/
  stored : Option Plan := none
  /-- the bytes of the stored images, admitted again at start, full image first; R70; reset: DESIGN CHOICE none (log 3) -/
  storedImages : List (List Byte) := []
  /-- the fallback: the previous full image as bytes, and the plan that was stored; R70; reset: DESIGN CHOICE none (log 3) -/
  fallbackImage : List Byte := []
  fallback : Option Plan := none
  /-- kernel library and cost table of the firmware; R50; reset: DESIGN CHOICE empty (log 13) -/
  lib : KernelLib := {}
  /-- OVR_STR.BED_OVR, 32 bits; R86; reset 0 -/
  ovrStr : W32 := 0
  /-- OVR_MISC.TILE_OVR, 4 bits; R86; reset 0 -/
  tileOvr : BitVec 4 := 0
  /-- OVR_MISC.COMMON_OVR, 1 bit; R86; reset 0 -/
  commonOvr : Bool := false
  /-- OVR_CNT[0-32], overrun counts and self-faults of beds, 33 entries; R80, R82, R88; reset 0 -/
  acct : Tab BedAcct := []
  /-- beds whose overrun in fallow mode brings a safe stop in the next tick; R82; reset: none -/
  dueStops : List Nat := []
  /-- bed and role of the slots, other than the last of their role, that overran in this grain: their role's outputs hold; R79; reset: none -/
  heldRoles : List (Nat × Role) := []
  /-- TILE_LOADn.PEAK_USED, 4 x 16 bits; R87; reset 0 -/
  peakUsed : Tab Nat := []
  /-- cycles used by slots in the present tick, per tile, 4 entries; R87; reset: DESIGN CHOICE 0 (log 3) -/
  usedNow : Tab Nat := []
  /-- BLK_STAT.TILE_ECC_UE, grain of the last uncorrectable error per tile; R37 (01); reset 0 -/
  tileEcc : Tab (Option W32) := []
  /-- corrected tile-memory errors, a count; R25 (01); reset: DESIGN CHOICE 0 (log 3) -/
  tileEccCorrected : Nat := 0
  /-- grain pulses missing or late in succession; R22 (01); reset: DESIGN CHOICE 0 (log 3) -/
  pulsesMissed : Nat := 0
  /-- BLK_STAT.SP0_OK, 1 bit; R37 (01); reset 0 -/
  sp0Ok : Bool := false
  /-- BLK_STAT.SP1_OK, 1 bit; R37 (01); reset 0 -/
  sp1Ok : Bool := false
  /-- warm supervisor restart in progress, 1 bit; R16 (01); reset: DESIGN CHOICE 0 (log 3) -/
  warm : Bool := false
  /-- cause code of the warm restart in progress; R578 (16); reset: DESIGN CHOICE 0 (log 3) -/
  warmCause : Nat := 0
  /-- module ms of the lockstep mismatches of the last hour; R17 (01); reset: DESIGN CHOICE none (log 3) -/
  lockstepAt : List Nat := []
  /-- module self-fault causes in force (SELF_FAULT CAUSE codes 0 lockstep, 2 temperature, 3 clock); R17, R30 (01), R317 (08); reset: DESIGN CHOICE none (log 3) -/
  selfFaults : List Nat := []
  /-- CLK_STAT, 5 bits FAB, SUP, ETH, PTP, ADC; R38 (01); reset 0 -/
  clkStat : BitVec 5 := 0
  /-- the last measurement of each clock was out of tolerance, 5 bits; R30 (01); reset: DESIGN CHOICE 0 (log 3) -/
  clkBad : BitVec 5 := 0
  /-- CHN_LOCK per ring end: bit 2n + e for end e of ring Cn, 64 bits; R39 (01), R28; reset 0 -/
  chnLock : BitVec 64 := 0
  /-- KLNK_LOCK.LOCK, 32 bits; R39 (01); reset 0x0000_0000 -/
  klnkLock : W32 := 0
  /-- BLK_STAT.NET_A_UP and NET_B_UP, 2 bits; R37 (01), R614 (18); reset 0 -/
  netUp : BitVec 2 := 0
deriving DecidableEq, Repr, Inhabited

end Sys2Proof.Machine
end

