-- ==== Sys2Proof/Machine/StatePower.lean ====
section
/-! DEFINITION. The state of resets, power, straps, button, cold frame and keys (spec file
16_reset_power_security.md). -/

namespace Sys2Proof.Machine

/-- PWR_STAT.STATE (R582), with the unpowered module of HOLDUP_EXHAUSTED (R35, R36). -/
inductive PowerState where
  | off | starting | parked | running | failing
deriving DecidableEq, Repr, Inhabited

/-- A requested module restart that is running (R556). -/
structure RestartSeq where
  cause : Nat := 0
  startedMs : Nat := 0
  /-- The yield of step 1 is running: restart at handover. -/
  yielding : Bool := false
  /-- The restart that ends a factory restore (R576). -/
  factory : Bool := false
deriving DecidableEq, Repr, Inhabited

/-- One slot of the key store (Table 16.9): the key and its generation. -/
structure KeySlot where
  key : List Byte := []
  generation : Nat := 0
deriving DecidableEq, Repr, Inhabited

/-- Resets, power and security. Spec file 16_reset_power_security.md. -/
structure PowerSt where
  /-- PWR_STAT.STATE, 2 bits; R582; reset 0 starting -/
  state : PowerState := .starting
  /-- PWR_STAT.HOLDUP_OK, 1 bit; R582; reset 0 -/
  holdupOk : Bool := false
  /-- PWR_STAT.INRUSH_LIM, 1 bit; R582; reset 0 -/
  inrushLim : Bool := false
  /-- PWR_STAT.PARK_WHY STRAP, REQUEST, THERMAL, 3 bits; R562, R582; reset 0 -/
  parkWhy : BitVec 3 := 0
  /-- RST_STAT.LAST_CAUSE (retained register), 8 bits, class C; R568, R578, R582; reset 0 -/
  lastCause : Nat := 0
  /-- a factory restore, whose record was durable when a power failure or an extraction cut its restart off, is carried out at the next start,
  1 bit; R576, R581; reset: none due -/
  factoryDue : Bool := false
  /-- RST_STAT.WARM_COUNT, 8 bits; R582; reset 0 -/
  warmCount : Nat := 0
  /-- RST_STAT.POWER_FAIL, 1 bit; R582; reset 0 -/
  powerFail : Bool := false
  /-- module ms of the power-failure declaration; R563; reset: DESIGN CHOICE 0 (log 3) -/
  powerFailMs : Nat := 0
  /-- strap pins as read at the last start, 9 bits; R558, R560; reset 0 -/
  straps : BitVec 9 := 0
  /-- strap pins as present on the backplane, 9 bits; R558; reset: DESIGN CHOICE 0, no backplane (log 3) -/
  strapPins : BitVec 9 := 0
  /-- STRAP_STAT.VALID, 1 bit; R558, R582; reset 0 -/
  strapValid : Bool := false
  /-- STRAP_STAT.CHANGED, 1 bit; R560, R582; reset 0 -/
  strapChanged : Bool := false
  /-- PARK request, class P, 1 bit; R562; reset: DESIGN CHOICE 0 (log 3) -/
  parkRequest : Bool := false
  /-- requested module restart in progress; R556; reset: none -/
  restart : Option RestartSeq := none
  /-- operating-hours counter, u48 ms, class C; R566; reset: DESIGN CHOICE 0 (log 3) -/
  opMs : Nat := 0
  /-- operating hours at the last POWER_FAIL record; R563; reset: DESIGN CHOICE none, unknown (log 3) -/
  opMsAtFail : Option Nat := none
  /-- OUTAGE_MS point, u64; R563, R584; reset: DESIGN CHOICE 0 (log 3) -/
  outageMs : Nat := 0
  /-- power-cycle count, u32, class C; R566; reset: DESIGN CHOICE 0 (log 3) -/
  pwrCycle : Nat := 0
  /-- CF_SIGNATURE, u32, class C; R567, R568; reset: DESIGN CHOICE 0x4B58_4346, a cold frame made ready before shipping (log 34) -/
  cfSignature : W32 := 0x4B584346
  /-- SAVED_INCR, u32, class C; R568, R469 (12); reset: DESIGN CHOICE 0 (log 3) -/
  savedIncr : W32 := 0
  /-- RSEQ_HWM, u32, class C; R531 (15), R568; reset: DESIGN CHOICE 0 (log 3) -/
  rseqHwm : Nat := 0
  /-- CLEAR_COUNT, u32, class C; R568; reset: DESIGN CHOICE 0 (log 3) -/
  clearCount : Nat := 0
  /-- LAST_CLEAR_RSEQ, u32, class C; R568; reset: DESIGN CHOICE 0 (log 3) -/
  lastClearRseq : Nat := 0
  /-- RESP_MESH, u8, class C; R568, R572; reset 2 (default of Table 16.10) -/
  respMesh : Nat := 2
  /-- RESP_GLITCH, u8, class C; R568, R572; reset 1 (default of Table 16.10) -/
  respGlitch : Nat := 1
  /-- RESP_AUTH, u8, class C; R568, R572; reset 0 (default of Table 16.10) -/
  respAuth : Nat := 0
  /-- SEC_FLAGS.LOCKED and SEC_STAT.LOCKED, class C, 1 bit; R568, R583; reset 0 -/
  locked : Bool := false
  /-- ERASE_COUNT, u32, class C; R568; reset: DESIGN CHOICE 0 (log 3) -/
  eraseCount : Nat := 0
  /-- an unpowered violation waits to be recorded at the next start (source); R573; reset: none -/
  unpoweredViolation : Option Nat := none
  /-- KSEAL, 32 bytes, class C; R569; reset: DESIGN CHOICE none, not yet drawn (log 3) -/
  kseal : List Byte := []
  /-- chain root key and generation, class C; R569; reset: DESIGN CHOICE no key (log 3) -/
  chainRoot : KeySlot := {}
  /-- credential keys 0-15 and generations, class C; R569; reset: no key, unprovisioned (R569) -/
  credKeys : Tab KeySlot := []
  /-- prior chain root keys, newest first, up to 3, sealed class P; R570; reset: none -/
  priorRoots : List KeySlot := []
  /-- CF_STAT.RESPONDING, 1 bit; R583; reset 0 -/
  cfResponding : Bool := false
  /-- CF_STAT.CELL_LOW, 1 bit; R566, R583; reset 0 -/
  cellLow : Bool := false
  /-- CF_STAT.CAP_LOW, 1 bit; R583; reset 0 -/
  capLow : Bool := false
  /-- CF_STAT.BLANK_SEEN, 1 bit; R583; reset 0 -/
  blankSeen : Bool := false
  /-- CF_STAT.CELL_MV, 16 bits; R583; reset 0 -/
  cellMv : Nat := 0
  /-- CAP_MV point, 16 bits; R584; reset: DESIGN CHOICE 0 (log 3) -/
  capMv : Nat := 0
  /-- SEC_STAT.MESH_OK, 1 bit; R583; reset 0 -/
  meshOk : Bool := false
  /-- SEC_STAT.MESH_BREACH, 1 bit; R583; reset 0 -/
  meshBreach : Bool := false
  /-- SEC_STAT.GLITCH, 1 bit; R583; reset 0 -/
  glitch : Bool := false
  /-- a GLITCH condition holds now, 1 bit; R572, R574; reset: DESIGN CHOICE 0 (log 3) -/
  glitchNow : Bool := false
  /-- SEC_STAT.ERASED, 1 bit; R583; reset 0 -/
  erased : Bool := false
  /-- module ms of the AUTH_BLOCKED records of the last hour; R572; reset: none -/
  authBlockedAt : List Nat := []
  /-- BTN_STAT.STATE 0 idle, 1 pressed, 2 disarmed, 2 bits; R564, R565, R583; reset 0 -/
  btnState : Nat := 0
  /-- module ms at which the press began, or the release while disarmed; R564, R565; reset: DESIGN CHOICE 0 (log 3) -/
  btnSince : Nat := 0
  /-- the button is held, 1 bit; R564; reset: DESIGN CHOICE 0 (log 3) -/
  btnHeld : Bool := false
  /-- BTN_STAT.PRESSES, 16 bits; R583; reset 0 -/
  presses : Nat := 0
deriving DecidableEq, Repr, Inhabited

end Sys2Proof.Machine
end

