-- ==== Sys2Proof/Machine/StateStore.lean ====
section
/-! DEFINITION. The state of flash, event recorder, archive, DRAM and DMA (spec file 15_storage_recorder_memory.md). -/

namespace Sys2Proof.Machine

/-- One event record (R525, Table 15.2); the CRC is a function of the rest. -/
structure EventRec where
  rseq : Nat := 0
  code : Nat := 0
  cls : Nat := 0
  rflags : Byte := 0
  opMs : Nat := 0
  source : Nat := 0
  pwrCycle : Nat := 0
  grain : W32 := 0
  ptpSec : Nat := 0
  ptpNs : Nat := 0
  tick : Nat := 0
  data : List Byte := []
deriving DecidableEq, Repr, Inhabited

/-- A flush in progress (R529, R530): the last RSEQ it covers and whether it is a power-fail,
extraction or restart flush (R531). -/
structure Flush where
  first : Nat := 0
  last : Nat := 0
  emergency : Bool := false
deriving DecidableEq, Repr, Inhabited

/-- One DMA descriptor (R546). -/
structure DmaDesc where
  src : Nat := 0
  dst : Nat := 0
  len : Nat := 0
  ctrl : W32 := 0
  next : Nat := 0
deriving DecidableEq, Repr, Inhabited

/-- What a DMA channel moves data for (R547). -/
inductive DmaUse where
  | none | query (sid : Nat) | config | checkpoint (str : Nat) | flush | other
deriving DecidableEq, Repr, Inhabited

/-- One DMA channel (R545-R547, Table 15.12). -/
structure DmaCh where
  busy : Bool := false
  fault : Bool := false
  cause : Nat := 0
  done : Nat := 0
  /-- the descriptor that runs, and its address. -/
  desc : Option DmaDesc := none
  descAt : Nat := 0
  /-- IOMMU windows: base, size, write permitted. -/
  windows : List (Nat × Nat × Bool) := []
  /-- what the transfer is for. -/
  use : DmaUse := .none
deriving DecidableEq, Repr, Inhabited

/-- What the archive gathers of one cell in the period in progress (R538). -/
structure ArchAcc where
  vSum : Nat := 0
  vCount : Nat := 0
  vMin : Nat := 0
  vMax : Nat := 0
  tMax : Int := 0
  staleGrains : Nat := 0
  reset : Bool := false
deriving DecidableEq, Repr, Inhabited

/-- One archive cell entry (Table 15.7). -/
structure ArchEntry where
  vMean : Nat := 0
  vMin : Nat := 0
  vMax : Nat := 0
  tMax : Int := 0
  soc : Nat := 0
  socU : Nat := 0
  rOhm : Nat := 0
  cap : Nat := 0
deriving DecidableEq, Repr, Inhabited

/-- One archive record (R538). -/
structure ArchRec where
  string : Nat := 0
  tier : Nat := 0
  cells : Nat := 0
  fromMs : Nat := 0
  toMs : Nat := 0
  grain : W32 := 0
  ptpSec : Nat := 0
  ptpNs : Nat := 0
  /-- bitmaps: cells reset in the period; cells stale for more than half of it. -/
  resetMap : List Nat := []
  staleMap : List Nat := []
  entries : List ArchEntry := []
deriving DecidableEq, Repr, Inhabited

/-- The archive period in progress of one string (R537, R539). -/
structure ArchPeriod where
  fromMs : Nat := 0
  grains : Nat := 0
  /-- start of the present day of operating hours. -/
  dayFrom : Nat := 0
deriving DecidableEq, Repr, Inhabited

/-- A configuration bank (R524): generation, and a commit page whose CRC holds. -/
structure CfgBank where
  generation : Nat := 0
  valid : Bool := false
deriving DecidableEq, Repr, Inhabited

/-- A running query (R534). -/
structure QuerySt where
  sid : Nat := 0
  seq : W32 := 0
  from_ : Nat := 0
  count : Nat := 0
  codeLo : Nat := 0
  codeHi : Nat := 0
  source : Nat := 0
  classes : Nat := 0
  kind : Nat := 0
  dest : Nat := 0
  maxLen : Nat := 0
  /-- an ARCH query: string, tier and FROM_MS. -/
  arch : Option (Nat × Nat × Nat) := none
deriving DecidableEq, Repr, Inhabited

/-- Storage. Spec file 15_storage_recorder_memory.md unless a field says otherwise. -/
structure StoreSt where
  /-- REC_NEXT.NEXT, 32 bits; R525, R549; reset 0, numbering starts at the first start (R531) -/
  recNext : Nat := 0
  /-- REC_DURABLE.DURABLE, 32 bits; R549; reset 0 -/
  recDurable : Nat := 0
  /-- REC_OLDEST.OLDEST, 32 bits; R549; reset 0 -/
  recOldest : Nat := 0
  /-- retention SRAM ring of records not yet durable, 4,096 records, oldest first; R528; reset: lost at cold start (Table 16.2) -/
  sram : List EventRec := []
  /-- DRAM ring, 131,072 records, oldest first; R528; reset: lost at cold start (Table 15.15) -/
  dram : List EventRec := []
  /-- durable records of the recorder ring, oldest first; R529, R530; reset: DESIGN CHOICE none (log 3) -/
  flashRing : List EventRec := []
  /-- marker area, 16,384 records; R536; reset: DESIGN CHOICE none (log 3) -/
  markers : List EventRec := []
  /-- REC_STAT.FLUSHING and the flush in progress, 1 bit; R529, R549; reset 0 -/
  flush : Option Flush := none
  /-- a further flush starts when this one ends, 1 bit; R548; reset: DESIGN CHOICE 0 (log 3) -/
  flushAgain : Bool := false
  /-- module ms at which the last flush began; R529; reset: DESIGN CHOICE 0 (log 3) -/
  lastFlush : Nat := 0
  /-- REC_STAT.SRAM_FULL, 1 bit; R528, R549; reset 0 -/
  sramFull : Bool := false
  /-- REC_STAT.DRAM_DROP, 1 bit; R528, R549; reset 0 -/
  dramDrop : Bool := false
  /-- the RSEQ range lost by DRAM_DROP, recorded once flash is written again; R528; reset: DESIGN CHOICE none (log 3) -/
  dropRange : Option (Nat × Nat) := none
  /-- REC_STAT.FLASH_HOLD because flash does not respond, 1 bit; R533, R549; reset 0 -/
  flashHold : Bool := false
  /-- REC_STAT.START_CLEAN, 1 bit; R549; reset 0 -/
  startClean : Bool := false
  /-- records taken in the present second per CODE and SOURCE, with those withheld; R532; reset: DESIGN CHOICE none (log 3) -/
  rate : List ((Nat × Nat) × Nat × Nat) := []
  /-- flush marker LAST_DURABLE, 32 bits, class C; R531; reset: DESIGN CHOICE 0 (log 3) -/
  mkLastDurable : Nat := 0
  /-- flush marker CLEAN, 1 bit, class C; R531; reset: DESIGN CHOICE 0 (log 3) -/
  mkClean : Bool := false
  /-- REC_CUR_POS.POS, 32 bits; R535, R549; reset 0 -/
  curPos : Nat := 0
  /-- REC_CUR_CTRL DIR and AREA, 3 bits; R535, R549; reset 0 -/
  curCtrl : BitVec 3 := 0
  /-- REC_CUR_DATA and REC_CUR_STAT.COUNT, up to 16 records; R535, R549; reset 0 -/
  curData : List EventRec := []
  /-- REC_CUR_STAT.END, 1 bit; R549; reset 0 -/
  curEnd : Bool := false
  /-- REC_CUR_STAT.BAD, 16 bits; R549; reset 0 -/
  curBad : Nat := 0
  /-- running recorder queries; R534; reset: none -/
  queries : List QuerySt := []
  /-- FLASH_STAT.READY, 1 bit; R550; reset 0 -/
  flashReady : Bool := false
  /-- FLASH_STAT.LIFE, 7 bits; R523, R550; reset 0 -/
  flashLife : Nat := 0
  /-- the wear warning has been recorded, 1 bit; R523; reset: DESIGN CHOICE 0 (log 3) -/
  wearWarned : Bool := false
  /-- FLASH_STAT.RO_MASK, 6 bits; R523, R550; reset 0 -/
  roMask : BitVec 6 := 0
  /-- FLASH_RETIRED.PAGES, 32 bits, and the mapped pages; R523, R550; reset 0 -/
  retired : List Nat := []
  /-- DRAM_ECC.CE, 16 bits; R550; reset 0 -/
  ce : Nat := 0
  /-- corrected errors of the present hour; R543; reset: DESIGN CHOICE 0 (log 3) -/
  ceHour : Nat := 0
  /-- module ms at which the present hour of corrected errors began; R543; reset: DESIGN CHOICE 0 (log 3) -/
  ceHourFrom : Nat := 0
  /-- DRAM_CE_HIGH has been recorded this hour, 1 bit; R543; reset: DESIGN CHOICE 0 (log 3) -/
  ceHigh : Bool := false
  /-- DRAM_ECC.UE, 8 bits; R550; reset 0 -/
  ue : Nat := 0
  /-- module ms of the end of the last patrol pass, behind DRAM_ECC.SCRUB_RUN; R543, R550; reset: DESIGN CHOICE 0 (log 3) -/
  scrubAt : Nat := 0
  /-- poisoned 64-byte lines (poison marks); R544; reset: none -/
  poison : List Nat := []
  /-- DRAM_UE_LO and DRAM_UE_HI, address of the last poisoned line, 34 bits; R550; reset 0 -/
  ueAddr : Nat := 0
  /-- latched DRAM_UE_HI, 2 bits and present; R550; reset: DESIGN CHOICE none (log 3) -/
  ueLatch : Option Nat := none
  /-- BLK_STAT.DRAM_OK is 0 from the first poisoning, 1 bit; R544; reset: no poisoning -/
  dramBad : Bool := false
  /-- DMA_STAT, DMA_DONE, descriptor chains and IOMMU windows of 16 channels; R545-R547, R550; reset 0 -/
  dma : Tab DmaCh := []
  /-- configuration banks 0 and 1; R524; reset: DESIGN CHOICE generation 0, not valid (log 3) -/
  bank0 : CfgBank := {}
  bank1 : CfgBank := {}
  /-- the bank in force, 1 bit; R524; reset: DESIGN CHOICE 0 (log 3) -/
  bankInUse : Nat := 0
  /-- class P set being written, 1 bit; R524; reset: DESIGN CHOICE 0 (log 3) -/
  cfgWriting : Bool := false
  /-- class P parameters as durable in the configuration partition; R524, R435 (11); reset: the shipped defaults -/
  cfgParams : Tab (Option Int) := []
  /-- archive period in progress per string, 32 entries; R537; reset: none -/
  arch : Tab ArchPeriod := []
  /-- archive accumulators per cell, 20,480 entries; R538; reset: none -/
  archCells : Tab ArchAcc := []
  /-- fine and coarse archive records, oldest first; R537; reset: DESIGN CHOICE none (log 3) -/
  archive : List ArchRec := []
deriving DecidableEq, Repr, Inhabited

end Sys2Proof.Machine
end

