-- ==== Sys2Proof/Machine/StateUpd.lean ====
section
/-! DEFINITION. The state of firmware update, the Rovisa port, factory calibration and the front interfaces (spec
files 17_update_and_calibration.md and 18_electrical_mechanical.md). -/

namespace Sys2Proof.Machine

/-- The states of a firmware slot (R594), in the order of their codes. -/
inductive SlotState where
  | empty | receiving | verifying | verified | trial | active | invalid
deriving DecidableEq, Repr, Inhabited

/-- The fields of an image header that the module reads (R590, Table 17.3). -/
structure FwHeader where
  magic : W32 := 0
  format : Nat := 0
  keyIndex : Nat := 0
  kflags : Nat := 0
  blockCount : Nat := 0
  svn : Nat := 0
  svnFloor : Nat := 0
  partCode : W32 := 0
  supVersion : W32 := 0
  fabVersion : W32 := 0
  safVersion : W32 := 0
  graftProto : Nat := 0
  graftMin : Nat := 0
  graftMax : Nat := 0
  hwMin : Nat := 0
  libSupported : List W32 := []
  costSupported : List W32 := []
  /-- SUP, FAB, SAF: FIRST, COUNT and SHA-256. -/
  components : List (Nat × Nat × List Byte) := []
  signature : List Byte := []
deriving DecidableEq, Repr, Inhabited

/-- One firmware slot. Spec file 17_update_and_calibration.md. -/
structure FwSlot where
  /-- STATE; R594; reset: DESIGN CHOICE EMPTY (log 3) -/
  st : SlotState := .empty
  /-- GENERATION, u32; R594; reset: DESIGN CHOICE 0 (log 3) -/
  generation : Nat := 0
  /-- TRIES, u8; R594; reset: DESIGN CHOICE 0 (log 3) -/
  tries : Nat := 0
  /-- the header of the image, once block 0 is stored; R590; reset: DESIGN CHOICE none (log 3) -/
  header : Option FwHeader := none
  /-- BLOCK_COUNT of UPD_BEGIN; R591; reset: DESIGN CHOICE 0 (log 3) -/
  blockCount : Nat := 0
  /-- blocks stored, with their CRC table entries; R592; reset: DESIGN CHOICE none (log 3) -/
  blocks : Tab (List Byte) := []
  crcs : Tab W32 := []
  /-- LAST_REFUSAL, u8; R593, R605; reset: DESIGN CHOICE 0 (log 3) -/
  refusal : Nat := 0
deriving DecidableEq, Repr, Inhabited

/-- The Rovisa session (R586): a session of the front port, with its own SEQ window and reply cache. -/
structure RvSession where
  s : Session := {}
  presence : Bool := false
deriving DecidableEq, Repr, Inhabited

/-- One factory record (R601). -/
structure OtpRec where
  fOffset : Int := 0
  fGain : Int := 0
  fDacOffset : Int := 0
deriving DecidableEq, Repr, Inhabited

/-- Update, calibration and front interfaces. Spec file 17_update_and_calibration.md unless a field says otherwise. -/
structure UpdSt where
  /-- FW_STAT.SESSION, PRESENCE and the Rovisa session; R586, R587, R606; reset 0 -/
  session : Option RvSession := none
  /-- FW_STAT.USB_UP; R606; reset 0 -/
  usbUp : Bool := false
  /-- the service window is open (PORT_STATE 2); R599, R606; reset 0 -/
  service : Bool := false
  /-- no slot is bootable: RECOVERY (PORT_STATE 3); R588, R594; reset 0 -/
  recovery : Bool := false
  /-- firmware slots A and B; R594; reset: DESIGN CHOICE A holds the shipped image, ACTIVE, B empty (log 34) -/
  slotA : FwSlot := { st := .active, generation := 1, header := some {} }
  slotB : FwSlot := {}
  /-- FW_STAT.RUN_SLOT and RUNNING_SLOT, 1 bit (1 = B); R605, R606; reset 0 -/
  runB : Bool := false
  /-- header of the components running: SUP of the slot booted, FAB and SAF of the last load; R596, R605; reset: DESIGN CHOICE none (log 3) -/
  running : FwHeader := {}
  /-- FW_STAT.TRIAL_RUN: module ms since which the trial slot has run; R597, R606; reset 0 -/
  trialSince : Option Nat := none
  /-- the trial is of kind MODULE; R596; reset: DESIGN CHOICE 0 (log 3) -/
  trialModule : Bool := false
  /-- a verification is running; R593; reset 0 -/
  verifying : Bool := false
  /-- MIN_SVN, OTP; R597; reset: DESIGN CHOICE 0 (log 3) -/
  minSvn : Nat := 0
  /-- KEY_REVOKED, OTP, 4 bits; R597, R605; reset: DESIGN CHOICE 0 (log 3) -/
  keyRevoked : BitVec 8 := 0
  /-- OTP_KEYS, 4 bits, boot ROM; R605; reset: DESIGN CHOICE 0 (log 3) -/
  otpKeys : BitVec 8 := 0
  /-- SVN_FUSES_LEFT; R605; reset: DESIGN CHOICE 255 (log 3) -/
  fusesLeft : Nat := 255
  /-- MODULE_SERIAL, HW_REVISION, MFG_DATE; R605; reset: DESIGN CHOICE 0 (log 3) -/
  serial : Nat := 0
  hwRevision : Nat := 0
  mfgDate : Nat := 0
  /-- the 46 factory records of the OTP; R601; reset: DESIGN CHOICE 0 (log 3) -/
  otp : Tab OtpRec := []
  /-- OTP_CAL_CRC as held in the OTP, and OTP_STATUS; R601, R605; reset: DESIGN CHOICE the CRC of the records, and 0 (log 34) -/
  otpCrc : W32 := 1689987497
  otpGood : Bool := false
  /-- FIO_STAT ISA_SUP_OK, ISB_SUP_OK, AI_SUP_OK, 3 bits; R627 (18); reset 0 -/
  fioSup : BitVec 3 := 0
  /-- FIO_STAT CAN_SUP_OK, 4 bits; R627 (18); reset 0 -/
  fioCan : BitVec 4 := 0
  /-- FIO_STAT KLA_ON and KLB_ON, 2 bits; R618, R627 (18); reset 0 -/
  fioKl : BitVec 2 := 0
deriving DecidableEq, Repr, Inhabited

end Sys2Proof.Machine
end

