-- ==== Sys2Proof/Machine/Mod.lean ====
section
/-! DEFINITION. The module as one record: all that the spec gives it but the queue of commands and the two copies
of the point directory. -/

namespace Sys2Proof.Machine

/-- The module. -/
structure Mod where
  plan : PlanSt := {}
  host : HostSt := {}
  store : StoreSt := {}
  power : PowerSt := {}
  chain : ChainSt := {}
  est : EstSt := {}
  conv : ConvSt := {}
  disp : DispSt := {}
  prot : ProtSt := {}
  safety : SafetySt := {}
  pair : PairSt := {}
  time : TimeSt := {}
  can : CanSt := {}
  adc : AdcSt := {}
  upd : UpdSt := {}
  /-- all the module has sent, newest first; the model's own field (log 6); reset: none -/
  sent : List Output := []
  /-- number of free values taken so far; the model's own field (log 7); reset: DESIGN CHOICE 0 (log 7) -/
  freeCtr : Nat := 0
deriving DecidableEq, Repr, Inhabited

end Sys2Proof.Machine
end

