-- ==== Sys2Proof/Syntax.lean ====
section
/-! DEFINITION. The commands the module takes, one constructor per row of the operation table, with their operands:
what the outside world brings with the command (a frame, a measured value, a drawn number) and the items it
concerns. -/

namespace Sys2Proof
open Sys2Proof.Machine

/-- A host request that has passed R413 (Table 11.4): session, SEQ, the network, address and port it came from, and its
TLVs as they stand in the payload; `malformed` where the payload is no sequence of TLVs (R411); the last of `tlvs` is then the one that runs past the payload or
whose padding is not zero (R419 step 4). -/
structure HostReq where
  session : Nat := 0
  seq : W32 := 0
  net : Nat := 0
  addr : Nat := 0
  port : Nat := 0
  tlvs : List Tlv := []
  malformed : Bool := false
deriving DecidableEq, Repr, Inhabited

/-- A request on the Rovisa port that has passed the checks of R413 (R586): session, SEQ and TLVs; `front` where it came with SESSION 0 under the zero key. -/
structure RvReq where
  session : Nat := 0
  seq : W32 := 0
  tlvs : List Tlv := []
  malformed : Bool := false
deriving DecidableEq, Repr, Inhabited

/-- How a slot fares besides the cycles it takes (R25, R59, R78): an uncorrectable error of tile memory, a blocked
DRAM access, or neither. -/
inductive SlotFault where
  | none | ecc | blocked | corrected
deriving DecidableEq, Repr, Inhabited

/-- A recovered clock: an end of a ring, or a link (R28). -/
inductive RecClk where
  | chain (n : Nat) (e : RingEnd) | link (n : Nat)
deriving DecidableEq, Repr, Inhabited

/-- A PTP Sync (R454, R459): domain, source, sequence, one-step send time, correction and receive time. -/
structure PtpSync where
  domain : Nat := 0
  source : Nat := 0
  seq : Nat := 0
  twoStep : Bool := false
  t1 : Int := 0
  corr : Int := 0
  t2 : Int := 0
deriving DecidableEq, Repr, Inhabited

/-- A PTP Follow_Up (R454). -/
structure PtpFollowUp where
  domain : Nat := 0
  source : Nat := 0
  seq : Nat := 0
  t1 : Int := 0
  corr : Int := 0
deriving DecidableEq, Repr, Inhabited

/-- A PTP Announce (R464). -/
structure PtpAnnounce where
  domain : Nat := 0
  a : Announce := {}
deriving DecidableEq, Repr, Inhabited

/-- A PTP Delay_Resp (R459). -/
structure PtpDelayResp where
  domain : Nat := 0
  source : Nat := 0
  seq : Nat := 0
  forUs : Bool := true
  t4 : Int := 0
  corr : Int := 0
deriving DecidableEq, Repr, Inhabited

/-- How a transmit attempt failed (R483, R485): arbitration lost, or an error with its LEC code and TEC increment. -/
inductive CanTxErr where
  | arbitration
  | error (lec inc : Nat)
deriving DecidableEq, Repr, Inhabited

/-- What a start finds (R561, Table 16.6): the strap pins; the unpowered time in ms; the converters' calibration results in
order; the safety self-test; block CRCs and signature of the images in slots A and B; T_MOD in 0.01 C; the voltages of the
cold frame's cell and supercapacitor in mV; the tamper mesh intact; whether the cold frame answers, and whether it has lost all power; the
IOMMU windows that firmware loads into the DMA channels (R545). -/
structure StartEnv where
  straps : BitVec 9 := 0
  offMs : Nat := 0
  cal : List (Int × Int) := []
  selftestOk : Bool := true
  /-- the CRC of the safety firmware and configuration is correct (R347). -/
  cfgOk : Bool := true
  bootA : Bool := true
  bootB : Bool := true
  tMod : Int := 2500
  cellMv : Nat := 3000
  capMv : Nat := 3000
  meshOk : Bool := true
  cfOk : Bool := true
  cfLost : Bool := false
  windows : List (Nat × List (Nat × Nat × Bool)) := []
  /-- the supplies of FIO_STAT: ISA, ISB, AI; CAN ports (R627). -/
  fioSup : BitVec 3 := 7
  fioCan : BitVec 4 := 15
deriving DecidableEq, Repr, Inhabited

/-- The commands: one constructor per row of the operation table. -/
inductive Instr where
  /-- A 10 us tick of corrected time ends and the next tick begins, driving the fixed-time work of the plan. (R457) -/
  | tick
  /-- Tick 0 of a new grain begins and GRAIN_CNT increases by one. (R40) -/
  | grainBoundary (dieT : Int)
  /-- A slot of the plan starts at its tick and start cycle, runs its kernel and commits its outputs when it retires. (R45) -/
  | slotRun (bed slotId cycles : Nat) (fault : SlotFault) (readback : Option (Int × Int))
  /-- A slot that has not retired by its deadline is aborted, its outputs are held, and the overrun is flagged and recorded. (R78) -/
  | overrun (bed slotId : Nat) (cause : OverrunCause)
  /-- A lockstep mismatch in a supervisor pair starts a warm supervisor restart of both pairs. (R16) -/
  | lockstepMismatch (pair : Nat)
  /-- The supervisor watchdog, unserved for 1 s, starts a warm supervisor restart. (R554) -/
  | supervisorWatchdog
  /-- A warm supervisor restart completes and command handling resumes. (R16) -/
  | warmRestartComplete (bootA bootB : Bool)
  /-- Three successive missing or late grain pulses make the safety processor bring the module to a safe stop. (R22) -/
  | grainPulseTimeout
  /-- Disagreement of the safety cores or a failed self-test drops every safe output, asserts BP_TRIP_N and trips every link: the cores disagree (0) or fail their self-test (1); so does a bad CRC of the firmware or the configuration (2) or a failed RAM test (3). (R23, R347) -/
  | safetyCoreFault (cause : Nat)
  /-- Every 1 ms the safety processor measures the module clocks and acts on a clock out of tolerance twice. (R30) -/
  | clockMeasurement (clk : Nat) (ppm : Int)
  /-- Loss of lock of a chain or link recovered clock is reported and treated as missing frames. (R28) -/
  | recoveredClockUnlock (clk : RecClk)
  /-- The admission check of a loaded plan image ends, staging the candidate or refusing it with a completion notice. (R64) -/
  | planCheckComplete
  /-- At the activation grain of a full image the fabric loads the new plan and runs the idle sweep for one grain. (R68) -/
  | planRestart
  /-- At the activation grain of a bed image the tile switches slot table banks and the new bed runs. (R72) -/
  | bedReplant
  /-- A response frame from a monitor arrives at a ring end and is accepted or discarded. (R106) -/
  | chainResponse (ring : Nat) (rx : ChainRx)
  /-- The response window of a chain transaction ends and missing responses are handled, with retries or MON_NORESP. (R107) -/
  | chainTransactionClose (ring : Nat) (far : Option Nat)
  /-- Every 1 s after an enumeration fault the ring is enumerated again. (R117) -/
  | enumRetry (ring : Nat)
  /-- Two grains after a challenge the module sends AUTH_READ and verifies the tag. (R122) -/
  | authReadDue (ring mon : Nat)
  /-- No tag within 10 grains of a challenge records AUTH_FAIL and marks the cells UNAUTH. (R122) -/
  | authTimeout (ring mon : Nat)
  /-- The 60 s or 600 s repeat of monitor authentication falls due. (R122) -/
  | reauthDue (ring mon : Nat) (nonce : List Byte)
  /-- 10 ms after its wake tone began the module sends ENUM as the first command to the woken ring. (R125) -/
  | ringWakeDone (ring : Nat)
  /-- Wake tone not sent by the module arrives at a ring end and the ring is treated as woken. (R126) -/
  | monitorWakeTone (ring : Nat) (e : RingEnd)
  /-- Alarm tone is declared at a ring end, and the safety processor trips the link, latches TONE_TRIP and opens the contactor. (R150) -/
  | alarmToneDeclared (ring : Nat) (e : RingEnd)
  /-- Alarm tone is declared absent at a ring end after two missing periods. (R92) -/
  | alarmToneAbsent (ring : Nat) (e : RingEnd)
  /-- Every 10 s the safety processor injects a test tone into each configured ring-end detector. (R153) -/
  | toneDetectorTest (ring : Nat) (failed : BitVec 2)
  /-- SENSE_OPEN_HOLD after confirmation of an interior open tap the module issues a string-open request. (R159) -/
  | senseOpenHoldExpiry (ring mon tap : Nat)
  /-- A monitor's periodic full open-wire test falls due within OW_PERIOD. (R162) -/
  | fullTestDue (ring mon : Nat)
  /-- Every BAL_PERIOD the fabric computes each cell's charge to bleed and the timers to write. (R163) -/
  | balancePlan (string : Nat)
  /-- Rest reaching EST_REST_MIN, EST_REST_T or each further 600 s takes a rest anchor. (R193) -/
  | restAnchor (string : Nat)
  /-- A 10,000-grain impedance interval ends, results are validated, fitted and impedance anchors taken. (R202) -/
  | impedanceIntervalEnd
  /-- 3,600 s without a deviating reading clears CFLAGS.ANOMALY. (R185) -/
  | anomalyClear (gidx : Nat)
  /-- In its grain the fabric copies a string's estimator state into the checkpoint buffer. (R211) -/
  | checkpointCapture (string : Nat)
  /-- A checkpoint's final page becomes durable and the checkpoint counts as written. (R541) -/
  | checkpointWriteComplete (string : Nat) (ok : Bool)
  /-- A host restore finishes applying records and sends its completion notice. (R214) -/
  | estRestoreComplete
  /-- EST_RESTORE_WAIT after the local restore the string's estimator becomes ready. (R215) -/
  | restoreWaitExpiry (string : Nat)
  /-- An upstream frame arrives from a far end and is accepted within the alignment window or discarded. (R230) -/
  | upstreamFrame (link : Nat) (frame : UpFrame)
  /-- 50 successive discarded upstream frames send LOCAL_RAMP and record KLINK_LOST. (R239) -/
  | klinkLost (link : Nat)
  /-- Upstream frames not returned within 3 ms of LOCAL_RAMP issue a string-open request. (R239) -/
  | localRampTimeout (link : Nat)
  /-- After 16 training frames the module writes FIBRE_DELAY or faults the link for LONG_FIBRE. (R234) -/
  | fibreDelayMeasure (link : Nat)
  /-- 100 successive frames within ±20 ns of A align the link and identity is read. (R234) -/
  | linkAligned (link : Nat)
  /-- 16 successive frames outside ±40 ns of A send the link back through training. (R234) -/
  | alignmentLost (link : Nat)
  /-- A far-end register access unanswered for 8 frames is recorded and the next access begins. (R235) -/
  | regTimeout (link : Nat)
  /-- A trip request reaches a link injector and K28.6 symbols are sent until it ends. (R236) -/
  | tripRequest (link : Nat)
  /-- A pending pruning decision commits at the boundary of G+3 and offsets are respread. (R247) -/
  | pruneCommit (link : Nat)
  /-- A shed phase armed 5 ms with no add becomes DISABLED. (R246) -/
  | armTimerExpiry (link phase : Nat)
  /-- HICCUP_N successive limited cycles send a phase to HICCUP or LATCHED. (R246) -/
  | hiccupEntry (link phase : Nat)
  /-- HICCUP_TIME elapsed returns a phase to SOFT with a ramped reference. (R246) -/
  | hiccupTimeExpiry (link phase : Nat)
  /-- HICCUP_CLEAR seconds without a hiccup return the retries used to 0. (R246) -/
  | hiccupClearExpiry (link phase : Nat)
  /-- OPEN_N successive samples meeting the open condition latch the phase with cause OPEN. (R249) -/
  | phaseOpenDetect (link phase : Nat)
  /-- A stuck or deviating phase current sense makes the phase MIRRORED or LATCHED. (R250) -/
  | phaseSenseFail (link phase : Nat)
  /-- 2 s in MIRRORED latch the phase with cause SENSE. (R246) -/
  | mirrorTimeout (link phase : Nat)
  /-- FE_PH_N successive phase following errors latch the phase with cause FOLLOW. (R244) -/
  | phaseFollowLatch (link phase : Nat)
  /-- FE_ST_N successive string following errors send the string to SOFT_STOP then FAULT. (R244) -/
  | stringFollowStop (link : Nat)
  /-- FE_PW_N successive power following errors set FOLLOW_PW and record it. (R244) -/
  | powerFollowFlag (link : Nat)
  /-- |p_ref| below BURST_ENTER for 100 grains moves the link to BURST. (R245) -/
  | burstEntry (link : Nat)
  /-- Every 10 s the burst phase is chosen again. (R248) -/
  | burstPhaseReselect (link : Nat)
  /-- String current below 1 % for 10 grains ends SOFT_STOP to OFF or FAULT. (R245) -/
  | softStopComplete (link : Nat)
  /-- SOFT_STOP_MAX elapsed trips the link. (R245) -/
  | softStopTimeout (link : Nat)
  /-- Grain EXP reached frees the lease and applies LEASE_EXPIRY_ACTION. (R260) -/
  | leaseExpiry
  /-- AI_BAD_GRAINS or ten invalid grains of the set-point source make a source fault. (R269) -/
  | sourceFault
  /-- SRC_RECOVER successive valid grains clear a source fault. (R269) -/
  | sourceRecover
  /-- REST_WIN_LEN elapsed ends a rest window and the string's weight rises again. (R291) -/
  | restWindowEnd (string : Nat)
  /-- A request standing REST_PEND_MAX without grant is refused and REST_DENIED set. (R292) -/
  | restPendExpiry (string : Nat)
  /-- Every string named in STRING_SERVICE has succeeded or failed and the completion notice is sent. (R288) -/
  | serviceComplete
  /-- SENSOR_BAD_AGE reaching SENSOR_BAD_HOLD issues a string-open request. (R301) -/
  | sensorBadHoldExpiry (string : Nat)
  /-- The 10 s or 60 s band timer moves the derating step k. (R302) -/
  | derateStepTimer (string : Nat)
  /-- A string current beyond its window for OC_DEGLITCH drives the trip injector directly. (R305) -/
  | ocComparatorEvent (string : Nat) (above active : Bool)
  /-- PROT_CONT_DELAY after an open request the safety processor switches the group output off. (R308) -/
  | contDelayExpiry (group : Nat)
  /-- CONT_FB_TIME after a switching the feedback is judged, recording a weld or a failed closing. (R311) -/
  | contFbTimeout (group : Nat)
  /-- Feedback reporting open while the output is on records CONT_DROP and opens the group. (R311) -/
  | contactorFeedbackChange (group : Nat) (closed : Bool)
  /-- Every HVAC_PERIOD a thermal request is sent for each zone with strings. (R318) -/
  | hvacRequest (zone : Nat)
  /-- Each 1 ms the safety cores evaluate every safety function and output. (R325) -/
  | safetyCycle (meas : List SqMeas)
  /-- A safe input channel level held for its filter is accepted and the function state evaluated. (R329) -/
  | safeInputChange (optical : Bool) (idx : Nat) (second level : Bool)
  /-- A disagreement reaching SI_DISC or OI_DISC latches DISC_FAULT. (R330) -/
  | discrepancyTimeout (optical : Bool) (idx : Nat)
  /-- A test-pulse source drops to 0 V for 400 us at its grain boundary and reads back its output. (R620) -/
  | testPulseGap (source : Nat) (readback : Bool) (missing : List Nat)
  /-- The RESET input opening after a 0.1–5.0 s press takes effect as a reset. (R339) -/
  | resetInputRelease (idx : Nat)
  /-- TWO_HAND_SYNC elapsing in ARMING blocks the two-hand enable. (R337) -/
  | twoHandSyncExpiry
  /-- 1 ms after the low side the high side of a safe output closes. (R342) -/
  | sqHighSideOn (sq : Nat)
  /-- A switch of an on output is pulsed off for its periodic test. (R343) -/
  | offPulseTest (sq : Nat)
  /-- At the end of an off-pulse the node is judged and HS_FAULT or LS_FAULT counted. (R343) -/
  | offPulseEnd (sq : Nat) (node : PulseMeas)
  /-- Output current below 20 mA for 100 ms reports OPEN_LOAD. (R344) -/
  | openLoadTimeout (sq : Nat)
  /-- A fallow timer expires and every string of its scope is brought to a safe stop. (R351) -/
  | fallowExpiry
  /-- Every CLOCHE_PERIOD a Cloche frame is produced on each connection not OFF. (R354) -/
  | clocheSend (graft : Bool)
  /-- A Cloche frame arrives and is accepted or discarded, moving the connection state. (R355) -/
  | clocheFrameReceive (graft : Bool) (src : NetSrc) (frame : List Byte) (port : Nat)
  /-- CLOCHE_WDOG without an accepted frame fails the connection. (R356) -/
  | clocheWatchdogExpiry (graft : Bool)
  /-- The partner asserting BP_TRIP_N holds every string in the safe state. (R341) -/
  | partnerBpTrip (asserted : Bool)
  /-- A field supply falls below or returns above 19.2 V and FIELD_LOW is recorded. (R622) -/
  | fieldSupplyChange (supply mv : Nat)
  /-- 60 s after a stage without commit the staged safety configuration lapses. (R326) -/
  | safeStageExpiry
  /-- No replay record for 10 grains makes the standby switch its safe outputs off. (R375) -/
  | standbyReplayTimeout
  /-- The stored or idle plan is admitted with self-diagnosis passed and the role-line decision is made. (R374) -/
  | rolePoint
  /-- PAIR_FORM_WAIT after the role point the preferred module asserts its role line, or the other after a further 200 ms. (R374) -/
  | pairFormWaitExpiry
  /-- A role line is asserted or released, enabling or disabling role drivers and CAN transmission. (R372) -/
  | roleLineChange (asserted : Bool)
  /-- PTR_PRES_N released for 100 ms puts the module in single operation. (R373) -/
  | partnerAbsent
  /-- A module finding its partner active joins as standby through its ordered steps. (R395) -/
  | joinPair
  /-- The standby receives a replay record and runs the logical grain from it. (R378) -/
  | replayRecordReceive (r : ReplayRec) (image : Option BedImage) (exch : List (Nat × BedImage))
  /-- Frames and observations at the standby's ring end are forwarded to the active module. (R376) -/
  | fieldForward (resps : List (Nat × ChainResp)) (ends : List (Nat × EndObs)) (tones : List (Nat × BitVec 2)) (ready : Bool)
  /-- No trailer by tick 10 counts a missed heartbeat and discards the record. (R382) -/
  | heartbeatMiss
  /-- PAIR_RESYNC_RETRY after three failed resynchronisations a new one starts. (R385) -/
  | resyncRetryExpiry
  /-- 20 us before boundary T the yielding module releases its role line. (R387) -/
  | yieldRoleRelease
  /-- The standby asserts its role line at a boundary and drives from its first logical grain. (R388) -/
  | takeover
  /-- PAIR_DRILL_PERIOD since the last takeover makes a drill due and it runs when conditions hold. (R397) -/
  | drillDue
  /-- PAIR_DRILL_DEFER without the conditions records DRILL_OVERDUE. (R397) -/
  | drillOverdue
  /-- 200 grains after a drill's handover the drill is judged passed or failed. (R398) -/
  | drillCheck
  /-- A graft lane goes down or up and traffic moves between lanes. (R377) -/
  | graftLaneChange (lane : Nat) (up : Bool)
  /-- PRES_N asserted for 50 ms turns on the hot-swap switch and charges the stores. (R400) -/
  | insertion
  /-- PRES_N released for 100 us yields or ramps links and flushes the recorder. (R401) -/
  | extractionWarning
  /-- PRES_N asserted again for 1 s after a warning performs a module restart. (R401) -/
  | presenceReturn (env : StartEnv)
  /-- A command packet arrives and is discarded or checked and executed. (R413) -/
  | udpPacketReceive (net addr port dest : Nat) (bytes : List Byte)
  /-- SESSION_OPEN opens a session under a credential and derives the session key. (R414) -/
  | sessionOpen (rq : HostReq)
  /-- SESSION_CLOSE closes the session, its streams, mailbox and notice queue. (R415) -/
  | sessionClose (rq : HostReq)
  /-- NOP keeps the session alive. (R423) -/
  | nop (rq : HostReq)
  /-- NOTICE_ACK acknowledges a notice and removes it from the queue. (R422) -/
  | noticeAck (rq : HostReq)
  /-- POINT_READ returns points from one complete directory copy. (R430) -/
  | pointRead (rq : HostReq)
  /-- STREAM_OPEN opens a point stream within the stream limits. (R431) -/
  | streamOpen (rq : HostReq)
  /-- STREAM_CLOSE closes a point stream. (R431) -/
  | streamClose (rq : HostReq)
  /-- PARAM_READ returns parameter values with their types. (R435) -/
  | paramRead (rq : HostReq)
  /-- PARAM_WRITE checks every entry and applies all in one effective grain. (R435) -/
  | paramWrite (rq : HostReq)
  /-- DIAG_READ returns diagnostic-window registers in ascending order. (R441) -/
  | diagRead (rq : HostReq)
  /-- DIAG_WRITE writes registers that have no row of their own, under Table 0.4. (R441) -/
  | diagWrite (rq : HostReq)
  /-- XA_READ returns bytes from the host exchange area. (R442) -/
  | xaRead (rq : HostReq)
  /-- XA_WRITE writes bytes into the host exchange area whole. (R443) -/
  | xaWrite (rq : HostReq)
  /-- MBX_POST fills the inbound mailbox and interrupts the supervisor or forwards to the partner. (R445) -/
  | mbxPost (rq : HostReq)
  /-- MBX_READ returns the outbound mailbox. (R447) -/
  | mbxRead (rq : HostReq)
  /-- MBX_ACK releases the outbound mailbox and clears collision or CROSS bits. (R447) -/
  | mbxAck (rq : HostReq)
  /-- The supervisor takes an inbound message, clears IN_FULL and acts on it. (R446) -/
  | supervisorMbxTake (slot : Nat)
  /-- The supervisor writes the outbound mailbox, sets OUT_FULL and sends a DOORBELL. (R447) -/
  | outboundMbxWrite (slot ptr len type domain : Nat)
  /-- IN_FULL and OUT_FULL both set longer than MBX_CROSS_T set CROSS. (R448) -/
  | mbxCrossTimeout (slot : Nat)
  /-- EST_READ writes the cell estimate records to DEST. (R217) -/
  | estRead (rq : HostReq)
  /-- EST_RESTORE checks a restore image and starts applying it. (R214) -/
  | estRestore (rq : HostReq)
  /-- EST_RESET resets the history of a cell, monitor or string. (R209) -/
  | estReset (rq : HostReq)
  /-- RECORD_QUERY returns event records, catalogue entries or archive records to DEST. (R534) -/
  | recordQuery (rq : HostReq)
  /-- RECORDER_CLEAR issues a confirmation or, with it, clears the recorder. (R536) -/
  | recorderClear (rq : HostReq)
  /-- A two-step confirmation value lapses after 30 s. (R536) -/
  | confirmExpiry (sid : Nat)
  /-- LEASE_CLAIM takes a FREE lease for the session by priority. (R260) -/
  | leaseClaim (rq : HostReq)
  /-- LEASE_RENEW moves the owner's expiry grain. (R261) -/
  | leaseRenew (rq : HostReq)
  /-- LEASE_RELEASE frees the lease and applies the expiry action. (R263) -/
  | leaseRelease (rq : HostReq)
  /-- LEASE_REVOKE frees the lease by a steward or keeper. (R263) -/
  | leaseRevoke (rq : HostReq)
  /-- SET_POWER sets the owner's power target. (R266) -/
  | setPower (rq : HostReq)
  /-- MOVE_START begins an energy move. (R274) -/
  | moveStart (rq : HostReq)
  /-- MOVE_RETARGET changes the total energy of the running or kept move. (R276) -/
  | moveRetarget (rq : HostReq)
  /-- STOP brings p to 0 and keeps any running move. (R277) -/
  | stop (rq : HostReq)
  /-- RESUME returns a stopped generator to FOLLOW or the kept move. (R277) -/
  | resume (rq : HostReq)
  /-- TRIP starts the contactor-opening sequence for the named strings. (R279) -/
  | trip (rq : HostReq)
  /-- STRING_SERVICE takes strings into or out of service. (R288) -/
  | stringService (rq : HostReq)
  /-- PLAN_LOAD copies a plan image into staging and starts admission. (R63) -/
  | planLoad (rq : HostReq)
  /-- PLAN_ACTIVATE schedules activation of the staged candidate. (R66) -/
  | planActivate (rq : HostReq)
  /-- PLAN_DISCARD discards the staged candidate and its schedule. (R63) -/
  | planDiscard (rq : HostReq)
  /-- PROT_CLEAR clears latched causes whose conditions hold and sends TRIP_CLEAR. (R314) -/
  | protClear (rq : HostReq)
  /-- TONE_RESET clears TONE_TRIP on named strings whose tone has been absent long enough. (R152) -/
  | toneReset (rq : HostReq)
  /-- SENSE_CLEAR releases intermittent or compatibility-ring sense suspicions of a monitor. (R158) -/
  | senseClear (rq : HostReq)
  /-- SAFETY_RESET gives a reset from the command interface. (R339) -/
  | safetyReset (rq : HostReq)
  /-- CONV_FAULT_CLEAR moves named links out of FAULT when their cause is gone. (R245) -/
  | convFaultClear (rq : HostReq)
  /-- PHASE_CLEAR returns latched phases to DISABLED with the string OFF. (R246) -/
  | phaseClear (rq : HostReq)
  /-- ENUMERATE requests enumeration of the named rings. (R119) -/
  | enumerate (rq : HostReq)
  /-- CLR_OVERRUN clears the overrun RS bits and PEAK_USED. (R86) -/
  | clrOverrun (rq : HostReq)
  /-- CLR_CHAIN_CNT clears the chain counters of named rings. (R129) -/
  | clrChainCnt (rq : HostReq)
  /-- CLR_CONV_FLAGS clears the sticky KLNK_SAT flags. (R241) -/
  | clrConvFlags (rq : HostReq)
  /-- CLR_CONV_CNT clears the converter link counters. (R254) -/
  | clrConvCnt (rq : HostReq)
  /-- CLR_SAFETY_CNT clears the safety counters so marked. (R364) -/
  | clrSafetyCnt (rq : HostReq)
  /-- CLR_PAIR_CNT clears the pair RS bits and counters. (R402) -/
  | clrPairCnt (rq : HostReq)
  /-- RESTART requests a warm supervisor restart or a module restart. (R425) -/
  | restart (rq : HostReq)
  /-- ROLE_SWAP makes the active module yield to a ready partner. (R387) -/
  | roleSwap (rq : HostReq)
  /-- SESSION_IDLE without an accepted request closes a session. (R415) -/
  | sessionIdleTimeout (sid : Nat)
  /-- An unacknowledged notice is resent every NOTICE_RETRY until dropped. (R422) -/
  | noticeResend (sid seq : Nat)
  /-- A stream cycle sends the previous grain's directory copy, or skips it. (R431) -/
  | streamCycle (id : Nat) (fits : Bool)
  /-- SP0 evaluates watches on a complete directory copy and fires or re-arms them. (R440) -/
  | watchEvaluation
  /-- AUTH_BLOCK_T after blocking a source address it is served again. (R413) -/
  | authBlockExpiry (addr : Nat)
  /-- A read of GRN_NOW latches GRAIN_CNT for the following read. (R42) -/
  | grnNowRead
  /-- A read of the low register of an s64 dispatch value latches its high register. (R293) -/
  | s64LowRead (off : Nat)
  /-- A read of TIME_NS latches TIME_WRAP. (R467) -/
  | timeNsRead
  /-- A read of TIME_SEC_LO latches TIME_SEC_HI. (R467) -/
  | timeSecLoRead
  /-- A read of DRAM_UE_LO latches DRAM_UE_HI. (R550) -/
  | dramUeLoRead
  /-- An accepted Sync forms an offset and the servo steers INCR. (R459) -/
  | ptpSyncReceive (port : Nat) (f : PtpSync)
  /-- An Announce is compared and may change the selected parent. (R464) -/
  | ptpAnnounceReceive (port : Nat) (f : PtpAnnounce)
  /-- A Delay_Resp completes a delay exchange for path delay filtering. (R459) -/
  | ptpDelayRespReceive (port : Nat) (f : PtpDelayResp)
  /-- Every 2^PTP_DELAY_LOG s a Delay_Req is sent. (R454) -/
  | delayReqSend (port : Nat) (t3 : Int)
  /-- A PTP frame of the domain is forwarded out of the other port with residence time added. (R465) -/
  | ptpTcForward (port domain kind : Nat) (corr ingress egress : Int) (frame : List Byte)
  /-- PTP_ANN_TIMEOUT intervals without Announce drop that port's parent. (R454) -/
  | announceTimeout (port : Nat)
  /-- No acceptable parent for PTP_SYNC_LOSS enters HOLDOVER with INCR frozen. (R460) -/
  | syncLossTimeout
  /-- HOLDOVER lasting PTP_HOLD_MAX clears TIME_VALID. (R461) -/
  | holdMaxExpiry
  /-- SP1 extends the nanosecond count in software at least every 1,000 s. (R457) -/
  | timeExtend
  /-- An armed TIME_FORCE_STEP lapses after 60 s. (R463) -/
  | forceStepExpiry
  /-- The locked INCR is saved to the cold frame hourly while LOCKED. (R469) -/
  | incrSave
  /-- A CAN frame matching a receive object replaces its contents, or is dropped as unmatched. (R480) -/
  | canFrameReceived (port : Nat) (frame : CanFrame) (bits : Nat)
  /-- A pending transmit frame completes successfully. (R483) -/
  | canTxSuccess (port bits : Nat)
  /-- A transmit attempt loses arbitration or meets an error and retries or sets TX_FAIL. (R483) -/
  | canTxError (port : Nat) (e : CanTxErr)
  /-- 128 × 11 recessive bits complete recovery and stranded objects contend again. (R487) -/
  | canRecoveryComplete (port : Nat)
  /-- Writing RECOVER starts bus-off recovery. (R487) -/
  | canCtrlRecover (port : Nat)
  /-- Writing DETECT starts rate detection on a listen-only port. (R477) -/
  | canCtrlDetect (port : Nat)
  /-- DET_DWELL at one rate ends and the next rate is tried or the result reported. (R477) -/
  | detectDwellExpiry (port : Nat)
  /-- Writing ABORT_ALL clears every pending state of the port. (R494) -/
  | canCtrlAbortAll (port : Nat)
  /-- Writing CLEAR_FLAGS clears the port's RS bits and object LOST and TX_FAIL flags. (R493) -/
  | canCtrlClearFlags (port : Nat)
  /-- Writing GO hands staged data to a transmit object and makes it pending. (R482) -/
  | canTxwGo (port : Nat)
  /-- Reading the first image word locks a CAN object. (R481) -/
  | canObjectFirstRead (port obj : Nat)
  /-- Reading the last image word releases the object and moves any held frame in. (R481) -/
  | canObjectLastRead (port obj : Nat)
  /-- A lock unreleased after 2 us is released by hardware with LOCK_ABORT. (R481) -/
  | canLockTimeout (port : Nat)
  /-- A time slave receives a reference message and sets cycle time 0. (R489) -/
  | ttReferenceReceive (port cycle : Nat)
  /-- A time-triggered window opens and its object is sent or skipped with TT_MISS. (R489) -/
  | ttWindowStart (port obj : Nat) (busIdle : Bool)
  /-- No reference within TT_LOSS intervals clears TT_SYNC and records TT_LOST. (R489) -/
  | ttLossTimeout (port : Nat)
  /-- A timer or carrier trigger starts a regular conversion round. (R500) -/
  | adcRoundTrigger (conv : Nat) (codes : List Int)
  /-- A comparator or carrier trigger starts an injected sequence. (R503) -/
  | adcInjectedTrigger (conv : Nat) (src : Option Nat) (atNs : Nat) (codes : List Int)
  /-- Writing INJ_GO starts an injected sequence by command. (R503) -/
  | adcCtrlInjGo (conv atNs : Nat) (codes : List Int)
  /-- Writing CAL starts self-calibration of a converter. (R513) -/
  | adcCtrlCal (mask : BitVec 3)
  /-- Self-calibration ends and its result is accepted, repeated or fails the converter. (R513) -/
  | adcCalComplete (conv : Nat) (offset gain : Int)
  /-- Writing CLR_ADC clears the ADC RS bits. (R517) -/
  | adcCtrlClr
  /-- 100 grains of mismatch set, or 1,000 grains within limit clear, IMPLAUSIBLE. (R507) -/
  | implausibleChange (string : Nat)
  /-- A filtered pulse edge is stamped and completes a period. (R511) -/
  | piPulse (pi : Nat) (edge : PiEdge) (heldUs periodNs : Nat)
  /-- 100 ms without a pulse sets NO_PULSE. (R511) -/
  | piNoPulseTimeout (pi : Nat)
  /-- Current above 25 mA opens the burden and invalidates the input. (R510) -/
  | aiBurdenOpen (ai : Nat)
  /-- 1 s after opening the burden closes again. (R510) -/
  | aiBurdenReclose (ai : Nat)
  /-- An event record is taken into the SRAM and DRAM rings. (R528) -/
  | recordPost (code item block : Nat) (data : List Byte)
  /-- A flush of not yet durable records starts on period, fill, fault class or power event. (R529) -/
  | flushStart
  /-- A flush completes and the flush marker is written. (R530) -/
  | flushComplete
  /-- The end of an operating-hours second records REC_SUPPRESSED for withheld records. (R532) -/
  | rateSecondEnd
  /-- Writing the cursor position or control refills the cursor window. (R535) -/
  | recCurPosWrite (pos : Option W32) (ctrl : Option (BitVec 3))
  /-- Reading the last word of REC_CUR_DATA advances the cursor and refills the window. (R535) -/
  | recCurDataLastRead
  /-- ARCH_PERIOD of operating hours ends and a fine archive record is written. (R537) -/
  | archiveFinePeriod (string : Nat)
  /-- 24 h of operating hours end and a coarse archive record is written. (R537) -/
  | archiveCoarseDay (string : Nat)
  /-- A configuration bank write reaches its commit page and becomes the set in force. (R524) -/
  | configWriteComplete
  /-- A page write fails twice and the page is mapped to the reserve. (R523) -/
  | flashPageWriteFail (partition addr : Nat)
  /-- The flash life used reaches the warning level or 100 % and partitions become read-only. (R523) -/
  | flashLifeChange (life : Nat) (reserveOut : Bool)
  /-- The patrol scrubber reads DRAM once every DRAM_SCRUB_H. (R543) -/
  | scrubPass (corrected : Nat) (bad : List Nat)
  /-- A read of a poisoned DRAM line has the consequence for its region. (R544) -/
  | dramUeRead (addr reader bed slotId : Nat) (use : DmaUse)
  /-- A DMA descriptor completes and the chain continues or ends. (R546) -/
  | dmaDescriptorDone (ch : Nat) (next : DmaDesc)
  /-- A DMA channel faults mid-transfer and the requesting operation fails. (R547) -/
  | dmaFault (ch cause bytes : Nat)
  /-- The main input is good after power-up or insertion and the start-up sequence runs. (R561) -/
  | coldStart (insertion : Bool) (env : StartEnv)
  /-- A requested module restart runs its stop sequence and the start-up from 5 ms. (R556) -/
  | moduleRestart (env : StartEnv)
  /-- Release of an armed press acts by its length. (R564) -/
  | restartButtonRelease
  /-- A press held 10,001 ms is declared stuck and the button disarmed. (R565) -/
  | buttonStuck
  /-- 2,000 ms of release rearms a disarmed button. (R565) -/
  | buttonRearm
  /-- Every 1 s the straps are read again and a change recorded. (R560) -/
  | strapRecheck (pins : BitVec 9)
  /-- Input below 37 V for 100 us declares power failure, flushing and yielding or ramping down. (R563) -/
  | powerFailure (vin : Nat)
  /-- Input back above 40 V for 1 s performs a module restart. (R563) -/
  | powerRecovered (env : StartEnv)
  /-- A mesh, glitch or authentication violation is logged, locks or erases. (R572) -/
  | secViolation (source : Nat) (powered holds : Bool)
  /-- The cold-frame cell below 2.70 V sets and records CELL_LOW. (R566) -/
  | cellLow (mv : Nat)
  /-- KEY_LOAD unwraps and stores a credential or chain root key. (R571) -/
  | keyLoad (rq : HostReq)
  /-- SEC_SET changes the violation responses. (R573) -/
  | secSet (rq : HostReq)
  /-- SEC_UNLOCK ends the lock with confirmation. (R574) -/
  | secUnlock (rq : HostReq)
  /-- SEC_ERASE performs a security erase with confirmation. (R575) -/
  | secErase (rq : HostReq)
  /-- FACTORY_RESTORE resets class P items and restarts the module. (R576) -/
  | factoryRestore (rq : HostReq)
  /-- PARK sets or clears the park request and restarts the module. (R562) -/
  | park (rq : HostReq)
  /-- SEC_CLEAR clears the security RS bits. (R583) -/
  | secClear (rq : HostReq)
  /-- RV_OPEN opens a Rovisa session or a presence session. (R586) -/
  | rvOpen (rq : RvReq)
  /-- RV_CLOSE closes the Rovisa session. (R586) -/
  | rvClose (rq : RvReq)
  /-- RV_INFO returns the identity parameters. (R605) -/
  | rvInfo (rq : RvReq)
  /-- UPD_BEGIN prepares the inactive slot to receive an image. (R591) -/
  | updBegin (rq : RvReq)
  /-- UPD_BLOCK stores one checked image block durably. (R592) -/
  | updBlock (rq : RvReq)
  /-- UPD_VERIFY starts verification of the received image. (R593) -/
  | updVerify (rq : RvReq)
  /-- Verification ends and the slot becomes VERIFIED or INVALID. (R593) -/
  | updVerifyComplete
  /-- UPD_STATUS returns the update state. (R594) -/
  | updStatus (rq : RvReq)
  /-- UPD_ACTIVATE makes the slot TRIAL and restarts by its activation kind. (R595) -/
  | updActivate (rq : RvReq)
  /-- UPD_CONFIRM makes the trial slot ACTIVE. (R597) -/
  | updConfirm (rq : RvReq)
  /-- 600 s of trial without fault confirms the slot. (R597) -/
  | trialAutoConfirm
  /-- UPD_ROLLBACK activates the other slot. (R598) -/
  | updRollback (rq : RvReq)
  /-- UPD_ABORT returns the inactive slot to EMPTY unless TRIAL. (R589) -/
  | updAbort (rq : RvReq)
  /-- SAFE_STAGE checks a complete safety configuration and returns both core copies with CRCs. (R326) -/
  | safeStage (rq : RvReq)
  /-- SAFE_COMMIT activates the staged safety configuration. (R326) -/
  | safeCommit (rq : RvReq)
  /-- KEY_LOAD_CLEAR loads a key in the clear in a presence session. (R571) -/
  | keyLoadClear (rq : RvReq)
  /-- CAL_READ returns the factory calibration records. (R601) -/
  | calRead (rq : RvReq)
  /-- CAL_RESET zeroes the user calibration of the masked slots. (R603) -/
  | calReset (rq : RvReq)
  /-- A Rovisa DIAG_READ returns registers, or the cursor registers without a session. (R587) -/
  | rvDiagRead (rq : RvReq)
  /-- A Rovisa DIAG_WRITE writes registers, or the cursor registers without a session. (R587) -/
  | rvDiagWrite (rq : RvReq)
  /-- SVC_ENTER opens the service window. (R599) -/
  | svcEnter (rq : RvReq)
  /-- SVC_LEAVE closes the service window. (R599) -/
  | svcLeave (rq : RvReq)
  /-- RV_RESTART requests a restart through the Rovisa port. (R425) -/
  | rvRestart (rq : RvReq)
  /-- 600 s without an accepted request closes the Rovisa session. (R586) -/
  | rvSessionIdle
  /-- USB disconnection closes the Rovisa session and the service window. (R586) -/
  | usbDisconnect
  /-- A chain or converter-link recovered clock regains lock, setting its lock bit and clearing or reporting an inverted pair. (R39) -/
  | recoveredClockLock (clk : RecClk) (inverted : Bool)
  /-- A plant network port's 10GBASE-KR link comes up or goes down, changing NET_A_UP or NET_B_UP after LINK_DOWN_HOLD. (R614) -/
  | networkLinkChange (net : Nat) (up : Bool)
  /-- PTR_PRES_N becomes asserted again and a module in single operation returns to pair operation. (R373) -/
  | partnerPresent
  /-- The hold-up store runs down after a power failure or extraction and the module loses power, leaving only the cold frame alive on its cell. (R35) -/
  | holdupExhausted
  /-- The flash device stops or resumes responding, setting or clearing FLASH_HOLD and letting held records flush again. (R533) -/
  | flashResponseChange (responding : Bool)
  /-- The debounced start of a front-button press begins its hold timing, or restarts the re-arm count while disarmed. (R564) -/
  | restartButtonPress
  /-- A message from the partner's supervisor arrives in the graft mailbox, such as a forwarded STOP or TRIP or a candidate check report. (R449) -/
  | graftMailboxReceive (kind : Nat) (ptr len type : Nat) (body : List Byte)
  /-- A recorder query that read flash finishes and its completion notice with QUERY_RESULT is sent. (R534) -/
  | recordQueryComplete (sid : Nat)
  /-- A Follow_Up of a two-step Sync arrives and completes the offset that the servo then judges. (R454) -/
  | ptpFollowUpReceive (port : Nat) (f : PtpFollowUp)
  /-- A bus error is detected while receiving on a CAN port, raising REC and possibly moving the port to error passive. (R485) -/
  | canRxError (port lec inc : Nat)
deriving DecidableEq, Repr, Inhabited

end Sys2Proof
end

