-- ==== Sys2Proof/Decode.lean ====
section
/-! DEFINITION. The decoder over the rows of the operation table that give bits: none does. -/

namespace Sys2Proof

/-- The command that a word spells by the table's bits; the table gives no row bits (log 14). -/
def decodeTableWord (_nbits _w : Nat) : Option Instr := none

end Sys2Proof
end

