-- ==== Sys2Proof/Machine/Operands.lean ====
section
/-! DEFINITION. The items of the module that a command's operands may name: how many there are of each (R3, R104, R222, R325,
R370, R453, R474, R500). A command that names an item the module does not have changes nothing. -/

namespace Sys2Proof.Machine

/-- Strings S0-S31, their rings, beds and links. -/
def okString (n : Nat) : Bool := decide (n < 32)
/-- Monitor 0-39 of a ring. -/
def okMon (n a : Nat) : Bool := okString n && decide (a < 40)
/-- Tap 0-16 of a monitor: tap k is the wire above cell k. -/
def okTap (n a t : Nat) : Bool := okMon n a && decide (t ≤ 16)
/-- Cell 0-20,479 of the module. -/
def okCell (g : Nat) : Bool := decide (g < 20480)
/-- Phase 0-5 of a link. -/
def okPhase (n p : Nat) : Bool := okString n && decide (p < 6)
/-- A bed: a string's, or the common bed, 32. -/
def okBed (b : Nat) : Bool := decide (b ≤ 32)
/-- Contactor group, safe output or thermal zone 0-7. -/
def okGroup (g : Nat) : Bool := decide (g < 8)
/-- Safe input 0-15, or optical input 0-3. -/
def okInput (optical : Bool) (i : Nat) : Bool := decide (i < if optical then 4 else 16)
/-- Test-pulse source, field supply, graft lane, plant network or PTP port 0-1. -/
def okTwo (k : Nat) : Bool := decide (k < 2)
/-- A fault of the safety processor: 0 and 1 of its cores (R23), 2 of its configuration or firmware, 3 of its RAM (R347). -/
def okCore (k : Nat) : Bool := decide (k < 4)
/-- A clock of CLK_STAT, 0-4. -/
def okClock (k : Nat) : Bool := decide (k < 5)
/-- CAN port 0-3, and object 0-255 of one. -/
def okCan (p : Nat) : Bool := decide (p < 4)
def okObj (p o : Nat) : Bool := okCan p && decide (o < 256)
/-- Converter A, B or C of the ADC. -/
def okConv (c : Nat) : Bool := decide (c < 3)
/-- Analogue input 0-3. -/
def okAi (a : Nat) : Bool := decide (a < 4)
/-- Mailbox of a session slot 0-15, or 16, the graft mailbox. -/
def okSlot (s : Nat) : Bool := decide (s ≤ 16)
/-- DMA channel 0-15. -/
def okDma (c : Nat) : Bool := decide (c < 16)
/-- Flash partition 0-5. -/
def okPartition (p : Nat) : Bool := decide (p < 6)
/-- A source of security violations, 0-2. -/
def okSource (k : Nat) : Bool := decide (k < 3)
/-- A recovered clock of a ring end or a link. -/
def okRec : RecClk → Bool
  | .chain n _ => okString n
  | .link n => okString n

end Sys2Proof.Machine
end

