-- ==== Sys2Proof/Machine/Bits.lean ====
section
/-! DEFINITION. Byte order, bit fields, sign extension, CRCs and the sparse table's operations. -/

namespace Sys2Proof.Machine

/-- Entry `i` of a sparse table; the default where it is not listed. -/
def tget {α : Type} [Inhabited α] : Tab α → Nat → α
  | [], _ => default
  | (j, a) :: t, i => if i = j then a else tget t i

/-- Puts a value at its place among rising indices. -/
def tins {α : Type} : Tab α → Nat → α → Tab α
  | [], i, v => [(i, v)]
  | (j, a) :: t, i, v => if i < j then (i, v) :: (j, a) :: t else if i = j then (i, v) :: t else (j, a) :: tins t i v

/-- Sets an entry, keeping indices rising and listing no default entry. -/
def tput {α : Type} [Inhabited α] [DecidableEq α] (t : Tab α) (i : Nat) (v : α) : Tab α :=
  if v = default then t.filter fun e => e.1 != i else tins t i v

/-- Changes entry `i` of a sparse table. -/
def tmod {α : Type} [Inhabited α] [DecidableEq α] (t : Tab α) (i : Nat) (f : α → α) : Tab α :=
  tput t i (f (tget t i))

/-- Indices strictly rising from `lo` and no default entry listed. -/
def twfFrom {α : Type} [Inhabited α] [DecidableEq α] : Nat → Tab α → Bool
  | _, [] => true
  | lo, (j, a) :: t => decide (lo ≤ j) && !decide (a = default) && twfFrom (j + 1) t

/-- The canonical form of a sparse table. -/
def twf {α : Type} [Inhabited α] [DecidableEq α] (t : Tab α) : Bool := twfFrom 0 t

/-- Writes bytes from index `i` on. -/
def tputs : Tab Byte → Nat → List Byte → Tab Byte
  | t, _, [] => t
  | t, i, b :: bs => tputs (tput t i b) (i + 1) bs

/-- `n` bytes from index `i` on. -/
def tgets (t : Tab Byte) (i n : Nat) : List Byte := (List.range n).map fun k => tget t (i + k)

/-- `k` little-endian bytes of a number (Table 0.3). -/
def leN : Nat → Nat → List Byte
  | 0, _ => []
  | k + 1, v => BitVec.ofNat 8 v :: leN k (v / 256)

/-- The number in little-endian bytes. -/
def unle : List Byte → Nat
  | [] => 0
  | b :: bs => b.toNat + 256 * unle bs

/-- The little-endian number of `k` bytes at an offset; bytes past the end read 0. -/
def rdN (bs : List Byte) (off k : Nat) : Nat := unle ((bs.drop off).take k)

/-- The big-endian number in bytes. -/
def unbe (bs : List Byte) : Nat := unle bs.reverse

/-- Two's complement reading of `w` bits. -/
def sgn (w n : Nat) : Int :=
  let n := n % 2 ^ w
  if n < 2 ^ (w - 1) then (n : Int) else (n : Int) - (2 : Int) ^ w

/-- Two's complement writing in `w` bits. -/
def uns (w : Nat) (v : Int) : Nat := (v % (2 : Int) ^ w).toNat

/-- A signed little-endian number of `k` bytes. -/
def leI (k : Nat) (v : Int) : List Byte := leN k (uns (8 * k) v)

/-- A signed little-endian number read from `k` bytes at an offset. -/
def rdI (bs : List Byte) (off k : Nat) : Int := sgn (8 * k) (rdN bs off k)

/-- A value held within a range. -/
def clampI (lo hi v : Int) : Int := if v < lo then lo else if hi < v then hi else v

/-- A value of a count that stops at `top`. -/
def stopAt (top n : Nat) : Nat := if top < n then top else n

/-- Bits `[lsb + w - 1 : lsb]` of a number. -/
def bitsOf (v lsb w : Nat) : Nat := v / 2 ^ lsb % 2 ^ w

/-- Bit `i` of a number. -/
def bitN (v i : Nat) : Bool := v.testBit i

/-- A Bool as a number. -/
def b2n (b : Bool) : Nat := if b then 1 else 0

/-- A register assembled from fields: (lowest bit, width, value). -/
def pack (fs : List (Nat × Nat × Nat)) : W32 :=
  BitVec.ofNat 32 (fs.foldl (fun acc f => acc + f.2.2 % 2 ^ f.2.1 * 2 ^ f.1) 0)

/-- The positions of the bits set in a mask of `n` bits. -/
def setBits (n : Nat) (mask : Nat) : List Nat := (List.range n).filter mask.testBit

/-- The mask of a list of positions. -/
def maskOf (l : List Nat) : Nat := l.foldl (fun acc i => acc ||| 2 ^ i) 0

/-- CRC-32C of R62, one byte: reflected polynomial 0x82F6_3B78. -/
def crc32Step (crc : W32) (b : Byte) : W32 :=
  (List.range 8).foldl
    (fun c _ => if c.getLsbD 0 then (c >>> 1) ^^^ 0x82F63B78#32 else c >>> 1)
    (crc ^^^ b.setWidth 32)

/-- CRC-32C with the parameters of R62. -/
def crc32c (bs : List Byte) : W32 := bs.foldl crc32Step 0xFFFFFFFF#32 ^^^ 0xFFFFFFFF#32

/-- CRC-16 of R101, one byte: polynomial 0x1021, not reflected. -/
def crc16Step (crc : W16) (b : Byte) : W16 :=
  (List.range 8).foldl
    (fun c _ => if c.getLsbD 15 then (c <<< 1) ^^^ 0x1021#16 else c <<< 1)
    (crc ^^^ (b.setWidth 16 <<< 8))

/-- CRC-16 with initial value 0xFFFF. -/
def crc16 (bs : List Byte) : W16 := bs.foldl crc16Step 0xFFFF#16

/-- The first `n` elements of a list, filled with a default. -/
def padTo {α : Type} (n : Nat) (d : α) (l : List α) : List α := l.take n ++ List.replicate (n - l.length) d

/-- Element `i` of a list, the default where it is shorter. -/
def nth {α : Type} [Inhabited α] (l : List α) (i : Nat) : α := (l[i]?).getD default

/-- Sets element `i` of a list, filled to length `n`. -/
def setNth {α : Type} [Inhabited α] (n : Nat) (l : List α) (i : Nat) (v : α) : List α := (padTo n default l).set i v

/-- The ASCII bytes of a string. -/
def ascii (s : String) : List Byte := s.toList.map fun c => BitVec.ofNat 8 c.toNat

end Sys2Proof.Machine
end

