-- ==== Sys2Proof/Machine/Aes.lean ====
section
/-! DEFINITION. AES-256 in Galois counter mode, by which a wrapped key is opened (R570, R571; FIPS 197, SP 800-38D). -/

namespace Sys2Proof.Machine

/-- Multiplication by x in the field of FIPS 197. -/
def aesX (b : Byte) : Byte := (b <<< 1) ^^^ (if b.getLsbD 7 then 0x1B else 0)

/-- The product of two field elements. -/
def aesMul (a b : Byte) : Byte :=
  ((List.range 8).foldl (fun s i => (if b.getLsbD i then s.1 ^^^ s.2 else s.1, aesX s.2)) ((0 : Byte), a)).1

/-- The inverse, a to the 254th power; 0 for 0. -/
def aesInv (a : Byte) : Byte :=
  let a2 := aesMul a a
  let a3 := aesMul a2 a
  let a6 := aesMul a3 a3
  let a12 := aesMul a6 a6
  let a15 := aesMul a12 a3
  let a30 := aesMul a15 a15
  let a60 := aesMul a30 a30
  let a120 := aesMul a60 a60
  let a126 := aesMul a120 a6
  let a127 := aesMul a126 a
  aesMul a127 a127

/-- The S-box. -/
def aesS (a : Byte) : Byte :=
  let b := aesInv a
  b ^^^ b.rotateLeft 1 ^^^ b.rotateLeft 2 ^^^ b.rotateLeft 3 ^^^ b.rotateLeft 4 ^^^ 0x63

/-- The next word of the key schedule; `i` counts words and the schedule so far stands newest first. -/
def aesKeyNext (w : List (List Byte)) (i : Nat) : List (List Byte) :=
  let prev := nth w 0
  let t := if i % 8 = 0 then
      let r := (prev.drop 1 ++ prev.take 1).map aesS
      let rcon := (List.range (i / 8 - 1)).foldl (fun c _ => aesX c) (1 : Byte)
      [nth r 0 ^^^ rcon, nth r 1, nth r 2, nth r 3]
    else if i % 8 = 4 then prev.map aesS
    else prev
  ((nth w 7).zip t).map (fun p => p.1 ^^^ p.2) :: w

/-- The 15 round keys of a 32-byte key. -/
def aesKeys (key : List Byte) : List (List Byte) :=
  let w0 := (List.range 8).map fun i => (key.drop (4 * i)).take 4
  let w := ((List.range 52).foldl (fun w i => aesKeyNext w (8 + i)) w0.reverse).reverse
  (List.range 15).map fun r => ((w.drop (4 * r)).take 4).flatten

/-- The row shift of a state of 16 bytes in column order. -/
def aesShift (s : List Byte) : List Byte := (List.range 16).map fun i => nth s ((i + 4 * (i % 4)) % 16)

/-- The column mix. -/
def aesMix (s : List Byte) : List Byte :=
  (List.range 16).map fun i =>
    let c := 4 * (i / 4)
    let b (k : Nat) : Byte := nth s (c + (i + k) % 4)
    aesX (b 0) ^^^ (aesX (b 1) ^^^ b 1) ^^^ b 2 ^^^ b 3

/-- Encryption of one block under round keys. -/
def aesBlock (keys : List (List Byte)) (block : List Byte) : List Byte :=
  let add (s k : List Byte) : List Byte := (s.zip k).map fun p => p.1 ^^^ p.2
  let s := add block (nth keys 0)
  let s := (List.range 13).foldl (fun s i => add (aesMix (aesShift (s.map aesS))) (nth keys (i + 1))) s
  add (aesShift (s.map aesS)) (nth keys 14)

/-- The product in the field of GHASH, most significant bit first. -/
def ghashMul (x y : BitVec 128) : BitVec 128 :=
  ((List.range 128).foldl (fun (s : BitVec 128 × BitVec 128) i =>
    (if x.getLsbD (127 - i) then s.1 ^^^ s.2 else s.1,
     (s.2 >>> 1) ^^^ (if s.2.getLsbD 0 then 0xE1000000000000000000000000000000#128 else 0))) (0, y)).1

/-- Blocks of 16 bytes, the last filled with zeros. -/
def blocks16 (bs : List Byte) : List (List Byte) := (List.range ((bs.length + 15) / 16)).map fun i => padTo 16 0 ((bs.drop (16 * i)).take 16)

/-- GHASH over additional data and ciphertext. -/
def ghash (h : BitVec 128) (aad ct : List Byte) : BitVec 128 :=
  let be8 (n : Nat) : List Byte := (leN 8 n).reverse
  (blocks16 aad ++ blocks16 ct ++ [be8 (8 * aad.length) ++ be8 (8 * ct.length)]).foldl
    (fun y b => ghashMul (y ^^^ BitVec.ofNat 128 (unbe b)) h) 0

/-- Opens a sealed text under a 32-byte key and a 12-byte nonce: the plain text where the tag holds. -/
def gcmOpen (key nonce aad ct tag : List Byte) : Option (List Byte) :=
  let keys := aesKeys key
  let h := BitVec.ofNat 128 (unbe (aesBlock keys (List.replicate 16 0)))
  let ctr (i : Nat) : List Byte := aesBlock keys (nonce ++ (leN 4 i).reverse)
  let xor (a b : List Byte) : List Byte := (a.zip b).map fun p => p.1 ^^^ p.2
  let t := xor ((leN 16 (ghash h aad ct).toNat).reverse) (ctr 1)
  if t = tag then
    some (((List.range ((ct.length + 15) / 16)).flatMap fun i => xor ((ct.drop (16 * i)).take 16) (ctr (i + 2))))
  else none

end Sys2Proof.Machine
end

