-- ==== Sys2Proof/Config.lean ====
section
/-! DEFINITION. What an implementation fixes and the spec leaves open: functions and constants without a body, so
that no proof can rest on a value of theirs. -/

namespace Sys2Proof.Config

/-- The `n`-th free value taken by a step (log 7): a value the spec leaves undefined. -/
opaque freeValue : Nat → BitVec 64

/-- The state of charge, 1/65,536, of a cell that starts in a string without an initialised cell, by cell and grain (log 24). -/
opaque freeSoc : (cell grain : Nat) → BitVec 16

/-- Real functions used by the estimators and the demodulation (log 8): the exponential, sine and cosine. -/
opaque exp : Rat → Rat
opaque sin : Rat → Rat
opaque cos : Rat → Rat

/-- the angle of (x, y), rad, and a quotient by zero (log 8). -/
opaque atan2 : (y x : Rat) → Rat
opaque divZero : Rat → Rat
/-- TAU_FAST of the least-squares fit of R203: the time constant, for given impedances (real and imaginary parts of the
four) and TAU_SLOW, that makes the residual least (log 22). -/
opaque fitTau : List Rat → Rat → Rat

/-- ECDSA P-256 verification (R590, FIPS 186-5) under boot-ROM key `k` of a message and a signature (log 9). -/
opaque ecdsaOk : (k : Nat) → (msg sig : List Byte) → Bool

/-- The section layouts of image FORMAT 0x0002 that belong to Talox and the kernel library (R631, log 10). -/
opaque argElems : (args : List Byte) → (block offset : Nat) → Nat
/-- bed position, and whether buffers and argument blocks lie in the regions of R53. -/
opaque tileMapPos : List Byte → Nat
opaque tileMapOk : List Byte → Bool
/-- CHAIN_LAYOUT: monitors (address, cells, cell mask, compatibility mode, thermistor mask), SWEEP_DELAY, WINDOW, CHEM_ID. -/
opaque layoutMonitors : List Byte → List (Nat × Nat × W16 × Bool × W16)
opaque layoutSweepDelay : List Byte → Nat
opaque layoutWindow : List Byte → Nat
opaque layoutChem : List Byte → Nat
/-- STATE_LAYOUT: identifier, the exchange-block layout it declares, and the bytes of its replicated range (R383). -/
opaque stateLayoutId : List Byte → Nat
opaque exchangeLayout : List Byte → Nat
opaque replicatedSize : List Byte → Nat
/-- PARAM_BIND and ARGUMENTS: the converter definition of a string (R256), absent for a string without converter:
O_n, phases, I_RATED, I_PH_RATED, P_RATED, lowest and highest V_BUS. -/
opaque convDef : List Byte → Option (List Nat)
/-- the chemistry model with a CHEM_ID in an ARGUMENTS section (R180): OCV rows, constants, TAU_SLOW rows, factors, mean voltages. -/
opaque chemOcv : (args : List Byte) → (chemId : Nat) → List (List Rat)
opaque chemConst : (args : List Byte) → (chemId : Nat) → List Rat
opaque chemTauSlow : (args : List Byte) → (chemId : Nat) → List (Rat × Rat)
opaque chemFactors : (args : List Byte) → (chemId : Nat) → List (Rat × Rat × Rat)
opaque chemVMean : (args : List Byte) → (chemId : Nat) → List Rat
/-- the quantity of board channel `k` (R512), mV or 0.01 C, at a self-calibrated code of converter C (log 29). -/
opaque boardUnit : (k : Nat) → Rat → Rat
/-- the IOMMU windows that firmware loads for DMA channel `ch` at start: base, size, write permitted (R545, log 30). -/
opaque dmaWindows : (ch : Nat) → List (Nat × Nat × Bool)
/-- EXPRESSION: permitted by check 0x13 of Table 2.9. -/
opaque expressionOk : List Byte → Bool
/-- the opcodes of DOORBELL and WATCH notices (R421, log 36). -/
opaque doorbellOp : Nat
opaque watchOp : Nat
/-- the kernel library and cost table in a FAB component (R50, R590): versions, and per kernel its identifier, role (index in
the model's list), BASE, (PER, offset) pairs, stall, and need of DRAM (log 13). -/
opaque fabLib : List Byte → BitVec 32 × BitVec 32 × List (Nat × Nat × Nat × List (Nat × Nat) × Nat × Bool)
/-- what checks 0x10 and 0x11 of Table 2.9 find in the argument blocks: the first bed that does not meet the grain pipeline of R31, or a
number above 32 where no single bed is at fault, and the first bed with a configured cell that is not compared against its limits in time. -/
opaque pipelineMiss : List Byte → Option Nat
opaque protectionMiss : List Byte → Option Nat

end Sys2Proof.Config
end

