-- ==== Sys2Proof/Machine/Catalog.lean ====
section
/-! DEFINITION. The event catalogue: codes, names, classes and data lengths of Tables 15.4, 15.16, 16.13 and R607
(R526, R632). -/

namespace Sys2Proof.Machine

/-- One entry of the catalogue: CODE, CLASS (Table 15.3), DLEN and name. -/
structure EvRow where
  code : Nat := 0
  cls : Nat := 0
  dlen : Nat := 0
  name : String := ""
deriving DecidableEq, Repr, Inhabited

/-- Events of group 0. -/
def evRows0 : List EvRow :=
  [⟨0x0001, 0, 4, "UPD_BEGIN"⟩,
   ⟨0x0002, 0, 2, "UPD_VERIFIED"⟩,
   ⟨0x0003, 1, 1, "UPD_REFUSED"⟩,
   ⟨0x0004, 0, 1, "FW_ACTIVATE"⟩,
   ⟨0x0005, 2, 1, "FW_TRIAL_FAIL"⟩,
   ⟨0x0006, 0, 1, "FW_CONFIRMED"⟩,
   ⟨0x0007, 1, 1, "FW_ROLLBACK"⟩,
   ⟨0x0008, 2, 1, "SLOT_INVALID"⟩,
   ⟨0x0009, 2, 0, "RECOVERY"⟩,
   ⟨0x000A, 3, 8, "SAFE_CFG_COMMIT"⟩,
   ⟨0x000B, 0, 8, "CAL_RESET"⟩,
   ⟨0x000C, 2, 0, "OTP_CAL_BAD"⟩,
   ⟨0x000D, 0, 1, "SVC_WINDOW"⟩]

/-- Events of group 1. -/
def evRows1 : List EvRow :=
  [⟨0x1001, 2, 4, "SELF_FAULT"⟩,
   ⟨0x1002, 0, 4, "SELF_FAULT_CLEARED"⟩,
   ⟨0x1003, 3, 4, "PLAN_FAILURE"⟩,
   ⟨0x1004, 2, 8, "OVERRUN"⟩,
   ⟨0x1005, 1, 8, "PLAN_REFUSED"⟩,
   ⟨0x1006, 0, 8, "PLAN_ACTIVATED"⟩,
   ⟨0x1007, 1, 8, "ACTIVATION_REFUSED"⟩,
   ⟨0x1008, 1, 8, "PLAN_CANCELLED"⟩]

/-- Events of group 2. -/
def evRows2 : List EvRow :=
  [⟨0x2001, 1, 4, "ENUM_FAULT"⟩,
   ⟨0x2002, 1, 4, "MON_NORESP"⟩,
   ⟨0x2003, 1, 4, "MON_ERROR"⟩,
   ⟨0x2004, 4, 4, "AUTH_FAIL"⟩,
   ⟨0x2005, 1, 20, "MON_REPLACED"⟩,
   ⟨0x2006, 0, 12, "MON_FIRST_SEEN"⟩,
   ⟨0x2007, 0, 1, "MON_WAKE"⟩,
   ⟨0x2008, 2, 6, "STALE_OPEN"⟩,
   ⟨0x2009, 1, 2, "RING_BREAK"⟩,
   ⟨0x200A, 0, 0, "RING_JOINED"⟩,
   ⟨0x200B, 3, 1, "TONE_TRIP"⟩,
   ⟨0x200C, 3, 2, "TONE"⟩,
   ⟨0x200D, 3, 0, "TONE_UNEXPLAINED"⟩,
   ⟨0x200E, 2, 1, "TONE_PATH"⟩,
   ⟨0x200F, 1, 6, "CELL_DEVIATION"⟩,
   ⟨0x2010, 1, 2, "SENSE_SUSPECT"⟩,
   ⟨0x2011, 2, 2, "SENSE_OPEN"⟩,
   ⟨0x2012, 0, 2, "SENSE_CLEARED"⟩,
   ⟨0x2013, 1, 2, "SENSE_INTERMITTENT"⟩]

/-- Events of group 3. -/
def evRows3 : List EvRow :=
  [⟨0x3001, 1, 4, "DIE_LIMIT"⟩,
   ⟨0x3002, 1, 6, "BAL_MISMATCH"⟩]

/-- Events of group 4. -/
def evRows4 : List EvRow :=
  [⟨0x4001, 0, 8, "EST_RESET"⟩,
   ⟨0x4002, 1, 5, "EST_REACQUIRE"⟩,
   ⟨0x4003, 1, 4, "CELL_ANOMALY"⟩,
   ⟨0x4004, 1, 8, "CC_DISAGREE"⟩,
   ⟨0x4005, 1, 8, "IMP_HIGH"⟩,
   ⟨0x4006, 0, 8, "EST_RESTORE"⟩,
   ⟨0x4007, 0, 1, "REST_DENIED"⟩]

/-- Events of group 5. -/
def evRows5 : List EvRow :=
  [⟨0x5001, 2, 1, "KLINK_LOST"⟩,
   ⟨0x5002, 2, 2, "LONG_FIBRE"⟩,
   ⟨0x5003, 2, 8, "ID_MISMATCH"⟩,
   ⟨0x5004, 1, 2, "REG_TIMEOUT"⟩,
   ⟨0x5005, 2, 1, "PHASE_OPEN"⟩,
   ⟨0x5006, 1, 8, "FOLLOW_PW"⟩]

/-- Events of group 6. -/
def evRows6 : List EvRow :=
  [⟨0x6001, 0, 8, "MOVE_DONE"⟩,
   ⟨0x6002, 0, 8, "MOVE_OVERSHOOT"⟩,
   ⟨0x6003, 0, 9, "MOVE_DISCARDED"⟩,
   ⟨0x6004, 1, 2, "SRC_FAULT"⟩,
   ⟨0x6005, 0, 1, "REST_ABORT"⟩,
   ⟨0x6006, 1, 2, "SERVICE_FAILED"⟩]

/-- Events of group 7. -/
def evRows7 : List EvRow :=
  [⟨0x7001, 2, 8, "TRIP_CELL_OV"⟩,
   ⟨0x7002, 2, 8, "TRIP_CELL_UV"⟩,
   ⟨0x7003, 2, 8, "TRIP_CELL_OT"⟩,
   ⟨0x7004, 2, 8, "TRIP_CELL_UT"⟩,
   ⟨0x7005, 2, 8, "TRIP_OC_DIS"⟩,
   ⟨0x7006, 2, 8, "TRIP_OC_CHG"⟩,
   ⟨0x7007, 2, 8, "TRIP_OC_CONFIG"⟩,
   ⟨0x7008, 3, 8, "TRIP_TONE"⟩,
   ⟨0x7009, 2, 8, "TRIP_STALE_OPEN"⟩,
   ⟨0x700A, 2, 8, "TRIP_SENSE_HOLD"⟩,
   ⟨0x700B, 2, 8, "TRIP_SENSOR_HOLD"⟩,
   ⟨0x700C, 2, 8, "TRIP_LINK_LOST"⟩,
   ⟨0x700D, 2, 8, "TRIP_CONVERTER"⟩,
   ⟨0x700E, 0, 8, "TRIP_HOST_TRIP"⟩,
   ⟨0x700F, 0, 8, "TRIP_GROUP"⟩,
   ⟨0x7010, 2, 8, "TRIP_CONT_FAULT"⟩,
   ⟨0x7011, 3, 8, "TRIP_SAFE_STOP"⟩,
   ⟨0x7012, 2, 8, "TRIP_MOD_THERM"⟩,
   ⟨0x7021, 2, 0, "CONT_WELD"⟩,
   ⟨0x7022, 2, 0, "CONT_DROP"⟩,
   ⟨0x7023, 2, 0, "CONT_NOT_CLOSED"⟩,
   ⟨0x7024, 1, 2, "MOD_WARM"⟩]

/-- Events of group 8. -/
def evRows8 : List EvRow :=
  [⟨0x8001, 3, 8, "DEMAND"⟩,
   ⟨0x8002, 3, 4, "DISC_FAULT"⟩,
   ⟨0x8003, 3, 1, "CROSS_FAULT"⟩,
   ⟨0x8004, 3, 0, "TP_FAULT"⟩,
   ⟨0x8005, 3, 1, "SQ_FAULT"⟩,
   ⟨0x8006, 3, 1, "MAINT_ABORT"⟩,
   ⟨0x8007, 3, 8, "FALLOW_EXPIRED"⟩,
   ⟨0x8008, 3, 1, "CLOCHE_FAILED"⟩,
   ⟨0x8009, 3, 2, "SAFETY_RESET"⟩,
   ⟨0x800A, 3, 1, "SAFETY_CORE_FAULT"⟩,
   ⟨0x800B, 1, 4, "FIELD_LOW"⟩]

/-- Events of group 9. -/
def evRows9 : List EvRow :=
  [⟨0x9001, 2, 9, "DIGEST_MISMATCH"⟩,
   ⟨0x9002, 2, 0, "RESYNC_FAIL"⟩,
   ⟨0x9003, 1, 2, "TAKEOVER"⟩,
   ⟨0x9004, 2, 0, "COLD_TAKEOVER"⟩,
   ⟨0x9005, 2, 0, "GRAFT_LOST"⟩,
   ⟨0x9006, 1, 0, "DRILL_OVERDUE"⟩,
   ⟨0x9007, 1, 1, "DRILL_FAIL"⟩]

/-- Events of group A. -/
def evRowsA : List EvRow :=
  [⟨0xA001, 4, 4, "AUTH_BLOCKED"⟩,
   ⟨0xA002, 0, 16, "WATCH"⟩,
   ⟨0xA003, 1, 8, "TIME_JUMP_REFUSED"⟩,
   ⟨0xA004, 1, 16, "TIME_STEP"⟩,
   ⟨0xA005, 0, 16, "PTP_PARENT"⟩]

/-- Events of group B. -/
def evRowsB : List EvRow :=
  [⟨0xB001, 1, 0, "CAN_BUSOFF"⟩,
   ⟨0xB002, 0, 0, "CAN_RECOVERED"⟩,
   ⟨0xB003, 0, 4, "CAN_RATE_DETECTED"⟩,
   ⟨0xB004, 1, 0, "TT_LOST"⟩]

/-- Events of group C. -/
def evRowsC : List EvRow :=
  [⟨0xC001, 1, 12, "ADC_IMPLAUSIBLE"⟩,
   ⟨0xC002, 1, 1, "CMP_CLAMP"⟩]

/-- Events of group D. -/
def evRowsD : List EvRow :=
  [⟨0xD001, 2, 8, "RECORDER_GAP"⟩,
   ⟨0xD002, 5, 18, "RECORDER_CLEARED"⟩,
   ⟨0xD003, 1, 8, "REC_SUPPRESSED"⟩,
   ⟨0xD004, 1, 16, "FLASH_PAGE_RETIRED"⟩,
   ⟨0xD005, 1, 1, "FLASH_WEAR"⟩,
   ⟨0xD006, 2, 1, "FLASH_READONLY"⟩,
   ⟨0xD007, 2, 8, "CFG_BANK_BAD"⟩,
   ⟨0xD008, 1, 4, "DRAM_CE_HIGH"⟩,
   ⟨0xD009, 2, 10, "DRAM_UE"⟩,
   ⟨0xD00A, 2, 16, "DMA_FAULT"⟩,
   ⟨0xD00B, 1, 12, "ARCHIVE_GAP"⟩]

/-- Events of group E. -/
def evRowsE : List EvRow :=
  [⟨0xE001, 0, 16, "MODULE_START"⟩,
   ⟨0xE002, 0, 1, "WARM_RESTART"⟩,
   ⟨0xE003, 2, 4, "POWER_FAIL"⟩,
   ⟨0xE004, 2, 2, "STRAP_FAULT"⟩,
   ⟨0xE005, 1, 4, "STRAP_CHANGED"⟩,
   ⟨0xE006, 1, 0, "BUTTON_STUCK"⟩,
   ⟨0xE007, 0, 5, "BUTTON_ACTION"⟩,
   ⟨0xE008, 1, 2, "CELL_LOW"⟩,
   ⟨0xE009, 4, 0, "CF_BLANK"⟩,
   ⟨0xE00A, 4, 3, "SEC_VIOLATION"⟩,
   ⟨0xE00B, 4, 1, "SEC_LOCK"⟩,
   ⟨0xE00C, 4, 4, "SEC_UNLOCK"⟩,
   ⟨0xE00D, 5, 8, "SEC_ERASE"⟩,
   ⟨0xE00E, 4, 8, "KEY_LOADED"⟩,
   ⟨0xE00F, 5, 4, "FACTORY_RESTORE"⟩,
   ⟨0xE010, 1, 8, "OLD_ROOT"⟩]

/-- The catalogue. -/
def evCatalogue : List EvRow :=
  evRows0 ++ evRows1 ++ evRows2 ++ evRows3 ++ evRows4 ++ evRows5 ++ evRows6 ++ evRows7 ++ evRows8 ++ evRows9 ++ evRowsA ++ evRowsB ++ evRowsC ++ evRowsD ++ evRowsE

/-- The class of a code. -/
def evClass (code : Nat) : Nat := ((evCatalogue.find? fun r => r.code == code).getD default).cls

/-- A catalogue entry as RECORD_QUERY returns it (R534): CODE, CLASS, DLEN and the name in 60 bytes. -/
def evEntry (r : EvRow) : List Byte :=
  leN 2 r.code ++ [BitVec.ofNat 8 r.cls, BitVec.ofNat 8 r.dlen] ++ padTo 60 0 (ascii r.name)

end Sys2Proof.Machine
end

