-- ==== Sys2Proof/Machine/Real.lean ====
section
/-! DEFINITION. Real arithmetic on rationals: rounding to binary32 and to integers, and the square root. -/

namespace Sys2Proof.Machine

/-- Floor of a rational. -/
def rfloor (x : Rat) : Int := x.num / (x.den : Int)

/-- Nearest integer, ties to even. -/
def rne (x : Rat) : Int :=
  let f := rfloor x
  let d := x - (f : Rat)
  if d < 1 / 2 then f else if 1 / 2 < d then f + 1 else if f % 2 = 0 then f else f + 1

/-- Nearest integer, ties away from zero. -/
def rnear (x : Rat) : Int := if x < 0 then -rfloor (-x + 1 / 2) else rfloor (x + 1 / 2)

/-- Toward zero. -/
def rtrunc (x : Rat) : Int := if x < 0 then -rfloor (-x) else rfloor x

/-- Magnitude. -/
def rabs (x : Rat) : Rat := if x < 0 then -x else x

/-- A value held within a range. -/
def clampR (lo hi x : Rat) : Rat := if x < lo then lo else if hi < x then hi else x

/-- 2 to an integer power. -/
def pow2 (e : Int) : Rat := if 0 ≤ e then ((2 ^ e.toNat : Nat) : Rat) else 1 / ((2 ^ (-e).toNat : Nat) : Rat)

/-- floor(log2 x) of a positive rational. -/
def rlog2 (x : Rat) : Int :=
  let e := (Nat.log2 x.num.natAbs : Int) - (Nat.log2 x.den : Int)
  if x < pow2 e then e - 1 else e

/-- Binary32 rounding, to nearest with ties to even; a magnitude beyond the range is held at the largest finite
value (DESIGN CHOICE, log 8). -/
def f32 (x : Rat) : Rat :=
  if x = 0 then 0 else
    let a := rabs x
    let e := max (rlog2 a) (-126)
    let u := pow2 (e - 23)
    let r := (rne (a / u) : Rat) * u
    let top : Rat := (((2 ^ 24 - 1) * 2 ^ 104 : Nat) : Rat)
    let r := if top < r then top else r
    if x < 0 then -r else r

/-- Binary64 rounding, to nearest with ties to even (log 8). -/
def f64 (x : Rat) : Rat :=
  if x = 0 then 0 else
    let a := rabs x
    let e := max (rlog2 a) (-1022)
    let u := pow2 (e - 52)
    let r := (rne (a / u) : Rat) * u
    if x < 0 then -r else r

/-- Binary32 arithmetic: every operation rounds its result (log 8). -/
def fadd (a b : Rat) : Rat := f32 (a + b)
def fsub (a b : Rat) : Rat := f32 (a - b)
def fmul (a b : Rat) : Rat := f32 (a * b)

/-- The value of a binary32 pattern, none for infinities and NaNs. -/
def f32OfBits (n : Nat) : Option Rat :=
  let s : Nat := n / 2 ^ 31 % 2
  let e : Nat := n / 2 ^ 23 % 256
  let f : Nat := n % 2 ^ 23
  if e = 255 then none else
    let a := if e = 0 then (f : Rat) * pow2 (-149) else ((2 ^ 23 + f : Nat) : Rat) * pow2 ((e : Int) - 150)
    some (if s = 1 then -a else a)

/-- The binary32 pattern of a value. -/
def f32Bits (x : Rat) : Nat :=
  let y := f32 x
  let a := rabs y
  let s := if y < 0 then 2 ^ 31 else 0
  if a = 0 then s else
    let e := rlog2 a
    if e < -126 then s + (a / pow2 (-149)).num.toNat
    else s + ((e + 127).toNat) * 2 ^ 23 + ((a / pow2 (e - 23)).num.toNat - 2 ^ 23)

/-- The square root of a nonnegative rational, below by less than 2^-40 of a unit in the last place of its scale. -/
def rsqrt (x : Rat) : Rat :=
  if x ≤ 0 then 0 else
    let k : Nat := 2 ^ 64
    ((Nat.sqrt (x.num.natAbs * x.den * (k * k)) : Nat) : Rat) / ((x.den * k : Nat) : Rat)

/-- Quotient; by zero, a free value (log 8). -/
def rdiv (a b : Rat) : Rat := if b = 0 then Config.divZero a else a / b

/-- A binary32 quotient, and a binary32 sum of a list in its order. -/
def fdiv (a b : Rat) : Rat := f32 (rdiv a b)
def fsum (l : List Rat) : Rat := l.foldl fadd 0

/-- 2 pi, to 15 decimals (log 8). -/
def twoPi : Rat := 6283185307179586 / 1000000000000000

/-- cos and sin of n times 11.25 degrees, to 15 decimals (log 8). -/
def cos16 (n : Nat) : Rat :=
  let t : List Int := [1000000000000000, 980785280403230, 923879532511287, 831469612302545, 707106781186548, 555570233019602,
    382683432365090, 195090322016128, 0]
  let k := n % 32
  let v : Int := if k ≤ 8 then t.getD k 0 else if k ≤ 16 then -(t.getD (16 - k) 0) else if k ≤ 24 then -(t.getD (k - 16) 0)
    else t.getD (32 - k) 0
  (v : Rat) / 1000000000000000
def sin16 (n : Nat) : Rat := cos16 (n + 24)

/-- Linear interpolation in a table of ascending abscissas, held constant beyond its ends. -/
def interp : List (Rat × Rat) → Rat → Rat
  | [], _ => 0
  | [(_, y)], _ => y
  | (x0, y0) :: (x1, y1) :: t, x =>
    if x ≤ x0 then y0
    else if x ≤ x1 then y0 + rdiv ((y1 - y0) * (x - x0)) (x1 - x0)
    else interp ((x1, y1) :: t) x

/-- Sum of a list. -/
def rsum (l : List Rat) : Rat := l.foldl (· + ·) 0

/-- Binary64 arithmetic: every operation rounds its result. -/
def dadd (a b : Rat) : Rat := f64 (a + b)
def dsub (a b : Rat) : Rat := f64 (a - b)
def dmul (a b : Rat) : Rat := f64 (a * b)
def ddiv (a b : Rat) : Rat := f64 (rdiv a b)
def dsqrt (x : Rat) : Rat := f64 (rsqrt x)
def dsum (l : List Rat) : Rat := l.foldl dadd 0

/-- The lower median of a list of integers. -/
def medianI (l : List Int) : Int := (l.mergeSort (· ≤ ·)).getD ((l.length - 1) / 2) 0

/-- The median of a list of rationals: the middle one, or the mean of the two middle ones. -/
def medianR (l : List Rat) : Rat :=
  let s := l.mergeSort (· ≤ ·)
  let n := s.length
  if n = 0 then 0
  else if n % 2 = 1 then s.getD (n / 2) 0
  else (s.getD (n / 2 - 1) 0 + s.getD (n / 2) 0) / 2

end Sys2Proof.Machine
end

