-- ==== Sys2Proof/Machine/ParamTable.lean ====
section
/-! DEFINITION. The 9,216 parameters of R437: identifiers, TYPE codes (R633), ranges, defaults and refused zeros, from
Tables 4.6, 5.14, 6.18, 7.7, 8.9, 9.14, 10.12, 11.8, 11.9, 12.5, 12.6, 13.2, 13.7, 14.7, 15.14, 16.18, 17.8, R438 and
R439. -/

namespace Sys2Proof.Machine

/-- A run of parameters of one range: first ID, count, TYPE code, least, greatest, default, zero refused. -/
structure PRow where
  base : Nat := 0
  count : Nat := 1
  ty : Nat := 3
  lo : Int := 0
  hi : Int := 0
  dflt : Int := 0
  nz : Bool := false
deriving DecidableEq, Repr, Inhabited

/-- A row of one parameter. -/
def prow (base : Nat) (ty : Nat) (lo hi dflt : Int) (nz : Bool := false) : PRow := ⟨base, 1, ty, lo, hi, dflt, nz⟩

/-- A row of `count` parameters. -/
def prows (base count : Nat) (ty : Nat) (lo hi dflt : Int) (nz : Bool := false) : PRow := ⟨base, count, ty, lo, hi, dflt, nz⟩

/-- Groups 2 and 3 (Table 4.6). -/
def rowsChain : List PRow :=
  [prows 0x2100 32 3 0 5000 0, prows 0x2120 32 3 60 86400 3600 true, prow 0x2140 1 50 2000 200, prow 0x2141 1 10 500 50,
   prow 0x2142 3 1 100 5 true, prow 0x2143 1 0 5000 500, prow 0x2144 1 500 10000 2000, prow 0x2145 3 60 86400 3600 true] ++
  [prows 0x3000 32 3 0 1 1, prows 0x3020 32 3 0 1 0, prow 0x3040 3 60 3600 600 true, prow 0x3041 3 0 10000 100,
   prow 0x3042 1 20000 40000 30000, prow 0x3043 3 0 16 8, prow 0x3044 2 6000 10500 9500, prow 0x3045 1 0 0xFFFF 0x0A3D,
   prow 0x3046 3 5000 200000 22000]

/-- Group 4 (Table 5.14). -/
def rowsEst : List PRow :=
  [prows 0x4000 32 3 0 1 1, prows 0x4040 4 3 0 100 25, prow 0x4044 3 0 1000000 5000, prow 0x4045 3 0 3 2,
   prow 0x4050 1 1 1000 15 true, prow 0x4051 3 0 10000 100, prow 0x4052 3 0 100000 500, prow 0x4053 1 0 0x1000 0x21,
   prow 0x4054 3 0 100000 500, prow 0x4055 1 0 0x1000 66, prow 0x4056 3 0 100000 2000, prow 0x4057 3 0 100000 2000] ++
  [prow 0x4058 3 0 10000 50, prow 0x4059 3 3 20 6 true, prow 0x405A 1 0x148 0xFFFF 0x3333, prow 0x405B 1 0 0xCCD 0x148,
   prow 0x405C 3 0 500000 50000, prow 0x4060 1 1 0x1000 0x148 true, prow 0x4061 1 0x148 0x8000 0xCCD,
   prow 0x4062 1 0xCCD 0xCCCD 0x3333, prow 0x4063 3 1 100000 3000 true, prow 0x4064 3 60 3600 600 true] ++
  [prow 0x4065 3 600 86400 1800 true, prow 0x4066 1 1 500 10 true, prow 0x4067 1 1 500 15 true,
   prow 0x4068 3 100 100000 1000, prow 0x4069 1 0x148 0xFFFF 0x7AE, prow 0x406A 3 0 600 30, prow 0x406B 1 0 0x8000 0xCCD,
   prow 0x406C 1 0x8000 0xFFFF 0xF333, prow 0x406D 1 0 5000 500]

/-- Group 5 (Table 6.18); percentages in 0.01 %. -/
def rowsConv : List PRow :=
  [prow 0x5000 3 0 65535 131, prow 0x5001 3 0 65535 655, prow 0x5002 3 0 65535 66, prow 0x5003 1 0 1966 1966,
   prow 0x5004 1 0 32767 1311, prow 0x5005 1 32768 65535 64225, prow 0x5006 3 0 10000 500, prow 0x5007 3 0 1000000 50000,
   prow 0x5008 3 0 1000000 2000, prow 0x5009 3 1 10000 100 true, prow 0x500A 3 100 60000 2000 true,
   prow 0x500B 3 1 100 2 true] ++
  [prow 0x5010 3 0 1000 300, prow 0x5011 3 1 2000 400, prow 0x5012 3 1 255 8 true, prow 0x5013 3 500 10000 2500,
   prow 0x5014 3 1 10000 2000 true, prow 0x5020 3 0 9000 5000, prow 0x5021 3 1 10000 8000, prow 0x5022 3 100 10000 2000,
   prow 0x5023 3 1 10000 9500, prow 0x5030 3 5000 15000 12000, prow 0x5031 3 1 10000 64 true,
   prow 0x5032 3 1 10000 50 true] ++
  [prow 0x5033 3 0 15 5, prow 0x5034 3 1 3600 10 true, prow 0x5040 3 100 10000 2000, prow 0x5041 3 1 10000 50 true,
   prow 0x5042 3 100 10000 1000, prow 0x5043 3 1 10000 20 true, prow 0x5044 3 100 10000 1000,
   prow 0x5045 3 1 60000 1000 true, prow 0x5050 1 655 32768 3277, prow 0x5051 3 100 2500 500,
   prow 0x5052 3 1 1000 25 true, prow 0x5053 3 10 10000 250 true, prow 0x5054 3 1000 10000 5000, prows 0x5100 32 3 0 1 1]

/-- Group 6 (Table 7.7). The bounds of P_RATED_MOD are judged apart. -/
def rowsDisp : List PRow :=
  [prow 0x6000 3 1 4000000000 2000000 true, prow 0x6001 3 1 4000000000 4000000 true, prow 0x6002 3 0 2 0,
   prow 0x6003 3 0 1 0, prow 0x6008 3 0 3 0, prow 0x6009 4 (-2147483648) 2147483647 0,
   prow 0x600A 4 (-2147483648) 2147483647 0, prow 0x600B 3 1 1000 10 true, prow 0x6010 3 45000 65000 50000,
   prow 0x6011 3 100 2000 400 true, prow 0x6012 3 0 500 20, prow 0x6013 3 1 1000 20 true] ++
  [prow 0x6014 4 (-2147483648) 2147483647 0, prow 0x6015 3 1 2147483647 2147483647 true,
   prow 0x6018 3 1 60000 1000 true, prow 0x6020 1 0 0xFFFF 0x4000, prow 0x6021 1 0 0xFFFF 0x8000,
   prow 0x6022 1 0 0xFFFF 0xC000, prow 0x6023 1 0 0x1000 0x148, prow 0x6024 3 0 1000 200, prow 0x6025 3 0 9000 5000,
   prow 0x6026 3 1 100000 10000 true] ++
  [prows 0x6100 128 3 0 10000 10000, prows 0x6180 32 3 1 2147483647 2147483647 true, prow 0x6200 3 0 1 1,
   prow 0x6201 3 60 900 900 true, prow 0x6202 3 0 8 1, prow 0x6203 3 0 10000 1000, prow 0x6204 3 60 604800 86400 true,
   prow 0x6205 3 0 5000 1000]

/-- Group 7 (Table 8.9). -/
def rowsProt : List PRow :=
  [prow 0x7000 3 0 20 2, prow 0x7001 3 10 1000 100 true, prow 0x7002 3 200 2000 1000 true,
   prow 0x7003 2 100 5000 1000 true, prow 0x7004 2 200 5000 1500 true, prow 0x7005 3 60 86400 3600 true,
   prow 0x7006 1 0 1000 200, prow 0x7007 2 0 1000 200, prow 0x7008 1 0 5000 1000, prow 0x7010 3 0 0xFF 0xFF,
   prow 0x7011 3 0 0x7F8 0x600, prow 0x7012 3 100 10000 1000 true] ++
  [prow 0x7013 2 0 6000 3000, prow 0x7014 2 (-3000) 3000 1000, prow 0x7015 2 (-2000) 4000 1500, prows 0x7020 32 3 0 0xFF 0]

/-- Group 8 (Table 9.14). -/
def rowsSafe : List PRow :=
  [prows 0x8000 16 3 0 7 0, prows 0x8010 16 3 0 1 0, prows 0x8020 16 3 5 500 50 true, prows 0x8030 16 3 1 20 3 true,
   prows 0x8040 16 3 0 0xFFFFFFFF 0xFFFFFFFF, prows 0x8050 16 3 0 1 1, prows 0x8060 4 3 0 2 0,
   prows 0x8064 4 3 0 0xFFFFFFFF 0xFFFFFFFF, prows 0x8068 4 3 1100 5000 1500 true, prows 0x806C 4 3 5 500 10 true,
   prows 0x8070 32 3 0 0xFF 0, prows 0x8090 8 3 0 0xFF 0xFF] ++
  [prow 0x8098 3 10 1000 100 true, prow 0x8099 3 100 400 300 true, prow 0x809A 3 1 3600 600 true,
   prow 0x809B 3 100 500 500 true, prow 0x809C 3 1 7 3 true, prow 0x80A0 3 0 1 0, prow 0x80A1 3 0 0xFFFFFFFF 0,
   prow 0x80A2 3 0 0xFFFFFFFF 0, prow 0x80A3 3 2 100 10 true, prow 0x80A4 3 5 1000 50 true,
   prow 0x80A5 3 0 0xFFFFFFFF 0xFFFFFFFF, prow 0x80A6 3 1 100 10 true] ++
  [prow 0x80B0 1 20000 50000 37500, prow 0x80B1 1 5000 40000 20000, prow 0x80B2 2 3000 9000 6500,
   prow 0x80B3 2 (-4000) 1000 (-3000)]

/-- Group 9 (Table 10.12). -/
def rowsPair : List PRow :=
  [prow 0x9000 3 0 1 0, prow 0x9001 3 100 10000 500 true, prow 0x9002 3 0 1 1, prow 0x9003 3 3600 2592000 604800 true,
   prow 0x9004 3 60 86400 86400 true, prow 0x9005 3 0 1 0, prow 0x9006 3 10 3600 60 true]

/-- Group A, port `p` (Table 12.6). -/
def rowsPort (p : Nat) : List PRow :=
  let b := 0xA000 + 48 * p
  [prow b 3 0 0xFFFFFFFF 0, prow (b + 1) 3 0xFF000000 0xFFFFFFFC 0xFFFFFF00, prow (b + 2) 3 0 0xFFFFFFFF 0,
   prow (b + 3) 3 0 4094 0, prow (b + 4) 3 0 7 3, prow (b + 5) 3 0 7 2, prow (b + 6) 3 0 7 6, prow (b + 7) 3 1500 9000 9000,
   prow (b + 8) 3 0 1 1, prow (b + 9) 3 0 1 1, prow (b + 10) 4 (-10000) 10000 0, prow (b + 11) 3 0 10000 0] ++
  [prow (b + 12) 3 0 10000 0, prow (b + 13) 3 0 1 0, prow (b + 14) 3 10 3600 300 true, prow (b + 15) 3 0 10000 100,
   prows (b + 16) 16 3 0 0xFFFFFFFF 0, prows (b + 32) 16 3 0 0xFFFFFFFF 0]

/-- Group A, host and time (Tables 11.9 and 12.5). -/
def rowsNet : List PRow :=
  [prow 0xA0C0 3 10 3600 60 true, prow 0xA0C1 3 1 1000 2 true, prow 0xA0C2 3 100 5000 500 true, prow 0xA0C3 3 1 100 20 true,
   prow 0xA0C4 3 100 10000 1000 true, prow 0xA0C5 3 100 4000 2000 true, prow 0xA0C6 3 1 1000 10 true,
   prow 0xA0C7 3 0 3600 60, prow 0xA0D0 3 0 1 1, prow 0xA0D1 3 0 127 0, prow 0xA0D2 3 0 1 0,
   prow 0xA0D3 3 100 1000000 1000 true] ++
  [prow 0xA0D4 3 1 100 100 true, prow 0xA0D5 3 1 1000 10 true, prow 0xA0D6 3 2 10 3 true, prow 0xA0D7 3 2 60 3 true,
   prow 0xA0D8 4 (-4) 4 0, prow 0xA0D9 3 1 64 16 true, prow 0xA0DA 3 1 100000 10000 true,
   prow 0xA0DB 3 1 1000000 100000 true, prow 0xA0DC 3 10 100000 1000 true, prow 0xA0DD 3 0 65535 700,
   prow 0xA0DE 3 0 65535 300, prow 0xA0DF 3 1 10000 500 true] ++
  [prow 0xA0E0 3 60 604800 86400 true, prow 0xA0E1 3 0 255 248, prow 0xA0E2 3 0 1 0, prow 0xA0E3 3 0 7 4,
   prow 0xA0E4 3 0 1 0, prow 0xA0E5 3 0 255 37, prow 0xA0E6 3 0 0 0, prow 0xA0E7 3 0 0 0]

/-- Group B, port members `j` (Table 13.7), by offset; those of 20 to 63 are reserved. -/
def rowsCanPort : List PRow :=
  [prow 0 3 0 2 0, prow 1 3 0 1 1, prow 2 3 1 512 1 true, prow 3 3 2 256 127 true, prow 4 3 1 128 32 true,
   prow 5 3 1 128 32 true, prow 6 3 1 32 1 true, prow 7 3 1 32 31 true, prow 8 3 1 16 8 true, prow 9 3 1 16 8 true,
   prow 10 3 0 1 1, prow 11 3 0 127 31] ++
  [prow 12 3 0 1 0, prow 13 3 0 1 1, prow 14 3 10 10000 1000 true, prow 15 3 0 2 0, prow 16 3 0 0x7FF 0,
   prow 17 3 1 1000 10 true, prow 18 3 1 64 1 true, prow 19 3 1 16 2 true, prows 20 44 3 0 0 0]

/-- Group C, field `f` of slot `s` (Table 14.7). -/
def adcRow (s f : Nat) : PRow :=
  let res := prow 0 3 0 0 0
  if s < 32 then
    match f with
    | 0 => prow 0 4 (-100000) 100000 0
    | 1 => prow 0 4 (-50000) 50000 0
    | 2 => prow 0 3 1000 1000000 100000 true
    | 3 => prow 0 3 0 1 0
    | 4 => prow 0 3 0 10000 500
    | _ => res
  else if s < 36 then
    match f with
    | 0 => prow 0 4 (-1000000) 1000000 0
    | 1 => prow 0 4 (-50000) 50000 0
    | 2 => prow 0 3 0 1 0
    | _ => res
  else if s < 38 then
    match f with
    | 0 => prow 0 4 (-1000) 1000 0
    | 1 => prow 0 4 (-1000) 1000 0
    | 2 => prow 0 3 0 1 0
    | 3 => prow 0 3 1 10000 100 true
    | _ => res
  else if s < 46 then
    match f with
    | 0 => prow 0 4 (-1000) 1000 0
    | 1 => prow 0 4 (-50000) 50000 0
    | _ => res
  else if 48 ≤ s ∧ s < 51 then
    match f with
    | 0 => prow 0 3 0 1 0
    | 1 => prow 0 3 0 31 0
    | 2 => prow 0 3 0 999 0
    | 3 => prow 0 3 0 7 (if s = 50 then 0 else 1)
    | 4 => prow 0 3 0 31 0
    | 5 => prow 0 3 0 999 0
    | 6 => prow 0 3 1 4 1 true
    | 7 | 8 | 9 | 10 => prow 0 3 0 19 0
    | _ => res
  else res

/-- Group D, string member `j` and scalar `j` (Table 15.14). -/
def storeStrRow : Nat → PRow
  | 0 => prow 0 3 0 1 1
  | 1 => prow 0 3 60 3600 900 true
  | _ => prow 0 3 0 0 0
def storeRow : Nat → PRow
  | 0 => prow 0 3 1 60 10 true
  | 1 => prow 0 3 256 3072 2048 true
  | 2 => prow 0 3 10 10000 100 true
  | 3 => prow 0 3 1 168 12 true
  | 4 => prow 0 3 1 10000 100 true
  | 5 => prow 0 3 1 0xFFFF (90 + 8 * 256) true
  | _ => prow 0 3 0 0 0

/-- Group E, member `j` of credential `c` (Tables 11.9 and 16.18). -/
def credRow (c : Nat) : Nat → PRow
  | 0 => prow 0 3 0 1 (if c = 0 then 1 else 0)
  | 1 => prow 0 3 0 3 (if c = 0 then 3 else 0)
  | 2 => prow 0 3 0 15 15
  | 3 => prow 0 3 1 3 3 true
  | 4 => prow 0 3 0 0xFFFFFFFF 0
  | 5 => prow 0 3 0 0xFFFFFFFF 0
  | _ => prow 0 3 0 0 0

/-- Group F, field `f` of a watch (R439). -/
def watchRow : Nat → Option PRow
  | 0 => some (prow 0 3 0 0x3CBFF 0)
  | 1 => some (prow 0 3 0 4 0)
  | 2 => some (prow 0 5 (-9223372036854775808) 9223372036854775807 0)
  | 3 => some (prow 0 7 0 18446744073709551615 0)
  | 4 => some (prow 0 3 1 60000 1 true)
  | 5 => some (prow 0 3 1 3 1 true)
  | _ => none

/-- The TYPE of an identity parameter (Table 17.8), with u8 reported as u16 (R633). -/
def identType (j : Nat) : Nat :=
  if j = 1 then 7
  else if j = 2 ∨ j = 0x15 ∨ j = 0x16 ∨ j = 0x17 ∨ j = 0x18 ∨ j = 0x19 ∨ j = 0x1A ∨ j = 0x1B ∨ j = 0x50 ∨ j = 0x51 ∨ j = 0x52 then 1
  else 3

/-- The rows of the groups with plain ranges. -/
def plainRows : List PRow :=
  rowsChain ++ rowsEst ++ rowsConv ++ rowsDisp ++ rowsProt ++ rowsSafe ++ rowsPair ++ rowsPort 0 ++ rowsPort 1 ++ rowsNet

/-- The row of a parameter; none where the ID is no parameter (R437). -/
def paramRow (id : Nat) : Option PRow :=
  if id < 83 then some (prow id (identType id) 0 18446744073709551615 0)
  else if 0x1000 ≤ id ∧ id < 0x1000 + 2112 then some (prow id 6 0 0xFFFFFFFF 0)
  else if 0xB000 ≤ id ∧ id < 0xC000 then
    let r := (id - 0xB000) % 0x400
    if r < 0x300 then some (prow id 3 0 0xFFFFFFFF 0)
    else if r < 0x340 then (rowsCanPort.find? fun x => decide (x.base ≤ r - 0x300 ∧ r - 0x300 < x.base + x.count))
    else none
  else if 0xC000 ≤ id ∧ id < 0xC400 then some (adcRow ((id - 0xC000) / 16) ((id - 0xC000) % 16))
  else if 0xD000 ≤ id ∧ id < 0xD080 then some (storeStrRow ((id - 0xD000) % 4))
  else if 0xD080 ≤ id ∧ id < 0xD0C0 then some (storeRow (id - 0xD080))
  else if 0xE000 ≤ id ∧ id < 0xE080 then some (credRow ((id - 0xE000) / 8) ((id - 0xE000) % 8))
  else if 0xF000 ≤ id ∧ id < 0xF800 then watchRow ((id - 0xF000) % 8)
  else plainRows.find? fun x => decide (x.base ≤ id ∧ id < x.base + x.count)

/-- The TYPE code of a parameter (R633). -/
def paramType (id : Nat) : Nat := ((paramRow id).getD default).ty

/-- The shipped default of a parameter. -/
def paramDefault (id : Nat) : Int :=
  if 0x7020 ≤ id ∧ id < 0x7040 then ((id - 0x7020) / 4 : Nat)
  else if 0x8070 ≤ id ∧ id < 0x8090 then ((id - 0x8070) / 4 : Nat)
  else if id = 0x8000 then 1
  else ((paramRow id).getD default).dflt

/-- A contiguous network mask of /8 to /30. -/
def maskOk (v : Nat) : Bool := (List.range 23).any fun k => decide (v = 2 ^ 32 - 2 ^ (24 - k))

/-- A point index in a group of Table 11.6. -/
def pointInGroup (v : Nat) : Bool := decide (v < 0x33D20) || decide (0x34000 ≤ v ∧ v < 0x3C100)
  || decide (0x3C400 ≤ v ∧ v < 0x3C7E0) || decide (0x3C800 ≤ v ∧ v < 0x3CC00)

/-- The object fields of Table 13.2 with the combinations R479 refuses within one parameter. -/
def objFieldOk (f v : Nat) : Bool :=
  match f with
  | 0 => bitN v 29 || decide (v % 2 ^ 29 ≤ 0x7FF)
  | 1 => decide (v < 2 ^ 12) && (bitN v 0 || !bitN v 1) && !(bitN v 2 && bitN v 0) && (bitN v 0 || decide (bitsOf v 3 4 ≤ 8))
      && !(bitN v 11 && bitN v 0)
  | _ => decide (v < 2 ^ 25)

/-- The value lies in the parameter's range, cross rules and module state apart. -/
def paramInRange (id : Nat) (v : Int) : Bool :=
  match paramRow id with
  | none => false
  | some r =>
    decide (r.lo ≤ v ∧ v ≤ r.hi) &&
    (if 0x1000 ≤ id ∧ id < 0x2000 then (f32OfBits v.toNat).isSome
     else if id = 0xA001 ∨ id = 0xA031 then maskOk v.toNat
     else if id = 0x7010 then decide (v ≤ 3 ∨ v = 0xFF)
     else if 0x7020 ≤ id ∧ id < 0x7040 then decide (v ≤ 7 ∨ v = 0xFF)
     else if 0x8070 ≤ id ∧ id < 0x8090 then decide (v ≤ 7 ∨ v = 0xFF)
     else if 0x8090 ≤ id ∧ id < 0x8098 then decide (v ≤ 31 ∨ v = 0xFF)
     else if 0xB000 ≤ id ∧ id < 0xC000 ∧ (id - 0xB000) % 0x400 < 0x300 then objFieldOk ((id - 0xB000) % 0x400 % 3) v.toNat
     else if 0xB000 ≤ id ∧ id < 0xC000 ∧ (id - 0xB000) % 0x400 = 0x312 then
       decide (v.toNat ∈ [1, 2, 4, 8, 16, 32, 64])
     else if id = 0xC000 + 16 * 50 + 3 then decide (v % 2 = 0)
     else if id = 0xD085 then decide (50 ≤ v % 256 ∧ v % 256 ≤ 99 ∧ 8 ≤ v / 256 ∧ v / 256 ≤ 64)
     else if 0xF000 ≤ id ∧ id < 0xF800 ∧ id % 8 = 0 then pointInGroup v.toNat
     else true)

/-- A zero that the parameter's row marks as refused (Table 0.4). -/
def zeroRefused (id : Nat) (v : Int) : Bool :=
  if id = 0xD085 then decide (v % 256 = 0 ∨ v / 256 = 0)
  else ((paramRow id).getD default).nz && decide (v = 0)

end Sys2Proof.Machine
end

