-- ==== Sys2Proof/Machine/Sha.lean ====
section
/-! DEFINITION. SHA-256 (FIPS 180-4) and HMAC-SHA-256 (FIPS 198-1), which R412, R414, R586 and R590 name. -/

namespace Sys2Proof.Machine

/-- The eight 32-bit words of a 256-bit number, most significant first. -/
def shaWords (n : Nat) : List W32 :=
  (List.range 8).map fun i => BitVec.ofNat 32 (n >>> (32 * (7 - i)))

/-- The round constants, eight to a row. -/
def shaK : List W32 :=
  shaWords 0x428a2f9871374491b5c0fbcfe9b5dba53956c25b59f111f1923f82a4ab1c5ed5 ++
  shaWords 0xd807aa9812835b01243185be550c7dc372be5d7480deb1fe9bdc06a7c19bf174 ++
  shaWords 0xe49b69c1efbe47860fc19dc6240ca1cc2de92c6f4a7484aa5cb0a9dc76f988da ++
  shaWords 0x983e5152a831c66db00327c8bf597fc7c6e00bf3d5a7914706ca635114292967 ++
  shaWords 0x27b70a852e1b21384d2c6dfc53380d13650a7354766a0abb81c2c92e92722c85 ++
  shaWords 0xa2bfe8a1a81a664bc24b8b70c76c51a3d192e819d6990624f40e3585106aa070 ++
  shaWords 0x19a4c1161e376c082748774c34b0bcb5391c0cb34ed8aa4a5b9cca4f682e6ff3 ++
  shaWords 0x748f82ee78a5636f84c878148cc7020890befffaa4506cebbef9a3f7c67178f2

/-- The initial hash value. -/
def shaH0 : List W32 := shaWords 0x6a09e667bb67ae853c6ef372a54ff53a510e527f9b05688c1f83d9ab5be0cd19

/-- Message padded to whole blocks. -/
def shaPad (m : List Byte) : List Byte :=
  let n := m.length
  m ++ [0x80] ++ List.replicate ((119 - n % 64) % 64) 0 ++ (leN 8 (8 * n)).reverse

/-- The next message-schedule word, from the schedule so far, newest first. -/
def shaNext (w : List W32) : W32 :=
  let a := nth w 14
  let b := nth w 1
  (b.rotateRight 17 ^^^ b.rotateRight 19 ^^^ (b >>> 10)) + nth w 6
    + (a.rotateRight 7 ^^^ a.rotateRight 18 ^^^ (a >>> 3)) + nth w 15

/-- The 64 words of the schedule. -/
def shaSched (block : List Byte) : List W32 :=
  let w0 := (List.range 16).map fun i => BitVec.ofNat 32 (unbe ((block.drop (4 * i)).take 4))
  ((List.range 48).foldl (fun w _ => shaNext w :: w) w0.reverse).reverse

/-- One round on the eight working variables. -/
def shaRound (v : List W32) (kw : W32 × W32) : List W32 :=
  let a := nth v 0
  let e := nth v 4
  let t1 := nth v 7 + (e.rotateRight 6 ^^^ e.rotateRight 11 ^^^ e.rotateRight 25)
    + ((e &&& nth v 5) ^^^ (~~~e &&& nth v 6)) + kw.1 + kw.2
  let t2 := (a.rotateRight 2 ^^^ a.rotateRight 13 ^^^ a.rotateRight 22)
    + ((a &&& nth v 1) ^^^ (a &&& nth v 2) ^^^ (nth v 1 &&& nth v 2))
  [t1 + t2, a, nth v 1, nth v 2, nth v 3 + t1, e, nth v 5, nth v 6]

/-- The compression of one block. -/
def shaBlock (h : List W32) (block : List Byte) : List W32 :=
  let v := (shaK.zip (shaSched block)).foldl shaRound h
  (h.zip v).map fun p => p.1 + p.2

/-- SHA-256 of a message: 32 bytes. -/
def sha256 (m : List Byte) : List Byte :=
  let p := shaPad m
  let h := (List.range (p.length / 64)).foldl (fun h i => shaBlock h ((p.drop (64 * i)).take 64)) shaH0
  h.flatMap fun x => (leN 4 x.toNat).reverse

/-- HMAC-SHA-256. -/
def hmac (key msg : List Byte) : List Byte :=
  let k := padTo 64 0 (if 64 < key.length then sha256 key else key)
  sha256 (k.map (· ^^^ 0x5c) ++ sha256 (k.map (· ^^^ 0x36) ++ msg))

end Sys2Proof.Machine
end

