-- ==== Sys2Proof/Machine/Ops.lean ====
section
/-! DEFINITION. The named operations over the module's state: one accessor pair per indexed item, parameters, time,
free values, the event recorder and notices. -/

namespace Sys2Proof.Machine

/- Indexed items -/

/-- Ring Cn. -/
def Mod.ring (m : Mod) (n : Nat) : Ring := tget m.chain.rings n
def Mod.onRing (m : Mod) (n : Nat) (f : Ring → Ring) : Mod := { m with chain := { m.chain with rings := tmod m.chain.rings n f } }
/-- Monitor `a` of ring Cn. -/
def Mod.mon (m : Mod) (n a : Nat) : Monitor := tget m.chain.mons (40 * n + a)
def Mod.onMon (m : Mod) (n a : Nat) (f : Monitor → Monitor) : Mod :=
  { m with chain := { m.chain with mons := tmod m.chain.mons (40 * n + a) f } }
/-- Cell by global index (R5). -/
def Mod.cell (m : Mod) (g : Nat) : Cell := tget m.chain.cells g
def Mod.onCell (m : Mod) (g : Nat) (f : Cell → Cell) : Mod := { m with chain := { m.chain with cells := tmod m.chain.cells g f } }
/-- Estimate of a cell. -/
def Mod.cellEst (m : Mod) (g : Nat) : CellEst := tget m.est.cells g
def Mod.onCellEst (m : Mod) (g : Nat) (f : CellEst → CellEst) : Mod := { m with est := { m.est with cells := tmod m.est.cells g f } }
/-- Estimation of string Sn. -/
def Mod.strEst (m : Mod) (n : Nat) : StrEst := tget m.est.strs n
def Mod.onStrEst (m : Mod) (n : Nat) (f : StrEst → StrEst) : Mod := { m with est := { m.est with strs := tmod m.est.strs n f } }
/-- Link Kn. -/
def Mod.link (m : Mod) (n : Nat) : Link := tget m.conv.links n
def Mod.onLink (m : Mod) (n : Nat) (f : Link → Link) : Mod := { m with conv := { m.conv with links := tmod m.conv.links n f } }
/-- Phase Kn.Pp, global index 6n + p (R5). -/
def Mod.phase (m : Mod) (n p : Nat) : Phase := tget m.conv.phases (6 * n + p)
def Mod.onPhase (m : Mod) (n p : Nat) (f : Phase → Phase) : Mod :=
  { m with conv := { m.conv with phases := tmod m.conv.phases (6 * n + p) f } }
/-- Dispatch of string Sn. -/
def Mod.strDisp (m : Mod) (n : Nat) : StrDisp := tget m.disp.strs n
def Mod.onStrDisp (m : Mod) (n : Nat) (f : StrDisp → StrDisp) : Mod := { m with disp := { m.disp with strs := tmod m.disp.strs n f } }
/-- Protection of string Sn. -/
def Mod.strProt (m : Mod) (n : Nat) : StrProt := tget m.prot.strs n
def Mod.onStrProt (m : Mod) (n : Nat) (f : StrProt → StrProt) : Mod := { m with prot := { m.prot with strs := tmod m.prot.strs n f } }
/-- Thermistor of a cell position. -/
def Mod.therm (m : Mod) (g : Nat) : Therm := tget m.prot.therms g
def Mod.onTherm (m : Mod) (g : Nat) (f : Therm → Therm) : Mod := { m with prot := { m.prot with therms := tmod m.prot.therms g f } }
/-- Contactor group SQg. -/
def Mod.group (m : Mod) (g : Nat) : Group := tget m.prot.groups g
def Mod.onGroup (m : Mod) (g : Nat) (f : Group → Group) : Mod := { m with prot := { m.prot with groups := tmod m.prot.groups g f } }
/-- HVAC zone. -/
def Mod.zone (m : Mod) (z : Nat) : Zone := tget m.prot.zones z
def Mod.onZone (m : Mod) (z : Nat) (f : Zone → Zone) : Mod := { m with prot := { m.prot with zones := tmod m.prot.zones z f } }
/-- Safe input SIi, optical input OIk, safe output SQg. -/
def Mod.si (m : Mod) (i : Nat) : SafeIn := tget m.safety.si i
def Mod.onSi (m : Mod) (i : Nat) (f : SafeIn → SafeIn) : Mod := { m with safety := { m.safety with si := tmod m.safety.si i f } }
def Mod.oi (m : Mod) (k : Nat) : SafeIn := tget m.safety.oi k
def Mod.onOi (m : Mod) (k : Nat) (f : SafeIn → SafeIn) : Mod := { m with safety := { m.safety with oi := tmod m.safety.oi k f } }
def Mod.sq (m : Mod) (g : Nat) : SafeOut := tget m.safety.sq g
def Mod.onSq (m : Mod) (g : Nat) (f : SafeOut → SafeOut) : Mod := { m with safety := { m.safety with sq := tmod m.safety.sq g f } }
/-- CAN port Fp and its objects. -/
def Mod.port (m : Mod) (p : Nat) : CanPort := tget m.can.ports p
def Mod.onPort (m : Mod) (p : Nat) (f : CanPort → CanPort) : Mod := { m with can := { m.can with ports := tmod m.can.ports p f } }
def CanPort.obj (c : CanPort) (o : Nat) : CanObj := tget c.objs o
def CanPort.onObj (c : CanPort) (o : Nat) (f : CanObj → CanObj) : CanPort := { c with objs := tmod c.objs o f }
def Mod.onObj (m : Mod) (p o : Nat) (f : CanObj → CanObj) : Mod := m.onPort p (·.onObj o f)
/-- ADC converter, string-current channel, analogue and pulse input. -/
def Mod.adcConv (m : Mod) (c : Nat) : AdcConv := tget m.adc.convs c
def Mod.onAdcConv (m : Mod) (c : Nat) (f : AdcConv → AdcConv) : Mod := { m with adc := { m.adc with convs := tmod m.adc.convs c f } }
def Mod.strAdc (m : Mod) (n : Nat) : StrAdc := tget m.adc.strs n
def Mod.onStrAdc (m : Mod) (n : Nat) (f : StrAdc → StrAdc) : Mod := { m with adc := { m.adc with strs := tmod m.adc.strs n f } }
def Mod.ai (m : Mod) (a : Nat) : AiCh := tget m.adc.ais a
def Mod.onAi (m : Mod) (a : Nat) (f : AiCh → AiCh) : Mod := { m with adc := { m.adc with ais := tmod m.adc.ais a f } }
def Mod.pi (m : Mod) (p : Nat) : PiCh := tget m.adc.pis p
def Mod.onPi (m : Mod) (p : Nat) (f : PiCh → PiCh) : Mod := { m with adc := { m.adc with pis := tmod m.adc.pis p f } }
/-- DMA channel. -/
def Mod.dmaCh (m : Mod) (c : Nat) : DmaCh := tget m.store.dma c
def Mod.onDma (m : Mod) (c : Nat) (f : DmaCh → DmaCh) : Mod := { m with store := { m.store with dma := tmod m.store.dma c f } }

/-- Changes one part of the module. -/
def Mod.onPlan (m : Mod) (f : PlanSt → PlanSt) : Mod := { m with plan := f m.plan }
def Mod.onHost (m : Mod) (f : HostSt → HostSt) : Mod := { m with host := f m.host }
def Mod.onStore (m : Mod) (f : StoreSt → StoreSt) : Mod := { m with store := f m.store }
def Mod.onPower (m : Mod) (f : PowerSt → PowerSt) : Mod := { m with power := f m.power }
def Mod.onChain (m : Mod) (f : ChainSt → ChainSt) : Mod := { m with chain := f m.chain }
def Mod.onEst (m : Mod) (f : EstSt → EstSt) : Mod := { m with est := f m.est }
def Mod.onConv (m : Mod) (f : ConvSt → ConvSt) : Mod := { m with conv := f m.conv }
def Mod.onDisp (m : Mod) (f : DispSt → DispSt) : Mod := { m with disp := f m.disp }
def Mod.onProt (m : Mod) (f : ProtSt → ProtSt) : Mod := { m with prot := f m.prot }
def Mod.onSafety (m : Mod) (f : SafetySt → SafetySt) : Mod := { m with safety := f m.safety }
def Mod.onPair (m : Mod) (f : PairSt → PairSt) : Mod := { m with pair := f m.pair }
def Mod.onTime (m : Mod) (f : TimeSt → TimeSt) : Mod := { m with time := f m.time }
def Mod.onCan (m : Mod) (f : CanSt → CanSt) : Mod := { m with can := f m.can }
def Mod.onAdc (m : Mod) (f : AdcSt → AdcSt) : Mod := { m with adc := f m.adc }
def Mod.onUpd (m : Mod) (f : UpdSt → UpdSt) : Mod := { m with upd := f m.upd }

/-- Applies a change for each element of a list, in order. -/
def Mod.each {α : Type} (m : Mod) (l : List α) (f : Mod → α → Mod) : Mod := l.foldl f m

/-- The 32 strings. -/
def strings : List Nat := List.range 32

/-- Something is sent. -/
def Mod.out (m : Mod) (o : Output) : Mod := { m with sent := o :: m.sent }

/-- A fresh free value, and the module with the count of free values advanced (log 7). -/
def Mod.free (m : Mod) : BitVec 64 × Mod := (Config.freeValue m.freeCtr, { m with freeCtr := m.freeCtr + 1 })

/- Parameters (R19) -/

/-- A value as accepted; group 8 is the safety configuration (R326). -/
def Mod.parAcc (m : Mod) (id : Nat) : Int :=
  ((if id / 0x1000 = 8 then tget m.safety.cfg id else tget m.host.params id)).getD (paramDefault id)

/-- A value in force, as snapshotted at the last tick 0. -/
def Mod.par (m : Mod) (id : Nat) : Int :=
  ((if id / 0x1000 = 8 then tget m.safety.cfg id else tget m.host.snap id)).getD (paramDefault id)

/-- A nonnegative parameter in force. -/
def Mod.parN (m : Mod) (id : Nat) : Nat := (m.par id).toNat

/-- Sets an accepted value; the default is not listed. -/
def Mod.setPar (m : Mod) (id : Nat) (v : Int) : Mod :=
  { m with host := { m.host with params := tput m.host.params id (if v = paramDefault id then none else some v) } }

/- Time -/

/-- The 40-bit corrected count (R456). -/
def TimeSt.count40 (t : TimeSt) : Nat := t.nsCnt.toNat + 2 ^ 32 * t.wrapCnt

/-- ext at this instant (R457, the supervisor's extension). -/
def TimeSt.extNow (t : TimeSt) : Nat := t.ext + (t.count40 + 2 ^ 40 - t.last40) % 2 ^ 40

/-- PTP time in ns at this instant (R458). -/
def TimeSt.ptpNow (t : TimeSt) : Int := t.epoch + t.extNow

/-- Oscillator edges of a span of `ns`: to the first at which NS_CNT is at least that far beyond the span's nominal start (R457). -/
def TimeSt.edges (t : TimeSt) (ns : Nat) : Nat := (ns * 2 ^ 24 - t.excess + t.incr - 1) / t.incr

/-- A span of corrected time (R456, R457): INCR at each edge through the fraction; the excess is carried into the next span. -/
def TimeSt.runNs (t : TimeSt) (ns : Nat) : TimeSt :=
  let sum := t.frac + t.edges ns * t.incr
  let n := t.nsCnt.toNat + sum / 2 ^ 24
  { t with
    nsCnt := BitVec.ofNat 32 n, frac := sum % 2 ^ 24, excess := t.excess + t.edges ns * t.incr - ns * 2 ^ 24
    wrapCnt := if 2 ^ 32 ≤ n then (t.wrapCnt + 1) % 256 else t.wrapCnt }

/-- Microseconds pass for the role lines (R372, R388). -/
def PairSt.passUs (p : PairSt) (us : Nat) : PairSt :=
  { p with releasedUs := if p.partnerRole then 0 else stopAt 1000 (p.releasedUs + us), roleUs := stopAt 1000 (p.roleUs + us) }

/-- The module's role line is asserted (R372): the even-slot driver acts 20 us after it is enabled. -/
def Mod.roleLine (m : Mod) : Bool := m.pair.role && (m.power.straps.getLsbD 0 || decide (20 ≤ m.pair.roleUs))

/-- The active module of a pair adds to the replay record of the present grain (R378, R379). -/
def Mod.capture (m : Mod) (f : ReplayRec → ReplayRec) : Mod :=
  if m.pair.role then m.onPair fun p => { p with cap := f p.cap } else m

/-- One tick of corrected time. -/
def TimeSt.tickNs (t : TimeSt) : TimeSt := t.runNs 10000

/-- Time is aligned (R461): the filtered offset and PTP_HOLD_DRIFT in ppb over the ms of HOLDOVER, in 10^-6 ns. -/
def Mod.aligned (m : Mod) : Bool :=
  match m.time.servo with
  | .locked => true
  | .holdover =>
    match m.time.holdSince with
    | some t0 => decide ((m.time.offset.natAbs : Int) * 1000000
        + m.par 0xA0DF * ((m.host.ms - t0 : Nat) : Int) * 1000 ≤ m.par 0xA0D5 * 1000 * 1000000)
    | none => false
  | _ => false

/-- The 10 bytes of a PTP timestamp (R11): u48 seconds and u32 nanoseconds. -/
def ptpBytes (ns : Int) : List Byte := leN 6 (ns / 1000000000).toNat ++ leN 4 (ns % 1000000000).toNat

/-- The module is in a warm supervisor restart or its supervisor is not running. -/
def Mod.supDown (m : Mod) : Bool := m.plan.warm || decide (m.power.state ≠ .running ∧ m.power.state ≠ .parked
  ∧ m.power.state ≠ .failing ∧ m.power.state ≠ .starting)

/-- Seconds, in module ms, since a moment. -/
def Mod.since (m : Mod) (t : Nat) : Nat := m.host.ms - t

/-- An IP datagram from an address passes the port's filter (R468): it is dropped where the port is off, or ALLOW_ENABLE is 1 and no used
entry matches its source. -/
def Mod.netAllows (m : Mod) (net addr : Nat) : Bool :=
  let at_ (id : Nat) : Nat := m.parN (id + 48 * net)
  decide (at_ 0xA008 ≠ 0) && (decide (at_ 0xA00D = 0) || (List.range 16).any fun k =>
    decide (at_ (0xA020 + k) ≠ 0) && decide (addr &&& at_ (0xA020 + k) = at_ (0xA010 + k) &&& at_ (0xA020 + k)))

/- The event recorder -/

/-- The RSEQ after `n` (R525). -/
def nextRseq (n : Nat) : Nat := if n ≥ 0xFFFFFFFF then 1 else n + 1

/-- The RSEQ before `n`, and the one `k` beyond it (R525). -/
def prevRseq (n : Nat) : Nat := if n ≤ 1 then 0xFFFFFFFF else n - 1
def rseqPlus (n k : Nat) : Nat := if n + k ≤ 0xFFFFFFFF then n + k else n + k - 0xFFFFFFFF

/-- `a` comes no later than `b` in the order in which numbers are issued, which goes on over the wrap of R525 (DEDUCED, log 31). -/
def seqLe (a b : Nat) : Bool := decide ((b + 2 ^ 32 - a) % 2 ^ 32 < 2 ^ 31)

/-- Records not yet durable, in RSEQ order (R528): those of the SRAM ring that the DRAM ring has overwritten, then those of the DRAM ring. -/
def StoreSt.undurable (s : StoreSt) : List EventRec :=
  let fresh := match s.dram.dropWhile fun r => r.rseq != s.recDurable with
    | [] => s.dram
    | _ :: l => l
  (s.sram.filter fun r => !s.dram.any (·.rseq == r.rseq)) ++ fresh

/- DMA (R545, R546) -/

/-- A channel starts a transfer of one descriptor. -/
def Mod.dmaStart (m : Mod) (ch : Nat) (use : DmaUse) (len : Nat) : Mod :=
  m.onDma ch fun d => { d with busy := true, done := 0, use := use, desc := some { len := len, ctrl := 1 }, descAt := 0 }

/-- A channel's transfer is complete. -/
def Mod.dmaEnd (m : Mod) (ch : Nat) : Mod :=
  m.onDma ch fun d => { d with busy := false, done := (d.desc.map (·.len)).getD d.done, use := .none, desc := none }

/-- Power failure was declared more than 20 ms ago: no flash write starts any more (R563). -/
def Mod.flashLate (m : Mod) : Bool := decide (m.power.state = .failing ∧ m.power.powerFailMs + 20 < m.host.ms)

/-- A write to a flash partition may start: flash responds, the partition is not read-only (R523, R533), and power is not long failing (R563). -/
def Mod.flashWrites (m : Mod) (p : Nat) : Bool := m.store.flashReady && !m.store.flashHold && !m.store.roMask.getLsbD p && !m.flashLate

/-- A flush may start: SP1 runs (R528), and the recorder ring can be written. -/
def Mod.canFlush (m : Mod) : Bool := !m.plan.warm && m.flashWrites 4

/-- Starts a flush of every record not yet durable (R529). One in progress goes on, a further one being due (R548), or becomes the power-fail,
extraction or restart flush; at a power failure or an extraction that covers the oldest 4,096 (R530). With nothing unwritten such a flush only
sets CLEAN (R531). -/
def Mod.startFlush (m : Mod) (emergency : Bool) : Mod :=
  if m.store.flush.isSome && !emergency then { m with store := { m.store with flushAgain := true } }
  else
    let l := m.store.undurable
    let l := if emergency && (decide (m.power.state = .failing) || m.pair.extraction) then l.take 4096 else l
    match l.head?, l.getLast? with
    | some a, some b =>
      if m.canFlush then
        ({ m with store := { m.store with
            flush := some ⟨a.rseq, b.rseq, emergency⟩, flushAgain := false, lastFlush := m.host.ms } }).dmaStart 2 .flush (64 * l.length)
      else m
    | _, _ =>
      if m.canFlush then
        { m with store := { m.store with lastFlush := m.host.ms, mkClean := m.store.mkClean || (emergency && m.store.dropRange.isNone) } }
      else m

/-- The rate account of a CODE and SOURCE in the present second (R532). -/
def rateOf (l : List ((Nat × Nat) × Nat × Nat)) (k : Nat × Nat) : Nat × Nat :=
  ((l.find? fun e => e.1 == k).map (·.2)).getD (0, 0)

/-- Stores a record whole in both rings (R528). -/
def Mod.store1 (m : Mod) (r : EventRec) : Mod :=
  let s := m.store
  let full := decide (4096 ≤ s.sram.length)
  let wraps := decide (131072 ≤ s.dram.length)
  let oldest := s.dram.head?.map (·.rseq)
  let drop := wraps && (match oldest with | some o => decide (o ∈ s.undurable.map (·.rseq)) | none => false)
  let nxt := nextRseq r.rseq
  { m with
    store := { s with
      recNext := nxt
      recOldest := if s.recOldest = 0 then r.rseq else s.recOldest
      sram := if full then s.sram else s.sram ++ [r]
      sramFull := s.sramFull || full
      dram := (if wraps then s.dram.drop 1 else s.dram) ++ [r]
      dramDrop := s.dramDrop || drop
      dropRange := if drop && !s.sram.any (fun x => some x.rseq == oldest) then
          match s.dropRange, oldest with
          | some (a, _), some o => some (a, o)
          | none, some o => some (o, o)
          | d, none => d
        else s.dropRange }
    power := if nxt = m.power.rseqHwm then { m.power with rseqHwm := rseqPlus nxt 4096 } else m.power }

/-- The record of an event detected now (R525, R527). -/
def Mod.mkRec (m : Mod) (code item block : Nat) (data : List Byte) : EventRec :=
  { rseq := if m.store.recNext = 0 then 1 else m.store.recNext
    code := code
    cls := evClass code
    rflags := BitVec.ofNat 8 (b2n m.time.timeValid + 2 * b2n m.roleLine + 8 * b2n (!m.power.cfResponding))
    opMs := m.power.opMs
    source := item % 256 + 256 * block
    pwrCycle := m.power.pwrCycle
    grain := m.plan.grainCnt
    ptpSec := if m.time.timeValid then (m.time.ptpNow / 1000000000).toNat else 0
    ptpNs := if m.time.timeValid then (m.time.ptpNow % 1000000000).toNat else 0
    tick := m.plan.tick
    data := data.take 24 }

/-- Posts an event (R525-R532): `item` 0xFF for none; `block` as Table 15.2 numbers the blocks. -/
def Mod.post (m : Mod) (code item block : Nat) (data : List Byte) : Mod :=
  let r := m.mkRec code item block data
  let k := (code, r.source)
  let (n, w) := rateOf m.store.rate k
  let exempt := decide (3 ≤ r.cls ∨ code = 0xD003)
  let rest := m.store.rate.filter fun e => e.1 != k
  if exempt || decide (n < m.parN 0xD082) then
    let m : Mod := { m with store := { m.store with rate := if exempt then m.store.rate else (k, n + 1, w) :: rest } }
    let m : Mod := m.store1 r
    if decide (2 ≤ r.cls) || decide (m.parN 0xD081 ≤ m.store.undurable.length) then m.startFlush false else m
  else
    { m with store := { m.store with rate := (k, n, w + 1) :: rest } }

/-- Blocks of SOURCE (Table 15.2). -/
def bFabric : Nat := 0
def bSup : Nat := 1
def bSafety : Nat := 2
def bCold : Nat := 3
def bChain : Nat := 4
def bLink : Nat := 5
def bAdc : Nat := 6
def bNet : Nat := 7
def bCan : Nat := 8
def bStore : Nat := 9

/-- One byte of event data or of a TLV value. -/
def u8 (n : Nat) : List Byte := [BitVec.ofNat 8 n]

/- Sessions and notices -/

/-- The session of an identifier. -/
def Mod.session? (m : Mod) (sid : Nat) : Option Session := m.host.sessions.find? fun s => s.sid == sid

/-- Changes one session. -/
def Mod.onSession (m : Mod) (sid : Nat) (f : Session → Session) : Mod :=
  { m with host := { m.host with sessions := m.host.sessions.map fun s => if s.sid = sid then f s else s } }

/-- The networks on which a notice leaves (R408): the last, or both where both were used within 1 s. -/
def Session.nets (s : Session) (ms : Nat) : List Nat :=
  match s.lastNetA, s.lastNetB with
  | some a, some b => if ms - a ≤ 1000 ∧ ms - b ≤ 1000 then [0, 1] else [s.net]
  | _, _ => [s.net]

/-- A TLV as it stands in a payload (R411): TYPE, LEN, value, zero bytes up to a multiple of 4. -/
def Tlv.bytes (t : Tlv) : List Byte :=
  leN 2 t.type ++ leN 2 t.value.length ++ t.value ++ List.replicate ((4 - t.value.length % 4) % 4) 0

/-- The DETAIL TLV (R419). -/
def detail (type off item : Nat) : Tlv := ⟨0x00F0, leN 2 type ++ leN 2 off ++ leN 4 item⟩

/-- Header and payload of a packet (R410, Table 11.2). -/
def packetBytes (magic flags op status seq sid grain : Nat) (payload : List Byte) : List Byte :=
  leN 2 magic ++ [1, BitVec.ofNat 8 flags] ++ leN 2 op ++ leN 2 status ++ leN 4 seq ++ leN 4 sid ++ leN 4 payload.length
    ++ leN 4 grain ++ payload

/-- The tag of R412. -/
def packetTag (key bytes : List Byte) : List Byte := (hmac key bytes).take 16

/-- The bytes of a reply: REPLY, and DUP where it is resent. -/
def Reply.bytes (r : Reply) (magic : Nat) : List Byte :=
  packetBytes magic (1 + 4 * b2n r.dup) r.opcode r.status r.seq.toNat r.session r.grain (r.tlvs.flatMap Tlv.bytes)

/-- Sends a reply under a key, on the network and to the address and port of its request (R408). -/
def Mod.sendReply1 (m : Mod) (key : List Byte) (net addr port : Nat) (r : Reply) : Mod :=
  m.out (.reply net addr port r (packetTag key (r.bytes 0x4B58)))

/-- Sends one notice of a session. -/
def Mod.sendNotice (m : Mod) (s : Session) (n : Notice) : Mod :=
  m.each (s.nets m.host.ms) fun m net => m.out (.notice net s.addr s.port s.sid n
    (packetTag s.key (packetBytes 0x4B58 2 n.opcode n.status n.seq s.sid 0 (n.tlvs.flatMap Tlv.bytes))))

/-- A notice to a session (R421, R422): the counter advances, a full queue drops its oldest, and it is sent. -/
def Mod.notify (m : Mod) (sid opcode status : Nat) (tlvs : List Tlv) : Mod :=
  match m.session? sid with
  | none => m
  | some s =>
    let full := decide (64 ≤ s.notices.length)
    let lost := s.noticeLost + b2n full
    let tlvs := if lost = 0 then tlvs else tlvs ++ [⟨0x8001, leN 4 lost⟩]
    let n : Notice := { seq := s.noticeCtr + 1, opcode := opcode, status := status, tlvs := tlvs, tries := 1, sentAt := m.host.ms }
    let q := if full then s.notices.drop 1 else s.notices
    let m := m.onSession sid fun s => { s with noticeCtr := s.noticeCtr + 1, notices := q ++ [n], noticeLost := 0 }
    m.sendNotice s n

/-- The completion notice of a command (R421), with its ORIG TLV. -/
def Mod.complete (m : Mod) (o : Origin) (status : Nat) (tlvs : List Tlv) : Mod :=
  m.notify o.session o.opcode status (⟨0x80, leN 2 o.opcode ++ [0, 0] ++ leN 4 o.seq⟩ :: tlvs)

/- The host exchange area and the mailboxes (R442-R451) -/

/-- Bytes are written into the area (R444); a write of whole lines clears their poison, a partial one does not (R544). -/
def Mod.xaPut (m : Mod) (off : Nat) (bs : List Byte) : Mod := m.onHost fun h => { h with xa := tputs h.xa off bs }
def Mod.xaUnpoison (m : Mod) (off len : Nat) : Mod :=
  m.onStore fun s => { s with poison := s.poison.filter fun l => !decide (0x80000000 + off ≤ l ∧ l + 64 ≤ 0x80000000 + off + len) }

/-- The mailbox block of a slot: 0-15 of sessions, 16 graft. -/
def Mod.mbx (m : Mod) (k : Nat) : Mailbox := tget m.host.mbx k
def Mod.onMbx (m : Mod) (k : Nat) (f : Mailbox → Mailbox) : Mod := m.onHost fun h => { h with mbx := tmod h.mbx k f }

/-- MBX_STAT (Table 11.12). -/
def Mod.mbxStat (m : Mod) (k : Nat) : W32 :=
  let b := m.mbx k
  let age (full : Bool) (t : Nat) : Nat := if full then min 255 (m.host.ms - t) else 0
  pack [(0, 1, b2n b.inFull), (1, 1, b2n b.outFull), (2, 1, b2n b.inColl), (3, 1, b2n b.outColl), (4, 1, b2n b.cross),
    (5, 1, b2n (decide (k = 16) && (m.pair.partnerDown || m.pair.partnerWarm))), (16, 8, age b.inFull b.inSince), (24, 8, age b.outFull b.outSince)]

def Mod.mbxStatTlv (m : Mod) (k : Nat) : Tlv := ⟨0x0071, leN 4 (m.mbxStat k).toNat⟩
def Mailbox.outTlv (b : Mailbox) : Tlv := ⟨0x0070, leN 4 b.outPtr.toNat ++ leN 4 b.outLen.toNat ++ leN 2 b.outType.toNat ++ leN 1 b.outDomain.toNat ++ [0]⟩

/-- A message is put into an inbound mailbox (R445, R446); its age runs from the first of those that were not taken. -/
def Mailbox.post (b : Mailbox) (ptr len type domain ms : Nat) : Mailbox :=
  { b with inPtr := BitVec.ofNat 32 ptr, inLen := BitVec.ofNat 32 len, inType := BitVec.ofNat 16 type, inDomain := BitVec.ofNat 8 domain
           inFull := true, inColl := b.inColl || b.inFull, inSince := if b.inFull then b.inSince else ms }

/-- A mailbox is emptied (R415); its RS bits stay (R451). -/
def Mailbox.emptied (b : Mailbox) : Mailbox := { inColl := b.inColl, outColl := b.outColl, cross := b.cross }

/-- The supervisor writes an outbound mailbox (R446, R447). -/
def Mod.mbxOut (m : Mod) (slot ptr len type domain : Nat) : Mod :=
  let m := m.onMbx slot fun b => { b with
    outPtr := BitVec.ofNat 32 ptr, outLen := BitVec.ofNat 32 len, outType := BitVec.ofNat 16 type, outDomain := BitVec.ofNat 8 domain
    outFull := true, outColl := b.outColl || b.outFull, outSince := if b.outFull then b.outSince else m.host.ms }
  match m.host.sessions.find? fun s => s.slot == slot with
  | some s => m.notify s.sid Config.doorbellOp 0 [(m.mbx slot).outTlv, m.mbxStatTlv slot]
  | none => m

/- Replies that were held (R408, R409, R417, R420, R447, R449) -/

/-- The replies of a command batch stand in the area from `off`, directly after the batch, and are reported by an outbound message; those of a
batch of the partner's host are passed back to it (R445, R447, log 52). -/
def Mod.batchEnd (m : Mod) (b : BatchSt) : Mod :=
  let out := (b.items.flatMap (·.getD [])).take (0x1000000 - b.off)
  let m := (m.xaPut b.off out).xaUnpoison b.off out.length
  if b.slot = 16 then m.out (.graft 23 m.plan.grainCnt (leN 4 b.sid ++ leN 4 b.off ++ out)) else m.mbxOut b.slot b.off out.length 0x0081 0

/-- A batch ends once each of its requests has its reply. -/
def Mod.batchDone (m : Mod) (id : Nat) : Mod :=
  match m.host.batches.find? fun b => b.id == id && b.items.all Option.isSome with
  | some b => (m.onHost fun h => { h with batches := h.batches.filter fun x => x.id != id }).batchEnd b
  | none => m

/-- A reply of a batch. -/
def Mod.batchReply (m : Mod) (id item : Nat) (bs : List Byte) : Mod :=
  (m.onHost fun h => { h with batches := h.batches.map fun b => if b.id = id then { b with items := b.items.set item (some bs) } else b }).batchDone id

/-- A reply goes to one copy of its request. -/
def Mod.sendReplyTo (m : Mod) (key : List Byte) (dest : ReplyTo) (r : Reply) : Mod :=
  match dest with
  | .host net addr port => m.sendReply1 key net addr port r
  | .partner => m.out (.graft 9 m.plan.grainCnt (leN 2 r.opcode ++ leN 2 r.status ++ leN 4 r.session ++ leN 4 r.seq.toNat ++ leN 4 r.grain ++ u8 (b2n r.dup)))
  | .batch id item => m.batchReply id item (r.bytes 0x4B58)

/-- A copy of a request waits for the reply. -/
def Mod.await (m : Mod) (sid : Nat) (w : Wait) : Mod := m.onSession sid fun s => { s with waits := s.waits ++ [w] }

/-- A reply that was held is kept among the 64 most recent of its session, and goes to every copy that waits for it (R408, R409, R417). -/
def Mod.reply (m : Mod) (sid : Nat) (r : Reply) : Mod :=
  match m.session? sid with
  | none => m
  | some s =>
    (m.onSession sid fun s => { s with cache := (r :: s.cache).take 64, waits := s.waits.filter fun w => w.seq != r.seq }).each
      (s.waits.filter fun w => w.seq == r.seq) fun m w => m.sendReplyTo s.key w.dest { r with dup := r.dup || w.dup }

/-- The reply of a request of the session is held. -/
def Mod.replyHeld (m : Mod) (s : Session) (seq : W32) : Bool :=
  s.waits.any (fun w => w.seq == seq) || m.disp.cmds.any fun c => c.session == s.sid && c.seq == seq

/-- A later copy of an accepted request (R409, R417): the cached reply, to be sent with DUP set; or it waits for the reply that is held. -/
def Mod.again (m : Mod) (s : Session) (seq : W32) (dest : ReplyTo) : Mod × Option Reply :=
  match s.cache.find? fun x => x.seq == seq with
  | some x => (m, some { x with dup := true })
  | none => (if m.replyHeld s seq then m.await s.sid ⟨seq, dest, true⟩ else m, none)

/-- Commands whose effective grain a takeover skipped, and commands forwarded to the former active module and not answered, were never executed:
a retry is new (R449). -/
def Mod.forget (m : Mod) (keep : List DispCmd) : Mod :=
  let kept (s : Session) (q : W32) : Bool := keep.any fun c => c.session == s.sid && c.seq == q
  let gone (s : Session) : List W32 :=
    (s.waits.map (·.seq) ++ (m.disp.cmds.filter fun c => c.session == s.sid).map (·.seq)).filter fun q => !kept s q
  let clear (s : Session) (b : BitVec 64) (q : W32) : BitVec 64 := b &&& ~~~(BitVec.ofNat 64 (2 ^ (s.high - q).toNat))
  let lost := m.host.sessions.flatMap fun s => s.waits.filter fun w => !kept s w.seq
  let m := (m.onHost fun h => { h with sessions := h.sessions.map fun s => { s with
      seen := (gone s).foldl (clear s) s.seen, waits := s.waits.filter fun w => kept s w.seq } }).onDisp fun d => { d with cmds := keep }
  m.each lost fun m w => match w.dest with
    | .batch id item => m.batchReply id item []
    | _ => m

end Sys2Proof.Machine
end

