-- ==== Sys2Proof/Machine/Trip.lean ====
section
/-! DEFINITION. Trips, latched causes, the contactor-opening sequence, fallow scopes, safe stops, self-faults and the
orderly yield: what every family of commands shares (R76, R80-R82, R236, R307-R313, R340-R342, R349-R352, R387). -/

namespace Sys2Proof.Machine

/- The running plan and the pair position -/

/-- A bed of the running plan: 0-31 string beds, 32 the common bed (R52). -/
def Mod.bed? (m : Mod) (b : Nat) : Option Bed := m.plan.running.beds.find? fun x => x.bed == b

/-- The running plan configures string `n` (R313). -/
def Mod.configured (m : Mod) (n : Nat) : Bool := decide (n < 32) && (m.bed? n).isSome

/-- The strings the running plan configures. -/
def Mod.confStrings (m : Mod) : List Nat := strings.filter m.configured

/-- Their mask. -/
def Mod.confMask (m : Mod) : Nat := maskOf m.confStrings

/-- LIMITS of a string's bed (Table 2.16). -/
def Mod.limits (m : Mod) (n : Nat) : Limits :=
  let old : Option Bed := match m.plan.mode, m.plan.previous with
    | .restarting, some p => p.beds.find? fun x => x.bed == n
    | _, _ => none
  match old with
  | some x => x.limits
  | none => ((m.bed? n).map (·.limits)).getD {}

/-- CHAIN_LAYOUT of a string's bed. -/
def Mod.layout (m : Mod) (n : Nat) : ChainLayout := ((m.bed? n).map (·.layout)).getD {}

/-- The converter of a string, none where the running plan configures none. -/
def Mod.convDef? (m : Mod) (n : Nat) : Option ConvDef := (m.bed? n).bind (·.conv)

/-- The configured cells of a string: monitor address and cell, in order of global cell index (R5, R61). -/
def Mod.cellsOf (m : Mod) (n : Nat) : List (Nat × Nat) :=
  (m.layout n).monitors.flatMap fun mc => (setBits 16 mc.cellMask.toNat).map fun k => (mc.addr, k)

/-- Global cell index (R5): 640 cells a string, 16 a monitor. -/
def gcell (n a k : Nat) : Nat := 640 * n + 16 * a + k

/-- The global cell indices of the configured cells of a string. -/
def Mod.gcells (m : Mod) (n : Nat) : List Nat := (m.cellsOf n).map fun c => gcell n c.1 c.2

/-- The strap of a pair position (Table 16.4). -/
def Mod.paired (m : Mod) : Bool := m.power.straps.getLsbD 5

/-- The partner is told that this module's supervisor restarts warm (1), or runs (0) (R448). -/
def Mod.tellPartner (m : Mod) (k : Nat) : Mod :=
  if m.paired && !m.pair.single && decide (m.pair.lanes ≠ 0) then m.out (.graft 10 m.plan.grainCnt (u8 k)) else m

/-- Pair operation (R373). -/
def Mod.pairOp (m : Mod) : Bool := m.paired && !m.pair.single

/-- The slot number is odd (R371, Table 16.4). -/
def Mod.oddSlot (m : Mod) : Bool := m.power.straps.getLsbD 0

/-- The module drives the outputs: it is unpaired or asserts its role line (R372). -/
def Mod.acting (m : Mod) : Bool := !m.paired || m.roleLine

/-- The module is the standby of its pair (R375): it has no role, and no longer runs its plan to a handover (R387). -/
def Mod.standby (m : Mod) : Bool := m.paired && !m.pair.role && m.pair.lastRecord.isNone

/-- A module of a pair position that has not taken a role runs no grain (R374, R561). -/
def Mod.roleless (m : Mod) : Bool := m.standby && m.pair.join.isNone

/-- The record whose logical grain the standby runs now (R378). -/
def Mod.recorded (m : Mod) : Option ReplayRec := if m.standby then m.pair.record else none

/- Contactor groups (R307) -/

/-- CONTACTOR_SQ[n]: the safe output of a string, none for 0xFF. -/
def Mod.groupOf (m : Mod) (n : Nat) : Option Nat :=
  let v := m.parN (0x8070 + n)
  if v < 8 then some v else none

/-- The strings of a group. -/
def Mod.members (m : Mod) (g : Nat) : List Nat := strings.filter fun n => m.groupOf n == some g

/-- CONTACTOR_FB[g]: the feedback channel (input, channel B), none for 0xFF. -/
def Mod.feedbackOf (m : Mod) (g : Nat) : Option (Nat × Bool) :=
  let v := m.parN (0x8090 + g)
  if v < 32 then some (v / 2, decide (v % 2 = 1)) else none

/- Trip requests (R236) -/

/-- A phase outside the running states: LATCHED stays, every other is DISABLED (Table 6.10). -/
def Phase.off (p : Phase) : Phase :=
  { p with
    st := if p.st = .latched then .latched else .disabled
    armTicks := 0, armShed := false, addPending := false, timer := 0, followRun := 0, openRun := 0, stuckRun := 0
    devRun := 0, xp := 0, iRef := 0, duty := 0, climRun := 0, climHalf := false, keptOffset := false }

/-- Every phase of a link leaves the running states. -/
def Mod.phasesOff (m : Mod) (n : Nat) : Mod := m.each (List.range 6) fun m p => m.onPhase n p Phase.off

/-- The running states of R245. -/
def LinkState.running : LinkState → Bool
  | .softStart | .run | .burst | .softStop => true
  | _ => false

/-- Loop states of a link that runs no longer. -/
def Link.loopsOff (k : Link) : Link :=
  { k with
    xPw := 0, iSref := 0, iSrefNext := 0, iUnramped := 0, xS := 0, xLink := 0, iTgt := 0, iTot := 0, iPref := 0
    followSt := 0, followPw := 0, burstRun := 0, burstS := 0, burstLeft := 0, burstSleep := false
    prune := none, respread := false }

/-- A link leaves its running state for `st`: phases DISABLED, loops at rest. -/
def Mod.linkTo (m : Mod) (n : Nat) (st : LinkState) : Mod :=
  (m.phasesOff n).onLink n fun k => { k.loopsOff with st := st, rampTicks := none }

/-- A trip request reaches the injector of link `n` (R236): K28.6 for at least 250 byte times, which is one tick; a burst
begun anew counts in TRIPS; the trip latch is set and any state but DARK becomes TRIPPED (Table 6.9). -/
def Mod.tripRequest (m : Mod) (n : Nat) : Mod :=
  let k := m.link n
  let begun := decide (k.tripTicks = 0)
  let m := if begun then m.out (.tripSymbol n) else m
  let m := if k.st = .dark ∨ k.st = .tripped then m else m.linkTo n .tripped
  m.onLink n fun k => { k with
    tripReq := true, tripTicks := 1, tripHeld := true, tripClear := false, fast := {}
    trips := stopAt 0xFFFF (k.trips + b2n begun) }

/- Latched causes (R313, Table 8.3) -/

def cCellOv : Nat := 1
def cCellUv : Nat := 2
def cCellOt : Nat := 3
def cCellUt : Nat := 4
def cOcDis : Nat := 5
def cOcChg : Nat := 6
def cOcConfig : Nat := 7
def cTone : Nat := 8
def cStaleOpen : Nat := 9
def cSenseHold : Nat := 10
def cSensorHold : Nat := 11
def cLinkLost : Nat := 12
def cConverter : Nat := 13
def cHostTrip : Nat := 14
def cGroup : Nat := 15
def cContFault : Nat := 16
def cSafeStop : Nat := 17
def cModTherm : Nat := 18

/-- Cause `c` is latched on string `n`. -/
def Mod.hasCause (m : Mod) (n c : Nat) : Bool := (m.strProt n).cause.getLsbD (c - 1)

/-- No global cell index: an event that names none. -/
def noGidx : Nat := 0xFFFFFFFF

/-- Latches a cause on a string the running plan configures, once, with its event (R313, R632). The first cause of a trip
counts in TRIPS. -/
def Mod.latchCause (m : Mod) (n c gidx : Nat) (val : Int) : Mod :=
  if !m.configured n || m.hasCause n c then m else
    let m := m.onStrProt n fun p => { p with
      cause := p.cause ||| BitVec.ofNat 18 (2 ^ (c - 1)), lastCause := c, lastGrain := m.plan.grainCnt
      trips := stopAt 0xFFFFFFFF (p.trips + b2n (decide (p.cause = 0))) }
    let m := m.onLink n fun k => { k with tripCause := c, tripGrain := m.plan.grainCnt, tripHeld := true, tripClear := false }
    m.post (0x7000 + c) n (if c = cTone ∨ c = cSafeStop then bSafety else bFabric) (leN 4 gidx ++ leI 4 val)

/- Safe outputs (R308, R311, R342) -/

/-- The group's contact reports closed. -/
def Mod.fbClosed (m : Mod) (g : Nat) : Bool := (m.feedbackOf g).isSome && (m.group g).fbClosed

/-- Both switches of an output open in the same safety cycle (R342). Where feedback is assigned it is judged CONT_FB_TIME later; while it still
reports closed the group is OPENING (R311). A string of the group in SOFT_START is tripped (R312). -/
def Mod.switchOff (m : Mod) (g : Nat) : Mod :=
  let o := m.sq g
  if !o.on && o.lowAt.isNone then m.onGroup g fun x => { x with openAt := none } else
    let closed := m.fbClosed g
    let judge := (m.feedbackOf g).isSome
    let m := m.onSq g fun o => { o with
      on := false, lowAt := none, pulsing := none, switchMs := some m.safety.ms, maint := false, reqOn := false, lowMs := 0, termMs := 0 }
    let m := m.onGroup g fun x => { x with
      openAt := none, openGrain := some m.plan.grainCnt
      st := if x.st = .welded then .welded else if closed then .opening else .opened
      switchedAt := if judge then some m.safety.ms else none, closingJudge := false }
    let m := m.each (m.members g) fun m n => m.onStrProt n fun p => { p with joined := false }
    m.each (m.members g) fun m n => if (m.link n).st = .softStart then (m.latchCause n cGroup noGidx 0).tripRequest n else m

/-- Step 2 and 3 of R308: the open request, with PROT_CONT_DELAY; a closing in progress is aborted at once (R312). -/
def Mod.requestOpen (m : Mod) (g : Nat) : Mod :=
  let o := m.sq g
  let m := (m.onSq g fun o => { o with reqOn := false }).onGroup g fun x => { x with openGrain := some m.plan.grainCnt }
  if !o.on && o.lowAt.isNone then m
  else if o.lowAt.isSome || decide ((m.group g).st = .closing) || decide (m.par 0x7000 = 0) then m.switchOff g
  else if (m.group g).openAt.isSome then m
  else m.onGroup g fun x => { x with openAt := some m.safety.ms }

/-- Step 1 of R308 for the other strings of a group; one that is already tripped is left as it is. -/
def Mod.tripMates (m : Mod) (n g : Nat) : Mod :=
  m.each ((m.members g).filter fun k => k != n) fun m k =>
    if (m.link k).tripHeld || decide ((m.strProt k).cause ≠ 0) then m else (m.latchCause k cGroup noGidx 0).tripRequest k

/-- The strings of a list on which a cause is new; on a string the running plan does not configure no cause is latched. -/
def Mod.newCause (m : Mod) (l : List Nat) (c : Nat) : List Nat := l.filter fun n => !(m.configured n && m.hasCause n c)

/-- The rest of R308 for a string: its group's other strings, and its safe output. A string without a safe output ends after
step 1 (R307). -/
def Mod.openGroup (m : Mod) (n : Nat) : Mod :=
  match m.groupOf n with
  | none => m
  | some g => (m.tripMates n g).requestOpen g

/-- The contactor-opening sequence of R308 for the strings that take a cause together, each of which has it as its own; a cause
already latched starts none. -/
def Mod.openSeqs (m : Mod) (l : List Nat) (c gidx : Nat) (val : Int) : Mod :=
  let new := m.newCause l c
  let m := m.each new fun m n => (m.latchCause n c gidx val).tripRequest n
  m.each new Mod.openGroup

/-- The contactor-opening sequence of R308 for one string with a cause. -/
def Mod.openSeq (m : Mod) (n c gidx : Nat) (val : Int) : Mod := m.openSeqs [n] c gidx val

/- Fallow mode (R348-R350) -/

/-- The module is in fallow mode. -/
def Mod.modFallow (m : Mod) : Bool := m.safety.fallow.any (·.mod)

/-- A string is in fallow mode, on its own account or with the module (R348). -/
def Mod.inFallow (m : Mod) (n : Nat) : Bool := m.safety.fallow.any fun f => f.mod || f.string == n

/-- A cause of fallow mode arises in a scope; the first starts its timer (R350). -/
def Mod.fallowAdd (m : Mod) (mod : Bool) (n : Nat) (c : FallowCause) : Mod :=
  let same (f : FallowScope) : Bool := f.mod == mod && (mod || f.string == n)
  m.onSafety fun s =>
    if s.fallow.any same then
      { s with fallow := s.fallow.map fun f =>
          if same f && !f.causes.contains c then { f with causes := f.causes ++ [c] } else f }
    else { s with fallow := s.fallow ++ [{ mod := mod, string := if mod then 0 else n, causes := [c], started := s.ms
                                           expires := s.ms + 1000 * m.parN 0x809A }] }

/-- A safe stop by fallow expiry stands for a scope. -/
def SafetySt.expiredScope (s : SafetySt) (f : FallowScope) : Bool :=
  s.stops.any fun x => decide (x.kind = .fallow) && (if f.mod then x.mod else !x.mod && x.scope.getLsbD f.string)

/-- A cause of fallow mode clears; a scope without causes ends unless its timer has expired (R350, R351). -/
def Mod.fallowClear (m : Mod) (p : FallowCause → Bool) : Mod :=
  m.onSafety fun s =>
    let l := s.fallow.map fun f => { f with causes := f.causes.filter fun c => !p c }
    { s with fallow := l.filter fun f => !f.causes.isEmpty || s.expiredScope f || decide (f.expires ≤ s.ms) }

/- Safe stops (R352) -/

/-- A safe stop is in force for string `n`. -/
def Mod.stopped (m : Mod) (n : Nat) : Bool := m.safety.stops.any fun s => s.mod || s.scope.getLsbD n

/-- The module safe stop of a kind that only a module restart ends, or any module safe stop. -/
def Mod.modStopped (m : Mod) : Bool := m.safety.stops.any (·.mod)

/-- Every critical diagnostic passes (SAFE_STAT.SELFTEST_OK, Table 9.7): each that fails starts a safe stop that only a module restart ends. -/
def SafetySt.diagnosticsOk (s : SafetySt) : Bool :=
  s.selftestOk && !s.stops.any fun x => match x.kind with
    | .fallow | .overrun => false
    | .fabric | .cores | .critical | .stuck _ => true

/-- The active module of a pair tells the standby that a scheduled activation is cancelled (R75, R76), with its cause. -/
def Mod.tellCancel (m : Mod) (cause : Nat) : Mod :=
  if m.paired && !m.pair.single && m.pair.role then m.out (.graft 22 m.plan.grainCnt (u8 cause)) else m

/-- A candidate that was scheduled is no longer (R76), recorded with its cause. -/
def Mod.cancelActivation (m : Mod) (cause : Nat) : Mod :=
  match m.plan.scheduled, m.plan.staged with
  | some g, some c =>
    ((m.tellCancel cause).onPlan fun p => { p with scheduled := none }).post 0x1008 (if c.kind = 0 then 0xFF else c.bed) bFabric
      (u8 cause ++ [0, 0, 0] ++ leN 4 g.toNat)
  | _, _ => m

/-- The injector of the standby's own port of link `n` sends a trip symbol (R236, R375). -/
def Mod.portTrip (m : Mod) (n : Nat) : Mod :=
  let k := tget m.pair.ports n
  if k.tripTicks ≠ 0 then m else
    (m.onPair fun p => { p with ports := tput p.ports n { k with
      st := if k.st = .dark then .dark else .tripped, tripTicks := 1, tripHeld := true, tripClear := false
      trips := stopAt 0xFFFF (k.trips + 1) } }).out (.tripSymbol n)

/-- The standby's safety processor brings a string to its safe state (R340, R375): its own injector and its own output. -/
def Mod.standbySafe (m : Mod) (n : Nat) : Mod :=
  let m := m.portTrip n
  match m.groupOf n with
  | none => m
  | some g => if (m.sq g).on || (m.sq g).lowAt.isSome then m.requestOpen g else m

/-- Strings are brought to their safe state by the safety processor (R340): trip, SAFE_STOP on each string the running plan
configures, contactors open. A link whose injector is quiet is tripped anew, also where SAFE_STOP is latched already (R20, R22, R23). -/
def Mod.safeStateStrings (m : Mod) (l : List Nat) : Mod :=
  if m.standby then m.each l Mod.standbySafe else
  let m := m.openSeqs (l.filter m.configured) cSafeStop noGidx 0
  let m := m.each l fun m n => if (m.link n).tripTicks = 0 then m.tripRequest n else m
  m.each l fun m n =>
    match m.groupOf n with
    | none => m
    | some g => if (m.sq g).on || (m.sq g).lowAt.isSome then (m.tripMates n g).requestOpen g else m

/-- One string is brought to its safe state. -/
def Mod.safeStateString (m : Mod) (n : Nat) : Mod := m.safeStateStrings [n]

/-- The clock of automatic confirmation starts again (R597). -/
def Mod.trialAgain (m : Mod) : Mod :=
  if m.upd.trialSince.isSome then m.onUpd fun u => { u with trialSince := some m.host.ms } else m

/- The role line (R20, R371, R391, R395) -/

/-- The ports of a module that becomes the standby: trained as the links are, driving nothing. -/
def Link.portOf (k : Link) : Link :=
  { k.loopsOff with
    st := if k.st = .dark ∨ k.st = .tripped then k.st else if k.aligned && k.identOk then .off else .training
    prune := none, burstRun := 0, stopToFault := false, fast := {} }

/-- A CAN port sends nothing while the role line is released (R472): TX_INHIBIT, and what is pending is dropped and counted; a frame on the bus
completes. -/
def CanPort.inhibit (c : CanPort) : CanPort :=
  if c.mode ≠ 1 ∨ c.txInhibit then c else
    let drop := (c.objs.filter fun e => e.2.pending && c.onBus != some (.object e.1)).map (·.1)
    { c with
      objs := drop.foldl (fun t o => tmod t o fun x => { x with pending := false, attempts := 0 }) c.objs
      txInhibit := true, refPending := false, txDropped := stopAt 0xFFFFFFFF (c.txDropped + drop.length + b2n c.refPending) }
def Mod.canInhibit (m : Mod) : Mod := m.each (List.range 4) fun m p => m.onPort p CanPort.inhibit

/-- (ring, monitor) of those that answered the last enumeration at the module's own ring end (R371, R386). -/
def Mod.ownSeen (m : Mod) : List (Nat × Nat) :=
  m.confStrings.flatMap fun n => ((List.range 40).filter fun a =>
    let x := m.mon n a
    x.enumPassed && decide ((if m.oddSlot then x.hopA else x.hopB) ≠ 0xFF)).map fun a => (n, a)

/-- The module becomes the standby: its ports keep their training, and it is out of step until it resynchronises (R391,
R395). -/
def Mod.toStandby (m : Mod) (join : JoinStep) : Mod :=
  let ports := (m.confStrings.filter fun n => (m.convDef? n).isSome).foldl (fun t n => tput t n (m.link n).portOf) []
  let seen := m.ownSeen
  m.canInhibit.onPair fun p => { p with
    role := false, ports := ports, lastRecord := none, cap := {}, endSeen := seen, sync := .none, resyncBed := 0x3F, join := some join, resyncFrom := none, replaced := [], record := none
    logical := none, hbMiss := 0, hbSeen := false, hbNoYield := 0, noRecord := 0, yieldAt := none, announced := none, partnerReady := false, readySince := none }

/-- The role line is released by the safety processor (R20, R22, R23). -/
def Mod.releaseRole (m : Mod) : Mod :=
  if m.paired && m.pair.role then (m.toStandby .lanes).onPair fun p => { p with driverEnabled := false }
  else m.onPair fun p => { p with driverEnabled := false }

/-- Once no module safe stop is left the driver of the role line is enabled again, past the role point (DEDUCED, log 64). -/
def Mod.driverBack (m : Mod) : Mod :=
  if m.modStopped || m.pair.rolePoint.isNone || m.pair.driverEnabled then m else m.onPair fun p => { p with driverEnabled := true }

/-- A safe stop begins: its strings are brought to the safe state; a module safe stop cancels a scheduled activation (R76) and releases the role
line (Table 1.2). -/
def Mod.safeStop (m : Mod) (k : StopKind) (mod : Bool) (scope : Nat) : Mod :=
  let x : SafeStop := { kind := k, scope := BitVec.ofNat 32 scope, mod := mod }
  if m.safety.stops.contains x then m else
    let m := m.onSafety fun s => { s with stops := s.stops ++ [x] }
    let m := if mod then m.trialAgain.cancelActivation 3 else m
    let m := m.safeStateStrings (if mod then strings else setBits 32 scope)
    if mod then m.releaseRole else m

/- Self-faults and the orderly yield (R17, R80, R387) -/

/-- The partner is ready to take over (R387). -/
def Mod.canYield (m : Mod) : Bool := m.pairOp && m.pair.role && m.pair.partnerReady && m.pair.announced.isNone

/-- Decides an orderly yield (R387): T is the next grain, or the one after from tick 90 on; it is announced over the graft
link, and a scheduled activation is cancelled (R76). -/
def Mod.yield (m : Mod) (drill : Bool) : Mod :=
  if m.pair.yieldAt.isSome then m else
    let t := m.plan.grainCnt + (if m.plan.tick < 90 then 1 else 2)
    let m := m.cancelActivation 2
    (m.onPair fun p => { p with yieldAt := some t, yieldDrill := drill }).out (.graft 4 t (u8 (b2n drill)))

/-- SI_FUNC[i] and OI_FUNC[k] in force. -/
def Mod.siFunc (m : Mod) (i : Nat) : Nat := m.parN (0x8000 + i)
def Mod.oiFunc (m : Mod) (k : Nat) : Nat := m.parN (0x8060 + k)

/-- Scope of an input. -/
def Mod.siScope (m : Mod) (i : Nat) : Nat := m.parN (0x8040 + i)
def Mod.oiScope (m : Mod) (k : Nat) : Nat := m.parN (0x8064 + k)

/-- The causes of fallow mode that stand now (Table 9.8): cause, module scope, strings, and marked "yield"; a self-fault from overruns
counts from the tick after its declaration (R81). -/
def Mod.causesNow (m : Mod) : List (FallowCause × Bool × List Nat × Bool) :=
  ((List.range 16).filter fun i => (m.si i).discFault || decide ((m.si i).crossFault ≠ 0)).map
      (fun i => (.siFault i, false, setBits 32 (m.siScope i), false)) ++
  ((List.range 4).filter fun k => (m.oi k).discFault).map (fun k => (.oiFault k, false, setBits 32 (m.oiScope k), false)) ++
  (if m.safety.tpFault ≠ 0 then [(.tpFault, true, [], true)] else []) ++
  ((List.range 8).filter fun g => (m.sq g).hsFault || (m.sq g).lsFault).map (fun g => (.sqFault g, false, m.members g, true)) ++
  (strings.filter fun n => decide ((m.ring n).tonePath ≠ 0)).map (fun n => (.tonePath n, false, [n], true)) ++
  (if m.pairOp && decide (m.safety.graft.st ≠ .run) then [(.graftCloche, true, [], false)] else []) ++
  (if m.plan.selfFaults.any (fun c => c = 0 || c = 3) then [(.supervisor, true, [], true)] else []) ++
  (m.plan.acct.filter fun e => e.2.selfFault && !e.2.fresh).map (fun e =>
    if e.1 = 32 then (.overrunMod, true, [], true) else (.overrunStr e.1, false, [e.1], true)) ++
  (if m.plan.selfFaults.contains 2 then [(.modHigh, true, [], true)] else [])

/-- The partner of a standby has the role, or released it less than 1 ms ago in a handover (R371, R387). -/
def Mod.partnerServes (m : Mod) : Bool := m.pair.partnerRole || decide (m.pair.releasedUs < 1000)

/-- Fallow mode follows its causes (R349): a cause marked "yield" makes an active module with a ready partner yield and gives no fallow mode while a
yield is pending, or in a standby whose partner has the role; without one the module enters fallow mode (DEDUCED, log 65). A cause that has gone
leaves its scope. -/
def Mod.evalCauses (m : Mod) : Mod :=
  let now := m.causesNow
  let m := m.fallowClear fun c => !now.any fun e => e.1 == c
  m.each now fun m e =>
    if e.2.2.2 && m.pairOp && (m.pair.yieldAt.isSome || (m.standby && m.partnerServes)) then m
    else if e.2.2.2 && m.canYield then m.yield false
    else if e.2.1 then m.fallowAdd true 0 e.1
    else m.each e.2.2.1 fun m n => m.fallowAdd false n e.1

/-- A module self-fault with a cause of R632 arises: recorded; with a ready partner the module yields, alone or without one
the fallow rule applies (R17, R30, R317, R387). -/
def Mod.selfFaultMod (m : Mod) (cause : Nat) : Mod :=
  if m.plan.selfFaults.contains cause then m else
    let m := (m.onPlan fun p => { p with selfFaults := cause :: p.selfFaults }).post 0x1001 0xFF bSup (u8 0 ++ u8 cause ++ [0, 0])
    (m.trialAgain.cancelActivation 1).evalCauses

/-- A module self-fault clears. -/
def Mod.selfFaultClear (m : Mod) (cause : Nat) : Mod :=
  if m.plan.selfFaults.contains cause then
    ((m.onPlan fun p => { p with selfFaults := p.selfFaults.filter (· != cause) }).post 0x1002 0xFF bSup
      (u8 0 ++ u8 cause ++ [0, 0])).evalCauses
  else m

/-- Any self-fault of module or bed is in force: the module reports itself not ready and keeps its role driver off. -/
def Mod.anySelfFault (m : Mod) : Bool := !m.plan.selfFaults.isEmpty || m.plan.acct.any fun e => e.2.selfFault

/- What holds a string in the safe state (R334-R341, R358, R359) -/

/-- CLOCHE_REQUIRED. -/
def Mod.clocheReq (m : Mod) : Bool := decide (m.par 0x80A0 = 1)

/-- The levels of channels A and B of a safe input read as demand: mode 0 open; mode 1 A open, B closed (R329). -/
def Mod.siRawA (m : Mod) (i : Nat) : Bool := !(m.si i).a
def Mod.siRawB (m : Mod) (i : Nat) : Bool := if m.par (0x8010 + i) = 1 then (m.si i).b else !(m.si i).b

/-- A channel is in its demand state: by its level, or treated so for a cross-short or a failed test-pulse source (R332). -/
def Mod.faultA (m : Mod) (i : Nat) : Bool := (m.si i).crossFault.getLsbD 0 || m.safety.tpFault.getLsbD 0
def Mod.siDemandA (m : Mod) (i : Nat) : Bool := m.siRawA i || m.faultA i
def Mod.siDemandB (m : Mod) (i : Nat) : Bool := m.siRawB i || (m.si i).crossFault.getLsbD 1 || m.safety.tpFault.getLsbD 1

/-- The input state is DEMAND (R329): either channel; for RESET channel A alone. -/
def Mod.siDemand (m : Mod) (i : Nat) : Bool := m.siDemandA i || (m.siFunc i != 6 && m.siDemandB i)

/-- The permission of a MAINT input: both channels closed (R336). -/
def Mod.maintOn (m : Mod) (i : Nat) : Bool := decide (m.siFunc i = 3) && !m.siDemandA i && !m.siDemandB i

/-- The MAINT inputs active for the zone of string `n` (R336). -/
def Mod.maintFor (m : Mod) (n : Nat) : Option Nat := (List.range 16).find? fun i => m.maintOn i && (m.siScope i).testBit n

/-- An optical input's demand: the first signal low (R338). -/
def Mod.oiDemand (m : Mod) (k : Nat) : Bool := !(m.oi k).a || !(m.oi k).b

/-- The functions other than DOOR in OPEN hold string `n`, with scope and demand: ESTOP, DOOR in WAIT_RESET, ARC and
SMOKE. -/
def Mod.fnHolds (m : Mod) (n : Nat) : Bool :=
  ((List.range 16).any fun i =>
    (m.siScope i).testBit n &&
      ((m.siFunc i == 1 && decide ((m.si i).fstate ≠ .run)) || (m.siFunc i == 2 && decide ((m.si i).fstate = .waitReset)))) ||
  (List.range 4).any fun k => m.oiFunc k != 0 && (m.oiScope k).testBit n && decide ((m.oi k).fstate ≠ .run)

/-- A DOOR of the string's zone is OPEN. -/
def Mod.doorOpen (m : Mod) (n : Nat) : Bool :=
  (List.range 16).any fun i => m.siFunc i == 2 && (m.siScope i).testBit n && decide ((m.si i).fstate = .demand)

/-- Anything but an open door holds the string: a function, the plant's signals, the partner, a safe stop, or a failed ADC
clock (R30, log 32). -/
def Mod.heldElse (m : Mod) (n : Nat) : Bool :=
  m.fnHolds n || (m.clocheReq && (decide (m.safety.runOk ≠ .run) || m.safety.strDemand.getLsbD n || m.safety.strWait.getLsbD n))
    || (m.pairOp && (m.safety.graftDemand ||| m.safety.graftHeld).getLsbD n) || m.safety.bpHold || m.stopped n || m.plan.clkStat.getLsbD 4

/-- String `n` is held in the safe state (R340). -/
def Mod.held (m : Mod) (n : Nat) : Bool := m.heldElse n || m.doorOpen n

/-- The string's group is closed under a maintenance closing and only an open door holds it (R335, R340). -/
def Mod.maintKept (m : Mod) (n : Nat) : Bool :=
  !m.heldElse n && (m.maintFor n).isSome && (match m.groupOf n with | some g => (m.sq g).maint && (m.sq g).on | none => false)

/-- Holds every string that a demand covers (R334, R335, R340); a string closed under maintenance and held by its door
alone is tripped, and its contactor stays closed. -/
def Mod.applyHolds (m : Mod) : Mod :=
  let l := strings.filter m.held
  let kept := l.filter m.maintKept
  let m := m.each kept fun m n =>
    if m.standby then m.portTrip n
    else
      let m := m.latchCause n cSafeStop noGidx 0
      if (m.link n).tripTicks = 0 then m.tripRequest n else m
  m.safeStateStrings (l.filter fun n => !kept.contains n)

/-- A trip request stands at the injector (R20, R236): the safety processor holds the string, a comparator event stands
on it, or a module fault of the hardware stage does. -/
def Mod.standing (m : Mod) (n : Nat) : Bool :=
  m.held n || (m.strAdc n).ocNowDis || (m.strAdc n).ocNowChg

end Sys2Proof.Machine
end

