-- ==== Sys2Proof/Machine/Protection.lean ====
section
/-! DEFINITION. Protection, contactors and thermal management (spec file 08_protection_and_thermal.md). -/

namespace Sys2Proof.Machine

/- Sum groups (R156) and limits -/

/-- Interior tap `k` joins its two cells: suspected, open or intermittent (R156, R158). -/
def TapSt.joins (t : TapSt) : Bool := t.suspect || t.openTap || t.intermittent

/-- Splits populated cells into groups joined by taps. -/
def joinCells (joins : Nat → Bool) (cells : List Nat) : List (List Nat) :=
  (cells.foldl (fun acc k =>
    match acc with
    | g :: gs => if 0 < k && joins k && g.head? == some (k - 1) then (k :: g) :: gs else [k] :: acc
    | [] => [[k]]) []).reverse.map List.reverse

/-- The groups of one monitor: single cells, and sum groups of two or more (R156). -/
def Mod.monGroups (m : Mod) (n : Nat) (mc : MonCfg) : List (List Nat) :=
  let taps := (m.mon n mc.addr).taps
  joinCells (fun k => (tget taps k).joins) (setBits 16 mc.cellMask.toNat)

/-- All groups of a string, as lists of global cell indices. -/
def Mod.groupsOf (m : Mod) (n : Nat) : List (List Nat) :=
  (m.layout n).monitors.flatMap fun mc => (m.monGroups n mc).map fun g => g.map fun k => gcell n mc.addr k

/-- Every member's reading is fresh. -/
def Mod.grpFresh (m : Mod) (g : List Nat) : Bool := g.all fun c => (m.cell c).fresh

/-- The sum of a group's readings, 100 uV. -/
def Mod.grpSum (m : Mod) (g : List Nat) : Nat := (g.map fun c => (m.cell c).v).sum

/-- The limits of a group of `k` cells: the cell limits for one, those of R156 for more. -/
def Mod.grpHi (m : Mod) (n k : Nat) : Int :=
  (k * (m.limits n).ov : Nat) - (if k < 2 then 0 else m.par 0x2143)
def Mod.grpLo (m : Mod) (n k : Nat) : Int :=
  (k * (m.limits n).uv : Nat) + (if k < 2 then 0 else m.par 0x2143)

/-- Every configured cell has a fresh reading and each group meets a bound (R313). -/
def Mod.everyFresh (m : Mod) (n : Nat) (p : Nat → Int → Bool) : Bool :=
  (m.groupsOf n).all fun g => m.grpFresh g && p g.length (m.grpSum g)

/- Temperatures (R299, R300) -/

/-- The cells of a string with a thermistor. -/
def Mod.thermsOf (m : Mod) (n : Nat) : List Nat :=
  (m.layout n).monitors.flatMap fun mc =>
    (setBits 16 (mc.cellMask &&& mc.thermMask).toNat).map fun k => gcell n mc.addr k

/-- The thermistor of its monitor that a cell position reads: its own, or on a compatibility ring one for three cells (Table 3.12). -/
def thermKey (compat : Bool) (c : Nat) : Nat := if compat then c % 16 / 3 else c % 16

/-- One entry for each key, the first of a list. -/
def firstOfKey {α : Type} (l : List (Nat × α)) : List (Nat × α) :=
  l.foldl (fun acc e => if acc.any (fun x => x.1 == e.1) then acc else acc ++ [e]) []

/-- A cell's thermistor is bad now (R299). -/
def Mod.thermBad (m : Mod) (c : Nat) : Bool := (m.therm c).bad

/-- A string has a bad thermistor. -/
def Mod.anyBad (m : Mod) (n : Nat) : Bool := (m.thermsOf n).any m.thermBad

/-- The bad thermistors of a string, each counted once (SENSORS_BAD, Table 8.8). -/
def Mod.sensorsBad (m : Mod) (n : Nat) : Nat :=
  ((m.layout n).monitors.map fun mc =>
    let cs := ((setBits 16 (mc.cellMask &&& mc.thermMask).toNat).map fun k => gcell n mc.addr k).filter m.thermBad
    (firstOfKey (cs.map fun c => (thermKey mc.compat c, ()))).length).sum

/-- Protection temperature of a cell (R300). -/
def Mod.protT (m : Mod) (n c : Nat) : Int :=
  let t := (m.cell c).t
  if m.thermBad c then
    let hi := (m.limits n).tHi
    if hi < t && decide (-4000 ≤ t) && decide (t ≤ 12500) then t else hi
  else t

/-- The protection temperatures of a string. -/
def Mod.protTs (m : Mod) (n : Nat) : List Int := (m.thermsOf n).map (m.protT n)

/-- Judges one thermistor after a round in which its reading was accepted or missed (R299): the reading, the other fresh
thermistors of the monitor. -/
def Mod.judgeTherm (m : Mod) (c : Nat) (others : List Int) : Mod :=
  match (m.cell c).tNew with
  | none => if (m.cell c).tStale then m.onTherm c fun x => { x with bad := true } else m
  | some t =>
    let x := m.therm c
    let step := match x.prev with | some p => decide (m.par 0x7003 < ((t - p).natAbs : Int)) | none => false
    let dev := decide (3 ≤ others.length) &&
      decide ((m.par 0x7004 : Rat) < rabs ((t : Rat) - medianR (others.map fun i : Int => (i : Rat))))
    (m.onCell c fun y => { y with t := t, tRead := true }).onTherm c fun _ =>
      { bad := decide (t ≤ -4000) || decide (12500 ≤ t) || step || dev, prev := some t }

/-- Judges the thermistors of a string whose temperature round has come in, and forgets the round (R298, R299). -/
def Mod.judgeTherms (m : Mod) (n : Nat) : Mod :=
  m.each (m.layout n).monitors fun m mc =>
    let cs := (setBits 16 (mc.cellMask &&& mc.thermMask).toNat).map fun k => gcell n mc.addr k
    let key := thermKey mc.compat
    let fresh := firstOfKey (cs.filterMap fun c => (m.cell c).tNew.map fun t => (key c, t))
    let m := m.each cs fun m c => m.judgeTherm c ((fresh.filter fun e => e.1 != key c).map (·.2))
    m.each cs fun m c => if (m.cell c).tNew.isSome then m.onCell c fun y => { y with tNew := none } else m

/- The comparisons of the protection slot (R297, R298) -/

/-- The first exceedance of each kind of a string: cause, global cell index, reading. -/
def Mod.exceedances (m : Mod) (n : Nat) : List (Nat × Nat × Int) :=
  let gs := (m.groupsOf n).filter m.grpFresh
  let hi := gs.find? fun g => decide (m.grpHi n g.length < m.grpSum g)
  let lo := gs.find? fun g => decide ((m.grpSum g : Int) < m.grpLo n g.length)
  let ts := m.thermsOf n
  let ot := ts.find? fun c => decide ((m.limits n).tHi < m.protT n c)
  let ut := ts.find? fun c => decide (m.protT n c < (m.limits n).tLo)
  let v (c : Nat) (o : Option (List Nat)) : List (Nat × Nat × Int) :=
    match o with | some g => [(c, g.headD 0, (m.grpSum g : Int))] | none => []
  let t (c : Nat) (o : Option Nat) : List (Nat × Nat × Int) :=
    match o with | some g => [(c, g, m.protT n g)] | none => []
  v cCellOv hi ++ v cCellUv lo ++ t cCellOt ot ++ t cCellUt ut

/-- The bands of R302 for a highest protection temperature. -/
def bandOf (lim : Limits) (tMax : Int) : Band :=
  if lim.tDerate ≤ tMax then .derate else if lim.tDerate - 300 ≤ tMax then .hold else .restore

/-- Derating band, charge and discharge inhibits of a string for one grain (R302, R303, R315). -/
def Mod.derate (m : Mod) (n : Nat) : Mod :=
  let ts := m.protTs n
  let lim := m.limits n
  let m := match ts with
    | [] => m
    | t0 :: rest =>
      let b := bandOf lim (rest.foldl max t0)
      m.onStrProt n fun p =>
        if b = p.band then { p with bandGrains := p.bandGrains + 1 }
        else { p with band := b, bandGrains := 0, step := if b = Band.derate then stopAt 8 (p.step + 1) else p.step }
  let cold := ts.any fun t => decide (t < lim.tChgMin)
  let warm := ts.all fun t => decide (lim.tChgMin + 200 ≤ t)
  let rec_ := m.everyFresh n fun k s => decide (m.grpLo n k + k * m.par 0x7008 ≤ s)
  m.onStrProt n fun p => { p with
    chgInhibit := if cold then true else if warm then false else p.chgInhibit
    disInhibit := p.disInhibit && !rec_ }

/-- Derating factor, and the charge factor (R302, R303); a protection slot that has not retired yet decides nothing (R54). -/
def Mod.derateFactor (m : Mod) (n : Nat) : Rat := if (m.strProt n).undecided then 1 else 1 - (m.strProt n).step / 8
def Mod.chgFactor (m : Mod) (n : Nat) : Rat := if (m.strProt n).chgInhibit && !(m.strProt n).undecided then 0 else m.derateFactor n

/-- The comparator thresholds that the activated bed asks for (R304), mA. -/
def Mod.ocWanted (m : Mod) (n : Nat) : Nat × Nat :=
  let lim := ((m.bed? n).map (·.limits)).getD {}
  (lim.ocDis, lim.ocChg)

/-- The DACs are read back with the codes written (R304, R508). -/
def Mod.ocMatch (m : Mod) (n : Nat) : Bool := decide (tget m.prot.ocReadback n = some ((m.strAdc n).dacHi, (m.strAdc n).dacLo))

/-- Writes a bed's thresholds into the comparators when it is activated (R304). -/
def Mod.writeOc (m : Mod) (n : Nat) : Mod :=
  m.onProt fun p => { p with ocWritten := tput p.ocWritten n (some (m.ocWanted n)) }

/-- A cause that the protection slot finds is latched at once; its trip waits for the tick after the slot's deadline (R298). -/
def Mod.latchForTrip (m : Mod) (n c gidx : Nat) (val : Int) : Mod :=
  m.each (m.newCause [n] c) fun m n => (m.latchCause n c gidx val).onStrProt n fun p => { p with tripDue := true }

/-- The tick after the slot's deadline: the trip request and the opening sequence of a string with a cause newly found (R298). -/
def Mod.tripDueTick (m : Mod) (n : Nat) : Mod :=
  if (m.strProt n).tripDue then ((m.onStrProt n fun p => { p with tripDue := false }).tripRequest n).openGroup n else m

/-- The thresholds of string `n` are read back (R304): the codes `rb` of its upper and lower DAC, none where they hold what was written. Not
in tick 0 of a grain that writes them again (R508, R515). The standby reads what the active module read (R378). -/
def Mod.ocRead (m : Mod) (n : Nat) (rb : Option (Int × Int)) : Mod :=
  let a := m.strAdc n
  if m.plan.tick = 0 ∧ a.dacGrain = some m.plan.grainCnt then m else
    let rb := match m.recorded with
      | some r => (r.readback.find? fun e => e.1 == n).map (·.2)
      | none => rb
    let m := match rb with
      | some x => m.capture fun r => { r with readback := r.readback ++ [(n, x)] }
      | none => m
    let m := m.onProt fun p => { p with ocReadback := tput p.ocReadback n (some (rb.getD (a.dacHi, a.dacLo))) }
    if m.ocMatch n then m else m.openSeq n cOcConfig noGidx 0

/-- The protection slot of string `n` (R297-R304): comparisons, thermistors, bands, bad-sensor age, and the thresholds read
back (`rb`, as the comparators return them; none where they return what was written). -/
def Mod.protectSlot (m : Mod) (n : Nat) (rb : Option (Int × Int)) : Mod :=
  let m := m.judgeTherms n
  let m := m.each (m.exceedances n) fun m e => m.latchForTrip n e.1 e.2.1 e.2.2
  let m := m.derate n
  let bad := m.anyBad n
  let m := m.onStrProt n fun p => { p with
    undecided := false
    sensorBadAge := if !bad then 0 else if (m.strDisp n).inService then p.sensorBadAge + 1 else p.sensorBadAge
    sensorHoldDone := p.sensorHoldDone && bad }
  m.ocRead n rb

/-- Row SENSOR_BAD_HOLD_EXPIRY (R301). -/
def sensorBadHoldExpiry (n : Nat) (m : Mod) : Mod :=
  let p := m.strProt n
  if m.configured n && m.anyBad n && !p.sensorHoldDone && decide (1000 * m.parN 0x7005 ≤ p.sensorBadAge) then
    (m.onStrProt n fun p => { p with sensorHoldDone := true }).openSeq n cSensorHold noGidx 0
  else m

/-- Row DERATE_STEP_TIMER (R302): 10 s in derate raises k, 60 s in restore lowers it; the timer starts again. -/
def derateStepTimer (n : Nat) (m : Mod) : Mod :=
  m.onStrProt n fun p =>
    match p.band with
    | .derate => if 10000 ≤ p.bandGrains && p.step < 8 then { p with step := p.step + 1, bandGrains := 0 } else p
    | .restore => if 60000 ≤ p.bandGrains && 0 < p.step then { p with step := p.step - 1, bandGrains := 0 } else p
    | .hold => p

/- Over-current (R305) -/

/-- A comparator output goes beyond its window for OC_DEGLITCH in grain `g`; it is latched where the fabric reads the latch (R305). -/
def StrAdc.ocEvent (a : StrAdc) (above latch : Bool) (g : W32) : StrAdc :=
  let a := { a with ocGrain := some g, ocPeak := a.peakNow, cmpEvents := (a.cmpEvents + 1) % 2 ^ 32 }
  if above then { a with ocNowDis := true, ocLatchDis := a.ocLatchDis || latch } else { a with ocNowChg := true, ocLatchChg := a.ocLatchChg || latch }

/-- Row OC_COMPARATOR_EVENT: a comparator output beyond its window for OC_DEGLITCH drives the injector and is latched for
the fabric; inside the window again it stands no longer. In the standby it drives the injector alone: its plan has the events of the active module
from the record (R306, R375, R378). -/
def ocComparatorEvent (n : Nat) (above active : Bool) (m : Mod) : Mod :=
  if active then
    let m := m.onStrAdc n fun a => a.ocEvent above (!m.standby) m.plan.grainCnt
    if m.standby then m.portTrip n else m.tripRequest n
  else m.onStrAdc n fun a => if above then { a with ocNowDis := false } else { a with ocNowChg := false }

/-- OC_PEAK at the end of a grain: the sample of largest magnitude of the whole grain of the last event (Table 8.14). -/
def Mod.peakGrain (m : Mod) (n : Nat) : Mod :=
  m.onStrAdc n fun a => { a with ocPeak := if a.ocGrain = some m.plan.grainCnt then a.peakNow else a.ocPeak, peakNow := 0 }

/-- The latched comparator events that the string loop reads in this tick, discharge and charge side, with the peak; in the standby those of the
record (R305, R378). -/
def Mod.ocLatched (m : Mod) (n : Nat) : Bool × Bool × Int :=
  match m.recorded with
  | some r => ((r.oc.find? fun e => e.1 == m.plan.tick && e.2.1 == n).map (·.2.2)).getD (false, false, 0)
  | none => ((m.strAdc n).ocLatchDis, (m.strAdc n).ocLatchChg, (m.strAdc n).peakNow)

/-- The string loop reads the latched events (R32, R305): cause OC_DIS or OC_CHG and the sequence of R308. -/
def Mod.readOcLatch (m : Mod) (n : Nat) : Mod :=
  let (dis, chg, peak) := m.ocLatched n
  if !dis && !chg then m else
    let m := (m.onStrAdc n fun a => { a with ocLatchDis := false, ocLatchChg := false }).capture fun r => { r with
      oc := r.oc ++ [(m.plan.tick, n, dis, chg, peak)] }
    let m := if dis then m.openSeq n cOcDis noGidx peak else m
    if chg then m.openSeq n cOcChg noGidx peak else m

/- Contactors (R308-R312) -/

/-- Row CONT_DELAY_EXPIRY (R308 step 3). -/
def contDelayExpiry (g : Nat) (m : Mod) : Mod :=
  match (m.group g).openAt with
  | some t => if t + m.parN 0x7000 ≤ m.safety.ms then m.switchOff g else m
  | none => m

/-- CONT_FAULT on every string of a group (R311). -/
def Mod.contFault (m : Mod) (g : Nat) : Mod :=
  let m := m.onGroup g fun x => { x with fault := true }
  m.each (m.members g) fun m n => if m.hasCause n cContFault then m else (m.latchCause n cContFault noGidx 0).tripRequest n

/-- A group's contact counts as closed (R310). -/
def Mod.closeDone (m : Mod) (g : Nat) : Mod := m.onGroup g fun x => { x with st := .closed, switchedAt := none, closingJudge := false }

/-- Row CONT_FB_TIMEOUT (R310, R311): CONT_FB_TIME after a switching. -/
def contFbTimeout (g : Nat) (m : Mod) : Mod :=
  let x := m.group g
  match x.switchedAt with
  | none => m
  | some t =>
    if m.safety.ms < t + m.parN 0x7001 then m
    else if x.closingJudge then
      if (m.feedbackOf g).isNone || m.fbClosed g then m.closeDone g
      else ((m.switchOff g).post 0x7023 g bSafety []).contFault g
    else if m.fbClosed g then
      ((m.onGroup g fun x => { x with st := .welded, switchedAt := none }).post 0x7021 g bSafety []).contFault g
    else m.onGroup g fun x => { x with st := .opened, switchedAt := none }

/-- Feedback of a group agrees with its output (Table 8.3, CONT_FAULT). -/
def Mod.fbAgrees (m : Mod) (g : Nat) : Bool := (m.feedbackOf g).isNone || (m.group g).fbClosed == (m.sq g).on

/-- CONT_FAULT is no longer in force for a group once feedback agrees and no string of it holds the cause. -/
def Mod.contFaultEnd (m : Mod) (g : Nat) : Mod :=
  if m.fbAgrees g && (m.members g).all fun n => !m.hasCause n cContFault then m.onGroup g fun x => { x with fault := false } else m

/-- One group's feedback takes a level (R310, R311). -/
def Mod.groupFeedback (m : Mod) (g : Nat) (closed : Bool) : Mod :=
  let m := m.onGroup g fun x => { x with fbClosed := closed }
  match (m.group g).st, closed with
  | .closing, true => if (m.sq g).on then m.closeDone g else m
  | .closed, false =>
    let m := m.post 0x7022 g bSafety []
    let m := m.onGroup g fun x => { x with fault := true }
    let m := m.openSeqs (m.members g) cContFault noGidx 0
    m.requestOpen g
  | .opening, false => m.onGroup g fun x => { x with st := .opened }
  | .welded, false => (m.onGroup g fun x => { x with st := .opened, switchedAt := none }).contFaultEnd g
  | _, _ => m.contFaultEnd g

/-- A feedback channel takes a level: every group it is assigned to sees it (R307, Table 9.1). -/
def Mod.feedbackChannel (m : Mod) (i : Nat) (b : Bool) (closed : Bool) : Mod :=
  let m := m.onSi i fun x => if b then { x with b := closed } else { x with a := closed }
  m.each ((List.range 8).filter fun g => m.feedbackOf g == some (i, b)) fun m g => m.groupFeedback g closed

/-- Row CONTACTOR_FEEDBACK_CHANGE. -/
def contactorFeedbackChange (g : Nat) (closed : Bool) (m : Mod) : Mod :=
  match m.feedbackOf g with
  | some (i, b) => m.feedbackChannel i b closed
  | none => m

/-- The contactor of a string is closed; a string without one needs none (R307, Table 6.9). -/
def Mod.contClosed (m : Mod) (n : Nat) : Bool :=
  match m.groupOf n with
  | none => true
  | some g => (m.strProt n).joined && decide ((m.group g).st = .closed)

/-- PROT_STAT.CONT_STATE of a string: 0 OPEN, 1 CLOSING, 2 CLOSED, 3 OPENING, 4 CLOSED_SHARED, 5 WELDED, 6 NONE. -/
def Mod.contState (m : Mod) (n : Nat) : Nat :=
  match m.groupOf n with
  | none => 6
  | some g =>
    match (m.group g).st with
    | .opened => 0
    | .closing => 1
    | .closed => if (m.strProt n).joined then 2 else 4
    | .opening => 3
    | .welded => 5

/-- A link counts as OFF: OFF, or DARK for a string with no converter in the running plan (R310). -/
def Mod.linkOff (m : Mod) (n : Nat) : Bool :=
  decide ((m.link n).st = .off) || (decide ((m.link n).st = .dark) && (m.convDef? n).isNone)

/-- No reading of a string exceeds a limit and every configured cell is fresh; no thermistor is bad (R310). -/
def Mod.cellsOk (m : Mod) (n : Nat) : Bool :=
  (m.groupsOf n).all m.grpFresh && (m.exceedances n).isEmpty && !m.anyBad n

/-- Data of the plant connection as consumed: PCMD, STRING_OK, CLOSE_MASK (R357, R358). -/
def Mod.plantByte (m : Mod) (off k : Nat) : Nat :=
  if decide (m.safety.plant.st = .run) then rdN m.safety.plant.data off k else 0

/-- The plant permits the closing of string `n` (R342, R358). -/
def Mod.plantPermits (m : Mod) (n : Nat) : Bool :=
  !m.clocheReq || ((m.plantByte 0 1).testBit 2 && (m.plantByte 8 4).testBit n
    && (match m.groupOf n with | none => true | some g => (m.members g).all fun k => (m.plantByte 4 4).testBit k))

/-- A group is closed, on its way to it, or not yet known to have opened (R307-R311). -/
def Mod.groupClosed (m : Mod) (g : Nat) : Bool :=
  (m.sq g).on || (m.sq g).lowAt.isSome || decide ((m.group g).st ≠ .opened) || m.fbClosed g

/-- A maintenance closing of string `n` in the zone of input `i` is allowed (R336): no other group of the zone is closed. -/
def Mod.maintAllows (m : Mod) (n i : Nat) : Bool :=
  let zone := setBits 32 (m.siScope i)
  decide (m.safety.twoHand = .active) && zone.all m.linkOff &&
    ((List.range 8).all fun g => m.groupOf n == some g || !m.groupClosed g || !(m.members g).any fun k => zone.contains k)

/-- What the safety functions ask of the string that a safe output is switched on for: an ESTOP in whose scope it lies, the plant's permission, the
conditions of a maintenance closing, and no fallow mode (R328, R336, R342, R348, R358). -/
def Mod.stringPermits (m : Mod) (n : Nat) : Bool :=
  ((List.range 16).any fun i => m.siFunc i == 1 && (m.siScope i).testBit n) && m.plantPermits n && !m.inFallow n &&
    (match m.maintFor n with | some i => m.maintAllows n i | none => true)

/-- The safety functions permit the closing of string `n` (R310, R328, R336, R340, R342, R348, R358). -/
def Mod.safetyPermits (m : Mod) (n : Nat) : Bool :=
  let ms := match m.groupOf n with | some g => m.members g | none => [n]
  ms.all (fun k => !m.held k) && m.stringPermits n

/-- The strings that a group closes for: those that have joined it, or every member where none has. -/
def Mod.closers (m : Mod) (g : Nat) : List Nat :=
  let js := (m.members g).filter fun n => (m.strProt n).joined
  if js.isEmpty then m.members g else js

/-- The safety processor may switch output `g` on now (R328, R336, R340, R342, R345, R348, R622): no demand holds a string of the group, and the
strings it closes for are permitted. -/
def Mod.outputPermits (m : Mod) (g : Nat) : Bool :=
  let o := m.sq g
  (m.members g).all (fun k => !m.held k) && (m.closers g).all m.stringPermits && !o.stuck && !o.overload && !m.safety.fieldLow.getLsbD (g / 4)

/-- The chain keeps a string that is out of service from being brought into service: an enumeration fault, which a retry does not end before it has
passed (R117), a monitor that is
not authenticated (R122), or a full test still owed (R168, R169, R175). -/
def Mod.chainBars (m : Mod) (n : Nat) : Bool :=
  (m.ring n).enumBad || (m.layout n).monitors.any fun mc =>
    let x := m.mon n mc.addr
    !mc.compat && (x.unauth || x.replaced || x.testDue)

/-- The closing conditions of R310, with those of R311, R317, R345 and R622. -/
def Mod.mayClose (m : Mod) (n g : Nat) : Bool :=
  let ms := m.members g
  let o := m.sq g
  ms.all m.linkOff && ms.all (fun k => decide ((m.strProt k).cause = 0)) && m.cellsOk n && !(m.ring n).toneTrip
    && m.safetyPermits n && !o.stuck && !o.overload && decide ((m.group g).st ≠ .welded)
    && (m.group g).openAt.isNone && decide ((m.group g).openGrain ≠ some m.plan.grainCnt) && !m.prot.trip && !m.upd.service && !m.safety.fieldLow.getLsbD (g / 4)

/-- Asks for the contactor of string `n` to be closed (R310): granted, or refused with STATE. A group whose output is on
is closed at once; otherwise the low side closes first (R342). -/
def Mod.closeRequest (m : Mod) (n : Nat) : Mod × Bool :=
  match m.groupOf n with
  | none => (m, true)
  | some g =>
    if !m.mayClose n g then (m, false) else
      let m := m.onStrProt n fun p => { p with joined := true }
      let o := m.sq g
      if o.on || o.lowAt.isSome then (m, true) else
        let m := m.onSq g fun o => { o with reqOn := true, lowAt := some m.safety.ms, maint := (m.maintFor n).isSome }
        (m.onGroup g fun x => { x with st := .closing, switchedAt := none }, true)

/-- Opening for service (R309): the output is switched off once every link of the group is OFF and no string of it is in service: R288 takes a
string into service when its command is accepted. -/
def Mod.serviceCheck (m : Mod) (g : Nat) : Mod :=
  let ms := m.members g
  if ((m.sq g).on || (m.sq g).lowAt.isSome) && ms.all (fun k => !(m.strDisp k).inService && m.linkOff k) then m.switchOff g else m

/-- A string leaves its closed group for service (R309). -/
def Mod.serviceOpen (m : Mod) (n : Nat) : Mod :=
  let m := m.onStrProt n fun p => { p with joined := false }
  match m.groupOf n with
  | some g => m.serviceCheck g
  | none => m

/- Clearing (R313-R315) -/

/-- The configured phases of a link that are in n_ok (R243). -/
def Mod.nOk (m : Mod) (n : Nat) : Nat :=
  match m.convDef? n with
  | none => 0
  | some d => ((List.range d.phases).filter fun p => decide ((m.phase n p).st ≠ .latched ∧ (m.phase n p).st ≠ .hiccup)).length

/-- The clear condition of a cause holds (Table 8.3). -/
def Mod.clearCond (m : Mod) (n c : Nat) : Bool :=
  let lim := m.limits n
  let hv := m.par 0x7006
  let ht := m.par 0x7007
  let ts := m.protTs n
  match c with
  | 1 => m.everyFresh n fun k s => decide (s ≤ m.grpHi n k - k * hv)
  | 2 => m.everyFresh n fun k s => decide (m.grpLo n k + k * hv ≤ s)
  | 3 => ts.all fun t => decide (t ≤ lim.tHi - ht)
  | 4 => ts.all fun t => decide (lim.tLo + ht ≤ t)
  | 5 | 6 => !(m.strAdc n).ocNowDis && !(m.strAdc n).ocNowChg
  | 7 => m.ocMatch n
  | 9 => (m.gcells n).all fun g => (m.cell g).fresh
  | 10 => (m.layout n).monitors.all fun mc => (m.mon n mc.addr).taps.all fun e => !e.2.openTap
  | 11 => !m.anyBad n
  | 12 => (m.link n).aligned
  | 13 => decide ((m.link n).fault &&& 0xFF7F#16 = 0) && decide (0 < m.nOk n)
  | 14 => true
  | 15 =>
    match m.groupOf n with
    | some g => ((m.members g).filter fun k => k != n).all fun k => decide ((m.strProt k).cause &&& ~~~(BitVec.ofNat 18 (2 ^ 14)) = 0)
    | none => true
  | 16 => match m.groupOf n with | some g => m.fbAgrees g | none => true
  | 17 => !m.held n
  | 18 => !m.prot.trip
  | _ => false

/-- Removes a cause from a string. -/
def Mod.dropCause (m : Mod) (n c : Nat) : Mod :=
  let m := m.onStrProt n fun p => { p with cause := p.cause &&& ~~~(BitVec.ofNat 18 (2 ^ (c - 1))) }
  match m.groupOf n with
  | some g => if c = cContFault then m.contFaultEnd g else m
  | none => m

/-- Once no cause remains, the trip latch clears and TRIP_CLEAR is sent (R314, R236). -/
def Mod.releaseTrip (m : Mod) (n : Nat) : Mod :=
  if (m.strProt n).cause = 0 && !m.standing n then
    m.onLink n fun k => { k with tripHeld := false, tripReq := false, tripClear := k.tripClear || (k.tripHeld && decide (k.st = .tripped)) }
  else m

/-- The protection-clear command on a string mask (R314, R315), judged in the command's effective grain; GROUP is judged
after the other causes, and again once a charge-only clear has taken CELL_UV (DEDUCED, log 20). Answers STATE where a cause remains. -/
def protClear (mask : Nat) (chargeOnly : Bool) (m : Mod) : Mod × Nat :=
  let ns := setBits 32 mask
  let clear (m : Mod) (n c : Nat) : Mod := if m.hasCause n c && m.clearCond n c then m.dropCause n c else m
  let m := m.each ns fun m n => m.each ((List.range 18).map (· + 1) |>.filter fun c => c != cTone && c != cGroup) fun m c => clear m n c
  let m := m.each ns fun m n => clear m n cGroup
  let m := m.each ns fun m n =>
    if chargeOnly && decide ((m.strProt n).cause = BitVec.ofNat 18 2) then
      (m.dropCause n cCellUv).onStrProt n fun p => { p with disInhibit := true }
    else m
  let m := m.each ns fun m n => clear m n cGroup
  let m := m.each ns Mod.releaseTrip
  (m, if ns.all fun n => decide ((m.strProt n).cause = 0) then 0 else 0x8007)

/- The module's own temperature (R317) -/

/-- T_MOD takes a value (R317, Table 8.4). -/
def Mod.modTemp (m : Mod) (t : Int) : Mod :=
  let p := m.prot
  let warn := if p.warn then decide (8000 ≤ t) else decide (8500 ≤ t)
  let high := if p.high then decide (9000 ≤ t) else decide (9500 ≤ t)
  let trip := p.trip || decide (10500 ≤ t)
  let m := m.onProt fun p => { p with tMod := t, warn := warn, high := high, trip := trip }
  let m := if warn && !p.warn then m.post 0x7024 0xFF bFabric (leI 2 t) else m
  let m := if high && !p.high then m.selfFaultMod 2 else m
  let m := if !high && p.high then m.selfFaultClear 2 else m
  if trip && !p.trip then m.openSeqs m.confStrings cModTherm noGidx t else m

/- The signals between frames (R91, R92, R125) -/

/-- The transmitters of a ring change the signal that they send between frames (R91, R92). -/
def Mod.setLine (m : Mod) (n : Nat) (sig : LineSignal) : Mod :=
  if (m.ring n).line = sig then m else (m.onRing n fun r => { r with line := sig }).out (.line n sig)

/-- What the transmitters send between frames now (Table 3.2): nothing on a ring not configured, the module's own wake tone for
its 4 ms (R125), else idle fill. -/
def Mod.lineNow (m : Mod) (n : Nat) : LineSignal :=
  if (m.layout n).monitors.isEmpty then .off
  else match (m.ring n).wokeMs with
  | some t => if m.host.ms - t < 4 then .wake else .idle
  | none => .idle

/-- The signals of every ring follow the module's clock, whether or not a plan runs. -/
def Mod.lineTick (m : Mod) : Mod := m.each m.confStrings fun m n => m.setLine n (m.lineNow n)

/-- Wake tone, 4 ms long (R126), is no longer declared at an end (R92, log 60). -/
def Ring.wakeOver (r : Ring) (ms : Nat) : Ring :=
  let a := decide (4 ≤ ms - r.wakeMsA)
  let b := decide (4 ≤ ms - r.wakeMsB)
  { r with wake := r.wake &&& (if a then 2#2 else 3#2) &&& (if b then 1#2 else 3#2) }

/-- Wake tones end at every ring, configured or not (R92, R126). -/
def Mod.wakeTick (m : Mod) : Mod :=
  m.each (strings.filter fun n => decide ((m.ring n).wake ≠ 0)) fun m n => m.onRing n (·.wakeOver m.host.ms)

end Sys2Proof.Machine
end

