-- ==== Sys2Proof/Machine/Adc.lean ====
section
/-! DEFINITION. The local measurement ADC (spec file 14_local_adc.md): regular rounds, injected sequences, the
calibration layers, comparator thresholds, analogue and pulse inputs, self-calibration, registers and points. -/

namespace Sys2Proof.Machine

/-- Parameter `f` of parameter slot `s` (R519). -/
def adcId (s f : Nat) : Nat := 0xC000 + 16 * s + f
def Mod.adcPar (m : Mod) (s f : Nat) : Int := m.par (adcId s f)

/- Calibration layers (R506, R514) -/

/-- A code after self-calibration. -/
def AdcConv.c1 (c : AdcConv) (code : Int) : Rat := ((code - c.scOffset : Int) : Rat) * (1 + (c.scGain : Rat) / 1048576)

/-- Factory calibration of parameter slot `s`. -/
def Mod.factory (m : Mod) (s : Nat) (x : Rat) : Rat :=
  let o := tget m.upd.otp s
  x * (1 + (o.fGain : Rat) / 1000000) + (o.fOffset : Rat)

/-- User calibration of parameter slot `s`. -/
def Mod.userCal (m : Mod) (s : Nat) (x : Rat) : Rat :=
  x * (1 + (m.adcPar s 1 : Rat) / 1000000) + (m.adcPar s 0 : Rat)

/-- mA per uV of string `n`, signed (R506). -/
def Mod.sensor (m : Mod) (n : Nat) : Rat :=
  (m.adcPar n 2 : Rat) / 1000000 * (if m.adcPar n 3 = 1 then -1 else 1)

/-- A code is over-range (R499). -/
def overCode (c : Int) : Bool := decide (c ≤ -131072 ∨ 131071 ≤ c)

/-- The terminal voltage of a string-current code, uV (R506). -/
def Mod.strVolt (m : Mod) (n : Nat) (code : Int) : Rat := m.factory n ((m.adcConv (n / 16)).c1 code * 40)

/-- The string current of a code, mA (R506). -/
def Mod.strMa (m : Mod) (n : Nat) (code : Int) : Int := rnear (m.userCal n (m.strVolt n code * m.sensor n))

/-- The value of an analogue input in a mode, uV at the terminal through the divider, or nA in the burden (R510, DEDUCED, log 29). -/
def Mod.aiVal (m : Mod) (a mode : Nat) (code : Int) : Int :=
  let x := (m.adcConv 2).c1 code * 40
  rnear (m.userCal (32 + a) (m.factory (32 + a) (if mode = 0 then x * 5 / 2 else x * 4)))

/- Regular rounds (R499-R502) -/

/-- Carrier events of a link with a converter in the running plan, from O_n (R500): nanoseconds into each tick. -/
def Mod.carrierNs (m : Mod) (k : Nat) : Option Nat := (m.convDef? k).map fun d => (d.frameOrigin + 4800) % 10000

/-- Nanoseconds from the grain boundary to the start of the round of converter `c` in tick `t` (R500). -/
def Mod.trigNs (m : Mod) (c t : Nat) : Nat :=
  let x := m.adcConv c
  let d := 10 * x.trigDelay
  10000 * t + (if x.trigSrc = 1 && !x.trigFallback then (d + (m.carrierNs x.trigLink).getD 0) % 10000 else d)

/-- A sample of string `n` (R502, R506). -/
def Mod.takeStr (m : Mod) (n ns : Nat) (code : Int) (lost ok : Bool) : Mod :=
  if lost then m.onStrAdc n fun a => { a with lostNow := a.lostNow + 1 }
  else
    let o := overCode code
    let i := m.strMa n code
    let m := m.onStrAdc n fun a =>
      let a := { a with vIn := rnear (m.strVolt n code), satNow := a.satNow || o }
      if o || !ok then a else
        { a with
          iLast := i
          sum := a.sum + i
          minNow := if a.nNow = 0 then i else min a.minNow i
          maxNow := if a.nNow = 0 then i else max a.maxNow i
          nNow := a.nNow + 1
          win := a.win ++ [(ns, i)] }
    m.onStrAdc n fun a => { a with peakNow := if a.peakNow.natAbs < i.natAbs then i else a.peakNow }

/-- A sample of an analogue input (R510). -/
def Mod.takeAi (m : Mod) (a : Nat) (code : Int) (lost ok : Bool) : Mod :=
  if lost then m else
    let o := overCode code
    m.onAi a fun x =>
      let v := m.aiVal a x.mode code
      let x := { x with satNow := x.satNow || o, last := v }
      if o || !ok || x.burdenOpen.isSome then x else
        { x with
          sum := x.sum + v
          minNow := if x.nNow = 0 then v else min x.minNow v
          maxNow := if x.nNow = 0 then v else max x.maxNow v
          nNow := x.nNow + 1 }

/-- A sample of a board channel (R512). -/
def Mod.takeBoard (m : Mod) (k : Nat) (code : Int) (lost ok : Bool) : Mod :=
  if lost || !ok || overCode code then m else
    let v := rnear (m.userCal (38 + k) (m.factory (38 + k) (Config.boardUnit k ((m.adcConv 2).c1 code))))
    m.onAdc fun a =>
      let e := nth a.boardSum k
      { a with boardSum := setNth 8 a.boardSum k (e.1 + v, e.2 + 1) }

/-- The codes of the references of slots 16-19 (Table 14.1). -/
def refCode (k : Nat) : Rat := if k = 0 then 102400 else if k = 1 then -102400 else 0

/-- The references of a round (R501): a run of 10 rounds outside 0.05 % of 4.096 V fails the converter. -/
def Mod.judgeRefs (m : Mod) (c : Nat) (r : AdcRound) : Mod :=
  let x := m.adcConv c
  let runs := (List.range 4).map fun k =>
    if r.lost.getLsbD (16 + k) then nth x.refBad k
    else if rabs (x.c1 (nth r.codes (16 + k)) - refCode k) ≤ 256 / 5 then 0 else stopAt 10 (nth x.refBad k + 1)
  let bad := runs.any fun n => decide (10 ≤ n)
  m.onAdcConv c fun x => { x with refBad := runs, refFail := x.refFail || bad, failed := x.failed || bad }

/-- The results of the slots of a round below `top` that have not yet reached their channels do so; lost slots are counted (R500-R504). -/
def Mod.takeSlots (m : Mod) (c : Nat) (r : AdcRound) (top : Nat) : Mod :=
  let x := m.adcConv c
  let ok := x.running && !x.failed
  let now := (List.range top).filter fun k => decide (r.done ≤ k)
  let m := m.each (now.filter fun k => decide (k < 16)) fun m k =>
    let lost := r.lost.getLsbD k
    let code := nth r.codes k
    if c < 2 then m.takeStr (16 * c + k) (r.start + 500 * k).toNat code lost ok
    else if k < 8 then m.takeAi (k % 4) code lost ok
    else m.takeBoard (k - 8) code lost ok
  m.onAdcConv c fun x => { x with lostNow := x.lostNow + (now.filter r.lost.getLsbD).length }

/-- The round of converter `c` in progress ends: its results reach the channels (R500-R502). -/
def Mod.commitRound (m : Mod) (c : Nat) : Mod :=
  match (m.adcConv c).round with
  | none => m
  | some r => ((m.takeSlots c r 20).onAdcConv c fun x => { x with round := none }).judgeRefs c r

/-- The grain ends in a round of converter `c`: the slots sampled in it belong to it, and the rest to the next grain, under its parameters
(R500, R506, R515). -/
def Mod.splitRound (m : Mod) (c : Nat) : Mod :=
  let shift (x : AdcConv) : AdcConv := { x with endNs := x.endNs.map fun e => e - 1000000 }
  match (m.adcConv c).round with
  | none => m.onAdcConv c shift
  | some r =>
    let top := ((List.range 20).filter fun k => decide (r.start + 500 * k < 1000000)).length
    let m := if top = 20 then m.commitRound c
      else (m.takeSlots c r top).onAdcConv c fun x => { x with round := some { r with done := max r.done top, start := r.start - 1000000 } }
    m.onAdcConv c shift

/-- The slots of a round that the time from `a` to `b` ns overlaps (R504). -/
def overlapped (a b : Nat) : BitVec 20 :=
  BitVec.ofNat 20 (maskOf ((List.range 20).filter fun k => decide (500 * k < b ∧ a < 500 * k + 500)))

/-- Nanoseconds from the end of the last round to a trigger: 0 but where a change of trigger parameters has moved the triggers (R500). -/
def AdcConv.gap (x : AdcConv) (start : Int) : Nat := match x.endNs with | some e => (if start - e < 10000 then (start - e).toNat else 0) | none => 0

/-- Row ADC_ROUND_TRIGGER (R500): the round before is complete and a new one starts with these codes; a trigger that comes before its end
starts none, and the slots between the two are lost (which channels they belong to is not said, log 73). -/
def adcRoundTrigger (c : Nat) (codes : List Int) (m : Mod) : Mod :=
  let x := m.adcConv c
  let start : Int := (m.trigNs c m.plan.tick : Nat)
  if 3 ≤ c || !x.running || x.calRun || x.endNs.any (fun e => decide (start < e)) then m else
    let gap := x.gap start
    let busy := x.carryLost - gap
    (m.commitRound c).onAdcConv c fun x => { x with
      round := some { start := start, codes := codes, lost := overlapped 0 busy, busyTo := busy }
      endNs := some (start + 10000), lostNow := x.lostNow + gap / 500, carryLost := 0 }

/- Injected sequences (R503-R505) -/

/-- The entries of a commanded or carrier sequence (R503). -/
def Mod.injEntries (m : Mod) (c : Nat) : List Nat :=
  (List.range (m.adcPar (48 + c) 6).toNat).map fun k => (m.adcPar (48 + c) (7 + k)).toNat

/-- An injected sequence of `slots` at `atNs` ns of the round, or an overrun (R504, R505, Table 14.3): of triggers that coincide, that of the
lowest `prio` runs, whatever the order in which the rows bring them. Between two rounds a sequence takes no slot. -/
def Mod.inject (m : Mod) (c prio : Nat) (slots : List Nat) (str : Option Nat) (atNs : Nat) (codes : List Int) : Mod :=
  let x := m.adcConv c
  let r := x.round.getD {}
  let first := r.injected.isNone && decide (r.busyTo ≤ atNs)
  let wins := match r.injected with | some (t, p) => decide (t = atNs ∧ prio < p) | none => false
  if x.calRun || (!first && !wins) then m.onAdcConv c fun x => { x with injOverrun := true }
  else if !x.running then m
  else
      let fin := atNs + 500 * slots.length
      let res := (List.range 4).map fun k =>
        if k < slots.length then { code := nth codes k, valid := true, slot := nth slots k } else ({} : InjRes)
      let m := m.onAdcConv c fun x => { x with
        injRes := res
        injOverrun := x.injOverrun || wins
        carryLost := if x.round.isSome then fin - 10000 else 0
        round := x.round.map fun r => { r with injected := some (atNs, prio), lost := r.lost ||| overlapped atNs fin } }
      match str with
      | none => m
      | some n =>
        m.each (codes.take slots.length) fun m code =>
          let i := m.strMa n code
          if (m.strAdc n).injPeak.natAbs < i.natAbs then m.onStrAdc n fun a => { a with injPeak := i, injGrain := m.plan.grainCnt } else m

/-- Nanoseconds from the grain boundary to the carrier trigger of a grain: the first carrier event of INJ_LINK, and INJ_DELAY (R503). -/
def Mod.injNs (m : Mod) (c : Nat) : Option Nat :=
  (m.carrierNs (m.adcPar (48 + c) 4).toNat).map fun x => x + 10 * (m.adcPar (48 + c) 5).toNat

/-- Row ADC_INJECTED_TRIGGER: the comparator event of string `src`, `atNs` ns into the round; or the carrier trigger where none, in the tick
in which it falls (R503). -/
def adcInjectedTrigger (c : Nat) (src : Option Nat) (atNs : Nat) (codes : List Int) (m : Mod) : Mod :=
  let en := (m.adcPar (48 + c) 3).toNat
  match src with
  | some n => if 2 ≤ c || n / 16 != c || !en.testBit 0 then m else m.inject c 0 (List.replicate 4 (n % 16)) (some n) atNs codes
  | none =>
    if 3 ≤ c || !en.testBit 1 || (m.adcConv c).injGrain == some m.plan.grainCnt then m
    else match m.injNs c with
      | some t =>
        if t / 10000 ≠ m.plan.tick then m else
          let from_ := (((m.adcConv c).round).map (·.start)).getD 0
          (m.onAdcConv c fun x => { x with injGrain := some m.plan.grainCnt }).inject c 1 (m.injEntries c) none ((t : Int) - from_).toNat codes
      | none => m

/-- Row ADC_CTRL_INJ_GO: the command trigger (R503, R517). -/
def adcCtrlInjGo (c atNs : Nat) (codes : List Int) (m : Mod) : Mod :=
  if 3 ≤ c || !(m.adcPar (48 + c) 3).toNat.testBit 2 then m else m.inject c 2 (m.injEntries c) none atNs codes

/- Self-calibration (R513) -/

/-- A converter begins self-calibration. -/
def Mod.calBegin (m : Mod) (c : Nat) : Mod :=
  (m.commitRound c).onAdcConv c fun x => { x with
    running := false, calRun := true, calAgain := false, carryLost := 0, endNs := none }

/-- Row ADC_CTRL_CAL: the lowest converter asked for calibrates; BUSY while one does and for every other asked for. -/
def adcCtrlCal (mask : Nat) (m : Mod) : Mod × Nat :=
  match setBits 3 mask with
  | [] => (m, 0)
  | c :: rest =>
    if (List.range 3).any fun k => (m.adcConv k).calRun then (m, 0x8008)
    else (m.calBegin c, if rest.isEmpty then 0 else 0x8008)

/-- The result of a self-calibration, in codes and units of 2^-20, is taken, refused once, or refused twice (R513). -/
def Mod.calResult (m : Mod) (c : Nat) (offset gain : Int) : Mod :=
  let x := m.adcConv c
  if 3 ≤ c || !x.calRun then m
  else if offset.natAbs ≤ 2000 ∧ gain.natAbs * 100 ≤ 1048576 then
    m.onAdcConv c fun x => { x with scOffset := offset, scGain := gain, calRun := false, running := true, failed := false, refBad := [] }
  else if x.calAgain then m.onAdcConv c fun x => { x with calRun := false, running := true, failed := true, calFail := true }
  else m.onAdcConv c fun x => { x with calAgain := true }

/-- Row ADC_CAL_COMPLETE; a module that joins a pair calibrates A, B and C in turn (R395, R513). -/
def adcCalComplete (c : Nat) (offset gain : Int) (m : Mod) : Mod :=
  let x := m.calResult c offset gain
  if m.pair.join = some .calibrate ∧ c < 2 ∧ (m.adcConv c).calRun ∧ ¬(x.adcConv c).calRun then x.calBegin (c + 1) else x

/-- Self-calibration of A, B and C at a start, with the results in the order they come (R513). -/
def Mod.calStart (m : Mod) (l : List (Int × Int)) : Mod :=
  let go := fun (s : Mod × List (Int × Int)) (c : Nat) =>
    let take1 := fun (s : Mod × List (Int × Int)) => (s.1.calResult c (nth s.2 0).1 (nth s.2 0).2, s.2.drop 1)
    let s := take1 (s.1.calBegin c, s.2)
    if (s.1.adcConv c).calRun then take1 s else s
  ((List.range 3).foldl go (m, l)).1

/-- BLK_STAT.ADC_OK (Table 1.9, R513). -/
def Mod.adcOk (m : Mod) : Bool := (List.range 3).all fun c => (m.adcConv c).running && !(m.adcConv c).failed && !(m.adcConv c).calRun

/-- Row ADC_CTRL_CLR: CLR_ADC clears the RS bits (R517). -/
def adcCtrlClr (m : Mod) : Mod :=
  m.each (List.range 3) fun m c => m.onAdcConv c fun x => { x with calFail := false, refFail := false, injOverrun := false }

/- Comparator thresholds (R508) -/

/-- The terminal voltage at which string `n` reads `i` mA, uV. -/
def Mod.voltFor (m : Mod) (n : Nat) (i : Rat) : Rat :=
  rdiv (rdiv (i - (m.adcPar n 0 : Rat)) (1 + (m.adcPar n 1 : Rat) / 1000000)) (m.sensor n)

/-- The unclamped DAC code of a threshold of `i` mA: rounded toward the code of zero current. -/
def Mod.dacFor (m : Mod) (n : Nat) (i : Rat) : Int :=
  let f : Rat := ((tget m.upd.otp n).fDacOffset : Rat)
  let x := (m.voltFor n i - f) / 2560
  let z := (m.voltFor n 0 - f) / 2560
  if z ≤ x then rfloor x else -rfloor (-x)

/-- The effective threshold of a DAC code, mA. -/
def Mod.dacMa (m : Mod) (n : Nat) (code : Int) : Int :=
  rnear (m.userCal n (((code * 2560 + (tget m.upd.otp n).fDacOffset : Int) : Rat) * m.sensor n))

/-- The thresholds of a bed reach the two DACs of string `n` (R508): a code beyond 2047 is clamped and recorded. -/
def Mod.dacWrite (m : Mod) (n : Nat) : Mod :=
  match tget m.prot.ocWritten n with
  | none => m
  | some (dis, chg) =>
    let d := m.dacFor n (dis : Rat)
    let c := m.dacFor n (-(chg : Rat))
    let inv := decide (m.adcPar n 3 = 1)
    let (hi, lo) := if inv then (c, d) else (d, c)
    let clampHi := decide (2047 < hi.natAbs)
    let clampLo := decide (2047 < lo.natAbs)
    let cl : Int → Int := clampI (-2047) 2047
    let m := m.onStrAdc n fun a => { a with
      dacHi := cl hi, dacLo := cl lo, cmpClamp := clampHi || clampLo, ocHi := m.dacMa n (cl d), ocLo := m.dacMa n (cl c) }
    let m := if clampHi then m.post 0xC002 n bAdc (u8 0) else m
    if clampLo then m.post 0xC002 n bAdc (u8 1) else m

/-- Thresholds written at bed activation (R304, R508). -/
def Mod.ocActivate (m : Mod) (n : Nat) : Mod :=
  let m := (m.writeOc n).dacWrite n
  m.onProt fun p => { p with ocReadback := tput p.ocReadback n (some ((m.strAdc n).dacHi, (m.strAdc n).dacLo)) }

/-- The thresholds are written again in tick 0 where a parameter of R508 has changed from the snapshot `old`. -/
def Mod.ocRewrite (m : Mod) (old : Mod) : Mod :=
  m.each strings fun m n =>
    if (List.range 4).any fun f => m.adcPar n f != old.adcPar n f then
      (m.onStrAdc n fun a => { a with dacGrain := some m.plan.grainCnt }).dacWrite n
    else m

/-- A write of SENSOR_SCALE or INVERT is refused while the string's converter may drive current (R508); and bit 0 of INJ_SRC
of converter C (R503). -/
def Mod.adcRefuse (m : Mod) (id : Nat) (v : Int) : Nat :=
  let s := (id - 0xC000) / 16
  let f := id % 16
  if id / 0x1000 != 0xC then 0
  else if s < 32 && (f == 2 || f == 3) then
    let k := m.link s
    if k.st.running || k.st == .localRamp then 0x8007 else 0
  else if s = 50 ∧ f = 3 ∧ v.toNat.testBit 0 then 0x8005
  else 0

/- Plausibility (R507) -/

/-- |I_MEAN - I_SUM| is beyond PLAUS_PCT of full scale. -/
def Mod.implaus (m : Mod) (n : Nat) : Bool :=
  let pct := m.adcPar n 4
  let full : Rat := 524288 / 100000 * (m.adcPar n 2 : Rat)
  let d : Rat := (((m.strAdc n).iMean - (m.link n).iSum).natAbs : Rat)
  decide (pct ≠ 0) && decide (full * (pct : Rat) / 10000 < d)

/-- Row IMPLAUSIBLE_CHANGE: 100 grains beyond the limit in RUN set it, 1,000 within it clear it. -/
def implausibleChange (n : Nat) (m : Mod) : Mod :=
  let a := m.strAdc n
  let setIt := !a.implausible && decide (100 ≤ a.badRun)
  let clr := a.implausible && decide (1000 ≤ a.goodRun)
  if 32 ≤ n || !(setIt || clr) then m else
    (m.onStrAdc n fun a => { a with implausible := setIt }).post 0xC001 n bAdc
      (u8 (b2n setIt) ++ [0, 0, 0] ++ leI 4 a.iMean ++ leI 4 (m.link n).iSum)

/-- The plausibility runs of a grain that ended. -/
def Mod.plausGrain (m : Mod) (n : Nat) : Mod :=
  let bad := m.implaus n
  let inRun := decide ((m.link n).st = .run)
  m.onStrAdc n fun a => { a with
    badRun := if bad && inRun then stopAt 100 (a.badRun + 1) else 0
    goodRun := if bad then 0 else stopAt 1000 (a.goodRun + 1) }

/- Pulse inputs (R511) -/

/-- The frequency of a period in ns, calibrated, mHz (R511, R514). -/
def Mod.piFreq (m : Mod) (p : Nat) (ns : Rat) : Nat := (rnear (m.userCal (36 + p) (m.factory (36 + p) (rdiv 1000000000000 ns)))).toNat

/-- Row PI_PULSE: a transition whose level has held for `heldUs`; it counts as a pulse where that reaches PI_FILTER and the edge is the one
selected by PI_EDGE. Its stamp, and the period in corrected ns that it completes. -/
def piPulse (p : Nat) (edge : PiEdge) (heldUs periodNs : Nat) (m : Mod) : Mod :=
  if decide (2 ≤ p) || edge.rising != decide (m.adcPar (36 + p) 2 = 0) || decide (heldUs < (m.adcPar (36 + p) 3).toNat) then m else
    m.onPi p fun x =>
      let x := { x with
        pulses := x.pulses + 1, pulsesNow := x.pulsesNow + 1, edgeGrain := edge.grain, edgeNs := edge.ns, noPulse := false
        lastMs := m.host.ms }
      if !x.seen then { x with seen := true } else
        { x with
          freq := m.piFreq p periodNs, period := periodNs, periodsNow := x.periodsNow + 1, sumNow := x.sumNow + periodNs, valid := true }

/-- Row PI_NO_PULSE_TIMEOUT: 100 ms without a pulse. -/
def piNoPulseTimeout (p : Nat) (m : Mod) : Mod :=
  if 2 ≤ p || m.since (m.pi p).lastMs < 100 then m else m.onPi p fun x => { x with noPulse := true, valid := false }

/- Analogue inputs (R510) -/

/-- Row AI_BURDEN_OPEN: above 25 mA in current mode the protective switch opens. -/
def aiBurdenOpen (a : Nat) (m : Mod) : Mod :=
  if 4 ≤ a || (m.ai a).mode != 1 || (m.ai a).burdenOpen.isSome then m
  else m.onAi a fun x => { x with burdenOpen := some m.host.ms, valid := false }

/-- Row AI_BURDEN_RECLOSE: it closes again after 1 s. -/
def aiBurdenReclose (a : Nat) (m : Mod) : Mod :=
  match (m.ai a).burdenOpen with
  | some t => if m.since t < 1000 then m else m.onAi a fun x => { x with burdenOpen := none }
  | none => m

/- The grain boundary -/

/-- A string-current channel at the end of a grain (R507). -/
def Mod.strGrain (m : Mod) (n : Nat) : Mod :=
  let c := m.adcConv (n / 16)
  (m.onStrAdc n fun a =>
    { a with
      iMean := if a.nNow = 0 then a.iMean else rnear ((a.sum : Rat) / a.nNow)
      iMin := if a.nNow = 0 then a.iMin else a.minNow
      iMax := if a.nNow = 0 then a.iMax else a.maxNow
      samples := a.nNow
      lost := a.lostNow
      available := c.running && !c.failed && !a.implausible && decide (50 ≤ a.nNow)
      sat := a.satNow
      overRange := a.satNow
      iSumDiff := (if a.nNow = 0 then a.iMean else rnear ((a.sum : Rat) / a.nNow)) - (m.link n).iSum
      winPrev := a.win
      win := []
      sum := 0, nNow := 0, lostNow := 0, satNow := false }).plausGrain n

/-- An analogue input at the end of a grain; a mode written takes effect in the next (R510). -/
def Mod.aiGrain (m : Mod) (a : Nat) : Mod :=
  let c := m.adcConv 2
  let mode := (m.adcPar (32 + a) 2).toNat
  m.onAi a fun x => { x with
    mean := if x.nNow = 0 then x.mean else rnear ((x.sum : Rat) / x.nNow)
    min := if x.nNow = 0 then x.min else x.minNow
    max := if x.nNow = 0 then x.max else x.maxNow
    samples := x.nNow
    valid := decide (100 ≤ x.nNow) && c.running && !c.failed && !c.calRun && x.burdenOpen.isNone && !x.changed && mode == x.mode
    sat := x.satNow
    mode := mode
    changed := mode != x.mode
    sum := 0, nNow := 0, satNow := false }

/-- A pulse input at the end of a grain (R511): FREQ_MEAN is the frequency of the mean of its periods (log 29). -/
def Mod.piGrain (m : Mod) (p : Nat) : Mod :=
  m.onPi p fun x => { x with
    freqMean := if x.periodsNow = 0 then x.freqMean else m.piFreq p (rdiv x.sumNow x.periodsNow)
    pulsesGrain := x.pulsesNow, pulsesNow := 0, periodsNow := 0, sumNow := 0 }

/-- The board channels at the end of a grain, and T_MOD with the hottest die sensor `die` (R512, R317). -/
def Mod.boardGrain (m : Mod) (die : Int) : Mod :=
  let c := m.adcConv 2
  let down := c.failed || c.calRun
  let m := m.onAdc fun a => { a with
    board := (List.range 8).map fun k => let e := nth a.boardSum k; if e.2 = 0 then nth a.board k else rnear ((e.1 : Rat) / e.2)
    boardSum := []
    boardHold := if down then stopAt 11 (a.boardHold + 1) else 0 }
  let boards := if 10 < m.adc.boardHold then [] else (List.range 3).map fun k => nth m.adc.board (5 + k)
  m.modTemp (boards.foldl max die)

/-- A converter at a grain boundary: lost slots and the trigger parameters in force (R500, R504). -/
def Mod.convGrain (m : Mod) (c : Nat) : Mod :=
  let src := (m.adcPar (48 + c) 0).toNat
  let lk := (m.adcPar (48 + c) 1).toNat
  m.onAdcConv c fun x => { x with
    lostSlots := x.lostNow % 65536, lostNow := 0
    trigSrc := src, trigLink := lk, trigDelay := (m.adcPar (48 + c) 2).toNat
    trigFallback := decide (src = 1) && (m.convDef? lk).isNone }

/-- What the ADC does at a grain boundary, after the parameter snapshot. -/
def Mod.adcGrain (m : Mod) (die : Int) : Mod :=
  let m := m.each strings Mod.strGrain
  let m := m.each (List.range 4) Mod.aiGrain
  let m := m.each (List.range 2) Mod.piGrain
  (m.boardGrain die).each (List.range 3) Mod.convGrain

/- Registers and points (R516-R518) -/

def Mod.adcStat (m : Mod) (c : Nat) : W32 :=
  let x := m.adcConv c
  pack [(0, 1, b2n x.running), (1, 1, b2n x.calRun), (2, 1, b2n x.failed), (3, 1, b2n x.calFail), (4, 1, b2n x.refFail),
    (5, 1, b2n x.injOverrun), (6, 1, b2n x.trigFallback), (16, 16, x.lostSlots)]

/-- A register of this chapter by its offset, none where there is none. -/
def Mod.adcReg (m : Mod) (off : Nat) : Option W32 :=
  let k := (off - 0x1C00) / 4
  if off < 0x1C00 ∨ 0x1C70 ≤ off ∨ off % 4 ≠ 0 then none
  else if k < 3 then some (m.adcStat k)
  else if 4 ≤ k ∧ k < 7 then
    let x := m.adcConv (k - 4)
    some (pack [(0, 16, uns 16 x.scOffset), (16, 16, uns 16 x.scGain)])
  else if k = 8 then some 0
  else if 16 ≤ k then
    let r := nth (m.adcConv ((k - 16) / 4)).injRes (k % 4)
    some (pack [(0, 18, uns 18 r.code), (18, 1, b2n r.valid), (24, 5, r.slot)])
  else none

/-- String ADC points (Table 14.6). -/
def Mod.adcStrPoint (m : Mod) (n k : Nat) : Int :=
  let a := m.strAdc n
  match k with
  | 0 => a.iMean
  | 1 => a.iMin
  | 2 => a.iMax
  | 3 => a.iLast
  | 4 => a.samples
  | 5 => a.lost
  | 6 => ((b2n a.available + 2 * b2n a.sat + 4 * b2n a.overRange + 8 * b2n a.implausible + 16 * b2n a.ocNowDis
      + 32 * b2n a.ocNowChg + 64 * b2n a.cmpClamp + 128 * b2n (m.adcConv (n / 16)).failed : Nat) : Int)
  | 7 => a.ocHi
  | 8 => a.ocLo
  | 9 => a.cmpEvents
  | 10 => a.vIn
  | 11 => a.iSumDiff
  | 12 => a.injPeak
  | 13 => a.injGrain.toNat
  | _ => 0

/-- Analogue input points. -/
def Mod.aiPoint (m : Mod) (a k : Nat) : Int :=
  let x := m.ai a
  match k with
  | 0 => x.mean
  | 1 => x.last
  | 2 => x.min
  | 3 => x.max
  | 4 => x.samples
  | 5 => ((b2n x.valid + 2 * b2n x.sat + 4 * b2n x.burdenOpen.isSome + 8 * x.mode : Nat) : Int)
  | _ => 0

/-- Pulse input points. -/
def Mod.piPoint (m : Mod) (p k : Nat) : Int :=
  let x := m.pi p
  match k with
  | 0 => x.freq
  | 1 => x.freqMean
  | 2 => x.period
  | 3 => x.pulses.toNat
  | 4 => x.pulsesGrain
  | 5 => ((b2n x.valid + 2 * b2n x.noPulse : Nat) : Int)
  | 6 => x.edgeGrain.toNat
  | 7 => x.edgeNs.toNat
  | _ => 0

/-- Converter C points. -/
def Mod.boardPoint (m : Mod) (k : Nat) : Int :=
  if k < 8 then nth m.adc.board k
  else if k = 8 then m.prot.tMod
  else if k < 12 then (m.adcStat (k - 9)).toNat
  else 0

/-- A module restart (R520): the V items restart; IMPLAUSIBLE, its counts and PULSES are kept by a warm restart only. -/
def AdcSt.restarted (_ : AdcSt) : AdcSt := {}

end Sys2Proof.Machine
end

