-- ==== Sys2Proof/Machine/EstCore.lean ====
section
/-! DEFINITION. What the chain and the estimators share (spec file 05_cell_state_estimation.md): the chemistry model, the
estimates as balancing reads them, history reset and re-acquisition. -/

namespace Sys2Proof.Machine

/-- The string's bed has a chain: its monitors. -/
def Mod.monsOf (m : Mod) (n : Nat) : List MonCfg := (m.layout n).monitors
def Mod.monAddrs (m : Mod) (n : Nat) : List Nat := (m.monsOf n).map (·.addr)
def Mod.monCfg? (m : Mod) (n a : Nat) : Option MonCfg := (m.monsOf n).find? fun x => x.addr == a

/-- The ring is in KX-CM12 compatibility mode (R127). -/
def Mod.compat (m : Mod) (n : Nat) : Bool := (m.monsOf n).any (·.compat)

/-- The chemistry model of a string's bed (R180). -/
def Mod.chemOf (m : Mod) (n : Nat) : Chem := ((m.bed? n).map (·.chem)).getD {}

/- The chemistry model (R177, R180) -/

/-- The OCV row of a temperature: the seven rows interpolated, constant beyond the ends. -/
def Chem.row (c : Chem) (t : Rat) (k : Nat) : Rat :=
  interp (([-20, -10, 0, 10, 25, 40, 55] : List Rat).zipIdx.map fun e => (e.1, (c.ocv.getD e.2 []).getD k 0)) t

/-- ocv(z, T), V. -/
def Chem.ocvAt (c : Chem) (z t : Rat) : Rat :=
  let x := clampR 0 1 z * 100
  let k := min 99 (rfloor x).toNat
  let a := c.row t k
  a + (c.row t (k + 1) - a) * (x - (k : Rat))

/-- dOCV/dz at z, V: 0 beyond the end points. -/
def Chem.slope (c : Chem) (z t : Rat) : Rat :=
  if z < 0 ∨ 1 < z then 0 else
    let k := min 99 (rfloor (z * 100)).toNat
    (c.row t (k + 1) - c.row t k) * 100

/-- The SoC of an OCV: the first segment that holds it; 0 below the curve, 1 above it. -/
def Chem.ocvInv (c : Chem) (v t : Rat) : Rat :=
  let r := (List.range 101).map (c.row t)
  if v ≤ r.getD 0 0 then 0 else
    match (List.range 100).find? fun k => decide (r.getD k 0 ≤ v ∧ v ≤ r.getD (k + 1) 0) with
    | some k => ((k : Rat) + rdiv (v - r.getD k 0) (r.getD (k + 1) 0 - r.getD k 0)) / 100
    | none => 1

/-- k_R(T), k_tau(T) and TAU_SLOW(T). -/
def Chem.kR (c : Chem) (t : Rat) : Rat := interp (c.factors.map fun e => (e.1, e.2.1)) t
def Chem.kTau (c : Chem) (t : Rat) : Rat := interp (c.factors.map fun e => (e.1, e.2.2)) t
def Chem.tauS (c : Chem) (t : Rat) : Rat := interp c.tauSlow t

/-- The mean discharge voltage over a range of SoC (R180, R206). -/
def Chem.meanV (c : Chem) (lo hi : Rat) : Rat :=
  let part (k : Nat) : Rat := clampR 0 (1 / 100) (min hi (((k : Rat) + 1) / 100) - max lo ((k : Rat) / 100))
  rdiv (rsum ((List.range 100).map fun k => part k * c.vMean.getD k 0)) (rsum ((List.range 100).map part))

/- Bleeding (R165, R179) -/

/-- Bleed current through BAL_RES, A. -/
def Mod.bleedV (m : Mod) (g : Nat) : Rat := ((m.cell g).v : Rat) / 10000 / ((m.par 0x3046 : Rat) / 1000)

/-- The fraction of a grain in which a cell bleeds (R165). -/
def Mod.bleedF (m : Mod) (n : Nat) : Rat :=
  let sweeps : Rat := if m.compat n then 0 else if (m.ring n).split then 2 else 1
  1 - sweeps * (15 + 5 / 2 * ((m.layout n).window : Rat)) / 1000

/- Estimates -/

/-- P_zz. -/
def CellEst.pzz (e : CellEst) : Rat := e.cov.getD 0 0

/-- u (R189). -/
def Mod.uncE (m : Mod) (e : CellEst) : Rat := max ((m.par 0x405B : Rat) / 65536) (2 * rsqrt e.pzz + e.b)

/-- z, u and cap as balancing and availability use them: a cell without a state counts with z = 0.5 and u = 0.5 (R206). Its record has that u as
well: the model's choice (log 73). -/
def Mod.socOf (m : Mod) (g : Nat) : Rat := if (m.cellEst g).init then (m.cellEst g).z else 1 / 2
def Mod.uncOf (m : Mod) (g : Nat) : Rat := if (m.cellEst g).init then m.uncE (m.cellEst g) else 1 / 2
def Mod.capOf (m : Mod) (g : Nat) : Rat := (m.cellEst g).cap

/-- The present PTP time as seconds and nanoseconds; zero where time is not valid. -/
def Mod.nowSN (m : Mod) : Nat × Nat :=
  if m.time.timeValid then ((m.time.ptpNow / 1000000000).toNat, (m.time.ptpNow % 1000000000).toNat) else (0, 0)

/-- The history of cells of string `n` is reset (R209): 0 monitor replaced, 1 CHEM_ID, 2 command. -/
def Mod.estReset (m : Mod) (n : Nat) (gs : List Nat) (cause : Nat) : Mod :=
  if gs.isEmpty then m else
    let (ts, tn) := m.nowSN
    let m := m.each gs fun m g => m.onCellEst g fun e => { e with
      resetPending := true, init := false, anchored := false, anchorZ := 0, anchorQ := 0, anchorU := 0, anchorAge := 0, anchorMs := m.host.ms
      restV := [], y := none, gatedRun := 0, restoredHost := false, timeSec := ts, timeNs := tn, chemId := (m.chemOf n).chemId }
    let m := m.onStore fun s => { s with archCells := gs.foldl (fun t g => tmod t g fun a => { a with reset := true }) s.archCells }
    m.post 0x4001 n bFabric (u8 cause ++ [0] ++ leN 2 gs.length ++ leN 4 (gs.headD 0))

/-- The initial covariance of R210 for an uncertainty u. -/
def initCov (u : Rat) : List Rat := [f32 (u * u / 4), 0, 0, 0, f32 (1 / 10000), 0, 0, f32 (1 / 10000), 0, f32 (1 / 3)]

/-- A cell is re-acquired (R185): 0 gated readings, 1 a deviation with intact taps. P_zz starts from EST_U_INIT whether or not the string is at
rest: of the two starting values of R210 the rule names none (DESIGN CHOICE, log 69). -/
def Mod.reacquire (m : Mod) (n g cause : Nat) : Mod :=
  let u : Rat := (m.par 0x405A : Rat) / 65536
  let m := m.onCellEst g fun e => { e with
    cov := initCov u
    pvar := [f32 (e.rOhm * e.rOhm / 25), f32 (e.rFast * e.rFast / 25), f32 (e.rSlow * e.rSlow / 25), e.pvar.getD 3 0, e.pvar.getD 4 0]
    ungatedNext := true, gatedRun := 0
    anomaly := e.anomaly || decide (cause = 1), anomalyAge := if cause = 1 then 0 else e.anomalyAge, anomalyMs := if cause = 1 then m.host.ms else e.anomalyMs }
  let m := m.post 0x4002 n bFabric (leN 4 g ++ u8 cause)
  if cause = 1 then m.post 0x4003 n bFabric (leN 4 g) else m

end Sys2Proof.Machine
end

