-- ==== Sys2Proof/Machine/Chain.lean ====
section
/-! DEFINITION. The cell chain: transactions, enumeration, authentication and replacement (spec file
03_cell_chain_link.md), sweeps, split rings, sense wires and balancing (04_sweeps_balancing_chain_faults.md). -/

namespace Sys2Proof.Machine

/- Rings, ends and monitors -/

/-- CHN_STAT.MODE of a ring under the running plan. -/
def Mod.ringMode (m : Mod) (n : Nat) : Nat := if (m.monsOf n).isEmpty then 0 else if m.compat n then 2 else 1

/-- The end a forward transaction starts from: A, or the module's own end in single operation (R97, R373, R396). -/
def Mod.fwdEnd (m : Mod) : RingEnd := if m.paired && m.pair.single && !m.oddSlot then .B else .A
def RingEnd.other : RingEnd → RingEnd
  | .A => .B
  | .B => .A

/-- The ends the module has transactions originated from: both, or its own in single operation (R373). -/
def Mod.ringEnds (m : Mod) : List RingEnd := if m.paired && m.pair.single then [m.fwdEnd] else [.A, .B]

/-- The end locked bit of CHN_LOCK: 2n + e. -/
def Mod.endLocked (m : Mod) (n : Nat) (e : RingEnd) : Bool := m.plan.chnLock.getLsbD (2 * n + (match e with | .A => 0 | .B => 1))

/-- The string is in service (R288). -/
def Mod.inService (m : Mod) (n : Nat) : Bool := (m.strDisp n).inService

/-- Addresses in hop order from an end. -/
def Mod.hopOrder (m : Mod) (n : Nat) (e : RingEnd) : List Nat :=
  match e with
  | .A => m.monAddrs n
  | .B => (m.monAddrs n).reverse

/- Sending (R97, R105, R138) -/

/-- A command of kind W of Table 3.7. -/
def ChainCmd.isWrite : ChainCmd → Bool
  | .setSkew _ | .setConfig .. | .setBalance _ => true
  | _ => false

/-- Opcode of Table 3.7. -/
def ChainCmd.opcode : ChainCmd → Nat
  | .sweep .. => 1 | .enum => 2 | .echo _ => 3 | .setSkew _ => 4 | .setConfig .. => 5 | .setBalance _ => 6
  | .readBalance => 7 | .openWire _ => 8 | .authChallenge _ => 9 | .authRead => 10 | .readStatus => 11 | .hibernate => 12
  | .readReg .. => 13 | .read12 => 0x21

/-- Advances the origin's ring counter (R105). -/
def Ring.nextCnt (r : Ring) (e : RingEnd) : Nat × Ring :=
  match e with
  | .A => let c := (r.cntA + 1) % 16; (c, { r with cntA := c })
  | .B => let c := (r.cntB + 1) % 16; (c, { r with cntB := c })

/-- The payload of a command (Tables 3.3 and 3.7, R109-R111, R115), integers little-endian. -/
def ChainCmd.payload : ChainCmd → List Byte
  | .sweep w temp => u8 w ++ u8 (b2n temp)
  | .enum => u8 0
  | .echo p => p
  | .setSkew s => leN 2 s
  | .setConfig mask ov uv ot => leN 2 mask.toNat ++ leN 2 ov ++ leN 2 uv ++ leI 2 ot
  | .setBalance t => (List.range 16).flatMap fun k => leN 2 (t.getD k 0)
  | .readBalance | .authRead | .readStatus | .hibernate | .read12 => []
  | .openWire taps => leN 4 taps.toNat
  | .authChallenge n => n
  | .readReg start count => u8 start ++ u8 count

/-- The bytes of a command frame (R101, R104, Table 3.3): preamble, start delimiter, header, payload and CRC-16, low byte first. -/
def ChainFrame.bytes (f : ChainFrame) : List Byte :=
  let p := f.cmd.payload
  let body := u8 (f.addr % 64 + match f.dir with | .A => 0 | .B => 64) ++ u8 f.cmd.opcode ++ u8 (f.cnt % 16) ++ u8 p.length ++ p
  [0x55, 0x55, 0xC7] ++ body ++ leN 2 (crc16 body).toNat

/-- What a receiver makes of a frame's bytes (R101, R104): no response at all, a response that is partial or has a wrong CRC, or
a response. -/
inductive RxFrame where
  | foreign
  | broken
  | resp (r : ChainResp)
deriving DecidableEq, Repr, Inhabited

/-- A frame taken apart (R101, Table 3.4). Reserved bits are ignored. -/
def ChainRx.frame (x : ChainRx) : RxFrame :=
  let b := x.bytes.drop 3
  let len := rdN b 4 1
  if x.bytes.take 3 ≠ [0x55, 0x55, 0x5B] then .foreign
  else if 68 < len ∨ b.length ≠ len + 7 ∨ rdN b (len + 5) 2 ≠ (crc16 (b.take (len + 5))).toNat then .broken
  else .resp {
    src := rdN b 0 1 % 64, dir := if bitN (rdN b 0 1) 6 then .B else .A, err := bitN (rdN b 0 1) 7, opcode := rdN b 1 1
    cnt := rdN b 2 1 % 16, dup := bitN (rdN b 2 1) 4, cmp := BitVec.ofNat 8 (rdN b 3 1), payload := (b.drop 5).take len
    inWindow := x.inWindow, rtt := x.rtt }

/-- The ring end wired to this module in pair operation; without a partner, both are (R371, R396). -/
def Mod.ownEnd (m : Mod) (e : RingEnd) : Bool := !m.pairOp || (e == .A) == m.oddSlot

/-- Opens a transaction whose first bit leaves the origin at `start` and whose declared window is `len`, both in 0.5 ns; the next
opens at least 4.0 us after its end (R97, R135). At the partner's end of a pair the module assigns the window over the graft
link (R396). -/
def Mod.openTxn (m : Mod) (n : Nat) (f : ChainFrame) (expected : List Nat) (room start len : Nat) (w : Option ChainWait) : Mod :=
  let m := m.onRing n fun r => { r with
    txn := some { frame := f, expected := expected, room := room, wait := w, start := start, closes := start + len }
    freeAt := start + len + 8000, wakeFirst := false }
  if m.ownEnd f.dir then m.out (.chain n f.dir start f.bytes)
  else m.out (.graft 20 m.plan.grainCnt (u8 n ++ u8 (match f.dir with | .A => 0 | .B => 1) ++ leN 4 start ++ f.bytes))

/-- Sends a train command (SWEEP or ENUM). -/
def Mod.sendTrain (m : Mod) (n : Nat) (e : RingEnd) (cmd : ChainCmd) (expected : List Nat) (room start len : Nat) : Mod :=
  let (c, r) := (m.ring n).nextCnt e
  (m.onRing n fun _ => r).openTxn n { addr := 0x3F, dir := e, cmd := cmd, cnt := c } expected room start len none

/-- The window of a command slot, 60 us, and of a diagnostic slot, 340 us, in 0.5 ns (Table 4.2). -/
def cmdSlot : Nat := 120000
def diagSlotLen : Nat := 680000

/-- A challenge is made when its AUTH_CHALLENGE first leaves (R121, R122). -/
def Mod.challenged (m : Mod) (n : Nat) (w : ChainWait) : Mod :=
  match w.cmd with
  | .authChallenge nm => m.onMon n w.addr fun x => { x with nMod := nm, nMon := [], challengeAt := some m.plan.grainCnt }
  | _ => m

/-- Sends a waiting addressed command: a write carries the monitor's write counter, any other the ring counter; a retry its
own CNT unchanged (R105). -/
def Mod.sendWait (m : Mod) (n : Nat) (w : ChainWait) (start : Nat) : Mod :=
  let m := m.onRing n fun r => { r with queue := r.queue.erase w, owQueue := r.owQueue.erase w }
  let len := match w.cmd with | .openWire _ => diagSlotLen | _ => cmdSlot
  let go (m : Mod) (c : Nat) (w : ChainWait) : Mod :=
    m.openTxn n { addr := w.addr, dir := w.origin, cmd := w.cmd, cnt := c } [w.addr] 1 start len (some w)
  match w.cnt with
  | some c => go m c w
  | none =>
    let m := m.challenged n w
    if w.cmd.isWrite then
      let c := ((m.mon n w.addr).wcnt + 1) % 16
      go (m.onMon n w.addr fun x => { x with wcnt := c }) c { w with cnt := some c }
    else
      let (c, r) := (m.ring n).nextCnt w.origin
      go (m.onRing n fun _ => r) c { w with cnt := some c }

/-- Adds a command to the ring's queue. -/
def Mod.enqueue (m : Mod) (n : Nat) (w : ChainWait) : Mod := m.onRing n fun r => { r with queue := r.queue ++ [w] }

/-- The monitor takes addressed commands (R107). -/
def Mod.monTakes (m : Mod) (n a : Nat) : Bool :=
  let x := m.mon n a
  match x.norespMs with
  | none => true
  | some t => x.norespHeard && decide (1000 ≤ m.host.ms - t)

/-- Rank of a priority of R138. -/
def ChainPrio.rank : ChainPrio → Nat
  | .balanceStop => 0 | .setConfigLost => 1 | .retry => 2 | .sequence => 3 | .balance => 4 | .read => 5 | .diagnostic => 6

/-- Length of a SWEEP transaction in 0.5 ns (R113). -/
def sweepLen (window answering : Nat) (temp : Bool) : Nat := 38400 + 5000 * window + answering * (if temp then 32000 else 18400)

/-- Length of an ENUM transaction in 0.5 ns: the command, T_r of R115, and one step per monitor (R100). -/
def enumLen (answering : Nat) : Nat := 44000 + 11200 * answering

/-- A transaction of length `len` begun at `start` (in 0.5 ns) ends before tick 90 (R94). -/
def fitsQuiet (start len : Nat) : Bool := decide (start + len ≤ 1800000)

/-- The first instant from `s` on at which a sweep that starts there has its T_s at the start of a carrier period of Kn (R132); any
instant where no converter is configured. In 0.5 ns. -/
def Mod.alignedFrom (m : Mod) (n s : Nat) : Nat :=
  match m.convDef? n with
  | none => s
  | some d => s + (2 * (d.frameOrigin + 4800) % 40000 + 40000 - (s + 34400) % 40000) % 40000

/-- The start of a sweep from the instant `s` on: SWEEP_DELAY for the first of a grain, an aligned instant for the second and for
one whose SWEEP_DELAY has passed (R131, R135). In 0.5 ns. -/
def Mod.sweepStart (m : Mod) (n : Nat) (second : Bool) (s : Nat) : Nat :=
  let d := 25 * (m.layout n).sweepDelay
  if !second && decide (s ≤ d) then d else m.alignedFrom n s

/- Ordering open-wire tests (R161, R162) -/

/-- An open-wire test of the taps of a mask, as it waits for a diagnostic slot. -/
def Mod.owTest (m : Mod) (a : Nat) (taps : BitVec 17) : ChainWait :=
  { addr := a, cmd := .openWire taps, prio := .diagnostic, origin := m.fwdEnd }

/-- A test of tap `k` of a monitor waits for a diagnostic slot. -/
def Mod.owWaits (m : Mod) (n a k : Nat) : Bool :=
  (m.ring n).owQueue.any fun w => w.addr == a && (match w.cmd with | .openWire t => t.getLsbD k | _ => false)

/-- OW_PENDING (R171): a test of tap `k` waits, or is under way without an answer. -/
def Mod.owPending (m : Mod) (n a k : Nat) : Bool :=
  m.owWaits n a k || (match (m.ring n).txn with
    | some x => x.frame.addr == a && x.accepted.isEmpty && (match x.frame.cmd with | .openWire t => t.getLsbD k | _ => false)
    | none => false)

/-- Orders an open-wire test of taps that may be adjacent: odd and even taps go in successive slots (R162). -/
def Mod.orderTest (m : Mod) (n a : Nat) (taps : List Nat) : Mod :=
  if m.compat n then m else
    let mk (p : Nat) : List ChainWait :=
      let t := taps.filter fun k => k % 2 == p
      if t.isEmpty then [] else [m.owTest a (BitVec.ofNat 17 (maskOf t))]
    m.onRing n fun r => { r with owQueue := r.owQueue ++ mk 1 ++ mk 0 }

/-- A test is repeated for some of its taps in the next diagnostic slot (R161). -/
def Mod.repeatTest (m : Mod) (n a : Nat) (taps : List Nat) : Mod :=
  if taps.isEmpty then m
  else m.onRing n fun r => { r with owQueue := m.owTest a (BitVec.ofNat 17 (maskOf taps)) :: r.owQueue }

/-- A full test of a monitor is ordered, unless one waits of which nothing has run (R162): one that has begun is run anew, since what it found
may be of another monitor, or from before a loss (R168, R169). -/
def Mod.orderFullTest (m : Mod) (n a : Nat) : Mod :=
  let odd := m.owTest a 0xAAAA#17
  let even := m.owTest a 0x15555#17
  let q := (m.ring n).owQueue
  if q.contains odd && q.contains even && decide ((m.mon n a).owDone = 0) then m
  else (m.onMon n a fun x => { x with owDone := 0 }).onRing n fun r => { r with
    owQueue := (r.owQueue.filter fun w => !(w.addr == a && (w.cmd == odd.cmd || w.cmd == even.cmd))) ++ [odd, even] }

/- Enumeration (R114-R119) -/

/-- Starts an enumeration of a ring from every end (R119). A ring that is being woken is enumerated when its wake is done (R125); that an
enumeration was started by CFG_LOST holds until one completes. -/
def Mod.startEnum (m : Mod) (n : Nat) (cfgLost : Bool) : Mod :=
  if (m.monsOf n).isEmpty || (m.ring n).wakeSince.isSome then m else
    m.onRing n fun r => { r with enum := .inProgress, enumTodo := m.ringEnds, enumGot := [], enumCfgLost := cfgLost || r.enumCfgLost }

/-- The ring has been woken (R119, R125, R126): its monitors hold no result, and the first command is an ENUM. -/
def Mod.wokenEnum (m : Mod) (n : Nat) : Mod :=
  let m := m.each (m.monAddrs n) fun m a => m.onMon n a fun x => { x with enumPassed := false, sequence := none }
  (m.onRing n fun r => { r with wakeFirst := true, wakeSince := none }).startEnum n false

/-- One fault of Table 3.11: fault code of R632, hop, address. For a far-end HOP that differs from the number answering, which concerns no one
monitor, the hop is that HOP and the address 0xFF: the model's choice (log 68). -/
def enumFault (addrs : List Nat) (compat : Bool) (e : RingEnd) (got : List (List Nat)) (farHop : Option Nat) : Option (Nat × Nat × Nat) :=
  let f (acc : Option (Nat × Nat × Nat) × Nat × List Nat) (x : List Nat) : Option (Nat × Nat × Nat) × Nat × List Nat :=
    let (fault, i, seen) := acc
    if fault.isSome then acc else
      let strap := x.getD 1 0
      let ty := x.getD 2 0
      let hop := x.getD 3 0
      let caps := x.getD 7 0
      let bad (c : Nat) : Option (Nat × Nat × Nat) := some (c, hop, strap)
      let up : Bool := match seen.head?, e with
        | none, _ => true
        | some p, .A => decide (p < strap)
        | some p, .B => decide (strap < p)
      let r := if 40 ≤ strap then bad 1
        else if !addrs.contains strap then bad 2
        else if seen.contains strap then bad 3
        else if !up then bad 4
        else if ty != (if compat then 0x12 else 0x16) || (!compat && caps % 16 != 15) then bad 5
        else if hop != i then bad 6
        else none
      (r, i + 1, strap :: seen)
  let sorted := got.mergeSort fun a b => decide (a.getD 3 0 ≤ b.getD 3 0)
  let (r, k, _) := sorted.foldl f (none, 0, [])
  if r.isSome then r else
    match farHop with
    | some h => if h = k then none else some (6, h, 0xFF)
    | none => none

/-- Records ENUM_FAULT (R117, R632). -/
def Mod.recordEnum (m : Mod) (n e fault hop addr : Nat) : Mod := m.post 0x2001 n bChain (u8 e ++ u8 fault ++ u8 hop ++ u8 addr)

/-- An enumeration fails: every cell of the ring is stale, no write goes to the ring, it is tried again (R117); no monitor has authenticated or
passed a full test since it (R128, R173). What waits keeps its place (R107). -/
def Mod.enumFails (m : Mod) (n : Nat) : Mod :=
  let m := m.onRing n fun r => { r with enum := .fault, enumBad := true, noWrite := true, enumFailMs := m.host.ms, enumTodo := [] }
  m.each (m.monAddrs n) fun m a => m.onMon n a fun x => { x with enumPassed := false, authSince := false, fullTest := false }

/-- Response of address `a` in an end's enumeration. -/
def respOf (got : List (RingEnd × List (List Nat))) (e : RingEnd) (a : Nat) : Option (List Nat) :=
  match got.find? fun g => g.1 == e with
  | some (_, l) => l.find? fun x => x.getD 1 0 == a
  | none => none

/-- Free bytes: 16 of a nonce the module draws (R121). -/
def Mod.nonce (m : Mod) : List Byte × Mod :=
  let (a, m) := m.free
  let (b, m) := m.free
  (leN 8 a.toNat ++ leN 8 b.toNat, m)

/-- SET_CONFIG of a monitor from the LIMITS in force (R110). -/
def Mod.configCmd (m : Mod) (n : Nat) (mc : MonCfg) : ChainCmd :=
  let l := m.limits n
  .setConfig mc.cellMask l.cmpOv l.cmpUv l.cmpOt

/-- A command of the sequence of R119. -/
def ChainCmd.inSequence (c : ChainCmd) : Bool := [3, 4, 5, 9, 10].contains c.opcode

/-- Starts the sequence of R119 for a monitor, in place of what still waits of one before: ECHO from each end reached and SET_SKEW,
authentication, SET_CONFIG; a compatibility ring knows only SET_CONFIG (Table 3.12). -/
def Mod.startSequence (m : Mod) (n : Nat) (mc : MonCfg) (ends : List RingEnd) : Mod :=
  let a := mc.addr
  let m := m.onRing n fun r => { r with queue := r.queue.filter fun w => !(w.addr == a && w.cmd.inSequence) }
  if mc.compat then
    (m.onMon n a fun x => { x with sequence := some 3 }).enqueue n { addr := a, cmd := m.configCmd n mc, prio := .sequence, origin := m.fwdEnd }
  else
    let m := m.onMon n a fun x => { x with sequence := some 0, authed := false, configured := false }
    m.each ends fun m e => m.enqueue n { addr := a, cmd := .echo [], prio := .sequence, origin := e }

/-- Challenges a monitor (R121). -/
def Mod.challenge (m : Mod) (n a : Nat) (nonce : List Byte) : Mod :=
  let m := m.onRing n fun r => { r with queue := r.queue.filter fun w => !(w.addr == a && w.cmd.opcode == 9) }
  m.enqueue n { addr := a, cmd := .authChallenge nonce, prio := .sequence, origin := m.fwdEnd }

/-- One configured monitor at a completed enumeration that found no fault but COVER (R119, R123); one that passed ends what a MON_NORESP holds
back (R107). -/
def Mod.enumMonitor (m : Mod) (n : Nat) (mc : MonCfg) (got : List (RingEnd × List (List Nat))) (cfgLost passed : Bool) : Mod :=
  let a := mc.addr
  let ra := respOf got .A a
  let rb := respOf got .B a
  match (if ra.isSome then ra else rb) with
  | none => m.onMon n a fun x => { x with enumPassed := false, authSince := false, fullTest := false }
  | some x0 =>
    let hop (r : Option (List Nat)) (old : Nat) (e : RingEnd) : Nat :=
      match r with | some x => x.getD 3 0 | none => if got.any fun g => g.1 == e then 0xFF else old
    let old := m.mon n a
    let uid := x0.getD 5 0
    let ha := hop ra old.hopA .A
    let hb := hop rb old.hopB .B
    let same := old.enumPassed && old.uid == uid && old.hopA == ha && old.hopB == hb
    let back := !mc.compat && old.tableUid == some uid && (!old.answered || decide (1000 < m.host.ms - old.heardMs))
    let m := m.onMon n a fun x => { x with
      enumPassed := true, uid := uid, mtype := x0.getD 2 0, cellsFitted := x0.getD 4 0, fw := x0.getD 6 0, hopA := ha, hopB := hb
      norespMs := if passed then none else x.norespMs, answered := true, silent := false, heardMs := m.host.ms, fullTest := false, authSince := false
      testDue := x.testDue || back
      taps := x.taps.map fun t => (t.1, if t.2.openTap then { t.2 with enumSeen := true } else t.2) }
    let m := match old.tableUid with
      | none => if old.uid == uid then m else m.post 0x2006 n bChain (u8 a ++ [0, 0, 0] ++ leN 8 uid)
      | some u =>
        if u == uid then m.onMon n a fun x => { x with replaced := false }
        else if old.uid == uid then m
        else (m.onMon n a fun x => { x with replaced := true }).post 0x2005 n bChain (u8 a ++ [0, 0, 0] ++ leN 8 u ++ leN 8 uid)
    let m := if mc.compat && old.tableUid != some uid then
        let m := m.onMon n a fun x => { x with tableUid := some uid }
        if old.tableUid.isSome then m.estReset n ((List.range 16).map (gcell n a)) 0 else m
      else m
    let ends := (if ra.isSome then [RingEnd.A] else []) ++ (if rb.isSome then [RingEnd.B] else [])
    if same then
      let m := if back then m.orderFullTest n a else m
      let m := if cfgLost then m.enqueue n { addr := a, cmd := m.configCmd n mc, prio := .setConfigLost, origin := m.fwdEnd } else m
      if mc.compat then m else
        let (c, m) := m.nonce
        m.challenge n a c
    else m.startSequence n mc ends

/-- The end of an enumeration: the checks over both ends, COVER, and the completion (R116, R117, R119). R117 gives origin end and hop for COVER
alone: for the test over both ends (ORDER) both ends and hop 0xFF are the model's choice (log 68). -/
def Mod.enumComplete (m : Mod) (n : Nat) : Mod :=
  let r := m.ring n
  let got := r.enumGot
  let cnt := (m.monsOf n).length
  let order := (m.monAddrs n).find? fun a =>
    match respOf got .A a, respOf got .B a with
    | some x, some y => x.getD 3 0 + y.getD 3 0 + 1 != cnt
    | _, _ => false
  match order with
  | some a => (m.recordEnum n 2 4 0xFF a).enumFails n
  | none =>
    let lost := (m.monAddrs n).filter fun a => (respOf got .A a).isNone && (respOf got .B a).isNone
    let m := m.each lost fun m a => m.recordEnum n 2 7 0xFF a
    let m := m.onRing n fun r => { r with
      enum := if lost.isEmpty then .passed else .fault, enumBad := !lost.isEmpty, noWrite := false, enumFailMs := m.host.ms, enumCfgLost := false }
    m.each (m.monsOf n) fun m mc => m.enumMonitor n mc got r.enumCfgLost lost.isEmpty

/-- The number that answered the last train from an end (R128). -/
def Ring.reached (r : Ring) (e : RingEnd) (k : Nat) : Ring :=
  match e with
  | .A => { r with reachA := k }
  | .B => { r with reachB := k }

/-- One end's ENUM train has closed: it is checked, and the next end follows (R116). -/
def Mod.enumEnd (m : Mod) (n : Nat) (e : RingEnd) (got : List (List Nat)) (far : Option Nat) : Mod :=
  let m := m.onRing n fun r => r.reached e got.length
  let m := m.onRing n fun r => { r with enumTodo := r.enumTodo.filter (· != e), enumGot := r.enumGot ++ [(e, got)], farHop := far }
  match enumFault (m.monAddrs n) (m.compat n) e got far with
  | some (f, hop, a) => (m.recordEnum n (match e with | .A => 0 | .B => 1) f hop a).enumFails n
  | none => if (m.ring n).enumTodo.isEmpty then m.enumComplete n else m

/-- Row ENUM_RETRY (R117). -/
def enumRetry (n : Nat) (m : Mod) : Mod :=
  let r := m.ring n
  if r.enum = .fault ∧ 1000 ≤ m.host.ms - r.enumFailMs then m.startEnum n false else m

/-- Row RING_WAKE_DONE (R125). -/
def ringWakeDone (n : Nat) (m : Mod) : Mod :=
  match (m.ring n).wakeSince with
  | some t => if 10 ≤ m.host.ms - t then m.wokenEnum n else m
  | none => m

/-- The module wakes a ring with its own wake tone (R125). -/
def Mod.wakeRing (m : Mod) (n : Nat) : Mod :=
  if (m.monsOf n).isEmpty then m else
    (m.onRing n fun r => { r with wakeSince := some m.host.ms, wokeMs := some m.host.ms }).setLine n .wake

/-- A ring end sees an inverted pair, which carries no signal (R93). -/
def Ring.inverted (r : Ring) (e : RingEnd) : Bool := r.inv.getLsbD (match e with | .A => 0 | .B => 1)

/-- Row MONITOR_WAKE_TONE (R126): wake tone at a ring end; within 10 ms of the module's own, which lasts 4 ms, it is taken as its
own. -/
def monitorWakeTone (n : Nat) (e : RingEnd) (m : Mod) : Mod :=
  if (m.ring n).inverted e then m else
    let m := m.onRing n fun r => match e with
      | .A => { r with wake := r.wake ||| 1, wakeMsA := m.host.ms }
      | .B => { r with wake := r.wake ||| 2, wakeMsB := m.host.ms }
    let own := match (m.ring n).wokeMs with | some t => decide (m.host.ms - t ≤ 14) | none => false
    if own then m else (m.post 0x2007 n bChain (u8 (match e with | .A => 0 | .B => 1))).wokenEnum n

/- Authentication (R120-R123, R570) -/

/-- The monitor key under a root key (R120), and the TAG of a challenge (R121). -/
def monKey (root : List Byte) (uid : Nat) : List Byte := hmac root (ascii "KXCM" ++ leN 8 uid)
def chainTag (root : List Byte) (uid a : Nat) (e : RingEnd) (nMod nMon : List Byte) : List Byte :=
  (hmac (monKey root uid) (ascii "KXCA" ++ leN 8 uid ++ nMod ++ nMon ++ u8 a ++ u8 (match e with | .A => 0 | .B => 1))).take 16

/-- Authentication fails (R122): recorded, the monitor's cells are UNAUTH. Reasons 0 wrong TAG, 1 none in time, 2 no root key. -/
def Mod.authFails (m : Mod) (n a reason : Nat) : Mod :=
  (m.onMon n a fun x => { x with authed := false, unauth := true, challengeAt := none, authMs := m.host.ms }).post 0x2004 n bChain
    (u8 a ++ u8 reason ++ [0, 0])

/-- After authentication, passed or failed, a monitor in the sequence of R119 receives SET_CONFIG. -/
def Mod.afterAuth (m : Mod) (n a : Nat) : Mod :=
  match (m.mon n a).sequence, m.monCfg? n a with
  | some 1, some mc =>
    (m.onMon n a fun x => { x with sequence := some 3 }).enqueue n { addr := a, cmd := m.configCmd n mc, prio := .sequence, origin := m.fwdEnd }
  | _, _ => m

/-- A TAG arrives (R122), its message made with the DIR of the AUTH_READ frame (log 58): under the chain root key, else under a prior root key,
newest first, which is recorded (R570). With no root key held at all the reason of a failure is that. A replaced monitor's position takes the new
UID, and the history of its cells is reset (R123). A replaced monitor that already has its SET_CONFIG receives its full test (R168). -/
def Mod.authTag (m : Mod) (n a : Nat) (e : RingEnd) (tag : List Byte) : Mod :=
  let x := m.mon n a
  if x.challengeAt.isNone then m else
    let root := m.power.chainRoot
    let good (k : KeySlot) : Bool := !k.key.isEmpty && chainTag k.key x.uid a e x.nMod x.nMon == tag
    let old := if good root then none else m.power.priorRoots.find? good
    if good root || old.isSome then
      let m := match old with
        | some k => m.post 0xE010 n bChain (u8 n ++ u8 a ++ [0, 0] ++ leN 4 k.generation)
        | none => m
      let m := m.onMon n a fun x => { x with
        authed := true, authSince := true, unauth := false, challengeAt := none, authMs := m.host.ms, tableUid := some x.uid }
      let m := if x.tableUid.isSome && x.tableUid != some x.uid then m.estReset n ((List.range 16).map (gcell n a)) 0 else m
      let m := if x.replaced && x.configured then m.orderFullTest n a else m
      m.afterAuth n a
    else (m.authFails n a (if root.key.isEmpty && m.power.priorRoots.isEmpty then 2 else 0)).afterAuth n a

/-- Row AUTH_READ_DUE (R122): no sooner than 2 grains after the challenge the module sends AUTH_READ. -/
def authReadDue (n a : Nat) (m : Mod) : Mod :=
  match (m.mon n a).challengeAt with
  | some g =>
    if 2 ≤ (m.plan.grainCnt - g).toNat && !(m.mon n a).nMon.isEmpty && !((m.ring n).queue.any fun w => w.addr == a && w.cmd.opcode == 10) then
      m.enqueue n { addr := a, cmd := .authRead, prio := .sequence, origin := m.fwdEnd }
    else m
  | none => m

/-- Row AUTH_TIMEOUT (R122). Where no root key is held either, the reason recorded is that: the model's choice (log 73). -/
def authTimeout (n a : Nat) (m : Mod) : Mod :=
  match (m.mon n a).challengeAt with
  | some g =>
    if 10 ≤ (m.plan.grainCnt - g).toNat then
      let m := m.onRing n fun r => { r with queue := r.queue.filter fun w => !(w.addr == a && (w.cmd.opcode == 9 || w.cmd.opcode == 10)) }
      (m.authFails n a (if m.power.chainRoot.key.isEmpty && m.power.priorRoots.isEmpty then 2 else 1)).afterAuth n a
    else m
  | none => m

/-- Row REAUTH_DUE (R122): 600 s after a pass, 60 s after a failure. -/
def reauthDue (n a : Nat) (nonce : List Byte) (m : Mod) : Mod :=
  let x := m.mon n a
  let due := if x.authed then 600000 else 60000
  if (x.authed || x.unauth) && x.challengeAt.isNone && decide (due ≤ m.host.ms - x.authMs) && !m.compat n then m.challenge n a nonce else m

/- Balancing (R163-R167) -/

/-- A cell is eligible for balancing (R164). -/
def Mod.balEligible (m : Mod) (n : Nat) (mc : MonCfg) (k : Nat) : Bool :=
  let g := gcell n mc.addr k
  let c := m.cell g
  let x := m.mon n mc.addr
  let tap (i : Nat) : Bool := (tget x.taps i).joins
  decide (m.par (0x3000 + n) = 1) && mc.cellMask.getLsbD k && c.fresh && (x.authed || mc.compat) && !x.unauth && !x.replaced
    && !tap k && !tap (k + 1) && decide (m.par 0x3042 ≤ (c.v : Int)) && decide (m.uncOf g * 65536 ≤ (m.par 0x3045 : Rat))
    && !m.stopped n && decide ((m.strProt n).cause = 0)

/-- The SET_BALANCE of a monitor that waits to be sent: its timers, and whether it is a stop. -/
def Mod.balWaiting (m : Mod) (n a : Nat) : Option (List Nat × Bool) :=
  (m.ring n).queue.findSome? fun w => match w.cmd with
    | .setBalance t => if w.addr = a then some (t, w.prio == .balanceStop) else none
    | _ => none

/-- The timers of the SET_BALANCE that the open transaction carries to a monitor. -/
def Mod.balFlying (m : Mod) (n a : Nat) : Option (List Nat) :=
  (m.ring n).txn.bind fun x => match x.frame.cmd with | .setBalance t => if x.frame.addr = a then some t else none | _ => none

/-- The timers a monitor holds, or will hold: those of a write under way, else those last accepted. -/
def Mod.balHeld (m : Mod) (n a : Nat) : List Nat :=
  (m.balFlying n a).getD ((List.range 16).map fun k => (m.cell (gcell n a k)).balCmd)

/-- The timers a monitor is to hold: those of a write that waits, else those it holds. -/
def Mod.balWanted (m : Mod) (n a : Nat) : List Nat := ((m.balWaiting n a).map (·.1)).getD (m.balHeld n a)

/-- Orders a monitor's timers written, in place of any write that still waits; a stop that waits keeps the next command slot (R164). A write
that waits with the same timers keeps its place and its attempts (R138), and timers that the monitor holds already, or that are under way to
it, are not written again (R167). -/
def Mod.writeBalance (m : Mod) (n a : Nat) (timers : List Nat) (prio : ChainPrio) (force : Bool) : Mod :=
  let old := m.balWaiting n a
  if old = some (timers, true) || (decide (old = some (timers, false)) && prio != .balanceStop) then m else
    let now := m.balHeld n a
    let m := m.onRing n fun r => { r with queue := r.queue.filter fun w => !(w.addr == a && w.cmd.opcode == 6) }
    if timers = now && !force then m
    else m.enqueue n { addr := a, cmd := .setBalance timers, prio := if old.any (·.2) then .balanceStop else prio, origin := m.fwdEnd }

/-- Bleeding cells that have lost their eligibility are stopped in the next command slot; the other timers of the monitor are
written unchanged (R164, log 59). -/
def Mod.balanceCheck (m : Mod) (n : Nat) : Mod :=
  m.each (m.monsOf n) fun m mc =>
    let want := m.balWanted n mc.addr
    let bleeds (k : Nat) : Bool := (m.balWaiting n mc.addr).isSome || (m.balFlying n mc.addr).isSome || decide (0 < (m.cell (gcell n mc.addr k)).balLeft)
    let stop (k : Nat) : Bool := decide (0 < want.getD k 0) && bleeds k && !m.balEligible n mc k
    if (List.range 16).any stop then
      m.writeBalance n mc.addr ((List.range 16).map fun k => if stop k then 0 else want.getD k 0) .balanceStop false
    else m

/-- Headroom or charge of a cell (R163), Ah. -/
def Mod.balX (m : Mod) (n g : Nat) : Rat :=
  if m.par (0x3020 + n) = 0 then (1 - m.socOf g) * m.capOf g else m.socOf g * m.capOf g

/-- Timer of a cell for a charge of `q` Ah (R165). -/
def Mod.balTimer (m : Mod) (n g : Nat) (q : Rat) : Nat :=
  let ib := m.bleedV g
  let f := m.bleedF n
  let t : Nat := if ib * f ≤ 0 then 0 else (-(rfloor (-(q * 3600 / (ib * f))))).toNat
  min (min t (m.parN 0x3040 + 60)) (if m.compat n then 4095 else 65535)

/-- The charge to bleed of each eligible cell of a string: global cell index and Ah (R163). -/
def Mod.balCharge (m : Mod) (n : Nat) : List (Nat × Rat) :=
  let cells := (m.monsOf n).flatMap fun mc => ((List.range 16).filter (m.balEligible n mc)).map (gcell n mc.addr)
  match cells with
  | [] => []
  | c0 :: _ =>
    let top := decide (m.par (0x3020 + n) = 0)
    let ref := cells.foldl (fun r c => if (if top then m.balX n r < m.balX n c else m.balX n c < m.balX n r) then c else r) c0
    cells.map fun c =>
      let d := if top then m.balX n ref - m.balX n c else m.balX n c - m.balX n ref
      let q := d - (m.uncOf c * m.capOf c + m.uncOf ref * m.capOf ref)
      (c, if q < (m.par 0x3041 : Rat) / 1000 then 0 else q)

/-- The plan of one monitor: at most BAL_MAX_CELLS cells, those with the largest charge, half as many above BAL_DIE_SOFT
(R166). -/
def Mod.balMonitor (m : Mod) (n : Nat) (mc : MonCfg) (qs : List (Nat × Rat)) : Mod :=
  let mine := (qs.filter fun e => decide (e.1 / 16 = gcell n mc.addr 0 / 16 ∧ 0 < e.2)).mergeSort fun a b => decide (b.2 ≤ a.2)
  let lim := if (m.mon n mc.addr).dieSoft then m.parN 0x3043 / 2 else m.parN 0x3043
  let chosen := mine.take lim
  let t := (List.range 16).map fun k =>
    match chosen.find? fun e => e.1 == gcell n mc.addr k with | some e => m.balTimer n e.1 e.2 | none => 0
  m.writeBalance n mc.addr t (if t.all (· == 0) then .balanceStop else .balance) (t.any (· != 0))

/-- The READ_BALANCE taken once in each period of a monitor (R167). -/
def Mod.readBalance (m : Mod) (n a : Nat) : Mod :=
  if (m.ring n).queue.any fun w => w.addr == a && w.cmd == .readBalance then m
  else m.enqueue n { addr := a, cmd := .readBalance, prio := .read, origin := m.fwdEnd }

/-- Row BALANCE_PLAN (R163). -/
def balancePlan (n : Nat) (m : Mod) : Mod :=
  if m.configured n && decide (1000 * m.parN 0x3040 ≤ m.host.ms - (m.ring n).balMs) then
    let qs := m.balCharge n
    let m := m.onRing n fun r => { r with balMs := m.host.ms }
    m.each (m.monsOf n) fun m mc => (m.balMonitor n mc qs).readBalance n mc.addr
  else m

/-- Balance timers count down once a second (R110, R167); a monitor at its die limit holds them. -/
def Mod.balanceSecond (m : Mod) (n : Nat) : Mod :=
  m.each (m.monsOf n) fun m mc =>
    if (m.mon n mc.addr).dieLimit then m else
      m.each (List.range 16) fun m k =>
        if (m.cell (gcell n mc.addr k)).balLeft = 0 then m
        else m.onCell (gcell n mc.addr k) fun c => { c with balLeft := c.balLeft - 1 }

/-- A mismatch of what a monitor bleeds with what was commanded (R167). -/
def Mod.balMismatch (m : Mod) (n a commanded reported : Nat) : Mod :=
  let m := (m.onMon n a fun x => { x with balMismatch := true }).post 0x3002 n bChain (u8 a ++ [0] ++ leN 2 commanded ++ leN 2 reported)
  m.writeBalance n a (m.balWanted n a) .balance true

/- Sense wires (R154-R162) -/

/-- Row FULL_TEST_DUE (R162): the monitors of a ring take their turns, evenly spread over OW_PERIOD. -/
def fullTestDue (n a : Nat) (m : Mod) : Mod :=
  let l := m.monAddrs n
  let r := m.ring n
  let due := match r.owMs with
    | some t => decide (1000 * m.parN 0x2145 / l.length ≤ m.host.ms - t)
    | none => true
  if m.compat n || l[r.owTurn % l.length]? ≠ some a || !due then m
  else (m.onRing n fun r => { r with owTurn := (r.owTurn + 1) % l.length, owMs := some m.host.ms }).orderFullTest n a

/-- Row SENSE_OPEN_HOLD_EXPIRY (R159, R160). -/
def senseOpenHoldExpiry (n a tap : Nat) (m : Mod) : Mod :=
  let t := tget (m.mon n a).taps tap
  let on := t.openTap || (m.compat n && t.suspect)
  if on && decide (1 ≤ tap ∧ tap ≤ 15) && m.inService n && decide (1000 * m.parN (0x2120 + n) ≤ m.host.ms - t.openSince) then
    (m.onRing n fun r => { r with openReq := some m.plan.grainCnt }).openSeq n cSenseHold noGidx 0
  else m

/-- A tap is suspected (R156): its group's cells stop bleeding in the next command slot (R164), and the tap is tested. -/
def Mod.suspectTap (m : Mod) (n : Nat) (mc : MonCfg) (k : Nat) : Mod :=
  let a := mc.addr
  let m := m.onMon n a fun x => { x with taps := tmod x.taps k fun t => { t with suspect := true, run := 0, openSince := m.host.ms } }
  let m := m.post 0x2010 n bChain (u8 a ++ u8 k)
  let grp := ((m.monGroups n mc).find? fun g => g.contains k).getD [k - 1, k]
  let want := m.balWanted n a
  let m := m.writeBalance n a ((List.range 16).map fun c => if grp.contains c then 0 else want.getD c 0) .balanceStop false
  m.orderTest n a [k]

/-- Deviations of one monitor's last sweep: tap patterns, suspicion, and cell deviations (R154-R156, R160), of the cells that have a predicted
voltage (R184). -/
def Mod.senseMonitor (m : Mod) (n : Nat) (mc : MonCfg) : Mod :=
  let a := mc.addr
  let dv := m.par 0x2140
  let per := m.parN 0x2142
  let c (k : Nat) : Cell := m.cell (gcell n a k)
  let d (k : Nat) : Rat := (c k).dev.getD 0
  let pop (k : Nat) : Bool := decide (k < 16) && mc.cellMask.getLsbD k && (c k).fresh && (c k).dev.isSome
  let big (k : Nat) : Bool := decide ((dv : Rat) ≤ rabs (d k))
  let pattern (k : Nat) : Bool :=
    decide (1 ≤ k ∧ k ≤ 15) && pop (k - 1) && pop k && big (k - 1) && big k && decide (d (k - 1) * d k < 0)
      && decide (rabs (d (k - 1) + d k) ≤ (m.par 0x2141 : Rat))
  let m := m.each ((List.range 16).drop 1) fun m k =>
    let t := tget (m.mon n a).taps k
    if pattern k then
      let m := m.onMon n a fun x => { x with taps := tmod x.taps k fun t => { t with run := t.run + 1 } }
      if per ≤ t.run + 1 && !t.joins && decide (t.notBefore ≤ m.host.ms) then m.suspectTap n mc k else m
    else if t.run = 0 then m
    else m.onMon n a fun x => { x with taps := tmod x.taps k fun t => { t with run := 0 } }
  m.each ((List.range 16).filter pop) fun m k =>
    let g := gcell n a k
    let x := c k
    let covered := pattern k || pattern (k + 1)
    if big k && !covered then
      let m := m.onCell g fun y => { y with devRun := y.devRun + 1 }
      if per ≤ x.devRun + 1 && !x.deviation then
        let m := (m.onCell g fun y => { y with deviation := true }).post 0x200F n bChain (leN 4 g ++ leI 2 (clampI (-32768) 32767 (rnear (d k))))
        m.orderTest n a [k, k + 1]
      else m
    else if x.devRun = 0 && (!x.deviation || big k) then m
    else m.onCell g fun y => { y with devRun := 0, deviation := y.deviation && big k }

/-- The analysis of a string's deviations after the estimators have formed them for the sweep of the grain before. -/
def Mod.senseAnalysis (m : Mod) (n : Nat) : Mod :=
  m.each (m.monsOf n) fun m mc =>
    if (m.mon n mc.addr).lastFresh = m.plan.grainCnt - 1 then m.senseMonitor n mc else m

/-- One tap's result (R161): 0 intact, 1 open, 2 inconclusive. -/
def tapResult (mask : W16) (thr : Int) (d : Nat → Int) (k : Nat) : Nat :=
  let lo := decide (1 ≤ k) && mask.getLsbD (k - 1)
  let hi := decide (k ≤ 15) && mask.getLsbD k
  let neg := decide (d (k - 1) ≤ -thr)
  let pos := decide (thr ≤ d k)
  let openTap := match lo, hi with
    | true, true => neg && pos
    | true, false => neg
    | false, true => pos
    | false, false => false
  let intact := (!lo || decide ((d (k - 1)).natAbs < thr.natAbs)) && (!hi || decide ((d k).natAbs < thr.natAbs))
  if openTap then 1 else if intact then 0 else 2

/-- A tap found open (R158, R159). -/
def Mod.tapOpen (m : Mod) (n a k : Nat) : Mod :=
  let t := tget (m.mon n a).taps k
  let m := m.onMon n a fun x => { x with
    owOpen := x.owOpen ||| BitVec.ofNat 17 (2 ^ k), owDone := x.owDone ||| BitVec.ofNat 17 (2 ^ k)
    taps := tmod x.taps k fun t => { t with
      openTap := true, inconclusive := 0
      openSince := if t.openTap then t.openSince else m.host.ms, enumSeen := t.openTap && t.enumSeen } }
  if t.openTap then m else m.post 0x2011 n bChain (u8 a ++ u8 k)

/-- A tap found intact (R158). -/
def Mod.tapIntact (m : Mod) (n a k : Nat) : Mod :=
  let t := tget (m.mon n a).taps k
  let ms := m.host.ms
  let recent := (t.cleared.filter fun x => decide (ms - x < 3600000)) ++ (if t.suspect then [ms] else [])
  let inter := t.suspect && decide (3 ≤ recent.length)
  let m := m.onMon n a fun x => { x with
    owOpen := x.owOpen &&& ~~~(BitVec.ofNat 17 (2 ^ k)), owDone := x.owDone ||| BitVec.ofNat 17 (2 ^ k)
    taps := tmod x.taps k fun t => { t with
      suspect := false, inconclusive := 0, cleared := recent
      notBefore := if t.suspect then ms + 60000 else t.notBefore, intermittent := t.intermittent || inter } }
  let m := if t.suspect then m.post 0x2012 n bChain (u8 a ++ u8 k) else m
  if inter then m.post 0x2013 n bChain (u8 a ++ u8 k) else m

/-- A tap's result is inconclusive: open at the third in succession, else it is counted and tested again (R161). -/
def Mod.tapInconclusive (m : Mod) (n a k : Nat) : Mod :=
  let t := tget (m.mon n a).taps k
  if 2 ≤ t.inconclusive then m.tapOpen n a k
  else m.onMon n a fun x => { x with taps := tmod x.taps k fun t => { t with inconclusive := t.inconclusive + 1 } }

/-- A test gives an inconclusive result for taps: those not taken as open are tested again in the next diagnostic slot (R161). -/
def Mod.testFailed (m : Mod) (n a : Nat) (taps : List Nat) : Mod :=
  let m := m.each taps fun m k => m.tapInconclusive n a k
  m.repeatTest n a (taps.filter fun k => (tget (m.mon n a).taps k).inconclusive ≠ 0)

/-- A full test is complete: every tap judged. It has passed where every tap is intact (R159, R162, R168). -/
def Mod.fullTestDone (m : Mod) (n a : Nat) : Mod :=
  m.onMon n a fun x =>
    let x := { x with owGrain := m.plan.grainCnt, owDone := 0, testDue := false }
    if x.owOpen ≠ 0 then x else { x with
      fullTest := true, replaced := x.replaced && !(x.authed && x.configured)
      taps := (x.taps.map fun e => (e.1, { e.2 with
        openTap := e.2.openTap && !e.2.enumSeen, intermittent := e.2.intermittent && !e.2.senseClear, senseClear := false })).filter
          fun e => e.2 ≠ default }

/-- A test has given its results: the full test is complete when every tap is judged, also by a third inconclusive result (R161, R162). -/
def Mod.fullTestEnd (m : Mod) (n a : Nat) : Mod := if (m.mon n a).owDone = 0x1FFFF#17 then m.fullTestDone n a else m

/-- An OPEN_WIRE response (R161): taps of its mask, V_BEFORE and V_SINK; a cell deviation whose last tap is found intact has its
cell re-acquired (R185). -/
def Mod.openWireResult (m : Mod) (n a : Nat) (taps : BitVec 17) (p : List Byte) : Mod :=
  match m.monCfg? n a with
  | none => m
  | some mc =>
    let d (k : Nat) : Int := (rdN p (32 + 2 * k) 2 : Int) - (rdN p (2 * k) 2 : Int)
    let res (k : Nat) : Nat := tapResult mc.cellMask (m.par 0x2144) d k
    let ks := setBits 17 taps.toNat
    let m := m.each ks fun m k => if res k = 0 then m.tapIntact n a k else if res k = 1 then m.tapOpen n a k else m
    let m := m.testFailed n a (ks.filter fun k => decide (2 ≤ res k))
    let new := (m.mon n a).taps
    let waits := m.owWaits n a
    let clear (k : Nat) : Bool := !(tget new k).openTap && !waits k
    let m := m.each ((List.range 16).filter fun k => (m.cell (gcell n a k)).deviation && clear k && clear (k + 1)
        && (taps.getLsbD k || taps.getLsbD (k + 1))) fun m k => m.reacquire n (gcell n a k) 1
    m.fullTestEnd n a

/-- The sense-clear command (R158, R160): intermittent taps of a monitor wait for their full test, which is ordered;
suspicions of a compatibility ring end. -/
def senseClear (n a : Nat) (m : Mod) : Mod :=
  let cm := m.compat n
  let m := m.onMon n a fun x => { x with taps := (x.taps.map fun e =>
    (e.1, if cm then { e.2 with suspect := false, run := 0 } else { e.2 with senseClear := e.2.intermittent })).filter fun e => e.2 ≠ default }
  if !cm && (m.mon n a).taps.any fun e => e.2.intermittent then m.orderFullTest n a else m

/- Responses (R106-R112) -/

/-- What an accepted write changes. SET_CONFIG brings a replaced KX-CM12 into use: R168's other steps are not of its command set (Table 3.12). -/
def Mod.writeAccepted (m : Mod) (n a : Nat) (e : RingEnd) (cmd : ChainCmd) : Mod :=
  match cmd with
  | .setSkew s =>
    let m := m.onMon n a fun x => match e with | .A => { x with skewA := s } | .B => { x with skewB := s }
    if (m.mon n a).sequence = some 0 && !((m.ring n).queue.any fun w => w.addr == a && (w.cmd.opcode == 3 || w.cmd.opcode == 4)) then
      let (c, m) := (m.onMon n a fun x => { x with sequence := some 1 }).nonce
      m.challenge n a c
    else m
  | .setConfig .. =>
    let m := m.onMon n a fun x => { x with configured := true, cfgLost := false, sequence := none, replaced := x.replaced && !m.compat n }
    if !m.compat n && ((m.mon n a).replaced || (m.mon n a).testDue) then m.orderFullTest n a else m
  | .setBalance t =>
    let m := m.each (List.range 16) fun m k => m.onCell (gcell n a k) fun c => { c with balCmd := t.getD k 0, balLeft := t.getD k 0 }
    m
  | _ => m

/-- Status bits of a response that carries MSTAT (R103); the point shows those of SWEEP and READ12 (R173). -/
def Mod.takeMstat (m : Mod) (n a : Nat) (st : W16) (point : Bool) : Mod :=
  let old := m.mon n a
  let m := m.onMon n a fun x => { x with mstat := if point then st else x.mstat, cfgLost := x.cfgLost || st.getLsbD 0, dieLimit := st.getLsbD 2 }
  let m := if st.getLsbD 2 && !old.dieLimit then m.post 0x3001 n bChain (u8 a ++ [0] ++ leI 2 old.dieT) else m
  let m := match old.failedWrite with
    | some (c, cmd, e) =>
      if st.getLsbD 10 then
        let m := m.onMon n a fun x => { x with failedWrite := none }
        if bitsOf st.toNat 6 4 = c then m.writeAccepted n a e cmd else m
      else m
    | none => m
  let m := if st.getLsbD 13 && !((m.ring n).queue.any fun w => w.addr == a && w.cmd.opcode == 11) then
      m.enqueue n { addr := a, cmd := .readStatus, prio := .read, origin := m.fwdEnd }
    else m
  if st.getLsbD 0 && old.configured && decide ((m.ring n).enum ≠ .inProgress) then
    (m.onMon n a fun x => { x with configured := false }).startEnum n true
  else m

/-- The die temperature of a monitor; its first passing of BAL_DIE_SOFT plans the monitor again at once (R166). -/
def Mod.takeDie (m : Mod) (n : Nat) (mc : MonCfg) (t : Int) : Mod :=
  let soft := decide (m.par 0x3044 < t)
  let was := (m.mon n mc.addr).dieSoft
  let m := m.onMon n mc.addr fun x => { x with dieT := t, dieSoft := soft }
  if soft && !was then m.balMonitor n mc (m.balCharge n) else m

/-- Readings of a SWEEP response (R109, R143): the cell takes the forward reading where both directions have one. -/
def Mod.takeSweep (m : Mod) (n : Nat) (mc : MonCfg) (dir : RingEnd) (p : List Byte) (temp : Bool) : Mod :=
  let a := mc.addr
  let st := BitVec.ofNat 16 (rdN p 32 2)
  let valid := !st.getLsbD 12 && !st.getLsbD 3
  let m := m.onMon n a fun x => { x with lastFresh := m.plan.grainCnt }
  let m := m.each (setBits 16 mc.cellMask.toNat) fun m k => m.onCell (gcell n a k) fun c =>
    let rev := decide (dir ≠ m.fwdEnd)
    let c := if valid && (c.vNow.isNone || !rev) then { c with vNow := some (rdN p (2 * k) 2), vNowRev := rev } else c
    if temp && mc.thermMask.getLsbD k && c.tNow.isNone then { c with tNow := some (rdI p (34 + 2 * k) 2) } else c
  let m := if temp then m.takeDie n mc (rdI p 66 2) else m
  m.takeMstat n a st true

/-- Readings of a READ12 response (Table 3.12): thermistor k serves cells 3k to 3k + 2. -/
def Mod.takeRead12 (m : Mod) (n : Nat) (mc : MonCfg) (p : List Byte) : Mod :=
  let a := mc.addr
  let st := BitVec.ofNat 16 (rdN p 32 2)
  let valid := !st.getLsbD 12
  let m := m.onMon n a fun x => { x with lastFresh := m.plan.grainCnt, readTick := m.plan.tick, roundHeard := true }
  let m := m.each (setBits 12 mc.cellMask.toNat) fun m k => m.onCell (gcell n a k) fun c =>
    let c := if valid then { c with vNow := some (rdN p (2 * k) 2) } else c
    if mc.thermMask.getLsbD k then { c with tNow := some (rdI p (24 + 2 * (k / 3)) 2) } else c
  m.takeMstat n a st true

/-- READ_STATUS (R111): port CRC errors are summed, die temperature and status taken. -/
def Mod.takeStatus (m : Mod) (n : Nat) (mc : MonCfg) (p : List Byte) : Mod :=
  let m := m.onMon n mc.addr fun x => { x with
    portCrcA := stopAt 0xFFFF (x.portCrcA + rdN p 10 2), portCrcB := stopAt 0xFFFF (x.portCrcB + rdN p 12 2) }
  (m.takeDie n mc (rdI p 2 2)).takeMstat n mc.addr (BitVec.ofNat 16 (rdN p 0 2)) false

/-- READ_BALANCE (R167): the remaining times correct the module's count; a difference of more than 2 s is a mismatch (log 21). -/
def Mod.takeBalance (m : Mod) (n a : Nat) (p : List Byte) : Mod :=
  let rd (k : Nat) : Nat := rdN p (2 * k) 2
  let differs (k : Nat) : Bool :=
    let c := (m.cell (gcell n a k)).balLeft
    decide (2 < rd k - c) || decide (2 < c - rd k)
  let bad := (List.range 16).any differs
  let own := maskOf ((List.range 16).filter fun k => decide (0 < (m.cell (gcell n a k)).balLeft))
  let m := m.each (List.range 16) fun m k => m.onCell (gcell n a k) fun c => { c with balLeft := rd k }
  if bad then m.balMismatch n a own (maskOf ((List.range 16).filter fun k => decide (0 < rd k)))
  else m.onMon n a fun x => { x with balMismatch := false }

/-- An ECHO gives the delay d of its origin and the SKEW to write (R118); `rtt` in 0.5 ns. -/
def Mod.takeEcho (m : Mod) (n a : Nat) (e : RingEnd) (rtt : Nat) : Mod :=
  let d : Int := (rtt : Int) - 4000
  let m := m.onMon n a fun x => match e with | .A => { x with delayA := d } | .B => { x with delayB := d }
  m.enqueue n { addr := a, cmd := .setSkew (min 1200 (rnear ((d : Rat) / 50)).toNat), prio := .sequence, origin := e }

/-- A monitor is heard (R107, R169, R173); one that was unreachable for more than 1 s has a full test ordered. -/
def Mod.monHeard (m : Mod) (n : Nat) (mc : MonCfg) (x : ChainTxn) (r : ChainResp) : Mod :=
  let a := mc.addr
  let op := x.frame.cmd.opcode
  let old := m.mon n a
  let back := old.answered && decide (1000 < m.host.ms - old.heardMs) && !mc.compat
  let m := m.onMon n a fun y => { y with
    cmp := r.cmp, answered := true, spoke := true, silent := false, heardMs := m.host.ms, norespHeard := y.norespHeard || op == 1 || op == 0x21
    testDue := y.testDue || back }
  let m := if op = 1 then m.onRing n fun y => { y with now := { y.now with cmps := y.now.cmps ++ [(a, r.cmp)] } } else m
  if back then m.orderFullTest n a else m

/-- The effect of an accepted response (R106-R112). A BAL_MASK that differs while the monitor reports its die limit, at which
bleeding is off (R110), is no mismatch (log 58). -/
def Mod.takeResp (m : Mod) (n : Nat) (x : ChainTxn) (r : ChainResp) : Mod :=
  let a := r.src
  let cmd := x.frame.cmd
  let m := if r.err then m.post 0x2003 n bChain (u8 a ++ u8 cmd.opcode ++ (r.payload.take 2)) else m
  match m.monCfg? n a with
  | none => m
  | some mc =>
    if cmd = .enum then m.onMon n a fun y => { y with cmp := r.cmp, silent := false, spoke := true } else
    let m := m.monHeard n mc x r
    if r.err then
      match cmd with
      | .openWire t => (m.testFailed n a (setBits 17 t.toNat)).fullTestEnd n a
      | _ => m
    else
      match cmd with
      | .sweep _ temp => m.takeSweep n mc x.frame.dir r.payload temp
      | .echo _ => m.takeEcho n a x.frame.dir r.rtt
      | .setSkew _ | .setConfig .. => m.writeAccepted n a x.frame.dir cmd
      | .setBalance t =>
        let m := m.writeAccepted n a x.frame.dir cmd
        let rep := rdN r.payload 0 2
        let want := maskOf ((List.range 16).filter fun k => decide (0 < t.getD k 0))
        let m := m.onMon n a fun y => { y with balMask := BitVec.ofNat 16 rep }
        if rep = want || (m.mon n a).dieLimit then m else m.balMismatch n a want rep
      | .readBalance => m.takeBalance n a r.payload
      | .openWire t => m.openWireResult n a t r.payload
      | .authChallenge _ => m.onMon n a fun y => { y with nMon := r.payload }
      | .authRead => m.authTag n a x.frame.dir r.payload
      | .readStatus => m.takeStatus n mc r.payload
      | .read12 => m.takeRead12 n mc r.payload
      | .readReg start count =>
        let ws := (List.range count).map fun k => rdN r.payload (2 * k) 2
        (m.onMon n a fun y => { y with makerWords := ws }).out (.makerWords n a start ws)
      | .enum | .hibernate => m

/-- A response frame that passed the crossing (R106): one that does not match the open transaction is discarded and counted; where
its SRC is not expected it counts as UNEXPECTED alone, whatever else is wrong (log 58). An ENUM response from an address that is not
configured, or that has answered before, is taken for the judgement of Table 3.11 and does not count as UNEXPECTED: the model's choice
(log 68). -/
def chainResponse (n : Nat) (r : ChainResp) (m : Mod) : Mod :=
  let unexpected (m : Mod) : Mod := m.onRing n fun x => { x with unexpected := stopAt 0xFFFF (x.unexpected + 1) }
  match (m.ring n).txn with
  | none => unexpected m
  | some t =>
    let isEnum := decide (t.frame.cmd = .enum)
    if !r.inWindow || (!isEnum && (!t.expected.contains r.src || t.accepted.contains r.src || decide (t.room ≤ t.accepted.length))) then unexpected m
    else if r.dir ≠ t.frame.dir || r.opcode ≠ t.frame.cmd.opcode || r.cnt ≠ t.frame.cnt then
      m.onRing n fun x => { x with cntMismatch := stopAt 0xFFFF (x.cntMismatch + 1) }
    else
      let row : List Nat := [r.src, rdN r.payload 0 1, rdN r.payload 1 1, rdN r.payload 2 1, rdN r.payload 3 1, rdN r.payload 4 8,
        rdN r.payload 12 2, rdN r.payload 14 2]
      let m := m.onRing n fun x => { x with txn := some { t with
        accepted := if isEnum && r.err then t.accepted else t.accepted ++ [r.src]
        enumResp := if isEnum && !r.err then t.enumResp ++ [row] else t.enumResp } }
      m.takeResp n t r

/-- A frame that a ring end has received is taken, and recorded for the standby (R378). -/
def Mod.chainResponseTaken (m : Mod) (n : Nat) (r : ChainResp) : Mod :=
  (chainResponse n r m).capture fun x => { x with chain := x.chain ++ [(m.plan.tick, n, r)] }

/-- What a standby sends on from its ring ends, while a lane is up (R376, R396). -/
def Mod.forward (m : Mod) (resps : List (Nat × ChainResp)) (ends : List (Nat × EndObs)) (tones : List (Nat × BitVec 2)) : Mod :=
  if m.pairOp && decide (m.pair.lanes ≠ 0) then m.out (.field resps ends tones none) else m

/-- Row CHAIN_RESPONSE (R27, R101, R104): the bytes of a frame at a ring end of the module. Nothing is taken from a receiver that is
not in lock; such a response counts as CRC_DISCARD (log 58). In the standby a good one goes to the active module by field
forward (R376, R396), and an answer to an ENUM tells that its sender has been reached from this end (R386, R395). -/
def chainResponseOwn (n : Nat) (x : ChainRx) (m : Mod) : Mod :=
  let drop (m : Mod) : Mod := m.onRing n fun r => { r with crcDiscard := stopAt 0xFFFF (r.crcDiscard + 1) }
  match x.frame with
  | .foreign => m
  | .broken => drop m
  | .resp r =>
    if !m.endLocked n x.rxEnd then drop m
    else if m.standby then
      let m := if r.opcode = ChainCmd.enum.opcode && !r.err && !m.pair.endSeen.contains (n, r.src) then
        m.onPair fun p => { p with endSeen := p.endSeen ++ [(n, r.src)] } else m
      m.forward [(n, r)] [] []
    else m.chainResponseTaken n r

/-- The hop of a tail loss (R146): the monitors at hops below it answered, none at or above it. -/
def tailLoss (order got : List Nat) : Option Nat :=
  let j := (order.takeWhile got.contains).length
  if j < order.length && !((order.drop j).any got.contains) then some j else none

/-- The enumerated monitors in hop order from an end (R146). -/
def Mod.enumOrder (m : Mod) (n : Nat) (e : RingEnd) : List Nat := (m.hopOrder n e).filter fun a => (m.mon n a).enumPassed

/-- A forward SWEEP train has closed (R146-R149): `order` are the monitors it could reach, `got` those that answered. -/
def Ring.closeForward (r : Ring) (order got : List Nat) (cont : Bool) : Ring :=
  let half := r.split && !r.fullSize
  let r := { r with now := { r.now with gotFwd := got, contFwd := cont } }
  match tailLoss (if half then order.take r.nA else order) got with
  | some j => { r with tailNow := some j, breakHop := j, revDue := true, nA := j, nB := if r.split then r.nB else order.length - j }
  | none =>
    if !r.split then r
    else if r.fullSize && order.all got.contains then { r with fullNow := some cont, revDue := false }
    else { r with revDue := true }

/-- A SWEEP train has closed. -/
def Mod.closeSweep (m : Mod) (n : Nat) (t : ChainTxn) (cont : Bool) : Mod :=
  let got := t.accepted
  let order := m.enumOrder n m.fwdEnd
  m.onRing n fun r =>
    let r := r.reached t.frame.dir got.length
    if t.frame.dir = m.fwdEnd then r.closeForward order got cont
    else { r with now := { r.now with gotRev := got }, nB := got.length }

/-- An addressed command has closed without a response (R107). A SET_BALANCE that a newer one replaces is not repeated; an OPEN_WIRE is tried again in a diagnostic slot (R136), and after
its third failure counts as an inconclusive result of each of its taps (log 58). Where the command was of the sequence of R119, the sequence stands until a
later enumeration: the model's choice (log 73). -/
def Mod.closeMissed (m : Mod) (n : Nat) (w : ChainWait) : Mod :=
  if w.attempts + 1 < 3 then
    if w.cmd.opcode = 6 && (m.balWaiting n w.addr).isSome then m
    else if w.cmd.opcode = 8 then m.onRing n fun r => { r with owQueue := { w with attempts := w.attempts + 1 } :: r.owQueue }
    else m.enqueue n { w with attempts := w.attempts + 1, prio := if w.prio.rank < 2 then w.prio else .retry }
  else
    let m := m.onMon n w.addr fun x => { x with
      noresp := stopAt 0xFFFFFFFF (x.noresp + 1), norespMs := some m.host.ms, norespHeard := false
      failedWrite := if w.cmd.isWrite then some (w.cnt.getD 0, w.cmd, w.origin) else x.failedWrite }
    let m := m.post 0x2002 n bChain (u8 w.addr ++ u8 w.cmd.opcode ++ u8 (match w.origin with | .A => 0 | .B => 1) ++ [0])
    match w.cmd with
    | .openWire t => (m.testFailed n w.addr (setBits 17 t.toNat)).fullTestEnd n w.addr
    | _ => m

/-- The declared response window of a transaction has ended by the end of the present tick (R97). -/
def Mod.windowEnded (m : Mod) (t : ChainTxn) : Bool := decide (t.closes ≤ 20000 * (m.plan.tick + 1))

/-- Row CHAIN_TRANSACTION_CLOSE: the response window ends; `far` says that the command arrived at the far end, with the HOP an
ENUM arrived with (R98, R115). -/
def chainTransactionClose (n : Nat) (far : Option Nat) (m : Mod) : Mod :=
  match (m.ring n).txn with
  | none => m
  | some t =>
    if !m.windowEnded t then m else
    let far := if (m.ring n).inverted t.frame.dir.other then none else far
    let mute := t.expected.filter fun a => !t.accepted.contains a
    let miss := t.room - (t.expected.length - mute.length)
    let m := m.onRing n fun r => { r with txn := none, cont := far.isSome, missing := stopAt 0xFFFF (r.missing + miss) }
    let seen := if t.frame.dir = m.fwdEnd then [] else (m.ring n).now.gotFwd
    let m := m.each (mute.filter fun a => !seen.contains a) fun m a => m.onMon n a fun x => { x with silent := true }
    match t.frame.cmd with
    | .sweep .. => m.closeSweep n t far.isSome
    | .enum => m.enumEnd n t.frame.dir t.enumResp far
    | .hibernate => m
    | _ =>
      match t.wait with
      | some w => if t.accepted.isEmpty then m.closeMissed n w else m
      | none => m

/-- Row CHAIN_TRANSACTION_CLOSE at the module that assigns the windows, recorded for its standby (R97, R378). -/
def chainCloseOwn (n : Nat) (far : Option Nat) (m : Mod) : Mod :=
  (chainTransactionClose n far m).capture fun r => { r with closes := r.closes ++ [(m.plan.tick, n, far)] }

/- The ring's grain (R131-R141, R147-R149) -/

/-- Class of a grain for ring `n` (Table 4.1): 0 temperature, 1 diagnostic, 2 command. -/
def grainClass (g n : Nat) : Nat := if g % 10 = n % 10 then 0 else if g % 10 = (n + 5) % 10 then 1 else 2

/-- Any monitor of the ring is accelerated (R140). -/
def Mod.accelRing (m : Mod) (n : Nat) : Bool := (m.monAddrs n).any fun a => (m.mon n a).accel

/-- The forward SWEEP of this grain carries temperatures (R139, R140). -/
def Mod.tempDue (m : Mod) (n : Nat) : Bool :=
  let g := m.plan.grainCnt.toNat
  decide (g % 100 = n) || (decide (grainClass g n = 0) && m.accelRing n)

/-- The monitors a forward sweep expects: those of its half or of a full-size sweep in split mode, else all (R148, R149). -/
def Mod.fwdExpected (m : Mod) (n : Nat) : List Nat :=
  let r := m.ring n
  if !r.split then m.hopOrder n m.fwdEnd
  else if r.fullSize then m.enumOrder n m.fwdEnd
  else (m.enumOrder n m.fwdEnd).take r.nA

/-- WINDOW may be sent (R109). -/
def windowOk (w : Nat) : Bool := decide (1 ≤ w ∧ w ≤ 64)

/-- The forward sweep of a grain is withheld: it counts one MISSING for each response that it would have expected (R94, R129, log 58). -/
def Mod.withholdForward (m : Mod) (n : Nat) : Mod :=
  let ex := m.fwdExpected n
  m.onRing n fun r => { r with
    now := { r.now with fwd := true, fwdSent := false, tempFwd := m.tempDue n, expFwd := ex }, missing := stopAt 0xFFFF (r.missing + ex.length) }

/-- The reverse sweep of a grain is withheld: it runs first in the next grain, and counts as a withheld sweep (R94, R147, R148). -/
def Mod.withholdReverse (m : Mod) (n : Nat) : Mod :=
  m.onRing n fun r => { r with now := { r.now with rev := true }, revFirst := true, missing := stopAt 0xFFFF (r.missing + r.nB) }

/-- From tick 90 on no sweep starts (R94): those still due in the grain are withheld. A ring that waits for its first ENUM after a wake has no
sweep due (R125), nor has one in single operation a reverse sweep (R373). -/
def Mod.quietTick (m : Mod) (n : Nat) : Mod :=
  let r := m.ring n
  if (m.monsOf n).isEmpty || m.compat n || r.wakeSince.isSome || r.wakeFirst then m else
    let m := if r.now.fwd then m else m.withholdForward n
    if r.revDue && !r.now.rev && decide (1 < m.ringEnds.length) then m.withholdReverse n else m

/-- Sends the forward sweep at `s`. One that would reach the quiet window is withheld (R94). -/
def Mod.sendForward (m : Mod) (n s : Nat) : Mod :=
  let w := (m.layout n).window
  let temp := m.tempDue n
  let ex := m.fwdExpected n
  let len := sweepLen w ex.length temp
  if fitsQuiet s len && windowOk w then
    (m.onRing n fun r => { r with
      now := { r.now with fwd := true, fwdSent := true, tempFwd := temp, expFwd := ex, tsFwd := s + 34400 } }).sendTrain
        n m.fwdEnd (.sweep w temp) ex ex.length s len
  else m.withholdForward n

/-- Sends the reverse sweep at `s`, with room for the answers of n_B monitors; without temperatures where it fits only so, and then
they are owed (R141, R147, R148). One that does not fit is withheld. -/
def Mod.sendReverse (m : Mod) (n s : Nat) : Mod :=
  let w := (m.layout n).window
  let r := m.ring n
  let want := m.tempDue n || (r.tempOwed && decide (grainClass m.plan.grainCnt.toNat n = 0))
  let temp := want && fitsQuiet s (sweepLen w r.nB true)
  let len := sweepLen w r.nB temp
  if fitsQuiet s len && windowOk w then
    (m.onRing n fun r => { r with
      now := { r.now with rev := true, revSent := true, tempRev := temp, tsRev := s + 34400 }
      tempOwed := (want || r.tempOwed) && !temp }).sendTrain n m.fwdEnd.other (.sweep w temp) (m.hopOrder n m.fwdEnd.other) r.nB s len
  else m.withholdReverse n

/-- A waiting command may go now (R107, R117). -/
def Mod.mayGo (m : Mod) (n : Nat) (w : ChainWait) : Bool := m.monTakes n w.addr && !((m.ring n).noWrite && w.cmd.isWrite)

/-- The next waiting command that a command slot may carry, or the next ECHO, which belongs to diagnostic slots (R107, R136,
R138). -/
def Mod.nextWait (m : Mod) (n : Nat) (echo : Bool) : Option ChainWait :=
  let l := (m.ring n).queue.filter fun w => m.mayGo n w && (w.cmd.opcode == 3) == echo
  l.foldl (fun b w => match b with
    | none => some w
    | some x => if w.prio.rank < x.prio.rank then some w else some x) none

/-- The next open-wire test: the first whose monitor takes commands. -/
def Mod.nextTest (m : Mod) (n : Nat) : Option ChainWait := (m.ring n).owQueue.find? fun w => m.monTakes n w.addr

/-- ENUM of an end, or ECHO commands, wait for a diagnostic slot. -/
def Mod.enumWaits (m : Mod) (n : Nat) : Bool := !(m.ring n).enumTodo.isEmpty || (m.nextWait n true).isSome

/-- A diagnostic slot begins at `s` (R136): ENUM of an end still to be enumerated, else an OPEN_WIRE, but not where it takes the place of a sweep
(`tests` 0), else ECHO; after an ENUM or ECHO its time goes on with ECHO commands. -/
def Mod.diagSlot (m : Mod) (n s : Nat) (tests : Bool) : Mod :=
  let m := m.onRing n fun r => { r with diagAt := some m.plan.grainCnt }
  let echoes (m : Mod) : Mod := m.onRing n fun r => { r with diagEnd := s + diagSlotLen }
  match (m.ring n).enumTodo, (if tests then m.nextTest n else none) with
  | e :: _, _ => (echoes m).sendTrain n e .enum (m.monAddrs n) (m.monAddrs n).length s (enumLen (m.monAddrs n).length)
  | [], some w => m.sendWait n w s
  | [], none => match m.nextWait n true with
    | some w => (echoes m).sendWait n w s
    | none => m

/-- The open-wire test that waits takes the place of the reverse half (R148): the diagnostic slot would not fit where it begins with the reverse
half, at `withRev`, but does without it, at `s`, and it has not done so within 100 grains. -/
def Mod.displaces (m : Mod) (n withRev s : Nat) : Bool :=
  let r := m.ring n
  r.split && decide (grainClass m.plan.grainCnt.toNat n = 1) && (m.nextTest n).isSome && r.diagAt != some m.plan.grainCnt
    && fitsQuiet s diagSlotLen && !fitsQuiet withRev diagSlotLen
    && (match r.displaced with | some d => decide (100 ≤ (m.plan.grainCnt - d).toNat) | none => true)

/-- The reverse half of this grain gives way to the diagnostic slot (R148). -/
def Mod.displaceReverse (m : Mod) (n : Nat) : Mod :=
  m.onRing n fun r => { r with now := { r.now with rev := true }, revDue := false, displaced := some m.plan.grainCnt }

/-- The instant after a reverse half that begins at `s`, and after the forward half that follows at `s`, each with the gap before the next
transaction (R97, R135). -/
def Mod.afterReverse (m : Mod) (n s : Nat) : Nat := s + sweepLen (m.layout n).window (m.ring n).nB false + 8000
def Mod.afterForward (m : Mod) (n s : Nat) : Nat := s + sweepLen (m.layout n).window (m.fwdExpected n).length (m.tempDue n) + 8000

/-- What follows the sweeps of a grain from the instant `s` (R135, R136): the diagnostic slot, then command slots. -/
def Mod.chainSlots (m : Mod) (n s : Nat) : Mod :=
  let r := m.ring n
  let diag := decide (grainClass m.plan.grainCnt.toNat n = 1)
  if diag && r.diagAt != some m.plan.grainCnt && (m.enumWaits n || (m.nextTest n).isSome) && fitsQuiet s diagSlotLen then m.diagSlot n s true
  else match (if s + cmdSlot ≤ r.diagEnd then m.nextWait n true else none), m.nextWait n false with
    | some w, _ => m.sendWait n w s
    | none, some w => if fitsQuiet s cmdSlot then m.sendWait n w s else m
    | none, none => m

/-- One tick of a ring (R131, R135): the sweeps of the grain, then its slots, each from the instant at which the ring is free. An
activity whose instant lies in a later tick waits for that tick. On a ring whose string is out of service enumeration takes the
place of the sweep (R136), and the first command after a wake is an ENUM (R125). -/
def Mod.chainTick (m : Mod) (n : Nat) : Mod :=
  let r := m.ring n
  let t := m.plan.tick
  let s := max (20000 * t) r.freeAt
  let inTick (x : Nat) : Bool := decide (x < 20000 * (t + 1))
  if 90 ≤ t then m.quietTick n
  else if r.txn.isSome || !inTick s || (m.monsOf n).isEmpty || r.wakeSince.isSome then m else
    let out := !m.inService n
    let native := !m.compat n
    let twoEnds := decide (1 < m.ringEnds.length)
    let at1 := m.sweepStart n (r.now.fwdSent || r.now.revSent) s
    let lead := native && twoEnds && r.revLead && !r.now.rev
    let rev := native && twoEnds && r.revDue && !r.now.rev
    if r.wakeFirst then
      if (out || decide (grainClass m.plan.grainCnt.toNat n = 1)) && fitsQuiet s diagSlotLen then m.diagSlot n s false else m
    else if out && m.enumWaits n && !r.now.fwd && fitsQuiet s diagSlotLen then
      (m.onRing n fun r => { r with now := { r.now with fwd := true } }).diagSlot n s false
    else if lead && !r.now.fwd && m.displaces n (m.afterForward n (m.alignedFrom n (m.afterReverse n at1))) (m.afterForward n at1) then
      (if inTick at1 then (m.displaceReverse n).sendForward n at1 else m)
    else if lead then (if inTick at1 then m.sendReverse n at1 else m)
    else if native && !r.now.fwd then (if inTick at1 then m.sendForward n at1 else m)
    else if rev && m.displaces n (m.afterReverse n (m.alignedFrom n s)) s then (m.displaceReverse n).chainSlots n s
    else if rev then (if inTick (m.alignedFrom n s) then m.sendReverse n (m.alignedFrom n s) else m)
    else m.chainSlots n s

/-- READ12 of the slow round (Table 3.12): each monitor once in 1,000 grains. -/
def Mod.slowRound (m : Mod) (n : Nat) : Mod :=
  let l := m.monAddrs n
  let g := m.plan.grainCnt.toNat % 1000
  let i := g * l.length / 1000
  if l.isEmpty || (g != 0 && decide ((g - 1) * l.length / 1000 = i)) then m
  else m.enqueue n { addr := l.getD i 0, cmd := .read12, prio := .read, origin := m.fwdEnd }

/-- The slow round of a compatibility ring ends at a grain boundary: each monitor of which no READ12 was accepted in it has missed it (R142,
Table 3.12). -/
def Mod.roundEnds (m : Mod) (n : Nat) : Mod :=
  m.each (m.monAddrs n) fun m a => m.onMon n a fun x => { x with roundMissed := !x.roundHeard, roundHeard := false }

/-- The sweeps of the grain that ends are those to be evaluated; its readings wait for the evaluation (R143). A transaction that has not been closed
is past its window (R97). -/
def Mod.latchSweep (m : Mod) (n : Nat) : Mod :=
  let m := m.onRing n fun r => { r with last := r.now, now := {}, txn := r.txn.map fun t => { t with closes := 0 } }
  m.each (m.gcells n) fun m g => m.onCell g fun c => { c with
    vNew := c.vNow, vNewRev := c.vNowRev, tNew := c.tNow, vNow := none, vNowRev := false, tNow := none }

/-- Split mode at a grain boundary (R147-R149): a reverse half that has not run leads the next grain; a forward sweep that reached
the far end, or a complete full-size one, makes the next sweep full size; ten complete ones with continuity end split mode. -/
def Ring.splitGrain (r : Ring) (twoEnds : Bool) : Ring :=
  let enters := r.tailNow.isSome && !r.split
  let run := match r.fullNow with
    | some true => r.completeRun + 1
    | _ => 0
  let leaves := r.split && decide (10 ≤ run)
  let split := (r.split || enters) && !leaves
  let full := split && r.split && (r.fullNow.isSome || (r.now.contFwd && !(r.fullSize && r.tailNow.isSome)))
  let missed := twoEnds && r.revFirst
  { r with
    split := split, tailNow := none, fullNow := none, fullSize := full, completeRun := if leaves then 0 else run
    revFirst := false, revLead := missed, revDue := (split && !full) || missed }

/-- An end of the ring is locked: at the partner's end of a pair, as the partner reports it (R152, R396). -/
def Mod.lockAt (m : Mod) (n : Nat) (e : RingEnd) : Bool := if m.ownEnd e then m.endLocked n e else m.pair.partnerLock.getLsbD n

/-- The CONT, lock and tone states of a ring that the plan reads: in the standby those of the record (R378, Table 10.3). -/
def Mod.ringSeen (m : Mod) (n : Nat) : RingSeen :=
  match m.recorded with
  | some r => ((r.rings.find? fun e => e.1 == n).map (·.2)).getD {}
  | none =>
    let r := m.ring n
    { cont := r.cont, lock := BitVec.ofNat 2 (b2n (m.lockAt n .A) + 2 * b2n (m.lockAt n .B)), tone := r.tone }

/-- The ring at a grain boundary: split mode (R147-R149), tone (R152), the string-open request of the grain that ends (R172), balance seconds,
slow round. -/
def Mod.chainGrain (m : Mod) (n : Nat) : Mod :=
  let r := m.ring n
  let tone := decide ((m.ringSeen n).tone &&& (m.ringSeen n).lock ≠ 0)
  let j := r.tailNow.getD 0
  let m := m.onRing n fun r => { r.splitGrain (decide (1 < m.ringEnds.length)) with
    mode := m.ringMode n, freeAt := 0, diagEnd := 0, openReq := none, toneAbsent := if tone then 0 else r.toneAbsent + 1 }
  let now := (m.ring n).split
  let m := if now && !r.split then m.post 0x2009 n bChain (u8 j ++ u8 ((m.enumOrder n m.fwdEnd).getD j 0xFF)) else m
  let m := if r.split && !now then m.post 0x200A n bChain [] else m
  let m := m.latchSweep n
  let m := if m.host.ms % 1000 = 0 then m.balanceSecond n else m
  if m.compat n then (if m.plan.grainCnt.toNat % 1000 = 0 then m.roundEnds n else m).slowRound n else m

/- Evaluation of the sweep of the grain before (R142-R145, R151) -/

/-- Either end of the ring is locked; in a pair a lock that the partner reports counts (R145). -/
def Mod.anyLock (m : Mod) (n : Nat) : Bool := decide ((m.ringSeen n).lock ≠ 0)

/-- STALE_AGE at which a string-open request is made (R144, R145). -/
def Mod.staleLimit (m : Mod) (n : Nat) : Nat :=
  let base := if m.compat n then 3000 else 21
  if m.inFallow n && m.anyLock n then base + m.parN (0x2100 + n) else base

/-- One cell's reading is judged fresh or stale (R143, R159); on a compatibility ring STALE_AGE counts from the last accepted READ12
(R145). -/
def Mod.judgeCell (m : Mod) (n : Nat) (mc : MonCfg) (k : Nat) : Mod :=
  let x := m.mon n mc.addr
  let g := gcell n mc.addr k
  let lone := (k == 0 && (tget x.taps 0).openTap) || (k == 15 && (tget x.taps 16).openTap)
  let ok := x.enumPassed && x.sequence.isNone && !lone
  let heard := mc.compat && x.answered && decide (x.lastFresh = m.plan.grainCnt - 1)
  m.onCell g fun c =>
    let age := stopAt 0xFFFF (c.staleAge + 1)
    let c := match c.vNew with
      | some v =>
        if ok then { c with v := v, vRev := c.vNewRev, fresh := true, staleAge := 0 } else { c with fresh := false, staleAge := if heard then 0 else age }
      | none =>
        if heard then { c with fresh := false, staleAge := 0 }
        else { c with staleAge := age, fresh := mc.compat && c.fresh && ok && decide (age < 3000) }
    { c with vNew := none }

/-- Temperature rounds missed (R142): two in succession make a thermistor temperature-stale until its next reading. -/
def Mod.judgeRound (m : Mod) (n : Nat) (mc : MonCfg) (due : Bool) : Mod :=
  m.each (setBits 16 (mc.cellMask &&& mc.thermMask).toNat) fun m k => m.onCell (gcell n mc.addr k) fun c =>
    if c.tNew.isSome then { c with tMissed := 0, tStale := false }
    else if due then { c with tMissed := stopAt 2 (c.tMissed + 1), tStale := c.tStale || decide (1 ≤ c.tMissed) }
    else c

/-- Acceleration of a monitor after a temperature round (R140). -/
def Mod.judgeAccel (m : Mod) (n : Nat) (mc : MonCfg) : Mod :=
  let cs := ((setBits 16 (mc.cellMask &&& mc.thermMask).toNat).map fun k => gcell n mc.addr k).filter fun c => (m.cell c).tRead
  let l := m.limits n
  let ts := cs.map (m.protT n)
  let near := ts.any fun t => decide (l.tHi - 500 ≤ t) || decide (t ≤ l.tLo + 500)
  let clear := (ts.all fun t => decide (t < l.tHi - 700) && decide (l.tLo + 700 < t)) && cs.all fun c => !(m.cell c).tStale
  m.onMon n mc.addr fun x => { x with accel := !mc.compat && (near || (x.accel && !(clear && !cs.isEmpty))) }

/-- The source of an alarm tone (R151), from the CMP bytes of the sweeps of the first two grains whose forward T_s falls after the
declaration, which lies in tick `toneTick`. -/
def Mod.toneSource (m : Mod) (n : Nat) : Mod :=
  let r := m.ring n
  let age := (m.plan.grainCnt - 1 - r.toneGrain).toNat
  let after := decide (age ≠ 0 ∧ age < 2 ^ 31) || (decide (age = 0) && decide (20000 * (r.toneTick + 1) ≤ r.last.tsFwd))
  if r.toneSeek = 0 || !r.last.fwdSent || !after then m else
    match r.last.cmps.find? fun e => e.2.getLsbD 3 with
    | some e => (m.onRing n fun r => { r with toneSeek := 0 }).post 0x200C n bChain (u8 e.1 ++ [e.2])
    | none =>
      let m := m.onRing n fun r => { r with toneSeek := r.toneSeek - 1 }
      if r.toneSeek = 1 then m.post 0x200D n bChain [] else m

/-- The sweep of the grain before is evaluated once in a grain (R143-R145, R151): freshness, stale episodes, rounds, tone
source. A round is due to every monitor where the forward sweep carries temperatures (R139, R142), also beyond a break; one whose reverse sweep
could not carry them (R141) has its reading in a later sweep, which ends the count. -/
def Mod.evalSweep (m : Mod) (n : Nat) : Mod :=
  let r := m.ring n
  if r.evalAt = some m.plan.grainCnt then m else
    let m := m.onRing n fun r => { r with evalAt := some m.plan.grainCnt }
    let fwd := r.last.expFwd
    let m := m.each (m.monsOf n) fun m mc =>
      let due := if mc.compat then decide (m.plan.grainCnt.toNat % 1000 = 0) && (m.mon n mc.addr).roundMissed
        else r.last.tempFwd || (!fwd.contains mc.addr && r.last.tempRev)
      let m := m.each (setBits 16 mc.cellMask.toNat) fun m k => m.judgeCell n mc k
      m.judgeRound n mc due
    let lim := m.staleLimit n
    let worst := (m.gcells n).find? fun g => decide (lim ≤ (m.cell g).staleAge)
    let m := match worst with
      | none => m.onRing n fun r => { r with staleEpisode := false }
      | some g =>
        if (m.ring n).staleEpisode || !m.inService n then m else
          let m := m.onRing n fun r => { r with staleEpisode := true, openReq := some m.plan.grainCnt }
          let m := m.post 0x2008 n bChain (leN 4 g ++ leN 2 (m.cell g).staleAge)
          m.openSeq n cStaleOpen g 0
    m.toneSource n

/- Alarm tone (R150, R152, R153) -/

/-- Row ALARM_TONE_DECLARED (R150). At a locked end it ends the run of grains without tone (R152). An inverted pair carries no signal (R93). The standby of a pair trips its own port (R375), and
sends the tone on (R376). -/
def alarmToneDeclared (n : Nat) (e : RingEnd) (m : Mod) : Mod :=
  let bit := match e with | .A => 1#2 | .B => 2#2
  let r := m.ring n
  if r.inverted e then m else
    let m := m.onRing n fun r => { r with tone := r.tone ||| bit, toneAbsent := if !m.standby && m.lockAt n e then 0 else r.toneAbsent }
    let m := if m.standby then m.forward [] [] [(n, (m.ring n).tone)] else m
    if (m.monsOf n).isEmpty || r.toneTrip then m else
      let m := m.onRing n fun r => { r with toneTrip := true, toneSeek := 2, toneGrain := m.plan.grainCnt, toneTick := m.plan.tick }
      let m := m.post 0x200B n bSafety (u8 (match e with | .A => 0 | .B => 1))
      if m.standby then m.standbySafe n else m.openSeq n cTone noGidx 0

/-- Row ALARM_TONE_ABSENT (R92), which the standby sends on (R376). -/
def alarmToneAbsent (n : Nat) (e : RingEnd) (m : Mod) : Mod :=
  let m := m.onRing n fun r => { r with tone := r.tone &&& (match e with | .A => 2#2 | .B => 1#2) }
  if m.standby then m.forward [] [] [(n, (m.ring n).tone)] else m

/-- The tone-reset command on a string mask (R152): STATE where TONE_TRIP remains. -/
def toneReset (mask : Nat) (m : Mod) : Mod × Nat :=
  let ns := (setBits 32 mask).filter fun n => (m.ring n).toneTrip
  let ok := ns.filter fun n => decide (1000 ≤ (m.ring n).toneAbsent)
  let m' := m.each ok fun m n => ((m.onRing n fun r => { r with toneTrip := false }).dropCause n cTone).releaseTrip n
  (m', if ok.length = ns.length then 0 else 0x8007)

/-- Row TONE_DETECTOR_TEST (R153): every 10 s, in ticks 95-99; `failed` names the ends whose detector did not declare. -/
def toneDetectorTest (n : Nat) (failed : BitVec 2) (m : Mod) : Mod :=
  let r := m.ring n
  let due := match r.toneTestMs with | some t => decide (10000 ≤ m.safety.ms - t) | none => true
  if (m.monsOf n).isEmpty || !due || decide (m.plan.tick < 95) then m else
    let m := (m.onRing n fun r => { r with tonePath := failed, toneTestMs := some m.safety.ms }).out (.toneTest n)
    let new := failed &&& ~~~r.tonePath
    let m := m.each (setBits 2 new.toNat) fun m e => m.post 0x200E n bSafety (u8 e)
    m.evalCauses

/-- The chain-counter clear command (R129). -/
def clrChainCnt (mask : Nat) (m : Mod) : Mod :=
  m.each (setBits 32 mask) fun m n => m.onRing n fun r => { r with crcDiscard := 0, cntMismatch := 0, missing := 0, unexpected := 0 }

/-- The enumerate command (R119). -/
def enumerateCmd (mask : Nat) (m : Mod) : Mod := m.each (setBits 32 mask) fun m n => m.startEnum n false

end Sys2Proof.Machine
end

