-- ==== Sys2Proof/Machine/Check.lean ====
section
/-! DEFINITION. Plan images and their admission (spec file 02_grain_and_espalier_plan.md, R60-R65): the image as bytes, the
checks of Table 2.9 in their order, the plan an image stands for, and the idle plan (R77). -/

namespace Sys2Proof.Machine

/-- A section table entry (R61). -/
structure Section where
  type : Nat := 0
  bed : Nat := 0
  tile : Nat := 0
  off : Nat := 0
  len : Nat := 0
  crc : Nat := 0
deriving DecidableEq, Repr, Inhabited

/- Header fields (Table 2.7) -/

def imgKind (b : List Byte) : Nat := rdN b 6 2
def imgPlanId (b : List Byte) : Nat := rdN b 8 4
def imgLen (b : List Byte) : Nat := rdN b 0x14 4
def imgBed (b : List Byte) : Nat := rdN b 0x22 1
def imgCount (b : List Byte) : Nat := rdN b 0x20 2

/-- The section table. -/
def imgSections (b : List Byte) : List Section :=
  (List.range (imgCount b)).map fun i =>
    let o := 0x40 + 16 * i
    { type := rdN b o 2, bed := rdN b (o + 2) 1, tile := rdN b (o + 3) 1, off := rdN b (o + 4) 4, len := rdN b (o + 8) 4, crc := rdN b (o + 12) 4 }

/-- The bytes of a section. -/
def Section.body (s : Section) (b : List Byte) : List Byte := (b.drop s.off).take s.len

/-- The sections of a type, of one bed. -/
def imgFind (b : List Byte) (type bed : Nat) : List Section := (imgSections b).filter fun s => s.type == type && s.bed == bed

/-- A slot table entry (Table 2.2). -/
def parseSlot (b : List Byte) : Slot :=
  { slotId := rdN b 0 2, bed := rdN b 2 1, tile := rdN b 3 1, startTick := rdN b 4 1, period := rdN b 5 1, startCycle := rdN b 6 2
    reserve := rdN b 8 2, kernel := rdN b 10 2, args := rdN b 12 2, window := rdN b 14 1 }

/-- A DRAM window entry (Table 2.6). -/
def parseWin (bed : Nat) (b : List Byte) : DramWin :=
  { bed := bed, channel := rdN b 0 1, startTick := rdN b 1 1, period := rdN b 2 1, dir := rdN b 3 1, startNs := rdN b 4 2
    lengthNs := rdN b 6 2, base := rdN b 8 4, size := rdN b 12 4 }

/-- Entries of 16 bytes. -/
def entries16 (b : List Byte) : List (List Byte) := (List.range (b.length / 16)).map fun i => (b.drop (16 * i)).take 16

/-- A LIMITS section (Table 2.16). -/
def parseLimits (b : List Byte) : Limits :=
  { ov := rdN b 0 2, uv := rdN b 2 2, tHi := rdI b 4 2, tLo := rdI b 6 2, tDerate := rdI b 8 2, tChgMin := rdI b 10 2
    cmpOv := rdN b 12 2, cmpUv := rdN b 14 2, cmpOt := rdI b 16 2, reserved := rdN b 18 2, ocDis := rdN b 20 4, ocChg := rdN b 24 4 }

/-- One monitor of a CHAIN_LAYOUT: address, cells, cell mask, compatibility mode, thermistor mask. Cells 12-15 of a KX-CM12 are
unpopulated (R6, Table 3.12). -/
def layoutMon (x : Nat × Nat × W16 × Bool × W16) : MonCfg :=
  let (addr, cells, mask, compat, therms) := x
  if compat then { addr := addr, cells := min 12 cells, cellMask := mask &&& 0x0FFF, compat := true, thermMask := therms }
  else { addr := addr, cells := cells, cellMask := mask, thermMask := therms }

/-- A CHAIN_LAYOUT section, as Talox's layout gives it (R631, log 10). -/
def parseLayout (b : List Byte) : ChainLayout :=
  { monitors := (Config.layoutMonitors b).map layoutMon
    sweepDelay := Config.layoutSweepDelay b, window := Config.layoutWindow b, chemId := Config.layoutChem b }

/-- A converter definition. -/
def parseConv (b : List Byte) : Option ConvDef :=
  (Config.convDef b).map fun l =>
    { frameOrigin := l.getD 0 0, phases := l.getD 1 0, iRated := l.getD 2 0, iPhRated := l.getD 3 0, pRated := l.getD 4 0
      vBusMin := l.getD 5 0, vBusMax := l.getD 6 0 }

/-- The chemistry model that the arguments of a bed's slots carry under a CHEM_ID (R180). -/
def chemModel (args : List Byte) (id : Nat) : Chem :=
  let c := Config.chemConst args id
  { chemId := id, ocv := Config.chemOcv args id, tauSlow := Config.chemTauSlow args id, factors := Config.chemFactors args id
    vMean := Config.chemVMean args id
    gamma := c.getD 0 0, mDefault := c.getD 1 0, etaC := c.getD 2 1, capNom := c.getD 3 0, rOhm := c.getD 4 0, rFast := c.getD 5 0
    rSlow := c.getD 6 0, tauFast := c.getD 7 1 }

/-- The bytes of the first section of a type of a bed. -/
def imgBody (img : List Byte) (type bed : Nat) : List Byte :=
  match imgFind img type bed with
  | s :: _ => s.body img
  | [] => []

/-- The bed an image holds. -/
def bedOf (img : List Byte) (b : Nat) : Bed :=
  let tables := imgFind img 1 b
  let layout := parseLayout (imgBody img 7 b)
  { bed := b
    tile := (tables.head?.map (·.tile)).getD 0
    position := Config.tileMapPos (imgBody img 3 b)
    limits := parseLimits (imgBody img 6 b), layout := layout
    stateLayoutId := Config.stateLayoutId (imgBody img 10 b), exchange := Config.exchangeLayout (imgBody img 10 b)
    replicated := Config.replicatedSize (imgBody img 10 b)
    slots := tables.flatMap fun s => (entries16 (s.body img)).map parseSlot
    windows := (entries16 (imgBody img 4 b)).map (parseWin b)
    configId := rdN img 0x18 8
    conv := parseConv (imgBody img 5 b)
    chem := chemModel (imgBody img 2 b) layout.chemId
    args := (imgFind img 2 b).map fun s => (s.tile, s.body img)
    paramBind := imgBody img 5 b, expression := imgBody img 8 b }

/-- The plan an image makes, on the running one for a bed image. -/
def planOf (base : Plan) (img : List Byte) : Plan :=
  if imgKind img = 0 then
    { planId := BitVec.ofNat 32 (imgPlanId img), libVersion := BitVec.ofNat 32 (rdN img 12 4), costVersion := BitVec.ofNat 32 (rdN img 16 4)
      beds := ((List.range 33).filter fun b => !(imgFind img 1 b).isEmpty).map (bedOf img) }
  else
    let b := imgBed img
    { base with beds := (base.beds.filter fun x => decide (x.bed < b)) ++ [bedOf img b] ++ base.beds.filter fun x => decide (b < x.bed) }

/- Cost accounting (R50, R51, R58) -/

/-- A slot or window runs in tick `t` (R45). -/
def runsIn (start period t : Nat) : Bool := decide (period ≠ 0) && decide (t % period = start)

/-- WC + 64 (R50). -/
def Mod.reserveOf (m : Mod) (x : Bed) (s : Slot) : Nat :=
  let k := (m.plan.lib.kernels.find? fun k => k.kid == s.kernel).getD {}
  let blk := ((x.args.find? fun a => a.1 == s.tile).map (·.2)).getD []
  let l := if s.window = 0xFF then 0 else (((x.windows[s.window]?).map (·.size)).getD 0) / 64
  k.base + (k.per.map fun p => p.1 * Config.argElems blk s.args p.2).sum + k.stall * l + 64

/-- Slots of a plan on a tile. -/
def Plan.slotsOn (p : Plan) (tile : Nat) : List Slot := (p.beds.flatMap (·.slots)).filter fun s => s.tile == tile

/-- Reserved cycles of a tile in a tick, snapshot included (R51). -/
def Plan.tileCost (p : Plan) (tile t : Nat) : Nat :=
  (((p.slotsOn tile).filter fun s => runsIn s.startTick s.period t).map (·.reserve)).sum + if t = 0 then 512 else 0

/-- Window time of a channel in a tick, ns (R58). -/
def Plan.winTime (p : Plan) (ch t : Nat) : Nat :=
  (((p.beds.flatMap (·.windows)).filter fun w => w.channel == ch && runsIn w.startTick w.period t).map (·.lengthNs)).sum

/-- Two runs share a tick. -/
def shareTick (s1 p1 s2 p2 : Nat) : Bool := (List.range 100).any fun t => runsIn s1 p1 t && runsIn s2 p2 t

/-- The first two entries of a list, at different places, that stand in a relation. -/
def firstPair {α : Type} (r : α → α → Bool) : List α → Option (α × α)
  | [] => none
  | x :: t => match t.find? (r x) with
    | some y => some (x, y)
    | none => firstPair r t

/-- The bed concerned where two entries collide (R65): their bed, or 0x3F for entries of two beds. -/
def bedOfPair {α : Type} (bed : α → Nat) (p : α × α) : Nat := if bed p.1 = bed p.2 then bed p.1 else 0x3F

/-- The bed concerned where a number of entries is at fault (R65): the one they belong to, or 0x3F. -/
def bedOfAll : List Nat → Nat
  | [] => 0x3F
  | b :: t => if t.all (· == b) then b else 0x3F

/- The checks (Table 2.9) -/

/-- The periods of R45. -/
def periodOk (p : Nat) : Bool := [1, 2, 4, 5, 10, 20, 25, 50, 100].contains p

/-- 0x01 HEADER. -/
def badHeader (img : List Byte) (loaded : Nat) : Bool :=
  decide (img.length < 68) || rdN img 0 4 != 0x4B584550 || rdN img 4 2 != 2 || decide (1 < imgKind img)
    || (if imgKind img = 0 then imgBed img != 0xFF else decide (31 < imgBed img))
    || decide (imgCount img < 1 ∨ 512 < imgCount img) || rdN img 0x3C 4 != (crc32c (img.take 0x3C)).toNat
    || imgLen img != loaded || decide (imgLen img < 0x44 + 16 * imgCount img)

/-- 0x02 IMAGE_CRC. -/
def badImageCrc (img : List Byte) : Bool := rdN img (imgLen img - 4) 4 != (crc32c (img.take (imgLen img - 4))).toNat

/-- 0x03 SECTION_CRC: the bed of the first section that fails by itself, or of two that overlap. -/
def badSections (img : List Byte) : Option Nat :=
  let ss := imgSections img
  match ss.find? fun s => decide (imgLen img - 4 < s.off + s.len) || s.crc != (crc32c (s.body img)).toNat with
  | some s => some s.bed
  | none => (firstPair (fun a b => decide (a.off < b.off + b.len ∧ b.off < a.off + a.len)) ss).map (bedOfPair (·.bed))

/-- How often a section type may appear for a bed, and under which TILE (Table 2.15): `n` is the number found. -/
def sectionCountOk (img : List Byte) (bed type : Nat) : Bool :=
  let ss := imgFind img type bed
  let n := ss.length
  let tables := imgFind img 1 bed
  let common := decide (bed = 32)
  let slots := tables.flatMap fun s => (entries16 (s.body img)).map parseSlot
  let tilesOnce := decide ((ss.map (·.tile)).eraseDups.length = n) && ss.all fun s => decide (s.tile < 4)
  match type with
  | 1 => if common then decide (1 ≤ n) && tilesOnce else n == 1 && tilesOnce
  | 2 | 3 => tilesOnce && (ss.map (·.tile)).all (fun t => tables.any (·.tile == t)) && tables.all fun t => ss.any (·.tile == t.tile)
  | 4 => ss.all (·.tile == 0xFF) && (if slots.any fun s => s.window != 0xFF then n == 1 else n == 0)
  | 5 | 10 => n == 1 && ss.all (·.tile == 0xFF)
  | 6 | 7 => if common then n == 0 else n == 1 && ss.all (·.tile == 0xFF)
  | 8 => decide (n ≤ 1) && ss.all (·.tile == 0xFF)
  | _ => true

/-- The fields of a slot entry are in range (Table 2.2). -/
def Mod.slotFieldsOk (m : Mod) (x : Bed) (b : List Byte) : Bool :=
  let s := parseSlot b
  s.slotId != 0 && s.slotId != 0xFFFF && decide (s.bed ≤ 32) && decide (s.tile ≤ 3) && periodOk s.period && decide (s.startTick < s.period)
    && decide (s.startCycle ≤ 9999) && (m.plan.lib.kernels.any fun k => k.kid == s.kernel)
    && (s.window == 0xFF || decide (s.window < x.windows.length)) && rdN b 15 1 == 0

/-- The fields of a window entry are in range (Table 2.6). -/
def winFieldsOk (w : DramWin) : Bool :=
  decide (w.channel ≤ 1) && periodOk w.period && decide (w.startTick < w.period) && decide (w.dir ≤ 2) && decide (w.startNs ≤ 9999)
    && decide (1 ≤ w.lengthNs ∧ w.lengthNs ≤ 6000) && decide (w.base % 64 = 0) && decide (w.size % 64 = 0)

/-- A slot entry stands in the SLOT_TABLE of another tile than its own (Table 2.15). -/
def tileMismatch (img : List Byte) (b : Nat) : Bool :=
  (imgFind img 1 b).any fun s => (entries16 (s.body img)).any fun e => (parseSlot e).tile != s.tile

/-- 0x07 STRUCTURE: the bed of the first failure; a replicated range has at most 1 MiB (R383). A LIMITS section with a reserved field that is not 0 is refused here: the spec
names no refusal for it, and this one is the model's choice (log 62). -/
def Mod.badStructure (m : Mod) (plan : Plan) (img : List Byte) : Option Nat :=
  let ss := imgSections img
  let full := decide (imgKind img = 0)
  let own := imgBed img
  let costBed := if full then 32 else own
  let beds := if full then (List.range 33).filter fun b => b == 32 || ss.any (fun s => s.bed == b && s.type != 9) else [own]
  match ss.find? fun s => decide (s.type < 1 ∨ 10 < s.type) || s.len == 0 || decide (s.off % 64 ≠ 0) || decide (32 < s.bed)
      || (!full && s.bed != own) || (s.type == 9 && (s.bed != costBed || s.tile != 0xFF))
      || (s.type == 1 && decide (s.len % 16 ≠ 0)) || (s.type == 4 && decide (s.len % 16 ≠ 0)) || (s.type == 6 && s.len != 28)
      || (s.type == 9 && s.len != 1200) with
  | some s => some (if s.bed ≤ 32 then s.bed else 0x3F)
  | none =>
    if (ss.filter (·.type == 9)).length ≠ 1 then some 0x3F else
      match beds.find? fun b =>
          let x := bedOf img b
          !((List.range 11).all (sectionCountOk img b)) || x.windows.any (fun w => !winFieldsOk w)
            || !(((imgFind img 1 b).flatMap fun s => entries16 (s.body img)).all (m.slotFieldsOk x))
            || tileMismatch img b || (full && x.slots.any fun s => s.bed != b) || (decide (b < 32) && x.limits.reserved != 0)
            || decide (0x100000 < x.replicated) with
      | some b => some b
      | none =>
        match firstPair (fun (a b : Slot) => a.slotId == b.slotId) (plan.beds.flatMap (·.slots)) with
        | some p => some (bedOfPair (·.bed) p)
        | none => (List.range 4).findSome? fun t =>
          if 2048 < (plan.slotsOn t).length then some (bedOfAll ((plan.slotsOn t).map (·.bed))) else none

/-- 0x08 PLACEMENT. A position above 7, which R53 does not have and for which Table 2.9 names no refusal, is refused here: the model's choice
(log 68). -/
def badPlacement (plan : Plan) : Option Nat :=
  let str := plan.beds.filter fun x => decide (x.bed < 32)
  match str.find? fun x => x.slots.any fun s => s.tile != x.tile with
  | some x => some x.bed
  | none => match str.find? fun x => decide (7 < x.position) with
  | some x => some x.bed
  | none =>
    if (List.range 4).any fun t =>
        let on := str.filter fun x => x.tile == t
        decide (8 < on.length) || decide (((on.map (·.position)).eraseDups).length ≠ on.length)
    then some 0x3F else none

/-- 0x09 SLOT_OVERLAP. -/
def badOverlap (plan : Plan) : Option Nat :=
  let all := plan.beds.flatMap (·.slots)
  match all.find? fun s => decide (10000 < s.startCycle + s.reserve) || (s.startTick == 0 && decide (s.startCycle < 512)) with
  | some s => some s.bed
  | none =>
    (List.range 4).findSome? fun t => (firstPair (fun (a b : Slot) => shareTick a.startTick a.period b.startTick b.period
        && decide (a.startCycle < b.startCycle + b.reserve ∧ b.startCycle < a.startCycle + a.reserve)) (plan.slotsOn t)).map (bedOfPair (·.bed))

/-- 0x0A TILE_BOUNDS. -/
def badTileBounds (img : List Byte) (beds : List Bed) : Option Nat :=
  (beds.find? fun x => (imgFind img 3 x.bed).any (fun s => !Config.tileMapOk (s.body img))
    || x.slots.any fun s => decide ((if x.bed = 32 then 0x60000 else 0x20000) ≤ 64 * s.args)).map (·.bed)

/-- A window lies within the areas R56 allows its bed. -/
def winInArea (w : DramWin) : Bool :=
  let fin := w.base + w.size
  if w.bed < 32 then decide (w.bed * 0x1000000 ≤ w.base ∧ fin ≤ (w.bed + 1) * 0x1000000)
  else decide (0x20000000 ≤ w.base ∧ fin ≤ 0x30000000) || decide (0x30000000 ≤ w.base ∧ fin ≤ 0x34000000)
    || (List.range 32).any fun n => decide (n * 0x1000000 ≤ w.base ∧ fin ≤ n * 0x1000000 + 0x10000)

/-- 0x0B DRAM_BOUNDS: for a bed image, also an exchange block other than the running plan's. -/
def badDram (base : Option Plan) (beds : List Bed) : Option Nat :=
  (beds.find? fun x => x.windows.any (fun w => !winInArea w) ||
    (match base with
     | some p => (p.beds.find? fun y => y.bed == x.bed).any fun y => y.exchange != x.exchange
     | none => false)).map (·.bed)

/-- 0x0C WINDOW. -/
def Mod.badWindow (m : Mod) (plan : Plan) (beds : List Bed) : Option Nat :=
  match beds.find? fun x => x.slots.any (fun s => s.window == 0xFF && (m.plan.lib.kernels.find? fun k => k.kid == s.kernel).any (·.needsDram))
      || x.windows.any fun w => decide (w.lengthNs * 20 < w.size) || decide (10000 < w.startNs + w.lengthNs) with
  | some x => some x.bed
  | none =>
    (firstPair (fun (a b : DramWin) => a.channel == b.channel && shareTick a.startTick a.period b.startTick b.period
        && decide (a.startNs < b.startNs + b.lengthNs ∧ b.startNs < a.startNs + a.lengthNs)) (plan.beds.flatMap (·.windows))).map (bedOfPair (·.bed))

/-- 0x0D COST_MISMATCH. A COST_SUMMARY at fault concerns the plan as a whole, and names no bed: the model's choice (log 73). -/
def Mod.badCost (m : Mod) (plan : Plan) (img : List Byte) (beds : List Bed) : Option Nat :=
  match beds.find? fun x => x.slots.any fun s => s.reserve != m.reserveOf x s with
  | some x => some x.bed
  | none =>
    let c := imgBody img 9 (if imgKind img = 0 then 32 else imgBed img)
    if (List.range 4).all (fun t => (List.range 100).all fun k => rdN c (2 * (100 * t + k)) 2 == plan.tileCost t k)
        && (List.range 2).all fun h => (List.range 100).all fun k => rdN c (0x320 + 2 * (100 * h + k)) 2 == plan.winTime h k
    then none else some 0x3F

/-- The role of a kernel of the installed library. -/
def Mod.kernelRole (m : Mod) (k : Nat) : Role := ((m.plan.lib.kernels.find? fun x => x.kid == k).map (·.role)).getD .other

/-- A bed has a slot of a role. -/
def Mod.hasRole (m : Mod) (x : Bed) (r : Role) : Bool := x.slots.any fun s => m.kernelRole s.kernel == r

/-- The sweep beside a converter (R132): WINDOW a multiple of 8, and T_s within 50 ns of the start of a carrier period of Kn, which
begins at (O_n + 4.80 us) mod 20 us. In 0.5 ns. -/
def sweepAligned (d : ConvDef) (l : ChainLayout) : Bool :=
  let off := (l.sweepDelay * 25 + 34400 + 40000 - 2 * (d.frameOrigin + 4800) % 40000) % 40000
  decide (l.window % 8 = 0) && (decide (off ≤ 100) || decide (39900 ≤ off))

/-- The chain transactions of a ring, as its layout declares them, end before the quiet window in grains of every class (R94, R131,
R137); a ring in compatibility mode carries no sweep. -/
def sweepFits (l : ChainLayout) : Bool :=
  let n := l.monitors.length
  let s := l.sweepDelay * 25
  let after := s + sweepLen l.window n false + 8000
  l.monitors.isEmpty || l.monitors.any (·.compat) || (windowOk l.window && fitsQuiet s (sweepLen l.window n true)
    && fitsQuiet after diagSlotLen && fitsQuiet after cmdSlot)

/-- 0x10 PIPELINE: the mandatory slots, the sweep window of R132 beside a converter, and the room of R94 and R137 for a ring's
transactions. -/
def Mod.badPipeline (m : Mod) (plan : Plan) (img : List Byte) (beds : List Bed) : Option Nat :=
  match beds.find? fun x => decide (x.bed < 32) && (!m.hasRole x .sweep || !m.hasRole x .protection || !sweepFits x.layout
      || x.conv.any fun d => !x.layout.monitors.isEmpty && !sweepAligned d x.layout) with
  | some x => some x.bed
  | none =>
    if !(plan.beds.any fun x => x.bed == 32 && m.hasRole x .digest && m.hasRole x .publication && m.hasRole x .diagnostic) then some 32
    else (Config.pipelineMiss img).map fun b => if imgKind img ≠ 0 then imgBed img else if b ≤ 32 then b else 0x3F

/-- 0x12 DUTY_TIMING (R226): the phase-loop slot in the window of Table 6.1, in every even tick. -/
def Mod.badDuty (m : Mod) (beds : List Bed) : Option Nat :=
  (beds.find? fun x => match x.conv with
    | none => false
    | some d => decide (d.frameOrigin % 40 ≠ 0) || decide (9960 < d.frameOrigin) || decide (d.frameOrigin < 1800)
        || (x.slots.filter fun s => m.kernelRole s.kernel == .phaseLoop).any fun s =>
          s.period != 2 || s.startTick != 0 || decide (s.startCycle < d.frameOrigin - 1800) || decide (d.frameOrigin - 200 < s.startCycle + s.reserve)).map (·.bed)

/-- The limits lie in the ranges of Table 8.1 and within the safety configuration (R296). -/
def Mod.limitsOk (m : Mod) (l : Limits) (iRated : Option Nat) : Bool :=
  let top := match iRated with | some i => i * 3 / 2 | none => 0xFFFFFFFF
  decide (20000 ≤ l.ov ∧ l.ov ≤ 50000) && decide (5000 ≤ l.uv ∧ l.uv + 5000 ≤ l.ov) && decide (3000 ≤ l.tHi ∧ l.tHi ≤ 9000)
    && decide (-4000 ≤ l.tLo ∧ l.tLo ≤ l.tHi - 2000) && decide (l.tLo + 1000 ≤ l.tDerate ∧ l.tDerate ≤ l.tHi - 500)
    && decide (l.tLo ≤ l.tChgMin ∧ l.tChgMin ≤ l.tDerate) && decide (l.ov ≤ l.cmpOv ∧ l.cmpOv ≤ l.ov + 2000 ∧ l.cmpOv ≤ 50000)
    && decide (l.uv ≤ l.cmpUv + 2000 ∧ l.cmpUv ≤ l.uv ∧ 5000 ≤ l.cmpUv ∧ l.cmpUv + 5000 ≤ l.cmpOv)
    && decide (l.tHi ≤ l.cmpOt ∧ l.cmpOt ≤ l.tHi + 500 ∧ l.cmpOt ≤ 9500) && decide (1000 ≤ l.ocDis ∧ l.ocDis ≤ top)
    && decide (1000 ≤ l.ocChg ∧ l.ocChg ≤ top) && decide ((l.ov : Int) ≤ m.par 0x80B0) && decide (m.par 0x80B1 ≤ (l.uv : Int))
    && decide (l.tHi ≤ m.par 0x80B2) && decide (m.par 0x80B3 ≤ l.tLo)

/-- The first check of Table 2.9 that fails, with the bed concerned; `base` is the running full plan. -/
def Mod.checkImage (m : Mod) (base : Option Plan) (img : List Byte) (loaded : Nat) : Option (Nat × Nat) :=
  if badHeader img loaded then some (1, 0x3F)
  else if badImageCrc img then some (2, 0x3F)
  else match badSections img with
  | some b => some (3, if b ≤ 32 then b else 0x3F)
  | none =>
    if rdN img 12 4 != m.plan.lib.libVersion.toNat then some (4, 0x3F)
    else if rdN img 16 4 != m.plan.lib.costVersion.toNat then some (5, 0x3F)
    else if imgKind img = 1 && !(base.any fun p => p.planId.toNat == imgPlanId img) then some (6, imgBed img)
    else
      let full := decide (imgKind img = 0)
      let b0 := if full then none else base
      let plan := planOf (base.getD {}) img
      let beds := if full then plan.beds else plan.beds.filter fun x => x.bed == imgBed img
      let lims := beds.filter fun x => decide (x.bed < 32)
      let steps : List (Nat × Option Nat) :=
        [(7, m.badStructure plan img), (8, badPlacement plan), (9, badOverlap plan), (0xA, badTileBounds img beds), (0xB, badDram b0 beds),
         (0xC, m.badWindow plan beds), (0xD, m.badCost plan img beds),
         (0xE, if (List.range 4).any fun t => (List.range 100).any fun k => decide (9000 < plan.tileCost t k) then some 0x3F else none),
         (0xF, if (List.range 2).any fun c => (List.range 100).any fun k => decide (6000 < plan.winTime c k) then some 0x3F else none),
         (0x10, m.badPipeline plan img beds), (0x11, (Config.protectionMiss img).map fun b => if !full then imgBed img else if b < 32 then b else 0x3F), (0x12, m.badDuty beds),
         (0x13, (beds.find? fun x => !x.expression.isEmpty && !Config.expressionOk x.expression).map (·.bed)),
         (0x14, (lims.find? fun x => !m.limitsOk x.limits (x.conv.map (·.iRated))).map (·.bed)),
         (0x15, if full then none else (beds.find? fun x => x.slots.any fun s => s.bed != x.bed).map (·.bed))]
      (steps.find? fun s => s.2.isSome).map fun s => (s.1, s.2.getD 0x3F)

/- The idle plan (R77) -/

/-- The slots built into the fabric: sweep 0, protection 1, digest 2, publication 3, diagnostic 4. Their SLOT_ID, kernel, tile, START_TICK,
START_CYCLE and RESERVE are the model's choice (log 12): the spec gives none. -/
def builtinSlot (bed k : Nat) : Slot :=
  { slotId := 0x4000 + 8 * bed + k, bed := bed, tile := if bed < 32 then bed / 8 else 0, startTick := 1 + k, period := 100
    startCycle := 1000 * (bed % 8), reserve := 1000, kernel := 0xFF00 + k }

/-- The built-in slots of a bed. -/
def builtinSlots (bed : Nat) : List Slot := if bed < 32 then [builtinSlot bed 0, builtinSlot bed 1] else [builtinSlot 32 2, builtinSlot 32 3, builtinSlot 32 4]

/-- The sections of a bed's layout and limits in the stored images: the newest that hold them, with good section CRCs and
passing the LIMITS check. -/
def Mod.idleBed (m : Mod) (b : Nat) : Option Bed :=
  let good (img : List Byte) (t : Nat) : Bool := match imgFind img t b with
    | [s] => s.crc == (crc32c (s.body img)).toNat
    | _ => false
  match (m.plan.storedImages.reverse).find? fun img => !(imgFind img 1 b).isEmpty with
  | none => none
  | some img =>
    let x := bedOf img b
    if good img 6 && good img 7 && m.limitsOk x.limits (x.conv.map (·.iRated)) then
      some { bed := b, tile := b / 8, position := b % 8, limits := x.limits, layout := x.layout, slots := builtinSlots b }
    else none

/-- The idle plan of the stored configuration. -/
def Mod.idlePlan (m : Mod) : Plan :=
  { beds := (List.range 32).filterMap m.idleBed ++ [{ bed := 32, slots := builtinSlots 32 }] }

/- Slot tables (R52) -/

/-- Every tile's slot table is loaded anew into bank 0, and bank 0 is in force (R52, R68, R69). -/
def PlanSt.loadTables (p : PlanSt) : PlanSt :=
  { p with tables := (List.range 4).foldl (fun t k => tput t (2 * k) (p.running.slotsOn k)) [], bank := 0 }

/-- The place of a tile's table in force among the banks, and of the other one (R52). -/
def PlanSt.tableAt (p : PlanSt) (tile : Nat) : Nat := 2 * tile + b2n (p.bank.getLsbD tile)
def PlanSt.spareAt (p : PlanSt) (tile : Nat) : Nat := 2 * tile + b2n (!p.bank.getLsbD tile)

/-- The tiles of a bed, as it runs and as a candidate has it. -/
def PlanSt.bedTiles (p : PlanSt) (c : Candidate) : List Nat :=
  ((p.running.beds ++ c.plan.beds).filter fun x => x.bed == c.bed).map (·.tile)

/-- The loader writes the inactive bank of the bed's tile: the new bed's entries, all others unchanged (Table 2.10). -/
def PlanSt.prepare (p : PlanSt) (c : Candidate) : PlanSt :=
  let new := planOf p.running c.image
  if c.kind = 0 then p else { p with tables := (p.bedTiles c).foldl (fun t k => tput t (p.spareAt k) (new.slotsOn k)) p.tables }

/-- A prepared bank is abandoned, and none is switched (R63). -/
def PlanSt.abandon (p : PlanSt) : PlanSt := { p with tables := (List.range 4).foldl (fun t k => tput t (p.spareAt k) []) p.tables }

/-- A new running plan has been loaded while an activation is scheduled: its bank is prepared anew (Table 2.10). -/
def PlanSt.reprepare (p : PlanSt) : PlanSt :=
  match p.scheduled, p.staged with
  | some _, some c => p.prepare c
  | _, _ => p

/-- The tiles of the bed switch banks (Table 2.10). -/
def PlanSt.switchBanks (p : PlanSt) (c : Candidate) : PlanSt :=
  { p with bank := p.bank ^^^ BitVec.ofNat 4 (maskOf ((List.range 4).filter (p.bedTiles c).contains)) }

end Sys2Proof.Machine
end

