-- ==== Sys2Proof/Machine/Est.lean ====
section
/-! DEFINITION. Cell state estimation (spec file 05_cell_state_estimation.md): the estimator step, anchors, impedance
intervals, availability, checkpoints and restores. -/

namespace Sys2Proof.Machine

/- Currents and temperatures (R133, R179, R186-R188) -/

/-- Sampling instant T_s of the sweep of the grain before, in 0.5 ns from its boundary (R131, R133): where none was sent, the one it
would have had (R181). -/
def Mod.sweepTs (m : Mod) (n : Nat) (rev : Bool) : Nat :=
  let l := (m.ring n).last
  if rev then l.tsRev else if l.fwdSent then l.tsFwd else (m.layout n).sweepDelay * 25 + 34400

/-- The string current paired with a sweep of the grain before, A: the mean of the valid samples of its window, while the channel was
available in that grain (R133, R502, R507); on a compatibility ring the mean of the grain. -/
def Mod.pairCur (m : Mod) (n : Nat) (rev : Bool) : Option Rat :=
  let a := m.strAdc n
  if !a.available then none
  else if m.compat n then some ((a.iMean : Rat) / 1000)
  else
    let t0 := m.sweepTs n rev
    let t1 := t0 + 5000 * (m.layout n).window
    let l := a.winPrev.filter fun s => decide (t0 ≤ 2 * s.1 ∧ 2 * s.1 < t1)
    if l.isEmpty then none else some (rsum (l.map fun s => (s.2 : Rat)) / l.length / 1000)

/-- The mean sum of Kn's phase currents over the frames of the grain before, A (R187). -/
def Mod.phaseCur (m : Mod) (n : Nat) : Option Rat := (m.link n).iGrain.map fun i => i / 1000

/-- i_s and whether it is the substitute of R187. -/
def Mod.strCur (m : Mod) (n : Nat) (rev : Bool) : Option (Rat × Bool) :=
  match m.pairCur n rev with
  | some i => some (i, false)
  | none => (m.phaseCur n).map fun i => (i, true)

/-- i_b of a cell, A (R179): its bleed current while its commanded timer runs; a monitor at its die limit holds it (R110). -/
def Mod.bleedI (m : Mod) (n g : Nat) : Rat :=
  if (m.cell g).balLeft = 0 || (m.mon n (g % 640 / 16)).dieLimit then 0 else m.bleedV g * m.bleedF n

/-- The readings of a monitor's fresh thermistors, C, each once (R186). -/
def Mod.freshT (m : Mod) (n : Nat) (mc : MonCfg) : List Rat :=
  let cs := ((setBits 16 (mc.cellMask &&& mc.thermMask).toNat).map (gcell n mc.addr)).filter fun c => (m.cell c).tRead && !(m.cell c).tStale
  (firstOfKey (cs.map fun c => (thermKey mc.compat c, ((m.cell c).t : Rat) / 100))).map (·.2)

/-- A cell's temperature is substituted (R186). -/
def Mod.tempSub (m : Mod) (mc : MonCfg) (k g : Nat) : Bool :=
  ((m.cell g).tStale && decide (1000 ≤ (m.cellEst g).tStaleGrains)) || (!mc.compat && !mc.thermMask.getLsbD k)

/-- The temperature the model uses, C (R186). -/
def Mod.cellTemp (m : Mod) (n : Nat) (mc : MonCfg) (k g : Nat) : Rat :=
  let own : Rat := ((m.cell g).t : Rat) / 100
  if m.tempSub mc k g then
    let mon := m.freshT n mc
    if !mon.isEmpty then medianR mon
    else
      let str := (m.monsOf n).flatMap (m.freshT n)
      if str.isEmpty then own else medianR str
  else own

/- The cell model and the filters (R177, R178, R181) -/

/-- A value held in its range of Table 5.1, both as binary32, and whether it was clamped. -/
def keep (lo hi x : Rat) : Rat × Nat := (clampR (f32 lo) (f32 hi) (f32 x), b2n (decide (f32 x < f32 lo ∨ f32 hi < f32 x)))

/-- `k` more clamps are counted (R178, R217). -/
def CellEst.clamped (e : CellEst) (k : Nat) : CellEst := { e with clamps := stopAt 65535 (e.clamps + k) }

/-- The bias bound grows, held in its range (R178, R181). -/
def CellEst.addB (e : CellEst) (x : Rat) : CellEst :=
  let k := keep 0 1 (e.b + x)
  { e with b := k.1 }.clamped k.2

/-- TAU_FAST takes a value, held in its range (R178). -/
def CellEst.setTau (e : CellEst) (x : Rat) : CellEst :=
  let k := keep (1 / 20) 5 x
  { e with tauFast := k.1 }.clamped k.2

/-- CAP_CONVERGED follows the capacity's variance (R197). -/
def CellEst.capJudge (e : CellEst) : CellEst :=
  { e with capConverged := decide (4 * e.pvar.getD 3 0 ≤ e.cap * e.cap * 4 / 10000) }

/-- An estimate with new states and parameters, each held in its range, and the clamps counted (R178). -/
def CellEst.hold (e : CellEst) (z vf vs h ro rf rs mm cap : Rat) : CellEst :=
  let a := keep (-1 / 10) (11 / 10) z
  let b := keep (-1) 1 vf
  let c := keep (-1) 1 vs
  let d := keep (-1) 1 h
  let o := keep (1 / 100000) (1 / 10) ro
  let p := keep 0 (1 / 10) rf
  let q := keep 0 (1 / 10) rs
  let u := keep 0 (1 / 10) mm
  let w := keep 10 2000 cap
  { e with z := a.1, vFast := b.1, vSlow := c.1, h := d.1, rOhm := o.1, rFast := p.1, rSlow := q.1, m := u.1, cap := w.1 }.clamped
    (a.2 + b.2 + c.2 + d.2 + o.2 + p.2 + q.2 + u.2 + w.2)

/-- exp(-dt / tau). -/
def decay (dt tau : Rat) : Rat := Config.exp (rdiv (-dt) tau)

/-- The sign of a current; sgn(0) is 0 (R177). -/
def rsgn (i : Rat) : Rat := if i < 0 then -1 else if 0 < i then 1 else 0

/-- The index of entry (i, j) of a symmetric 4 x 4 in the order of Table 5.8. -/
def covIx (i j : Nat) : Nat :=
  let a := min i j
  let b := max i j
  (match a with | 0 => 0 | 1 => 4 | 2 => 7 | _ => 9) + (b - a)

def CellEst.p (e : CellEst) (i j : Nat) : Rat := e.cov.getD (covIx i j) 0

/-- A covariance from its entries. -/
def mkCov (f : Nat → Nat → Rat) : List Rat :=
  ([(0, 0), (0, 1), (0, 2), (0, 3), (1, 1), (1, 2), (1, 3), (2, 2), (2, 3), (3, 3)] : List (Nat × Nat)).map fun x => f32 (f x.1 x.2)

/-- eta(i) (R177). -/
def Chem.eta (c : Chem) (i : Rat) : Rat := if i < 0 then c.etaC else 1

/-- The predicted voltage y (R177, R181). -/
def CellEst.predict (e : CellEst) (c : Chem) (t iS : Rat) : Rat :=
  c.ocvAt e.z t + e.m * e.h - e.rOhm * c.kR t * iS - e.vFast - e.vSlow

/-- The time update of one cell: the model, the covariance, the random walks and the bias bound (R177, R181, R187, R197). -/
def Mod.timeUpdate (m : Mod) (c : Chem) (t dt iS i : Rat) (sub : Bool) (e : CellEst) : CellEst :=
  let af := decay dt (e.tauFast * c.kTau t)
  let as := decay dt (c.tauS t)
  let eh := Config.exp (-(rdiv (c.gamma * rabs i * dt) (3600 * e.cap)))
  let f : List Rat := [1, af, as, eh]
  let qz : Rat := (m.par 0x4053 : Rat) / 65536
  let qv : Rat := (m.par 0x4054 : Rat) / 1000000
  let qh : Rat := (m.par 0x4055 : Rat) / 65536
  let q : List Rat := [qz * qz * dt / 3600, qv * qv * dt, qv * qv * dt, qh * qh * dt]
  let walk (id : Nat) (v x : Rat) : Rat := let s : Rat := (m.par id : Rat) / 1000000 * v; f32 (x + s * s * dt / 3600)
  let e1 := e.hold (e.z - rdiv (c.eta i * i * dt) (3600 * e.cap)) (af * e.vFast + e.rFast * c.kR t * (1 - af) * i)
    (as * e.vSlow + e.rSlow * c.kR t * (1 - as) * i) (eh * e.h - (1 - eh) * rsgn i) e.rOhm e.rFast e.rSlow e.m e.cap
  let grow : Rat := ((m.par 0x4051 : Rat) / 1000 + (m.par 0x4052 : Rat) / 1000000 * rabs iS + (if sub then rabs i / 100 else 0)) * dt
  let e2 : CellEst := { e1 with
    cov := mkCov fun a b => f.getD a 0 * f.getD b 0 * e.p a b + (if a = b then q.getD a 0 else 0)
    pvar := [walk 0x4056 e.rOhm (e.pvar.getD 0 0), walk 0x4056 e.rFast (e.pvar.getD 1 0), walk 0x4056 e.rSlow (e.pvar.getD 2 0),
      walk 0x4058 e.cap (e.pvar.getD 3 0), walk 0x4057 e.m (e.pvar.getD 4 0)]
    anchorQ := f32 (e.anchorQ + i * dt / 3600) }
  (e2.addB (rdiv grow (3600 * e.cap))).capJudge

/-- H: the derivative of y by the states. -/
def CellEst.hVec (e : CellEst) (c : Chem) (t : Rat) : List Rat := [c.slope e.z t, -1, -1, e.m]

/-- P H'. -/
def CellEst.ph (e : CellEst) (h : List Rat) (i : Nat) : Rat := rsum ((List.range 4).map fun j => e.p i j * h.getD j 0)

/-- H P H'. -/
def CellEst.hph (e : CellEst) (h : List Rat) : Rat := rsum ((List.range 4).map fun i => h.getD i 0 * e.ph h i)

/-- The state update with gain P H' / s and innovation v (R181, R183). -/
def CellEst.stateUpdate (e : CellEst) (h : List Rat) (s v : Rat) : CellEst :=
  let k (i : Nat) : Rat := rdiv (e.ph h i) s
  let e1 := e.hold (e.z + k 0 * v) (e.vFast + k 1 * v) (e.vSlow + k 2 * v) (e.h + k 3 * v) e.rOhm e.rFast e.rSlow e.m e.cap
  { e1 with cov := mkCov fun a b => e.p a b - k a * e.ph h b }

/-- The parameter update: the same innovation, Jacobian by R_OHM, R_FAST, R_SLOW and M, the parameters uncorrelated
(R178, R181; log 23). -/
def CellEst.paramUpdate (e : CellEst) (c : Chem) (t dt iS i s v : Rat) : CellEst :=
  let af := decay dt (e.tauFast * c.kTau t)
  let as := decay dt (c.tauS t)
  let j : List Rat := [-(c.kR t * iS), -(c.kR t * (1 - af) * i), -(c.kR t * (1 - as) * i), e.h]
  let pv : List Rat := [e.pvar.getD 0 0, e.pvar.getD 1 0, e.pvar.getD 2 0, e.pvar.getD 4 0]
  let sp := s + rsum ((List.range 4).map fun x => j.getD x 0 * j.getD x 0 * pv.getD x 0)
  let k (x : Nat) : Rat := rdiv (pv.getD x 0 * j.getD x 0) sp
  let w (x : Nat) : Rat := f32 ((1 - k x * j.getD x 0) * pv.getD x 0)
  let e1 := e.hold e.z e.vFast e.vSlow e.h (e.rOhm + k 0 * v) (e.rFast + k 1 * v) (e.rSlow + k 2 * v) (e.m + k 3 * v) e.cap
  { e1 with pvar := [w 0, w 1, w 2, e.pvar.getD 3 0, w 3] }

/-- EST_R_V, V. -/
def Mod.rV (m : Mod) : Rat := (m.par 0x4050 : Rat) / 10000

/- One string's step (R181-R188, R204, R210) -/

/-- The cell has a reading of the sweep evaluated in this grain. -/
def Cell.newReading (c : Cell) : Bool := c.fresh && c.staleAge == 0

/-- What a cell's step runs from: the current of the string, of the cell and of the ohmic term, the time from the last step, and whether
the cell belongs to a sum group. -/
structure StepIn where
  n : Nat := 0
  mc : MonCfg := {}
  k : Nat := 0
  g : Nat := 0
  t : Rat := 0
  dt : Rat := 0
  iS : Rat := 0
  i : Rat := 0
  iOhm : Rat := 0
  sub : Bool := false
  grp : Bool := false
deriving Repr, Inhabited

/-- Grains from the estimator's last run to this one: 1 in normal running (R181). -/
def Mod.stepGrains (m : Mod) (n : Nat) : Nat :=
  match (m.strEst n).ranAt with
  | some g => (m.plan.grainCnt - g).toNat
  | none => 1

/-- Every configured cell of a string, with the temperature of its model. -/
def Mod.cellIns (m : Mod) (n : Nat) : List StepIn :=
  (m.monsOf n).flatMap fun mc =>
    let groups := (m.monGroups n mc).filter fun x => decide (2 ≤ x.length)
    (setBits 16 mc.cellMask.toNat).map fun k =>
      { n := n, mc := mc, k := k, g := gcell n mc.addr k, t := m.cellTemp n mc k (gcell n mc.addr k), grp := groups.any fun x => x.contains k }

/-- The mean of i_s over the 16 ms that end at tick `t` of the newest grain of `h` (R188): the part of that grain before the tick, 15 whole
grains, and the rest of the one before them; over as many as there are. A grain without samples counts with its i_s. -/
def mean16 (t : Nat) (h : List (Rat × List (Nat × Int))) : Rat :=
  let part (e : Rat × List (Nat × Int)) (lo hi : Nat) : Rat :=
    let l := e.2.filter fun s => decide (lo ≤ s.1 ∧ s.1 < hi)
    if l.isEmpty then e.1 else rsum (l.map fun s => (s.2 : Rat)) / l.length / 1000
  let w : List (Rat × Rat) := (h.take 17).zipIdx.map fun e =>
    if e.2 = 0 then ((t : Rat), part e.1 0 (10000 * t)) else if e.2 < 16 then (100, e.1.1) else (100 - (t : Rat), part e.1 (10000 * t) 1000000)
  let s := rsum (w.map (·.1))
  if s = 0 then ((h.head?.map (·.1)).getD 0) else rsum (w.map fun x => x.1 * x.2) / s

/-- i_s of the grain that is evaluated and the samples it is the mean of: none where it is the substitute. -/
def Mod.isNow (m : Mod) (n : Nat) (f : Rat × Bool) : Rat × List (Nat × Int) := (f.1, if f.2 then [] else (m.strAdc n).winPrev)

/-- The inputs of every cell of a string, none where neither current is available (R187). A reading of a compatibility ring pairs with
the mean current of the 16 ms that end with its arrival (R188). -/
def Mod.stepIns (m : Mod) (n : Nat) : Option (List StepIn) :=
  match m.strCur n false with
  | none => none
  | some f =>
    let r := (m.strCur n true).getD f
    let hist := m.isNow n f :: (m.strEst n).iHist
    some ((m.cellIns n).map fun b =>
      let c := m.cell b.g
      let rev := c.newReading && c.vRev
      let x := if rev then r else f
      let ts := m.sweepTs n rev
      { b with
        dt := (m.stepGrains n : Rat) / 1000 + if m.compat n then 0 else (((ts : Int) - (m.cellEst b.g).tsOff : Int) : Rat) / 2000000000
        iS := x.1, i := x.1 + m.bleedI n b.g
        iOhm := if m.compat n && c.newReading then mean16 (m.mon n b.mc.addr).readTick hist else x.1, sub := x.2 })

/-- The condition of a cell's reading (Table 5.2): the first row that applies. -/
inductive ReadCond where
  | resetPending | stale | unauth | group | deviation | fresh
deriving DecidableEq, Repr, Inhabited

def Mod.readCond (m : Mod) (x : StepIn) : ReadCond :=
  let e := m.cellEst x.g
  let c := m.cell x.g
  if e.resetPending || !e.init then .resetPending
  else if !c.fresh then .stale
  else if (m.mon x.n x.mc.addr).unauth then .unauth
  else if x.grp then .group
  else if c.deviation then .deviation
  else .fresh

/-- The conditions under which Table 5.2 has a measurement update. -/
def ReadCond.measured : ReadCond → Bool
  | .resetPending | .stale | .unauth => false
  | .group | .deviation | .fresh => true

/-- What a step says of a cell's condition: how long it has been temperature-stale, whether its temperature is substituted (R186), and the flags of
Table 5.2. -/
def Mod.condStep (m : Mod) (x : StepIn) (e : CellEst) : CellEst :=
  let rc := m.readCond x
  { e with
    tempSubst := m.tempSub x.mc x.k x.g
    tStaleGrains := if (m.cell x.g).tStale then stopAt 1000 (e.tStaleGrains + m.stepGrains x.n) else 0
    suspended := rc == .unauth, group := rc == .group, deviationHold := rc == .deviation }

/-- A fresh reading of a cell that the step does not apply is not gated: the readings gated in succession end with it (R185). -/
def Mod.notGated (m : Mod) (x : StepIn) : Mod :=
  if (m.cell x.g).newReading then m.onCellEst x.g fun e => { e with gated := false, gatedRun := 0 } else m

/-- The deviation of a cell's reading from its predicted voltage, where the step gave one (R154, R184). -/
def Mod.deviate (m : Mod) (g : Nat) : Mod :=
  let cl := m.cell g
  match (m.cellEst g).y with
  | some y => if cl.newReading then m.onCell g fun c => { c with dev := some ((c.v : Rat) - y * 10000) } else m
  | none => if cl.dev = none then m else m.onCell g fun c => { c with dev := none }

/-- The time update of one cell, its prediction and the flags of its condition; a cell in RESET_PENDING has neither update nor
prediction (Table 5.2, R184). -/
def Mod.cellTime (m : Mod) (x : StepIn) : Mod :=
  let c := m.chemOf x.n
  let cl := m.cell x.g
  let rc := m.readCond x
  let m := m.onCellEst x.g fun e =>
    let e : CellEst := { m.condStep x e with tsOff := m.sweepTs x.n (cl.newReading && cl.vRev) }
    if rc = .resetPending then { e with y := none }
    else
      let e := m.timeUpdate c x.t x.dt x.iS x.i x.sub e
      { e with y := some (f32 (e.predict c x.t x.iOhm)) }
  m.deviate x.g

/-- A cell in a grain without a current (R187): no update and no prediction. -/
def Mod.cellIdle (m : Mod) (x : StepIn) : Mod :=
  ((m.onCellEst x.g fun e => { m.condStep x e with y := none }).deviate x.g).notGated x

/-- A rest anchor is due at a rest time: seconds for the k-th (R193). -/
def Mod.restDue (m : Mod) (k : Nat) : Nat :=
  if k = 0 then m.parN 0x4064 else m.parN 0x4065 + 600 * (k - 1)

/-- A rest anchor of string `n` is due, or was taken in this grain: no ordinary measurement update (R193). An impedance anchor leaves the update of
its grain: the rule stands beside rest anchors alone (DESIGN CHOICE, log 73). -/
def Mod.anchorNow (m : Mod) (n : Nat) : Bool :=
  decide ((m.strEst n).anchorGrain = some m.plan.grainCnt) || decide (1000 * m.restDue (m.strEst n).restAnchors ≤ (m.strEst n).restGrains)

/-- The measurement update of the cells of one group with common innovation (R181-R183): one cell, or a sum group. On a compatibility
ring the model's step for the measurement is 1,000 grains (R188). -/
def Mod.measure (m : Mod) (xs : List StepIn) : Mod :=
  match xs with
  | [] => m
  | x0 :: _ =>
    if m.anchorNow x0.n || !(xs.all fun x => (m.readCond x).measured && (m.cell x.g).newReading && (m.cellEst x.g).y.isSome) then m.each xs Mod.notGated
    else
      let c := m.chemOf x0.n
      let cm := m.compat x0.n
      let v := rsum (xs.map fun x => ((m.cell x.g).v : Rat) / 10000 - ((m.cellEst x.g).y).getD 0)
      let s := rsum (xs.map fun x => (m.cellEst x.g).hph ((m.cellEst x.g).hVec c x.t) + m.rV * m.rV)
      let gate : Rat := (m.par 0x4059 : Rat)
      let pass := decide (v * v ≤ gate * gate * s) || xs.any fun x => (m.cellEst x.g).ungatedNext
      let run := if cm then 10 else 1000
      m.each xs fun m x =>
        let rc := m.readCond x
        if pass then
          m.onCellEst x.g fun e =>
            let e1 := e.stateUpdate (e.hVec c x.t) s v
            let e2 := if rc = .fresh then e1.paramUpdate c x.t (if cm then 1 else x.dt) x.iOhm (x.iOhm + (x.i - x.iS)) s v else e1
            { e2 with gated := false, gatedRun := 0, ungatedNext := false }
        else
          let m := m.onCellEst x.g fun e => { e with gated := true, gatedRun := e.gatedRun + 1 }
          if run ≤ (m.cellEst x.g).gatedRun then m.reacquire x.n x.g 0 else m

/-- The medians of a string's initialised cells: r, R_OHM, R_FAST, R_SLOW, M, TAU_FAST, cap; none where it has none. -/
def Mod.medians (m : Mod) (n : Nat) : Option (List Rat) :=
  let es := ((m.gcells n).map m.cellEst).filter (·.init)
  if es.isEmpty then none
  else some [medianR (es.map (·.zr)), medianR (es.map (·.rOhm)), medianR (es.map (·.rFast)), medianR (es.map (·.rSlow)),
    medianR (es.map (·.m)), medianR (es.map (·.tauFast)), medianR (es.map (·.cap))]

/-- A cell in RESET_PENDING is initialised from its first fresh reading (R210). Away from rest in a string without
initialised cells the spec gives no z: a free value (log 24). -/
def Mod.cellInit (m : Mod) (md : Option (List Rat)) (x : StepIn) : Mod :=
  let e := m.cellEst x.g
  if !e.resetPending || !(m.cell x.g).newReading || (m.mon x.n x.mc.addr).unauth then m else
    let c := m.chemOf x.n
    let d := md.getD [0, c.rOhm, c.rFast, c.rSlow, c.mDefault, c.tauFast, c.capNom]
    let v (k : Nat) : Rat := d.getD k 0
    let rest := decide (1000 * m.parN 0x4064 ≤ (m.strEst x.n).restGrains)
    let z := if rest then c.ocvInv (((m.cell x.g).v : Rat) / 10000) x.t else v 0
    let z := if !rest && md.isNone then ((Config.freeSoc x.g m.plan.grainCnt.toNat).toNat : Rat) / 65536 else z
    let uI : Rat := (m.par 0x405A : Rat) / 65536
    let sl := c.slope z x.t
    let s2 : Rat := (1 / 1000000 + v 4 * v 4 * 577 * 577 / 1000000) / (sl * sl)
    let u := if rest && decide (sl ≠ 0) then min uI (2 * rsqrt s2) else uI
    let ci : Rat := (m.par 0x405C : Rat) / 1000000
    m.onCellEst x.g fun e =>
      let e := (e.hold z 0 0 0 (v 1) (v 2) (v 3) (v 4) (v 6)).setTau (v 5)
      { e with
        cov := initCov u, b := 0, anchorAge := 0, anchorMs := m.host.ms
        pvar := [f32 (e.rOhm * e.rOhm / 25), f32 (e.rFast * e.rFast / 25), f32 (e.rSlow * e.rSlow / 25),
          f32 (ci * ci * e.cap * e.cap), f32 (e.m * e.m / 25)]
        capConverged := decide (2 * ci ≤ 2 / 100), init := true, resetPending := false
        zr := if e.rFromZ then e.z else e.zr, rFromZ := false, chemId := c.chemId }

/-- The reported value of one grain (R204), with a 32-bit fraction. -/
def Mod.reportStep (m : Mod) (x : StepIn) : Mod :=
  let c := m.chemOf x.n
  let rate : Rat := (m.par 0x4060 : Rat) / 65536 * x.dt / 60
  m.onCellEst x.g fun e =>
    if e.resetPending || !e.init then e else
      let r := e.zr - rdiv (c.eta x.i * x.i * x.dt) (3600 * e.cap)
      let r := r + clampR (-rate) rate (e.z - r)
      { e with zr := (rfloor (r * 4294967296) : Rat) / 4294967296 }

/-- The interval that a reading of string `n` evaluated now belongs to, and whether injection ran throughout it: the first estimator
run of an interval takes the last reading of the one before (R181, R202). -/
def Mod.eisOf (m : Mod) (n : Nat) : Option (W32 × Bool) :=
  let s := m.strEst n
  match s.eisEnd, m.est.interval with
  | some g0, _ => some (g0, s.eisEndWhole)
  | none, some g0 => if m.plan.grainCnt = g0 then none else some (g0, s.eisWhole)
  | none, none => none

/-- The sums of the impedance interval take one reading (R202). -/
def Mod.eisTake (m : Mod) (x : StepIn) : Mod :=
  match m.eisOf x.n with
  | none => m
  | some (g0, whole) =>
    if !whole then m
    else if !(m.cell x.g).newReading || x.grp then
      if (m.cellEst x.g).eisClean then m.onCellEst x.g fun e => { e with eisClean := false } else m
    else
      let t : Rat := (((m.plan.grainCnt - g0).toNat - 1 : Nat) : Rat) / 1000 + ((m.cellEst x.g).tsOff : Rat) / 2000000000
      let v : Rat := ((m.cell x.g).v : Rat) / 10000
      let w (j : Nat) : Rat := twoPi * (10 ^ j : Nat) / 10 * t
      let add (j : Nat) (o : List Rat) : List Rat :=
        let c := Config.cos (w j)
        let s := Config.sin (w j)
        [v * c, v * s, x.iS * c, x.iS * s, c, s, t * c, t * s].zipWith (· + ·) (padTo 8 0 ((o.drop (8 * j)).take 8))
      m.onCellEst x.g fun e => { e with
        eisSum := (List.range 4).flatMap fun j => add j e.eisSum
        eisLine := ([1, t, t * t, v, v * t, x.iS, x.iS * t, e.m * e.h, 0, 0] : List Rat).zipWith (· + ·) (padTo 10 0 e.eisLine) }

/-- A reading of `v` in second `sec` of a rest (R193): the readings of the last 11 seconds are kept. -/
def CellEst.restTake (e : CellEst) (sec v : Nat) : CellEst :=
  match e.restV with
  | (k, s, c) :: t => { e with restV := if k = sec then (k, s + v, c + 1) :: t else ((sec, v, 1) :: e.restV).take 11 }
  | [] => { e with restV := [(sec, v, 1)] }

/-- The mean reading of the last 10 s of a rest that has lasted `grains`, V, none without one (R193). -/
def CellEst.restMean (e : CellEst) (grains : Nat) : Option Rat :=
  let l := e.restV.filter fun x => decide ((grains - 1) / 1000 ≤ x.1 + 9)
  let c := (l.map (·.2.2)).sum
  if c = 0 then none else some ((((l.map (·.2.1)).sum : Nat) : Rat) / c / 10000)

/-- Rest time, the readings of the rest, and the largest currents (R187, R188, R192, R193, R211); `d` grains have passed since the last run. -/
def Mod.restStep (m : Mod) (n d : Nat) (i : Rat × List (Nat × Int)) : Mod :=
  let ma := (rnear (rabs i.1 * 1000)).toNat
  let rest := decide (rabs i.1 * 1000 < (m.par 0x4063 : Rat))
  let sec := (m.strEst n).restGrains / 1000
  let g := m.plan.grainCnt
  let m := m.each (m.gcells n) fun m c =>
    if !rest then (if (m.cellEst c).restV.isEmpty then m else m.onCellEst c fun e => { e with restV := [] })
    else if !(m.cell c).newReading then m
    else m.onCellEst c fun e => e.restTake sec (m.cell c).v
  let cm := m.compat n
  m.onStrEst n fun s => { s with
    restGrains := if rest then s.restGrains + d else 0, restAnchors := if rest then s.restAnchors else 0
    iMax := max s.iMax ma
    iMax60 := (g, ma) :: (s.iMax60.dropWhile fun e => decide (e.2 ≤ ma)).filter fun e => decide ((g - e.1).toNat < 60000)
    iHist := if cm then i :: s.iHist.take 15 else [] }

/-- ANOMALY's clock (R185) starts again at a reading at or above SW_DEV. -/
def Mod.anomalyStep (m : Mod) (g : Nat) : Mod :=
  if (m.cellEst g).anomaly && (m.cell g).newReading && (m.cell g).dev.any (fun d => decide ((m.par 0x2140 : Rat) ≤ rabs d)) then
    m.onCellEst g fun e => { e with anomalyAge := 0, anomalyMs := m.host.ms }
  else m

/-- The largest u among a string's initialised cells. -/
def Mod.maxUnc (m : Mod) (n : Nat) : Rat :=
  (((m.gcells n).map m.cellEst).filter (·.init)).foldl (fun a e => max a (m.uncE e)) 0

/-- The nearest SoC range in which the slope is at least EST_OCV_SLOPE_MIN (R205): segments of 0.01, nearest to a SoC. -/
def Chem.target (c : Chem) (slopeMin t z : Rat) : Nat × Nat :=
  let ok (k : Nat) : Bool := decide (slopeMin ≤ (c.row t (k + 1) - c.row t k) * 100)
  let segs := (List.range 100).filter ok
  let dist (k : Nat) : Rat := let a : Rat := (k : Rat) / 100; let b : Rat := ((k : Rat) + 1) / 100
    if z < a then a - z else if b < z then z - b else 0
  match segs with
  | [] => (0, 0)
  | k0 :: _ =>
    let k := segs.foldl (fun b x => if dist x < dist b then x else b) k0
    let lo := k - ((List.range k).reverse.takeWhile ok).length
    let hi := k + 1 + (((List.range 100).drop (k + 1)).takeWhile ok).length
    ((rnear ((lo : Rat) / 100 * 65536)).toNat, (rnear ((hi : Rat) / 100 * 65536)).toNat)

/-- The mean r of a string. -/
def Mod.meanR (m : Mod) (n : Nat) : Rat :=
  let l := (m.gcells n).map fun g => (m.cellEst g).zr
  if l.isEmpty then 0 else rsum l / l.length

/-- EST_OCV_SLOPE_MIN as V per unit of SoC. -/
def Mod.slopeMin (m : Mod) : Rat := (m.par 0x4068 : Rat) / 10000

/-- The rest-window request of a string is raised or withdrawn (R205). The target is the range nearest to the string's mean r, at the median of its
fresh thermistors: the rule says neither (DESIGN CHOICE, log 73). -/
def Mod.restRequest (m : Mod) (n : Nat) : Mod :=
  let u := m.maxUnc n
  let q : Rat := (m.par 0x4069 : Rat) / 65536
  let s := m.strEst n
  if !s.restReq && decide (q ≤ u) then
    let t := medianR ((m.monsOf n).flatMap (m.freshT n))
    let (lo, hi) := (m.chemOf n).target m.slopeMin t (m.meanR n)
    m.onStrEst n fun s => { s with
      restReq := true, restReqGrain := m.plan.grainCnt, restReqMs := m.host.ms, restReqAge := 0, restDenied := false, restRefused := false, restGranted := false, restLo := lo, restHi := hi }
  else if s.restReq && decide (u < q * 8 / 10) then m.onStrEst n fun s => { s with restReq := false }
  else m

/-- Milliseconds for which the rest-window request of a string has stood (R292). -/
def Mod.restStood (m : Mod) (n : Nat) : Nat := (m.strEst n).restReqAge + (m.host.ms - (m.strEst n).restReqMs)

/- Power availability (R206) -/

/-- v_end of one cell for a current: at z0 with resistance r and the states of its estimate. -/
def availV (c : Chem) (e : CellEst) (t z0 r h i : Rat) : Rat :=
  c.ocvAt (z0 - rdiv (i * h) (3600 * e.cap)) t + e.m * e.h - i * r - e.vFast * decay h (e.tauFast * c.kTau t) - e.vSlow * decay h (c.tauS t)

/-- The terms of one cell: z bound, r_h. -/
def availR (c : Chem) (e : CellEst) (t h : Rat) : Rat :=
  let sd (k : Nat) : Rat := 2 * rsqrt (e.pvar.getD k 0)
  (e.rOhm + sd 0) * c.kR t + (e.rFast + sd 1) * c.kR t * (1 - decay h (e.tauFast * c.kTau t))
    + (e.rSlow + sd 2) * c.kR t * (1 - decay h (c.tauS t))

/-- The current one cell allows over a horizon: discharge positive, charge negative (R206). -/
def Mod.availI (m : Mod) (n : Nat) (c : Chem) (dis : Bool) (e : CellEst) (t z u h : Rat) : Rat :=
  let z0 := if dis then z - u else z + u
  let mg : Rat := (m.par 0x406D : Rat) / 10000
  let vLim : Rat := if dis then ((m.limits n).uv : Rat) / 10000 + mg else ((m.limits n).ov : Rat) / 10000 - mg
  let iq : Rat := if dis then rdiv (max 0 (z0 - (m.par 0x406B : Rat) / 65536) * e.cap * 3600) h
    else -(rdiv (max 0 ((m.par 0x406C : Rat) / 65536 - z0) * e.cap * 3600) h)
  let r := availR c e t h
  let newton (i : Rat) : Rat :=
    let d := -(c.slope (z0 - rdiv (i * h) (3600 * e.cap)) t * rdiv h (3600 * e.cap)) - r
    i - rdiv (availV c e t z0 r h i - vLim) d
  let iv := newton (newton iq)
  if dis then max 0 (min iq iv) else min 0 (max iq iv)

/-- One string's availability over one horizon and direction, W, without its fraction: the model's choice (log 73). -/
def Mod.availP (m : Mod) (n : Nat) (dis : Bool) (h : Rat) : Int :=
  let c := m.chemOf n
  let cs := (m.monsOf n).flatMap fun mc => (setBits 16 mc.cellMask.toNat).map fun k =>
    let g := gcell n mc.addr k
    (m.cellEst g, m.cellTemp n mc k g, m.socOf g, m.uncOf g)
  let is := cs.map fun x => m.availI n c dis x.1 x.2.1 x.2.2.1 x.2.2.2 h
  match is with
  | [] => 0
  | i0 :: rest =>
    let i := rest.foldl (fun a b => if dis then min a b else max a b) i0
    let v := rsum (cs.map fun x => availV c x.1 x.2.1 (if dis then x.2.2.1 - x.2.2.2 else x.2.2.1 + x.2.2.2)
      (availR c x.1 x.2.1 h) h i)
    rtrunc (i * v)

/-- E_DIS and E_CHG of a string, mWh, without their fractions: the model's choice (log 73). -/
def Mod.availE (m : Mod) (n : Nat) (dis : Bool) : Int :=
  let c := m.chemOf n
  let fl : Rat := (m.par 0x406B : Rat) / 65536
  let ce : Rat := (m.par 0x406C : Rat) / 65536
  let l := (m.gcells n).map fun g =>
    let z := m.socOf g
    let u := m.uncOf g
    let d := if dis then z - u - fl else ce - z - u
    (d * m.capOf g, if dis then (fl, z - u) else (z + u, ce))
  match l with
  | [] => 0
  | x0 :: rest =>
    let x := rest.foldl (fun a b => if b.1 < a.1 then b else a) x0
    if x.1 ≤ 0 then 0 else
      let e := (l.length : Rat) * x.1 * c.meanV x.2.1 x.2.2 * 1000
      rtrunc (if dis then e else -e)

/-- Availability of a string in its grain of each 100 (R206). -/
def Mod.availability (m : Mod) (n : Nat) : Mod :=
  if m.plan.grainCnt.toNat % 100 ≠ (n + 50) % 100 then m else
    m.onStrEst n fun s => { s with
      eDis := m.availE n true, eChg := m.availE n false
      pDis10 := m.availP n true 10, pDis60 := m.availP n true 60, pDis900 := m.availP n true 900
      pChg10 := m.availP n false 10, pChg60 := m.availP n false 60, pChg900 := m.availP n false 900 }

/- Anchors (R191, R193-R197) -/

/-- A capacity measurement enters the parameter filter (R197). -/
def CellEst.capUpdate (e : CellEst) (obs var : Rat) : CellEst :=
  let pv := e.pvar.getD 3 0
  let k := if pv = 0 then 0 else rdiv pv (pv + var)
  let e1 := e.hold e.z e.vFast e.vSlow e.h e.rOhm e.rFast e.rSlow e.m (e.cap + k * (obs - e.cap))
  { e1 with pvar := setNth 5 e.pvar 3 (f32 ((1 - k) * pv)) }

/-- A cell takes no anchor while it has no state, its updates are suspended (R122), or its reading is STALE: its SoC then continues from the count
(Table 5.2). -/
def Mod.anchorBarred (m : Mod) (g : Nat) : Bool :=
  let e := m.cellEst g
  !e.init || e.resetPending || e.suspended || !(m.cell g).fresh

/-- An anchor of OCV `ocv` applies to a cell (R195): its slope suffices, and nothing bars it. -/
def Mod.anchorApplies (m : Mod) (n g : Nat) (t ocv : Rat) : Bool :=
  let c := m.chemOf n
  !m.anchorBarred g && decide (m.slopeMin ≤ c.slope (c.ocvInv ocv t) t)

/-- An anchor with OCV `ocv` and standard deviation `sigma` in V (R191, R195-R197). The capacity, a
parameter, is held where Table 5.2 holds the parameter updates (log 57). -/
def Mod.anchor (m : Mod) (n g : Nat) (t ocv sigma : Rat) : Mod :=
  let c := m.chemOf n
  let e := m.cellEst g
  let zm := c.ocvInv ocv t
  let sl := c.slope zm t
  if m.anchorBarred g then m
  else if !m.anchorApplies n g t ocv then m.onCellEst g fun e => { e with anchorRejected := e.anchorRejected + 1 }
  else
    let var : Rat := rdiv (sigma * sigma + e.m * e.m * e.p 3 3) (sl * sl)
    let um := 2 * rsqrt var
    let d := zm - (e.anchorZ - rdiv e.anchorQ e.cap)
    let lim : Rat := (m.par 0x4061 : Rat) / 65536
    let bad := e.anchored && decide (lim < rabs d) && decide (e.anchorU + um < rabs d)
    let folded : CellEst := { e with cov := setNth 10 e.cov 0 (f32 (e.pzz + e.b * e.b / 4)), b := 0 }
    let e1 := folded.stateUpdate [1, 0, 0, 0] (folded.pzz + var) (zm - folded.z)
    let u1 := m.uncE e1
    let dz := e.anchorZ - e1.z
    let minDz : Rat := (m.par 0x4062 : Rat) / 65536
    let ci : Rat := (m.par 0x405C : Rat) / 1000000 * e1.cap
    let e2 := if bad then { e1 with pvar := setNth 5 e1.pvar 3 (max (e1.pvar.getD 3 0) (f32 (ci * ci))) } else e1
    let e3 := if e.anchored && decide (minDz ≤ rabs dz) && !e.group && !e.deviationHold then
        let obs := rdiv e.anchorQ dz
        let q := rdiv obs dz
        e2.capUpdate obs (q * q * (e.anchorU * e.anchorU / 4 + u1 * u1 / 4))
      else e2
    let m := m.onCellEst g fun _ => { e3.capJudge with
      anchored := true, anchorZ := e3.z, anchorQ := 0, anchorU := f32 u1, anchorAge := 0, anchorMs := m.host.ms
      ccDisagree := if bad then true else if e.anchored && decide (rabs d < lim / 2) then false else e.ccDisagree }
    if bad then m.post 0x4004 n bFabric (leN 4 g ++ leI 4 (rnear (d * 65536))) else m

/-- Row REST_ANCHOR (R193): rest has reached EST_REST_MIN, EST_REST_T or a further 600 s. One anchor stands for all the points that an outage
has passed (R192): the rule does not say whether each is taken (DESIGN CHOICE, log 69). A rest window of the string ends at its first rest
anchor that is applied (R291); the row REST_WINDOW_END closes it. -/
def restAnchor (n : Nat) (m : Mod) : Mod :=
  let s := m.strEst n
  if !m.configured n || s.restGrains = 0 || decide (s.restGrains < 1000 * m.restDue s.restAnchors) then m else
    let secs := s.restGrains / 1000
    let long := decide (m.parN 0x4065 ≤ secs)
    let sigma : Rat := (if long then 1 else 2) * (m.par 0x4066 : Rat) / 10000
    let taken := ((List.range (secs / 600 + 3)).filter fun k => decide (m.restDue k ≤ secs)).length
    let m := m.onStrEst n fun s => { s with restAnchors := max (s.restAnchors + 1) taken, anchorGrain := some m.plan.grainCnt }
    m.each (m.cellIns n) fun m x =>
      let e := m.cellEst x.g
      match e.restMean s.restGrains with
      | none => m
      | some v =>
        let ocv := v + e.vFast + e.vSlow - e.m * e.h
        let applied := m.anchorApplies n x.g x.t ocv
        let m := m.anchor n x.g x.t ocv sigma
        if applied then m.onStrEst n fun s => { s with anchorApplied := some m.plan.grainCnt } else m

/- Impedance intervals (R199-R203) -/

/-- A_nj before scaling, A (R200). -/
def Mod.eisAmp (m : Mod) (n j : Nat) : Rat :=
  (m.par (0x4040 + j) : Rat) / 10000 * ((((m.convDef? n).map (·.iRated)).getD 0 : Nat) : Rat) / 1000

/-- The first inhibit condition of Table 5.3 but code 7, with the amplitudes that would be injected. -/
def Mod.eisCode (m : Mod) (n : Nat) (amps : List Rat) : Nat :=
  let k := m.link n
  if m.par (0x4000 + n) = 0 then 1
  else if (decide (k.st ≠ .run) && decide (k.st ≠ .burst)) || m.stopped n || m.inFallow n then 2
  else if k.st = .burst then 3
  else if (if 0 ≤ k.iSref then k.iLimDis else k.iLimChg) < rabs k.iSref + rsum amps then 4
  else if (m.strDisp n).rest then 5
  else if m.compat n then 6
  else 0

/-- Code 7 of Table 5.3. -/
def Mod.eisBarred (m : Mod) (s : Nat) : Bool := decide (s = 0) || decide (m.par 0x4044 = 0)

/-- The square of |sum over strings of A V e^(i n pi / 16)| at a frequency, W. -/
def Mod.eisBus2 (m : Mod) (ns : List Nat) (j : Nat) : Rat :=
  let term (n : Nat) : Rat := m.eisAmp n j * ((m.link n).vStr : Rat) / 1000
  let re := rsum (ns.map fun n => term n * cos16 n)
  let im := rsum (ns.map fun n => term n * sin16 n)
  re * re + im * im

/-- s times 256: the largest multiple of 1/256 that keeps every frequency within EIS_BUS_BUDGET (R200). -/
def Mod.eisScale (m : Mod) (ns : List Nat) : Nat :=
  let b : Rat := (m.par 0x4044 : Rat)
  let ok (k : Nat) : Bool := (List.range 4).all fun j => decide (((k * k : Nat) : Rat) * m.eisBus2 ns j ≤ b * b * 65536)
  ((List.range 257).reverse.find? ok).getD 0

/-- A_nj of the four frequencies under a scale of `s` / 256, A (R200). -/
def Mod.eisAmps (m : Mod) (n s : Nat) : List Rat := (List.range 4).map fun j => f32 (m.eisAmp n j * s / 256)

/-- The strings that inject and their scale: those whose scaled amplitudes would pass their current limit (code 4) drop out, and the
scale is formed again for the others, until all that are left pass (log 57). -/
def Mod.eisSettle (m : Mod) : Nat → List Nat → List Nat × Nat
  | 0, ns => (ns, m.eisScale ns)
  | k + 1, ns =>
    let s := m.eisScale ns
    let l := ns.filter fun n => m.eisCode n (m.eisAmps n s) == 0
    if l.length = ns.length then (ns, s) else Mod.eisSettle m k l

/-- The sums of a string's cells start empty, with the polarisation voltages of this moment (R194, R202). -/
def Mod.eisClear (m : Mod) (n : Nat) : Mod :=
  let run := (m.strEst n).eisWhole
  let m := m.onStrEst n fun s => { s with eisEnd := none, eisEndAmp := [], eisEndWhole := false, eisI := [] }
  m.each (m.gcells n) fun m g => m.onCellEst g fun e => { e with
    eisSum := [], eisLine := if run then [0, 0, 0, 0, 0, 0, 0, 0, e.vFast, e.vSlow] else [], eisClean := run }

/-- A condition of Table 5.3 arises in the interval: injection stops at the next string-loop run (R201). -/
def Mod.eisCheck (m : Mod) (n : Nat) : Mod :=
  let s := m.strEst n
  if !s.eisRun then m else
    let c := m.eisCode n s.eisAmp
    let c := if c = 0 && m.eisBarred m.est.scale then 7 else c
    if c = 0 then m else m.onStrEst n fun s => { s with eisRun := false, eisWhole := false, eisInhibit := c, eisAmp := [] }

/-- The perturbation of Kn's current reference at a string-loop run, A (R199). -/
def Mod.eisPerturb (m : Mod) (n : Nat) : Rat :=
  let s := m.strEst n
  match s.eisRun, m.est.interval with
  | true, some g0 =>
    let t : Rat := ((m.plan.grainCnt - g0).toNat : Rat) / 1000 + (m.plan.tick : Rat) / 100000
    rsum ((List.range 4).map fun j =>
      s.eisAmp.getD j 0 * Config.sin (twoPi * (10 ^ j : Nat) / 10 * t + (n : Rat) * twoPi / 32))
  | _, _ => 0

/-- The determinant and solution of three linear equations. -/
def solve3 (a : List Rat) (b : List Rat) : List Rat :=
  let x (i : Nat) : Rat := a.getD i 0
  let det (c : Nat → Rat) : Rat := c 0 * (c 4 * c 8 - c 5 * c 7) - c 1 * (c 3 * c 8 - c 5 * c 6) + c 2 * (c 3 * c 7 - c 4 * c 6)
  let col (k i : Nat) : Rat := if i % 3 = k then b.getD (i / 3) 0 else x i
  (List.range 3).map fun k => rdiv (det (col k)) (det x)

/-- The fit of R203: R_OHM, R_FAST, R_SLOW by linear least squares for the given time constants, and the residual. -/
def eisFit (zs : List Rat) (tf ts : Rat) : List Rat × Rat :=
  let w (j : Nat) : Rat := twoPi * (10 ^ j : Nat) / 10
  let base (j : Nat) : List (List Rat) :=
    let a (t : Rat) : Rat × Rat := let d := 1 + w j * w j * t * t; (1 / d, -(w j * t) / d)
    [[1, (a tf).1, (a ts).1], [0, (a tf).2, (a ts).2]]
  let rows := (List.range 4).flatMap base
  let at_ (i k : Nat) : Rat := (rows.getD i []).getD k 0
  let mat := (List.range 9).map fun q => rsum ((List.range 8).map fun i => at_ i (q / 3) * at_ i (q % 3))
  let rhs := (List.range 3).map fun k => rsum ((List.range 8).map fun i => at_ i k * zs.getD i 0)
  let r := solve3 mat rhs
  let res := rsum ((List.range 8).map fun i =>
    let d := zs.getD i 0 - (at_ i 0 * r.getD 0 0 + at_ i 1 * r.getD 1 0 + at_ i 2 * r.getD 2 0); d * d)
  (r, res)

/-- A cell's impedances after an interval, real and imaginary parts of the four, and |I| at each: straight lines removed
(R202). The impedance is taken with current positive for charge (log 23). -/
def CellEst.eisZ (e : CellEst) : List Rat × List Rat :=
  let l (i : Nat) : Rat := e.eisLine.getD i 0
  let n := l 0
  let det := n * l 2 - l 1 * l 1
  let line (sx sxt : Rat) : Rat × Rat := (rdiv (l 2 * sx - l 1 * sxt) det, rdiv (n * sxt - l 1 * sx) det)
  let (va, vb) := line (l 3) (l 4)
  let (ia, ib) := line (l 5) (l 6)
  let per (j : Nat) : List Rat × Rat :=
    let s (k : Nat) : Rat := e.eisSum.getD (8 * j + k) 0
    let vc := s 0 - va * s 4 - vb * s 6
    let vs := s 1 - va * s 5 - vb * s 7
    let ic := s 2 - ia * s 4 - ib * s 6
    let is := s 3 - ia * s 5 - ib * s 7
    let d := ic * ic + is * is
    ([rdiv (-(vc * ic + vs * is)) d, rdiv (vs * ic - vc * is) d], 2 * rdiv (rsqrt d) n)
  ((List.range 4).flatMap fun j => (per j).1, (List.range 4).map fun j => (per j).2)

/-- |Z_j| of an interval's result, ohm. -/
def zAbs (zs : List Rat) (j : Nat) : Rat := rsqrt (zs.getD (2 * j) 0 * zs.getD (2 * j) 0 + zs.getD (2 * j + 1) 0 * zs.getD (2 * j + 1) 0)

/-- The interval means of the polarisation voltages recomputed from the measured currents (R194). -/
def polMean (v0 r a : Rat) (is : List Rat) : Rat :=
  let f := is.foldl (fun (x : Rat × Rat) i => let v := a * x.1 + r * (1 - a) * i; (v, x.2 + v)) (v0, 0)
  rdiv f.2 (is.length : Rat)

/-- A resistance from the fit enters the parameter filter (R203). -/
def resUpdate (x var fit res : Rat) : Rat × Rat :=
  let k := if var = 0 then 0 else rdiv var (var + res)
  (x + k * (fit - x), f32 ((1 - k) * var))

/-- The release of one cell's valid result: fit, parameters unless they are held (Table 5.2), impedance anchor (R194, R203). EIS_GRAIN names the
interval by its first grain: the model's choice (log 73). -/
def Mod.eisCell (m : Mod) (n : Nat) (mc : MonCfg) (k : Nat) (g0 : W32) (zs : List Rat) : Mod :=
  let g := gcell n mc.addr k
  let c := m.chemOf n
  let t := m.cellTemp n mc k g
  let e := m.cellEst g
  let tau := keep (1 / 20) 5 (rdiv (Config.fitTau zs (c.tauS t)) (c.kTau t))
  let tf := tau.1 * c.kTau t
  let (r, res) := eisFit zs tf (c.tauS t)
  let r (i : Nat) : Rat := r.getD i 0
  let is := (m.strEst n).eisI.reverse
  let l (i : Nat) : Rat := e.eisLine.getD i 0
  let ocv := rdiv (l 3) (l 0) + r 0 * rdiv (l 5) (l 0) + polMean (l 8) (r 1) (decay (1 / 1000) tf) is
    + polMean (l 9) (r 2) (decay (1 / 1000) (c.tauS t)) is - rdiv (l 7) (l 0)
  let upd (x v f : Rat) : Rat × Rat := resUpdate x v (rdiv f (c.kR t)) res
  let a := upd e.rOhm (e.pvar.getD 0 0) (r 0)
  let b := upd e.rFast (e.pvar.getD 1 0) (r 1)
  let d := upd e.rSlow (e.pvar.getD 2 0) (r 2)
  let m := m.onCellEst g fun e =>
    let e1 := if e.suspended || e.deviationHold then e else
      (({ e.hold e.z e.vFast e.vSlow e.h a.1 b.1 d.1 e.m e.cap with pvar := [a.2, b.2, d.2, e.pvar.getD 3 0, e.pvar.getD 4 0] }).clamped
        tau.2).setTau (9 / 10 * e.tauFast + tau.1 / 10)
    { e1 with
      zMag := (List.range 4).map fun j => (rnear (zAbs zs j * 1000000000)).toNat
      zPhase := (List.range 4).map fun j => rnear (Config.atan2 (zs.getD (2 * j + 1) 0) (zs.getD (2 * j) 0) * 36000 / twoPi)
      eisGrain := g0 }
  m.anchor n g t ocv ((m.par 0x4067 : Rat) / 10000)

/-- The results of one string's interval that began at `g0` (R202, R203): a result needs injection throughout and each of the 10,000
readings. -/
def Mod.eisResults (m : Mod) (n : Nat) (g0 : W32) : Mod :=
  let s := m.strEst n
  let cells := (m.monsOf n).flatMap fun mc => (setBits 16 mc.cellMask.toNat).map fun k => (mc, k)
  let zOf (g : Nat) : Option (List Rat) :=
    let e := m.cellEst g
    if !s.eisEndWhole || !e.eisClean || !e.init || decide (e.eisLine.getD 0 0 ≠ 10000) then none else
      let (zs, is) := e.eisZ
      let ok := (List.range 4).all fun j => decide (s.eisEndAmp.getD j 0 / 2 ≤ is.getD j 0) && decide (1 / 100000 ≤ zAbs zs j) && decide (zAbs zs j ≤ 1)
      if ok then some zs else none
  let res := cells.map fun x => (x, zOf (gcell n x.1.addr x.2))
  let ref := m.parN 0x4045
  let good := res.filterMap fun x => x.2.map fun zs => zAbs zs ref
  let med := medianR good
  let m := m.each res fun m x =>
    let g := gcell n x.1.1.addr x.1.2
    let m := m.onCellEst g fun e => { e with eisValid := x.2.isSome }
    match x.2 with
    | none => m.onCellEst g fun e => { e with impRun := 0, impLowRun := 0 }
    | some zs =>
      let z := zAbs zs ref
      let m := m.eisCell n x.1.1 x.1.2 g0 zs
      let e := m.cellEst g
      let hi := if 3 / 2 * med < z then e.impRun + 1 else 0
      let lo := if z < 13 / 10 * med then e.impLowRun + 1 else 0
      let flag := decide (3 ≤ hi) || (e.impHigh && decide (lo < 3))
      let m := m.onCellEst g fun e => { e with impRun := stopAt 3 hi, impLowRun := stopAt 3 lo, impHigh := flag }
      if flag && !e.impHigh then m.post 0x4005 n bFabric (leN 4 g ++ leN 4 (rnear (z * 1000000000)).toNat) else m
  if good.isEmpty then m else m.onStrEst n fun s => { s with eisLast := g0 }

/-- The interval that awaits its release is released, its last reading taken, and the sums of the new one start (R202). -/
def Mod.eisRelease (m : Mod) (n : Nat) : Mod :=
  match (m.strEst n).eisEnd with
  | some g0 => (m.eisResults n g0).eisClear n
  | none => m

/-- A new interval begins: scale, inhibits and amplitudes (R200-R202); `prev` is the interval that ends with it. Its release follows with
the last of its readings, in this grain. A discarded interval breaks the succession that IMP_HIGH counts (R203). -/
def Mod.eisBegin (m : Mod) (prev : Option W32) : Mod :=
  let (inj, s) := m.eisSettle 32 (m.confStrings.filter fun n => m.eisCode n [] == 0)
  let m := m.onEst fun e => { e with scale := s, limited := decide (s < 256), interval := some m.plan.grainCnt }
  m.each m.confStrings fun m n =>
    let c := if inj.contains n then 0 else match m.eisCode n (m.eisAmps n s) with | 0 => 4 | c => c
    let c := if c = 0 && m.eisBarred s then 7 else c
    let run := decide (c = 0)
    let m := m.onStrEst n fun x => { x with
      eisEnd := prev, eisEndAmp := x.eisAmp, eisEndWhole := x.eisWhole
      eisRun := run, eisWhole := run, eisInhibit := c, eisAmp := if run then m.eisAmps n s else [] }
    if prev.isNone then (m.eisClear n).each (m.gcells n) fun m g => m.onCellEst g fun e => { e with impRun := 0, impLowRun := 0 }
    else if (m.strEst n).ranAt = some m.plan.grainCnt then m.eisRelease n
    else m

/-- Row IMPEDANCE_INTERVAL_END (R202): at a grain count that is a multiple of 10,000 the interval ends and the next begins;
an interval that holds the wrap of the counter is discarded. -/
def impedanceIntervalEnd (m : Mod) : Mod :=
  let g := m.plan.grainCnt
  if g.toNat % 10000 ≠ 0 || m.est.interval = some g then m
  else m.eisBegin (m.est.interval.filter fun g0 => decide ((g - g0).toNat = 10000))

/-- The estimator of a string takes the readings of the grain before (R181): the steps of every cell, none without a current (R187). Grains
without either current neither count as rest nor end one: the rule compares a current (DESIGN CHOICE, log 69). -/
def Mod.estStep (m : Mod) (n : Nat) : Mod :=
  let md := m.medians n
  match m.stepIns n with
  | none =>
    let xs := m.cellIns n
    let m := m.each xs Mod.cellIdle
    let m := m.onStrEst n fun s => { s with curLost := true, curSubst := false, lostAt := s.lostAt <|> some m.plan.grainCnt, iHist := [] }
    m.each xs fun m x => m.cellInit md x
  | some xs =>
    let s := m.strEst n
    let m : Mod := match s.lostAt with
      | none => m
      | some g0 =>
        let is : List Nat := (s.iMax60.filter fun e => decide ((g0 - e.1).toNat ≤ 60000)).map (·.2)
        let iM : Rat := (is.foldl max 0 : Nat) / 1000
        let gone : Rat := ((m.plan.grainCnt - g0).toNat : Rat) / 1000
        m.each (m.gcells n) fun m g => m.onCellEst g fun e => e.addB (rdiv (iM * gone) (3600 * e.cap))
    let x0 := xs.headD {}
    let whole := (m.eisOf n).any (·.2)
    let d := m.stepGrains n
    let m := m.onStrEst n fun s => { s with
      curLost := false, curSubst := x0.sub, lostAt := none, eisI := if whole then x0.iS :: s.eisI else s.eisI }
    let m := m.restStep n d (m.isNow n ((m.strCur n false).getD (0, true)))
    let m := m.each xs Mod.cellTime
    let m := m.each (m.monsOf n) fun m mc => m.each (m.monGroups n mc) fun m grp =>
      m.measure (xs.filter fun x => x.mc.addr == mc.addr && grp.contains x.k)
    let m := m.each xs Mod.reportStep
    let m := m.each xs Mod.eisTake
    let m := m.each xs fun m x => m.anomalyStep x.g
    m.each xs fun m x => m.cellInit md x

/-- The estimator of a string runs for one grain (R181): row SLOT_RUN's estimator kernel. An impedance interval whose last reading no run
took is released without it. -/
def Mod.estimator (m : Mod) (n : Nat) : Mod :=
  let m := if m.est.interval = some m.plan.grainCnt then m else m.eisRelease n
  let m := ((m.estStep n).onStrEst n fun s => { s with ranAt := some m.plan.grainCnt }).eisRelease n
  (m.restRequest n).availability n

/-- Row ANOMALY_CLEAR (R185). -/
def anomalyClear (g : Nat) (m : Mod) : Mod :=
  let e := m.cellEst g
  if e.anomaly && decide (3600000 ≤ e.anomalyAge + (m.host.ms - e.anomalyMs)) then
    m.onCellEst g fun e => { e with anomaly := false, anomalyAge := 0, anomalyMs := 0 }
  else m

/- Checkpoints and restores (R211-R215, R541) -/

/-- Binary32 fields, little-endian (R213). -/
def leF (l : List Rat) : List Byte := l.flatMap fun x => leN 4 (f32Bits x)

/-- A cell's ANCHOR_AGE, ms (R207, R217): of a cell without an anchor, the time since its state began, and 0 before; the model's choice (log 73). -/
def Mod.anchorAgeOf (m : Mod) (e : CellEst) : Nat := if e.init then e.anchorAge + (m.host.ms - e.anchorMs) else 0

/-- A cell's record (Table 5.8), with its monitor's UID, TAU_SLOW, ANCHOR_AGE in s, TIME and I_MAX in A. -/
def CellEst.record (e : CellEst) (g uid : Nat) (tauSlow : Rat) (age sec ns : Nat) (iMax : Rat) : List Byte :=
  leN 4 g ++ leN 2 (b2n e.init + 2 * b2n e.capConverged) ++ leN 2 e.chemId ++ leN 8 uid ++ leF [e.z, e.vFast, e.vSlow, e.h]
    ++ leF [e.rOhm, e.rFast, e.rSlow, e.tauFast, tauSlow, e.cap, e.m] ++ leF [e.b] ++ leF (padTo 10 0 e.cov) ++ leF (padTo 5 0 e.pvar)
    ++ leF [e.zr, e.anchorZ, e.anchorQ, e.anchorU] ++ leN 4 (stopAt 0xFFFFFFFF age) ++ leN 6 sec ++ leN 4 ns ++ [0, 0] ++ leF [iMax]

/-- An estimator image of records (Table 5.7). -/
def estImage (flags : Nat) (recs : List (List Byte)) : List Byte :=
  let head := leN 4 0x4B584543 ++ leN 2 1 ++ leN 2 flags ++ leN 4 recs.length ++ leN 4 (68 + 160 * recs.length) ++ List.replicate 44 0
  let b := head ++ leN 4 (crc32c head).toNat ++ recs.flatten
  b ++ leN 4 (crc32c b).toNat

/-- The lengths and CRCs of an estimator image agree (R213, R214). -/
def estImageOk (img : List Byte) : Bool :=
  let len := img.length
  decide (68 ≤ len) && len == rdN img 0x0C 4 && len == 68 + 160 * rdN img 8 4 && (crc32c (img.take 0x3C)).toNat == rdN img 0x3C 4
    && (crc32c (img.take (len - 4))).toNat == rdN img (len - 4) 4

/-- MAGIC, FORMAT and RECORD_COUNT hold what Table 5.7 gives them. -/
def estHeaderOk (img : List Byte) : Bool :=
  rdN img 0 4 == 0x4B584543 && rdN img 4 2 == 1 && decide (1 ≤ rdN img 8 4 ∧ rdN img 8 4 ≤ 20480)

/-- The image of a string's present state (R211). -/
def Mod.strImage (m : Mod) (n : Nat) : List Byte :=
  let (ts, tn) := m.nowSN
  let c := m.chemOf n
  let i : Rat := ((m.strEst n).iMax : Rat) / 1000
  estImage 0 ((m.monsOf n).flatMap fun mc => (setBits 16 mc.cellMask.toNat).map fun k =>
    let g := gcell n mc.addr k
    let e := m.cellEst g
    e.record g (m.mon n mc.addr).uid (c.tauS (m.cellTemp n mc k g)) (m.anchorAgeOf e / 1000) ts tn i)

/-- Row CHECKPOINT_CAPTURE (R211): a string without cells has no record to keep, and a partition that cannot be written takes none (R523). A buffer that is still unwritten is given up, its I_MAX
kept for this one. -/
def checkpointCapture (n : Nat) (m : Mod) : Mod :=
  if m.configured n && !(m.gcells n).isEmpty && decide (m.plan.grainCnt.toNat % 60000 = 1000 * n) && m.flashWrites 3 then
    let m := m.onStrEst n fun s => { s with iMax := max s.iMax s.ckptIMax }
    let img := m.strImage n
    (m.dmaStart 1 (.checkpoint n) img.length).onStrEst n fun s => { s with
      ckptBuf := img, ckptIMax := s.iMax, ckptOpMs := m.power.opMs, iMax := 0 }
  else m

/-- Row CHECKPOINT_WRITE_COMPLETE (R211, R541): the final page is durable, and the ring keeps CKPT_KEEP checkpoints; where the write
failed, the I_MAX of the buffer counts on, since the checkpoint before is still the last. -/
def checkpointWriteComplete (n : Nat) (ok : Bool) (m : Mod) : Mod :=
  let s := m.strEst n
  if s.ckptBuf.isEmpty then m else
    (m.dmaEnd 1).onStrEst n fun s => { s with
      ckpts := if ok then (⟨s.ckptBuf, s.ckptOpMs, s.ckptIMax⟩ :: s.ckpts).take (m.parN 0xD085 / 256) else s.ckpts
      iMax := if ok then s.iMax else max s.iMax s.ckptIMax, ckptBuf := [], ckptIMax := 0, ckptOpMs := 0 }

/-- One record of an estimator image (Table 5.8): the state, TAU_SLOW and I_MAX stand only where every value is finite. -/
structure EstRec where
  g : Nat := 0
  init : Bool := false
  chemId : Nat := 0
  uid : Nat := 0
  st : Option (CellEst × Rat × Rat) := none

/-- A record's bytes read; its ANCHOR_AGE counts on from `ms`. -/
def estRecordOf (bs : List Byte) (ms : Nat) : EstRec :=
  let f (off : Nat) : Option Rat := f32OfBits (rdN bs off 4)
  let fs (off k : Nat) : Option (List Rat) := (List.range k).mapM fun i => f (off + 4 * i)
  let rf := rdN bs 4 2
  let st := do
    let s ← fs 0x10 4
    let p ← fs 0x20 7
    let b ← f 0x3C
    let cov ← fs 0x40 10
    let pv ← fs 0x68 5
    let zr ← f 0x7C
    let az ← f 0x80
    let aq ← f 0x84
    let au ← f 0x88
    let im ← f 0x9C
    let x (l : List Rat) (i : Nat) : Rat := l.getD i 0
    let e : CellEst := {
      chemId := rdN bs 6 2, z := x s 0, vFast := x s 1, vSlow := x s 2, h := x s 3, rOhm := x p 0, rFast := x p 1, rSlow := x p 2
      tauFast := x p 3, cap := x p 5, m := x p 6, b := b, cov := cov, pvar := pv, zr := zr, anchorZ := az, anchorQ := aq, anchorU := au
      anchored := decide (au ≠ 0), anchorAge := 1000 * rdN bs 0x8C 4, anchorMs := ms, init := true, capConverged := rf.testBit 1
      timeSec := rdN bs 0x90 6, timeNs := rdN bs 0x96 4 }
    pure (e, x p 4, im)
  { g := rdN bs 0 4, init := rf.testBit 0, chemId := rdN bs 6 2, uid := rdN bs 8 8, st := st }

/-- The records of an image. -/
def estRecords (img : List Byte) (ms : Nat) : List EstRec :=
  (List.range (rdN img 8 4)).map fun i => estRecordOf ((img.drop (64 + 160 * i)).take 160) ms

/- The local restore -/

/-- A cell without a state to restore: initialised from its first fresh reading, r with it (R204, R209, R210). -/
def Mod.estBlank (m : Mod) (n g : Nat) : Mod :=
  m.onCellEst g fun _ => { resetPending := true, rFromZ := true, chemId := (m.chemOf n).chemId }

/-- The latest valid local checkpoint that holds a record of a cell (R212). -/
def latestRec (ks : List (Ckpt × List EstRec)) (g : Nat) : Option (Ckpt × EstRec) :=
  ks.findSome? fun k => (k.2.find? fun r => r.g == g).map fun r => (k.1, r)

/-- The local restore of a string (R212): the state was lost at `lostMs` of the operating clock and `outMs` passed unpowered,
none for an unknown outage, which counts as long (R563). A record holds no more than Table 5.8 gives it; all else is at its reset
value. r takes ZR, or z where there is no record, also where R69 clears the area: R204 names the starts alone (DESIGN CHOICE, log 69). -/
def Mod.localRestore (m : Mod) (n lostMs : Nat) (outMs : Option Nat) : Mod :=
  let c := m.chemOf n
  let ks := ((m.strEst n).ckpts.filter fun k => estImageOk k.image).map fun k => (k, estRecords k.image m.host.ms)
  let cells := (m.monsOf n).flatMap fun mc => (setBits 16 mc.cellMask.toNat).map fun x => (mc, x, gcell n mc.addr x)
  let badUid := cells.filter fun x => (latestRec ks x.2.2).any fun r => (m.mon n x.1.addr).tableUid != some r.2.uid
  let badChem := cells.filter fun x => !(badUid.contains x) && (latestRec ks x.2.2).any fun r => r.2.chemId != c.chemId
  let m := m.onStrEst n fun s => { s with ranAt := none, eisEnd := none, eisWhole := false }
  let m := m.each cells fun m x =>
    match latestRec ks x.2.2 with
    | some (k, { init := true, st := some (e, _, _), .. }) =>
      if badUid.contains x || badChem.contains x then m.estBlank n x.2.2 else
        let gap : Rat := ((min 60000 (lostMs - k.opMs) : Nat) : Rat) / 1000
        let long := match outMs with
          | some o => decide (5 * c.tauS (m.cellTemp n x.1 x.2.1 x.2.2) * 1000 < ((o : Nat) : Rat))
          | none => true
        m.onCellEst x.2.2 fun _ => { e.addB (rdiv ((k.iMax : Rat) / 1000 * gap) (3600 * e.cap)) with
          vFast := if long then 0 else e.vFast, vSlow := if long then 0 else e.vSlow
          anchorAge := e.anchorAge + (m.power.opMs - k.opMs) }.capJudge
    | _ => m.estBlank n x.2.2
  let m := m.estReset n (badUid.map fun x => x.2.2) 0
  m.estReset n (badChem.map fun x => x.2.2) 1

/-- The local restore of a string is complete: its estimator is ready, or waits for a host restore (R215). -/
def Mod.estWait (m : Mod) (n : Nat) : Mod :=
  let wait := decide (m.par 0x406A ≠ 0)
  m.onStrEst n fun s => { s with ready := !wait, restoreWait := if wait then some m.host.ms else none, restoreAge := 0 }

/-- The estimators of every configured string after a cold start or a module restart (R212, R215); the time without power counts as rest
(R192). -/
def Mod.estStart (m : Mod) (lostMs : Nat) (outMs : Option Nat) : Mod :=
  m.each m.confStrings fun m n =>
    ((m.localRestore n lostMs outMs).estWait n).onStrEst n fun s => { s with restGrains := outMs.getD 0, restAnchors := 0 }

/-- The outage of a cold start ends with the start of the first grain (R192): `ms` have passed since power returned. -/
def Mod.outageRest (m : Mod) (ms : Nat) : Mod :=
  if m.power.outageMs = 0 then m else m.each m.confStrings fun m n => m.onStrEst n fun s => { s with restGrains := s.restGrains + ms }

/-- A string's bed comes into force where its state area is not kept, or its CHEM_ID is another (R69, R180, R209, R212, R215). -/
def Mod.estReplant (m : Mod) (n : Nat) (keep chem : Bool) : Mod :=
  let gs := m.gcells n
  let m := if keep then m
    else if chem then m.each gs fun m g => m.estBlank n g
    else m.localRestore n m.power.opMs (some 0)
  let m := if chem then m.estReset n gs 1 else m
  if (m.strEst n).ready || (m.strEst n).restoreWait.isSome then m else m.estWait n

/-- Row RESTORE_WAIT_EXPIRY (R215). -/
def restoreWaitExpiry (n : Nat) (m : Mod) : Mod :=
  match (m.strEst n).restoreWait with
  | some t =>
    if 1000 * m.parN 0x406A ≤ (m.strEst n).restoreAge + (m.host.ms - t) then m.onStrEst n fun s => { s with ready := true, restoreWait := none } else m
  | none => m

/-- Every field within its range in Table 5.1, both as binary32. -/
def CellEst.inRange (e : CellEst) (tauSlow : Rat) : Bool :=
  let ok (lo hi x : Rat) : Bool := decide (f32 lo ≤ x ∧ x ≤ f32 hi)
  ok (-1 / 10) (11 / 10) e.z && ok (-1) 1 e.vFast && ok (-1) 1 e.vSlow && ok (-1) 1 e.h && ok (1 / 100000) (1 / 10) e.rOhm
    && ok 0 (1 / 10) e.rFast && ok 0 (1 / 10) e.rSlow && ok 0 (1 / 10) e.m && ok 10 2000 e.cap && ok (1 / 20) 5 e.tauFast
    && ok 5 2000 tauSlow && ok 0 1 e.b

/-- The reason of Table 5.9 to skip a record, 1-5, or 0. -/
def Mod.restoreSkip (m : Mod) (overrideFlag : Bool) (r : EstRec) : Nat :=
  let n := r.g / 640
  match r.st with
  | none => 1
  | some (e, ts, _) =>
    let old := m.cellEst r.g
    let later := decide (old.timeSec < e.timeSec ∨ (old.timeSec = e.timeSec ∧ old.timeNs < e.timeNs))
    let zero := decide (e.timeSec = 0 ∧ e.timeNs = 0) || decide (old.timeSec = 0 ∧ old.timeNs = 0)
    if decide (20479 < r.g) || !r.init || !e.inRange ts then 1
    else if m.inService n then 2
    else if (m.mon n (r.g % 640 / 16)).tableUid ≠ some r.uid then 3
    else if (m.chemOf n).chemId ≠ r.chemId then 4
    else if !overrideFlag && (!later || zero) then 5
    else 0

/-- Command EST_RESTORE (R214): the image copied out of the exchange area. A header that breaks Table 5.7 is a field out of range
(log 57). -/
def estRestoreCmd (o : Origin) (img : List Byte) (m : Mod) : Mod × Nat :=
  if img.length = 0 then (m, 0x800A)
  else if img.length < 68 then (m, 0x8001)
  else if rdN img 8 4 = 0 then (m, 0x800A)
  else if !estImageOk img then (m, 0x8001)
  else if !estHeaderOk img then (m, 0x8005)
  else if m.est.restore.isSome then (m, 0x8008)
  else (m.onEst fun e => { e with restore := some { session := o.session, seq := BitVec.ofNat 32 o.seq, image := img } }, 1)

/-- A record is applied: it replaces the cell's state (R214). What no record holds stays where it does not describe the estimate, and a flag
that ends on its own condition stays until that is met (R185, R196, R203, Table 5.2). -/
def Mod.restoreRecord (m : Mod) (r : EstRec) : Mod :=
  match r.st with
  | none => m
  | some (e, _, im) => m.onCellEst r.g fun old =>
    { ({ e with clamps := old.clamps }.addB (rdiv (im * 60) (3600 * e.cap))).capJudge with
      restoredHost := true, zMag := old.zMag, zPhase := old.zPhase, eisGrain := old.eisGrain, eisValid := old.eisValid
      anomaly := old.anomaly, anomalyAge := old.anomalyAge, anomalyMs := old.anomalyMs, ccDisagree := old.ccDisagree
      impHigh := old.impHigh, impRun := old.impRun, impLowRun := old.impLowRun, suspended := old.suspended, group := old.group
      deviationHold := old.deviationHold, tempSubst := old.tempSubst, anchorRejected := old.anchorRejected
      tStaleGrains := old.tStaleGrains, tsOff := old.tsOff }

/-- Row EST_RESTORE_COMPLETE (R214, R215): every record is applied or skipped on its own; the completion notice and the event
follow, and every string that waits for a host restore becomes ready. -/
def estRestoreComplete (m : Mod) : Mod :=
  match m.est.restore with
  | none => m
  | some j =>
    let over_ := (rdN j.image 6 2).testBit 0
    let recs := estRecords j.image m.host.ms
    let res := recs.foldl (fun (acc : Mod × List (Nat × Nat)) r =>
      let why := acc.1.restoreSkip over_ r
      (if why ≠ 0 then acc.1 else acc.1.restoreRecord r, (why, r.g) :: acc.2)) (m, [])
    let m := res.1
    let skips := res.2.reverse
    let per (w : Nat) : List Byte :=
      let l := skips.filter fun x => x.1 == w
      leN 4 l.length ++ leN 4 ((l.head?.map (·.2)).getD 0)
    let applied := (skips.filter fun x => x.1 == 0).length
    let m := m.onEst fun e => { e with restore := none }
    let m := m.each m.confStrings fun m n =>
      if (m.strEst n).restoreWait.isSome then m.onStrEst n fun s => { s with ready := true, restoreWait := none } else m
    let m := m.post 0x4006 0xFF bFabric (leN 4 applied ++ leN 4 (recs.length - applied))
    m.complete ⟨j.session, 0x0151, j.seq.toNat⟩ 0 [⟨0x82, leN 4 applied ++ [1, 2, 3, 4, 5].flatMap per⟩]

/- Points and registers (R207, R208, R217-R219) -/

/-- CFLAGS (Table 5.11). -/
def CellEst.flags (e : CellEst) : Nat :=
  maskOf (([e.init, e.resetPending, e.suspended, e.group, e.gated, e.ccDisagree, e.tempSubst, e.eisValid, e.capConverged, e.deviationHold,
    e.restoredHost, e.anomaly, e.impHigh].zipIdx.filter (·.1)).map (·.2))

/-- A SoC in 1/65,536 (R8), and in the u16 of a record, held at its ends (R9). -/
def socI (z : Rat) : Int := rnear (z * 65536)
def socU16 (z : Rat) : Nat := (clampI 0 65535 (socI z)).toNat

/-- A capacity in mAh. -/
def capMAh (c : Rat) : Nat := (rnear (c * 1000)).toNat

/-- State of health, 1/65,536, before its encoding holds it (R9, R197). -/
def Mod.soh (m : Mod) (n g : Nat) : Int := socI (rdiv (m.cellEst g).cap (m.chemOf n).capNom)

/-- The 64-byte record of the estimator read command (Table 5.10). -/
def Mod.estRecord (m : Mod) (g : Nat) : List Byte :=
  let n := g / 640
  let a := g % 640 / 16
  let e := m.cellEst g
  let mc := (m.monCfg? n a).getD {}
  let kr := (m.chemOf n).kR (m.cellTemp n mc (g % 16) g)
  leN 4 g ++ leN 2 e.flags ++ leN 2 (socU16 e.zr) ++ leN 2 (socU16 e.z) ++ leN 2 (socU16 (m.uncOf g)) ++ leN 4 (capMAh e.cap)
    ++ leN 2 (clampI 0 65535 (m.soh n g)).toNat ++ leN 2 e.clamps ++ leN 4 (rnear (e.rOhm * kr * 1000000000)).toNat
    ++ ((List.range 4).flatMap fun j => leN 4 (e.zMag.getD j 0) ++ leI 2 (e.zPhase.getD j 0) ++ leN 2 0)
    ++ leN 4 e.eisGrain.toNat ++ leN 4 (m.anchorAgeOf e / 1000)

/-- EST_STAT[n] (Table 5.12). -/
def Mod.estStat (m : Mod) (n : Nat) : W32 :=
  let s := m.strEst n
  let es := (m.gcells n).map m.cellEst
  pack [(0, 1, b2n s.ready), (1, 1, b2n s.restoreWait.isSome), (2, 1, b2n s.restReq), (3, 1, b2n s.restDenied),
    (4, 1, b2n (es.any (·.ccDisagree))), (5, 1, b2n s.eisRun), (6, 3, s.eisInhibit), (9, 1, b2n s.curSubst), (10, 1, b2n s.curLost),
    (16, 10, (es.filter (·.resetPending)).length)]

/-- EIS_SCALE (Table 5.13). -/
def Mod.eisScaleReg (m : Mod) : W32 := pack [(0, 9, m.est.scale), (9, 1, b2n m.est.limited)]

/-- The SoC points of a string's estimation group (Table 5.5). -/
def isSocPoint (o : Nat) : Bool := [0, 1, 2, 4, 6].contains o

/-- The string estimation points (Table 5.5), offset to value, before their encoding holds them (R9). -/
def Mod.strEstPoint (m : Mod) (n o : Nat) : Int :=
  let s := m.strEst n
  let gs := m.gcells n
  let rs := gs.map fun g => (g, (m.cellEst g).zr)
  let lo := rs.foldl (fun (a : Option (Nat × Rat)) x => match a with | some b => if x.2 < b.2 then some x else a | none => some x) none
  let hi := rs.foldl (fun (a : Option (Nat × Rat)) x => match a with | some b => if b.2 < x.2 then some x else a | none => some x) none
  let minOf (l : List Rat) : Rat := match l with | [] => 0 | x :: t => t.foldl min x
  let a := minOf (rs.map fun x => x.2 * m.capOf x.1)
  let b := minOf (rs.map fun x => (1 - x.2) * m.capOf x.1)
  match o with
  | 0 => if gs.isEmpty then 0 else socI (rdiv a (a + b))
  | 1 => socI (m.maxUnc n)
  | 2 => socI ((lo.map (·.2)).getD 0)
  | 3 => ((lo.map (·.1)).getD 0 : Nat)
  | 4 => socI ((hi.map (·.2)).getD 0)
  | 5 => ((hi.map (·.1)).getD 0 : Nat)
  | 6 => socI (m.meanR n)
  | 7 => capMAh (minOf (gs.map m.capOf))
  | 8 => match gs.map (m.soh n) with | [] => 0 | x :: t => t.foldl min x
  | 9 => s.eDis
  | 10 => s.eChg
  | 11 => s.pDis10
  | 12 => s.pDis60
  | 13 => s.pDis900
  | 14 => s.pChg10
  | 15 => s.pChg60
  | 16 => s.pChg900
  | 17 => rnear (rsum ((m.monsOf n).flatMap fun mc => (setBits 16 mc.cellMask.toNat).map fun k =>
      let g := gcell n mc.addr k
      (m.cellEst g).rOhm * (m.chemOf n).kR (m.cellTemp n mc k g) * 1000000000))
  | 18 => s.restLo
  | 19 => s.restHi
  | 20 => ((gs.map fun g => m.anchorAgeOf (m.cellEst g) / 1000).foldl max 0 : Nat)
  | 21 => s.eisLast.toNat
  | 22 => ((gs.filter fun g => (m.cellEst g).anomaly || (m.cellEst g).impHigh || (m.cellEst g).ccDisagree).length : Nat)
  | 23 => ((gs.filter fun g => (m.cellEst g).resetPending).length : Nat)
  | _ => 0

end Sys2Proof.Machine
end

