-- ==== Sys2Proof/Machine/Conv.lean ====
section
/-! DEFINITION. String converter control (spec file 06_string_converters.md): frames and training, the three loops, link
and phase states, pruning, burst mode and phase failures. -/

namespace Sys2Proof.Machine

/- Ratings (R256) and limits (R243) -/

/-- I_RATED, I_PH_RATED in A, as FP32 (R240), P_RATED in W, phases of a string's converter. -/
def Mod.iR (m : Mod) (n : Nat) : Rat := f32 (((((m.convDef? n).map (·.iRated)).getD 0 : Nat) : Rat) / 1000)
def Mod.iPh (m : Mod) (n : Nat) : Rat := f32 (((((m.convDef? n).map (·.iPhRated)).getD 0 : Nat) : Rat) / 1000)
def Mod.pR (m : Mod) (n : Nat) : Rat := ((((m.convDef? n).map (·.pRated)).getD 0 : Nat) : Rat)
def Mod.nPh (m : Mod) (n : Nat) : Nat := min 6 (((m.convDef? n).map (·.phases)).getD 0)

/-- A parameter of 0.01 % as a fraction. -/
def Mod.pct (m : Mod) (id : Nat) : Rat := (m.par id : Rat) / 10000

/-- A parameter in units of 1/d, and one of 0.01 %, as FP32 quantities of the loops (R240). -/
def Mod.fpar (m : Mod) (id : Nat) (d : Rat) : Rat := f32 ((m.par id : Rat) / d)
def Mod.fpct (m : Mod) (id : Nat) : Rat := m.fpar id 10000

/-- A current in mA as an FP32 quantity in A, and a voltage in mV in V (R240). -/
def milli (x : Int) : Rat := f32 ((x : Rat) / 1000)

/-- Derating factor in the discharge direction (R302, R315). -/
def Mod.disFactor (m : Mod) (n : Nat) : Rat := if (m.strProt n).disInhibit && !(m.strProt n).undecided then 0 else m.derateFactor n

/-- A limit of R243, A: derating, available phases, and the current limit of dispatch (R287). -/
def Mod.iLim (m : Mod) (n : Nat) (factor : Rat) : Rat :=
  let r := m.iR n
  min (fmul r (f32 factor)) (min (fdiv (fmul r (m.nOk n : Rat)) (m.nPh n : Rat)) (m.fpar (0x6180 + n) 1000))

/-- The limits of both directions, formed anew for the next run of a loop (R243). -/
def Mod.setLims (m : Mod) (n : Nat) : Mod :=
  m.onLink n fun k => { k with iLimDis := m.iLim n (m.disFactor n), iLimChg := m.iLim n (m.chgFactor n) }

/-- sat_add and sat_mul round to FP32 and clamp to the declared range of their destination (R241): a current has that of Table 0.3, a duty
that of X_LINK in Table 6.13 (log 46). Where one acts, so does the tighter clamp that follows, which sets the flag. -/
def satI (x : Rat) : Rat := f32 (clampR (-2147483647 / 1000) (2147483647 / 1000) x)
def satD (x : Rat) : Rat := f32 (clampR (-32768) (2147483647 / 65536) x)

/-- The limit of |p_ref| (R243). -/
def Mod.pLim (m : Mod) (n : Nat) : Rat := if m.inFallow n then fmul (1 / 4) (f32 (m.pR n)) else f32 (m.pR n)

/-- Sets sticky flag `b` of KLNK_SAT (R241, R253) where a condition holds. -/
def Mod.satIf (m : Mod) (n b : Nat) (c : Bool) : Mod :=
  if c && !(m.link n).sat.getLsbD b then m.onLink n fun k => { k with sat := k.sat ||| BitVec.ofNat 12 (2 ^ b) } else m

/- Phases (R246) -/

/-- The phase switches: ACTIVE, SOFT or MIRRORED. -/
def Phase.switching (p : Phase) : Bool := p.st == .active || p.st == .soft || p.st == .mirrored

/-- The phase is one that n_ok counts: DISABLED, ARMED, ACTIVE, SOFT or MIRRORED (R243). -/
def Phase.usable (p : Phase) : Bool := p.st == .disabled || p.st == .armed || p.switching

/-- Phase `p` of a link may switch: in BURST the burst phase alone (R248). -/
def Link.lets (k : Link) (p : Nat) : Bool := decide (k.st ≠ .burst) || decide (p = k.burstPhase)

/-- The switching phases of a link. -/
def Mod.acts (m : Mod) (n : Nat) : List Nat := (List.range (m.nPh n)).filter fun p => (m.phase n p).switching && (m.link n).lets p

/-- N_ACT. -/
def Mod.nAct (m : Mod) (n : Nat) : Nat := (m.acts n).length

/-- A converter cause trips its string (Table 6.9, cause CONVERTER): latched, and the trip symbol sent. -/
def Mod.convTrip (m : Mod) (n : Nat) : Mod := (m.latchCause n cConverter noGidx 0).tripRequest n

/-- Offsets of the active phases, k times 20,000 / n_act ns in index order (R247). -/
def Mod.spread (m : Mod) (n : Nat) : Mod :=
  let ps := (List.range (m.nPh n)).filter fun p => (m.phase n p).switching && (m.link n).lets p || (m.phase n p).addPending
  let m := m.each ps.zipIdx fun m x => m.onPhase n x.1 fun p => { p with offset := x.2 * 20000 / ps.length, keptOffset := false }
  m.onLink n fun k => { k with respread := false }

/-- A phase is latched with a cause; a running link without a phase left in n_ok trips (Table 6.9). -/
def Mod.latchPhase (m : Mod) (n p cause : Nat) : Mod :=
  let m := m.onPhase n p fun x => { x.off with st := .latched, cause := cause }
  let m := m.onLink n fun k => { k with respread := true }
  if (m.link n).st.running && decide (m.nOk n = 0) then m.convTrip n else m

/-- A phase is shed: ARMED with the 5 ms arm timer (Table 6.10). -/
def Phase.shed (p : Phase) : Phase :=
  { p with st := .armed, armTicks := 0, armShed := true, addPending := false, keptOffset := true, xp := 0, iRef := 0, followRun := 0
           openRun := 0, stuckRun := 0, devRun := 0 }

/-- A phase starts to switch at a duty. -/
def Phase.enable (p : Phase) (duty : Nat) : Phase :=
  { p with st := .active, armTicks := 0, armShed := false, addPending := false, timer := 0, duty := duty, xp := 0, followRun := 0, openRun := 0
           stuckRun := 0, devRun := 0, climRun := 0 }

/-- A phase is to be added: ARMED with the add pending (Table 6.10). -/
def Phase.arm (p : Phase) : Phase :=
  { p with st := .armed, armTicks := if p.st = .armed then p.armTicks else 0, armShed := false, addPending := true }

/-- A phase is to switch (Table 6.10): ARMED for 10 ticks it is enabled at once, else it is armed with the add pending. -/
def Phase.join (p : Phase) (duty : Nat) : Phase :=
  if p.switching then p else if p.st = .armed && decide (10 ≤ p.armTicks) then p.enable duty else p.arm

/-- d_ff as a duty, 1/65,536. -/
def Link.dutyFf (k : Link) : Nat := (rnear (k.dFf * 65536)).toNat

/-- A phase with the least or the most run time among some. -/
def Mod.byRun (m : Mod) (n : Nat) (most : Bool) (ps : List Nat) : Option Nat :=
  match ps with
  | [] => none
  | p0 :: rest => some (rest.foldl (fun b p =>
      if (if most then (m.phase n b).runTicks < (m.phase n p).runTicks else (m.phase n p).runTicks < (m.phase n b).runTicks) then p else b) p0)

/- Training, starts and stops (R234, R245) -/

/-- Training begins (R234). -/
def Link.train (k : Link) : Link :=
  { k with aligned := false, fibreDelay := none, trainErrs := [], goodRun := 0, badRun := 0, ident := [], identOk := false, regAcc := none
           regQueue := [] }

/-- A link enters SOFT_STOP from a running state (Table 6.9). -/
def Mod.softStop (m : Mod) (n : Nat) (toFault : Bool) : Mod :=
  let k := m.link n
  match k.st with
  | .softStart | .run | .burst =>
    m.onLink n fun k => { k with st := .softStop, stopToFault := toFault, stopMs := m.host.ms, stopRun := 0, prune := none }
  | .softStop => m.onLink n fun k => { k with stopToFault := k.stopToFault || toFault }
  | _ => m

/-- The start request of Table 6.9: done, or refused; refused too while MAINT is active for the string's zone (R336), and in the grain of a
plan restart, which runs the idle plan's slots (R68, R77). -/
def Mod.startRequest (m : Mod) (n : Nat) : Mod × Bool :=
  let k := m.link n
  match m.convDef? n with
  | none => (m, false)
  | some d =>
    let ok := decide (k.st = .off) && m.contClosed n && decide (d.vBusMin ≤ k.vBus ∧ k.vBus ≤ d.vBusMax) && !k.tripHeld
      && decide ((m.strProt n).cause = 0) && (m.strEst n).ready && !k.fault.getLsbD 4 && !m.stopped n
      && !(m.adcConv (n / 16)).failed && (m.maintFor n).isNone && !m.upd.service && decide (m.plan.mode ≠ .restarting)
    if !ok then (m, false) else
      let m := m.each ((List.range (m.nPh n)).filter fun p => decide ((m.phase n p).st = .disabled)) fun m p => m.onPhase n p Phase.arm
      ((m.onLink n fun k => { k.loopsOff with st := .softStart, stopToFault := false, strFollow := false, respread := true }), true)

/- Frames (R229-R231) -/

/-- MODE of the downstream frame. -/
def LinkState.mode : LinkState → Nat
  | .softStart | .run | .softStop => 1
  | .burst => 2
  | .localRamp => 3
  | _ => 0

/-- The link is being trained: CMD is TRAIN until it is aligned. -/
def Link.training (k : Link) : Bool := !k.aligned && decide (k.st ≠ .dark ∧ k.st ≠ .fault)

/-- ENABLE, ARM and the duties as the loops leave them: nothing switches outside the running states, nor in the grain of a plan restart
(R68, R77). -/
def Mod.fastBlock (m : Mod) (n : Nat) : FastBlock :=
  let ph (p : Nat) : Phase := m.phase n p
  let bits (f : Phase → Bool) : BitVec 6 := BitVec.ofNat 6 (maskOf ((List.range 6).filter fun p => f (ph p)))
  let run := (m.link n).st.running && decide (m.plan.mode ≠ .restarting)
  { enable := if run then BitVec.ofNat 6 (maskOf (m.acts n)) else 0
    arm := if run then bits fun p => p.switching || p.st == .armed || p.st == .hiccup else 0
    duties := (List.range 6).map fun p => (ph p).duty }

/-- Bytes 1-16 of a frame, and bytes 19-245 (Table 6.3). -/
def DownFrame.head (f : DownFrame) : List Byte :=
  u8 f.tick ++ u8 (b2n f.active + 2 * b2n f.tripHeld) ++ u8 f.enable.toNat ++ u8 f.arm.toNat ++ (padTo 6 0 f.duties).flatMap (leN 2)
def DownFrame.rest (f : DownFrame) : List Byte :=
  u8 f.mode ++ u8 f.cmd ++ u8 f.cmdArg ++ leN 2 f.gseq ++ (padTo 6 0 f.offsets).flatMap (leN 2) ++ leN 2 f.fibreDelay ++ leN 2 f.frameOrigin
    ++ leN 2 f.climLevel ++ u8 f.regOp ++ leN 2 f.regAddr ++ leN 4 f.regData.toNat ++ List.replicate 197 0

/-- A frame with its FCRC and FCS (R229). -/
def DownFrame.sealed (f : DownFrame) : DownFrame :=
  let c := crc16 f.head
  { f with fcrc := c, fcs := crc32c (f.head ++ leN 2 c.toNat ++ f.rest) }

/-- The downstream frame of this tick (Table 6.3), with the fast block of the last even tick. -/
def Mod.downFrame (m : Mod) (n : Nat) : DownFrame :=
  let k := m.link n
  let clear := k.tripClear && decide (k.st = .tripped)
  let cmd := if clear then 1 else if k.phaseClear ≠ 0 then 2 else if k.training then 3 else 0
  let acc := k.regAcc
  let f : DownFrame := {
    tick := m.plan.tick, active := m.acting, tripHeld := k.tripHeld, enable := k.fast.enable, arm := k.fast.arm, duties := k.fast.duties
    mode := k.st.mode, cmd := cmd, cmdArg := if cmd = 2 then k.phaseClear.toNat else 0
    gseq := m.plan.grainCnt.toNat % 65536, offsets := (List.range 6).map fun p => (m.phase n p).offset
    fibreDelay := k.fibreDelay.getD 0xFFFF, frameOrigin := ((m.convDef? n).map (·.frameOrigin)).getD 0
    climLevel := (rnear (m.iPh n * m.pct 0x5030 * 100)).toNat
    regOp := match acc with | some a => if a.write then 2 else 1 | none => 0
    regAddr := match acc with | some a => a.addr | none => 0
    regData := match acc with | some a => a.data | none => 0 }
  f.sealed

/-- The identity registers of Table 6.7. -/
def identRegs : List RegAcc := (List.range 11).map fun a => { addr := a }

/-- Identity is judged once every register has been read (R234): FIELD and VALUE of a mismatch, none where it is accepted. -/
def identFault (d : ConvDef) (ident : List (Nat × W32)) : Option (Nat × Nat) :=
  let v (a : Nat) : Nat := ((ident.find? fun e => e.1 == a).map (·.2.toNat)).getD 0
  if v 0x0A ≠ 1 then some (0, v 0x0A)
  else if v 5 < d.phases then some (1, v 5)
  else if v 6 < d.iPhRated then some (2, v 6)
  else none

/-- The identity reads of a link are complete (R234). -/
def Mod.identDone (m : Mod) (n : Nat) : Mod :=
  let k := m.link n
  match m.convDef? n with
  | none => m
  | some d =>
    if !k.aligned || k.identOk || k.regAcc.isSome || !k.regQueue.isEmpty then m else
      match identFault d k.ident with
      | some (f, v) =>
        let m := m.post 0x5003 n bLink (u8 f ++ [0, 0, 0] ++ leN 4 v)
        if k.st = .tripped then m else (m.linkTo n .fault).onLink n fun k => { k with faultFromTraining := true }
      | none =>
        let m := m.onLink n fun k => { k with identOk := true }
        if k.st = .training then m.linkTo n .off else m

/-- A register access ends, and the next begins (R235). -/
def Mod.regNext (m : Mod) (n : Nat) : Mod :=
  (m.onLink n fun k => { k with regAcc := k.regQueue.head?, regQueue := k.regQueue.drop 1 }).identDone n

/-- The module's reaction to a far end's FAULT bits (Table 6.5). -/
def Mod.faultReact (m : Mod) (n : Nat) (f : W16) : Mod :=
  let b (i : Nat) : Bool := f.getLsbD i
  let st := (m.link n).st
  let trips := b 0 || b 1 || b 3 || b 5 || b 14
  let m := if trips && decide (st = .tripped) then m.latchCause n cConverter noGidx 0
    else if (trips || b 7) && decide (st ≠ .tripped ∧ st ≠ .dark) then m.convTrip n else m
  let m := if b 2 || b 6 then m.softStop n true else m
  let m := if b 4 then m.softStop n false else m
  m.each (List.range (m.nPh n)) fun m p =>
    if b (8 + p) && (m.phase n p).switching then m.latchPhase n p 5 else m

/-- The phase currents and cycle limits of an accepted frame (R225, R242, R246). -/
def Mod.takeSamples (m : Mod) (n : Nat) (f : UpFrame) : Mod :=
  m.each (List.range (m.nPh n)) fun m p => m.onPhase n p fun x =>
    let lim := f.clim.getLsbD p
    let x := { x with dutyEcho := f.dutyEcho.getD p 0 }
    if f.carrierStart then
      let hit := lim || x.climHalf
      { x with climHalf := false, climRun := if hit then x.climRun + 1 else 0, climTotal := stopAt 0xFFFFFFFF (x.climTotal + b2n hit) }
    else
      let i := 10 * f.iPh.getD p 0
      { x with i := i, climHalf := lim
               stuckRun := if !x.switching then 0 else if i = x.i then x.stuckRun + 1 else 1, stuckDuty := if i = x.i && decide (x.stuckRun ≠ 0) then x.stuckDuty else x.duty }

/-- Runs a change of link `n` on the module's own port: in the standby the ports stand apart from the links of the plan, which
run logically (R375, R378). -/
def Mod.viaPort (m : Mod) (f : Mod → Mod) : Mod :=
  if !m.standby then f m else
    let a := f { m with conv := { links := m.pair.ports, phases := [] } }
    { a with conv := m.conv, pair := { a.pair with ports := a.conv.links } }

/-- One frame of a link (R225-R231, R234, R235, R239, R245): a frame that is not good, or whose current field arrives outside
40 ns of A, is discarded and counts as missing. `plan` says that the plan takes its fields; else the port alone. -/
def Mod.takeFrame (m : Mod) (n : Nat) (f : UpFrame) (plan : Bool) : Mod :=
  let k := m.link n
  if (m.convDef? n).isNone || decide (k.st = .dark) then m
  else if !f.good then m.onLink n fun k => { k with missed := stopAt 0xFFFF (k.missed + 1), missRun := k.missRun + 1, goodRun := 0 }
  else
    let m := m.onLink n fun k =>
      if !k.training then k
      else { k with
        trainErrs := if k.fibreDelay.isNone && decide (k.trainErrs.length < 16) then k.trainErrs ++ [f.err] else k.trainErrs
        goodRun := if k.fibreDelay.isSome && decide (f.err.natAbs ≤ 40) then k.goodRun + 1 else 0 }
    if 80 < f.err.natAbs then
      m.onLink n fun k => { k with
        alignErr := stopAt 0xFFFF (k.alignErr + 1), missed := stopAt 0xFFFF (k.missed + 1), missRun := k.missRun + 1, badRun := k.badRun + 1 }
    else
      let mid := !f.carrierStart
      let sum : Int := ((List.range (m.nPh n)).map fun p => 10 * f.iPh.getD p 0).sum
      let m := m.onLink n fun k => { k with
        missRun := 0, badRun := 0, lost := false, rampTicks := none, fstate := f.fstate, conflict := f.conflict, fault := f.fault, vStr := f.vString
        vBus := f.vBus, tHs := f.tHs, enabled := f.enabled, sampleNew := k.sampleNew || mid
        holds := stopAt 0xFFFF (k.holds + b2n (f.fstate == 4 && k.fstate != 4))
        iSum := if mid then sum else k.iSum, iAcc := if mid then k.iAcc + sum else k.iAcc, iAccN := k.iAccN + b2n mid }
      let m := if plan then (m.takeSamples n f).faultReact n f.fault else m
      let m := match (m.link n).regAcc with
        | some a =>
          if f.regValid && decide (f.regAddr = a.addr) then
            let m :=
              if f.regError then m
              else if a.addr < 0x100 then m.onLink n fun k => { k with ident := (a.addr, f.regData) :: k.ident }
              else (m.onLink n fun k => { k with makerRegs := (a.addr, f.regData) :: k.makerRegs.filter fun e => e.1 != a.addr }).out
                (.makerReg n a.addr f.regData)
            m.regNext n
          else m
        | none => m
      let k := m.link n
      if k.st = .tripped && !k.tripHeld && k.tripClear && decide (f.fstate = 2) then
        (m.linkTo n .off).onLink n fun k => { k with tripClear := false }
      else if k.st = .localRamp && k.aligned && k.identOk && (decide (f.fstate = 2) || decide (f.fstate = 6)) then m.linkTo n .off
      else m

/-- Row UPSTREAM_FRAME: a frame of the module's own port; one that is accepted is recorded for the standby (R378). -/
def upstreamFrame (n : Nat) (f : UpFrame) (m : Mod) : Mod :=
  let good := f.good && m.plan.klnkLock.getLsbD n
  let m := m.viaPort fun x => x.takeFrame n { f with good := good } (!m.standby)
  if good && decide (f.err.natAbs ≤ 80) then m.capture fun r => { r with klink := r.klink ++ [(m.plan.tick, n, f)] } else m

/-- An event of Table 6.9 from states `p` to state `st` is taken: from the state the link has, or from the one it had as the grain began
where an event of the grain has led to a state of a lower code (R245). -/
def Link.takes (k : Link) (p : LinkState → Bool) (st : LinkState) : Bool := p k.st || (p k.stGrain && decide (k.st.ctorIdx < st.ctorIdx))

/-- 50 frames in succession are missing (R239, Table 6.9); a link in LOCAL_RAMP for another reason is lost too. -/
def Mod.linkLost (m : Mod) (n : Nat) : Mod :=
  let k := m.link n
  if k.missRun < 50 then m
  else if k.takes LinkState.running .localRamp then
    let m := m.post 0x5001 n bLink (u8 k.st.ctorIdx)
    (m.linkTo n .localRamp).onLink n fun k => { k.train with rampTicks := some 0, lost := true }
  else if k.st = .localRamp then
    if k.lost then m
    else (m.post 0x5001 n bLink (u8 k.st.ctorIdx)).onLink n fun k => { k.train with rampTicks := some (k.rampTicks.getD 0), lost := true }
  else if k.st = .off then
    let m := m.post 0x5001 n bLink (u8 k.st.ctorIdx)
    (m.linkTo n .training).onLink n Link.train
  else m

/-- Row KLINK_LOST. -/
def klinkLost (n : Nat) (m : Mod) : Mod := m.viaPort fun x => x.linkLost n

/-- Row LOCAL_RAMP_TIMEOUT (R239): 3 ms without a frame. -/
def localRampTimeout (n : Nat) (m : Mod) : Mod :=
  match (m.link n).rampTicks with
  | some t =>
    if 300 ≤ t && decide ((m.link n).st = .localRamp) && decide ((m.link n).missRun ≠ 0) then
      (m.onLink n fun k => { k with rampTicks := none }).openSeq n cLinkLost noGidx 0
    else m
  | none => m

/-- For row FIBRE_DELAY_MEASURE (R234). -/
def Mod.measureDelay (m : Mod) (n : Nat) : Mod :=
  let k := m.link n
  if !k.training || k.fibreDelay.isSome || decide (k.trainErrs.length < 16) then m else
    let mean : Rat := ((k.trainErrs.sum : Int) : Rat) / k.trainErrs.length
    let fd := (rnear (mean / 4)).toNat
    if 280 < fd then
      let m := m.post 0x5002 n bLink (leN 2 fd)
      if k.st = .tripped then m.onLink n Link.train
      else (m.linkTo n .fault).onLink n fun k => { k with faultFromTraining := true }
    else m.onLink n fun k => { k with fibreDelay := some fd, goodRun := 0 }

/-- Row FIBRE_DELAY_MEASURE, on the module's own port. -/
def fibreDelayMeasure (n : Nat) (m : Mod) : Mod := m.viaPort fun x => x.measureDelay n

/-- For row LINK_ALIGNED (R234): aligned, and the identity registers are read. -/
def Mod.nowAligned (m : Mod) (n : Nat) : Mod :=
  let k := m.link n
  if k.training && k.fibreDelay.isSome && decide (100 ≤ k.goodRun) then
    m.onLink n fun k => { k with aligned := true, badRun := 0, ident := [], regAcc := identRegs.head?, regQueue := identRegs.drop 1 }
  else m

/-- Row LINK_ALIGNED, on the module's own port. -/
def linkAligned (n : Nat) (m : Mod) : Mod := m.viaPort fun x => x.nowAligned n

/-- For row ALIGNMENT_LOST (R234, Table 6.9). -/
def Mod.unaligned (m : Mod) (n : Nat) : Mod :=
  let k := m.link n
  if k.badRun < 16 then m
  else if k.st.running then
    if (m.acts n).isEmpty then (m.linkTo n .training).onLink n Link.train
    else (m.linkTo n .localRamp).onLink n fun k => { k.train with rampTicks := some 0 }
  else if k.st = .off && k.stGrain.running then (m.linkTo n .localRamp).onLink n fun k => { k.train with rampTicks := some 0 }
  else if k.st = .off then ((m.post 0x5001 n bLink (u8 k.st.ctorIdx)).linkTo n .training).onLink n Link.train
  else m

/-- Row ALIGNMENT_LOST, on the module's own port. -/
def alignmentLost (n : Nat) (m : Mod) : Mod := m.viaPort fun x => x.unaligned n

/-- For row REG_TIMEOUT (R235). -/
def Mod.regExpiry (m : Mod) (n : Nat) : Mod :=
  match (m.link n).regAcc with
  | some a => if 8 ≤ a.waited then (m.post 0x5004 n bLink (leN 2 a.addr)).regNext n else m
  | none => m

/-- Row REG_TIMEOUT, on the module's own port. -/
def regTimeout (n : Nat) (m : Mod) : Mod := m.viaPort fun x => x.regExpiry n

/-- Row TRIP_REQUEST (R20, R236): a trip request from the hardware stage reaches the injector; a request of the safety
processor or of a comparator keeps standing with its own condition. -/
def tripRequestRow (n : Nat) (m : Mod) : Mod := if 32 ≤ n then m else if m.standby then m.portTrip n else m.tripRequest n

/- The loops (R240-R244) -/

/-- integrate(x, delta, L) with its skip and whether the bound acted (R241): `hi` and `lo` say that the output x feeds is
clamped upward or downward. -/
def integ (x d lim : Rat) (hi lo : Bool) : Rat × Bool :=
  if (decide (0 < d) && hi) || (decide (d < 0) && lo) then (x, false)
  else (clampR (-lim) lim (fadd x d), decide (lim < rabs (fadd x d)))

/-- The steps of the power loop once its division is valid. -/
def Mod.powerCore (m : Mod) (n : Nat) (v : Rat) : Mod :=
  let k := m.link n
  let pl := m.pLim n
  let pRef := clampR (-pl) pl (f32 k.pShare)
  let iff_ := fdiv pRef v
  let raw := satI (iff_ + k.xPw)
  let hi := decide (k.iLimDis < raw)
  let lo := decide (raw < -k.iLimChg)
  let (x, b) := integ k.xPw (fmul (fmul (m.fpar 0x5008 1000) (fsub pRef k.pMeas)) (f32 (1 / 1000))) (m.iR n) hi lo
  let sum := satI (iff_ + x)
  let un := if k.st = .softStop then 0 else clampR (-k.iLimChg) k.iLimDis sum
  let step := fmul (m.fpct 0x5009) (m.iR n)
  let nxt := fadd k.iSrefNext (clampR (-step) step (fsub un k.iSrefNext))
  let follow := decide (fmul (m.fpct 0x5044) (f32 (m.pR n)) < rabs (fsub pRef k.pMeas))
  let m := (m.satIf n 6 b).satIf n 7 (decide (un ≠ sum) && decide (k.st ≠ .softStop))
  m.onLink n fun k => { k with
    pRef := pRef, xPw := x, iUnramped := un, iSrefNext := nxt, followPw := if follow then k.followPw + 1 else 0 }

/-- A pruning decision (R247). -/
def Mod.pruneDecide (m : Mod) (n : Nat) : Mod :=
  let k := m.link n
  if k.st ≠ .run || decide (m.par (0x5100 + n) = 0) || k.prune.isSome then m else
    let i := rabs k.iSrefNext
    let na := m.nAct n
    let ph := m.iPh n
    let shed := decide (2 ≤ na) && decide (fdiv i ((na - 1 : Nat) : Rat) ≤ fmul (m.fpct 0x5020) ph)
    let avail := (List.range (m.nPh n)).filter fun p => decide ((m.phase n p).st = .disabled ∨ (m.phase n p).st = .armed)
    let add := decide (na = 0) || decide (fmul (m.fpct 0x5021) ph ≤ fdiv i (na : Rat))
    let set (s : Bool) (p : Nat) (m : Mod) : Mod :=
      m.onLink n fun k => { k with prune := some { shed := s, phase := p, decidedAt := m.plan.grainCnt, iTgt := k.iTgt } }
    if shed then
      match m.byRun n true ((List.range (m.nPh n)).filter fun p => decide ((m.phase n p).st = .active)) with
      | some p => set true p m
      | none => m
    else if add then
      match m.byRun n false avail with
      | some p => set false p m
      | none => m
    else m

/-- The number of phases the pruning rule asks for at once (R245, R247): the least that is below the add level. -/
def Mod.phasesFor (m : Mod) (n : Nat) (i : Rat) : Nat :=
  ((List.range (m.nPh n + 1)).find? fun (k : Nat) => decide (0 < k) && decide (fdiv i (k : Rat) < fmul (m.fpct 0x5021) (m.iPh n))).getD (m.nPh n)

/-- RUN is entered from BURST: phases up to the number of the pruning rule, those armed 10 ticks at once (Table 6.9). -/
def Mod.burstToRun (m : Mod) (n : Nat) : Mod :=
  let k := m.link n
  let want := m.phasesFor n (rabs k.iSrefNext)
  let m := m.onLink n fun k => { k with st := .run, burstRun := 0, burstS := 0, burstLeft := 0, burstSleep := false, respread := true }
  let wake := (List.range (m.nPh n)).filter fun p => decide (p = k.burstPhase) && decide ((m.phase n p).st = .armed)
  let m := m.each wake fun m p => m.onPhase n p fun x => x.enable k.dutyFf
  let avail := (List.range (m.nPh n)).filter fun p => decide ((m.phase n p).st = .disabled ∨ (m.phase n p).st = .armed)
  let order := avail.mergeSort fun a b => decide ((m.phase n a).runTicks ≤ (m.phase n b).runTicks)
  m.each (order.take (want - m.nAct n)) fun m p => m.onPhase n p fun x => x.join k.dutyFf

/-- The power loop of a link for one grain (R240, R243, R245): row SLOT_RUN's power stage. -/
def Mod.powerLoop (m : Mod) (n : Nat) : Mod :=
  if (m.convDef? n).isNone then m else
    let k := m.link n
    let v := milli k.vStr
    let m := (m.setLims n).onLink n fun k => { k with pMeas := fmul v (milli k.iStr) }
    if !k.st.running then m
    else
      let m := if v ≤ 1 then m.satIf n 8 true else m.powerCore n v
      let k := m.link n
      let small := decide (rabs k.pRef < fmul (m.fpct 0x5010) (f32 (m.pR n)))
      let stopped := decide (rabs (milli k.iStr) < fmul (f32 (1 / 100)) (m.iR n))
      let m := m.onLink n fun k => { k with
        burstRun := if k.st = .run && small then k.burstRun + 1 else 0
        stopRun := if k.st = .softStop && stopped then k.stopRun + 1 else 0 }
      match k.st with
      | .softStart => if k.iSrefNext = k.iUnramped then m.onLink n fun k => { k with st := .run } else m
      | .burst => if fmul (m.fpct 0x5011) (f32 (m.pR n)) ≤ rabs k.pRef then m.burstToRun n else m
      | _ => m.pruneDecide n

/-- The samples of string n over the last 10 ticks, those before the present one, mA (R240). -/
def Mod.last10 (m : Mod) (n : Nat) : List Int :=
  let a := m.strAdc n
  let t := m.plan.tick
  let now := a.win.filter fun s => decide (s.1 < 10000 * t)
  if t < 10 then (a.winPrev.filter fun s => decide (10000 * (90 + t) ≤ s.1)).map (·.2) ++ now.map (·.2)
  else (now.filter fun s => decide (10000 * (t - 10) ≤ s.1)).map (·.2)

/-- i_str of the string loop, A, as FP32 (R240, R242): the ADC mean while the channel is available (R507), by the last grain judged and the
flags of now; else the sum of the phase currents, else none. -/
def Mod.iStr10 (m : Mod) (n : Nat) : Option Rat :=
  let l := m.last10 n
  let a := m.strAdc n
  let c := m.adcConv (n / 16)
  if a.available && !a.implausible && c.running && !c.failed && !l.isEmpty then
    some (f32 (rsum (l.map fun (x : Int) => (x : Rat)) / l.length / 1000))
  else if (m.link n).missRun = 0 && decide ((m.link n).st ≠ .dark) then some (milli (m.link n).iSum)
  else none

/-- I_PH_LIM, A (R240). -/
def Mod.phLim (m : Mod) (n : Nat) : Rat := fdiv (fmul (m.iPh n) (f32 (m.par 0x5030 : Rat))) 12000

/-- The fast add of R247 at a run with i_pref = `i` A: every phase armed for 10 ticks before this one is enabled. -/
def Mod.fastAdd (m : Mod) (n : Nat) (i : Rat) : Mod :=
  let k := m.link n
  let lev := fmul (m.fpct 0x5023) (m.iPh n)
  let hit := decide (lev ≤ rabs i) || (m.acts n).any fun p => decide (lev ≤ rabs (milli (m.phase n p).i))
  let ps := (List.range (m.nPh n)).filter fun p => decide ((m.phase n p).st = .armed) && decide (10 < (m.phase n p).armTicks)
  if !hit || k.st = .burst || decide (lev = 0) then m
  else
    let m := match k.prune with
      | some x => if x.shed then m.onLink n fun k => { k with prune := none } else m
      | none => m
    if ps.isEmpty then m else
      (m.each ps fun m p => m.onPhase n p fun x => x.enable k.dutyFf).onLink n fun k => { k with respread := true }

/-- The string loop of a link (R240, R242-R244, R247). With no phase switching, i_pref is a division by 0: it holds (R241). -/
def Mod.stringLoop (m : Mod) (n : Nat) : Mod :=
  let k := m.link n
  if (m.convDef? n).isNone then m
  else
    let o := m.iStr10 n
    let m := m.onLink n fun k => { k with iStr := match o with | some i => rnear (i * 1000) | none => k.iStr }
    let m := (m.eisCheck n).setLims n
    let k := m.link n
    if !k.st.running || decide (k.tripTicks ≠ 0) then m
    else
      let tgt := satI (k.iSref + f32 (m.eisPerturb n))
      let m := m.onLink n fun k => { k with iTgt := tgt }
      let m := match k.prune with
        | some x => if fmul (m.fpct 0x5022) (m.iR n) ≤ rabs (fsub tgt x.iTgt) then m.onLink n fun k => { k with prune := none } else m
        | none => m
      match o with
      | none => m
      | some i =>
        let e := fsub tgt i
        let prop := satI (fmul (m.fpar 0x5006 1000) e)
        let raw := fadd tgt (satI (prop + k.xS))
        let frozen := decide (k.st = .burst) && k.burstSleep
        let (x, b) := if frozen then (k.xS, false) else
          integ k.xS (fmul (fmul (m.fpar 0x5007 1000) e) (f32 (1 / 10000))) (fmul (f32 (1 / 5)) (m.iR n))
            (decide (k.iLimDis < raw)) (decide (raw < -k.iLimChg))
        let sum := fadd tgt (satI (prop + x))
        let tot := clampR (-k.iLimChg) k.iLimDis sum
        let m := (m.satIf n 4 b).satIf n 5 (decide (tot ≠ sum))
        let m := m.onLink n fun k => { k with
          xS := x, iTot := tot, followSt := if fmul (m.fpct 0x5042) (m.iR n) < rabs e then k.followSt + 1 else 0 }
        if m.nAct n = 0 then (m.satIf n 8 true).fastAdd n k.iPref else m.fastAdd n (clampR (-(m.phLim n)) (m.phLim n) (fdiv tot (m.nAct n)))

/-- The ramp of a phase's reference: 1, or its part in SOFT (Table 6.10). -/
def Mod.softPart (m : Mod) (p : Phase) : Rat :=
  if p.st = .soft then min 1 (fdiv (p.timer : Rat) (100 * (m.par 0x500B : Rat))) else 1

/-- The supervision counters of one phase after a mid-point sample (R244, R249, R250). -/
def Mod.phaseWatch (m : Mod) (n p : Nat) (ip e : Rat) : Mod :=
  let k := m.link n
  let ph := m.iPh n
  let x := m.phase n p
  let i := milli x.i
  let oi := fmul (m.fpct 0x5051) ph
  let open_ := decide (2 * oi ≤ rabs ip) && decide (rabs i < oi) && decide (m.par 0x5050 ≤ ((x.duty : Int) - k.dutyFf).natAbs)
  let others := (m.acts n).filter fun q => q != p
  let mi := fdiv (fsum (others.map fun q => milli (m.phase n q).i)) (others.length : Rat)
  let md := rdiv (rsum (others.map fun q => ((m.phase n q).duty : Rat))) (others.length : Rat)
  let dev := (decide (fmul (fmul (5 / 4) ph) (m.fpct 0x5030) ≤ rabs i) && !x.climHalf)
    || (!others.isEmpty && decide (fmul (m.fpct 0x5054) ph ≤ rabs (fsub i mi)) && decide (rabs ((x.duty : Rat) - md) ≤ 65536 / 100))
  m.onPhase n p fun x => { x with
    followRun := if fmul (m.fpct 0x5040) ph < rabs e then x.followRun + 1 else 0
    openRun := if open_ then x.openRun + 1 else 0, devRun := if dev then x.devRun + 1 else 0 }

/-- The duties of one phase-loop run, once its inputs are valid (R240, R241). -/
def Mod.phaseCore (m : Mod) (n : Nat) (ip dff : Rat) : Mod :=
  let k := m.link n
  let act := m.acts n
  let un := act.filter fun p => decide ((m.phase n p).st ≠ .mirrored)
  let dMin := m.fpar 0x5004 65536
  let dMax := m.fpar 0x5005 65536
  let kp := m.fpar 0x5000 65536
  let e (p : Nat) : Rat := fsub (fmul ip (m.softPart (m.phase n p))) (milli (m.phase n p).i)
  let avg := fdiv (fsum (un.map e)) (un.length : Rat)
  let raw (xl : Rat) (p : Nat) (xp : Rat) : Rat := fsub dff (satD (satD (fmul kp (e p)) + satD (xl + xp)))
  -- lowering the duty raises the output u, so DUTY_MIN is its upper end
  let hiC := un.any fun p => decide (raw k.xLink p (m.phase n p).xp < dMin)
  let loC := un.any fun p => decide (dMax < raw k.xLink p (m.phase n p).xp)
  let sleep := decide (k.st = .burst) && k.burstSleep
  let (xl, bl) := if sleep then (k.xLink, false) else integ k.xLink (fmul (fmul (m.fpar 0x5001 65536) avg) (f32 (1 / 50))) (1 / 2) hiC loC
  let m := (m.satIf n 2 bl).onLink n fun k => { k with xLink := xl, dFf := dff }
  let ki := m.fpar 0x5002 65536
  let tMax := m.fpar 0x5003 65536
  let trim (p : Nat) : Rat × Bool :=
    let x := (m.phase n p).xp
    let r0 := raw k.xLink p x
    integ x (fmul (fmul ki (fsub (e p) avg)) (f32 (1 / 50))) tMax (decide (r0 < dMin)) (decide (dMax < r0))
  let outs := un.map fun p => (p, trim p, raw xl p (trim p).1)
  let m := m.each outs fun m o =>
    let d := clampR dMin dMax o.2.2
    let m := (m.satIf n 1 o.2.1.2).satIf n 0 (decide (d ≠ o.2.2))
    m.onPhase n o.1 fun x => { x with xp := o.2.1.1, duty := (rnear (d * 65536)).toNat, iRef := rnear (fmul ip (m.softPart x) * 1000) }
  let mean := (rnear (fdiv (fsum (outs.map fun o => clampR dMin dMax o.2.2)) (un.length : Rat) * 65536)).toNat
  let m := m.each (act.filter fun p => !un.contains p) fun m p => m.onPhase n p fun x => { x with duty := mean, iRef := rnear (ip * 1000) }
  m.each act fun m p => m.phaseWatch n p ip (e p)

/-- The phase loop of a link on an even tick (R240-R242): without a new mid-point sample its duties hold. -/
def Mod.phaseLoop (m : Mod) (n : Nat) : Mod :=
  let k := m.link n
  if (m.convDef? n).isNone || !k.st.running || decide (k.tripTicks ≠ 0) then m
  else if !k.sampleNew then m
  else
    let m := m.onLink n fun k => { k with sampleNew := false }
    if milli k.vBus ≤ milli k.vStr then m.satIf n 8 true
    else
      let lim := m.phLim n
      let d0 := fdiv (milli k.vStr) (milli k.vBus)
      let dff := clampR (m.fpar 0x5004 65536) (m.fpar 0x5005 65536) d0
      let m := (m.satIf n 0 (decide (dff ≠ d0))).onLink n fun k => { k with dFf := dff }
      let raw (m : Mod) : Rat :=
        if k.st = .burst then (if k.iSref < 0 then -1 else 1) * fmul (m.fpct 0x5013) (m.iPh n) else fdiv k.iTot (m.nAct n : Rat)
      let m := if (m.acts n).isEmpty then m else m.fastAdd n (clampR (-lim) lim (raw m))
      if ((m.acts n).filter fun p => decide ((m.phase n p).st ≠ .mirrored)).isEmpty then m
      else
        let ip := clampR (-lim) lim (raw m)
        let m := (m.satIf n 3 (decide (lim < rabs (raw m)))).onLink n fun k => { k with iPref := ip }
        m.phaseCore n ip dff

/- Phase and link events (R244-R250) -/

/-- Row PRUNE_COMMIT (R247): at the boundary of the third grain after the decision. -/
def pruneCommit (n : Nat) (m : Mod) : Mod :=
  let k := m.link n
  match k.prune with
  | none => m
  | some x =>
    if (m.plan.grainCnt - x.decidedAt).toNat < 3 then m else
      let m := m.onLink n fun k => { k with prune := none }
      let m := m.onPhase n x.phase fun p => if x.shed then (if p.st = .active then p.shed else p)
        else if p.st = .disabled ∨ p.st = .armed then p.arm else p
      m.spread n

/-- Row ARM_TIMER_EXPIRY (Table 6.10). -/
def armTimerExpiry (n p : Nat) (m : Mod) : Mod :=
  let x := m.phase n p
  if x.st = .armed && x.armShed && !x.addPending && decide (500 ≤ x.armTicks) then m.onPhase n p Phase.off else m

/-- Row HICCUP_ENTRY (Table 6.10). -/
def hiccupEntry (n p : Nat) (m : Mod) : Mod :=
  let x := m.phase n p
  if (x.st = .active || x.st = .soft) && decide (m.parN 0x5031 ≤ x.climRun) && decide (0 < x.climRun) then
    if x.retries < m.parN 0x5033 then
      let m := m.onPhase n p fun x => { x with st := .hiccup, timer := 0, climRun := 0, cleanTicks := 0, xp := 0, followRun := 0, openRun := 0, devRun := 0 }
      let m := m.onLink n fun k => { k with respread := true }
      if (m.link n).st.running && decide (m.nOk n = 0) then m.convTrip n else m
    else m.latchPhase n p 2
  else m

/-- Row HICCUP_TIME_EXPIRY (Table 6.10). -/
def hiccupTimeExpiry (n p : Nat) (m : Mod) : Mod :=
  let x := m.phase n p
  if x.st = .hiccup && decide (100 * m.parN 0x5032 ≤ x.timer) then
    (m.onPhase n p fun x => { x with st := .soft, timer := 0, retries := x.retries + 1, duty := (m.link n).dutyFf, iRef := 0 }).onLink n
      fun k => { k with respread := true }
  else m

/-- Row HICCUP_CLEAR_EXPIRY (R246). -/
def hiccupClearExpiry (n p : Nat) (m : Mod) : Mod :=
  let x := m.phase n p
  if decide (0 < x.retries) && decide (100000 * m.parN 0x5034 ≤ x.cleanTicks) then m.onPhase n p fun x => { x with retries := 0, cleanTicks := 0 } else m

/-- Row PHASE_OPEN_DETECT (R249). -/
def phaseOpenDetect (n p : Nat) (m : Mod) : Mod :=
  let x := m.phase n p
  if x.switching && decide (m.parN 0x5052 ≤ x.openRun) then (m.latchPhase n p 1).post 0x5005 n bLink (u8 p) else m

/-- Row PHASE_SENSE_FAIL (R250): MIRRORED, or LATCHED with fewer than two other active phases. -/
def phaseSenseFail (n p : Nat) (m : Mod) : Mod :=
  let x := m.phase n p
  let stuck := decide (m.parN 0x5053 ≤ x.stuckRun) && decide (32768 ≤ 100 * ((x.duty : Int) - x.stuckDuty).natAbs)
  if x.st = .active && (stuck || decide (25 ≤ x.devRun)) then
    let others := (m.acts n).filter fun q => q != p && decide ((m.phase n q).st ≠ .mirrored)
    if others.length < 2 then m.latchPhase n p 3
    else m.onPhase n p fun x => { x with st := .mirrored, timer := 0, stuckRun := 0, devRun := 0 }
  else m

/-- Row MIRROR_TIMEOUT (Table 6.10). -/
def mirrorTimeout (n p : Nat) (m : Mod) : Mod :=
  let x := m.phase n p
  if x.st = .mirrored && decide (200000 ≤ x.timer) then m.latchPhase n p 3 else m

/-- Row PHASE_FOLLOW_LATCH (R244). -/
def phaseFollowLatch (n p : Nat) (m : Mod) : Mod :=
  let x := m.phase n p
  if x.switching && decide (m.parN 0x5041 ≤ x.followRun) then (m.satIf n 9 true).latchPhase n p 4 else m

/-- Row STRING_FOLLOW_STOP (R244). -/
def stringFollowStop (n : Nat) (m : Mod) : Mod :=
  let k := m.link n
  if k.st.running && decide (m.parN 0x5043 ≤ k.followSt) then
    ((m.satIf n 10 true).softStop n true).onLink n fun k => { k with strFollow := true, followSt := 0 }
  else m

/-- Row POWER_FOLLOW_FLAG (R244). -/
def powerFollowFlag (n : Nat) (m : Mod) : Mod :=
  let k := m.link n
  if k.st.running && decide (m.parN 0x5045 ≤ k.followPw) then
    ((m.satIf n 11 true).onLink n fun k => { k with followPw := 0 }).post 0x5006 n bLink (leI 4 (rnear k.pRef) ++ leI 4 (rnear k.pMeas))
  else m

/-- The burst phase: of the available phases, those that n_ok counts (R243), the one with the least run time (R248). -/
def Mod.burstPick (m : Mod) (n : Nat) : Option Nat :=
  m.byRun n false ((List.range (m.nPh n)).filter fun p => (m.phase n p).usable)

/-- Row BURST_ENTRY (R245, R248): every other ACTIVE phase is shed, and no other ARMED one is added; one in another switching state keeps it
(Table 6.10) but is not enabled. The first of the BURST_K periods begins with the next even tick. -/
def burstEntry (n : Nat) (m : Mod) : Mod :=
  let k := m.link n
  if k.st ≠ .run || decide (k.burstRun < 100) || decide (m.par 0x5010 = 0) then m else
    match m.burstPick n with
    | none => m
    | some b =>
      let m := m.each (List.range (m.nPh n)) fun m p => m.onPhase n p fun x =>
        if p = b then x.join k.dutyFf else if x.st = .active then x.shed else if x.st = .armed then { x with addPending := false } else x
      (m.onLink n fun k => { k with
        st := .burst, burstPhase := b, burstMs := m.host.ms, burstLeft := m.parN 0x5012 + 1, burstSleep := false, burstRun := 0, prune := none }).spread n

/-- Row BURST_PHASE_RESELECT (R248): every 10 s. -/
def burstPhaseReselect (n : Nat) (m : Mod) : Mod :=
  let k := m.link n
  if k.st ≠ .burst || decide (m.host.ms - k.burstMs < 10000) then m else
    match m.burstPick n with
    | none => m
    | some b =>
      let m := m.onLink n fun k => { k with burstMs := m.host.ms, burstPhase := b }
      if b = k.burstPhase then m else
        let m := m.onPhase n k.burstPhase fun x => if x.st = .active || x.st = .armed then x.shed else x
        (m.onPhase n b fun x =>
          if !k.burstSleep || x.switching then x.join k.dutyFf
          else if x.st = .armed then { x with armShed := false } else { x.arm with addPending := false }).spread n

/-- The burst sequence of one carrier period (R248); it waits for a burst phase that is still being armed. A phase that becomes ACTIVE beside
the burst phase is shed. A sleeping phase stays armed, so that it wakes with the period. -/
def Mod.burstStep (m : Mod) (n : Nat) : Mod :=
  let k := m.link n
  if k.st ≠ .burst then m else
    let m := m.each ((List.range (m.nPh n)).filter fun p => decide (p ≠ k.burstPhase ∧ (m.phase n p).st = .active)) fun m p => m.onPhase n p Phase.shed
    if (m.phase n k.burstPhase).addPending then m else
    let i := rabs k.iSref
    let ib := fmul (m.fpct 0x5013) (m.iPh n)
    let kk : Rat := (m.par 0x5012 : Rat)
    let sMax := m.parN 0x5014
    let none_ := decide (i < fdiv (fmul ib kk) (kk + (sMax : Rat)))
    let s := if none_ then sMax else if i = 0 then k.burstS else min sMax (rnear (fmul kk (fsub (fdiv ib i) 1))).toNat
    let asleep (m : Mod) (left : Nat) : Mod :=
      (m.onPhase n k.burstPhase fun x => if x.st = .active then { x with st := .armed, armTicks := 10, armShed := false, addPending := false } else x).onLink n
        fun k => { k with burstSleep := true, burstLeft := left, burstS := s }
    if !k.burstSleep then
      if none_ then asleep m 0
      else if 1 < k.burstLeft then m.onLink n fun k => { k with burstLeft := k.burstLeft - 1 }
      else if s = 0 then m.onLink n fun k => { k with burstLeft := m.parN 0x5012, burstS := 0 }
      else asleep m s
    else if none_ then m
    else if 1 < k.burstLeft then m.onLink n fun k => { k with burstLeft := k.burstLeft - 1 }
    else
      (m.onPhase n k.burstPhase fun x => if x.st = .armed && decide (10 ≤ x.armTicks) then { x with st := .active } else x.join k.dutyFf).onLink n
        fun k => { k with burstSleep := false, burstLeft := m.parN 0x5012 }

/-- Row SOFT_STOP_COMPLETE (Table 6.9). -/
def softStopComplete (n : Nat) (m : Mod) : Mod :=
  let k := m.link n
  let dst : LinkState := if k.stopToFault then .fault else .off
  if k.takes (· == .softStop) dst && decide (10 ≤ k.stopRun) then
    (m.linkTo n dst).onLink n fun x => { x with faultFromTraining := false }
  else m

/-- Row SOFT_STOP_TIMEOUT (Table 6.9). -/
def softStopTimeout (n : Nat) (m : Mod) : Mod :=
  let k := m.link n
  if k.takes (· == .softStop) .tripped && decide (m.parN 0x500A ≤ m.host.ms - k.stopMs) then m.convTrip n else m

/- Commands of host software -/

/-- The converter fault-clear command (R245): STATE where the cause of a link in FAULT remains. -/
def convFaultClear (mask : Nat) (m : Mod) : Mod × Nat :=
  let ns := (setBits 32 mask).filter fun n => decide ((m.link n).st = .fault)
  let m := m.each ns fun m n =>
    let k := m.link n
    if k.faultFromTraining then (m.linkTo n .training).onLink n fun k => { k.train with faultFromTraining := false }
    else if k.fault.getLsbD 2 || k.fault.getLsbD 6 then m
    else (m.linkTo n .off).onLink n fun k => { k with strFollow := false, stopToFault := false }
  (m, if ns.any fun n => decide ((m.link n).st = .fault) then 0x8007 else 0)

/-- The phase-clear command (Table 6.10): latched phases of a link that is OFF. -/
def phaseClearCmd (n : Nat) (mask : BitVec 6) (m : Mod) : Mod × Nat :=
  if (m.link n).st ≠ .off then (m, 0x8007)
  else
    let m := m.each (setBits 6 mask.toNat) fun m p => m.onPhase n p fun x =>
      if x.st = .latched then { x.off with st := .disabled, cause := 0 } else x
    (m.onLink n fun k => { k with phaseClear := mask }, 0)

/-- The converter flag-clear and counter-clear commands (R241, R254). -/
def clrConvFlags (mask : Nat) (m : Mod) : Mod := m.each (setBits 32 mask) fun m n => m.onLink n fun k => { k with sat := 0 }
def clrConvCnt (mask : Nat) (m : Mod) : Mod :=
  m.each (setBits 32 mask) fun m n => m.viaPort fun x => x.onLink n fun k => { k with missed := 0, alignErr := 0, trips := 0, holds := 0 }

/- One tick and one grain of a link -/

/-- The timers of one phase in one tick (R246, R247). -/
def Mod.phaseTick (m : Mod) (n p : Nat) : Mod :=
  let x := m.phase n p
  if x = default then m else
    let done := decide (x.st = .soft) && decide (100 * m.parN 0x500B ≤ x.timer + 1)
    let go := decide (x.st = .armed) && x.addPending && decide (10 ≤ x.armTicks)
    let timed := x.st == .hiccup || x.st == .soft || x.st == .mirrored
    let hit := decide (m.parN 0x5031 ≤ x.climRun)
    let m := if go then m.onLink n fun k => { k with respread := true } else m
    let k := m.link n
    m.onPhase n p fun x =>
      let x := { x with
        armTicks := if x.st = .armed then x.armTicks + 1 else x.armTicks, timer := if timed then x.timer + 1 else x.timer
        runTicks := x.runTicks + b2n (x.switching && k.lets p), cleanTicks := if hit then 0 else if 0 < x.retries then x.cleanTicks + 1 else 0 }
      if go then x.enable (m.link n).dutyFf else if done then { x with st := .active, timer := 0 } else x

/-- The timers of a link's port in one tick (R235, R239); while the trip symbol stands no frame leaves and no access waits (R236). -/
def Link.timers (k : Link) : Link :=
  { k with rampTicks := k.rampTicks.map (· + 1), regAcc := if k.tripTicks = 0 then k.regAcc.map fun a => { a with waited := a.waited + 1 } else k.regAcc }

/-- Timers and the loops of one tick of a link (R240), but in the grain of a plan restart (R68). A loop commits when its slot has retired in the
tick (R54); otherwise its outputs hold (R79), and a mid-point sample that no run took is gone with the tick. -/
def Mod.linkLoops (m : Mod) (n : Nat) : Mod :=
  let t := m.plan.tick
  if m.plan.mode = .restarting then m else
  let m := m.each (List.range (m.nPh n)) fun m p => m.phaseTick n p
  let m := if t % 2 = 0 then m.burstStep n else m
  let m := if (m.link n).ranSt then m.stringLoop n else m
  (if (m.link n).ranPh then m.phaseLoop n else m).onLink n fun k => { k with ranSt := false, ranPh := false, sampleNew := k.sampleNew && t % 2 != 0 }

/-- The downstream frames of a link in one tick (R618): in a pair on the module's own lane; unpaired on LA, and on LB with ACTIVE = 0. -/
def Mod.downLanes (m : Mod) (n : Nat) : List Output :=
  let f := m.downFrame n
  if m.paired then [.down n (b2n (!m.oddSlot)) f] else [.down n 0 f, .down n 1 { f with active := false }.sealed]

/-- The port of a link in one tick (R229, R234, R236): an even tick takes the duties of the loops, an odd one repeats them, and the
downstream frames leave unless the trip symbol takes their place. -/
def Mod.portTick (m : Mod) (n : Nat) : Mod :=
  let m := if m.plan.tick % 2 = 0 then m.onLink n fun k => { k with fast := m.fastBlock n } else m
  let m := if (m.link n).tripTicks = 0 then m.each (m.downLanes n) Mod.out else m
  m.onLink n fun k => { k with phaseClear := 0 }

/-- A configured link leaves DARK for TRAINING (Table 6.9). -/
def Mod.leaveDark (m : Mod) (n : Nat) : Mod :=
  if (m.link n).st = .dark then (m.linkTo n .training).onLink n Link.train else m

/-- One tick of a link the module drives (R229, R235, R236, R239, R240). -/
def Mod.linkTick (m : Mod) (n : Nat) : Mod :=
  if (m.convDef? n).isNone then m
  else (((m.leaveDark n).onLink n Link.timers).linkLoops n).portTick n

/-- One tick of the standby's own port (R375): its frames keep it trained. -/
def Mod.portOnlyTick (m : Mod) (n : Nat) : Mod :=
  if (m.convDef? n).isNone then m
  else m.viaPort fun x => ((x.leaveDark n).onLink n Link.timers).portTick n

/-- One grain boundary of a link: the reference computed in the grain before comes into force, the mean phase-current sum of that
grain is kept (R187), and offsets are respread. RUN_TIME is written to flash once per hour of the module's clock (R251). -/
def Mod.linkGrain (m : Mod) (n : Nat) : Mod :=
  if (m.convDef? n).isNone then m else
    let m := m.onLink n fun k => { k with
      stGrain := k.st, iSref := if k.st.running then k.iSrefNext else 0
      iGrain := if k.iAccN = 0 then none else some ((k.iAcc : Rat) / k.iAccN), iAcc := 0, iAccN := 0 }
    let m := if m.host.ms % 3600000 ≠ 0 then m else
      m.each (List.range 6) fun m p => m.onPhase n p fun x => { x with runSaved := x.runTicks }
    if (m.link n).respread then m.spread n else m

/- Registers and points (R251-R255) -/

/-- The link of the module's own port: in the standby it stands apart from the plan's (R375). -/
def Mod.klnkPort (m : Mod) (n : Nat) : Link := if m.standby then tget m.pair.ports n else m.link n

/-- The module sends frames on a link (Table 6.9). -/
def Mod.sends (m : Mod) (n : Nat) : Bool := (m.convDef? n).isSome && decide ((m.klnkPort n).st ≠ .dark) && decide (m.plan.mode ≠ .stopped)

def Mod.klnkStat (m : Mod) (n : Nat) : W32 :=
  let k := m.link n
  let o := m.klnkPort n
  pack [(0, 3, o.fstate), (3, 4, k.st.ctorIdx), (7, 1, b2n o.aligned), (8, 1, b2n (m.acting && m.sends n)), (9, 1, b2n o.tripHeld), (10, 1, b2n o.conflict),
    (11, 1, b2n (k.st == .burst)), (12, 1, b2n (m.inFallow n)), (13, 3, m.nAct n), (16, 3, m.nOk n), (19, 1, b2n o.identOk),
    (20, 11, o.fibreDelay.getD 0)]
def Mod.klnkSat (m : Mod) (n : Nat) : W32 := (m.link n).sat.setWidth 32
def Mod.klnkCnt (m : Mod) (n i : Nat) : W32 :=
  let k := m.klnkPort n
  if i = 0 then pack [(0, 16, k.missed), (16, 16, k.alignErr)] else pack [(0, 16, k.trips), (16, 16, k.holds)]
def Mod.kphStat (m : Mod) (q : Nat) : W32 :=
  let p := m.phase (q / 6) (q % 6)
  pack [(0, 3, p.st.ctorIdx), (4, 4, p.cause), (8, 4, p.retries), (12, 7, stopAt 127 p.climRun)]

/-- The converter points of link `n` (Table 6.13), as integers. -/
def Mod.convPoint (m : Mod) (n o : Nat) : Int :=
  let k := m.link n
  let mA (x : Rat) : Int := rnear (x * 1000)
  if o < 40 then
    match o with
    | 0 => k.st.ctorIdx
    | 1 => k.fstate
    | 2 => rnear k.pRef
    | 3 => rnear k.pMeas
    | 4 => mA k.iSref
    | 5 => k.iStr
    | 6 => k.iSum
    | 7 => k.vStr
    | 8 => k.vBus
    | 9 => k.tHs
    | 10 => m.nAct n
    | 11 => m.nOk n
    | 12 => mA k.iLimDis
    | 13 => mA k.iLimChg
    | 14 => mA k.xPw
    | 15 => mA k.xS
    | 16 => rnear (k.xLink * 65536)
    | 17 => k.sat.toNat
    | 18 => k.fault.toNat
    | 19 => k.fibreDelay.getD 0
    | 20 => k.missed
    | 21 => k.alignErr
    | 22 => k.burstS
    | 23 => k.burstPhase
    | 24 => k.tripCause
    | 25 => k.tripGrain.toNat
    | 26 => k.dutyFf
    | _ => 0
  else
    let p := m.phase n ((o - 40) / 20)
    match (o - 40) % 20 with
    | 0 => p.st.ctorIdx
    | 1 => p.i
    | 2 => p.iRef
    | 3 => p.duty
    | 4 => p.dutyEcho
    | 5 => rnear (p.xp * 65536)
    | 6 => p.offset
    | 7 => p.climRun
    | 8 => p.retries
    | 9 => p.cause
    | 10 => p.runTicks / 100000
    | 11 => p.climTotal
    | _ => 0

end Sys2Proof.Machine
end

