-- ==== Sys2Proof/Machine/Disp.lean ====
section
/-! DEFINITION. Dispatch (spec file 07_dispatch.md): the lease, the profile generator, energy moves, sharing, service and
rest windows. -/

namespace Sys2Proof.Machine

/-- Changes the move. -/
def Mod.onMove (m : Mod) (f : Move → Move) : Mod := m.onDisp fun d => { d with move := d.move.map f }

/-- P_RATED_MOD (R259). -/
def Mod.pMod (m : Mod) : Rat := rsum (strings.map m.pR)

/-- A move runs. -/
def DispSt.moving (d : DispSt) : Bool := d.pstate == .moveRun || d.pstate == .moveBrake

/- Stops and the lease (R260-R263, R277) -/

/-- STOP (R277): a running move is kept. -/
def Mod.performStop (m : Mod) : Mod :=
  match m.disp.pstate with
  | .follow => m.onDisp fun d => { d with pstate := .stopping }
  | .moveRun | .moveBrake => m.onDisp fun d => { d with pstate := .stopping, kept := true }
  | _ => m

/-- The lease ends (R263). -/
def Mod.leaseEnd (m : Mod) : Mod :=
  let m := m.onDisp fun d => { d with owner := none }
  if m.par 0x6003 = 1 && decide (m.disp.src ≠ 0) then
    (if m.disp.pstate = .follow then m.onDisp fun d => { d with srcKept := true } else m)
  else m.performStop

/-- An overshoot in course ends and is recorded (R276). -/
def Mod.overEnd (m : Mod) : Mod :=
  match m.disp.overNow with
  | some o => (m.onDisp fun d => { d with overshoot := o, overNow := none }).post 0x6002 0xFF bFabric (leI 8 (rnear o))
  | none => m

/-- The running or kept move is discarded and its remainder recorded (R274, R277): 0 by MOVE_START, 1 by SET_POWER. -/
def Mod.discardMove (m : Mod) (cause : Nat) : Mod :=
  let m := m.overEnd
  let d := m.disp
  match d.move with
  | some x =>
    let m := if d.moving || d.kept then m.post 0x6003 0xFF bFabric (leI 8 (rnear ((x.e : Rat) - d.q)) ++ u8 cause) else m
    m.onDisp fun d => { d with move := none, kept := false }
  | none => m.onDisp fun d => { d with kept := false }

/-- MOVE_DONE (R275): recorded and sent to the session that started the move. -/
def Mod.moveDone (m : Mod) (session : Nat) (seq : W32) (shortfall : Int) : Mod :=
  let m := m.post 0x6001 0xFF bFabric (leI 8 shortfall)
  m.complete ⟨session, 0x0211, seq.toNat⟩ 0 [⟨0x83, leI 8 shortfall ++ leI 8 (rnear m.disp.overshoot)⟩]

/-- The field check of MOVE_START in the order of R274: its status, 0 where it passes. -/
def Mod.moveFields (m : Mod) (e pMove : Int) : Nat :=
  if e = 0 then 0
  else if pMove = 0 then 0x800A
  else if (decide (m.pMod ≠ 0) && decide (m.pMod < (pMove : Rat))) || decide (2 ^ 62 < e.natAbs) then 0x8005
  else 0

/-- The field that a refusal of MOVE_START names: E or P_MOVE (R419). -/
def DispCmd.details (c : DispCmd) (st : Nat) : List Tlv :=
  if c.opcode = 0x0211 ∧ (st = 0x800A ∨ st = 0x8005) then [detail 0x0051 (if st = 0x8005 ∧ 2 ^ 62 < (c.args.getD 0 0).natAbs then 0 else 8) 0] else []

/-- One command of the generator in its effective grain, its sender owning the lease (R266, R274-R278, R280); `stop` says that
a STOP or TRIP stands in the same grain. Answers the status. -/
def Mod.profileCmd (m : Mod) (c : DispCmd) (stop : Bool) : Mod × Nat :=
  let d := m.disp
  let a (i : Nat) : Int := c.args.getD i 0
  let norated := decide (m.pMod = 0)
  match c.opcode with
  | 0x0210 =>
    if stop || norated then (m, 0x8007)
    else
      let m := m.discardMove 1
      (m.onDisp fun d => { d with setPower := a 0, pstate := .follow, srcKept := false }, 0)
  | 0x0211 =>
    let st := m.moveFields (a 0) (a 1)
    if st ≠ 0 then (m, st)
    else if a 0 = 0 then (if stop then (m, 0x8007) else (m.moveDone c.session c.seq 0, 0))
    else if stop || norated || decide (d.src ≠ 0) then (m, 0x8007)
    else
      let m := m.discardMove 0
      (m.onDisp fun d => { d with
        move := some { e := a 0, pMove := (a 1).toNat, rate := (a 2).toNat, jerk := (a 3).toNat, session := c.session, seq := c.seq }
        moveE := a 0, q := 0, overshoot := 0, pstate := .moveRun, kept := false }, 0)
  | 0x0212 =>
    if stop || norated || decide (d.src ≠ 0) || d.move.isNone || !(d.moving || d.kept) then (m, 0x8007)
    else ((m.onMove fun x => { x with e := a 0, retarget := true }).onDisp fun d => { d with moveE := a 0 }, 0)
  | 0x0214 =>
    if stop || !(d.pstate == .stopping || d.pstate == .stopped) then (m, 0x8007)
    else if d.kept && decide (d.src = 0) && d.move.isSome then (m.onDisp fun d => { d with pstate := .moveRun, kept := false }, 0)
    else (m.overEnd.onDisp fun d => { d with pstate := .follow }, 0)
  | _ => (m, 0x8007)

/-- What a command is answered while the plan is stopped and no grain is to come: ownership, then field values, then the state (R419). -/
def Mod.judgeStopped (m : Mod) (c : DispCmd) : Nat :=
  let own := m.disp.owner == some c.session
  match c.opcode with
  | 0x0201 => if m.disp.owner.isSome then 0x8004 else 0x8007
  | 0x0204 | 0x0213 | 0x0401 => 0x8007
  | 0x0211 =>
    let st := m.moveFields (c.args.getD 0 0) (c.args.getD 1 0)
    if !own then 0x8003 else if st = 0 then 0x8007 else st
  | _ => if own then 0x8007 else 0x8003

/-- The winner of the claims of one grain (R262): the lowest priority number, the first accepted of equals. -/
def claimWinner (c : DispCmd) (rest : List DispCmd) : DispCmd :=
  (rest.filter fun x => x.opcode == 0x0201).foldl (fun b x => if x.prio < b.prio then x else b) c

/-- EST_RESET in its effective grain (R209, R216): a cell (0), a monitor (1) or a string mask (2). -/
def Mod.estResetCmd (m : Mod) (args : List Int) : Mod :=
  let a (i : Nat) : Nat := (args.getD i 0).toNat
  match a 0 with
  | 0 => m.estReset (a 1 / 640) ((m.gcells (a 1 / 640)).filter (· == a 1)) 2
  | 1 => m.estReset (a 1) ((m.gcells (a 1)).filter fun g => g / 16 % 40 == a 2) 2
  | _ => m.each (setBits 32 (a 1)) fun m n => m.estReset n (m.gcells n) 2

/-- The waiting commands in order of acceptance (Tables 7.1, 7.5, R314): statuses in the same order. `won` is the claim that has
taken the lease in this grain, `revoked` says that a revocation stands in it. -/
def Mod.dispRun (stop revoked : Bool) : List DispCmd → Option DispCmd → Mod → List (DispCmd × Nat) → Mod × List (DispCmd × Nat)
  | [], _, m, acc => (m, acc.reverse)
  | c :: rest, won, m, acc =>
    let own := m.disp.owner == some c.session
    let next (m : Mod) (w : Option DispCmd) (st : Nat) := Mod.dispRun stop revoked rest w m ((c, st) :: acc)
    match c.opcode with
    | 0x0201 =>
      if won == some c then next m won 0
      else if m.disp.owner.isSome then next m won 0x8004
      else
        let w := claimWinner c rest
        let m := m.onDisp fun d => { d with owner := some w.session, ownerPrio := w.prio, exp := m.plan.grainCnt + 5000 }
        let m := if m.disp.pstate = .idle && decide (m.disp.src ≠ 0) then m.onDisp fun d => { d with pstate := .follow } else m
        next m (some w) (if w = c then 0 else 0x8004)
    | 0x0202 =>
      if own && !revoked then next (m.onDisp fun d => { d with exp := m.plan.grainCnt + 5000 }) won 0 else next m won 0x8003
    | 0x0203 => if own then next m.leaseEnd won 0 else next m won 0x8003
    | 0x0204 => next m won 0
    | 0x0401 => let r := protClear (c.args.getD 0 0).toNat (c.args.getD 1 0 == 1) m; next r.1 won r.2
    | 0x0213 | 0x0215 => next m won 0
    | 0x0152 => next (m.estResetCmd c.args) won 0
    | _ =>
      if own then (let r := m.profileCmd c stop; next r.1 won r.2) else next m won 0x8003

/-- A change of DISP_SRC takes effect (R266, R269). -/
def Mod.sourceChange (m : Mod) : Mod :=
  let s := m.parN 0x6002
  if s = m.disp.src then m else
    let m := if m.disp.moving then m.performStop else m
    let m := if m.disp.srcFault then m.post 0x6004 0xFF bFabric (u8 m.disp.src ++ u8 0) else m
    m.onDisp fun d => { d with src := s, srcFault := false, srcBad := 0, srcGood := 0, lastTarget := none, srcKept := false }

/-- Row LEASE_EXPIRY (R260, R263): grain EXP has been reached. -/
def leaseExpiry (m : Mod) : Mod :=
  if m.disp.owner.isSome && decide ((m.plan.grainCnt - m.disp.exp).toNat < 2 ^ 31) then m.leaseEnd else m

/-- A waiting command performs STOP: STOP itself, or a TRIP that covers every eligible string (R277, R279). -/
def DispCmd.stops (c : DispCmd) : Bool := c.opcode == 0x0213 || (c.opcode == 0x0215 && c.args == [1])

/-- Dispatch at a grain boundary, parameters already snapshotted: a change of source, the lease's expiry and the commands whose effective
grain this is (R260-R266, R277-R280, R314); in a warm restart of the supervisor, which executes and answers nothing (R420), they wait. STOP and every TRIP bar the generator's commands of the grain (Table 7.5). -/
def Mod.dispBoundary (m : Mod) : Mod × List (DispCmd × Nat) :=
  let cmds := if m.plan.warm then [] else m.disp.cmds
  let m := if m.plan.warm then m else m.onDisp fun d => { d with cmds := [] }
  let m := leaseExpiry m.sourceChange
  let revoked := cmds.any fun c => c.opcode == 0x0204
  let m := if revoked && m.disp.owner.isSome then m.leaseEnd else m
  let bars := cmds.any fun c => c.opcode == 0x0213 || c.opcode == 0x0215
  let (m, r) := Mod.dispRun bars revoked cmds none m []
  (if cmds.any DispCmd.stops then m.performStop else m, r)

/-- The session owns the lease for a command accepted now (R264, Table 7.5): no release of its own waits. -/
def Mod.ownsNow (m : Mod) (sid : Nat) : Bool :=
  m.disp.owner == some sid && !m.disp.cmds.any fun c => c.opcode == 0x0203 && c.session == sid

/- Sources (R266-R269) -/

/-- The target of the analogue source, none in an invalid grain (R267). -/
def Mod.analogTarget (m : Mod) : Option Rat :=
  let a := m.ai (m.parN 0x6008)
  let x : Rat := (a.mean : Rat)
  let lo : Rat := (m.par 0x6009 : Rat)
  let hi : Rat := (m.par 0x600A : Rat)
  let (i0, i1, v0, v1) : Rat × Rat × Rat × Rat :=
    if a.mode = 0 then (-10500000, 10500000, -10000000, 10000000) else (3800000, 20500000, 4000000, 20000000)
  if !a.valid || decide (x < i0) || decide (i1 < x) then none
  else some (lo + (hi - lo) * (clampR v0 v1 x - v0) / (v1 - v0))

/-- The frequencies of PI0 over the last DROOP_AVG grains (R268, R511), whatever the source in force. -/
def Mod.droopWin (m : Mod) : List Rat :=
  if !(m.pi 0).seen then m.disp.droopF else (((m.pi 0).freqMean : Rat) :: m.disp.droopF).take (m.parN 0x6013)

/-- The target of the droop source from its frequency window, none in an invalid grain (R268). -/
def Mod.droopTarget (m : Mod) (w : List Rat) : Option Rat :=
  let p := m.pi 0
  let mean := rdiv (rsum w) w.length
  if p.noPulse || w.isEmpty || decide (mean < 45000) || decide (65000 < mean) then none
  else
    let f0 : Rat := (m.par 0x6010 : Rat)
    let df := mean - f0
    let db : Rat := (m.par 0x6012 : Rat)
    let base : Rat := (m.par 0x6014 : Rat)
    let t := if rabs df ≤ db then base
      else base - (df - rsgn df * db) / (f0 * (m.par 0x6011 : Rat) / 10000) * m.pMod
    let mx : Rat := (m.par 0x6015 : Rat)
    some (clampR (-mx) mx t)

/-- Invalid grains that make a fault of the source in force (R267, R268). -/
def Mod.srcLimit (m : Mod) : Nat := if m.disp.src = 1 then m.parN 0x600B else 10

/-- Row SOURCE_FAULT (R269): as many invalid grains in succession have passed. -/
def sourceFault (m : Mod) : Mod :=
  let d := m.disp
  if d.src ≠ 0 && !d.srcFault && decide (0 < d.srcBad ∧ m.srcLimit ≤ d.srcBad) then
    (m.onDisp fun d => { d with srcFault := true }).post 0x6004 0xFF bFabric (u8 d.src ++ u8 1)
  else m

/-- Row SOURCE_RECOVER (R269): SRC_RECOVER valid grains in succession have passed. -/
def sourceRecover (m : Mod) : Mod :=
  let d := m.disp
  if d.srcFault && decide (0 < d.srcGood ∧ m.parN 0x6018 ≤ d.srcGood) then
    (m.onDisp fun d => { d with srcFault := false }).post 0x6004 0xFF bFabric (u8 d.src ++ u8 0)
  else m

/-- The source in force for one grain: validity, faults and the target (R266-R269). -/
def Mod.sourceStep (m : Mod) : Mod × Rat :=
  let w := m.droopWin
  let m := m.onDisp fun d => { d with droopF := w }
  let d := m.disp
  if d.src = 0 then (m, (d.setPower : Rat))
  else
    match (if d.src = 1 then m.analogTarget else m.droopTarget w) with
    | some x =>
      let m := sourceRecover (m.onDisp fun d => { d with srcBad := 0, srcGood := d.srcGood + 1, lastTarget := some x })
      (m, if m.disp.srcFault then 0 else x)
    | none =>
      let m := sourceFault (m.onDisp fun d => { d with srcBad := d.srcBad + 1, srcGood := 0 })
      (m, if m.disp.srcFault then 0 else d.lastTarget.getD d.p)

/- Eligibility and availability (R281-R283) -/

/-- A string is eligible (R281). -/
def Mod.eligible (m : Mod) (n : Nat) : Bool :=
  let k := m.link n
  (k.st == .softStart || k.st == .run || k.st == .burst) && (m.strDisp n).inService && (m.strEst n).ready && !(m.strDisp n).rest

/-- Availability of a string in one direction, W: magnitude (R282). -/
def Mod.availOf (m : Mod) (n : Nat) (dis : Bool) : Rat :=
  let e := m.strEst n
  let p10 : Rat := if dis then (e.pDis10 : Rat) else -(e.pChg10 : Rat)
  let r := m.pR n
  let f := if dis then m.disFactor n else m.chgFactor n
  let cap := min (r * f) (min (r * rdiv (m.nOk n : Rat) (m.nPh n : Rat)) ((m.par (0x6180 + n) : Rat) * ((m.link n).vStr : Rat) / 1000000))
  max 0 (min p10 (if m.inFallow n then min cap (r / 4) else cap))

/-- A_dis and A_chg of every string and their sums, for one grain (R273, R282). -/
def Mod.availStep (m : Mod) : Mod :=
  let m := m.each strings fun m n =>
    let el := m.eligible n
    let a := if el then f64 (m.availOf n true) else 0
    let c := if el then f64 (-(m.availOf n false)) else 0
    let x := m.strDisp n
    if x.eligible = el && decide (x.aDis = a) && decide (x.aChg = c) then m
    else m.onStrDisp n fun x => { x with eligible := el, aDis := a, aChg := c }
  m.onDisp fun d => { d with
    availDis := dsum (strings.map fun n => (m.strDisp n).aDis), availChg := dsum (strings.map fun n => (m.strDisp n).aChg) }

/- The generator (R270-R276) -/

/-- move_target() of R274 as evaluated in MOVE_RUN, in FP64: the target, and whether the move brakes. -/
def moveTarget (p r q : Rat) (x : Move) (rl jl : Rat) : Rat × Bool :=
  let rem := dsub (f64 (x.e : Rat)) q
  let d := rsgn rem
  if d = 0 then (0, true)
  else if p = 0 || rsgn p = -d then (d * x.pMove, false)
  else
    let ps := rabs (dadd p (ddiv (dmul r (rabs r)) (2 * jl)))
    let es := if ddiv (dmul rl rl) jl ≤ ps then dmul ps (dadd (ddiv ps rl) (ddiv rl jl)) / 2 else dmul ps (dsqrt (ddiv ps jl))
    if es < dmul (rabs rem) (f64 (36 / 10)) then (d * x.pMove, false) else (0, true)

/-- The rate and jerk limits in force (R270). -/
def Mod.profLims (m : Mod) : Rat × Rat :=
  let r : Rat := (m.par 0x6000 : Rat)
  let j : Rat := (m.par 0x6001 : Rat)
  match (if m.disp.moving then m.disp.move else none) with
  | some x => (if 0 < x.rate then min r (x.rate : Rat) else r, if 0 < x.jerk then min j (x.jerk : Rat) else j)
  | none => (r, j)

/-- dt of the generator's step, ms: 1, and after a takeover the skipped grains with it, at most 10 (R270, R389). -/
def Mod.genMs (m : Mod) : Rat := ((min 10 (1 + m.pair.skipped) : Nat) : Rat)

/-- Measured power at the strings, W. -/
def Mod.pMeasAll (m : Mod) : Rat := dsum (strings.map fun n => (m.link n).pMeas)

/-- The delivered count and the overshoot of a move for one grain (R274, R276). -/
def Mod.moveCount (m : Mod) : Mod :=
  let d := m.disp
  match d.move with
  | none => m
  | some x =>
    if !(d.moving || (d.kept && d.pstate == .stopping)) then m else
      let dq := ddiv (dmul m.pMeasAll (f64 (m.genMs / 1000))) (f64 (36 / 10))
      let q := dadd d.q dq
      let rem := dsub (f64 (x.e : Rat)) q
      let over_ := decide (rem ≠ 0 ∧ rsgn d.p = -(rsgn rem))
      let m := m.onDisp fun d => { d with q := q }
      if over_ then m.onDisp fun d => { d with overNow := some (dadd (d.overNow.getD 0) (rabs dq)) } else m.overEnd

/-- The generator's step of one grain (R270), in FP64: row SLOT_RUN's profile stage. An overshoot in course ends with p at 0 (R276). -/
def Mod.profileStep (m : Mod) : Mod :=
  let m := m.availStep.moveCount
  let (m, src) := m.sourceStep
  let d := m.disp
  let (rl, jl) := m.profLims
  let mv := (d.move.getD {})
  let (mt, brake) := moveTarget d.p d.r d.q mv rl jl
  -- MOVE_RUN brakes under R274; a retarget in its effective grain may end MOVE_BRAKE (R276)
  let ps : PState := match d.pstate with
    | .moveRun => if brake then .moveBrake else .moveRun
    | .moveBrake => if mv.retarget && !brake then .moveRun else .moveBrake
    | s => s
  let t0 : Rat := match ps with
    | .follow => src
    | .moveRun => mt
    | _ => 0
  let t0 := f64 t0
  let t := clampR d.availChg d.availDis t0
  let e := dsub t d.p
  let rDes := rsgn e * min rl (dsqrt (dmul (2 * jl) (rabs e)))
  let dt := f64 (m.genMs / 1000)
  let jd := dmul jl dt
  let r := dadd d.r (clampR (-jd) jd (dsub rDes d.r))
  let there := decide (rabs e ≤ dmul (rabs r) dt) && decide (rabs r ≤ jd)
  let p := if there then t else dadd d.p (dmul r dt)
  let r := if there then 0 else r
  let rest := decide (p = 0 ∧ r = 0)
  let done := ps == .moveBrake && rest
  let ps : PState := if done then .idle else if ps == .stopping && rest then .stopped else ps
  let m := m.onDisp fun d => { d with
    p := p, r := r, tgt := t, rLim := rl, pstate := ps, availLim := decide (t ≠ t0), atTarget := decide (p = t ∧ r = 0)
    rateLim := decide (rabs r = rl), reversing := decide (r * (t - p) < 0), move := d.move.map fun x => { x with retarget := false } }
  let m := if done || ps == .stopped then m.overEnd else m
  if done then
    let short := rnear ((mv.e : Rat) - d.q)
    (m.onDisp fun d => { d with shortfallE := short, move := none }).moveDone mv.session mv.seq short
  else m

/- Sharing and rest windows (R283-R292) -/

/-- SOC_STRING of a string, u16. -/
def Mod.socStr (m : Mod) (n : Nat) : Int := clampI 0 65535 (m.strEstPoint n 0)

/-- Zone of a string from its SoC: hysteresis against the zone it is in (R283). -/
def Mod.zoneStep (m : Mod) (n : Nat) : Mod :=
  let x := m.strDisp n
  let soc := m.socStr n
  let h := if x.zoneSet then m.par 0x6023 else 0
  let z0 := if x.zoneSet then x.zone else 0
  let up := (List.range 3).foldl (fun z _ => if z < 3 && decide (m.par (0x6020 + z) + h ≤ soc) then z + 1 else z) z0
  let z := (List.range 3).foldl (fun z _ => if 0 < z && decide (soc < m.par (0x6020 + z - 1) - h) then z - 1 else z) up
  if x.zoneSet && decide (z = x.zone) then m else m.onStrDisp n fun x => { x with zone := z, zoneSet := true }

/-- The steering term g_n (R290). -/
def Mod.steer (m : Mod) (n : Nat) : Rat :=
  let s := m.strEst n
  if !s.restReq || decide (m.par 0x6200 ≠ 1) then 0
  else if (s.restHi : Int) < m.socStr n then 1
  else if m.socStr n < s.restLo then -1
  else 0

/-- Effective weights for one grain (R284, R291). -/
def Mod.weightStep (m : Mod) : Mod :=
  let el := strings.filter fun n => (m.strDisp n).eligible
  let avg : Rat := if el.isEmpty then 0 else rsum (el.map fun n => (m.socStr n : Rat) / 65536) / el.length
  let s := rsgn m.disp.p
  let cm : Rat := m.pct 0x6025
  let slew : Rat := (m.par 0x6026 : Rat) / 1000
  m.each strings fun m n =>
    let x := m.strDisp n
    if !x.eligible then (if x.weight = 0 then m else m.onStrDisp n fun x => { x with weight := 0 })
    else
      let c := clampR (1 - cm) (1 + cm) (1 + s * (m.par 0x6024 : Rat) / 100 * ((m.socStr n : Rat) / 65536 - avg) + s * m.steer n * m.pct 0x6205)
      let w := if x.restDrain then 0 else (m.par (0x6100 + 32 * x.zone + n) : Rat) * c
      m.onStrDisp n fun x => { x with weight := f64 (x.weight + clampR (-slew) slew (w - x.weight)) }

/-- One pass of R285 over the strings still in the set: shares placed, what is left, and the set. -/
def sharePass (wt lim : Nat → Rat) (pos : Bool) : Nat → List Nat → Rat → List (Nat × Rat) → List (Nat × Rat) × Rat
  | 0, _, left, acc => (acc, left)
  | k + 1, set, left, acc =>
    let w := rsum (set.map wt)
    if w = 0 then (acc, left) else
      let q (n : Nat) : Rat := left * wt n / w
      let beyond := set.filter fun n => if pos then decide (lim n < q n) else decide (q n < lim n)
      if beyond.isEmpty then ((set.map fun n => (n, q n)) ++ acc, 0)
      else sharePass wt lim pos k (set.filter fun n => !beyond.contains n) (left - rsum (beyond.map lim)) ((beyond.map fun n => (n, lim n)) ++ acc)

/-- The power of a grain is placed (R285, R286). -/
def Mod.place (m : Mod) : Mod :=
  let p := m.disp.p
  let pos := decide (0 < p)
  let set := strings.filter fun n => (m.strDisp n).eligible && decide (0 < (m.strDisp n).weight)
  let lim (n : Nat) : Rat := if pos then (m.strDisp n).aDis else (m.strDisp n).aChg
  let (sh, left) := sharePass (fun n => (m.strDisp n).weight) lim pos 32 set p []
  let m := m.each strings fun m n =>
    let q := ((sh.find? fun e => e.1 == n).map (·.2)).getD 0
    let q := f32 q
    if (m.link n).pShare = q then m else m.onLink n fun k => { k with pShare := q }
  m.onDisp fun d => { d with short := f64 left, shortfall := decide (m.pMod / 1000 < rabs left) }

/-- Availability of the eligible strings but one in the direction of p, W. -/
def Mod.othersAvail (m : Mod) (n : Nat) : Rat :=
  rsum ((strings.filter fun k => k != n && (m.strDisp k).eligible).map fun k =>
    if m.disp.p < 0 then -(m.strDisp k).aChg else (m.strDisp k).aDis)

/-- A rest window of a string is in force or its weight is falling for one. -/
def StrDisp.resting (x : StrDisp) : Bool := x.rest || x.restDrain

/-- A rest window is aborted (R291): 0 availability, 1 service change, 2 fallow mode. -/
def Mod.restAbort (m : Mod) (n cause : Nat) : Mod :=
  if !(m.strDisp n).resting then m
  else (m.onStrDisp n fun x => { x with rest := false, restDrain := false, restGrains := none }).post 0x6005 n bFabric (u8 cause)

/-- The request of a string is refused (R205, R292), recorded once per request: 0 policy, 1 REST_PEND_MAX. -/
def Mod.restRefuse (m : Mod) (n cause : Nat) : Mod :=
  let again := (m.strEst n).restRefused
  let m := m.onStrEst n fun s => { s with restDenied := true, restRefused := true }
  if again then m else m.post 0x4007 n bFabric (u8 cause)

/-- Requests, grants, refusals by policy, progress and aborts of rest windows in one grain (R289-R292). -/
def Mod.restWindows (m : Mod) : Mod :=
  let m := m.each strings fun m n =>
    if !(m.strDisp n).resting then m
    else if m.modFallow then m.restAbort n 2
    else if m.othersAvail n < rabs m.disp.p then m.restAbort n 0
    else m.onStrDisp n fun x =>
      if x.restDrain && decide (x.weight = 0) then { x with restDrain := false, rest := true, restGrains := some 0 }
      else { x with restGrains := x.restGrains.map (· + 1) }
  let m := m.each strings fun m n =>
    let s := m.strEst n
    if s.restReq && !s.restDenied && decide (m.par 0x6200 = 0) then m.restRefuse n 0 else m
  let ask := (strings.filter fun n => (m.strEst n).restReq && !(m.strDisp n).resting).mergeSort fun a b =>
    decide (m.restStood b ≤ m.restStood a)
  m.each ask fun m n =>
    let s := m.strEst n
    let k := m.link n
    let ok := decide (m.par 0x6200 = 1) && decide (m.par 0x4064 ≤ m.par 0x6201)
      && decide ((strings.filter fun q => (m.strDisp q).resting).length < m.parN 0x6202)
      && (k.st == .run || k.st == .burst) && decide ((s.restLo : Int) ≤ m.socStr n ∧ m.socStr n ≤ s.restHi)
      && !m.inFallow n && decide (rabs m.disp.p * (1 + m.pct 0x6203) ≤ m.othersAvail n)
    if ok then (m.onStrDisp n fun x => { x with restDrain := true, restGrains := none }).onStrEst n fun s => { s with restDenied := false, restGranted := true } else m

/-- The sharing stage of one grain (R281-R291): row SLOT_RUN's sharing stage. -/
def Mod.sharingStep (m : Mod) : Mod :=
  let m := m.availStep
  let m := m.each (strings.filter fun n => (m.strEst n).ready && m.configured n) Mod.zoneStep
  (m.weightStep.restWindows.availStep).place

/-- The power-and-sharing slot of the common bed (R258). -/
def Mod.powerSlot (m : Mod) : Mod := (m.profileStep.sharingStep).each strings Mod.powerLoop

/-- Row REST_WINDOW_END (R291): the first rest anchor applied in the window, or REST_WIN_LEN. -/
def restWindowEnd (n : Nat) (m : Mod) : Mod :=
  let x := m.strDisp n
  match x.restGrains with
  | some k =>
    let anchored := match (m.strEst n).anchorApplied with
      | some g => decide ((m.plan.grainCnt - g).toNat ≤ k)
      | none => false
    if x.rest && (anchored || decide (1000 * m.parN 0x6201 ≤ k)) then
      m.onStrDisp n fun x => { x with rest := false, restGrains := none }
    else m
  | none => m

/-- Row REST_PEND_EXPIRY (R292): a request that has stood REST_PEND_MAX without a grant. -/
def restPendExpiry (n : Nat) (m : Mod) : Mod :=
  let s := m.strEst n
  if s.restReq && !s.restDenied && !s.restGranted && decide (1000 * m.parN 0x6204 ≤ m.restStood n) then m.restRefuse n 1 else m

/- Service (R288) -/

/-- The outcome of a string for every STRING_SERVICE command that waits for it. -/
def Mod.svcMark (m : Mod) (n : Nat) (ok : Bool) : Mod :=
  m.onDisp fun d => { d with jobs := d.jobs.map fun j =>
    if !(j.named.getLsbD n) || (j.done.getLsbD n) || (j.failed.getLsbD n) then j
    else if ok then { j with done := j.done ||| BitVec.ofNat 32 (2 ^ n) } else { j with failed := j.failed ||| BitVec.ofNat 32 (2 ^ n) } }

/-- A string is taken out of service (R288): out of the eligible set, the stop request, then the opening. -/
def Mod.svcOut (m : Mod) (n : Nat) : Mod :=
  (m.onStrDisp n fun x => { x with inService := false, svc := .stopping }).softStop n false

/-- A string fails to enter service (R288): 0 closing, 1 start, 2 estimator, 3 fallow mode. -/
def Mod.svcFail (m : Mod) (n cond : Nat) : Mod :=
  let start := (m.strDisp n).svcStartup
  ((m.post 0x6006 n bSup (u8 cond ++ u8 (b2n start))).svcMark n false).svcOut n

/-- The closing of a string is asked for (R288): not in fallow mode; later where the string is not to be brought into service yet because of its
ring (R117, R122, R169), and at start-up once its estimator is ready. -/
def Mod.svcClose (m : Mod) (n : Nat) : Mod :=
  if m.inFallow n then m.svcFail n 3
  else if m.chainBars n || ((m.strDisp n).svcStartup && !(m.strEst n).ready) then
    m.onStrDisp n fun x => { x with svc := .waitReady }
  else
    let (m, ok) := if m.contClosed n && (m.groupOf n).isSome then (m, true) else m.closeRequest n
    if ok then m.onStrDisp n fun x => { x with svc := .closing } else m.svcFail n 0

/-- A string whose status is set begins its service sequence (R288). -/
def Mod.svcIn (m : Mod) (n : Nat) (startup : Bool) : Mod :=
  if m.eligible n then m.svcMark n true
  else (m.onStrDisp n fun x => { x with inService := true, svcStartup := startup }).svcClose n

/-- The service sequence of one string at a grain boundary (R288). -/
def Mod.svcGrain (m : Mod) (n : Nat) : Mod :=
  match (m.strDisp n).svc with
  | .none => m
  | .waitReady => if m.chainBars n || ((m.strDisp n).svcStartup && !(m.strEst n).ready) then m else m.svcClose n
  | .waitRamp => if (m.link n).st = .localRamp then m else m.svcClose n
  | .closing =>
    if m.contClosed n then
      let (m, ok) := m.startRequest n
      if ok then m.onStrDisp n fun x => { x with svc := .starting } else m.svcFail n (if (m.strEst n).ready then 1 else 2)
    else
      match m.groupOf n with
      | some g => if (m.group g).st = .closing && !m.hasCause n cContFault then m else m.svcFail n 0
      | none => m.svcFail n 0
  | .starting =>
    if m.eligible n then (m.svcMark n true).onStrDisp n fun x => { x with svc := .none }
    else if (m.link n).st.running then m
    else m.svcFail n 1
  | .stopping =>
    if m.linkOff n then (m.serviceOpen n).onStrDisp n fun x => { x with svc := .opening } else m
  | .opening =>
    if m.contState n = 0 || m.contState n = 4 || m.contState n = 6 then
      (m.svcMark n true).onStrDisp n fun x => { x with svc := .none }
    else m

/-- The STRING_SERVICE command (R288), its sender owning the lease. -/
def stringService (o : Origin) (inMask outMask : Nat) (m : Mod) : Mod :=
  let job : SvcJob := { session := o.session, seq := BitVec.ofNat 32 o.seq, named := BitVec.ofNat 32 (inMask ||| outMask) }
  let named := setBits 32 (inMask ||| outMask)
  -- a newer command overtakes one that still waits for the same string
  let m := m.each named fun m n => m.svcMark n false
  let m := m.onDisp fun d => { d with jobs := d.jobs ++ [job] }
  let m := m.each named fun m n => m.restAbort n 1
  let m := m.each (setBits 32 inMask) fun m n => m.svcIn n false
  m.each (setBits 32 outMask) fun m n =>
    let off := decide ((m.link n).st = .off ∨ (m.link n).st = .dark)
    let done := !(m.strDisp n).inService && off && decide ((m.strDisp n).svc = .none)
    if done then m.svcMark n true else m.svcOut n

/-- Row SERVICE_COMPLETE (R288): every string named has succeeded or failed. -/
def serviceComplete (m : Mod) : Mod :=
  let fin (j : SvcJob) : Bool := decide (j.done ||| j.failed = j.named)
  let ready := m.disp.jobs.filter fin
  let m := m.onDisp fun d => { d with jobs := d.jobs.filter fun j => !fin j }
  m.each ready fun m j =>
    m.complete ⟨j.session, 0x0216, j.seq.toNat⟩ (if j.failed = 0 then 0 else 0x8007) [⟨0x54, leN 4 j.done.toNat ++ leN 4 j.failed.toNat⟩]

/-- The TRIP command on a string mask (R279): the opening sequence of every string named that the plan configures; where it
covers every eligible string and there is one, STOP stands in the effective grain with it (R280). -/
def tripCmd (sid : Nat) (mask : Nat) (m : Mod) : Mod :=
  let el := strings.filter m.eligible
  let covers := !el.isEmpty && el.all fun n => mask.testBit n
  let m := m.openSeqs ((setBits 32 mask).filter m.configured) cHostTrip noGidx 0
  if mask = 0 ∨ m.plan.mode = .stopped then m
  else m.onDisp fun d => { d with cmds := d.cmds ++ [{ opcode := 0x0215, session := sid, args := [if covers then 1 else 0] }] }

/- Registers (R293) -/

/-- DISP_STAT. -/
def Mod.dispStat (m : Mod) : W32 :=
  let d := m.disp
  pack [(0, 3, d.pstate.ctorIdx), (3, 2, d.src), (5, 1, b2n d.owner.isSome), (6, 1, b2n d.atTarget), (7, 1, b2n d.rateLim), (8, 1, b2n d.availLim),
    (9, 1, b2n d.shortfall), (10, 1, b2n d.srcFault), (11, 1, b2n d.kept), (12, 1, b2n d.reversing), (13, 1, b2n d.srcKept)]

/-- The s64 register pairs: offset of the low register and value. -/
def Mod.dispWide (m : Mod) (off : Nat) : Option Int :=
  match off with
  | 0xD20 => some m.disp.moveE
  | 0xD28 => some (rnear m.disp.q)
  | 0xD30 => some (rnear m.disp.overshoot)
  | 0xD38 => some m.disp.shortfallE
  | _ => none

/-- The dispatch registers of 32 bits; the pairs are read through `dispWide`. -/
def Mod.dispReg (m : Mod) (off : Nat) : W32 :=
  let d := m.disp
  let s (x : Rat) : W32 := BitVec.ofInt 32 (clampI (-2147483648) 2147483647 (rnear x))
  match off with
  | 0xD00 => m.dispStat
  | 0xD04 => if d.owner.isSome then BitVec.ofNat 32 d.ownerPrio else 0
  | 0xD08 => BitVec.ofNat 32 (d.owner.getD 0)
  | 0xD0C => d.exp
  | 0xD10 => s d.p
  | 0xD14 => s d.r
  | 0xD18 => s d.tgt
  | 0xD1C => s d.short
  | 0xD40 => s d.availDis
  | 0xD44 => s d.availChg
  | 0xD48 => BitVec.ofNat 32 (maskOf (strings.filter fun n => (m.strDisp n).rest))
  | 0xD50 => pack ((List.range 16).map fun i => (2 * i, 2, (m.strDisp i).zone))
  | 0xD54 => pack ((List.range 16).map fun i => (2 * i, 2, (m.strDisp (16 + i)).zone))
  | _ => 0

end Sys2Proof.Machine
end

