-- ==== Sys2Proof/Machine/SafetyFns.lean ====
section
/-! DEFINITION. The safety processor: inputs and their functions, resets, outputs and their tests, fallow expiry, Cloche and
the safety configuration (spec file 09_safety_functions.md). -/

namespace Sys2Proof.Machine

/- Input functions (R334, R335, R338) -/

/-- A function of Table 9.2 moves with its input; `auto` for a door that restarts by itself (Table 9.3). -/
def fnMove (s : FnState) (demand auto : Bool) : FnState :=
  match s, demand with
  | .run, true | .waitReset, true => .demand
  | .demand, false => if auto then .run else .waitReset
  | s, _ => s

/-- A function enters DEMAND or OPEN: recorded (R632). -/
def Mod.recordDemand (m : Mod) (item kind fn scope : Nat) : Mod :=
  m.post 0x8001 item bSafety (u8 kind ++ u8 fn ++ [0, 0] ++ leN 4 scope)

/-- Evaluates the function of safe input `i`. -/
def Mod.evalSi (m : Mod) (i : Nat) : Mod :=
  let f := m.siFunc i
  if f != 1 && f != 2 then m else
    let x := m.si i
    let s := fnMove x.fstate (m.siDemand i) (f == 2 && decide (m.par (0x8050 + i) = 0))
    let new := decide (s = .demand ∧ x.fstate ≠ .demand)
    let m := m.onSi i fun x => { x with
      fstate := s, demandGrain := if new then m.plan.grainCnt else x.demandGrain, demands := x.demands + b2n new }
    if new then m.recordDemand i 0 f (m.siScope i) else m

/-- Evaluates the function of optical input `k` (R338). -/
def Mod.evalOi (m : Mod) (k : Nat) : Mod :=
  if m.oiFunc k = 0 then m else
    let x := m.oi k
    let s := fnMove x.fstate (m.oiDemand k) false
    let new := decide (s = .demand ∧ x.fstate ≠ .demand)
    let m := m.onOi k fun x => { x with
      fstate := s, demandGrain := if new then m.plan.grainCnt else x.demandGrain, demands := x.demands + b2n new }
    if new then m.recordDemand k 1 (m.oiFunc k) (m.oiScope k) else m

/-- RUN_OK and STRING_OK of the plant as consumed (R358). -/
def Mod.plantRunOk (m : Mod) : Bool :=
  let c := m.safety.plant
  if c.st = .run then (rdN c.data 0 1).testBit 0
  else if decide (m.confMask &&& m.parN 0x80A5 = m.confMask) then false else (rdN c.data 0 1).testBit 0
def Mod.plantStringOk (m : Mod) : Nat :=
  let c := m.safety.plant
  let v := rdN c.data 4 4
  if c.st = .run then v else v &&& (0xFFFFFFFF - m.parN 0x80A5)

/-- Evaluates the plant's demands (R358). -/
def Mod.evalPlant (m : Mod) : Mod :=
  if !m.clocheReq then m.onSafety fun s => { s with runOk := .run, strDemand := 0, strWait := 0 } else
    let s := m.safety
    let r := fnMove s.runOk (!m.plantRunOk) false
    let bad : W32 := ~~~(BitVec.ofNat 32 m.plantStringOk)
    let newS := bad &&& ~~~s.strDemand
    let wait := (s.strWait ||| (s.strDemand &&& ~~~bad)) &&& ~~~bad
    let newR := decide (r = .demand ∧ s.runOk ≠ .demand)
    let m := m.onSafety fun s => { s with runOk := r, strDemand := bad, strWait := wait }
    let m := if newR then m.recordDemand 0xFF 2 0 0xFFFFFFFF else m
    if newS ≠ 0 then m.recordDemand 0xFF 2 0 newS.toNat else m

/-- The two buttons of the two-hand enable (Table 9.1), and whether each is pressed or released (R337). -/
def Mod.button (m : Mod) (f : Nat) : Option Nat := (List.range 16).find? fun i => m.siFunc i == f
def Mod.pressed (m : Mod) (f : Nat) : Bool :=
  match m.button f with | some i => m.siDemandA i && m.siDemandB i | none => false
def Mod.released (m : Mod) (f : Nat) : Bool :=
  match m.button f with | some i => !m.siDemandA i && !m.siDemandB i | none => true

/-- A maintenance closing that has not completed is aborted when the two-hand enable leaves ACTIVE (R336). -/
def Mod.maintAbort (m : Mod) : Mod :=
  m.each ((List.range 8).filter fun g => (m.sq g).maint && decide ((m.group g).st = .closing)) fun m g =>
    let i := ((m.members g).findSome? m.maintFor).getD 0xFF
    (m.switchOff g).post 0x8006 g bSafety (u8 i)

/-- Evaluates the two-hand enable (Table 9.4). -/
def Mod.evalTwoHand (m : Mod) : Mod :=
  let l := m.pressed 4
  let r := m.pressed 5
  let s := m.safety
  let set (t : TwoHand) : Mod := m.onSafety fun s => { s with twoHand := t }
  match s.twoHand with
  | .ready => if l || r then m.onSafety fun s => { s with twoHand := .arming, armAt := s.ms, firstL := l } else m
  | .arming =>
    if !(if s.firstL then l else r) then set .blocked
    else if l && r then (if s.ms - s.armAt < m.parN 0x809B then set .active else set .blocked)
    else m
  | .active => if l && r then m else (set .blocked).maintAbort
  | .blocked => if m.released 4 && m.released 5 then set .ready else m

/-- MAINT no longer active while the door is OPEN: groups closed under maintenance are opened with cause SAFE_STOP (R336). -/
def Mod.evalMaint (m : Mod) : Mod :=
  m.each ((List.range 8).filter fun g => (m.sq g).maint && (m.sq g).on) fun m g =>
    match (m.members g).find? m.doorOpen with
    | some n => if m.maintKept n then m else m.safeStateString n
    | none => m

/-- This module asserts BP_TRIP_N (R341, Table 9.9). -/
def Mod.bpNow (m : Mod) : Bool :=
  let all := if m.confMask = 0 then 0xFFFFFFFF else m.confMask
  let s := m.safety
  let wide (sc : Nat) : Bool := decide (sc &&& all = all)
  let siOn (i : Nat) : Bool := (m.siFunc i == 1 || m.siFunc i == 2) && decide ((m.si i).fstate ≠ .run)
  let oiOn (k : Nat) : Bool := m.oiFunc k != 0 && decide ((m.oi k).fstate ≠ .run)
  let strs := (s.strDemand ||| s.strWait).toNat
  let any := (List.range 16).any siOn || (List.range 4).any oiOn || (m.clocheReq && (decide (s.runOk ≠ .run) || strs != 0))
  ((List.range 16).any fun i => siOn i && wide (m.siScope i)) || ((List.range 4).any fun k => oiOn k && wide (m.oiScope k))
    || (m.clocheReq && (decide (s.runOk ≠ .run) || wide strs || !m.plantRunOk))
    || (m.pairOp && any && decide (s.graft.st ≠ .run))
    || s.stops.any fun x => match x.kind with
        | .cores | .critical | .stuck _ => true
        | .fabric => any
        | .fallow | .overrun => false

/- Disagreement (R330, R338) -/

/-- Both or one channel in demand: the disagreement begins or ends (R330). -/
def SafeIn.disagree (x : SafeIn) (differ : Bool) (limit : Nat) : SafeIn :=
  match x.discMs, differ with
  | none, true => { x with discMs := some 0 }
  | some t, false =>
    if t < limit then { x with discMs := none, short := stopAt 0xFFFF (x.short + 1), longest := max x.longest (stopAt 0xFFFF t) }
    else { x with discMs := none }
  | _, _ => x

/-- The clearing sequence of R331, which counts only once a fault has latched. -/
def SafeIn.clearStep (x : SafeIn) (a b : Bool) : SafeIn :=
  if !x.discFault && decide (x.crossFault = 0) then x
  else if x.clrSeq = 0 && a && b then { x with clrSeq := 1 }
  else if x.clrSeq = 1 && !a && !b then { x with clrSeq := 2 }
  else x

/-- The disagreement and the clearing sequence of a safe input (R330-R332): one channel alone is in its demand state, or treated as in it. A RESET
input has channel A alone; an input that is not evaluated, or has no discrepancy check, has no disagreement (Table 9.1). -/
def Mod.judgeSi (m : Mod) (i : Nat) : Mod :=
  let f := m.siFunc i
  let x := m.si i
  let y :=
    if 1 ≤ f ∧ f ≤ 5 then (x.disagree (m.siDemandA i != m.siDemandB i) (m.parN (0x8020 + i))).clearStep (m.siRawA i) (m.siRawB i)
    else if f = 6 then ({ x with discMs := none } : SafeIn).clearStep (m.siRawA i) (m.siRawA i)
    else { x with discMs := none }
  if y = x then m else m.onSi i fun _ => y

/-- The disagreement and the clearing sequence of an optical input (R338). -/
def Mod.judgeOi (m : Mod) (k : Nat) : Mod :=
  let x := m.oi k
  let y := if m.oiFunc k = 0 then { x with discMs := none } else (x.disagree (x.a != x.b) (m.parN (0x806C + k))).clearStep (!x.a) (!x.b)
  if y = x then m else m.onOi k fun _ => y

/-- Judges every disagreement, and evaluates every function, the strings they hold, fallow causes and the trip line (R325, R340, R341, R349). -/
def Mod.evalSafety (m : Mod) : Mod :=
  let m := (m.each (List.range 16) Mod.judgeSi).each (List.range 4) Mod.judgeOi
  let m := m.each (List.range 16) Mod.evalSi
  let m := m.each (List.range 4) Mod.evalOi
  let m := m.evalPlant.evalTwoHand.evalMaint
  let m := m.applyHolds.evalCauses
  let bp := m.bpNow
  m.onSafety fun s => { s with bpOut := bp, bpCount := s.bpCount + b2n (bp && !s.bpOut) }

/- Reset (R339) -/

/-- Enabled sources of RESET_SRC. -/
def Mod.resetSrc (m : Mod) (b : Nat) : Bool := (m.parN 0x809C).testBit b

/-- What a reset would do now: some function, fault, safe stop or connection is ready for it. -/
def Mod.resetActs (m : Mod) : Bool :=
  let s := m.safety
  ((List.range 16).any fun i => (m.siFunc i == 1 || m.siFunc i == 2) && decide ((m.si i).fstate = .waitReset) && !m.siDemand i)
    || ((List.range 4).any fun k => m.oiFunc k != 0 && decide ((m.oi k).fstate = .waitReset) && !m.oiDemand k)
    || ((List.range 16).any fun i => decide ((m.si i).clrSeq = 2)) || ((List.range 4).any fun k => decide ((m.oi k).clrSeq = 2))
    || decide (s.runOk = .waitReset) || decide (s.strWait ≠ 0) || (s.bpHold && !s.bpIn)
    || decide (s.tpFault &&& s.tpGood ≠ 0)
    || ((List.range 8).any fun g => let o := m.sq g
        (o.hsFault && o.hsGood) || (o.lsFault && o.lsGood) || (o.overload && o.loadGood))
    || (decide (s.plant.st = .opening) && s.plant.hasFailed && decide (m.parN 0x80A6 ≤ s.plant.recover))
    || s.stops.any fun x => match x.kind with
        | .fallow => s.fallow.any fun f => f.causes.isEmpty && s.expiredScope f
        | _ => false

/-- A latched fault whose sequence is not complete stands (R331). -/
def Mod.resetLacks (m : Mod) : Bool :=
  ((List.range 16).any fun i => ((m.si i).discFault || decide ((m.si i).crossFault ≠ 0)) && decide ((m.si i).clrSeq < 2))
    || (List.range 4).any fun k => (m.oi k).discFault && decide ((m.oi k).clrSeq < 2)

/-- Functions in WAIT_RESET whose input is released move on, and complete sequences clear their faults (R339). -/
def Mod.resetInputs (m : Mod) : Mod :=
  let m := m.each (List.range 16) fun m i =>
    let d := m.siDemand i
    m.onSi i fun x =>
      let x := if decide (x.fstate = .waitReset) && !d then { x with fstate := .run } else x
      if x.clrSeq = 2 then { x with discFault := false, crossFault := 0, clrSeq := 0, gapMissA := 0, gapMissB := 0 } else x
  m.each (List.range 4) fun m k =>
    let d := m.oiDemand k
    m.onOi k fun x =>
      let x := if decide (x.fstate = .waitReset) && !d then { x with fstate := .run } else x
      if x.clrSeq = 2 then { x with discFault := false, clrSeq := 0 } else x

/-- Output faults whose condition has gone clear at a reset; STUCK alone does not (R345). -/
def Mod.resetOutputs (m : Mod) : Mod :=
  m.each (List.range 8) fun m g => m.onSq g fun o =>
      { o with hsFault := o.hsFault && !o.hsGood, lsFault := o.lsFault && !o.lsGood, overload := o.overload && !o.loadGood }

/-- Safe stops by fallow expiry end at a reset once the causes of their scope are gone (R351); with the last module safe stop the driver of the
role line returns. -/
def Mod.resetStops (m : Mod) : Mod :=
  let s := m.safety
  let done := s.fallow.filter fun f => f.causes.isEmpty && s.expiredScope f
  let endStr := maskOf ((done.filter fun f => !f.mod).map (·.string))
  let endMod := done.any (·.mod)
  let stops := s.stops.filterMap fun x =>
    match x.kind with
    | .fallow =>
      if x.mod then (if endMod then none else some x) else
        let sc := x.scope &&& ~~~(BitVec.ofNat 32 endStr)
        if sc = 0 then none else some { x with scope := sc }
    | _ => some x
  (m.onSafety fun s => { s with
    stops := stops, fallow := s.fallow.filter fun f => !done.contains f
    fallowExp := s.fallowExp &&& ~~~(BitVec.ofNat 32 endStr), fallowExpMod := s.fallowExpMod && !endMod }).driverBack

/-- A reset is accepted (R339), source 0 input, 1 Cloche, 2 command; recorded with its result (R632). It ends the safe stops whose last cause had
cleared before it; one whose last cause it clears itself needs a further reset (R351). -/
def Mod.giveReset (m : Mod) (src : Nat) : Mod :=
  let acts := m.resetActs
  let lacks := m.resetLacks
  let ev (m : Mod) (r : Nat) : Mod := m.post 0x8009 0xFF bSafety (u8 src ++ u8 r)
  let m := m.resetStops.resetInputs.resetOutputs
  let m := m.onSafety fun s => { s with
    runOk := if s.runOk = .waitReset then .run else s.runOk
    strWait := 0, bpHold := s.bpIn, tpFault := s.tpFault &&& ~~~s.tpGood, resets := s.resets + 1
    plant := if decide (s.plant.st = .opening) && s.plant.hasFailed && decide (m.parN 0x80A6 ≤ s.plant.recover)
      then { s.plant with st := .run, discards := 0 } else { s.plant with discards := 0 }
    graft := { s.graft with discards := 0 } }
  let m := m.evalCauses
  let m := if acts then ev m 0 else m
  let m := if lacks then ev m 2 else m
  let m := if !acts && !lacks then ev m 1 else m
  m.evalSafety

/-- The RESET input's channel A opens: a press of 0.1-5.0 s is a reset, a longer one is discarded and recorded (R339). A channel that a fault has
in its demand state counts as open, and no press of it is taken (R332). -/
def Mod.resetRelease (m : Mod) (i : Nat) : Mod :=
  match (m.si i).pressAt with
  | none => m
  | some t =>
    let d := m.safety.ms - t
    let m := m.onSi i fun x => { x with pressAt := none }
    if m.faultA i then m
    else if 5000 < d then m.post 0x8009 0xFF bSafety (u8 0 ++ u8 3)
    else if 100 ≤ d && m.resetSrc 0 then m.giveReset 0
    else m

/-- Row RESET_INPUT_RELEASE. -/
def resetInputRelease (i : Nat) (m : Mod) : Mod :=
  if m.siFunc i = 6 && (m.si i).a then (m.onSi i fun x => { x with a := false }).resetRelease i else m

/-- The level at an input of a module without power: there is nothing that follows from it (log 43). -/
def inputLevel (optical : Bool) (i : Nat) (second level : Bool) (m : Mod) : Mod :=
  if optical then m.onOi i fun x => if second then { x with b := level } else { x with a := level }
  else m.onSi i fun x => if second then { x with b := level } else { x with a := level }

/-- Row SAFE_INPUT_CHANGE (R329): an accepted level of channel A or B of a safe input, or of signal 1 or 2 of an optical
one, and what follows from it. -/
def safeInputChange (optical : Bool) (i : Nat) (second level : Bool) (m : Mod) : Mod :=
  if optical then
    if 4 ≤ i then m else
    let m := m.onOi i fun x => if second then { x with b := level } else { x with a := level }
    if m.oiFunc i = 0 then m else m.evalSafety
  else if 16 ≤ i then m
  else
    let f := m.siFunc i
    if f = 7 then m.feedbackChannel i second level else
      let m := m.onSi i fun x => if second then { x with b := level } else { x with a := level }
      if f = 0 then m
      else if f = 6 then
        if second then m
        else if level then (if m.siDemandA i then m else m.onSi i fun x => { x with pressAt := some m.safety.ms }).evalSafety
        else m.resetRelease i
      else m.evalSafety

/-- Row DISCREPANCY_TIMEOUT (R330, R333, R338): a disagreement at or above its limit latches DISC_FAULT on an input that has the check. -/
def discrepancyTimeout (optical : Bool) (i : Nat) (m : Mod) : Mod :=
  let x := if optical then m.oi i else m.si i
  let limit := if optical then m.parN (0x806C + i) else m.parN (0x8020 + i)
  let checked := if optical then decide (m.oiFunc i ≠ 0) else decide (1 ≤ m.siFunc i ∧ m.siFunc i ≤ 5)
  match x.discMs with
  | none => m
  | some t =>
    if t < limit || x.discFault || !checked then m else
      let f (x : SafeIn) : SafeIn := { x with discFault := true, clrSeq := 0, faultGrain := m.plan.grainCnt }
      let m := if optical then m.onOi i f else m.onSi i f
      (m.post 0x8002 i bSafety (u8 (b2n optical) ++ [0] ++ leN 2 t)).evalCauses

/-- One channel's gap is judged (R332): three in succession without its source's pattern latch CROSS_FAULT. -/
def Mod.gapJudge (m : Mod) (i src : Nat) (missing : Bool) : Mod :=
  let x := m.si i
  let closed := if src = 0 then x.a else x.b
  let n := if closed && missing then (if src = 0 then x.gapMissA else x.gapMissB) + 1 else 0
  let m := m.onSi i fun x => if src = 0 then { x with gapMissA := n } else { x with gapMissB := n }
  if 3 ≤ n && !x.crossFault.getLsbD src then
    (m.onSi i fun x => { x with crossFault := x.crossFault ||| BitVec.ofNat 2 (2 ^ src), clrSeq := 0, faultGrain := m.plan.grainCnt }).post
      0x8003 i bSafety (u8 src)
  else m

/-- Row TEST_PULSE_GAP (R332, R620): the gap of a source at its grain boundary, its own read-back, and the inputs whose
channel of that source, though closed, did not show it. -/
def testPulseGap (src : Nat) (readback : Bool) (missing : List Nat) (m : Mod) : Mod :=
  let g := m.plan.grainCnt
  let last := if src = 0 then m.safety.gapTp0 else m.safety.gapTp1
  if 2 ≤ src || g.toNat % 10 ≠ 5 * src || last = some g then m else
    let bit := BitVec.ofNat 2 (2 ^ src)
    let new := !readback && !m.safety.tpFault.getLsbD src
    let m := m.onSafety fun s => { s with
      gapTp0 := if src = 0 then some g else s.gapTp0, gapTp1 := if src = 1 then some g else s.gapTp1
      tpGood := if readback then s.tpGood ||| bit else s.tpGood &&& ~~~bit
      tpFault := if readback then s.tpFault else s.tpFault ||| bit }
    let m := if new then m.post 0x8004 src bSafety [] else m
    let m := if !readback then m else
      m.each ((List.range 16).filter fun i => decide (1 ≤ m.siFunc i ∧ m.siFunc i ≤ 6) && !(src == 1 && m.siFunc i == 6)) fun m i =>
        m.gapJudge i src (missing.contains i)
    m.evalSafety

/-- Row TWO_HAND_SYNC_EXPIRY (R337). -/
def twoHandSyncExpiry (m : Mod) : Mod :=
  if m.safety.twoHand = .arming ∧ m.parN 0x809B ≤ m.safety.ms - m.safety.armAt then
    m.onSafety fun s => { s with twoHand := .blocked }
  else m

/- Safe outputs (R342-R345) -/

/-- STUCK: critical; every string of the group is tripped with cause SAFE_STOP (R345, Table 9.9). -/
def Mod.sqStuck (m : Mod) (g : Nat) : Mod :=
  if (m.sq g).stuck then m else
    let m := (m.onSq g fun o => { o with stuck := true, faultGrain := m.plan.grainCnt }).post 0x8005 g bSafety (u8 2)
    m.safeStop (.stuck g) false (maskOf (m.members g))

/-- OVERLOAD: both switches open at once, and the group's strings are tripped with cause CONT_FAULT (R345). -/
def Mod.sqOverload (m : Mod) (g : Nat) : Mod :=
  let new := !(m.sq g).overload
  let m := m.onSq g fun o => { o with overload := true, loadGood := false, faultGrain := m.plan.grainCnt }
  let m := m.switchOff g
  let m := if new then m.post 0x8005 g bSafety (u8 3) else m
  m.openSeqs (m.members g) cContFault noGidx 0

/-- The output stage's readback of one output in a safety cycle (R344, R345, Table 9.5): an output that is off is checked against the off levels,
the terminal after 2 ms; the current of one that is on against both limits. The on levels of the nodes are judged after each off-pulse (R343). -/
def Mod.sqMeasure (m : Mod) (x : SqMeas) : Mod :=
  let g := x.sq
  if 8 ≤ g then m else
    let o := m.sq g
    let off := !o.on && o.lowAt.isNone
    let excess := decide (2600 < x.current) || decide (6000 < x.peak)
    let m := m.onSq g fun o => { o with
      vField := x.vField, current := x.current, openLoad := o.openLoad && o.on && decide (x.current < 20), loadGood := !excess
      lowMs := if o.on && decide (x.current < 20) then o.lowMs + 1 else 0, termMs := if off && decide (5000 < x.term) then o.termMs + 1 else 0 }
    if off && (decide (5000 < x.hsNode) || decide (2 ≤ (m.sq g).termMs)) then m.sqStuck g
    else if o.on && excess then m.sqOverload g
    else m

/-- The high side closes 1 ms after the low side, unless what permitted the closing no longer does (R328, R336, R340, R342, R348, R622): row
SQ_HIGH_SIDE_ON. The off-pulses of the output run from its first SQ_TEST_PERIOD: the high side's coincides with the switching, and the low side is the
first (R343, R345). -/
def sqHighSideOn (g : Nat) (m : Mod) : Mod :=
  match (m.sq g).lowAt with
  | none => m
  | some t =>
    if m.safety.ms < t + 1 then m
    else if (m.members g).any m.held || m.safety.fieldLow.getLsbD (g / 4) then m.switchOff g
    else if (m.sq g).maint && decide (m.safety.twoHand ≠ .active) then m.maintAbort
    else if !m.outputPermits g then m.switchOff g
    else
      let m := m.onSq g fun o => { o with
        on := true, lowAt := none, switchMs := some m.safety.ms, switchings := o.switchings + 1, nextLow := true
        pulseAt := m.safety.ms + m.parN 0x8098 / 2, lowMs := 0 }
      let m := m.onGroup g fun x => { x with switchedAt := some m.safety.ms, closingJudge := true }
      if m.fbClosed g then m.closeDone g else m

/-- The next off-pulse of an output: the low side half of SQ_TEST_PERIOD after the high side (R343). -/
def SafeOut.nextPulse (o : SafeOut) (period : Nat) : SafeOut :=
  { o with nextLow := !o.nextLow, pulseAt := o.pulseAt + if o.nextLow then period - period / 2 else period / 2 }

/-- Row OFF_PULSE_TEST (R343): the switch whose test is due is pulsed, in the standby when the active module schedules it; a test that coincides with
a switching, or with a field supply out of range (R622), is skipped for that period. -/
def offPulseTest (g : Nat) (m : Mod) : Mod :=
  let o := m.sq g
  if !o.on || o.pulsing.isSome || !(m.standby || decide (o.pulseAt ≤ m.safety.ms)) then m
  else if o.switchMs = some m.safety.ms || m.safety.fieldLow.getLsbD (g / 4) then m.onSq g fun o => o.nextPulse (m.parN 0x8098)
  else (m.onSq g fun o => { o.nextPulse (m.parN 0x8098) with pulsing := some (!o.nextLow) }).out (.offPulse g (!o.nextLow))

/-- A pulse test passes (R343, Table 9.5): the pulsed node reaches its off level by the end of the pulse, and its on level within 200 us after it. -/
def PulseMeas.passes (x : PulseMeas) (high : Bool) (vField : Nat) : Bool :=
  if high then decide (x.low ≤ 5000 ∧ vField ≤ x.back + 1500) else decide (12000 ≤ x.low ∧ x.back ≤ 1500)

/-- Row OFF_PULSE_END (R343, R345): two failures in successive periods latch the switch's fault, both faults are STUCK. -/
def offPulseEnd (g : Nat) (x : PulseMeas) (m : Mod) : Mod :=
  let o := m.sq g
  match o.pulsing with
  | none => m
  | some high =>
    let pass := x.passes high o.vField
    let m := m.onSq g fun o => { o with pulsing := none, passed := o.passed + b2n pass, failed := o.failed + b2n (!pass) }
    let fails := if pass then 0 else (if high then o.hsFails else o.lsFails) + 1
    let m := m.onSq g fun o => if high then { o with hsFails := fails, hsGood := pass } else { o with lsFails := fails, lsGood := pass }
    let had := if high then o.hsFault else o.lsFault
    if fails < 2 || had then m else
      let m := m.onSq g fun o => { o with
        hsFault := o.hsFault || high, lsFault := o.lsFault || !high, faultGrain := m.plan.grainCnt }
      let m := m.post 0x8005 g bSafety (u8 (b2n (!high)))
      let m := if (m.sq g).hsFault && (m.sq g).lsFault then m.sqStuck g else m
      m.evalCauses

/-- Row OPEN_LOAD_TIMEOUT (R344): 100 ms below 20 mA with the output on. -/
def openLoadTimeout (g : Nat) (m : Mod) : Mod :=
  let o := m.sq g
  if o.on && decide (100 ≤ o.lowMs) && !o.openLoad then
    (m.onSq g fun o => { o with openLoad := true }).post 0x8005 g bSafety (u8 4)
  else m

/-- Row FALLOW_EXPIRY (R351): the scopes whose timer has run out are brought to a safe stop. -/
def fallowExpiry (m : Mod) : Mod :=
  let s := m.safety
  let due := s.fallow.filter fun f => decide (f.expires ≤ s.ms) && !s.expiredScope f
  if due.isEmpty then m else
    let mod := due.any (·.mod)
    let scope := maskOf ((due.filter fun f => !f.mod).map (·.string))
    let m := m.onSafety fun s => { s with fallowExp := s.fallowExp ||| BitVec.ofNat 32 scope, fallowExpMod := s.fallowExpMod || mod }
    let m := m.post 0x8007 0xFF bSafety (u8 (b2n mod) ++ [0, 0, 0] ++ leN 4 (if mod then 0xFFFFFFFF else scope))
    let m := if scope = 0 then m else m.safeStop .fallow false scope
    let m := if mod then m.safeStop .fallow true 0 else m
    m.evalSafety

/- Cloche (R353-R359) -/

/-- Connection IDs (R354, Table 16.5): of this module, of what it receives. -/
def Mod.strapSlot (m : Mod) : Nat := bitsOf m.power.straps.toNat 0 5
def Mod.strapProfile (m : Mod) : Nat := bitsOf m.power.straps.toNat 6 2
def Mod.clocheBase (m : Mod) (slot : Nat) : Nat := 0x4B000000 + m.strapProfile * 0x10000 + slot * 0x100
def Mod.partnerSlot (m : Mod) : Nat := if m.strapSlot % 2 = 1 then m.strapSlot + 1 else m.strapSlot - 1
def Mod.connTx (m : Mod) (graft : Bool) : Nat :=
  if graft then m.clocheBase m.strapSlot + 0x10
  else if m.par 0x80A1 = 0 then m.clocheBase m.strapSlot + 1 else m.parN 0x80A1
def Mod.connRx (m : Mod) (graft : Bool) : Nat :=
  if graft then m.clocheBase m.partnerSlot + 0x10
  else if m.par 0x80A2 = 0 then m.clocheBase m.strapSlot + 2 else m.parN 0x80A2

/-- SEQ after `n`, and the number of steps from one SEQ to another, 0 passed over (R353, R355). -/
def seqNext (n : Nat) : Nat := if 0xFFFFFFFF ≤ n then 1 else n + 1
def seqDist (a b : Nat) : Nat := (b + 0xFFFFFFFF - a) % 0xFFFFFFFF

/-- A string is in its safe state (R340): its link carries the trip symbol or is OFF, and its output is off. The standby's own injector is that of
its port. -/
def Mod.inSafeState (m : Mod) (n : Nat) : Bool :=
  let k := if m.standby then tget m.pair.ports n else m.link n
  (decide (0 < k.tripTicks) || decide ((m.link n).st = .off)) &&
    (match m.groupOf n with | some g => !(m.sq g).on && (m.sq g).lowAt.isNone | none => true)

/-- Remaining time of the fallow scope that expires first, ms; 0 for none. -/
def Mod.fallowLeft (m : Mod) : Nat :=
  let l := (m.safety.fallow.filter fun f => !m.safety.expiredScope f).map fun f => f.expires - m.safety.ms
  match l with
  | [] => 0
  | a :: t => t.foldl min a

/-- A function or a fault awaits a reset. -/
def Mod.resetWait (m : Mod) : Bool :=
  let s := m.safety
  ((List.range 16).any fun i => (m.siFunc i == 1 || m.siFunc i == 2) && decide ((m.si i).fstate = .waitReset))
    || ((List.range 4).any fun k => m.oiFunc k != 0 && decide ((m.oi k).fstate = .waitReset))
    || ((List.range 16).any fun i => decide ((m.si i).clrSeq = 2)) || ((List.range 4).any fun k => decide ((m.oi k).clrSeq = 2))
    || decide (s.runOk = .waitReset) || decide (s.strWait ≠ 0) || (s.bpHold && !s.bpIn) || decide (s.tpFault ≠ 0)
    || ((List.range 8).any fun g => (m.sq g).hsFault || (m.sq g).lsFault || (m.sq g).overload)
    || s.fallow.any fun f => f.causes.isEmpty && s.expiredScope f

/-- DATA of Table 9.11. -/
def Mod.clocheData (m : Mod) : List Byte :=
  let safe := maskOf (strings.filter m.inSafeState)
  let fal := maskOf (strings.filter m.inFallow)
  let si := maskOf ((List.range 16).filter fun i => (m.siFunc i == 1 || m.siFunc i == 2) && decide ((m.si i).fstate ≠ .run))
  let oi := maskOf ((List.range 4).filter fun k => m.oiFunc k != 0 && decide ((m.oi k).fstate ≠ .run))
  let ms := b2n m.modStopped + 2 * b2n m.modFallow + 4 * b2n m.safety.bpOut + 8 * b2n ((List.range 8).any fun g => (m.sq g).stuck)
    + 16 * b2n m.resetWait
  let sf := maskOf ((List.range 16).filter fun i => (m.si i).discFault || decide ((m.si i).crossFault ≠ 0))
  let on := maskOf ((List.range 8).filter fun g => (m.sq g).on)
  let qf := maskOf ((List.range 8).filter fun g => let o := m.sq g; o.hsFault || o.lsFault || o.stuck || o.overload)
  leN 4 safe ++ leN 4 fal ++ leN 2 si ++ leN 1 oi ++ leN 1 ms ++ leN 2 sf ++ leN 1 on ++ leN 1 qf ++ leN 4 m.fallowLeft
    ++ leN 4 m.plan.grainCnt.toNat ++ leN 4 0

/-- One of the two connections. -/
def Mod.cloche (m : Mod) (graft : Bool) : Cloche := if graft then m.safety.graft else m.safety.plant
def Mod.onCloche (m : Mod) (graft : Bool) (f : Cloche → Cloche) : Mod :=
  m.onSafety fun s => if graft then { s with graft := f s.graft } else { s with plant := f s.plant }

/-- The bytes of a frame (Table 9.10): SAFETY_CRC over bytes 0-43. -/
def ClocheFrame.bytes (f : ClocheFrame) : List Byte :=
  let b := leN 2 0x4C43 ++ u8 1 ++ [f.flags] ++ leN 4 f.conn ++ leN 4 f.seq ++ leN 4 f.echo ++ (f.data ++ List.replicate 28 0).take 28
  b ++ leN 4 (crc32c b).toNat

/-- The fields of a frame whose MAGIC, VERSION and SAFETY_CRC are correct (R353, R355). -/
def clocheOf (b : List Byte) : Option ClocheFrame :=
  if b.length = 48 ∧ rdN b 0 2 = 0x4C43 ∧ rdN b 2 1 = 1 ∧ rdN b 44 4 = (crc32c (b.take 44)).toNat then
    some { flags := b.getD 3 0, conn := rdN b 4 4, seq := rdN b 8 4, echo := rdN b 12 4, data := (b.drop 16).take 28 }
  else none

/-- Row CLOCHE_SEND (R354): one frame every CLOCHE_PERIOD on a connection that is not OFF. -/
def clocheSend (graft : Bool) (m : Mod) : Mod :=
  let c := m.cloche graft
  if c.st = .off || (c.txSeq != 0 && decide (m.safety.ms < c.sentMs + m.parN 0x80A3)) then m else
    let seq := seqNext c.txSeq
    let f : ClocheFrame := { conn := m.connTx graft, seq := seq, echo := c.rxSeq
                             flags := BitVec.ofNat 8 (2 * b2n (decide (c.st = .opening))), data := m.clocheData }
    (m.onCloche graft fun c => { c with txSeq := seq, sentMs := m.safety.ms }).out (.cloche graft f.bytes)

/-- A connection fails (R356), causes 0 watchdog, 1 echo lag, 2 SAFE_VALUES: RESET_REQ is consumed as 0 again, and the next frame comes at any SEQ. -/
def Mod.clocheFail (m : Mod) (graft : Bool) (cause : Nat) : Mod :=
  let m := m.onCloche graft fun c => { c with
    st := .failed, hasFailed := true, recover := 0, anySeq := true
    wdogExp := c.wdogExp || cause == 0, wdogs := c.wdogs + b2n (cause == 0), echoLate := c.echoLate || cause == 1 }
  (m.onSafety fun s => { s with resetReq := s.resetReq && graft }).post 0x8008 (b2n graft) bSafety (u8 cause)

/-- The partner's data are taken (R359): its inputs demand on their scopes, and its STRING_SAFE on each string that was not in its safe state here
when the bit rose, for as long as the bit stands (DEDUCED, log 19). -/
def Mod.graftData (m : Mod) (d : List Byte) : Mod :=
  let si := rdN d 8 2
  let oi := rdN d 10 1
  let scope := ((List.range 16).filter si.testBit).foldl (fun a i => a ||| m.siScope i) 0
  let scope := ((List.range 4).filter oi.testBit).foldl (fun a k => a ||| m.oiScope k) scope
  let safe := BitVec.ofNat 32 (rdN d 0 4)
  let own := BitVec.ofNat 32 (maskOf (strings.filter m.inSafeState))
  let held := (m.safety.graftHeld &&& safe) ||| (safe &&& ~~~m.safety.graftSafe &&& ~~~own)
  let new := (BitVec.ofNat 32 scope ||| held) &&& ~~~(m.safety.graftDemand ||| m.safety.graftHeld)
  let m := m.onSafety fun s => { s with graftDemand := BitVec.ofNat 32 scope, graftSafe := safe, graftHeld := held }
  if new ≠ 0 then m.recordDemand 0xFF 3 0 new.toNat else m

/-- An accepted frame (R355-R358). -/
def Mod.clocheAccept (m : Mod) (graft : Bool) (net : Nat) (f : ClocheFrame) : Mod :=
  let c := m.cloche graft
  let ms := m.safety.ms
  let late := decide (m.parN 0x80A4 < ms - c.lastMs)
  let lag := if f.echo = 0 then c.txSeq else seqDist f.echo c.txSeq
  let slow := decide ((m.parN 0x80A4 + m.parN 0x80A3 - 1) / m.parN 0x80A3 + 1 < lag)
  let bad := f.flags.getLsbD 0
  let m := m.onCloche graft fun c => { c with
    rxSeq := f.seq, lastMs := ms, anySeq := false, data := f.data, lastNet := net, echoMax := max c.echoMax lag
    netA := if net = 0 then some ms else c.netA, netB := if net = 1 then some ms else c.netB }
  let fail := late || slow || bad
  let cause := if late then 0 else if slow then 1 else 2
  match c.st with
  | .off => m
  | .run => if fail then m.clocheFail graft cause else if graft then m.graftData f.data else m
  | .failed => m.onCloche graft fun c => { c with st := .opening, recover := 0 }
  | .opening =>
    let n := if fail then 0 else c.recover + 1
    let m := m.onCloche graft fun c => { c with recover := n }
    if m.parN 0x80A6 ≤ n && (graft || !c.hasFailed) then
      let m := m.onCloche graft fun c => { c with st := .run }
      if graft then m.graftData f.data else m
    else m

/-- RESET_REQ of the plant as consumed: its safe value 0 but in RUN (Table 9.13). -/
def Mod.plantResetReq (m : Mod) : Bool := decide (m.safety.plant.st = .run) && (rdN m.safety.plant.data 0 1).testBit 1

/-- Byte 0-27 of the DATA that a connection consumes, as seven words (Table 9.13): the plant's out of RUN are the safe values of R358. The spec
names no safe value for the partner's data: those last taken stay in force until the connection is OFF (log 73). -/
def Mod.consumed (m : Mod) (graft : Bool) (i : Nat) : Nat :=
  let c := m.cloche graft
  if c.st = .off then 0
  else if graft || decide (c.st = .run) then rdN c.data (4 * i) 4
  else match i with
  | 0 => b2n m.plantRunOk
  | 1 => m.plantStringOk
  | _ => 0

/-- A frame is discarded and counted (R355). -/
def Mod.clocheDiscard (m : Mod) (graft : Bool) : Mod := m.onCloche graft fun c => { c with discards := stopAt 0xFFFF (c.discards + 1) }

/-- Row CLOCHE_FRAME_RECEIVE (R353, R355): the payload of a UDP packet from `src` on port `port`, unless the network port drops it (R468), or of the
graft link, which has no port. In OPENING and in FAILED the first frame comes at any SEQ: one such frame for each failure and each opening from OFF (DEDUCED, log 67). A rising
edge of RESET_REQ as consumed is a reset (R339). -/
def clocheFrameReceive (graft : Bool) (src : NetSrc) (frame : List Byte) (port : Nat) (m : Mod) : Mod :=
  let c := m.cloche graft
  let net := src.net
  if c.st = .off || (!graft && (port != 50233 || !m.netAllows net src.addr)) then m
  else match clocheOf frame with
  | none => m.clocheDiscard graft
  | some f =>
    let first := c.anySeq && (decide (c.st = .failed) || decide (c.st = .opening))
    let d := seqDist c.rxSeq f.seq
    let idOk := decide (f.conn = m.connRx graft ∧ f.seq ≠ 0)
    if !graft && idOk && c.rxSeq == f.seq && net != c.lastNet then
      m.onCloche graft fun c => { c with
        netA := if net = 0 then some m.safety.ms else c.netA, netB := if net = 1 then some m.safety.ms else c.netB }
    else if idOk && (first || decide (1 ≤ d ∧ d ≤ 8)) then
      let was := m.safety.resetReq
      let m := m.clocheAccept graft net f
      if graft then m.evalSafety else
        let now := m.plantResetReq
        let m := m.onSafety fun s => { s with resetReq := now }
        let m := if now && !was && m.resetSrc 1 then m.giveReset 1 else m
        m.evalSafety
    else m.clocheDiscard graft

/-- Row CLOCHE_WATCHDOG_EXPIRY (R356). -/
def clocheWatchdogExpiry (graft : Bool) (m : Mod) : Mod :=
  let c := m.cloche graft
  if m.parN 0x80A4 < m.safety.ms - c.lastMs then
    match c.st with
    | .run => (m.clocheFail graft 0).evalSafety
    | .opening => m.onCloche graft fun c => { c with recover := 0 }
    | _ => m
  else m

/-- Row PARTNER_BP_TRIP (R341): asserted, it holds every string; the hold ends at a reset after its release. -/
def partnerBpTrip (asserted : Bool) (m : Mod) : Mod :=
  if !m.paired then m else
    let m := if asserted && !m.safety.bpIn then m.recordDemand 0xFF 4 0 0xFFFFFFFF else m
    (m.onSafety fun s => { s with bpIn := asserted, bpHold := s.bpHold || asserted }).evalSafety

/-- Row FIELD_SUPPLY_CHANGE (R622): a fall below 19.2 V, and the return within 19.2-30.0 V. -/
def fieldSupplyChange (supply mv : Nat) (m : Mod) : Mod :=
  if 2 ≤ supply then m else
    let was := m.safety.fieldLow.getLsbD supply
    let low := decide (mv < 19200) || (was && decide (30000 < mv))
    let bit := BitVec.ofNat 2 (2 ^ supply)
    let m := m.each (List.range 4) fun m i => m.onSq (4 * supply + i) fun o => { o with vField := mv }
    if low = was then m else
      (m.onSafety fun s => { s with fieldLow := if low then s.fieldLow ||| bit else s.fieldLow &&& ~~~bit }).post 0x800B supply
        bSafety (u8 (b2n low) ++ [0] ++ leN 2 mv)

/- The safety cycle (R325) -/

/-- The module runs grains: tick and boundary pass its time. -/
def Mod.grainsRun (m : Mod) : Bool := decide (m.plan.mode ≠ .stopped) && m.plan.firstGrain && !m.roleless

/-- One millisecond of the module's clock for timers in ms and s, and of operating hours (R566; log 5); the wake tones of a ring end by it
(R92, R125). -/
def Mod.msTick (m : Mod) : Mod :=
  ((m.onHost fun h => { h with ms := h.ms + 1 }).onPower fun p => { p with opMs := (p.opMs + 1) % 2 ^ 48 }).lineTick.wakeTick

/- The safety configuration (R326, R327) -/

/-- The identifiers of the 168 values of group 8, ascending. -/
def safeIds : List Nat := rowsSafe.flatMap fun r => (List.range r.count).map (r.base + ·)

/-- The CRC of a configuration (R326). -/
def cfgCrcOf (cfg : Nat → Int) : W32 := crc32c (safeIds.flatMap fun i => leN 4 (uns 32 (cfg i)))

/-- A staged set keeps every rule of R327. -/
def stageOk (cfg : Nat → Int) : Bool :=
  let f (i : Nat) : Int := cfg (0x8000 + i)
  let mode (i : Nat) : Int := cfg (0x8010 + i)
  let one (v : Int) : Nat := ((List.range 16).filter fun i => decide (f i = v)).length
  safeIds.all (fun i => paramInRange i (cfg i) && !zeroRefused i (cfg i))
    && ((List.range 16).all fun i => match (f i).toNat with
        | 1 | 3 | 6 | 7 => decide (mode i = 0)
        | 4 | 5 => decide (mode i = 1)
        | _ => true)
    && decide (one 4 ≤ 1 ∧ one 5 ≤ 1 ∧ one 6 ≤ 1 ∧ one 4 = one 5)
    && ((List.range 16).all fun i => decide (f i ≠ 3) ||
        (List.range 16).any fun j => decide (f j = 2 ∧ cfg (0x8040 + j) = cfg (0x8040 + i)))
    && ((List.range 8).all fun g => let v := cfg (0x8090 + g)
        decide (32 ≤ v) || decide (f (v.toNat / 2) = 7))
    && decide (2 * cfg 0x80A3 ≤ cfg 0x80A4)

/-- A connection begins OPENING (Table 9.13). -/
def Cloche.openConn (c : Cloche) (ms : Nat) : Cloche := { c with st := .opening, recover := 0, lastMs := ms, anySeq := true }

/-- Each group takes the level at the feedback channel assigned to it (R307). -/
def Mod.takeFeedback (m : Mod) : Mod :=
  m.each (List.range 8) fun m g =>
    match m.feedbackOf g with
    | some (i, b) => m.onGroup g fun x => { x with fbClosed := if b then (m.si i).b else (m.si i).a }
    | none => m

/-- A committed configuration takes effect in the safety cycle after its commit (R326, R356). -/
def Mod.commitSafety (m : Mod) (cfg : Tab (Option Int)) : Mod :=
  let m := (m.onSafety fun s => { s with cfg := cfg, commitCfg := none }).takeFeedback
  let crc := cfgCrcOf fun i => m.par i
  let m := m.onSafety fun s => { s with
    cfgCrc := crc, cfgValid := true
    plant := if !m.clocheReq then { s.plant with st := .off } else if s.plant.st = .off then s.plant.openConn s.ms else s.plant
    resetReq := s.resetReq && m.clocheReq }
  m.evalSafety

/-- A millisecond of a module that runs no grains: its ms clock, corrected time (R456), and the times of the role lines (R372). -/
def Mod.idleMs (m : Mod) : Mod := (m.msTick.onTime fun t => t.runNs 1000000).onPair (·.passUs 1000)

/-- Row SAFETY_CYCLE: the safety processor's clock, a committed configuration, disagreement timers, measured outputs, and every function. The module's
time runs with it while the fabric runs no grains. -/
def safetyCycle (meas : List SqMeas) (m : Mod) : Mod :=
  let m := if m.grainsRun then m else m.idleMs
  let m := m.onSafety fun s => { s with ms := s.ms + 1 }
  let m := match m.safety.commitCfg with | some cfg => m.commitSafety cfg | none => m
  let step (x : SafeIn) : SafeIn := { x with discMs := x.discMs.map (· + 1) }
  let m := m.each (List.range 16) fun m i => m.onSi i step
  let m := m.each (List.range 4) fun m k => m.onOi k step
  let m := m.each meas Mod.sqMeasure
  let m := if m.power.state = .failing && m.pair.yieldAt.isNone && decide (3 ≤ m.host.ms - m.power.powerFailMs)
    then m.each (List.range 8) Mod.switchOff else m
  m.evalSafety

/-- Row SAFE_STAGE_EXPIRY (R326). -/
def safeStageExpiry (m : Mod) : Mod :=
  if m.safety.staged.isSome && decide (60000 ≤ m.safety.ms - m.safety.stagedMs) then
    m.onSafety fun s => { s with staged := none }
  else m

/-- The safety-reset command (R339): refused with STATE where RESET_SRC bit 2 is clear. -/
def safetyReset (m : Mod) : Mod × Nat := if m.resetSrc 2 then (m.giveReset 2, 0) else (m, 0x8007)

/-- The safety-counter clear command (R365, R367). -/
def clrSafetyCnt (m : Mod) : Mod :=
  let clr (x : SafeIn) : SafeIn := { x with short := 0, longest := 0 }
  let m := m.each (List.range 16) fun m i => m.onSi i clr
  let m := m.each (List.range 4) fun m k => m.onOi k clr
  let c (x : Cloche) : Cloche := { x with echoLate := false, wdogExp := false }
  m.onSafety fun s => { s with plant := c s.plant, graft := c s.graft }

/-- The functions after a module restart or cold start (Tables 9.2-9.4, R370). -/
def Mod.startFunctions (m : Mod) : Mod :=
  let fst (d : Bool) : FnState := if d then .demand else .waitReset
  let m := m.each (List.range 16) fun m i =>
    if m.siFunc i = 1 || m.siFunc i = 2 then m.onSi i fun x => { x with fstate := fst (m.siDemand i) } else m
  let m := m.each (List.range 4) fun m k => if m.oiFunc k = 0 then m else m.onOi k fun x => { x with fstate := fst (m.oiDemand k) }
  let m := ((m.each (List.range 16) Mod.judgeSi).each (List.range 4) Mod.judgeOi).takeFeedback
  m.onSafety fun s => { s with
    sampled := true, twoHand := .blocked, bpHold := s.bpIn
    runOk := if m.clocheReq then fst (!m.plantRunOk) else .run
    plant := if m.clocheReq then s.plant.openConn s.ms else { s.plant with st := .off }
    graft := if m.pairOp then s.graft.openConn s.ms else { s.graft with st := .off } }

end Sys2Proof.Machine
end

