-- ==== Sys2Proof/Machine/Pair.lean ====
section
/-! DEFINITION. Redundant pairs (spec file 10_pairs_and_live_insertion.md): roles, the logical grain of the standby,
digests, resynchronisation, yields, takeovers, joining and drills. -/

namespace Sys2Proof.Machine

/- The standby's logical run (R375, R378) -/

/-- What a standby sends while the plan runs logically: the line signals and tone tests of its own ring ends. A command frame goes
only into a window that the active module assigns (R97). -/
def Output.ofStandby : Output → Bool
  | .line .. | .toneTest _ => true
  | _ => false

/-- Runs a part of the plan. In the standby it runs for the logical grain of the record at hand, on the recorded inputs and
safety states; nothing it computes reaches a safe output, a contactor or a wire (R375, R378, log 26). -/
def Mod.logical (m : Mod) (f : Mod → Mod) : Mod :=
  if !m.standby then f m else
    match m.pair.record with
    | none => m
    | some r =>
      let adc := { m.adc with convs := r.convs, strs := r.strAdc, ais := r.ais, pis := r.pis }
      let safe := { r.safe with ms := m.safety.ms, cfg := m.safety.cfg }
      let a := f { m with
        sent := [], plan := { m.plan with grainCnt := r.grain }, adc := adc, safety := safe }
      { a with
        sent := a.sent.filter Output.ofStandby ++ m.sent, plan := { a.plan with grainCnt := m.plan.grainCnt }, adc := m.adc, safety := m.safety
        prot := { a.prot with groups := m.prot.groups } }

/-- The plan runs in this module now: it acts, or it holds the record of a logical grain. -/
def Mod.runs (m : Mod) : Bool := !m.standby || m.pair.record.isSome

/-- The recorded frames and window closings of the present tick (R378, Table 10.3); a link without a frame counts one
missed, and its loss is judged as the active judged it. What the replayed transactions miss counts in this module's CHN_CNT1 too: the spec does
not say which module of a pair counts it, and that both do is the model's choice (log 68). -/
def Mod.replayTick (m : Mod) : Mod :=
  match m.pair.record with
  | none => m
  | some r =>
    let t := m.plan.tick
    m.logical fun m =>
      let m := m.each (r.chain.filter fun e => e.1 == t) fun m e => chainResponse e.2.1 e.2.2 m
      let m := m.each (r.closes.filter fun e => e.1 == t) fun m e => chainTransactionClose e.2.1 e.2.2 m
      m.each (m.confStrings.filter fun n => (m.convDef? n).isSome) fun m n =>
        let m := match r.klink.find? fun e => e.1 == t && e.2.1 == n with
          | some e => m.takeFrame n e.2.2 true
          | none => m.takeFrame n { good := false } true
        ((((m.linkLost n).measureDelay n).nowAligned n).unaligned n).regExpiry n

/- The images of beds (R383, R384) -/

/-- The entries of a table from `lo` up to `hi` taken from another. -/
def tslice {α : Type} (src dst : Tab α) (lo hi : Nat) : Tab α :=
  (dst.filter fun e => decide (e.1 < lo)) ++ (src.filter fun e => decide (lo ≤ e.1 ∧ e.1 < hi)) ++ dst.filter fun e => decide (hi ≤ e.1)

/-- An instant of another module's clock on the own one; one before its start counts as its start (log 62). -/
def reMs (srcMs ownMs t : Nat) : Nat := ownMs - (srcMs - t)

def Monitor.ofImage (x : Monitor) (srcMs ownMs : Nat) : Monitor :=
  { x with
    norespMs := x.norespMs.map (reMs srcMs ownMs), authMs := reMs srcMs ownMs x.authMs, heardMs := reMs srcMs ownMs x.heardMs
    taps := (x.taps.map (·.1)).foldl (fun t k => tmod t k fun y => { y with openSince := reMs srcMs ownMs y.openSince }) x.taps }

def Link.ofImage (k : Link) (srcMs ownMs : Nat) : Link :=
  { k with burstMs := reMs srcMs ownMs k.burstMs, stopMs := reMs srcMs ownMs k.stopMs }

/-- Every entry of a table taken from an image. -/
def tconv {α : Type} [DecidableEq α] [Inhabited α] (f : α → α) (t : Tab α) : Tab α := (t.map fun e => (e.1, f e.2)).filter fun e => e.2 ≠ default

/-- The monitors of a bed taken from an image: the position UID table is class P and stays the module's own (Table 3.15). -/
def Mod.monsOfImage (m : Mod) (src : BedImage) (b : Nat) : Tab Monitor :=
  ((List.range 40).map (40 * b + ·)).foldl (fun t i => tmod t i fun x => { x with tableUid := (tget m.chain.mons i).tableUid })
    (tslice (tconv (fun x => x.ofImage src.ms m.host.ms) src.chain.mons) m.chain.mons (40 * b) (40 * b + 40))

/-- A ring taken from an image: what is no class W item stays the module's own (Tables 3.15 and 4.9). -/
def Ring.ofImage (src own : Ring) (srcMs ownMs : Nat) : Ring :=
  { src with
    enumFailMs := reMs srcMs ownMs src.enumFailMs, wakeSince := src.wakeSince.map (reMs srcMs ownMs), wokeMs := src.wokeMs.map (reMs srcMs ownMs)
    owMs := src.owMs.map (reMs srcMs ownMs), balMs := reMs srcMs ownMs src.balMs
    tone := own.tone, wake := own.wake, inv := own.inv, cont := own.cont, reachA := own.reachA, reachB := own.reachB
    crcDiscard := own.crcDiscard, cntMismatch := own.cntMismatch, missing := own.missing, unexpected := own.unexpected
    wakeMsA := own.wakeMsA, wakeMsB := own.wakeMsB, line := own.line, tonePath := own.tonePath, toneTestMs := own.toneTestMs }

/-- A string's estimation taken from an image: the checkpoints, class P, and the buffer that writes them stay the module's own (R216); its waits
count on by the module's own clock. -/
def StrEst.ofImage (src own : StrEst) (srcMs ownMs : Nat) : StrEst :=
  { src with
    ckpts := own.ckpts, ckptBuf := own.ckptBuf, ckptIMax := own.ckptIMax, ckptOpMs := own.ckptOpMs
    restReqAge := src.restReqAge + (srcMs - src.restReqMs), restReqMs := ownMs
    restoreAge := src.restoreAge + (match src.restoreWait with | some t => srcMs - t | none => 0), restoreWait := src.restoreWait.map fun _ => ownMs }

/-- A cell's estimate taken from an image: ANCHOR_AGE and the clock of ANOMALY count on by the module's own clock. -/
def CellEst.ofImage (src : CellEst) (srcMs ownMs : Nat) : CellEst :=
  { src with
    anchorAge := src.anchorAge + (srcMs - src.anchorMs), anchorMs := ownMs
    anomalyAge := src.anomalyAge + (srcMs - src.anomalyMs), anomalyMs := ownMs }

/-- Replaces bed `b` by its image (R383, Table 10.4): the class W state of a string, or of the common bed. -/
def Mod.copyBed (m : Mod) (src : BedImage) (b : Nat) : Mod :=
  if b = 32 then
    { m with
      disp := { src.disp with s64Latch := m.disp.s64Latch }, est := { src.est with strs := m.est.strs, cells := m.est.cells }
      prot := { m.prot with zones := tconv (fun z => { z with sentMs := z.sentMs.map (reMs src.ms m.host.ms) }) src.prot.zones } }
  else
    let one {α : Type} (s d : Tab α) : Tab α := tslice s d b (b + 1)
    { m with
      chain := { m.chain with
        rings := tput m.chain.rings b ((tget src.chain.rings b).ofImage (m.ring b) src.ms m.host.ms), mons := m.monsOfImage src b
        cells := tslice src.chain.cells m.chain.cells (640 * b) (640 * b + 640) }
      est := { m.est with
        strs := tput m.est.strs b ((tget src.est.strs b).ofImage (m.strEst b) src.ms m.host.ms)
        cells := tslice (tconv (fun e => e.ofImage src.ms m.host.ms) src.est.cells) m.est.cells (640 * b) (640 * b + 640) }
      conv := { m.conv with
        links := one (tconv (fun k => k.ofImage src.ms m.host.ms) src.conv.links) m.conv.links, phases := tslice src.conv.phases m.conv.phases (6 * b) (6 * b + 6) }
      prot := { m.prot with
        strs := one src.prot.strs m.prot.strs, therms := tslice src.prot.therms m.prot.therms (640 * b) (640 * b + 640) } }

/-- What images hold of a module (R383). -/
def Mod.parts (m : Mod) : BedImage := { ms := m.host.ms, disp := m.disp, est := m.est, chain := m.chain, conv := m.conv, prot := m.prot }

/-- The instant to which the clocks of an image count (log 47). -/
def imageMs : Nat := 2 ^ 64

/-- The image of bed `b`, as it would stand in a module that has nothing else (R383). -/
def Mod.image (m : Mod) (b : Nat) : BedImage := (({ host := { ms := imageMs } } : Mod).copyBed m.parts b).parts

/- Digests (R380-R382) -/

/-- DIGEST[0]-DIGEST[32] of the present state: CRC-32C over the words of each bed (R380); 0 for a bed not configured (R381). -/
def Mod.digests (m : Mod) : List W32 :=
  (List.range 33).map fun b =>
    if (m.bed? b).isSome then crc32c ((Config.bedWords b (m.image b)).flatMap fun w => leN 4 w.toNat) else 0

/-- The beds whose digests differ from the trailer's: an overrun of the standby changes the digest of its bed, whatever values it left
(R83). -/
def Mod.digestDiff (m : Mod) (trailer : List W32) : List Nat :=
  (List.range 33).filter fun b => m.digests.getD b 0 != trailer.getD b 0 || ((m.bed? b).isSome && (tget m.plan.acct b).thisGrain)

/-- A digest mismatch is recorded (R381, R402-R404). -/
def Mod.mismatch (m : Mod) (grain : W32) (beds : Nat) : Mod :=
  let m := m.onPair fun p => { p with
    bedMiss := p.bedMiss ||| BitVec.ofNat 32 beds, commonMiss := p.commonMiss || beds.testBit 32, mismatches := stopAt 0xFFFF (p.mismatches + 1) }
  m.post 0x9001 0xFF bFabric (leN 4 grain.toNat ++ leN 4 (beds % 2 ^ 32) ++ u8 (b2n (beds.testBit 32)))

/- Readiness (R386) -/

/-- Enumeration of a ring has passed at the standby's own end: every monitor has answered there (R114, R386). -/
def Mod.ringPassed (m : Mod) (n : Nat) : Bool := (m.monAddrs n).all fun a => m.pair.endSeen.contains (n, a)

/-- Every configured link is aligned on the module's own port. -/
def Mod.portsAligned (m : Mod) : Bool :=
  (m.confStrings.filter fun n => (m.convDef? n).isSome).all fun n => if m.standby then (tget m.pair.ports n).aligned else (m.link n).aligned

/-- The standby is ready: a module-scope cause of fallow mode counts as it stands, also where the partner's role keeps fallow mode itself off
(R349, R386). -/
def Mod.standbyReady (m : Mod) : Bool :=
  m.standby && m.pair.sync == .synced && m.safety.graft.st == .run && !m.anySelfFault && m.safety.stops.isEmpty
    && !(m.causesNow.any fun e => e.2.1) && !m.modFallow && m.portsAligned
    && m.confStrings.all m.ringPassed && !(decide (3 ≤ m.pair.hbMiss) && m.pair.partnerRole)

/- Role lines (R371-R374) -/

/-- The link of a module that takes over: the plan's state with the port's training and injector. -/
def Link.withPort (k o : Link) : Link :=
  { k with
    fstate := o.fstate, aligned := o.aligned, tripHeld := k.tripHeld || o.tripHeld, tripTicks := o.tripTicks, conflict := o.conflict
    fault := o.fault, identOk := o.identOk, fibreDelay := o.fibreDelay, trainErrs := o.trainErrs, goodRun := o.goodRun, badRun := o.badRun, ident := o.ident
    regAcc := o.regAcc, regQueue := o.regQueue, missRun := o.missRun, missed := o.missed, alignErr := o.alignErr, trips := o.trips }

/-- The driver may be enabled: the partner's line has read released for 10 us (R372). -/
def PairSt.lineFree (p : PairSt) : Bool := !p.partnerRole && decide (10 ≤ p.releasedUs)

/-- The module's role driver is enabled, `us` ago (R372). -/
def Mod.assertRole (m : Mod) (us : Nat) : Mod := m.onPair fun p => { p with role := true, roleUs := us, join := none }

/-- Row ROLE_POINT (R374). -/
def rolePoint (m : Mod) : Mod :=
  if !m.paired || m.pair.rolePoint.isSome || decide (m.plan.mode = .stopped) || m.anySelfFault || decide (m.power.state = .parked) then m
  else
    let m := m.onPair fun p => { p with rolePoint := some m.host.ms, driverEnabled := true }
    if m.pair.partnerRole then m.toStandby .lanes else m

/-- PAIR_PREFER names this module's slot. -/
def Mod.preferred (m : Mod) : Bool := (m.par 0x9000 == 0) == m.oddSlot

/-- Row PAIR_FORM_WAIT_EXPIRY (R374). -/
def pairFormWaitExpiry (m : Mod) : Mod :=
  match m.pair.rolePoint with
  | none => m
  | some t =>
    let wait := m.parN 0x9001 + if m.preferred then 0 else 200
    if m.paired && !m.pair.role && m.pair.join.isNone && m.pair.driverEnabled && !m.anySelfFault && m.pair.lineFree
        && decide (wait ≤ m.host.ms - t) then m.assertRole 0
    else m

/-- Row ROLE_LINE_CHANGE (R372, R374): the partner's line. The even slot withdraws where the odd line becomes asserted within
20 us of its own; a module past its role point that finds the line asserted joins. -/
def roleLineChange (asserted : Bool) (m : Mod) : Mod :=
  if !m.paired then m else
    let m := m.onPair fun p => { p with partnerRole := asserted, releasedUs := if asserted || p.partnerRole then 0 else p.releasedUs }
    if !asserted then m
    else if m.pair.role && !m.oddSlot && decide (m.pair.roleUs ≤ 20) then m.toStandby .lanes
    else if !m.pair.role && m.pair.rolePoint.isSome && m.pair.join.isNone then m.toStandby .lanes
    else m

/-- Row PARTNER_ABSENT (R373): single operation; the graft connection is closed. -/
def partnerAbsent (m : Mod) : Mod :=
  if !m.paired || m.pair.single then m else
    let m := m.onPair fun p => { p with ptrPresent := false, single := true, partnerReady := false, readySince := none, partnerDown := true }
    let m := m.onSafety fun s => { s with graft := { s.graft with st := .off, recover := 0 }, graftDemand := 0, graftHeld := 0 }
    m.evalCauses

/-- Row PARTNER_PRESENT (R373): the partner's presence pin reads asserted again, and the module is in pair operation. -/
def partnerPresent (m : Mod) : Mod :=
  if !m.paired then m else
    let m := m.onPair fun p => { p with ptrPresent := true, single := false }
    let m := if m.safety.graft.st = .off then m.onSafety fun s => { s with graft := s.graft.openConn s.ms } else m
    m.evalCauses

/-- Row GRAFT_LANE_CHANGE (R376, R377): traffic moves to the lane that is up; with both down the grain lock is lost. -/
def graftLaneChange (lane : Nat) (up : Bool) (m : Mod) : Mod :=
  if !m.paired || decide (1 < lane) then m else
    let bit := BitVec.ofNat 2 (2 ^ lane)
    let lanes := if up then m.pair.lanes ||| bit else m.pair.lanes &&& ~~~bit
    m.onPair fun p => { p with lanes := lanes, hbSeen := p.hbSeen && decide (lanes = 3), grainLock := p.grainLock && decide (lanes ≠ 0), partnerDown := p.partnerDown || decide (lanes = 0) }

/- Firmware versions (R600) -/

/-- The versions of a header, as they are reported to the partner (R600). -/
def FwHeader.versions (h : FwHeader) : PartnerVer := ⟨h.graftProto, h.graftMin, h.graftMax, h.libSupported, h.costSupported⟩

/-- Two modules with these versions are pair-compatible under the running plan (R600); the idle plan names no library. -/
def Mod.versCompat (m : Mod) (a b : PartnerVer) : Bool :=
  let r := m.plan.running
  decide (a.graftMin ≤ b.graftProto ∧ b.graftProto ≤ a.graftMax ∧ b.graftMin ≤ a.graftProto ∧ a.graftProto ≤ b.graftMax)
    && (decide (m.plan.mode = .idle) || (a.libSupported.contains r.libVersion && b.libSupported.contains r.libVersion
      && a.costSupported.contains r.costVersion && b.costSupported.contains r.costVersion))

/-- The bytes of a report of versions, and a report read. -/
def PartnerVer.bytes (v : PartnerVer) : List Byte :=
  let four (l : List W32) : List Byte := (List.range 4).flatMap fun k => leN 4 (l.getD k 0).toNat
  leN 2 v.graftProto ++ leN 2 v.graftMin ++ leN 2 v.graftMax ++ [0, 0] ++ four v.libSupported ++ four v.costSupported
def versionsOf (b : List Byte) : PartnerVer :=
  let four (o : Nat) : List W32 := (List.range 4).map fun k => BitVec.ofNat 32 (rdN b (o + 4 * k) 4)
  ⟨rdN b 0 2, rdN b 2 2, rdN b 4 2, four 8, four 24⟩

/- Joining (R395) -/

/-- The condition that ends a step of joining. -/
def Mod.joinDone (m : Mod) : JoinStep → Bool
  | .lanes => decide (m.pair.lanes ≠ 0) && m.pair.grainLock
  | .plan => decide (m.plan.mode ≠ .stopped) && m.pair.partnerVer.isSome && m.pair.planCopy && !m.pair.incompat
  | .train => m.portsAligned
  | .enumerate => m.confStrings.all m.ringPassed
  | .calibrate => (List.range 3).all fun c => !(m.adcConv c).calRun
  | .cloche => decide (m.safety.graft.st = .run)
  | .resync => decide (m.pair.sync = .synced)
  | .done => false

/-- The step that follows. -/
def JoinStep.next : JoinStep → JoinStep
  | .lanes => .plan
  | .plan => .train
  | .train => .enumerate
  | .enumerate => .calibrate
  | .calibrate => .cloche
  | .cloche => .resync
  | _ => .done

/-- A step begins: the running plan is asked for with the module's versions, the enumeration of its ring ends is asked for, the ADC calibrates, the
graft Cloche connection is opened, or a resynchronisation is asked for. -/
def Mod.joinEnter (m : Mod) (s : JoinStep) : Mod :=
  let m := m.onPair fun p => { p with join := some s }
  match s with
  | .plan =>
    (m.onPair fun p => { p with planCopy := false, partnerVer := none, incompat := false }).out
      (.graft 7 m.plan.grainCnt m.upd.running.versions.bytes)
  | .enumerate => (m.onPair fun p => { p with endSeen := [] }).out (.graft 25 m.plan.grainCnt [])
  | .calibrate => (adcCtrlCal 1 m).1
  | .cloche => if m.safety.graft.st = .off then m.onSafety fun x => { x with graft := x.graft.openConn x.ms } else m
  | .resync => m.onPair fun p => { p with resyncDue := true, resyncFails := 0, resyncWait := none }
  | _ => m

/-- Advances through the steps whose condition holds. -/
def Mod.joinRun : Nat → Mod → Mod
  | 0, m => m
  | k + 1, m =>
    match m.pair.join with
    | some s => if m.joinDone s then Mod.joinRun k (m.joinEnter s.next) else m
    | none => m

/-- Row JOIN_PAIR (R395): the steps in order, each as soon as its condition holds. -/
def joinPair (m : Mod) : Mod :=
  if m.standby && m.pairOp && m.pair.partnerRole && m.pair.rolePoint.isSome then
    Mod.joinRun 8 (if m.pair.join.isNone then m.toStandby .lanes else m)
  else m

/- Resynchronisation (R384, R385) -/

/-- Sub-step RESYNC_GRAIN (R384): the image of a record, and the exchange blocks of the beds not yet replaced. -/
def Mod.resyncGrain (m : Mod) (bed : Option Nat) (image : Option BedImage) (exch : List (Nat × BedImage)) : Mod :=
  let m := match bed, image with
    | some b, some src =>
      if m.pair.sync = .images then
        (m.copyBed src b).onPair fun p => { p with replaced := if p.replaced.contains b then p.replaced else b :: p.replaced, resyncBed := b }
      else m
    | _, _ => m
  if m.pair.sync = .images then m.each (exch.filter fun e => !m.pair.replaced.contains e.1 && (m.bed? e.1).isSome) fun m e => m.copyBed e.2 e.1 else m

/-- A resynchronisation fails (R385). -/
def Mod.resyncFail (m : Mod) : Mod :=
  let n := m.pair.resyncFails + 1
  if 3 ≤ n then
    (m.onPair fun p => { p with
      resyncFails := 0, resyncDue := false, resyncFrom := none, sync := .none, resyncBed := 0x3F
      resyncWait := some (m.host.ms + 1000 * m.parN 0x9006) }).post 0x9002 0xFF bFabric []
  else m.onPair fun p => { p with resyncFails := n, resyncDue := true }

/-- Row RESYNC_RETRY_EXPIRY (R385). -/
def resyncRetryExpiry (m : Mod) : Mod :=
  match m.pair.resyncWait with
  | some t => if m.standby && decide (t ≤ m.host.ms) then m.onPair fun p => { p with resyncWait := none, resyncDue := true } else m
  | none => m

/-- The standby at the end of a physical grain (R381, R382, R384): digests compared where they count, the record done with. -/
def Mod.standbyEnd (m : Mod) : Mod :=
  match m.pair.record with
  | none => m.onPair fun p => { p with noRecord := p.noRecord + 1 }
  | some r =>
    let counts := m.pair.sync == .synced || m.pair.sync == .verifying
    let bad := if counts then m.digestDiff r.trailer else []
    let m := m.onPair fun p => { p with record := none, logical := some r.grain }
    if bad.isEmpty then m.onPair fun p => { p with verified := if p.sync = .verifying then stopAt 31 (p.verified + 1) else p.verified }
    else
      let m := (m.mismatch r.grain (maskOf bad)).out (.graft 8 r.grain (leN 5 (maskOf bad)))
      if m.pair.sync = .verifying then m.resyncFail
      else m.onPair fun p => { p with sync := .none, resyncDue := true, resyncFails := 0 }

/-- The activation grain that the active module named has come (R75, R385): a resynchronisation restarts at it, and a standby that is not ready
does not switch, but is sent the running plan. -/
def Mod.activationPoint (m : Mod) (g : W32) : Mod :=
  if m.plan.scheduled ≠ some g || m.standbyReady then m
  else (m.onPlan fun p => { p.abandon with staged := none, scheduled := none }).onPair fun p => { p with resyncDue := p.resyncDue || p.resyncFrom.isSome }

/-- The standby at boundary of grain `g` (R384): the steps of Table 10.4; the active module is told the boundary at which one begins. A resynchronisation in which a record to be compared is missing
has not had every digest match, and counts as failed (log 72). -/
def Mod.resyncBoundary (m : Mod) (g : W32) : Mod :=
  let m := m.activationPoint g
  if m.pair.resyncDue && m.pair.resyncWait.isNone then
    (m.onPair fun p => { p with
      resyncDue := false, resyncFrom := some g, sync := .images, resyncBed := 32, replaced := [], verified := 0
      resyncs := stopAt 0xFFFF (p.resyncs + 1) }).out (.graft 24 g [])
  else
    match m.pair.resyncFrom with
    | none => m
    | some s =>
      let k := (g - s).toNat
      if k < 33 then m
      else if k < 64 then m.onPair fun p => { p with sync := .verifying, resyncBed := 0x3F }
      else if m.pair.verified < 31 then m.resyncFail
      else m.onPair fun p => { p with sync := .synced, resyncBed := 0x3F, resyncFrom := none, resyncFails := 0 }

/- Heartbeats (R375, R382, R388) -/

/-- Row HEARTBEAT_MISS (R382, R388): no trailer by tick 10; GRAFT_LOST while the partner's line stays asserted. -/
def heartbeatMiss (m : Mod) : Mod :=
  let p := m.pair
  if !m.standby || !m.pairOp || p.join.isNone || p.hbThis || p.hbJudged || decide (m.plan.tick < 10) then m else
    let n := stopAt 3 (p.hbMiss + 1)
    let lost := p.partnerRole && decide (n = 3) && decide (p.hbMiss < 3)
    let m := m.onPair fun p => { p with hbJudged := true, hbMiss := n, hbNoYield := 0, graftLost := p.graftLost || lost }
    if lost then m.post 0x9005 0xFF bFabric [] else m

/-- Safe outputs follow the active module's requests (R375): closed where the safety functions permit it, else open. -/
def Mod.followContact (m : Mod) (req : BitVec 8) : Mod :=
  let m := m.onPair fun p => { p with contactReq := req }
  m.each (List.range 8) fun m g =>
    let o := m.sq g
    if req.getLsbD g then
      if o.on || o.lowAt.isSome || !m.outputPermits g then m.onSq g fun o => { o with reqOn := true }
      else
        (m.onSq g fun o => { o with
          reqOn := true, lowAt := some m.safety.ms, maint := (m.closers g).any fun n => (m.maintFor n).isSome }).onGroup g fun x => { x with st := .closing, switchedAt := none }
    else if o.on || o.lowAt.isSome then m.switchOff g
    else if o.reqOn then m.onSq g fun o => { o with reqOn := false }
    else m

/-- Row STANDBY_REPLAY_TIMEOUT (R375): no record for 10 grains. -/
def standbyReplayTimeout (m : Mod) : Mod :=
  if m.standby && decide (10 ≤ m.pair.noRecord) then m.followContact 0 else m

/-- The header of a record (R379, Table 10.2): bed image `bed`, `resync` while the standby resynchronises, `ex` with exchange blocks. The seven sections of
the inputs stand in every record. -/
def ReplayRec.header (r : ReplayRec) (resync ex : Bool) : List Byte :=
  let flags := b2n r.handover.isSome + 2 * b2n r.drill + 4 * b2n resync + 8 * b2n ex
  let h := leN 4 0x4B585250 ++ leN 2 1 ++ leN 2 flags ++ leN 4 r.grain.toNat ++ leN 4 r.planId.toNat
    ++ leN 4 ((r.handover.map (·.toNat)).getD 0) ++ u8 (r.resyncBed.getD 0xFF) ++ u8 0 ++ leN 2 (7 + b2n r.resyncBed.isSome + b2n ex)
    ++ List.replicate 36 0
  h ++ leN 4 (crc32c h).toNat

/-- The digest trailer of a record (R381). -/
def ReplayRec.trailerBytes (r : ReplayRec) : List Byte :=
  let d := (List.range 33).flatMap fun b => leN 4 (r.trailer.getD b 0).toNat
  d ++ leN 4 (crc32c d).toNat

/-- The digests of a grain are formed where its digest slots have retired, and hold otherwise (R54, R79, R380). -/
def Mod.formDigests (m : Mod) : Mod := if m.pair.digestRan then m.onPair fun p => { p with digests := m.digests } else m

/-- The record of the grain that ends: what was recorded in it, and what its end gives (R378, R379, Table 10.3). -/
def Mod.replayRec (m : Mod) : ReplayRec :=
  let p := m.pair
  { p.cap with
    grain := m.plan.grainCnt, planId := if m.plan.mode = .idle then 0 else m.plan.running.planId, handover := p.yieldAt
    drill := p.yieldAt.isSome && p.yieldDrill, rings := m.confStrings.map fun n => (n, m.ringSeen n)
    convs := m.adc.convs, strAdc := m.adc.strs, ais := m.adc.ais, pis := m.adc.pis, safe := m.safety
    owner := m.disp.owner, ownerPrio := m.disp.ownerPrio, exp := m.disp.exp
    epoch := m.time.epoch, servo := m.time.servo, timeValid := m.time.timeValid
    contact := BitVec.ofNat 8 (maskOf ((List.range 8).filter fun g => (m.sq g).reqOn)), trailer := p.digests }

/-- A grain of the active module of a pair ends (R376, R381, R384): its record is formed, the beds' images are taken as it left them, and the grain
marker leaves. -/
def Mod.formRecord (m : Mod) : Mod :=
  let m := m.formDigests
  let imgs := ((List.range 33).filter fun b => (m.bed? b).isSome).map fun b => (b, m.image b)
  (m.onPair fun p => { p with held := some (m.replayRec, imgs) }).out (.graft 18 (m.plan.grainCnt + 1) [])

/-- The bed whose image goes with the record sent in grain `k` of a resynchronisation (Table 10.4). -/
def resyncBedAt : Nat → Option Nat
  | 0 => some 32
  | k + 1 => if k < 32 then some k else none

/-- The record leaves in tick 2 of the grain after (R381), with what Table 10.4 adds to it; with both lanes down none does. -/
def Mod.sendReplay (m : Mod) : Mod :=
  match m.pair.held with
  | none => m
  | some (r, imgs) =>
    let m := m.onPair fun p => { p with held := none }
    if m.pair.lanes = 0 then m else
      let k := m.pair.resyncFrom.map fun s => (r.grain + 1 - s).toNat
      let image := (k.bind resyncBedAt).bind fun b => imgs.find? fun e => e.1 == b
      let ex := if k.any fun k => decide (k < 33) then imgs else []
      let r := { r with resyncBed := image.map (·.1) }
      m.out (.record (r.header (k.any fun k => decide (k < 64)) !ex.isEmpty) r (image.map (·.2)) ex r.trailerBytes)

/- Yields and takeovers (R387-R393) -/

/-- Row YIELD_ROLE_RELEASE (R387): 20 us before boundary T. The plan runs to that boundary, and record T - 1 is still sent. -/
def yieldRoleRelease (m : Mod) : Mod :=
  match m.pair.yieldAt with
  | some t =>
    if m.pair.role && decide (m.plan.grainCnt + 1 = t) && decide (98 ≤ m.plan.tick) then
      m.canInhibit.onPair fun p => { p with role := false, lastRecord := some t }
    else m
  | none => m

/-- Boundary T of a yield (R387, R391): the former active module becomes the standby, and resynchronises. -/
def Mod.yielded (m : Mod) : Mod := (m.toStandby .resync).onPair fun p => { p with formerActive := true, drillDue := false, resyncDue := true }

/-- R393: what the new active does with a link as it finds it. -/
def Mod.examineLink (m : Mod) (n : Nat) : Mod :=
  let k := m.link n
  if k.fstate = 7 || k.fault.getLsbD 7 then
    let m := (m.latchCause n cSafeStop noGidx 0).linkTo n .tripped
    let m := m.onLink n fun k => { k with tripHeld := true, tripClear := false }
    if m.par 0x9005 = 1 && !m.held n then (m.dropCause n cSafeStop).releaseTrip n else m
  else if k.fstate = 5 || k.fstate = 6 then
    let m := m.linkTo n .localRamp
    if m.inService n then m.onStrDisp n fun x => { x with svc := .waitRamp, svcStartup := false } else m
  else m

/-- The module takes the active role at this boundary: its driver is enabled since the partner's line had read released for 10 us, and the frames that
begin while neither line is asserted are the missed ones of R398 (R372, R388). An activation that was scheduled is cancelled (R76): at a takeover after the active
module's failure, and at a cold one, that it is cancelled too is the model's choice (log 73). -/
def Mod.takeRole (m : Mod) (kind : Nat) : Mod :=
  let m := m.cancelActivation 2
  let s := match m.pair.logical with | some l => (m.plan.grainCnt - l).toNat - 1 | none => 0
  let drill := m.pair.announcedDrill && m.pair.announced.isSome
  let missed := m.pair.releasedUs / 10 + if m.oddSlot then 0 else (30 - m.pair.releasedUs) / 10
  let m := (m.assertRole (m.pair.releasedUs - 10)).onPair fun p => { p with
    cap := {}, held := none, sync := .none, resyncBed := 0x3F, resyncFrom := none, resyncDue := false, record := none, hbMiss := 0, hbNoYield := 0
    takeovers := stopAt 0xFFFF (p.takeovers + 1), lastTakeoverMs := m.power.opMs, lastTakeoverGrain := m.plan.grainCnt
    skipped := if kind = 2 then 0 else s, announced := none, announcedDrill := false, drillDue := false, drillOverdue := false
    drillCheck := if drill then some m.plan.grainCnt else none, drillHandoverOk := decide (kind = 0 ∧ missed ≤ 3), drillReady := false
    partnerReady := false, readySince := none, formerActive := false }
  let m := m.onTime fun t => { t with servo := .acquiring, lockRun := 0, unlockRun := 0, holdSince := none }
  let ports := m.pair.ports
  let m := m.each (m.confStrings.filter fun n => (m.convDef? n).isSome) fun m n => m.onLink n fun k => k.withPort (tget ports n)
  let m := m.forget (if kind ≠ 2 ∧ s = 0 then m.disp.cmds else [])
  (m.onPair fun p => { p with ports := [] }).post 0x9003 0xFF bFabric (u8 kind ++ u8 (min 255 s))

/-- A cold takeover (R392): the replicated state of every bed is discarded, rings are enumerated, estimators restored, links start from DARK, and the
strings in service, a class P status (R288), are taken back into it once their estimators are ready; safe outputs stay. -/
def Mod.coldTakeover (m : Mod) : Mod :=
  let m := (m.takeRole 2).post 0x9004 0xFF bFabric []
  let m := m.onPair fun p => { p with coldTakeover := true }
  let served := m.confStrings.filter m.inService
  let m := m.each (List.range 33) fun m b => m.copyBed {} b
  let m := m.each m.confStrings fun m n => ((m.linkTo n .dark).onLink n Link.train).startEnum n false
  let m := m.estStart m.power.opMs (some 0)
  m.each served fun m n => m.onStrDisp n fun x => { x with inService := true, svc := .waitReady, svcStartup := true }

/-- The case in which the standby takes over at this boundary (R388): orderly (0) or after a failure (1); never while the partner's line is
asserted. -/
def Mod.takeoverDue (m : Mod) : Option Nat :=
  let p := m.pair
  if !m.standby || !p.driverEnabled || decide (m.plan.tick ≠ 0) || p.partnerRole || decide (m.plan.mode = .stopped) then none
  else if decide (p.announced = some m.plan.grainCnt ∧ 10 ≤ p.releasedUs) then some 0
  else if decide (100 ≤ p.releasedUs ∧ (3 ≤ p.hbMiss ∨ 3 ≤ p.hbNoYield)) then some 1
  else none

/- Drills (R397, R398) -/

/-- The conditions under which a drill runs. -/
def Mod.drillMay (m : Mod) : Bool :=
  m.canYield && (match m.pair.readySince with | some t => decide (60000 ≤ m.host.ms - t) | none => false)
    && strings.all (fun n => !((m.link n).st == .softStart || (m.link n).st == .softStop)) && m.plan.scheduled.isNone
    && m.safety.fallow.isEmpty && m.safety.stops.isEmpty

/-- Row DRILL_DUE (R397): a drill falls due, and runs in the first grain that allows it. -/
def drillDue (m : Mod) : Mod :=
  if !m.pairOp || !m.pair.role || decide (m.par 0x9002 ≠ 1) || m.pair.yieldAt.isSome then m else
    let due := decide (1000 * m.parN 0x9003 ≤ m.power.opMs - m.pair.lastTakeoverMs)
    let m := if due && !m.pair.drillDue then m.onPair fun p => { p with drillDue := true, drillDueMs := m.host.ms, drillOverdue := false } else m
    if m.pair.drillDue && m.drillMay then m.yield true else m

/-- Row DRILL_OVERDUE (R397). -/
def drillOverdue (m : Mod) : Mod :=
  if m.pair.drillDue && !m.pair.drillOverdue && decide (1000 * m.parN 0x9004 ≤ m.host.ms - m.pair.drillDueMs) then
    (m.onPair fun p => { p with drillOverdue := true }).post 0x9006 0xFF bFabric []
  else m

/-- Row DRILL_CHECK (R398): 200 grains after the handover. -/
def drillCheck (m : Mod) : Mod :=
  match m.pair.drillCheck with
  | none => m
  | some t =>
    if (m.plan.grainCnt - t).toNat < 200 then m else
      let ok := m.pair.drillHandoverOk && m.pair.drillReady
      let m := m.onPair fun p => { p with drillCheck := none, drills := if ok then stopAt 0xFFFF (p.drills + 1) else p.drills, drillFail := p.drillFail || !ok }
      if ok then m else m.post 0x9007 0xFF bFabric (u8 (b2n m.pair.drillHandoverOk))

/-- The pair-counter clear command (R402-R404). -/
def clrPairCnt (m : Mod) : Mod :=
  m.onPair fun p => { p with
    drillFail := false, commonMiss := false, coldTakeover := false, graftLost := false, bedMiss := 0, takeovers := 0, resyncs := 0, mismatches := 0
    drills := 0 }

/-- The partner reports whether it is ready (R386), which a drill waits for (R398). -/
def Mod.partnerReport (m : Mod) (ready : Bool) : Mod :=
  m.onPair fun p => { p with
    partnerReady := ready, readySince := if ready then some (p.readySince.getD m.host.ms) else none
    drillReady := p.drillReady || (ready && p.drillCheck.any fun t => decide ((m.plan.grainCnt - t).toNat ≤ 200)) }

/- Field forward (R376, R396) -/

/-- The lock of the partner's ring ends as it reports them (R145). -/
def setLocks (v : W32) (l : List (Nat × Bool)) : W32 :=
  l.foldl (fun v e => if e.2 then v ||| BitVec.ofNat 32 (2 ^ e.1) else v &&& ~~~(BitVec.ofNat 32 (2 ^ e.1))) v

/-- The bit of the module's own ring end in a field of two (R371). -/
def Mod.ownBit (m : Mod) : BitVec 2 := if m.oddSlot then 1 else 2

/-- The tone at the partner's ring end, as it reports it. -/
def Mod.partnerTone (m : Mod) (n : Nat) (tone : BitVec 2) : Mod := m.onRing n fun r => { r with tone := (r.tone &&& m.ownBit) ||| (tone &&& ~~~m.ownBit) }

/-- Row FIELD_FORWARD: the active takes the frames, continuity, locks and tones of the partner's end; the standby sends what its own ring ends
have, with whether it is ready. -/
def fieldForward (resps : List (Nat × ChainResp)) (ends : List (Nat × EndObs)) (tones : List (Nat × BitVec 2)) (ready : Bool)
    (m : Mod) : Mod :=
  if !m.pairOp then m
  else if m.standby then if m.pair.lanes = 0 then m else m.out (.field resps ends tones (some m.standbyReady))
  else
    let m := m.each resps fun m e => m.chainResponseTaken e.1 e.2
    let m := m.each ends fun m e => m.onRing e.1 fun r => { r with cont := e.2.cont }
    let m := m.onPair fun p => { p with partnerLock := setLocks p.partnerLock (ends.map fun e => (e.1, e.2.lock)) }
    let m := m.each tones fun m e => m.partnerTone e.1 e.2
    m.partnerReport ready

/- Registers (R402-R404) -/

def Mod.pairStat (m : Mod) : W32 :=
  let p := m.pair
  pack [(0, 1, b2n m.pairOp), (1, 1, b2n m.roleLine), (2, 1, b2n p.partnerRole), (3, 1, b2n (if m.standby then m.standbyReady else p.partnerReady)),
    (4, 2, p.sync.ctorIdx), (6, 6, p.resyncBed), (12, 2, p.hbMiss), (14, 1, b2n p.yieldAt.isSome), (15, 1, b2n (m.paired && m.oddSlot)),
    (16, 1, b2n p.drillDue), (17, 1, b2n p.drillFail), (18, 1, b2n p.commonMiss), (19, 1, b2n p.incompat), (20, 1, b2n p.coldTakeover),
    (21, 1, b2n p.graftLost)]
def Mod.graftStat (m : Mod) : W32 :=
  let p := m.pair
  pack [(0, 2, p.lanes.toNat), (2, 1, b2n p.ptrPresent), (3, 1, b2n p.grainLock), (16, 16, p.trailerUs)]

/-- The pair registers by offset. -/
def Mod.pairReg (m : Mod) (off : Nat) : W32 :=
  let p := m.pair
  match off with
  | 0x1200 => m.pairStat
  | 0x1204 => m.graftStat
  | 0x1208 => p.bedMiss
  | 0x120C => pack [(0, 16, p.takeovers), (16, 16, p.resyncs)]
  | 0x1210 => pack [(0, 16, p.mismatches), (16, 16, p.drills)]
  | _ => 0

end Sys2Proof.Machine
end

