-- ==== Sys2Proof/Machine/Time.lean ====
section
/-! DEFINITION. Time and synchronisation (spec file 12_time_and_synchronisation.md): offsets, the servo, steps, parents, the
transparent clock, and the time registers. -/

namespace Sys2Proof.Machine

/- Ports and parents (R454, R455, R464) -/

/-- One port's clock. -/
def TimeSt.ptp (t : TimeSt) (p : Nat) : PtpPort := if p = 0 then t.portA else t.portB
def Mod.onPtp (m : Mod) (p : Nat) (f : PtpPort → PtpPort) : Mod :=
  m.onTime fun t => if p = 0 then { t with portA := f t.portA } else { t with portB := f t.portB }

/-- PTP runs on a port and SP1 serves it. -/
def Mod.ptpOn (m : Mod) (p : Nat) : Bool :=
  decide (p < 2) && decide (m.par 0xA0D0 = 1) && decide (m.par (0xA008 + 48 * p) ≠ 0) && decide (m.par (0xA009 + 48 * p) = 1) && !m.supDown

/-- The members by which IEEE 1588-2019 compares the datasets of two grandmasters, and two datasets of one grandmaster; the lesser is the
better. -/
def Announce.key (a : Announce) : List Nat := [a.prio1, a.clockClass, a.accuracy, a.variance, a.prio2, a.gmId]
def Announce.path (a : Announce) : List Nat := [a.stepsRemoved, a.source]

/-- Lexicographic order of two datasets. -/
def keyLt : List Nat → List Nat → Bool
  | x :: xs, y :: ys => if x < y then true else if y < x then false else keyLt xs ys
  | _, _ => false

/-- Announce `a` is the better of the two. -/
def Announce.better (a b : Announce) : Bool := if a.gmId = b.gmId then keyLt a.path b.path else keyLt a.key b.key

/-- The port whose Announce is the best of the two; equal ones keep the port in use, or choose PTP_PREF_PORT (R464). -/
def Mod.bestPort (m : Mod) : Option (Nat × Announce) :=
  match m.time.portA.best, m.time.portB.best with
  | none, none => none
  | some a, none => some (0, a)
  | none, some b => some (1, b)
  | some a, some b =>
    if a.better b then some (0, a) else if b.better a then some (1, b)
    else
      let keep := match m.time.parent with | some x => x.1 | none => m.parN 0xA0D2
      if keep = 0 then some (0, a) else some (1, b)

/-- The eight bytes of a clockIdentity as received, big-endian. -/
def be8 (n : Nat) : List Byte := (leN 8 n).reverse

/-- Selects the parent anew; a change of grandmaster or port is recorded and leaves INCR and the state as they are (R464); a change of its
currentUtcOffset is reported (R455). -/
def Mod.selectParent (m : Mod) : Mod :=
  match m.bestPort with
  | none => m
  | some (p, a) =>
    let old := m.time.parent
    let utc := if a.ptpScale then a.utcOffset else m.parN 0xA0E5
    let same := match old with | some x => decide (x.1 = p) && decide (x.2.1 = a.gmId) | none => false
    let m := if m.time.utcOffset = utc then m else m.out (.utcOffset utc)
    let m := m.onTime fun t => { t with
      parent := some (p, a.gmId, a.source), utcOffset := utc
      lastSync := if same then t.lastSync else m.host.ms, lastPair := if same then t.lastPair else none
      delays := if same then t.delays else [], pendSync := if same then t.pendSync else none }
    match old with
    | some x => if same then m else m.post 0xA005 p bNet (be8 x.2.1 ++ be8 a.gmId)
    | none => m

/-- Row PTP_ANNOUNCE_RECEIVE (R454, R455, R464). -/
def ptpAnnounceReceive (p : Nat) (f : PtpAnnounce) (m : Mod) : Mod :=
  if !m.ptpOn p || decide ((f.domain : Int) ≠ m.par 0xA0D1) || decide (m.parN 0xA0E1 < f.a.clockClass) then m else
    let a := { f.a with ms := m.host.ms }
    let take := match (m.time.ptp p).best with
      | some b => decide (b.source = a.source) || a.better b
      | none => true
    if take then (m.onPtp p fun x => { x with best := some a }).selectParent else m

/-- Row ANNOUNCE_TIMEOUT (R454): PTP_ANN_TIMEOUT intervals of 1 s without an Announce. -/
def announceTimeout (p : Nat) (m : Mod) : Mod :=
  match (m.time.ptp p).best with
  | some a => if 1000 * m.parN 0xA0D6 ≤ m.host.ms - a.ms then (m.onPtp p fun x => { x with best := none }).selectParent else m
  | none => m

/- Offsets and the servo (R459-R463) -/

/-- INCR for a servo output in ppb, held within 100 ppm (R456), and whether it was clamped. -/
def incrOf (ppb : Rat) : Nat × Bool :=
  let v := rnear (0x08000000 * (1 + ppb / 1000000000))
  ((clampI 0x07FFCB92 0x0800346E v).toNat, decide (v < 0x07FFCB92 ∨ 0x0800346E < v))

/-- The servo output an INCR stands for, ppb. -/
def ppbOf (incr : Nat) : Rat := ((incr : Rat) / 0x08000000 - 1) * 1000000000

/-- The servo steers INCR (R456, R460). -/
def Mod.steerIncr (m : Mod) (out : Rat) : Mod :=
  let (v, c) := incrOf out
  m.onTime fun t => { t with incr := v, incrClamp := t.incrClamp || c, outputs := (out :: t.outputs).take 64 }

/-- INCR is saved in the cold frame (R469). -/
def Mod.saveIncr (m : Mod) : Mod :=
  (if m.power.cfResponding then m.onPower fun p => { p with savedIncr := BitVec.ofNat 32 m.time.incr } else m).onTime fun t =>
    { t with lastSave := m.host.ms }

/-- One step of the law of the state (R460): the slew of ACQUIRING, or the proportional-integral law of LOCKED. -/
def Mod.servoRun (m : Mod) (o : Int) : Mod :=
  let t := m.time
  let mx : Rat := (m.par 0xA0D4 : Rat) * 1000
  if t.servo = .locked then
    let i := clampR (-mx) mx (t.integral - (m.par 0xA0DE : Rat) / 1000 * o)
    let m := m.onTime fun t => { t with integral := i }
    m.steerIncr (clampR (-mx) mx (i - (m.par 0xA0DD : Rat) / 1000 * o))
  else
    let mag : Rat := min mx (o.natAbs : Rat)
    m.steerIncr (clampR (-mx) mx (t.integral - (if o < 0 then -mag else mag)))

/-- A taken offset is judged by Table 12.2; the jump test comes first. -/
def Mod.servoJudge (m : Mod) (p : Nat) (o : Int) : Mod :=
  let t := m.time
  let a := o.natAbs
  let lock := decide (a ≤ m.parN 0xA0DC)
  if m.parN 0xA0D3 * 1000 < a then
    (m.onTime fun t => { t with servo := .acquiring, jumpRefused := true, lockRun := 0, unlockRun := 0, holdSince := none }).post 0xA003 p bNet
      (leI 8 o)
  else
    match t.servo with
    | .free => m
    | .acquiring =>
      if lock && decide (3 ≤ t.lockRun) then
        (m.onTime fun t => { t with servo := .locked, lockRun := 0, unlockRun := 0, integral := ppbOf t.incr }).saveIncr
      else m.onTime fun t => { t with lockRun := if lock then t.lockRun + 1 else 0 }
    | .locked =>
      let out := decide (m.parN 0xA0D5 * 1000 < a)
      if out && decide (3 ≤ t.unlockRun) then m.onTime fun t => { t with servo := .acquiring, lockRun := 0, unlockRun := 0 }
      else m.onTime fun t => { t with unlockRun := if out then t.unlockRun + 1 else 0 }
    | .holdover =>
      let m := m.onTime fun t => { t with
        servo := if lock then .locked else .acquiring, lockRun := 0, unlockRun := 0, holdSince := none, integral := ppbOf t.incr }
      if lock then m.saveIncr else m

/-- A step of the epoch by the whole milliseconds of an offset (R462); it takes effect at the next boundary. Answers the
remainder. -/
def Mod.stepEpoch (m : Mod) (o : Int) (forced : Bool) : Mod × Int :=
  let ms := rnear ((o : Rat) / 1000000)
  let base := m.time.epochNext.getD m.time.epoch
  let new := base - ms * 1000000
  let m := m.onTime fun t => { t with epochNext := some new, stepDone := t.stepDone || forced, forceArmed := if forced then none else t.forceArmed }
  let m := if forced then (m.setPar 0xA0E4 0).post 0xA004 0xFF bFabric (leI 8 base ++ leI 8 new) else m
  (m, o - ms * 1000000)

/-- One offset of the selected parent, ns, local minus master (R459-R462). -/
def Mod.takeOffset (m : Mod) (p : Nat) (o : Int) : Mod :=
  let t := m.time
  let m := m.onTime fun t => { t with lastSync := m.host.ms }
  if m.standby then m.onTime fun t => { t with offset := o, offsetMs := m.host.ms }
  else if t.servo = .free then
    let (m, r) := m.stepEpoch o t.forceArmed.isSome
    (m.onTime fun t => { t with
      servo := .acquiring, timeValid := true, offset := r, offsetMs := m.host.ms, lockRun := 0, unlockRun := 0, outliers := 0 }).servoRun r
  else if decide (m.parN 0xA0DB < (o - t.offset).natAbs) && decide (t.outliers < 3) then
    m.onTime fun t => { t with outliers := t.outliers + 1 }
  else
    let (m, r) := if t.forceArmed.isSome then m.stepEpoch o true else (m, o)
    let m := m.onTime fun t => { t with offset := r, offsetMs := m.host.ms, outliers := 0, timeValid := true }
    (m.servoJudge p r).servoRun r

/-- A correctionField in ns. -/
def corrNs (c : Int) : Int := rnear ((c : Rat) / 65536)

/-- The offset that a Sync with its send time completes (R459): timestamps corrected by the port's latency and asymmetry. -/
def Mod.syncOffset (m : Mod) (p : Nat) (t1 corr t2 : Int) : Mod :=
  let r := t2 - m.par (0xA00B + 48 * p)
  let s := t1 + corrNs corr + m.par (0xA00A + 48 * p)
  let m := m.onTime fun t => { t with lastPair := some (s, r), pendSync := none }
  m.takeOffset p (m.time.epoch + r - s - m.time.delay)

/-- The message comes from the selected parent, on its port. -/
def Mod.fromParent (m : Mod) (p domain source : Nat) : Bool :=
  m.ptpOn p && decide ((domain : Int) = m.par 0xA0D1) && (m.time.ptp p).best.isSome &&
    (match m.time.parent with | some x => decide (x.1 = p ∧ x.2.2 = source) | none => false)

/-- Row PTP_SYNC_RECEIVE: a one-step Sync gives its offset at once, a two-step one waits for its Follow_Up (Table 12.1). -/
def ptpSyncReceive (p : Nat) (f : PtpSync) (m : Mod) : Mod :=
  if !m.fromParent p f.domain f.source then m
  else if f.twoStep then m.onTime fun t => { t with pendSync := some { port := p, seq := f.seq, t2 := f.t2, corr := f.corr } }
  else m.syncOffset p f.t1 f.corr f.t2

/-- Row PTP_FOLLOW_UP_RECEIVE. -/
def ptpFollowUpReceive (p : Nat) (f : PtpFollowUp) (m : Mod) : Mod :=
  match m.time.pendSync with
  | some s =>
    if m.fromParent p f.domain f.source && decide (s.port = p ∧ s.seq = f.seq) then m.syncOffset p f.t1 (f.corr + s.corr) s.t2 else m
  | none => m

/-- 2^PTP_DELAY_LOG s have passed since the port's last Delay_Req (R454). -/
def Mod.delayDue (m : Mod) (p : Nat) : Bool :=
  match (m.time.ptp p).reqMs with
  | some t => decide (1000 * 2 ^ (m.par 0xA0D8 + 4).toNat ≤ 16 * (m.host.ms - t))
  | none => true

/-- Row DELAY_REQ_SEND (R454, R459): a Delay_Req leaves by the transport of Table 12.1. -/
def delayReqSend (p : Nat) (t3 : Int) (m : Mod) : Mod :=
  if !m.ptpOn p || (m.time.ptp p).best.isNone || !m.delayDue p then m else
    let x := m.time.ptp p
    (m.onPtp p fun x => { x with
      delayReq := some { seq := x.delaySeq, t3 := t3 }, delaySeq := (x.delaySeq + 1) % 65536, reqMs := some m.host.ms }).out
        (.delayReq p { pcp := m.parN 0xA0E3, domain := m.parN 0xA0D1, seq := x.delaySeq })

/-- Row PTP_DELAY_RESP_RECEIVE (R459): the path delay of the exchange, discarded above PTP_PATH_MAX. -/
def ptpDelayRespReceive (p : Nat) (f : PtpDelayResp) (m : Mod) : Mod :=
  match (m.time.ptp p).delayReq with
  | none => m
  | some q =>
    if !m.fromParent p f.domain f.source || !f.forUs || decide (f.seq ≠ q.seq) then m else
      let m := m.onPtp p fun x => { x with delayReq := none }
      match m.time.lastPair with
      | none => m
      | some (s, r) =>
        let e := m.time.epoch
        let t3 := q.t3 + m.par (0xA00C + 48 * p)
        let t4 := f.t4 - corrNs f.corr + m.par (0xA00A + 48 * p)
        let d := rnear ((((e + r - s) + (t4 - (e + t3)) : Int) : Rat) / 2)
        if m.par 0xA0DA < d then m else
          let l := (d :: m.time.delays).take (m.parN 0xA0D9)
          m.onTime fun t => { t with delays := l, delay := rnear (rdiv ((l.sum : Int) : Rat) (l.length : Rat)) }

/-- Row PTP_TC_FORWARD (R465): kind 0 Sync, 1 Delay_Req, any other unchanged; times on NS_CNT, whose wrap the residence time spans. -/
def ptpTcForward (p domain kind : Nat) (corr ingress egress : Int) (frame : List Byte) (m : Mod) : Mod :=
  if decide (m.par 0xA0E2 ≠ 1) || decide ((domain : Int) ≠ m.par 0xA0D1) || decide (1 < p) then m else
    let c := if kind < 2 then min (corr + (egress - ingress) % 4294967296 * 65536) 0x7FFFFFFFFFFFFFFF else corr
    m.out (.ptpForward (1 - p) c frame)

/-- Row SYNC_LOSS_TIMEOUT (R460): HOLDOVER with INCR frozen at the mean of the last 64 outputs. -/
def syncLossTimeout (m : Mod) : Mod :=
  let t := m.time
  if (t.servo = .acquiring ∨ t.servo = .locked) && !m.standby && decide (1000 * m.parN 0xA0D7 ≤ m.host.ms - t.lastSync) then
    let mean := if t.outputs.isEmpty then ppbOf t.incr else rsum t.outputs / t.outputs.length
    let (v, c) := incrOf mean
    m.onTime fun t => { t with servo := .holdover, holdSince := some m.host.ms, incr := v, incrClamp := t.incrClamp || c, lockRun := 0, unlockRun := 0 }
  else m

/-- Row HOLD_MAX_EXPIRY (R461). -/
def holdMaxExpiry (m : Mod) : Mod :=
  match m.time.servo, m.time.holdSince with
  | .holdover, some t0 => if 1000 * m.parN 0xA0E0 ≤ m.host.ms - t0 then m.onTime fun t => { t with timeValid := false } else m
  | _, _ => m

/-- Row TIME_EXTEND (R457). -/
def timeExtend (m : Mod) : Mod := m.onTime fun t => { t with ext := t.extNow, last40 := t.count40 }

/-- TIME_FORCE_STEP written 1 arms the step for 60 s (R463). -/
def Mod.armStep (m : Mod) : Mod := m.onTime fun t => { t with forceArmed := some (m.host.ms + 60000) }

/-- A write of TIME_FORCE_STEP takes effect with the snapshot of the parameters (R19, R463, R468): 1 arms the step, 0 ends it. -/
def Mod.takeForce (m : Mod) : Mod :=
  if m.time.forcePend then
    (if m.par 0xA0E4 = 1 then m.armStep else m.onTime fun t => { t with forceArmed := none }).onTime fun t => { t with forcePend := false }
  else m

/-- Row FORCE_STEP_EXPIRY (R463). -/
def forceStepExpiry (m : Mod) : Mod :=
  match m.time.forceArmed with
  | some t => if t ≤ m.host.ms then (m.onTime fun x => { x with forceArmed := none }).setPar 0xA0E4 0 else m
  | none => m

/-- Row INCR_SAVE (R469): once an hour while LOCKED. -/
def incrSave (m : Mod) : Mod :=
  if m.time.servo = .locked && decide (3600000 ≤ m.host.ms - m.time.lastSave) then m.saveIncr else m

/-- Time at a cold start or module restart (Table 12.2, R469): FREE, INCR from the saved value. -/
def Mod.timeStart (m : Mod) : Mod :=
  let v := m.power.savedIncr.toNat
  let incr := if 0x07FFCB92 ≤ v ∧ v ≤ 0x0800346E then v else 0x08000000
  { m with time := { (default : TimeSt) with incr := incr, integral := ppbOf incr } }

/-- A warm supervisor restart stops the servo; time counts as HOLDOVER from the last offset (R461). -/
def Mod.servoHold (m : Mod) : Mod :=
  if m.time.servo = .acquiring ∨ m.time.servo = .locked then m.onTime fun t => { t with servo := .holdover, holdSince := some t.offsetMs } else m

/-- The standby's servo steers INCR to hold its boundaries at the active module's grain marker (R377, R466): by how much depends on the two
oscillators, and each grain's servo output is a free value (log 7). -/
def Mod.followMarker (m : Mod) : Mod :=
  if m.pair.lanes = 0 then m else
    let (x, m) := m.free
    m.steerIncr ((x.toInt : Rat) / 1000)

/- The counter, the grain base and the registers (R40-R42, R456-R458, R467) -/

/-- PTP time at the boundary of the present grain: the nominal start of its tick 0 (R457). -/
def Mod.grainPtp (m : Mod) : Int := m.time.ptpNow - ((m.time.excess / 2 ^ 24 : Nat) : Int) - 10000 * (m.plan.tick : Int)

/-- The labels of a grain at its boundary (R41, R458, R462): a waiting epoch takes effect, GRAIN_OF_SEC is taken. -/
def Mod.grainLabel (m : Mod) : Mod :=
  let m := m.onTime fun t => match t.epochNext with | some e => { t with epoch := e, epochNext := none } | none => t
  m.onPlan fun p => { p with grainOfSec := (m.grainPtp / 1000000 % 1000).toNat }

/-- GRN_NOW (Table 2.1). -/
def Mod.grnNow (m : Mod) : W32 := pack [(0, 7, m.plan.tick), (16, 10, m.plan.grainOfSec), (31, 1, b2n m.aligned)]

/-- Row GRN_NOW_READ (R42). -/
def grnNowRead (m : Mod) : Mod := m.onPlan fun p => { p with grnLatch := some p.grainCnt }

/-- Row TIME_NS_READ (R467). -/
def timeNsRead (m : Mod) : Mod := m.onTime fun t => { t with wrapLatch := some t.wrapCnt }

/-- SEC of the present grain. -/
def Mod.secNow (m : Mod) : Nat := (m.grainPtp / 1000000000).toNat

/-- Row TIME_SEC_LO_READ (R467). -/
def timeSecLoRead (m : Mod) : Mod := m.onTime fun t => { t with secLatch := some (m.secNow / 2 ^ 32 % 2 ^ 16) }

/-- Row S64_LOW_READ (R293): the high register of an s64 dispatch value is latched. -/
def s64LowRead (off : Nat) (m : Mod) : Mod :=
  match m.dispWide off with
  | some v => m.onDisp fun d => { d with s64Latch := some (off + 4, BitVec.ofNat 32 (uns 64 v / 2 ^ 32)) }
  | none => m

def Mod.timeStat (m : Mod) : W32 :=
  let t := m.time
  let hold := match t.servo, t.holdSince with | .holdover, some t0 => stopAt 0xFFFF ((m.host.ms - t0) / 1000) | _, _ => 0
  pack [(0, 3, t.servo.ctorIdx), (3, 1, b2n m.aligned), (4, 1, b2n t.timeValid), (5, 1, match t.parent with | some x => x.1 | none => 0),
    (6, 1, b2n t.jumpRefused), (7, 1, b2n t.stepDone), (8, 1, b2n t.forceArmed.isSome), (9, 1, b2n t.incrClamp),
    (10, 1, b2n (decide (m.par 0xA0E2 = 1))), (16, 16, hold)]

/-- The time registers by offset; a latched register is read through its latch. -/
def Mod.timeReg (m : Mod) (off : Nat) : W32 :=
  let t := m.time
  match off with
  | 0x1800 => m.timeStat
  | 0x1804 => t.nsCnt
  | 0x1808 => BitVec.ofNat 32 (t.wrapLatch.getD t.wrapCnt)
  | 0x180C => BitVec.ofNat 32 t.incr
  | 0x1810 => BitVec.ofInt 32 (clampI (-2147483648) 2147483647 t.offset)
  | 0x1814 => BitVec.ofNat 32 m.secNow
  | 0x1818 => BitVec.ofNat 32 (t.secLatch.getD (m.secNow / 2 ^ 32 % 2 ^ 16))
  | 0x181C => BitVec.ofInt 32 t.delay
  | _ => 0

/-- A write of TIME_STAT: its W1C bits. -/
def Mod.timeStatWrite (m : Mod) (v : W32) : Mod :=
  m.onTime fun t => { t with
    jumpRefused := t.jumpRefused && !v.getLsbD 6, stepDone := t.stepDone && !v.getLsbD 7, incrClamp := t.incrClamp && !v.getLsbD 9 }

end Sys2Proof.Machine
end

