-- ==== Sys2Proof/Machine/Can.lean ====
section
/-! DEFINITION. CAN FD ports (spec file 13_can_fd_ports.md): objects, contention, error states, time-triggered operation,
rate detection, registers and points; the thermal requests of R318 and R319. -/

namespace Sys2Proof.Machine

/- Configuration (R478, R479, R491, R496) -/

/-- Identifier of port parameter `j` of port `p`, and of field `f` of object `o`. -/
def canP (p j : Nat) : Nat := 0xB300 + 0x400 * p + j
def canO (p o f : Nat) : Nat := 0xB000 + 0x400 * p + 3 * o + f

/-- An object's configuration (Table 13.2). -/
structure ObjCfg where
  id : Nat := 0
  ide : Bool := false
  tx : Bool := false
  en : Bool := false
  fdf : Bool := false
  brs : Bool := false
  rtr : Bool := false
  dlc : Nat := 0
  retry : Nat := 0
  tt : Bool := false
  period : Nat := 0
  base : Nat := 0
  rep : Nat := 0
deriving DecidableEq, Repr, Inhabited

/-- Some configured string is assigned to a zone (R318). -/
def Mod.zoneStrings (m : Mod) (z : Nat) : List Nat := m.confStrings.filter fun n => decide (m.par (0x7020 + n) = z)

/-- The object is reserved for a thermal request (R491), for parameter values `get`. -/
def objReserved (get : Nat → Int) (p o : Nat) : Bool := decide (get 0x7010 = p) && decide (248 ≤ o) && decide (o ≤ 255)

/-- Configuration of an object for parameter values `get`; `zone` says which zones have strings. -/
def objCfg (get : Nat → Int) (zone : Nat → Bool) (p o : Nat) : ObjCfg :=
  if objReserved get p o then
    { id := (get 0x7011).toNat + (o - 248), tx := true, en := zone (o - 248), fdf := decide (get (canP p 1) = 1), dlc := 8, retry := 3 }
  else
    let i := (get (canO p o 0)).toNat
    let c := (get (canO p o 1)).toNat
    let t := (get (canO p o 2)).toNat
    { id := bitsOf i 0 29, ide := bitN i 29, tx := bitN i 30, en := bitN i 31, fdf := bitN c 0, brs := bitN c 1, rtr := bitN c 2
      dlc := bitsOf c 3 4, retry := bitsOf c 7 4, tt := bitN c 11, period := bitsOf t 0 16, base := bitsOf t 16 6, rep := bitsOf t 22 3 }

/-- The configuration in force of an object. -/
def Mod.canCfg (m : Mod) (p o : Nat) : ObjCfg := objCfg m.par (fun z => !(m.zoneStrings z).isEmpty) p o

/-- The objects of a port that can be enabled: those with a listed OBJ_ID, and the reserved ones. -/
def objCands (listed : List Nat) (get : Nat → Int) (p : Nat) : List Nat :=
  let os := (listed.filter fun i => decide (0xB000 + 0x400 * p ≤ i ∧ i < 0xB300 + 0x400 * p)).map fun i => (i - 0xB000 - 0x400 * p) / 3
  (List.range 256).filter fun o => os.contains o || objReserved get p o
def Mod.canObjs (m : Mod) (p : Nat) : List Nat :=
  (objCands (m.host.snap.map (·.1)) m.par p).filter fun o => (m.canCfg p o).en

/-- Nominal and data bit rate from the timing set (R474). -/
def canRate (brp seg1 seg2 : Int) : Rat := rdiv 80000000 ((brp * (1 + seg1 + seg2) : Int) : Rat)

/-- The timing set of a port keeps R474. -/
def timingOk (get : Nat → Int) (p : Nat) : Bool :=
  let g (j : Nat) : Int := get (canP p j)
  let n := canRate (g 2) (g 3) (g 4)
  let d := canRate (g 6) (g 7) (g 8)
  decide (10000 ≤ n ∧ n ≤ 1000000) && decide (n ≤ d ∧ d ≤ 8000000) && decide (g 5 ≤ g 4) && decide (g 9 ≤ g 8)
    && (decide (g 12 ≠ 1) || decide (n ≤ 125000))

/-- The time-triggered objects of a port keep R490. -/
def ttOk (get : Nat → Int) (cfg : Nat → ObjCfg) (os : List Nat) (p : Nat) : Bool :=
  os.all fun o =>
    let c := cfg o
    !(c.en && c.tx && c.tt) || (decide ((c.base : Int) < get (canP p 18)) && decide (((2 ^ c.rep : Nat) : Int) ≤ get (canP p 18))
      && decide ((c.period : Int) < 1000 * get (canP p 17)))

/-- No identifier names two enabled objects of a port (R478, R491, R496). -/
def idsUnique (get : Nat → Int) (cfg : Nat → ObjCfg) (os : List Nat) (p : Nat) : Bool :=
  let l := (os.filter fun o => (cfg o).en).map fun o => ((cfg o).id, (cfg o).ide)
  let l := if get (canP p 15) = 0 then l else ((get (canP p 16)).toNat, false) :: l
  l.eraseDups.length == l.length

/-- The period of an event object is at most 60,000 ms (Table 13.2). -/
def eventPeriodOk (c : ObjCfg) : Bool := c.tt || decide (c.period ≤ 60000)

/-- The rules of R474, R478, R490 and R491 on a write of parameter `id`, the values as they would stand after it being `get`:
0 or the status that refuses it. -/
def Mod.canRefuse (m : Mod) (get : Nat → Int) (listed : List Nat) (id : Nat) : Nat :=
  let zone (z : Nat) : Bool := m.confStrings.any fun n => decide (get (0x7020 + n) = z)
  let cfg (p o : Nat) : ObjCfg := objCfg get zone p o
  let os (p : Nat) : List Nat := objCands listed get p
  if 0xB000 ≤ id ∧ id < 0xC000 then
    let p := (id - 0xB000) / 0x400
    let r := (id - 0xB000) % 0x400
    if r < 0x300 then
      if objReserved get p (r / 3) then 0x8B02
      else if 0 < r % 3 && !eventPeriodOk (cfg p (r / 3)) then 0x8005
      else if r % 3 = 2 && !ttOk get (cfg p) (os p) p then 0x8005
      else if !idsUnique get (cfg p) (os p) p then 0x8B01
      else 0
    else
      let j := r - 0x300
      if decide (2 ≤ j ∧ j ≤ 9 ∨ j = 12) && !timingOk get p then 0x8005
      else if (j = 17 || j = 18) && !ttOk get (cfg p) (os p) p then 0x8005
      else if (j = 15 || j = 16) && !idsUnique get (cfg p) (os p) p then 0x8B01
      else 0
  else if id = 0x7010 || id = 0x7011 then
    if (List.range 4).all fun p => idsUnique get (objCfg get (fun _ => true) p) (os p) p then 0 else 0x8B01
  else if 0x7020 ≤ id ∧ id < 0x7040 then
    if (List.range 4).all fun p => idsUnique get (cfg p) (os p) p then 0 else 0x8B01
  else 0

/- Frames (R480) -/

/-- Length in bytes of a DLC (R480). -/
def dlcLen (fdf : Bool) (d : Nat) : Nat :=
  if d ≤ 8 then d else if !fdf then 8 else [12, 16, 20, 24, 32, 48, 64].getD (d - 9) 64

/-- The frame that a transmit object sends; an error-passive port sends ESI 1 in an FD frame (ISO 11898-1, R485). -/
def ObjCfg.frame (c : ObjCfg) (passive : Bool) (data : List Byte) : CanFrame :=
  { ide := c.ide, id := c.id, fdf := c.fdf, brs := c.brs, esi := c.fdf && passive, rtr := c.rtr, dlc := c.dlc
    data := if c.rtr then [] else padTo (dlcLen c.fdf c.dlc) 0 data }

/-- Order of arbitration (R483): base identifier, a base frame before an extended one, then the extension. -/
def arbKey (ide : Bool) (id : Nat) : Nat := if ide then (id / 2 ^ 18) * 2 ^ 19 + 2 ^ 18 + id % 2 ^ 18 else id * 2 ^ 19

/- Error states (R485-R487) -/

/-- Error active or passive by the counters. -/
def CanPort.errNow (c : CanPort) : CanPort :=
  match c.err with
  | .busOff | .recovering => c
  | _ => { c with err := if 127 < c.tec ∨ 127 < c.recCnt then .passive else .active }

/-- The port runs in mode 1: with the role line released it runs as in mode 2 (R472). -/
def Mod.canNormal (m : Mod) (p : Nat) : Bool := decide ((m.port p).mode = 1) && m.acting

/-- The port may start a frame (R471, R472, R485, R486). -/
def Mod.canMayTx (m : Mod) (p : Nat) : Bool :=
  let c := m.port p
  m.canNormal p && c.detect.isNone && c.onBus.isNone && decide (c.integ = 0) && decide (c.err = .active ∨ c.err = .passive)

/-- An object's frame starts on the bus. -/
def Mod.canStart (m : Mod) (p o : Nat) : Mod :=
  let x := (m.port p).obj o
  ((m.onPort p fun c => { c with onBus := some (.object o) }).onObj p o fun x => { x with attempts := x.attempts + 1 }).out
    (.can p ((m.canCfg p o).frame (decide ((m.port p).err = .passive)) x.txData))

/-- A window of a time-triggered object falls in the present basic cycle (R489). -/
def Mod.ttDue (m : Mod) (p o : Nat) : Bool :=
  let c := m.port p
  let g := m.canCfg p o
  g.en && g.tx && g.tt && decide (m.par (canP p 15) ≠ 0) && c.ttSync && decide (c.cycle % 2 ^ g.rep = g.base % 2 ^ g.rep)

/-- The window of an object is skipped: the bus is not idle at its start, or it has passed (R489, R492). -/
def Mod.ttMiss (m : Mod) (p o : Nat) : Mod :=
  (m.onObj p o fun x => { x with ttMiss := true }).onPort p fun c => { c with ttMissAny := true, ttDone := o :: c.ttDone }

/-- Cycle time 0 was at `t` (R488, R489): a window of the new basic cycle that it has passed already is skipped (Table 13.3). -/
def Mod.ttCycle (m : Mod) (p t : Nat) : Mod :=
  let m := m.onPort p fun c => { c with refs := (t :: c.refs).take 2, ttDone := [] }
  m.each ((m.canObjs p).filter fun o => m.ttDue p o && decide (1000 * (m.canCfg p o).period + t < m.time.extNow)) fun m o => m.ttMiss p o

/-- The next pending frame starts, in the order of arbitration (R483); a reference message contends with the rest (R488), and an object
with a time window does not contend outside it (R489). -/
def Mod.canNext (m : Mod) (p : Nat) : Mod :=
  let c := m.port p
  if !m.canMayTx p then m else
    let os := (c.objs.filter fun e => e.2.pending && !(m.canCfg p e.1).tt).map (·.1)
    let key (o : Nat) : Nat := arbKey (m.canCfg p o).ide (m.canCfg p o).id
    let best := os.foldl (fun (b : Option Nat) o => match b with | none => some o | some x => if key o < key x then some o else b) none
    let refId := m.parN (canP p 16)
    let ref := c.refPending && (match best with | some o => decide (arbKey false refId ≤ key o) | none => true)
    if ref then
      ((m.onPort p fun c => { c with onBus := some .reference, refPending := false }).ttCycle p m.time.extNow).out
        (.can p { id := refId, dlc := 1, data := u8 (c.cycle % 64) })
    else
      match best with
      | some o => m.canStart p o
      | none => m

/-- New data make a transmit object pending (R482, R484); while its frame is on the bus they wait for it. The active module of a pair passes the data
to its standby (R472). -/
def Mod.canPend (m : Mod) (p o : Nat) (data : List Byte) : Mod :=
  let m := m.capture fun r => { r with tx := r.tx ++ [(p, o, data)] }
  let c := m.port p
  let x := c.obj o
  if c.onBus == some (.object o) then
    let m := m.onObj p o fun x => { x with nextData := some data, lost := x.lost || x.nextData.isSome }
    if x.nextData.isSome then m.onPort p fun c => { c with lostAny := true } else m
  else
    let off := decide (c.err = .busOff ∨ c.err = .recovering)
    let m := m.onObj p o fun y => { y with
      txData := data, pending := true, attempts := 0, lost := y.lost || x.pending, stranded := y.stranded || off, ttMiss := false }
    if x.pending then m.onPort p fun c => { c with lostAny := true } else m

/-- New data for a transmit object, which then contends (R482, R483). -/
def Mod.canData (m : Mod) (p o : Nat) (data : List Byte) : Mod := (m.canPend p o data).canNext p

/-- TX_INHIBIT follows the role line and the mode (R472): a port that may send again lets what is pending contend. -/
def Mod.canRole (m : Mod) : Mod :=
  m.each (List.range 4) fun m p =>
    let c := m.port p
    if decide (c.mode = 1) && !m.acting then m.onPort p CanPort.inhibit
    else if c.txInhibit then (m.onPort p fun c => { c with txInhibit := false }).canNext p
    else m

/-- Sub-step CAN_BUSOFF (R486, R487); a time master sends no reference message then (R493). -/
def Mod.canBusOff (m : Mod) (p : Nat) : Mod :=
  let c := m.port p
  let m := m.each ((c.objs.filter fun e => e.2.pending).map (·.1)) fun m o => m.onObj p o fun x => { x with stranded := true }
  let m := m.onPort p fun c => { c with
    err := if m.par (canP p 13) = 1 then .recovering else .busOff, tec := 256, onBus := none
    ttSync := c.ttSync && decide (m.par (canP p 15) ≠ 1), busOffCnt := stopAt 0xFFFFFFFF (c.busOffCnt + 1) }
  m.post 0xB001 p bCan []

/- Reception (R480, R481, R489) -/

/-- A frame enters an object. -/
def CanObj.take (x : CanObj) (r : CanRx) : CanObj :=
  { x with
    valid := true, rx := r, frames := stopAt 0xFFFFFFFF (x.frames + 1), unread := true, lost := x.lost || x.unread
    lostCnt := stopAt 0xFFFFFFFF (x.lostCnt + b2n x.unread) }

/-- The lock is released; a held frame moves into its object (R481). -/
def Mod.canRelease (m : Mod) (p : Nat) (abort : Bool) : Mod :=
  let c := m.port p
  match c.lock with
  | none => m
  | some o =>
    let m := m.onPort p fun c => { c with lock := none, held := none, lockAbort := c.lockAbort || abort }
    match c.held with
    | some r =>
      let lost := (c.obj o).unread
      let m := m.onObj p o fun x => x.take r
      if lost then m.onPort p fun c => { c with lostAny := true } else m
    | none => m

/-- REC after a frame received without error (ISO 11898-1, R485): from above 127 it returns to a value from 119 to 127, which
the standard leaves open (log 7). -/
def Mod.recGood (m : Mod) (p : Nat) : Mod :=
  let c := m.port p
  if !m.canNormal p || decide (c.recCnt = 0) then m
  else if c.recCnt ≤ 127 then m.onPort p fun c => { c with recCnt := c.recCnt - 1 }.errNow
  else
    let (v, m) := m.free
    m.onPort p fun c => { c with recCnt := 119 + v.toNat % 9 }.errNow

/-- Cycle time 0 is set by a reference message whose start of frame was at `t` (R489). -/
def Mod.ttReference (m : Mod) (p cycle t : Nat) : Mod :=
  (m.onPort p fun c => { c with
    ttSync := c.ttSync || (!c.refs.isEmpty && decide (cycle % 64 = (c.cycle + 1) % (m.parN (canP p 18)))), cycle := cycle % 64 }).ttCycle p t

/-- The port takes reference messages: a slave, or a master whose role line is released (R488, R489). -/
def Mod.ttListens (m : Mod) (p : Nat) : Bool :=
  decide ((m.port p).mode ≠ 0) && (decide (m.par (canP p 15) = 2) || (decide (m.par (canP p 15) = 1) && !m.acting))

/-- A reference message is received whose start of frame was `ago` ns before now (R489). -/
def Mod.ttReceive (m : Mod) (p cycle ago : Nat) : Mod :=
  if p < 4 && m.ttListens p && decide ((m.port p).err = .active ∨ (m.port p).err = .passive) then
    ((m.onPort p fun c => { c with rxFrames := stopAt 0xFFFFFFFF (c.rxFrames + 1) }).ttReference p cycle (m.time.extNow - ago)).recGood p
  else m

/-- Row TT_REFERENCE_RECEIVE (R489): the row stands at the start of frame (log 73). -/
def ttReferenceReceive (p cycle : Nat) (m : Mod) : Mod := m.ttReceive p cycle 0

/-- The rates of detection, bit/s, in order (R477). -/
def detectRates : List Nat := [1000000, 800000, 500000, 250000, 125000, 100000, 50000, 20000, 10000]

/-- A frame heard while rates are tried (R477). -/
def Mod.detectFrame (m : Mod) (p : Nat) (d : CanDetect) (f : CanFrame) : Mod :=
  if f.fdf && f.brs then m
  else if d.run = 0 then m.onPort p fun c => { c with detect := some { d with run := 1 } }
  else
    let r := detectRates.getD d.rate 0
    (m.onPort p fun c => { c with detect := none, detRate := r }).post 0xB003 p bCan (leN 4 r)

/-- Nanoseconds of `n` nominal bit times under the timing in force (R474). -/
def Mod.bitNs (m : Mod) (p n : Nat) : Nat :=
  let t := (m.port p).timing
  (rnear (rdiv ((n * 1000000000 : Nat) : Rat) (max 1 (canRate (t.getD 0 1) (t.getD 1 127) (t.getD 2 32))))).toNat

/-- GRAIN_CNT and NS_CNT `ago` ns before now (R456, R480). -/
def Mod.stampAgo (m : Mod) (ago : Nat) : W32 × W32 :=
  let grain := 10000 * m.plan.tick
  (m.plan.grainCnt - BitVec.ofNat 32 (if ago ≤ grain then 0 else (ago - grain + 999999) / 1000000), m.time.nsCnt - BitVec.ofNat 32 ago)

/-- Row CAN_FRAME_RECEIVED (R477, R480, R481): `bits` is its length on the bus in nominal bit times, and its stamps are those of its start of
frame. A port that integrates does not receive the frame, whose end completes the integration (R471). -/
def canFrameReceived (p : Nat) (f : CanFrame) (bits : Nat) (m : Mod) : Mod :=
  let c := m.port p
  if decide (3 < p) || decide (c.mode = 0) || decide (c.err = .busOff ∨ c.err = .recovering) then m
  else
    let m := m.onPort p fun c => { c with busBits := c.busBits + bits }
    let ago := m.bitNs p bits
    if 0 < c.integ then (m.onPort p fun c => { c with integ := 0 }).canNext p else
    match c.detect with
    | some d => m.detectFrame p d f
    | none =>
      if m.ttListens p && !f.ide && decide ((f.id : Int) = m.par (canP p 16)) then
        m.ttReceive p (bitsOf (rdN f.data 0 1) 0 6) ago
      else
        let (g, ns) := m.stampAgo ago
        let m := (m.onPort p fun c => { c with rxFrames := stopAt 0xFFFFFFFF (c.rxFrames + 1) }).recGood p
        let hit := (m.canObjs p).find? fun o => let g := m.canCfg p o; !g.tx && g.ide == f.ide && g.id == f.id
        match hit with
        | none => m.onPort p fun c => { c with unmatched := stopAt 0xFFFFFFFF (c.unmatched + 1) }
        | some o =>
          let len := dlcLen f.fdf f.dlc
          let r : CanRx := { frame := { f with data := padTo 64 0 (f.data.take (if f.rtr then 0 else len)) }, tsGrain := g, tsNs := ns }
          if c.lock = some o then
            let again := c.held.isSome
            let m := m.onPort p fun c => { c with held := some r, lockDefer := stopAt 0xFFFFFFFF (c.lockDefer + 1), lostAny := c.lostAny || again }
            if again then m.onObj p o fun x => { x with lost := true, lostCnt := stopAt 0xFFFFFFFF (x.lostCnt + 1) } else m
          else
            let lost := (c.obj o).unread
            (m.onObj p o fun x => x.take r).onPort p fun c => { c with lostAny := c.lostAny || lost }

/-- Row CAN_RX_ERROR (R485): an error met while receiving; bus monitoring keeps its counters. A port that is bus-off, or that has not yet
integrated, takes no part in the bus. -/
def canRxError (p lec inc : Nat) (m : Mod) : Mod :=
  let c := m.port p
  if decide (3 < p) || decide (c.mode = 0) || decide (c.err = .busOff ∨ c.err = .recovering) || decide (0 < c.integ) then m else
    let live := m.canNormal p
    m.onPort p fun c =>
      let c := { c with errFrames := stopAt 0xFFFFFFFF (c.errFrames + 1), lec := lec, detect := c.detect.map fun d => { d with run := 0 } }
      if live then { c with recCnt := stopAt 255 (c.recCnt + inc) }.errNow else c

/-- Row CAN_OBJECT_FIRST_READ (R480, R481): SP1 reads the first word; the object counts as read. -/
def canObjectFirstRead (p o : Nat) (m : Mod) : Mod :=
  if decide (3 < p) || m.supDown then m
  else ((m.canRelease p false).onPort p fun c => { c with lock := some o }).onObj p o fun x => { x with unread := false }

/-- Row CAN_OBJECT_LAST_READ (R481). -/
def canObjectLastRead (p o : Nat) (m : Mod) : Mod := if (m.port p).lock = some o then m.canRelease p false else m

/-- Row CAN_LOCK_TIMEOUT (R481): 2 us after the first word. -/
def canLockTimeout (p : Nat) (m : Mod) : Mod := m.canRelease p true

/- Transmission (R482, R483) -/

/-- Row CAN_TX_SUCCESS. New data that waited for a frame of a port now inhibited are dropped and counted (R472). -/
def canTxSuccess (p bits : Nat) (m : Mod) : Mod :=
  let c := m.port p
  match c.onBus with
  | none => m
  | some b =>
    let m := m.onPort p fun c => { c with
      onBus := none, txFrames := stopAt 0xFFFFFFFF (c.txFrames + 1), tec := c.tec - 1, busBits := c.busBits + bits }.errNow
    let m := match b with
      | .object o =>
        let again := (c.obj o).nextData.isSome
        let m := m.onObj p o fun x => { x with
          retries := x.attempts - 1, attempts := 0, pending := again && !c.txInhibit, txData := x.nextData.getD x.txData, nextData := none
          frames := stopAt 0xFFFFFFFF (x.frames + 1) }
        if again && c.txInhibit then m.onPort p fun c => { c with txDropped := stopAt 0xFFFFFFFF (c.txDropped + 1) } else m
      | .reference => m.onPort p fun c => { c with ttSync := true }
    m.canNext p

/-- An object's retries are used up without success (R483). -/
def Mod.txFails (m : Mod) (p o : Nat) : Mod :=
  (m.onObj p o fun x => { x with pending := false, txFail := true, retries := x.attempts - 1, attempts := 0 }).onPort p
    fun c => { c with txFailAny := true }

/-- The frame of object `o` has failed and its new data take its place: LOST, unless nothing was pending (ABORT_ALL), or the new data are the
period instance of this very tick and the retries are used up, which is TX_FAIL of the instance before (R482, Table 13.3). -/
def Mod.canNewData (m : Mod) (p o : Nat) (spent : Bool) (d : List Byte) : Mod :=
  let x := (m.port p).obj o
  let g := m.canCfg p o
  let fresh := spent && decide (m.plan.tick = 0 ∧ 0 < g.period ∧ m.plan.grainCnt.toNat % g.period = 0) && !g.tt
  let m := if !x.pending then m else if fresh then m.txFails p o
    else (m.onObj p o fun x => { x with lost := true }).onPort p fun c => { c with lostAny := true }
  m.onObj p o fun x => { x with txData := d, nextData := none, pending := true, attempts := 0 }

/-- The frame on the bus has failed: retry, new data, or TX_FAIL (R482, R483, R488, R489). A time master whose reference message fails sends
none in this cycle (R488, R493). -/
def Mod.canFailed (m : Mod) (p : Nat) (b : CanOnBus) : Mod :=
  match b with
  | .reference => m.onPort p fun c => { c with ttSync := false }
  | .object o =>
    let x := (m.port p).obj o
    let g := m.canCfg p o
    let spent := decide ((if g.tt then 0 else g.retry) < x.attempts)
    if (m.port p).txInhibit then
      (m.onObj p o fun x => { x with txData := x.nextData.getD x.txData, nextData := none, pending := false, attempts := 0 }).onPort p
        fun c => { c with txDropped := stopAt 0xFFFFFFFF (c.txDropped + b2n (x.pending || x.nextData.isSome)) }
    else
      match x.nextData with
      | some d => m.canNewData p o spent d
      | none => if !x.pending then m.onObj p o fun x => { x with attempts := 0 } else if spent then m.txFails p o else m

/-- Row CAN_TX_ERROR (R483, R485, R486): arbitration lost, or an error with its TEC increment. At bus-off nothing is discarded: the object whose
frame it was stays pending, with its new data where it has been given any. -/
def canTxError (p : Nat) (e : CanTxErr) (m : Mod) : Mod :=
  let c := m.port p
  match c.onBus with
  | none => m
  | some b =>
    let m := m.onPort p fun c => match e with
      | .arbitration => { c with arbLost := stopAt 0xFFFFFFFF (c.arbLost + 1), onBus := none }
      | .error lec inc => { c with errFrames := stopAt 0xFFFFFFFF (c.errFrames + 1), lec := lec, tec := c.tec + inc, onBus := none }.errNow
    if 255 < (m.port p).tec then
      let m := match b with
        | .object o => match (c.obj o).nextData with
          | some d => m.canNewData p o false d
          | none => m
        | .reference => m
      m.canBusOff p
    else (m.canFailed p b).canNext p

/-- Row CAN_RECOVERY_COMPLETE (R487). -/
def canRecoveryComplete (p : Nat) (m : Mod) : Mod :=
  let c := m.port p
  if c.err ≠ .recovering then m else
    let m := m.each (c.objs.map (·.1)) fun m o => m.onObj p o fun x => { x with stranded := false, attempts := 0 }
    ((m.onPort p fun c => { c with tec := 0, recCnt := 0, err := .active }).post 0xB002 p bCan []).canNext p

/-- Row CAN_CTRL_RECOVER (R487). -/
def canCtrlRecover (p : Nat) (m : Mod) : Mod :=
  if (m.port p).err = .busOff then m.onPort p fun c => { c with err := .recovering } else m

/-- Row CAN_CTRL_DETECT (R477): no effect on a port that is not listen-only. -/
def canCtrlDetect (p : Nat) (m : Mod) : Mod :=
  if (m.port p).mode = 2 then m.onPort p fun c => { c with detect := some { rate := 0, run := 0, since := m.host.ms } } else m

/-- Row DETECT_DWELL_EXPIRY (R477). -/
def detectDwellExpiry (p : Nat) (m : Mod) : Mod :=
  match (m.port p).detect with
  | none => m
  | some d =>
    if m.host.ms - d.since < m.parN (canP p 14) then m
    else if d.rate + 1 < detectRates.length then m.onPort p fun c => { c with detect := some { rate := d.rate + 1, run := 0, since := m.host.ms } }
    else (m.onPort p fun c => { c with detect := none, detRate := 0 }).post 0xB003 p bCan (leN 4 0)

/-- Row CAN_CTRL_ABORT_ALL (R494). -/
def canCtrlAbortAll (p : Nat) (m : Mod) : Mod :=
  (m.each ((m.port p).objs.map (·.1)) fun m o => m.onObj p o fun x => { x with pending := false, nextData := none }).onPort p
    fun c => { c with refPending := false }

/-- Row CAN_CTRL_CLEAR_FLAGS (R493). -/
def canCtrlClearFlags (p : Nat) (m : Mod) : Mod :=
  (m.each ((m.port p).objs.map (·.1)) fun m o => m.onObj p o fun x => { x with lost := false, txFail := false }).onPort p
    fun c => { c with lostAny := false, txFailAny := false, lockAbort := false, ttMissAny := false }

/-- The refusal of a GO for object `o` in the order of the rule's list (R482, log 71), 0 where there is none. -/
def Mod.goRefusal (m : Mod) (p o : Nat) : Nat :=
  let c := m.port p
  let g := m.canCfg p o
  if !g.en || !g.tx then 0x8B03
  else if objReserved m.par p o then 0x8B02
  else if c.mode ≠ 1 || c.txInhibit || m.standby then 0x8007
  else 0

/-- GO on a port (R482): refused, or the staged data go to the object. -/
def Mod.canGo (m : Mod) (p : Nat) : Mod × Nat :=
  let c := m.port p
  let st := m.goRefusal p c.txwObj
  if st ≠ 0 then (m, st) else (m.canData p c.txwObj c.txw, 0)

/-- The refusal of a GO among the words of a DIAG_WRITE, offsets and values, judged before any of them is applied: OBJECT counts as it will then
stand (R482). -/
def Mod.goRefused (m : Mod) (l : List (Nat × W32)) : Nat :=
  ((List.range l.length).findSome? fun k =>
    let (off, v) := l.getD k (0, 0)
    let p := (off - 0x1A00) / 0x80
    let o := (((l.take k).filter fun e => e.1 == off - 4).getLast?.map fun e => e.2.toNat % 256).getD (m.port p).txwObj
    let st := m.goRefusal p o
    if 0x1A00 ≤ off ∧ off < 0x1C00 ∧ (off - 0x1A00) % 0x80 = 0x44 ∧ v.getLsbD 0 ∧ st ≠ 0 then some st else none).getD 0

/-- Row CAN_TXW_GO. -/
def canTxwGo (p : Nat) (m : Mod) : Mod := if p < 4 then (m.canGo p).1 else m

/- Time-triggered windows (R489) -/

/-- The window of an object starts within the present tick, once in its basic cycle (R489); its start has passed where the second is true. -/
def Mod.ttOpens (m : Mod) (p o : Nat) : Bool × Bool :=
  let c := m.port p
  let start := 1000 * (m.canCfg p o).period + c.refs.headD 0
  (m.ttDue p o && !c.ttDone.contains o && !c.refs.isEmpty && decide (start < m.time.extNow + 10000), decide (start + 10000 ≤ m.time.extNow))

/-- Row TT_WINDOW_START (R489): the cycle time has reached PERIOD. A window that it has passed is skipped (R492). -/
def ttWindowStart (p o : Nat) (busIdle : Bool) (m : Mod) : Mod :=
  let c := m.port p
  let (opens, passed) := m.ttOpens p o
  if decide (3 < p) || !opens || decide (c.mode ≠ 1) || !m.acting then m
  else if !busIdle || !m.canMayTx p || passed then m.ttMiss p o
  else
    ((m.onPort p fun c => { c with ttDone := o :: c.ttDone }).onObj p o fun x => { x with pending := true, attempts := 0, ttMiss := false }).canStart p o

/-- Row TT_LOSS_TIMEOUT (R489). -/
def ttLossTimeout (p : Nat) (m : Mod) : Mod :=
  let c := m.port p
  match c.refs with
  | a :: b :: _ =>
    if c.ttSync && m.ttListens p && decide (m.parN (canP p 19) * (a - b) ≤ m.time.extNow - a) then
      (m.onPort p fun c => { c with ttSync := false }).post 0xB004 p bCan []
    else m
  | _ => m

/- The grain (R471, R476, R484, R488) -/

/-- The timing and operation parameters of a port. -/
def Mod.canTiming (m : Mod) (p : Nat) : List Int := (List.range 11).map fun j => m.par (canP p (2 + j))

/-- One port at a grain boundary: mode and timing taken, with bus integration after them (R471, R476), no synchronisation without time-triggered
operation or of a master that may not send, disabled objects cleared, periodic objects and the reference message pending; all that is due then
contends together (R483). -/
def Mod.canGrainPort (m : Mod) (p : Nat) : Mod :=
  let c := m.port p
  let mode := m.parN (canP p 0)
  let timing := m.canTiming p
  let take := c.onBus.isNone && (decide (mode ≠ c.mode) || decide (timing ≠ c.timing))
  let m := if take then m.onPort p fun c => { c with mode := mode, timing := timing, detect := if mode = 2 then c.detect else none } else m
  let m := if take then m.onPort p fun c => { c with
    integ := if mode = 0 ∨ c.err = .busOff ∨ c.err = .recovering then 0 else m.bitNs p 11 } else m
  let tt := m.par (canP p 15)
  let m := if decide ((m.port p).mode = 0) || decide (tt = 0) || (decide ((m.port p).mode = 2 ∧ tt = 1) && m.acting) then
    m.onPort p fun c => { c with ttSync := false, refs := [], ttDone := [] } else m
  let on := m.canObjs p
  let dead := ((m.port p).objs.filter fun e => e.2.pending && !(on.contains e.1 && (m.canCfg p e.1).tx)).map (·.1)
  let m := m.each dead fun m o => m.onObj p o fun x => { x with pending := false, nextData := none, attempts := 0 }
  let live := m.canNormal p
  let g := m.plan.grainCnt.toNat
  let m :=
    if live && decide (m.par (canP p 15) = 1) && decide (g % m.parN (canP p 17) = 0) then
      m.onPort p fun c => { c with
        refPending := true, ttSync := c.ttSync && !c.refPending, cycle := if c.refs.isEmpty then 0 else (c.cycle + 1) % m.parN (canP p 18) }
    else m
  let due := on.filter fun o => let x := m.canCfg p o; x.tx && !x.tt && decide (0 < x.period) && decide (g % x.period = 0)
  let m := if live then m.each due fun m o => m.canPend p o (((m.port p).obj o).nextData.getD ((m.port p).obj o).txData) else m
  let m := if g % 1000 = 0 && !(decide (m.port p = default)) then
      m.onPort p fun c => { c with
        busLoad := (rnear ((c.busBits : Rat) * 10000 / (max 1 (canRate (c.timing.getD 0 1) (c.timing.getD 1 127) (c.timing.getD 2 32))))).toNat, busBits := 0 }
    else m
  m.canNext p

/-- HVAC_PORT has changed since the grain before, `old`: the objects it frees keep nothing (R491). -/
def Mod.canFreed (m : Mod) (old : Mod) : Mod :=
  let was := old.parN 0x7010
  if decide (m.par 0x7010 = old.par 0x7010) || decide (3 < was) then m
  else m.each ((List.range 8).map (248 + ·)) fun m o => m.onObj was o fun _ => {}

/-- Time passes for a port that integrates: 11 recessive bits of an idle bus end it (R471). -/
def Mod.canPass (m : Mod) (ns : Nat) : Mod :=
  m.each ((List.range 4).filter fun p => decide (0 < (m.port p).integ)) fun m p =>
    let m := m.onPort p fun c => { c with integ := c.integ - ns }
    if (m.port p).integ = 0 then m.canNext p else m

/-- The CAN ports at a grain boundary; the objects as they then stand are those of the points of the grain's copy (R481). -/
def Mod.canGrain (m : Mod) : Mod :=
  let m := (m.canPass 10000).canRole.each (List.range 4) Mod.canGrainPort
  m.onCan fun c => { c with tick0 := c.ports.map fun e => (e.1, e.2.objs) }

/- Thermal requests (R318, R319) -/

/-- The good readings of a zone. -/
def Mod.zoneTs (m : Mod) (z : Nat) : List Int :=
  (m.zoneStrings z).flatMap fun n => (m.thermsOf n).filterMap fun c =>
    if m.thermBad c || (m.therm c).prev.isNone then none else some (m.cell c).t

/-- Row HVAC_REQUEST. -/
def hvacRequest (z : Nat) (m : Mod) : Mod :=
  let port := m.parN 0x7010
  let ns := m.zoneStrings z
  if decide (7 < z) || decide (3 < port) || ns.isEmpty || m.supDown || !m.acting
      || !(((m.zone z).sentMs).all fun t => decide (t + m.parN 0x7012 ≤ m.host.ms)) then m else
    let ts := m.zoneTs z
    let hi := ts.foldl max (ts.headD 0)
    let lo := ts.foldl min (ts.headD 0)
    let cs := m.par 0x7013
    let x := m.zone z
    let none_ := ts.isEmpty
    let cool := !none_ && (if x.cool then decide (cs - 200 ≤ hi) else decide (cs ≤ hi))
    let heat := !none_ && (if x.heat then decide (lo < m.par 0x7015) else decide (lo < m.par 0x7014))
    let td := (ns.map fun n => (m.limits n).tDerate).foldl min ((ns.map fun n => (m.limits n).tDerate).headD 0)
    let pct (v : Rat) : Nat := (rnear (clampR 0 100 v)).toNat
    let demand := if cool then pct (rdiv (100 * ((hi - cs : Int) : Rat)) ((td - cs : Int) : Rat))
      else if heat then pct (10 * ((m.par 0x7015 - lo : Int) : Rat) / 100) else 0
    let mode := if none_ then 3 else if cool then 1 else if heat then 2 else 0
    let fl (p : Nat → Bool) : Nat := b2n (ns.any p)
    let flags := fl (fun n => decide (0 < (m.strProt n).step)) + 2 * fl m.anyBad + 4 * fl m.inFallow + 8 * fl (fun n => (m.link n).tripHeld)
      + 16 * b2n m.prot.warn
    let data := u8 mode ++ u8 demand ++ leI 2 hi ++ leI 2 lo ++ u8 x.seq ++ u8 flags
    (m.onZone z fun y => { y with cool := cool, heat := heat, seq := (y.seq + 1) % 256, sentMs := some m.host.ms }).canData port (248 + z) data

/- Registers and points (R493-R495) -/

def Mod.canStat (m : Mod) (p : Nat) : W32 :=
  let c := m.port p
  pack [(0, 2, if c.detect.isSome then 3 else c.mode), (2, 2, c.err.ctorIdx), (4, 1, b2n c.txInhibit), (5, 1, b2n c.ttSync),
    (6, 1, b2n (c.objs.any fun e => e.2.stranded)), (7, 1, b2n c.lostAny), (8, 1, b2n c.txFailAny), (9, 1, b2n c.lockAbort), (10, 1, b2n c.ttMissAny)]
def Mod.canErr (m : Mod) (p : Nat) : W32 :=
  let c := m.port p
  pack [(0, 9, c.tec), (16, 8, c.recCnt), (24, 3, c.lec)]

/-- Point `k` of an object (R495): a transmit object shows the frame that it sends, without stamps (log 71). -/
def Mod.canObjPoint (m : Mod) (p o k : Nat) : Nat :=
  let x := (m.port p).obj o
  let g := m.canCfg p o
  let tx := g.en && g.tx
  let f := if tx then g.frame (decide ((m.port p).err = .passive)) x.txData else x.rx.frame
  match k with
  | 0 => maskOf (([x.valid, x.pending, x.lost, x.stranded, x.txFail, f.fdf, f.brs, f.esi, f.rtr, x.ttMiss].zipIdx.filter (·.1)).map (·.2))
  | 1 => f.id + 2 ^ 29 * b2n f.ide
  | 2 => if tx || x.valid then dlcLen f.fdf f.dlc else 0
  | 3 => f.dlc
  | 4 => if tx then 0 else x.rx.tsGrain.toNat
  | 5 => if tx then 0 else x.rx.tsNs.toNat
  | 6 => x.frames
  | 7 => x.lostCnt
  | 8 => x.retries
  | k => if k < 25 then rdN f.data (4 * (k - 9)) 4 else 0

/-- Point `k` of a port (R495). -/
def Mod.canPortPoint (m : Mod) (p k : Nat) : Nat :=
  let c := m.port p
  match k with
  | 0 => (m.canStat p).toNat
  | 1 => (m.canErr p).toNat
  | 2 => c.rxFrames
  | 3 => c.txFrames
  | 4 => c.errFrames
  | 5 => c.arbLost
  | 6 => c.busOffCnt
  | 7 => c.unmatched
  | 8 => c.lockDefer
  | 9 => c.detRate
  | 10 => c.cycle
  | 11 => c.busLoad
  | 12 => c.txDropped
  | _ => 0

end Sys2Proof.Machine
end

