-- ==== Sys2Proof/Machine/Store.lean ====
section
/-! DEFINITION. Storage (spec file 15_storage_recorder_memory.md): flushes, the recorder's reading and clearing, the cell
archive, configuration banks, flash wear, DRAM errors and DMA. -/

namespace Sys2Proof.Machine

/- Records as bytes (R525) -/

/-- The 64 bytes of a record (Table 15.2). -/
def EventRec.bytes (r : EventRec) : List Byte :=
  let b := leN 4 r.rseq ++ leN 2 r.code ++ leN 1 r.cls ++ [r.rflags] ++ leN 6 r.opMs ++ leN 2 r.source ++ leN 4 r.pwrCycle
    ++ leN 4 r.grain.toNat ++ leN 6 r.ptpSec ++ leN 4 r.ptpNs ++ leN 1 r.tick ++ leN 1 r.data.length ++ padTo 24 0 r.data
  b ++ leN 4 (crc32c b).toNat

/-- Row RECORD_POST (R526, R528): an event of the catalogue is recorded. -/
def recordPost (code item block : Nat) (data : List Byte) (m : Mod) : Mod :=
  if evCatalogue.any fun r => r.code == code then m.post code item block data else m

/- Flushes (R529-R531) -/

/-- Row FLUSH_START (R529): the period or the fill of Table 15.14, or a record of class FAULT or above, that waits. -/
def flushStart (m : Mod) : Mod :=
  let due := decide (1000 * m.parN 0xD080 ≤ m.since m.store.lastFlush) || decide (m.parN 0xD081 ≤ m.store.undurable.length)
    || m.store.undurable.any fun r => decide (2 ≤ r.cls)
  if m.store.flush.isNone && due then m.startFlush false else m

/-- The flash partitions by number, and 6 the reserve: first byte address and size (Table 15.1). -/
def partitionAt (p : Nat) : Nat × Nat :=
  [(0, 0x10000000), (0x10000000, 0x10000000), (0x20000000, 0x4000000), (0x24000000, 0x20000000), (0x44000000, 0x100000000),
    (0x144000000, 0x280000000), (0x3C4000000, 0x3C000000)].getD p (0, 0)

/-- An address lies in a partition. -/
def inPartition (p a : Nat) : Bool := decide ((partitionAt p).1 ≤ a ∧ a < (partitionAt p).1 + (partitionAt p).2)

/-- Capacity of the recorder ring and of the marker area, its first 1 MiB, in records (Table 15.1, R536). -/
def ringCap : Nat := ((partitionAt 4).2 - 2 ^ 20) / 64
def markerCap : Nat := 2 ^ 20 / 64

/-- The ring with more records: when full, each new page of 64 overwrites the oldest (R530). -/
def ringAdd (ring more : List EventRec) : List EventRec :=
  let l := ring ++ more
  if l.length ≤ ringCap then l else l.drop ((l.length - ringCap + 63) / 64 * 64)

/-- The records that a flush covers, of those not yet durable. -/
def StoreSt.covered (s : StoreSt) (f : Flush) : List EventRec :=
  let u := s.undurable
  (u.takeWhile fun r => r.rseq != f.last) ++ (u.filter fun r => r.rseq == f.last)

/-- Power is lost in a flush (R522, R530): the pages of 64 records that it has written are durable, how many being a free value; the flush
marker is not written. -/
def Mod.flushCut (m : Mod) : Mod :=
  match m.store.flush with
  | none => m
  | some f =>
    let cov := m.store.covered f
    let (v, m) := m.free
    m.onStore fun s => { s with flashRing := ringAdd s.flashRing (cov.take (64 * (v.toNat % (cov.length / 64 + 1)))), flush := none }

/-- Row FLUSH_COMPLETE (R529-R531, R548): the covered records are durable and the flush marker is written. -/
def flushComplete (m : Mod) : Mod :=
  match m.store.flush with
  | none => m
  | some f =>
    if !m.store.flashReady || m.store.flashHold then m else
      let cov := m.store.covered f
      let ring := ringAdd m.store.flashRing cov
      let left := decide (cov.length < m.store.undurable.length)
      let m := (m.onStore fun s => { s with
        flashRing := ring
        recOldest := (ring.head?.map (·.rseq)).getD s.recOldest
        recDurable := f.last, mkLastDurable := f.last
        mkClean := f.emergency && !left && s.dropRange.isNone
        sram := s.sram.filter fun r => !cov.any fun c => c.rseq == r.rseq
        flush := none, flushAgain := false }).dmaEnd 2
      let again := m.store.flushAgain
      let m := match m.store.dropRange with
        | some (a, b) => (m.onStore fun s => { s with dropRange := none }).post 0xD001 0xFF bStore (leN 4 a ++ leN 4 b)
        | none => m
      if again then m.startFlush false else m

/-- Row FLASH_RESPONSE_CHANGE (R533): held records flush once the device responds. -/
def flashResponseChange (responding : Bool) (m : Mod) : Mod :=
  let m := m.onStore fun s => { s with flashReady := responding, flashHold := !responding }
  if responding && !m.store.undurable.isEmpty then m.startFlush false else m

/-- Row RATE_SECOND_END (R532): one REC_SUPPRESSED for each CODE and SOURCE withheld in the second. -/
def rateSecondEnd (m : Mod) : Mod :=
  if m.power.opMs % 1000 ≠ 0 then m else
    let l := m.store.rate.filter fun e => e.2.2 != 0
    let m := m.onStore fun s => { s with rate := [] }
    m.each l fun m e => m.post 0xD003 0xFF bStore (leN 2 e.1.1 ++ leN 2 e.1.2 ++ leN 4 e.2.2)

/-- The recorder at a start (R531): after a clean stop numbering goes on; otherwise the SRAM is flushed and numbering resumes at
RSEQ_HWM, or for a blank cold frame 4,096 beyond the highest durable RSEQ (R567), with the gap recorded. -/
def Mod.recStart (m : Mod) (blank : Bool) : Mod :=
  let s := m.store
  let clean := s.mkClean && !blank
  let back := s.sram.map fun r => { r with rflags := r.rflags ||| 4 }
  let ring := if clean then s.flashRing else ringAdd s.flashRing back
  let lastD := if clean then s.mkLastDurable else (ring.getLast?.map (·.rseq)).getD (if blank then 0 else s.mkLastDurable)
  let hwm := m.power.rseqHwm
  let nxt := if clean then nextRseq s.mkLastDurable
    else if blank then rseqPlus lastD 4096
    else if hwm != 0 && seqLe (nextRseq lastD) hwm then hwm else nextRseq lastD
  let gap := if clean || nextRseq lastD == nxt then none else some (nextRseq lastD, prevRseq nxt)
  let m : Mod := { m with
    store := { s with
      startClean := clean, mkClean := false, flashReady := true, flashHold := false
      sram := [], dram := [], flashRing := ring, flush := none, flushAgain := false, dropRange := none, rate := []
      sramFull := false, dramDrop := false
      recNext := nxt, recDurable := lastD, mkLastDurable := lastD
      recOldest := (ring.head?.map (·.rseq)).getD 0
      lastFlush := m.host.ms }
    power := if hwm == 0 || seqLe hwm nxt then { m.power with rseqHwm := rseqPlus nxt 4096 } else m.power }
  match gap with
  | some (a, b) => m.post 0xD001 0xFF bStore (leN 4 a ++ leN 4 b)
  | none => m

/- Reading (R534, R535) -/

/-- Every readable record, oldest first: the durable ones and those not yet. -/
def StoreSt.readable (s : StoreSt) : List EventRec := s.flashRing ++ s.undurable

/-- FLASH_HOLD (R533). -/
def Mod.flashHeld (m : Mod) : Bool := m.store.flashHold || !m.store.flashReady || m.store.roMask.getLsbD 4

/-- A record matches a query (Table 15.6). -/
def QuerySt.matches (q : QuerySt) (r : EventRec) : Bool :=
  decide (q.codeLo ≤ r.code ∧ r.code ≤ q.codeHi) && (q.source == 0xFFFF || q.source == r.source) && q.classes.testBit r.cls

/-- The records of a list in a query's direction from FROM on. -/
def QuerySt.span (q : QuerySt) (l : List EventRec) : List EventRec :=
  if q.kind = 0 then (if q.from_ = 0 then l else l.filter fun r => seqLe q.from_ r.rseq)
  else (if q.from_ = 0 then l else l.filter fun r => seqLe r.rseq q.from_).reverse

/-- The records a query returns, and whether others match beyond them. -/
def QuerySt.pick (q : QuerySt) (l : List EventRec) : List EventRec × Option EventRec :=
  let h := (q.span l).filter q.matches
  (h.take q.count, (h.drop q.count).head?)

/-- The query is served wholly from the DRAM ring: the ring holds every record it must look at, or flash cannot be read (R534). -/
def Mod.queryFromDram (m : Mod) (q : QuerySt) : Bool :=
  if m.flashHeld then true
  else if q.arch.isSome then false
  else if q.kind = 2 then true
  else
    let all := m.store.readable
    let (got, _) := q.pick all
    match (if q.kind = 0 then (q.span all).head? else if got.length < q.count then all.head? else got.getLast?) with
    | none => true
    | some r => m.store.dram.any (·.rseq == r.rseq)

/-- The value of QUERY_RESULT (Table 15.6). -/
def queryResult (returned first last next oldest bytes : Nat) : Tlv :=
  ⟨0x92, leN 4 returned ++ leN 4 first ++ leN 4 last ++ leN 4 next ++ leN 4 oldest ++ leN 4 0 ++ leN 4 bytes⟩

/- Archive records (R537, R538) -/

/-- One archive cell entry as bytes (Table 15.7). -/
def ArchEntry.bytes (e : ArchEntry) : List Byte :=
  leN 2 e.vMean ++ leN 2 e.vMin ++ leN 2 e.vMax ++ leI 2 e.tMax ++ leN 2 e.soc ++ leN 2 e.socU ++ leN 2 e.rOhm ++ leN 2 e.cap

/-- Length of an archive record. -/
def ArchRec.len (r : ArchRec) : Nat := 64 + 160 + 16 * r.entries.length

/-- A bitmap of 80 bytes. -/
def bitmap80 (l : List Nat) : List Byte := (List.range 80).map fun i => BitVec.ofNat 8 (maskOf ((l.filter fun x => x / 8 == i).map (· % 8)))

/-- An archive record as bytes (R538). The places of the header's fields between the named ones follow their order (DEDUCED,
log 31). -/
def ArchRec.bytes (r : ArchRec) : List Byte :=
  let h := leN 4 0x4B584148 ++ leN 1 r.string ++ leN 1 r.tier ++ leN 2 r.cells ++ leN 6 r.fromMs ++ leN 6 r.toMs ++ leN 4 r.grain.toNat
    ++ leN 6 r.ptpSec ++ leN 4 r.ptpNs ++ leN 4 r.len
  let body := bitmap80 r.resetMap ++ bitmap80 r.staleMap ++ r.entries.flatMap ArchEntry.bytes
  let whole := padTo 64 0 h ++ body
  padTo 60 0 h ++ leN 4 (crc32c whole).toNat ++ body

/-- What a query returns: the bytes for DEST and the QUERY_RESULT (R534). While flash cannot be read the DRAM ring alone serves it, which
holds no archive record. -/
def Mod.queryOut (m : Mod) (q : QuerySt) : List Byte × Tlv :=
  match q.arch with
  | some (str, tier, fromMs) =>
    let l := if m.flashHeld then [] else m.store.archive.filter fun r => r.string == str && r.tier == tier && decide (fromMs ≤ r.fromMs)
    let fits := (l.take q.count).foldl (fun (acc : List ArchRec × Nat) r =>
      if acc.2 + r.len ≤ q.maxLen then (acc.1 ++ [r], acc.2 + r.len) else (acc.1, q.maxLen + 1)) ([], 0)
    let got := fits.1
    let bs := got.flatMap ArchRec.bytes
    (bs, queryResult got.length 0 0 0 m.store.recOldest bs.length)
  | none =>
    if q.kind = 2 then
      let l := evCatalogue.filter fun r => decide (q.from_ ≤ r.code)
      let got := l.take q.count
      let bs := got.flatMap evEntry
      (bs, queryResult got.length ((got.head?.map (·.code)).getD 0) ((got.getLast?.map (·.code)).getD 0)
        (((l.drop q.count).head?.map (·.code)).getD 0) m.store.recOldest bs.length)
    else
      let (got, more) := q.pick (if m.flashHeld then m.store.dram else m.store.readable)
      let bs := got.flatMap EventRec.bytes
      (bs, queryResult got.length ((got.head?.map (·.rseq)).getD 0) ((got.getLast?.map (·.rseq)).getD 0)
        ((more.map (·.rseq)).getD 0) m.store.recOldest bs.length)

/-- Runs a query to its end: the results reach DEST, and QUERY_RESULT is formed (R534). -/
def Mod.runQuery (m : Mod) (q : QuerySt) : Mod × Tlv := (m.xaPut q.dest (m.queryOut q).1, (m.queryOut q).2)

/-- Ends the running query of a session: with its result, or with a status and no QUERY_RESULT, the first `written` bytes of its results
standing in DEST (R547, Table 15.10). -/
def Mod.endQuery (m : Mod) (sid : Nat) (status written : Nat) : Mod :=
  match m.store.queries.find? fun q => q.sid == sid with
  | none => m
  | some q =>
    let m := (m.onStore fun s => { s with queries := s.queries.filter fun x => x.sid != sid }).onSession sid fun s => { s with query := none }
    let m := if (m.dmaCh 11).use == .query sid then m.dmaEnd 11 else m
    let o : Origin := ⟨sid, 0x0160, q.seq.toNat⟩
    if status = 0 then
      let (m, t) := m.runQuery q
      m.complete o 0 [t]
    else (m.xaPut q.dest ((m.queryOut q).1.take written)).complete o status []

/-- Row RECORD_QUERY_COMPLETE (R534). -/
def recordQueryComplete (sid : Nat) (m : Mod) : Mod := m.endQuery sid 0 0

/-- The state of the Rovisa port: 0 BOOT, 1 NORMAL, 2 SERVICE, 3 RECOVERY (Table 17.1). The cursor window is served in all but NORMAL (R535). -/
def Mod.portState (m : Mod) : Nat := if m.upd.recovery then 3 else if m.upd.service then 2 else b2n m.plan.firstGrain
/-- The port is powered: the supervisor has booted, or is in RECOVERY (R588). -/
def Mod.portServed (m : Mod) : Bool := m.upd.recovery || decide (m.power.state = .running ∨ m.power.state = .parked ∨ m.power.state = .failing)
def Mod.cursorServed (m : Mod) : Bool := m.portServed && decide (m.portState ≠ 1)

/-- Refills the cursor window from its position (R535). -/
def Mod.curFill (m : Mod) : Mod :=
  let s := m.store
  let area := s.curCtrl.toNat / 2
  let l := if area = 0 then s.flashRing ++ (s.sram.filter fun r => !s.flashRing.any (·.rseq == r.rseq))
    else if area = 1 then s.sram else if area = 2 then s.markers else []
  let q : QuerySt := { kind := s.curCtrl.toNat % 2, from_ := s.curPos }
  let sp := q.span l
  m.onStore fun s => { s with curData := sp.take 16, curEnd := decide (sp.length ≤ 16) }

/-- Row REC_CUR_POS_WRITE: the position or the control word is written and the window refilled (R535, Table 15.11). -/
def recCurPosWrite (pos : Option W32) (ctrl : Option (BitVec 3)) (m : Mod) : Mod :=
  if !m.cursorServed then m else
    (m.onStore fun s => { s with
      curPos := (pos.map (·.toNat)).getD s.curPos
      curBad := if pos.isSome then 0 else s.curBad
      curCtrl := ctrl.getD s.curCtrl }).curFill

/-- Row REC_CUR_DATA_LAST_READ: the cursor moves past the records of the window and the window is refilled (R535). -/
def recCurDataLastRead (m : Mod) : Mod :=
  let s := m.store
  if !m.cursorServed then m else
    match s.curData.getLast? with
    | none => m
    | some r =>
      if s.curEnd then m.onStore fun s => { s with curPos := r.rseq, curData := [] }
      else
        let p := if s.curCtrl.toNat % 2 = 0 then nextRseq r.rseq else prevRseq r.rseq
        (m.onStore fun s => { s with curPos := p }).curFill

/- Clearing (R536) -/

/-- The clear of RECORDER_CLEAR, once confirmed: by credential `cred` in session `sid`. How many results a running query has written, which
stand (Table 15.10), is a free value. -/
def Mod.recorderClear (m : Mod) (cred sid : Nat) : Mod × Nat :=
  if markerCap ≤ m.store.markers.length then (m, 0x8D02) else
    let last := if 1 < m.store.recNext then m.store.recNext - 1 else (m.store.readable.getLast?.map (·.rseq)).getD 0
    let r := m.mkRec 0xD002 0xFF bStore (u8 cred ++ [0, 0, 0] ++ leN 4 sid ++ leN 4 m.store.recOldest ++ leN 4 last
      ++ leN 2 (m.power.clearCount + 1))
    let m := m.each (m.store.queries.map (·.sid)) fun m sid => let (v, m) := m.free; m.endQuery sid 0x8D04 (64 * (v.toNat % 131072))
    let nxt := nextRseq r.rseq
    (({ m with
      store := { m.store with
        markers := m.store.markers ++ [r], flashRing := [r], dram := [], sram := [], flush := none, flushAgain := false
        dropRange := none, recNext := nxt, recDurable := r.rseq, mkLastDurable := r.rseq, recOldest := r.rseq }
      power := { m.power with
        clearCount := m.power.clearCount + 1, lastClearRseq := last
        rseqHwm := if nxt = m.power.rseqHwm then rseqPlus nxt 4096 else m.power.rseqHwm } } : Mod).dmaEnd 2, 0)

/- The archive (R537-R540) -/

def Mod.archAcc (m : Mod) (g : Nat) : ArchAcc := tget m.store.archCells g

/-- Gathers a grain of a string's cells; a string with no period in progress starts one (R537-R539). -/
def Mod.archGrain (m : Mod) (n : Nat) : Mod :=
  if !m.configured n || m.parN (0xD000 + 4 * n) = 0 then m else
    let m := if tget m.store.arch n == default && m.store.arch.all (fun e => e.1 != n) then
        m.onStore fun s => { s with arch := tput s.arch n { fromMs := m.power.opMs, dayFrom := m.power.opMs } } else m
    let m := m.onStore fun s => { s with arch := tmod s.arch n fun p => { p with grains := p.grains + 1 } }
    m.each (m.gcells n) fun m g =>
      let c := m.cell g
      let t := m.protT n g
      m.onStore fun s => { s with archCells := tmod s.archCells g fun a =>
        let first := decide (a.vCount = 0 ∧ a.staleGrains = 0)
        { a with
          vSum := if c.fresh then a.vSum + c.v else a.vSum
          vMin := if c.fresh then (if a.vCount = 0 then c.v else min a.vMin c.v) else a.vMin
          vMax := if c.fresh then max a.vMax c.v else a.vMax
          vCount := if c.fresh then a.vCount + 1 else a.vCount
          staleGrains := if c.fresh then a.staleGrains else a.staleGrains + 1
          tMax := if first then t else max a.tMax t } }

/-- The entry of a cell at the end of a period (Table 15.7). -/
def Mod.archEntry (m : Mod) (g : Nat) : ArchEntry :=
  let a := m.archAcc g
  let e := m.cellEst g
  { vMean := if a.vCount = 0 then 0 else (rnear ((a.vSum : Rat) / a.vCount)).toNat
    vMin := a.vMin, vMax := a.vMax, tMax := a.tMax
    soc := socU16 e.zr, socU := socU16 (m.uncOf g)
    rOhm := stopAt 0xFFFF (rnear (e.rOhm * 100000)).toNat, cap := stopAt 0xFFFF (rnear (e.cap * 10)).toNat }

/-- The archive keeps as many bytes of a tier as it has room for, the newest (R537). -/
def archTrim (tier cap : Nat) (l : List ArchRec) : List ArchRec :=
  (l.reverse.foldl (fun (acc : List ArchRec × Nat) r =>
    if r.tier != tier then (r :: acc.1, acc.2)
    else if acc.2 + r.len ≤ cap then (r :: acc.1, acc.2 + r.len) else (acc.1, cap + 1)) ([], 0)).1

/-- A record joins the archive. -/
def Mod.archAdd (m : Mod) (r : ArchRec) : Mod :=
  m.onStore fun s => { s with archive := archTrim 1 ((partitionAt 5).2 / 4) (archTrim 0 ((partitionAt 5).2 / 4 * 3) (s.archive ++ [r])) }

/-- The archive can be written. -/
def Mod.archWritable (m : Mod) : Bool := m.flashWrites 5

/-- The fine record of the period in progress, and the start of the next. -/
def Mod.archFine (m : Mod) (n : Nat) : Mod :=
  let p := tget m.store.arch n
  let top := (m.monAddrs n).foldl (fun a b => max a (b + 1)) 0
  let gs := m.gcells n
  let (ts, tn) := m.nowSN
  let r : ArchRec :=
    { string := n, tier := 0, cells := gs.length, fromMs := p.fromMs, toMs := m.power.opMs, grain := m.plan.grainCnt, ptpSec := ts, ptpNs := tn
      resetMap := (List.range (16 * top)).filter fun k => (m.archAcc (640 * n + k)).reset
      staleMap := (gs.filter fun g => decide (p.grains < 2 * (m.archAcc g).staleGrains)).map fun g => g - 640 * n
      entries := (List.range (16 * top)).map fun k => if gs.contains (640 * n + k) then m.archEntry (640 * n + k) else {} }
  let m := m.archAdd r
  let m := m.onStore fun s => { s with
    arch := tmod s.arch n fun p => { p with fromMs := m.power.opMs, grains := 0 }
    archCells := (List.range 640).foldl (fun t k => tput t (640 * n + k) {}) s.archCells }
  m

/-- Row ARCHIVE_FINE_PERIOD (R537): ARCH_PERIOD of operating hours has passed; or the parameter has changed, which ends the
period early (R539; `archPeriodChange`). -/
def archiveFinePeriod (n : Nat) (m : Mod) : Mod :=
  let p := tget m.store.arch n
  if m.configured n && decide (m.par (0xD000 + 4 * n) = 1) && decide (0 < p.grains)
      && decide (p.fromMs + 1000 * m.parN (0xD001 + 4 * n) ≤ m.power.opMs) && m.archWritable then m.archFine n else m

/-- A change of ARCH_PERIOD from the snapshot `old` ends the period early (R539). -/
def Mod.archPeriodChange (m : Mod) (old : Mod) : Mod :=
  m.each strings fun m n =>
    if m.par (0xD001 + 4 * n) ≠ old.par (0xD001 + 4 * n) ∧ 0 < (tget m.store.arch n).grains ∧ m.archWritable then m.archFine n else m

/-- Row ARCHIVE_COARSE_DAY (R537): the coarse record of a day from its fine records: means of the means, extremes, and the
values at the end; a cell is stale where most of them say so (DEDUCED, log 31). -/
def archiveCoarseDay (n : Nat) (m : Mod) : Mod :=
  let p := tget m.store.arch n
  if !(m.configured n && decide (m.par (0xD000 + 4 * n) = 1) && decide (p.dayFrom + 86400000 ≤ m.power.opMs) && m.archWritable) then m else
    let day := m.store.archive.filter fun r => r.string == n && r.tier == 0 && decide (p.dayFrom ≤ r.fromMs)
    let m := m.onStore fun s => { s with arch := tmod s.arch n fun p => { p with dayFrom := p.dayFrom + 86400000 } }
    match day.head?, day.getLast? with
    | some a, some z =>
      let cnt := (day.map fun r => r.entries.length).foldl max 0
      let col (k : Nat) : List ArchEntry := day.filterMap fun r => r.entries[k]?
      let ent := (List.range cnt).map fun k =>
        let es := col k
        let live := es.filter fun e => e.vMax != 0
        let e := es.getLast?.getD {}
        { e with
          vMean := if live.isEmpty then 0 else (rnear (((live.map (·.vMean)).sum : Rat) / live.length)).toNat
          vMin := match live with | [] => 0 | x :: t => (t.map (·.vMin)).foldl min x.vMin
          vMax := (live.map (·.vMax)).foldl max 0
          tMax := match es with | [] => 0 | x :: t => (t.map (·.tMax)).foldl max x.tMax }
      let ks := List.range (16 * 40)
      m.archAdd { z with
        tier := 1, fromMs := a.fromMs, entries := ent
        resetMap := ks.filter fun k => day.any fun r => r.resetMap.contains k
        staleMap := ks.filter fun k => decide (day.length < 2 * (day.filter fun r => r.staleMap.contains k).length) }
    | _, _ => m

/-- The periods lost by a restart or power loss (R539), from the end of each string's last record. -/
def Mod.archGap (m : Mod) : Mod :=
  m.each m.confStrings fun m n =>
    match (m.store.archive.filter fun r => r.string == n && r.tier == 0).getLast? with
    | some r => if m.par (0xD000 + 4 * n) = 1 then m.post 0xD00B n bStore (u8 n ++ u8 0 ++ [0, 0] ++ leN 8 r.toMs) else m
    | none => m

/- Configuration banks (R524) -/

/-- A class P item has changed: the set goes to the bank not in use, but no write starts late in a power failure (R563). -/
def Mod.cfgWrite (m : Mod) : Mod :=
  let m := m.onHost fun h => { h with cfgPending := true }
  if m.flashLate then m else (m.onStore fun s => { s with cfgWriting := true }).dmaStart 0 .config 4096

/-- Row CONFIG_WRITE_COMPLETE: the commit page is durable. -/
def configWriteComplete (m : Mod) : Mod :=
  if !m.store.cfgWriting || !m.store.flashReady || m.store.flashHold then m else
    let s := m.store
    let b := 1 - s.bankInUse
    let gen := (if s.bankInUse = 0 then s.bank0 else s.bank1).generation + 1
    let m := (m.onHost fun h => { h with cfgPending := false }).onStore fun s => { s with
      cfgWriting := false, bankInUse := b, cfgParams := m.host.params
      bank0 := if b = 0 then ⟨gen, true⟩ else s.bank0
      bank1 := if b = 1 then ⟨gen, true⟩ else s.bank1 }
    m.dmaEnd 0

/-- The bank chosen at a start: valid, of the higher generation; a written bank that is not valid is recorded (R524). -/
def Mod.cfgStart (m : Mod) : Mod :=
  let s := m.store
  let bad (k : Nat) (b : CfgBank) (m : Mod) : Mod :=
    if !b.valid && b.generation != 0 then m.post 0xD007 0xFF bStore (u8 k ++ [0, 0, 0] ++ leN 4 b.generation) else m
  let use := if s.bank1.valid && (!s.bank0.valid || decide (s.bank0.generation < s.bank1.generation)) then 1 else 0
  (bad 1 s.bank1 (bad 0 s.bank0 m)).onStore fun s => { s with bankInUse := use }

/- Flash wear (R523) -/

/-- Pages of the reserve (Table 15.1). -/
def reservePages : Nat := (partitionAt 6).2 / 4096

/-- One partition more is read-only, in the order archive, recorder ring, checkpoints. -/
def Mod.wearStep (m : Mod) : Mod :=
  match [5, 4, 3].find? fun p => !m.store.roMask.getLsbD p with
  | some p => (m.onStore fun s => { s with roMask := s.roMask ||| BitVec.ofNat 6 (2 ^ p) }).post 0xD006 0xFF bStore (u8 p)
  | none => m

/-- Row FLASH_PAGE_WRITE_FAIL: the retry failed too; the page, one of its partition, is mapped to the next free page of the reserve. A
failure that finds the reserve exhausted makes one partition more read-only. -/
def flashPageWriteFail (partition addr : Nat) (m : Mod) : Mod :=
  if !inPartition partition addr then m
  else if reservePages ≤ m.store.retired.length then m.wearStep else
    (m.onStore fun s => { s with retired := s.retired ++ [addr / 4096 * 4096] }).post 0xD004 0xFF bStore
      (u8 partition ++ List.replicate 7 0 ++ leN 8 addr)

/-- Row FLASH_LIFE_CHANGE: FLASH_WEAR at the warning level, and one partition more read-only at 100 % or with the reserve exhausted. -/
def flashLifeChange (life : Nat) (reserveOut : Bool) (m : Mod) : Mod :=
  let life := min life 100
  let warn := decide (m.parN 0xD085 % 256 ≤ life) && !m.store.wearWarned
  let m := m.onStore fun s => { s with flashLife := life, wearWarned := s.wearWarned || warn }
  let m := if warn then m.post 0xD005 0xFF bStore (u8 life) else m
  if life = 100 || reserveOut || decide (reservePages ≤ m.store.retired.length) then m.wearStep else m

/-- BLK_STAT.FLASH_OK (R37, R523). -/
def Mod.flashOk (m : Mod) : Bool := m.store.flashReady && !m.store.flashHold && decide (m.store.roMask = 0)

/- DRAM (R542-R544) -/

/-- The row of Table 15.8 of an address. -/
def dramRow (a : Nat) : Nat :=
  if a < 0x40000000 then 0 else if a < 0x80000000 then 1 else if a < 0x81000000 then 2 else if a < 0x81800000 then 3 else 4

/-- A line is poisoned (R544). -/
def Mod.poison (m : Mod) (addr reader : Nat) : Mod :=
  let line := addr % 2 ^ 33 / 64 * 64
  if m.store.poison.contains line then m else
    (m.onStore fun s => { s with
      poison := line :: s.poison, ue := stopAt 255 (s.ue + 1), ueAddr := line, dramBad := true }).post 0xD009 0xFF bStore
      (leN 8 line ++ u8 (dramRow line) ++ u8 reader)

/-- A line of the host exchange area that a command would read is poisoned. -/
def Mod.xaPoisoned (m : Mod) (off len : Nat) : Bool :=
  m.store.poison.any fun l => decide (0x80000000 + off < l + 64 ∧ l < 0x80000000 + off + len)

/-- Row SCRUB_PASS (R543): corrected errors are counted, lines with two bits wrong poisoned. -/
def scrubPass (corrected : Nat) (bad : List Nat) (m : Mod) : Mod :=
  let fresh := decide (3600000 ≤ m.since m.store.ceHourFrom)
  let m := m.onStore fun s => { s with
    scrubAt := m.host.ms
    ce := stopAt 0xFFFF (s.ce + corrected)
    ceHour := (if fresh then 0 else s.ceHour) + corrected
    ceHourFrom := if fresh then m.host.ms else s.ceHourFrom
    ceHigh := s.ceHigh && !fresh }
  let m := if !m.store.ceHigh && decide (m.parN 0xD084 < m.store.ceHour) then
      (m.onStore fun s => { s with ceHigh := true }).post 0xD008 0xFF bStore (leN 4 m.store.ceHour) else m
  m.each bad fun m a => m.poison a bStore

/-- What a read of a poisoned line of rows 3 and 4 does: a record of the DRAM ring is taken from the SRAM where it is still held
and is a gap where it is neither there nor durable; the function using a buffer fails (Table 15.8). The place of a record in its
ring is RSEQ modulo 131,072 (DEDUCED, log 31). -/
def Mod.ueRing (m : Mod) (addr : Nat) : Mod :=
  let k := (addr - 0x81000000) / 64
  match m.store.dram.find? fun r => r.rseq % 131072 == k with
  | none => m
  | some r =>
    if m.store.sram.any (·.rseq == r.rseq) || m.store.flashRing.any (·.rseq == r.rseq) then m
    else (m.onStore fun s => { s with dram := s.dram.filter fun x => x.rseq != r.rseq }).post 0xD001 0xFF bStore (leN 4 r.rseq ++ leN 4 r.rseq)

/- DMA (R545-R547) -/

/-- The operation a transfer belongs to fails and leaves the state before it in force (R547); what its whole bursts wrote of `bytes` stands:
results of a query in DEST, and in the configuration bank not in use a set without its commit page (R524). -/
def Mod.failUse (m : Mod) (u : DmaUse) (bytes : Nat) : Mod :=
  match u with
  | .none => m
  | .query sid => m.endQuery sid 0x8D03 (bytes / 64 * 64)
  | .config =>
    let cut (b : CfgBank) : CfgBank := if 64 ≤ bytes then { b with valid := false } else b
    m.onStore fun s => { s with
      cfgWriting := false
      bank0 := if s.bankInUse = 1 then cut s.bank0 else s.bank0, bank1 := if s.bankInUse = 0 then cut s.bank1 else s.bank1 }
  | .checkpoint n => checkpointWriteComplete n false m
  | .flush => m.onStore fun s => { s with flush := none, flushAgain := false }
  | .other => m

/-- A channel faults (R546, R547). -/
def Mod.dmaFault (m : Mod) (ch cause bytes : Nat) : Mod :=
  let d := m.dmaCh ch
  let at_ := d.descAt
  let m := m.failUse d.use bytes
  (m.onDma ch fun d => { d with busy := false, fault := true, cause := cause, done := bytes, desc := none, use := .none }).post 0xD00A ch bStore
    (u8 ch ++ u8 cause ++ [0, 0] ++ leN 4 bytes ++ leN 8 at_)

/-- Row DMA_FAULT: IOMMU, ECC, flash device or aborted, with the bytes moved before. -/
def dmaFaultRow (ch cause bytes : Nat) (m : Mod) : Mod := if !(m.dmaCh ch).busy then m else m.dmaFault ch cause bytes

/-- A descriptor is in error (R546): LEN 0 or too long, a reserved CTRL bit, or NEXT outside the channel's windows. -/
def DmaCh.badDesc (d : DmaCh) (x : DmaDesc) : Bool :=
  x.len == 0 || decide (16777216 < x.len) || decide (4 ≤ x.ctrl.toNat)
    || (!x.ctrl.getLsbD 0 && !d.windows.any fun w => decide (w.1 ≤ x.next ∧ x.next + 32 ≤ w.1 + w.2.1))

/-- Row DMA_DESCRIPTOR_DONE: the descriptor is complete; the chain ends at LAST, or goes on with the descriptor read at NEXT. -/
def dmaDescriptorDone (ch : Nat) (next : DmaDesc) (m : Mod) : Mod :=
  let d := m.dmaCh ch
  match d.busy, d.desc with
  | true, some x =>
    if x.ctrl.getLsbD 0 then m.onDma ch fun d => { d with busy := false, done := x.len, desc := none }
    else
      let m := m.onDma ch fun d => { d with desc := some next, descAt := x.next, done := 0 }
      if (m.dmaCh ch).badDesc next then m.dmaFault ch 1 0 else m
  | _, _ => m

/-- Row DRAM_UE_LO_READ: the read latches DRAM_UE_HI for the read that directly follows (R550). -/
def dramUeLoRead (m : Mod) : Mod := m.onStore fun s => { s with ueLatch := some (s.ueAddr / 2 ^ 32) }

/-- A patrol pass is in progress (R543): DRAM_SCRUB_H hours have passed since the last one, and the next has not ended (log 31). -/
def Mod.scrubDue (m : Mod) : Bool := decide (3600000 * m.parN 0xD083 ≤ m.since m.store.scrubAt)

/- Registers (R549, R550) -/

/-- A register of this chapter, none where there is none. The cursor registers read 0 outside the port's service states. -/
def Mod.storeReg (m : Mod) (off : Nat) : Option W32 :=
  let s := m.store
  let w (n : Nat) : Option W32 := some (BitVec.ofNat 32 n)
  if off = 0x1D00 then
    some (pack [(0, 1, b2n s.flush.isSome), (1, 1, b2n s.sramFull), (2, 1, b2n s.dramDrop), (3, 1, b2n m.flashHeld), (4, 1, b2n s.startClean),
      (5, 1, b2n (m.host.sessions.any fun x => x.confirms.any fun c => c.opcode == 0x0161 && decide (m.host.ms < c.expires))),
      (16, 13, s.sram.length)])
  else if off = 0x1D04 then w s.recNext
  else if off = 0x1D08 then w s.recDurable
  else if off = 0x1D0C then w s.recOldest
  else if off = 0x1D10 then some (pack [(0, 1, b2n (s.flashReady && !s.flashHold)), (1, 7, s.flashLife), (8, 6, s.roMask.toNat)])
  else if off = 0x1D14 then w s.retired.length
  else if off = 0x1D20 then some (pack [(0, 16, s.ce), (16, 8, s.ue), (24, 1, b2n m.scrubDue)])
  else if off = 0x1D24 then w s.ueAddr
  else if off = 0x1D28 then w (s.ueLatch.getD (s.ueAddr / 2 ^ 32))
  else if off = 0x1D40 then w s.curPos
  else if off = 0x1D44 then w s.curCtrl.toNat
  else if off = 0x1D48 then some (pack [(0, 5, s.curData.length), (5, 1, b2n s.curEnd), (16, 16, s.curBad)])
  else if 0x1D80 ≤ off ∧ off < 0x2180 ∧ off % 4 = 0 then
    let k := (off - 0x1D80) / 64
    match s.curData[k]? with
    | some r => w (rdN r.bytes ((off - 0x1D80) % 64) 4)
    | none => w 0
  else if 0x2200 ≤ off ∧ off < 0x2280 ∧ off % 4 = 0 then
    let d := m.dmaCh ((off - 0x2200) / 8)
    if off % 8 = 0 then some (pack [(0, 1, b2n d.busy), (1, 1, b2n d.fault), (2, 3, d.cause)]) else w d.done
  else none

end Sys2Proof.Machine
end

