-- ==== Sys2Proof/Machine/Plan.lean ====
section
/-! DEFINITION. Ticks, grains, slots, overruns, supervisor and clock faults, and the life of a plan: loading, admission,
activation, restart and replant (spec files 01_architecture.md and 02_grain_and_espalier_plan.md). -/

namespace Sys2Proof.Machine

/- Slots and overruns (R44-R47, R78-R84) -/

/-- The slots of a bed that run now: of the slot tables in force, or built in under the idle plan and during a plan restart (R68, R77). -/
def Mod.bedSlots (m : Mod) (bed : Nat) : List Slot :=
  if (m.bed? bed).isNone then []
  else if m.plan.mode = .admitted then
    (List.range 4).flatMap fun t => (tget m.plan.tables (m.plan.tableAt t)).filter fun s => s.bed == bed
  else builtinSlots bed

/-- The slot of an identifier that runs now. -/
def Mod.slot? (m : Mod) (bed slotId : Nat) : Option Slot := (m.bedSlots bed).find? fun s => s.slotId == slotId

/-- What the kernel of a slot does (log 12). -/
def Mod.slotRole (m : Mod) (s : Slot) : Role :=
  match s.kernel with
  | 0xFF00 => .sweep
  | 0xFF01 => .protection
  | 0xFF02 => .digest
  | 0xFF03 => .publication
  | 0xFF04 => .diagnostic
  | k => m.kernelRole k

/-- The last run in a grain among the bed's slots of its role: there the work of the grain is whole (R46, log 12). -/
def Mod.lastOfRole (m : Mod) (s : Slot) : Bool :=
  let r := m.slotRole s
  (m.bedSlots s.bed).all fun o => decide (m.slotRole o ≠ r) || decide (o.startTick < s.startTick)
    || (decide (o.startTick = s.startTick) && decide (o.startCycle ≤ s.startCycle))

/-- Cycles used on a tile in this tick (R87). -/
def Mod.useCycles (m : Mod) (tile c : Nat) : Mod :=
  let u := tget m.plan.usedNow tile + c
  m.onPlan fun p => { p with usedNow := tput p.usedNow tile u, peakUsed := tmod p.peakUsed tile (max u ·) }

/-- The account of a bed. -/
def Mod.acct (m : Mod) (b : Nat) : BedAcct := tget m.plan.acct b
def Mod.onAcct (m : Mod) (b : Nat) (f : BedAcct → BedAcct) : Mod := m.onPlan fun p => { p with acct := tmod p.acct b f }

/-- Self-fault of a bed from overruns in force puts its scope in fallow mode here (R81, R82). -/
def Mod.overrunFallow (m : Mod) (b : Nat) : Bool :=
  m.safety.fallow.any fun f => f.causes.contains (if b = 32 then .overrunMod else .overrunStr b)

/-- A slot is aborted at its deadline (R78-R83): outputs held, flags, event, count, and self-fault; with a ready partner the module yields,
else fallow mode, and for an overrun in fallow mode the safe stop, follow in the next tick (R81, R82). -/
def Mod.overrun (m : Mod) (s : Slot) (cause : OverrunCause) : Mod :=
  let b := s.bed
  let fallow := m.overrunFallow b
  let held := if m.lastOfRole s then m.plan.heldRoles else (b, m.slotRole s) :: m.plan.heldRoles
  let m := (m.useCycles s.tile s.reserve).onPlan fun p => { p with
    ovrStr := if b < 32 then p.ovrStr ||| BitVec.ofNat 32 (2 ^ b) else p.ovrStr
    commonOvr := p.commonOvr || decide (b = 32)
    tileOvr := p.tileOvr ||| BitVec.ofNat 4 (2 ^ s.tile)
    heldRoles := held }
  let m := m.onAcct b fun a => { a with
    count := a.count + 1, total := stopAt 0xFFFFFFFF (a.total + 1), thisGrain := true, cleanGrains := none }
  let m := m.post 0x1004 b bFabric (u8 s.tile ++ u8 cause.ctorIdx ++ leN 2 s.slotId ++ leN 2 s.kernel ++ [0, 0])
  let m :=
    if (m.acct b).count < 3 || (m.acct b).selfFault then m
    else
      let m := (m.onAcct b fun a => { a with selfFault := true, fresh := true }).trialAgain.post 0x1001 b bFabric (u8 1 ++ u8 1 ++ [0, 0])
      let m := m.cancelActivation 1
      if m.canYield then m.yield false else m
  if !fallow || m.standby then m
  else m.onPlan fun p => { p with dueStops := if p.dueStops.contains b then p.dueStops else p.dueStops ++ [b] }

/-- What overruns of the tick before bring from this tick on (R81, R82): fallow mode, and the safe stops of overruns in fallow mode. -/
def Mod.overrunDue (m : Mod) : Mod :=
  let due := m.plan.dueStops
  let new := (m.plan.acct.filter fun e => e.2.fresh).map (·.1)
  let m := if new.isEmpty then m else (m.each new fun m b => m.onAcct b fun a => { a with fresh := false }).evalCauses
  let m := m.onPlan fun p => { p with dueStops := [] }
  m.each due fun m b => if b = 32 then m.safeStop .overrun true 0 else m.safeStop .overrun false (2 ^ b)

/-- The slot of an identifier that runs in this tick. -/
def Mod.dueSlot? (m : Mod) (bed slotId : Nat) : Option Slot :=
  (m.slot? bed slotId).filter fun s => decide (m.plan.mode ≠ .stopped) && m.runs && runsIn s.startTick s.period m.plan.tick

/-- A slot that runs in this tick is aborted. -/
def overrunAt (bed slotId : Nat) (cause : OverrunCause) (m : Mod) : Mod :=
  match m.dueSlot? bed slotId with
  | some s => m.overrun s cause
  | none => m

/-- A slot is aborted by an uncorrectable error of its tile's memory, which BLK_STAT shows (R37, R78). -/
def Mod.tileEccOverrun (m : Mod) (s : Slot) : Mod :=
  (m.onPlan fun p => { p with tileEcc := tput p.tileEcc s.tile (some p.grainCnt) }).overrun s .ecc

/-- Row OVERRUN. -/
def overrunRow (bed slotId : Nat) (cause : OverrunCause) (m : Mod) : Mod :=
  match m.dueSlot? bed slotId with
  | some s => if cause = .ecc then m.tileEccOverrun s else m.overrun s cause
  | none => m

/-- What a slot's kernel does with the string or the module (R31, R46); loops commit at the end of the tick in which their slot retired, and
the digest is formed when the grain in which its slot retired ends (R54). -/
def Mod.kernelWork (m : Mod) (s : Slot) (readback : Option (Int × Int)) : Mod :=
  let n := s.bed
  match m.slotRole s with
  | .sweep => m.evalSweep n
  | .protection =>
    let m := m.protectSlot n readback
    let m := m.each (m.monsOf n) fun m mc => m.judgeAccel n mc
    m.balanceCheck n
  | .estimator => (m.estimator n).senseAnalysis n
  | .power => m.powerSlot
  | .stringLoop => m.onLink n fun k => { k with ranSt := true }
  | .phaseLoop => m.onLink n fun k => { k with ranPh := true }
  | .digest => m.onPair fun p => { p with digestRan := true }
  | _ => m

/-- The last slot of its role does the work of the grain, unless another slot of the role overran in it: then the role's outputs hold
(R79, log 12). -/
def Mod.working (m : Mod) (s : Slot) : Bool := m.lastOfRole s && !m.plan.heldRoles.contains (s.bed, m.slotRole s)

/-- A slot retires after `cycles`, or has run past its reservation and is an overrun (R45, R78). -/
def Mod.retire (m : Mod) (s : Slot) (cycles : Nat) (readback : Option (Int × Int)) : Mod :=
  if s.reserve < cycles then m.overrun s .time
  else
    let m := m.useCycles s.tile cycles
    if m.working s then m.logical fun m => m.kernelWork s readback else m

/-- Row SLOT_RUN (R45): the slot runs for `cycles`; an uncorrectable error of its memory or a blocked access is an overrun, and a corrected
error is counted and changes nothing (R25). -/
def slotRun (bed slotId cycles : Nat) (fault : SlotFault) (readback : Option (Int × Int)) (m : Mod) : Mod :=
  match m.slot? bed slotId with
  | none => m
  | some s =>
    if decide (m.plan.mode = .stopped) || !m.runs || !runsIn s.startTick s.period m.plan.tick then m
    else match fault with
    | .ecc => m.tileEccOverrun s
    | .blocked => m.overrun s .blocked
    | .none => m.retire s cycles readback
    | .corrected => (m.onPlan fun p => { p with tileEccCorrected := p.tileEccCorrected + 1 }).retire s cycles readback

/-- The slot publishes a directory copy when it retires (R18, R54). -/
def Mod.publishes (m : Mod) (bed slotId cycles : Nat) (fault : SlotFault) : Bool :=
  match m.slot? bed slotId with
  | none => false
  | some s => decide (m.plan.mode ≠ .stopped) && m.runs && runsIn s.startTick s.period m.plan.tick
      && (fault == .none || fault == .corrected) && decide (cycles ≤ s.reserve) && decide (m.slotRole s = .publication) && m.working s

/-- What is left of a safe stop for an overrun in fallow mode: it ends with the self-fault of its bed (R82, Table 9.9). -/
def Mod.overrunLeft (m : Mod) (x : SafeStop) : Option SafeStop :=
  let sc := BitVec.ofNat 32 (maskOf ((setBits 32 x.scope.toNat).filter fun n => (m.acct n).selfFault))
  if x.kind ≠ .overrun then some x
  else if x.mod then (if (m.acct 32).selfFault then some x else none)
  else if sc = 0 then none
  else some { x with scope := sc }

/-- Safe stops for overruns whose self-faults are gone end. -/
def Mod.endOverrunStops (m : Mod) : Mod := (m.onSafety fun s => { s with stops := s.stops.filterMap m.overrunLeft }).driverBack

/-- The end of a grain for the beds' overrun accounts (R80, R82): the grain of a plan restart is not yet one that the new bed ran. -/
def Mod.acctGrain (m : Mod) : Mod :=
  let counts := decide (m.plan.mode ≠ .restarting)
  let m := m.onPlan fun p => { p with heldRoles := [] }
  m.each (m.plan.acct.map (·.1)) fun m b =>
    let a := m.acct b
    if a.thisGrain then m.onAcct b fun a => { a with thisGrain := false }
    else
      let clean := a.cleanGrains.map fun k => k + b2n counts
      if a.selfFault && decide (clean = some 100) then
        ((m.onAcct b fun a => { a with count := 0, selfFault := false, cleanGrains := none }).post 0x1002 b bFabric (u8 1 ++ u8 1 ++ [0, 0])).endOverrunStops.evalCauses
      else m.onAcct b fun a => { a with count := 0, cleanGrains := clean }

/-- The overrun-clear command (R86, R87). -/
def clrOverrun (m : Mod) : Mod := m.onPlan fun p => { p with ovrStr := 0, tileOvr := 0, commonOvr := false, peakUsed := [] }

/- Ticks and grains (R29, R40-R43, R457) -/

/-- The strings whose links the running plan drives. -/
def Mod.linkStrings (m : Mod) : List Nat := m.confStrings.filter fun n => (m.convDef? n).isSome

/-- The plan's work as a tick begins: the trips that the protection slots of the tick before decided (R298), chain commands, and at every tenth
tick the latched comparator events. -/
def Mod.tickStart (m : Mod) : Mod :=
  let m := (m.each m.confStrings Mod.tripDueTick).each m.confStrings Mod.chainTick
  if m.plan.tick % 10 = 0 then m.each m.confStrings Mod.readOcLatch else m

/-- The plan's work as a tick ends, when it is known which of its slots have retired (R54, R79): the loops commit, and the frame of the tick
leaves on each link unless a trip symbol has taken its place (R20, log 46). -/
def Mod.tickEnd (m : Mod) : Mod := m.each m.linkStrings Mod.linkTick

/-- The trip injectors (R20, R236): a request that stands keeps its symbol; one that has ended lets it end. -/
def Mod.tripTick (m : Mod) (n : Nat) : Mod :=
  if m.standing n then m else m.onLink n fun k => { k with tripTicks := k.tripTicks - 1, tripReq := decide (1 < k.tripTicks) }

/-- The trip injectors of the standby's own ports in one tick (R375). -/
def Mod.portTrips (m : Mod) : Mod :=
  m.each m.linkStrings fun m n =>
    m.onPair fun p => { p with ports := tmod p.ports n fun k => if m.standing n then k else { k with tripTicks := k.tripTicks - 1 } }

/-- A tick begins; in the standby its logical part runs for the recorded grain (R378). -/
def Mod.beginTick (m : Mod) : Mod :=
  let m := (if m.standby then m.portTrips else m.each strings Mod.tripTick).overrunDue
  m.logical Mod.tickStart

/-- A tick ends; the standby sends the frames of its own ports, and takes the recorded events of the tick (R375, R378). -/
def Mod.endTick (m : Mod) : Mod :=
  if m.standby then ((m.each m.linkStrings Mod.portOnlyTick).replayTick).logical Mod.tickEnd
  else m.tickEnd

/-- Roles of the loops, whose work is that of one tick. -/
def Role.isLoop (r : Role) : Bool := r == .stringLoop || r == .phaseLoop

/-- Row TICK (R457): a tick of corrected time ends and the next begins, within the grain. -/
def tick (m : Mod) : Mod :=
  if !m.grainsRun || decide (99 ≤ m.plan.tick) then m else
    let m := (m.endTick.onPlan fun p => { p with
      tick := p.tick + 1, usedNow := [], heldRoles := p.heldRoles.filter fun e => !e.2.isLoop }).onTime TimeSt.tickNs
    let m := ((m.canPass 10000).onPair (·.passUs 10)).canRole
    (if m.plan.tick = 2 then m.sendReplay else m).beginTick

/-- The replies that were held for a grain's snapshot (R262, R420), each to where its request came from; the stop that belongs to a TRIP,
and EST_RESET, were answered when they were accepted. -/
def Mod.dispReplies (m : Mod) (l : List (DispCmd × Nat)) : Mod :=
  m.each (l.filter fun x => x.1.opcode != 0x0215 && x.1.opcode != 0x0152) fun m x =>
    let c := x.1
    m.reply c.session { opcode := c.opcode, status := x.2, seq := c.seq, session := c.session, tlvs := c.details x.2
                        grain := if x.2 = 0 then m.plan.grainCnt.toNat else 0 }

/-- The part of the plan at a grain boundary: dispatch's commands, ring and link bookkeeping, service, archive. -/
def Mod.planBoundary (m : Mod) : Mod :=
  let (m, l) := m.dispBoundary
  let m := m.dispReplies l
  let m := m.each m.confStrings Mod.chainGrain
  let m := m.each m.confStrings Mod.linkGrain
  let m := m.each strings Mod.svcGrain
  m.each m.confStrings Mod.archGrain

/-- The end of a grain: its last tick, peaks, the replay record or the standby's comparison, the handover of a yield, and the overrun accounts. -/
def Mod.endGrain (m : Mod) : Mod :=
  let m := m.endTick
  let m := m.each m.confStrings Mod.peakGrain
  let m := if m.pair.lastRecord.isSome then m.formRecord.yielded
    else if m.standby then m.standbyEnd
    else if m.pairOp then m.formRecord
    else m
  m.acctGrain.onPair fun p => { p with digestRan := false, cap := {} }

/-- Steps 3 and 4 of a requested module restart (R556): each group whose links are all OFF is switched off; a link still
running 10 s after the start receives LOCAL_RAMP, and its group is switched off 3 ms later. -/
def Mod.restartGrain (m : Mod) : Mod :=
  match m.power.restart with
  | some r =>
    if r.yielding then m else
      let t := m.host.ms - r.startedMs
      let m := if t < 10000 then m else m.each (strings.filter fun n => (m.link n).st.running) fun m n => m.linkTo n .localRamp
      m.each (List.range 8) fun m g =>
        if (m.members g).all m.linkOff || decide (10003 ≤ t) then m.switchOff g else m
  | none => m

/-- A grain can end now, or the first begin; that of the active module of a pair, once its role line is asserted (R374). -/
def Mod.boundaryDue (m : Mod) : Bool :=
  !(decide (m.plan.mode = .stopped) || m.roleless || (m.pair.role && !m.plan.firstGrain && !m.roleLine) || (m.plan.firstGrain && decide (m.plan.tick < 99)))

/-- The clock of the plan steps to tick 0 of the next grain, or of the first (R40, R42), with the 512 cycles of R47. -/
def Mod.nextGrain (m : Mod) : Mod :=
  let first := !m.plan.firstGrain
  (m.onPlan fun p => { p with
    grainCnt := if first then p.grainCnt else p.grainCnt + 1, firstGrain := true, tick := 0, pulsesMissed := 0
    usedNow := (List.range 4).map fun t => (t, 512)
    mode := if p.mode = .restarting then .admitted else p.mode, previous := if p.mode = .restarting then none else p.previous }).onPlan
      fun p => { p with peakUsed := (List.range 4).foldl (fun t k => tmod t k (max 512 ·)) p.peakUsed }

/-- A newly started bed has decided nothing yet, and its loops' outputs are zero duties (R54). -/
def Mod.noDecision (m : Mod) (n : Nat) : Mod :=
  (m.onStrProt n fun p => { p with undecided := true }).each (List.range 6) fun m p => m.onPhase n p fun x => { x with duty := 0, iRef := 0 }

/-- What is done at tick 0 of a grain, once the clock has stepped: the slots that the ADC sampled before it end under the parameters before, the
snapshot of the parameters (R19), the results of the ADC, the exchange with the partner, dispatch and rings, and the first tick; `old` is
the module at the end of the grain before. -/
def Mod.grainWork (m : Mod) (old : Mod) (dieT : Int) : Mod :=
  let m := (if old.plan.firstGrain then m.onTime TimeSt.tickNs else m).msTick
  let m := m.onPair (·.passUs 10)
  let m := ((m.each (List.range 3) Mod.splitRound).onHost fun h => { h with snap := h.params }).takeForce
  let m := (m.ocRewrite old).archPeriodChange old
  let m := if old.plan.mode = .restarting then m.each m.confStrings Mod.noDecision else m
  let m := (m.adcGrain dieT).grainLabel
  let m := if old.plan.firstGrain then m else m.outageRest old.host.ms
  let m := if m.standby then
      (m.resyncBoundary m.plan.grainCnt).followMarker.onPair fun p => { p with grainLock := decide (p.lanes ≠ 0), hbThis := false, hbJudged := false }
    else m.planBoundary.onPair fun p => { p with skipped := 0 }
  let m := m.each (List.range 8) Mod.serviceCheck
  let m := m.restartGrain
  (m.canFreed old).canGrain.beginTick

/-- Row GRAIN_BOUNDARY (R40). -/
def grainBoundary (dieT : Int) (m : Mod) : Mod :=
  if !m.boundaryDue then m
  else (if m.plan.firstGrain then m.endGrain else m).nextGrain.grainWork m dieT

/-- Row TAKEOVER (R388, R389, R392, R393): the first logical grain of the new active module begins with its boundary. -/
def takeover (m : Mod) : Mod :=
  match m.takeoverDue with
  | none => m
  | some k =>
    let m := if m.standbyReady then m.takeRole k else m.coldTakeover
    let m := m.each m.linkStrings Mod.examineLink
    m.planBoundary.tickStart.canRole

/- Supervisor and time base faults (R16, R17, R22, R23, R28, R30) -/

/-- A warm supervisor restart begins (R16, R554), unless a requested module restart runs (R581). -/
def Mod.warmRestart (m : Mod) (cause : Nat) : Mod :=
  if m.power.restart.isSome || m.power.state = .failing || m.plan.warm then m else
    let m := (m.onPlan fun p => { p with warm := true, warmCause := cause, sp0Ok := false, sp1Ok := false }).onPower fun p => { p with
      warmCount := stopAt 255 (p.warmCount + 1), lastCause := cause, btnState := if p.btnState = 1 then 0 else p.btnState }
    (m.servoHold.trialAgain.tellPartner 1).post 0xE002 0xFF bSup (u8 cause)

/-- Row LOCKSTEP_MISMATCH (R16, R17). -/
def lockstepMismatch (_pair : Nat) (m : Mod) : Mod :=
  let l := m.host.ms :: m.plan.lockstepAt.filter fun t => decide (m.host.ms - t < 3600000)
  let m := m.onPlan fun p => { p with lockstepAt := l }
  let m := if 3 ≤ l.length then m.selfFaultMod 0 else m
  m.warmRestart 6

/-- Row SUPERVISOR_WATCHDOG (R554). -/
def supervisorWatchdog (m : Mod) : Mod := m.warmRestart 7

/-- The safe stop of a failed fabric or time base (R22, R30). -/
def Mod.timeBaseStop (m : Mod) (cause : Nat) : Mod :=
  (m.safeStop .fabric true 0).post 0x1003 0xFF bSafety (u8 cause ++ [0, 0, 0])

/-- Row GRAIN_PULSE_TIMEOUT (R22). -/
def grainPulseTimeout (m : Mod) : Mod :=
  if !m.plan.firstGrain || decide (m.plan.pulsesMissed = 3) then m else (m.onPlan fun p => { p with pulsesMissed := 3 }).timeBaseStop 0

/-- A critical diagnostic of Table 9.7 that no other rule covers fails: the safety firmware's or configuration's CRC, or the RAM march (R347,
Table 9.9). The spec names no event for it, and none is recorded (log 66). -/
def Mod.criticalFault (m : Mod) (crc : Bool) : Mod :=
  ((m.onSafety fun s => { s with cfgValid := s.cfgValid && !crc }).safeStop .critical true 0).onSafety fun s => { s with bpOut := true }

/-- Row SAFETY_CORE_FAULT (R23, R347): 0 core disagreement, 1 self-test: every output drops in hardware; a critical diagnostic, 2 the firmware
and configuration CRC, 3 the RAM march. -/
def safetyCoreFault (cause : Nat) (m : Mod) : Mod :=
  if 2 ≤ cause then m.criticalFault (cause == 2)
  else if m.safety.stops.any fun x => x.kind == .cores then m else
    let m := m.onSafety fun s => { s with
      coresAgree := s.coresAgree && decide (cause ≠ 0), selftestOk := s.selftestOk && decide (cause = 0) }
    let m := m.safeStop .cores true 0
    let m := m.each (List.range 8) Mod.switchOff
    (m.onSafety fun s => { s with bpOut := true }).post 0x800A 0xFF bSafety (u8 cause)

/-- Row CLOCK_MEASUREMENT (R30, R38): clock 0 fabric, 1 supervisor, 2 Ethernet, 3 PTP time, 4 ADC, with its deviation in ppm. -/
def clockMeasurement (clk : Nat) (ppm : Int) (m : Mod) : Mod :=
  if 4 < clk then m else
    let bad := decide (20000 < ppm.natAbs)
    let bit := BitVec.ofNat 5 (2 ^ clk)
    let same := m.plan.clkBad.getLsbD clk == bad
    let was := m.plan.clkStat.getLsbD clk
    let m := m.onPlan fun p => { p with
      clkBad := if bad then p.clkBad ||| bit else p.clkBad &&& ~~~bit
      clkStat := if !same then p.clkStat else if bad then p.clkStat ||| bit else p.clkStat &&& ~~~bit }
    if bad && same && !was then
      match clk with
      | 0 => m.timeBaseStop 1
      | 3 => m.timeBaseStop 2
      | 4 => m.safeStateStrings strings
      | _ => m.selfFaultMod 3
    else if !bad && same && was && decide (m.plan.clkStat &&& 6 = 0) then m.selfFaultClear 3
    else m

/-- The bit of a ring end in CHN_LOCK. -/
def chnBit (n : Nat) (e : RingEnd) : Nat := 2 * n + (match e with | .A => 0 | .B => 1)

/-- Row RECOVERED_CLOCK_UNLOCK (R28, R39). -/
def recoveredClockUnlock (c : RecClk) (m : Mod) : Mod :=
  match c with
  | .chain n e => if 32 ≤ n then m else m.onPlan fun p => { p with chnLock := p.chnLock &&& ~~~(BitVec.ofNat 64 (2 ^ chnBit n e)) }
  | .link n => if 32 ≤ n then m else m.onPlan fun p => { p with klnkLock := p.klnkLock &&& ~~~(BitVec.ofNat 32 (2 ^ n)) }

/-- Row RECOVERED_CLOCK_LOCK (R28, R39); an inverted pair is reported and carries no signal (R93). -/
def recoveredClockLock (c : RecClk) (inverted : Bool) (m : Mod) : Mod :=
  match c with
  | .chain n e =>
    if 32 ≤ n then m else
      let b : BitVec 2 := match e with | .A => 1 | .B => 2
      let m := m.onRing n fun r => { r with inv := if inverted then r.inv ||| b else r.inv &&& ~~~b }
      m.onPlan fun p => { p with
        chnLock := if inverted then p.chnLock &&& ~~~(BitVec.ofNat 64 (2 ^ chnBit n e)) else p.chnLock ||| BitVec.ofNat 64 (2 ^ chnBit n e) }
  | .link n => if 32 ≤ n then m else m.onPlan fun p => { p with klnkLock := p.klnkLock ||| BitVec.ofNat 32 (2 ^ n) }

/- Loading and admission (R63-R65, R75) -/

/-- PLAN_LOAD (R63), its image copied out of the exchange area: status. -/
def planLoad (o : Origin) (img : List Byte) (m : Mod) : Mod × Nat :=
  if m.plan.check.isSome then (m, 0x8008)
  else if m.plan.scheduled.isSome then (m, 0x8007)
  else (m.onPlan fun p => { p with check := some { image := img, loadedLen := img.length, origin := some o }, staged := none }, 1)

/-- A candidate that the active module passes on is checked here too (R75). -/
def Mod.graftCandidate (m : Mod) (img : List Byte) : Mod :=
  if m.plan.check.isSome then m
  else m.onPlan fun p => { p with check := some { image := img, loadedLen := img.length, origin := none }, staged := none, scheduled := none }

/-- PLAN_RESULT. -/
def planResult (refusal bed : Nat) : List Tlv := [⟨0x81, u8 refusal ++ u8 bed ++ [0, 0]⟩]

/-- The notice of a check, to its origin; a standby reports to the active module. -/
def Mod.checkNotice (m : Mod) (origin : Option Origin) (planId refusal bed : Nat) : Mod :=
  match origin with
  | some o => m.complete o (if refusal = 0 then 0 else 0x800B) (planResult refusal bed)
  | none => m.out (.graft 5 m.plan.grainCnt (u8 refusal ++ u8 bed ++ leN 4 planId))

/-- A check ends in a refusal (R64, R65). -/
def Mod.planRefused (m : Mod) (kind planId refusal bed from_ : Nat) : Mod :=
  let m := m.onPlan fun p => { p with check := none, refusal := refusal, refusalBed := bed }
  m.post 0x1005 (if bed = 0x3F then 0xFF else bed) bFabric (u8 refusal ++ u8 kind ++ u8 from_ ++ u8 0 ++ leN 4 planId)

/-- A check ends with the candidate staged. -/
def Mod.planStaged (m : Mod) (c : Check) : Mod :=
  let img := c.image
  let kind := imgKind img
  let cand : Candidate := { kind := kind, bed := if kind = 0 then 0xFF else imgBed img, plan := planOf m.plan.running img, image := img, origin := c.origin }
  (m.onPlan fun p => { p with check := none, staged := some cand }).checkNotice c.origin (imgPlanId img) 0 (if kind = 0 then 0x3F else imgBed img)

/-- Row PLAN_CHECK_COMPLETE (R64, R65, R75): the first check that fails, or STAGED; an active module with a partner passes the
candidate on and waits for its report, and refuses it with PAIR where the check time ends without one, or no graft lane is up. -/
def planCheckComplete (m : Mod) : Mod :=
  match m.plan.check with
  | none => m
  | some c =>
    let img := c.image
    if m.pair.pairCheck then
      ((m.onPair fun p => { p with pairCheck := false }).planRefused (imgKind img) (imgPlanId img) 0x16 0x3F 0).checkNotice
        c.origin (imgPlanId img) 0x16 0x3F
    else
      let base := if m.plan.mode = .admitted then some m.plan.running else none
      match m.checkImage base img c.loadedLen with
      | some (code, bed) => (m.planRefused (imgKind img) (imgPlanId img) code bed 0).checkNotice c.origin (imgPlanId img) code bed
      | none =>
        if !(m.pairOp && m.pair.role) then m.planStaged c
        else if m.pair.lanes = 0 then
          (m.planRefused (imgKind img) (imgPlanId img) 0x16 0x3F 0).checkNotice c.origin (imgPlanId img) 0x16 0x3F
        else (m.onPair fun p => { p with pairCheck := true }).out (.graft 3 m.plan.grainCnt img)

/-- The partner's report on a candidate (R75). -/
def Mod.candidateReport (m : Mod) (refusal : Nat) : Mod :=
  match m.plan.check with
  | some c =>
    if !m.pair.pairCheck then m else
      let m := m.onPair fun p => { p with pairCheck := false }
      if refusal = 0 then m.planStaged c
      else (m.planRefused (imgKind c.image) (imgPlanId c.image) 0x16 0x3F 0).checkNotice c.origin (imgPlanId c.image) 0x16 0x3F
  | none => m

/- Activation (R66-R76) -/

/-- Every phase of a link is disabled (R67, R71): in one of the states of Table 6.10 that a phase leaves only when it is enabled anew. -/
def Mod.phasesDisabled (m : Mod) (n : Nat) : Bool :=
  (List.range 6).all fun p => (m.phase n p).st == .disabled || (m.phase n p).st == .latched

/-- An activation cannot go ahead: a full image needs every link's phases disabled; a bed image those of its own link, and,
where the chain layout changes, the contactor open. -/
def Mod.activationBars (m : Mod) (c : Candidate) : Bool :=
  if c.kind = 0 then !strings.all m.phasesDisabled
  else
    let new := ((c.plan.beds.find? fun x => x.bed == c.bed).map (·.layout)).getD {}
    !m.phasesDisabled c.bed || (decide (new ≠ m.layout c.bed) && !(m.contState c.bed == 0 || m.contState c.bed == 6))

/-- ACTIVATION_REFUSED at acceptance (0) or at the activation grain (1). -/
def Mod.activationRefused (m : Mod) (c : Candidate) (when_ : Nat) (g : W32) : Mod :=
  m.post 0x1007 (if c.kind = 0 then 0xFF else c.bed) bFabric (u8 when_ ++ [0, 0, 0] ++ leN 4 g.toNat)

/-- The activation grain of the staged candidate is fixed; for a bed image the loader prepares the slot table (R66, Table 2.10). -/
def Mod.schedule (m : Mod) (g : W32) : Mod :=
  match m.plan.staged with
  | some c => m.onPlan fun p => { p.prepare c with scheduled := some g }
  | none => m

/-- PLAN_ACTIVATE (R66, R67, R71): status; a schedule replaces one already made (log 33). RANGE is judged before STATE: the spec gives no
order, and this one is the model's choice (log 62). In a pair the active module names the grain to the standby (R75). -/
def planActivate (o : Origin) (grain : W32) (m : Mod) : Mod × Nat :=
  let earliest := m.plan.grainCnt + (if m.pairOp then 20 else 10)
  let g := if grain = 0 then earliest else grain
  let ahead := (g - m.plan.grainCnt).toNat
  if decide (ahead < (if m.pairOp then 20 else 10)) || decide (60000 < ahead) then (m, 0x8005)
  else match m.plan.staged with
  | none => (m, 0x8007)
  | some c =>
    if m.activationBars c then (m.activationRefused c 0 g, 0x8007)
    else
      let m := (m.onPlan fun p => { p with staged := some { c with origin := some o } }).schedule g
      let m := m.capture fun r => { r with activate := some g }
      (if m.pairOp && m.pair.role then m.out (.graft 21 g []) else m, 1)

/-- PLAN_DISCARD (R63): status; the standby discards the candidate too (R75). Its effective grain is the next; from the activation grain on it is refused (R10). -/
def planDiscard (m : Mod) : Mod × Nat :=
  let late := match m.plan.scheduled with | some g => decide ((m.plan.grainCnt + 1 - g).toNat < 2 ^ 31) | none => false
  if m.plan.staged.isNone || late then (m, 0x8007)
  else
    let m := if m.plan.scheduled.isNone then m.tellCancel 0 else m
    ((m.cancelActivation 0).onPlan fun p => { p.abandon with staged := none, scheduled := none }, 0)

/-- The activation grain of a candidate of a kind has come. -/
def Mod.activates (m : Mod) (kind : Nat) : Option (Candidate × W32) :=
  match m.plan.scheduled, m.plan.staged with
  | some g, some c => if c.kind = kind ∧ (m.plan.grainCnt - g).toNat < 2 ^ 31 ∧ m.plan.mode ≠ .stopped then some (c, g) else none
  | _, _ => none

/-- An activation falls at its grain (R67, R71): the schedule ends, the candidate stays. -/
def Mod.activationFails (m : Mod) (c : Candidate) (g : W32) : Mod :=
  let m := (m.onPlan fun p => { p with scheduled := none }).activationRefused c 1 g
  match c.origin with
  | some o => m.complete o 0x8007 []
  | none => m

/-- A ring whose layout is new: no reading of the grain before counts (R73), and it is woken or enumerated (R119). -/
def Mod.newLayout (m : Mod) (n : Nat) (fresh : Bool) : Mod :=
  let m := m.each (m.gcells n) fun m g => m.onCell g fun c => { c with vNew := none, tNew := none }
  if fresh then m.wakeRing n else m.startEnum n false

/-- A string that the plan no longer configures: its ring and its link stop, and its line goes off (R91). -/
def Mod.unconfigure (m : Mod) (n : Nat) : Mod :=
  let m := m.onRing n fun r => { r with txn := none, queue := [], enum := .notDone, mode := 0, split := false, enumTodo := [], wakeSince := none, owQueue := [], openReq := none }
  (m.setLine n .off).linkTo n .dark

/-- A ring whose bed's area is cleared (R69, Table 4.9, log 63): its faults, split mode, tests, balancing and stale episode go. What stands
outside the area stays: the line and what the ring ends see of it, TONE_TRIP, the counters, the transaction that is open, and, since R119
names no enumeration for a bed that keeps its CHAIN_LAYOUT, the enumeration, the commands that wait for it, and the sweep of the grain before,
which the new bed evaluates as its own (R73). -/
def Ring.cleared (r : Ring) : Ring :=
  { r with
    breakHop := 0, split := false, revFirst := false, revLead := false, revDue := false, nA := 0, nB := 0, fullSize := false, completeRun := 0
    displaced := none, staleEpisode := false, tailNow := none, fullNow := none, tempOwed := false, owQueue := [], owTurn := 0
    owMs := none, balMs := 0, queue := r.queue.filter fun w => w.cmd.opcode != 6 }

/-- A monitor whose bed's area is cleared: what its enumeration and authentication gave stays, with its counts since the module's start (R173). -/
def Monitor.cleared (x : Monitor) : Monitor :=
  { x with
    accel := false, owGrain := 0, owOpen := 0, owDone := 0, balMask := 0, balMismatch := false, dieSoft := false, taps := [] }

/-- A cell whose bed's area is cleared: the readings that are still to be evaluated stay (R68, R73). -/
def Cell.cleared (c : Cell) : Cell :=
  { vNow := c.vNow, vNowRev := c.vNowRev, tNow := c.tNow, vNew := c.vNew, vNewRev := c.vNewRev, tNew := c.tNew }

/-- Poison in a part of the plan DRAM area ends where the part is cleared (R55, R544). -/
def Mod.unpoison (m : Mod) (base size : Nat) : Mod :=
  m.onStore fun s => { s with poison := s.poison.filter fun l => !decide (0x40000000 + base ≤ l ∧ l < 0x40000000 + base + size) }

/-- The area of a string's bed is cleared (R69): the class W state of its ring, monitors, cells and thermistors, and of its protection but the
latched causes, which only their clearing ends (R314); the estimators follow in `estReplant`, and the link's state stays (R245, log 63). -/
def Mod.clearString (m : Mod) (n : Nat) : Mod :=
  let m := m.onChain fun c => { c with
    rings := tmod c.rings n Ring.cleared
    mons := ((List.range 40).map (40 * n + ·)).foldl (fun t i => tmod t i Monitor.cleared) c.mons
    cells := tslice ((c.cells.map fun e => (e.1, e.2.cleared)).filter fun e => e.2 ≠ default) c.cells (640 * n) (640 * n + 640) }
  let m := m.onProt fun p => { p with therms := tslice [] p.therms (640 * n) (640 * n + 640) }
  (m.onStrProt n fun p => { p with
    step := 0, band := .restore, bandGrains := 0, chgInhibit := false, disInhibit := false, sensorBadAge := 0, sensorHoldDone := false }).unpoison
      (n * 0x1000000) 0x1000000

/-- The common bed's area is cleared (R69): dispatch but the lease, which survives a plan restart (R265), the strings' service and the commands
waiting, what the estimators share, and the HVAC zones (log 63). -/
def Mod.clearCommon (m : Mod) : Mod :=
  let svc (x : StrDisp) : StrDisp := { inService := x.inService, svc := x.svc, svcStartup := x.svcStartup }
  let m := m.onDisp fun d => { (default : DispSt) with
    strs := strings.foldl (fun t n => tput t n (svc (tget d.strs n))) [], cmds := d.cmds, jobs := d.jobs, s64Latch := d.s64Latch
    owner := d.owner, ownerPrio := d.ownerPrio, exp := d.exp }
  ((m.onEst fun e => { (default : EstSt) with strs := e.strs, cells := e.cells }).onProt fun p => { p with zones := [] }).unpoison 0x20000000 0x10000000

/-- A bed comes into force: the window comparator written (R304, R508), its outputs at their initial values (R54), its area kept or
cleared and its estimators restored (R69, R212), its ring made ready. `old` is the bed that ran before. -/
def Mod.bedStarts (m : Mod) (n : Nat) (old : Option Bed) : Mod :=
  let new := (m.bed? n).getD {}
  let keep := decide (old.map (·.stateLayoutId) = some new.stateLayoutId)
  let m := (m.ocActivate n).noDecision n
  let m := if keep then m else m.clearString n
  let m := match old with
    | some x => if x.layout = new.layout then m else m.newLayout n false
    | none => m.newLayout n true
  let m := if new.conv.isNone then m.linkTo n .dark else m
  m.estReplant n keep (old.any fun x => x.chem.chemId != new.chem.chemId)

/-- The new generation of a bed (R72, R82): after a replant of a string's bed, or a plan restart for the common bed, a self-fault can clear. -/
def Mod.newGeneration (m : Mod) (b : Nat) (replant : Bool) : Mod :=
  m.onAcct b fun a => { a with
    generation := a.generation + 1, cleanGrains := if a.selfFault && (replant || decide (b = 32)) then some 0 else a.cleanGrains }

/-- The active module forwards its running plan (R75, R395): its images, or none under the idle plan. -/
def Mod.sendPlan (m : Mod) : Mod :=
  let imgs := if m.plan.mode = .idle then [] else m.plan.storedImages
  if imgs.isEmpty then m.out (.graft 6 m.plan.grainCnt []) else m.each imgs fun m i => m.out (.graft 6 m.plan.grainCnt i)

/-- The activation is told (R68, R72, R421). A standby that is not ready does not switch, and is sent the running plan (R75). -/
def Mod.activated (m : Mod) (c : Candidate) : Mod :=
  let m := (m.cfgWrite).post 0x1006 (if c.kind = 0 then 0xFF else c.bed) bFabric (u8 c.kind ++ [0, 0, 0] ++ leN 4 (imgPlanId c.image))
  let m := match c.origin with
    | some o => m.complete o 0 []
    | none => m
  if m.pairOp && m.pair.role && !m.pair.partnerReady then m.sendPlan else m

/-- The strings whose ring a plan changes: their readings of grain G-1 are evaluated before the change, under the old plan's limits
(R68). -/
def Mod.judgeOld (m : Mod) (new : Plan) : Mod :=
  m.each (m.confStrings.filter fun n => (new.beds.find? fun x => x.bed == n).map (·.layout) != (m.bed? n).map (·.layout)) fun m n =>
    (m.evalSweep n).protectSlot n none

/-- Row PLAN_RESTART (R67-R70): at the activation grain of a full image. -/
def planRestart (m : Mod) : Mod :=
  match m.activates 0 with
  | none => m
  | some (c, g) =>
    if m.activationBars c then m.activationFails c g else
      let old := m.plan.running
      let bedOld (n : Nat) : Option Bed := old.beds.find? fun x => x.bed == n
      let m := (m.judgeOld c.plan).onPlan fun p =>
        ({ p with
          previous := some old, running := c.plan, mode := .restarting, staged := none, scheduled := none
          fallback := p.stored, fallbackImage := p.storedImages.headD [], stored := some c.plan, storedImages := [c.image] } : PlanSt).loadTables
      let m := m.each (List.range 33) fun m b => if (m.bed? b).isSome then m.newGeneration b false else m
      let m := if (bedOld 32).map (·.stateLayoutId) = (m.bed? 32).map (·.stateLayoutId) then m else m.clearCommon
      let m := m.each strings fun m n =>
        if m.configured n then m.bedStarts n (bedOld n) else if (bedOld n).isSome then m.unconfigure n else m
      m.activated c

/-- Row BED_REPLANT (R71-R73): at the activation grain of a bed image. Every bed image applied is kept in its order, in which a start admits
them again (R70): the COST_SUMMARY of each describes the plan with those before it. -/
def bedReplant (m : Mod) : Mod :=
  match m.activates 1 with
  | none => m
  | some (c, g) =>
    if m.activationBars c then m.activationFails c g else
      let old := m.bed? c.bed
      let plan := planOf m.plan.running c.image
      let m := m.onPlan fun p => { p.switchBanks c with
        running := plan, staged := none, scheduled := none, stored := some plan
        storedImages := p.storedImages ++ [c.image] }
      let m := (m.newGeneration c.bed true).bedStarts c.bed old
      m.activated c

/- Registers (R37-R39, R42, R85-R88) -/

def Mod.fabricOk (m : Mod) : Bool := decide (m.plan.mode ≠ .stopped) && m.plan.firstGrain && decide (m.plan.pulsesMissed < 3)

/-- GRAFT_UP (Table 1.9): both lanes are up and the last heartbeat was received. The active module of a pair, which receives none, shows the
lanes alone: what it shows is the model's choice (log 62). -/
def Mod.graftUp (m : Mod) : Bool :=
  m.pairOp && decide (m.pair.lanes = 3) && (!m.standby || (m.pair.hbSeen && decide (m.pair.hbMiss = 0)))

/-- DRAM is powered: the module has started, or is in RECOVERY. -/
def Mod.dramUp (m : Mod) : Bool := m.upd.recovery || decide (m.power.state ≠ .off ∧ m.power.state ≠ .starting)

/-- BLK_STAT (Table 1.9). -/
def Mod.blkStat (m : Mod) : W32 :=
  let ecc (t : Nat) : Bool := match tget m.plan.tileEcc t with | some g => decide ((m.plan.grainCnt - g).toNat ≤ 1) | none => false
  pack [(0, 1, b2n m.fabricOk), (1, 1, b2n m.plan.sp0Ok), (2, 1, b2n m.plan.sp1Ok), (3, 1, b2n (m.safety.coresAgree && m.safety.selftestOk)),
    (4, 1, b2n (m.power.cfResponding && !m.power.cellLow)), (5, 1, b2n (m.dramUp && !m.store.dramBad)), (6, 1, b2n m.flashOk), (7, 2, m.plan.netUp.toNat),
    (9, 1, b2n m.graftUp), (10, 1, b2n m.adcOk), (11, 1, b2n m.aligned),
    (16, 4, maskOf ((List.range 4).filter ecc))]

/-- PLAN_STAT (Table 2.12). -/
def Mod.planStat (m : Mod) : W32 :=
  let p := m.plan
  let mode : Nat := match p.mode with | .stopped => 0 | .idle => 1 | .admitted => 2 | .restarting => 3
  pack [(0, 2, mode), (2, 1, b2n p.check.isSome), (3, 1, b2n p.staged.isSome), (4, 1, (p.staged.map (·.kind)).getD 0),
    (5, 6, match p.staged with | some c => if c.kind = 1 then c.bed else 0 | none => 0), (11, 1, b2n p.scheduled.isSome),
    (16, 8, p.refusal), (24, 6, p.refusalBed)]

/-- TILE_LOADn (Table 2.14); with no plan running nothing is reserved. -/
def Mod.tileLoad (m : Mod) (t : Nat) : W32 :=
  let peak := if m.plan.mode = .stopped then 0 else ((List.range 100).map (m.plan.running.tileCost t)).foldl max 0
  pack [(0, 16, tget m.plan.peakUsed t), (16, 16, peak)]

/-- The registers of files 01 and 02 by offset. In the grain of a plan restart PLAN_RUN reads the new plan's PLAN_ID: the spec does not say
which, and this is the model's choice (log 62). -/
def Mod.planReg (m : Mod) (off : Nat) : Option W32 :=
  let p := m.plan
  match off with
  | 0x10 => some m.blkStat
  | 0x14 => some (p.clkStat.setWidth 32)
  | 0x18 => some (BitVec.ofNat 32 (maskOf (strings.filter fun n => p.chnLock.getLsbD (2 * n) || p.chnLock.getLsbD (2 * n + 1))))
  | 0x1C => some p.klnkLock
  | 0x100 => some m.grnNow
  | 0x104 => some (p.grnLatch.getD p.grainCnt)
  | 0x110 => some m.planStat
  | 0x114 => some (if p.mode = .admitted ∨ p.mode = .restarting then p.running.planId else 0)
  | 0x118 => some p.ovrStr
  | 0x11C => some (pack [(0, 4, p.tileOvr.toNat), (4, 1, b2n p.commonOvr), (5, 1, b2n (p.acct.any fun e => e.2.selfFault))])
  | _ =>
    if 0x120 ≤ off ∧ off < 0x130 then some (m.tileLoad ((off - 0x120) / 4))
    else if 0x200 ≤ off ∧ off < 0x284 then some (BitVec.ofNat 32 (tget p.acct ((off - 0x200) / 4)).total)
    else none

end Sys2Proof.Machine
end

