-- ==== Sys2Proof/Machine/Power.lean ====
section
/-! DEFINITION. Resets, start-up, parking, power failure, the restart button, the cold frame and security violations
(spec file 16_reset_power_security.md), live insertion (R400, R401) and the choice of the firmware slot (R594). -/

namespace Sys2Proof.Machine

/- Sessions (R415) -/

/-- A session closes: its streams stop, its mailbox is emptied but for its RS bits (R451), its notice queue is dropped; a lease it holds runs on.
The active module of a pair passes the closing to its standby (R449). -/
def Mod.closeSession (m : Mod) (sid : Nat) : Mod :=
  match m.session? sid with
  | none => m
  | some s =>
    ((m.onHost fun h => { h with
      sessions := h.sessions.filter fun x => x.sid != sid, streams := h.streams.filter fun x => x.sid != sid
      mbx := tput h.mbx s.slot (tget h.mbx s.slot).emptied }).onStore fun st => { st with queries := st.queries.filter fun q => q.sid != sid }).capture
        fun c => { c with cmds := c.cmds ++ [{ opcode := 2, session := sid }] }

/-- Every session that meets a condition closes. -/
def Mod.closeSessions (m : Mod) (p : Session → Bool) : Mod :=
  m.each ((m.host.sessions.filter p).map (·.sid)) Mod.closeSession

/-- The service window closes (R599). -/
def Mod.serviceEnd (m : Mod) : Mod :=
  if m.upd.service then (m.onUpd fun u => { u with service := false }).post 0x000D 0xFF bSup (u8 0) else m

/-- The Rovisa session ends, and the service window with it (R586, R599). -/
def Mod.rvEnd (m : Mod) : Mod :=
  if m.upd.session.isSome then (m.onUpd fun u => { u with session := none }).serviceEnd else m

/- Firmware slots (R594, R596) -/

/-- Slot A, or B where `b`. -/
def Mod.fwSlot (m : Mod) (b : Bool) : FwSlot := if b then m.upd.slotB else m.upd.slotA
def Mod.onFwSlot (m : Mod) (b : Bool) (f : FwSlot → FwSlot) : Mod :=
  m.onUpd fun u => if b then { u with slotB := f u.slotB } else { u with slotA := f u.slotA }

/-- The header of a slot, zeros where it holds none. -/
def FwSlot.hdr (s : FwSlot) : FwHeader := s.header.getD {}

/-- One candidate of the loader: tries counted, blocks and signature (`ok`) and MIN_SVN judged. -/
def Mod.bootTry (ok : Bool → Bool) (r : Mod × Option Bool) (b : Bool) : Mod × Option Bool :=
  let (m, done) := r
  if done.isSome then r else
    let s := m.fwSlot b
    if s.st = .trial ∧ 3 ≤ s.tries then ((m.onFwSlot b fun x => { x with st := .invalid }).post 0x0005 0xFF bSup (u8 (b2n b)), none)
    else
      let m := if s.st = .trial then m.onFwSlot b fun x => { x with tries := x.tries + 1 } else m
      if ok b && decide (m.upd.minSvn ≤ s.hdr.svn) then (m, some b)
      else ((m.onFwSlot b fun x => { x with st := .invalid }).post 0x0008 0xFF bSup (u8 (b2n b)), none)

/-- The loader's choice (R594): ACTIVE and TRIAL slots, the highest generation first; none is RECOVERY. -/
def Mod.bootSelect (m : Mod) (ok : Bool → Bool) : Mod × Option Bool :=
  let live (b : Bool) : Bool := (m.fwSlot b).st == .active || (m.fwSlot b).st == .trial
  let order := if m.upd.slotA.generation < m.upd.slotB.generation then [true, false] else [false, true]
  (order.filter live).foldl (Mod.bootTry ok) (m, none)

/-- The kernel library and cost table of a FAB component; kept where the slot's blocks are not held (log 13). -/
def Mod.loadFab (m : Mod) (b : Bool) : Mod :=
  let s := m.fwSlot b
  match s.hdr.components[1]? with
  | some (first, count, _) =>
    if s.blocks.isEmpty then m else
      let roles : List Role := [.sweep, .protection, .digest, .publication, .diagnostic, .phaseLoop, .stringLoop, .estimator, .power]
      let (lv, cv, ks) := Config.fabLib ((List.range count).flatMap fun i => tget s.blocks (first + i))
      m.onPlan fun p => { p with lib := { libVersion := lv, costVersion := cv, kernels := ks.map fun k =>
        { kid := k.1, role := roles.getD k.2.1 .other, base := k.2.2.1, per := k.2.2.2.1, stall := k.2.2.2.2.1, needsDram := k.2.2.2.2.2 } } }
  | none => m

/-- A slot is booted: by a warm restart its SUP component alone (R596), else every component. -/
def Mod.bootInto (m : Mod) (b warm : Bool) : Mod :=
  let h := (m.fwSlot b).hdr
  let m := m.onUpd fun u => { u with
    runB := b, trialSince := if (m.fwSlot b).st = .trial then some m.host.ms else none
    running := if warm then { u.running with
        supVersion := h.supVersion, svn := h.svn, keyIndex := h.keyIndex, kflags := h.kflags, svnFloor := h.svnFloor
        components := h.components.take 1 ++ u.running.components.drop 1 } else h }
  if warm then m else m.loadFab b

/-- No slot boots (R594): fabric, front ends, ADC and CAN ports unpowered, so no recovered clock is in lock (R39), every safe output off, no
host served. SP0_OK reads 0 and SP1_OK 1 in RECOVERY: the spec does not say whether SP0 runs there, and that it does not is the model's
choice (log 68). -/
def Mod.enterRecovery (m : Mod) : Mod :=
  let m := m.post 0x0009 0xFF bSup []
  let m := (m.each (List.range 8) Mod.switchOff).closeSessions fun _ => true
  { m with
    upd := { m.upd with recovery := true, trialSince := none, fioCan := 0, fioKl := 0 }, power := { m.power with state := .starting, restart := none }
    plan := { m.plan with mode := .stopped, warm := false, sp0Ok := false, sp1Ok := true, chnLock := 0, klnkLock := 0 }, can := {}, adc := {} }

/- What a start keeps (R555, R557, Tables 16.2 and 16.3) -/

/-- The parameters that are not of class P: DISP_SRC, DROOP_BASE and TIME_FORCE_STEP (Tables 7.7 and 12.5). -/
def classW (id : Nat) : Bool := id == 0x6002 || id == 0x6014 || id == 0xA0E4

/-- The module with class P and class C kept, and the retention SRAM ring in a module restart; all else at its reset value.
The levels at the safe inputs, the field supplies and the partner's trip line stand outside the module and stay (log 43). -/
def Mod.retained (m : Mod) (cold : Bool) : Mod :=
  { plan := { stored := m.plan.stored, storedImages := m.plan.storedImages, fallback := m.plan.fallback
              fallbackImage := m.plan.fallbackImage, lib := m.plan.lib }
    host := { params := m.store.cfgParams.filter fun e => !classW e.1, snap := m.store.cfgParams.filter fun e => !classW e.1 }
    store := { sram := if cold then [] else m.store.sram, flashRing := m.store.flashRing, markers := m.store.markers
               mkLastDurable := m.store.mkLastDurable, mkClean := m.store.mkClean, flashLife := m.store.flashLife
               wearWarned := m.store.wearWarned, roMask := m.store.roMask, retired := m.store.retired, bank0 := m.store.bank0
               bank1 := m.store.bank1, bankInUse := m.store.bankInUse, cfgParams := m.store.cfgParams, archive := m.store.archive }
    power := { lastCause := m.power.lastCause, strapPins := m.power.strapPins, parkRequest := m.power.parkRequest, opMs := m.power.opMs
               opMsAtFail := m.power.opMsAtFail, pwrCycle := m.power.pwrCycle, cfSignature := m.power.cfSignature
               savedIncr := m.power.savedIncr, rseqHwm := m.power.rseqHwm, clearCount := m.power.clearCount
               lastClearRseq := m.power.lastClearRseq, respMesh := m.power.respMesh, respGlitch := m.power.respGlitch
               respAuth := m.power.respAuth, locked := m.power.locked, eraseCount := m.power.eraseCount
               unpoweredViolation := m.power.unpoweredViolation, kseal := m.power.kseal, chainRoot := m.power.chainRoot
               credKeys := m.power.credKeys, priorRoots := m.power.priorRoots, btnHeld := m.power.btnHeld
               meshOk := m.power.meshOk, glitchNow := m.power.glitchNow }
    chain := { mons := (m.chain.mons.filter fun e => e.2.tableUid.isSome).map fun e => (e.1, { tableUid := e.2.tableUid }) }
    est := { strs := (m.est.strs.filter fun e => !e.2.ckpts.isEmpty).map fun e => (e.1, { ckpts := e.2.ckpts }) }
    conv := { phases := (m.conv.phases.filter fun e => e.2.runSaved != 0).map fun e => (e.1, { runTicks := e.2.runSaved, runSaved := e.2.runSaved }) }
    disp := { strs := (m.disp.strs.filter fun e => e.2.inService).map fun e => (e.1, { inService := true }) }
    prot := { trip := !cold && m.prot.trip, tMod := m.prot.tMod }
    safety := { cfg := m.safety.commitCfg.getD m.safety.cfg, cfgCrc := m.safety.cfgCrc, fieldLow := m.safety.fieldLow, bpIn := m.safety.bpIn
                si := m.safety.si.map fun e => (e.1, { a := e.2.a, b := e.2.b }), oi := m.safety.oi.map fun e => (e.1, { a := e.2.a, b := e.2.b }) }
    pair := { lastTakeoverMs := m.pair.lastTakeoverMs, lastTakeoverGrain := m.pair.lastTakeoverGrain, partnerRole := m.pair.partnerRole
              ptrPresent := m.pair.ptrPresent, single := m.pair.single, presence := m.pair.presence }
    upd := { m.upd with
      session := none, usbUp := false, service := false, recovery := false, trialSince := none, verifying := false, otpGood := false
      fioSup := 0, fioCan := 0, fioKl := 0
      slotA := if m.upd.slotA.st = .verifying then { m.upd.slotA with st := .receiving } else m.upd.slotA
      slotB := if m.upd.slotB.st = .verifying then { m.upd.slotB with st := .receiving } else m.upd.slotB }
    sent := m.sent
    freeCtr := m.freeCtr }

/- Erasing (R567, R575) -/

/-- `8 k` free bytes. -/
def Mod.freeBytes : Nat → Mod → List Byte × Mod
  | 0, m => ([], m)
  | k + 1, m =>
    let (v, m) := m.free
    let (l, m) := Mod.freeBytes k m
    (leN 8 v.toNat ++ l, m)

/-- KSEAL is drawn (R569). -/
def Mod.drawSeal (m : Mod) : Mod :=
  let (k, m) := Mod.freeBytes 4 m
  m.onPower fun p => { p with kseal := k }

/-- Every key goes, and the sealed items with them. -/
def PowerSt.noKeys (p : PowerSt) : PowerSt := { p with kseal := [], chainRoot := {}, credKeys := [], priorRoots := [] }

/-- Every retained register but the signature, SAVED_INCR and ERASE_COUNT is zero (R575). -/
def PowerSt.noRegs (p : PowerSt) : PowerSt :=
  { p with rseqHwm := 0, clearCount := 0, lastClearRseq := 0, lastCause := 0, respMesh := 0, respGlitch := 0, respAuth := 0, locked := false
           opMs := 0, opMsAtFail := none, pwrCycle := 0 }

/-- SEC_ERASE is recorded. -/
def Mod.recordErase (m : Mod) (cause : Nat) : Mod :=
  (m.onPower fun p => { p with erased := true }).post 0xE00D 0xFF bCold (u8 cause ++ [0, 0, 0] ++ leN 4 m.power.eraseCount)

/-- A security erase of a powered module (R575); cause 0 command, 1 response. -/
def Mod.securityErase (m : Mod) (cause : Nat) : Mod :=
  let nxt := if m.store.recNext = 0 then 1 else m.store.recNext
  let m : Mod := { m with
    power := { m.power.noKeys.noRegs with eraseCount := m.power.eraseCount + 1, rseqHwm := rseqPlus nxt 4096 }
    store := { m.store with mkLastDurable := 0, mkClean := false } }
  ((m.drawSeal.closeSessions fun _ => true).rvEnd.cfgWrite).recordErase cause

/-- An unpowered erase: the cold frame alone (R573, R575). -/
def Mod.unpoweredErase (m : Mod) : Mod :=
  { m with
    power := { m.power.noKeys.noRegs with cfSignature := 0, savedIncr := 0, eraseCount := 0, priorRoots := m.power.priorRoots }
    store := { m.store with mkLastDurable := 0, mkClean := false } }

/- Violations (R573, R574) -/

/-- The module is locked (R574): sessions below keeper close. -/
def Mod.lockModule (m : Mod) (source : Nat) : Mod :=
  let m := (m.onPower fun p => { p with locked := true }).closeSessions fun s => decide (s.role < 3)
  let m := match m.upd.session with
    | some r => if r.s.role < 3 then m.rvEnd else m
    | none => m
  m.post 0xE00B 0xFF bCold (u8 source)

/-- A violation in a powered module, with its response (R573). -/
def Mod.violation (m : Mod) (source : Nat) : Mod :=
  let resp := if source = 0 then m.power.respMesh else if source = 1 then m.power.respGlitch else m.power.respAuth
  let m := m.onPower fun p => { p with meshBreach := p.meshBreach || decide (source = 0), glitch := p.glitch || decide (source = 1) }
  let m := m.post 0xE00A 0xFF bCold (u8 source ++ u8 1 ++ u8 resp)
  let m := if 1 ≤ resp then m.lockModule source else m
  if resp = 2 then m.securityErase 1 else m

/- A blank cold frame, and what a start finds (R545, R567) -/

/-- The cold frame has lost all power since it last ran: nothing that it held is left (R566, R567). -/
def Mod.coldFrameLost (m : Mod) : Mod := m.unpoweredErase.onPower fun p => { p with unpoweredViolation := none }

/-- The IOMMU contexts that firmware loads and locks at a start: at most 8 windows a channel, none of them granting a write to the plan DRAM
area outside plan staging (R545). -/
def Mod.loadWindows (m : Mod) (l : List (Nat × List (Nat × Nat × Bool))) : Mod :=
  let ok (w : Nat × Nat × Bool) : Bool :=
    !w.2.2 || decide (w.1 + w.2.1 ≤ 0x40000000 ∨ 0x80000000 ≤ w.1) || decide (0x74000000 ≤ w.1 ∧ w.1 + w.2.1 ≤ 0x78000000)
  m.each (l.filter fun e => decide (e.1 < 16)) fun m e => m.onDma e.1 fun d => { d with windows := (e.2.filter ok).take 8 }

/-- The blank check of a start (R567), the recorder running: a blank cold frame is recorded and the start follows an erase. -/
def Mod.blankStart (m : Mod) : Mod :=
  let m := m.post 0xE009 0xFF bCold []
  let m := match m.power.unpoweredViolation with
    | some src => m.post 0xE00A 0xFF bCold (u8 src ++ u8 0 ++ u8 2)
    | none => m
  let cause := if m.power.unpoweredViolation.isSome then 2 else 3
  let m := m.onPower fun p => { p.noKeys with
    cfSignature := 0x4B584346, savedIncr := 0x08000000, unpoweredViolation := none, blankSeen := true, locked := false }
  m.recordErase cause

/- Start-up (R558-R562, Table 16.6) -/

/-- Nine pins with an odd number of ones and a slot in 1-14 (R558). -/
def strapsValid (p : BitVec 9) : Bool :=
  decide (((List.range 9).filter fun i => p.getLsbD i).length % 2 = 1) && decide (1 ≤ p.toNat % 32 ∧ p.toNat % 32 ≤ 14)

/-- The bytes of the factory records (R601). -/
def OtpRec.bytes (r : OtpRec) : List Byte := leI 4 r.fOffset ++ leI 4 r.fGain ++ leI 4 r.fDacOffset ++ [0, 0, 0, 0]
def UpdSt.otpBytes (u : UpdSt) : List Byte := (List.range 46).flatMap fun s => (tget u.otp s).bytes

/-- A failed factory CRC at a start (R601). -/
def Mod.otpCheck (m : Mod) : Mod :=
  if crc32c m.upd.otpBytes = m.upd.otpCrc then m.onUpd fun u => { u with otpGood := true }
  else
    (m.each (List.range 3) fun m c => m.onAdcConv c fun x => { x with failed := true, calFail := true }).post 0x000C 0xFF bSup []

/-- Admits the stored images again, full image first: the plan, or code and bed of the first refusal (R70). -/
def Mod.admitStored (m : Mod) : List (List Byte) → Option Plan → Except (Nat × Nat × List Byte) (Option Plan)
  | [], p => .ok p
  | img :: l, base =>
    match m.checkImage base img img.length with
    | some (code, bed) => .error (code, bed, img)
    | none => Mod.admitStored m l (some (planOf (base.getD {}) img))

/-- The stored plan runs, or the idle plan (R70, R77). -/
def Mod.startPlan (m : Mod) : Mod :=
  match m.admitStored m.plan.storedImages none with
  | .ok (some p) => m.onPlan fun x => ({ x with running := p, mode := .admitted } : PlanSt).loadTables
  | .ok none => m.onPlan fun x => { x with running := m.idlePlan, mode := .idle }
  | .error (code, bed, img) =>
    (m.planRefused (imgKind img) (imgPlanId img) code bed 1).onPlan fun x => { x with running := m.idlePlan, mode := .idle }

/-- Fabric, front ends, ADC and CAN ports are powered: calibration, the plan, its rings and estimators (Table 16.6). -/
def Mod.startFabric (m : Mod) (env : StartEnv) (lostMs : Nat) (outMs : Option Nat) : Mod :=
  let m := m.onUpd fun u => { u with
    fioSup := env.fioSup, fioCan := env.fioCan, fioKl := if !m.paired then 3 else if m.oddSlot then 1 else 2 }
  let m := (m.onPlan fun p => { p with sp1Ok := true }).onPower fun p => { p with state := .running }
  let m := if m.upd.otpGood then m.calStart env.cal else m
  let m := m.startPlan
  let m := m.each m.confStrings fun m n => (m.ocActivate n).wakeRing n
  let m := m.estStart lostMs outMs
  m.each (m.confStrings.filter m.inService) fun m n => m.onStrDisp n fun x => { x with svc := .waitReady, svcStartup := true }

/-- The start-up of a cold start, or of a module restart from its 5 ms row (R561), with its cause code (R578). A cell found below 2.70 V is
recorded (R566), and a self-test that fails drops every output, booted or not (R23). A parked module runs SP0 alone. -/
def Mod.startUp (m : Mod) (cold : Bool) (cause : Nat) (env : StartEnv) : Mod :=
  let wasOff := m.power.opMsAtFail
  let mesh := m.power.meshOk
  let m := (if cold then if env.cfLost then m.coldFrameLost else m else m.cancelActivation 4).retained cold
  let m := m.onPower fun p => { p with
    opMs := (p.opMs + env.offMs) % 2 ^ 48, cfResponding := env.cfOk, holdupOk := true, cellMv := env.cellMv, capMv := env.capMv
    cellLow := decide (env.cellMv < 2700), capLow := decide (env.capMv < 2000), meshOk := env.meshOk
    pwrCycle := if cold then (p.pwrCycle + 1) % 2 ^ 32 else p.pwrCycle
    straps := env.straps, strapPins := env.straps, strapValid := strapsValid env.straps }
  let blank := decide (m.power.cfSignature ≠ 0x4B584346)
  let m := (m.cfgStart.recStart blank)
  let m := if blank then m.blankStart else m
  let m := (if mesh && !env.meshOk then m.violation 0 else m).loadWindows env.windows
  let m := if m.power.cellLow then m.post 0xE008 0xFF bCold (leN 2 m.power.cellMv) else m
  let m := if m.power.kseal.isEmpty then m.drawSeal else m
  let out : Option Nat := match m.power.opMsAtFail, wasOff with
    | some t, some _ => some (m.power.opMs - t)
    | _, _ => if cold then none else some 0
  let lost : Nat := match m.power.opMsAtFail with
    | some t => if cold then t else m.power.opMs
    | none => if cold then 2 ^ 48 else m.power.opMs
  let m := m.onPower fun p => { p with lastCause := cause, opMsAtFail := none, outageMs := out.getD 0xFFFFFFFFFFFFFFFF }
  let m := if m.power.strapValid then m else (m.onPower fun p => { p with parkWhy := p.parkWhy ||| 1 }).post 0xE004 0xFF bSup (leN 2 env.straps.toNat)
  let m := m.onSafety fun s => { s with
    coresAgree := true, selftestOk := true, cfgValid := env.cfgOk, cfgCrc := cfgCrcOf fun i => (tget s.cfg i).getD (paramDefault i) }
  let (m, slot) := m.bootSelect fun b => if b then env.bootB else env.bootA
  let m := m.timeStart
  let m := m.post 0xE001 0xFF bSup (u8 cause ++ u8 (b2n !cold) ++ [0, 0] ++ leN 4 m.power.pwrCycle ++ leN 8 m.power.outageMs)
  let judged (m : Mod) : Mod :=
    let m := if env.selftestOk then m else safetyCoreFault 1 m
    if env.cfgOk then m else m.criticalFault true
  match slot with
  | none => judged m.startFunctions.enterRecovery
  | some b =>
    let m := (m.bootInto b false).otpCheck
    let m := m.onProt fun p => { p with trip := p.trip && decide (9000 ≤ env.tMod), tMod := env.tMod }
    let m := m.onPower fun p => { p with
      parkWhy := p.parkWhy ||| (if p.parkRequest then 2 else 0) ||| (if m.prot.trip then 4 else 0) }
    let m := m.startFunctions.onPlan fun p => { p with sp0Ok := true }
    judged (if m.power.parkWhy ≠ 0 then m.onPower fun p => { p with state := .parked }
      else (m.startFabric env lost (if cold then out else some 0)).archGap)

/-- Row COLD_START (R561): the hold-up store is charged and the input above 40 V. -/
def coldStart (insertion : Bool) (env : StartEnv) (m : Mod) : Mod :=
  let may := decide (m.power.state = .off) || (decide (m.power.state = .starting) && !m.upd.recovery)
  if !may || (!m.pair.presence && !insertion) then m else
    (m.onPair fun p => { p with presence := true }).startUp true 1 env

/- Factory restore (R576, Table 16.3) -/

/-- The class P items take what a factory restore gives them. -/
def Mod.factoryItems (m : Mod) : Mod :=
  { m with
    host := { m.host with params := [], snap := [] }
    plan := { m.plan with stored := none, storedImages := [], fallback := none, fallbackImage := [] }
    safety := { m.safety with cfg := [], commitCfg := none }
    chain := { m.chain with mons := m.chain.mons.foldl (fun t e => tput t e.1 { e.2 with tableUid := none }) m.chain.mons }
    est := { m.est with strs := m.est.strs.foldl (fun t e => tput t e.1 { e.2 with ckpts := [] }) m.est.strs }
    disp := { m.disp with strs := m.disp.strs.foldl (fun t e => tput t e.1 { e.2 with inService := false }) m.disp.strs }
    pair := { m.pair with lastTakeoverMs := 0, lastTakeoverGrain := 0 }
    power := { m.power with parkRequest := false }
    store := { m.store with cfgParams := [] } }

/-- A factory restore is under way whose record is durable: it stands though its restart is cut off (Table 16.14). -/
def Mod.factoryStands (m : Mod) : Bool := m.power.restart.any (·.factory) && !m.store.undurable.any fun r => r.code == 0xE00F

/-- A start after such a restore carries it out. -/
def Mod.factoryEnd (m : Mod) : Mod := if m.power.factoryDue then m.factoryItems else m

/- The requested module restart (R556, R581) -/

/-- A link drives its far end. -/
def Mod.driven (m : Mod) : List Nat := strings.filter fun n => (m.link n).st.running

/-- A module restart is asked for with a cause code: by a yield, or by the stop sequence. -/
def Mod.requestRestart (m : Mod) (cause : Nat) (factory : Bool := false) : Mod :=
  if m.power.restart.isSome || m.power.state = .failing || m.power.state = .off || m.pair.extraction then m
  else if m.canYield then
    (m.yield false).onPower fun p => { p with restart := some { cause := 9, startedMs := m.host.ms, yielding := true, factory := factory } }
  else
    let m := m.onPower fun p => { p with restart := some { cause := cause, startedMs := m.host.ms, factory := factory } }
    if m.standby then m else (m.performStop).each m.driven fun m n => m.softStop n false

/-- The restart's stop sequence is complete: no link runs, and every group whose links are all OFF is switched off. -/
def Mod.restartReady (m : Mod) (r : RestartSeq) : Bool :=
  if r.yielding then m.pair.yieldAt.isNone && !m.pair.role
  else if decide (m.plan.mode = .stopped) || m.standby then true
  else
    let quiet := strings.all (fun n => !(m.link n).st.running && decide ((m.link n).st ≠ .localRamp))
      && (List.range 8).all fun g => !(m.sq g).on || (m.members g).isEmpty || !(m.members g).all m.linkOff
    quiet || decide (10004 ≤ m.host.ms - r.startedMs)

/-- Step 5 of R556: pending configuration writes complete, and the restart flush runs. -/
def Mod.restartFlush (m : Mod) : Mod := flushComplete ((configWriteComplete m).startFlush true)

/-- Row MODULE_RESTART (R556, R561): the service window closes (R599) and a scheduled activation is cancelled before the restart flush. -/
def moduleRestart (env : StartEnv) (m : Mod) : Mod :=
  match m.power.restart with
  | some r => if m.restartReady r && decide (m.power.state ≠ .failing ∧ m.power.state ≠ .off) then
      let m := (m.rvEnd.cancelActivation 4).restartFlush
      (if r.factory then m.factoryItems else m).startUp false r.cause env
    else m
  | none => m

/- Power failure, insertion and extraction (R35, R36, R400, R401, R563) -/

/-- An active module with a ready partner yields; any other sends LOCAL_RAMP on every link it drives. -/
def Mod.yieldOrRamp (m : Mod) : Mod :=
  if m.canYield then m.yield false
  else if m.standby then m
  else m.each m.driven fun m n => m.linkTo n .localRamp

/-- Row POWER_FAILURE (R35, R563): it always ends in a restart or a cold start, so a scheduled activation is cancelled, and recorded while
the recorder runs (R76, log 62). A factory restore stands where its record is durable (Table 16.14). -/
def powerFailure (vin : Nat) (m : Mod) : Mod :=
  if m.power.state = .failing ∨ m.power.state = .off ∨ 37000 ≤ vin then m else
    let m := m.onPower fun p => { p with
      state := .failing, powerFail := true, powerFailMs := m.host.ms, opMsAtFail := some p.opMs, restart := none, holdupOk := false
      factoryDue := p.factoryDue || m.factoryStands }
    (((m.post 0xE003 0xFF bSup (leN 4 vin)).cancelActivation 4).startFlush true).yieldOrRamp

/-- Row POWER_RECOVERED (R563). -/
def powerRecovered (env : StartEnv) (m : Mod) : Mod :=
  if m.power.state = .failing && m.pair.presence then (configWriteComplete m).factoryEnd.startUp false 11 env else m

/-- Row HOLDUP_EXHAUSTED (R35, R36): the module loses power; the cold frame runs on from its cell. -/
def holdupExhausted (m : Mod) : Mod :=
  if m.power.state = .failing || m.pair.extraction || !m.pair.presence then
    let m := (configWriteComplete m).factoryEnd.flushCut.onPower fun p => { p with opMsAtFail := some (p.opMsAtFail.getD p.opMs) }
    (m.retained true).onPower fun p => { p with state := .off }
  else m

/-- Row INSERTION (R400): the hot-swap switch turns on and the stores charge at limited current. -/
def insertion (m : Mod) : Mod :=
  if m.power.state = .off || m.power.state = .starting then
    (m.onPair fun p => { p with presence := true }).onPower fun p => { p with state := .starting, inrushLim := true }
  else m

/-- Row EXTRACTION_WARNING (R401): a requested restart is abandoned (R581), and a scheduled activation cancelled (R76). -/
def extractionWarning (m : Mod) : Mod :=
  if m.pair.extraction || m.power.state = .off then m else
    let m := m.onPair fun p => { p with presence := false, extraction := true }
    let m := (m.onPower fun p => { p with restart := none, factoryDue := p.factoryDue || m.factoryStands }).cancelActivation 4
    m.yieldOrRamp.startFlush true

/-- Row PRESENCE_RETURN (R401): asserted again for 1 s, the input still up. -/
def presenceReturn (env : StartEnv) (m : Mod) : Mod :=
  if m.pair.extraction && decide (m.power.state ≠ .off) then
    ((configWriteComplete m).factoryEnd.onPair fun p => { p with presence := true }).startUp false 12 env
  else m

/- The restart button (R564, R565) -/

/-- The supervisor runs and reads the button. -/
def Mod.supRuns (m : Mod) : Bool :=
  !m.plan.warm && decide (m.power.state = .running ∨ m.power.state = .parked ∨ m.power.state = .failing)

/-- Row RESTART_BUTTON_PRESS. A press that begins while the supervisor is down is no press of it (R564). -/
def restartButtonPress (m : Mod) : Mod :=
  if m.power.btnHeld then m
  else if !m.supRuns then (if m.plan.warm then m.onPower fun p => { p with btnHeld := true, btnSince := m.host.ms } else m)
  else
    m.onPower fun p => { p with
      btnHeld := true, presses := stopAt 0xFFFF (p.presses + 1), btnState := if p.btnState = 0 then 1 else p.btnState
      btnSince := m.host.ms }

/-- Row RESTART_BUTTON_RELEASE: 200-2,999 ms a warm restart, 3,000-10,000 ms a module restart. -/
def restartButtonRelease (m : Mod) : Mod :=
  if !m.power.btnHeld then m
  else if !m.supRuns then (if m.plan.warm then m.onPower fun p => { p with btnHeld := false, btnSince := m.host.ms } else m)
  else
    let held := m.host.ms - m.power.btnSince
    let was := m.power.btnState
    let m := m.onPower fun p => { p with btnHeld := false, btnState := if p.btnState = 1 then 0 else p.btnState, btnSince := m.host.ms }
    if was ≠ 1 ∨ 10001 ≤ held then m else
      let act := if held < 200 then 0 else if held < 3000 then 1 else 2
      let m := m.post 0xE007 0xFF bSup (leN 4 held ++ u8 act)
      if act = 1 then m.warmRestart 2 else if act = 2 then m.requestRestart 3 else m

/-- Row BUTTON_STUCK. -/
def buttonStuck (m : Mod) : Mod :=
  if m.power.btnState = 1 && m.power.btnHeld && decide (10001 ≤ m.host.ms - m.power.btnSince) then
    (m.onPower fun p => { p with btnState := 2 }).post 0xE006 0xFF bSup []
  else m

/-- Row BUTTON_REARM. -/
def buttonRearm (m : Mod) : Mod :=
  if m.power.btnState = 2 && !m.power.btnHeld && decide (2000 ≤ m.host.ms - m.power.btnSince) then m.onPower fun p => { p with btnState := 0 }
  else m

/- Straps, cell and violations (R560, R566, R572-R574) -/

/-- Row STRAP_RECHECK (R560). -/
def strapRecheck (pins : BitVec 9) (m : Mod) : Mod :=
  if !m.supRuns || pins = m.power.strapPins then m else
    (m.onPower fun p => { p with strapPins := pins, strapChanged := true }).post 0xE005 0xFF bSup (leN 2 m.power.strapPins.toNat ++ leN 2 pins.toNat)

/-- Row CELL_LOW (R566): the cell's voltage is measured. -/
def cellLow (mv : Nat) (m : Mod) : Mod :=
  let low := decide (mv < 2700)
  let was := m.power.cellLow
  let m := m.onPower fun p => { p with cellMv := mv, cellLow := low }
  if low && !was then m.post 0xE008 0xFF bCold (leN 2 mv) else m

/-- Ten AUTH_BLOCKED records within an hour (R572). -/
def Mod.authCount (m : Mod) : Nat := (m.power.authBlockedAt.filter fun t => decide (m.host.ms - t < 3600000)).length

/-- Row SEC_VIOLATION (R572, R573): source 0 MESH, 1 GLITCH, 2 AUTH, detected with or without power; `holds` false is the end
of a condition. -/
def secViolation (source : Nat) (powered holds : Bool) (m : Mod) : Mod :=
  if 2 < source then m
  else if !powered || decide (m.power.state = .off) then
    if decide (m.power.state = .off ∨ m.power.state = .failing) && holds && decide (source ≠ 2) then
      m.unpoweredErase.onPower fun p => { p with
        unpoweredViolation := some (p.unpoweredViolation.getD source), meshOk := p.meshOk && decide (source ≠ 0) }
    else m
  else if source = 2 then
    if m.authCount < 10 then m else (m.onPower fun p => { p with authBlockedAt := [] }).violation 2
  else
    let was := if source = 0 then !m.power.meshOk else m.power.glitchNow
    let m := m.onPower fun p => if source = 0 then { p with meshOk := !holds } else { p with glitchNow := holds }
    if holds && !was then m.violation source else m

/-- The violation's condition still holds (R574). -/
def Mod.violationHolds (m : Mod) : Bool := !m.power.meshOk || m.power.glitchNow

/- DRAM errors (R544, Table 15.8) -/

/-- An address of the plan's DRAM area that a bed may reach: its own area, the exchange blocks, or for the common bed the host copies too
(R55, R56). -/
def inBedArea (bed addr : Nat) : Bool := winInArea { bed := bed, base := addr - 0x40000000, size := 1 }

/-- Row DRAM_UE_READ (R542, R544): a read of an address with an uncorrectable error, by `reader`, for slot `slotId` of bed `bed`
or for the transfer `use`. A slot's read outside its bed's area is blocked before it reaches the memory (R59). -/
def dramUeRead (addr reader bed slotId : Nat) (use : DmaUse) (m : Mod) : Mod :=
  if decide (dramRow addr = 1 ∧ reader = bFabric) && !inBedArea bed addr then overrunAt bed slotId .blocked m else
  let m := m.poison addr reader
  match dramRow addr with
  | 0 => m.warmRestart 8
  | 1 => overrunAt bed slotId .ecc m
  | 3 => m.ueRing addr
  | 4 => m.failUse use 0
  | _ => m

/- Registers and points (R582-R584) -/

def Mod.pwrState (m : Mod) : Nat := match m.power.state with | .off | .starting => 0 | .parked => 1 | .running => 2 | .failing => 3

def Mod.keyMask (m : Mod) : Nat := maskOf (m.power.credKeys.map (·.1))
/-- Some credential key is held (R569). -/
def Mod.provisioned (m : Mod) : Bool := !m.power.credKeys.isEmpty

def Mod.secStat (m : Mod) : W32 :=
  let p := m.power
  pack [(0, 1, b2n m.provisioned), (1, 1, b2n p.locked), (2, 1, b2n p.meshOk), (3, 1, b2n p.meshBreach), (4, 1, b2n p.glitch),
    (5, 1, b2n p.erased), (6, 1, b2n (!p.chainRoot.key.isEmpty)), (16, 16, m.keyMask)]

def Mod.btnStat (m : Mod) : W32 :=
  let p := m.power
  let held := if p.btnHeld then min 1023 ((m.host.ms - p.btnSince) / 10) else 0
  pack [(0, 2, p.btnState), (2, 10, held), (16, 16, p.presses)]

/-- The registers of Tables 16.15 and 16.16. -/
def Mod.powerReg (m : Mod) (off : Nat) : Option W32 :=
  let p := m.power
  match off with
  | 0x2400 => some (pack [(0, 8, p.lastCause), (8, 8, p.warmCount), (16, 1, b2n p.powerFail)])
  | 0x2404 => some (pack [(0, 2, m.pwrState), (2, 1, b2n p.holdupOk), (3, 1, b2n p.inrushLim), (4, 3, p.parkWhy.toNat)])
  | 0x2408 => some (pack [(0, 9, p.straps.toNat), (9, 1, b2n p.strapValid), (10, 1, b2n p.strapChanged)])
  | 0x240C => some (pack [(0, 1, b2n p.cfResponding), (1, 1, b2n p.cellLow), (2, 1, b2n p.capLow), (3, 1, b2n p.blankSeen), (16, 16, p.cellMv)])
  | 0x2410 => some m.secStat
  | 0x2414 => some m.btnStat
  | _ => none

/-- The housekeeping points (Table 16.17): TYPE and value. -/
def Mod.housePoint (m : Mod) (k : Nat) : Nat × Int :=
  let p := m.power
  match k with
  | 0 => (7, p.opMs)
  | 1 => (3, p.pwrCycle)
  | 2 => (1, p.lastCause)
  | 3 => (1, m.pwrState)
  | 4 => (1, p.parkWhy.toNat)
  | 5 => (1, p.straps.toNat)
  | 6 => (1, m.strapSlot)
  | 7 => (1, m.strapProfile)
  | 8 => (1, if m.paired then m.partnerSlot else 0)
  | 9 => (1, m.strapSlot)
  | 10 => (1, p.cellMv)
  | 11 => (1, p.capMv)
  | 12 => (3, m.secStat.toNat)
  | 13 => (3, m.btnStat.toNat)
  | 14 => (3, p.eraseCount)
  | 15 => (7, p.outageMs)
  | _ => (0, 0)

end Sys2Proof.Machine
end

