-- ==== Sys2Proof/Machine/Regs.lean ====
section
/-! DEFINITION. The diagnostic window (R441): the registers not formed elsewhere, and the whole window by offset. -/

namespace Sys2Proof.Machine

/- Chain (R128, R129, R172) -/

/-- CHN_STAT[n] (Table 3.13). In a pair each module shows what its own ring end sees alone. -/
def Mod.chnStat (m : Mod) (n : Nat) : W32 :=
  let r := m.ring n
  let own : Nat := if m.pairOp then (if m.oddSlot then 1 else 2) else 3
  let e (lsb : Nat) (v : BitVec 2) : Nat × Nat × Nat := (lsb, 2, v.toNat &&& own)
  let lock : Nat := b2n (m.endLocked n .A) + 2 * b2n (m.endLocked n .B)
  let auth := !(m.monsOf n).isEmpty && !m.compat n && (m.monAddrs n).all fun a => (m.mon n a).authSince
  pack [(0, 2, lock &&& own), e 2 r.tone, e 4 r.wake, e 6 r.inv, (8, 2, r.mode), (10, 2, r.enum.ctorIdx), (12, 1, b2n r.cont),
    (13, 1, b2n auth), (16, 6, if own % 2 = 1 then r.reachA else 0), (22, 6, if 2 ≤ own then r.reachB else 0)]

/-- CHN_CNT0[n] and CHN_CNT1[n] (Table 3.14). -/
def Mod.chnCnt (m : Mod) (n i : Nat) : W32 :=
  let r := m.ring n
  if i = 0 then pack [(0, 16, r.crcDiscard), (16, 16, r.cntMismatch)] else pack [(0, 16, r.missing), (16, 16, r.unexpected)]

/-- CHN_FLT[n] (Table 4.8). -/
def Mod.chnFlt (m : Mod) (n : Nat) : W32 :=
  let r := m.ring n
  let stale := ((m.gcells n).map fun g => (m.cell g).staleAge).foldl max 0
  pack [(0, 6, r.breakHop), (6, 1, b2n r.split), (7, 1, b2n r.revFirst), (8, 1, b2n (r.openReq == some m.plan.grainCnt)),
    (9, 1, b2n r.toneTrip), (10, 2, r.tonePath.toNat), (12, 1, b2n (m.accelRing n)), (16, 8, stopAt 255 stale)]

/- Protection (R320, R321) -/

/-- PROT_STAT[n] (Table 8.6); LATCHED is the trip latch of the link (R308), which a comparator event sets before its cause is read. -/
def Mod.protStat (m : Mod) (n : Nat) : W32 :=
  let p := m.strProt n
  pack [(0, 1, b2n (m.link n).tripHeld), (1, 4, p.step), (5, 2, p.band.ctorIdx), (7, 1, b2n p.chgInhibit), (8, 1, b2n p.disInhibit),
    (9, 3, m.contState n), (12, 1, b2n (m.anyBad n)), (13, 1, b2n ((m.strAdc n).ocNowDis || (m.strAdc n).ocNowChg))]

/-- CONT_STAT and MOD_THERM (Table 8.7). -/
def Mod.contStat (m : Mod) : W32 :=
  let bits (p : Nat → Bool) : Nat := maskOf ((List.range 8).filter p)
  pack [(0, 8, bits fun g => (m.sq g).on && !(m.members g).isEmpty), (8, 8, bits m.fbClosed), (16, 8, bits fun g => (m.group g).fault || (m.members g).any fun n => m.hasCause n cContFault)]
def Mod.modTherm (m : Mod) : W32 :=
  pack [(0, 16, uns 16 m.prot.tMod), (16, 1, b2n m.prot.warn), (17, 1, b2n m.prot.high), (18, 1, b2n m.prot.trip)]

/- Safety (R364-R367) -/

/-- SAFE_STAT (Table 9.18). -/
def Mod.safeStat (m : Mod) : W32 :=
  let s := m.safety
  pack [(0, 1, b2n s.coresAgree), (1, 1, b2n s.diagnosticsOk), (2, 1, b2n s.cfgValid), (3, 1, b2n s.bpOut), (4, 1, b2n s.bpIn),
    (5, 1, b2n m.modStopped), (6, 1, b2n m.resetWait), (7, 1, b2n (decide (s.tpFault ≠ 0))), (8, 1, b2n ((List.range 16).any m.maintOn)),
    (9, 3, s.twoHand.ctorIdx)]

/-- SI_STAT[i] and SI_DISC_CNT[i] (Table 9.19). FSTATE of a two-hand or reset input is that of its table (Tables 9.2, 9.3). -/
def Mod.siStat (m : Mod) (i : Nat) : W32 :=
  let x := m.si i
  let seen (b : Bool) : Nat := b2n (m.safety.sampled && b)
  pack [(0, 1, seen (m.siDemandA i)), (1, 1, seen (m.siDemandB i)), (2, 1, seen (m.siDemand i)), (3, 3, x.fstate.ctorIdx), (6, 1, b2n x.discFault),
    (7, 1, b2n (decide (x.crossFault ≠ 0))), (8, 2, x.clrSeq), (10, 9, stopAt 511 (x.discMs.getD 0)), (19, 3, m.siFunc i)]
def SafeIn.discCnt (x : SafeIn) : W32 := pack [(0, 16, x.short), (16, 16, x.longest)]

/-- OI_STAT[k] and SQ_STAT[g] (Table 9.20). -/
def Mod.oiStat (m : Mod) (k : Nat) : W32 :=
  let x := m.oi k
  let seen (b : Bool) : Nat := b2n (m.safety.sampled && b)
  pack [(0, 1, seen (!x.a)), (1, 1, seen (!x.b)), (2, 2, x.fstate.ctorIdx), (4, 1, b2n x.discFault)]
def Mod.sqStat (m : Mod) (g : Nat) : W32 :=
  let o := m.sq g
  pack [(0, 1, b2n o.reqOn), (1, 1, b2n o.on), (2, 1, b2n o.hsFault), (3, 1, b2n o.lsFault), (4, 1, b2n o.stuck), (5, 1, b2n o.overload),
    (6, 1, b2n o.openLoad)]

/-- FALLOW_STAT, FALLOW_STR and CLOCHE_STAT[c] (R367, Table 9.21). -/
def Mod.fallowStat (m : Mod) : W32 :=
  pack [(0, 1, b2n m.modFallow), (1, 1, b2n m.safety.fallowExpMod), (16, 12, (m.fallowLeft + 999) / 1000)]
def Mod.fallowStr (m : Mod) : W32 := BitVec.ofNat 32 (maskOf (strings.filter m.inFallow))
def Mod.clocheStat (m : Mod) (graft : Bool) : W32 :=
  let c := m.cloche graft
  let seen (t : Option Nat) : Bool := match t with | some t => decide (m.safety.ms - t ≤ m.parN 0x80A4) | none => false
  pack [(0, 2, c.st.ctorIdx), (2, 1, b2n (seen c.netA)), (3, 1, b2n (seen c.netB)), (4, 1, b2n c.echoLate), (5, 1, b2n c.wdogExp), (16, 16, c.discards)]

/-- FALLOW_EXP (R367): every string has been safe-stopped by the expiry of the module's timer (R351), else those of their own. -/
def Mod.fallowExpired (m : Mod) : W32 := if m.safety.fallowExpMod then 0xFFFFFFFF else m.safety.fallowExp

/-- The safety registers by offset. -/
def Mod.safeReg (m : Mod) (off : Nat) : Option W32 :=
  if off = 0x1000 then some m.safeStat
  else if off = 0x1004 then some m.safety.cfgCrc
  else if 0x1040 ≤ off ∧ off < 0x1080 then some (m.siStat ((off - 0x1040) / 4))
  else if 0x1080 ≤ off ∧ off < 0x1090 then some (m.oiStat ((off - 0x1080) / 4))
  else if 0x10A0 ≤ off ∧ off < 0x10C0 then some (m.sqStat ((off - 0x10A0) / 4))
  else if off = 0x10C0 then some m.fallowStat
  else if off = 0x10C4 then some m.fallowStr
  else if off = 0x10C8 then some m.fallowExpired
  else if off = 0x10D0 then some (m.clocheStat false)
  else if off = 0x10D4 then some (m.clocheStat true)
  else if 0x1100 ≤ off ∧ off < 0x1140 then some (m.si ((off - 0x1100) / 4)).discCnt
  else none

/- Host interface (R450, R451) -/

/-- Word `j` of a mailbox block. -/
def Mod.mbxReg (m : Mod) (k j : Nat) : W32 :=
  let b := m.mbx k
  let type (t : W16) (d : Byte) : W32 := pack [(0, 16, t.toNat), (16, 8, d.toNat)]
  match j with
  | 0 => m.mbxStat k
  | 1 => b.inPtr
  | 2 => b.inLen
  | 3 => type b.inType b.inDomain
  | 4 => b.outPtr
  | 5 => b.outLen
  | 6 => type b.outType b.outDomain
  | _ => 0

/-- The host registers by offset (Table 11.11). -/
def Mod.hostReg (m : Mod) (off : Nat) : Option W32 :=
  let h := m.host
  if off = 0x1300 then
    some (pack [(0, 5, h.sessions.length), (5, 6, h.streams.length), (11, 1, b2n (!h.blocked.isEmpty)), (16, 16, h.streamSkip)])
  else if off = 0x1304 then some (pack [(0, 16, h.badForm), (16, 16, h.badTag)])
  else if off = 0x1308 then some (pack [(0, 16, h.badSeq), (16, 16, h.watchSkip)])
  else if 0x1320 ≤ off ∧ off < 0x1340 then
    some (BitVec.ofNat 32 (maskOf ((List.range 32).filter fun i => (tget h.watches (8 * (off - 0x1320) + i)).fired)))
  else if 0x1400 ≤ off ∧ off < 0x1620 then some (m.mbxReg ((off - 0x1400) / 32) ((off - 0x1400) % 32 / 4))
  else none

/- Update and front interfaces (R606, R627) -/

/-- FW_STAT (Table 17.9). -/
def Mod.fwStat (m : Mod) : W32 :=
  let u := m.upd
  let off := m.fwSlot (!u.runB)
  let trial : Nat := if u.slotA.st = .trial then u.slotA.tries else if u.slotB.st = .trial then u.slotB.tries else 0
  let left : Nat := match u.trialSince with | some t => (600000 - (m.host.ms - t) + 59999) / 60000 | none => 0
  pack [(0, 3, off.st.ctorIdx), (3, 1, b2n u.runB), (4, 1, b2n u.trialSince.isSome), (5, 2, m.portState), (7, 1, b2n u.usbUp),
    (8, 1, b2n u.session.isSome), (9, 1, b2n ((u.session.map (·.presence)).getD false)), (10, 6, left), (16, 8, off.refusal), (24, 2, trial)]

/-- FIO_STAT (Table 18.9). The field supplies and pulse sources are judged by the running safety processor. -/
def Mod.fioStat (m : Mod) : W32 :=
  let s := m.safety
  let ok (x : BitVec 2) (i : Nat) : Nat := b2n (s.coresAgree && x.getLsbD i)
  let odd := if m.oddSlot then m.roleLine else m.pair.partnerRole
  let even := if m.oddSlot then m.pair.partnerRole else m.roleLine
  pack [(0, 1, ok (~~~s.fieldLow) 0), (1, 1, ok (~~~s.fieldLow) 1), (2, 1, ok s.tpGood 0), (3, 1, ok s.tpGood 1), (4, 3, m.upd.fioSup.toNat),
    (8, 4, m.upd.fioCan.toNat), (12, 2, m.upd.fioKl.toNat), (16, 1, b2n m.pair.presence), (17, 1, b2n m.pair.ptrPresent), (18, 1, b2n odd),
    (19, 1, b2n even), (20, 1, b2n (s.bpOut || s.bpIn))]

/- The window -/

/-- The registers of a CAN port (Tables 13.5 and 13.6); CAN_CTRL and GO read 0. -/
def Mod.canReg (m : Mod) (off : Nat) : Option W32 :=
  if 0x1900 ≤ off ∧ off < 0x1910 then some (m.canStat ((off - 0x1900) / 4))
  else if 0x1910 ≤ off ∧ off < 0x1920 then some (m.canErr ((off - 0x1910) / 4))
  else if 0x1A00 ≤ off ∧ off < 0x1C00 then
    let c := m.port ((off - 0x1A00) / 0x80)
    let j := (off - 0x1A00) % 0x80
    if j < 0x40 then some (BitVec.ofNat 32 (rdN c.txw j 4)) else if j = 0x40 then some (BitVec.ofNat 32 c.txwObj) else none
  else none

/-- The value a register shows; an offset with no register reads 0. -/
def Mod.regValue (m : Mod) (off : Nat) : W32 :=
  let n := off % 0x80 / 4
  if off < 0x400 then (m.planReg off).getD 0
  else if off < 0x480 then m.chnStat n
  else if off < 0x580 then m.chnCnt ((off - 0x480) / 8) (off / 4 % 2)
  else if off < 0x600 then 0
  else if off < 0x680 then m.chnFlt n
  else if off < 0x700 then 0
  else if off < 0x780 then m.estStat n
  else if off = 0x780 then m.eisScaleReg
  else if off < 0x800 then 0
  else if off < 0x880 then m.klnkStat n
  else if off < 0x900 then m.klnkSat n
  else if off < 0xA00 then m.klnkCnt ((off - 0x900) / 8) (off / 4 % 2)
  else if off < 0xD00 then m.kphStat ((off - 0xA00) / 4)
  else if off < 0xE00 then
    match m.disp.s64Latch, m.dispWide off, m.dispWide (off - 4) with
    | _, some v, _ => BitVec.ofInt 32 v
    | some (o, v), _, some w => if o = off then v else BitVec.ofNat 32 (uns 64 w / 2 ^ 32)
    | none, _, some w => BitVec.ofNat 32 (uns 64 w / 2 ^ 32)
    | _, _, _ => m.dispReg off
  else if off < 0xE80 then m.protStat n
  else if off < 0xF00 then (m.strProt n).cause.setWidth 32
  else if off = 0xF00 then m.contStat
  else if off = 0xF04 then m.modTherm
  else if off < 0x1200 then (m.safeReg off).getD 0
  else if off < 0x1300 then m.pairReg off
  else if off < 0x1800 then (m.hostReg off).getD 0
  else if off < 0x1900 then m.timeReg off
  else if off < 0x1C00 then (m.canReg off).getD 0
  else if off < 0x1D00 then (m.adcReg off).getD 0
  else if 0x1D40 ≤ off ∧ off < 0x2180 ∧ !m.cursorServed then 0
  else if off < 0x2400 then (m.storeReg off).getD 0
  else if off = 0x2500 then m.fwStat
  else if off = 0x2600 then m.fioStat
  else (m.powerReg off).getD 0

/-- The latches of the pairs of R42, R293, R467 and R550 end at any read. -/
def Mod.latchesEnd (m : Mod) : Mod :=
  { m with
    plan := { m.plan with grnLatch := none }, disp := { m.disp with s64Latch := none }
    time := { m.time with wrapLatch := none, secLatch := none }, store := { m.store with ueLatch := none } }

/-- What the read of a register does: it latches the other of its pair, or moves the recorder cursor. -/
def Mod.readEffect (off : Nat) (m : Mod) : Mod :=
  let m := m.latchesEnd
  if off = 0x100 then grnNowRead m
  else if off = 0x1804 then timeNsRead m
  else if off = 0x1814 then timeSecLoRead m
  else if off = 0x1D24 then dramUeLoRead m
  else if off = 0x217C then recCurDataLastRead m
  else s64LowRead off m

/-- A read of one register (R441). -/
def Mod.diagRead (off : Nat) (m : Mod) : W32 × Mod := (m.regValue off, Mod.readEffect off m)

/-- The codes of a command trigger, free values as is its moment in the round: the register write brings no measurement (log 7). -/
def Mod.freeCodes : Nat → Mod → List Int × Mod
  | 0, m => ([], m)
  | k + 1, m =>
    let (v, m) := m.free
    let (l, m) := Mod.freeCodes k m
    (sgn 18 v.toNat :: l, m)

/-- ADC_CTRL (Table 14.5): CLR_ADC, the command triggers, then CAL, whose BUSY refusal is the write's. -/
def Mod.adcCtrlWrite (m : Mod) (v : W32) : Mod × Nat :=
  let m := if v.getLsbD 6 then adcCtrlClr m else m
  let m := m.each (setBits 3 (bitsOf v.toNat 3 3)) fun m c =>
    let (l, m) := Mod.freeCodes 4 m
    let (t, m) := m.free
    adcCtrlInjGo c (t.toNat % 10000) l m
  adcCtrlCal (bitsOf v.toNat 0 3) m

/-- CAN_CTRL (Table 13.6). -/
def Mod.canCtrlWrite (m : Mod) (p : Nat) (v : W32) : Mod :=
  let m := if v.getLsbD 0 then canCtrlRecover p m else m
  let m := if v.getLsbD 1 then canCtrlDetect p m else m
  let m := if v.getLsbD 2 then canCtrlAbortAll p m else m
  if v.getLsbD 3 then canCtrlClearFlags p m else m

/-- CAN_TXW (Table 13.6): the staged data, the target object, and GO with its refusal. -/
def Mod.canTxwWrite (m : Mod) (p j : Nat) (v : W32) : Mod × Nat :=
  if j < 0x40 then (m.onPort p fun c => { c with txw := (padTo 64 0 c.txw).take j ++ leN 4 v.toNat ++ (padTo 64 0 c.txw).drop (j + 4) }, 0)
  else if j = 0x40 then (m.onPort p fun c => { c with txwObj := v.toNat % 256 }, 0)
  else if j = 0x44 && v.getLsbD 0 then m.canGo p
  else (m, 0)

/-- A write of one register: its RW, W1C and WO fields alone are written (R441, Table 0.4). -/
def Mod.diagWrite (m : Mod) (off : Nat) (v : W32) : Mod × Nat :=
  if off = 0x1800 then (m.timeStatWrite v, 0)
  else if 0x1920 ≤ off ∧ off < 0x1930 then (m.canCtrlWrite ((off - 0x1920) / 4) v, 0)
  else if 0x1A00 ≤ off ∧ off < 0x1C00 then m.canTxwWrite ((off - 0x1A00) / 0x80) ((off - 0x1A00) % 0x80) v
  else if off = 0x1C20 then m.adcCtrlWrite v
  else if off = 0x1D40 then (recCurPosWrite (some v) none m, 0)
  else if off = 0x1D44 then (recCurPosWrite none (some (BitVec.ofNat 3 v.toNat)) m, 0)
  else (m, 0)

end Sys2Proof.Machine
end

