-- ==== Sys2Proof/Machine/Points.lean ====
section
/-! DEFINITION. The point directory (Tables 11.6 and 11.7): its groups, and type, value and flags of every index. -/

namespace Sys2Proof.Machine

/-- The group of an index: its base and count (R428). -/
def pointGroup (idx : Nat) : Option (Nat × Nat) :=
  ([(0, 184320), (0x2D000, 20480), (0x32000, 5120), (0x33400, 1024), (0x33800, 1024), (0x33C00, 288), (0x34000, 32768), (0x3C000, 256),
    (0x3C400, 992), (0x3C800, 1024)] : List (Nat × Nat)).find? fun g => decide (g.1 ≤ idx ∧ idx < g.1 + g.2)

/-- Bits of PFLAGS (Table 11.7). -/
def pfStale : Nat := 1
def pfSat : Nat := 2
def pfSuspect : Nat := 4
def pfUnauth : Nat := 8
def pfUnconf : Nat := 16
def pfReserved : Nat := 32
def pfTempStale : Nat := 64

/-- The range of a type's code: u16, s16, u32, s32, s64, u64 (R429). -/
def typeRange (t : Nat) : Int × Int :=
  match t with
  | 1 => (0, 65535)
  | 2 => (-32768, 32767)
  | 3 => (0, 4294967295)
  | 4 => (-2147483648, 2147483647)
  | 5 => (-9223372036854775808, 9223372036854775807)
  | 7 => (0, 18446744073709551615)
  | _ => (0, 0)

/-- TYPE, VALUE and PFLAGS of a point: a value beyond its encoding is held at the end of the range with SAT (R9). An SoC of one, or one that
rounds to 65,536, has SAT too: R8 gives it the code 0xFFFF and does not say, and this is the model's choice (log 68). -/
def pt (t : Nat) (v : Int) (flags : Nat) : Nat × Int × Nat :=
  let (lo, hi) := typeRange t
  (t, clampI lo hi v, flags ||| (if v < lo ∨ hi < v then pfSat else 0))

/-- An unpopulated position, and a reserved offset (R428, R429). -/
def ptNone : Nat × Int × Nat := (0, 0, pfUnconf)
def ptReserved : Nat × Int × Nat := (0, 0, pfReserved)

/-- An offset of a group that nothing populates: a reserved one reads as such there too (R429). -/
def ptAbsent (types : List Nat) (k : Nat) : Nat × Int × Nat := if types.getD k 0 = 0 then ptReserved else ptNone

/-- Offset `k` of a layout given by its types. -/
def ptOf (types : List Nat) (k : Nat) (v : Int) (flags : Nat) : Nat × Int × Nat :=
  match types[k]? with
  | some 0 | none => ptReserved
  | some t => pt t v flags

/- Cells and monitors (R171, R173, R208) -/

/-- The sense-wire state of a cell (Table 4.7). Where both of its taps are suspect or open, TAP and LOWER name the lower one: the model's
choice (log 68). A sum group of 16 cells shows 15, the most that its field holds: the model's choice (log 73). -/
def Mod.senseState (m : Mod) (n : Nat) (mc : MonCfg) (k : Nat) : Nat :=
  let taps := (m.mon n mc.addr).taps
  let lo := tget taps k
  let hi := tget taps (k + 1)
  let bad (t : TapSt) : Bool := t.suspect || t.openTap
  let lower := bad lo
  let tap := if lower then k else if bad hi then k + 1 else 0
  let grp := (((m.monGroups n mc).find? fun g => g.contains k).map (·.length)).getD 1
  (pack [(0, 1, b2n (lo.suspect || hi.suspect)), (1, 1, b2n (lo.openTap || hi.openTap)), (2, 1, b2n lower), (3, 1, b2n (bad lo && bad hi)),
    (4, 5, tap), (9, 4, if 2 ≤ grp then min 15 grp else 0), (13, 1, b2n (m.owPending n mc.addr k || m.owPending n mc.addr (k + 1))), (14, 1, b2n (lo.intermittent || hi.intermittent)),
    (15, 1, b2n (m.cell (gcell n mc.addr k)).deviation)]).toNat

/-- The flag of the SoC points of a string without either current (R187, log 57). -/
def Mod.socStale (m : Mod) (n : Nat) : Nat := if (m.strEst n).curLost then pfStale else 0

/-- Plane `k` of cell `g` (Table 11.6). The flags of a reading stand on the voltage and the temperature plane (log 40). -/
def Mod.cellPoint (m : Mod) (k g : Nat) : Nat × Int × Nat :=
  let n := g / 640
  let c := g % 16
  match m.monCfg? n (g % 640 / 16) with
  | none => ptNone
  | some mc =>
    if !mc.cellMask.getLsbD c then ptNone else
      let x := m.cell g
      let e := m.cellEst g
      let un := if (m.mon n mc.addr).unauth then pfUnauth else 0
      let sense := m.senseState n mc c
      let lost := m.socStale n
      match k with
      | 0 => pt 1 x.v ((if x.fresh then 0 else pfStale) ||| (if sense % 2 = 1 then pfSuspect else 0) ||| un)
      | 1 => pt 2 x.t ((if x.tStale then pfTempStale else 0) ||| un)
      | 2 => pt 1 x.balCmd 0
      | 3 => pt 1 x.balLeft 0
      | 4 => pt 1 sense 0
      | 5 => pt 1 (socI e.zr) lost
      | 6 => pt 1 (socI (m.uncOf g)) lost
      | 7 => pt 3 (e.zMag.getD (m.parN 0x4045) 0 : Nat) 0
      | _ => pt 3 (capMAh e.cap) 0

/-- Types of the monitor points (Table 4.10). -/
def monTypes : List Nat := [1, 1, 2, 7, 1, 1, 1, 1, 1, 1, 3, 3, 3, 3, 3, 1]

/-- Point `j` of a monitor position (Table 4.10). -/
def Mod.monPoint (m : Mod) (n a j : Nat) : Nat × Int × Nat :=
  match m.monCfg? n a with
  | none => ptNone
  | some mc =>
    let x := m.mon n a
    let st := maskOf (([x.enumPassed, x.authed, x.unauth, x.accel, x.fullTest, x.replaced, x.cfgLost, x.dieLimit, x.balMismatch].zipIdx.filter
      (·.1)).map (·.2))
    let v : Int := match j with
      | 0 => x.mstat.toNat
      | 1 => x.cmp.toNat
      | 2 => x.dieT
      | 3 => x.uid
      | 4 => ((x.mtype + 256 * x.cellsFitted : Nat) : Int)
      | 5 => x.fw
      | 6 => ((x.hopA + 256 * x.hopB : Nat) : Int)
      | 7 => if mc.compat then 0 else (x.skewA : Int)
      | 8 => if mc.compat then 0 else (x.skewB : Int)
      | 9 => st
      | 10 => x.lastFresh.toNat
      | 11 => x.noresp
      | 12 => ((x.portCrcA + 65536 * x.portCrcB : Nat) : Int)
      | 13 => x.owGrain.toNat
      | 14 => if mc.compat then 0 else (x.owOpen.toNat : Int)
      | _ => x.balMask.toNat
    if x.answered || x.spoke then ptOf monTypes j v (if x.silent then pfStale else 0) else ptOf monTypes j 0 pfStale

/- Converters and strings (Tables 5.5, 6.13 and 8.8) -/

/-- Types of the converter points: the link, and one phase. -/
def linkTypes : List Nat := [1, 1, 4, 4, 4, 4, 4, 3, 3, 2, 1, 1, 4, 4, 4, 4, 4, 3, 1, 1, 3, 3, 1, 1, 1, 3, 1]
def phaseTypes : List Nat := [1, 4, 4, 1, 1, 2, 1, 1, 1, 1, 3, 3]

/-- Point `o` of converter `n`. -/
def Mod.linkPoint (m : Mod) (n o : Nat) : Nat × Int × Nat :=
  match m.convDef? n with
  | none => if o < 40 then ptAbsent linkTypes o else ptAbsent phaseTypes ((o - 40) % 20)
  | some _ =>
    if o < 40 then ptOf linkTypes o (m.convPoint n o) 0
    else if (o - 40) / 20 < m.nPh n then ptOf phaseTypes ((o - 40) % 20) (m.convPoint n o) 0
    else ptAbsent phaseTypes ((o - 40) % 20)

/-- Types of the string estimation points. -/
def estTypes : List Nat := [1, 1, 1, 3, 1, 3, 1, 3, 1, 5, 5, 4, 4, 4, 4, 4, 4, 3, 1, 1, 3, 3, 1, 1]

/-- Types of the string protection points. -/
def protTypes : List Nat := [3, 1, 3, 1, 1, 1, 1, 3, 1, 3, 2, 3, 2, 3, 1, 3, 1, 1, 4, 3]

/-- The entry of a list with the highest value, the first of equals; (0, 0) of none. -/
def extreme (hi : Bool) (l : List (Nat × Int)) : Nat × Int :=
  match l with
  | [] => (0, 0)
  | x :: t => t.foldl (fun a y => if (if hi then a.2 < y.2 else y.2 < a.2) then y else a) x

/-- Point `o` of the protection group of string `n` (Table 8.8). -/
def Mod.protPoint (m : Mod) (n o : Nat) : Int :=
  let p := m.strProt n
  let pct (f : Rat) : Int := rnear (f * 10000)
  let vs : List (Nat × Int) := ((m.groupsOf n).filter fun g => g.length == 1 && m.grpFresh g).map fun g => (nth g 0, ((m.cell (nth g 0)).v : Int))
  let ts : List (Nat × Int) := (m.thermsOf n).map fun g => (g, m.protT n g)
  match o with
  | 0 => p.cause.toNat
  | 1 => p.lastCause
  | 2 => p.lastGrain.toNat
  | 3 => p.step
  | 4 => pct (m.disFactor n)
  | 5 => pct (m.chgFactor n)
  | 6 => (extreme true vs).2
  | 7 => (extreme true vs).1
  | 8 => (extreme false vs).2
  | 9 => (extreme false vs).1
  | 10 => (extreme true ts).2
  | 11 => (extreme true ts).1
  | 12 => (extreme false ts).2
  | 13 => (extreme false ts).1
  | 14 => (m.sensorsBad n : Nat)
  | 15 => ((p.sensorBadAge / 1000 : Nat) : Int)
  | 16 => m.contState n
  | 17 => (m.groupOf n).getD 0xFFFF
  | 18 => (m.strAdc n).ocPeak
  | 19 => p.trips
  | _ => 0

/- Safety (Table 9.22) -/

/-- A safety point by its place in the group: a current has the type of Table 0.3 (R7); no other states a type, and is a u32. -/
def Mod.safePoint (m : Mod) (k : Nat) : Nat × Int × Nat :=
  let w (l : List Nat) (j : Nat) : Nat × Int × Nat := match l[j]? with | some v => pt 3 v 0 | none => ptReserved
  let s := m.safety
  let cl (g : Bool) (j : Nat) : Nat × Int × Nat :=
    let c := m.cloche g
    w ([(m.clocheStat g).toNat, c.txSeq, c.rxSeq] ++ ((List.range 7).map (m.consumed g)) ++ [c.echoMax, c.wdogs]) j
  if k < 128 then
    let x := m.si (k / 8)
    w [(m.siStat (k / 8)).toNat, x.discCnt.toNat, x.demandGrain.toNat, x.faultGrain.toNat, x.demands] (k % 8)
  else if k < 160 then
    let i := (k - 128) / 8
    let x := m.oi i
    w [(m.oiStat i).toNat, x.short, x.demandGrain.toNat, x.faultGrain.toNat, x.demands] (k % 8)
  else if k < 224 then
    let g := (k - 160) / 8
    let o := m.sq g
    if k % 8 = 2 then pt 4 o.current 0
    else w [(m.sqStat g).toNat, o.vField, o.current, o.passed, o.failed, o.faultGrain.toNat, o.switchings] (k % 8)
  else if k < 256 then
    w [m.safeStat.toNat, s.cfgCrc.toNat, m.fallowStat.toNat, m.fallowStr.toNat, m.fallowExpired.toNat, s.bpCount, s.resets] (k - 224)
  else cl (decide (272 ≤ k)) (k % 16)

/- CAN and ADC (R495, Table 14.6) -/

/-- Types of the CAN object and port points. -/
def canObjTypes : List Nat := [1, 3, 1, 1, 3, 3, 3, 3, 1] ++ List.replicate 16 3
def canPortTypes : List Nat := [3, 3, 3, 3, 3, 3, 3, 3, 3, 3, 1, 1, 3]

/-- Types of the ADC points: a string channel, an analogue input, a pulse input, converter C. -/
def adcStrTypes : List Nat := [4, 4, 4, 4, 1, 1, 1, 4, 4, 3, 4, 4, 4, 3]
def aiTypes : List Nat := [4, 4, 4, 4, 1, 1]
def piTypes : List Nat := [3, 3, 3, 3, 1, 1, 3, 3]
def boardTypes : List Nat := [4, 4, 4, 4, 4, 4, 4, 4, 2, 3, 3, 3]

/-- A point of the ADC group; an over-range current or input value carries SAT. -/
def Mod.adcPoint (m : Mod) (k : Nat) : Nat × Int × Nat :=
  let sat (b : Bool) (j : Nat) : Nat := if b && decide (j < 4) then pfSat else 0
  if k < 768 then ptOf adcStrTypes (k % 24) (m.adcStrPoint (k / 24) (k % 24)) (sat (m.strAdc (k / 24)).sat (k % 24))
  else if k < 896 then
    let a := (k - 768) / 32
    ptOf aiTypes (k % 32) (m.aiPoint a (k % 32)) (sat (m.ai a).sat (k % 32))
  else if k < 960 then ptOf piTypes (k % 32) (m.piPoint ((k - 896) / 32) (k % 32)) 0
  else ptOf boardTypes (k - 960) (m.boardPoint (k - 960)) 0

/-- TYPE, VALUE and PFLAGS of an index of the directory (R428, R429). -/
def Mod.pointAt (m : Mod) (idx : Nat) : Nat × Int × Nat :=
  let str (base : Nat) (types : List Nat) (f : Nat → Nat → Int) (flags : Nat → Nat → Nat) : Nat × Int × Nat :=
    let k := idx - base
    if m.configured (k / 32) then ptOf types (k % 32) (f (k / 32) (k % 32)) (flags (k / 32) (k % 32)) else ptAbsent types (k % 32)
  if idx < 0x2D000 then m.cellPoint (idx / 20480) (idx % 20480)
  else if idx < 0x32000 then
    let k := idx - 0x2D000
    m.monPoint (k / 640) (k % 640 / 16) (k % 16)
  else if idx < 0x33400 then m.linkPoint ((idx - 0x32000) / 160) ((idx - 0x32000) % 160)
  else if idx < 0x33800 then str 0x33400 estTypes m.strEstPoint fun n o => if isSocPoint o then m.socStale n else 0
  else if idx < 0x33C00 then str 0x33800 protTypes m.protPoint fun _ _ => 0
  else if idx < 0x34000 then m.safePoint (idx - 0x33C00)
  else if idx < 0x3C000 then
    let k := idx - 0x34000
    ptOf canObjTypes (k % 32) (m.canObjPoint (k / 8192) (k % 8192 / 32) (k % 32)) 0
  else if idx < 0x3C400 then ptOf canPortTypes ((idx - 0x3C000) % 64) (m.canPortPoint ((idx - 0x3C000) / 64) ((idx - 0x3C000) % 64)) 0
  else if idx < 0x3C800 then m.adcPoint (idx - 0x3C400)
  else
    let (t, v) := m.housePoint (idx - 0x3C800)
    if t = 0 then ptReserved else pt t v 0

end Sys2Proof.Machine
end

