-- ==== Sys2Proof/Machine/Tlvs.lean ====
section
/-! DEFINITION. The opcodes of the host interface and of the Rovisa port with their roles, and the structure of their payloads
(R411, R419, R423, R426, Tables 11.3, 11.4, 15.6, 16.11, 16.12 and 17.2). -/

namespace Sys2Proof.Machine

/-- The length of a TLV's value is right for its type (Tables 11.3, 15.6, 16.12, 17.2); none for an unknown type. -/
def tlvLenOk (type n : Nat) : Option Bool :=
  let is (k : Nat) : Option Bool := some (decide (n = k))
  match type with
  | 0x0001 => is 2
  | 0x0002 => is 16
  | 0x0004 => is 4
  | 0x0010 => some (decide (n % 4 = 0 ∧ 4 ≤ n ∧ n ≤ 2560))
  | 0x0011 => is 8
  | 0x0013 => some (decide (8 ≤ n ∧ n % 8 = 0))
  | 0x0014 => is 2
  | 0x0020 => some (decide (n % 2 = 0 ∧ 2 ≤ n ∧ n ≤ 1280))
  | 0x0021 => some (decide (n % 12 = 0 ∧ 12 ≤ n ∧ n ≤ 768))
  | 0x0022 => is 8
  | 0x0023 => some (decide (n % 4 = 0))
  | 0x0030 => is 8
  | 0x0031 => some true
  | 0x0032 => is 8
  | 0x0040 => is 4
  | 0x0041 => is 4
  | 0x0042 => is 4
  | 0x0043 => is 8
  | 0x0044 => is 4
  | 0x0048 => is 4
  | 0x0050 => is 4
  | 0x0051 => is 20
  | 0x0052 => is 8
  | 0x0053 => is 8
  | 0x0060 => is 4
  | 0x0061 => is 1
  | 0x0070 => is 12
  | 0x0072 => is 4
  | 0x0090 => is 16
  | 0x0091 => is 16
  | 0x0093 => is 4
  | 0x00A0 => is 68
  | 0x00A1 => is 4
  | 0x00A2 => is 4
  | 0x0100 => is 4
  | 0x0101 => is 4104
  | 0x0103 => is 2016
  | 0x0104 => is 4
  | 0x0105 => is 40
  | 0x0106 => is 8
  | _ => none

/-- How a standby of a pair answers (Table 11.4). -/
inductive StandbyRule where
  | yes | state | fwd
deriving DecidableEq, Repr, Inhabited

/-- An opcode: least role (0 for PARAM_WRITE, whose roles R436 gives for each entry), standby rule, mandatory TLVs, TLVs of which exactly one is present, optional TLVs, and whether it
is served while parked (R562). -/
structure OpRow where
  op : Nat := 0
  role : Nat := 0
  rule : StandbyRule := .yes
  mand : List Nat := []
  oneOf : List Nat := []
  opt : List Nat := []
  parked : Bool := false
deriving DecidableEq, Repr, Inhabited

/-- The opcodes of the host interface (Tables 11.4 and 16.11). -/
def hostOps : List OpRow :=
  [⟨0x0002, 0, .yes, [], [], [], true⟩, ⟨0x0003, 0, .yes, [], [], [], true⟩, ⟨0x0004, 0, .yes, [0x0004], [], [], true⟩,
   ⟨0x0101, 0, .yes, [], [0x0010, 0x0011], [], true⟩, ⟨0x0102, 0, .yes, [0x0013], [], [], false⟩, ⟨0x0103, 0, .yes, [0x0014], [], [], false⟩,
   ⟨0x0110, 0, .yes, [0x0020], [], [], true⟩, ⟨0x0111, 0, .state, [0x0021], [], [], true⟩,
   ⟨0x0120, 0, .yes, [0x0022], [], [], true⟩, ⟨0x0121, 2, .state, [0x0022, 0x0023], [], [], false⟩,
   ⟨0x0130, 0, .yes, [0x0030], [], [], false⟩, ⟨0x0131, 1, .yes, [0x0030, 0x0031], [], [], false⟩,
   ⟨0x0140, 1, .yes, [0x0070], [], [], false⟩, ⟨0x0141, 0, .yes, [], [], [], false⟩, ⟨0x0142, 0, .yes, [0x0072], [], [], false⟩,
   ⟨0x0150, 0, .yes, [0x0043, 0x0032], [], [], false⟩, ⟨0x0151, 2, .state, [0x0030], [], [], false⟩,
   ⟨0x0152, 2, .state, [], [0x0040, 0x0042, 0x0041], [], false⟩,
   ⟨0x0160, 0, .yes, [0x0032], [0x0090, 0x0091], [], true⟩, ⟨0x0161, 3, .state, [], [], [0x0093], false⟩] ++
  [⟨0x0201, 1, .state, [], [], [], false⟩, ⟨0x0202, 1, .state, [], [], [], false⟩, ⟨0x0203, 1, .state, [], [], [], false⟩,
   ⟨0x0204, 2, .state, [], [], [], false⟩, ⟨0x0210, 1, .state, [0x0050], [], [], false⟩, ⟨0x0211, 1, .state, [0x0051], [], [], false⟩,
   ⟨0x0212, 1, .state, [0x0052], [], [], false⟩, ⟨0x0213, 0, .fwd, [], [], [], false⟩, ⟨0x0214, 1, .state, [], [], [], false⟩,
   ⟨0x0215, 0, .fwd, [0x0040], [], [], false⟩, ⟨0x0216, 1, .state, [0x0053], [], [], false⟩,
   ⟨0x0301, 2, .state, [0x0030], [], [], false⟩, ⟨0x0302, 2, .state, [0x0060], [], [], false⟩, ⟨0x0303, 2, .state, [], [], [], false⟩] ++
  [⟨0x0401, 2, .state, [0x0040, 0x0048], [], [], false⟩, ⟨0x0402, 2, .state, [0x0040], [], [], false⟩, ⟨0x0403, 2, .state, [0x0042], [], [], false⟩,
   ⟨0x0404, 2, .state, [], [], [], false⟩, ⟨0x0405, 2, .state, [0x0040], [], [], false⟩, ⟨0x0406, 2, .state, [0x0044], [], [], false⟩,
   ⟨0x0407, 2, .state, [0x0040], [], [], false⟩, ⟨0x0410, 2, .yes, [], [], [], false⟩, ⟨0x0411, 2, .yes, [0x0040], [], [], false⟩,
   ⟨0x0412, 2, .yes, [0x0040], [], [], false⟩, ⟨0x0413, 2, .yes, [0x0040], [], [], false⟩, ⟨0x0414, 2, .yes, [], [], [], false⟩,
   ⟨0x0415, 2, .yes, [], [], [], false⟩, ⟨0x0501, 2, .yes, [0x0061], [], [], true⟩, ⟨0x0502, 2, .state, [], [], [], false⟩] ++
  [⟨0x0701, 3, .state, [0x00A0], [], [], true⟩, ⟨0x0702, 3, .yes, [0x00A1], [], [0x0093], true⟩, ⟨0x0703, 3, .state, [], [], [0x0093], true⟩,
   ⟨0x0704, 3, .state, [], [], [0x0093], true⟩, ⟨0x0705, 3, .state, [], [], [0x0093], true⟩, ⟨0x0706, 3, .yes, [0x00A2], [], [], true⟩,
   ⟨0x0707, 3, .yes, [], [], [], true⟩]

/-- The opcodes of the Rovisa port but RV_OPEN (Table 17.2). -/
def rovisaOps : List OpRow :=
  [⟨0x0002, 0, .yes, [], [], [], false⟩, ⟨0x0003, 0, .yes, [], [], [], false⟩, ⟨0x0010, 2, .yes, [0x0100], [], [], false⟩,
   ⟨0x0011, 2, .yes, [0x0101], [], [], false⟩, ⟨0x0012, 2, .yes, [], [], [], false⟩, ⟨0x0013, 0, .yes, [], [], [], false⟩,
   ⟨0x0014, 2, .yes, [], [], [], false⟩, ⟨0x0015, 2, .yes, [], [], [], false⟩, ⟨0x0016, 2, .yes, [], [], [], false⟩,
   ⟨0x0017, 2, .yes, [], [], [], false⟩, ⟨0x0020, 3, .yes, [0x0103], [], [], false⟩, ⟨0x0021, 3, .yes, [0x0104], [], [], false⟩,
   ⟨0x0030, 3, .yes, [0x0105], [], [], false⟩, ⟨0x0040, 0, .yes, [], [], [], false⟩, ⟨0x0041, 2, .yes, [0x0106], [], [], false⟩,
   ⟨0x0050, 0, .yes, [0x0022], [], [], false⟩, ⟨0x0051, 2, .yes, [0x0022, 0x0023], [], [], false⟩, ⟨0x0060, 2, .yes, [], [], [], false⟩,
   ⟨0x0061, 2, .yes, [], [], [], false⟩, ⟨0x0070, 2, .yes, [0x0061], [], [], false⟩]

/-- The row of an opcode. -/
def opRow (l : List OpRow) (op : Nat) : Option OpRow := l.find? fun r => r.op == op

/-- The value of a TLV. -/
def tlv? (l : List Tlv) (type : Nat) : Option (List Byte) := (l.find? fun t => t.type == type).map (·.value)

/-- The value of a TLV that is present. -/
def tlvVal (l : List Tlv) (type : Nat) : List Byte := (tlv? l type).getD []

/-- The structure check of R419 step 4: the type at fault, or none; of a malformed payload the last TLV split off is at fault. -/
def tlvFault (r : OpRow) (malformed : Bool) (l : List Tlv) : Option Nat :=
  let known := r.mand ++ r.oneOf ++ r.opt
  let types := l.map (·.type)
  if malformed then some (((l.getLast?).map (·.type)).getD 0)
  else match l.find? fun t =>
      decide (t.type < 0x8000) && (!known.contains t.type || tlvLenOk t.type t.value.length != some true
        || (t.type != 0x0004 && decide (1 < (types.filter (· == t.type)).length))) with
    | some t => some t.type
    | none =>
      match r.mand.find? fun x => !types.contains x with
      | some x => some x
      | none =>
        let n := (r.oneOf.filter types.contains).length
        if r.oneOf.isEmpty || n == 1 then none else some (r.oneOf.headD 0)

/-- Splits a payload into TLVs, and says whether one runs past the payload or its padding is not zero (R411, R419 step 4):
that one is then the last of the list, and nothing behind it is read. -/
def splitTlvs : Nat → List Byte → List Tlv × Bool
  | _, [] => ([], false)
  | 0, _ => ([], true)
  | fuel + 1, bs =>
    let len := rdN bs 2 2
    let pad := (4 - len % 4) % 4
    let t : Tlv := ⟨rdN bs 0 2, (bs.drop 4).take len⟩
    if decide (bs.length < 4 + len + pad) || ((bs.drop (4 + len)).take pad).any (· != 0) then ([t], true)
    else
      let r := splitTlvs fuel (bs.drop (4 + len + pad))
      (t :: r.1, r.2)

/-- What a request is answered: status, TLVs, GRAIN; `held` where the reply is not sent now (R420), and what
follows the reply: 1 a warm restart, 2 a module restart, 3 a module restart for PARK, 4 a factory restore's, 5 a security erase,
6 the session closes. -/
structure Ans where
  status : Nat := 0
  tlvs : List Tlv := []
  grain : Nat := 0
  held : Bool := false
  after : Nat := 0
deriving DecidableEq, Repr, Inhabited

/-- A bare status. -/
def ans (st : Nat) : Ans := { status := st }

end Sys2Proof.Machine
end

