-- ==== Sys2Proof/Machine/Host.lean ====
section
/-! DEFINITION. The host command interface (spec file 11_host_commands.md) with the security opcodes of Table 16.11: what each
opcode does and answers once its session, role and payload have been checked. -/

namespace Sys2Proof.Machine

/-- What every opcode sees: the session as it stood, the request, and the newest complete directory copy (R18). -/
structure Req where
  s : Session := {}
  op : Nat := 0
  rq : HostReq := {}
  dir : Option (W32 × Mod) := none
deriving Inhabited

def Req.val (r : Req) (type : Nat) : List Byte := tlvVal r.rq.tlvs type
def Req.num (r : Req) (type off k : Nat) : Nat := rdN (r.val type) off k
def Req.mask (r : Req) : Nat := r.num 0x0040 0 4
def Req.origin (r : Req) : Origin := ⟨r.rq.session, r.op, r.rq.seq.toNat⟩

/-- The effective grain of a command accepted now (R258). -/
def Mod.effGrain (m : Mod) : Nat := (m.plan.grainCnt + 1).toNat

/-- A command that acts answers OK or PENDING with its effective grain. -/
def Mod.acted (m : Mod) (st : Nat) (tlvs : List Tlv := []) : Mod × Ans :=
  (m, { status := st, tlvs := tlvs, grain := if st ≤ 1 then m.effGrain else 0 })

/-- The result of a command with a status. -/
def actSt (r : Mod × Nat) : Mod × Ans := r.1.acted r.2

/-- A refusal that names a field (R419). -/
def refuse (m : Mod) (st type off item : Nat) : Mod × Ans := (m, { status := st, tlvs := [detail type off item] })

/- Sessions and notices -/

/-- NOTICE_ACK (R422). -/
def hNoticeAck (r : Req) (m : Mod) : Mod × Ans :=
  let seqs := (r.rq.tlvs.filter fun t => t.type == 0x0004).map fun t => rdN t.value 0 4
  if seqs.all fun q => r.s.notices.any fun n => n.seq == q then
    (m.onSession r.rq.session fun s => { s with notices := s.notices.filter fun n => !seqs.contains n.seq }, ans 0)
  else (m, ans 0x8A03)

/- Points and streams (R428-R433) -/

/-- A point entry (Table 11.7). -/
def pointEntry (m : Mod) (idx : Nat) : List Byte :=
  let (t, v, f) := m.pointAt idx
  leI 8 v ++ leN 2 f ++ u8 t ++ [0]

/-- An entry beyond the group of a range: TYPE 0, UNCONFIGURED (R430). -/
def blankEntry : List Byte := leI 8 0 ++ leN 2 0x10 ++ [0, 0]

/-- The points of a copy; while parked, housekeeping alone (R562). -/
def pointOf (parked : Bool) (src : Mod) (idx : Nat) : List Byte :=
  if parked && decide (idx < 0x3C800) then blankEntry else pointEntry src idx

/-- POINT_READ (R430, R562). -/
def hPointRead (r : Req) (m : Mod) : Mod × Ans :=
  let parked := decide (m.power.state = .parked)
  let src : Option (W32 × Mod) := if parked then some (0, m) else r.dir
  let answer (g : W32) (l : List (List Byte)) : Mod × Ans :=
    (m, { tlvs := [⟨0x0012, leN 4 g.toNat ++ leN 4 l.length ++ l.flatten⟩], grain := g.toNat })
  match tlv? r.rq.tlvs 0x0011 with
  | some v =>
    let start := rdN v 0 4
    let count := rdN v 4 4
    if count = 0 then refuse m 0x800A 0x0011 4 0
    else if 640 < count then refuse m 0x8005 0x0011 4 0
    else match pointGroup start with
      | none => refuse m 0x8005 0x0011 0 start
      | some (base, n) =>
        match src with
        | none => (m, ans 0x8007)
        | some (g, d) => answer g ((List.range count).map fun k =>
            if start + k < base + n then pointOf parked d (start + k) else blankEntry)
  | none =>
    let v := r.val 0x0010
    let ids := (List.range (v.length / 4)).map fun k => rdN v (4 * k) 4
    match (List.range ids.length).find? fun k => (pointGroup (ids.getD k 0)).isNone with
    | some k => refuse m 0x8005 0x0010 (4 * k) (ids.getD k 0)
    | none => match src with
      | none => (m, ans 0x8007)
      | some (g, d) => answer g (ids.map (pointOf parked d))

/-- Points of a stream, and its load on a network, bit/s (R433). -/
def Stream.points (x : Stream) : Nat := (x.ranges.map (·.2)).sum
def Stream.load (x : Stream) : Rat := (96000 * x.points : Nat) / (x.period : Rat)

/-- A stream identifier not in use, from the next on. -/
def Mod.streamId (m : Mod) : Nat :=
  ((List.range 33).map fun k => (m.host.nextStream + k - 1) % 65535 + 1).find? (fun i => !m.host.streams.any fun x => x.id == i) |>.getD 1

/-- STREAM_OPEN (R431, R433). -/
def hStreamOpen (r : Req) (m : Mod) : Mod × Ans :=
  let v := r.val 0x0013
  let n := rdN v 5 1
  let ranges := (List.range n).map fun k => (rdN v (8 + 8 * k) 4, rdN v (12 + 8 * k) 4)
  let bad := (List.range n).find? fun k =>
    let (a, c) := ranges.getD k (0, 0)
    decide (c = 0) || decide (65536 < c) || (pointGroup a).isNone
  let badAt (k : Nat) : Nat := if (pointGroup (ranges.getD k (0, 0)).1).isNone then 8 + 8 * k else 12 + 8 * k
  if v.length ≠ 8 + 8 * n then refuse m 0x8001 0x0013 5 0
  else if rdN v 0 2 = 0 then refuse m 0x800A 0x0013 0 0
  else if 60000 < rdN v 0 2 then refuse m 0x8005 0x0013 0 0
  else if rdN v 4 1 = 0 then refuse m 0x800A 0x0013 4 0
  else if 3 < rdN v 4 1 then refuse m 0x8005 0x0013 4 0
  else if n = 0 ∨ 16 < n then refuse m 0x8005 0x0013 5 0
  else match bad with
    | some k => refuse m 0x8005 0x0013 (badAt k) (ranges.getD k (0, 0)).1
    | none =>
      let x : Stream := { id := m.streamId, sid := r.rq.session, period := rdN v 0 2, port := if rdN v 2 2 = 0 then r.rq.port else rdN v 2 2
                          addr := r.rq.addr, nets := BitVec.ofNat 2 (rdN v 4 1), ranges := ranges }
      let budget : Rat := (1000000 * m.parN 0xA0C5 : Nat)
      let loadOn (b : Nat) : Rat := rsum ((m.host.streams.filter fun y => y.nets.getLsbD b).map Stream.load)
      let exceeds := (List.range 2).any fun b => x.nets.getLsbD b && decide (budget < loadOn b + x.load)
      if 65536 < x.points then refuse m 0x8005 0x0013 8 0
      else if decide (8 ≤ (m.host.streams.filter fun y => y.sid == r.rq.session).length) || decide (32 ≤ m.host.streams.length) || exceeds then
        (m, ans 0x8A02)
      else
        (m.onHost fun h => { h with streams := h.streams ++ [x], nextStream := x.id % 65535 + 1 }, { tlvs := [⟨0x0014, leN 2 x.id⟩] })

/-- STREAM_CLOSE (R431): a stream of the session. -/
def hStreamClose (r : Req) (m : Mod) : Mod × Ans :=
  let id := r.num 0x0014 0 2
  if m.host.streams.any fun x => x.id == id && x.sid == r.rq.session then
    (m.onHost fun h => { h with streams := h.streams.filter fun x => x.id != id }, ans 0)
  else refuse m 0x8005 0x0014 0 id

/- Parameters (R435-R439, R633) -/

/-- The value of a parameter of group 0 (Table 17.8). -/
def Mod.identValue (m : Mod) (j : Nat) : Int :=
  let u := m.upd
  let h := u.running
  let slot (s : FwSlot) (k : Nat) : Nat :=
    match k with
    | 0 => s.st.ctorIdx
    | 1 => s.generation
    | 2 => s.tries
    | 3 => s.hdr.svn
    | 4 => s.hdr.supVersion.toNat
    | 5 => s.hdr.fabVersion.toNat
    | 6 => s.hdr.safVersion.toNat
    | 7 => s.blocks.length
    | 8 => ((List.range s.blockCount).find? fun i => s.blocks.all fun e => e.1 != i).getD s.blockCount
    | 9 => s.refusal
    | _ => 0
  let n : Nat :=
    match j with
    | 0x00 => 0x3206
    | 0x01 => u.serial
    | 0x02 => u.hwRevision
    | 0x03 => u.mfgDate
    | 0x04 => u.otpCrc.toNat
    | 0x10 => h.supVersion.toNat
    | 0x11 => if m.plan.mode = .admitted ∨ m.plan.mode = .restarting then m.plan.running.libVersion.toNat else 0
    | 0x12 => m.plan.lib.costVersion.toNat
    | 0x13 => h.fabVersion.toNat
    | 0x14 => h.safVersion.toNat
    | 0x15 => h.graftProto
    | 0x16 => h.graftMin
    | 0x17 => h.graftMax
    | 0x18 => b2n u.runB
    | 0x19 => h.svn
    | 0x1A => u.minSvn
    | 0x1B => u.keyRevoked.toNat
    | 0x50 => u.otpKeys.toNat
    | 0x51 => u.fusesLeft
    | 0x52 => b2n u.otpGood
    | _ =>
      if 0x1C ≤ j ∧ j < 0x20 then (h.libSupported.getD (j - 0x1C) 0).toNat
      else if 0x20 ≤ j ∧ j < 0x24 then (h.costSupported.getD (j - 0x20) 0).toNat
      else if 0x30 ≤ j ∧ j < 0x3A then slot u.slotA (j - 0x30)
      else if 0x40 ≤ j ∧ j < 0x4A then slot u.slotB (j - 0x40)
      else 0
  n

/-- An entry of PARAM_VALUES. -/
def Mod.paramEntry (m : Mod) (id : Nat) : List Byte :=
  leN 2 id ++ u8 (paramType id) ++ [0] ++ leI 8 (if id / 0x1000 = 0 then m.identValue id else m.parAcc id)

/-- PARAM_READ. -/
def hParamRead (r : Req) (m : Mod) : Mod × Ans :=
  let v := r.val 0x0020
  let ids := (List.range (v.length / 2)).map fun k => rdN v (2 * k) 2
  match (List.range ids.length).find? fun k => (paramRow (ids.getD k 0)).isNone with
  | some k => refuse m 0x8005 0x0020 (2 * k) (ids.getD k 0)
  | none => (m, { tlvs := [⟨0x0021, ids.flatMap m.paramEntry⟩] })

/-- The parameters only the lease owner may write (Table 7.7). -/
def ownerParam (id : Nat) : Bool := id == 0x6002 || id == 0x6003 || id == 0x6014

/-- The write right of an entry under step 2 of R419: the role (R436, R463). An owner parameter is judged under step 5 alone. -/
def paramRoleOk (role id : Nat) : Bool :=
  if id / 0x1000 = 0 || id / 0x1000 = 8 then false
  else if id / 0x1000 = 0xE then decide (3 ≤ role)
  else ownerParam id || decide (2 ≤ role)

/-- The value an 8-byte field spells in a TYPE; none where the bits above the width are not its extension. -/
def paramValue (type : Nat) (bs : List Byte) : Option Int :=
  let n := rdN bs 0 8
  match type with
  | 1 => if n < 2 ^ 16 then some n else none
  | 2 => let v := sgn 64 n; if -(2 ^ 15) ≤ v ∧ v < 2 ^ 15 then some v else none
  | 4 => let v := sgn 64 n; if -(2 ^ 31) ≤ v ∧ v < 2 ^ 31 then some v else none
  | 5 => some (sgn 64 n)
  | 7 => some n
  | _ => if n < 2 ^ 32 then some n else none

/-- The cross rules among the values as they would stand (R435, R200, R220, R323, R439): those that a parameter takes part in. -/
def crossOk (get : Nat → Int) (id : Nat) : Bool :=
  if 0x6020 ≤ id ∧ id ≤ 0x6022 then decide (get 0x6020 < get 0x6021 ∧ get 0x6021 < get 0x6022)
  else if id = 0x5010 ∨ id = 0x5011 then decide (get 0x5010 < get 0x5011)
  else if id = 0x5020 ∨ id = 0x5021 then decide (get 0x5020 < get 0x5021)
  else if id = 0x4064 ∨ id = 0x4065 then decide (get 0x4064 ≤ get 0x4065)
  else if id = 0x406B ∨ id = 0x406C then decide (get 0x406B < get 0x406C)
  else if id = 0xA0D3 ∨ id = 0xA0D5 then decide (get 0xA0D5 ≤ get 0xA0D3)
  else if id = 0x7014 ∨ id = 0x7015 then decide (get 0x7014 < get 0x7015)
  else if 0xF000 ≤ id ∧ (id % 8 = 1 ∨ id % 8 = 2) then
    let w := id - id % 8
    decide (get (w + 1) = 3 → 0 ≤ get (w + 2) ∧ get (w + 2) ≤ 15)
  else if 0x4040 ≤ id ∧ id ≤ 0x4043 then decide (get 0x4040 + get 0x4041 + get 0x4042 + get 0x4043 ≤ 100)
  else true

/-- The range of the set-point parameters bounded by P_RATED_MOD (Table 7.7). -/
def Mod.powerBound (m : Mod) (id : Nat) (v : Int) : Bool :=
  !(id == 0x6009 || id == 0x600A || id == 0x6014) || decide (((v.natAbs : Nat) : Rat) ≤ m.pMod)

/-- A 12-byte entry: ID, TYPE and the eight bytes of VALUE. -/
def paramEntries (v : List Byte) : List (Nat × Nat × List Byte) :=
  (List.range (v.length / 12)).map fun k => (rdN v (12 * k) 2, rdN v (12 * k + 2) 1, (v.drop (12 * k + 4)).take 8)

/-- The value of one entry, or the refusal: status and offset within the entry (R419 step 6, R435). -/
def Mod.paramJudge (m : Mod) (e : Nat × Nat × List Byte) : Except (Nat × Nat) Int :=
  let (id, ty, bs) := e
  if (paramRow id).isNone then .error (0x8005, 0)
  else if ty ≠ paramType id then .error (0x8005, 2)
  else match paramValue ty bs with
    | none => .error (0x8005, 4)
    | some v =>
      if zeroRefused id v then .error (0x800A, 4)
      else if !paramInRange id v || !m.powerBound id v then .error (0x8005, 4)
      else .ok v

/-- The refusal of the first entry at fault: status, index and offset. -/
def Mod.paramFault (m : Mod) (es : List (Nat × Nat × List Byte)) : Option (Nat × Nat × Nat) :=
  (List.range es.length).findSome? fun k => match m.paramJudge (es.getD k default) with
    | .error (st, off) => some (st, k, off)
    | .ok _ => none

/-- The values of the entries, once each is good. -/
def Mod.paramVals (m : Mod) (es : List (Nat × Nat × List Byte)) : List (Nat × Int) :=
  es.filterMap fun e => match m.paramJudge e with | .ok v => some (e.1, v) | .error _ => none

/-- The rules that relate a written value to others or to the module's state: status and entry of the first that fails. -/
def Mod.paramCross (m : Mod) (vals : List (Nat × Int)) : Option (Nat × Nat) :=
  let get (id : Nat) : Int := match vals.reverse.find? fun e => e.1 == id with | some e => e.2 | none => m.parAcc id
  let listed := m.host.params.map (·.1) ++ vals.map (·.1)
  (List.range vals.length).reverse.findSome? fun k =>
    let (id, v) := vals.getD k (0, 0)
    if !crossOk get id then some (0x8005, k)
    else
      let st := m.canRefuse get listed id
      let st := if st = 0 then m.adcRefuse id v else st
      if st = 0 then none else some (st, k)

/-- A credential has changed (R415): the sessions opened under it, of a network or of the port, are told at their next request. -/
def Mod.credChanged (m : Mod) (c : Nat) : Mod :=
  let lost (s : Session) : Session := if s.cred = c then { s with authLost := true } else s
  (m.onHost fun h => { h with sessions := h.sessions.map lost }).onUpd fun u => { u with session := u.session.map fun x => { x with s := lost x.s } }

/-- HVAC_PORT changes: the objects it frees at its old port become disabled and keep nothing (R491). -/
def Mod.freeReserved (m : Mod) (port : Int) : Mod :=
  if port < 0 ∨ 3 < port then m else m.each (List.range 24) fun m k => m.setPar (canO port.toNat 248 k) 0

/-- Writes accepted values: each takes effect with the next snapshot (R19); a credential change is told to its sessions (R415);
TIME_FORCE_STEP arms the step (R463). The active module of a pair passes them to its standby (R405). -/
def Mod.writeParams (m : Mod) (vals : List (Nat × Int)) : Mod :=
  let m := m.each vals fun m e =>
    if e.1 = 0xA0E4 then (m.setPar e.1 e.2).onTime fun t => { t with forcePend := true }
    else
      let changed := decide (m.parAcc e.1 ≠ e.2)
      let m := if e.1 = 0x7010 && changed then m.freeReserved (m.parAcc e.1) else m
      let m := m.setPar e.1 e.2
      if e.1 / 0x1000 = 0xE && changed then m.credChanged (e.1 % 0x1000 / 8) else m
  let m := m.capture fun r => { r with params := r.params ++ vals }
  if vals.all fun e => classW e.1 then m else m.cfgWrite

/-- The roles of a request: those of its row, and for PARAM_WRITE those of its entries (R419 step 2, R436). -/
def roleOk (row : OpRow) (role : Nat) (l : List Tlv) : Bool :=
  decide (row.role ≤ role) && (row.op != 0x0111 || (paramEntries (tlvVal l 0x0021)).all fun e => paramRoleOk role e.1)

/-- The refusal of a role, which for PARAM_WRITE names the first entry at fault (R435, R436). -/
def roleRefused (r : Req) (m : Mod) : Mod × Ans :=
  let es := paramEntries (r.val 0x0021)
  match (List.range es.length).find? fun k => r.op == 0x0111 && !paramRoleOk r.s.role (es.getD k default).1 with
  | some k => refuse m 0x800C 0x0021 (12 * k) (es.getD k default).1
  | none => (m, ans 0x800C)

/-- An entry that the lease owner of operator role or above alone may write, or a steward only as owner (R436, R463). -/
def Mod.notOwner (m : Mod) (r : Req) (id : Nat) : Bool :=
  (ownerParam id || (id == 0xA0E4 && decide (r.s.role < 3))) && !(m.ownsNow r.rq.session && decide (1 ≤ r.s.role))

/-- PARAM_WRITE (R435, R436, R463): ownership, then values, then the rules across parameters. -/
def hParamWrite (r : Req) (m : Mod) : Mod × Ans :=
  let es := paramEntries (r.val 0x0021)
  match (List.range es.length).find? fun k => m.notOwner r (es.getD k default).1 with
  | some k => refuse m 0x8003 0x0021 (12 * k) (es.getD k default).1
  | none =>
    match m.paramFault es with
    | some (st, k, off) => refuse m st 0x0021 (12 * k + off) (es.getD k default).1
    | none =>
      let vals := m.paramVals es
      match m.paramCross vals with
      | some (st, k) => refuse m st 0x0021 (12 * k + 4) (vals.getD k (0, 0)).1
      | none => (m.writeParams vals).acted 0

/- Diagnostic window (R441) -/

/-- DIAG_READ: registers in ascending order, each with what its read latches. -/
def Mod.diagReads : List Nat → Mod → List W32 × Mod
  | [], m => ([], m)
  | off :: l, m =>
    let (v, m) := Mod.diagRead off m
    let (vs, m) := Mod.diagReads l m
    (v :: vs, m)

/-- The field check of DIAG_RANGE in the order of R441: status and offset. -/
def diagRange (off count top : Nat) : Option (Nat × Nat) :=
  if off % 4 ≠ 0 ∨ 0x10000 < off then some (0x8005, 0)
  else if 0x10000 < off + 4 * count then some (0x8005, 4)
  else if count = 0 then some (0x800A, 4)
  else if top < count then some (0x8005, 4)
  else none

/-- A register as the command interface reaches it: the cursor window is not served there, so that its registers read 0 and take no write,
as the reserved 0x1D4C does (R535). -/
def hostOff (off : Nat) : Nat := if 0x1D40 ≤ off ∧ off < 0x2180 then 0x1D4C else off

/-- The register at an offset as the request reaches it, through the command interface or the Rovisa port. -/
def Req.diagOff (r : Req) (off : Nat) : Nat := if r.op = 0x0120 ∨ r.op = 0x0121 then hostOff off else off

def hDiagRead (r : Req) (m : Mod) : Mod × Ans :=
  let off := r.num 0x0022 0 4
  let count := r.num 0x0022 4 4
  match diagRange off count 1024 with
  | some (st, o) => refuse m st 0x0022 o off
  | none =>
    let (vs, m) := Mod.diagReads ((List.range count).map fun k => r.diagOff (off + 4 * k)) m
    (m, { tlvs := [⟨0x0023, vs.flatMap fun v => leN 4 v.toNat⟩] })

/-- DIAG_WRITE: each register under Table 0.4; the status of the first that its rule refuses. A GO that is refused refuses the whole (R482). -/
def Mod.diagWrites (l : List (Nat × W32)) (m : Mod) : Mod × Nat :=
  let st := m.goRefused l
  if st ≠ 0 then (m, st) else l.foldl (fun x e => let y := x.1.diagWrite e.1 e.2; (y.1, if x.2 = 0 then y.2 else x.2)) (m, 0)

def hDiagWrite (r : Req) (m : Mod) : Mod × Ans :=
  let off := r.num 0x0022 0 4
  let count := r.num 0x0022 4 4
  let data := r.val 0x0023
  if data.length ≠ 4 * count then refuse m 0x8001 0x0023 0 off
  else match diagRange off count 64 with
    | some (st, o) => refuse m st 0x0022 o off
    | none =>
      let (m, st) := m.diagWrites ((List.range count).map fun k => (r.diagOff (off + 4 * k), BitVec.ofNat 32 (rdN data (4 * k) 4)))
      m.acted st

/- Host exchange area (R442-R444) -/

/-- The bound check of an XA_RANGE or a mailbox PTR. -/
def xaBound (off len : Nat) : Bool := decide (off + len ≤ 0x1000000)

/-- A part of the area is not read where a line of it is poisoned (R544). -/
def hXaRead (r : Req) (m : Mod) : Mod × Ans :=
  let off := r.num 0x0030 0 4
  let len := r.num 0x0030 4 4
  if len = 0 then refuse m 0x800A 0x0030 4 0
  else if 8176 < len ∨ !xaBound off len then refuse m 0x8005 0x0030 (if 8176 < len then 4 else 0) 0
  else if m.xaPoisoned off len then (m, ans 0x8D03)
  else (m, { tlvs := [⟨0x0031, tgets m.host.xa off len⟩] })

def hXaWrite (r : Req) (m : Mod) : Mod × Ans :=
  let off := r.num 0x0030 0 4
  let len := r.num 0x0030 4 4
  let d := r.val 0x0031
  if len ≠ d.length then refuse m 0x8001 0x0030 4 0
  else if len = 0 then refuse m 0x800A 0x0030 4 0
  else if 8176 < len ∨ !xaBound off len then refuse m 0x8005 0x0030 (if 8176 < len then 4 else 0) 0
  else ((m.xaPut off d).xaUnpoison off len, ans 0)

/- Mailboxes (R445-R448, R451) -/

/-- MBX_POST (R445, R446): a message for the partner leaves by the outbound side of the graft mailbox with its posting session, and that
mailbox is full until the partner's supervisor has taken it (R451, log 42); in a warm restart of that supervisor it waits (R448). -/
def hMbxPost (r : Req) (m : Mod) : Mod × Ans :=
  let ptr := r.num 0x0070 0 4
  let len := r.num 0x0070 4 4
  let type := r.num 0x0070 8 2
  let dom := r.num 0x0070 10 1
  if len ≠ 0 && !xaBound ptr len then refuse m 0x8005 0x0070 0 0
  else if type ≠ 1 && decide (type < 0x8000) then refuse m 0x8005 0x0070 8 type
  else if 1 < dom then refuse m 0x8005 0x0070 10 dom
  else if dom = 1 ∨ 0x8000 ≤ type then
    if !m.pairOp || m.pair.partnerDown || decide (m.pair.lanes = 0) then (m, ans 0x8009)
    else
      let m := m.onMbx r.s.slot fun b => (b.post ptr len type dom m.host.ms)
      let t := m.mbxStatTlv r.s.slot
      let m := (m.onMbx r.s.slot fun b => { b with inFull := false }).mbxOut 16 ptr len type dom
      (m.out (.graft 0 m.plan.grainCnt (leN 4 ptr ++ leN 4 len ++ leN 2 type ++ leN 4 r.s.sid ++ tgets m.host.xa ptr len)), { tlvs := [t] })
  else
    let m := m.onMbx r.s.slot fun b => b.post ptr len type dom m.host.ms
    (m, { tlvs := [m.mbxStatTlv r.s.slot] })

def hMbxRead (r : Req) (m : Mod) : Mod × Ans := (m, { tlvs := [(m.mbx r.s.slot).outTlv, m.mbxStatTlv r.s.slot] })

/-- MBX_ACK (R447, R451): the RS bits of the graft block fall with those of the session's own (log 73). -/
def hMbxAck (r : Req) (m : Mod) : Mod × Ans :=
  let f := r.num 0x0072 0 4
  if 7 < f then refuse m 0x8005 0x0072 0 0
  else
    let m := m.onMbx r.s.slot fun b => { b with
      outFull := b.outFull && !f.testBit 0, inColl := b.inColl && !f.testBit 1, outColl := b.outColl && !f.testBit 1
      cross := b.cross && !f.testBit 2 }
    let m := m.onMbx 16 fun b => { b with
      inColl := b.inColl && !f.testBit 1, outColl := b.outColl && !f.testBit 1, cross := b.cross && !f.testBit 2 }
    (m, { tlvs := [m.mbxStatTlv r.s.slot] })

end Sys2Proof.Machine
end

