-- ==== Sys2Proof/Machine/HostCmds.lean ====
section
/-! DEFINITION. The host opcodes of estimation, recorder, dispatch, plan, protection, counters, restart and security, and how a
request is accepted, checked and answered (R413, R417-R420). -/

namespace Sys2Proof.Machine

/- Estimation and recorder (R209, R214, R217, R534, R536) -/

/-- EST_READ (R217, R425): 64 bytes a cell at DEST. -/
def hEstRead (r : Req) (m : Mod) : Mod × Ans :=
  let first := r.num 0x0043 0 4
  let count := r.num 0x0043 4 4
  let off := r.num 0x0032 0 4
  if count = 0 then refuse m 0x800A 0x0043 4 0
  else if 20480 < count ∨ 20480 < first + count then refuse m 0x8005 0x0043 (if 20480 < count then 4 else 0) first
  else if r.num 0x0032 4 4 < 64 * count then refuse m 0x8005 0x0032 4 0
  else if !xaBound off (r.num 0x0032 4 4) then refuse m 0x8005 0x0032 0 0
  else
    let bs := (List.range count).flatMap fun k => m.estRecord (first + k)
    ((m.xaPut off bs).xaUnpoison off bs.length, ans 0)

/-- The image an XA_RANGE names: status and offset of a refusal, or its bytes (R442, R443, R544). -/
def xaImage (r : Req) (m : Mod) (top : Nat) : Except (Nat × Nat) (List Byte) :=
  let off := r.num 0x0030 0 4
  let len := r.num 0x0030 4 4
  if len = 0 then .error (0x800A, 4)
  else if top < len ∨ !xaBound off len then .error (0x8005, if top < len then 4 else 0)
  else if m.xaPoisoned off len then .error (0x8D03, 0)
  else .ok (tgets m.host.xa off len)

/-- EST_RESTORE (R214); a refusal of the header's values names the image's TLV (R419). -/
def hEstRestore (r : Req) (m : Mod) : Mod × Ans :=
  match xaImage r m 0x1000000 with
  | .error (st, o) => refuse m st 0x0030 o 0
  | .ok img =>
    let x := estRestoreCmd r.origin img m
    if x.2 = 0x800A ∨ x.2 = 0x8005 then refuse m x.2 0x0030 0 0 else actSt x

/-- EST_RESET waits for its effective grain, in which both modules of a pair execute it (R216, R258); with the plan stopped it acts at once. -/
def Mod.queueReset (m : Mod) (r : Req) (args : List Int) : Mod :=
  if m.plan.mode = .stopped then m.estResetCmd args
  else m.onDisp fun d => { d with cmds := d.cmds ++ [{ opcode := 0x0152, session := r.rq.session, seq := r.rq.seq, prio := r.s.prio, args := args }] }

/-- EST_RESET (R209, R425): a string mask, a monitor, or a cell. -/
def hEstReset (r : Req) (m : Mod) : Mod × Ans :=
  match tlv? r.rq.tlvs 0x0041, tlv? r.rq.tlvs 0x0042 with
  | some v, _ =>
    let g := rdN v 0 4
    if 20480 ≤ g then refuse m 0x8005 0x0041 0 g
    else (m.queueReset r [0, g]).acted 0
  | none, some v =>
    let n := rdN v 0 1
    let a := rdN v 1 1
    if 32 ≤ n ∨ 40 ≤ a then refuse m 0x8005 0x0042 (if 32 ≤ n then 0 else 1) 0
    else (m.queueReset r [1, n, a]).acted 0
  | none, none => (m.queueReset r [2, r.mask]).acted 0

/-- RECORD_QUERY (R534). -/
def hRecordQuery (r : Req) (m : Mod) : Mod × Ans :=
  let arch := tlv? r.rq.tlvs 0x0091
  let t := if arch.isSome then 0x0091 else 0x0090
  let n (off k : Nat) : Nat := r.num t off k
  let count := if arch.isSome then n 12 4 else n 4 4
  let dest := r.num 0x0032 0 4
  let maxLen := r.num 0x0032 4 4
  let bad : Option (Nat × Nat × Nat) :=
    if arch.isSome then
      if 32 ≤ n 0 1 then some (0x8005, t, 0) else if 1 < n 1 1 then some (0x8005, t, 1) else if count = 0 then some (0x800A, t, 12)
      else if 1024 < count then some (0x8005, t, 12) else none
    else
      if count = 0 then some (0x800A, t, 4) else if 131072 < count then some (0x8005, t, 4) else if n 10 2 < n 8 2 then some (0x8005, t, 8)
      else if n 14 1 = 0 then some (0x800A, t, 14) else if 2 < n 15 1 then some (0x8005, t, 15) else none
  let bad := bad <|> (if arch.isNone && decide (maxLen < 64 * count) then some (0x8005, 0x0032, 4)
    else if !xaBound dest maxLen then some (0x8005, 0x0032, 0) else none)
  match bad with
  | some (st, t, o) => refuse m st t o 0
  | none =>
    if m.store.queries.any fun q => q.sid == r.rq.session then (m, ans 0x8008) else
      let q : QuerySt := { sid := r.rq.session, seq := r.rq.seq, from_ := n 0 4, count := count, codeLo := n 8 2, codeHi := n 10 2, source := n 12 2
                           classes := n 14 1, kind := n 15 1, dest := dest, maxLen := maxLen
                           arch := if arch.isSome then some (n 0 1, n 1 1, n 4 8 % 2 ^ 48) else none }
      if m.queryFromDram q then
        let (m, res) := m.runQuery q
        (m, { tlvs := [res] })
      else
        let m := m.onStore fun s => { s with queries := s.queries ++ [q] }
        let m := m.onSession r.rq.session fun s => { s with query := some r.rq.seq }
        ((if (m.dmaCh 11).busy then m else m.dmaStart 11 (.query r.rq.session) (64 * count)), ans 1)

/-- CONFIRM carries 0, which is refused (R419 step 6). -/
def Req.confirmZero (r : Req) : Bool := (tlv? r.rq.tlvs 0x0093).any fun v => rdN v 0 4 == 0

/-- A two-step command (R536, R577): the first step answers a fresh value; with that value, valid 30 s in its session, `act`. -/
def twoStep (r : Req) (m : Mod) (act : Mod → Mod × Ans) : Mod × Ans :=
  match tlv? r.rq.tlvs 0x0093 with
  | none =>
    let (v, m) := m.free
    let x := if v.toNat % 2 ^ 32 = 0 then 1 else v.toNat % 2 ^ 32
    (m.onSession r.rq.session fun s => { s with
      confirms := ⟨r.op, x, m.host.ms + 30000⟩ :: s.confirms.filter fun c => c.opcode != r.op }, { tlvs := [⟨0x0093, leN 4 x⟩] })
  | some v =>
    let x := rdN v 0 4
    if x = 0 then refuse m 0x800A 0x0093 0 0
    else if r.s.confirms.any fun c => c.opcode == r.op && c.value == x && decide (m.host.ms < c.expires) then
      act (m.onSession r.rq.session fun s => { s with confirms := s.confirms.filter fun c => c.opcode != r.op })
    else (m, ans 0x8D01)

/-- RECORDER_CLEAR (R536). -/
def hRecorderClear (r : Req) (m : Mod) : Mod × Ans :=
  twoStep r m fun m => let x := m.recorderClear r.s.cred r.rq.session; (x.1, ans x.2)

/- Dispatch (R258-R279, R288) -/

/-- A command whose effective grain is the next: it waits for the boundary, which answers it. Where no grain is to come, checks 5 and 6 of
R419 come before the module's state, as at the boundary. -/
def queueCmd (r : Req) (args : List Int) (m : Mod) : Mod × Ans :=
  let c : DispCmd := { opcode := r.op, session := r.rq.session, seq := r.rq.seq, prio := r.s.prio, args := args }
  if m.plan.mode = .stopped then
    let st := m.judgeStopped c
    (m, { status := st, tlvs := c.details st })
  else (m.onDisp fun d => { d with cmds := d.cmds ++ [c] }, { held := true })

def hLeaseClaim (r : Req) (m : Mod) : Mod × Ans := queueCmd r [] m
def hLeaseRenew (r : Req) (m : Mod) : Mod × Ans := queueCmd r [] m
def hLeaseRelease (r : Req) (m : Mod) : Mod × Ans := queueCmd r [] m
def hLeaseRevoke (r : Req) (m : Mod) : Mod × Ans := queueCmd r [] m
def hSetPower (r : Req) (m : Mod) : Mod × Ans := queueCmd r [rdI (r.val 0x0050) 0 4] m
def hMoveStart (r : Req) (m : Mod) : Mod × Ans :=
  queueCmd r [rdI (r.val 0x0051) 0 8, r.num 0x0051 8 4, r.num 0x0051 12 4, r.num 0x0051 16 4] m
def hMoveRetarget (r : Req) (m : Mod) : Mod × Ans := queueCmd r [rdI (r.val 0x0052) 0 8] m
def hStop (r : Req) (m : Mod) : Mod × Ans := queueCmd r [] m
def hResume (r : Req) (m : Mod) : Mod × Ans := queueCmd r [] m

/-- TRIP (R279). -/
def hTrip (r : Req) (m : Mod) : Mod × Ans := (tripCmd r.rq.session r.mask m).acted 0

/-- STRING_SERVICE (R288, R599). -/
def hStringService (r : Req) (m : Mod) : Mod × Ans :=
  let i := r.num 0x0053 0 4
  let o := r.num 0x0053 4 4
  if !m.ownsNow r.rq.session then (m, ans 0x8003)
  else if i &&& o ≠ 0 then refuse m 0x8005 0x0053 0 0
  else if i ≠ 0 ∧ m.upd.service then (m, ans 0x8007)
  else if i ||| o = 0 then m.acted 0
  else (stringService r.origin i o m).acted 1

/- The plan (R63-R66) -/

def hPlanLoad (r : Req) (m : Mod) : Mod × Ans :=
  match xaImage r m 12582912 with
  | .error (st, o) => refuse m st 0x0030 o 0
  | .ok img => actSt (planLoad r.origin img m)

def hPlanActivate (r : Req) (m : Mod) : Mod × Ans :=
  let x := planActivate r.origin (BitVec.ofNat 32 (r.num 0x0060 0 4)) m
  if x.2 = 0x8005 then refuse m 0x8005 0x0060 0 0 else (x.1, { status := x.2, grain := if x.2 ≤ 1 then (x.1.plan.scheduled.getD 0).toNat else 0 })

def hPlanDiscard (_r : Req) (m : Mod) : Mod × Ans := actSt (planDiscard m)

/- Protection, chains, converters, counters (Table 11.4) -/

/-- PROT_CLEAR (R314): judged in its effective grain, whose boundary answers it; at once where no grain is to come (log 17). -/
def hProtClear (r : Req) (m : Mod) : Mod × Ans :=
  let opt := r.num 0x0048 0 4
  if 1 < opt then refuse m 0x8005 0x0048 0 0
  else if r.mask = 0 then m.acted 0
  else if m.plan.mode = .stopped then actSt (protClear r.mask (opt == 1) m)
  else queueCmd r [r.mask, opt] m
def hToneReset (r : Req) (m : Mod) : Mod × Ans := if r.mask = 0 then m.acted 0 else actSt (toneReset r.mask m)
def hSenseClear (r : Req) (m : Mod) : Mod × Ans :=
  let n := r.num 0x0042 0 1
  let a := r.num 0x0042 1 1
  if 32 ≤ n ∨ 40 ≤ a then refuse m 0x8005 0x0042 (if 32 ≤ n then 0 else 1) 0 else (senseClear n a m).acted 0
def hSafetyReset (_r : Req) (m : Mod) : Mod × Ans := actSt (safetyReset m)
def hConvFaultClear (r : Req) (m : Mod) : Mod × Ans := if r.mask = 0 then m.acted 0 else actSt (convFaultClear r.mask m)
def hPhaseClear (r : Req) (m : Mod) : Mod × Ans :=
  let n := r.num 0x0044 0 1
  let p := r.num 0x0044 1 1
  if 32 ≤ n ∨ 64 ≤ p then refuse m 0x8005 0x0044 (if 32 ≤ n then 0 else 1) 0
  else if p = 0 then m.acted 0
  else actSt (phaseClearCmd n (BitVec.ofNat 6 p) m)
def hEnumerate (r : Req) (m : Mod) : Mod × Ans := (enumerateCmd r.mask m).acted 0
def hClrOverrun (_r : Req) (m : Mod) : Mod × Ans := (clrOverrun m).acted 0
def hClrChainCnt (r : Req) (m : Mod) : Mod × Ans := (clrChainCnt r.mask m).acted 0
def hClrConvFlags (r : Req) (m : Mod) : Mod × Ans := (clrConvFlags r.mask m).acted 0
def hClrConvCnt (r : Req) (m : Mod) : Mod × Ans := (clrConvCnt r.mask m).acted 0
def hClrSafetyCnt (_r : Req) (m : Mod) : Mod × Ans := (clrSafetyCnt m).acted 0
def hClrPairCnt (_r : Req) (m : Mod) : Mod × Ans := (clrPairCnt m).acted 0

/- Restart, roles and security (R387, R425, R571-R577) -/

/-- RESTART (R425): the reply is sent before the restart begins. -/
def hRestart (r : Req) (m : Mod) : Mod × Ans :=
  let k := r.num 0x0061 0 1
  if k = 1 ∨ k = 2 then (m, { after := k }) else refuse m 0x8005 0x0061 0 0

def hRoleSwap (_r : Req) (m : Mod) : Mod × Ans := if m.canYield then (m.yield false).acted 0 else (m, ans 0x8007)

/-- A key is stored in a slot (R569-R571): 0-15 a credential, 16 the chain root, whose old key becomes a prior one. -/
def Mod.storeKey (m : Mod) (slot gen : Nat) (key : List Byte) : Mod :=
  let k : KeySlot := ⟨key, gen⟩
  let m :=
    if slot = 16 then
      let old := m.power.chainRoot
      let m := m.onPower fun p => { p with chainRoot := k, priorRoots := if old.key.isEmpty then p.priorRoots else (old :: p.priorRoots).take 3 }
      if old.key.isEmpty then m else m.cfgWrite
    else (m.onPower fun p => { p with credKeys := tput p.credKeys slot k }).credChanged slot
  m.post 0xE00E 0xFF bCold (u8 slot ++ [0, 0, 0] ++ leN 4 gen)

/-- The generation a slot holds. -/
def Mod.keyGen (m : Mod) (slot : Nat) : Nat := if slot = 16 then m.power.chainRoot.generation else (tget m.power.credKeys slot).generation

/-- KEY_LOAD (R571). -/
def hKeyLoad (r : Req) (m : Mod) : Mod × Ans :=
  let v := r.val 0x00A0
  let slot := rdN v 0 1
  let gen := rdN v 4 4
  if 16 < slot then refuse m 0x8005 0x00A0 0 slot
  else if rdN v 1 3 ≠ 0 then refuse m 0x8005 0x00A0 1 0
  else match gcmOpen (hmac r.s.key (ascii "KXKW")) ((v.drop 8).take 12) (v.take 8) ((v.drop 20).take 32) ((v.drop 52).take 16) with
    | none => (m, ans 0x8E01)
    | some key =>
      if gen ≤ m.keyGen slot then refuse m 0x8005 0x00A0 4 0
      else if key.all (· == 0) then refuse m 0x800A 0x00A0 20 0
      else (m.storeKey slot gen key, ans 0)

/-- SEC_SET (R573, R577, R579): lowering a response of erase takes two steps. -/
def hSecSet (r : Req) (m : Mod) : Mod × Ans :=
  let v := r.val 0x00A1
  let a := rdN v 0 1
  let b := rdN v 1 1
  let c := rdN v 2 1
  let set (m : Mod) : Mod × Ans := (m.onPower fun p => { p with respMesh := a, respGlitch := b, respAuth := c }, ans 0)
  match (List.range 4).find? fun k => decide ((if k = 3 then 0 else 2) < rdN v k 1) with
  | some k => refuse m 0x8005 0x00A1 k 0
  | none =>
    if r.confirmZero then refuse m 0x800A 0x0093 0 0
    else if m.power.locked then (m, ans 0x8E02)
    else if (m.power.respMesh = 2 ∧ a < 2) ∨ (m.power.respGlitch = 2 ∧ b < 2) ∨ (m.power.respAuth = 2 ∧ c < 2) then twoStep r m set
    else set m

/-- SEC_UNLOCK (R574). -/
def hSecUnlock (r : Req) (m : Mod) : Mod × Ans :=
  twoStep r m fun m =>
    if m.violationHolds then (m, ans 0x8007)
    else ((m.onPower fun p => { p with locked := false }).post 0xE00C 0xFF bCold (leN 4 r.rq.session), ans 0)

/-- SEC_ERASE (R575): the reply leaves before the session closes. -/
def hSecErase (r : Req) (m : Mod) : Mod × Ans := twoStep r m fun m => (m, { after := 5 })

/-- FACTORY_RESTORE (R576, R577). -/
def hFactoryRestore (r : Req) (m : Mod) : Mod × Ans :=
  if r.confirmZero then refuse m 0x800A 0x0093 0 0
  else if !(strings.all m.linkOff && (List.range 8).all fun g => !(m.sq g).on) then (m, ans 0x8007)
  else twoStep r m fun m => (m.post 0xE00F 0xFF bSup (leN 4 r.rq.session), { after := 4 })

/-- PARK (R562). A request of 1 given to a module already parked holds as one more park reason. -/
def hPark (r : Req) (m : Mod) : Mod × Ans :=
  let k := r.num 0x00A2 0 4
  if 1 < k then refuse m 0x8005 0x00A2 0 0
  else
    let running := decide (m.power.state ≠ .parked)
    ((m.onPower fun p => { p with
        parkRequest := decide (k = 1), parkWhy := if !running && decide (k = 1) then p.parkWhy ||| 2 else p.parkWhy }).cfgWrite, { after := if running == decide (k = 1) then 3 else 0 })

/-- SEC_CLEAR (R583). -/
def hSecClear (_r : Req) (m : Mod) : Mod × Ans :=
  (m.onPower fun p => { p with blankSeen := false, meshBreach := false, glitch := false, erased := false }, ans 0)

/-- A command of Table 11.4 or 16.11 by its opcode. -/
def hostOp (r : Req) (m : Mod) : Mod × Ans :=
  match r.op with
  | 0x0002 => (m, { after := 6 })
  | 0x0004 => hNoticeAck r m
  | 0x0101 => hPointRead r m
  | 0x0102 => hStreamOpen r m
  | 0x0103 => hStreamClose r m
  | 0x0110 => hParamRead r m
  | 0x0111 => hParamWrite r m
  | 0x0120 => hDiagRead r m
  | 0x0121 => hDiagWrite r m
  | 0x0130 => hXaRead r m
  | 0x0131 => hXaWrite r m
  | 0x0140 => hMbxPost r m
  | 0x0141 => hMbxRead r m
  | 0x0142 => hMbxAck r m
  | 0x0150 => hEstRead r m
  | 0x0151 => hEstRestore r m
  | 0x0152 => hEstReset r m
  | 0x0160 => hRecordQuery r m
  | 0x0161 => hRecorderClear r m
  | 0x0201 => hLeaseClaim r m
  | 0x0202 => hLeaseRenew r m
  | 0x0203 => hLeaseRelease r m
  | 0x0204 => hLeaseRevoke r m
  | 0x0210 => hSetPower r m
  | 0x0211 => hMoveStart r m
  | 0x0212 => hMoveRetarget r m
  | 0x0213 => hStop r m
  | 0x0214 => hResume r m
  | 0x0215 => hTrip r m
  | 0x0216 => hStringService r m
  | 0x0301 => hPlanLoad r m
  | 0x0302 => hPlanActivate r m
  | 0x0303 => hPlanDiscard r m
  | 0x0401 => hProtClear r m
  | 0x0402 => hToneReset r m
  | 0x0403 => hSenseClear r m
  | 0x0404 => hSafetyReset r m
  | 0x0405 => hConvFaultClear r m
  | 0x0406 => hPhaseClear r m
  | 0x0407 => hEnumerate r m
  | 0x0410 => hClrOverrun r m
  | 0x0411 => hClrChainCnt r m
  | 0x0412 => hClrConvFlags r m
  | 0x0413 => hClrConvCnt r m
  | 0x0414 => hClrSafetyCnt r m
  | 0x0415 => hClrPairCnt r m
  | 0x0501 => hRestart r m
  | 0x0502 => hRoleSwap r m
  | 0x0701 => hKeyLoad r m
  | 0x0702 => hSecSet r m
  | 0x0703 => hSecUnlock r m
  | 0x0704 => hSecErase r m
  | 0x0705 => hFactoryRestore r m
  | 0x0706 => hPark r m
  | 0x0707 => hSecClear r m
  | _ => (m, ans 0)

/- Acceptance and reply (R415, R417-R420) -/

/-- The command interface is served: the supervisor runs, and the module is not in RECOVERY (R420, R594). -/
def Mod.servesHost (m : Mod) : Bool := m.supRuns && !m.upd.recovery

/-- The window of R417: new with the record after it, a duplicate, or outside. -/
inductive SeqJudge where
  | new (high : W32) (seen : BitVec 64) | dup | out
deriving DecidableEq, Repr, Inhabited

def Session.judge (s : Session) (seq : W32) : SeqJudge :=
  let d := (seq - s.high).toNat
  let back := (s.high - seq).toNat
  if 1 ≤ d ∧ d < 2 ^ 31 then .new seq (if 64 ≤ d then 1 else (s.seen <<< d) ||| 1)
  else if back < 64 then (if s.seen.getLsbD back then .dup else .new s.high (s.seen ||| BitVec.ofNat 64 (2 ^ back)))
  else .out

/-- Checks 1 to 4 of R419, then the command. -/
def hostChecked (r : Req) (malformed : Bool) (m : Mod) : Mod × Ans :=
  match opRow hostOps r.op with
  | none => (m, ans 0x8002)
  | some row =>
    if !roleOk row r.s.role r.rq.tlvs then roleRefused r m
    else if m.standby && m.pairOp && row.rule = .state then (m, ans 0x8007)
    else match tlvFault row malformed r.rq.tlvs with
      | some t => refuse m 0x8001 t 0 0
      | none =>
        if m.power.state = .parked && !row.parked then (m, ans 0x8007)
        else if m.standby && m.pairOp && row.rule = .fwd then
          if m.pair.lanes = 0 then (m, ans 0x8009)
          else (m.out (.graft (if r.op = 0x0213 then 1 else 2) m.plan.grainCnt
            (leN 4 r.rq.session ++ leN 4 r.rq.seq.toNat ++ leN 4 r.mask)), { held := true })
        else hostOp r m

/-- What follows a reply. -/
def Mod.afterReply (m : Mod) (sid k : Nat) : Mod :=
  match k with
  | 1 => m.warmRestart 4
  | 2 => m.requestRestart 5
  | 3 => m.requestRestart 14
  | 4 => m.requestRestart 13 true
  | 5 => m.securityErase 0
  | 6 => m.closeSession sid
  | _ => m

/-- A reply is kept among the 64 most recent of its session (R417). -/
def Mod.cacheReply (m : Mod) (sid : Nat) (r : Reply) : Mod := m.onSession sid fun s => { s with cache := (r :: s.cache).take 64 }

/-- The TLVs of a command as the HOST section carries them: those of EST_RESTORE with the image out of the exchange area (R449). -/
def Mod.repTlvs (m : Mod) (op : Nat) (rq : HostReq) : List Tlv :=
  match decide (op = 0x0151), xaImage { op := op, rq := rq } m 0x1000000 with
  | true, .ok img => rq.tlvs ++ [⟨0x0031, img⟩]
  | _, _ => rq.tlvs

/-- An accepted command of the session goes into the HOST section (R449, Table 10.3), with its reply unless that is held. -/
def Mod.passOn (m : Mod) (op : Nat) (rq : HostReq) (s : Session) (grain : Nat) (reply : Option Reply) : Mod :=
  let c : RepCmd := { opcode := op, session := rq.session, seq := rq.seq, prio := s.prio, tlvs := m.repTlvs op rq, grain := grain, reply := reply }
  m.capture fun r => { r with cmds := r.cmds ++ [c] }

/-- A request of an open session is judged and executed (R417-R420): the reply to be sent now, if any, and what follows it. A request
beyond CMD_RATE_MAX is not accepted: its SEQ stays new (log 37). The active module of a pair passes every accepted one to its standby (R449). A reply that is held goes to `dest`, where the request came from. -/
def hostServe (op : Nat) (rq : HostReq) (dest : ReplyTo) (dir : Option (W32 × Mod)) (s : Session) (m : Mod) : Mod × Option Reply × Nat :=
  match s.judge rq.seq with
  | .out => (m.onHost fun h => { h with badSeq := stopAt 0xFFFF (h.badSeq + 1) }, none, 0)
  | .dup =>
    let x := Mod.again (m.onSession rq.session fun s => { s with
      lastNetA := if rq.net = 0 then some m.host.ms else s.lastNetA, lastNetB := if rq.net = 1 then some m.host.ms else s.lastNetB }) s rq.seq dest
    (x.1, x.2, 0)
  | .new high seen =>
    let now := m.host.ms
    let base : Reply := { opcode := op, seq := rq.seq, session := rq.session }
    let recent := s.recent.filter fun t => decide (now - t < 1000)
    if m.parN 0xA0C4 ≤ recent.length then (m, some { base with status := 0x8008 }, 0)
    else
      let m := m.onSession rq.session fun s => { s with
        high := high, seen := seen, lastReq := now, net := rq.net, addr := rq.addr, port := rq.port, recent := now :: recent
        lastNetA := if rq.net = 0 then some now else s.lastNetA, lastNetB := if rq.net = 1 then some now else s.lastNetB }
      if s.authLost then (m, some { base with status := 0x8006 }, 6)
      else
        let (m, a) := hostChecked { s := s, op := op, rq := rq, dir := dir } rq.malformed m
        let x : Reply := { base with status := a.status, tlvs := a.tlvs, grain := a.grain }
        if a.held then ((m.passOn op rq s a.grain none).await rq.session ⟨rq.seq, dest, false⟩, none, a.after)
        else ((m.passOn op rq s a.grain (some x)).cacheReply rq.session x, some x, a.after)

/-- A request of an open session, and its reply to the address and port it came from (R408). -/
def hostRow (op : Nat) (rq : HostReq) (dir : Option (W32 × Mod)) (m : Mod) : Mod :=
  match m.session? rq.session with
  | none => m
  | some s =>
    if !m.servesHost then m else
      let (m, x, after) := hostServe op rq (.host rq.net rq.addr rq.port) dir s m
      let m := match x with
        | some x => m.sendReply1 s.key rq.net rq.addr rq.port x
        | none => m
      m.afterReply rq.session after

end Sys2Proof.Machine
end

