-- ==== Sys2Proof/Machine/Sess.lean ====
section
/-! DEFINITION. Packets, session opening, timers of sessions and notices, streams, watches and the supervisor's side of the
mailboxes (spec file 11_host_commands.md). -/

namespace Sys2Proof.Machine

/- Credentials and session opening (R414, R574, R585) -/

/-- Member `j` of credential `c`. -/
def Mod.cred (m : Mod) (c j : Nat) : Nat := m.parN (0xE000 + 8 * c + j)

/-- The key of a credential; empty where none is held. -/
def Mod.credKey (m : Mod) (c : Nat) : List Byte := (tget m.power.credKeys c).key

/-- A SESSION_OPEN under credential `c` from this network and address is taken (R414, R574, R585). -/
def Mod.credOk (m : Mod) (c net addr : Nat) : Bool :=
  decide (c < 16) && !(m.credKey c).isEmpty && decide (m.cred c 0 = 1) && (m.cred c 3).testBit net
    && decide (addr &&& m.cred c 5 = m.cred c 4 &&& m.cred c 5) && (!m.power.locked || decide (m.cred c 1 = 3))

/-- The session key (R414, R586): HMAC under K_c of the label, the nonces and SESSION. -/
def sessionKey (key : List Byte) (label : String) (nH nM : List Byte) (sid : Nat) : List Byte :=
  hmac key (ascii label ++ nH ++ nM ++ leN 4 sid)

/-- The first nonzero identifier not in use at or after a drawn one. -/
def freshSid (used : List Nat) (v : Nat) : Nat :=
  (((List.range 18).map fun k => (v + k) % 2 ^ 32).find? fun x => x != 0 && !used.contains x).getD 1

/-- A discard counted in BAD_TAG (R413, Table 11.11). -/
def Mod.badTag (m : Mod) : Mod := m.onHost fun h => { h with badTag := stopAt 0xFFFF (h.badTag + 1) }
def Mod.badForm (m : Mod) : Mod := m.onHost fun h => { h with badForm := stopAt 0xFFFF (h.badForm + 1) }

/-- A second copy of a SESSION_OPEN: the session it opened, with its reply (R409). -/
def Mod.openedBy (m : Mod) (c : Nat) (nH : List Byte) (seq : W32) : Option (Session × Reply) :=
  m.host.sessions.findSome? fun s =>
    if s.cred ≠ c then none else
      match s.cache.find? fun x => x.opcode == 1 && x.seq == seq with
      | some x => if s.key = sessionKey (m.credKey c) "KXHS" nH ((tlvVal x.tlvs 0x0003).drop 12) s.sid then some (s, x) else none
      | none => none

/-- The first free session slot, and a session added with its mailbox empty (R414, R451). -/
def Mod.freeSlot (m : Mod) : Nat := ((List.range 16).find? fun k => !m.host.sessions.any fun s => s.slot == k).getD 0
def Mod.addSession (m : Mod) (s : Session) : Mod :=
  m.onHost fun h => { h with sessions := h.sessions ++ [s], mbx := tput h.mbx s.slot (tget h.mbx s.slot).emptied }

/-- SESSION_OPEN whose tag is right (R414, R417). One whose payload fails check 4 of R419 is answered BAD_LENGTH under K_c. The active
module of a pair passes the opening to its standby (R449). -/
def sessionOpen (rq : HostReq) (m : Mod) : Mod :=
  let c := rdN (tlvVal rq.tlvs 0x0001) 0 2
  let nH := tlvVal rq.tlvs 0x0002
  let row : OpRow := ⟨0x0001, 0, .yes, [0x0001, 0x0002], [], [], true⟩
  if !m.servesHost then m
  else if !m.credOk c rq.net rq.addr then m.badTag
  else match tlvFault row rq.malformed rq.tlvs with
  | some t =>
    m.sendReply1 (m.credKey c) rq.net rq.addr rq.port { opcode := 1, status := 0x8001, seq := rq.seq, tlvs := [detail t 0 0] }
  | none =>
    match m.openedBy c nH rq.seq with
    | some (s, x) => m.sendReply1 s.key rq.net rq.addr rq.port { x with dup := true }
    | none =>
      if 16 ≤ m.host.sessions.length then
        m.sendReply1 (m.credKey c) rq.net rq.addr rq.port { opcode := 1, status := 0x8A01, seq := rq.seq }
      else
        let (v, m) := m.free
        let (nM, m) := Mod.freeBytes 2 m
        let sid := freshSid (m.host.sessions.map (·.sid)) (v.toNat % 2 ^ 32)
        let key := sessionKey (m.credKey c) "KXHS" nH nM sid
        let now := m.host.ms
        let slot := m.freeSlot
        let info : Tlv := ⟨0x0003, leN 4 sid ++ u8 (m.cred c 1) ++ u8 (m.cred c 2) ++ [0, 0] ++ leN 4 (m.parN 0xA0C0) ++ nM⟩
        let x : Reply := { opcode := 1, seq := rq.seq, session := sid, tlvs := [info] }
        let s : Session := { slot := slot, sid := sid, cred := c, role := m.cred c 1, prio := m.cred c 2, key := key, high := rq.seq, seen := 1
                             cache := [x], lastReq := now, lastNetA := if rq.net = 0 then some now else none
                             lastNetB := if rq.net = 1 then some now else none, net := rq.net, addr := rq.addr, port := rq.port, recent := [now] }
        let m := (m.addSession s).capture fun c => { c with cmds := c.cmds ++
          [{ opcode := 1, session := sid, seq := rq.seq, prio := s.prio, tlvs := rq.tlvs ++ [info], reply := some x }] }
        m.sendReply1 key rq.net rq.addr rq.port x

/- Packets (R407-R413) -/

/-- A source address is ignored now (R413). -/
def Mod.isBlocked (m : Mod) (addr : Nat) : Bool := m.host.blocked.any fun b => b.1 == addr && decide (m.host.ms < b.2)

/-- A wrong tag from an address (R413): counted, and AUTH_BLOCK_N of them within 10 s block it. -/
def Mod.tagFail (m : Mod) (net addr : Nat) : Mod :=
  let m := m.badTag
  let now := m.host.ms
  let l := (addr, now) :: m.host.tagFails.filter fun x => decide (now - x.2 < 10000)
  let t := m.parN 0xA0C7
  if 0 < t && decide (m.parN 0xA0C6 ≤ (l.filter fun x => x.1 == addr).length) then
    let m := m.onHost fun h => { h with
      tagFails := l.filter fun x => x.1 != addr, blocked := (addr, now + 1000 * t) :: h.blocked.filter fun b => b.1 != addr }
    (m.onPower fun p => { p with authBlockedAt := now :: p.authBlockedAt.filter fun t => decide (now - t < 3600000) }).post 0xA001 net bNet (leN 4 addr)
  else m.onHost fun h => { h with tagFails := l }

/-- Row UDP_PACKET_RECEIVE (R407-R413): a datagram to the command port is discarded and counted, or its request is executed; one that the
port's filter does not pass is dropped without a count (R468). -/
def udpPacketReceive (net addr port dest : Nat) (bytes : List Byte) (dir : Option (W32 × Mod)) (m : Mod) : Mod :=
  let len := rdN bytes 16 4
  let flags := rdN bytes 3 1
  let op := rdN bytes 4 2
  let sid := rdN bytes 12 4
  let body := bytes.take (bytes.length - 16)
  let tag := bytes.drop (bytes.length - 16)
  if dest ≠ 50231 || 2 ≤ net || !m.netAllows net addr || !m.servesHost || m.isBlocked addr then m
  else if bytes.length < 40 || rdN bytes 0 2 ≠ 0x4B58 || rdN bytes 2 1 ≠ 1 || 8192 < len || len ≠ bytes.length - 40 || flags &&& 11 ≠ 0 then m.badForm
  else
    let ts := splitTlvs 8192 ((body.drop 24))
    let rq : HostReq := { session := sid, seq := BitVec.ofNat 32 (rdN bytes 8 4), net := net, addr := addr, port := port
                          tlvs := ts.1, malformed := ts.2 }
    if op = 1 then
      let key := m.credKey (rdN (tlvVal rq.tlvs 0x0001) 0 2)
      if sid ≠ 0 || key.isEmpty then m.badTag
      else if packetTag key body = tag then sessionOpen rq m
      else m.tagFail net addr
    else match m.session? sid with
      | none => m.badTag
      | some s => if packetTag s.key body = tag then hostRow op rq dir m else m.tagFail net addr

/-- Row AUTH_BLOCK_EXPIRY (R413). -/
def authBlockExpiry (addr : Nat) (m : Mod) : Mod :=
  m.onHost fun h => { h with blocked := h.blocked.filter fun b => b.1 != addr || decide (h.ms < b.2) }

/- Timers of sessions (R415, R422, R536) -/

/-- Row CONFIRM_EXPIRY (R536). -/
def confirmExpiry (sid : Nat) (m : Mod) : Mod :=
  m.onSession sid fun s => { s with confirms := s.confirms.filter fun c => decide (m.host.ms < c.expires) }

/-- Row SESSION_IDLE_TIMEOUT (R415). -/
def sessionIdleTimeout (sid : Nat) (m : Mod) : Mod :=
  match m.session? sid with
  | some s => if 1000 * m.parN 0xA0C0 ≤ m.host.ms - s.lastReq then m.closeSession sid else m
  | none => m

/-- Row NOTICE_RESEND (R422): after NOTICE_RETRY the notice is sent again, up to NOTICE_TRIES times, and then dropped. -/
def noticeResend (sid seq : Nat) (m : Mod) : Mod :=
  match m.session? sid with
  | none => m
  | some s =>
    match s.notices.find? fun n => n.seq == seq with
    | none => m
    | some n =>
      if m.host.ms - n.sentAt < m.parN 0xA0C2 then m
      else if m.parN 0xA0C3 ≤ n.tries - 1 then m.onSession sid fun s => { s with notices := s.notices.filter fun x => x.seq != seq }
      else
        let n' := { n with tries := n.tries + 1, sentAt := m.host.ms }
        (m.onSession sid fun s => { s with notices := s.notices.map fun x => if x.seq = seq then n' else x }).sendNotice s n'

/- Streams (R431, R432) -/

/-- The points of a stream, in list order; none for an entry of a range beyond its group, served as POINT_READ does (R430, log 71). -/
def Stream.indices (x : Stream) : List (Option Nat) :=
  x.ranges.flatMap fun r => (List.range r.2).map fun k =>
    if (pointGroup r.1).any fun g => decide (r.1 + k < g.1 + g.2) then some (r.1 + k) else none

/-- One packet of a stream: fragment `k` of `n`, with up to 681 entries (R432). -/
def Mod.sendFrag (m : Mod) (s : Session) (x : Stream) (g : W32) (d : Mod) (idx : List (Option Nat)) (n k : Nat) : Mod :=
  let part := (idx.drop (681 * k)).take 681
  let body := leN 2 x.id ++ leN 2 k ++ leN 2 n ++ [0, 0] ++ leN 4 (681 * k) ++ leN 4 part.length ++ part.flatMap fun i => (i.map (pointEntry d)).getD blankEntry
  let seq := x.sent + k + 1
  let tag := packetTag s.key (packetBytes 0x4B58 8 0x0180 0 seq s.sid g.toNat body)
  m.each ((List.range 2).filter x.nets.getLsbD) fun m net => m.out (.stream net x.addr x.port x.id seq g.toNat body tag)

/-- Row STREAM_CYCLE (R431, R432): `fits` where its packets can all leave within the grain. -/
def streamCycle (id : Nat) (fits : Bool) (dir : Option (W32 × Mod)) (m : Mod) : Mod :=
  match m.host.streams.find? fun x => x.id == id with
  | none => m
  | some x =>
    if !m.servesHost || !m.plan.firstGrain || m.plan.grainCnt.toNat % x.period ≠ 0 then m else
      match dir, m.session? x.sid with
      | some (g, d), some s =>
        if fits && decide (g + 1 = m.plan.grainCnt) then
          let idx := x.indices
          let n := (idx.length + 680) / 681
          (m.each (List.range n) fun m k => m.sendFrag s x g d idx n k).onHost fun h => { h with
            streams := h.streams.map fun y => if y.id = id then { y with sent := y.sent + n } else y }
        else m.onHost fun h => { h with streamSkip := stopAt 0xFFFF (h.streamSkip + 1) }
      | _, _ => m.onHost fun h => { h with streamSkip := stopAt 0xFFFF (h.streamSkip + 1) }

/- Watches (R439, R440) -/

/-- Field `f` of watch `w`. -/
def Mod.watchPar (m : Mod) (w f : Nat) : Int := m.par (0xF000 + 8 * w + f)

/-- Watches that are not off. -/
def Mod.watchesOn (m : Mod) : List Nat := (List.range 256).filter fun w => m.watchPar w 1 != 0

/-- A watch on a point's value and flags: its condition, and that it has failed by WATCH_HYST. -/
def Mod.watchJudge (m : Mod) (w : Nat) (v : Int) (flags : Nat) (last : Option Int) : Bool × Bool :=
  let lv := m.watchPar w 2
  let hy := m.watchPar w 3
  match (m.watchPar w 1).toNat with
  | 1 => (decide (lv < v), decide (v ≤ lv - hy))
  | 2 => (decide (v < lv), decide (lv + hy ≤ v))
  | 3 => (flags.testBit lv.toNat, !flags.testBit lv.toNat)
  | _ =>
    let ch := match last with | some u => u != v | none => false
    (ch, !ch)

/-- One watch on a copy. -/
def Mod.watchStep (m : Mod) (d : Mod) (w : Nat) : Mod :=
  let idx := (m.watchPar w 0).toNat
  let (_, v, flags) := d.pointAt idx
  let x := tget m.host.watches w
  let (cond, fails) := m.watchJudge w v flags x.last
  let held := if cond then x.held + 1 else 0
  let fires := !x.fired && decide ((m.watchPar w 4).toNat ≤ held) && cond
  let y : WatchSt := { fired := fires || (x.fired && !fails), held := if x.fired then 0 else held, last := some v }
  let m := m.onHost fun h => { h with watches := tput h.watches w y }
  if !fires then m else
    let act := (m.watchPar w 5).toNat
    let m := if act.testBit 0 then m.post 0xA002 0xFF bSup (u8 w ++ [0, 0, 0] ++ leN 4 idx ++ leI 8 v) else m
    if act.testBit 1 then m.each (m.host.sessions.map (·.sid)) fun m sid => m.notify sid Config.watchOp 0 [] else m

/-- Row WATCH_EVALUATION (R440): the newest complete copy, if it has not been evaluated. -/
def watchEvaluation (dir : Option (W32 × Mod)) (m : Mod) : Mod :=
  match dir with
  | some (g, d) =>
    if !m.supRuns || m.host.watchCopy == some g then m
    else (m.each m.watchesOn fun m w => m.watchStep d w).onHost fun h => { h with watchCopy := some g }
  | none => m

/-- A copy is published: one that was complete before it and that no watch evaluated has been passed over (R440). -/
def Mod.watchPassed (m : Mod) (newest : Option W32) : Mod :=
  match newest with
  | some g =>
    if m.host.watchCopy == some g || m.watchesOn.isEmpty then m
    else m.onHost fun h => { h with watchSkip := stopAt 0xFFFF (h.watchSkip + 1) }
  | none => m

/- The supervisor's side of the mailboxes (R446-R448) -/

/-- The requests of batch `id`, one after another: each is executed in the posting session, and its reply, where it is not held, collected
(R447); a warm restart ends it (R420). -/
def Mod.runBatch (dir : Option (W32 × Mod)) (sid id : Nat) : Nat → List Byte → List (Option (List Byte)) → Mod → List (Option (List Byte)) × Mod
  | 0, _, out, m => (out, m)
  | fuel + 1, bs, out, m =>
    let len := rdN bs 16 4
    match m.session? sid with
    | none => (out, m)
    | some s =>
      if !m.servesHost || bs.length < 24 || bs.length < 24 + len then (out, m)
      else
        let ts := splitTlvs 8192 ((bs.drop 24).take len)
        let rq : HostReq := { session := sid, seq := BitVec.ofNat 32 (rdN bs 8 4), net := s.net, addr := s.addr, port := s.port
                              tlvs := ts.1, malformed := ts.2 }
        let (m, x, after) := hostServe (rdN bs 4 2) rq (.batch id out.length) dir s m
        let held := x.isNone && (m.session? sid).any fun s => m.replyHeld s rq.seq
        let item := if held then none else some ((x.map fun x => x.bytes 0x4B58).getD [])
        Mod.runBatch dir sid id fuel (bs.drop (24 + len)) (out ++ [item]) (m.afterReply sid after)

/-- The session that posted the message of a mailbox. -/
def Mod.poster (m : Mod) (slot : Nat) : Option Session :=
  if slot = 16 then m.session? (m.mbx 16).inSid else m.host.sessions.find? fun s => s.slot == slot

/-- A command batch is executed in its posting session, and is reported once each of its replies is there (R447). -/
def Mod.takeBatch (m : Mod) (slot : Nat) (dir : Option (W32 × Mod)) (s : Session) : Mod :=
  let b := m.mbx slot
  let len := b.inLen.toNat
  if m.xaPoisoned b.inPtr.toNat len then m else
    let id := (m.host.batches.map (·.id)).foldl max 0 + 1
    let (out, m) := Mod.runBatch dir s.sid id (len / 24 + 1) (tgets m.host.xa b.inPtr.toNat len) [] m
    if m.servesHost && m.host.sessions.any fun x => x.sid == s.sid then
      (m.onHost fun h => { h with batches := h.batches ++ [⟨id, slot, s.sid, b.inPtr.toNat + len, out⟩] }).batchDone id
    else m

/-- Row SUPERVISOR_MBX_TAKE (R446, R447): IN_FULL falls first, which on the graft mailbox the partner is told; a command batch is executed. -/
def supervisorMbxTake (slot : Nat) (dir : Option (W32 × Mod)) (m : Mod) : Mod :=
  let b := m.mbx slot
  if !m.supRuns || 16 < slot || !b.inFull then m else
    let m := m.onMbx slot fun b => { b with inFull := false }
    let m := if slot = 16 then m.out (.graft 11 m.plan.grainCnt []) else m
    match m.poster slot with
    | some s => if b.inType = 1 then m.takeBatch slot dir s else m
    | none => m

/-- Row OUTBOUND_MBX_WRITE (R446, R447). -/
def outboundMbxWrite (slot ptr len type domain : Nat) (m : Mod) : Mod :=
  if m.supRuns && decide (slot ≤ 16) then m.mbxOut slot ptr len type domain else m

/-- Row MBX_CROSS_TIMEOUT (R448): both full for longer than MBX_CROSS_T; on the graft mailbox not while a side is in reset. -/
def mbxCrossTimeout (slot : Nat) (m : Mod) : Mod :=
  let b := m.mbx slot
  if 16 < slot || !b.inFull || !b.outFull || m.host.ms - max b.inSince b.outSince ≤ m.parN 0xA0C1 || b.cross
    || (slot = 16 && (m.pair.partnerDown || m.pair.partnerWarm || m.supDown)) then m
  else
    let m := m.onMbx slot fun b => { b with cross := true }
    match m.host.sessions.find? fun s => s.slot == slot with
    | some s => m.notify s.sid Config.doorbellOp 0 [(m.mbx slot).outTlv, m.mbxStatTlv slot]
    | none => m

end Sys2Proof.Machine
end

