-- ==== Sys2Proof/Machine/Upd.lean ====
section
/-! DEFINITION. The Rovisa port, firmware update, the service window, the safety configuration's two steps and calibration by
the Rovisa tool (R326, R586-R603; spec file 17_update_and_calibration.md), and the end of a warm supervisor restart. -/

namespace Sys2Proof.Machine

/- The port (R586-R589) -/

/-- The 32 zero bytes under which a presence session and the cursor requests are tagged (R587). -/
def zeroKey : List Byte := List.replicate 32 0

/-- Sends a reply on the Rovisa port (R586): GRAIN is 0. -/
def Mod.rvSend (m : Mod) (key : List Byte) (r : Reply) : Mod :=
  let r := { r with grain := 0 }
  m.out (.rvReply r (packetTag key (r.bytes 0x5652)))

/-- The states of Table 17.2 in which an opcode is served, by PORT_STATE: 0 BOOT, 1 NORMAL, 2 SERVICE, 3 RECOVERY. -/
def rvStates (op : Nat) : List Nat :=
  match op with
  | 0x0010 | 0x0011 | 0x0012 | 0x0014 | 0x0016 | 0x0017 | 0x0030 => [1, 2, 3]
  | 0x0015 | 0x0020 | 0x0021 | 0x0041 => [1, 2]
  | 0x0060 => [1]
  | 0x0061 => [2]
  | _ => [0, 1, 2, 3]

/-- RV_OPEN is taken under this CRED_ID: the key and the role (R414, R574, R587). -/
def Mod.rvCred (m : Mod) (c : Nat) : Option (List Byte × Nat) :=
  if c = 0xFFFF then (if m.provisioned then none else some (zeroKey, 3))
  else if decide (c < 16) && !(m.credKey c).isEmpty && decide (m.cred c 0 = 1) && (!m.power.locked || decide (m.cred c 1 = 3)) then
    some (m.credKey c, m.cred c 1)
  else none

/-- The port is served: the supervisor runs, or no slot could be booted (R588). -/
def Mod.rvServed (m : Mod) : Bool := m.portServed && !m.plan.warm

/-- RV_OPEN (R586, R587): the session in force closes; a refused credential is discarded, but CRED_ID 0xFFFF is answered. -/
def rvOpen (rq : RvReq) (m : Mod) : Mod :=
  let row : OpRow := ⟨0x0001, 0, .yes, [0x0001, 0x0002], [], [], true⟩
  let c := rdN (tlvVal rq.tlvs 0x0001) 0 2
  if !m.rvServed then m else
    let m := m.onUpd fun u => { u with usbUp := true }
    if rq.malformed || (tlvFault row rq.malformed rq.tlvs).isSome then m.badTag
    else match m.rvCred c with
      | none => if c = 0xFFFF then m.rvSend zeroKey { opcode := 1, status := 0x8006, seq := rq.seq } else m.badTag
      | some (kc, role) =>
        let m := m.rvEnd
        let (v, m) := m.free
        let (nM, m) := Mod.freeBytes 2 m
        let sid := freshSid [] (v.toNat % 2 ^ 32)
        let key := if c = 0xFFFF then zeroKey else sessionKey kc "KXRV" (tlvVal rq.tlvs 0x0002) nM sid
        let info : Tlv := ⟨0x0003, leN 4 sid ++ u8 role ++ u8 (m.cred c 2) ++ [0, 0] ++ leN 4 600 ++ nM⟩
        let x : Reply := { opcode := 1, seq := rq.seq, session := sid, tlvs := [info] }
        let s : Session := { sid := sid, cred := c, role := role, key := key, high := rq.seq, seen := 1, cache := [x], lastReq := m.host.ms }
        (m.onUpd fun u => { u with session := some { s := s, presence := decide (c = 0xFFFF) } }).rvSend key x

/- Image headers (R590-R593, Table 17.3) -/

/-- The header in block 0. -/
def headerOf (b : List Byte) : FwHeader :=
  let w (o : Nat) : W32 := BitVec.ofNat 32 (rdN b o 4)
  { magic := w 0, format := rdN b 4 2, keyIndex := rdN b 6 1, kflags := rdN b 7 1, blockCount := rdN b 8 4, svn := rdN b 0xC 2
    svnFloor := rdN b 0xE 2, partCode := w 0x10, supVersion := w 0x14, fabVersion := w 0x18, safVersion := w 0x1C, graftProto := rdN b 0x20 2
    graftMin := rdN b 0x22 2, graftMax := rdN b 0x24 2, hwMin := rdN b 0x26 2, libSupported := (List.range 4).map fun k => w (0x28 + 4 * k)
    costSupported := (List.range 4).map fun k => w (0x38 + 4 * k)
    components := (List.range 3).map fun k => (rdN b (0x48 + 40 * k) 4, rdN b (0x4C + 40 * k) 4, (b.drop (0x50 + 40 * k)).take 32)
    signature := (b.drop 0xC0).take 64 }

/-- SUP, FAB and SAF follow one another without gaps from block 1 to the last block (R590). -/
def FwHeader.contiguous (h : FwHeader) : Bool :=
  match h.components with
  | [(f0, n0, _), (f1, n1, _), (f2, n2, _)] => decide (f0 = 1 ∧ f1 = f0 + n0 ∧ f2 = f1 + n1 ∧ f2 + n2 = h.blockCount)
  | _ => false

/-- The checks of block 0 in the order of Table 17.4: 0, or the refusal code (R592). -/
def Mod.headerRefusal (m : Mod) (count : Nat) (h : FwHeader) : Nat :=
  if h.magic ≠ 0x4B584657 ∨ h.format ≠ 1 ∨ h.blockCount ≠ count ∨ h.svn < h.svnFloor || !h.contiguous then 1
  else if h.partCode ≠ 0x3206 ∨ m.upd.hwRevision < h.hwMin then 2
  else if h.svn < m.upd.minSvn then 3
  else if decide (3 < h.keyIndex) || m.upd.keyRevoked.getLsbD h.keyIndex || !m.upd.otpKeys.getLsbD h.keyIndex then 4
  else 0

/-- The bytes of blocks `lo` to `hi - 1`. -/
def FwSlot.bytes (s : FwSlot) (lo hi : Nat) : List Byte := (List.range (hi - lo)).flatMap fun i => tget s.blocks (lo + i)

/-- What a verification finds (R593): 0, or the refusal code. -/
def FwSlot.verify (s : FwSlot) : Nat :=
  let h := s.hdr
  let b0 := tget s.blocks 0
  if (List.range s.blockCount).any fun i => s.blocks.all fun e => e.1 != i then 6
  else if s.blocks.any fun e => crc32c e.2 != tget s.crcs e.1 then 5
  else if !h.contiguous then 1
  else if h.components.any fun c => sha256 (s.bytes c.1 (c.1 + c.2.1)) != c.2.2 then 7
  else if Config.ecdsaOk h.keyIndex (b0.take 0xC0 ++ List.replicate 64 0 ++ b0.drop 0x100 ++ s.bytes 1 s.blockCount) h.signature then 0
  else 8

/- Updates (R591-R598). The inactive slot is the one not booted at the last start or warm restart. -/

def Mod.inactive (m : Mod) : FwSlot := m.fwSlot (!m.upd.runB)
def Mod.onInactive (m : Mod) (f : FwSlot → FwSlot) : Mod := m.onFwSlot (!m.upd.runB) f

/-- Blocks stored, and the first not stored: BLOCK_COUNT where none is missing. -/
def FwSlot.firstMissing (s : FwSlot) : Nat := ((List.range s.blockCount).find? fun i => s.blocks.all fun e => e.1 != i).getD s.blockCount
/-- UPD_RESULT (Table 17.2) with a refusal code. -/
def FwSlot.result (s : FwSlot) (refusal : Nat) : Tlv :=
  ⟨0x0102, u8 s.st.ctorIdx ++ u8 refusal ++ [0, 0] ++ leN 4 s.blocks.length ++ leN 4 s.firstMissing⟩

/-- A refusal of Table 17.4 is kept as the slot's last and recorded. -/
def Mod.updRefused (m : Mod) (code : Nat) : Mod :=
  if code = 0 then m else (m.onInactive fun s => { s with refusal := code }).post 0x0003 0xFF bSup (u8 code)

/-- An update command refused with a status and, in UPD_RESULT, a code (R592; log 38). -/
def Mod.updNo (m : Mod) (st code : Nat) : Mod × Ans :=
  let m := m.updRefused code
  (m, { status := st, tlvs := [m.inactive.result code] })

/-- UPD_BEGIN (R591). -/
def uBegin (r : Req) (m : Mod) : Mod × Ans :=
  let n := r.num 0x0100 0 4
  if n = 0 then refuse m 0x800A 0x0100 0 0
  else if n < 2 ∨ 65471 < n then refuse m 0x8005 0x0100 0 0
  else if m.inactive.st = .trial ∨ m.store.roMask.getLsbD (b2n (!m.upd.runB)) then (m, ans 0x8007)
  else if m.upd.verifying then (m, ans 0x8008)
  else
    ((m.onInactive fun s => { s with st := .receiving, header := none, blockCount := n, blocks := [], crcs := [], refusal := 0 }).post
      0x0001 0xFF bSup (leN 4 n), ans 0)

/-- UPD_BLOCK (R592): the block and its CRC are durable before the reply. -/
def uBlock (r : Req) (m : Mod) : Mod × Ans :=
  let i := r.num 0x0101 0 4
  let d := (r.val 0x0101).drop 8
  let s := m.inactive
  if s.st ≠ .receiving then m.updNo 0x8007 0
  else if s.blockCount ≤ i then m.updNo 0x8005 0
  else if i ≠ 0 && s.header.isNone then m.updNo 0x8007 0
  else if (crc32c d).toNat ≠ r.num 0x0101 4 4 then m.updNo 0x8005 5
  else
    let h := headerOf d
    let code := if i = 0 then m.headerRefusal s.blockCount h else 0
    if code ≠ 0 then
      (m.onInactive fun s => { s with st := .empty, header := none, blockCount := 0, blocks := [], crcs := [] }).updNo 0x8005 code
    else
      (m.onInactive fun s => { s with
        header := if i = 0 then some h else s.header, blocks := tput s.blocks i d, crcs := tput s.crcs i (crc32c d) }, ans 0)

/-- UPD_VERIFY (R593): only of a slot that has been receiving. -/
def uVerify (_r : Req) (m : Mod) : Mod × Ans :=
  if m.upd.verifying then (m, ans 0x8008)
  else if m.inactive.st ≠ .receiving then (m, ans 0x8007)
  else ((m.onInactive fun s => { s with st := .verifying }).onUpd fun u => { u with verifying := true }, ans 1)

/-- Row UPD_VERIFY_COMPLETE (R593). -/
def updVerifyComplete (m : Mod) : Mod :=
  if !m.upd.verifying || m.plan.warm then m else
    let code := m.inactive.verify
    let m := m.onUpd fun u => { u with verifying := false }
    if code = 0 then (m.onInactive fun s => { s with st := .verified, refusal := 0 }).post 0x0002 0xFF bSup (leN 2 m.inactive.hdr.svn)
    else (m.onInactive fun s => { s with st := .invalid }).updRefused code

/-- UPD_STATUS (R594). -/
def uStatus (_r : Req) (m : Mod) : Mod × Ans := (m, { tlvs := [m.inactive.result m.inactive.refusal] })

/-- The components that differ make the activation of kind MODULE (Table 17.5). -/
def Mod.moduleKind (m : Mod) : Bool :=
  let hash (h : FwHeader) (k : Nat) : Option (List Byte) := (h.components[k]?).map (·.2.2)
  let a := m.inactive.hdr
  let b := m.upd.running
  hash a 1 != hash b 1 || hash a 2 != hash b 2

/-- The partner of a pair is ready, or is the active module whose standby this is (R386, R402). -/
def Mod.pairReady (m : Mod) : Bool := m.pairOp && (if m.standby then m.standbyReady else m.pair.partnerReady)

/-- The activation of the inactive slot (R595, R596): refused with a code, or TRIAL made durable and a restart that follows the
reply: 7 warm, 8 of the module. In RECOVERY no component runs, so the kind is MODULE, and it needs no service window (log 71). -/
def Mod.activate (m : Mod) : Mod × Ans :=
  let mk := m.moduleKind || m.upd.recovery
  let bad := match m.pair.partnerVer with
    | some v => !m.versCompat m.inactive.hdr.versions v
    | none => false
  if mk && m.pairReady && bad then m.updNo 0x8007 0x0A
  else if mk && !m.upd.service && !m.upd.recovery && !m.canYield && !(m.pairOp && m.standby) then m.updNo 0x8007 0x09
  else
    let g := (m.fwSlot m.upd.runB).generation + 1
    let m := (m.onInactive fun s => { s with st := .trial, generation := g, tries := 0 }).onUpd fun u => { u with trialModule := mk }
    (m.post 0x0004 0xFF bSup (u8 (b2n mk)), { after := if mk then 8 else 7 })

/-- UPD_ACTIVATE (R595). -/
def uActivate (_r : Req) (m : Mod) : Mod × Ans := if m.inactive.st = .verified then m.activate else (m, ans 0x8007)

/-- The running trial slot becomes ACTIVE (R597). A raise of MIN_SVN takes one of SVN_FUSES_LEFT. -/
def Mod.confirm (m : Mod) : Mod :=
  let b := m.upd.runB
  let h := (m.fwSlot b).hdr
  let m := (m.onFwSlot b fun s => { s with st := .active }).onInactive fun s => if s.st = .active then { s with st := .verified } else s
  let raise := decide (m.upd.minSvn < h.svnFloor ∧ 0 < m.upd.fusesLeft)
  let m := m.onUpd fun u => { u with
    trialSince := none, trialModule := false, minSvn := if raise then h.svnFloor else u.minSvn
    fusesLeft := if raise then u.fusesLeft - 1 else u.fusesLeft
    keyRevoked := if h.kflags.testBit 0 then u.keyRevoked ||| BitVec.ofNat 8 (2 ^ h.keyIndex - 1) else u.keyRevoked }
  m.post 0x0006 0xFF bSup (u8 (b2n b))

/-- UPD_CONFIRM (R597). -/
def uConfirm (_r : Req) (m : Mod) : Mod × Ans :=
  if (m.fwSlot m.upd.runB).st = .trial then (m.confirm, ans 0) else (m, ans 0x8007)

/-- Row TRIAL_AUTO_CONFIRM (R597): 600 s without a warm restart, a self-fault or a module-scope safe stop. -/
def trialAutoConfirm (m : Mod) : Mod :=
  match m.upd.trialSince with
  | some t => if !m.plan.warm && decide ((m.fwSlot m.upd.runB).st = .trial ∧ 600000 ≤ m.host.ms - t) then m.confirm else m
  | none => m

/-- UPD_ROLLBACK (R598). -/
def uRollback (_r : Req) (m : Mod) : Mod × Ans :=
  let s := m.inactive
  if s.st ≠ .verified ∧ s.st ≠ .active then (m, ans 0x8007)
  else if s.hdr.svn < m.upd.minSvn then m.updNo 0x8005 3
  else
    let (m, a) := m.activate
    (if a.after = 0 then m else m.post 0x0007 0xFF bSup (u8 (b2n (!m.upd.runB))), a)

/-- UPD_ABORT (Table 17.2). -/
def uAbort (_r : Req) (m : Mod) : Mod × Ans :=
  if m.inactive.st = .trial then (m, ans 0x8007)
  else
    ((m.onInactive fun s => { s with st := .empty, header := none, blockCount := 0, blocks := [], crcs := [] }).onUpd
      fun u => { u with verifying := false }, ans 0)

/- The safety configuration (R326, R327) -/

/-- A set of values of group 8 as PARAM_VALUES entries. -/
def safeSet (cfg : Tab (Option Int)) : List Byte :=
  safeIds.flatMap fun i => leN 2 i ++ u8 (paramType i) ++ [0] ++ leI 8 ((tget cfg i).getD (paramDefault i))

/-- SAFE_STAGE (R326, R327): the complete set, each value once; the answer holds the copy of each core with its CRC. -/
def uSafeStage (r : Req) (m : Mod) : Mod × Ans :=
  let es := paramEntries (r.val 0x0103)
  let find (p : Nat × Nat × List Byte → Bool) : Option Nat := (List.range es.length).find? fun k => p (es.getD k default)
  match find fun e => !safeIds.contains e.1 || (es.filter fun x => x.1 == e.1).length != 1 with
  | some k => refuse m 0x8005 0x0103 (12 * k) (es.getD k default).1
  | none =>
    match m.paramFault es with
    | some (st, k, off) => refuse m st 0x0103 (12 * k + off) (es.getD k default).1
    | none =>
      let cfg : Tab (Option Int) := (m.paramVals es).foldl (fun t e => tput t e.1 (if e.2 = paramDefault e.1 then none else some e.2)) []
      let get (i : Nat) : Int := (tget cfg i).getD (paramDefault i)
      if !stageOk get then refuse m 0x8005 0x0103 0 0
      else
        let crc := leN 4 (cfgCrcOf get).toNat
        (m.onSafety fun s => { s with staged := some cfg, stagedMs := s.ms, stagedAgree := s.coresAgree },
          { tlvs := [⟨0x0103, safeSet cfg⟩, ⟨0x0104, crc⟩, ⟨0x0103, safeSet cfg⟩, ⟨0x0104, crc⟩] })

/-- SAFE_COMMIT (R326): the configuration takes effect in the next safety cycle. -/
def uSafeCommit (r : Req) (m : Mod) : Mod × Ans :=
  match m.safety.staged with
  | none => (m, ans 0x8007)
  | some cfg =>
    let crc := cfgCrcOf fun i => (tget cfg i).getD (paramDefault i)
    if !m.safety.stagedAgree || decide (r.num 0x0104 0 4 ≠ crc.toNat) || decide (60000 ≤ m.safety.ms - m.safety.stagedMs)
        || (List.range 8).any fun g => (m.sq g).on then (m, ans 0x8007)
    else
      let old := m.safety.cfgCrc
      ((m.onSafety fun s => { s with staged := none, commitCfg := some cfg }).post 0x000A 0xFF bSafety (leN 4 old.toNat ++ leN 4 crc.toNat), ans 0)

/- Keys, calibration, registers, the service window and restarts -/

/-- KEY_LOAD_CLEAR (R571, R587): in a presence session. -/
def uKeyLoadClear (presence : Bool) (r : Req) (m : Mod) : Mod × Ans :=
  let v := r.val 0x0105
  let slot := rdN v 0 1
  let gen := rdN v 4 4
  let key := (v.drop 8).take 32
  if !presence then (m, ans 0x800C)
  else if 16 < slot then refuse m 0x8005 0x0105 0 slot
  else if rdN v 1 3 ≠ 0 then refuse m 0x8005 0x0105 1 0
  else if gen ≤ m.keyGen slot then refuse m 0x8005 0x0105 4 0
  else if key.all (· == 0) then refuse m 0x800A 0x0105 8 0
  else (m.storeKey slot gen key, ans 0)

/-- CAL_READ (R601). -/
def uCalRead (_r : Req) (m : Mod) : Mod × Ans := (m, { tlvs := [⟨0x0107, m.upd.otpBytes⟩] })

/-- CAL_RESET (R603). -/
def uCalReset (r : Req) (m : Mod) : Mod × Ans :=
  let mask := r.num 0x0106 0 8
  if 2 ^ 46 ≤ mask then refuse m 0x8005 0x0106 0 0
  else if mask = 0 then (m, ans 0)
  else
    let m := m.each (setBits 46 mask) fun m s => (m.setPar (adcId s 0) 0).setPar (adcId s 1) 0
    (m.cfgWrite.post 0x000B 0xFF bSup (leN 8 mask), ans 0)

/-- SVC_ENTER (R599). -/
def uSvcEnter (_r : Req) (m : Mod) : Mod × Ans :=
  if strings.all m.linkOff && (List.range 8).all fun g => !(m.sq g).on then
    ((m.onUpd fun u => { u with service := true }).post 0x000D 0xFF bSup (u8 1), ans 0)
  else (m, ans 0x8007)

/-- SVC_LEAVE (R599). -/
def uSvcLeave (_r : Req) (m : Mod) : Mod × Ans := (m.serviceEnd, ans 0)

/-- RV_INFO (R605): the 83 identity parameters. -/
def uInfo (_r : Req) (m : Mod) : Mod × Ans := (m, { tlvs := [⟨0x0021, (List.range 83).flatMap m.paramEntry⟩] })

/-- A command of Table 17.2 by its opcode. -/
def rvOp (presence : Bool) (r : Req) (m : Mod) : Mod × Ans :=
  match r.op with
  | 0x0002 => (m, { after := 9 })
  | 0x0003 => uInfo r m
  | 0x0010 => uBegin r m
  | 0x0011 => uBlock r m
  | 0x0012 => uVerify r m
  | 0x0013 => uStatus r m
  | 0x0014 => uActivate r m
  | 0x0015 => uConfirm r m
  | 0x0016 => uRollback r m
  | 0x0017 => uAbort r m
  | 0x0020 => uSafeStage r m
  | 0x0021 => uSafeCommit r m
  | 0x0030 => uKeyLoadClear presence r m
  | 0x0040 => uCalRead r m
  | 0x0041 => uCalReset r m
  | 0x0050 => hDiagRead r m
  | 0x0051 => hDiagWrite r m
  | 0x0060 => uSvcEnter r m
  | 0x0061 => uSvcLeave r m
  | 0x0070 => hRestart r m
  | _ => (m, ans 0x8002)

/-- The checks of R419 and the port state (R589), then the command. -/
def rvChecked (presence : Bool) (r : Req) (malformed : Bool) (m : Mod) : Mod × Ans :=
  match opRow rovisaOps r.op with
  | none => (m, ans 0x8002)
  | some row =>
    if r.s.role < row.role || (r.op = 0x0030 && !presence) then (m, ans 0x800C)
    else match tlvFault row malformed r.rq.tlvs with
      | some t => refuse m 0x8001 t 0 0
      | none => if (rvStates r.op).contains m.portState then rvOp presence r m else (m, ans 0x8007)

/-- What follows a reply of the port. -/
def Mod.rvAfter (m : Mod) (k : Nat) : Mod :=
  match k with
  | 7 => m.warmRestart 10
  | 8 => m.requestRestart 10
  | 9 => m.rvEnd
  | _ => m.afterReply 0 k

/-- The request of the port as the shared checks see it. -/
def rvHost (rq : RvReq) : HostReq := { session := rq.session, seq := rq.seq, tlvs := rq.tlvs, malformed := rq.malformed }

/-- A cursor request without a session (R587): registers 0x1D40-0x217F alone. -/
def rvCursor (op : Nat) (rq : RvReq) (m : Mod) : Mod :=
  let r : Req := { s := { role := 3, key := zeroKey }, op := op, rq := rvHost rq }
  let off := r.num 0x0022 0 4
  let within := decide (0x1D40 ≤ off ∧ off + 4 * r.num 0x0022 4 4 ≤ 0x2180)
  let fault := match opRow rovisaOps op with
    | some row => tlvFault row rq.malformed rq.tlvs
    | none => some 0
  let (m, a) : Mod × Ans := match fault with
    | some t => refuse m 0x8001 t 0 0
    | none => if within then rvOp false r m else (m, ans 0x800C)
  m.rvSend zeroKey { opcode := op, status := a.status, seq := rq.seq, tlvs := a.tlvs }

/-- A request on the port (R586-R589): the SEQ window of R417, a credential changed since the opening (R415), the checks of R419, the
command and its reply. -/
def rvRow (op : Nat) (rq : RvReq) (m : Mod) : Mod :=
  if !m.rvServed then m else
    let m := m.onUpd fun u => { u with usbUp := true }
    if rq.session = 0 then (if op = 0x50 ∨ op = 0x51 then rvCursor op rq m else m)
    else match m.upd.session with
      | none => m
      | some x =>
        if x.s.sid ≠ rq.session then m else
          match x.s.judge rq.seq with
          | .out => m.onHost fun h => { h with badSeq := stopAt 0xFFFF (h.badSeq + 1) }
          | .dup => match x.s.cache.find? fun c => c.seq == rq.seq with
            | some c => m.rvSend x.s.key { c with dup := true }
            | none => m
          | .new high seen =>
            if x.s.authLost then (m.rvSend x.s.key { opcode := op, status := 0x8006, seq := rq.seq, session := rq.session }).rvEnd else
            let put (m : Mod) (f : Session → Session) : Mod := m.onUpd fun u => { u with session := u.session.map fun y => { y with s := f y.s } }
            let m := put m fun s => { s with high := high, seen := seen, lastReq := m.host.ms }
            let (m, a) := rvChecked x.presence { s := x.s, op := op, rq := rvHost rq } rq.malformed m
            let c : Reply := { opcode := op, status := a.status, seq := rq.seq, session := rq.session, tlvs := a.tlvs }
            ((put m fun s => { s with cache := (c :: s.cache).take 64 }).rvSend x.s.key c).rvAfter a.after

/-- Row RV_SESSION_IDLE (R586). -/
def rvSessionIdle (m : Mod) : Mod :=
  match m.upd.session with
  | some x => if 600000 ≤ m.host.ms - x.s.lastReq then m.rvEnd else m
  | none => m

/-- Row USB_DISCONNECT (R586, R599). -/
def usbDisconnect (m : Mod) : Mod := (m.onUpd fun u => { u with usbUp := false }).rvEnd

/- The end of a warm supervisor restart (R16, R461, R596, R604) -/

/-- Class V items of storage and time that the supervisor holds: the recorder's cursor (Table 15.15), and a forced step that is armed
(Table 12.7). -/
def StoreSt.noCursor (s : StoreSt) : StoreSt := { s with curPos := 0, curCtrl := 0, curData := [], curEnd := false, curBad := 0 }
def Mod.supVolatile (m : Mod) : Mod :=
  ((((m.onHost fun h => { h with tagFails := [], blocked := [], watches := [], watchCopy := none }).onStore StoreSt.noCursor).onTime
    fun t => { t with forceArmed := none, forcePend := false }).onProt fun p => { p with
      zones := tconv (fun z => { z with seq := 0 }) p.zones }).setPar 0xA0E4 0

/-- Row WARM_RESTART_COMPLETE: the loader chooses a slot (R594) and its SUP component runs; class V items of the supervisor are
lost (R15), a verification is abandoned, and a MODULE trial that has failed ends in a module restart. -/
def warmRestartComplete (bootA bootB : Bool) (m : Mod) : Mod :=
  if !m.plan.warm then m else
    let was := m.upd.runB
    let trial := decide ((m.fwSlot was).st = .trial) && m.upd.trialModule
    let m := (m.onUpd fun u => { u with usbUp := false }).rvEnd
    let m := if m.upd.verifying then
        (m.onInactive fun s => if s.st = .verifying then { s with st := .receiving } else s).onUpd fun u => { u with verifying := false }
      else m
    let (m, slot) := m.supVolatile.bootSelect fun b => if b then bootB else bootA
    let m := (m.onPlan fun p => { p with warm := false, sp0Ok := true, sp1Ok := decide (m.power.state ≠ .parked) }).tellPartner 0
    match slot with
    | none => m.enterRecovery
    | some b =>
      let m := m.bootInto b true
      if trial && b != was then m.requestRestart 10 else m

/- Network links (R37, R614) -/

/-- Row NETWORK_LINK_CHANGE: after LINK_DOWN_HOLD. -/
def networkLinkChange (net : Nat) (up : Bool) (m : Mod) : Mod :=
  if 1 < net then m else
    let bit := BitVec.ofNat 2 (2 ^ net)
    m.onPlan fun p => { p with netUp := if up then p.netUp ||| bit else p.netUp &&& ~~~bit }

end Sys2Proof.Machine
end

