-- ==== Sys2Proof/Machine/Replay.lean ====
section
/-! DEFINITION. What a module of a pair takes from its partner: replay records (R375-R384) and messages of the graft mailbox
(R75, R395, R445, R449, R600). -/

namespace Sys2Proof.Machine

/- The HOST section (R449, R472, Table 10.3) -/

/-- A session that the active module opened: CRED_ID, NONCE and SESSION_INFO give its key (R414, R449). -/
def Mod.replayOpen (m : Mod) (c : RepCmd) : Mod :=
  let k := rdN (tlvVal c.tlvs 0x0001) 0 2
  let info := tlvVal c.tlvs 0x0003
  let key := sessionKey (m.credKey k) "KXHS" (tlvVal c.tlvs 0x0002) (info.drop 12) c.session
  if 16 ≤ m.host.sessions.length || (m.session? c.session).isSome then m else
    m.addSession { slot := m.freeSlot, sid := c.session, cred := k, role := rdN info 4 1, prio := rdN info 5 1, key := key, high := c.seq, seen := 1
                   lastReq := m.host.ms
                   cache := [{ opcode := 1, seq := c.seq, session := c.session, tlvs := [⟨0x0003, info⟩] }] }

/-- Opcodes whose effect the standby repeats from the HOST section: EST_RESET, dispatch, and the clear commands. -/
def replayed (op : Nat) : Bool :=
  op == 0x0152 || (decide (0x0201 ≤ op) && decide (op ≤ 0x0216)) || (decide (0x0401 ≤ op) && decide (op ≤ 0x0407))

/-- One command of the HOST section: its SEQ is accepted, its effect is repeated where the active module did not refuse it, and its reply goes to the
cache (R449). -/
def Mod.replayCmd (m : Mod) (c : RepCmd) : Mod :=
  if c.opcode = 1 then m.replayOpen c
  else if c.opcode = 2 then m.closeSession c.session
  else
    let s := (m.session? c.session).getD {}
    let r : Req := { s := { s with prio := c.prio }, op := c.opcode, rq := { session := c.session, seq := c.seq, tlvs := c.tlvs } }
    let m := match s.judge c.seq with
      | .new high seen => m.onSession c.session fun s => { s with high := high, seen := seen, lastReq := m.host.ms }
      | _ => m
    let m := if c.reply.any fun x => decide (1 < x.status) then m
      else if c.opcode = 0x0701 then (hKeyLoad r m).1
      else if c.opcode = 0x0704 then (if c.reply.any fun x => (tlv? x.tlvs 0x0093).isNone then m.securityErase 0 else m)
      else if c.opcode = 0x0151 then m.logical fun m => (estRestoreCmd r.origin (tlvVal c.tlvs 0x0031) m).1
      else if replayed c.opcode then m.logical fun m => (hostOp r m).1
      else m
    match c.reply with
    | some x => m.cacheReply c.session x
    | none => m

/- Records (R375, R378, R382, R384) -/

/-- The record's grain is the activation grain of the full image that is scheduled here too, and the active module has switched to it (R75). -/
def Mod.planSwitches (m : Mod) (r : ReplayRec) : Bool :=
  match m.plan.scheduled, m.plan.staged with
  | some g, some c => decide (c.kind = 0 ∧ r.planId = c.plan.planId ∧ (r.grain - g).toNat < 2 ^ 31)
  | _, _ => false

/-- The record's plan is the one that runs here, or the one that this module switches to with it; the idle plan is 0 (Table 10.2). -/
def Mod.planMatches (m : Mod) (r : ReplayRec) : Bool :=
  decide (r.planId = if m.plan.mode = .idle then 0 else m.plan.running.planId) || m.planSwitches r

/-- The boundary of a logical grain: that of the plan, then an activation that falls in it (R75). A full image is switched to where the record
shows that the active module has done so. -/
def Mod.replayBoundary (m : Mod) (r : ReplayRec) : Mod :=
  let sw := m.planSwitches r
  (m.logical Mod.planBoundary).logical fun m => bedReplant (if sw then planRestart m else m)

/-- A part of the plan is run as at a tick already past. -/
def Mod.atTick (m : Mod) (t : Nat) (f : Mod → Mod) : Mod :=
  (f (m.onPlan fun p => { p with tick := t })).onPlan fun p => { p with tick := m.plan.tick }

/-- The loops whose slots run in the present tick have retired: a tick already past is caught up with as a whole (log 26). -/
def Mod.loopsRan (m : Mod) : Mod :=
  m.each m.linkStrings fun m n =>
    let ran (r : Role) : Bool := (m.bedSlots n).any fun s => decide (m.slotRole s = r) && runsIn s.startTick s.period m.plan.tick
    m.onLink n fun k => { k with ranSt := ran .stringLoop, ranPh := ran .phaseLoop }

/-- The logical grain's ticks up to the present one: a record is whole some ticks into the grain in which it runs (R378, log 26). -/
def Mod.catchUp (m : Mod) : Mod :=
  (m.atTick 0 fun m => m.logical Mod.tickStart).each (List.range m.plan.tick) fun m t =>
    (m.atTick t fun m => m.replayTick.logical fun m => m.loopsRan.tickEnd).atTick (t + 1) fun m => m.logical Mod.tickStart

/-- Row REPLAY_RECORD_RECEIVE: the record of the grain before, whole and with its trailer by tick 10; it is discarded otherwise, and so is one that
comes as this module takes over, in whose grain no logical grain runs (R389). TRAILER_US shows when the trailer came.
The safe outputs follow its contactor requests; the boundary of its logical grain runs, then what the HOST and LEASE sections
bring for the next. GRAIN_CNT is adopted with the first record that is taken after the lanes are up: R40 says only that it is during
resynchronisation (log 73). -/
def replayRecordReceive (r : ReplayRec) (exch : List (Nat × BedImage)) (m : Mod) : Mod :=
  let p := m.pair
  let inStep := decide (p.sync = .verifying ∨ p.sync = .synced)
  let late := if inStep then (m.plan.grainCnt - (r.grain + 1)).toNat else 0
  if !m.standby || !m.pairOp || p.lanes = 0 || !r.good then m else
  let m := m.onPair fun p => { p with trailerUs := stopAt 0xFFFF (1000 * late + 10 * m.plan.tick + r.sub % 10) }
  if p.join.isNone || decide (10 < m.plan.tick) || p.hbThis || p.hbJudged || m.takeoverDue.isSome || late ≠ 0 then m
  else
    let m := m.onPlan fun x => { x with grainCnt := r.grain + 1 }
    let m := m.onPair fun p => { p with
      hbThis := true, hbSeen := true, hbMiss := 0, noRecord := 0
      hbNoYield := if !p.partnerRole && r.handover.isNone then stopAt 3 (p.hbNoYield + 1) else 0
      announced := if r.handover.isSome then r.handover else p.announced, announcedDrill := if r.handover.isSome then r.drill else p.announcedDrill }
    let m := m.followContact r.contact
    let m := m.resyncGrain none none exch
    let m := m.each r.rings fun m e => (m.onRing e.1 fun x => { x with cont := e.2.cont }).partnerTone e.1 e.2.tone
    let m := m.onPair fun p => { p with partnerLock := setLocks p.partnerLock (r.rings.map fun e => (e.1, decide (e.2.lock &&& ~~~m.ownBit ≠ 0))) }
    let m := if m.planMatches r then ((m.onPair fun p => { p with record := some r }).replayBoundary r).catchUp else m
    let m := m.each r.cmds Mod.replayCmd
    let m := if r.params.isEmpty then m else m.writeParams r.params
    let m := m.each r.tx fun m e => m.onObj e.1 e.2.1 fun x => { x with txData := e.2.2 }
    let m := match r.activate with
      | some g => m.schedule g
      | none => m
    (m.onDisp fun d => { d with owner := r.owner, ownerPrio := r.ownerPrio, exp := r.exp }).onTime fun t => { t with
      epoch := r.epoch, epochNext := none, timeValid := r.timeValid }

/- Messages of the graft mailbox -/

/-- A STOP or TRIP that the standby forwards (R449): the command runs here, and its reply goes back; a later copy is answered as a duplicate
(R409, R417). -/
def Mod.forwarded (m : Mod) (op : Nat) (body : List Byte) : Mod :=
  let sid := rdN body 0 4
  let seq : W32 := BitVec.ofNat 32 (rdN body 4 4)
  let answer (m : Mod) (st : Nat) : Mod :=
    m.reply sid { opcode := op, status := st, seq := seq, session := sid, grain := if st = 0 then m.effGrain else 0 }
  match m.session? sid with
  | none => m
  | some s =>
    match s.judge seq with
    | .new high seen =>
      let m := (m.onSession sid fun s => { s with high := high, seen := seen, lastReq := m.host.ms }).await sid ⟨seq, .partner, false⟩
      let m := m.capture fun c => { c with cmds := c.cmds ++
        [{ opcode := op, session := sid, seq := seq, prio := s.prio, tlvs := [⟨0x0040, leN 4 (rdN body 8 4)⟩] }] }
      if op = 0x0215 then answer (tripCmd sid (rdN body 8 4) m) 0
      else if m.plan.mode = .stopped then answer m 0x8007
      else m.onDisp fun d => { d with cmds := d.cmds ++ [{ opcode := op, session := sid, seq := seq, prio := s.prio }] }
    | .dup =>
      let x := m.again s seq .partner
      match x.2 with
      | some r => x.1.sendReplyTo s.key .partner r
      | none => x.1
    | .out => m

/-- The reply to a forwarded command goes to each copy of it that the host sent here (R408, R409). -/
def Mod.forwardReply (m : Mod) (body : List Byte) : Mod :=
  m.reply (rdN body 4 4) { opcode := rdN body 0 2, status := rdN body 2 2, seq := BitVec.ofNat 32 (rdN body 8 4), session := rdN body 4 4
                           grain := rdN body 12 4, dup := rdN body 16 1 == 1 }

/-- A message that a host passed on to this module's supervisor (R445): session and content, which stands in the area where it stood in the
partner's. -/
def Mod.graftMessage (m : Mod) (ptr len type : Nat) (body : List Byte) : Mod :=
  let bs := (body.drop 4).take (0x1000000 - ptr)
  ((m.xaPut ptr bs).xaUnpoison ptr bs.length).onMbx 16 fun b => { b.post ptr len type 0 m.host.ms with inSid := rdN body 0 4 }

/-- The replies of a batch that the partner's supervisor executed for a session of this module (R447): session, place and bytes. -/
def Mod.graftBatch (m : Mod) (body : List Byte) : Mod :=
  let off := rdN body 4 4
  let bs := (body.drop 8).take (0x1000000 - off)
  let m := (m.xaPut off bs).xaUnpoison off bs.length
  match m.session? (rdN body 0 4) with
  | some s => m.mbxOut s.slot off bs.length 0x0081 1
  | none => m

/-- An image of the running plan (R395): the full image first (type 0), then its bed images (type 1); none (type 2) under the
idle plan. `left` images are still to come. A refused image leaves the pair incompatible. -/
def Mod.planImage (m : Mod) (type left : Nat) (img : List Byte) : Mod :=
  if m.pair.incompat then m
  else if type = 2 then (m.onPlan fun p => { p with running := m.idlePlan, mode := .idle }).onPair fun p => { p with planCopy := true }
  else
    match m.checkImage (if type = 0 then none else some m.plan.running) img img.length with
    | some (code, bed) => (m.planRefused (imgKind img) (imgPlanId img) code bed 0).onPair fun p => { p with incompat := true }
    | none =>
      let old := m.plan.running
      let bedOld (n : Nat) : Option Bed := old.beds.find? fun x => x.bed == n
      let m := m.onPlan fun p => ({ p with running := planOf (if type = 0 then {} else old) img, mode := .admitted } : PlanSt).loadTables
      let m := m.each strings fun m n =>
        if m.bed? n = bedOld n then m
        else if m.configured n then m.bedStarts n (bedOld n)
        else if (bedOld n).isSome then m.unconfigure n
        else m
      let m := m.onPlan PlanSt.reprepare
      let m := m.onPair fun p => { p with resyncDue := p.resyncDue || (p.resyncFrom.isSome && decide (old ≠ m.plan.running)) }
      if left = 0 then m.onPair fun p => { p with planCopy := true } else m

/-- The active module cancels an activation (R76), or discards the candidate (cause 0, R63): both end here too. -/
def Mod.partnerCancels (m : Mod) (cause : Nat) : Mod :=
  let m := m.cancelActivation cause
  if cause = 0 then m.onPlan fun p => { p.abandon with staged := none, scheduled := none } else m

/-- The active module announces its yield for grain `t`: a scheduled activation is cancelled (R76, R388). -/
def Mod.yieldAnnounced (m : Mod) (t : W32) (drill : Bool) : Mod :=
  (m.onPair fun p => { p with announced := some t, announcedDrill := drill }).cancelActivation 2

/-- The partner reports its versions (R395, R600): the active module answers with its own and forwards its running plan; a module
that joins judges them. -/
def Mod.versionsReport (m : Mod) (v : PartnerVer) : Mod :=
  let m := m.onPair fun p => { p with partnerVer := some v }
  if m.pair.role then (m.out (.graft 7 m.plan.grainCnt m.upd.running.versions.bytes)).sendPlan
  else if m.versCompat m.upd.running.versions v then m
  else m.onPair fun p => { p with incompat := true }

/-- The standby sends the command of a window that the active module assigns to its ring end (R97, R396): ring, end, start and
frame. An ENUM begins a new enumeration from that end. -/
def Mod.chainWindow (m : Mod) (body : List Byte) : Mod :=
  let m := if rdN body 10 1 = ChainCmd.enum.opcode then
    m.onPair fun p => { p with endSeen := p.endSeen.filter fun e => e.1 != rdN body 0 1 } else m
  m.out (.chain (rdN body 0 1) (if rdN body 1 1 = 0 then .A else .B) (rdN body 2 4) (body.drop 6))

/-- The standby's resynchronisation begins at boundary `g` (R384). -/
def Mod.resyncAsked (m : Mod) (g : W32) : Mod := m.onPair fun p => { p with resyncFrom := some g }

/-- Row GRAFT_MAILBOX_RECEIVE: kind 0 a message a host passed on, 1 a forwarded STOP, 2 a forwarded TRIP, 3 a candidate of the
active module, 4 a yield announced, 5 the report on a candidate, 6 an image of the running plan, 7 versions, 8 a digest mismatch
that the standby found, 9 the reply to a forwarded command, 10 the partner's supervisor running (type 0), in a warm restart (type 1) or in
reset (type 2), 11 the partner's supervisor has taken the message of the graft mailbox, 20 a window
for a chain transaction of this module's ring end (R97, R396), 21 the grain of an activation (R75), 22 a cancellation (R63, R76), 23 the
replies of a batch that the partner's supervisor executed (R447), 24 the boundary of a resynchronisation (R384), 25 a joining module's demand for the
enumeration of its ring ends (R395). -/
def graftMailboxReceive (kind ptr len type : Nat) (body : List Byte) (m : Mod) : Mod :=
  if !m.pairOp || m.pair.lanes = 0 then m else
    let m := m.onPair fun p => { p with
      partnerDown := decide (kind = 10 ∧ 2 ≤ type), partnerWarm := if kind = 10 then decide (type = 1) else p.partnerWarm }
    match kind with
    | 0 => m.graftMessage ptr len type body
    | 1 => if m.pair.role then m.forwarded 0x0213 body else m
    | 2 => if m.pair.role then m.forwarded 0x0215 body else m
    | 3 => if m.standby then m.graftCandidate body else m
    | 4 => if m.standby then m.yieldAnnounced (BitVec.ofNat 32 ptr) (decide (type = 1)) else m
    | 5 => if m.pair.role then m.candidateReport (rdN body 0 1) else m
    | 6 => if m.standby && m.pair.join.isSome && decide (m.pair.join ≠ some .lanes) then m.planImage type len body else m
    | 7 => m.versionsReport (versionsOf body)
    | 8 => if m.pair.role then m.mismatch (BitVec.ofNat 32 ptr) (rdN body 0 5) else m
    | 9 => if m.standby then m.forwardReply body else m
    | 11 => m.onMbx 16 fun b => { b with outFull := false }
    | 23 => m.graftBatch body
    | 24 => if m.pair.role then m.resyncAsked (BitVec.ofNat 32 ptr) else m
    | 25 => if m.pair.role then m.each m.confStrings fun m n => m.startEnum n false else m
    | 20 => if m.standby then m.chainWindow body else m
    | 21 => if m.standby then m.schedule (BitVec.ofNat 32 ptr) else m
    | 22 => if m.standby then m.partnerCancels (rdN body 0 1) else m
    | _ => m

end Sys2Proof.Machine
end

