-- ==== Sys2Proof/Machine/State.lean ====
section
/-! DEFINITION. The state of the block, the reasons a step can stop, and the state after reset. -/

namespace Sys2Proof.Machine

/-- The reasons a command can stop the block with a fault. The spec gives every command an effect in every state, so
none is raised. -/
inductive Fault where
  /-- raised by nothing: kept so that the type is inhabited. Safe. -/
  | unused
deriving DecidableEq, Repr, Inhabited

/-- The reasons a command is refused. -/
inductive Refusal where
  /-- raised by an arm of the dispatch whose meaning is not written; safe. -/
  | notModelled (mnemonic : String)
deriving DecidableEq, Repr, Inhabited

/-- One copy of the point directory (R18): the grain whose values it holds, whether it is complete, and the module as it
stood when the copy was written, from which every point of the copy is computed. -/
structure DirCopy where
  grain : W32 := 0
  complete : Bool := false
  snap : Mod := {}
deriving DecidableEq, Repr, Inhabited

/-- The block: the module, the two copies of the point directory, and the commands that wait, first in, first out. -/
structure State where
  m : Mod := {}
  /-- directory copies 0 and 1, 64 MiB of plan DRAM; R18 (01), R55 (02); reset: DESIGN CHOICE not complete (log 3) -/
  dir0 : DirCopy := {}
  dir1 : DirCopy := {}
  /-- the bed image of the present grain, which replaces the standby's result at the next boundary, and its bed; R384 (10); reset: DESIGN CHOICE none (log 3) -/
  resync : Option (Nat × BedImage) := none
  /-- commands waiting; the model's own field (log 1); reset: none -/
  pending : List Instr := []
deriving DecidableEq, Repr, Inhabited

/-- The module right after reset: every field at the value the spec gives for reset, or the one the log names. -/
def State.reset : State := {}

/-- A command whose effect is a change of the module. -/
def State.upd (s : State) (m : Mod) : Host.Outcome State Fault Refusal := .next { s with m := m }

end Sys2Proof.Machine
end

