-- ==== Sys2Proof/Machine/Run.lean ====
section
/-! DEFINITION. How a command reaches the module: which parts of it must be powered and running for the command's event to happen
(R554-R562, R594), and the commands that touch the two copies of the point directory (R18). -/

namespace Sys2Proof.Machine

/-- The module is powered and past its stores' charging: it runs, is parked, fails, or is in RECOVERY. -/
def Mod.powered (m : Mod) : Bool := m.upd.recovery || decide (m.power.state = .running ∨ m.power.state = .parked ∨ m.power.state = .failing)

/-- Fabric, front ends, ADC and CAN ports are powered (R561, R562, R594). -/
def Mod.fabricOn (m : Mod) : Bool := decide (m.power.state = .running ∨ m.power.state = .failing) && !m.upd.recovery

/-- The plan runs. -/
def Mod.planOn (m : Mod) : Bool := m.fabricOn && decide (m.plan.mode ≠ .stopped)

/-- A command acts where its condition holds; else its event cannot happen, and nothing changes. -/
def State.when (s : State) (c : Bool) (f : Mod → Mod) : Host.Outcome State Fault Refusal := .next (if c then { s with m := f s.m } else s)

/-- Events that need no power, or judge it themselves; `ok` says that the operands name items the module has. -/
def State.any (s : State) (ok : Bool) (f : Mod → Mod) : Host.Outcome State Fault Refusal := s.when ok f
/-- Events of a powered module. -/
def State.on (s : State) (ok : Bool) (f : Mod → Mod) : Host.Outcome State Fault Refusal := s.when (ok && s.m.powered) f
/-- Events of the supervisor while it runs (R16). -/
def State.sup (s : State) (ok : Bool) (f : Mod → Mod) : Host.Outcome State Fault Refusal := s.when (ok && s.m.supRuns) f
/-- Events of the fabric, the front ends, the ADC and the CAN ports. -/
def State.fab (s : State) (ok : Bool) (f : Mod → Mod) : Host.Outcome State Fault Refusal := s.when (ok && s.m.fabricOn) f
/-- Events of the running plan. -/
def State.plan (s : State) (ok : Bool) (f : Mod → Mod) : Host.Outcome State Fault Refusal := s.when (ok && s.m.planOn) f
/-- Events at the ports of the module that runs the plan; the standby has them from its replay record (R378). -/
def State.act (s : State) (ok : Bool) (f : Mod → Mod) : Host.Outcome State Fault Refusal := s.when (ok && s.m.planOn && !s.m.standby) f
/-- Events of the plan's own state, which the standby runs for the logical grain of its record (R378). -/
def State.lgc (s : State) (ok : Bool) (f : Mod → Mod) : Host.Outcome State Fault Refusal :=
  s.when (ok && s.m.planOn) fun m => m.logical f

/-- Starts and losses of power: before the first grain no copy of the directory is complete (R18). -/
def State.start (s : State) (ok : Bool) (f : Mod → Mod) : Host.Outcome State Fault Refusal :=
  let m := if ok then f s.m else s.m
  .next (if m.plan.firstGrain then { s with m := m } else { s with m := m, dir0 := {}, dir1 := {}, resync := none })

/-- A grain boundary (R40); the image of a bed replaces the standby's result of the grain that ends (R384). -/
def State.grain (s : State) (f : Mod → Mod) : Host.Outcome State Fault Refusal :=
  if s.m.planOn && s.m.boundaryDue then
    .next (match s.resync with
      | some (b, img) => { s with m := f (s.m.resyncGrain (some b) (some img) []), resync := none }
      | none => { s with m := f s.m })
  else .next s

/-- A replay record (R379): its bed image waits for the boundary. -/
def State.replay (s : State) (r : ReplayRec) (image : Option BedImage) (exch : List (Nat × BedImage)) : Host.Outcome State Fault Refusal :=
  if s.m.fabricOn then
    let m := replayRecordReceive r exch s.m
    .next (match r.resyncBed, image, m.pair.hbThis && !s.m.pair.hbThis with
      | some b, some img, true => { s with m := m, resync := some (b, img) }
      | _, _, _ => { s with m := m })
  else .next s

/-- The newest complete copy of the point directory, with its grain (R18). -/
def State.dir (s : State) : Option (W32 × Mod) :=
  let one (d : DirCopy) : Option (W32 × Mod) := if d.complete then some (d.grain, d.snap) else none
  match one s.dir0, one s.dir1 with
  | some a, some b => if (a.1 - b.1).toNat < 2 ^ 31 then some a else some b
  | some a, none => some a
  | none, b => b

/-- The number of the grain whose values the plan computes now: the logical grain in the standby (R378). -/
def Mod.valueGrain (m : Mod) : W32 := match m.standby, m.pair.record with | true, some r => r.grain | _, _ => m.plan.grainCnt

/-- Copy `g mod 2` of the directory is written and marked complete, its CAN objects as they stood at tick 0 (R481); one that no watch has
evaluated is passed over (R18, R440). -/
def State.publish (s : State) : State :=
  let g := s.m.valueGrain
  let objs (e : Nat × CanPort) : Nat × CanPort := (e.1, { e.2 with objs := tget s.m.can.tick0 e.1 })
  let d : DirCopy := { grain := g, complete := true, snap := { s.m with sent := [], can := { s.m.can with ports := s.m.can.ports.map objs } } }
  let s := { s with m := s.m.watchPassed (s.dir.map Prod.fst) }
  if g.getLsbD 0 then { s with dir1 := d } else { s with dir0 := d }

/-- A slot runs (R45); `pub` where it is the one that publishes the directory. -/
def State.slot (s : State) (ok pub : Bool) (f : Mod → Mod) : Host.Outcome State Fault Refusal :=
  if ok && s.m.planOn then
    let s' := { s with m := f s.m }
    .next (if pub then s'.publish else s')
  else .next s

end Sys2Proof.Machine
end

