-- ==== Sys2Proof/Machine/RowsChain.lean ====
section
/-! DEFINITION. The commands of the chains and the estimators (spec files 03 to 05): one meaning for each row of the operation table. -/

namespace Sys2Proof.Machine

/-- CHAIN_RESPONSE (R106): A response frame from a monitor arrives at a ring end and is accepted or discarded. -/
def execChainResponse (ring : Nat) (rx : ChainRx) (s : State) : Host.Outcome State Fault Refusal :=
  s.plan (okString ring) (chainResponseOwn ring rx)

/-- CHAIN_TRANSACTION_CLOSE (R107): The response window of a chain transaction ends and missing responses are handled, with retries or MON_NORESP. -/
def execChainTransactionClose (ring : Nat) (far : Option Nat) (s : State) : Host.Outcome State Fault Refusal :=
  s.act (okString ring) (chainCloseOwn ring far)

/-- ENUM_RETRY (R117): Every 1 s after an enumeration fault the ring is enumerated again. -/
def execEnumRetry (ring : Nat) (s : State) : Host.Outcome State Fault Refusal := s.lgc (okString ring) (enumRetry ring)

/-- AUTH_READ_DUE (R122): Two grains after a challenge the module sends AUTH_READ and verifies the tag. -/
def execAuthReadDue (ring mon : Nat) (s : State) : Host.Outcome State Fault Refusal := s.lgc (okMon ring mon) (authReadDue ring mon)

/-- AUTH_TIMEOUT (R122): No tag within 10 grains of a challenge records AUTH_FAIL and marks the cells UNAUTH. -/
def execAuthTimeout (ring mon : Nat) (s : State) : Host.Outcome State Fault Refusal := s.lgc (okMon ring mon) (authTimeout ring mon)

/-- REAUTH_DUE (R122): The 60 s or 600 s repeat of monitor authentication falls due. -/
def execReauthDue (ring mon : Nat) (nonce : List Byte) (s : State) : Host.Outcome State Fault Refusal :=
  s.lgc (okMon ring mon) (reauthDue ring mon nonce)

/-- RING_WAKE_DONE (R125): 10 ms after its wake tone began the module sends ENUM as the first command to the woken ring. -/
def execRingWakeDone (ring : Nat) (s : State) : Host.Outcome State Fault Refusal := s.lgc (okString ring) (ringWakeDone ring)

/-- MONITOR_WAKE_TONE (R126): Wake tone not sent by the module arrives at a ring end and the ring is treated as woken. -/
def execMonitorWakeTone (ring : Nat) (e : RingEnd) (s : State) : Host.Outcome State Fault Refusal :=
  s.lgc (okString ring) (monitorWakeTone ring e)

/-- ALARM_TONE_DECLARED (R150): Alarm tone is declared at a ring end, and the safety processor trips the link, latches TONE_TRIP and opens the contactor. -/
def execAlarmToneDeclared (ring : Nat) (e : RingEnd) (s : State) : Host.Outcome State Fault Refusal :=
  s.fab (okString ring) (alarmToneDeclared ring e)

/-- ALARM_TONE_ABSENT (R92): Alarm tone is declared absent at a ring end after two missing periods. -/
def execAlarmToneAbsent (ring : Nat) (e : RingEnd) (s : State) : Host.Outcome State Fault Refusal :=
  s.fab (okString ring) (alarmToneAbsent ring e)

/-- TONE_DETECTOR_TEST (R153): Every 10 s the safety processor injects a test tone into each configured ring-end detector. -/
def execToneDetectorTest (ring : Nat) (failed : BitVec 2) (s : State) : Host.Outcome State Fault Refusal :=
  s.fab (okString ring) (toneDetectorTest ring failed)

/-- SENSE_OPEN_HOLD_EXPIRY (R159): SENSE_OPEN_HOLD after confirmation of an interior open tap the module issues a string-open request. -/
def execSenseOpenHoldExpiry (ring mon tap : Nat) (s : State) : Host.Outcome State Fault Refusal :=
  s.lgc (okTap ring mon tap) (senseOpenHoldExpiry ring mon tap)

/-- FULL_TEST_DUE (R162): A monitor's periodic full open-wire test falls due within OW_PERIOD. -/
def execFullTestDue (ring mon : Nat) (s : State) : Host.Outcome State Fault Refusal := s.lgc (okMon ring mon) (fullTestDue ring mon)

/-- BALANCE_PLAN (R163): Every BAL_PERIOD the fabric computes each cell's charge to bleed and the timers to write. -/
def execBalancePlan (string : Nat) (s : State) : Host.Outcome State Fault Refusal := s.lgc (okString string) (balancePlan string)

/-- REST_ANCHOR (R193): Rest reaching EST_REST_MIN, EST_REST_T or each further 600 s takes a rest anchor. -/
def execRestAnchor (string : Nat) (s : State) : Host.Outcome State Fault Refusal := s.lgc (okString string) (restAnchor string)

/-- IMPEDANCE_INTERVAL_END (R202): A 10,000-grain impedance interval ends, results are validated, fitted and impedance anchors taken. -/
def execImpedanceIntervalEnd (s : State) : Host.Outcome State Fault Refusal := s.lgc true impedanceIntervalEnd

/-- ANOMALY_CLEAR (R185): 3,600 s without a deviating reading clears CFLAGS.ANOMALY. -/
def execAnomalyClear (gidx : Nat) (s : State) : Host.Outcome State Fault Refusal := s.lgc (okCell gidx) (anomalyClear gidx)

/-- CHECKPOINT_CAPTURE (R211): In its grain the fabric copies a string's estimator state into the checkpoint buffer. -/
def execCheckpointCapture (string : Nat) (s : State) : Host.Outcome State Fault Refusal :=
  s.lgc (okString string) (checkpointCapture string)

/-- CHECKPOINT_WRITE_COMPLETE (R541): A checkpoint's final page becomes durable and the checkpoint counts as written. -/
def execCheckpointWriteComplete (string : Nat) (ok : Bool) (s : State) : Host.Outcome State Fault Refusal :=
  s.on (okString string) (checkpointWriteComplete string ok)

/-- EST_RESTORE_COMPLETE (R214): A host restore finishes applying records and sends its completion notice. -/
def execEstRestoreComplete (s : State) : Host.Outcome State Fault Refusal := s.lgc true estRestoreComplete

/-- RESTORE_WAIT_EXPIRY (R215): EST_RESTORE_WAIT after the local restore the string's estimator becomes ready. -/
def execRestoreWaitExpiry (string : Nat) (s : State) : Host.Outcome State Fault Refusal :=
  s.lgc (okString string) (restoreWaitExpiry string)

end Sys2Proof.Machine
end

