-- ==== Sys2Proof/Machine/RowsConv.lean ====
section
/-! DEFINITION. The commands of the converters and dispatch (spec files 06 and 07): one meaning for each row of the operation table. -/

namespace Sys2Proof.Machine

/-- UPSTREAM_FRAME (R230): An upstream frame arrives from a far end and is accepted within the alignment window or discarded. -/
def execUpstreamFrame (link : Nat) (frame : UpFrame) (s : State) : Host.Outcome State Fault Refusal :=
  s.fab (okString link) (upstreamFrame link frame)

/-- KLINK_LOST (R239): 50 successive discarded upstream frames send LOCAL_RAMP and record KLINK_LOST. -/
def execKlinkLost (link : Nat) (s : State) : Host.Outcome State Fault Refusal := s.fab (okString link) (klinkLost link)

/-- LOCAL_RAMP_TIMEOUT (R239): Upstream frames not returned within 3 ms of LOCAL_RAMP issue a string-open request. -/
def execLocalRampTimeout (link : Nat) (s : State) : Host.Outcome State Fault Refusal := s.lgc (okString link) (localRampTimeout link)

/-- FIBRE_DELAY_MEASURE (R234): After 16 training frames the module writes FIBRE_DELAY or faults the link for LONG_FIBRE. -/
def execFibreDelayMeasure (link : Nat) (s : State) : Host.Outcome State Fault Refusal := s.fab (okString link) (fibreDelayMeasure link)

/-- LINK_ALIGNED (R234): 100 successive frames within ±20 ns of A align the link and identity is read. -/
def execLinkAligned (link : Nat) (s : State) : Host.Outcome State Fault Refusal := s.fab (okString link) (linkAligned link)

/-- ALIGNMENT_LOST (R234): 16 successive frames outside ±40 ns of A send the link back through training. -/
def execAlignmentLost (link : Nat) (s : State) : Host.Outcome State Fault Refusal := s.fab (okString link) (alignmentLost link)

/-- REG_TIMEOUT (R235): A far-end register access unanswered for 8 frames is recorded and the next access begins. -/
def execRegTimeout (link : Nat) (s : State) : Host.Outcome State Fault Refusal := s.fab (okString link) (regTimeout link)

/-- TRIP_REQUEST (R236): A trip request reaches a link injector and K28.6 symbols are sent until it ends. -/
def execTripRequest (link : Nat) (s : State) : Host.Outcome State Fault Refusal := s.fab (okString link) (tripRequestRow link)

/-- PRUNE_COMMIT (R247): A pending pruning decision commits at the boundary of G+3 and offsets are respread. -/
def execPruneCommit (link : Nat) (s : State) : Host.Outcome State Fault Refusal := s.lgc (okString link) (pruneCommit link)

/-- ARM_TIMER_EXPIRY (R246): A shed phase armed 5 ms with no add becomes DISABLED. -/
def execArmTimerExpiry (link phase : Nat) (s : State) : Host.Outcome State Fault Refusal :=
  s.lgc (okPhase link phase) (armTimerExpiry link phase)

/-- HICCUP_ENTRY (R246): HICCUP_N successive limited cycles send a phase to HICCUP or LATCHED. -/
def execHiccupEntry (link phase : Nat) (s : State) : Host.Outcome State Fault Refusal := s.lgc (okPhase link phase) (hiccupEntry link phase)

/-- HICCUP_TIME_EXPIRY (R246): HICCUP_TIME elapsed returns a phase to SOFT with a ramped reference. -/
def execHiccupTimeExpiry (link phase : Nat) (s : State) : Host.Outcome State Fault Refusal :=
  s.lgc (okPhase link phase) (hiccupTimeExpiry link phase)

/-- HICCUP_CLEAR_EXPIRY (R246): HICCUP_CLEAR seconds without a hiccup return the retries used to 0. -/
def execHiccupClearExpiry (link phase : Nat) (s : State) : Host.Outcome State Fault Refusal :=
  s.lgc (okPhase link phase) (hiccupClearExpiry link phase)

/-- PHASE_OPEN_DETECT (R249): OPEN_N successive samples meeting the open condition latch the phase with cause OPEN. -/
def execPhaseOpenDetect (link phase : Nat) (s : State) : Host.Outcome State Fault Refusal :=
  s.lgc (okPhase link phase) (phaseOpenDetect link phase)

/-- PHASE_SENSE_FAIL (R250): A stuck or deviating phase current sense makes the phase MIRRORED or LATCHED. -/
def execPhaseSenseFail (link phase : Nat) (s : State) : Host.Outcome State Fault Refusal :=
  s.lgc (okPhase link phase) (phaseSenseFail link phase)

/-- MIRROR_TIMEOUT (R246): 2 s in MIRRORED latch the phase with cause SENSE. -/
def execMirrorTimeout (link phase : Nat) (s : State) : Host.Outcome State Fault Refusal :=
  s.lgc (okPhase link phase) (mirrorTimeout link phase)

/-- PHASE_FOLLOW_LATCH (R244): FE_PH_N successive phase following errors latch the phase with cause FOLLOW. -/
def execPhaseFollowLatch (link phase : Nat) (s : State) : Host.Outcome State Fault Refusal :=
  s.lgc (okPhase link phase) (phaseFollowLatch link phase)

/-- STRING_FOLLOW_STOP (R244): FE_ST_N successive string following errors send the string to SOFT_STOP then FAULT. -/
def execStringFollowStop (link : Nat) (s : State) : Host.Outcome State Fault Refusal := s.lgc (okString link) (stringFollowStop link)

/-- POWER_FOLLOW_FLAG (R244): FE_PW_N successive power following errors set FOLLOW_PW and record it. -/
def execPowerFollowFlag (link : Nat) (s : State) : Host.Outcome State Fault Refusal := s.lgc (okString link) (powerFollowFlag link)

/-- BURST_ENTRY (R245): |p_ref| below BURST_ENTER for 100 grains moves the link to BURST. -/
def execBurstEntry (link : Nat) (s : State) : Host.Outcome State Fault Refusal := s.lgc (okString link) (burstEntry link)

/-- BURST_PHASE_RESELECT (R248): Every 10 s the burst phase is chosen again. -/
def execBurstPhaseReselect (link : Nat) (s : State) : Host.Outcome State Fault Refusal := s.lgc (okString link) (burstPhaseReselect link)

/-- SOFT_STOP_COMPLETE (R245): String current below 1 % for 10 grains ends SOFT_STOP to OFF or FAULT. -/
def execSoftStopComplete (link : Nat) (s : State) : Host.Outcome State Fault Refusal := s.lgc (okString link) (softStopComplete link)

/-- SOFT_STOP_TIMEOUT (R245): SOFT_STOP_MAX elapsed trips the link. -/
def execSoftStopTimeout (link : Nat) (s : State) : Host.Outcome State Fault Refusal := s.lgc (okString link) (softStopTimeout link)

/-- LEASE_EXPIRY (R260): Grain EXP reached frees the lease and applies LEASE_EXPIRY_ACTION. -/
def execLeaseExpiry (s : State) : Host.Outcome State Fault Refusal := s.lgc true leaseExpiry

/-- SOURCE_FAULT (R269): AI_BAD_GRAINS or ten invalid grains of the set-point source make a source fault. -/
def execSourceFault (s : State) : Host.Outcome State Fault Refusal := s.lgc true sourceFault

/-- SOURCE_RECOVER (R269): SRC_RECOVER successive valid grains clear a source fault. -/
def execSourceRecover (s : State) : Host.Outcome State Fault Refusal := s.lgc true sourceRecover

/-- REST_WINDOW_END (R291): REST_WIN_LEN elapsed ends a rest window and the string's weight rises again. -/
def execRestWindowEnd (string : Nat) (s : State) : Host.Outcome State Fault Refusal := s.lgc (okString string) (restWindowEnd string)

/-- REST_PEND_EXPIRY (R292): A request standing REST_PEND_MAX without grant is refused and REST_DENIED set. -/
def execRestPendExpiry (string : Nat) (s : State) : Host.Outcome State Fault Refusal := s.lgc (okString string) (restPendExpiry string)

/-- SERVICE_COMPLETE (R288): Every string named in STRING_SERVICE has succeeded or failed and the completion notice is sent. -/
def execServiceComplete (s : State) : Host.Outcome State Fault Refusal := s.lgc true serviceComplete

end Sys2Proof.Machine
end

