-- ==== Sys2Proof/Machine/RowsHost.lean ====
section
/-! DEFINITION. The commands of the host command interface and the security commands (spec files 11 and 16): one meaning for each row of the operation table. -/

namespace Sys2Proof.Machine

/-- UDP_PACKET_RECEIVE (R413): A command packet arrives and is discarded or checked and executed. -/
def execUdpPacketReceive (net addr port dest : Nat) (bytes : List Byte) (s : State) : Host.Outcome State Fault Refusal :=
  s.on (okTwo net) (udpPacketReceive net addr port dest bytes s.dir)

/-- SESSION_OPEN (R414): SESSION_OPEN opens a session under a credential and derives the session key. -/
def execSessionOpen (rq : HostReq) (s : State) : Host.Outcome State Fault Refusal := s.on true (sessionOpen rq)

/-- SESSION_CLOSE (R415): SESSION_CLOSE closes the session, its streams, mailbox and notice queue. -/
def execSessionClose (rq : HostReq) (s : State) : Host.Outcome State Fault Refusal := s.on true (hostRow 0x0002 rq s.dir)

/-- NOP (R423): NOP keeps the session alive. -/
def execNop (rq : HostReq) (s : State) : Host.Outcome State Fault Refusal := s.on true (hostRow 0x0003 rq s.dir)

/-- NOTICE_ACK (R422): NOTICE_ACK acknowledges a notice and removes it from the queue. -/
def execNoticeAck (rq : HostReq) (s : State) : Host.Outcome State Fault Refusal := s.on true (hostRow 0x0004 rq s.dir)

/-- POINT_READ (R430): POINT_READ returns points from one complete directory copy. -/
def execPointRead (rq : HostReq) (s : State) : Host.Outcome State Fault Refusal := s.on true (hostRow 0x0101 rq s.dir)

/-- STREAM_OPEN (R431): STREAM_OPEN opens a point stream within the stream limits. -/
def execStreamOpen (rq : HostReq) (s : State) : Host.Outcome State Fault Refusal := s.on true (hostRow 0x0102 rq s.dir)

/-- STREAM_CLOSE (R431): STREAM_CLOSE closes a point stream. -/
def execStreamClose (rq : HostReq) (s : State) : Host.Outcome State Fault Refusal := s.on true (hostRow 0x0103 rq s.dir)

/-- PARAM_READ (R435): PARAM_READ returns parameter values with their types. -/
def execParamRead (rq : HostReq) (s : State) : Host.Outcome State Fault Refusal := s.on true (hostRow 0x0110 rq s.dir)

/-- PARAM_WRITE (R435): PARAM_WRITE checks every entry and applies all in one effective grain. -/
def execParamWrite (rq : HostReq) (s : State) : Host.Outcome State Fault Refusal := s.on true (hostRow 0x0111 rq s.dir)

/-- DIAG_READ (R441): DIAG_READ returns diagnostic-window registers in ascending order. -/
def execDiagRead (rq : HostReq) (s : State) : Host.Outcome State Fault Refusal := s.on true (hostRow 0x0120 rq s.dir)

/-- DIAG_WRITE (R441): DIAG_WRITE writes registers that have no row of their own, under Table 0.4. -/
def execDiagWrite (rq : HostReq) (s : State) : Host.Outcome State Fault Refusal := s.on true (hostRow 0x0121 rq s.dir)

/-- XA_READ (R442): XA_READ returns bytes from the host exchange area. -/
def execXaRead (rq : HostReq) (s : State) : Host.Outcome State Fault Refusal := s.on true (hostRow 0x0130 rq s.dir)

/-- XA_WRITE (R443): XA_WRITE writes bytes into the host exchange area whole. -/
def execXaWrite (rq : HostReq) (s : State) : Host.Outcome State Fault Refusal := s.on true (hostRow 0x0131 rq s.dir)

/-- MBX_POST (R445): MBX_POST fills the inbound mailbox and interrupts the supervisor or forwards to the partner. -/
def execMbxPost (rq : HostReq) (s : State) : Host.Outcome State Fault Refusal := s.on true (hostRow 0x0140 rq s.dir)

/-- MBX_READ (R447): MBX_READ returns the outbound mailbox. -/
def execMbxRead (rq : HostReq) (s : State) : Host.Outcome State Fault Refusal := s.on true (hostRow 0x0141 rq s.dir)

/-- MBX_ACK (R447): MBX_ACK releases the outbound mailbox and clears collision or CROSS bits. -/
def execMbxAck (rq : HostReq) (s : State) : Host.Outcome State Fault Refusal := s.on true (hostRow 0x0142 rq s.dir)

/-- EST_READ (R217): EST_READ writes the cell estimate records to DEST. -/
def execEstRead (rq : HostReq) (s : State) : Host.Outcome State Fault Refusal := s.on true (hostRow 0x0150 rq s.dir)

/-- EST_RESTORE (R214): EST_RESTORE checks a restore image and starts applying it. -/
def execEstRestore (rq : HostReq) (s : State) : Host.Outcome State Fault Refusal := s.on true (hostRow 0x0151 rq s.dir)

/-- EST_RESET (R209): EST_RESET resets the history of a cell, monitor or string. -/
def execEstReset (rq : HostReq) (s : State) : Host.Outcome State Fault Refusal := s.on true (hostRow 0x0152 rq s.dir)

/-- RECORD_QUERY (R534): RECORD_QUERY returns event records, catalogue entries or archive records to DEST. -/
def execRecordQuery (rq : HostReq) (s : State) : Host.Outcome State Fault Refusal := s.on true (hostRow 0x0160 rq s.dir)

/-- RECORDER_CLEAR (R536): RECORDER_CLEAR issues a confirmation or, with it, clears the recorder. -/
def execRecorderClear (rq : HostReq) (s : State) : Host.Outcome State Fault Refusal := s.on true (hostRow 0x0161 rq s.dir)

/-- LEASE_CLAIM (R260): LEASE_CLAIM takes a FREE lease for the session by priority. -/
def execLeaseClaim (rq : HostReq) (s : State) : Host.Outcome State Fault Refusal := s.on true (hostRow 0x0201 rq s.dir)

/-- LEASE_RENEW (R261): LEASE_RENEW moves the owner's expiry grain. -/
def execLeaseRenew (rq : HostReq) (s : State) : Host.Outcome State Fault Refusal := s.on true (hostRow 0x0202 rq s.dir)

/-- LEASE_RELEASE (R263): LEASE_RELEASE frees the lease and applies the expiry action. -/
def execLeaseRelease (rq : HostReq) (s : State) : Host.Outcome State Fault Refusal := s.on true (hostRow 0x0203 rq s.dir)

/-- LEASE_REVOKE (R263): LEASE_REVOKE frees the lease by a steward or keeper. -/
def execLeaseRevoke (rq : HostReq) (s : State) : Host.Outcome State Fault Refusal := s.on true (hostRow 0x0204 rq s.dir)

/-- SET_POWER (R266): SET_POWER sets the owner's power target. -/
def execSetPower (rq : HostReq) (s : State) : Host.Outcome State Fault Refusal := s.on true (hostRow 0x0210 rq s.dir)

/-- MOVE_START (R274): MOVE_START begins an energy move. -/
def execMoveStart (rq : HostReq) (s : State) : Host.Outcome State Fault Refusal := s.on true (hostRow 0x0211 rq s.dir)

/-- MOVE_RETARGET (R276): MOVE_RETARGET changes the total energy of the running or kept move. -/
def execMoveRetarget (rq : HostReq) (s : State) : Host.Outcome State Fault Refusal := s.on true (hostRow 0x0212 rq s.dir)

/-- STOP (R277): STOP brings p to 0 and keeps any running move. -/
def execStop (rq : HostReq) (s : State) : Host.Outcome State Fault Refusal := s.on true (hostRow 0x0213 rq s.dir)

/-- RESUME (R277): RESUME returns a stopped generator to FOLLOW or the kept move. -/
def execResume (rq : HostReq) (s : State) : Host.Outcome State Fault Refusal := s.on true (hostRow 0x0214 rq s.dir)

/-- TRIP (R279): TRIP starts the contactor-opening sequence for the named strings. -/
def execTrip (rq : HostReq) (s : State) : Host.Outcome State Fault Refusal := s.on true (hostRow 0x0215 rq s.dir)

/-- STRING_SERVICE (R288): STRING_SERVICE takes strings into or out of service. -/
def execStringService (rq : HostReq) (s : State) : Host.Outcome State Fault Refusal := s.on true (hostRow 0x0216 rq s.dir)

/-- PLAN_LOAD (R63): PLAN_LOAD copies a plan image into staging and starts admission. -/
def execPlanLoad (rq : HostReq) (s : State) : Host.Outcome State Fault Refusal := s.on true (hostRow 0x0301 rq s.dir)

/-- PLAN_ACTIVATE (R66): PLAN_ACTIVATE schedules activation of the staged candidate. -/
def execPlanActivate (rq : HostReq) (s : State) : Host.Outcome State Fault Refusal := s.on true (hostRow 0x0302 rq s.dir)

/-- PLAN_DISCARD (R63): PLAN_DISCARD discards the staged candidate and its schedule. -/
def execPlanDiscard (rq : HostReq) (s : State) : Host.Outcome State Fault Refusal := s.on true (hostRow 0x0303 rq s.dir)

/-- PROT_CLEAR (R314): PROT_CLEAR clears latched causes whose conditions hold and sends TRIP_CLEAR. -/
def execProtClear (rq : HostReq) (s : State) : Host.Outcome State Fault Refusal := s.on true (hostRow 0x0401 rq s.dir)

/-- TONE_RESET (R152): TONE_RESET clears TONE_TRIP on named strings whose tone has been absent long enough. -/
def execToneReset (rq : HostReq) (s : State) : Host.Outcome State Fault Refusal := s.on true (hostRow 0x0402 rq s.dir)

/-- SENSE_CLEAR (R158): SENSE_CLEAR releases intermittent or compatibility-ring sense suspicions of a monitor. -/
def execSenseClear (rq : HostReq) (s : State) : Host.Outcome State Fault Refusal := s.on true (hostRow 0x0403 rq s.dir)

/-- SAFETY_RESET (R339): SAFETY_RESET gives a reset from the command interface. -/
def execSafetyReset (rq : HostReq) (s : State) : Host.Outcome State Fault Refusal := s.on true (hostRow 0x0404 rq s.dir)

/-- CONV_FAULT_CLEAR (R245): CONV_FAULT_CLEAR moves named links out of FAULT when their cause is gone. -/
def execConvFaultClear (rq : HostReq) (s : State) : Host.Outcome State Fault Refusal := s.on true (hostRow 0x0405 rq s.dir)

/-- PHASE_CLEAR (R246): PHASE_CLEAR returns latched phases to DISABLED with the string OFF. -/
def execPhaseClear (rq : HostReq) (s : State) : Host.Outcome State Fault Refusal := s.on true (hostRow 0x0406 rq s.dir)

/-- ENUMERATE (R119): ENUMERATE requests enumeration of the named rings. -/
def execEnumerate (rq : HostReq) (s : State) : Host.Outcome State Fault Refusal := s.on true (hostRow 0x0407 rq s.dir)

/-- CLR_OVERRUN (R86): CLR_OVERRUN clears the overrun RS bits and PEAK_USED. -/
def execClrOverrun (rq : HostReq) (s : State) : Host.Outcome State Fault Refusal := s.on true (hostRow 0x0410 rq s.dir)

/-- CLR_CHAIN_CNT (R129): CLR_CHAIN_CNT clears the chain counters of named rings. -/
def execClrChainCnt (rq : HostReq) (s : State) : Host.Outcome State Fault Refusal := s.on true (hostRow 0x0411 rq s.dir)

/-- CLR_CONV_FLAGS (R241): CLR_CONV_FLAGS clears the sticky KLNK_SAT flags. -/
def execClrConvFlags (rq : HostReq) (s : State) : Host.Outcome State Fault Refusal := s.on true (hostRow 0x0412 rq s.dir)

/-- CLR_CONV_CNT (R254): CLR_CONV_CNT clears the converter link counters. -/
def execClrConvCnt (rq : HostReq) (s : State) : Host.Outcome State Fault Refusal := s.on true (hostRow 0x0413 rq s.dir)

/-- CLR_SAFETY_CNT (R364): CLR_SAFETY_CNT clears the safety counters so marked. -/
def execClrSafetyCnt (rq : HostReq) (s : State) : Host.Outcome State Fault Refusal := s.on true (hostRow 0x0414 rq s.dir)

/-- CLR_PAIR_CNT (R402): CLR_PAIR_CNT clears the pair RS bits and counters. -/
def execClrPairCnt (rq : HostReq) (s : State) : Host.Outcome State Fault Refusal := s.on true (hostRow 0x0415 rq s.dir)

/-- RESTART (R425): RESTART requests a warm supervisor restart or a module restart. -/
def execRestart (rq : HostReq) (s : State) : Host.Outcome State Fault Refusal := s.on true (hostRow 0x0501 rq s.dir)

/-- ROLE_SWAP (R387): ROLE_SWAP makes the active module yield to a ready partner. -/
def execRoleSwap (rq : HostReq) (s : State) : Host.Outcome State Fault Refusal := s.on true (hostRow 0x0502 rq s.dir)

/-- KEY_LOAD (R571): KEY_LOAD unwraps and stores a credential or chain root key. -/
def execKeyLoad (rq : HostReq) (s : State) : Host.Outcome State Fault Refusal := s.on true (hostRow 0x0701 rq s.dir)

/-- SEC_SET (R573): SEC_SET changes the violation responses. -/
def execSecSet (rq : HostReq) (s : State) : Host.Outcome State Fault Refusal := s.on true (hostRow 0x0702 rq s.dir)

/-- SEC_UNLOCK (R574): SEC_UNLOCK ends the lock with confirmation. -/
def execSecUnlock (rq : HostReq) (s : State) : Host.Outcome State Fault Refusal := s.on true (hostRow 0x0703 rq s.dir)

/-- SEC_ERASE (R575): SEC_ERASE performs a security erase with confirmation. -/
def execSecErase (rq : HostReq) (s : State) : Host.Outcome State Fault Refusal := s.on true (hostRow 0x0704 rq s.dir)

/-- FACTORY_RESTORE (R576): FACTORY_RESTORE resets class P items and restarts the module. -/
def execFactoryRestore (rq : HostReq) (s : State) : Host.Outcome State Fault Refusal := s.on true (hostRow 0x0705 rq s.dir)

/-- PARK (R562): PARK sets or clears the park request and restarts the module. -/
def execPark (rq : HostReq) (s : State) : Host.Outcome State Fault Refusal := s.on true (hostRow 0x0706 rq s.dir)

/-- SEC_CLEAR (R583): SEC_CLEAR clears the security RS bits. -/
def execSecClear (rq : HostReq) (s : State) : Host.Outcome State Fault Refusal := s.on true (hostRow 0x0707 rq s.dir)

/-- SUPERVISOR_MBX_TAKE (R446): The supervisor takes an inbound message, clears IN_FULL and acts on it. -/
def execSupervisorMbxTake (slot : Nat) (s : State) : Host.Outcome State Fault Refusal := s.on (okSlot slot) (supervisorMbxTake slot s.dir)

/-- OUTBOUND_MBX_WRITE (R447): The supervisor writes the outbound mailbox, sets OUT_FULL and sends a DOORBELL. -/
def execOutboundMbxWrite (slot ptr len type domain : Nat) (s : State) : Host.Outcome State Fault Refusal :=
  s.on (okSlot slot) (outboundMbxWrite slot ptr len type domain)

/-- MBX_CROSS_TIMEOUT (R448): IN_FULL and OUT_FULL both set longer than MBX_CROSS_T set CROSS. -/
def execMbxCrossTimeout (slot : Nat) (s : State) : Host.Outcome State Fault Refusal := s.on (okSlot slot) (mbxCrossTimeout slot)

/-- CONFIRM_EXPIRY (R536): A two-step confirmation value lapses after 30 s. -/
def execConfirmExpiry (sid : Nat) (s : State) : Host.Outcome State Fault Refusal := s.sup true (confirmExpiry sid)

/-- SESSION_IDLE_TIMEOUT (R415): SESSION_IDLE without an accepted request closes a session. -/
def execSessionIdleTimeout (sid : Nat) (s : State) : Host.Outcome State Fault Refusal := s.sup true (sessionIdleTimeout sid)

/-- NOTICE_RESEND (R422): An unacknowledged notice is resent every NOTICE_RETRY until dropped. -/
def execNoticeResend (sid seq : Nat) (s : State) : Host.Outcome State Fault Refusal := s.sup true (noticeResend sid seq)

/-- STREAM_CYCLE (R431): A stream cycle sends the previous grain's directory copy, or skips it. -/
def execStreamCycle (id : Nat) (fits : Bool) (s : State) : Host.Outcome State Fault Refusal :=
  s.sup true (streamCycle id fits s.dir)

/-- WATCH_EVALUATION (R440): SP0 evaluates watches on a complete directory copy and fires or re-arms them. -/
def execWatchEvaluation (s : State) : Host.Outcome State Fault Refusal := s.sup true (watchEvaluation s.dir)

/-- AUTH_BLOCK_EXPIRY (R413): AUTH_BLOCK_T after blocking a source address it is served again. -/
def execAuthBlockExpiry (addr : Nat) (s : State) : Host.Outcome State Fault Refusal := s.sup true (authBlockExpiry addr)

/-- GRN_NOW_READ (R42): A read of GRN_NOW latches GRAIN_CNT for the following read. -/
def execGrnNowRead (s : State) : Host.Outcome State Fault Refusal := s.on true (Mod.readEffect 0x0100)

/-- S64_LOW_READ (R293): A read of the low register of an s64 dispatch value latches its high register. -/
def execS64LowRead (off : Nat) (s : State) : Host.Outcome State Fault Refusal := s.on true (Mod.readEffect off)

/-- TIME_NS_READ (R467): A read of TIME_NS latches TIME_WRAP. -/
def execTimeNsRead (s : State) : Host.Outcome State Fault Refusal := s.on true (Mod.readEffect 0x1804)

/-- TIME_SEC_LO_READ (R467): A read of TIME_SEC_LO latches TIME_SEC_HI. -/
def execTimeSecLoRead (s : State) : Host.Outcome State Fault Refusal := s.on true (Mod.readEffect 0x1814)

/-- DRAM_UE_LO_READ (R550): A read of DRAM_UE_LO latches DRAM_UE_HI. -/
def execDramUeLoRead (s : State) : Host.Outcome State Fault Refusal := s.on true (Mod.readEffect 0x1D24)

end Sys2Proof.Machine
end

