-- ==== Sys2Proof/Machine/RowsPair.lean ====
section
/-! DEFINITION. The commands of pairs and the graft link (spec file 10): one meaning for each row of the operation table. -/

namespace Sys2Proof.Machine

/-- STANDBY_REPLAY_TIMEOUT (R375): No replay record for 10 grains makes the standby switch its safe outputs off. -/
def execStandbyReplayTimeout (s : State) : Host.Outcome State Fault Refusal := s.on true standbyReplayTimeout

/-- ROLE_POINT (R374): The stored or idle plan is admitted with self-diagnosis passed and the role-line decision is made. -/
def execRolePoint (s : State) : Host.Outcome State Fault Refusal := s.fab true rolePoint

/-- PAIR_FORM_WAIT_EXPIRY (R374): PAIR_FORM_WAIT after the role point the preferred module asserts its role line, or the other after a further 200 ms. -/
def execPairFormWaitExpiry (s : State) : Host.Outcome State Fault Refusal := s.fab true pairFormWaitExpiry

/-- ROLE_LINE_CHANGE (R372): A role line is asserted or released, enabling or disabling role drivers and CAN transmission. -/
def execRoleLineChange (asserted : Bool) (s : State) : Host.Outcome State Fault Refusal :=
  s.on true (roleLineChange asserted)

/-- PARTNER_ABSENT (R373): PTR_PRES_N released for 100 ms puts the module in single operation. -/
def execPartnerAbsent (s : State) : Host.Outcome State Fault Refusal := s.on true partnerAbsent

/-- PARTNER_PRESENT (R373): PTR_PRES_N becomes asserted again and a module in single operation returns to pair operation. -/
def execPartnerPresent (s : State) : Host.Outcome State Fault Refusal := s.on true partnerPresent

/-- JOIN_PAIR (R395): A module finding its partner active joins as standby through its ordered steps. -/
def execJoinPair (s : State) : Host.Outcome State Fault Refusal := s.fab true joinPair

/-- REPLAY_RECORD_RECEIVE (R378, R384). -/
def execReplayRecordReceive (r : ReplayRec) (image : Option BedImage) (exch : List (Nat × BedImage)) (s : State) : Host.Outcome State Fault Refusal :=
  s.replay r image exch

/-- FIELD_FORWARD (R376): Frames and observations at the standby's ring end are forwarded to the active module. -/
def execFieldForward (resps : List (Nat × ChainResp)) (ends : List (Nat × EndObs)) (tones : List (Nat × BitVec 2)) (ready : Bool) (s : State) : Host.Outcome State Fault Refusal :=
  s.fab true (fieldForward resps ends tones ready)

/-- HEARTBEAT_MISS (R382): No trailer by tick 10 counts a missed heartbeat and discards the record. -/
def execHeartbeatMiss (s : State) : Host.Outcome State Fault Refusal := s.fab true heartbeatMiss

/-- RESYNC_RETRY_EXPIRY (R385): PAIR_RESYNC_RETRY after three failed resynchronisations a new one starts. -/
def execResyncRetryExpiry (s : State) : Host.Outcome State Fault Refusal := s.fab true resyncRetryExpiry

/-- YIELD_ROLE_RELEASE (R387): 20 us before boundary T the yielding module releases its role line. -/
def execYieldRoleRelease (s : State) : Host.Outcome State Fault Refusal := s.fab true yieldRoleRelease

/-- TAKEOVER (R388): The standby asserts its role line at a boundary and drives from its first logical grain. -/
def execTakeover (s : State) : Host.Outcome State Fault Refusal := s.fab true takeover

/-- DRILL_DUE (R397): PAIR_DRILL_PERIOD since the last takeover makes a drill due and it runs when conditions hold. -/
def execDrillDue (s : State) : Host.Outcome State Fault Refusal := s.fab true drillDue

/-- DRILL_OVERDUE (R397): PAIR_DRILL_DEFER without the conditions records DRILL_OVERDUE. -/
def execDrillOverdue (s : State) : Host.Outcome State Fault Refusal := s.fab true drillOverdue

/-- DRILL_CHECK (R398): 200 grains after a drill's handover the drill is judged passed or failed. -/
def execDrillCheck (s : State) : Host.Outcome State Fault Refusal := s.fab true drillCheck

/-- GRAFT_LANE_CHANGE (R377): A graft lane goes down or up and traffic moves between lanes. -/
def execGraftLaneChange (lane : Nat) (up : Bool) (s : State) : Host.Outcome State Fault Refusal :=
  s.fab (okTwo lane) (graftLaneChange lane up)

/-- GRAFT_MAILBOX_RECEIVE (R449): A message from the partner's supervisor arrives in the graft mailbox, such as a forwarded STOP or TRIP or a candidate check report. -/
def execGraftMailboxReceive (kind : Nat) (ptr len type : Nat) (body : List Byte) (s : State) : Host.Outcome State Fault Refusal :=
  s.fab true (graftMailboxReceive kind ptr len type body)

end Sys2Proof.Machine
end

