-- ==== Sys2Proof/Machine/RowsPlan.lean ====
section
/-! DEFINITION. The commands of the time base and the plan (spec files 01 and 02): one meaning for each row of the operation table. -/

namespace Sys2Proof.Machine

/-- TICK (R457): A 10 us tick of corrected time ends and the next tick begins, driving the fixed-time work of the plan. -/
def execTick (s : State) : Host.Outcome State Fault Refusal := s.plan true tick

/-- GRAIN_BOUNDARY (R40, R384): a bed image of the grain that ends replaces the standby's result first. -/
def execGrainBoundary (dieT : Int) (s : State) : Host.Outcome State Fault Refusal :=
  s.grain (grainBoundary dieT)

/-- SLOT_RUN (R18, R45): a publication slot that retires completes a copy of the point directory. -/
def execSlotRun (bed slotId cycles : Nat) (fault : SlotFault) (readback : Option (Int × Int)) (s : State) : Host.Outcome State Fault Refusal :=
  s.slot (okBed bed) (s.m.publishes bed slotId cycles fault) (slotRun bed slotId cycles fault readback)

/-- OVERRUN (R78): A slot that has not retired by its deadline is aborted, its outputs are held, and the overrun is flagged and recorded. -/
def execOverrun (bed slotId : Nat) (cause : OverrunCause) (s : State) : Host.Outcome State Fault Refusal :=
  s.plan (okBed bed) (overrunRow bed slotId cause)

/-- LOCKSTEP_MISMATCH (R16): A lockstep mismatch in a supervisor pair starts a warm supervisor restart of both pairs. -/
def execLockstepMismatch (pair : Nat) (s : State) : Host.Outcome State Fault Refusal := s.on (okTwo pair) (lockstepMismatch pair)

/-- SUPERVISOR_WATCHDOG (R554): The supervisor watchdog, unserved for 1 s, starts a warm supervisor restart. -/
def execSupervisorWatchdog (s : State) : Host.Outcome State Fault Refusal := s.on true supervisorWatchdog

/-- WARM_RESTART_COMPLETE (R16): A warm supervisor restart completes and command handling resumes. -/
def execWarmRestartComplete (bootA bootB : Bool) (s : State) : Host.Outcome State Fault Refusal :=
  s.on true (warmRestartComplete bootA bootB)

/-- GRAIN_PULSE_TIMEOUT (R22): Three successive missing or late grain pulses make the safety processor bring the module to a safe stop. -/
def execGrainPulseTimeout (s : State) : Host.Outcome State Fault Refusal := s.fab true grainPulseTimeout

/-- SAFETY_CORE_FAULT (R23): Disagreement of the safety cores or a failed self-test drops every safe output, asserts BP_TRIP_N and trips every link. -/
def execSafetyCoreFault (cause : Nat) (s : State) : Host.Outcome State Fault Refusal := s.on (okCore cause) (safetyCoreFault cause)

/-- CLOCK_MEASUREMENT (R30): Every 1 ms the safety processor measures the module clocks and acts on a clock out of tolerance twice. -/
def execClockMeasurement (clk : Nat) (ppm : Int) (s : State) : Host.Outcome State Fault Refusal :=
  s.on (okClock clk) (clockMeasurement clk ppm)

/-- RECOVERED_CLOCK_UNLOCK (R28): Loss of lock of a chain or link recovered clock is reported and treated as missing frames. -/
def execRecoveredClockUnlock (clk : RecClk) (s : State) : Host.Outcome State Fault Refusal :=
  s.fab (okRec clk) (recoveredClockUnlock clk)

/-- RECOVERED_CLOCK_LOCK (R39): A chain or converter-link recovered clock regains lock, setting its lock bit and clearing or reporting an inverted pair. -/
def execRecoveredClockLock (clk : RecClk) (inverted : Bool) (s : State) : Host.Outcome State Fault Refusal :=
  s.fab (okRec clk) (recoveredClockLock clk inverted)

/-- PLAN_CHECK_COMPLETE (R64): The admission check of a loaded plan image ends, staging the candidate or refusing it with a completion notice. -/
def execPlanCheckComplete (s : State) : Host.Outcome State Fault Refusal := s.sup true planCheckComplete

/-- PLAN_RESTART (R68): At the activation grain of a full image the fabric loads the new plan and runs the idle sweep for one grain. -/
def execPlanRestart (s : State) : Host.Outcome State Fault Refusal := s.lgc true planRestart

/-- BED_REPLANT (R72): At the activation grain of a bed image the tile switches slot table banks and the new bed runs. -/
def execBedReplant (s : State) : Host.Outcome State Fault Refusal := s.lgc true bedReplant

end Sys2Proof.Machine
end

