-- ==== Sys2Proof/Machine/RowsPower.lean ====
section
/-! DEFINITION. The commands of resets, power, the button and violations (spec files 10, 16 and 18): one meaning for each row of the operation table. -/

namespace Sys2Proof.Machine

/-- COLD_START (R561): The main input is good after power-up or insertion and the start-up sequence runs. -/
def execColdStart (insertion : Bool) (env : StartEnv) (s : State) : Host.Outcome State Fault Refusal :=
  s.start true (coldStart insertion env)

/-- MODULE_RESTART (R556): A requested module restart runs its stop sequence and the start-up from 5 ms. -/
def execModuleRestart (env : StartEnv) (s : State) : Host.Outcome State Fault Refusal := s.start true (moduleRestart env)

/-- POWER_RECOVERED (R563): Input back above 40 V for 1 s performs a module restart. -/
def execPowerRecovered (env : StartEnv) (s : State) : Host.Outcome State Fault Refusal := s.start true (powerRecovered env)

/-- PRESENCE_RETURN (R401): PRES_N asserted again for 1 s after a warning performs a module restart. -/
def execPresenceReturn (env : StartEnv) (s : State) : Host.Outcome State Fault Refusal := s.start true (presenceReturn env)

/-- HOLDUP_EXHAUSTED (R35): The hold-up store runs down after a power failure or extraction and the module loses power, leaving only the cold frame alive on its cell. -/
def execHoldupExhausted (s : State) : Host.Outcome State Fault Refusal := s.start true holdupExhausted

/-- RESTART_BUTTON_PRESS (R564): The debounced start of a front-button press begins its hold timing, or restarts the re-arm count while disarmed. -/
def execRestartButtonPress (s : State) : Host.Outcome State Fault Refusal := s.on true restartButtonPress

/-- RESTART_BUTTON_RELEASE (R564): Release of an armed press acts by its length. -/
def execRestartButtonRelease (s : State) : Host.Outcome State Fault Refusal := s.on true restartButtonRelease

/-- BUTTON_STUCK (R565): A press held 10,001 ms is declared stuck and the button disarmed. -/
def execButtonStuck (s : State) : Host.Outcome State Fault Refusal := s.on true buttonStuck

/-- BUTTON_REARM (R565): 2,000 ms of release rearms a disarmed button. -/
def execButtonRearm (s : State) : Host.Outcome State Fault Refusal := s.on true buttonRearm

/-- STRAP_RECHECK (R560): Every 1 s the straps are read again and a change recorded. -/
def execStrapRecheck (pins : BitVec 9) (s : State) : Host.Outcome State Fault Refusal := s.on true (strapRecheck pins)

/-- POWER_FAILURE (R563): Input below 37 V for 100 us declares power failure, flushing and yielding or ramping down. -/
def execPowerFailure (vin : Nat) (s : State) : Host.Outcome State Fault Refusal := s.any true (powerFailure vin)

/-- SEC_VIOLATION (R572): A mesh, glitch or authentication violation is logged, locks or erases. -/
def execSecViolation (source : Nat) (powered holds : Bool) (s : State) : Host.Outcome State Fault Refusal :=
  s.any (okSource source) (secViolation source powered holds)

/-- CELL_LOW (R566): The cold-frame cell below 2.70 V sets and records CELL_LOW. -/
def execCellLow (mv : Nat) (s : State) : Host.Outcome State Fault Refusal := s.on true (cellLow mv)

/-- INSERTION (R400): PRES_N asserted for 50 ms turns on the hot-swap switch and charges the stores. -/
def execInsertion (s : State) : Host.Outcome State Fault Refusal := s.any true insertion

/-- EXTRACTION_WARNING (R401): PRES_N released for 100 us yields or ramps links and flushes the recorder. -/
def execExtractionWarning (s : State) : Host.Outcome State Fault Refusal := s.any true extractionWarning

/-- NETWORK_LINK_CHANGE (R614): A plant network port's 10GBASE-KR link comes up or goes down, changing NET_A_UP or NET_B_UP after LINK_DOWN_HOLD. -/
def execNetworkLinkChange (net : Nat) (up : Bool) (s : State) : Host.Outcome State Fault Refusal :=
  s.on (okTwo net) (networkLinkChange net up)

end Sys2Proof.Machine
end

