-- ==== Sys2Proof/Machine/RowsSafety.lean ====
section
/-! DEFINITION. The commands of protection and the safety functions (spec files 08 and 09): one meaning for each row of the operation table. -/

namespace Sys2Proof.Machine

/-- SENSOR_BAD_HOLD_EXPIRY (R301): SENSOR_BAD_AGE reaching SENSOR_BAD_HOLD issues a string-open request. -/
def execSensorBadHoldExpiry (string : Nat) (s : State) : Host.Outcome State Fault Refusal :=
  s.lgc (okString string) (sensorBadHoldExpiry string)

/-- DERATE_STEP_TIMER (R302): The 10 s or 60 s band timer moves the derating step k. -/
def execDerateStepTimer (string : Nat) (s : State) : Host.Outcome State Fault Refusal := s.lgc (okString string) (derateStepTimer string)

/-- OC_COMPARATOR_EVENT (R305): A string current beyond its window for OC_DEGLITCH drives the trip injector directly. -/
def execOcComparatorEvent (string : Nat) (above active : Bool) (s : State) : Host.Outcome State Fault Refusal :=
  s.fab (okString string) (ocComparatorEvent string above active)

/-- CONT_DELAY_EXPIRY (R308): PROT_CONT_DELAY after an open request the safety processor switches the group output off. -/
def execContDelayExpiry (group : Nat) (s : State) : Host.Outcome State Fault Refusal := s.on (okGroup group) (contDelayExpiry group)

/-- CONT_FB_TIMEOUT (R311): CONT_FB_TIME after a switching the feedback is judged, recording a weld or a failed closing. -/
def execContFbTimeout (group : Nat) (s : State) : Host.Outcome State Fault Refusal := s.on (okGroup group) (contFbTimeout group)

/-- CONTACTOR_FEEDBACK_CHANGE (R311): Feedback reporting open while the output is on records CONT_DROP and opens the group. -/
def execContactorFeedbackChange (group : Nat) (closed : Bool) (s : State) : Host.Outcome State Fault Refusal :=
  s.on (okGroup group) (contactorFeedbackChange group closed)

/-- HVAC_REQUEST (R318): Every HVAC_PERIOD a thermal request is sent for each zone with strings. -/
def execHvacRequest (zone : Nat) (s : State) : Host.Outcome State Fault Refusal := s.sup (okGroup zone) (hvacRequest zone)

/-- SAFETY_CYCLE (R325): Each 1 ms the safety cores evaluate every safety function and output. -/
def execSafetyCycle (meas : List SqMeas) (s : State) : Host.Outcome State Fault Refusal :=
  s.on true (safetyCycle meas)

/-- SAFE_INPUT_CHANGE (R329): A safe input channel level held for its filter is accepted and the function state evaluated. -/
def execSafeInputChange (optical : Bool) (idx : Nat) (second level : Bool) (s : State) : Host.Outcome State Fault Refusal :=
  s.any (okInput optical idx) fun m =>
    if m.powered then safeInputChange optical idx second level m else inputLevel optical idx second level m

/-- DISCREPANCY_TIMEOUT (R330): A disagreement reaching SI_DISC or OI_DISC latches DISC_FAULT. -/
def execDiscrepancyTimeout (optical : Bool) (idx : Nat) (s : State) : Host.Outcome State Fault Refusal :=
  s.on (okInput optical idx) (discrepancyTimeout optical idx)

/-- TEST_PULSE_GAP (R620): A test-pulse source drops to 0 V for 400 us at its grain boundary and reads back its output. -/
def execTestPulseGap (source : Nat) (readback : Bool) (missing : List Nat) (s : State) : Host.Outcome State Fault Refusal :=
  s.on (okTwo source) (testPulseGap source readback missing)

/-- RESET_INPUT_RELEASE (R339): The RESET input opening after a 0.1–5.0 s press takes effect as a reset. -/
def execResetInputRelease (idx : Nat) (s : State) : Host.Outcome State Fault Refusal := s.on (okInput false idx) (resetInputRelease idx)

/-- TWO_HAND_SYNC_EXPIRY (R337): TWO_HAND_SYNC elapsing in ARMING blocks the two-hand enable. -/
def execTwoHandSyncExpiry (s : State) : Host.Outcome State Fault Refusal := s.on true twoHandSyncExpiry

/-- SQ_HIGH_SIDE_ON (R342): 1 ms after the low side the high side of a safe output closes. -/
def execSqHighSideOn (sq : Nat) (s : State) : Host.Outcome State Fault Refusal := s.on (okGroup sq) (sqHighSideOn sq)

/-- OFF_PULSE_TEST (R343): A switch of an on output is pulsed off for its periodic test. -/
def execOffPulseTest (sq : Nat) (s : State) : Host.Outcome State Fault Refusal := s.on (okGroup sq) (offPulseTest sq)

/-- OFF_PULSE_END (R343): At the end of an off-pulse the node is judged and HS_FAULT or LS_FAULT counted. -/
def execOffPulseEnd (sq : Nat) (node : PulseMeas) (s : State) : Host.Outcome State Fault Refusal :=
  s.on (okGroup sq) (offPulseEnd sq node)

/-- OPEN_LOAD_TIMEOUT (R344): Output current below 20 mA for 100 ms reports OPEN_LOAD. -/
def execOpenLoadTimeout (sq : Nat) (s : State) : Host.Outcome State Fault Refusal := s.on (okGroup sq) (openLoadTimeout sq)

/-- FALLOW_EXPIRY (R351): A fallow timer expires and every string of its scope is brought to a safe stop. -/
def execFallowExpiry (s : State) : Host.Outcome State Fault Refusal := s.on true fallowExpiry

/-- CLOCHE_SEND (R354): Every CLOCHE_PERIOD a Cloche frame is produced on each connection not OFF. -/
def execClocheSend (graft : Bool) (s : State) : Host.Outcome State Fault Refusal := s.on true (clocheSend graft)

/-- CLOCHE_FRAME_RECEIVE (R355): A Cloche frame arrives and is accepted or discarded, moving the connection state. -/
def execClocheFrameReceive (graft : Bool) (src : NetSrc) (frame : List Byte) (port : Nat) (s : State) : Host.Outcome State Fault Refusal :=
  s.on (okTwo src.net) (clocheFrameReceive graft src frame port)

/-- CLOCHE_WATCHDOG_EXPIRY (R356): CLOCHE_WDOG without an accepted frame fails the connection. -/
def execClocheWatchdogExpiry (graft : Bool) (s : State) : Host.Outcome State Fault Refusal :=
  s.on true (clocheWatchdogExpiry graft)

/-- PARTNER_BP_TRIP (R341): The partner asserting BP_TRIP_N holds every string in the safe state. -/
def execPartnerBpTrip (asserted : Bool) (s : State) : Host.Outcome State Fault Refusal := s.on true (partnerBpTrip asserted)

/-- FIELD_SUPPLY_CHANGE (R622): A field supply falls below or returns above 19.2 V and FIELD_LOW is recorded. -/
def execFieldSupplyChange (supply mv : Nat) (s : State) : Host.Outcome State Fault Refusal :=
  s.on (okTwo supply) (fieldSupplyChange supply mv)

/-- SAFE_STAGE_EXPIRY (R326): 60 s after a stage without commit the staged safety configuration lapses. -/
def execSafeStageExpiry (s : State) : Host.Outcome State Fault Refusal := s.on true safeStageExpiry

end Sys2Proof.Machine
end

