-- ==== Sys2Proof/Machine/RowsStore.lean ====
section
/-! DEFINITION. The commands of storage, the event recorder and DMA (spec file 15): one meaning for each row of the operation table. -/

namespace Sys2Proof.Machine

/-- RECORD_POST (R528): An event record is taken into the SRAM and DRAM rings. -/
def execRecordPost (code item block : Nat) (data : List Byte) (s : State) : Host.Outcome State Fault Refusal :=
  s.on true (recordPost code item block data)

/-- FLUSH_START (R529): A flush of not yet durable records starts on period, fill, fault class or power event. -/
def execFlushStart (s : State) : Host.Outcome State Fault Refusal := s.on true flushStart

/-- FLUSH_COMPLETE (R530): A flush completes and the flush marker is written. -/
def execFlushComplete (s : State) : Host.Outcome State Fault Refusal := s.on true flushComplete

/-- RATE_SECOND_END (R532): The end of an operating-hours second records REC_SUPPRESSED for withheld records. -/
def execRateSecondEnd (s : State) : Host.Outcome State Fault Refusal := s.on true rateSecondEnd

/-- REC_CUR_POS_WRITE (R535): Writing the cursor position or control refills the cursor window. -/
def execRecCurPosWrite (pos : Option W32) (ctrl : Option (BitVec 3)) (s : State) : Host.Outcome State Fault Refusal :=
  s.on true (recCurPosWrite pos ctrl)

/-- REC_CUR_DATA_LAST_READ (R535): Reading the last word of REC_CUR_DATA advances the cursor and refills the window. -/
def execRecCurDataLastRead (s : State) : Host.Outcome State Fault Refusal := s.on true recCurDataLastRead

/-- ARCHIVE_FINE_PERIOD (R537): ARCH_PERIOD of operating hours ends and a fine archive record is written. -/
def execArchiveFinePeriod (string : Nat) (s : State) : Host.Outcome State Fault Refusal :=
  s.sup (okString string) (archiveFinePeriod string)

/-- ARCHIVE_COARSE_DAY (R537): 24 h of operating hours end and a coarse archive record is written. -/
def execArchiveCoarseDay (string : Nat) (s : State) : Host.Outcome State Fault Refusal := s.sup (okString string) (archiveCoarseDay string)

/-- CONFIG_WRITE_COMPLETE (R524): A configuration bank write reaches its commit page and becomes the set in force. -/
def execConfigWriteComplete (s : State) : Host.Outcome State Fault Refusal := s.on true configWriteComplete

/-- FLASH_PAGE_WRITE_FAIL (R523): A page write fails twice and the page is mapped to the reserve. -/
def execFlashPageWriteFail (partition addr : Nat) (s : State) : Host.Outcome State Fault Refusal :=
  s.on (okPartition partition) (flashPageWriteFail partition addr)

/-- FLASH_LIFE_CHANGE (R523): The flash life used reaches the warning level or 100 % and partitions become read-only. -/
def execFlashLifeChange (life : Nat) (reserveOut : Bool) (s : State) : Host.Outcome State Fault Refusal :=
  s.on true (flashLifeChange life reserveOut)

/-- FLASH_RESPONSE_CHANGE (R533): The flash device stops or resumes responding, setting or clearing FLASH_HOLD and letting held records flush again. -/
def execFlashResponseChange (responding : Bool) (s : State) : Host.Outcome State Fault Refusal :=
  s.on true (flashResponseChange responding)

/-- SCRUB_PASS (R543): The patrol scrubber reads DRAM once every DRAM_SCRUB_H. -/
def execScrubPass (corrected : Nat) (bad : List Nat) (s : State) : Host.Outcome State Fault Refusal :=
  s.on true (scrubPass corrected bad)

/-- DRAM_UE_READ (R544): A read of a poisoned DRAM line has the consequence for its region. -/
def execDramUeRead (addr reader bed slotId : Nat) (use : DmaUse) (s : State) : Host.Outcome State Fault Refusal :=
  s.on true (dramUeRead addr reader bed slotId use)

/-- DMA_DESCRIPTOR_DONE (R546): A DMA descriptor completes and the chain continues or ends. -/
def execDmaDescriptorDone (ch : Nat) (next : DmaDesc) (s : State) : Host.Outcome State Fault Refusal :=
  s.on (okDma ch) (dmaDescriptorDone ch next)

/-- DMA_FAULT (R547): A DMA channel faults mid-transfer and the requesting operation fails. -/
def execDmaFault (ch cause bytes : Nat) (s : State) : Host.Outcome State Fault Refusal := s.on (okDma ch) (dmaFaultRow ch cause bytes)

/-- RECORD_QUERY_COMPLETE (R534): A recorder query that read flash finishes and its completion notice with QUERY_RESULT is sent. -/
def execRecordQueryComplete (sid : Nat) (s : State) : Host.Outcome State Fault Refusal := s.sup true (recordQueryComplete sid)

end Sys2Proof.Machine
end

