-- ==== Sys2Proof/Machine/RowsTime.lean ====
section
/-! DEFINITION. The commands of corrected time, the CAN FD ports and the ADC (spec files 12 to 14): one meaning for each row of the operation table. -/

namespace Sys2Proof.Machine

/-- PTP_SYNC_RECEIVE (R459): An accepted Sync forms an offset and the servo steers INCR. -/
def execPtpSyncReceive (port : Nat) (f : PtpSync) (s : State) : Host.Outcome State Fault Refusal :=
  s.sup (okTwo port) (ptpSyncReceive port f)

/-- PTP_ANNOUNCE_RECEIVE (R464): An Announce is compared and may change the selected parent. -/
def execPtpAnnounceReceive (port : Nat) (f : PtpAnnounce) (s : State) : Host.Outcome State Fault Refusal :=
  s.sup (okTwo port) (ptpAnnounceReceive port f)

/-- PTP_DELAY_RESP_RECEIVE (R459): A Delay_Resp completes a delay exchange for path delay filtering. -/
def execPtpDelayRespReceive (port : Nat) (f : PtpDelayResp) (s : State) : Host.Outcome State Fault Refusal :=
  s.sup (okTwo port) (ptpDelayRespReceive port f)

/-- PTP_FOLLOW_UP_RECEIVE (R454): A Follow_Up of a two-step Sync arrives and completes the offset that the servo then judges. -/
def execPtpFollowUpReceive (port : Nat) (f : PtpFollowUp) (s : State) : Host.Outcome State Fault Refusal :=
  s.sup (okTwo port) (ptpFollowUpReceive port f)

/-- DELAY_REQ_SEND (R454): Every 2^PTP_DELAY_LOG s a Delay_Req is sent. -/
def execDelayReqSend (port : Nat) (t3 : Int) (s : State) : Host.Outcome State Fault Refusal :=
  s.sup (okTwo port) (delayReqSend port t3)

/-- PTP_TC_FORWARD (R465): A PTP frame of the domain is forwarded out of the other port with residence time added. -/
def execPtpTcForward (port domain kind : Nat) (corr ingress egress : Int) (frame : List Byte) (s : State) : Host.Outcome State Fault Refusal :=
  s.on (okTwo port) (ptpTcForward port domain kind corr ingress egress frame)

/-- ANNOUNCE_TIMEOUT (R454): PTP_ANN_TIMEOUT intervals without Announce drop that port's parent. -/
def execAnnounceTimeout (port : Nat) (s : State) : Host.Outcome State Fault Refusal := s.sup (okTwo port) (announceTimeout port)

/-- SYNC_LOSS_TIMEOUT (R460): No acceptable parent for PTP_SYNC_LOSS enters HOLDOVER with INCR frozen. -/
def execSyncLossTimeout (s : State) : Host.Outcome State Fault Refusal := s.sup true syncLossTimeout

/-- HOLD_MAX_EXPIRY (R461): HOLDOVER lasting PTP_HOLD_MAX clears TIME_VALID. -/
def execHoldMaxExpiry (s : State) : Host.Outcome State Fault Refusal := s.sup true holdMaxExpiry

/-- TIME_EXTEND (R457): SP1 extends the nanosecond count in software at least every 1,000 s. -/
def execTimeExtend (s : State) : Host.Outcome State Fault Refusal := s.sup true timeExtend

/-- FORCE_STEP_EXPIRY (R463): An armed TIME_FORCE_STEP lapses after 60 s. -/
def execForceStepExpiry (s : State) : Host.Outcome State Fault Refusal := s.sup true forceStepExpiry

/-- INCR_SAVE (R469): The locked INCR is saved to the cold frame hourly while LOCKED. -/
def execIncrSave (s : State) : Host.Outcome State Fault Refusal := s.sup true incrSave

/-- CAN_FRAME_RECEIVED (R480): A CAN frame matching a receive object replaces its contents, or is dropped as unmatched. -/
def execCanFrameReceived (port : Nat) (frame : CanFrame) (bits : Nat) (s : State) : Host.Outcome State Fault Refusal :=
  s.fab (okCan port) (canFrameReceived port frame bits)

/-- CAN_RX_ERROR (R485): A bus error is detected while receiving on a CAN port, raising REC and possibly moving the port to error passive. -/
def execCanRxError (port lec inc : Nat) (s : State) : Host.Outcome State Fault Refusal := s.fab (okCan port) (canRxError port lec inc)

/-- CAN_TX_SUCCESS (R483): A pending transmit frame completes successfully. -/
def execCanTxSuccess (port bits : Nat) (s : State) : Host.Outcome State Fault Refusal := s.fab (okCan port) (canTxSuccess port bits)

/-- CAN_TX_ERROR (R483): A transmit attempt loses arbitration or meets an error and retries or sets TX_FAIL. -/
def execCanTxError (port : Nat) (e : CanTxErr) (s : State) : Host.Outcome State Fault Refusal :=
  s.fab (okCan port) (canTxError port e)

/-- CAN_RECOVERY_COMPLETE (R487): 128 × 11 recessive bits complete recovery and stranded objects contend again. -/
def execCanRecoveryComplete (port : Nat) (s : State) : Host.Outcome State Fault Refusal :=
  s.fab (okCan port) (canRecoveryComplete port)

/-- CAN_CTRL_RECOVER (R487): Writing RECOVER starts bus-off recovery. -/
def execCanCtrlRecover (port : Nat) (s : State) : Host.Outcome State Fault Refusal := s.fab (okCan port) (canCtrlRecover port)

/-- CAN_CTRL_DETECT (R477): Writing DETECT starts rate detection on a listen-only port. -/
def execCanCtrlDetect (port : Nat) (s : State) : Host.Outcome State Fault Refusal := s.fab (okCan port) (canCtrlDetect port)

/-- DETECT_DWELL_EXPIRY (R477): DET_DWELL at one rate ends and the next rate is tried or the result reported. -/
def execDetectDwellExpiry (port : Nat) (s : State) : Host.Outcome State Fault Refusal := s.fab (okCan port) (detectDwellExpiry port)

/-- CAN_CTRL_ABORT_ALL (R494): Writing ABORT_ALL clears every pending state of the port. -/
def execCanCtrlAbortAll (port : Nat) (s : State) : Host.Outcome State Fault Refusal := s.fab (okCan port) (canCtrlAbortAll port)

/-- CAN_CTRL_CLEAR_FLAGS (R493): Writing CLEAR_FLAGS clears the port's RS bits and object LOST and TX_FAIL flags. -/
def execCanCtrlClearFlags (port : Nat) (s : State) : Host.Outcome State Fault Refusal := s.fab (okCan port) (canCtrlClearFlags port)

/-- CAN_TXW_GO (R482): Writing GO hands staged data to a transmit object and makes it pending. -/
def execCanTxwGo (port : Nat) (s : State) : Host.Outcome State Fault Refusal := s.fab (okCan port) (canTxwGo port)

/-- CAN_OBJECT_FIRST_READ (R481): Reading the first image word locks a CAN object. -/
def execCanObjectFirstRead (port obj : Nat) (s : State) : Host.Outcome State Fault Refusal :=
  s.fab (okObj port obj) (canObjectFirstRead port obj)

/-- CAN_OBJECT_LAST_READ (R481): Reading the last image word releases the object and moves any held frame in. -/
def execCanObjectLastRead (port obj : Nat) (s : State) : Host.Outcome State Fault Refusal :=
  s.fab (okObj port obj) (canObjectLastRead port obj)

/-- CAN_LOCK_TIMEOUT (R481): A lock unreleased after 2 us is released by hardware with LOCK_ABORT. -/
def execCanLockTimeout (port : Nat) (s : State) : Host.Outcome State Fault Refusal := s.fab (okCan port) (canLockTimeout port)

/-- TT_REFERENCE_RECEIVE (R489): A time slave receives a reference message and sets cycle time 0. -/
def execTtReferenceReceive (port cycle : Nat) (s : State) : Host.Outcome State Fault Refusal :=
  s.fab (okCan port) (ttReferenceReceive port cycle)

/-- TT_WINDOW_START (R489): A time-triggered window opens and its object is sent or skipped with TT_MISS. -/
def execTtWindowStart (port obj : Nat) (busIdle : Bool) (s : State) : Host.Outcome State Fault Refusal :=
  s.fab (okObj port obj) (ttWindowStart port obj busIdle)

/-- TT_LOSS_TIMEOUT (R489): No reference within TT_LOSS intervals clears TT_SYNC and records TT_LOST. -/
def execTtLossTimeout (port : Nat) (s : State) : Host.Outcome State Fault Refusal := s.fab (okCan port) (ttLossTimeout port)

/-- ADC_ROUND_TRIGGER (R500): A timer or carrier trigger starts a regular conversion round. -/
def execAdcRoundTrigger (conv : Nat) (codes : List Int) (s : State) : Host.Outcome State Fault Refusal :=
  s.fab (okConv conv) (adcRoundTrigger conv codes)

/-- ADC_INJECTED_TRIGGER (R503): A comparator or carrier trigger starts an injected sequence. -/
def execAdcInjectedTrigger (conv : Nat) (src : Option Nat) (atNs : Nat) (codes : List Int) (s : State) : Host.Outcome State Fault Refusal :=
  s.fab (okConv conv) (adcInjectedTrigger conv src atNs codes)

/-- ADC_CTRL_INJ_GO (R503): Writing INJ_GO starts an injected sequence by command. -/
def execAdcCtrlInjGo (conv atNs : Nat) (codes : List Int) (s : State) : Host.Outcome State Fault Refusal :=
  s.fab (okConv conv) (adcCtrlInjGo conv atNs codes)

/-- ADC_CTRL_CAL (R513): Writing CAL starts self-calibration of a converter. -/
def execAdcCtrlCal (mask : BitVec 3) (s : State) : Host.Outcome State Fault Refusal := s.fab true (fun m => (adcCtrlCal mask.toNat m).1)

/-- ADC_CAL_COMPLETE (R513): Self-calibration ends and its result is accepted, repeated or fails the converter. -/
def execAdcCalComplete (conv : Nat) (offset gain : Int) (s : State) : Host.Outcome State Fault Refusal :=
  s.fab (okConv conv) (adcCalComplete conv offset gain)

/-- ADC_CTRL_CLR (R517): Writing CLR_ADC clears the ADC RS bits. -/
def execAdcCtrlClr (s : State) : Host.Outcome State Fault Refusal := s.fab true adcCtrlClr

/-- IMPLAUSIBLE_CHANGE (R507): 100 grains of mismatch set, or 1,000 grains within limit clear, IMPLAUSIBLE. -/
def execImplausibleChange (string : Nat) (s : State) : Host.Outcome State Fault Refusal :=
  s.fab (okString string) (implausibleChange string)

/-- PI_PULSE (R511): A filtered pulse edge is stamped and completes a period. -/
def execPiPulse (pi : Nat) (edge : PiEdge) (heldUs periodNs : Nat) (s : State) : Host.Outcome State Fault Refusal :=
  s.fab (okTwo pi) (piPulse pi edge heldUs periodNs)

/-- PI_NO_PULSE_TIMEOUT (R511): 100 ms without a pulse sets NO_PULSE. -/
def execPiNoPulseTimeout (pi : Nat) (s : State) : Host.Outcome State Fault Refusal := s.fab (okTwo pi) (piNoPulseTimeout pi)

/-- AI_BURDEN_OPEN (R510): Current above 25 mA opens the burden and invalidates the input. -/
def execAiBurdenOpen (ai : Nat) (s : State) : Host.Outcome State Fault Refusal := s.fab (okAi ai) (aiBurdenOpen ai)

/-- AI_BURDEN_RECLOSE (R510): 1 s after opening the burden closes again. -/
def execAiBurdenReclose (ai : Nat) (s : State) : Host.Outcome State Fault Refusal := s.fab (okAi ai) (aiBurdenReclose ai)

end Sys2Proof.Machine
end

