-- ==== Sys2Proof/Machine/RowsUpd.lean ====
section
/-! DEFINITION. The commands of the Rovisa port, update and calibration (spec file 17): one meaning for each row of the operation table. -/

namespace Sys2Proof.Machine

/-- RV_OPEN (R586): RV_OPEN opens a Rovisa session or a presence session. -/
def execRvOpen (rq : RvReq) (s : State) : Host.Outcome State Fault Refusal := s.on true (rvOpen rq)

/-- RV_CLOSE (R586): RV_CLOSE closes the Rovisa session. -/
def execRvClose (rq : RvReq) (s : State) : Host.Outcome State Fault Refusal := s.on true (rvRow 0x0002 rq)

/-- RV_INFO (R605): RV_INFO returns the identity parameters. -/
def execRvInfo (rq : RvReq) (s : State) : Host.Outcome State Fault Refusal := s.on true (rvRow 0x0003 rq)

/-- UPD_BEGIN (R591): UPD_BEGIN prepares the inactive slot to receive an image. -/
def execUpdBegin (rq : RvReq) (s : State) : Host.Outcome State Fault Refusal := s.on true (rvRow 0x0010 rq)

/-- UPD_BLOCK (R592): UPD_BLOCK stores one checked image block durably. -/
def execUpdBlock (rq : RvReq) (s : State) : Host.Outcome State Fault Refusal := s.on true (rvRow 0x0011 rq)

/-- UPD_VERIFY (R593): UPD_VERIFY starts verification of the received image. -/
def execUpdVerify (rq : RvReq) (s : State) : Host.Outcome State Fault Refusal := s.on true (rvRow 0x0012 rq)

/-- UPD_STATUS (R594): UPD_STATUS returns the update state. -/
def execUpdStatus (rq : RvReq) (s : State) : Host.Outcome State Fault Refusal := s.on true (rvRow 0x0013 rq)

/-- UPD_ACTIVATE (R595): UPD_ACTIVATE makes the slot TRIAL and restarts by its activation kind. -/
def execUpdActivate (rq : RvReq) (s : State) : Host.Outcome State Fault Refusal := s.on true (rvRow 0x0014 rq)

/-- UPD_CONFIRM (R597): UPD_CONFIRM makes the trial slot ACTIVE. -/
def execUpdConfirm (rq : RvReq) (s : State) : Host.Outcome State Fault Refusal := s.on true (rvRow 0x0015 rq)

/-- UPD_ROLLBACK (R598): UPD_ROLLBACK activates the other slot. -/
def execUpdRollback (rq : RvReq) (s : State) : Host.Outcome State Fault Refusal := s.on true (rvRow 0x0016 rq)

/-- UPD_ABORT (R589): UPD_ABORT returns the inactive slot to EMPTY unless TRIAL. -/
def execUpdAbort (rq : RvReq) (s : State) : Host.Outcome State Fault Refusal := s.on true (rvRow 0x0017 rq)

/-- SAFE_STAGE (R326): SAFE_STAGE checks a complete safety configuration and returns both core copies with CRCs. -/
def execSafeStage (rq : RvReq) (s : State) : Host.Outcome State Fault Refusal := s.on true (rvRow 0x0020 rq)

/-- SAFE_COMMIT (R326): SAFE_COMMIT activates the staged safety configuration. -/
def execSafeCommit (rq : RvReq) (s : State) : Host.Outcome State Fault Refusal := s.on true (rvRow 0x0021 rq)

/-- KEY_LOAD_CLEAR (R571): KEY_LOAD_CLEAR loads a key in the clear in a presence session. -/
def execKeyLoadClear (rq : RvReq) (s : State) : Host.Outcome State Fault Refusal := s.on true (rvRow 0x0030 rq)

/-- CAL_READ (R601): CAL_READ returns the factory calibration records. -/
def execCalRead (rq : RvReq) (s : State) : Host.Outcome State Fault Refusal := s.on true (rvRow 0x0040 rq)

/-- CAL_RESET (R603): CAL_RESET zeroes the user calibration of the masked slots. -/
def execCalReset (rq : RvReq) (s : State) : Host.Outcome State Fault Refusal := s.on true (rvRow 0x0041 rq)

/-- RV_DIAG_READ (R587): A Rovisa DIAG_READ returns registers, or the cursor registers without a session. -/
def execRvDiagRead (rq : RvReq) (s : State) : Host.Outcome State Fault Refusal := s.on true (rvRow 0x0050 rq)

/-- RV_DIAG_WRITE (R587): A Rovisa DIAG_WRITE writes registers, or the cursor registers without a session. -/
def execRvDiagWrite (rq : RvReq) (s : State) : Host.Outcome State Fault Refusal := s.on true (rvRow 0x0051 rq)

/-- SVC_ENTER (R599): SVC_ENTER opens the service window. -/
def execSvcEnter (rq : RvReq) (s : State) : Host.Outcome State Fault Refusal := s.on true (rvRow 0x0060 rq)

/-- SVC_LEAVE (R599): SVC_LEAVE closes the service window. -/
def execSvcLeave (rq : RvReq) (s : State) : Host.Outcome State Fault Refusal := s.on true (rvRow 0x0061 rq)

/-- RV_RESTART (R425): RV_RESTART requests a restart through the Rovisa port. -/
def execRvRestart (rq : RvReq) (s : State) : Host.Outcome State Fault Refusal := s.on true (rvRow 0x0070 rq)

/-- UPD_VERIFY_COMPLETE (R593): Verification ends and the slot becomes VERIFIED or INVALID. -/
def execUpdVerifyComplete (s : State) : Host.Outcome State Fault Refusal := s.on true updVerifyComplete

/-- TRIAL_AUTO_CONFIRM (R597): 600 s of trial without fault confirms the slot. -/
def execTrialAutoConfirm (s : State) : Host.Outcome State Fault Refusal := s.on true trialAutoConfirm

/-- RV_SESSION_IDLE (R586): 600 s without an accepted request closes the Rovisa session. -/
def execRvSessionIdle (s : State) : Host.Outcome State Fault Refusal := s.on true rvSessionIdle

/-- USB_DISCONNECT (R586): USB disconnection closes the Rovisa session and the service window. -/
def execUsbDisconnect (s : State) : Host.Outcome State Fault Refusal := s.on true usbDisconnect

end Sys2Proof.Machine
end

