-- ==== Sys2Proof/Machine/Dispatch.lean ====
section
/-! DEFINITION. The dispatch: one arm per constructor of Instr. -/

namespace Sys2Proof.Machine
open Host

/-- The effect of a command on everything but the queue. -/
def exec (i : Instr) (s : State) : Host.Outcome State Fault Refusal :=
  match i with
  | .tick => Sys2Proof.Machine.execTick s
  | .grainBoundary dieT => Sys2Proof.Machine.execGrainBoundary dieT s
  | .slotRun bed slotId cycles fault readback => Sys2Proof.Machine.execSlotRun bed slotId cycles fault readback s
  | .overrun bed slotId cause => Sys2Proof.Machine.execOverrun bed slotId cause s
  | .lockstepMismatch pair => Sys2Proof.Machine.execLockstepMismatch pair s
  | .supervisorWatchdog => Sys2Proof.Machine.execSupervisorWatchdog s
  | .warmRestartComplete bootA bootB => Sys2Proof.Machine.execWarmRestartComplete bootA bootB s
  | .grainPulseTimeout => Sys2Proof.Machine.execGrainPulseTimeout s
  | .safetyCoreFault cause => Sys2Proof.Machine.execSafetyCoreFault cause s
  | .clockMeasurement clk ppm => Sys2Proof.Machine.execClockMeasurement clk ppm s
  | .recoveredClockUnlock clk => Sys2Proof.Machine.execRecoveredClockUnlock clk s
  | .planCheckComplete => Sys2Proof.Machine.execPlanCheckComplete s
  | .planRestart => Sys2Proof.Machine.execPlanRestart s
  | .bedReplant => Sys2Proof.Machine.execBedReplant s
  | .chainResponse ring rx => Sys2Proof.Machine.execChainResponse ring rx s
  | .chainTransactionClose ring far => Sys2Proof.Machine.execChainTransactionClose ring far s
  | .enumRetry ring => Sys2Proof.Machine.execEnumRetry ring s
  | .authReadDue ring mon => Sys2Proof.Machine.execAuthReadDue ring mon s
  | .authTimeout ring mon => Sys2Proof.Machine.execAuthTimeout ring mon s
  | .reauthDue ring mon nonce => Sys2Proof.Machine.execReauthDue ring mon nonce s
  | .ringWakeDone ring => Sys2Proof.Machine.execRingWakeDone ring s
  | .monitorWakeTone ring e => Sys2Proof.Machine.execMonitorWakeTone ring e s
  | .alarmToneDeclared ring e => Sys2Proof.Machine.execAlarmToneDeclared ring e s
  | .alarmToneAbsent ring e => Sys2Proof.Machine.execAlarmToneAbsent ring e s
  | .toneDetectorTest ring failed => Sys2Proof.Machine.execToneDetectorTest ring failed s
  | .senseOpenHoldExpiry ring mon tap => Sys2Proof.Machine.execSenseOpenHoldExpiry ring mon tap s
  | .fullTestDue ring mon => Sys2Proof.Machine.execFullTestDue ring mon s
  | .balancePlan string => Sys2Proof.Machine.execBalancePlan string s
  | .restAnchor string => Sys2Proof.Machine.execRestAnchor string s
  | .impedanceIntervalEnd => Sys2Proof.Machine.execImpedanceIntervalEnd s
  | .anomalyClear gidx => Sys2Proof.Machine.execAnomalyClear gidx s
  | .checkpointCapture string => Sys2Proof.Machine.execCheckpointCapture string s
  | .checkpointWriteComplete string ok => Sys2Proof.Machine.execCheckpointWriteComplete string ok s
  | .estRestoreComplete => Sys2Proof.Machine.execEstRestoreComplete s
  | .restoreWaitExpiry string => Sys2Proof.Machine.execRestoreWaitExpiry string s
  | .upstreamFrame link frame => Sys2Proof.Machine.execUpstreamFrame link frame s
  | .klinkLost link => Sys2Proof.Machine.execKlinkLost link s
  | .localRampTimeout link => Sys2Proof.Machine.execLocalRampTimeout link s
  | .fibreDelayMeasure link => Sys2Proof.Machine.execFibreDelayMeasure link s
  | .linkAligned link => Sys2Proof.Machine.execLinkAligned link s
  | .alignmentLost link => Sys2Proof.Machine.execAlignmentLost link s
  | .regTimeout link => Sys2Proof.Machine.execRegTimeout link s
  | .tripRequest link => Sys2Proof.Machine.execTripRequest link s
  | .pruneCommit link => Sys2Proof.Machine.execPruneCommit link s
  | .armTimerExpiry link phase => Sys2Proof.Machine.execArmTimerExpiry link phase s
  | .hiccupEntry link phase => Sys2Proof.Machine.execHiccupEntry link phase s
  | .hiccupTimeExpiry link phase => Sys2Proof.Machine.execHiccupTimeExpiry link phase s
  | .hiccupClearExpiry link phase => Sys2Proof.Machine.execHiccupClearExpiry link phase s
  | .phaseOpenDetect link phase => Sys2Proof.Machine.execPhaseOpenDetect link phase s
  | .phaseSenseFail link phase => Sys2Proof.Machine.execPhaseSenseFail link phase s
  | .mirrorTimeout link phase => Sys2Proof.Machine.execMirrorTimeout link phase s
  | .phaseFollowLatch link phase => Sys2Proof.Machine.execPhaseFollowLatch link phase s
  | .stringFollowStop link => Sys2Proof.Machine.execStringFollowStop link s
  | .powerFollowFlag link => Sys2Proof.Machine.execPowerFollowFlag link s
  | .burstEntry link => Sys2Proof.Machine.execBurstEntry link s
  | .burstPhaseReselect link => Sys2Proof.Machine.execBurstPhaseReselect link s
  | .softStopComplete link => Sys2Proof.Machine.execSoftStopComplete link s
  | .softStopTimeout link => Sys2Proof.Machine.execSoftStopTimeout link s
  | .leaseExpiry => Sys2Proof.Machine.execLeaseExpiry s
  | .sourceFault => Sys2Proof.Machine.execSourceFault s
  | .sourceRecover => Sys2Proof.Machine.execSourceRecover s
  | .restWindowEnd string => Sys2Proof.Machine.execRestWindowEnd string s
  | .restPendExpiry string => Sys2Proof.Machine.execRestPendExpiry string s
  | .serviceComplete => Sys2Proof.Machine.execServiceComplete s
  | .sensorBadHoldExpiry string => Sys2Proof.Machine.execSensorBadHoldExpiry string s
  | .derateStepTimer string => Sys2Proof.Machine.execDerateStepTimer string s
  | .ocComparatorEvent string above active => Sys2Proof.Machine.execOcComparatorEvent string above active s
  | .contDelayExpiry group => Sys2Proof.Machine.execContDelayExpiry group s
  | .contFbTimeout group => Sys2Proof.Machine.execContFbTimeout group s
  | .contactorFeedbackChange group closed => Sys2Proof.Machine.execContactorFeedbackChange group closed s
  | .hvacRequest zone => Sys2Proof.Machine.execHvacRequest zone s
  | .safetyCycle meas => Sys2Proof.Machine.execSafetyCycle meas s
  | .safeInputChange optical idx second level => Sys2Proof.Machine.execSafeInputChange optical idx second level s
  | .discrepancyTimeout optical idx => Sys2Proof.Machine.execDiscrepancyTimeout optical idx s
  | .testPulseGap source readback missing => Sys2Proof.Machine.execTestPulseGap source readback missing s
  | .resetInputRelease idx => Sys2Proof.Machine.execResetInputRelease idx s
  | .twoHandSyncExpiry => Sys2Proof.Machine.execTwoHandSyncExpiry s
  | .sqHighSideOn sq => Sys2Proof.Machine.execSqHighSideOn sq s
  | .offPulseTest sq => Sys2Proof.Machine.execOffPulseTest sq s
  | .offPulseEnd sq node => Sys2Proof.Machine.execOffPulseEnd sq node s
  | .openLoadTimeout sq => Sys2Proof.Machine.execOpenLoadTimeout sq s
  | .fallowExpiry => Sys2Proof.Machine.execFallowExpiry s
  | .clocheSend graft => Sys2Proof.Machine.execClocheSend graft s
  | .clocheFrameReceive graft net frame port => Sys2Proof.Machine.execClocheFrameReceive graft net frame port s
  | .clocheWatchdogExpiry graft => Sys2Proof.Machine.execClocheWatchdogExpiry graft s
  | .partnerBpTrip asserted => Sys2Proof.Machine.execPartnerBpTrip asserted s
  | .fieldSupplyChange supply mv => Sys2Proof.Machine.execFieldSupplyChange supply mv s
  | .safeStageExpiry => Sys2Proof.Machine.execSafeStageExpiry s
  | .standbyReplayTimeout => Sys2Proof.Machine.execStandbyReplayTimeout s
  | .rolePoint => Sys2Proof.Machine.execRolePoint s
  | .pairFormWaitExpiry => Sys2Proof.Machine.execPairFormWaitExpiry s
  | .roleLineChange asserted => Sys2Proof.Machine.execRoleLineChange asserted s
  | .partnerAbsent => Sys2Proof.Machine.execPartnerAbsent s
  | .joinPair => Sys2Proof.Machine.execJoinPair s
  | .replayRecordReceive r image exch => Sys2Proof.Machine.execReplayRecordReceive r image exch s
  | .fieldForward resps ends tones ready => Sys2Proof.Machine.execFieldForward resps ends tones ready s
  | .heartbeatMiss => Sys2Proof.Machine.execHeartbeatMiss s
  | .resyncRetryExpiry => Sys2Proof.Machine.execResyncRetryExpiry s
  | .yieldRoleRelease => Sys2Proof.Machine.execYieldRoleRelease s
  | .takeover => Sys2Proof.Machine.execTakeover s
  | .drillDue => Sys2Proof.Machine.execDrillDue s
  | .drillOverdue => Sys2Proof.Machine.execDrillOverdue s
  | .drillCheck => Sys2Proof.Machine.execDrillCheck s
  | .graftLaneChange lane up => Sys2Proof.Machine.execGraftLaneChange lane up s
  | .insertion => Sys2Proof.Machine.execInsertion s
  | .extractionWarning => Sys2Proof.Machine.execExtractionWarning s
  | .presenceReturn env => Sys2Proof.Machine.execPresenceReturn env s
  | .udpPacketReceive net addr port dest bytes => Sys2Proof.Machine.execUdpPacketReceive net addr port dest bytes s
  | .sessionOpen rq => Sys2Proof.Machine.execSessionOpen rq s
  | .sessionClose rq => Sys2Proof.Machine.execSessionClose rq s
  | .nop rq => Sys2Proof.Machine.execNop rq s
  | .noticeAck rq => Sys2Proof.Machine.execNoticeAck rq s
  | .pointRead rq => Sys2Proof.Machine.execPointRead rq s
  | .streamOpen rq => Sys2Proof.Machine.execStreamOpen rq s
  | .streamClose rq => Sys2Proof.Machine.execStreamClose rq s
  | .paramRead rq => Sys2Proof.Machine.execParamRead rq s
  | .paramWrite rq => Sys2Proof.Machine.execParamWrite rq s
  | .diagRead rq => Sys2Proof.Machine.execDiagRead rq s
  | .diagWrite rq => Sys2Proof.Machine.execDiagWrite rq s
  | .xaRead rq => Sys2Proof.Machine.execXaRead rq s
  | .xaWrite rq => Sys2Proof.Machine.execXaWrite rq s
  | .mbxPost rq => Sys2Proof.Machine.execMbxPost rq s
  | .mbxRead rq => Sys2Proof.Machine.execMbxRead rq s
  | .mbxAck rq => Sys2Proof.Machine.execMbxAck rq s
  | .supervisorMbxTake slot => Sys2Proof.Machine.execSupervisorMbxTake slot s
  | .outboundMbxWrite slot ptr len type domain => Sys2Proof.Machine.execOutboundMbxWrite slot ptr len type domain s
  | .mbxCrossTimeout slot => Sys2Proof.Machine.execMbxCrossTimeout slot s
  | .estRead rq => Sys2Proof.Machine.execEstRead rq s
  | .estRestore rq => Sys2Proof.Machine.execEstRestore rq s
  | .estReset rq => Sys2Proof.Machine.execEstReset rq s
  | .recordQuery rq => Sys2Proof.Machine.execRecordQuery rq s
  | .recorderClear rq => Sys2Proof.Machine.execRecorderClear rq s
  | .confirmExpiry sid => Sys2Proof.Machine.execConfirmExpiry sid s
  | .leaseClaim rq => Sys2Proof.Machine.execLeaseClaim rq s
  | .leaseRenew rq => Sys2Proof.Machine.execLeaseRenew rq s
  | .leaseRelease rq => Sys2Proof.Machine.execLeaseRelease rq s
  | .leaseRevoke rq => Sys2Proof.Machine.execLeaseRevoke rq s
  | .setPower rq => Sys2Proof.Machine.execSetPower rq s
  | .moveStart rq => Sys2Proof.Machine.execMoveStart rq s
  | .moveRetarget rq => Sys2Proof.Machine.execMoveRetarget rq s
  | .stop rq => Sys2Proof.Machine.execStop rq s
  | .resume rq => Sys2Proof.Machine.execResume rq s
  | .trip rq => Sys2Proof.Machine.execTrip rq s
  | .stringService rq => Sys2Proof.Machine.execStringService rq s
  | .planLoad rq => Sys2Proof.Machine.execPlanLoad rq s
  | .planActivate rq => Sys2Proof.Machine.execPlanActivate rq s
  | .planDiscard rq => Sys2Proof.Machine.execPlanDiscard rq s
  | .protClear rq => Sys2Proof.Machine.execProtClear rq s
  | .toneReset rq => Sys2Proof.Machine.execToneReset rq s
  | .senseClear rq => Sys2Proof.Machine.execSenseClear rq s
  | .safetyReset rq => Sys2Proof.Machine.execSafetyReset rq s
  | .convFaultClear rq => Sys2Proof.Machine.execConvFaultClear rq s
  | .phaseClear rq => Sys2Proof.Machine.execPhaseClear rq s
  | .enumerate rq => Sys2Proof.Machine.execEnumerate rq s
  | .clrOverrun rq => Sys2Proof.Machine.execClrOverrun rq s
  | .clrChainCnt rq => Sys2Proof.Machine.execClrChainCnt rq s
  | .clrConvFlags rq => Sys2Proof.Machine.execClrConvFlags rq s
  | .clrConvCnt rq => Sys2Proof.Machine.execClrConvCnt rq s
  | .clrSafetyCnt rq => Sys2Proof.Machine.execClrSafetyCnt rq s
  | .clrPairCnt rq => Sys2Proof.Machine.execClrPairCnt rq s
  | .restart rq => Sys2Proof.Machine.execRestart rq s
  | .roleSwap rq => Sys2Proof.Machine.execRoleSwap rq s
  | .sessionIdleTimeout sid => Sys2Proof.Machine.execSessionIdleTimeout sid s
  | .noticeResend sid seq => Sys2Proof.Machine.execNoticeResend sid seq s
  | .streamCycle id fits => Sys2Proof.Machine.execStreamCycle id fits s
  | .watchEvaluation => Sys2Proof.Machine.execWatchEvaluation s
  | .authBlockExpiry addr => Sys2Proof.Machine.execAuthBlockExpiry addr s
  | .grnNowRead => Sys2Proof.Machine.execGrnNowRead s
  | .s64LowRead off => Sys2Proof.Machine.execS64LowRead off s
  | .timeNsRead => Sys2Proof.Machine.execTimeNsRead s
  | .timeSecLoRead => Sys2Proof.Machine.execTimeSecLoRead s
  | .dramUeLoRead => Sys2Proof.Machine.execDramUeLoRead s
  | .ptpSyncReceive port f => Sys2Proof.Machine.execPtpSyncReceive port f s
  | .ptpAnnounceReceive port f => Sys2Proof.Machine.execPtpAnnounceReceive port f s
  | .ptpDelayRespReceive port f => Sys2Proof.Machine.execPtpDelayRespReceive port f s
  | .delayReqSend port t3 => Sys2Proof.Machine.execDelayReqSend port t3 s
  | .ptpTcForward port domain kind corr ingress egress frame => Sys2Proof.Machine.execPtpTcForward port domain kind corr ingress egress frame s
  | .announceTimeout port => Sys2Proof.Machine.execAnnounceTimeout port s
  | .syncLossTimeout => Sys2Proof.Machine.execSyncLossTimeout s
  | .holdMaxExpiry => Sys2Proof.Machine.execHoldMaxExpiry s
  | .timeExtend => Sys2Proof.Machine.execTimeExtend s
  | .forceStepExpiry => Sys2Proof.Machine.execForceStepExpiry s
  | .incrSave => Sys2Proof.Machine.execIncrSave s
  | .canFrameReceived port frame bits => Sys2Proof.Machine.execCanFrameReceived port frame bits s
  | .canTxSuccess port bits => Sys2Proof.Machine.execCanTxSuccess port bits s
  | .canTxError port e => Sys2Proof.Machine.execCanTxError port e s
  | .canRecoveryComplete port => Sys2Proof.Machine.execCanRecoveryComplete port s
  | .canCtrlRecover port => Sys2Proof.Machine.execCanCtrlRecover port s
  | .canCtrlDetect port => Sys2Proof.Machine.execCanCtrlDetect port s
  | .detectDwellExpiry port => Sys2Proof.Machine.execDetectDwellExpiry port s
  | .canCtrlAbortAll port => Sys2Proof.Machine.execCanCtrlAbortAll port s
  | .canCtrlClearFlags port => Sys2Proof.Machine.execCanCtrlClearFlags port s
  | .canTxwGo port => Sys2Proof.Machine.execCanTxwGo port s
  | .canObjectFirstRead port obj => Sys2Proof.Machine.execCanObjectFirstRead port obj s
  | .canObjectLastRead port obj => Sys2Proof.Machine.execCanObjectLastRead port obj s
  | .canLockTimeout port => Sys2Proof.Machine.execCanLockTimeout port s
  | .ttReferenceReceive port cycle => Sys2Proof.Machine.execTtReferenceReceive port cycle s
  | .ttWindowStart port obj busIdle => Sys2Proof.Machine.execTtWindowStart port obj busIdle s
  | .ttLossTimeout port => Sys2Proof.Machine.execTtLossTimeout port s
  | .adcRoundTrigger conv codes => Sys2Proof.Machine.execAdcRoundTrigger conv codes s
  | .adcInjectedTrigger conv src atNs codes => Sys2Proof.Machine.execAdcInjectedTrigger conv src atNs codes s
  | .adcCtrlInjGo conv atNs codes => Sys2Proof.Machine.execAdcCtrlInjGo conv atNs codes s
  | .adcCtrlCal mask => Sys2Proof.Machine.execAdcCtrlCal mask s
  | .adcCalComplete conv offset gain => Sys2Proof.Machine.execAdcCalComplete conv offset gain s
  | .adcCtrlClr => Sys2Proof.Machine.execAdcCtrlClr s
  | .implausibleChange string => Sys2Proof.Machine.execImplausibleChange string s
  | .piPulse pi edge heldUs periodNs => Sys2Proof.Machine.execPiPulse pi edge heldUs periodNs s
  | .piNoPulseTimeout pi => Sys2Proof.Machine.execPiNoPulseTimeout pi s
  | .aiBurdenOpen ai => Sys2Proof.Machine.execAiBurdenOpen ai s
  | .aiBurdenReclose ai => Sys2Proof.Machine.execAiBurdenReclose ai s
  | .recordPost code item block data => Sys2Proof.Machine.execRecordPost code item block data s
  | .flushStart => Sys2Proof.Machine.execFlushStart s
  | .flushComplete => Sys2Proof.Machine.execFlushComplete s
  | .rateSecondEnd => Sys2Proof.Machine.execRateSecondEnd s
  | .recCurPosWrite pos ctrl => Sys2Proof.Machine.execRecCurPosWrite pos ctrl s
  | .recCurDataLastRead => Sys2Proof.Machine.execRecCurDataLastRead s
  | .archiveFinePeriod string => Sys2Proof.Machine.execArchiveFinePeriod string s
  | .archiveCoarseDay string => Sys2Proof.Machine.execArchiveCoarseDay string s
  | .configWriteComplete => Sys2Proof.Machine.execConfigWriteComplete s
  | .flashPageWriteFail partition addr => Sys2Proof.Machine.execFlashPageWriteFail partition addr s
  | .flashLifeChange life reserveOut => Sys2Proof.Machine.execFlashLifeChange life reserveOut s
  | .scrubPass corrected bad => Sys2Proof.Machine.execScrubPass corrected bad s
  | .dramUeRead addr reader bed slotId use => Sys2Proof.Machine.execDramUeRead addr reader bed slotId use s
  | .dmaDescriptorDone ch next => Sys2Proof.Machine.execDmaDescriptorDone ch next s
  | .dmaFault ch cause bytes => Sys2Proof.Machine.execDmaFault ch cause bytes s
  | .coldStart insertion env => Sys2Proof.Machine.execColdStart insertion env s
  | .moduleRestart env => Sys2Proof.Machine.execModuleRestart env s
  | .restartButtonRelease => Sys2Proof.Machine.execRestartButtonRelease s
  | .buttonStuck => Sys2Proof.Machine.execButtonStuck s
  | .buttonRearm => Sys2Proof.Machine.execButtonRearm s
  | .strapRecheck pins => Sys2Proof.Machine.execStrapRecheck pins s
  | .powerFailure vin => Sys2Proof.Machine.execPowerFailure vin s
  | .powerRecovered env => Sys2Proof.Machine.execPowerRecovered env s
  | .secViolation source powered holds => Sys2Proof.Machine.execSecViolation source powered holds s
  | .cellLow mv => Sys2Proof.Machine.execCellLow mv s
  | .keyLoad rq => Sys2Proof.Machine.execKeyLoad rq s
  | .secSet rq => Sys2Proof.Machine.execSecSet rq s
  | .secUnlock rq => Sys2Proof.Machine.execSecUnlock rq s
  | .secErase rq => Sys2Proof.Machine.execSecErase rq s
  | .factoryRestore rq => Sys2Proof.Machine.execFactoryRestore rq s
  | .park rq => Sys2Proof.Machine.execPark rq s
  | .secClear rq => Sys2Proof.Machine.execSecClear rq s
  | .rvOpen rq => Sys2Proof.Machine.execRvOpen rq s
  | .rvClose rq => Sys2Proof.Machine.execRvClose rq s
  | .rvInfo rq => Sys2Proof.Machine.execRvInfo rq s
  | .updBegin rq => Sys2Proof.Machine.execUpdBegin rq s
  | .updBlock rq => Sys2Proof.Machine.execUpdBlock rq s
  | .updVerify rq => Sys2Proof.Machine.execUpdVerify rq s
  | .updVerifyComplete => Sys2Proof.Machine.execUpdVerifyComplete s
  | .updStatus rq => Sys2Proof.Machine.execUpdStatus rq s
  | .updActivate rq => Sys2Proof.Machine.execUpdActivate rq s
  | .updConfirm rq => Sys2Proof.Machine.execUpdConfirm rq s
  | .trialAutoConfirm => Sys2Proof.Machine.execTrialAutoConfirm s
  | .updRollback rq => Sys2Proof.Machine.execUpdRollback rq s
  | .updAbort rq => Sys2Proof.Machine.execUpdAbort rq s
  | .safeStage rq => Sys2Proof.Machine.execSafeStage rq s
  | .safeCommit rq => Sys2Proof.Machine.execSafeCommit rq s
  | .keyLoadClear rq => Sys2Proof.Machine.execKeyLoadClear rq s
  | .calRead rq => Sys2Proof.Machine.execCalRead rq s
  | .calReset rq => Sys2Proof.Machine.execCalReset rq s
  | .rvDiagRead rq => Sys2Proof.Machine.execRvDiagRead rq s
  | .rvDiagWrite rq => Sys2Proof.Machine.execRvDiagWrite rq s
  | .svcEnter rq => Sys2Proof.Machine.execSvcEnter rq s
  | .svcLeave rq => Sys2Proof.Machine.execSvcLeave rq s
  | .rvRestart rq => Sys2Proof.Machine.execRvRestart rq s
  | .rvSessionIdle => Sys2Proof.Machine.execRvSessionIdle s
  | .usbDisconnect => Sys2Proof.Machine.execUsbDisconnect s
  | .recoveredClockLock clk inverted => Sys2Proof.Machine.execRecoveredClockLock clk inverted s
  | .networkLinkChange net up => Sys2Proof.Machine.execNetworkLinkChange net up s
  | .partnerPresent => Sys2Proof.Machine.execPartnerPresent s
  | .holdupExhausted => Sys2Proof.Machine.execHoldupExhausted s
  | .flashResponseChange responding => Sys2Proof.Machine.execFlashResponseChange responding s
  | .restartButtonPress => Sys2Proof.Machine.execRestartButtonPress s
  | .graftMailboxReceive kind ptr len type body => Sys2Proof.Machine.execGraftMailboxReceive kind ptr len type body s
  | .recordQueryComplete sid => Sys2Proof.Machine.execRecordQueryComplete sid s
  | .ptpFollowUpReceive port f => Sys2Proof.Machine.execPtpFollowUpReceive port f s
  | .canRxError port lec inc => Sys2Proof.Machine.execCanRxError port lec inc s

end Sys2Proof.Machine
end

