-- ==== Sys2Proof/WellFormed.lean ====
section
/-! DEFINITION. Well-formed commands: the operands name items that the module has. A command that is not well formed changes
nothing (log 44). -/

namespace Sys2Proof
open Sys2Proof.Machine

/-- The operands of a command name items of the module (R3, R104, R222, R325, R370, R453, R474, R500): a ring, a monitor, a phase,
an object, an input. Commands whose operands name no numbered item are well formed as they stand. -/
def Instr.wf : Instr → Bool
  | .tick => true
  | .grainBoundary _ => true
  | .slotRun bed _ _ _ _ => okBed bed
  | .overrun bed _ _ => okBed bed
  | .lockstepMismatch pair => okTwo pair
  | .supervisorWatchdog => true
  | .warmRestartComplete _ _ => true
  | .grainPulseTimeout => true
  | .safetyCoreFault cause => okCore cause
  | .clockMeasurement clk _ => okClock clk
  | .recoveredClockUnlock clk => okRec clk
  | .planCheckComplete => true
  | .planRestart => true
  | .bedReplant => true
  | .chainResponse ring _ => okString ring
  | .chainTransactionClose ring _ => okString ring
  | .enumRetry ring => okString ring
  | .authReadDue ring mon => okMon ring mon
  | .authTimeout ring mon => okMon ring mon
  | .reauthDue ring mon _ => okMon ring mon
  | .ringWakeDone ring => okString ring
  | .monitorWakeTone ring _ => okString ring
  | .alarmToneDeclared ring _ => okString ring
  | .alarmToneAbsent ring _ => okString ring
  | .toneDetectorTest ring _ => okString ring
  | .senseOpenHoldExpiry ring mon tap => okTap ring mon tap
  | .fullTestDue ring mon => okMon ring mon
  | .balancePlan string => okString string
  | .restAnchor string => okString string
  | .impedanceIntervalEnd => true
  | .anomalyClear gidx => okCell gidx
  | .checkpointCapture string => okString string
  | .checkpointWriteComplete string _ => okString string
  | .estRestoreComplete => true
  | .restoreWaitExpiry string => okString string
  | .upstreamFrame link _ => okString link
  | .klinkLost link => okString link
  | .localRampTimeout link => okString link
  | .fibreDelayMeasure link => okString link
  | .linkAligned link => okString link
  | .alignmentLost link => okString link
  | .regTimeout link => okString link
  | .tripRequest link => okString link
  | .pruneCommit link => okString link
  | .armTimerExpiry link phase => okPhase link phase
  | .hiccupEntry link phase => okPhase link phase
  | .hiccupTimeExpiry link phase => okPhase link phase
  | .hiccupClearExpiry link phase => okPhase link phase
  | .phaseOpenDetect link phase => okPhase link phase
  | .phaseSenseFail link phase => okPhase link phase
  | .mirrorTimeout link phase => okPhase link phase
  | .phaseFollowLatch link phase => okPhase link phase
  | .stringFollowStop link => okString link
  | .powerFollowFlag link => okString link
  | .burstEntry link => okString link
  | .burstPhaseReselect link => okString link
  | .softStopComplete link => okString link
  | .softStopTimeout link => okString link
  | .leaseExpiry => true
  | .sourceFault => true
  | .sourceRecover => true
  | .restWindowEnd string => okString string
  | .restPendExpiry string => okString string
  | .serviceComplete => true
  | .sensorBadHoldExpiry string => okString string
  | .derateStepTimer string => okString string
  | .ocComparatorEvent string _ _ => okString string
  | .contDelayExpiry group => okGroup group
  | .contFbTimeout group => okGroup group
  | .contactorFeedbackChange group _ => okGroup group
  | .hvacRequest zone => okGroup zone
  | .safetyCycle _ => true
  | .safeInputChange optical idx _ _ => okInput optical idx
  | .discrepancyTimeout optical idx => okInput optical idx
  | .testPulseGap source _ _ => okTwo source
  | .resetInputRelease idx => okInput false idx
  | .twoHandSyncExpiry => true
  | .sqHighSideOn sq => okGroup sq
  | .offPulseTest sq => okGroup sq
  | .offPulseEnd sq _ => okGroup sq
  | .openLoadTimeout sq => okGroup sq
  | .fallowExpiry => true
  | .clocheSend _ => true
  | .clocheFrameReceive _ src _ _ => okTwo src.net
  | .clocheWatchdogExpiry _ => true
  | .partnerBpTrip _ => true
  | .fieldSupplyChange supply _ => okTwo supply
  | .safeStageExpiry => true
  | .standbyReplayTimeout => true
  | .rolePoint => true
  | .pairFormWaitExpiry => true
  | .roleLineChange _ => true
  | .partnerAbsent => true
  | .joinPair => true
  | .replayRecordReceive _ _ _ => true
  | .fieldForward _ _ _ _ => true
  | .heartbeatMiss => true
  | .resyncRetryExpiry => true
  | .yieldRoleRelease => true
  | .takeover => true
  | .drillDue => true
  | .drillOverdue => true
  | .drillCheck => true
  | .graftLaneChange lane _ => okTwo lane
  | .insertion => true
  | .extractionWarning => true
  | .presenceReturn _ => true
  | .udpPacketReceive net _ _ _ _ => okTwo net
  | .sessionOpen _ => true
  | .sessionClose _ => true
  | .nop _ => true
  | .noticeAck _ => true
  | .pointRead _ => true
  | .streamOpen _ => true
  | .streamClose _ => true
  | .paramRead _ => true
  | .paramWrite _ => true
  | .diagRead _ => true
  | .diagWrite _ => true
  | .xaRead _ => true
  | .xaWrite _ => true
  | .mbxPost _ => true
  | .mbxRead _ => true
  | .mbxAck _ => true
  | .supervisorMbxTake slot => okSlot slot
  | .outboundMbxWrite slot _ _ _ _ => okSlot slot
  | .mbxCrossTimeout slot => okSlot slot
  | .estRead _ => true
  | .estRestore _ => true
  | .estReset _ => true
  | .recordQuery _ => true
  | .recorderClear _ => true
  | .confirmExpiry _ => true
  | .leaseClaim _ => true
  | .leaseRenew _ => true
  | .leaseRelease _ => true
  | .leaseRevoke _ => true
  | .setPower _ => true
  | .moveStart _ => true
  | .moveRetarget _ => true
  | .stop _ => true
  | .resume _ => true
  | .trip _ => true
  | .stringService _ => true
  | .planLoad _ => true
  | .planActivate _ => true
  | .planDiscard _ => true
  | .protClear _ => true
  | .toneReset _ => true
  | .senseClear _ => true
  | .safetyReset _ => true
  | .convFaultClear _ => true
  | .phaseClear _ => true
  | .enumerate _ => true
  | .clrOverrun _ => true
  | .clrChainCnt _ => true
  | .clrConvFlags _ => true
  | .clrConvCnt _ => true
  | .clrSafetyCnt _ => true
  | .clrPairCnt _ => true
  | .restart _ => true
  | .roleSwap _ => true
  | .sessionIdleTimeout _ => true
  | .noticeResend _ _ => true
  | .streamCycle _ _ => true
  | .watchEvaluation => true
  | .authBlockExpiry _ => true
  | .grnNowRead => true
  | .s64LowRead _ => true
  | .timeNsRead => true
  | .timeSecLoRead => true
  | .dramUeLoRead => true
  | .ptpSyncReceive port _ => okTwo port
  | .ptpAnnounceReceive port _ => okTwo port
  | .ptpDelayRespReceive port _ => okTwo port
  | .delayReqSend port _ => okTwo port
  | .ptpTcForward port _ _ _ _ _ _ => okTwo port
  | .announceTimeout port => okTwo port
  | .syncLossTimeout => true
  | .holdMaxExpiry => true
  | .timeExtend => true
  | .forceStepExpiry => true
  | .incrSave => true
  | .canFrameReceived port _ _ => okCan port
  | .canTxSuccess port _ => okCan port
  | .canTxError port _ => okCan port
  | .canRecoveryComplete port => okCan port
  | .canCtrlRecover port => okCan port
  | .canCtrlDetect port => okCan port
  | .detectDwellExpiry port => okCan port
  | .canCtrlAbortAll port => okCan port
  | .canCtrlClearFlags port => okCan port
  | .canTxwGo port => okCan port
  | .canObjectFirstRead port obj => okObj port obj
  | .canObjectLastRead port obj => okObj port obj
  | .canLockTimeout port => okCan port
  | .ttReferenceReceive port _ => okCan port
  | .ttWindowStart port obj _ => okObj port obj
  | .ttLossTimeout port => okCan port
  | .adcRoundTrigger conv _ => okConv conv
  | .adcInjectedTrigger conv _ _ _ => okConv conv
  | .adcCtrlInjGo conv _ _ => okConv conv
  | .adcCtrlCal _ => true
  | .adcCalComplete conv _ _ => okConv conv
  | .adcCtrlClr => true
  | .implausibleChange string => okString string
  | .piPulse pi _ _ _ => okTwo pi
  | .piNoPulseTimeout pi => okTwo pi
  | .aiBurdenOpen ai => okAi ai
  | .aiBurdenReclose ai => okAi ai
  | .recordPost _ _ _ _ => true
  | .flushStart => true
  | .flushComplete => true
  | .rateSecondEnd => true
  | .recCurPosWrite _ _ => true
  | .recCurDataLastRead => true
  | .archiveFinePeriod string => okString string
  | .archiveCoarseDay string => okString string
  | .configWriteComplete => true
  | .flashPageWriteFail partition _ => okPartition partition
  | .flashLifeChange _ _ => true
  | .scrubPass _ _ => true
  | .dramUeRead _ _ _ _ _ => true
  | .dmaDescriptorDone ch _ => okDma ch
  | .dmaFault ch _ _ => okDma ch
  | .coldStart _ _ => true
  | .moduleRestart _ => true
  | .restartButtonRelease => true
  | .buttonStuck => true
  | .buttonRearm => true
  | .strapRecheck _ => true
  | .powerFailure _ => true
  | .powerRecovered _ => true
  | .secViolation source _ _ => okSource source
  | .cellLow _ => true
  | .keyLoad _ => true
  | .secSet _ => true
  | .secUnlock _ => true
  | .secErase _ => true
  | .factoryRestore _ => true
  | .park _ => true
  | .secClear _ => true
  | .rvOpen _ => true
  | .rvClose _ => true
  | .rvInfo _ => true
  | .updBegin _ => true
  | .updBlock _ => true
  | .updVerify _ => true
  | .updVerifyComplete => true
  | .updStatus _ => true
  | .updActivate _ => true
  | .updConfirm _ => true
  | .trialAutoConfirm => true
  | .updRollback _ => true
  | .updAbort _ => true
  | .safeStage _ => true
  | .safeCommit _ => true
  | .keyLoadClear _ => true
  | .calRead _ => true
  | .calReset _ => true
  | .rvDiagRead _ => true
  | .rvDiagWrite _ => true
  | .svcEnter _ => true
  | .svcLeave _ => true
  | .rvRestart _ => true
  | .rvSessionIdle => true
  | .usbDisconnect => true
  | .recoveredClockLock clk _ => okRec clk
  | .networkLinkChange net _ => okTwo net
  | .partnerPresent => true
  | .holdupExhausted => true
  | .flashResponseChange _ => true
  | .restartButtonPress => true
  | .graftMailboxReceive _ _ _ _ _ => true
  | .recordQueryComplete _ => true
  | .ptpFollowUpReceive port _ => okTwo port
  | .canRxError port _ _ => okCan port

end Sys2Proof
end

