-- ==== Sys2Proof/Safety.lean ====
section
/-! DEFINITION. The terms of the statements: that a command completes, what it leaves alone, what is recorded and answered, and
the invariants of the block. -/

namespace Sys2Proof.Machine

/-- The command answers a next state, of which `C` holds. -/
def Completes (i : Instr) (s : State) (C : State → Prop) : Prop := ∃ t, exec i s = .next t ∧ C t

/-- The canonical form of the memory of the host exchange area: addresses strictly rising, and no byte listed that equals what an
unlisted address reads as. -/
abbrev Memory.wf (x : List Host.Cell) : Bool := twf x

/-- The parts of the module. `clock` is GRAIN_CNT, the tick and that the first grain has run; `plan` is the rest of the plan part. `store` is the event recorder with all other storage, and with it the recorder's high-water mark,
which is kept in the cold frame. -/
inductive Part where
  | plan | clock | host | store | power | chain | est | conv | disp | prot | safety | pair | time | can | adc | upd | sent | free
deriving DecidableEq, Repr

/-- The power part without the recorder's high-water mark. -/
def Mod.pw (m : Mod) : PowerSt := { m.power with rseqHwm := 0 }

/-- The plan part without its clock. -/
def Mod.pl (m : Mod) : PlanSt := { m.plan with grainCnt := 0, tick := 0, firstGrain := false }

/-- A part of two modules is the same. -/
def Part.same (a b : Mod) : Part → Prop
  | .plan => b.pl = a.pl
  | .clock => b.plan.grainCnt = a.plan.grainCnt ∧ b.plan.tick = a.plan.tick ∧ b.plan.firstGrain = a.plan.firstGrain
  | .host => b.host = a.host
  | .store => b.store = a.store ∧ b.power.rseqHwm = a.power.rseqHwm
  | .power => b.pw = a.pw
  | .chain => b.chain = a.chain
  | .est => b.est = a.est
  | .conv => b.conv = a.conv
  | .disp => b.disp = a.disp
  | .prot => b.prot = a.prot
  | .safety => b.safety = a.safety
  | .pair => b.pair = a.pair
  | .time => b.time = a.time
  | .can => b.can = a.can
  | .adc => b.adc = a.adc
  | .upd => b.upd = a.upd
  | .sent => b.sent = a.sent
  | .free => b.freeCtr = a.freeCtr

/-- From `s` to `t` nothing changes but what stands in the parts named: every other part of the module, both copies of the point
directory and the waiting commands are as before. -/
def Only (ps : List Part) (s t : State) : Prop :=
  (∀ p, p ∉ ps → Part.same s.m t.m p) ∧ t.dir0 = s.dir0 ∧ t.dir1 = s.dir1 ∧ t.resync = s.resync ∧ t.pending = s.pending

/-- Nothing changes. -/
abbrev Unchanged (s t : State) : Prop := t = s

/-- SOURCE of an item of a block (R527); item 0xFF for none. -/
def sourceOf (item block : Nat) : Nat := item % 256 + 256 * block

/-- From `a` to `b` one event is recorded: its record takes the next RSEQ and is the newest of the ring in DRAM, or the rate limit
of R532 counts it as withheld. -/
def Recorded (code item block : Nat) (a b : Mod) : Prop :=
  (b.store.recNext = nextRseq (if a.store.recNext = 0 then 1 else a.store.recNext) ∧
    (b.store.dram.getLast?.map fun r => (r.rseq, r.code, r.source)) =
      some (if a.store.recNext = 0 then 1 else a.store.recNext, code, sourceOf item block)) ∨
  (b.store.dram = a.store.dram ∧
    (rateOf b.store.rate (code, sourceOf item block)).2 = (rateOf a.store.rate (code, sourceOf item block)).2 + 1)

/-- A number in a TLV of a request: `k` bytes at `off` of the value of the TLV of a type, little-endian. -/
abbrev reqNum (rq : HostReq) (type off k : Nat) : Nat := rdN (tlvVal rq.tlvs type) off k

/-- The string mask of a request (TLV 0x0040). -/
abbrev reqMask (rq : HostReq) : Nat := reqNum rq 0x0040 0 4

/-- The session record `e` of a request that is carried out: the interface is served, the SEQ is new (R417), the session is within
CMD_RATE_MAX (R420) and keeps its credential, no standby stands in the way, and the opcode, the role, the payload and the parked
state pass checks 1 to 4 of R419. -/
abbrev Mod.Admits (m : Mod) (op : Nat) (rq : HostReq) (e : Session) : Prop :=
  m.powered = true ∧ m.servesHost = true ∧ m.session? rq.session = some e ∧ e.judge rq.seq ≠ .dup ∧ e.judge rq.seq ≠ .out ∧
    (e.recent.filter fun t => decide (m.host.ms - t < 1000)).length < m.parN 0xA0C4 ∧ e.authLost = false ∧
    (m.standby && m.pairOp) = false ∧
    ((opRow hostOps op).any fun row => roleOk row e.role rq.tlvs && (tlvFault row rq.malformed rq.tlvs).isNone &&
      (row.parked || decide (m.power.state ≠ .parked))) = true

/-- What a new request leaves noted in its session (R415, R417, R420): its SEQ, its time, and the address it came from. -/
def Mod.noted (m : Mod) (rq : HostReq) (e : Session) : Mod :=
  match e.judge rq.seq with
  | .new high seen => m.onSession rq.session fun x => { x with
      high := high, seen := seen, lastReq := m.host.ms, net := rq.net, addr := rq.addr, port := rq.port
      recent := m.host.ms :: e.recent.filter fun t => decide (m.host.ms - t < 1000)
      lastNetA := if rq.net = 0 then some m.host.ms else x.lastNetA, lastNetB := if rq.net = 1 then some m.host.ms else x.lastNetB }
  | _ => m

/-- The reply of a request is kept in its session, passed on with the request to a standby (R449), and sent to where the request came from (R408,
R417). -/
def Mod.replied (m : Mod) (op : Nat) (rq : HostReq) (e : Session) (status : Nat) (tlvs : List Tlv := []) (grain : Nat := 0) : Mod :=
  let x : Reply := { opcode := op, seq := rq.seq, session := rq.session, status := status, tlvs := tlvs, grain := grain }
  ((m.passOn op rq e grain (some x)).cacheReply rq.session x).sendReply1 e.key rq.net rq.addr rq.port x

/-- The reply of a request is held: the request is passed on to a standby, and its sender waits for the reply (R408, R409, R449). -/
def Mod.awaited (m : Mod) (op : Nat) (rq : HostReq) (e : Session) (grain : Nat := 0) : Mod :=
  (m.passOn op rq e grain none).await rq.session ⟨rq.seq, .host rq.net rq.addr rq.port, false⟩

/-- The session `x` of a request on the Rovisa port that is carried out: the port is served, the SEQ is new (R417, R586), its
credential is unchanged (R415), and the opcode, the role, the payload and the state of the port pass the checks of R419 and R589. -/
abbrev Mod.RvAdmits (m : Mod) (op : Nat) (rq : RvReq) (x : RvSession) : Prop :=
  m.powered = true ∧ m.rvServed = true ∧ m.upd.session = some x ∧ x.s.sid = rq.session ∧ rq.session ≠ 0 ∧ x.s.judge rq.seq ≠ .dup ∧
    x.s.judge rq.seq ≠ .out ∧ x.s.authLost = false ∧
    ((opRow rovisaOps op).any fun row => decide (row.role ≤ x.s.role) && (tlvFault row rq.malformed rq.tlvs).isNone) = true ∧
    (op = 0x0030 → x.presence = true) ∧ (rvStates op).contains m.portState = true

/-- What a new request leaves noted in the Rovisa session (R417, R586): its SEQ and its time; USB is up. -/
def Mod.rvNoted (m : Mod) (rq : RvReq) (x : RvSession) : Mod :=
  match x.s.judge rq.seq with
  | .new high seen => m.onUpd fun u => { u with usbUp := true, session := some { x with s := { x.s with high := high, seen := seen, lastReq := m.host.ms } } }
  | _ => m

/-- The reply on the Rovisa port is kept in its session and sent (R417, R586). -/
def Mod.rvReplied (m : Mod) (op : Nat) (rq : RvReq) (x : RvSession) (status : Nat) (tlvs : List Tlv := []) : Mod :=
  let c : Reply := { opcode := op, status := status, seq := rq.seq, session := rq.session, tlvs := tlvs }
  (m.onUpd fun u => { u with session := u.session.map fun y => { y with s := { y.s with cache := (c :: y.s.cache).take 64 } } }).rvSend x.s.key c

/-- The plan runs, and in this module it acts at the ports: the module is not the standby of its pair. -/
abbrev State.acts (s : State) : Prop := s.m.planOn = true ∧ s.m.standby = false

/-- Of the rings, all but ring `n` are as before, and so is every monitor and every cell. -/
def OnlyRing (n : Nat) (s t : State) : Prop :=
  (∀ k, k ≠ n → t.m.ring k = s.m.ring k) ∧ t.m.chain.mons = s.m.chain.mons ∧ t.m.chain.cells = s.m.chain.cells

/-- Ring `n` and its monitors apart, the rings, monitors and cells are as before. -/
def OnlyRingMon (n a : Nat) (s t : State) : Prop :=
  (∀ k, k ≠ n → t.m.ring k = s.m.ring k) ∧ (∀ j, j ≠ 40 * n + a → tget t.m.chain.mons j = tget s.m.chain.mons j)
    ∧ t.m.chain.cells = s.m.chain.cells

/-- String `n` is tripped (R308 step 1, R236): the trip latch of its link is set, and the link is TRIPPED or DARK. -/
def Mod.Tripped (m : Mod) (n : Nat) : Prop :=
  (m.link n).tripHeld = true ∧ ((m.link n).st = .tripped ∨ (m.link n).st = .dark)

/-- Group `g` opens or has opened (R308 steps 2 and 3): its safe output is off with no switching under way, or its open request
waits for PROT_CONT_DELAY. -/
def Mod.Opens (m : Mod) (g : Nat) : Prop := ((m.sq g).on = false ∧ (m.sq g).lowAt = none) ∨ (m.group g).openAt.isSome = true

/-- The contactor-opening sequence of R308 has begun for string `n` with cause `c`: the cause is latched, the string is tripped, and
the group of its safe output, where it has one, opens. -/
def Mod.Opening (m : Mod) (n c : Nat) : Prop :=
  m.hasCause n c = true ∧ m.Tripped n ∧ ∀ g, m.groupOf n = some g → m.Opens g

/-- A complete copy of the point directory is that of its own parity (R18). -/
abbrev DirInv (s : State) : Prop :=
  (s.dir0.complete = true → s.dir0.grain.getLsbD 0 = false) ∧ (s.dir1.complete = true → s.dir1.grain.getLsbD 0 = true)

/-- The commands that act on a module that is off: the stores charge (R400), it starts or is at the end of its hold-up, the cold frame
sees a violation (R573), or a level at a safe input changes (log 43). -/
def livesUnpowered : Instr → Bool
  | .insertion | .coldStart .. | .secViolation .. | .safeInputChange .. | .holdupExhausted => true
  | _ => false

/-- The commands by which the module starts (R555, R561) or loses its power (R563). -/
def Restarts : Instr → Bool
  | .coldStart .. | .moduleRestart .. | .powerRecovered .. | .presenceReturn .. | .holdupExhausted => true
  | _ => false

/-- What each command may change: outside these parts the module is as before, whatever the command's operands. -/
def mayChange : Instr → List Part
  | .tick => [.plan, .clock, .host, .store, .chain, .est, .conv, .prot, .safety, .pair, .time, .can, .adc, .upd, .sent, .free]
  | .grainBoundary _ => [.plan, .clock, .host, .store, .power, .chain, .est, .conv, .disp, .prot, .safety, .pair, .time, .can, .adc, .upd, .sent, .free]
  | .slotRun _ _ _ _ _ => [.plan, .host, .store, .chain, .est, .conv, .disp, .prot, .safety, .pair, .upd, .sent, .free]
  | .overrun _ _ _ => [.plan, .store, .conv, .pair, .upd, .sent]
  | .lockstepMismatch _ => [.plan, .store, .power, .safety, .pair, .time, .upd, .sent]
  | .supervisorWatchdog => [.plan, .store, .power, .time, .upd, .sent]
  | .warmRestartComplete _ _ => [.plan, .host, .store, .power, .chain, .est, .conv, .disp, .prot, .safety, .pair, .time, .can, .adc, .upd, .sent, .free]
  | .grainPulseTimeout => [.plan, .store, .conv, .prot, .safety, .pair, .can, .upd, .sent]
  | .safetyCoreFault _ => [.plan, .store, .conv, .prot, .safety, .pair, .can, .upd, .sent]
  | .clockMeasurement _ _ => [.plan, .store, .conv, .prot, .safety, .pair, .can, .upd, .sent]
  | .recoveredClockUnlock _ => [.plan]
  | .planCheckComplete => [.plan, .host, .store, .pair, .sent]
  | .planRestart => [.plan, .host, .store, .chain, .est, .conv, .disp, .prot, .safety, .pair, .adc, .sent]
  | .bedReplant => [.plan, .host, .store, .chain, .est, .conv, .prot, .pair, .adc, .sent]
  | .chainResponse _ _ => [.host, .store, .chain, .est, .pair, .sent, .free]
  | .chainTransactionClose _ _ => [.store, .chain, .est, .pair, .free]
  | .enumRetry _ => [.chain]
  | .authReadDue _ _ => [.chain]
  | .authTimeout _ _ => [.store, .chain]
  | .reauthDue _ _ _ => [.chain]
  | .ringWakeDone _ => [.chain]
  | .monitorWakeTone _ _ => [.store, .chain]
  | .alarmToneDeclared _ _ => [.store, .chain, .conv, .prot, .safety, .pair, .sent]
  | .alarmToneAbsent _ _ => [.chain, .sent]
  | .toneDetectorTest _ _ => [.plan, .store, .chain, .safety, .pair, .sent]
  | .senseOpenHoldExpiry _ _ _ => [.store, .chain, .conv, .prot, .safety, .sent]
  | .fullTestDue _ _ => [.chain]
  | .balancePlan _ => [.chain]
  | .restAnchor _ => [.store, .est]
  | .impedanceIntervalEnd => [.store, .est]
  | .anomalyClear _ => [.est]
  | .checkpointCapture _ => [.store, .est]
  | .checkpointWriteComplete _ _ => [.store, .est]
  | .estRestoreComplete => [.host, .store, .est, .sent]
  | .restoreWaitExpiry _ => [.est]
  | .upstreamFrame _ _ => [.store, .conv, .prot, .pair, .sent]
  | .klinkLost _ => [.store, .conv, .pair]
  | .localRampTimeout _ => [.store, .conv, .prot, .safety, .sent]
  | .fibreDelayMeasure _ => [.store, .conv, .pair]
  | .linkAligned _ => [.conv, .pair]
  | .alignmentLost _ => [.store, .conv, .pair]
  | .regTimeout _ => [.store, .conv, .pair]
  | .tripRequest _ => [.conv, .pair, .sent]
  | .pruneCommit _ => [.conv]
  | .armTimerExpiry _ _ => [.conv]
  | .hiccupEntry _ _ => [.store, .conv, .prot, .sent]
  | .hiccupTimeExpiry _ _ => [.conv]
  | .hiccupClearExpiry _ _ => [.conv]
  | .phaseOpenDetect _ _ => [.store, .conv, .prot, .sent]
  | .phaseSenseFail _ _ => [.store, .conv, .prot, .sent]
  | .mirrorTimeout _ _ => [.store, .conv, .prot, .sent]
  | .phaseFollowLatch _ _ => [.store, .conv, .prot, .sent]
  | .stringFollowStop _ => [.conv]
  | .powerFollowFlag _ => [.store, .conv]
  | .burstEntry _ => [.conv]
  | .burstPhaseReselect _ => [.conv]
  | .softStopComplete _ => [.conv]
  | .softStopTimeout _ => [.store, .conv, .prot, .sent]
  | .leaseExpiry => [.disp]
  | .sourceFault => [.store, .disp]
  | .sourceRecover => [.store, .disp]
  | .restWindowEnd _ => [.disp]
  | .restPendExpiry _ => [.store, .est]
  | .serviceComplete => [.host, .disp, .sent]
  | .sensorBadHoldExpiry _ => [.store, .conv, .prot, .safety, .sent]
  | .derateStepTimer _ => [.prot]
  | .ocComparatorEvent _ _ _ => [.conv, .prot, .pair, .adc, .sent]
  | .contDelayExpiry _ => [.store, .conv, .prot, .safety, .sent]
  | .contFbTimeout _ => [.store, .conv, .prot, .safety, .sent]
  | .contactorFeedbackChange _ _ => [.store, .conv, .prot, .safety, .sent]
  | .hvacRequest _ => [.prot, .pair, .can, .sent]
  | .safetyCycle _ => [.plan, .host, .store, .power, .chain, .conv, .prot, .safety, .pair, .time, .can, .upd, .sent]
  | .safeInputChange _ _ _ _ => [.plan, .store, .conv, .prot, .safety, .pair, .sent]
  | .discrepancyTimeout _ _ => [.plan, .store, .safety, .pair, .sent]
  | .testPulseGap _ _ _ => [.plan, .store, .conv, .prot, .safety, .pair, .sent]
  | .resetInputRelease _ => [.plan, .store, .conv, .prot, .safety, .pair, .sent]
  | .twoHandSyncExpiry => [.safety]
  | .sqHighSideOn _ => [.store, .conv, .prot, .safety, .sent]
  | .offPulseTest _ => [.safety, .sent]
  | .offPulseEnd _ _ => [.plan, .store, .conv, .prot, .safety, .pair, .can, .upd, .sent]
  | .openLoadTimeout _ => [.store, .safety]
  | .fallowExpiry => [.plan, .store, .conv, .prot, .safety, .pair, .can, .upd, .sent]
  | .clocheSend _ => [.safety, .sent]
  | .clocheFrameReceive _ _ _ _ => [.plan, .store, .conv, .prot, .safety, .pair, .sent]
  | .clocheWatchdogExpiry _ => [.plan, .store, .conv, .prot, .safety, .pair, .sent]
  | .partnerBpTrip _ => [.plan, .store, .conv, .prot, .safety, .pair, .sent]
  | .fieldSupplyChange _ _ => [.store, .safety]
  | .safeStageExpiry => [.safety]
  | .standbyReplayTimeout => [.store, .conv, .prot, .safety, .pair, .sent]
  | .rolePoint => [.pair, .can]
  | .pairFormWaitExpiry => [.pair]
  | .roleLineChange _ => [.pair, .can]
  | .partnerAbsent => [.plan, .store, .safety, .pair, .sent]
  | .joinPair => [.prot, .safety, .pair, .can, .adc, .sent]
  | .replayRecordReceive _ _ _ => [.plan, .clock, .host, .store, .power, .chain, .est, .conv, .disp, .prot, .safety, .pair, .time, .can, .adc, .upd, .sent, .free]
  | .fieldForward _ _ _ _ => [.host, .store, .chain, .est, .pair, .sent, .free]
  | .heartbeatMiss => [.store, .pair]
  | .resyncRetryExpiry => [.pair]
  | .yieldRoleRelease => [.pair, .can]
  | .takeover => [.plan, .host, .store, .chain, .est, .conv, .disp, .prot, .safety, .pair, .time, .can, .adc, .sent]
  | .drillDue => [.plan, .store, .pair, .sent]
  | .drillOverdue => [.store, .pair]
  | .drillCheck => [.store, .pair]
  | .graftLaneChange _ _ => [.pair]
  | .insertion => [.power, .pair]
  | .extractionWarning => [.plan, .store, .power, .conv, .pair, .sent]
  | .presenceReturn _ => [.plan, .clock, .host, .store, .power, .chain, .est, .conv, .disp, .prot, .safety, .pair, .time, .can, .adc, .upd, .sent, .free]
  | .udpPacketReceive _ _ _ _ _ => [.plan, .host, .store, .power, .chain, .est, .conv, .disp, .prot, .safety, .pair, .time, .can, .adc, .upd, .sent, .free]
  | .sessionOpen _ => [.host, .pair, .sent, .free]
  | .sessionClose _ => [.plan, .host, .store, .power, .chain, .est, .conv, .disp, .prot, .safety, .pair, .time, .can, .adc, .upd, .sent, .free]
  | .nop _ => [.plan, .host, .store, .power, .chain, .est, .conv, .disp, .prot, .safety, .pair, .time, .can, .adc, .upd, .sent, .free]
  | .noticeAck _ => [.plan, .host, .store, .power, .chain, .est, .conv, .disp, .prot, .safety, .pair, .time, .can, .adc, .upd, .sent, .free]
  | .pointRead _ => [.plan, .host, .store, .power, .chain, .est, .conv, .disp, .prot, .safety, .pair, .time, .can, .adc, .upd, .sent, .free]
  | .streamOpen _ => [.plan, .host, .store, .power, .chain, .est, .conv, .disp, .prot, .safety, .pair, .time, .can, .adc, .upd, .sent, .free]
  | .streamClose _ => [.plan, .host, .store, .power, .chain, .est, .conv, .disp, .prot, .safety, .pair, .time, .can, .adc, .upd, .sent, .free]
  | .paramRead _ => [.plan, .host, .store, .power, .chain, .est, .conv, .disp, .prot, .safety, .pair, .time, .can, .adc, .upd, .sent, .free]
  | .paramWrite _ => [.plan, .host, .store, .power, .chain, .est, .conv, .disp, .prot, .safety, .pair, .time, .can, .adc, .upd, .sent, .free]
  | .diagRead _ => [.plan, .host, .store, .power, .chain, .est, .conv, .disp, .prot, .safety, .pair, .time, .can, .adc, .upd, .sent, .free]
  | .diagWrite _ => [.plan, .host, .store, .power, .chain, .est, .conv, .disp, .prot, .safety, .pair, .time, .can, .adc, .upd, .sent, .free]
  | .xaRead _ => [.plan, .host, .store, .power, .chain, .est, .conv, .disp, .prot, .safety, .pair, .time, .can, .adc, .upd, .sent, .free]
  | .xaWrite _ => [.plan, .host, .store, .power, .chain, .est, .conv, .disp, .prot, .safety, .pair, .time, .can, .adc, .upd, .sent, .free]
  | .mbxPost _ => [.plan, .host, .store, .power, .chain, .est, .conv, .disp, .prot, .safety, .pair, .time, .can, .adc, .upd, .sent, .free]
  | .mbxRead _ => [.plan, .host, .store, .power, .chain, .est, .conv, .disp, .prot, .safety, .pair, .time, .can, .adc, .upd, .sent, .free]
  | .mbxAck _ => [.plan, .host, .store, .power, .chain, .est, .conv, .disp, .prot, .safety, .pair, .time, .can, .adc, .upd, .sent, .free]
  | .supervisorMbxTake _ => [.plan, .host, .store, .power, .chain, .est, .conv, .disp, .prot, .safety, .pair, .time, .can, .adc, .upd, .sent, .free]
  | .outboundMbxWrite _ _ _ _ _ => [.host, .sent]
  | .mbxCrossTimeout _ => [.host, .sent]
  | .estRead _ => [.plan, .host, .store, .power, .chain, .est, .conv, .disp, .prot, .safety, .pair, .time, .can, .adc, .upd, .sent, .free]
  | .estRestore _ => [.plan, .host, .store, .power, .chain, .est, .conv, .disp, .prot, .safety, .pair, .time, .can, .adc, .upd, .sent, .free]
  | .estReset _ => [.plan, .host, .store, .power, .chain, .est, .conv, .disp, .prot, .safety, .pair, .time, .can, .adc, .upd, .sent, .free]
  | .recordQuery _ => [.plan, .host, .store, .power, .chain, .est, .conv, .disp, .prot, .safety, .pair, .time, .can, .adc, .upd, .sent, .free]
  | .recorderClear _ => [.plan, .host, .store, .power, .chain, .est, .conv, .disp, .prot, .safety, .pair, .time, .can, .adc, .upd, .sent, .free]
  | .confirmExpiry _ => [.host]
  | .leaseClaim _ => [.plan, .host, .store, .power, .chain, .est, .conv, .disp, .prot, .safety, .pair, .time, .can, .adc, .upd, .sent, .free]
  | .leaseRenew _ => [.plan, .host, .store, .power, .chain, .est, .conv, .disp, .prot, .safety, .pair, .time, .can, .adc, .upd, .sent, .free]
  | .leaseRelease _ => [.plan, .host, .store, .power, .chain, .est, .conv, .disp, .prot, .safety, .pair, .time, .can, .adc, .upd, .sent, .free]
  | .leaseRevoke _ => [.plan, .host, .store, .power, .chain, .est, .conv, .disp, .prot, .safety, .pair, .time, .can, .adc, .upd, .sent, .free]
  | .setPower _ => [.plan, .host, .store, .power, .chain, .est, .conv, .disp, .prot, .safety, .pair, .time, .can, .adc, .upd, .sent, .free]
  | .moveStart _ => [.plan, .host, .store, .power, .chain, .est, .conv, .disp, .prot, .safety, .pair, .time, .can, .adc, .upd, .sent, .free]
  | .moveRetarget _ => [.plan, .host, .store, .power, .chain, .est, .conv, .disp, .prot, .safety, .pair, .time, .can, .adc, .upd, .sent, .free]
  | .stop _ => [.plan, .host, .store, .power, .chain, .est, .conv, .disp, .prot, .safety, .pair, .time, .can, .adc, .upd, .sent, .free]
  | .resume _ => [.plan, .host, .store, .power, .chain, .est, .conv, .disp, .prot, .safety, .pair, .time, .can, .adc, .upd, .sent, .free]
  | .trip _ => [.plan, .host, .store, .power, .chain, .est, .conv, .disp, .prot, .safety, .pair, .time, .can, .adc, .upd, .sent, .free]
  | .stringService _ => [.plan, .host, .store, .power, .chain, .est, .conv, .disp, .prot, .safety, .pair, .time, .can, .adc, .upd, .sent, .free]
  | .planLoad _ => [.plan, .host, .store, .power, .chain, .est, .conv, .disp, .prot, .safety, .pair, .time, .can, .adc, .upd, .sent, .free]
  | .planActivate _ => [.plan, .host, .store, .power, .chain, .est, .conv, .disp, .prot, .safety, .pair, .time, .can, .adc, .upd, .sent, .free]
  | .planDiscard _ => [.plan, .host, .store, .power, .chain, .est, .conv, .disp, .prot, .safety, .pair, .time, .can, .adc, .upd, .sent, .free]
  | .protClear _ => [.plan, .host, .store, .power, .chain, .est, .conv, .disp, .prot, .safety, .pair, .time, .can, .adc, .upd, .sent, .free]
  | .toneReset _ => [.plan, .host, .store, .power, .chain, .est, .conv, .disp, .prot, .safety, .pair, .time, .can, .adc, .upd, .sent, .free]
  | .senseClear _ => [.plan, .host, .store, .power, .chain, .est, .conv, .disp, .prot, .safety, .pair, .time, .can, .adc, .upd, .sent, .free]
  | .safetyReset _ => [.plan, .host, .store, .power, .chain, .est, .conv, .disp, .prot, .safety, .pair, .time, .can, .adc, .upd, .sent, .free]
  | .convFaultClear _ => [.plan, .host, .store, .power, .chain, .est, .conv, .disp, .prot, .safety, .pair, .time, .can, .adc, .upd, .sent, .free]
  | .phaseClear _ => [.plan, .host, .store, .power, .chain, .est, .conv, .disp, .prot, .safety, .pair, .time, .can, .adc, .upd, .sent, .free]
  | .enumerate _ => [.plan, .host, .store, .power, .chain, .est, .conv, .disp, .prot, .safety, .pair, .time, .can, .adc, .upd, .sent, .free]
  | .clrOverrun _ => [.plan, .host, .store, .power, .chain, .est, .conv, .disp, .prot, .safety, .pair, .time, .can, .adc, .upd, .sent, .free]
  | .clrChainCnt _ => [.plan, .host, .store, .power, .chain, .est, .conv, .disp, .prot, .safety, .pair, .time, .can, .adc, .upd, .sent, .free]
  | .clrConvFlags _ => [.plan, .host, .store, .power, .chain, .est, .conv, .disp, .prot, .safety, .pair, .time, .can, .adc, .upd, .sent, .free]
  | .clrConvCnt _ => [.plan, .host, .store, .power, .chain, .est, .conv, .disp, .prot, .safety, .pair, .time, .can, .adc, .upd, .sent, .free]
  | .clrSafetyCnt _ => [.plan, .host, .store, .power, .chain, .est, .conv, .disp, .prot, .safety, .pair, .time, .can, .adc, .upd, .sent, .free]
  | .clrPairCnt _ => [.plan, .host, .store, .power, .chain, .est, .conv, .disp, .prot, .safety, .pair, .time, .can, .adc, .upd, .sent, .free]
  | .restart _ => [.plan, .host, .store, .power, .chain, .est, .conv, .disp, .prot, .safety, .pair, .time, .can, .adc, .upd, .sent, .free]
  | .roleSwap _ => [.plan, .host, .store, .power, .chain, .est, .conv, .disp, .prot, .safety, .pair, .time, .can, .adc, .upd, .sent, .free]
  | .sessionIdleTimeout _ => [.host, .store, .pair]
  | .noticeResend _ _ => [.host, .sent]
  | .streamCycle _ _ => [.host, .sent]
  | .watchEvaluation => [.host, .store, .sent]
  | .authBlockExpiry _ => [.host]
  | .grnNowRead => [.plan, .store, .disp, .time]
  | .s64LowRead _ => [.plan, .store, .disp, .time]
  | .timeNsRead => [.plan, .store, .disp, .time]
  | .timeSecLoRead => [.plan, .store, .disp, .time]
  | .dramUeLoRead => [.plan, .store, .disp, .time]
  | .ptpSyncReceive _ _ => [.host, .store, .power, .time, .sent, .free]
  | .ptpAnnounceReceive _ _ => [.store, .time, .sent]
  | .ptpDelayRespReceive _ _ => [.time]
  | .delayReqSend _ _ => [.time, .sent]
  | .ptpTcForward _ _ _ _ _ _ _ => [.sent]
  | .announceTimeout _ => [.store, .time, .sent]
  | .syncLossTimeout => [.time]
  | .holdMaxExpiry => [.time]
  | .timeExtend => [.time]
  | .forceStepExpiry => [.host, .time]
  | .incrSave => [.power, .time]
  | .canFrameReceived _ _ _ => [.store, .can, .sent, .free]
  | .canTxSuccess _ _ => [.can, .sent]
  | .canTxError _ _ => [.store, .can, .sent]
  | .canRecoveryComplete _ => [.store, .can, .sent]
  | .canCtrlRecover _ => [.can]
  | .canCtrlDetect _ => [.can]
  | .detectDwellExpiry _ => [.store, .can]
  | .canCtrlAbortAll _ => [.can]
  | .canCtrlClearFlags _ => [.can]
  | .canTxwGo _ => [.pair, .can, .sent]
  | .canObjectFirstRead _ _ => [.can]
  | .canObjectLastRead _ _ => [.can]
  | .canLockTimeout _ => [.can]
  | .ttReferenceReceive _ _ => [.can, .free]
  | .ttWindowStart _ _ _ => [.can, .sent]
  | .ttLossTimeout _ => [.store, .can]
  | .adcRoundTrigger _ _ => [.prot, .adc]
  | .adcInjectedTrigger _ _ _ _ => [.adc]
  | .adcCtrlInjGo _ _ _ => [.adc]
  | .adcCtrlCal _ => [.prot, .adc]
  | .adcCalComplete _ _ _ => [.prot, .adc]
  | .adcCtrlClr => [.adc]
  | .implausibleChange _ => [.store, .adc]
  | .piPulse _ _ _ _ => [.adc]
  | .piNoPulseTimeout _ => [.adc]
  | .aiBurdenOpen _ => [.adc]
  | .aiBurdenReclose _ => [.adc]
  | .recordPost _ _ _ _ => [.store]
  | .flushStart => [.store]
  | .flushComplete => [.store]
  | .rateSecondEnd => [.store]
  | .recCurPosWrite _ _ => [.store]
  | .recCurDataLastRead => [.store]
  | .archiveFinePeriod _ => [.store]
  | .archiveCoarseDay _ => [.store]
  | .configWriteComplete => [.host, .store]
  | .flashPageWriteFail _ _ => [.store]
  | .flashLifeChange _ _ => [.store]
  | .scrubPass _ _ => [.store]
  | .dramUeRead _ _ _ _ _ => [.plan, .host, .store, .power, .est, .conv, .pair, .time, .upd, .sent]
  | .dmaDescriptorDone _ _ => [.host, .store, .est, .sent]
  | .dmaFault _ _ _ => [.host, .store, .est, .sent]
  | .coldStart _ _ => [.plan, .clock, .host, .store, .power, .chain, .est, .conv, .disp, .prot, .safety, .pair, .time, .can, .adc, .upd, .sent, .free]
  | .moduleRestart _ => [.plan, .clock, .host, .store, .power, .chain, .est, .conv, .disp, .prot, .safety, .pair, .time, .can, .adc, .upd, .sent, .free]
  | .restartButtonRelease => [.plan, .store, .power, .conv, .disp, .pair, .time, .upd, .sent]
  | .buttonStuck => [.store, .power]
  | .buttonRearm => [.power]
  | .strapRecheck _ => [.store, .power]
  | .powerFailure _ => [.plan, .store, .power, .conv, .pair, .sent]
  | .powerRecovered _ => [.plan, .clock, .host, .store, .power, .chain, .est, .conv, .disp, .prot, .safety, .pair, .time, .can, .adc, .upd, .sent, .free]
  | .secViolation _ _ _ => [.host, .store, .power, .pair, .upd, .free]
  | .cellLow _ => [.store, .power]
  | .keyLoad _ => [.plan, .host, .store, .power, .chain, .est, .conv, .disp, .prot, .safety, .pair, .time, .can, .adc, .upd, .sent, .free]
  | .secSet _ => [.plan, .host, .store, .power, .chain, .est, .conv, .disp, .prot, .safety, .pair, .time, .can, .adc, .upd, .sent, .free]
  | .secUnlock _ => [.plan, .host, .store, .power, .chain, .est, .conv, .disp, .prot, .safety, .pair, .time, .can, .adc, .upd, .sent, .free]
  | .secErase _ => [.plan, .host, .store, .power, .chain, .est, .conv, .disp, .prot, .safety, .pair, .time, .can, .adc, .upd, .sent, .free]
  | .factoryRestore _ => [.plan, .host, .store, .power, .chain, .est, .conv, .disp, .prot, .safety, .pair, .time, .can, .adc, .upd, .sent, .free]
  | .park _ => [.plan, .host, .store, .power, .chain, .est, .conv, .disp, .prot, .safety, .pair, .time, .can, .adc, .upd, .sent, .free]
  | .secClear _ => [.plan, .host, .store, .power, .chain, .est, .conv, .disp, .prot, .safety, .pair, .time, .can, .adc, .upd, .sent, .free]
  | .rvOpen _ => [.host, .store, .upd, .sent, .free]
  | .rvClose _ => [.plan, .host, .store, .power, .conv, .disp, .prot, .safety, .pair, .time, .can, .adc, .upd, .sent, .free]
  | .rvInfo _ => [.plan, .host, .store, .power, .conv, .disp, .prot, .safety, .pair, .time, .can, .adc, .upd, .sent, .free]
  | .updBegin _ => [.plan, .host, .store, .power, .conv, .disp, .prot, .safety, .pair, .time, .can, .adc, .upd, .sent, .free]
  | .updBlock _ => [.plan, .host, .store, .power, .conv, .disp, .prot, .safety, .pair, .time, .can, .adc, .upd, .sent, .free]
  | .updVerify _ => [.plan, .host, .store, .power, .conv, .disp, .prot, .safety, .pair, .time, .can, .adc, .upd, .sent, .free]
  | .updVerifyComplete => [.store, .upd]
  | .updStatus _ => [.plan, .host, .store, .power, .conv, .disp, .prot, .safety, .pair, .time, .can, .adc, .upd, .sent, .free]
  | .updActivate _ => [.plan, .host, .store, .power, .conv, .disp, .prot, .safety, .pair, .time, .can, .adc, .upd, .sent, .free]
  | .updConfirm _ => [.plan, .host, .store, .power, .conv, .disp, .prot, .safety, .pair, .time, .can, .adc, .upd, .sent, .free]
  | .trialAutoConfirm => [.store, .upd]
  | .updRollback _ => [.plan, .host, .store, .power, .conv, .disp, .prot, .safety, .pair, .time, .can, .adc, .upd, .sent, .free]
  | .updAbort _ => [.plan, .host, .store, .power, .conv, .disp, .prot, .safety, .pair, .time, .can, .adc, .upd, .sent, .free]
  | .safeStage _ => [.plan, .host, .store, .power, .conv, .disp, .prot, .safety, .pair, .time, .can, .adc, .upd, .sent, .free]
  | .safeCommit _ => [.plan, .host, .store, .power, .conv, .disp, .prot, .safety, .pair, .time, .can, .adc, .upd, .sent, .free]
  | .keyLoadClear _ => [.plan, .host, .store, .power, .conv, .disp, .prot, .safety, .pair, .time, .can, .adc, .upd, .sent, .free]
  | .calRead _ => [.plan, .host, .store, .power, .conv, .disp, .prot, .safety, .pair, .time, .can, .adc, .upd, .sent, .free]
  | .calReset _ => [.plan, .host, .store, .power, .conv, .disp, .prot, .safety, .pair, .time, .can, .adc, .upd, .sent, .free]
  | .rvDiagRead _ => [.plan, .host, .store, .power, .conv, .disp, .prot, .safety, .pair, .time, .can, .adc, .upd, .sent, .free]
  | .rvDiagWrite _ => [.plan, .host, .store, .power, .conv, .disp, .prot, .safety, .pair, .time, .can, .adc, .upd, .sent, .free]
  | .svcEnter _ => [.plan, .host, .store, .power, .conv, .disp, .prot, .safety, .pair, .time, .can, .adc, .upd, .sent, .free]
  | .svcLeave _ => [.plan, .host, .store, .power, .conv, .disp, .prot, .safety, .pair, .time, .can, .adc, .upd, .sent, .free]
  | .rvRestart _ => [.plan, .host, .store, .power, .conv, .disp, .prot, .safety, .pair, .time, .can, .adc, .upd, .sent, .free]
  | .rvSessionIdle => [.store, .upd]
  | .usbDisconnect => [.store, .upd]
  | .recoveredClockLock _ _ => [.plan, .chain]
  | .networkLinkChange _ _ => [.plan]
  | .partnerPresent => [.plan, .store, .safety, .pair, .sent]
  | .holdupExhausted => [.plan, .clock, .host, .store, .power, .chain, .est, .conv, .disp, .prot, .safety, .pair, .time, .can, .adc, .upd, .free]
  | .flashResponseChange _ => [.store]
  | .restartButtonPress => [.power]
  | .graftMailboxReceive _ _ _ _ _ => [.plan, .host, .store, .chain, .est, .conv, .disp, .prot, .safety, .pair, .adc, .sent]
  | .recordQueryComplete _ => [.host, .store, .sent]
  | .ptpFollowUpReceive _ _ => [.host, .store, .power, .time, .sent, .free]
  | .canRxError _ _ _ => [.can]

end Sys2Proof.Machine
end

