-- ==== Sys2Proof/Certificates/Slice0/Obligations.lean ====
section
/-! DEFINITION. The statements about the block, for the provers. -/

open Sys2Proof Sys2Proof.Machine

/-- Where a ring has configured monitors, ENUM_RETRY 1 s after a failed enumeration, RING_WAKE_DONE 10 ms after the module's wake tone began, and MONITOR_WAKE_TONE of a monitor that woke by itself start an enumeration of the ring from each of the module's ring ends; while the ring wakes, ENUM_RETRY starts none; after a wake the monitors hold no result and the ENUM is the ring's first command, and a monitor's wake tone is also recorded, its bit set and its time noted. A wake tone within 10 ms of the end of the module's own is the module's: it sets its bit alone. An inverted end carries no signal. Nothing else changes. -/
def Obligations.ChainRingTimers : Prop :=
  -- ENUM_RETRY, R117
  (∀ (s : State) (n : Nat), s.acts → n < 32 → s.m.monsOf n ≠ [] → (s.m.ring n).wakeSince = none → (s.m.ring n).enum = .fault →
    1000 ≤ s.m.host.ms - (s.m.ring n).enumFailMs →
    Completes (.enumRetry n) s fun t =>
      t = { s with m := (s.m.onRing n fun r => { r with enum := .inProgress, enumTodo := s.m.ringEnds, enumGot := [] }) }) ∧
  -- ENUM_RETRY while the ring wakes, R125
  (∀ (s : State) (n w : Nat), s.acts → n < 32 → (s.m.ring n).wakeSince = some w →
    Completes (.enumRetry n) s fun t => Unchanged s t) ∧
  -- RING_WAKE_DONE, R125
  (∀ (s : State) (n w : Nat), s.acts → n < 32 → s.m.monsOf n ≠ [] → (s.m.ring n).wakeSince = some w → 10 ≤ s.m.host.ms - w →
    Completes (.ringWakeDone n) s fun t =>
      t = { s with m := (((s.m.each (s.m.monAddrs n) fun m a => m.onMon n a fun x => { x with enumPassed := false, sequence := none }).onRing n fun r =>
      { r with wakeFirst := true, wakeSince := none }).onRing n fun r =>
      { r with enum := .inProgress, enumTodo := s.m.ringEnds, enumGot := [] }) }) ∧
  -- MONITOR_WAKE_TONE, R126, R119: more than 10 ms after the end of the module's own tone of 4 ms
  (∀ (s : State) (n : Nat) (e : RingEnd),
    s.acts → n < 32 → s.m.monsOf n ≠ [] → (s.m.ring n).inverted e = false → (∀ u ∈ (s.m.ring n).wokeMs, 14 < s.m.host.ms - u) →
    Completes (.monitorWakeTone n e) s fun t =>
      t = { s with m := (((((s.m.onRing n fun r => match e with
      | .A => { r with wake := r.wake ||| 1#2, wakeMsA := s.m.host.ms }
      | .B => { r with wake := r.wake ||| 2#2, wakeMsB := s.m.host.ms }).post 0x2007 n bChain (u8 (match e with | .A => 0 | .B => 1))).each (s.m.monAddrs n)
      fun m a => m.onMon n a fun x => { x with enumPassed := false, sequence := none }).onRing n fun r => { r with wakeFirst := true, wakeSince := none }).onRing n fun r =>
      { r with enum := .inProgress, enumTodo := s.m.ringEnds, enumGot := [] }) }) ∧
  -- MONITOR_WAKE_TONE, R126: the module's own tone
  (∀ (s : State) (n u : Nat) (e : RingEnd),
    s.acts → n < 32 → (s.m.ring n).inverted e = false → (s.m.ring n).wokeMs = some u → s.m.host.ms - u ≤ 14 →
    Completes (.monitorWakeTone n e) s fun t =>
      t = { s with m := (s.m.onRing n fun r => match e with
      | .A => { r with wake := r.wake ||| 1#2, wakeMsA := s.m.host.ms }
      | .B => { r with wake := r.wake ||| 2#2, wakeMsB := s.m.host.ms }) }) ∧
  -- MONITOR_WAKE_TONE at an inverted end, R93
  (∀ (s : State) (n : Nat) (e : RingEnd), s.acts → n < 32 → (s.m.ring n).inverted e = true →
    Completes (.monitorWakeTone n e) s fun t => Unchanged s t)

/-- Two grains after an AUTH_CHALLENGE was sent, once its answer is in, AUTH_READ_DUE puts an AUTH_READ for the monitor behind the ring's waiting commands; ten grains after it AUTH_TIMEOUT makes the monitor UNAUTH and records it; its AUTH_CHALLENGE and AUTH_READ wait no longer; and once a monitor's authentication is 10 minutes old, or its failure 1 minute, REAUTH_DUE puts a new AUTH_CHALLENGE with its nonce behind the waiting commands in place of any that waits. Nothing else changes. -/
def Obligations.ChainAuthentication : Prop :=
  -- AUTH_READ_DUE, R122
  (∀ (s : State) (n a : Nat) (g : W32),
    s.acts → n < 32 → a < 40 → (s.m.mon n a).challengeAt = some g → (s.m.mon n a).nMon ≠ [] → 2 ≤ (s.m.plan.grainCnt - g).toNat → 
    (∀ w ∈ (s.m.ring n).queue, w.addr = a → w.cmd.opcode ≠ 10) →
    Completes (.authReadDue n a) s fun t =>
      t = { s with m := (s.m.onRing n fun r =>
      { r with queue := r.queue ++ [{ addr := a, cmd := .authRead, prio := .sequence, origin := s.m.fwdEnd }] }) }) ∧
  -- AUTH_TIMEOUT, R122, of a monitor that runs no sequence
  (∀ (s : State) (n a : Nat) (g : W32),
    s.acts → n < 32 → a < 40 → (s.m.mon n a).challengeAt = some g → 10 ≤ (s.m.plan.grainCnt - g).toNat → 
    (s.m.mon n a).sequence = none →
    Completes (.authTimeout n a) s fun t =>
      t = { s with m := (((s.m.onRing n fun r =>
      { r with queue := r.queue.filter fun w => !(w.addr == a && (w.cmd.opcode == 9 || w.cmd.opcode == 10)) }).onMon n a fun x =>
      { x with authed := false, unauth := true, challengeAt := none, authMs := s.m.host.ms }).post 0x2004 n bChain (u8 a ++ u8 (if s.m.power.chainRoot.key = [] ∧ s.m.power.priorRoots = [] then 2 else 1) ++ [0, 0])) }) ∧
  -- REAUTH_DUE, R122
  (∀ (s : State) (n a : Nat) (nonce : List Byte),
    s.acts → n < 32 → a < 40 → (s.m.mon n a).challengeAt = none → s.m.compat n = false → 
    (((s.m.mon n a).authed = true ∧ 600000 ≤ s.m.host.ms - (s.m.mon n a).authMs) ∨ ((s.m.mon n a).authed = false ∧ (s.m.mon n a).unauth = true ∧ 60000 ≤ s.m.host.ms - (s.m.mon n a).authMs)) →
    Completes (.reauthDue n a nonce) s fun t =>
      t = { s with m := ((s.m.onRing n fun r =>
      { r with queue := r.queue.filter fun w => !(w.addr == a && w.cmd.opcode == 9) }).onRing n fun r =>
      { r with queue := r.queue ++ [{ addr := a, cmd := .authChallenge nonce, prio := .sequence, origin := s.m.fwdEnd }] }) })

/-- An alarm tone declared at an end of a ring with configured monitors sets that end's bit and the ring's tone trip, is recorded, and starts the contactor-opening sequence of its string with the cause TONE; in the standby of a pair it brings the string to its safe state at the standby's own port instead, and at an inverted end there is no tone. A tone absent clears its end's bit alone; a standby passes both to the active module. A tone-detector test in the last ticks of a grain, 10 s or more after the one before, sends its test pulse and writes the ring's TONE_PATH, and fallow mode follows its causes. A confirmed open sense wire at an inner tap of a string in service, held for its hold time, sets the open request of the ring to the present grain and starts the opening sequence with the cause SENSE_HOLD. What the opening sequence does is stated by OpeningSequence. -/
def Obligations.ChainTones : Prop :=
  -- ALARM_TONE_DECLARED, R150
  (∀ (s : State) (n : Nat) (e : RingEnd),
    s.m.fabricOn = true → n < 32 → s.m.monsOf n ≠ [] → (s.m.ring n).toneTrip = false → (s.m.ring n).inverted e = false →
    Completes (.alarmToneDeclared n e) s fun t =>
      let bits := (s.m.ring n).tone ||| (match e with | .A => 1#2 | .B => 2#2)
      let told := s.m.onRing n fun r => { r with tone := bits, toneAbsent := if !s.m.standby && s.m.lockAt n e then 0 else r.toneAbsent }
      let m := ((if s.m.standby then told.forward [] [] [(n, bits)] else told).onRing n fun r =>
      { r with toneTrip := true, toneSeek := 2, toneGrain := s.m.plan.grainCnt, toneTick := s.m.plan.tick }).post 0x200B n bSafety (u8 (match e with | .A => 0 | .B => 1))
      t = { s with m := if s.m.standby then m.standbySafe n else m.openSeq n cTone noGidx 0 }) ∧
  -- ALARM_TONE_DECLARED at an inverted end, R93
  (∀ (s : State) (n : Nat) (e : RingEnd), s.m.fabricOn = true → n < 32 → (s.m.ring n).inverted e = true →
    Completes (.alarmToneDeclared n e) s fun t => Unchanged s t) ∧
  -- ALARM_TONE_ABSENT, R152
  (∀ (s : State) (n : Nat) (e : RingEnd), s.m.fabricOn = true → n < 32 →
    Completes (.alarmToneAbsent n e) s fun t =>
      let bits := (s.m.ring n).tone &&& (match e with | .A => 2#2 | .B => 1#2)
      let told := s.m.onRing n fun r => { r with tone := bits }
      t = { s with m := if s.m.standby then told.forward [] [] [(n, bits)] else told }) ∧
  -- TONE_DETECTOR_TEST, R153
  (∀ (s : State) (n : Nat) (failed : BitVec 2),
    s.m.fabricOn = true → n < 32 → s.m.monsOf n ≠ [] → 95 ≤ s.m.plan.tick → 
    (∀ u ∈ (s.m.ring n).toneTestMs, 10000 ≤ s.m.safety.ms - u) →
    Completes (.toneDetectorTest n failed) s fun t =>
      t = { s with m := (((((s.m.onRing n fun r =>
      { r with tonePath := failed, toneTestMs := some s.m.safety.ms }).out (.toneTest n)).each (setBits 2 (failed &&& ~~~(s.m.ring n).tonePath).toNat) fun m e => m.post 0x200E n bSafety (u8 e))).evalCauses) }) ∧
  -- SENSE_OPEN_HOLD_EXPIRY, R159, R144
  (∀ (s : State) (n a tap : Nat),
    s.acts → n < 32 → a < 40 → 1 ≤ tap → tap ≤ 15 → (tget (s.m.mon n a).taps tap).openTap = true → s.m.inService n = true → 
    1000 * s.m.parN (0x2120 + n) ≤ s.m.host.ms - (tget (s.m.mon n a).taps tap).openSince →
    Completes (.senseOpenHoldExpiry n a tap) s fun t =>
      t = { s with m := ((s.m.onRing n fun r => { r with openReq := some s.m.plan.grainCnt }).openSeq n cSenseHold noGidx 0) })

/-- FULL_TEST_DUE of the monitor whose turn it is on a ring that is no compatibility ring, its share of OW_PERIOD after the test before, passes the turn on, clears the taps tested and queues the test of the odd taps and of the even taps, so that every tap shows as waiting. BALANCE_PLAN, a BAL_PERIOD after the plan before, notes its time, writes the timers of the charge to bleed to each monitor of the ring, and reads its balance. ANOMALY_CLEAR ends the anomaly of a cell that has been clean for one hour. -/
def Obligations.ChainTestsAndAnomalies : Prop :=
  -- FULL_TEST_DUE, R162
  (∀ (s : State) (n a : Nat),
    s.acts → n < 32 → a < 40 → s.m.compat n = false →
    (s.m.monAddrs n)[(s.m.ring n).owTurn % (s.m.monAddrs n).length]? = some a →
    (∀ u ∈ (s.m.ring n).owMs, 1000 * s.m.parN 0x2145 / (s.m.monAddrs n).length ≤ s.m.host.ms - u) →
    (s.m.owTest a 0x15555#17 ∉ (s.m.ring n).owQueue) →
    Completes (.fullTestDue n a) s fun t =>
      t = { s with m := ((s.m.onRing n fun r =>
      { r with owTurn := (r.owTurn + 1) % (s.m.monAddrs n).length, owMs := some s.m.host.ms }).onMon n a fun x =>
      { x with owDone := 0 }).onRing n fun r =>
      { r with owQueue := (r.owQueue.filter fun w => !(w.addr == a && (w.cmd == .openWire 0x0AAAA#17 || w.cmd == .openWire 0x15555#17))) ++ [
        { addr := a, cmd := .openWire 0x0AAAA#17, prio := .diagnostic, origin := s.m.fwdEnd },
        { addr := a, cmd := .openWire 0x15555#17, prio := .diagnostic, origin := s.m.fwdEnd }] } } ∧
      ∀ k, k < 17 → t.m.owPending n a k = true) ∧
  -- BALANCE_PLAN, R163
  (∀ (s : State) (n : Nat), s.acts → n < 32 → s.m.configured n = true → 1000 * s.m.parN 0x3040 ≤ s.m.host.ms - (s.m.ring n).balMs →
    Completes (.balancePlan n) s fun t =>
      t = { s with m := ((s.m.onRing n fun r =>
      { r with balMs := s.m.host.ms }).each (s.m.monsOf n) fun m mc => (m.balMonitor n mc (s.m.balCharge n)).readBalance n mc.addr) }) ∧
  -- ANOMALY_CLEAR, R215
  (∀ (s : State) (g : Nat), s.acts → g < 20480 → (s.m.cellEst g).anomaly = true →
    3600000 ≤ (s.m.cellEst g).anomalyAge + (s.m.host.ms - (s.m.cellEst g).anomalyMs) →
    Completes (.anomalyClear g) s fun t =>
      t = { s with m := (s.m.onCellEst g fun e => { e with anomaly := false, anomalyAge := 0, anomalyMs := 0 }) })

/-- REST_ANCHOR of a configured string whose rest has reached the time its next anchor needs notes the grain, counts the anchors due, and takes at every cell of the string that has a mean of its last 10 s at rest the anchor from that mean, without the polarisation and the hysteresis, at the accuracy of the length of the rest; every other cell and string is as before. IMPEDANCE_INTERVAL_END at a GRAIN_CNT divisible by 10,000 begins the interval of that grain, in which the strings without an inhibit run the test. The interval before is released where it was one of 10,000 grains and the string's slot has run in this grain, waits for the string's slot where it has not, and is dropped where it was of another length. That the anchors passed during an outage count as taken at the first REST_ANCHOR after it is the model's choice (log 69). -/
def Obligations.RestAndImpedance : Prop :=
  -- REST_ANCHOR, R193
  (∀ (s : State) (n : Nat) (x : StrEst) (sigma : Rat),
    s.acts → n < 32 → s.m.configured n = true → s.m.strEst n = x → x.restGrains ≠ 0 →
    1000 * s.m.restDue x.restAnchors ≤ x.restGrains → ((s.m.cellIns n).map (·.g)).Nodup →
    sigma = (if s.m.parN 0x4065 ≤ x.restGrains / 1000 then 1 else 2) * (s.m.par 0x4066 : Rat) / 10000 →
    Completes (.restAnchor n) s fun t =>
      (t.m.strEst n).anchorGrain = some s.m.plan.grainCnt ∧
      (t.m.strEst n).restAnchors = max (x.restAnchors + 1)
        ((List.range (x.restGrains / 1000 / 600 + 3)).filter fun k => decide (s.m.restDue k ≤ x.restGrains / 1000)).length ∧
      (∀ c ∈ s.m.cellIns n, t.m.cellEst c.g =
        match (s.m.cellEst c.g).restMean x.restGrains with
        | none => s.m.cellEst c.g
        | some v => (s.m.anchor n c.g c.t (v + (s.m.cellEst c.g).vFast + (s.m.cellEst c.g).vSlow - (s.m.cellEst c.g).m * (s.m.cellEst c.g).h)
            sigma).cellEst c.g) ∧
      (∀ g, g ∉ (s.m.cellIns n).map (·.g) → t.m.cellEst g = s.m.cellEst g) ∧
      (∀ k, k ≠ n → t.m.strEst k = s.m.strEst k) ∧ Only [.store, .est] s t) ∧
  -- IMPEDANCE_INTERVAL_END after an interval of 10,000 grains, R202
  (∀ (s : State) (g0 : W32),
    s.acts → s.m.plan.grainCnt.toNat % 10000 = 0 → s.m.est.interval = some g0 → (s.m.plan.grainCnt - g0).toNat = 10000 →
    Completes (.impedanceIntervalEnd) s fun t =>
      t.m.est.interval = some s.m.plan.grainCnt ∧
      (∀ n ∈ s.m.confStrings, (t.m.strEst n).eisRun = decide ((t.m.strEst n).eisInhibit = 0) ∧
        (t.m.strEst n).eisEnd = if (s.m.strEst n).ranAt = some s.m.plan.grainCnt then none else some g0) ∧
      (∀ n, n ∉ s.m.confStrings → t.m.strEst n = s.m.strEst n) ∧ Only [.store, .est] s t) ∧
  -- IMPEDANCE_INTERVAL_END after none, or after one of another length, R202
  (∀ (s : State),
    s.acts → s.m.plan.grainCnt.toNat % 10000 = 0 → s.m.est.interval ≠ some s.m.plan.grainCnt →
    (∀ g0 ∈ s.m.est.interval, (s.m.plan.grainCnt - g0).toNat ≠ 10000) →
    Completes (.impedanceIntervalEnd) s fun t =>
      t.m.est.interval = some s.m.plan.grainCnt ∧
      (∀ n ∈ s.m.confStrings, (t.m.strEst n).eisRun = decide ((t.m.strEst n).eisInhibit = 0) ∧ (t.m.strEst n).eisEnd = none ∧
        ∀ g ∈ s.m.gcells n, (t.m.cellEst g).eisSum = [] ∧ (t.m.cellEst g).impRun = 0 ∧ (t.m.cellEst g).impLowRun = 0) ∧
      (∀ n, n ∉ s.m.confStrings → t.m.strEst n = s.m.strEst n) ∧ Only [.est] s t)

/-- CHECKPOINT_CAPTURE of a string with cells, in its grain and with the checkpoint partition writable, writes the image of the string's cells, stamped with the time and with the UIDs of their monitors, into the checkpoint buffer and starts the transfer; CHECKPOINT_WRITE_COMPLETE makes the buffer the newest of the string's checkpoints, or where the write failed drops it and lets its greatest current count on. EST_RESTORE_COMPLETE ends the restore under way. RESTORE_WAIT_EXPIRY after RESTORE_WAIT lets the string's estimation run. A fine period at its end gives one archive record with its span and starts the next. A coarse day at its end gives one record of the day's fine records. -/
def Obligations.EstimatorCheckpoints : Prop :=
  -- CHECKPOINT_CAPTURE, R217
  (∀ (s : State) (n : Nat), s.acts → n < 32 → s.m.configured n = true → s.m.gcells n ≠ [] → s.m.plan.grainCnt.toNat % 60000 = 1000 * n → s.m.flashWrites 3 = true →
    Completes (.checkpointCapture n) s fun t =>
      (t.m.strEst n).ckptBuf = estImage 0 ((s.m.monsOf n).flatMap fun mc => (setBits 16 mc.cellMask.toNat).map fun k =>
        (s.m.cellEst (gcell n mc.addr k)).record (gcell n mc.addr k) (s.m.mon n mc.addr).uid
          ((s.m.chemOf n).tauS (s.m.cellTemp n mc k (gcell n mc.addr k))) (s.m.anchorAgeOf (s.m.cellEst (gcell n mc.addr k)) / 1000)
          s.m.nowSN.1 s.m.nowSN.2 (((max (s.m.strEst n).iMax (s.m.strEst n).ckptIMax : Nat) : Rat) / 1000)) ∧
      (t.m.strEst n).ckptIMax = max (s.m.strEst n).iMax (s.m.strEst n).ckptIMax ∧ (t.m.strEst n).ckptOpMs = s.m.power.opMs ∧ (t.m.strEst n).iMax = 0 ∧
      (t.m.dmaCh 1).busy = true ∧ (t.m.dmaCh 1).use = .checkpoint n ∧
      (∀ k, k ≠ n → t.m.strEst k = s.m.strEst k) ∧ t.m.est.cells = s.m.est.cells ∧ (∀ c, c ≠ 1 → t.m.dmaCh c = s.m.dmaCh c) ∧ Only [.store, .est] s t) ∧
  -- CHECKPOINT_WRITE_COMPLETE, R217
  (∀ (s : State) (n : Nat) (ok : Bool), s.m.powered = true → n < 32 → (s.m.strEst n).ckptBuf ≠ [] →
    Completes (.checkpointWriteComplete n ok) s fun t =>
      t = { s with m := ((s.m.dmaEnd 1).onStrEst n fun x =>
      { x with
        ckptBuf := [], ckptIMax := 0, ckptOpMs := 0, iMax := if ok then x.iMax else max x.iMax x.ckptIMax
        ckpts := if ok then (⟨x.ckptBuf, x.ckptOpMs, x.ckptIMax⟩ :: x.ckpts).take (s.m.parN 0xD085 / 256) else x.ckpts }) }) ∧
  -- EST_RESTORE_COMPLETE, R219, R420
  (∀ (s : State) (j : RestoreJob), s.acts → s.m.est.restore = some j →
    Completes (.estRestoreComplete) s fun t =>
      t.m.est.restore = none ∧ (∀ n ∈ s.m.confStrings, (s.m.strEst n).restoreWait.isSome = true → (t.m.strEst n).ready = true) ∧ Only [.host, .store, .est, .sent] s t) ∧
  -- RESTORE_WAIT_EXPIRY, R219
  (∀ (s : State) (n w : Nat), s.acts → n < 32 → (s.m.strEst n).restoreWait = some w →
    1000 * s.m.parN 0x406A ≤ (s.m.strEst n).restoreAge + (s.m.host.ms - w) →
    Completes (.restoreWaitExpiry n) s fun t =>
      t = { s with m := (s.m.onStrEst n fun x => { x with ready := true, restoreWait := none }) }) ∧
  -- ARCHIVE_FINE_PERIOD
  (∀ (s : State) (n : Nat),
    s.m.supRuns = true → n < 32 → s.m.configured n = true → s.m.par (0xD000 + 4 * n) = 1 → 
    0 < (tget s.m.store.arch n).grains → 
    (tget s.m.store.arch n).fromMs + 1000 * s.m.parN (0xD001 + 4 * n) ≤ s.m.power.opMs → s.m.archWritable = true →
    Completes (.archiveFinePeriod n) s fun t =>
      (tget t.m.store.arch n).fromMs = s.m.power.opMs ∧ (tget t.m.store.arch n).grains = 0 ∧ (tget t.m.store.arch n).dayFrom = (tget s.m.store.arch n).dayFrom ∧
      (∃ r, t.m.store.archive = archTrim 1 (5 * 2 ^ 29) (archTrim 0 (15 * 2 ^ 29) (s.m.store.archive ++ [r])) ∧ r.string = n ∧ r.tier = 0 ∧ r.fromMs = (tget s.m.store.arch n).fromMs ∧ r.toMs = s.m.power.opMs ∧ r.grain = s.m.plan.grainCnt) ∧
      (∀ k, k ≠ n → tget t.m.store.arch k = tget s.m.store.arch k) ∧ t.m.store.dram = s.m.store.dram ∧ Only [.store] s t) ∧
  -- ARCHIVE_COARSE_DAY without fine records
  (∀ (s : State) (n : Nat),
    s.m.supRuns = true → n < 32 → s.m.configured n = true → s.m.par (0xD000 + 4 * n) = 1 → 
    (tget s.m.store.arch n).dayFrom + 86400000 ≤ s.m.power.opMs → s.m.archWritable = true → 
    (s.m.store.archive.filter (fun r => r.string == n && r.tier == 0 && decide ((tget s.m.store.arch n).dayFrom ≤ r.fromMs)) = []) →
    Completes (.archiveCoarseDay n) s fun t =>
      t = { s with m := (s.m.onStore fun x => { x with arch := tmod x.arch n fun p => { p with dayFrom := p.dayFrom + 86400000 } }) }) ∧
  -- ARCHIVE_COARSE_DAY with fine records
  (∀ (s : State) (n : Nat) (l : List ArchRec) (a z : ArchRec),
    s.m.supRuns = true → n < 32 → s.m.configured n = true → s.m.par (0xD000 + 4 * n) = 1 → 
    (tget s.m.store.arch n).dayFrom + 86400000 ≤ s.m.power.opMs → s.m.archWritable = true → 
    (s.m.store.archive.filter (fun r => r.string == n && r.tier == 0 && decide ((tget s.m.store.arch n).dayFrom ≤ r.fromMs)) = l) → 
    l.head? = some a → l.getLast? = some z →
    Completes (.archiveCoarseDay n) s fun t =>
      (tget t.m.store.arch n).dayFrom = (tget s.m.store.arch n).dayFrom + 86400000 ∧
      (∃ r, t.m.store.archive = archTrim 1 (5 * 2 ^ 29) (archTrim 0 (15 * 2 ^ 29) (s.m.store.archive ++ [r])) ∧ r.string = z.string ∧ r.tier = 1 ∧ r.fromMs = a.fromMs ∧ r.toMs = z.toMs) ∧
      t.m.store.dram = s.m.store.dram ∧ Only [.store] s t)

/-- A frame with another start delimiter is no response and changes nothing. One that is partial or has a bad CRC, or a response at an end whose clock is not recovered, counts as discarded and does nothing else. The response to an AUTH_CHALLENGE, from the monitor addressed, in its window and with the ring's count, is accepted; the monitor has answered with its comparator byte, and its nonce is kept beside the challenge. A transaction that closes with responses accepted counts the missing ones, notes the monitors that were silent and the continuation as it was found, which an inverted far end cannot show. One command without a response goes back to the waiting commands for another attempt until it has had three, an OPEN_WIRE to the front of the waiting tests; a SET_BALANCE that a newer one already replaces does not. That a response out of lock counts as discarded is the model's reading (log 58). -/
def Obligations.ChainTraffic : Prop :=
  -- CHAIN_RESPONSE that is none, R101
  (∀ (s : State) (n : Nat) (x : ChainRx), s.m.planOn = true → n < 32 → x.frame = .foreign →
    Completes (.chainResponse n x) s fun t => Unchanged s t) ∧
  -- CHAIN_RESPONSE discarded, R27, R101, R104
  (∀ (s : State) (n : Nat) (x : ChainRx),
    s.m.planOn = true → n < 32 → (x.frame = .broken ∨ ((∃ r, x.frame = .resp r) ∧ s.m.endLocked n x.rxEnd = false)) →
    Completes (.chainResponse n x) s fun t =>
      t = { s with m := (s.m.onRing n fun r => { r with crcDiscard := stopAt 0xFFFF (r.crcDiscard + 1) }) }) ∧
  -- CHAIN_RESPONSE to an AUTH_CHALLENGE, R121
  (∀ (s : State) (n : Nat) (b : ChainRx) (r : ChainResp) (x : ChainTxn) (nm : List Byte) (mc : MonCfg),
    s.acts → n < 32 → b.frame = .resp r → s.m.endLocked n b.rxEnd = true → (s.m.ring n).txn = some x → 
    x.frame.cmd = .authChallenge nm → r.inWindow = true → x.expected = [r.src] → 0 < x.room → x.accepted = [] → r.dir = x.frame.dir → 
    r.opcode = 9 → r.cnt = x.frame.cnt → r.err = false → s.m.monCfg? n r.src = some mc → 
    s.m.host.ms - (s.m.mon n r.src).heardMs ≤ 1000 →
    Completes (.chainResponse n b) s fun t =>
      (t.m.ring n).txn = some { x with accepted := [r.src] } ∧
      (t.m.mon n r.src).nMod = (s.m.mon n r.src).nMod ∧ (t.m.mon n r.src).nMon = r.payload ∧
      (t.m.mon n r.src).challengeAt = (s.m.mon n r.src).challengeAt ∧ (t.m.mon n r.src).silent = false ∧
      (t.m.mon n r.src).cmp = r.cmp ∧ (t.m.mon n r.src).answered = true ∧ (t.m.mon n r.src).heardMs = s.m.host.ms ∧
      OnlyRingMon n r.src s t ∧ Only [.chain, .pair] s t) ∧
  -- CHAIN_TRANSACTION_CLOSE with a response taken, R93, R97, R106
  (∀ (s : State) (n : Nat) (far : Option Nat) (x : ChainTxn),
    s.acts → n < 32 → (s.m.ring n).txn = some x → x.closes ≤ 20000 * (s.m.plan.tick + 1) → x.accepted ≠ [] → x.frame.cmd ≠ .enum → 
    (∀ w b, x.frame.cmd ≠ .sweep w b) →
    Completes (.chainTransactionClose n far) s fun t =>
      let mute := x.expected.filter fun a => !x.accepted.contains a
      t = { s with m := ((s.m.onRing n fun r =>
      { r with
        txn := none, cont := far.isSome && !(s.m.ring n).inverted x.frame.dir.other
        missing := stopAt 0xFFFF (r.missing + (x.room - (x.expected.length - mute.length))) }).each
      (mute.filter fun a => !((if x.frame.dir = s.m.fwdEnd then [] else (s.m.ring n).now.gotFwd).contains a)) fun m a =>
      m.onMon n a fun y => { y with silent := true }).capture fun y => { y with closes := y.closes ++ [(s.m.plan.tick, n, far)] } }) ∧
  -- CHAIN_TRANSACTION_CLOSE without a response, R107
  (∀ (s : State) (n : Nat) (far : Option Nat) (x : ChainTxn) (w : ChainWait),
    s.acts → n < 32 → (s.m.ring n).txn = some x → x.closes ≤ 20000 * (s.m.plan.tick + 1) → x.accepted = [] → x.wait = some w → x.frame.cmd = w.cmd → 
    (w.cmd ≠ .enum ∧ w.cmd ≠ .hibernate) → (∀ k b, w.cmd ≠ .sweep k b) → w.attempts + 1 < 3 →
    (w.cmd.opcode = 6 → s.m.balWaiting n w.addr = none) →
    Completes (.chainTransactionClose n far) s fun t =>
      t = { s with m := (((s.m.onRing n fun r =>
      { r with txn := none, cont := far.isSome && !(s.m.ring n).inverted x.frame.dir.other, missing := stopAt 0xFFFF (r.missing + x.room) }).each
      (x.expected.filter fun a => !((if x.frame.dir = s.m.fwdEnd then [] else (s.m.ring n).now.gotFwd).contains a)) fun m a =>
      m.onMon n a fun y => { y with silent := true }).onRing n fun r =>
      if w.cmd.opcode = 8 then { r with owQueue := { w with attempts := w.attempts + 1 } :: r.owQueue }
      else { r with queue := r.queue ++ [{ w with attempts := w.attempts + 1, prio := if w.prio.rank < 2 then w.prio else .retry }] }).capture fun y => { y with closes := y.closes ++ [(s.m.plan.tick, n, far)] } }) ∧
  -- CHAIN_TRANSACTION_CLOSE of a SET_BALANCE without a response, a newer one waiting, R167
  (∀ (s : State) (n : Nat) (far : Option Nat) (x : ChainTxn) (w : ChainWait) (b : List Nat × Bool),
    s.acts → n < 32 → (s.m.ring n).txn = some x → x.closes ≤ 20000 * (s.m.plan.tick + 1) → x.accepted = [] → x.wait = some w → x.frame.cmd = w.cmd →
    w.cmd.opcode = 6 → w.attempts + 1 < 3 → s.m.balWaiting n w.addr = some b →
    Completes (.chainTransactionClose n far) s fun t =>
      t = { s with m := ((s.m.onRing n fun r =>
      { r with txn := none, cont := far.isSome && !(s.m.ring n).inverted x.frame.dir.other, missing := stopAt 0xFFFF (r.missing + x.room) }).each
      (x.expected.filter fun a => !((if x.frame.dir = s.m.fwdEnd then [] else (s.m.ring n).now.gotFwd).contains a)) fun m a =>
      m.onMon n a fun y => { y with silent := true }).capture fun y => { y with closes := y.closes ++ [(s.m.plan.tick, n, far)] } })

/-- TICK of a running plan whose first grain runs, before tick 99, advances the tick by one and leaves GRAIN_CNT; the nanosecond count advances by INCR at each oscillator edge, through the fraction, up to the first edge at which it is 10,000 ns or more beyond the nominal start of the tick, and the excess is carried. GRAIN_BOUNDARY when one is due makes the tick 0 and GRAIN_CNT one more, or as it was for the first grain. -/
def Obligations.TimeAdvances : Prop :=
  -- TICK, R31, R42, R456
  (∀ (s : State), s.m.planOn = true → s.m.plan.firstGrain = true → s.m.roleless = false → s.m.plan.tick < 99 → 0 < s.m.time.incr → s.m.time.excess ≤ 10000 * 2 ^ 24 →
    Completes (.tick) s fun t =>
      t.m.plan.tick = s.m.plan.tick + 1 ∧ t.m.plan.grainCnt = s.m.plan.grainCnt ∧ t.m.plan.firstGrain = true ∧
      (∃ n : Nat, 10000 * 2 ^ 24 ≤ s.m.time.excess + n * s.m.time.incr ∧ s.m.time.excess + n * s.m.time.incr < 10000 * 2 ^ 24 + s.m.time.incr ∧
        t.m.time = { s.m.time with
          nsCnt := BitVec.ofNat 32 (s.m.time.nsCnt.toNat + (s.m.time.frac + n * s.m.time.incr) / 2 ^ 24)
          wrapCnt := if 2 ^ 32 ≤ s.m.time.nsCnt.toNat + (s.m.time.frac + n * s.m.time.incr) / 2 ^ 24 then (s.m.time.wrapCnt + 1) % 256 else s.m.time.wrapCnt
          frac := (s.m.time.frac + n * s.m.time.incr) % 2 ^ 24, excess := s.m.time.excess + n * s.m.time.incr - 10000 * 2 ^ 24 }) ∧ Only [.plan, .clock, .host, .store, .chain, .est, .conv, .prot, .safety, .pair, .time, .can, .adc, .upd, .sent, .free] s t) ∧
  -- GRAIN_BOUNDARY, R40
  (∀ (s : State) (d : Int), s.m.planOn = true → s.m.boundaryDue = true →
    Completes (.grainBoundary d) s fun t =>
      t.m.plan.tick = 0 ∧ t.m.plan.firstGrain = true ∧
      t.m.plan.grainCnt = if s.m.plan.firstGrain then s.m.plan.grainCnt + 1 else s.m.plan.grainCnt)

/-- SLOT_RUN of a slot whose tick it is, within its reserve and with work that its role's last slot does not end, uses its cycles of its tile; a corrected error of its memory is counted beside. SLOT_RUN of the last publication slot, where none before it overran, in the module that acts, marks the copy of the point directory that GRAIN_CNT mod 2 selects complete with the present grain, and leaves the other copy. OVERRUN of such a slot, first or second for its bed, uses the slot's reserve, sets the overrun bits of bed and tile, counts for the bed, and is recorded; the work of the slot's role is held, its results staying as they are, where the slot is not the last of its role. -/
def Obligations.SlotsAndOverruns : Prop :=
  -- SLOT_RUN, R45, R79
  (∀ (s : State) (b k c : Nat) (x : Slot),
    s.m.planOn = true → b ≤ 32 → s.m.slot? b k = some x → s.m.runs = true → 
    runsIn x.startTick x.period s.m.plan.tick = true → c ≤ x.reserve → s.m.lastOfRole x = false →
    Completes (.slotRun b k c .none none) s fun t =>
      t = { s with m := (s.m.useCycles x.tile c) }) ∧
  -- SLOT_RUN with a corrected error, R25
  (∀ (s : State) (b k c : Nat) (x : Slot),
    s.m.planOn = true → b ≤ 32 → s.m.slot? b k = some x → s.m.runs = true → 
    runsIn x.startTick x.period s.m.plan.tick = true → c ≤ x.reserve → s.m.lastOfRole x = false →
    Completes (.slotRun b k c .corrected none) s fun t =>
      t = { s with m := ((s.m.onPlan fun p => { p with tileEccCorrected := p.tileEccCorrected + 1 }).useCycles x.tile c) }) ∧
  -- SLOT_RUN of the publication, R18
  (∀ (s : State) (b k c : Nat) (x : Slot),
    s.acts → b ≤ 32 → s.m.slot? b k = some x → runsIn x.startTick x.period s.m.plan.tick = true → c ≤ x.reserve → 
    s.m.lastOfRole x = true → s.m.slotRole x = .publication → (x.bed, .publication) ∉ s.m.plan.heldRoles →
    Completes (.slotRun b k c .none none) s fun t =>
      (if s.m.plan.grainCnt.getLsbD 0
      then t.dir1.complete = true ∧ t.dir1.grain = s.m.plan.grainCnt ∧ t.dir0 = s.dir0
      else t.dir0.complete = true ∧ t.dir0.grain = s.m.plan.grainCnt ∧ t.dir1 = s.dir1)) ∧
  -- OVERRUN, R79, R80
  (∀ (s : State) (b k : Nat) (cause : OverrunCause) (x : Slot),
    s.m.planOn = true → s.m.slot? b k = some x → b ≤ 32 → s.m.runs = true → 
    runsIn x.startTick x.period s.m.plan.tick = true →
    (s.m.acct x.bed).count < 2 → s.m.overrunFallow x.bed = false →
    Completes (.overrun b k cause) s fun t =>
      t.m.acct x.bed = { s.m.acct x.bed with count := (s.m.acct x.bed).count + 1, total := stopAt 0xFFFFFFFF ((s.m.acct x.bed).total + 1), thisGrain := true, cleanGrains := none } ∧
      (x.bed < 32 → t.m.plan.ovrStr = s.m.plan.ovrStr ||| BitVec.ofNat 32 (2 ^ x.bed)) ∧ (x.bed = 32 → t.m.plan.commonOvr = true) ∧
      t.m.plan.tileOvr = s.m.plan.tileOvr ||| BitVec.ofNat 4 (2 ^ x.tile) ∧
      (s.m.lastOfRole x = false → (x.bed, s.m.slotRole x) ∈ t.m.plan.heldRoles) ∧
      (cause = .ecc → tget t.m.plan.tileEcc x.tile = some s.m.plan.grainCnt) ∧
      Recorded 0x1004 x.bed bFabric s.m t.m ∧ Only [.plan, .store] s t)

/-- A lockstep mismatch is noted with its time, and it and a watchdog expiry of the supervisor begin a warm restart with cause 6 and 7: both supervisor pairs stop, the restart is counted and recorded, and the plan runs on. When the warm restart completes and the loader finds the slot that ran good, both pairs run again, in a parked module the first alone, and the watches begin anew. A message of the supervisor fills an outbound mailbox, and both mailboxes of a slot full for MBX_CROSS set CROSS. -/
def Obligations.SupervisorRestarts : Prop :=
  -- LOCKSTEP_MISMATCH, R17, fewer than three within the hour
  (∀ (s : State) (p : Nat),
    s.m.powered = true → p < 2 → s.m.plan.warm = false → s.m.power.restart = none → s.m.power.state ≠ .failing → 
    ((s.m.plan.lockstepAt.filter fun u => decide (s.m.host.ms - u < 3600000)).length < 2) →
    Completes (.lockstepMismatch p) s fun t =>
      t.m.plan.lockstepAt = s.m.host.ms :: (s.m.plan.lockstepAt.filter fun u => decide (s.m.host.ms - u < 3600000)) ∧
      t.m.plan.warm = true ∧ t.m.plan.warmCause = 6 ∧ t.m.plan.sp0Ok = false ∧ t.m.plan.sp1Ok = false ∧ t.m.power.lastCause = 6 ∧
      t.m.power.warmCount = stopAt 255 (s.m.power.warmCount + 1) ∧ Recorded 0xE002 0xFF bSup s.m t.m ∧
      t.m.plan.running = s.m.plan.running ∧ t.m.plan.mode = s.m.plan.mode ∧ Only [.plan, .store, .power, .time, .upd, .sent] s t) ∧
  -- SUPERVISOR_WATCHDOG, R17, R578
  (∀ (s : State), s.m.powered = true → s.m.plan.warm = false → s.m.power.restart = none → s.m.power.state ≠ .failing →
    Completes (.supervisorWatchdog) s fun t =>
      t.m.plan.warm = true ∧ t.m.plan.warmCause = 7 ∧ t.m.plan.sp0Ok = false ∧ t.m.plan.sp1Ok = false ∧ t.m.power.lastCause = 7 ∧
      t.m.power.warmCount = stopAt 255 (s.m.power.warmCount + 1) ∧ Recorded 0xE002 0xFF bSup s.m t.m ∧
      t.m.plan.running = s.m.plan.running ∧ t.m.plan.mode = s.m.plan.mode ∧ Only [.plan, .store, .power, .time, .upd, .sent] s t) ∧
  -- WARM_RESTART_COMPLETE, R16, R595
  (∀ (s : State) (bootB : Bool),
    s.m.powered = true → s.m.plan.warm = true → s.m.upd.verifying = false → s.m.upd.slotA.st = .active → 
    s.m.upd.slotB.st = .empty → s.m.upd.runB = false → s.m.upd.minSvn ≤ s.m.upd.slotA.hdr.svn →
    Completes (.warmRestartComplete true bootB) s fun t =>
      t.m.plan.warm = false ∧ t.m.plan.sp0Ok = true ∧ t.m.plan.sp1Ok = decide (s.m.power.state ≠ .parked) ∧ t.m.host.watches = [] ∧
      t.m.upd.runB = false ∧ t.m.upd.recovery = s.m.upd.recovery ∧
      t.m.plan.running = s.m.plan.running ∧ t.m.plan.mode = s.m.plan.mode) ∧
  -- OUTBOUND_MBX_WRITE
  (∀ (s : State) (k ptr len type dom : Nat), s.m.supRuns = true → k ≤ 16 →
    Completes (.outboundMbxWrite k ptr len type dom) s fun t =>
      (t.m.mbx k).outFull = true ∧ (t.m.mbx k).outPtr = BitVec.ofNat 32 ptr ∧ (t.m.mbx k).outLen = BitVec.ofNat 32 len ∧ (t.m.mbx k).outType = BitVec.ofNat 16 type ∧ (t.m.mbx k).outDomain = BitVec.ofNat 8 dom ∧
      (t.m.mbx k).outColl = ((s.m.mbx k).outColl || (s.m.mbx k).outFull) ∧ (t.m.mbx k).outSince = (if (s.m.mbx k).outFull then (s.m.mbx k).outSince else s.m.host.ms) ∧ (t.m.mbx k).inFull = (s.m.mbx k).inFull ∧ (∀ j, j ≠ k → t.m.mbx j = s.m.mbx j) ∧ Only [.host, .sent] s t) ∧
  -- MBX_CROSS_TIMEOUT
  (∀ (s : State) (k : Nat),
    s.m.supRuns = true → k < 16 → (s.m.mbx k).inFull = true → (s.m.mbx k).outFull = true → (s.m.mbx k).cross = false → 
    s.m.parN 0xA0C1 < s.m.host.ms - max (s.m.mbx k).inSince (s.m.mbx k).outSince →
    Completes (.mbxCrossTimeout k) s fun t =>
      (t.m.mbx k).cross = true ∧ (t.m.mbx k).inFull = true ∧ (t.m.mbx k).outFull = true ∧ (∀ j, j ≠ k → t.m.mbx j = s.m.mbx j) ∧ Only [.host, .sent] s t)

/-- Three grain pulses missed stop the time base, with the event and cause 0. A fault of the safety cores ends the agreement of the cores, or the self test as the cause says, makes the safe stop of the whole module, opens every safe output, holds the back-plane line and is recorded. A corrupted safety configuration or firmware, or a failed RAM test, makes the critical safe stop of the whole module and holds the back-plane line; that no event is recorded of it is the model's choice (log 66). The first measurement of a clock out of tolerance is noted only. A recovered clock that is lost or found changes its own lock bit, and of a ring end its inversion. A Delay_Req goes out once its interval is over; a Delay_Resp within PTP_PATH_MAX enters the mean path delay. -/
def Obligations.TimeBaseFaults : Prop :=
  -- GRAIN_PULSE_TIMEOUT, R22
  (∀ (s : State), s.m.fabricOn = true → s.m.plan.firstGrain = true → s.m.plan.pulsesMissed ≠ 3 →
    Completes (.grainPulseTimeout) s fun t =>
      t = { s with m := ((s.m.onPlan fun p => { p with pulsesMissed := 3 }).timeBaseStop 0) }) ∧
  -- SAFETY_CORE_FAULT, R362
  (∀ (s : State) (cause : Nat), s.m.powered = true → cause < 2 → (∀ x ∈ s.m.safety.stops, x.kind ≠ .cores) →
    Completes (.safetyCoreFault cause) s fun t =>
      t = { s with m := ((((((s.m.onSafety fun x =>
      { x with coresAgree := x.coresAgree && decide (cause ≠ 0), selftestOk := x.selftestOk && decide (cause = 0) }).safeStop .cores true 0).each (List.range 8) Mod.switchOff).onSafety fun x =>
      { x with bpOut := true }).post 0x800A 0xFF bSafety (u8 cause))) }) ∧
  -- SAFETY_CORE_FAULT of the configuration CRC (2) or of the RAM (3), R347
  (∀ (s : State) (cause : Nat), s.m.powered = true → 2 ≤ cause → cause < 4 →
    Completes (.safetyCoreFault cause) s fun t =>
      t = { s with m := (((s.m.onSafety fun x => { x with cfgValid := x.cfgValid && decide (cause ≠ 2) }).safeStop .critical true 0).onSafety fun x =>
      { x with bpOut := true }) }) ∧
  -- CLOCK_MEASUREMENT, R30, the first out of tolerance
  (∀ (s : State) (c : Nat) (ppm : Int), s.m.powered = true → c < 5 → 20000 < ppm.natAbs → s.m.plan.clkBad.getLsbD c = false →
    Completes (.clockMeasurement c ppm) s fun t =>
      t = { s with m := (s.m.onPlan fun p => { p with clkBad := p.clkBad ||| BitVec.ofNat 5 (2 ^ c) }) }) ∧
  -- RECOVERED_CLOCK_UNLOCK of a link, R39
  (∀ (s : State) (n : Nat), s.m.fabricOn = true → n < 32 →
    Completes (.recoveredClockUnlock (.link n)) s fun t =>
      t = { s with m := (s.m.onPlan fun p => { p with klnkLock := p.klnkLock &&& ~~~(BitVec.ofNat 32 (2 ^ n)) }) }) ∧
  -- RECOVERED_CLOCK_UNLOCK of a ring end, R39
  (∀ (s : State) (n : Nat) (e : RingEnd), s.m.fabricOn = true → n < 32 →
    Completes (.recoveredClockUnlock (.chain n e)) s fun t =>
      t = { s with m := (s.m.onPlan fun p => { p with chnLock := p.chnLock &&& ~~~(BitVec.ofNat 64 (2 ^ chnBit n e)) }) }) ∧
  -- RECOVERED_CLOCK_LOCK of a ring end, R93
  (∀ (s : State) (n : Nat) (e : RingEnd), s.m.fabricOn = true → n < 32 →
    Completes (.recoveredClockLock (.chain n e) false) s fun t =>
      t = { s with m := ((s.m.onRing n fun r => { r with inv := r.inv &&& ~~~(match e with | .A => 1#2 | .B => 2#2) }).onPlan fun p =>
      { p with chnLock := p.chnLock ||| BitVec.ofNat 64 (2 ^ chnBit n e) }) }) ∧
  -- RECOVERED_CLOCK_LOCK of a link, R39
  (∀ (s : State) (n : Nat) (inv : Bool), s.m.fabricOn = true → n < 32 →
    Completes (.recoveredClockLock (.link n) inv) s fun t =>
      t = { s with m := (s.m.onPlan fun p => { p with klnkLock := p.klnkLock ||| BitVec.ofNat 32 (2 ^ n) }) }) ∧
  -- PTP_DELAY_RESP_RECEIVE
  (∀ (s : State) (p : Nat) (f : PtpDelayResp) (q : PendDelay) (a r d t3 t4 : Int) (l : List Int),
    s.m.supRuns = true → p < 2 → (s.m.time.ptp p).delayReq = some q → q.seq = f.seq → f.forUs = true → 
    s.m.fromParent p f.domain f.source = true → s.m.time.lastPair = some (a, r) → 
    t3 = s.m.time.epoch + q.t3 + s.m.par (0xA00C + 48 * p) → t4 = f.t4 - corrNs f.corr + s.m.par (0xA00A + 48 * p) → 
    d = rnear (((s.m.time.epoch + r - a + (t4 - t3) : Int) : Rat) / 2) → d ≤ s.m.par 0xA0DA → 
    l = (d :: s.m.time.delays).take (s.m.parN 0xA0D9) →
    Completes (.ptpDelayRespReceive p f) s fun t =>
      t.m.time.delays = l ∧ t.m.time.delay = rnear (rdiv ((l.sum : Int) : Rat) (l.length : Rat)) ∧ (t.m.time.ptp p).delayReq = none ∧
      t.m.time.offset = s.m.time.offset ∧ t.m.time.servo = s.m.time.servo ∧ t.m.time.incr = s.m.time.incr ∧ Only [.time] s t) ∧
  -- DELAY_REQ_SEND
  (∀ (s : State) (p : Nat) (t3 : Int), s.m.supRuns = true → p < 2 → s.m.ptpOn p = true → (s.m.time.ptp p).best.isSome = true →
    (∀ u, (s.m.time.ptp p).reqMs = some u → 1000 * 2 ^ (s.m.par 0xA0D8 + 4).toNat ≤ 16 * (s.m.host.ms - u)) →
    Completes (.delayReqSend p t3) s fun t =>
      t = { s with m := ((s.m.onPtp p fun x =>
      { x with delayReq := some { seq := x.delaySeq, t3 := t3 }, delaySeq := (x.delaySeq + 1) % 65536, reqMs := some s.m.host.ms }).out (.delayReq p { pcp := s.m.parN 0xA0E3, domain := s.m.parN 0xA0D1, seq := (s.m.time.ptp p).delaySeq })) })

/-- An admission check in an unpaired module ends: with a finding, the refusal code and its bed are kept and PLAN_REJECTED is recorded; with none, the candidate is staged. PLAN_RESTART at its grain, with every phase disabled, makes the candidate the running plan, keeps the plan before for its limits and, with its image, as the fallback, stores the candidate, and staging is empty. BED_REPLANT at its grain, with the bed's phases disabled and its layout kept, runs and stores the plan with that bed's image applied; the mode and the plan before stay. PLAN_LOAD of an image in the exchange area starts its check, drops what was staged and is PENDING. PLAN_ACTIVATE of a staged candidate whose strings allow it schedules it for its grain, with the slot table of a bed image prepared, and is PENDING. PLAN_DISCARD drops the candidate and the table prepared, and tells the standby. The number of the graft message that names the grain is the model's own (log 42). -/
def Obligations.PlanActivation : Prop :=
  -- PLAN_CHECK_COMPLETE, R64
  (∀ (s : State) (c : Check), s.m.supRuns = true → s.m.paired = false → s.m.pair.pairCheck = false → s.m.plan.check = some c →
    Completes (.planCheckComplete) s fun t =>
      t.m.plan.check = none ∧ t.m.plan.running = s.m.plan.running ∧ t.m.plan.stored = s.m.plan.stored ∧
      (match s.m.checkImage (if s.m.plan.mode = .admitted then some s.m.plan.running else none) c.image c.loadedLen with | some x => t.m.plan.staged = s.m.plan.staged ∧ t.m.plan.refusal = x.1 ∧ t.m.plan.refusalBed = x.2 ∧ Recorded 0x1005 (if x.2 = 0x3F then 0xFF else x.2) bFabric s.m t.m | none => t.m.store = s.m.store ∧ t.m.plan.staged = some { kind := imgKind c.image, bed := if imgKind c.image = 0 then 0xFF else imgBed c.image, plan := planOf s.m.plan.running c.image, image := c.image, origin := c.origin }) ∧ Only [.plan, .host, .store, .pair, .sent] s t) ∧
  -- PLAN_RESTART, R67, R68, R70
  (∀ (s : State) (c : Candidate) (g : W32), s.acts → s.m.activates 0 = some (c, g) → s.m.activationBars c = false →
    Completes (.planRestart) s fun t =>
      t.m.plan.running = c.plan ∧ t.m.plan.previous = some s.m.plan.running ∧ t.m.plan.mode = .restarting ∧ t.m.plan.staged = none ∧
      t.m.plan.scheduled = none ∧ t.m.plan.stored = some c.plan ∧ t.m.plan.fallback = s.m.plan.stored ∧
      t.m.plan.fallbackImage = s.m.plan.storedImages.headD [] ∧ t.m.plan.storedImages = [c.image] ∧
      t.m.plan.grainCnt = s.m.plan.grainCnt) ∧
  -- BED_REPLANT, R71, R72
  (∀ (s : State) (c : Candidate) (g : W32), s.acts → s.m.activates 1 = some (c, g) → s.m.activationBars c = false →
    Completes (.bedReplant) s fun t =>
      t.m.plan.running = planOf s.m.plan.running c.image ∧ t.m.plan.stored = some (planOf s.m.plan.running c.image) ∧ t.m.plan.staged = none ∧
      t.m.plan.scheduled = none ∧ t.m.plan.mode = s.m.plan.mode ∧ t.m.plan.previous = s.m.plan.previous ∧
      t.m.plan.storedImages = s.m.plan.storedImages ++ [c.image] ∧
      t.m.plan.grainCnt = s.m.plan.grainCnt) ∧
  -- PLAN_LOAD
  (∀ (s : State) (rq : HostReq) (e : Session),
    s.m.Admits 0x0301 rq e → 1 ≤ reqNum rq 0x0030 4 4 → reqNum rq 0x0030 4 4 ≤ 12582912 → 
    reqNum rq 0x0030 0 4 + reqNum rq 0x0030 4 4 ≤ 0x1000000 → 
    s.m.xaPoisoned (reqNum rq 0x0030 0 4) (reqNum rq 0x0030 4 4) = false → s.m.plan.check = none → 
    s.m.plan.scheduled = none →
    Completes (.planLoad rq) s fun t =>
      t = { s with m := (((s.m.noted rq e).onPlan fun p =>
      { p with check := some { image := tgets s.m.host.xa (reqNum rq 0x0030 0 4) (reqNum rq 0x0030 4 4), loadedLen := reqNum rq 0x0030 4 4, origin := some ⟨rq.session, 0x0301, rq.seq.toNat⟩ }, staged := none }).replied 0x0301 rq e 1 [] (s.m.plan.grainCnt + 1).toNat) }) ∧
  -- PLAN_ACTIVATE
  (∀ (s : State) (rq : HostReq) (e : Session) (c : Candidate),
    s.m.Admits 0x0302 rq e → reqNum rq 0x0060 0 4 ≠ 0 → reqNum rq 0x0060 0 4 < 2 ^ 32 → s.m.pairOp = false → 
    10 ≤ (BitVec.ofNat 32 (reqNum rq 0x0060 0 4) - s.m.plan.grainCnt).toNat → 
    (BitVec.ofNat 32 (reqNum rq 0x0060 0 4) - s.m.plan.grainCnt).toNat ≤ 60000 → s.m.plan.staged = some c → 
    (s.m.noted rq e).activationBars c = false →
    Completes (.planActivate rq) s fun t =>
      t = { s with m := ((((s.m.noted rq e).onPlan fun p =>
      { p.prepare c with scheduled := some (BitVec.ofNat 32 (reqNum rq 0x0060 0 4)), staged := some { c with origin := some ⟨rq.session, 0x0302, rq.seq.toNat⟩ } }).capture fun r =>
      { r with activate := some (BitVec.ofNat 32 (reqNum rq 0x0060 0 4)) }).replied 0x0302 rq e 1 [] (BitVec.ofNat 32 (reqNum rq 0x0060 0 4)).toNat) }) ∧
  -- PLAN_ACTIVATE in the active module of a pair: the grain is named to the standby, R75
  (∀ (s : State) (rq : HostReq) (e : Session) (c : Candidate),
    s.m.Admits 0x0302 rq e → reqNum rq 0x0060 0 4 ≠ 0 → reqNum rq 0x0060 0 4 < 2 ^ 32 → s.m.pairOp = true → s.m.pair.role = true →
    20 ≤ (BitVec.ofNat 32 (reqNum rq 0x0060 0 4) - s.m.plan.grainCnt).toNat → 
    (BitVec.ofNat 32 (reqNum rq 0x0060 0 4) - s.m.plan.grainCnt).toNat ≤ 60000 → s.m.plan.staged = some c → 
    (s.m.noted rq e).activationBars c = false →
    Completes (.planActivate rq) s fun t =>
      t = { s with m := (((((s.m.noted rq e).onPlan fun p =>
      { p.prepare c with scheduled := some (BitVec.ofNat 32 (reqNum rq 0x0060 0 4)), staged := some { c with origin := some ⟨rq.session, 0x0302, rq.seq.toNat⟩ } }).capture fun r =>
      { r with activate := some (BitVec.ofNat 32 (reqNum rq 0x0060 0 4)) }).out
      (.graft 21 (BitVec.ofNat 32 (reqNum rq 0x0060 0 4)) [])).replied 0x0302 rq e 1 [] (BitVec.ofNat 32 (reqNum rq 0x0060 0 4)).toNat) }) ∧
  -- PLAN_DISCARD of a candidate not scheduled
  (∀ (s : State) (rq : HostReq) (e : Session), s.m.Admits 0x0303 rq e → s.m.plan.staged.isSome = true → s.m.plan.scheduled = none →
    Completes (.planDiscard rq) s fun t =>
      t = { s with m := ((((s.m.noted rq e).tellCancel 0).onPlan fun p =>
      { p.abandon with staged := none, scheduled := none }).replied 0x0303 rq e 0 [] (s.m.plan.grainCnt + 1).toNat) })

/-- A discarded upstream frame adds to MISSED, to the run of frames missed, and ends the run of aligned frames. The mean of 16 training errors is the fibre delay, one above 280 ends training in FAULT. 100 successive frames within 20 ns align a training link and begin the reading of its identity. 16 frames outside 40 ns put a switching link into LOCAL_RAMP, with its time begun. 50 frames missed lose a switching link, also one that an event of a lower code has led to OFF in the same grain, into LOCAL_RAMP; of a link that is in LOCAL_RAMP for another reason they are recorded and it is trained again; and a link that is OFF they lead into TRAINING. 3 ms of LOCAL_RAMP with the link still lost open the contactor. A register access without answer for 8 frames is recorded and given up. A trip request sends the trip symbol once, counts it, latches the trip and puts the link into TRIPPED. -/
def Obligations.LinkFrames : Prop :=
  -- UPSTREAM_FRAME discarded, R230
  (∀ (s : State) (n : Nat) (f : UpFrame),
    s.m.fabricOn = true → n < 32 → s.m.standby = false → (s.m.convDef? n).isSome = true → (s.m.link n).st ≠ .dark → 
    f.good = false →
    Completes (.upstreamFrame n f) s fun t =>
      t = { s with m := (s.m.onLink n fun k =>
      { k with missed := stopAt 0xFFFF (k.missed + 1), missRun := k.missRun + 1, goodRun := 0 }) }) ∧
  -- UPSTREAM_FRAME accepted by a running link, R230
  (∀ (s : State) (n : Nat) (f : UpFrame),
    s.m.fabricOn = true → n < 32 → s.m.standby = false → (s.m.convDef? n).isSome = true → (s.m.link n).st = .off → 
    s.m.plan.klnkLock.getLsbD n = true → f.good = true → f.err.natAbs ≤ 80 → (s.m.link n).regAcc = none → f.fault = 0 →
    Completes (.upstreamFrame n f) s fun t =>
      (t.m.link n).missRun = 0 ∧ (t.m.link n).badRun = 0 ∧ (t.m.link n).fstate = f.fstate ∧ (t.m.link n).conflict = f.conflict ∧ (t.m.link n).fault = 0 ∧
      (t.m.link n).vStr = f.vString ∧ (t.m.link n).vBus = f.vBus ∧ (t.m.link n).tHs = f.tHs ∧ (t.m.link n).enabled = f.enabled ∧ (t.m.link n).missed = (s.m.link n).missed ∧
      (∀ k, k ≠ n → t.m.link k = s.m.link k) ∧ Only [.store, .conv, .prot, .pair, .sent] s t) ∧
  -- FIBRE_DELAY_MEASURE, R234
  (∀ (s : State) (n : Nat),
    s.m.fabricOn = true → n < 32 → s.m.standby = false → (s.m.link n).st = .training → (s.m.link n).aligned = false → 
    (s.m.link n).fibreDelay = none → (s.m.link n).trainErrs.length = 16 →
    Completes (.fibreDelayMeasure n) s fun t =>
      (if 280 < (rnear (((s.m.link n).trainErrs.sum : Rat) / 64)).toNat
      then t.m = ((s.m.post 0x5002 n bLink (leN 2 (rnear (((s.m.link n).trainErrs.sum : Rat) / 64)).toNat)).linkTo n .fault).onLink n fun k => { k with faultFromTraining := true }
      else t.m = s.m.onLink n fun k => { k with fibreDelay := some (rnear (((s.m.link n).trainErrs.sum : Rat) / 64)).toNat, goodRun := 0 }) ∧ Only [.store, .conv, .pair] s t) ∧
  -- LINK_ALIGNED, R234
  (∀ (s : State) (n : Nat),
    s.m.fabricOn = true → n < 32 → s.m.standby = false → (s.m.link n).st = .training → (s.m.link n).aligned = false → 
    (s.m.link n).fibreDelay.isSome = true → 100 ≤ (s.m.link n).goodRun →
    Completes (.linkAligned n) s fun t =>
      t = { s with m := (s.m.onLink n fun k =>
      { k with aligned := true, badRun := 0, ident := [], regAcc := identRegs.head?, regQueue := identRegs.drop 1 }) }) ∧
  -- ALIGNMENT_LOST while phases switch, R234
  (∀ (s : State) (n : Nat),
    s.m.fabricOn = true → n < 32 → s.m.standby = false → 16 ≤ (s.m.link n).badRun → (s.m.link n).st = .run → 
    s.m.acts n ≠ [] →
    Completes (.alignmentLost n) s fun t =>
      t = { s with m := ((s.m.linkTo n .localRamp).onLink n fun k => { k.train with rampTicks := some 0 }) }) ∧
  -- ALIGNMENT_LOST of a link that is OFF, R234
  (∀ (s : State) (n : Nat),
    s.m.fabricOn = true → n < 32 → s.m.standby = false → 16 ≤ (s.m.link n).badRun → (s.m.link n).st = .off → (s.m.link n).stGrain.running = false →
    Completes (.alignmentLost n) s fun t =>
      t = { s with m := (((s.m.post 0x5001 n bLink (u8 2)).linkTo n .training).onLink n Link.train) }) ∧
  -- KLINK_LOST of a switching link, R239
  (∀ (s : State) (n : Nat), s.m.fabricOn = true → n < 32 → s.m.standby = false → 50 ≤ (s.m.link n).missRun → (s.m.link n).st = .run →
    Completes (.klinkLost n) s fun t =>
      t = { s with m := (((s.m.post 0x5001 n bLink (u8 4)).linkTo n .localRamp).onLink n fun k => { k.train with rampTicks := some 0, lost := true }) }) ∧
  -- KLINK_LOST of a link in LOCAL_RAMP for another reason, R239
  (∀ (s : State) (n : Nat),
    s.m.fabricOn = true → n < 32 → s.m.standby = false → 50 ≤ (s.m.link n).missRun → (s.m.link n).st = .localRamp →
    (s.m.link n).lost = false →
    Completes (.klinkLost n) s fun t =>
      t = { s with m := ((s.m.post 0x5001 n bLink (u8 7)).onLink n fun k => { k.train with rampTicks := some (k.rampTicks.getD 0), lost := true }) }) ∧
  -- KLINK_LOST of a link that was running as the grain began and is OFF by an event of a lower code, R245
  (∀ (s : State) (n : Nat),
    s.m.fabricOn = true → n < 32 → s.m.standby = false → 50 ≤ (s.m.link n).missRun → (s.m.link n).st = .off → (s.m.link n).stGrain.running = true →
    Completes (.klinkLost n) s fun t =>
      t = { s with m := (((s.m.post 0x5001 n bLink (u8 2)).linkTo n .localRamp).onLink n fun k => { k.train with rampTicks := some 0, lost := true }) }) ∧
  -- KLINK_LOST of a link that is OFF, R239
  (∀ (s : State) (n : Nat),
    s.m.fabricOn = true → n < 32 → s.m.standby = false → 50 ≤ (s.m.link n).missRun → (s.m.link n).st = .off → (s.m.link n).stGrain.running = false →
    Completes (.klinkLost n) s fun t =>
      t = { s with m := (((s.m.post 0x5001 n bLink (u8 2)).linkTo n .training).onLink n Link.train) }) ∧
  -- LOCAL_RAMP_TIMEOUT, R239
  (∀ (s : State) (n u : Nat),
    s.acts → n < 32 → (s.m.link n).rampTicks = some u → 300 ≤ u → (s.m.link n).st = .localRamp → (s.m.link n).missRun ≠ 0 →
    Completes (.localRampTimeout n) s fun t =>
      t = { s with m := ((s.m.onLink n fun k => { k with rampTicks := none }).openSeq n cLinkLost noGidx 0) }) ∧
  -- REG_TIMEOUT, R235
  (∀ (s : State) (n : Nat) (a : RegAcc), s.m.fabricOn = true → n < 32 → s.m.standby = false → (s.m.link n).regAcc = some a → 8 ≤ a.waited →
    Completes (.regTimeout n) s fun t =>
      t = { s with m := ((s.m.post 0x5004 n bLink (leN 2 a.addr)).regNext n) }) ∧
  -- TRIP_REQUEST, R20, R236
  (∀ (s : State) (n : Nat),
    s.m.fabricOn = true → n < 32 → s.m.standby = false → (s.m.link n).st ≠ .dark → (s.m.link n).st ≠ .tripped → 
    (s.m.link n).tripTicks = 0 →
    Completes (.tripRequest n) s fun t =>
      t = { s with m := (((s.m.out (.tripSymbol n)).linkTo n .tripped).onLink n fun k =>
      { k with tripReq := true, tripTicks := 1, tripHeld := true, tripClear := false, fast := {}, trips := stopAt 0xFFFF (k.trips + 1) }) })

/-- A phase shed and armed is disabled after 5 ms. A phase limited for HICCUP_N successive cycles with retries left goes into HICCUP, and to LATCHED with cause 2 when they are used up; after HICCUP_OFF it goes into SOFT with one retry more; after HICCUP_CLR clean its retries are 0. A phase whose open condition held OPEN_N samples latches with cause 1 and is recorded. An active phase whose sensing fails is MIRRORED where two other phases are active, and otherwise latches with cause 3, as it does after 2 s mirrored. A phase whose error stood above FE_PH for its count sets the flag of KLNK_SAT and latches with cause 4. -/
def Obligations.PhaseStates : Prop :=
  -- ARM_TIMER_EXPIRY, R246
  (∀ (s : State) (n p : Nat),
    s.acts → n < 32 → p < 6 → (s.m.phase n p).st = .armed → (s.m.phase n p).armShed = true → 
    (s.m.phase n p).addPending = false → 500 ≤ (s.m.phase n p).armTicks →
    Completes (.armTimerExpiry n p) s fun t =>
      t = { s with m := (s.m.onPhase n p Phase.off) }) ∧
  -- HICCUP_ENTRY with retries left, R246, other phases able
  (∀ (s : State) (n p : Nat),
    s.acts → n < 32 → p < 6 → ((s.m.phase n p).st = .active ∨ (s.m.phase n p).st = .soft) → s.m.parN 0x5031 ≤ (s.m.phase n p).climRun →
    0 < (s.m.phase n p).climRun → (s.m.phase n p).retries < s.m.parN 0x5033 → 2 ≤ s.m.nOk n →
    Completes (.hiccupEntry n p) s fun t =>
      (t.m.phase n p).st = .hiccup ∧ (t.m.phase n p).timer = 0 ∧ (t.m.phase n p).climRun = 0 ∧ (t.m.phase n p).retries = (s.m.phase n p).retries ∧ (t.m.link n).respread = true ∧
      (∀ q, q < 6 → q ≠ p → t.m.phase n q = s.m.phase n q)) ∧
  -- HICCUP_ENTRY with no retry left, R246
  (∀ (s : State) (n p : Nat),
    s.acts → n < 32 → p < 6 → ((s.m.phase n p).st = .active ∨ (s.m.phase n p).st = .soft) → s.m.parN 0x5031 ≤ (s.m.phase n p).climRun →
    0 < (s.m.phase n p).climRun → s.m.parN 0x5033 ≤ (s.m.phase n p).retries →
    Completes (.hiccupEntry n p) s fun t =>
      t = { s with m := (s.m.latchPhase n p 2) }) ∧
  -- HICCUP_TIME_EXPIRY, R246
  (∀ (s : State) (n p : Nat), s.acts → n < 32 → p < 6 → (s.m.phase n p).st = .hiccup → 100 * s.m.parN 0x5032 ≤ (s.m.phase n p).timer →
    Completes (.hiccupTimeExpiry n p) s fun t =>
      t = { s with m := ((s.m.onPhase n p fun x =>
      { x with st := .soft, timer := 0, retries := x.retries + 1, duty := (s.m.link n).dutyFf, iRef := 0 }).onLink n fun k =>
      { k with respread := true }) }) ∧
  -- HICCUP_CLEAR_EXPIRY, R246
  (∀ (s : State) (n p : Nat), s.acts → n < 32 → p < 6 → 0 < (s.m.phase n p).retries → 100000 * s.m.parN 0x5034 ≤ (s.m.phase n p).cleanTicks →
    Completes (.hiccupClearExpiry n p) s fun t =>
      t = { s with m := (s.m.onPhase n p fun x => { x with retries := 0, cleanTicks := 0 }) }) ∧
  -- PHASE_OPEN_DETECT, R249
  (∀ (s : State) (n p : Nat), s.acts → n < 32 → p < 6 → (s.m.phase n p).switching = true → s.m.parN 0x5052 ≤ (s.m.phase n p).openRun →
    Completes (.phaseOpenDetect n p) s fun t =>
      t = { s with m := ((s.m.latchPhase n p 1).post 0x5005 n bLink (u8 p)) }) ∧
  -- PHASE_SENSE_FAIL with two others active, R250
  (∀ (s : State) (n p : Nat),
    s.acts → n < 32 → p < 6 → (s.m.phase n p).st = .active → 25 ≤ (s.m.phase n p).devRun → 
    (2 ≤ ((s.m.acts n).filter fun q => q != p && decide ((s.m.phase n q).st ≠ .mirrored)).length) →
    Completes (.phaseSenseFail n p) s fun t =>
      t = { s with m := (s.m.onPhase n p fun x => { x with st := .mirrored, timer := 0, stuckRun := 0, devRun := 0 }) }) ∧
  -- PHASE_SENSE_FAIL with fewer, R250
  (∀ (s : State) (n p : Nat),
    s.acts → n < 32 → p < 6 → (s.m.phase n p).st = .active → 25 ≤ (s.m.phase n p).devRun → 
    (((s.m.acts n).filter fun q => q != p && decide ((s.m.phase n q).st ≠ .mirrored)).length < 2) →
    Completes (.phaseSenseFail n p) s fun t =>
      t = { s with m := (s.m.latchPhase n p 3) }) ∧
  -- MIRROR_TIMEOUT, R246
  (∀ (s : State) (n p : Nat), s.acts → n < 32 → p < 6 → (s.m.phase n p).st = .mirrored → 200000 ≤ (s.m.phase n p).timer →
    Completes (.mirrorTimeout n p) s fun t =>
      t = { s with m := (s.m.latchPhase n p 3) }) ∧
  -- PHASE_FOLLOW_LATCH, R244
  (∀ (s : State) (n p : Nat), s.acts → n < 32 → p < 6 → (s.m.phase n p).switching = true → s.m.parN 0x5041 ≤ (s.m.phase n p).followRun →
    Completes (.phaseFollowLatch n p) s fun t =>
      t = { s with m := ((s.m.satIf n 9 true).latchPhase n p 4) })

/-- A string error that stood for FE_ST runs sets its flag of KLNK_SAT, starts a soft stop that ends in FAULT, and is kept as the cause. A power error that stood FE_PW grains sets its flag and is recorded with the powers. A soft stop whose string current stood below 1 % for 10 grains ends in OFF, or in FAULT where it was to; one not ended in its time trips the converter. A run of 100 grains below BURST_ENTER puts a RUN link into BURST with no phase but one switching and the other active ones shed; every 10 s the burst phase is chosen anew. A pruning decision three grains old is carried out, and the offsets are spread again. -/
def Obligations.LinkStops : Prop :=
  -- STRING_FOLLOW_STOP, R244
  (∀ (s : State) (n : Nat), s.acts → n < 32 → (s.m.link n).st = .run → s.m.parN 0x5043 ≤ (s.m.link n).followSt →
    Completes (.stringFollowStop n) s fun t =>
      (t.m.link n).st = .softStop ∧ (t.m.link n).stopToFault = true ∧ (t.m.link n).stopMs = s.m.host.ms ∧ (t.m.link n).strFollow = true ∧ (t.m.link n).followSt = 0 ∧
      (t.m.link n).sat = (s.m.link n).sat ||| 0x400#12 ∧ (∀ k, k ≠ n → t.m.link k = s.m.link k) ∧ t.m.conv.phases = s.m.conv.phases ∧ Only [.conv] s t) ∧
  -- POWER_FOLLOW_FLAG, R244
  (∀ (s : State) (n : Nat), s.acts → n < 32 → (s.m.link n).st = .run → s.m.parN 0x5045 ≤ (s.m.link n).followPw →
    Completes (.powerFollowFlag n) s fun t =>
      (t.m.link n).sat = (s.m.link n).sat ||| 0x800#12 ∧ (t.m.link n).followPw = 0 ∧ (t.m.link n).st = .run ∧ Recorded 0x5006 n bLink s.m t.m ∧
      (∀ k, k ≠ n → t.m.link k = s.m.link k) ∧ t.m.conv.phases = s.m.conv.phases ∧ Only [.store, .conv] s t) ∧
  -- SOFT_STOP_COMPLETE, R245
  (∀ (s : State) (n : Nat), s.acts → n < 32 → (s.m.link n).st = .softStop → 10 ≤ (s.m.link n).stopRun →
    Completes (.softStopComplete n) s fun t =>
      t = { s with m := ((s.m.linkTo n (if (s.m.link n).stopToFault then .fault else .off)).onLink n fun x =>
      { x with faultFromTraining := false }) }) ∧
  -- SOFT_STOP_TIMEOUT, R245
  (∀ (s : State) (n : Nat), s.acts → n < 32 → (s.m.link n).st = .softStop → s.m.parN 0x500A ≤ s.m.host.ms - (s.m.link n).stopMs →
    Completes (.softStopTimeout n) s fun t =>
      t = { s with m := ((s.m.latchCause n cConverter noGidx 0).tripRequest n) }) ∧
  -- BURST_ENTRY, R245, R248
  (∀ (s : State) (n b : Nat),
    s.acts → n < 32 → (s.m.link n).st = .run → 100 ≤ (s.m.link n).burstRun → s.m.par 0x5010 ≠ 0 → s.m.burstPick n = some b →
    Completes (.burstEntry n) s fun t =>
      (t.m.link n).st = .burst ∧ (t.m.link n).burstPhase = b ∧ (t.m.link n).burstMs = s.m.host.ms ∧ (t.m.link n).burstSleep = false ∧ (t.m.link n).prune = none ∧
      (∀ p ∈ t.m.acts n, p = b) ∧ (∀ p, p < s.m.nPh n → p ≠ b → (s.m.phase n p).st = .active → (t.m.phase n p).st = .armed ∧ (t.m.phase n p).armShed = true) ∧
      (∀ k, k ≠ n → t.m.link k = s.m.link k) ∧ Only [.conv] s t) ∧
  -- BURST_PHASE_RESELECT, R248
  (∀ (s : State) (n b : Nat), s.acts → n < 32 → (s.m.link n).st = .burst → 10000 ≤ s.m.host.ms - (s.m.link n).burstMs → s.m.burstPick n = some b →
    Completes (.burstPhaseReselect n) s fun t =>
      (t.m.link n).burstPhase = b ∧ (t.m.link n).burstMs = s.m.host.ms ∧ (t.m.link n).st = .burst ∧ (∀ p ∈ t.m.acts n, p = b) ∧ (∀ k, k ≠ n → t.m.link k = s.m.link k) ∧ Only [.conv] s t) ∧
  -- PRUNE_COMMIT of a shed, R247
  (∀ (s : State) (n : Nat) (x : Prune),
    s.acts → n < 32 → (s.m.link n).prune = some x → 3 ≤ (s.m.plan.grainCnt - x.decidedAt).toNat → x.shed = true → 
    (s.m.phase n x.phase).st = .active →
    Completes (.pruneCommit n) s fun t =>
      t = { s with m := (((s.m.onLink n fun k => { k with prune := none }).onPhase n x.phase Phase.shed).spread n) }) ∧
  -- PRUNE_COMMIT of an add, R247
  (∀ (s : State) (n : Nat) (x : Prune),
    s.acts → n < 32 → (s.m.link n).prune = some x → 3 ≤ (s.m.plan.grainCnt - x.decidedAt).toNat → x.shed = false → 
    ((s.m.phase n x.phase).st = .disabled ∨ (s.m.phase n x.phase).st = .armed) →
    Completes (.pruneCommit n) s fun t =>
      t = { s with m := (((s.m.onLink n fun k => { k with prune := none }).onPhase n x.phase Phase.arm).spread n) })

/-- A lease whose grain is reached ends as an expired one. The demand source, bad as long as its limit, is faulted and recorded, and recovers after it was good for SRC_GOOD. A string's rest window ends with an anchor applied in it or at its longest, and leaves the string free; a rest request not granted in its time is noted denied, and recorded once. The service requests done for each string they name complete: their notices go out and they wait no more. -/
def Obligations.DispatchTimers : Prop :=
  -- LEASE_EXPIRY, R260, R263
  (∀ (s : State), s.acts → s.m.disp.owner.isSome = true → (s.m.plan.grainCnt - s.m.disp.exp).toNat < 2 ^ 31 →
    Completes (.leaseExpiry) s fun t =>
      t = { s with m := (s.m.leaseEnd) }) ∧
  -- SOURCE_FAULT, R269
  (∀ (s : State), s.acts → s.m.disp.src ≠ 0 → s.m.disp.srcFault = false → 0 < s.m.disp.srcBad → s.m.srcLimit ≤ s.m.disp.srcBad →
    Completes (.sourceFault) s fun t =>
      t = { s with m := ((s.m.onDisp fun d => { d with srcFault := true }).post 0x6004 0xFF bFabric (u8 s.m.disp.src ++ u8 1)) }) ∧
  -- SOURCE_RECOVER, R269
  (∀ (s : State), s.acts → s.m.disp.srcFault = true → 0 < s.m.disp.srcGood → s.m.parN 0x6018 ≤ s.m.disp.srcGood →
    Completes (.sourceRecover) s fun t =>
      t = { s with m := ((s.m.onDisp fun d => { d with srcFault := false }).post 0x6004 0xFF bFabric (u8 s.m.disp.src ++ u8 0)) }) ∧
  -- REST_WINDOW_END with an anchor applied in the window, R291
  (∀ (s : State) (n k : Nat) (g : W32), s.acts → n < 32 → (s.m.strDisp n).restGrains = some k → (s.m.strDisp n).rest = true →
    (s.m.strEst n).anchorApplied = some g → (s.m.plan.grainCnt - g).toNat ≤ k →
    Completes (.restWindowEnd n) s fun t =>
      t = { s with m := (s.m.onStrDisp n fun x => { x with rest := false, restGrains := none }) }) ∧
  -- REST_WINDOW_END at its longest, R291
  (∀ (s : State) (n k : Nat), s.acts → n < 32 → (s.m.strDisp n).restGrains = some k → (s.m.strDisp n).rest = true → 1000 * s.m.parN 0x6201 ≤ k →
    Completes (.restWindowEnd n) s fun t =>
      t = { s with m := (s.m.onStrDisp n fun x => { x with rest := false, restGrains := none }) }) ∧
  -- REST_PEND_EXPIRY, R292
  (∀ (s : State) (n : Nat),
    s.acts → n < 32 → (s.m.strEst n).restReq = true → (s.m.strEst n).restDenied = false → (s.m.strEst n).restGranted = false →
    1000 * s.m.parN 0x6204 ≤ (s.m.strEst n).restReqAge + (s.m.host.ms - (s.m.strEst n).restReqMs) → (s.m.strEst n).restRefused = false →
    Completes (.restPendExpiry n) s fun t =>
      t = { s with m := ((s.m.onStrEst n fun s => { s with restDenied := true, restRefused := true }).post 0x4007 n bFabric (u8 1)) }) ∧
  -- REST_PEND_EXPIRY of a request whose refusal is recorded already, R205
  (∀ (s : State) (n : Nat),
    s.acts → n < 32 → (s.m.strEst n).restReq = true → (s.m.strEst n).restDenied = false → (s.m.strEst n).restGranted = false →
    1000 * s.m.parN 0x6204 ≤ (s.m.strEst n).restReqAge + (s.m.host.ms - (s.m.strEst n).restReqMs) → (s.m.strEst n).restRefused = true →
    Completes (.restPendExpiry n) s fun t =>
      t = { s with m := (s.m.onStrEst n fun s => { s with restDenied := true, restRefused := true }) }) ∧
  -- SERVICE_COMPLETE, R288: one request is done, for every string it names
  (∀ (s : State) (j : SvcJob), s.acts → s.m.disp.jobs = [j] → j.done ||| j.failed = j.named →
    Completes (.serviceComplete) s fun t =>
      t = { s with m := ((s.m.onDisp fun d =>
      { d with jobs := [] }).complete ⟨j.session, 0x0216, j.seq.toNat⟩ (if j.failed = 0 then 0 else 0x8007) [⟨0x54, leN 4 j.done.toNat ++ leN 4 j.failed.toNat⟩]) })

/-- A change at a channel of an input with a safety function, or of an optical input with one, is taken, and the safety functions are evaluated; with no function it is only taken. A reset button pressed notes the time. A channel disagreement as long as its limit is a fault, recorded with its age, and ends the clearing sequence. A test-pulse gap is judged once in its grain, a source that does not read back is a fault of its own, recorded when new. A reset button released after more than 5 s gives a rejected reset, after 100 ms to 5 s a reset, and at a channel with a fault none. The two-hand arming that lasts too long is blocked. The partner's back-plane trip holds until a reset, and is recorded as a demand. -/
def Obligations.SafetyInputs : Prop :=
  -- SAFE_INPUT_CHANGE of a safety function, R329
  (∀ (s : State) (i : Nat) (second level : Bool), s.m.powered = true → i < 16 → 1 ≤ s.m.siFunc i → s.m.siFunc i ≤ 5 →
    Completes (.safeInputChange false i second level) s fun t =>
      t.m = (s.m.onSi i fun x => if second then { x with b := level } else { x with a := level }).evalSafety ∧ Only [.plan, .store, .conv, .prot, .safety, .pair, .sent] s t) ∧
  -- SAFE_INPUT_CHANGE of an input with no function, R329
  (∀ (s : State) (i : Nat) (second level : Bool), s.m.powered = true → i < 16 → s.m.siFunc i = 0 →
    Completes (.safeInputChange false i second level) s fun t =>
      t = { s with m := (s.m.onSi i fun x => if second then { x with b := level } else { x with a := level }) }) ∧
  -- SAFE_INPUT_CHANGE of a reset button pressed, R339
  (∀ (s : State) (i : Nat), s.m.powered = true → i < 16 → s.m.siFunc i = 6 → s.m.faultA i = false →
    Completes (.safeInputChange false i false true) s fun t =>
      t = { s with m := ((s.m.onSi i fun x => { x with a := true }).onSi i fun x => { x with pressAt := some s.m.safety.ms }).evalSafety }) ∧
  -- SAFE_INPUT_CHANGE of an optical input with a function, R329
  (∀ (s : State) (i : Nat) (second level : Bool), s.m.powered = true → i < 4 → s.m.oiFunc i ≠ 0 →
    Completes (.safeInputChange true i second level) s fun t =>
      t = { s with m := (s.m.onOi i fun x => if second then { x with b := level } else { x with a := level }).evalSafety }) ∧
  -- SAFE_INPUT_CHANGE of an optical input without, R329
  (∀ (s : State) (i : Nat) (second level : Bool), s.m.powered = true → i < 4 → s.m.oiFunc i = 0 →
    Completes (.safeInputChange true i second level) s fun t =>
      t = { s with m := (s.m.onOi i fun x => if second then { x with b := level } else { x with a := level }) }) ∧
  -- DISCREPANCY_TIMEOUT, R330, R338
  (∀ (s : State) (i d : Nat),
    s.m.powered = true → i < 16 → 1 ≤ s.m.siFunc i → s.m.siFunc i ≤ 5 → (s.m.si i).discMs = some d → s.m.parN (0x8020 + i) ≤ d →
    (s.m.si i).discFault = false →
    Completes (.discrepancyTimeout false i) s fun t =>
      t = { s with m := (((s.m.onSi i fun x =>
      { x with discFault := true, clrSeq := 0, faultGrain := s.m.plan.grainCnt }).post 0x8002 i bSafety (u8 0 ++ [0] ++ leN 2 d)).evalCauses) }) ∧
  -- TEST_PULSE_GAP of a source that does not read back, R332, R620
  (∀ (s : State) (missing : List Nat),
    s.m.powered = true → s.m.plan.grainCnt.toNat % 10 = 5 → s.m.safety.gapTp1 ≠ some s.m.plan.grainCnt → 
    s.m.safety.tpFault.getLsbD 1 = false →
    Completes (.testPulseGap 1 false missing) s fun t =>
      t = { s with m := (((s.m.onSafety fun x =>
      { x with gapTp1 := some s.m.plan.grainCnt, tpGood := x.tpGood &&& 1#2, tpFault := x.tpFault ||| 2#2 }).post 0x8004 1 bSafety []).evalSafety) }) ∧
  -- TEST_PULSE_GAP that finds source 0 good, its inputs judged, R332, R620
  (∀ (s : State) (missing : List Nat), s.m.powered = true → s.m.plan.grainCnt.toNat % 10 = 0 → s.m.safety.gapTp0 ≠ some s.m.plan.grainCnt →
    Completes (.testPulseGap 0 true missing) s fun t =>
      t = { s with m := (((s.m.onSafety fun x =>
      { x with gapTp0 := some s.m.plan.grainCnt, tpGood := x.tpGood ||| 1#2 }).each ((List.range 16).filter fun i => decide (1 ≤ s.m.siFunc i ∧ s.m.siFunc i ≤ 6)) fun m i => m.gapJudge i 0 (missing.contains i)).evalSafety) }) ∧
  -- RESET_INPUT_RELEASE after a press of 100 ms to 5 s, R339
  (∀ (s : State) (i u : Nat),
    s.m.powered = true → i < 16 → s.m.siFunc i = 6 → (s.m.si i).a = true → (s.m.si i).pressAt = some u → 
    s.m.faultA i = false → 100 ≤ s.m.safety.ms - u → s.m.safety.ms - u ≤ 5000 → s.m.resetSrc 0 = true →
    Completes (.resetInputRelease i) s fun t =>
      t.m = ((s.m.onSi i fun x => { x with a := false }).onSi i fun x => { x with pressAt := none }).giveReset 0 ∧
      (t.m.si i).a = false ∧ (t.m.si i).pressAt = none ∧ Only [.plan, .store, .conv, .prot, .safety, .pair, .sent] s t) ∧
  -- RESET_INPUT_RELEASE after more than 5 s, R339
  (∀ (s : State) (i u : Nat),
    s.m.powered = true → i < 16 → s.m.siFunc i = 6 → (s.m.si i).a = true → (s.m.si i).pressAt = some u → 
    s.m.faultA i = false → 5000 < s.m.safety.ms - u →
    Completes (.resetInputRelease i) s fun t =>
      t = { s with m := (((s.m.onSi i fun x => { x with a := false }).onSi i fun x =>
      { x with pressAt := none }).post 0x8009 0xFF bSafety (u8 0 ++ u8 3)) }) ∧
  -- RESET_INPUT_RELEASE at a channel with a fault, which is treated as open, R332
  (∀ (s : State) (i u : Nat),
    s.m.powered = true → i < 16 → s.m.siFunc i = 6 → (s.m.si i).a = true → (s.m.si i).pressAt = some u → s.m.faultA i = true →
    Completes (.resetInputRelease i) s fun t =>
      t = { s with m := ((s.m.onSi i fun x => { x with a := false }).onSi i fun x => { x with pressAt := none }) }) ∧
  -- TWO_HAND_SYNC_EXPIRY, R337
  (∀ (s : State), s.m.powered = true → s.m.safety.twoHand = .arming → s.m.parN 0x809B ≤ s.m.safety.ms - s.m.safety.armAt →
    Completes (.twoHandSyncExpiry) s fun t =>
      t = { s with m := (s.m.onSafety fun s => { s with twoHand := .blocked }) }) ∧
  -- PARTNER_BP_TRIP asserted, R341
  (∀ (s : State), s.m.powered = true → s.m.paired = true → s.m.safety.bpIn = false →
    Completes (.partnerBpTrip true) s fun t =>
      t = { s with m := (((s.m.recordDemand 0xFF 4 0 0xFFFFFFFF).onSafety fun s => { s with bpIn := true, bpHold := true }).evalSafety) }) ∧
  -- PARTNER_BP_TRIP released, R341
  (∀ (s : State), s.m.powered = true → s.m.paired = true →
    Completes (.partnerBpTrip false) s fun t =>
      t = { s with m := ((s.m.onSafety fun s => { s with bpIn := false }).evalSafety) })

/-- A feedback judged after its time: on closing, a closed or absent feedback completes the closing, an open one switches off with a fault; on opening, a feedback still closed is a welded contactor and a fault, an open one completes the opening. A feedback change is taken at the channel that the parameter names. The high side follows the low side by 1 ms, unless a cause holds a member, the supply is low or the output is no longer permitted, and then all is off. An off-pulse test that is due at an output that is on drives the pulse of the side whose turn it is; in the millisecond of the switching, and with the supply low, its turn passes without a pulse; a side that misses two pulses running is a fault. -/
def Obligations.SafetyOutputs : Prop :=
  -- CONT_FB_TIMEOUT of an opening with the feedback open, R310, R311
  (∀ (s : State) (g u : Nat),
    s.m.powered = true → g < 8 → (s.m.group g).switchedAt = some u → u + s.m.parN 0x7001 ≤ s.m.safety.ms → 
    (s.m.group g).closingJudge = false → s.m.fbClosed g = false →
    Completes (.contFbTimeout g) s fun t =>
      t = { s with m := (s.m.onGroup g fun x => { x with st := .opened, switchedAt := none }) }) ∧
  -- CONT_FB_TIMEOUT of an opening with the feedback still closed, R310, R311
  (∀ (s : State) (g u : Nat),
    s.m.powered = true → g < 8 → (s.m.group g).switchedAt = some u → u + s.m.parN 0x7001 ≤ s.m.safety.ms → 
    (s.m.group g).closingJudge = false → s.m.fbClosed g = true →
    Completes (.contFbTimeout g) s fun t =>
      t = { s with m := (((s.m.onGroup g fun x => { x with st := .welded, switchedAt := none }).post 0x7021 g bSafety []).contFault g) }) ∧
  -- CONT_FB_TIMEOUT of a closing with the feedback open, R310, R311
  (∀ (s : State) (g u : Nat),
    s.m.powered = true → g < 8 → (s.m.group g).switchedAt = some u → u + s.m.parN 0x7001 ≤ s.m.safety.ms → 
    (s.m.group g).closingJudge = true → (s.m.feedbackOf g).isSome = true → s.m.fbClosed g = false →
    Completes (.contFbTimeout g) s fun t =>
      t = { s with m := (((s.m.switchOff g).post 0x7023 g bSafety []).contFault g) }) ∧
  -- CONTACTOR_FEEDBACK_CHANGE, R311
  (∀ (s : State) (g i : Nat) (b closed : Bool), s.m.powered = true → g < 8 → s.m.feedbackOf g = some (i, b) →
    Completes (.contactorFeedbackChange g closed) s fun t =>
      t.m = (s.m.onSi i fun x => if b then { x with b := closed } else { x with a := closed }).each ((List.range 8).filter fun k => s.m.feedbackOf k == some (i, b)) (fun m k => m.groupFeedback k closed) ∧
      (if b then (t.m.si i).b = closed else (t.m.si i).a = closed) ∧ Only [.store, .conv, .prot, .safety, .sent] s t) ∧
  -- SQ_HIGH_SIDE_ON of an output permitted, R336, R342, R622
  (∀ (s : State) (g u : Nat),
    s.m.powered = true → g < 8 → (s.m.sq g).lowAt = some u → u + 1 ≤ s.m.safety.ms → s.m.outputPermits g = true →
    ((s.m.sq g).maint = false ∨ s.m.safety.twoHand = .active) → s.m.fbClosed g = false →
    Completes (.sqHighSideOn g) s fun t =>
      t = { s with m := ((s.m.onSq g fun o =>
      { o with
        on := true, lowAt := none, switchMs := some s.m.safety.ms, switchings := o.switchings + 1, nextLow := true
        pulseAt := s.m.safety.ms + s.m.parN 0x8098 / 2, lowMs := 0 }).onGroup g fun x =>
      { x with switchedAt := some s.m.safety.ms, closingJudge := true }) }) ∧
  -- SQ_HIGH_SIDE_ON with a cause held, the supply low or the output not permitted, R336, R342, R348, R622
  (∀ (s : State) (g u : Nat),
    s.m.powered = true → g < 8 → (s.m.sq g).lowAt = some u → u + 1 ≤ s.m.safety.ms → 
    ((∃ n ∈ s.m.members g, s.m.held n = true) ∨ s.m.safety.fieldLow.getLsbD (g / 4) = true ∨
      (((s.m.sq g).maint = false ∨ s.m.safety.twoHand = .active) ∧ s.m.outputPermits g = false)) →
    Completes (.sqHighSideOn g) s fun t =>
      t.m = s.m.switchOff g ∧ (t.m.sq g).on = false ∧ (t.m.sq g).lowAt = none) ∧
  -- OFF_PULSE_TEST, R343, R622
  (∀ (s : State) (g : Nat),
    s.m.powered = true → g < 8 → (s.m.sq g).on = true → (s.m.sq g).pulsing = none →
    (s.m.standby = true ∨ (s.m.sq g).pulseAt ≤ s.m.safety.ms) → (s.m.sq g).switchMs ≠ some s.m.safety.ms →
    s.m.safety.fieldLow.getLsbD (g / 4) = false →
    Completes (.offPulseTest g) s fun t =>
      t = { s with m := ((s.m.onSq g fun o =>
      { o.nextPulse (s.m.parN 0x8098) with pulsing := some (!o.nextLow) }).out (.offPulse g (!(s.m.sq g).nextLow))) }) ∧
  -- OFF_PULSE_TEST in the millisecond of the switching or with the supply low, R343, R622
  (∀ (s : State) (g : Nat),
    s.m.powered = true → g < 8 → (s.m.sq g).on = true → (s.m.sq g).pulsing = none →
    (s.m.standby = true ∨ (s.m.sq g).pulseAt ≤ s.m.safety.ms) →
    ((s.m.sq g).switchMs = some s.m.safety.ms ∨ s.m.safety.fieldLow.getLsbD (g / 4) = true) →
    Completes (.offPulseTest g) s fun t =>
      t = { s with m := (s.m.onSq g fun o => o.nextPulse (s.m.parN 0x8098)) }) ∧
  -- OFF_PULSE_END of a pulse passed, R343, R345
  (∀ (s : State) (g : Nat) (high : Bool) (x : PulseMeas),
    s.m.powered = true → g < 8 → (s.m.sq g).pulsing = some high → x.passes high (s.m.sq g).vField = true →
    Completes (.offPulseEnd g x) s fun t =>
      (t.m.sq g).pulsing = none ∧ (t.m.sq g).passed = (s.m.sq g).passed + 1 ∧ (t.m.sq g).failed = (s.m.sq g).failed ∧
      (if high then (t.m.sq g).hsFails = 0 ∧ (t.m.sq g).hsGood = true ∧ (t.m.sq g).lsFails = (s.m.sq g).lsFails else (t.m.sq g).lsFails = 0 ∧ (t.m.sq g).lsGood = true ∧ (t.m.sq g).hsFails = (s.m.sq g).hsFails) ∧
      (t.m.sq g).hsFault = (s.m.sq g).hsFault ∧ (t.m.sq g).lsFault = (s.m.sq g).lsFault ∧ (∀ k, k ≠ g → t.m.sq k = s.m.sq k) ∧ Only [.safety] s t) ∧
  -- OFF_PULSE_END of the second pulse missed running of the high side, R343, R345
  (∀ (s : State) (g : Nat) (x : PulseMeas),
    s.m.powered = true → g < 8 → (s.m.sq g).pulsing = some true → x.passes true (s.m.sq g).vField = false →
    1 ≤ (s.m.sq g).hsFails → (s.m.sq g).hsFault = false → (s.m.sq g).lsFault = false →
    Completes (.offPulseEnd g x) s fun t =>
      t = { s with m := (((s.m.onSq g fun o =>
      { o with pulsing := none, failed := o.failed + 1, hsFails := o.hsFails + 1, hsGood := false, hsFault := true, faultGrain := s.m.plan.grainCnt }).post 0x8005 g bSafety (u8 0)).evalCauses) })

/-- Each safety cycle advances the safety time by 1 ms, and puts the configuration that was committed before it in force. A Cloche message is sent at its interval, the first at once, with the next sequence number, never 0, and the echo of the last received. A good message of the connection in its window is taken: its sequence, its time and its data are the connection's last; another is discarded and counted; one of the plant connection at another UDP port, or from a source its network's filter drops, changes nothing. A running connection silent for longer than its watchdog fails. Fallow that expires is marked and recorded and makes a safe stop of its scope. A staged configuration not committed in 60 s is dropped. A group whose opening delay is over is switched off. An output that was on below 20 mA for 100 ms is an open load, recorded once. A field supply under 19.2 V marks its four outputs' supply low, and is recorded. -/
def Obligations.SafetyCycles : Prop :=
  -- SAFETY_CYCLE, R325
  (∀ (s : State) (meas : List SqMeas), s.m.powered = true →
    Completes (.safetyCycle meas) s fun t =>
      t.m.safety.ms = s.m.safety.ms + 1 ∧ t.m.safety.commitCfg = none ∧ t.m.safety.cfg = s.m.safety.commitCfg.getD s.m.safety.cfg ∧
      Only [.plan, .host, .store, .power, .chain, .conv, .prot, .safety, .pair, .time, .can, .upd, .sent] s t) ∧
  -- CLOCHE_SEND, R354
  (∀ (s : State) (graft : Bool), s.m.powered = true → (s.m.cloche graft).st ≠ .off →
    ((s.m.cloche graft).txSeq = 0 ∨ (s.m.cloche graft).sentMs + s.m.parN 0x80A3 ≤ s.m.safety.ms) →
    Completes (.clocheSend graft) s fun t =>
      t = { s with m := ((s.m.onCloche graft fun c =>
      { c with txSeq := seqNext c.txSeq, sentMs := s.m.safety.ms }).out (.cloche graft (ClocheFrame.bytes { conn := s.m.connTx graft, seq := seqNext (s.m.cloche graft).txSeq, echo := (s.m.cloche graft).rxSeq, flags := BitVec.ofNat 8 (2 * b2n (decide ((s.m.cloche graft).st = .opening))), data := s.m.clocheData }))) }) ∧
  -- CLOCHE_FRAME_RECEIVE of the graft connection, in order, R355, R339
  (∀ (s : State) (src : NetSrc) (port : Nat) (b : List Byte) (f : ClocheFrame),
    s.m.powered = true → src.net < 2 → (s.m.cloche true).st = .run → clocheOf b = some f → f.conn = s.m.connRx true → f.seq ≠ 0 → 
    1 ≤ seqDist (s.m.cloche true).rxSeq f.seq → seqDist (s.m.cloche true).rxSeq f.seq ≤ 8 →
    Completes (.clocheFrameReceive true src b port) s fun t =>
      t.m = (s.m.clocheAccept true src.net f).evalSafety ∧ Only [.plan, .store, .conv, .prot, .safety, .pair, .sent] s t) ∧
  -- CLOCHE_FRAME_RECEIVE out of the window or damaged, R353, R355
  (∀ (s : State) (src : NetSrc) (port : Nat) (b : List Byte),
    s.m.powered = true → src.net < 2 → (s.m.cloche true).st = .run →
    (∀ f ∈ clocheOf b, f.conn ≠ s.m.connRx true ∨ f.seq = 0 ∨ seqDist (s.m.cloche true).rxSeq f.seq = 0 ∨ 8 < seqDist (s.m.cloche true).rxSeq f.seq) →
    Completes (.clocheFrameReceive true src b port) s fun t =>
      t = { s with m := (s.m.onCloche true fun c => { c with discards := stopAt 0xFFFF (c.discards + 1) }) }) ∧
  -- CLOCHE_FRAME_RECEIVE of the plant connection at another UDP port, or from a source the filter drops, R407, R468
  (∀ (s : State) (src : NetSrc) (port : Nat) (b : List Byte), s.m.powered = true → (port ≠ 50233 ∨ s.m.netAllows src.net src.addr = false) →
    Completes (.clocheFrameReceive false src b port) s fun t => Unchanged s t) ∧
  -- CLOCHE_WATCHDOG_EXPIRY, R356
  (∀ (s : State) (graft : Bool), s.m.powered = true → s.m.parN 0x80A4 < s.m.safety.ms - (s.m.cloche graft).lastMs → (s.m.cloche graft).st = .run →
    Completes (.clocheWatchdogExpiry graft) s fun t =>
      t = { s with m := ((s.m.clocheFail graft 0).evalSafety) }) ∧
  -- FALLOW_EXPIRY of one string, R351
  (∀ (s : State) (f : FallowScope),
    s.m.powered = true → s.m.safety.fallow = [f] → f.mod = false → f.string < 32 → f.expires ≤ s.m.safety.ms → 
    s.m.safety.expiredScope f = false →
    Completes (.fallowExpiry) s fun t =>
      t = { s with m := ((((s.m.onSafety fun x =>
      { x with fallowExp := x.fallowExp ||| BitVec.ofNat 32 (2 ^ f.string) }).post 0x8007 0xFF bSafety (u8 0 ++ [0, 0, 0] ++ leN 4 (2 ^ f.string))).safeStop .fallow false (2 ^ f.string)).evalSafety) }) ∧
  -- SAFE_STAGE_EXPIRY, R326
  (∀ (s : State), s.m.powered = true → s.m.safety.staged.isSome = true → 60000 ≤ s.m.safety.ms - s.m.safety.stagedMs →
    Completes (.safeStageExpiry) s fun t =>
      t = { s with m := (s.m.onSafety fun s => { s with staged := none }) }) ∧
  -- OPEN_LOAD_TIMEOUT, R344
  (∀ (s : State) (g : Nat), s.m.powered = true → g < 8 → (s.m.sq g).on = true → 100 ≤ (s.m.sq g).lowMs → (s.m.sq g).openLoad = false →
    Completes (.openLoadTimeout g) s fun t =>
      t = { s with m := ((s.m.onSq g fun o => { o with openLoad := true }).post 0x8005 g bSafety (u8 4)) }) ∧
  -- CONT_DELAY_EXPIRY, R308
  (∀ (s : State) (g u : Nat), s.m.powered = true → g < 8 → (s.m.group g).openAt = some u → u + s.m.parN 0x7000 ≤ s.m.safety.ms →
    Completes (.contDelayExpiry g) s fun t =>
      t = { s with m := (s.m.switchOff g) }) ∧
  -- FIELD_SUPPLY_CHANGE below 19.2 V, R622
  (∀ (s : State) (k mv : Nat), s.m.powered = true → k < 2 → mv < 19200 → s.m.safety.fieldLow.getLsbD k = false →
    Completes (.fieldSupplyChange k mv) s fun t =>
      t.m.safety.fieldLow = s.m.safety.fieldLow ||| BitVec.ofNat 2 (2 ^ k) ∧ (∀ i, i < 4 → (t.m.sq (4 * k + i)).vField = mv) ∧
      (∀ g, g / 4 ≠ k → t.m.sq g = s.m.sq g) ∧ Recorded 0x800B k bSafety s.m t.m ∧ Only [.store, .safety] s t)

/-- A bad sensor as old as its hold starts the opening sequence once, with the cause SENSOR_HOLD. Derating takes a step more after 10 s in its band, but none above 8, a step less after 60 s in the restore band, but none below 0, and holds between and until then. An over-current comparator that sets keeps the peak and the grain, sets its bit and its latch, counts, and requests the trip, in a standby, whose plan has the latch from its replay record, only its bit and the trip of its own converter port; when it clears only its bit goes. A thermal request of a configured zone, a period after the one before, is given to the transmit object 248 plus the zone of the CAN port: its mode, a demand of at most 100 %, the highest and the lowest good temperature, its sequence number, which counts on, and its flags; before the period is over nothing is sent. -/
def Obligations.ProtectionTimers : Prop :=
  -- SENSOR_BAD_HOLD_EXPIRY, R301
  (∀ (s : State) (n : Nat),
    s.acts → n < 32 → s.m.configured n = true → s.m.anyBad n = true → (s.m.strProt n).sensorHoldDone = false → 
    1000 * s.m.parN 0x7005 ≤ (s.m.strProt n).sensorBadAge →
    Completes (.sensorBadHoldExpiry n) s fun t =>
      t = { s with m := ((s.m.onStrProt n fun p => { p with sensorHoldDone := true }).openSeq n cSensorHold noGidx 0) }) ∧
  -- DERATE_STEP_TIMER in the derating band, R302
  (∀ (s : State) (n : Nat), s.acts → n < 32 → (s.m.strProt n).band = .derate → 10000 ≤ (s.m.strProt n).bandGrains → (s.m.strProt n).step < 8 →
    Completes (.derateStepTimer n) s fun t =>
      t = { s with m := (s.m.onStrProt n fun p => { p with step := p.step + 1, bandGrains := 0 }) }) ∧
  -- DERATE_STEP_TIMER in the restore band, R302
  (∀ (s : State) (n : Nat), s.acts → n < 32 → (s.m.strProt n).band = .restore → 60000 ≤ (s.m.strProt n).bandGrains → 0 < (s.m.strProt n).step →
    Completes (.derateStepTimer n) s fun t =>
      (t.m.strProt n).step = (s.m.strProt n).step - 1 ∧ (t.m.strProt n).bandGrains = 0 ∧ (t.m.strProt n).band = .restore ∧
      (∀ k, k ≠ n → t.m.strProt k = s.m.strProt k) ∧ Only [.prot] s t) ∧
  -- DERATE_STEP_TIMER in the hold band, before the time, or with no step left to take, R302
  (∀ (s : State) (n : Nat),
    s.acts → n < 32 →
    ((s.m.strProt n).band = .hold ∨ ((s.m.strProt n).band = .derate ∧ (8 ≤ (s.m.strProt n).step ∨ (s.m.strProt n).bandGrains < 10000)) ∨
      ((s.m.strProt n).band = .restore ∧ ((s.m.strProt n).step = 0 ∨ (s.m.strProt n).bandGrains < 60000))) →
    Completes (.derateStepTimer n) s fun t =>
      (∀ k, t.m.strProt k = s.m.strProt k) ∧ Only [.prot] s t) ∧
  -- OC_COMPARATOR_EVENT that sets, R305
  (∀ (s : State) (n : Nat) (above : Bool), s.m.fabricOn = true → n < 32 → s.m.standby = false →
    Completes (.ocComparatorEvent n above true) s fun t =>
      t = { s with m := ((s.m.onStrAdc n fun a => if above
      then { a with ocGrain := some s.m.plan.grainCnt, ocPeak := a.peakNow, cmpEvents := (a.cmpEvents + 1) % 2 ^ 32, ocNowDis := true, ocLatchDis := true }
      else { a with ocGrain := some s.m.plan.grainCnt, ocPeak := a.peakNow, cmpEvents := (a.cmpEvents + 1) % 2 ^ 32, ocNowChg := true, ocLatchChg := true }).tripRequest n) }) ∧
  -- OC_COMPARATOR_EVENT that sets in a standby, R305
  (∀ (s : State) (n : Nat) (above : Bool), s.m.fabricOn = true → n < 32 → s.m.standby = true →
    Completes (.ocComparatorEvent n above true) s fun t =>
      t = { s with m := ((s.m.onStrAdc n fun a => if above
      then { a with ocGrain := some s.m.plan.grainCnt, ocPeak := a.peakNow, cmpEvents := (a.cmpEvents + 1) % 2 ^ 32, ocNowDis := true }
      else { a with ocGrain := some s.m.plan.grainCnt, ocPeak := a.peakNow, cmpEvents := (a.cmpEvents + 1) % 2 ^ 32, ocNowChg := true }).portTrip n) }) ∧
  -- OC_COMPARATOR_EVENT that clears, R305
  (∀ (s : State) (n : Nat) (above : Bool), s.m.fabricOn = true → n < 32 →
    Completes (.ocComparatorEvent n above false) s fun t =>
      t = { s with m := (s.m.onStrAdc n fun a => if above then { a with ocNowDis := false } else { a with ocNowChg := false }) }) ∧
  -- HVAC_REQUEST, R318
  (∀ (s : State) (z : Nat),
    s.m.supRuns = true → s.m.paired = false → s.m.power.state = .running → z < 8 → s.m.parN 0x7010 ≤ 3 → 
    s.m.zoneStrings z ≠ [] → (∀ u ∈ (s.m.zone z).sentMs, u + s.m.parN 0x7012 ≤ s.m.host.ms) →
    Completes (.hvacRequest z) s fun t =>
      (∃ (demand flags : Nat) (cool heat : Bool), demand ≤ 100 ∧ flags < 32 ∧
        t.m = (s.m.onZone z fun y =>
          { y with cool := cool, heat := heat, seq := (y.seq + 1) % 256, sentMs := some s.m.host.ms }).canData (s.m.parN 0x7010) (248 + z)
            (u8 (if s.m.zoneTs z = [] then 3 else if cool then 1 else if heat then 2 else 0) ++ u8 demand ++
              leI 2 ((s.m.zoneTs z).foldl max ((s.m.zoneTs z).headD 0)) ++ leI 2 ((s.m.zoneTs z).foldl min ((s.m.zoneTs z).headD 0)) ++
              u8 (s.m.zone z).seq ++ u8 flags)) ∧
      (t.m.zone z).seq = ((s.m.zone z).seq + 1) % 256 ∧ (∀ k, k ≠ z → t.m.zone k = s.m.zone k) ∧ Only [.prot, .pair, .can, .sent] s t) ∧
  -- HVAC_REQUEST before the period is over, R318
  (∀ (s : State) (z u : Nat), s.m.supRuns = true → (s.m.zone z).sentMs = some u → s.m.host.ms < u + s.m.parN 0x7012 →
    Completes (.hvacRequest z) s fun t => Unchanged s t)

/-- The role point enables the role driver, and with the partner's line asserted the module stands by. A module that waited its time at a free line asserts its role. Both roles asserted within 20 us withdraw the even slot's; a line asserted after its role point makes a module without role a standby. A partner absent for its time leaves single operation with the graft connection closed and its demands gone; a partner present opens it. A standby that joins a running pair takes the steps that are done. A failed resynchronisation is due again after its wait. A lane change sets or clears its bit, and without lanes the lock is lost and the partner down. -/
def Obligations.PairRoles : Prop :=
  -- ROLE_POINT with the partner's line released, R374
  (∀ (s : State),
    s.m.fabricOn = true → s.m.paired = true → s.m.pair.rolePoint = none → s.m.plan.mode ≠ .stopped → 
    s.m.anySelfFault = false → s.m.power.state ≠ .parked → s.m.pair.partnerRole = false →
    Completes (.rolePoint) s fun t =>
      t = { s with m := (s.m.onPair fun p => { p with rolePoint := some s.m.host.ms, driverEnabled := true }) }) ∧
  -- ROLE_POINT with the partner's line asserted, R374
  (∀ (s : State),
    s.m.fabricOn = true → s.m.paired = true → s.m.pair.rolePoint = none → s.m.plan.mode ≠ .stopped → 
    s.m.anySelfFault = false → s.m.power.state ≠ .parked → s.m.pair.partnerRole = true →
    Completes (.rolePoint) s fun t =>
      t.m = (s.m.onPair fun p => { p with rolePoint := some s.m.host.ms, driverEnabled := true }).toStandby .lanes ∧
      t.m.pair.role = false ∧ t.m.pair.join = some .lanes ∧ Only [.pair, .can] s t) ∧
  -- PAIR_FORM_WAIT_EXPIRY, R374
  (∀ (s : State) (u : Nat),
    s.m.fabricOn = true → s.m.paired = true → s.m.pair.rolePoint = some u → s.m.pair.role = false → s.m.pair.join = none → 
    s.m.pair.driverEnabled = true → s.m.anySelfFault = false → s.m.pair.partnerRole = false → 10 ≤ s.m.pair.releasedUs → 
    s.m.parN 0x9001 + (if s.m.preferred then 0 else 200) ≤ s.m.host.ms - u →
    Completes (.pairFormWaitExpiry) s fun t =>
      t = { s with m := (s.m.onPair fun p => { p with role := true, roleUs := 0, join := none }) }) ∧
  -- ROLE_LINE_CHANGE: asserted within 20 us of this module's own, in the even slot, R372, R374
  (∀ (s : State), s.m.powered = true → s.m.paired = true → s.m.pair.role = true → s.m.oddSlot = false → s.m.pair.roleUs ≤ 20 →
    Completes (.roleLineChange true) s fun t =>
      t.m = (s.m.onPair fun p => { p with partnerRole := true, releasedUs := 0 }).toStandby .lanes ∧ t.m.pair.role = false ∧ t.m.pair.partnerRole = true ∧ Only [.pair, .can] s t) ∧
  -- ROLE_LINE_CHANGE: released, R372, R374
  (∀ (s : State), s.m.powered = true → s.m.paired = true →
    Completes (.roleLineChange false) s fun t =>
      t = { s with m := (s.m.onPair fun p => { p with partnerRole := false, releasedUs := if p.partnerRole then 0 else p.releasedUs }) }) ∧
  -- PARTNER_ABSENT, R373
  (∀ (s : State), s.m.powered = true → s.m.paired = true → s.m.pair.single = false →
    Completes (.partnerAbsent) s fun t =>
      t = { s with m := (((s.m.onPair fun p =>
      { p with ptrPresent := false, single := true, partnerReady := false, readySince := none, partnerDown := true }).onSafety fun x =>
      { x with graft := { x.graft with st := .off, recover := 0 }, graftDemand := 0, graftHeld := 0 }).evalCauses) }) ∧
  -- PARTNER_PRESENT with the graft connection closed, R373
  (∀ (s : State), s.m.powered = true → s.m.paired = true → s.m.safety.graft.st = .off →
    Completes (.partnerPresent) s fun t =>
      t = { s with m := (((s.m.onPair fun p => { p with ptrPresent := true, single := false }).onSafety fun x =>
      { x with graft := x.graft.openConn x.ms }).evalCauses) }) ∧
  -- JOIN_PAIR, R395
  (∀ (s : State),
    s.m.fabricOn = true → s.m.standby = true → s.m.pairOp = true → s.m.pair.partnerRole = true → 
    s.m.pair.rolePoint.isSome = true → s.m.pair.join.isSome = true →
    Completes (.joinPair) s fun t =>
      t = { s with m := (Mod.joinRun 8 s.m) }) ∧
  -- RESYNC_RETRY_EXPIRY, R385
  (∀ (s : State) (u : Nat), s.m.fabricOn = true → s.m.standby = true → s.m.pair.resyncWait = some u → u ≤ s.m.host.ms →
    Completes (.resyncRetryExpiry) s fun t =>
      t = { s with m := (s.m.onPair fun p => { p with resyncWait := none, resyncDue := true }) }) ∧
  -- GRAFT_LANE_CHANGE, R376, R377
  (∀ (s : State) (lane : Nat) (up : Bool), s.m.fabricOn = true → s.m.paired = true → lane < 2 →
    Completes (.graftLaneChange lane up) s fun t =>
      t.m.pair.lanes = (if up then s.m.pair.lanes ||| BitVec.ofNat 2 (2 ^ lane) else s.m.pair.lanes &&& ~~~(BitVec.ofNat 2 (2 ^ lane))) ∧ t.m.pair.partnerDown = (s.m.pair.partnerDown || decide (t.m.pair.lanes = 0)) ∧
      t.m.pair.grainLock = (s.m.pair.grainLock && decide (t.m.pair.lanes ≠ 0)) ∧ t.m.pair.role = s.m.pair.role ∧ t.m.pair.sync = s.m.pair.sync ∧ Only [.pair] s t)

/-- A good replay record within its window adopts the lease, the epoch and whether the time is valid, and, with no command in it, GRAIN_CNT one above its grain, with the heartbeat counted present. Field forwarding of the standby sends its frames, the states of its ring ends and its readiness; of the active module notes the partner's, the continuity of the rings and the lock of the partner's ends. A heartbeat not come by tick 10 is missed; the third in a row with the partner's role asserted is GRAFT_LOST, recorded. Ten grains without record open every contact request of the active module. The standby sends the command of a window assigned to its ring end, and schedules its staged candidate for the grain it is told; the active module records a digest mismatch. The numbers and bodies of the graft messages are the model's own (log 42). -/
def Obligations.StandbyFollows : Prop :=
  -- REPLAY_RECORD_RECEIVE, R378, R384
  (∀ (s : State) (r : ReplayRec) (image : Option BedImage) (exch : List (Nat × BedImage)),
    s.m.fabricOn = true → s.m.standby = true → s.m.pairOp = true → s.m.pair.lanes ≠ 0 → s.m.pair.join.isSome = true → 
    r.good = true → s.m.plan.tick ≤ 10 → s.m.pair.hbThis = false → s.m.pair.hbJudged = false → 
    s.m.takeoverDue = none → (s.m.pair.sync = .none ∨ r.grain + 1 = s.m.plan.grainCnt) →
    Completes (.replayRecordReceive r image exch) s fun t =>
      t.m.disp.owner = r.owner ∧ t.m.disp.ownerPrio = r.ownerPrio ∧ t.m.disp.exp = r.exp ∧ t.m.time.epoch = r.epoch ∧ t.m.time.epochNext = none ∧ t.m.time.timeValid = r.timeValid ∧
      (r.cmds = [] → r.params = [] → t.m.plan.grainCnt = r.grain + 1 ∧ t.m.pair.hbThis = true ∧ t.m.pair.hbMiss = 0 ∧ t.m.pair.noRecord = 0)) ∧
  -- FIELD_FORWARD of the standby, R376
  (∀ (s : State) (resps : List (Nat × ChainResp)) (ends : List (Nat × EndObs)) (tones : List (Nat × BitVec 2)) (ready : Bool), s.m.fabricOn = true → s.m.pairOp = true → s.m.standby = true →
    s.m.pair.lanes ≠ 0 →
    Completes (.fieldForward resps ends tones ready) s fun t =>
      t = { s with m := (s.m.out (.field resps ends tones (some s.m.standbyReady))) }) ∧
  -- FIELD_FORWARD of the active module: what the partner's ring ends report, R376
  (∀ (s : State) (ends : List (Nat × EndObs)) (ready : Bool), s.m.fabricOn = true → s.m.pairOp = true → s.m.standby = false →
    Completes (.fieldForward [] ends [] ready) s fun t =>
      t = { s with m := (((s.m.each ends fun m e => m.onRing e.1 fun r => { r with cont := e.2.cont }).onPair fun p =>
      { p with partnerLock := setLocks p.partnerLock (ends.map fun e => (e.1, e.2.lock)) }).onPair fun p =>
      { p with partnerReady := ready, readySince := if ready then some (p.readySince.getD s.m.host.ms) else none
               drillReady := p.drillReady || (ready && p.drillCheck.any fun u => decide ((s.m.plan.grainCnt - u).toNat ≤ 200)) }) }) ∧
  -- HEARTBEAT_MISS, the third in a row, R382, R388
  (∀ (s : State),
    s.m.fabricOn = true → s.m.standby = true → s.m.pairOp = true → s.m.pair.join.isSome = true → s.m.pair.hbThis = false → 
    s.m.pair.hbJudged = false → 10 ≤ s.m.plan.tick → s.m.pair.hbMiss = 2 → s.m.pair.partnerRole = true →
    Completes (.heartbeatMiss) s fun t =>
      t = { s with m := ((s.m.onPair fun p =>
      { p with hbJudged := true, hbMiss := 3, hbNoYield := 0, graftLost := true }).post 0x9005 0xFF bFabric []) }) ∧
  -- HEARTBEAT_MISS before, R382, R388
  (∀ (s : State),
    s.m.fabricOn = true → s.m.standby = true → s.m.pairOp = true → s.m.pair.join.isSome = true → s.m.pair.hbThis = false → 
    s.m.pair.hbJudged = false → 10 ≤ s.m.plan.tick → s.m.pair.hbMiss < 2 →
    Completes (.heartbeatMiss) s fun t =>
      t = { s with m := (s.m.onPair fun p => { p with hbJudged := true, hbMiss := p.hbMiss + 1, hbNoYield := 0 }) }) ∧
  -- STANDBY_REPLAY_TIMEOUT, R375
  (∀ (s : State), s.m.powered = true → s.m.standby = true → 10 ≤ s.m.pair.noRecord →
    Completes (.standbyReplayTimeout) s fun t =>
      t.m = s.m.followContact 0 ∧ t.m.pair.contactReq = 0 ∧ (∀ g, g < 8 → (t.m.sq g).on = false ∧ (t.m.sq g).lowAt = none) ∧ Only [.store, .conv, .prot, .safety, .pair, .sent] s t) ∧
  -- GRAFT_MAILBOX_RECEIVE of a window for a transaction of this module's ring end, R97, R396
  (∀ (s : State) (ptr len type : Nat) (body : List Byte), s.m.fabricOn = true → s.m.pairOp = true → s.m.pair.lanes ≠ 0 → s.m.standby = true →
    Completes (.graftMailboxReceive 20 ptr len type body) s fun t =>
      t = { s with m := ((s.m.onPair fun p => { p with
        partnerDown := false
        endSeen := if rdN body 10 1 = ChainCmd.enum.opcode then p.endSeen.filter fun e => e.1 != rdN body 0 1 else p.endSeen }).out
      (.chain (rdN body 0 1) (if rdN body 1 1 = 0 then .A else .B) (rdN body 2 4) (body.drop 6))) }) ∧
  -- GRAFT_MAILBOX_RECEIVE of the grain of an activation, R75
  (∀ (s : State) (ptr len type : Nat) (body : List Byte) (c : Candidate),
    s.m.fabricOn = true → s.m.pairOp = true → s.m.pair.lanes ≠ 0 → s.m.standby = true → s.m.plan.staged = some c →
    Completes (.graftMailboxReceive 21 ptr len type body) s fun t =>
      t = { s with m := ((s.m.onPair fun p => { p with partnerDown := false }).onPlan fun p =>
      { p.prepare c with scheduled := some (BitVec.ofNat 32 ptr) }) }) ∧
  -- GRAFT_MAILBOX_RECEIVE of a digest mismatch, R449
  (∀ (s : State) (ptr len type : Nat) (body : List Byte), s.m.fabricOn = true → s.m.pairOp = true → s.m.pair.lanes ≠ 0 → s.m.pair.role = true →
    Completes (.graftMailboxReceive 8 ptr len type body) s fun t =>
      t.m.pair.bedMiss = s.m.pair.bedMiss ||| BitVec.ofNat 32 (rdN body 0 5) ∧ t.m.pair.mismatches = stopAt 0xFFFF (s.m.pair.mismatches + 1) ∧
      t.m.pair.commonMiss = (s.m.pair.commonMiss || (rdN body 0 5).testBit 32) ∧ Recorded 0x9001 0xFF bFabric s.m t.m)

/-- An active module whose announced handover grain is next releases its role at tick 98 or 99 while its plan runs on, and at the boundary becomes the standby that formerly was active. A ready standby takes over at tick 0 of the announced grain with the partner's line released 10 us, or after 100 us with three heartbeats missed: it has the role, counts the takeover, starts the servo anew and gives the ring its own port states. A drill falls due an interval after the last takeover, is overdue after its limit, recorded once, and is judged 200 grains after it. The announcement of a handover and a cancellation by the active module cancel the standby's scheduled activation; the numbers and bodies of the graft messages are the model's own (log 42). -/
def Obligations.Handover : Prop :=
  -- YIELD_ROLE_RELEASE, R387
  (∀ (s : State) (g : W32),
    s.m.fabricOn = true → s.m.pair.yieldAt = some g → s.m.pair.role = true → s.m.plan.grainCnt + 1 = g → 
    98 ≤ s.m.plan.tick →
    Completes (.yieldRoleRelease) s fun t =>
      t = { s with m := s.m.canInhibit.onPair fun p => { p with role := false, lastRecord := some g } } ∧ t.m.standby = false) ∧
  -- GRAIN_BOUNDARY at the handover grain, R387, R391
  (∀ (s : State) (d : Int) (g : W32), s.m.planOn = true → s.m.plan.firstGrain = true → s.m.boundaryDue = true →
      s.m.pair.lastRecord = some g →
    Completes (.grainBoundary d) s fun t => t.m.pair.role = false ∧ t.m.pair.formerActive = true ∧ t.m.pair.lastRecord = none) ∧
  -- TAKEOVER of a ready standby, R388, R389, R392, R393
  (∀ (s : State),
    s.m.planOn = true → s.m.pair.driverEnabled = true → s.m.plan.tick = 0 → s.m.pair.partnerRole = false → 
    ((s.m.pair.announced = some s.m.plan.grainCnt ∧ 10 ≤ s.m.pair.releasedUs) ∨ (100 ≤ s.m.pair.releasedUs ∧ 3 ≤ s.m.pair.hbMiss)) → 
    s.m.standbyReady = true →
    Completes (.takeover) s fun t =>
      t.m.pair.role = true ∧ t.m.pair.takeovers = stopAt 0xFFFF (s.m.pair.takeovers + 1) ∧ t.m.pair.lastTakeoverGrain = s.m.plan.grainCnt ∧
      t.m.pair.lastTakeoverMs = s.m.power.opMs ∧ t.m.pair.sync = .none ∧ t.m.pair.ports = [] ∧ t.m.time.servo = .acquiring) ∧
  -- DRILL_DUE, R397
  (∀ (s : State),
    s.m.fabricOn = true → s.m.pairOp = true → s.m.pair.role = true → s.m.par 0x9002 = 1 → s.m.pair.yieldAt = none → 
    s.m.pair.drillDue = false → s.m.pair.partnerReady = false → 
    1000 * s.m.parN 0x9003 ≤ s.m.power.opMs - s.m.pair.lastTakeoverMs →
    Completes (.drillDue) s fun t =>
      t = { s with m := (s.m.onPair fun p => { p with drillDue := true, drillDueMs := s.m.host.ms, drillOverdue := false }) }) ∧
  -- DRILL_OVERDUE, R397
  (∀ (s : State),
    s.m.fabricOn = true → s.m.pair.drillDue = true → s.m.pair.drillOverdue = false → 
    1000 * s.m.parN 0x9004 ≤ s.m.host.ms - s.m.pair.drillDueMs →
    Completes (.drillOverdue) s fun t =>
      t = { s with m := ((s.m.onPair fun p => { p with drillOverdue := true }).post 0x9006 0xFF bFabric []) }) ∧
  -- DRILL_CHECK of a drill that went well, R398
  (∀ (s : State) (g : W32),
    s.m.fabricOn = true → s.m.pair.drillCheck = some g → 200 ≤ (s.m.plan.grainCnt - g).toNat → 
    s.m.pair.drillHandoverOk = true → s.m.pair.drillReady = true →
    Completes (.drillCheck) s fun t =>
      t = { s with m := (s.m.onPair fun p => { p with drillCheck := none, drills := stopAt 0xFFFF (p.drills + 1) }) }) ∧
  -- DRILL_CHECK of a drill that failed, R398
  (∀ (s : State) (g : W32),
    s.m.fabricOn = true → s.m.pair.drillCheck = some g → 200 ≤ (s.m.plan.grainCnt - g).toNat → 
    s.m.pair.drillHandoverOk = true → s.m.pair.drillReady = false →
    Completes (.drillCheck) s fun t =>
      t = { s with m := ((s.m.onPair fun p => { p with drillCheck := none, drillFail := true }).post 0x9007 0xFF bFabric (u8 1)) }) ∧
  -- GRAFT_MAILBOX_RECEIVE of an announced handover grain, R449
  (∀ (s : State) (ptr len type : Nat) (body : List Byte), s.m.fabricOn = true → s.m.pairOp = true → s.m.pair.lanes ≠ 0 → s.m.standby = true →
    Completes (.graftMailboxReceive 4 ptr len type body) s fun t =>
      t = { s with m := (((s.m.onPair fun p => { p with partnerDown := false }).onPair fun p =>
      { p with announced := some (BitVec.ofNat 32 ptr), announcedDrill := decide (type = 1) }).cancelActivation 2) }) ∧
  -- GRAFT_MAILBOX_RECEIVE of an activation that the active module cancels, R76
  (∀ (s : State) (ptr len type : Nat) (body : List Byte) (g : W32) (c : Candidate),
    s.m.fabricOn = true → s.m.pairOp = true → s.m.pair.lanes ≠ 0 → s.m.standby = true → rdN body 0 1 ≠ 0 →
    s.m.plan.scheduled = some g → s.m.plan.staged = some c →
    Completes (.graftMailboxReceive 22 ptr len type body) s fun t =>
      t.m.plan.scheduled = none ∧ t.m.plan.staged = some c ∧ Recorded 0x1008 (if c.kind = 0 then 0xFF else c.bed) bFabric s.m t.m)

/-- SESSION_OPEN under a credential that passes, with a session free, opens one session more, under a number that no session has, with the role and priority of the credential, the request's SEQ as its newest and a key derived from the credential's. SESSION_CLOSE answers, and its session is gone with its streams. NOP answers and only notes the request. NOTICE_ACK of notices the session holds removes them. A session idle for SESSION_IDLE is closed. A notice not acknowledged in its time is sent again, and dropped after its last try. The block of an address ends at its time. A packet with a good tag for an open session is the request its TLVs spell. -/
def Obligations.SessionRows : Prop :=
  -- SESSION_OPEN
  (∀ (s : State) (rq : HostReq) (c : Nat),
    s.m.powered = true → s.m.servesHost = true → c = reqNum rq 0x0001 0 2 → rq.malformed = false → 
    tlvFault ⟨0x0001, 0, .yes, [0x0001, 0x0002], [], [], true⟩ rq.malformed rq.tlvs = none → 
    s.m.credOk c rq.net rq.addr = true → s.m.openedBy c (tlvVal rq.tlvs 0x0002) rq.seq = none → 
    s.m.host.sessions.length < 16 →
    Completes (.sessionOpen rq) s fun t =>
      (∃ x nM, t.m.host.sessions = s.m.host.sessions ++ [x] ∧ x.sid ≠ 0 ∧ (∀ y ∈ s.m.host.sessions, y.sid ≠ x.sid) ∧ x.cred = c ∧ x.role = s.m.cred c 1 ∧ x.prio = s.m.cred c 2 ∧ x.high = rq.seq ∧ x.seen = 1 ∧ x.lastReq = s.m.host.ms ∧ x.key = sessionKey (s.m.credKey c) "KXHS" (tlvVal rq.tlvs 0x0002) nM x.sid) ∧
      t.m.host.streams = s.m.host.streams ∧ Only [.host, .pair, .sent, .free] s t) ∧
  -- SESSION_CLOSE
  (∀ (s : State) (rq : HostReq) (e : Session), s.m.Admits 0x0002 rq e →
    Completes (.sessionClose rq) s fun t =>
      t.m = ((s.m.noted rq e).replied 0x0002 rq e 0).closeSession rq.session ∧ t.m.session? rq.session = none ∧ (∀ x ∈ t.m.host.streams, x.sid ≠ rq.session) ∧ Only [.plan, .host, .store, .power, .chain, .est, .conv, .disp, .prot, .safety, .pair, .time, .can, .adc, .upd, .sent, .free] s t) ∧
  -- NOP
  (∀ (s : State) (rq : HostReq) (e : Session), s.m.Admits 0x0003 rq e →
    Completes (.nop rq) s fun t =>
      t = { s with m := ((s.m.noted rq e).replied 0x0003 rq e 0) }) ∧
  -- NOTICE_ACK
  (∀ (s : State) (rq : HostReq) (e : Session), s.m.Admits 0x0004 rq e → (∀ x ∈ rq.tlvs, x.type = 0x0004 → ∃ n ∈ e.notices, n.seq = rdN x.value 0 4) →
    Completes (.noticeAck rq) s fun t =>
      t = { s with m := (((s.m.noted rq e).onSession rq.session fun x =>
      { x with notices := x.notices.filter fun n => !((rq.tlvs.filter fun (y : Tlv) => y.type == 0x0004).map fun (y : Tlv) => rdN y.value 0 4).contains n.seq }).replied 0x0004 rq e 0) }) ∧
  -- SESSION_IDLE_TIMEOUT
  (∀ (s : State) (sid : Nat) (e : Session), s.m.supRuns = true → s.m.session? sid = some e → 1000 * s.m.parN 0xA0C0 ≤ s.m.host.ms - e.lastReq →
    Completes (.sessionIdleTimeout sid) s fun t =>
      t.m = s.m.closeSession sid ∧ t.m.session? sid = none ∧ (∀ x ∈ t.m.host.streams, x.sid ≠ sid) ∧ Only [.host, .store, .pair] s t) ∧
  -- NOTICE_RESEND with a try left
  (∀ (s : State) (sid q : Nat) (e : Session) (n : Notice),
    s.m.supRuns = true → s.m.session? sid = some e → e.notices = [n] → n.seq = q → 
    s.m.parN 0xA0C2 ≤ s.m.host.ms - n.sentAt → n.tries - 1 < s.m.parN 0xA0C3 →
    Completes (.noticeResend sid q) s fun t =>
      t = { s with m := ((s.m.onSession sid fun x =>
      { x with notices := x.notices.map fun (y : Notice) => if y.seq = q then { n with tries := n.tries + 1, sentAt := s.m.host.ms } else y }).sendNotice e { n with tries := n.tries + 1, sentAt := s.m.host.ms }) }) ∧
  -- NOTICE_RESEND with none
  (∀ (s : State) (sid q : Nat) (e : Session) (n : Notice),
    s.m.supRuns = true → s.m.session? sid = some e → e.notices = [n] → n.seq = q → 
    s.m.parN 0xA0C2 ≤ s.m.host.ms - n.sentAt → s.m.parN 0xA0C3 ≤ n.tries - 1 →
    Completes (.noticeResend sid q) s fun t =>
      t = { s with m := (s.m.onSession sid fun x => { x with notices := x.notices.filter fun (y : Notice) => y.seq != q }) }) ∧
  -- AUTH_BLOCK_EXPIRY
  (∀ (s : State) (addr : Nat), s.m.supRuns = true →
    Completes (.authBlockExpiry addr) s fun t =>
      (∀ b, b ∈ t.m.host.blocked ↔ b ∈ s.m.host.blocked ∧ (b.1 ≠ addr ∨ s.m.host.ms < b.2)) ∧ t.m.host.sessions = s.m.host.sessions ∧ Only [.host] s t) ∧
  -- UDP_PACKET_RECEIVE of an open session
  (∀ (s : State) (net addr port : Nat) (bytes : List Byte) (e : Session),
    s.m.powered = true → s.m.servesHost = true → net < 2 → s.m.netAllows net addr = true → s.m.isBlocked addr = false → 40 ≤ bytes.length → 
    rdN bytes 0 2 = 0x4B58 → rdN bytes 2 1 = 1 → rdN bytes 16 4 ≤ 8192 → rdN bytes 16 4 = bytes.length - 40 → 
    rdN bytes 3 1 &&& 11 = 0 → rdN bytes 4 2 ≠ 1 → s.m.session? (rdN bytes 12 4) = some e → 
    packetTag e.key (bytes.take (bytes.length - 16)) = bytes.drop (bytes.length - 16) →
    Completes (.udpPacketReceive net addr port 50231 bytes) s fun t =>
      t.m = hostRow (rdN bytes 4 2) { session := rdN bytes 12 4, seq := BitVec.ofNat 32 (rdN bytes 8 4), net := net, addr := addr, port := port, tlvs := (splitTlvs 8192 ((bytes.take (bytes.length - 16)).drop 24)).1, malformed := (splitTlvs 8192 ((bytes.take (bytes.length - 16)).drop 24)).2 } s.dir s.m ∧ t.pending = s.pending) ∧
  -- UDP_PACKET_RECEIVE of a malformed packet
  (∀ (s : State) (net addr port : Nat) (bytes : List Byte), s.m.powered = true → s.m.servesHost = true → net < 2 → s.m.netAllows net addr = true → s.m.isBlocked addr = false → bytes.length < 40 →
    Completes (.udpPacketReceive net addr port 50231 bytes) s fun t =>
      t = { s with m := (s.m.onHost fun h => { h with badForm := stopAt 0xFFFF (h.badForm + 1) }) }) ∧
  -- UDP_PACKET_RECEIVE that the filter of the port does not pass, R468
  (∀ (s : State) (net addr port : Nat) (bytes : List Byte),
    s.m.powered = true → net < 2 → s.m.parN (0xA00D + 48 * net) = 1 →
    (∀ k < 16, s.m.parN (0xA020 + k + 48 * net) ≠ 0 →
      addr &&& s.m.parN (0xA020 + k + 48 * net) ≠ s.m.parN (0xA010 + k + 48 * net) &&& s.m.parN (0xA020 + k + 48 * net)) →
    Completes (.udpPacketReceive net addr port 50231 bytes) s fun t => Unchanged s t)

/-- POINT_READ answers the points named from the newest complete copy of the directory, with its grain. STREAM_OPEN within the limits opens a stream more; STREAM_CLOSE of an own stream removes it alone. PARAM_READ answers the entries of the parameters named. PARAM_WRITE whose entries all pass writes them all, in the next grain. A stream cycle in its grain sends its points or counts a skip. A watch evaluation marks the copy it saw. -/
def Obligations.PointRows : Prop :=
  -- POINT_READ by list
  (∀ (s : State) (rq : HostReq) (e : Session) (v : List Byte) (ids : List Nat) (g : W32) (d : Mod),
    s.m.Admits 0x0101 rq e → s.m.power.state ≠ .parked → s.dir = some (g, d) → rq.tlvs = [⟨0x0010, v⟩] → 
    (ids = (List.range (v.length / 4)).map fun k => rdN v (4 * k) 4) → (∀ i ∈ ids, (pointGroup i).isSome = true) →
    Completes (.pointRead rq) s fun t =>
      t = { s with m := ((s.m.noted rq e).replied 0x0101 rq e 0 [⟨0x0012, leN 4 g.toNat ++ leN 4 ids.length ++ (ids.map (pointOf false d)).flatten⟩] g.toNat) }) ∧
  -- STREAM_OPEN
  (∀ (s : State) (rq : HostReq) (e : Session) (v : List Byte) (x : Stream),
    s.m.Admits 0x0102 rq e → v = tlvVal rq.tlvs 0x0013 → v.length = 8 + 8 * rdN v 5 1 → 1 ≤ rdN v 0 2 → rdN v 0 2 ≤ 60000 → 
    1 ≤ rdN v 4 1 → rdN v 4 1 ≤ 3 → 1 ≤ rdN v 5 1 → rdN v 5 1 ≤ 16 → 
    (x = { id := s.m.streamId, sid := rq.session, period := rdN v 0 2, port := if rdN v 2 2 = 0 then rq.port else rdN v 2 2, addr := rq.addr, nets := BitVec.ofNat 2 (rdN v 4 1), ranges := (List.range (rdN v 5 1)).map fun k => (rdN v (8 + 8 * k) 4, rdN v (12 + 8 * k) 4) }) → 
    (∀ r ∈ x.ranges, 1 ≤ r.2 ∧ r.2 ≤ 65536 ∧ (pointGroup r.1).isSome = true) → 
    x.points ≤ 65536 → ((s.m.host.streams.filter fun y => y.sid == rq.session).length < 8) → s.m.host.streams.length < 32 → 
    (∀ b < 2, x.nets.getLsbD b = true → rsum ((s.m.host.streams.filter fun y => y.nets.getLsbD b).map Stream.load) + x.load ≤ ((1000000 * s.m.parN 0xA0C5 : Nat) : Rat)) →
    Completes (.streamOpen rq) s fun t =>
      t = { s with m := (((s.m.noted rq e).onHost fun h =>
      { h with streams := h.streams ++ [x], nextStream := x.id % 65535 + 1 }).replied 0x0102 rq e 0 [⟨0x0014, leN 2 x.id⟩]) }) ∧
  -- STREAM_CLOSE
  (∀ (s : State) (rq : HostReq) (e : Session), s.m.Admits 0x0103 rq e → (∃ x ∈ s.m.host.streams, x.id = reqNum rq 0x0014 0 2 ∧ x.sid = rq.session) →
    Completes (.streamClose rq) s fun t =>
      t = { s with m := (((s.m.noted rq e).onHost fun h =>
      { h with streams := h.streams.filter fun x => x.id != reqNum rq 0x0014 0 2 }).replied 0x0103 rq e 0) }) ∧
  -- PARAM_READ
  (∀ (s : State) (rq : HostReq) (e : Session) (v : List Byte) (ids : List Nat),
    s.m.Admits 0x0110 rq e → v = tlvVal rq.tlvs 0x0020 → (ids = (List.range (v.length / 2)).map fun k => rdN v (2 * k) 2) → 
    (∀ i ∈ ids, (paramRow i).isSome = true) →
    Completes (.paramRead rq) s fun t =>
      t = { s with m := ((s.m.noted rq e).replied 0x0110 rq e 0 [⟨0x0021, ids.flatMap (s.m.noted rq e).paramEntry⟩]) }) ∧
  -- PARAM_WRITE
  (∀ (s : State) (rq : HostReq) (e : Session) (es : List (Nat × Nat × List Byte)),
    s.m.Admits 0x0111 rq e → 1 ≤ e.role → es = paramEntries (tlvVal rq.tlvs 0x0021) → (∀ x ∈ es, paramRoleOk e.role x.1 = true) → 
    (s.m.noted rq e).ownsNow rq.session = true → (s.m.noted rq e).paramFault es = none → 
    (s.m.noted rq e).paramCross ((s.m.noted rq e).paramVals es) = none →
    Completes (.paramWrite rq) s fun t =>
      t = { s with m := (((s.m.noted rq e).writeParams ((s.m.noted rq e).paramVals es)).replied 0x0111 rq e 0 [] (s.m.plan.grainCnt + 1).toNat) }) ∧
  -- STREAM_CYCLE whose packets fit
  (∀ (s : State) (id : Nat) (x : Stream) (e : Session) (d : Mod) (g : W32),
    s.m.supRuns = true → s.m.upd.recovery = false → s.m.plan.firstGrain = true → s.m.host.streams = [x] → x.id = id → 
    s.m.plan.grainCnt.toNat % x.period = 0 → s.dir = some (g, d) → g + 1 = s.m.plan.grainCnt → s.m.session? x.sid = some e →
    Completes (.streamCycle id true) s fun t =>
      t = { s with m := ((s.m.each (List.range ((x.indices.length + 680) / 681)) fun m k => m.sendFrag e x g d x.indices ((x.indices.length + 680) / 681) k).onHost fun h =>
      { h with streams := [{ x with sent := x.sent + (x.indices.length + 680) / 681 }] }) }) ∧
  -- STREAM_CYCLE whose packets do not fit
  (∀ (s : State) (id : Nat) (x : Stream),
    s.m.supRuns = true → s.m.upd.recovery = false → s.m.plan.firstGrain = true → s.m.host.streams = [x] → x.id = id → 
    s.m.plan.grainCnt.toNat % x.period = 0 →
    Completes (.streamCycle id false) s fun t =>
      t = { s with m := (s.m.onHost fun h => { h with streamSkip := stopAt 0xFFFF (h.streamSkip + 1) }) }) ∧
  -- WATCH_EVALUATION
  (∀ (s : State) (g : W32) (d : Mod), s.m.supRuns = true → s.dir = some (g, d) → s.m.host.watchCopy ≠ some g →
    Completes (.watchEvaluation) s fun t =>
      t.m.host.watchCopy = some g ∧ (∀ w, w ∉ s.m.watchesOn → tget t.m.host.watches w = tget s.m.host.watches w) ∧ Only [.host, .store, .sent] s t)

/-- XA_WRITE puts its bytes into the exchange area, whose poison at whole lines goes; XA_READ answers the bytes there. MBX_POST fills the inbound mailbox; a post the partner takes fills the graft mailbox instead; the supervisor frees the mailbox when it takes a message, and runs a batch, whose replies it writes after it; MBX_READ answers the outbound mailbox and MBX_ACK releases it and clears the bits named. -/
def Obligations.ExchangeRows : Prop :=
  -- XA_READ
  (∀ (s : State) (rq : HostReq) (e : Session),
    s.m.Admits 0x0130 rq e → 1 ≤ reqNum rq 0x0030 4 4 → reqNum rq 0x0030 4 4 ≤ 8176 → 
    reqNum rq 0x0030 0 4 + reqNum rq 0x0030 4 4 ≤ 0x1000000 → 
    s.m.xaPoisoned (reqNum rq 0x0030 0 4) (reqNum rq 0x0030 4 4) = false →
    Completes (.xaRead rq) s fun t =>
      t = { s with m := ((s.m.noted rq e).replied 0x0130 rq e 0 [⟨0x0031, tgets s.m.host.xa (reqNum rq 0x0030 0 4) (reqNum rq 0x0030 4 4)⟩]) }) ∧
  -- XA_WRITE
  (∀ (s : State) (rq : HostReq) (e : Session),
    s.m.Admits 0x0131 rq e → 1 ≤ reqNum rq 0x0030 4 4 → reqNum rq 0x0030 4 4 ≤ 8176 → 
    reqNum rq 0x0030 4 4 = (tlvVal rq.tlvs 0x0031).length → reqNum rq 0x0030 0 4 + reqNum rq 0x0030 4 4 ≤ 0x1000000 → 
    Memory.wf s.m.host.xa = true →
    Completes (.xaWrite rq) s fun t =>
      t.m = (((s.m.noted rq e).xaPut (reqNum rq 0x0030 0 4) (tlvVal rq.tlvs 0x0031)).xaUnpoison (reqNum rq 0x0030 0 4) (reqNum rq 0x0030 4 4)).replied 0x0131 rq e 0 ∧
      (∀ k, k < reqNum rq 0x0030 4 4 → tget t.m.host.xa (reqNum rq 0x0030 0 4 + k) = (tlvVal rq.tlvs 0x0031).getD k 0) ∧
      (∀ a, a < reqNum rq 0x0030 0 4 ∨ reqNum rq 0x0030 0 4 + reqNum rq 0x0030 4 4 ≤ a → tget t.m.host.xa a = tget s.m.host.xa a) ∧ Only [.plan, .host, .store, .power, .chain, .est, .conv, .disp, .prot, .safety, .pair, .time, .can, .adc, .upd, .sent, .free] s t) ∧
  -- MBX_POST to the supervisor
  (∀ (s : State) (rq : HostReq) (e : Session),
    s.m.Admits 0x0140 rq e → reqNum rq 0x0070 0 4 + reqNum rq 0x0070 4 4 ≤ 0x1000000 → 
    reqNum rq 0x0070 8 2 = 1 → reqNum rq 0x0070 10 1 = 0 →
    Completes (.mbxPost rq) s fun t =>
      t = { s with m := (((s.m.noted rq e).onMbx e.slot fun b => b.post (reqNum rq 0x0070 0 4) (reqNum rq 0x0070 4 4) (reqNum rq 0x0070 8 2) 0 s.m.host.ms).replied 0x0140 rq e 0 [((s.m.noted rq e).onMbx e.slot fun b => b.post (reqNum rq 0x0070 0 4) (reqNum rq 0x0070 4 4) (reqNum rq 0x0070 8 2) 0 s.m.host.ms).mbxStatTlv e.slot]) }) ∧
  -- MBX_POST of a type that the partner takes: the graft mailbox, R445, R451
  (∀ (s : State) (rq : HostReq) (e : Session),
    s.m.Admits 0x0140 rq e → reqNum rq 0x0070 0 4 + reqNum rq 0x0070 4 4 ≤ 0x1000000 → e.slot < 16 →
    (0x8000 ≤ reqNum rq 0x0070 8 2 ∧ reqNum rq 0x0070 10 1 ≤ 1 ∨ reqNum rq 0x0070 8 2 = 1 ∧ reqNum rq 0x0070 10 1 = 1) → s.m.pairOp = true → s.m.pair.partnerDown = false → s.m.pair.lanes ≠ 0 →
    Completes (.mbxPost rq) s fun t =>
      (t.m.mbx 16).outFull = true ∧ (t.m.mbx 16).outPtr = BitVec.ofNat 32 (reqNum rq 0x0070 0 4) ∧ (t.m.mbx 16).outLen = BitVec.ofNat 32 (reqNum rq 0x0070 4 4) ∧
      (t.m.mbx 16).outType = BitVec.ofNat 16 (reqNum rq 0x0070 8 2) ∧ (t.m.mbx 16).outColl = ((s.m.mbx 16).outColl || (s.m.mbx 16).outFull) ∧
      (t.m.mbx e.slot).inFull = false ∧ (∀ k, k ≠ e.slot → k ≠ 16 → t.m.mbx k = s.m.mbx k)) ∧
  -- MBX_READ
  (∀ (s : State) (rq : HostReq) (e : Session), s.m.Admits 0x0141 rq e →
    Completes (.mbxRead rq) s fun t =>
      t = { s with m := ((s.m.noted rq e).replied 0x0141 rq e 0 [(s.m.mbx e.slot).outTlv, s.m.mbxStatTlv e.slot]) }) ∧
  -- MBX_ACK
  (∀ (s : State) (rq : HostReq) (e : Session), s.m.Admits 0x0142 rq e → e.slot < 16 → reqNum rq 0x0072 0 4 ≤ 7 →
    Completes (.mbxAck rq) s fun t =>
      (t.m.mbx e.slot).outFull = ((s.m.mbx e.slot).outFull && !(reqNum rq 0x0072 0 4).testBit 0) ∧ (t.m.mbx e.slot).cross = ((s.m.mbx e.slot).cross && !(reqNum rq 0x0072 0 4).testBit 2) ∧
      (t.m.mbx e.slot).inColl = ((s.m.mbx e.slot).inColl && !(reqNum rq 0x0072 0 4).testBit 1) ∧ (t.m.mbx e.slot).outColl = ((s.m.mbx e.slot).outColl && !(reqNum rq 0x0072 0 4).testBit 1) ∧ (t.m.mbx e.slot).inFull = (s.m.mbx e.slot).inFull ∧
      (∀ k, k ≠ e.slot → k ≠ 16 → t.m.mbx k = s.m.mbx k) ∧ (t.m.mbx 16).inFull = (s.m.mbx 16).inFull ∧ (t.m.mbx 16).outFull = (s.m.mbx 16).outFull ∧
      (t.m.mbx 16).cross = ((s.m.mbx 16).cross && !(reqNum rq 0x0072 0 4).testBit 2) ∧ Only [.host, .pair, .sent] s t) ∧
  -- SUPERVISOR_MBX_TAKE of a message of the host
  (∀ (s : State) (k : Nat), s.m.supRuns = true → k < 16 → (s.m.mbx k).inFull = true → (s.m.mbx k).inType ≠ 1 →
    Completes (.supervisorMbxTake k) s fun t =>
      t = { s with m := (s.m.onMbx k fun b => { b with inFull := false }) }) ∧
  -- SUPERVISOR_MBX_TAKE of a batch whose replies are all given at once
  (∀ (s : State) (k : Nat) (e : Session) (its : List (Option (List Byte))) (out : List Byte) (m : Mod),
    s.m.supRuns = true → k < 16 → (s.m.mbx k).inFull = true → (s.m.mbx k).inType = 1 → s.m.host.sessions = [e] → 
    e.slot = k → s.m.host.batches = [] → s.m.xaPoisoned (s.m.mbx k).inPtr.toNat (s.m.mbx k).inLen.toNat = false → 
    (Mod.runBatch s.dir e.sid 1 ((s.m.mbx k).inLen.toNat / 24 + 1) (tgets s.m.host.xa (s.m.mbx k).inPtr.toNat (s.m.mbx k).inLen.toNat) [] (s.m.onMbx k fun b => { b with inFull := false }) = (its, m)) → 
    (∀ x ∈ its, x.isSome = true) → out = its.flatMap (·.getD []) → m.servesHost = true → m.host.batches = [] → (∃ x ∈ m.host.sessions, x.sid = e.sid) → (s.m.mbx k).inPtr.toNat + (s.m.mbx k).inLen.toNat + out.length ≤ 0x1000000 →
    Completes (.supervisorMbxTake k) s fun t =>
      t = { s with m := (((m.xaPut ((s.m.mbx k).inPtr.toNat + (s.m.mbx k).inLen.toNat) out).xaUnpoison ((s.m.mbx k).inPtr.toNat + (s.m.mbx k).inLen.toNat) out.length).mbxOut k ((s.m.mbx k).inPtr.toNat + (s.m.mbx k).inLen.toNat) out.length 0x0081 0) })

/-- EST_READ writes 64 bytes per cell named to DEST in the exchange area, and no other byte. EST_RESTORE of an image that passes its checks starts the restore and is PENDING. EST_RESET resets the history of the cell, monitor or strings named. RECORD_QUERY that the ring in DRAM can answer is answered at once. RECORDER_CLEAR with its confirmation leaves the marker alone in the rings and counts. A confirmation value ends at its time. A query of the flash that ends writes its records and sends its completion. -/
def Obligations.EstimateAndRecorderRows : Prop :=
  -- EST_READ
  (∀ (s : State) (rq : HostReq) (e : Session),
    s.m.Admits 0x0150 rq e → 1 ≤ reqNum rq 0x0043 4 4 → reqNum rq 0x0043 0 4 + reqNum rq 0x0043 4 4 ≤ 20480 → 
    64 * reqNum rq 0x0043 4 4 ≤ reqNum rq 0x0032 4 4 → reqNum rq 0x0032 0 4 + reqNum rq 0x0032 4 4 ≤ 0x1000000 →
    Completes (.estRead rq) s fun t =>
      t.m = (((s.m.noted rq e).xaPut (reqNum rq 0x0032 0 4) ((List.range (reqNum rq 0x0043 4 4)).flatMap fun k => (s.m.noted rq e).estRecord (reqNum rq 0x0043 0 4 + k))).xaUnpoison (reqNum rq 0x0032 0 4) (64 * reqNum rq 0x0043 4 4)).replied 0x0150 rq e 0 ∧ Only [.plan, .host, .store, .power, .chain, .est, .conv, .disp, .prot, .safety, .pair, .time, .can, .adc, .upd, .sent, .free] s t) ∧
  -- EST_RESTORE
  (∀ (s : State) (rq : HostReq) (e : Session) (img : List Byte),
    s.m.Admits 0x0151 rq e → img = tgets s.m.host.xa (reqNum rq 0x0030 0 4) (reqNum rq 0x0030 4 4) → 
    reqNum rq 0x0030 4 4 ≤ 0x1000000 → reqNum rq 0x0030 0 4 + reqNum rq 0x0030 4 4 ≤ 0x1000000 → 
    s.m.xaPoisoned (reqNum rq 0x0030 0 4) (reqNum rq 0x0030 4 4) = false → rdN img 0 4 = 0x4B584543 → rdN img 4 2 = 1 →
    rdN img 8 4 ≠ 0 → rdN img 8 4 ≤ 20480 → img.length = rdN img 0x0C 4 → 
    img.length = 64 + 160 * rdN img 8 4 + 4 → (crc32c (img.take 0x3C)).toNat = rdN img 0x3C 4 → 
    (crc32c (img.take (img.length - 4))).toNat = rdN img (img.length - 4) 4 → s.m.est.restore = none →
    Completes (.estRestore rq) s fun t =>
      t = { s with m := (((s.m.noted rq e).onEst fun x =>
      { x with restore := some { session := rq.session, seq := rq.seq, image := img } }).replied 0x0151 rq e 1 [] (s.m.plan.grainCnt + 1).toNat) }) ∧
  -- EST_RESET of a cell of a running plan: the next boundary resets it (log 73)
  (∀ (s : State) (rq : HostReq) (e : Session) (g : Nat),
    s.m.Admits 0x0152 rq e → s.m.standby = false → s.m.plan.mode ≠ .stopped → (tlv? rq.tlvs 0x0041).isSome = true → reqNum rq 0x0041 0 4 < 20480 → 
    g = (s.m.plan.grainCnt + 1).toNat →
    Completes (.estReset rq) s fun t =>
      t = { s with m := (((s.m.noted rq e).onDisp fun d =>
      { d with cmds := d.cmds ++ [{ opcode := 0x0152, session := rq.session, seq := rq.seq, prio := e.prio, args := [0, reqNum rq 0x0041 0 4] }] }).replied 0x0152 rq e 0 [] g) }) ∧
  -- EST_RESET of a cell with no plan running
  (∀ (s : State) (rq : HostReq) (e : Session) (g : Nat),
    s.m.Admits 0x0152 rq e → s.m.standby = false → s.m.plan.mode = .stopped → (tlv? rq.tlvs 0x0041).isSome = true → reqNum rq 0x0041 0 4 < 20480 → 
    g = (s.m.plan.grainCnt + 1).toNat →
    Completes (.estReset rq) s fun t =>
      t = { s with m := (((s.m.noted rq e).estReset (reqNum rq 0x0041 0 4 / 640) (((s.m.noted rq e).gcells (reqNum rq 0x0041 0 4 / 640)).filter (· == reqNum rq 0x0041 0 4)) 2).replied 0x0152 rq e 0 [] g) }) ∧
  -- RECORD_QUERY that DRAM answers
  (∀ (s : State) (rq : HostReq) (e : Session) (q : QuerySt),
    s.m.Admits 0x0160 rq e → tlv? rq.tlvs 0x0091 = none → 
    q = { sid := rq.session, seq := rq.seq, from_ := reqNum rq 0x0090 0 4, count := reqNum rq 0x0090 4 4, codeLo := reqNum rq 0x0090 8 2, codeHi := reqNum rq 0x0090 10 2, source := reqNum rq 0x0090 12 2, classes := reqNum rq 0x0090 14 1, kind := reqNum rq 0x0090 15 1, dest := reqNum rq 0x0032 0 4, maxLen := reqNum rq 0x0032 4 4 } → 
    1 ≤ q.count → q.count ≤ 131072 → q.codeLo ≤ q.codeHi → q.classes ≠ 0 → q.kind ≤ 2 → 64 * q.count ≤ q.maxLen → 
    q.dest + q.maxLen ≤ 0x1000000 → (∀ x ∈ s.m.store.queries, x.sid ≠ rq.session) → 
    (s.m.noted rq e).queryFromDram q = true →
    Completes (.recordQuery rq) s fun t =>
      t = { s with m := ((((s.m.noted rq e).runQuery q).1).replied 0x0160 rq e 0 [((s.m.noted rq e).runQuery q).2]) }) ∧
  -- RECORDER_CLEAR with its confirmation
  (∀ (s : State) (rq : HostReq) (e : Session) (v : List Byte),
    s.m.Admits 0x0161 rq e → tlv? rq.tlvs 0x0093 = some v → rdN v 0 4 ≠ 0 → 
    (∃ c ∈ e.confirms, c.opcode = 0x0161 ∧ c.value = rdN v 0 4 ∧ s.m.host.ms < c.expires) → 
    s.m.store.markers.length < markerCap → s.m.store.queries = [] →
    Completes (.recorderClear rq) s fun t =>
      t.m = (((s.m.noted rq e).onSession rq.session fun x => { x with confirms := x.confirms.filter fun c => c.opcode != 0x0161 }).recorderClear e.cred rq.session).1.replied 0x0161 rq e 0 ∧ t.m.power.clearCount = s.m.power.clearCount + 1 ∧ t.m.store.markers.length = s.m.store.markers.length + 1 ∧ t.m.store.dram = [] ∧ t.m.store.sram = [] ∧ t.m.store.flashRing.length = 1 ∧ t.m.store.flashRing.getLast? = t.m.store.markers.getLast?) ∧
  -- CONFIRM_EXPIRY
  (∀ (s : State) (sid : Nat), s.m.supRuns = true →
    Completes (.confirmExpiry sid) s fun t =>
      t = { s with m := (s.m.onSession sid fun x => { x with confirms := x.confirms.filter fun c => decide (s.m.host.ms < c.expires) }) }) ∧
  -- RECORD_QUERY_COMPLETE
  (∀ (s : State) (sid : Nat) (q : QuerySt) (m : Mod),
    s.m.supRuns = true → s.m.store.queries = [q] → q.sid = sid → (s.m.dmaCh 11).use ≠ .query sid → 
    (m = (s.m.onStore fun x => { x with queries := [] }).onSession sid fun x => { x with query := none }) →
    Completes (.recordQueryComplete sid) s fun t =>
      t = { s with m := ((m.runQuery q).1.complete ⟨sid, 0x0160, q.seq.toNat⟩ 0 [(m.runQuery q).2]) })

/-- A lease, set-power, move, STOP or RESUME request of a running plan waits, with its session's priority and its numbers, behind the commands before it, and its sender waits for the reply; the boundary of the next grain carries it out and answers. TRIP latches the cause HOST_TRIP of every configured string it names and begins the contactor-opening sequence of those that did not have it, leaves its mark among the waiting commands of a running plan where it names a string (R424), and is answered with the next grain. STRING_SERVICE of the owner orders its strings in and out and is PENDING. -/
def Obligations.DispatchRows : Prop :=
  -- LEASE_CLAIM
  (∀ (s : State) (rq : HostReq) (e : Session), s.m.Admits 0x0201 rq e → s.m.plan.mode ≠ .stopped →
    Completes (.leaseClaim rq) s fun t =>
      t = { s with m := (((s.m.noted rq e).onDisp fun d =>
      { d with cmds := d.cmds ++ [{ opcode := 0x0201, session := rq.session, seq := rq.seq, prio := e.prio, args := [] }] }).awaited 0x0201 rq e) }) ∧
  -- LEASE_RENEW
  (∀ (s : State) (rq : HostReq) (e : Session), s.m.Admits 0x0202 rq e → s.m.plan.mode ≠ .stopped →
    Completes (.leaseRenew rq) s fun t =>
      t = { s with m := (((s.m.noted rq e).onDisp fun d =>
      { d with cmds := d.cmds ++ [{ opcode := 0x0202, session := rq.session, seq := rq.seq, prio := e.prio, args := [] }] }).awaited 0x0202 rq e) }) ∧
  -- LEASE_RELEASE
  (∀ (s : State) (rq : HostReq) (e : Session), s.m.Admits 0x0203 rq e → s.m.plan.mode ≠ .stopped →
    Completes (.leaseRelease rq) s fun t =>
      t = { s with m := (((s.m.noted rq e).onDisp fun d =>
      { d with cmds := d.cmds ++ [{ opcode := 0x0203, session := rq.session, seq := rq.seq, prio := e.prio, args := [] }] }).awaited 0x0203 rq e) }) ∧
  -- LEASE_REVOKE
  (∀ (s : State) (rq : HostReq) (e : Session), s.m.Admits 0x0204 rq e → s.m.plan.mode ≠ .stopped →
    Completes (.leaseRevoke rq) s fun t =>
      t = { s with m := (((s.m.noted rq e).onDisp fun d =>
      { d with cmds := d.cmds ++ [{ opcode := 0x0204, session := rq.session, seq := rq.seq, prio := e.prio, args := [] }] }).awaited 0x0204 rq e) }) ∧
  -- SET_POWER
  (∀ (s : State) (rq : HostReq) (e : Session), s.m.Admits 0x0210 rq e → s.m.plan.mode ≠ .stopped →
    Completes (.setPower rq) s fun t =>
      t = { s with m := (((s.m.noted rq e).onDisp fun d =>
      { d with cmds := d.cmds ++ [{ opcode := 0x0210, session := rq.session, seq := rq.seq, prio := e.prio, args := [rdI (tlvVal rq.tlvs 0x0050) 0 4] }] }).awaited 0x0210 rq e) }) ∧
  -- MOVE_START
  (∀ (s : State) (rq : HostReq) (e : Session), s.m.Admits 0x0211 rq e → s.m.plan.mode ≠ .stopped →
    Completes (.moveStart rq) s fun t =>
      t = { s with m := (((s.m.noted rq e).onDisp fun d =>
      { d with cmds := d.cmds ++ [{ opcode := 0x0211, session := rq.session, seq := rq.seq, prio := e.prio, args := [rdI (tlvVal rq.tlvs 0x0051) 0 8, reqNum rq 0x0051 8 4, reqNum rq 0x0051 12 4, reqNum rq 0x0051 16 4] }] }).awaited 0x0211 rq e) }) ∧
  -- MOVE_RETARGET
  (∀ (s : State) (rq : HostReq) (e : Session), s.m.Admits 0x0212 rq e → s.m.plan.mode ≠ .stopped →
    Completes (.moveRetarget rq) s fun t =>
      t = { s with m := (((s.m.noted rq e).onDisp fun d =>
      { d with cmds := d.cmds ++ [{ opcode := 0x0212, session := rq.session, seq := rq.seq, prio := e.prio, args := [rdI (tlvVal rq.tlvs 0x0052) 0 8] }] }).awaited 0x0212 rq e) }) ∧
  -- STOP
  (∀ (s : State) (rq : HostReq) (e : Session), s.m.Admits 0x0213 rq e → s.m.plan.mode ≠ .stopped →
    Completes (.stop rq) s fun t =>
      t = { s with m := (((s.m.noted rq e).onDisp fun d =>
      { d with cmds := d.cmds ++ [{ opcode := 0x0213, session := rq.session, seq := rq.seq, prio := e.prio, args := [] }] }).awaited 0x0213 rq e) }) ∧
  -- RESUME
  (∀ (s : State) (rq : HostReq) (e : Session), s.m.Admits 0x0214 rq e → s.m.plan.mode ≠ .stopped →
    Completes (.resume rq) s fun t =>
      t = { s with m := (((s.m.noted rq e).onDisp fun d =>
      { d with cmds := d.cmds ++ [{ opcode := 0x0214, session := rq.session, seq := rq.seq, prio := e.prio, args := [] }] }).awaited 0x0214 rq e) }) ∧
  -- TRIP
  (∀ (s : State) (rq : HostReq) (e : Session), s.m.Admits 0x0215 rq e →
    Completes (.trip rq) s fun t =>
      (∀ n, n < 32 → (reqMask rq).testBit n = true → s.m.configured n = true →
        t.m.hasCause n cHostTrip = true ∧ (s.m.hasCause n cHostTrip = false → t.m.Opening n cHostTrip)) ∧
      (s.m.plan.mode ≠ .stopped → reqMask rq ≠ 0 → ∃ a, t.m.disp.cmds = s.m.disp.cmds ++ [{ opcode := 0x0215, session := rq.session, args := [a] }]) ∧ (∃ (m : Mod) (tl : List Tlv), t.m = m.replied 0x0215 rq e 0 tl (s.m.plan.grainCnt + 1).toNat) ∧ Only [.host, .store, .conv, .disp, .prot, .safety, .pair, .sent] s t) ∧
  -- STRING_SERVICE
  (∀ (s : State) (rq : HostReq) (e : Session) (g : Nat),
    s.m.Admits 0x0216 rq e → (s.m.noted rq e).ownsNow rq.session = true → 
    reqNum rq 0x0053 0 4 &&& reqNum rq 0x0053 4 4 = 0 → reqNum rq 0x0053 0 4 ||| reqNum rq 0x0053 4 4 ≠ 0 → 
    s.m.upd.service = false → g = (s.m.plan.grainCnt + 1).toNat →
    Completes (.stringService rq) s fun t =>
      t = { s with m := ((stringService ⟨rq.session, 0x0216, rq.seq.toNat⟩ (reqNum rq 0x0053 0 4) (reqNum rq 0x0053 4 4) (s.m.noted rq e)).replied 0x0216 rq e 1 [] g) })

/-- PROT_CLEAR of a running plan waits for its grain; in a stopped plan it drops at once a latched cause whose condition is gone and releases the trip. TONE_RESET of a tone absent 1 s ends the tone trip. SENSE_CLEAR of a compatibility monitor clears its taps. SAFETY_RESET from the host gives the reset. CONV_FAULT_CLEAR returns a link from FAULT. PHASE_CLEAR of a link that is OFF frees its latched phases. ENUMERATE begins the enumeration of its rings. -/
def Obligations.PlanAndClearRows : Prop :=
  -- PROT_CLEAR of a running plan, R314
  (∀ (s : State) (rq : HostReq) (e : Session),
    s.m.Admits 0x0401 rq e → s.m.plan.mode ≠ .stopped → reqMask rq ≠ 0 → reqNum rq 0x0048 0 4 ≤ 1 →
    Completes (.protClear rq) s fun t =>
      t = { s with m := (((s.m.noted rq e).onDisp fun d =>
      { d with cmds := d.cmds ++ [{ opcode := 0x0401, session := rq.session, seq := rq.seq, prio := e.prio, args := [(reqMask rq : Int), (reqNum rq 0x0048 0 4 : Int)] }] }).awaited 0x0401 rq e) }) ∧
  -- PROT_CLEAR of a string that holds one cause, in a stopped plan
  (∀ (s : State) (rq : HostReq) (e : Session) (n c : Nat),
    s.m.Admits 0x0401 rq e → s.m.plan.mode = .stopped → n < 32 → reqMask rq = 2 ^ n → reqNum rq 0x0048 0 4 = 0 → 1 ≤ c → c ≤ 18 → c ≠ cTone → 
    c ≠ cGroup → (s.m.strProt n).cause = BitVec.ofNat 18 (2 ^ (c - 1)) → (s.m.noted rq e).clearCond n c = true →
    Completes (.protClear rq) s fun t =>
      t.m = (((s.m.noted rq e).dropCause n c).releaseTrip n).replied 0x0401 rq e 0 [] (s.m.plan.grainCnt + 1).toNat ∧ (t.m.strProt n).cause = 0 ∧ Only [.plan, .host, .store, .power, .chain, .est, .conv, .disp, .prot, .safety, .pair, .time, .can, .adc, .upd, .sent, .free] s t) ∧
  -- TONE_RESET
  (∀ (s : State) (rq : HostReq) (e : Session) (n : Nat),
    s.m.Admits 0x0402 rq e → n < 32 → reqMask rq = 2 ^ n → (s.m.ring n).toneTrip = true → 1000 ≤ (s.m.ring n).toneAbsent →
    Completes (.toneReset rq) s fun t =>
      t = { s with m := (((((s.m.noted rq e).onRing n fun r =>
      { r with toneTrip := false }).dropCause n cTone).releaseTrip n).replied 0x0402 rq e 0 [] (s.m.plan.grainCnt + 1).toNat) }) ∧
  -- SENSE_CLEAR
  (∀ (s : State) (rq : HostReq) (e : Session), s.m.Admits 0x0403 rq e → reqNum rq 0x0042 0 1 < 32 → reqNum rq 0x0042 1 1 < 40 →
    Completes (.senseClear rq) s fun t =>
      t = { s with m := ((senseClear (reqNum rq 0x0042 0 1) (reqNum rq 0x0042 1 1) (s.m.noted rq e)).replied 0x0403 rq e 0 [] (s.m.plan.grainCnt + 1).toNat) }) ∧
  -- SAFETY_RESET
  (∀ (s : State) (rq : HostReq) (e : Session) (g : Nat), s.m.Admits 0x0404 rq e → s.m.resetSrc 2 = true → g = (s.m.plan.grainCnt + 1).toNat →
    Completes (.safetyReset rq) s fun t =>
      t = { s with m := (((s.m.noted rq e).giveReset 2).replied 0x0404 rq e 0 [] g) }) ∧
  -- CONV_FAULT_CLEAR
  (∀ (s : State) (rq : HostReq) (e : Session) (n : Nat),
    s.m.Admits 0x0405 rq e → n < 32 → reqMask rq = 2 ^ n → (s.m.link n).st = .fault → 
    (s.m.link n).faultFromTraining = false → (s.m.link n).fault.getLsbD 2 = false → (s.m.link n).fault.getLsbD 6 = false →
    Completes (.convFaultClear rq) s fun t =>
      t = { s with m := ((((s.m.noted rq e).linkTo n .off).onLink n fun k =>
      { k with strFollow := false, stopToFault := false }).replied 0x0405 rq e 0 [] (s.m.plan.grainCnt + 1).toNat) }) ∧
  -- PHASE_CLEAR
  (∀ (s : State) (rq : HostReq) (e : Session),
    s.m.Admits 0x0406 rq e → reqNum rq 0x0044 0 1 < 32 → 1 ≤ reqNum rq 0x0044 1 1 → reqNum rq 0x0044 1 1 < 64 → 
    (s.m.link (reqNum rq 0x0044 0 1)).st = .off →
    Completes (.phaseClear rq) s fun t =>
      t = { s with m := ((((s.m.noted rq e).each (setBits 6 (reqNum rq 0x0044 1 1)) fun m p => m.onPhase (reqNum rq 0x0044 0 1) p fun x => if x.st = .latched then { x.off with st := .disabled, cause := 0 } else x).onLink (reqNum rq 0x0044 0 1) fun k =>
      { k with phaseClear := BitVec.ofNat 6 (reqNum rq 0x0044 1 1) }).replied 0x0406 rq e 0 [] (s.m.plan.grainCnt + 1).toNat) }) ∧
  -- ENUMERATE
  (∀ (s : State) (rq : HostReq) (e : Session), s.m.Admits 0x0407 rq e →
    Completes (.enumerate rq) s fun t =>
      t = { s with m := (((s.m.noted rq e).each (setBits 32 (reqMask rq)) fun m n => m.startEnum n false).replied 0x0407 rq e 0 [] (s.m.plan.grainCnt + 1).toNat) })

/-- Each counter command sets its counters and flags to 0 and nothing else: overruns, chain counters, saturation flags, the counters of the converter ports, safety counters, pair counters and flags. RESTART 1 answers, then begins a warm restart with cause 4; RESTART 2 answers, then requests a module restart. ROLE_SWAP of an active module whose partner is ready names a handover grain. -/
def Obligations.CounterRows : Prop :=
  -- CLR_OVERRUN
  (∀ (s : State) (rq : HostReq) (e : Session), s.m.Admits 0x0410 rq e →
    Completes (.clrOverrun rq) s fun t =>
      t = { s with m := (((s.m.noted rq e).onPlan fun p =>
      { p with ovrStr := 0, tileOvr := 0, commonOvr := false, peakUsed := [] }).replied 0x0410 rq e 0 [] (s.m.plan.grainCnt + 1).toNat) }) ∧
  -- CLR_CHAIN_CNT
  (∀ (s : State) (rq : HostReq) (e : Session), s.m.Admits 0x0411 rq e →
    Completes (.clrChainCnt rq) s fun t =>
      (∀ n, n < 32 → t.m.ring n = if (reqMask rq).testBit n then { s.m.ring n with crcDiscard := 0, cntMismatch := 0, missing := 0, unexpected := 0 } else s.m.ring n) ∧ t.m.chain.mons = s.m.chain.mons ∧ Only [.host, .chain, .pair, .sent] s t) ∧
  -- CLR_CONV_FLAGS
  (∀ (s : State) (rq : HostReq) (e : Session), s.m.Admits 0x0412 rq e →
    Completes (.clrConvFlags rq) s fun t =>
      (∀ n, n < 32 → t.m.link n = if (reqMask rq).testBit n then { s.m.link n with sat := 0 } else s.m.link n) ∧ t.m.conv.phases = s.m.conv.phases ∧ Only [.host, .conv, .pair, .sent] s t) ∧
  -- CLR_CONV_CNT
  (∀ (s : State) (rq : HostReq) (e : Session), s.m.Admits 0x0413 rq e →
    Completes (.clrConvCnt rq) s fun t =>
      (∀ n, n < 32 → t.m.klnkPort n = if (reqMask rq).testBit n then { s.m.klnkPort n with missed := 0, alignErr := 0, trips := 0, holds := 0 } else s.m.klnkPort n) ∧ t.m.conv.phases = s.m.conv.phases ∧ Only [.host, .conv, .pair, .sent] s t) ∧
  -- CLR_SAFETY_CNT
  (∀ (s : State) (rq : HostReq) (e : Session), s.m.Admits 0x0414 rq e →
    Completes (.clrSafetyCnt rq) s fun t =>
      (∀ i, i < 16 → t.m.si i = { s.m.si i with short := 0, longest := 0 }) ∧ (∀ i, i < 4 → t.m.oi i = { s.m.oi i with short := 0, longest := 0 }) ∧ t.m.safety.plant = { s.m.safety.plant with echoLate := false, wdogExp := false } ∧ t.m.safety.graft = { s.m.safety.graft with echoLate := false, wdogExp := false } ∧ t.m.safety.sq = s.m.safety.sq ∧ Only [.host, .safety, .pair, .sent] s t) ∧
  -- CLR_PAIR_CNT
  (∀ (s : State) (rq : HostReq) (e : Session), s.m.Admits 0x0415 rq e →
    Completes (.clrPairCnt rq) s fun t =>
      t = { s with m := (((s.m.noted rq e).onPair fun p =>
      { p with drillFail := false, commonMiss := false, coldTakeover := false, graftLost := false, bedMiss := 0, takeovers := 0, resyncs := 0, mismatches := 0, drills := 0 }).replied 0x0415 rq e 0 [] (s.m.plan.grainCnt + 1).toNat) }) ∧
  -- RESTART 1
  (∀ (s : State) (rq : HostReq) (e : Session), s.m.Admits 0x0501 rq e → reqNum rq 0x0061 0 1 = 1 →
    Completes (.restart rq) s fun t =>
      t = { s with m := (((s.m.noted rq e).replied 0x0501 rq e 0).warmRestart 4) }) ∧
  -- RESTART 2
  (∀ (s : State) (rq : HostReq) (e : Session), s.m.Admits 0x0501 rq e → reqNum rq 0x0061 0 1 = 2 →
    Completes (.restart rq) s fun t =>
      t = { s with m := (((s.m.noted rq e).replied 0x0501 rq e 0).requestRestart 5) }) ∧
  -- ROLE_SWAP
  (∀ (s : State) (rq : HostReq) (e : Session), s.m.Admits 0x0502 rq e → s.m.canYield = true → s.m.pair.yieldAt = none →
    Completes (.roleSwap rq) s fun t =>
      t.m = ((s.m.noted rq e).yield false).replied 0x0502 rq e 0 [] (s.m.plan.grainCnt + 1).toNat ∧ t.m.pair.yieldAt = some (s.m.plan.grainCnt + (if s.m.plan.tick < 90 then 1 else 2)) ∧ t.m.pair.role = true)

/-- KEY_LOAD of a package that opens under its session, with a newer generation, stores the key. SEC_SET that lowers no response of erase sets the three responses. SEC_UNLOCK with its confirmation and no violation standing unlocks and is recorded. SEC_ERASE with its confirmation answers, then erases. FACTORY_RESTORE with its confirmation, every link and output off, is recorded and restarts to the factory state. PARK sets or ends the request to park and restarts where the state differs. SEC_CLEAR clears the flags of violations seen. -/
def Obligations.SecurityRows : Prop :=
  -- KEY_LOAD of a credential
  (∀ (s : State) (rq : HostReq) (e : Session) (key : List Byte),
    s.m.Admits 0x0701 rq e → reqNum rq 0x00A0 0 1 < 16 → reqNum rq 0x00A0 1 3 = 0 → 
    gcmOpen (hmac e.key (ascii "KXKW")) (((tlvVal rq.tlvs 0x00A0).drop 8).take 12) ((tlvVal rq.tlvs 0x00A0).take 8) (((tlvVal rq.tlvs 0x00A0).drop 20).take 32) (((tlvVal rq.tlvs 0x00A0).drop 52).take 16) = some key → 
    (tget s.m.power.credKeys (reqNum rq 0x00A0 0 1)).generation < reqNum rq 0x00A0 4 4 → key.all (· == 0) = false →
    Completes (.keyLoad rq) s fun t =>
      t.m = ((s.m.noted rq e).storeKey (reqNum rq 0x00A0 0 1) (reqNum rq 0x00A0 4 4) key).replied 0x0701 rq e 0 ∧ (tget t.m.power.credKeys (reqNum rq 0x00A0 0 1)).key = key ∧ (tget t.m.power.credKeys (reqNum rq 0x00A0 0 1)).generation = reqNum rq 0x00A0 4 4 ∧ t.m.power.chainRoot = s.m.power.chainRoot) ∧
  -- SEC_SET that lowers no response of erase
  (∀ (s : State) (rq : HostReq) (e : Session),
    s.m.Admits 0x0702 rq e → reqNum rq 0x00A1 0 1 ≤ 2 → reqNum rq 0x00A1 1 1 ≤ 2 → reqNum rq 0x00A1 2 1 ≤ 2 → 
    reqNum rq 0x00A1 3 1 = 0 → s.m.power.locked = false → (s.m.power.respMesh = 2 → reqNum rq 0x00A1 0 1 = 2) → 
    (s.m.power.respGlitch = 2 → reqNum rq 0x00A1 1 1 = 2) → (s.m.power.respAuth = 2 → reqNum rq 0x00A1 2 1 = 2) →
    Completes (.secSet rq) s fun t =>
      t = { s with m := (((s.m.noted rq e).onPower fun p =>
      { p with respMesh := reqNum rq 0x00A1 0 1, respGlitch := reqNum rq 0x00A1 1 1, respAuth := reqNum rq 0x00A1 2 1 }).replied 0x0702 rq e 0) }) ∧
  -- SEC_UNLOCK with its confirmation
  (∀ (s : State) (rq : HostReq) (e : Session) (v : List Byte),
    s.m.Admits 0x0703 rq e → tlv? rq.tlvs 0x0093 = some v → rdN v 0 4 ≠ 0 → 
    (∃ c ∈ e.confirms, c.opcode = 0x0703 ∧ c.value = rdN v 0 4 ∧ s.m.host.ms < c.expires) → s.m.violationHolds = false →
    Completes (.secUnlock rq) s fun t =>
      t = { s with m := (((((s.m.noted rq e).onSession rq.session fun x =>
      { x with confirms := x.confirms.filter fun c => c.opcode != 0x0703 }).onPower fun p =>
      { p with locked := false }).post 0xE00C 0xFF bCold (leN 4 rq.session)).replied 0x0703 rq e 0) }) ∧
  -- SEC_ERASE with its confirmation
  (∀ (s : State) (rq : HostReq) (e : Session) (v : List Byte),
    s.m.Admits 0x0704 rq e → tlv? rq.tlvs 0x0093 = some v → rdN v 0 4 ≠ 0 → 
    (∃ c ∈ e.confirms, c.opcode = 0x0704 ∧ c.value = rdN v 0 4 ∧ s.m.host.ms < c.expires) →
    Completes (.secErase rq) s fun t =>
      t = { s with m := ((((s.m.noted rq e).onSession rq.session fun x =>
      { x with confirms := x.confirms.filter fun c => c.opcode != 0x0704 }).replied 0x0704 rq e 0).securityErase 0) }) ∧
  -- FACTORY_RESTORE with its confirmation
  (∀ (s : State) (rq : HostReq) (e : Session) (v : List Byte),
    s.m.Admits 0x0705 rq e → tlv? rq.tlvs 0x0093 = some v → rdN v 0 4 ≠ 0 → 
    (∃ c ∈ e.confirms, c.opcode = 0x0705 ∧ c.value = rdN v 0 4 ∧ s.m.host.ms < c.expires) → 
    (∀ n ∈ strings, s.m.linkOff n = true) → (∀ g < 8, (s.m.sq g).on = false) →
    Completes (.factoryRestore rq) s fun t =>
      t = { s with m := (((((s.m.noted rq e).onSession rq.session fun x =>
      { x with confirms := x.confirms.filter fun c => c.opcode != 0x0705 }).post 0xE00F 0xFF bSup (leN 4 rq.session)).replied 0x0705 rq e 0).requestRestart 13 true) }) ∧
  -- PARK of a running module
  (∀ (s : State) (rq : HostReq) (e : Session), s.m.Admits 0x0706 rq e → reqNum rq 0x00A2 0 4 = 1 → s.m.power.state ≠ .parked →
    Completes (.park rq) s fun t =>
      t = { s with m := ((((s.m.noted rq e).onPower fun p =>
      { p with parkRequest := true }).cfgWrite.replied 0x0706 rq e 0).requestRestart 14) }) ∧
  -- SEC_CLEAR
  (∀ (s : State) (rq : HostReq) (e : Session), s.m.Admits 0x0707 rq e →
    Completes (.secClear rq) s fun t =>
      t = { s with m := (((s.m.noted rq e).onPower fun p =>
      { p with blankSeen := false, meshBreach := false, glitch := false, erased := false }).replied 0x0707 rq e 0) })

/-- A two-step Sync of the selected parent waits for its Follow_Up, which completes its offset. The first accepted offset from FREE sets the epoch in whole milliseconds from the next grain boundary, makes the time valid and the servo ACQUIRING. An outlier is ignored and counted. A taken offset above TIME_JUMP_THRESH refuses the jump without a step. An armed step takes the offset's whole milliseconds. The fourth offset within PTP_LOCK_THRESH locks and saves INCR. What an offset is (timestamps, latencies, correctionField) follows log 28. -/
def Obligations.TimeMessages : Prop :=
  -- PTP_SYNC_RECEIVE, two-step
  (∀ (s : State) (p : Nat) (f : PtpSync), s.m.supRuns = true → p < 2 → s.m.fromParent p f.domain f.source = true → f.twoStep = true →
    Completes (.ptpSyncReceive p f) s fun t =>
      t = { s with m := (s.m.onTime fun x => { x with pendSync := some { port := p, seq := f.seq, t2 := f.t2, corr := f.corr } }) }) ∧
  -- PTP_SYNC_RECEIVE, the first accepted offset
  (∀ (s : State) (p : Nat) (f : PtpSync) (o : Int),
    s.m.supRuns = true → p < 2 → s.m.fromParent p f.domain f.source = true → f.twoStep = false → s.m.standby = false → 
    s.m.time.servo = .free → s.m.time.forceArmed = none → 
    o = s.m.time.epoch + (f.t2 - s.m.par (0xA00B + 48 * p)) - (f.t1 + corrNs f.corr + s.m.par (0xA00A + 48 * p)) - s.m.time.delay →
    Completes (.ptpSyncReceive p f) s fun t =>
      t.m.time.servo = .acquiring ∧ t.m.time.timeValid = true ∧ t.m.time.epoch = s.m.time.epoch ∧ t.m.time.nsCnt = s.m.time.nsCnt ∧
      t.m.time.epochNext = some (s.m.time.epochNext.getD s.m.time.epoch - rnear ((o : Rat) / 1000000) * 1000000) ∧
      t.m.time.offset = o - rnear ((o : Rat) / 1000000) * 1000000 ∧ t.m.time.stepDone = s.m.time.stepDone ∧ t.m.host = s.m.host ∧ Only [.host, .store, .power, .time, .sent, .free] s t) ∧
  -- PTP_SYNC_RECEIVE, an outlier
  (∀ (s : State) (p : Nat) (f : PtpSync) (o : Int),
    s.m.supRuns = true → p < 2 → s.m.fromParent p f.domain f.source = true → f.twoStep = false → s.m.standby = false → 
    s.m.time.servo ≠ .free → 
    o = s.m.time.epoch + (f.t2 - s.m.par (0xA00B + 48 * p)) - (f.t1 + corrNs f.corr + s.m.par (0xA00A + 48 * p)) - s.m.time.delay → 
    s.m.parN 0xA0DB < (o - s.m.time.offset).natAbs → s.m.time.outliers < 3 →
    Completes (.ptpSyncReceive p f) s fun t =>
      t.m.time.outliers = s.m.time.outliers + 1 ∧ t.m.time.offset = s.m.time.offset ∧ t.m.time.incr = s.m.time.incr ∧ t.m.time.servo = s.m.time.servo ∧
      t.m.time.epochNext = s.m.time.epochNext ∧ t.m.time.outputs = s.m.time.outputs ∧ t.m.time.integral = s.m.time.integral ∧ t.m.host = s.m.host ∧
      t.m.store = s.m.store ∧ t.m.power = s.m.power ∧ t.m.sent = s.m.sent ∧ Only [.host, .store, .power, .time, .sent, .free] s t) ∧
  -- PTP_SYNC_RECEIVE, a jump refused
  (∀ (s : State) (p : Nat) (f : PtpSync) (o : Int),
    s.m.supRuns = true → p < 2 → s.m.fromParent p f.domain f.source = true → f.twoStep = false → s.m.standby = false → 
    (s.m.time.servo = .acquiring ∨ s.m.time.servo = .locked) → s.m.time.forceArmed = none → 
    o = s.m.time.epoch + (f.t2 - s.m.par (0xA00B + 48 * p)) - (f.t1 + corrNs f.corr + s.m.par (0xA00A + 48 * p)) - s.m.time.delay → 
    ((o - s.m.time.offset).natAbs ≤ s.m.parN 0xA0DB ∨ 3 ≤ s.m.time.outliers) → s.m.parN 0xA0D3 * 1000 < o.natAbs →
    Completes (.ptpSyncReceive p f) s fun t =>
      t.m.time.servo = .acquiring ∧ t.m.time.jumpRefused = true ∧ t.m.time.epoch = s.m.time.epoch ∧ t.m.time.epochNext = s.m.time.epochNext ∧
      t.m.time.offset = o ∧ t.m.time.outliers = 0 ∧ Recorded 0xA003 p bNet s.m t.m ∧ Only [.host, .store, .power, .time, .sent, .free] s t) ∧
  -- PTP_SYNC_RECEIVE, the armed step
  (∀ (s : State) (p : Nat) (f : PtpSync) (o : Int) (u : Nat),
    s.m.supRuns = true → p < 2 → s.m.fromParent p f.domain f.source = true → f.twoStep = false → s.m.standby = false → 
    s.m.time.forceArmed = some u → 
    o = s.m.time.epoch + (f.t2 - s.m.par (0xA00B + 48 * p)) - (f.t1 + corrNs f.corr + s.m.par (0xA00A + 48 * p)) - s.m.time.delay → 
    (s.m.time.servo = .free ∨ (o - s.m.time.offset).natAbs ≤ s.m.parN 0xA0DB ∨ 3 ≤ s.m.time.outliers) →
    Completes (.ptpSyncReceive p f) s fun t =>
      t.m.time.stepDone = true ∧ t.m.time.forceArmed = none ∧ t.m.parAcc 0xA0E4 = paramDefault 0xA0E4 ∧ t.m.time.epoch = s.m.time.epoch ∧
      t.m.time.epochNext = some (s.m.time.epochNext.getD s.m.time.epoch - rnear ((o : Rat) / 1000000) * 1000000) ∧
      t.m.time.offset = o - rnear ((o : Rat) / 1000000) * 1000000 ∧ t.m.time.nsCnt = s.m.time.nsCnt ∧ t.m.plan = s.m.plan ∧ Only [.host, .store, .power, .time, .sent, .free] s t) ∧
  -- PTP_SYNC_RECEIVE, the fourth offset within PTP_LOCK_THRESH
  (∀ (s : State) (p : Nat) (f : PtpSync) (o : Int),
    s.m.supRuns = true → p < 2 → s.m.fromParent p f.domain f.source = true → f.twoStep = false → s.m.standby = false → 
    s.m.time.servo = .acquiring → s.m.time.forceArmed = none → s.m.time.lockRun = 3 → s.m.power.cfResponding = true → 
    o = s.m.time.epoch + (f.t2 - s.m.par (0xA00B + 48 * p)) - (f.t1 + corrNs f.corr + s.m.par (0xA00A + 48 * p)) - s.m.time.delay → 
    ((o - s.m.time.offset).natAbs ≤ s.m.parN 0xA0DB ∨ 3 ≤ s.m.time.outliers) → o.natAbs ≤ s.m.parN 0xA0DC → 
    o.natAbs ≤ s.m.parN 0xA0D3 * 1000 →
    Completes (.ptpSyncReceive p f) s fun t =>
      t.m.time.servo = .locked ∧ t.m.power.savedIncr = BitVec.ofNat 32 s.m.time.incr ∧ t.m.time.offset = o ∧ t.m.time.epochNext = s.m.time.epochNext ∧
      t.m.host = s.m.host ∧ t.m.store = s.m.store ∧ Only [.host, .store, .power, .time, .sent, .free] s t) ∧
  -- PTP_FOLLOW_UP_RECEIVE
  (∀ (s : State) (p : Nat) (f : PtpFollowUp) (q : PendSync),
    s.m.supRuns = true → p < 2 → s.m.time.pendSync = some q → q.port = p → q.seq = f.seq → 
    s.m.fromParent p f.domain f.source = true →
    Completes (.ptpFollowUpReceive p f) s fun t =>
      t = { s with m := (s.m.syncOffset p f.t1 (f.corr + q.corr) q.t2) })

/-- PTP_ANN_TIMEOUT intervals without an Announce drop that port's best clock; where no other is known the parent stays. PTP_SYNC_LOSS without an acceptable parent enters HOLDOVER with INCR at the mean of the last servo outputs. HOLDOVER of PTP_HOLD_MAX clears TIME_VALID alone. The extension adds the count gone by. An armed step lapses at its 60 s. The locked INCR is saved once an hour. The first Announce selects its source; a better one of another grandmaster is a parent change. A frame of the domain is forwarded with its residence time added. -/
def Obligations.ServoTimers : Prop :=
  -- ANNOUNCE_TIMEOUT, no other clock
  (∀ (s : State) (p : Nat) (a : Announce),
    s.m.supRuns = true → p < 2 → (s.m.time.ptp p).best = some a → (s.m.time.ptp (1 - p)).best = none → 
    1000 * s.m.parN 0xA0D6 ≤ s.m.host.ms - a.ms →
    Completes (.announceTimeout p) s fun t =>
      t = { s with m := (s.m.onPtp p fun x => { x with best := none }) }) ∧
  -- ANNOUNCE_TIMEOUT, another clock is selected
  (∀ (s : State) (p g c : Nat) (a b : Announce),
    s.m.supRuns = true → p < 2 → (s.m.time.ptp p).best = some a → (s.m.time.ptp (1 - p)).best = some b → 
    s.m.time.parent = some (p, g, c) → 1000 * s.m.parN 0xA0D6 ≤ s.m.host.ms - a.ms →
    Completes (.announceTimeout p) s fun t =>
      t.m.time.parent = some (1 - p, b.gmId, b.source) ∧ Recorded 0xA005 (1 - p) bNet s.m t.m ∧ t.m.time.incr = s.m.time.incr ∧
      t.m.time.servo = s.m.time.servo ∧ t.m.time.offset = s.m.time.offset ∧ Only [.store, .time, .sent] s t) ∧
  -- SYNC_LOSS_TIMEOUT
  (∀ (s : State),
    s.m.supRuns = true → s.m.standby = false → (s.m.time.servo = .acquiring ∨ s.m.time.servo = .locked) → 
    s.m.time.outputs ≠ [] → 1000 * s.m.parN 0xA0D7 ≤ s.m.host.ms - s.m.time.lastSync →
    Completes (.syncLossTimeout) s fun t =>
      t.m.time.servo = .holdover ∧ t.m.time.holdSince = some s.m.host.ms ∧ t.m.time.incr = (incrOf (rsum s.m.time.outputs / s.m.time.outputs.length)).1 ∧
      t.m.time.timeValid = s.m.time.timeValid ∧ t.m.time.offset = s.m.time.offset ∧ t.m.time.epoch = s.m.time.epoch ∧ Only [.time] s t) ∧
  -- HOLD_MAX_EXPIRY
  (∀ (s : State) (u : Nat),
    s.m.supRuns = true → s.m.time.servo = .holdover → s.m.time.holdSince = some u → 
    1000 * s.m.parN 0xA0E0 ≤ s.m.host.ms - u →
    Completes (.holdMaxExpiry) s fun t =>
      t = { s with m := (s.m.onTime fun x => { x with timeValid := false }) }) ∧
  -- TIME_EXTEND
  (∀ (s : State), s.m.supRuns = true →
    Completes (.timeExtend) s fun t =>
      t = { s with m := (s.m.onTime fun x =>
      { x with ext := x.ext + (x.nsCnt.toNat + 2 ^ 32 * x.wrapCnt + 2 ^ 40 - x.last40) % 2 ^ 40, last40 := x.nsCnt.toNat + 2 ^ 32 * x.wrapCnt }) }) ∧
  -- FORCE_STEP_EXPIRY
  (∀ (s : State) (u : Nat), s.m.supRuns = true → s.m.time.forceArmed = some u → u ≤ s.m.host.ms →
    Completes (.forceStepExpiry) s fun t =>
      t = { s with m := ((s.m.onTime fun x => { x with forceArmed := none }).setPar 0xA0E4 0) }) ∧
  -- INCR_SAVE
  (∀ (s : State),
    s.m.supRuns = true → s.m.time.servo = .locked → 3600000 ≤ s.m.host.ms - s.m.time.lastSave → 
    s.m.power.cfResponding = true →
    Completes (.incrSave) s fun t =>
      t = { s with m := ((s.m.onPower fun p => { p with savedIncr := BitVec.ofNat 32 s.m.time.incr }).onTime fun x =>
      { x with lastSave := s.m.host.ms }) }) ∧
  -- PTP_ANNOUNCE_RECEIVE, the first
  (∀ (s : State) (p : Nat) (f : PtpAnnounce),
    s.m.supRuns = true → p < 2 → s.m.ptpOn p = true → (f.domain : Int) = s.m.par 0xA0D1 → f.a.clockClass ≤ s.m.parN 0xA0E1 → 
    s.m.time.portA.best = none → s.m.time.portB.best = none → s.m.time.parent = none →
    Completes (.ptpAnnounceReceive p f) s fun t =>
      t.m.time.parent = some (p, f.a.gmId, f.a.source) ∧ (t.m.time.ptp p).best = some { f.a with ms := s.m.host.ms } ∧
      t.m.time.utcOffset = (if f.a.ptpScale then f.a.utcOffset else s.m.parN 0xA0E5) ∧ t.m.time.incr = s.m.time.incr ∧
      t.m.time.servo = s.m.time.servo ∧ t.m.time.epoch = s.m.time.epoch ∧ Only [.time, .sent] s t) ∧
  -- PTP_ANNOUNCE_RECEIVE, a better grandmaster on the same port: a parent change
  (∀ (s : State) (p g c : Nat) (f : PtpAnnounce) (b : Announce),
    s.m.supRuns = true → p < 2 → s.m.ptpOn p = true → (f.domain : Int) = s.m.par 0xA0D1 → f.a.clockClass ≤ s.m.parN 0xA0E1 → 
    (s.m.time.ptp p).best = some b → (s.m.time.ptp (1 - p)).best = none → f.a.better b = true → 
    s.m.time.parent = some (p, g, c) → f.a.gmId ≠ g →
    Completes (.ptpAnnounceReceive p f) s fun t =>
      t.m.time.parent = some (p, f.a.gmId, f.a.source) ∧ Recorded 0xA005 p bNet s.m t.m ∧ t.m.time.incr = s.m.time.incr ∧
      t.m.time.servo = s.m.time.servo ∧ t.m.time.epoch = s.m.time.epoch ∧ t.m.time.epochNext = s.m.time.epochNext ∧ t.m.time.offset = s.m.time.offset ∧ Only [.store, .time, .sent] s t) ∧
  -- PTP_TC_FORWARD
  (∀ (s : State) (p domain kind : Nat) (corr ingress egress : Int) (frame : List Byte), s.m.powered = true → p < 2 → s.m.par 0xA0E2 = 1 → (domain : Int) = s.m.par 0xA0D1 →
    Completes (.ptpTcForward p domain kind corr ingress egress frame) s fun t =>
      t = { s with m := (s.m.out (.ptpForward (1 - p) (if kind < 2 then min (corr + (egress - ingress) % 2 ^ 32 * 65536) 0x7FFFFFFFFFFFFFFF else corr) frame)) })

/-- A read of GRN_NOW latches GRAIN_CNT, of TIME_NS the wrap count, of TIME_SEC_LO the upper seconds, of the low register of a 64-bit dispatch value its high half, of DRAM_UE_LO the upper address. Any register read ends the latches set before: a latched value holds for the read that directly follows (log 40). DIAG_READ answers the registers in ascending order, with the effects of reading them; DIAG_WRITE writes them. Both leave the cursor window of the recorder alone, whose registers read 0 there. -/
def Obligations.RegisterLatches : Prop :=
  -- GRN_NOW_READ
  (∀ (s : State), s.m.powered = true →
    Completes (.grnNowRead) s fun t =>
      t.m.plan.grnLatch = some s.m.plan.grainCnt ∧ t.m.time.wrapLatch = none ∧ t.m.time.secLatch = none ∧ t.m.disp.s64Latch = none ∧ t.m.store.ueLatch = none ∧
      { t.m.plan with grnLatch := none } = { s.m.plan with grnLatch := none } ∧ Only [.plan, .store, .disp, .time] s t) ∧
  -- TIME_NS_READ
  (∀ (s : State), s.m.powered = true →
    Completes (.timeNsRead) s fun t =>
      t.m.time.wrapLatch = some s.m.time.wrapCnt ∧ t.m.time.secLatch = none ∧ t.m.plan.grnLatch = none ∧
      { t.m.time with wrapLatch := none, secLatch := none } = { s.m.time with wrapLatch := none, secLatch := none } ∧ Only [.plan, .store, .disp, .time] s t) ∧
  -- TIME_SEC_LO_READ
  (∀ (s : State), s.m.powered = true →
    Completes (.timeSecLoRead) s fun t =>
      t.m.time.secLatch = some (((s.m.time.ptpNow - ((s.m.time.excess / 2 ^ 24 : Nat) : Int) - 10000 * (s.m.plan.tick : Int)) / 1000000000).toNat / 2 ^ 32 % 2 ^ 16) ∧ t.m.time.wrapLatch = none ∧
      { t.m.time with wrapLatch := none, secLatch := none } = { s.m.time with wrapLatch := none, secLatch := none } ∧ Only [.plan, .store, .disp, .time] s t) ∧
  -- S64_LOW_READ
  (∀ (s : State) (off : Nat) (v : Int), s.m.powered = true → s.m.dispWide off = some v → off ∉ [0x100, 0x1804, 0x1814, 0x1D24, 0x217C] →
    Completes (.s64LowRead off) s fun t =>
      t.m.disp.s64Latch = some (off + 4, BitVec.ofNat 32 (uns 64 v / 2 ^ 32)) ∧ t.m.plan.grnLatch = none ∧
      { t.m.disp with s64Latch := none } = { s.m.disp with s64Latch := none } ∧ Only [.plan, .store, .disp, .time] s t) ∧
  -- DRAM_UE_LO_READ
  (∀ (s : State), s.m.powered = true →
    Completes (.dramUeLoRead) s fun t =>
      t.m.store.ueLatch = some (s.m.store.ueAddr / 2 ^ 32) ∧ { t.m.store with ueLatch := none } = { s.m.store with ueLatch := none } ∧ t.m.time.wrapLatch = none ∧ Only [.plan, .store, .disp, .time] s t) ∧
  -- DIAG_READ
  (∀ (s : State) (rq : HostReq) (e : Session),
    s.m.Admits 0x0120 rq e → reqNum rq 0x0022 0 4 % 4 = 0 → reqNum rq 0x0022 0 4 + 4 * reqNum rq 0x0022 4 4 ≤ 0x10000 → 
    1 ≤ reqNum rq 0x0022 4 4 → reqNum rq 0x0022 4 4 ≤ 1024 →
    Completes (.diagRead rq) s fun t =>
      t = { s with m := (((Mod.diagReads ((List.range (reqNum rq 0x0022 4 4)).map fun k => hostOff (reqNum rq 0x0022 0 4 + 4 * k)) (s.m.noted rq e)).2).replied 0x0120 rq e 0 [⟨0x0023, ((Mod.diagReads ((List.range (reqNum rq 0x0022 4 4)).map fun k => hostOff (reqNum rq 0x0022 0 4 + 4 * k)) (s.m.noted rq e)).1).flatMap fun (v : W32) => leN 4 v.toNat⟩]) }) ∧
  -- DIAG_WRITE
  (∀ (s : State) (rq : HostReq) (e : Session) (g : Nat),
    s.m.Admits 0x0121 rq e → reqNum rq 0x0022 0 4 % 4 = 0 → reqNum rq 0x0022 0 4 + 4 * reqNum rq 0x0022 4 4 ≤ 0x10000 → 
    1 ≤ reqNum rq 0x0022 4 4 → reqNum rq 0x0022 4 4 ≤ 64 → (tlvVal rq.tlvs 0x0023).length = 4 * reqNum rq 0x0022 4 4 → 
    (((s.m.noted rq e).diagWrites ((List.range (reqNum rq 0x0022 4 4)).map fun k => (hostOff (reqNum rq 0x0022 0 4 + 4 * k), BitVec.ofNat 32 (reqNum rq 0x0023 (4 * k) 4)))).2 = 0) → 
    (g = ((s.m.noted rq e).diagWrites ((List.range (reqNum rq 0x0022 4 4)).map fun k => (hostOff (reqNum rq 0x0022 0 4 + 4 * k), BitVec.ofNat 32 (reqNum rq 0x0023 (4 * k) 4)))).1.effGrain) →
    Completes (.diagWrite rq) s fun t =>
      t = { s with m := ((((s.m.noted rq e).diagWrites ((List.range (reqNum rq 0x0022 4 4)).map fun k => (hostOff (reqNum rq 0x0022 0 4 + 4 * k), BitVec.ofNat 32 (reqNum rq 0x0023 (4 * k) 4)))).1).replied 0x0121 rq e 0 [] g) })

/-- A frame whose identifier an enabled receive object carries replaces that object's contents whole with its length by DLC and the stamps of its start of frame, and sets LOST where the object was unread; every other object and port is as before. A frame that matches none counts as unmatched. A frame for the locked object waits in the lock buffer. A frame that a port hears while it integrates only completes the integration. Two frames in succession find the rate. A receive error advances ERR_FRAMES and LEC, and REC in normal mode. -/
def Obligations.CanReception : Prop :=
  -- CAN_FRAME_RECEIVED into an object
  (∀ (s : State) (p o : Nat) (f : CanFrame) (bits : Nat),
    s.m.fabricOn = true → p < 4 → (s.m.port p).mode ≠ 0 → ((s.m.port p).err = .active ∨ (s.m.port p).err = .passive) → 
    (s.m.port p).detect = none → (s.m.port p).integ = 0 → s.m.ttListens p = false → (s.m.port p).lock ≠ some o → 
    ((s.m.canObjs p).find? (fun k => !(s.m.canCfg p k).tx && (s.m.canCfg p k).ide == f.ide && (s.m.canCfg p k).id == f.id) = some o) →
    Completes (.canFrameReceived p f bits) s fun t =>
      ((t.m.port p).obj o).rx = { frame := { f with data := padTo 64 0 (f.data.take (if f.rtr then 0 else dlcLen f.fdf f.dlc)) }, tsGrain := (s.m.stampAgo (s.m.bitNs p bits)).1, tsNs := s.m.time.nsCnt - BitVec.ofNat 32 (s.m.bitNs p bits) } ∧
      ((t.m.port p).obj o).valid = true ∧ ((t.m.port p).obj o).unread = true ∧
      ((t.m.port p).obj o).lost = (((s.m.port p).obj o).lost || ((s.m.port p).obj o).unread) ∧
      ((t.m.port p).obj o).lostCnt = stopAt 0xFFFFFFFF (((s.m.port p).obj o).lostCnt + b2n ((s.m.port p).obj o).unread) ∧
      (t.m.port p).lostAny = ((s.m.port p).lostAny || ((s.m.port p).obj o).unread) ∧
      (t.m.port p).rxFrames = stopAt 0xFFFFFFFF ((s.m.port p).rxFrames + 1) ∧ (t.m.port p).unmatched = (s.m.port p).unmatched ∧
      (∀ k, k ≠ o → (t.m.port p).obj k = (s.m.port p).obj k) ∧ (∀ q, q ≠ p → t.m.port q = s.m.port q) ∧ Only [.can, .free] s t) ∧
  -- CAN_FRAME_RECEIVED, unmatched
  (∀ (s : State) (p : Nat) (f : CanFrame) (bits : Nat),
    s.m.fabricOn = true → p < 4 → (s.m.port p).mode ≠ 0 → ((s.m.port p).err = .active ∨ (s.m.port p).err = .passive) → 
    (s.m.port p).detect = none → (s.m.port p).integ = 0 → s.m.ttListens p = false → 
    ((s.m.canObjs p).find? (fun k => !(s.m.canCfg p k).tx && (s.m.canCfg p k).ide == f.ide && (s.m.canCfg p k).id == f.id) = none) →
    Completes (.canFrameReceived p f bits) s fun t =>
      (t.m.port p).unmatched = stopAt 0xFFFFFFFF ((s.m.port p).unmatched + 1) ∧ (t.m.port p).rxFrames = stopAt 0xFFFFFFFF ((s.m.port p).rxFrames + 1) ∧
      (t.m.port p).objs = (s.m.port p).objs ∧ (t.m.port p).held = (s.m.port p).held ∧ (∀ q, q ≠ p → t.m.port q = s.m.port q) ∧ Only [.can, .free] s t) ∧
  -- CAN_FRAME_RECEIVED for the locked object
  (∀ (s : State) (p o : Nat) (f : CanFrame) (bits : Nat),
    s.m.fabricOn = true → p < 4 → (s.m.port p).mode ≠ 0 → ((s.m.port p).err = .active ∨ (s.m.port p).err = .passive) → 
    (s.m.port p).detect = none → (s.m.port p).integ = 0 → s.m.ttListens p = false → (s.m.port p).lock = some o → 
    ((s.m.canObjs p).find? (fun k => !(s.m.canCfg p k).tx && (s.m.canCfg p k).ide == f.ide && (s.m.canCfg p k).id == f.id) = some o) →
    Completes (.canFrameReceived p f bits) s fun t =>
      (t.m.port p).held = some { frame := { f with data := padTo 64 0 (f.data.take (if f.rtr then 0 else dlcLen f.fdf f.dlc)) }, tsGrain := (s.m.stampAgo (s.m.bitNs p bits)).1, tsNs := s.m.time.nsCnt - BitVec.ofNat 32 (s.m.bitNs p bits) } ∧
      ((t.m.port p).obj o).rx = ((s.m.port p).obj o).rx ∧ ((t.m.port p).obj o).lost = (((s.m.port p).obj o).lost || (s.m.port p).held.isSome) ∧
      (t.m.port p).lockDefer = stopAt 0xFFFFFFFF ((s.m.port p).lockDefer + 1) ∧ (t.m.port p).lock = some o ∧
      (∀ k, k ≠ o → (t.m.port p).obj k = (s.m.port p).obj k) ∧ (∀ q, q ≠ p → t.m.port q = s.m.port q) ∧ Only [.can, .free] s t) ∧
  -- CAN_FRAME_RECEIVED, the second in succession while rates are tried
  (∀ (s : State) (p : Nat) (d : CanDetect) (f : CanFrame) (bits : Nat),
    s.m.fabricOn = true → p < 4 → (s.m.port p).mode = 2 → (s.m.port p).err = .active → (s.m.port p).detect = some d → (s.m.port p).integ = 0 → 
    d.run = 1 → f.brs = false →
    Completes (.canFrameReceived p f bits) s fun t =>
      (t.m.port p).detect = none ∧ (t.m.port p).detRate = detectRates.getD d.rate 0 ∧ Recorded 0xB003 p bCan s.m t.m ∧
      (t.m.port p).objs = (s.m.port p).objs ∧ t.m.host = s.m.host ∧ (∀ q, q ≠ p → t.m.port q = s.m.port q) ∧ Only [.store, .can] s t) ∧
  -- CAN_FRAME_RECEIVED by a listening port that integrates, R471
  (∀ (s : State) (p : Nat) (f : CanFrame) (bits : Nat),
    s.m.fabricOn = true → p < 4 → (s.m.port p).mode = 2 → ((s.m.port p).err = .active ∨ (s.m.port p).err = .passive) → 0 < (s.m.port p).integ →
    Completes (.canFrameReceived p f bits) s fun t =>
      (t.m.port p).integ = 0 ∧ (t.m.port p).rxFrames = (s.m.port p).rxFrames ∧ (t.m.port p).unmatched = (s.m.port p).unmatched ∧
      (t.m.port p).objs = (s.m.port p).objs ∧ (t.m.port p).held = (s.m.port p).held ∧ (∀ q, q ≠ p → t.m.port q = s.m.port q) ∧ Only [.can] s t) ∧
  -- CAN_RX_ERROR
  (∀ (s : State) (p lec inc : Nat), s.m.fabricOn = true → p < 4 → (s.m.port p).mode ≠ 0 → (s.m.port p).integ = 0 →
    ((s.m.port p).err = .active ∨ (s.m.port p).err = .passive) →
    Completes (.canRxError p lec inc) s fun t =>
      (t.m.port p).errFrames = stopAt 0xFFFFFFFF ((s.m.port p).errFrames + 1) ∧ (t.m.port p).lec = lec ∧
      (t.m.port p).recCnt = (if (s.m.port p).mode = 1 ∧ s.m.acting = true then stopAt 255 ((s.m.port p).recCnt + inc) else (s.m.port p).recCnt) ∧
      (t.m.port p).tec = (s.m.port p).tec ∧ (t.m.port p).objs = (s.m.port p).objs ∧ (∀ q, q ≠ p → t.m.port q = s.m.port q) ∧ Only [.can] s t)

/-- A frame sent counts and lets new data of its object become pending. An object whose retries are used up leaves the pending state with TX_FAIL and keeps its data. TEC above 255 takes the port off the bus, strands what is pending and discards nothing. GO makes the staged data the object's and makes it pending. A window whose bus is busy, or whose start has passed, is missed; an idle one sends the object once in its basic cycle. -/
def Obligations.CanTransmission : Prop :=
  -- CAN_TX_SUCCESS
  (∀ (s : State) (p o bits : Nat), s.m.fabricOn = true → p < 4 → (s.m.port p).onBus = some (.object o) → ((s.m.port p).obj o).nextData = none →
    Completes (.canTxSuccess p bits) s fun t =>
      ((t.m.port p).obj o).pending = false ∧ ((t.m.port p).obj o).txData = ((s.m.port p).obj o).txData ∧ ((t.m.port p).obj o).lost = ((s.m.port p).obj o).lost ∧
      ((t.m.port p).obj o).retries = ((s.m.port p).obj o).attempts - 1 ∧
      ((t.m.port p).obj o).frames = stopAt 0xFFFFFFFF (((s.m.port p).obj o).frames + 1) ∧ (t.m.port p).txFrames = stopAt 0xFFFFFFFF ((s.m.port p).txFrames + 1) ∧
      (t.m.port p).tec = (s.m.port p).tec - 1 ∧ (∀ q, q ≠ p → t.m.port q = s.m.port q) ∧ Only [.can, .sent] s t) ∧
  -- CAN_TX_SUCCESS with new data
  (∀ (s : State) (p o bits : Nat) (d : List Byte),
    s.m.fabricOn = true → p < 4 → (s.m.port p).onBus = some (.object o) → ((s.m.port p).obj o).pending = true → 
    ((s.m.port p).obj o).nextData = some d → (s.m.port p).txInhibit = false →
    Completes (.canTxSuccess p bits) s fun t =>
      ((t.m.port p).obj o).pending = true ∧ ((t.m.port p).obj o).txData = d ∧ ((t.m.port p).obj o).nextData = none ∧
      ((t.m.port p).obj o).lost = ((s.m.port p).obj o).lost ∧ (∀ q, q ≠ p → t.m.port q = s.m.port q) ∧ Only [.can, .sent] s t) ∧
  -- CAN_TX_ERROR, the retries used up
  (∀ (s : State) (p o : Nat) (e : CanTxErr),
    s.m.fabricOn = true → p < 4 → (s.m.port p).onBus = some (.object o) → ((s.m.port p).obj o).pending = true → 
    ((s.m.port p).obj o).nextData = none → (s.m.port p).txInhibit = false → (s.m.canCfg p o).tt = false → 
    (s.m.canCfg p o).retry < ((s.m.port p).obj o).attempts → (s.m.port p).tec ≤ 255 → e = .arbitration →
    Completes (.canTxError p e) s fun t =>
      ((t.m.port p).obj o).pending = false ∧ ((t.m.port p).obj o).txFail = true ∧ (t.m.port p).txFailAny = true ∧
      ((t.m.port p).obj o).txData = ((s.m.port p).obj o).txData ∧ (t.m.port p).arbLost = stopAt 0xFFFFFFFF ((s.m.port p).arbLost + 1) ∧
      (t.m.port p).tec = (s.m.port p).tec ∧ (∀ q, q ≠ p → t.m.port q = s.m.port q) ∧ Only [.store, .can, .sent] s t) ∧
  -- CAN_TX_ERROR, bus-off
  (∀ (s : State) (p o lec inc : Nat),
    s.m.fabricOn = true → p < 4 → (s.m.port p).onBus = some (.object o) → 255 < (s.m.port p).tec + inc → 
    ((s.m.port p).obj o).pending = true → ((s.m.port p).obj o).nextData = none →
    Completes (.canTxError p (.error lec inc)) s fun t =>
      (t.m.port p).err = (if s.m.par (canP p 13) = 1 then .recovering else .busOff) ∧ (t.m.port p).tec = 256 ∧ (t.m.port p).onBus = none ∧
      (t.m.port p).busOffCnt = stopAt 0xFFFFFFFF ((s.m.port p).busOffCnt + 1) ∧ ((t.m.port p).obj o).stranded = true ∧
      ((t.m.port p).obj o).pending = true ∧ ((t.m.port p).obj o).txData = ((s.m.port p).obj o).txData ∧ Recorded 0xB001 p bCan s.m t.m ∧
      t.m.sent = s.m.sent ∧ (∀ q, q ≠ p → t.m.port q = s.m.port q) ∧ Only [.store, .can, .sent] s t) ∧
  -- CAN_TXW_GO
  (∀ (s : State) (p : Nat),
    s.m.fabricOn = true → p < 4 → s.m.standby = false → objReserved s.m.par p (s.m.port p).txwObj = false → 
    (s.m.canCfg p (s.m.port p).txwObj).en = true → (s.m.canCfg p (s.m.port p).txwObj).tx = true → (s.m.port p).mode = 1 → 
    (s.m.port p).txInhibit = false → (s.m.port p).onBus = none →
    Completes (.canTxwGo p) s fun t =>
      ((t.m.port p).obj (s.m.port p).txwObj).pending = true ∧ ((t.m.port p).obj (s.m.port p).txwObj).txData = (s.m.port p).txw ∧
      ((t.m.port p).obj (s.m.port p).txwObj).lost = (((s.m.port p).obj (s.m.port p).txwObj).lost || ((s.m.port p).obj (s.m.port p).txwObj).pending) ∧
      (∀ q, q ≠ p → t.m.port q = s.m.port q) ∧ Only [.can, .pair, .sent] s t) ∧
  -- TT_WINDOW_START, the bus busy, or the start of the window passed (R492)
  (∀ (s : State) (p o r : Nat) (idle : Bool),
    s.m.fabricOn = true → p < 4 → o < 256 → (s.m.canCfg p o).en = true → (s.m.canCfg p o).tx = true → 
    (s.m.canCfg p o).tt = true → s.m.par (canP p 15) ≠ 0 → (s.m.port p).ttSync = true → 
    (s.m.port p).cycle % 2 ^ (s.m.canCfg p o).rep = (s.m.canCfg p o).base % 2 ^ (s.m.canCfg p o).rep → 
    (s.m.port p).mode = 1 → s.m.acting = true → (s.m.port p).refs.head? = some r → o ∉ (s.m.port p).ttDone →
    1000 * (s.m.canCfg p o).period + r < s.m.time.extNow + 10000 →
    (idle = false ∨ s.m.canMayTx p = false ∨ 1000 * (s.m.canCfg p o).period + r + 10000 ≤ s.m.time.extNow) →
    Completes (.ttWindowStart p o idle) s fun t =>
      t = { s with m := ((s.m.onObj p o fun x => { x with ttMiss := true }).onPort p fun c => { c with ttMissAny := true, ttDone := o :: c.ttDone }) }) ∧
  -- TT_WINDOW_START, the bus idle
  (∀ (s : State) (p o r : Nat),
    s.m.fabricOn = true → p < 4 → o < 256 → (s.m.canCfg p o).en = true → (s.m.canCfg p o).tx = true → 
    (s.m.canCfg p o).tt = true → s.m.par (canP p 15) ≠ 0 → (s.m.port p).ttSync = true → 
    (s.m.port p).cycle % 2 ^ (s.m.canCfg p o).rep = (s.m.canCfg p o).base % 2 ^ (s.m.canCfg p o).rep → 
    s.m.canMayTx p = true → (s.m.port p).refs.head? = some r → o ∉ (s.m.port p).ttDone →
    1000 * (s.m.canCfg p o).period + r < s.m.time.extNow + 10000 → s.m.time.extNow < 1000 * (s.m.canCfg p o).period + r + 10000 →
    Completes (.ttWindowStart p o true) s fun t =>
      (t.m.port p).onBus = some (.object o) ∧ ((t.m.port p).obj o).attempts = 1 ∧ ((t.m.port p).obj o).pending = true ∧
      t.m.sent = .can p ((s.m.canCfg p o).frame (decide ((s.m.port p).err = .passive)) ((s.m.port p).obj o).txData) :: s.m.sent ∧ o ∈ (t.m.port p).ttDone ∧
      (∀ k, k ≠ o → (t.m.port p).obj k = (s.m.port p).obj k) ∧ (∀ q, q ≠ p → t.m.port q = s.m.port q) ∧ Only [.can, .sent] s t)

/-- RECOVER starts the recovery of a port that is bus-off. DETECT starts rate detection at the first rate on a listen-only port and does nothing in another mode. A dwell without a rate goes on to the next rate, and after the last reports 0. ABORT_ALL clears every pending state of the port and sends nothing. CLEAR_FLAGS clears the RS bits of the port and LOST and TX_FAIL of its objects. Recovery clears TEC, REC and every STRANDED. The first read of an object locks it, and the release moves a held frame in; a lock of 2 us is released with LOCK_ABORT. A reference message in succession synchronises a time slave, and the loss of the reference ends TT_SYNC. -/
def Obligations.CanControl : Prop :=
  -- CAN_CTRL_RECOVER
  (∀ (s : State) (p : Nat), s.m.fabricOn = true → p < 4 → (s.m.port p).err = .busOff →
    Completes (.canCtrlRecover p) s fun t =>
      t = { s with m := (s.m.onPort p fun c => { c with err := .recovering }) }) ∧
  -- CAN_CTRL_DETECT
  (∀ (s : State) (p : Nat), s.m.fabricOn = true → p < 4 → (s.m.port p).mode = 2 →
    Completes (.canCtrlDetect p) s fun t =>
      t = { s with m := (s.m.onPort p fun c => { c with detect := some { rate := 0, run := 0, since := s.m.host.ms } }) }) ∧
  -- CAN_CTRL_DETECT in another mode
  (∀ (s : State) (p : Nat), s.m.fabricOn = true → p < 4 → (s.m.port p).mode ≠ 2 →
    Completes (.canCtrlDetect p) s fun t =>
      Unchanged s t) ∧
  -- DETECT_DWELL_EXPIRY, the next rate
  (∀ (s : State) (p : Nat) (d : CanDetect),
    s.m.fabricOn = true → p < 4 → (s.m.port p).detect = some d → s.m.parN (canP p 14) ≤ s.m.host.ms - d.since → d.rate < 8 →
    Completes (.detectDwellExpiry p) s fun t =>
      t = { s with m := (s.m.onPort p fun c => { c with detect := some { rate := d.rate + 1, run := 0, since := s.m.host.ms } }) }) ∧
  -- DETECT_DWELL_EXPIRY, the last rate
  (∀ (s : State) (p : Nat) (d : CanDetect),
    s.m.fabricOn = true → p < 4 → (s.m.port p).detect = some d → s.m.parN (canP p 14) ≤ s.m.host.ms - d.since → 8 ≤ d.rate →
    Completes (.detectDwellExpiry p) s fun t =>
      t = { s with m := ((s.m.onPort p fun c => { c with detect := none, detRate := 0 }).post 0xB003 p bCan (leN 4 0)) }) ∧
  -- CAN_CTRL_ABORT_ALL
  (∀ (s : State) (p : Nat), s.m.fabricOn = true → p < 4 →
    Completes (.canCtrlAbortAll p) s fun t =>
      (∀ o, ((t.m.port p).obj o).pending = false) ∧ (t.m.port p).refPending = false ∧ (∀ o, ((t.m.port p).obj o).txData = ((s.m.port p).obj o).txData) ∧
      (∀ o, ((t.m.port p).obj o).rx = ((s.m.port p).obj o).rx) ∧ (t.m.port p).onBus = (s.m.port p).onBus ∧ (∀ q, q ≠ p → t.m.port q = s.m.port q) ∧ Only [.can] s t) ∧
  -- CAN_CTRL_CLEAR_FLAGS
  (∀ (s : State) (p : Nat), s.m.fabricOn = true → p < 4 →
    Completes (.canCtrlClearFlags p) s fun t =>
      (t.m.port p).lostAny = false ∧ (t.m.port p).txFailAny = false ∧ (t.m.port p).lockAbort = false ∧ (t.m.port p).ttMissAny = false ∧
      (∀ o, ((t.m.port p).obj o).lost = false) ∧ (∀ o, ((t.m.port p).obj o).txFail = false) ∧
      (∀ o, ((t.m.port p).obj o).pending = ((s.m.port p).obj o).pending) ∧ (∀ o, ((t.m.port p).obj o).lostCnt = ((s.m.port p).obj o).lostCnt) ∧
      (∀ q, q ≠ p → t.m.port q = s.m.port q) ∧ Only [.can] s t) ∧
  -- CAN_OBJECT_FIRST_READ, nothing locked
  (∀ (s : State) (p o : Nat), s.m.fabricOn = true → p < 4 → o < 256 → s.m.supDown = false → (s.m.port p).lock = none →
    Completes (.canObjectFirstRead p o) s fun t =>
      t = { s with m := ((s.m.onPort p fun c => { c with lock := some o }).onObj p o fun x => { x with unread := false }) }) ∧
  -- CAN_OBJECT_LAST_READ with a frame held
  (∀ (s : State) (p o : Nat) (r : CanRx), s.m.fabricOn = true → p < 4 → o < 256 → (s.m.port p).lock = some o → (s.m.port p).held = some r →
    Completes (.canObjectLastRead p o) s fun t =>
      (t.m.port p).lock = none ∧ (t.m.port p).held = none ∧ ((t.m.port p).obj o).rx = r ∧ ((t.m.port p).obj o).unread = true ∧
      ((t.m.port p).obj o).valid = true ∧ (t.m.port p).lockAbort = (s.m.port p).lockAbort ∧
      (∀ k, k ≠ o → (t.m.port p).obj k = (s.m.port p).obj k) ∧ (∀ q, q ≠ p → t.m.port q = s.m.port q) ∧ Only [.can] s t) ∧
  -- CAN_LOCK_TIMEOUT with nothing held
  (∀ (s : State) (p o : Nat), s.m.fabricOn = true → p < 4 → (s.m.port p).lock = some o → (s.m.port p).held = none →
    Completes (.canLockTimeout p) s fun t =>
      t = { s with m := (s.m.onPort p fun c => { c with lock := none, held := none, lockAbort := true }) }) ∧
  -- CAN_RECOVERY_COMPLETE
  (∀ (s : State) (p : Nat), s.m.fabricOn = true → p < 4 → (s.m.port p).err = .recovering →
    Completes (.canRecoveryComplete p) s fun t =>
      (t.m.port p).tec = 0 ∧ (t.m.port p).recCnt = 0 ∧ (t.m.port p).err = .active ∧ (∀ o, ((t.m.port p).obj o).stranded = false) ∧
      (∀ o, ((t.m.port p).obj o).pending = ((s.m.port p).obj o).pending) ∧ (∀ o, ((t.m.port p).obj o).txData = ((s.m.port p).obj o).txData) ∧
      Recorded 0xB002 p bCan s.m t.m ∧ (∀ q, q ≠ p → t.m.port q = s.m.port q) ∧ Only [.store, .can, .sent] s t) ∧
  -- TT_LOSS_TIMEOUT
  (∀ (s : State) (p a b : Nat) (l : List Nat),
    s.m.fabricOn = true → p < 4 → (s.m.port p).refs = a :: b :: l → (s.m.port p).ttSync = true → s.m.par (canP p 15) = 2 → 
    (s.m.port p).mode ≠ 0 → s.m.parN (canP p 19) * (a - b) ≤ s.m.time.extNow - a →
    Completes (.ttLossTimeout p) s fun t =>
      t = { s with m := ((s.m.onPort p fun c => { c with ttSync := false }).post 0xB004 p bCan []) }) ∧
  -- TT_REFERENCE_RECEIVE
  (∀ (s : State) (p cycle : Nat), s.m.fabricOn = true → p < 4 → s.m.ttListens p = true → ((s.m.port p).err = .active ∨ (s.m.port p).err = .passive) →
    Completes (.ttReferenceReceive p cycle) s fun t =>
      (t.m.port p).cycle = cycle % 64 ∧ (t.m.port p).refs = (s.m.time.extNow :: (s.m.port p).refs).take 2 ∧
      (t.m.port p).ttSync = ((s.m.port p).ttSync || (!(s.m.port p).refs.isEmpty && decide (cycle % 64 = ((s.m.port p).cycle + 1) % s.m.parN (canP p 18)))) ∧
      (t.m.port p).objs = (s.m.port p).objs ∧ (∀ q, q ≠ p → t.m.port q = s.m.port q) ∧ Only [.can, .free] s t)

/-- A trigger starts a new round whose first slots the sequence running over takes, and counts the slots since the round before as lost. An enabled injected sequence gives its results in order, marks the slots it overlaps as lost, comes before one of lower priority of the same instant, and is an overrun in a round that already had one. Self-calibration stops the lowest converter asked for; its result is taken within the limits, asked for again once beyond them, and fails the converter the second time; in a joining module the next converter then begins.  -/
def Obligations.AdcSequences : Prop :=
  -- ADC_ROUND_TRIGGER, no round before
  (∀ (s : State) (c g b : Nat) (a : Int) (codes : List Int),
    s.m.fabricOn = true → c < 3 → (s.m.adcConv c).running = true → (s.m.adcConv c).calRun = false → 
    (s.m.adcConv c).round = none → a = (s.m.trigNs c s.m.plan.tick : Nat) → (∀ e, (s.m.adcConv c).endNs = some e → e ≤ a) →
    g = (s.m.adcConv c).gap a → b = (s.m.adcConv c).carryLost - g →
    Completes (.adcRoundTrigger c codes) s fun t =>
      t = { s with m := (s.m.onAdcConv c fun x =>
      { x with round := some { start := a, codes := codes, lost := overlapped 0 b, busyTo := b }, endNs := some (a + 10000), lostNow := x.lostNow + g / 500, carryLost := 0 }) }) ∧
  -- ADC_INJECTED_TRIGGER of a comparator
  (∀ (s : State) (c n atNs : Nat) (codes : List Int) (r : AdcRound),
    s.m.fabricOn = true → c < 2 → n / 16 = c → (s.m.adcPar (48 + c) 3).toNat.testBit 0 = true → 
    (s.m.adcConv c).calRun = false → (s.m.adcConv c).running = true → (s.m.adcConv c).round = some r →
    (r.injected = none ∧ r.busyTo ≤ atNs ∨ ∃ q, 0 < q ∧ r.injected = some (atNs, q)) →
    Completes (.adcInjectedTrigger c (some n) atNs codes) s fun t =>
      (t.m.adcConv c).injRes = (List.range 4).map (fun k => ({ code := nth codes k, valid := true, slot := n % 16 } : InjRes)) ∧
      (t.m.adcConv c).round = some { r with injected := some (atNs, 0), lost := r.lost ||| overlapped atNs (atNs + 2000) } ∧
      (t.m.adcConv c).carryLost = atNs + 2000 - 10000 ∧ (∀ k ∈ codes.take 4, (s.m.strMa n k).natAbs ≤ (t.m.strAdc n).injPeak.natAbs) ∧
      (t.m.strAdc n).win = (s.m.strAdc n).win ∧ (∀ k, k ≠ c → t.m.adcConv k = s.m.adcConv k) ∧ (∀ k, k ≠ n → t.m.strAdc k = s.m.strAdc k) ∧ Only [.adc] s t) ∧
  -- ADC_INJECTED_TRIGGER of the carrier in a round that had a sequence, or that one of the round before still takes
  (∀ (s : State) (c u v atNs : Nat) (codes : List Int) (r : AdcRound),
    s.m.fabricOn = true → c < 3 → (s.m.adcPar (48 + c) 3).toNat.testBit 1 = true → 
    (s.m.adcConv c).injGrain ≠ some s.m.plan.grainCnt → s.m.injNs c = some u → u / 10000 = s.m.plan.tick → (s.m.adcConv c).round = some r →
    v = ((u : Int) - r.start).toNat → (r.injected = none ∧ v < r.busyTo ∨ ∃ t q, r.injected = some (t, q) ∧ (t ≠ v ∨ q ≤ 1)) →
    Completes (.adcInjectedTrigger c none atNs codes) s fun t =>
      t = { s with m := ((s.m.onAdcConv c fun x => { x with injGrain := some s.m.plan.grainCnt }).onAdcConv c fun x => { x with injOverrun := true }) }) ∧
  -- ADC_CTRL_INJ_GO
  (∀ (s : State) (c atNs : Nat) (codes : List Int) (r : AdcRound),
    s.m.fabricOn = true → c < 3 → (s.m.adcPar (48 + c) 3).toNat.testBit 2 = true → (s.m.adcConv c).calRun = false → 
    (s.m.adcConv c).running = true → (s.m.adcConv c).round = some r → r.injected = none → r.busyTo ≤ atNs →
    Completes (.adcCtrlInjGo c atNs codes) s fun t =>
      (t.m.adcConv c).injRes = (List.range 4).map (fun k => if k < (s.m.injEntries c).length then ({ code := nth codes k, valid := true, slot := nth (s.m.injEntries c) k } : InjRes) else {}) ∧
      (t.m.adcConv c).round = some { r with injected := some (atNs, 2), lost := r.lost ||| overlapped atNs (atNs + 500 * (s.m.injEntries c).length) } ∧
      (∀ k, k ≠ c → t.m.adcConv k = s.m.adcConv k) ∧ t.m.adc.strs = s.m.adc.strs ∧ Only [.adc] s t) ∧
  -- ADC_CTRL_CAL
  (∀ (s : State) (mask : BitVec 3) (c : Nat) (l : List Nat), s.m.fabricOn = true → setBits 3 mask.toNat = c :: l → (∀ k < 3, (s.m.adcConv k).calRun = false) →
    Completes (.adcCtrlCal mask) s fun t =>
      (t.m.adcConv c).calRun = true ∧ (t.m.adcConv c).running = false ∧ (t.m.adcConv c).round = none ∧ (∀ k, k ≠ c → t.m.adcConv k = s.m.adcConv k) ∧ Only [.prot, .adc] s t) ∧
  -- ADC_CAL_COMPLETE within the limits
  (∀ (s : State) (c : Nat) (offset gain : Int), s.m.fabricOn = true → c < 3 → (s.m.adcConv c).calRun = true → s.m.pair.join ≠ some .calibrate → offset.natAbs ≤ 2000 → gain.natAbs * 100 ≤ 1048576 →
    Completes (.adcCalComplete c offset gain) s fun t =>
      t = { s with m := (s.m.onAdcConv c fun x =>
      { x with scOffset := offset, scGain := gain, calRun := false, running := true, failed := false, refBad := [] }) }) ∧
  -- ADC_CAL_COMPLETE within the limits in a joining module, R395
  (∀ (s : State) (c : Nat) (offset gain : Int),
    s.m.fabricOn = true → c < 2 → (s.m.adcConv c).calRun = true → s.m.pair.join = some .calibrate → offset.natAbs ≤ 2000 → gain.natAbs * 100 ≤ 1048576 →
    Completes (.adcCalComplete c offset gain) s fun t =>
      t.m.adcConv c = { s.m.adcConv c with scOffset := offset, scGain := gain, calRun := false, running := true, failed := false, refBad := [] } ∧
      (t.m.adcConv (c + 1)).calRun = true ∧ (t.m.adcConv (c + 1)).running = false ∧ Only [.prot, .adc] s t) ∧
  -- ADC_CAL_COMPLETE beyond the limits, the first time
  (∀ (s : State) (c : Nat) (offset gain : Int),
    s.m.fabricOn = true → c < 3 → (s.m.adcConv c).calRun = true → (s.m.adcConv c).calAgain = false → 
    (2000 < offset.natAbs ∨ 1048576 < gain.natAbs * 100) →
    Completes (.adcCalComplete c offset gain) s fun t =>
      t = { s with m := (s.m.onAdcConv c fun x => { x with calAgain := true }) }) ∧
  -- ADC_CAL_COMPLETE beyond the limits, the second time
  (∀ (s : State) (c : Nat) (offset gain : Int),
    s.m.fabricOn = true → c < 3 → (s.m.adcConv c).calRun = true → (s.m.adcConv c).calAgain = true → s.m.pair.join ≠ some .calibrate → 
    (2000 < offset.natAbs ∨ 1048576 < gain.natAbs * 100) →
    Completes (.adcCalComplete c offset gain) s fun t =>
      t = { s with m := (s.m.onAdcConv c fun x => { x with calRun := false, running := true, failed := true, calFail := true }) })

/-- An edge of the selected kind that PI_FILTER passes is a pulse. The first pulse after a start is counted and stamped; each later one gives the frequency of the period it completes. 100 ms without a pulse set NO_PULSE. Above 25 mA in current mode the burden opens and the input is invalid; after 1 s it closes again. 100 grains of mismatch with the link set IMPLAUSIBLE. CLR_ADC clears the RS bits of the converters. -/
def Obligations.AnalogueAndPulseInputs : Prop :=
  -- PI_PULSE, the first
  (∀ (s : State) (p held period : Nat) (e : PiEdge), s.m.fabricOn = true → p < 2 →
    e.rising = decide (s.m.adcPar (36 + p) 2 = 0) → (s.m.adcPar (36 + p) 3).toNat ≤ held → (s.m.pi p).seen = false →
    Completes (.piPulse p e held period) s fun t =>
      t = { s with m := (s.m.onPi p fun x =>
      { x with pulses := x.pulses + 1, pulsesNow := x.pulsesNow + 1, edgeGrain := e.grain, edgeNs := e.ns, noPulse := false, lastMs := s.m.host.ms, seen := true }) }) ∧
  -- PI_PULSE, a period completed
  (∀ (s : State) (p held period : Nat) (e : PiEdge), s.m.fabricOn = true → p < 2 →
    e.rising = decide (s.m.adcPar (36 + p) 2 = 0) → (s.m.adcPar (36 + p) 3).toNat ≤ held → (s.m.pi p).seen = true →
    Completes (.piPulse p e held period) s fun t =>
      (t.m.pi p).freq = (rnear (s.m.userCal (36 + p) (s.m.factory (36 + p) (rdiv 1000000000000 (period : Rat))))).toNat ∧ (t.m.pi p).period = period ∧
      (t.m.pi p).pulses = (s.m.pi p).pulses + 1 ∧ (t.m.pi p).valid = true ∧ (t.m.pi p).noPulse = false ∧ (t.m.pi p).edgeGrain = e.grain ∧ (t.m.pi p).edgeNs = e.ns ∧
      (t.m.pi p).periodsNow = (s.m.pi p).periodsNow + 1 ∧ (t.m.pi p).sumNow = (s.m.pi p).sumNow + period ∧
      (∀ k, k ≠ p → t.m.pi k = s.m.pi k) ∧ t.m.adc.convs = s.m.adc.convs ∧ t.m.adc.strs = s.m.adc.strs ∧ Only [.adc] s t) ∧
  -- PI_NO_PULSE_TIMEOUT
  (∀ (s : State) (p : Nat), s.m.fabricOn = true → p < 2 → 100 ≤ s.m.host.ms - (s.m.pi p).lastMs →
    Completes (.piNoPulseTimeout p) s fun t =>
      t = { s with m := (s.m.onPi p fun x => { x with noPulse := true, valid := false }) }) ∧
  -- AI_BURDEN_OPEN
  (∀ (s : State) (a : Nat), s.m.fabricOn = true → a < 4 → (s.m.ai a).mode = 1 → (s.m.ai a).burdenOpen = none →
    Completes (.aiBurdenOpen a) s fun t =>
      t = { s with m := (s.m.onAi a fun x => { x with burdenOpen := some s.m.host.ms, valid := false }) }) ∧
  -- AI_BURDEN_RECLOSE
  (∀ (s : State) (a u : Nat), s.m.fabricOn = true → a < 4 → (s.m.ai a).burdenOpen = some u → 1000 ≤ s.m.host.ms - u →
    Completes (.aiBurdenReclose a) s fun t =>
      t = { s with m := (s.m.onAi a fun x => { x with burdenOpen := none }) }) ∧
  -- IMPLAUSIBLE_CHANGE to implausible
  (∀ (s : State) (n : Nat), s.m.fabricOn = true → n < 32 → (s.m.strAdc n).implausible = false → 100 ≤ (s.m.strAdc n).badRun →
    Completes (.implausibleChange n) s fun t =>
      t = { s with m := ((s.m.onStrAdc n fun a =>
      { a with implausible := true }).post 0xC001 n bAdc ([1, 0, 0, 0] ++ leI 4 (s.m.strAdc n).iMean ++ leI 4 (s.m.link n).iSum)) }) ∧
  -- ADC_CTRL_CLR
  (∀ (s : State), s.m.fabricOn = true →
    Completes (.adcCtrlClr) s fun t =>
      (∀ c < 3, t.m.adcConv c = { s.m.adcConv c with calFail := false, refFail := false, injOverrun := false }) ∧ t.m.adc.strs = s.m.adc.strs ∧ Only [.adc] s t)

/-- An event of the catalogue below the rate limit, or of class 3, is the newest record of the DRAM ring under the next RSEQ with its stamps. A flush falls due by FLUSH_PERIOD, by FLUSH_RECORDS or by a record of class 2; it covers the records not yet durable. Complete, they join the flash ring, leave the SRAM, and the marker holds the last. A second of operating hours forgets the counts; nothing withheld, nothing recorded. A write of the cursor position or control refills the window, and the last word read moves past it. Flash that answers again starts a flush. -/
def Obligations.RecorderRows : Prop :=
  -- RECORD_POST
  (∀ (s : State) (code item block : Nat) (data : List Byte),
    s.m.powered = true → (evCatalogue.any (fun r => r.code == code) = true) → 
    (3 ≤ evClass code ∨ (rateOf s.m.store.rate (code, sourceOf item block)).1 < s.m.parN 0xD082) →
    Completes (.recordPost code item block data) s fun t =>
      t.m.store.dram.getLast? = some (s.m.mkRec code item block data) ∧ t.m.store.recNext = nextRseq (if s.m.store.recNext = 0 then 1 else s.m.store.recNext) ∧
      t.m.store.flashRing = s.m.store.flashRing ∧ t.m.store.markers = s.m.store.markers ∧ t.m.store.recDurable = s.m.store.recDurable ∧
      (s.m.store.sram.length < 4096 → s.m.mkRec code item block data ∈ t.m.store.sram) ∧ Only [.store] s t) ∧
  -- FLUSH_START
  (∀ (s : State) (a b : EventRec),
    s.m.powered = true → s.m.store.flush = none → s.m.store.undurable.head? = some a → 
    s.m.store.undurable.getLast? = some b → 
    (1000 * s.m.parN 0xD080 ≤ s.m.host.ms - s.m.store.lastFlush ∨ s.m.parN 0xD081 ≤ s.m.store.undurable.length ∨ (∃ r ∈ s.m.store.undurable, 2 ≤ r.cls)) → 
    s.m.canFlush = true →
    Completes (.flushStart) s fun t =>
      t.m.store.flush = some ⟨a.rseq, b.rseq, false⟩ ∧ t.m.store.lastFlush = s.m.host.ms ∧ (t.m.dmaCh 2).busy = true ∧ (t.m.dmaCh 2).use = .flush ∧
      t.m.store.sram = s.m.store.sram ∧ t.m.store.dram = s.m.store.dram ∧ t.m.store.recDurable = s.m.store.recDurable ∧ Only [.store] s t) ∧
  -- FLUSH_COMPLETE
  (∀ (s : State) (f : Flush) (u : List EventRec),
    s.m.powered = true → s.m.store.flush = some f → s.m.store.flashReady = true → s.m.store.flashHold = false → 
    s.m.store.flushAgain = false → s.m.store.dropRange = none → u = s.m.store.undurable → 
    u.getLast?.map (·.rseq) = some f.last → (u.map (·.rseq)).Nodup →
    Completes (.flushComplete) s fun t =>
      t.m.store.flashRing = ringAdd s.m.store.flashRing u ∧ t.m.store.recDurable = f.last ∧ t.m.store.mkLastDurable = f.last ∧ t.m.store.mkClean = f.emergency ∧
      t.m.store.flush = none ∧ (∀ r ∈ s.m.store.sram, ∀ x ∈ u, r.rseq = x.rseq → r ∉ t.m.store.sram) ∧ t.m.store.dram = s.m.store.dram ∧
      t.m.store.recNext = s.m.store.recNext ∧ Only [.store] s t) ∧
  -- RATE_SECOND_END, nothing withheld
  (∀ (s : State), s.m.powered = true → s.m.power.opMs % 1000 = 0 → (∀ e ∈ s.m.store.rate, e.2.2 = 0) →
    Completes (.rateSecondEnd) s fun t =>
      t = { s with m := (s.m.onStore fun x => { x with rate := [] }) }) ∧
  -- RATE_SECOND_END, records withheld
  (∀ (s : State) (e : (Nat × Nat) × Nat × Nat), s.m.powered = true → s.m.power.opMs % 1000 = 0 → (s.m.store.rate.filter (fun e => e.2.2 != 0) = [e]) →
    Completes (.rateSecondEnd) s fun t =>
      t = { s with m := ((s.m.onStore fun x =>
      { x with rate := [] }).post 0xD003 0xFF bStore (leN 2 e.1.1 ++ leN 2 e.1.2 ++ leN 4 e.2.2)) }) ∧
  -- REC_CUR_POS_WRITE
  (∀ (s : State) (pos : W32), s.m.powered = true → s.m.cursorServed = true →
    Completes (.recCurPosWrite (some pos) none) s fun t =>
      t.m.store.curPos = pos.toNat ∧ t.m.store.curBad = 0 ∧ t.m.store.curCtrl = s.m.store.curCtrl ∧ t.m.store.curData.length ≤ 16 ∧
      (∀ r ∈ t.m.store.curData, r ∈ s.m.store.flashRing ∨ r ∈ s.m.store.sram ∨ r ∈ s.m.store.markers) ∧ t.m.store.flashRing = s.m.store.flashRing ∧
      t.m.store.dram = s.m.store.dram ∧ t.m.store.recNext = s.m.store.recNext ∧ Only [.store] s t) ∧
  -- REC_CUR_DATA_LAST_READ at the end of the records
  (∀ (s : State) (r : EventRec), s.m.powered = true → s.m.cursorServed = true → s.m.store.curData.getLast? = some r → s.m.store.curEnd = true →
    Completes (.recCurDataLastRead) s fun t =>
      t = { s with m := (s.m.latchesEnd.onStore fun x => { x with curPos := r.rseq, curData := [] }) }) ∧
  -- REC_CUR_DATA_LAST_READ with more records
  (∀ (s : State) (r : EventRec),
    s.m.powered = true → s.m.cursorServed = true → s.m.store.curData.getLast? = some r → s.m.store.curEnd = false → 
    s.m.store.curCtrl.getLsbD 0 = false →
    Completes (.recCurDataLastRead) s fun t =>
      t.m.store.curPos = nextRseq r.rseq ∧ t.m.store.flashRing = s.m.store.flashRing ∧ t.m.store.sram = s.m.store.sram ∧ t.m.store.dram = s.m.store.dram ∧
      t.m.store.recNext = s.m.store.recNext ∧ t.m.store.curCtrl = s.m.store.curCtrl ∧ Only [.store] s t) ∧
  -- FLASH_RESPONSE_CHANGE, flash answers again with records not yet durable
  (∀ (s : State) (a b : EventRec),
    s.m.powered = true → s.m.store.flush = none → s.m.store.undurable.head? = some a → 
    s.m.store.undurable.getLast? = some b → s.m.plan.warm = false → s.m.store.roMask.getLsbD 4 = false → s.m.flashLate = false →
    Completes (.flashResponseChange true) s fun t =>
      t.m.store.flashReady = true ∧ t.m.store.flashHold = false ∧ t.m.store.flush = some ⟨a.rseq, b.rseq, false⟩ ∧ t.m.store.dram = s.m.store.dram ∧ Only [.store] s t) ∧
  -- FLASH_RESPONSE_CHANGE, flash stops answering
  (∀ (s : State), s.m.powered = true →
    Completes (.flashResponseChange false) s fun t =>
      t = { s with m := (s.m.onStore fun x => { x with flashReady := false, flashHold := true }) })

/-- A configuration write that ends becomes the set in force in the other bank under the next generation. A page of a partition that fails is mapped to the reserve. FLASH_WEAR is recorded once at its level. A scrub pass counts corrected errors and poisons no line for them. An uncorrectable error in the rows of buffers poisons its line. A last descriptor ends the chain; another goes on at NEXT; a bad one, and a fault, stop the channel. -/
def Obligations.StorageRows : Prop :=
  -- CONFIG_WRITE_COMPLETE
  (∀ (s : State),
    s.m.powered = true → s.m.store.cfgWriting = true → s.m.store.flashReady = true → s.m.store.flashHold = false → 
    s.m.store.bankInUse = 0 →
    Completes (.configWriteComplete) s fun t =>
      t.m.store.bankInUse = 1 ∧ t.m.store.bank1 = ⟨s.m.store.bank0.generation + 1, true⟩ ∧ t.m.store.bank0 = s.m.store.bank0 ∧
      t.m.store.cfgParams = s.m.host.params ∧ t.m.store.cfgWriting = false ∧ t.m.host.params = s.m.host.params ∧ t.m.host.cfgPending = false ∧ Only [.host, .store] s t) ∧
  -- FLASH_PAGE_WRITE_FAIL
  (∀ (s : State) (p a : Nat), s.m.powered = true → (partitionAt p).1 ≤ a → a < (partitionAt p).1 + (partitionAt p).2 → s.m.store.retired.length < 245760 →
    Completes (.flashPageWriteFail p a) s fun t =>
      t = { s with m := ((s.m.onStore fun x =>
      { x with retired := x.retired ++ [a / 4096 * 4096] }).post 0xD004 0xFF bStore (u8 p ++ List.replicate 7 0 ++ leN 8 a)) }) ∧
  -- FLASH_LIFE_CHANGE at the warning level
  (∀ (s : State) (life : Nat),
    s.m.powered = true → life < 100 → s.m.parN 0xD085 % 256 ≤ life → s.m.store.wearWarned = false → 
    s.m.store.retired.length < 245760 →
    Completes (.flashLifeChange life false) s fun t =>
      t = { s with m := ((s.m.onStore fun x => { x with flashLife := life, wearWarned := true }).post 0xD005 0xFF bStore (u8 life)) }) ∧
  -- FLASH_LIFE_CHANGE at 100 %, the archive first
  (∀ (s : State), s.m.powered = true → s.m.store.wearWarned = true → s.m.store.roMask.getLsbD 5 = false →
    Completes (.flashLifeChange 100 false) s fun t =>
      t.m.store.flashLife = 100 ∧ t.m.store.roMask = s.m.store.roMask ||| 32#6 ∧ Recorded 0xD006 0xFF bStore s.m t.m ∧ Only [.store] s t) ∧
  -- SCRUB_PASS without a line of two wrong bits
  (∀ (s : State) (k : Nat), s.m.powered = true → s.m.store.ceHigh = true → s.m.host.ms - s.m.store.ceHourFrom < 3600000 →
    Completes (.scrubPass k []) s fun t =>
      t = { s with m := (s.m.onStore fun x =>
      { x with scrubAt := s.m.host.ms, ce := stopAt 0xFFFF (x.ce + k), ceHour := x.ceHour + k, ceHigh := true }) }) ∧
  -- DRAM_UE_READ in the exchange area (row 2)
  (∀ (s : State) (a reader bed slot : Nat) (use : DmaUse), s.m.powered = true → 0x80000000 ≤ a → a < 0x81000000 → s.m.store.poison.contains (a / 64 * 64) = false →
    Completes (.dramUeRead a reader bed slot use) s fun t =>
      t.m.store.poison = (a / 64 * 64) :: s.m.store.poison ∧ t.m.store.ue = stopAt 255 (s.m.store.ue + 1) ∧ t.m.store.ueAddr = a / 64 * 64 ∧ t.m.store.dramBad = true ∧
      Recorded 0xD009 0xFF bStore s.m t.m ∧ t.m.host = s.m.host ∧ t.m.plan = s.m.plan ∧ t.m.safety = s.m.safety ∧ t.m.sent = s.m.sent ∧ Only [.plan, .host, .store, .power, .est, .conv, .prot, .safety, .pair, .time, .upd, .sent] s t) ∧
  -- DMA_DESCRIPTOR_DONE, the last
  (∀ (s : State) (ch : Nat) (next x : DmaDesc), s.m.powered = true → ch < 16 → (s.m.dmaCh ch).busy = true → (s.m.dmaCh ch).desc = some x → x.ctrl.getLsbD 0 = true →
    Completes (.dmaDescriptorDone ch next) s fun t =>
      t = { s with m := (s.m.onDma ch fun d => { d with busy := false, done := x.len, desc := none }) }) ∧
  -- DMA_DESCRIPTOR_DONE, the chain goes on
  (∀ (s : State) (ch : Nat) (next x : DmaDesc),
    s.m.powered = true → ch < 16 → (s.m.dmaCh ch).busy = true → (s.m.dmaCh ch).desc = some x → x.ctrl.getLsbD 0 = false → 
    (s.m.dmaCh ch).badDesc next = false →
    Completes (.dmaDescriptorDone ch next) s fun t =>
      t = { s with m := (s.m.onDma ch fun d => { d with desc := some next, descAt := x.next, done := 0 }) }) ∧
  -- DMA_FAULT
  (∀ (s : State) (ch cause bytes : Nat), s.m.powered = true → ch < 16 → ch ≠ 2 → (s.m.dmaCh ch).busy = true → (s.m.dmaCh ch).use = .other →
    Completes (.dmaFault ch cause bytes) s fun t =>
      (t.m.dmaCh ch).busy = false ∧ (t.m.dmaCh ch).fault = true ∧ (t.m.dmaCh ch).cause = cause ∧ (t.m.dmaCh ch).done = bytes ∧ (t.m.dmaCh ch).desc = none ∧
      Recorded 0xD00A ch bStore s.m t.m ∧ (∀ k, k ≠ ch → k ≠ 2 → t.m.dmaCh k = s.m.dmaCh k) ∧ t.m.est = s.m.est ∧ t.m.host = s.m.host ∧ t.m.sent = s.m.sent ∧ Only [.host, .store, .est, .sent] s t)

/-- Insertion begins the start. A cold start counts a power cycle, adds the time without power to the operating hours, takes the straps, and leaves no session, no grain run, GRAIN_CNT zero and no copy of the directory. A module restart, a recovery of power and a return of presence do so without a power cycle, each with its cause. Each start finds the tamper mesh intact, and the cold one finds the cold frame's items. A power failure sets FAILING, keeps the operating hours at its moment, abandons a requested restart, cancels a scheduled activation with its event, and in an unpaired module puts every link that switches into LOCAL_RAMP. The warning of extraction does the same but for the state. With the hold-up exhausted the module is off and the cold frame keeps its keys and counts; a flush under way has written whole pages of its records, how many is free. The cancellation at a power failure and at the warning of extraction is the model's choice (log 62). -/
def Obligations.StartsAndLosses : Prop :=
  -- INSERTION
  (∀ (s : State), s.m.power.state = .off →
    Completes (.insertion) s fun t =>
      t = { s with m := ((s.m.onPair fun p => { p with presence := true }).onPower fun p =>
      { p with state := .starting, inrushLim := true }) }) ∧
  -- COLD_START
  (∀ (s : State) (ins : Bool) (env : StartEnv), s.m.power.state = .off → (s.m.pair.presence = true ∨ ins = true) → env.selftestOk = true → env.meshOk = true → env.cfLost = false →
    Completes (.coldStart ins env) s fun t =>
      t.m.power.pwrCycle = (s.m.power.pwrCycle + 1) % 2 ^ 32 ∧ t.m.power.opMs = (s.m.power.opMs + env.offMs) % 2 ^ 48 ∧ t.m.power.lastCause = 1 ∧
      t.m.power.straps = env.straps ∧ t.m.power.strapValid = strapsValid env.straps ∧ t.m.power.state ≠ .off ∧ t.m.plan.firstGrain = false ∧
      t.m.plan.grainCnt = 0 ∧ t.m.host.sessions = [] ∧ t.m.host.xa = [] ∧ t.dir0 = {} ∧ t.dir1 = {} ∧ t.m.safety.cfg = s.m.safety.cfg ∧
      t.m.upd.minSvn = s.m.upd.minSvn ∧ s.m.sent <:+ t.m.sent ∧ t.pending = s.pending) ∧
  -- MODULE_RESTART
  (∀ (s : State) (env : StartEnv) (r : RestartSeq),
    s.m.power.restart = some r → s.m.restartReady r = true → r.factory = false → s.m.power.state ≠ .failing → 
    s.m.power.state ≠ .off → env.selftestOk = true → env.meshOk = true →
    Completes (.moduleRestart env) s fun t =>
      t.m.power.pwrCycle = s.m.power.pwrCycle ∧ t.m.power.opMs = (s.m.power.opMs + env.offMs) % 2 ^ 48 ∧ t.m.power.lastCause = r.cause ∧
      t.m.power.restart = none ∧ t.m.power.straps = env.straps ∧ t.m.plan.firstGrain = false ∧ t.m.plan.grainCnt = 0 ∧ t.m.host.sessions = [] ∧
      t.m.host.xa = [] ∧ t.dir0 = {} ∧ t.dir1 = {} ∧ t.m.safety.cfg = s.m.safety.cfg ∧ t.pending = s.pending) ∧
  -- POWER_RECOVERED
  (∀ (s : State) (env : StartEnv), s.m.power.state = .failing → s.m.pair.presence = true → env.selftestOk = true → env.meshOk = true →
    Completes (.powerRecovered env) s fun t =>
      t.m.power.lastCause = 11 ∧ t.m.power.pwrCycle = s.m.power.pwrCycle ∧ t.m.power.opMs = (s.m.power.opMs + env.offMs) % 2 ^ 48 ∧ t.m.power.opMsAtFail = none ∧
      t.m.plan.firstGrain = false ∧ t.m.plan.grainCnt = 0 ∧ t.m.host.sessions = [] ∧ t.dir0 = {} ∧ t.dir1 = {} ∧ t.pending = s.pending) ∧
  -- PRESENCE_RETURN
  (∀ (s : State) (env : StartEnv), s.m.pair.extraction = true → s.m.power.state ≠ .off → env.selftestOk = true → env.meshOk = true →
    Completes (.presenceReturn env) s fun t =>
      t.m.power.lastCause = 12 ∧ t.m.power.pwrCycle = s.m.power.pwrCycle ∧ t.m.pair.presence = true ∧ t.m.pair.extraction = false ∧
      t.m.plan.firstGrain = false ∧ t.m.plan.grainCnt = 0 ∧ t.m.host.sessions = [] ∧ t.dir0 = {} ∧ t.dir1 = {} ∧ t.pending = s.pending) ∧
  -- POWER_FAILURE of an unpaired module
  (∀ (s : State) (vin : Nat), s.m.power.state = .running → vin < 37000 → s.m.paired = false →
    Completes (.powerFailure vin) s fun t =>
      t.m.power.state = .failing ∧ t.m.power.powerFail = true ∧ t.m.power.opMsAtFail = some s.m.power.opMs ∧ t.m.power.restart = none ∧ t.m.power.holdupOk = false ∧
      (∀ n < 32, (s.m.link n).st.running = true → (t.m.link n).st = .localRamp) ∧ (∀ n < 32, (s.m.link n).st.running = false → t.m.link n = s.m.link n) ∧
      (s.m.plan.scheduled = none → Recorded 0xE003 0xFF bSup s.m t.m) ∧
      (∀ g c, s.m.plan.scheduled = some g → s.m.plan.staged = some c → t.m.plan.scheduled = none ∧
        ∃ m, Recorded 0xE003 0xFF bSup s.m m ∧ Recorded 0x1008 (if c.kind = 0 then 0xFF else c.bed) bFabric m t.m) ∧
      t.m.pair = s.m.pair ∧ Only [.plan, .store, .power, .conv, .pair, .sent] s t) ∧
  -- POWER_RECOVERED is awaited while the input holds: at 37 V nothing fails
  (∀ (s : State) (vin : Nat), 37000 ≤ vin →
    Completes (.powerFailure vin) s fun t =>
      Unchanged s t) ∧
  -- EXTRACTION_WARNING of an unpaired module
  (∀ (s : State), s.m.pair.extraction = false → s.m.power.state = .running → s.m.paired = false →
    Completes (.extractionWarning) s fun t =>
      t.m.pair.presence = false ∧ t.m.pair.extraction = true ∧ t.m.power.restart = none ∧ t.m.power.state = .running ∧
      (∀ n < 32, (s.m.link n).st.running = true → (t.m.link n).st = .localRamp) ∧ (∀ n < 32, (s.m.link n).st.running = false → t.m.link n = s.m.link n) ∧
      (∀ g c, s.m.plan.scheduled = some g → s.m.plan.staged = some c →
        t.m.plan.scheduled = none ∧ Recorded 0x1008 (if c.kind = 0 then 0xFF else c.bed) bFabric s.m t.m) ∧
      Only [.plan, .store, .power, .conv, .pair, .sent] s t) ∧
  -- HOLDUP_EXHAUSTED
  (∀ (s : State), s.m.power.state = .failing →
    Completes (.holdupExhausted) s fun t =>
      t.m.power.state = .off ∧ t.m.power.opMsAtFail = some (s.m.power.opMsAtFail.getD s.m.power.opMs) ∧ t.m.power.opMs = s.m.power.opMs ∧
      t.m.power.kseal = s.m.power.kseal ∧ t.m.power.credKeys = s.m.power.credKeys ∧ t.m.power.chainRoot = s.m.power.chainRoot ∧ t.m.power.rseqHwm = s.m.power.rseqHwm ∧
      t.m.store.sram = [] ∧ t.m.store.dram = [] ∧ (s.m.store.flush = none → t.m.store.flashRing = s.m.store.flashRing) ∧
      (∀ f, s.m.store.flush = some f → ∃ k, t.m.store.flashRing = ringAdd s.m.store.flashRing ((s.m.store.covered f).take (64 * k))) ∧ t.m.host.sessions = [] ∧ t.m.host.xa = [] ∧
      t.m.plan.firstGrain = false ∧ t.dir0 = {} ∧ t.dir1 = {} ∧ t.m.sent = s.m.sent ∧ t.pending = s.pending)

/-- A press counts; its release below 200 ms does nothing but record it, from 200 ms asks for a warm restart, from 3,000 ms for a module restart. A press of 10,001 ms disarms the button, and 2,000 ms of release arm it. Changed straps are recorded and not taken. A cell below 2,700 mV is recorded once. A network link changes its own bit. The first moment of a mesh violation with response 0 is recorded; an unpowered one erases the cold frame. -/
def Obligations.ButtonStrapsCell : Prop :=
  -- RESTART_BUTTON_PRESS
  (∀ (s : State), s.m.supRuns = true → s.m.power.btnHeld = false →
    Completes (.restartButtonPress) s fun t =>
      t = { s with m := (s.m.onPower fun p =>
      { p with btnHeld := true, presses := stopAt 0xFFFF (p.presses + 1), btnState := if p.btnState = 0 then 1 else p.btnState, btnSince := s.m.host.ms }) }) ∧
  -- RESTART_BUTTON_RELEASE below 200 ms
  (∀ (s : State), s.m.supRuns = true → s.m.power.btnHeld = true → s.m.power.btnState = 1 → s.m.host.ms - s.m.power.btnSince < 200 →
    Completes (.restartButtonRelease) s fun t =>
      t = { s with m := ((s.m.onPower fun p =>
      { p with btnHeld := false, btnState := 0, btnSince := s.m.host.ms }).post 0xE007 0xFF bSup (leN 4 (s.m.host.ms - s.m.power.btnSince) ++ u8 0)) }) ∧
  -- RESTART_BUTTON_RELEASE from 200 ms: a warm restart
  (∀ (s : State),
    s.m.supRuns = true → s.m.power.btnHeld = true → s.m.power.btnState = 1 → 200 ≤ s.m.host.ms - s.m.power.btnSince → 
    s.m.host.ms - s.m.power.btnSince < 3000 → s.m.power.restart = none → s.m.power.state = .running →
    Completes (.restartButtonRelease) s fun t =>
      t.m.plan.warm = true ∧ t.m.plan.warmCause = 2 ∧ t.m.power.lastCause = 2 ∧ t.m.power.warmCount = stopAt 255 (s.m.power.warmCount + 1) ∧ t.m.power.btnHeld = false ∧
      t.m.plan.running = s.m.plan.running ∧ t.m.plan.mode = s.m.plan.mode ∧ t.m.plan.grainCnt = s.m.plan.grainCnt ∧ Only [.plan, .store, .power, .conv, .disp, .pair, .time, .upd, .sent] s t) ∧
  -- RESTART_BUTTON_RELEASE from 3,000 ms: a module restart is asked for
  (∀ (s : State),
    s.m.supRuns = true → s.m.power.btnHeld = true → s.m.power.btnState = 1 → 3000 ≤ s.m.host.ms - s.m.power.btnSince → 
    s.m.host.ms - s.m.power.btnSince ≤ 10000 → s.m.power.restart = none → s.m.power.state = .running → 
    s.m.pair.extraction = false → s.m.paired = false →
    Completes (.restartButtonRelease) s fun t =>
      t.m.power.restart = some { cause := 3, startedMs := s.m.host.ms } ∧ t.m.plan.warm = s.m.plan.warm ∧ t.m.power.btnHeld = false ∧ Only [.plan, .store, .power, .conv, .disp, .pair, .time, .upd, .sent] s t) ∧
  -- BUTTON_STUCK
  (∀ (s : State), s.m.powered = true → s.m.power.btnState = 1 → s.m.power.btnHeld = true → 10001 ≤ s.m.host.ms - s.m.power.btnSince →
    Completes (.buttonStuck) s fun t =>
      t = { s with m := ((s.m.onPower fun p => { p with btnState := 2 }).post 0xE006 0xFF bSup []) }) ∧
  -- BUTTON_REARM
  (∀ (s : State), s.m.powered = true → s.m.power.btnState = 2 → s.m.power.btnHeld = false → 2000 ≤ s.m.host.ms - s.m.power.btnSince →
    Completes (.buttonRearm) s fun t =>
      t = { s with m := (s.m.onPower fun p => { p with btnState := 0 }) }) ∧
  -- STRAP_RECHECK
  (∀ (s : State) (pins : BitVec 9), s.m.supRuns = true → pins ≠ s.m.power.strapPins →
    Completes (.strapRecheck pins) s fun t =>
      t = { s with m := ((s.m.onPower fun p =>
      { p with strapPins := pins, strapChanged := true }).post 0xE005 0xFF bSup (leN 2 s.m.power.strapPins.toNat ++ leN 2 pins.toNat)) }) ∧
  -- CELL_LOW
  (∀ (s : State) (mv : Nat), s.m.powered = true → mv < 2700 → s.m.power.cellLow = false →
    Completes (.cellLow mv) s fun t =>
      t = { s with m := ((s.m.onPower fun p => { p with cellMv := mv, cellLow := true }).post 0xE008 0xFF bCold (leN 2 mv)) }) ∧
  -- NETWORK_LINK_CHANGE up
  (∀ (s : State) (net : Nat), s.m.powered = true → net < 2 →
    Completes (.networkLinkChange net true) s fun t =>
      t = { s with m := (s.m.onPlan fun p => { p with netUp := p.netUp ||| BitVec.ofNat 2 (2 ^ net) }) }) ∧
  -- NETWORK_LINK_CHANGE down
  (∀ (s : State) (net : Nat), s.m.powered = true → net < 2 →
    Completes (.networkLinkChange net false) s fun t =>
      t = { s with m := (s.m.onPlan fun p => { p with netUp := p.netUp &&& ~~~BitVec.ofNat 2 (2 ^ net) }) }) ∧
  -- SEC_VIOLATION of the mesh, powered, response 0
  (∀ (s : State), s.m.power.state = .running → s.m.power.meshOk = true → s.m.power.respMesh = 0 →
    Completes (.secViolation 0 true true) s fun t =>
      t = { s with m := ((s.m.onPower fun p =>
      { p with meshOk := false, meshBreach := true }).post 0xE00A 0xFF bCold (u8 0 ++ u8 1 ++ u8 0)) }) ∧
  -- SEC_VIOLATION of the mesh, without power
  (∀ (s : State), s.m.power.state = .off →
    Completes (.secViolation 0 false true) s fun t =>
      t.m.power.kseal = [] ∧ t.m.power.chainRoot = {} ∧ t.m.power.credKeys = [] ∧ t.m.power.opMs = 0 ∧ t.m.power.cfSignature = 0 ∧
      t.m.power.unpoweredViolation = some (s.m.power.unpoweredViolation.getD 0) ∧ t.m.power.priorRoots = s.m.power.priorRoots ∧
      t.m.store.flashRing = s.m.store.flashRing ∧ t.m.host = s.m.host ∧ t.m.upd = s.m.upd ∧ Only [.host, .store, .power, .pair, .upd, .free] s t)

/-- RV_OPEN under CRED_ID 0xFFFF of an unprovisioned module opens a presence session of a keeper under the zero key; under a credential, a session of its role. RV_CLOSE, 600 s without a request, and the end of USB end the session and close the service window. RV_INFO answers the 83 identity parameters. DIAG_READ and DIAG_WRITE read and write registers, the cursor window without a session too. SVC_ENTER opens the service window while every link is OFF and every safe output off; SVC_LEAVE closes it. RV_RESTART of kind 1 restarts the supervisor after its reply. -/
def Obligations.RovisaSessions : Prop :=
  -- RV_OPEN of an unprovisioned module
  (∀ (s : State) (rq : RvReq),
    s.m.powered = true → s.m.rvServed = true → rq.malformed = false → 
    tlvFault ⟨0x0001, 0, .yes, [0x0001, 0x0002], [], [], true⟩ false rq.tlvs = none → 
    reqNum (rvHost rq) 0x0001 0 2 = 0xFFFF → s.m.provisioned = false →
    Completes (.rvOpen rq) s fun t =>
      (∃ x : RvSession, t.m.upd.session = some x ∧ x.presence = true ∧ x.s.role = 3 ∧ x.s.key = zeroKey ∧ x.s.cred = 0xFFFF ∧ x.s.sid ≠ 0 ∧ x.s.high = rq.seq ∧ x.s.lastReq = s.m.host.ms ∧
      (∃ r : Reply, x.s.cache = [r] ∧ r.status = 0 ∧ r.seq = rq.seq ∧ r.session = x.s.sid ∧ t.m.sent = .rvReply { r with grain := 0 } (packetTag zeroKey ({ r with grain := 0 }.bytes 0x5652)) :: s.m.sent)) ∧
      t.m.upd.usbUp = true ∧ t.m.host.sessions = s.m.host.sessions ∧ t.m.plan = s.m.plan ∧ Only [.host, .store, .upd, .sent, .free] s t) ∧
  -- RV_OPEN under a credential
  (∀ (s : State) (rq : RvReq) (k : List Byte) (role : Nat),
    s.m.powered = true → s.m.rvServed = true → rq.malformed = false → 
    tlvFault ⟨0x0001, 0, .yes, [0x0001, 0x0002], [], [], true⟩ false rq.tlvs = none → 
    s.m.rvCred (reqNum (rvHost rq) 0x0001 0 2) = some (k, role) → reqNum (rvHost rq) 0x0001 0 2 ≠ 0xFFFF → 
    s.m.upd.session = none →
    Completes (.rvOpen rq) s fun t =>
      (∃ x : RvSession, t.m.upd.session = some x ∧ x.presence = false ∧ x.s.role = role ∧ x.s.cred = reqNum (rvHost rq) 0x0001 0 2 ∧ x.s.sid ≠ 0 ∧ x.s.high = rq.seq ∧
      (∃ nM : List Byte, nM.length = 16 ∧ x.s.key = sessionKey k "KXRV" (tlvVal rq.tlvs 0x0002) nM x.s.sid)) ∧
      t.m.upd.usbUp = true ∧ t.m.store = s.m.store ∧ t.m.host.sessions = s.m.host.sessions ∧ t.m.plan = s.m.plan ∧ Only [.host, .store, .upd, .sent, .free] s t) ∧
  -- RV_CLOSE
  (∀ (s : State) (rq : RvReq) (x : RvSession), s.m.RvAdmits 0x0002 rq x → s.m.upd.service = false →
    Completes (.rvClose rq) s fun t =>
      t.m = { (s.m.rvNoted rq x).rvReplied 0x0002 rq x 0 with upd := { ((s.m.rvNoted rq x).rvReplied 0x0002 rq x 0).upd with session := none } } ∧ Only [.plan, .host, .store, .power, .conv, .disp, .prot, .safety, .pair, .time, .can, .adc, .upd, .sent, .free] s t) ∧
  -- RV_INFO
  (∀ (s : State) (rq : RvReq) (x : RvSession), s.m.RvAdmits 0x0003 rq x →
    Completes (.rvInfo rq) s fun t =>
      t = { s with m := ((s.m.rvNoted rq x).rvReplied 0x0003 rq x 0 [⟨0x0021, (List.range 83).flatMap (s.m.rvNoted rq x).paramEntry⟩]) }) ∧
  -- RV_DIAG_READ
  (∀ (s : State) (rq : RvReq) (x : RvSession),
    s.m.RvAdmits 0x0050 rq x → reqNum (rvHost rq) 0x0022 0 4 % 4 = 0 → 
    reqNum (rvHost rq) 0x0022 0 4 + 4 * reqNum (rvHost rq) 0x0022 4 4 ≤ 0x10000 → 1 ≤ reqNum (rvHost rq) 0x0022 4 4 → 
    reqNum (rvHost rq) 0x0022 4 4 ≤ 1024 →
    Completes (.rvDiagRead rq) s fun t =>
      t = { s with m := (((Mod.diagReads ((List.range (reqNum (rvHost rq) 0x0022 4 4)).map fun k => reqNum (rvHost rq) 0x0022 0 4 + 4 * k) (s.m.rvNoted rq x)).2).rvReplied 0x0050 rq x 0 [⟨0x0023, ((Mod.diagReads ((List.range (reqNum (rvHost rq) 0x0022 4 4)).map fun k => reqNum (rvHost rq) 0x0022 0 4 + 4 * k) (s.m.rvNoted rq x)).1).flatMap fun (v : W32) => leN 4 v.toNat⟩]) }) ∧
  -- RV_DIAG_READ of the cursor window without a session
  (∀ (s : State) (rq : RvReq),
    s.m.powered = true → s.m.rvServed = true → rq.session = 0 → 
    (∃ row, opRow rovisaOps 0x0050 = some row ∧ tlvFault row rq.malformed rq.tlvs = none) → 
    reqNum (rvHost rq) 0x0022 0 4 % 4 = 0 → 0x1D40 ≤ reqNum (rvHost rq) 0x0022 0 4 → 
    reqNum (rvHost rq) 0x0022 0 4 + 4 * reqNum (rvHost rq) 0x0022 4 4 ≤ 0x2180 → 1 ≤ reqNum (rvHost rq) 0x0022 4 4 →
    Completes (.rvDiagRead rq) s fun t =>
      t = { s with m := (((Mod.diagReads ((List.range (reqNum (rvHost rq) 0x0022 4 4)).map fun k => reqNum (rvHost rq) 0x0022 0 4 + 4 * k) (s.m.onUpd fun u =>
      { u with usbUp := true })).2).rvSend zeroKey { opcode := 0x0050, seq := rq.seq, tlvs := [⟨0x0023, ((Mod.diagReads ((List.range (reqNum (rvHost rq) 0x0022 4 4)).map fun k => reqNum (rvHost rq) 0x0022 0 4 + 4 * k) (s.m.onUpd fun u =>
      { u with usbUp := true })).1).flatMap fun (v : W32) => leN 4 v.toNat⟩] }) }) ∧
  -- RV_DIAG_WRITE
  (∀ (s : State) (rq : RvReq) (x : RvSession),
    s.m.RvAdmits 0x0051 rq x → reqNum (rvHost rq) 0x0022 0 4 % 4 = 0 → 
    reqNum (rvHost rq) 0x0022 0 4 + 4 * reqNum (rvHost rq) 0x0022 4 4 ≤ 0x10000 → 1 ≤ reqNum (rvHost rq) 0x0022 4 4 → 
    reqNum (rvHost rq) 0x0022 4 4 ≤ 64 → (tlvVal rq.tlvs 0x0023).length = 4 * reqNum (rvHost rq) 0x0022 4 4 → 
    (((s.m.rvNoted rq x).diagWrites ((List.range (reqNum (rvHost rq) 0x0022 4 4)).map fun k => (reqNum (rvHost rq) 0x0022 0 4 + 4 * k, BitVec.ofNat 32 (reqNum (rvHost rq) 0x0023 (4 * k) 4)))).2 = 0) →
    Completes (.rvDiagWrite rq) s fun t =>
      t = { s with m := ((((s.m.rvNoted rq x).diagWrites ((List.range (reqNum (rvHost rq) 0x0022 4 4)).map fun k => (reqNum (rvHost rq) 0x0022 0 4 + 4 * k, BitVec.ofNat 32 (reqNum (rvHost rq) 0x0023 (4 * k) 4)))).1).rvReplied 0x0051 rq x 0) }) ∧
  -- SVC_ENTER
  (∀ (s : State) (rq : RvReq) (x : RvSession), s.m.RvAdmits 0x0060 rq x → strings.all s.m.linkOff = true → (∀ g < 8, (s.m.sq g).on = false) →
    Completes (.svcEnter rq) s fun t =>
      t = { s with m := ((((s.m.rvNoted rq x).onUpd fun u =>
      { u with service := true }).post 0x000D 0xFF bSup (u8 1)).rvReplied 0x0060 rq x 0) }) ∧
  -- SVC_LEAVE
  (∀ (s : State) (rq : RvReq) (x : RvSession), s.m.RvAdmits 0x0061 rq x → s.m.upd.service = true →
    Completes (.svcLeave rq) s fun t =>
      t = { s with m := ((((s.m.rvNoted rq x).onUpd fun u =>
      { u with service := false }).post 0x000D 0xFF bSup (u8 0)).rvReplied 0x0061 rq x 0) }) ∧
  -- RV_RESTART of the supervisor
  (∀ (s : State) (rq : RvReq) (x : RvSession), s.m.RvAdmits 0x0070 rq x → reqNum (rvHost rq) 0x0061 0 1 = 1 →
    Completes (.rvRestart rq) s fun t =>
      t = { s with m := (((s.m.rvNoted rq x).rvReplied 0x0070 rq x 0).warmRestart 4) }) ∧
  -- RV_SESSION_IDLE
  (∀ (s : State) (x : RvSession), s.m.powered = true → s.m.upd.session = some x → 600000 ≤ s.m.host.ms - x.s.lastReq → s.m.upd.service = false →
    Completes (.rvSessionIdle) s fun t =>
      t = { s with m := (s.m.onUpd fun u => { u with session := none }) }) ∧
  -- USB_DISCONNECT with the service window open
  (∀ (s : State) (x : RvSession), s.m.powered = true → s.m.upd.session = some x → s.m.upd.service = true →
    Completes (.usbDisconnect) s fun t =>
      t = { s with m := ((s.m.onUpd fun u =>
      { u with usbUp := false, session := none, service := false }).post 0x000D 0xFF bSup (u8 0)) })

/-- UPD_BEGIN empties the inactive slot and makes it RECEIVING. A block whose CRC holds is stored with its CRC; a first block whose header fails is refused with its code and the slot is EMPTY. UPD_VERIFY starts a verification, whose end makes the slot VERIFIED, or INVALID with its code recorded. UPD_STATUS answers the slot. UPD_ACTIVATE of a verified slot whose other components are those that run makes it TRIAL under the next generation and restarts the supervisor. UPD_ABORT empties the slot. -/
def Obligations.FirmwareUpdate : Prop :=
  -- UPD_BEGIN
  (∀ (s : State) (rq : RvReq) (x : RvSession),
    s.m.RvAdmits 0x0010 rq x → 2 ≤ reqNum (rvHost rq) 0x0100 0 4 → reqNum (rvHost rq) 0x0100 0 4 ≤ 65471 → 
    s.m.inactive.st ≠ .trial → s.m.store.roMask.getLsbD (b2n (!s.m.upd.runB)) = false → s.m.upd.verifying = false →
    Completes (.updBegin rq) s fun t =>
      t = { s with m := ((((s.m.rvNoted rq x).onInactive fun y =>
      { y with st := .receiving, header := none, blockCount := reqNum (rvHost rq) 0x0100 0 4, blocks := [], crcs := [], refusal := 0 }).post 0x0001 0xFF bSup (leN 4 (reqNum (rvHost rq) 0x0100 0 4))).rvReplied 0x0010 rq x 0) }) ∧
  -- UPD_BLOCK after the first
  (∀ (s : State) (rq : RvReq) (x : RvSession),
    s.m.RvAdmits 0x0011 rq x → s.m.inactive.st = .receiving → reqNum (rvHost rq) 0x0101 0 4 < s.m.inactive.blockCount → 
    reqNum (rvHost rq) 0x0101 4 4 = (crc32c ((tlvVal rq.tlvs 0x0101).drop 8)).toNat → reqNum (rvHost rq) 0x0101 0 4 ≠ 0 → 
    s.m.inactive.header.isSome = true →
    Completes (.updBlock rq) s fun t =>
      t = { s with m := (((s.m.rvNoted rq x).onInactive fun y =>
      { y with blocks := tput y.blocks (reqNum (rvHost rq) 0x0101 0 4) ((tlvVal rq.tlvs 0x0101).drop 8), crcs := tput y.crcs (reqNum (rvHost rq) 0x0101 0 4) (crc32c ((tlvVal rq.tlvs 0x0101).drop 8)) }).rvReplied 0x0011 rq x 0) }) ∧
  -- UPD_BLOCK, a first block whose header fails
  (∀ (s : State) (rq : RvReq) (x : RvSession) (c : Nat),
    s.m.RvAdmits 0x0011 rq x → s.m.inactive.st = .receiving → reqNum (rvHost rq) 0x0101 0 4 < s.m.inactive.blockCount → 
    reqNum (rvHost rq) 0x0101 4 4 = (crc32c ((tlvVal rq.tlvs 0x0101).drop 8)).toNat → reqNum (rvHost rq) 0x0101 0 4 = 0 → 
    c = s.m.headerRefusal s.m.inactive.blockCount (headerOf ((tlvVal rq.tlvs 0x0101).drop 8)) → c ≠ 0 →
    Completes (.updBlock rq) s fun t =>
      t.m.inactive = { s.m.inactive with st := .empty, header := none, blockCount := 0, blocks := [], crcs := [], refusal := c } ∧ Recorded 0x0003 0xFF bSup s.m t.m ∧
      t.m.fwSlot s.m.upd.runB = s.m.fwSlot s.m.upd.runB ∧ (∃ r : Reply, ∃ g : List Byte, t.m.sent = .rvReply r g :: s.m.sent ∧ r.status = 0x8005) ∧ Only [.plan, .host, .store, .power, .conv, .disp, .prot, .safety, .pair, .time, .can, .adc, .upd, .sent, .free] s t) ∧
  -- UPD_VERIFY
  (∀ (s : State) (rq : RvReq) (x : RvSession), s.m.RvAdmits 0x0012 rq x → s.m.upd.verifying = false → s.m.inactive.st = .receiving →
    Completes (.updVerify rq) s fun t =>
      t = { s with m := ((((s.m.rvNoted rq x).onInactive fun y => { y with st := .verifying }).onUpd fun u =>
      { u with verifying := true }).rvReplied 0x0012 rq x 1) }) ∧
  -- UPD_VERIFY_COMPLETE
  (∀ (s : State), s.m.powered = true → s.m.upd.verifying = true → s.m.plan.warm = false →
    Completes (.updVerifyComplete) s fun t =>
      t.m.upd.verifying = false ∧ t.m.fwSlot s.m.upd.runB = s.m.fwSlot s.m.upd.runB ∧
      (s.m.inactive.verify = 0 → t.m.inactive = { s.m.inactive with st := .verified, refusal := 0 } ∧ Recorded 0x0002 0xFF bSup s.m t.m) ∧
      (s.m.inactive.verify ≠ 0 → t.m.inactive = { s.m.inactive with st := .invalid, refusal := s.m.inactive.verify } ∧ Recorded 0x0003 0xFF bSup s.m t.m) ∧ Only [.store, .upd] s t) ∧
  -- UPD_STATUS
  (∀ (s : State) (rq : RvReq) (x : RvSession), s.m.RvAdmits 0x0013 rq x →
    Completes (.updStatus rq) s fun t =>
      t = { s with m := ((s.m.rvNoted rq x).rvReplied 0x0013 rq x 0 [s.m.inactive.result s.m.inactive.refusal]) }) ∧
  -- UPD_ACTIVATE of a supervisor component
  (∀ (s : State) (rq : RvReq) (x : RvSession),
    s.m.RvAdmits 0x0014 rq x → s.m.inactive.st = .verified → s.m.moduleKind = false → s.m.upd.recovery = false → s.m.power.restart = none → 
    s.m.power.state = .running →
    Completes (.updActivate rq) s fun t =>
      t.m.inactive.st = .trial ∧ t.m.inactive.generation = (s.m.fwSlot s.m.upd.runB).generation + 1 ∧ t.m.inactive.tries = 0 ∧ t.m.inactive.header = s.m.inactive.header ∧
      t.m.plan.warm = true ∧ t.m.plan.warmCause = 10 ∧ t.m.plan.running = s.m.plan.running ∧ t.m.upd.runB = s.m.upd.runB ∧ t.m.power.restart = none ∧ Only [.plan, .host, .store, .power, .conv, .disp, .prot, .safety, .pair, .time, .can, .adc, .upd, .sent, .free] s t) ∧
  -- UPD_ABORT
  (∀ (s : State) (rq : RvReq) (x : RvSession), s.m.RvAdmits 0x0017 rq x → s.m.inactive.st ≠ .trial →
    Completes (.updAbort rq) s fun t =>
      t = { s with m := ((((s.m.rvNoted rq x).onInactive fun y =>
      { y with st := .empty, header := none, blockCount := 0, blocks := [], crcs := [] }).onUpd fun u =>
      { u with verifying := false }).rvReplied 0x0017 rq x 0) })

/-- SAFE_STAGE of a complete set that passes its checks is held with its time, changes no value in force, and answers the set and its CRC twice. SAFE_COMMIT within 60 s with that CRC and every safe output off is recorded and hands the set to the next safety cycle. KEY_LOAD_CLEAR of a presence session stores the key under its generation. CAL_READ answers the factory records; CAL_RESET zeroes the user calibration of the slots named. Confirmation, by command or after 600 s, makes the running slot ACTIVE. UPD_ROLLBACK activates the other slot. -/
def Obligations.SafetySetKeysCalibration : Prop :=
  -- SAFE_STAGE
  (∀ (s : State) (rq : RvReq) (x : RvSession) (c : Tab (Option Int)),
    s.m.RvAdmits 0x0020 rq x → 
    (c = ((((s.m.rvNoted rq x).paramVals (paramEntries (tlvVal rq.tlvs 0x0103))).foldl (fun t e => tput t e.1 (if e.2 = paramDefault e.1 then none else some e.2)) []) : Tab (Option Int))) → 
    (∀ e ∈ (paramEntries (tlvVal rq.tlvs 0x0103)), safeIds.contains e.1 = true ∧ ((paramEntries (tlvVal rq.tlvs 0x0103)).filter fun y => y.1 == e.1).length = 1) → 
    (s.m.rvNoted rq x).paramFault (paramEntries (tlvVal rq.tlvs 0x0103)) = none → 
    (stageOk (fun i => (tget c i).getD (paramDefault i)) = true) →
    Completes (.safeStage rq) s fun t =>
      t = { s with m := (((s.m.rvNoted rq x).onSafety fun y =>
      { y with staged := some c, stagedMs := y.ms, stagedAgree := y.coresAgree }).rvReplied 0x0020 rq x 0 [⟨0x0103, safeSet c⟩, ⟨0x0104, leN 4 (cfgCrcOf fun i => (tget c i).getD (paramDefault i)).toNat⟩, ⟨0x0103, safeSet c⟩, ⟨0x0104, leN 4 (cfgCrcOf fun i => (tget c i).getD (paramDefault i)).toNat⟩]) }) ∧
  -- SAFE_COMMIT
  (∀ (s : State) (rq : RvReq) (x : RvSession) (c : Tab (Option Int)),
    s.m.RvAdmits 0x0021 rq x → s.m.safety.staged = some c → s.m.safety.stagedAgree = true → 
    (reqNum (rvHost rq) 0x0104 0 4 = (cfgCrcOf fun i => (tget c i).getD (paramDefault i)).toNat) → 
    s.m.safety.ms - s.m.safety.stagedMs < 60000 → (∀ g < 8, (s.m.sq g).on = false) →
    Completes (.safeCommit rq) s fun t =>
      t = { s with m := ((((s.m.rvNoted rq x).onSafety fun y => { y with staged := none, commitCfg := some c }).post 0x000A 0xFF bSafety (leN 4 s.m.safety.cfgCrc.toNat ++ leN 4 (cfgCrcOf fun i => (tget c i).getD (paramDefault i)).toNat)).rvReplied 0x0021 rq x 0) }) ∧
  -- KEY_LOAD_CLEAR
  (∀ (s : State) (rq : RvReq) (x : RvSession),
    s.m.RvAdmits 0x0030 rq x → reqNum (rvHost rq) 0x0105 0 1 < 16 → reqNum (rvHost rq) 0x0105 1 3 = 0 → 
    (tget s.m.power.credKeys (reqNum (rvHost rq) 0x0105 0 1)).generation < reqNum (rvHost rq) 0x0105 4 4 → 
    (((tlvVal rq.tlvs 0x0105).drop 8).take 32).all (· == 0) = false →
    Completes (.keyLoadClear rq) s fun t =>
      t.m = ((s.m.rvNoted rq x).storeKey (reqNum (rvHost rq) 0x0105 0 1) (reqNum (rvHost rq) 0x0105 4 4) (((tlvVal rq.tlvs 0x0105).drop 8).take 32)).rvReplied 0x0030 rq x 0 ∧ (tget t.m.power.credKeys (reqNum (rvHost rq) 0x0105 0 1)).key = ((tlvVal rq.tlvs 0x0105).drop 8).take 32 ∧ (tget t.m.power.credKeys (reqNum (rvHost rq) 0x0105 0 1)).generation = reqNum (rvHost rq) 0x0105 4 4 ∧ t.m.power.chainRoot = s.m.power.chainRoot ∧ Only [.plan, .host, .store, .power, .conv, .disp, .prot, .safety, .pair, .time, .can, .adc, .upd, .sent, .free] s t) ∧
  -- CAL_READ
  (∀ (s : State) (rq : RvReq) (x : RvSession), s.m.RvAdmits 0x0040 rq x →
    Completes (.calRead rq) s fun t =>
      t = { s with m := ((s.m.rvNoted rq x).rvReplied 0x0040 rq x 0 [⟨0x0107, s.m.upd.otpBytes⟩]) }) ∧
  -- CAL_RESET
  (∀ (s : State) (rq : RvReq) (x : RvSession), s.m.RvAdmits 0x0041 rq x → reqNum (rvHost rq) 0x0106 0 8 < 2 ^ 46 → reqNum (rvHost rq) 0x0106 0 8 ≠ 0 →
    Completes (.calReset rq) s fun t =>
      t.m = ((((s.m.rvNoted rq x).each (setBits 46 (reqNum (rvHost rq) 0x0106 0 8)) fun m k => (m.setPar (adcId k 0) 0).setPar (adcId k 1) 0).cfgWrite).post 0x000B 0xFF bSup (leN 8 (reqNum (rvHost rq) 0x0106 0 8))).rvReplied 0x0041 rq x 0 ∧
      (∀ k < 46, (reqNum (rvHost rq) 0x0106 0 8).testBit k = true → t.m.parAcc (adcId k 0) = 0 ∧ t.m.parAcc (adcId k 1) = 0) ∧ (∀ k < 46, (reqNum (rvHost rq) 0x0106 0 8).testBit k = false → t.m.parAcc (adcId k 0) = s.m.parAcc (adcId k 0) ∧ t.m.parAcc (adcId k 1) = s.m.parAcc (adcId k 1)) ∧ Only [.plan, .host, .store, .power, .conv, .disp, .prot, .safety, .pair, .time, .can, .adc, .upd, .sent, .free] s t) ∧
  -- UPD_CONFIRM
  (∀ (s : State) (rq : RvReq) (x : RvSession), s.m.RvAdmits 0x0015 rq x → (s.m.fwSlot s.m.upd.runB).st = .trial →
    Completes (.updConfirm rq) s fun t =>
      t = { s with m := ((s.m.rvNoted rq x).confirm.rvReplied 0x0015 rq x 0) }) ∧
  -- TRIAL_AUTO_CONFIRM
  (∀ (s : State) (u : Nat),
    s.m.powered = true → s.m.upd.trialSince = some u → s.m.plan.warm = false → (s.m.fwSlot s.m.upd.runB).st = .trial → 
    600000 ≤ s.m.host.ms - u →
    Completes (.trialAutoConfirm) s fun t =>
      (t.m.fwSlot s.m.upd.runB).st = .active ∧ t.m.upd.trialSince = none ∧ t.m.upd.runB = s.m.upd.runB ∧
      t.m.upd.minSvn = (if s.m.upd.minSvn < (s.m.fwSlot s.m.upd.runB).hdr.svnFloor ∧ 0 < s.m.upd.fusesLeft then (s.m.fwSlot s.m.upd.runB).hdr.svnFloor else s.m.upd.minSvn) ∧
      t.m.inactive.st = (if s.m.inactive.st = .active then .verified else s.m.inactive.st) ∧ Recorded 0x0006 0xFF bSup s.m t.m ∧ Only [.store, .upd] s t) ∧
  -- UPD_ROLLBACK to a supervisor component
  (∀ (s : State) (rq : RvReq) (x : RvSession),
    s.m.RvAdmits 0x0016 rq x → (s.m.inactive.st = .verified ∨ s.m.inactive.st = .active) → 
    s.m.upd.minSvn ≤ s.m.inactive.hdr.svn → s.m.moduleKind = false → s.m.upd.recovery = false → s.m.power.restart = none → s.m.power.state = .running →
    Completes (.updRollback rq) s fun t =>
      t.m.inactive.st = .trial ∧ t.m.inactive.generation = (s.m.fwSlot s.m.upd.runB).generation + 1 ∧ t.m.plan.warm = true ∧ t.m.plan.warmCause = 10 ∧
      t.m.plan.running = s.m.plan.running ∧ t.m.upd.runB = s.m.upd.runB ∧ Only [.plan, .host, .store, .power, .conv, .disp, .prot, .safety, .pair, .time, .can, .adc, .upd, .sent, .free] s t)

/-- With a command at the front of the queue, the step of a state is that command carried out on the state with the rest of the queue. With an empty queue the step answers the state itself; that the block idles then is the model's choice (log 2). -/
def Obligations.StepTakesTheFront : Prop :=
  -- the front
  (∀ (c : Instr) (rest : List Instr) (s : State), step { s with pending := c :: rest } = exec c { s with pending := rest }) ∧
  -- idle
  (∀ s : State, s.pending = [] → step s = .next s)

/-- Whatever the state and the operands, a command answers a next state: none ends in a fault or a refusal, and none touches the waiting commands. -/
def Obligations.EveryCommandCompletes : Prop :=
  ∀ (i : Instr) (s : State), Completes i s fun t => t.pending = s.pending

/-- Every command of a state keeps all that the module has sent before, in its order: what it sends comes in front of it. -/
def Obligations.NothingSentIsWithdrawn : Prop :=
  ∀ (i : Instr) (s : State), Completes i s fun t => s.m.sent <:+ t.m.sent

/-- For each of the 277 rows mayChange names the parts of the module the row may change, whatever its operands. Every other part is the same after the command as before. The parts are the plan, its clock, the host interface with the exchange area, the storage, the power and cold frame, the chains, the estimators, the converters, dispatch, protection, the safety functions, the pair, time, the CAN ports, the ADC, the update port, what is sent, and the counter of free values. -/
def Obligations.FrameOfEveryCommand : Prop :=
  ∀ (i : Instr) (s : State), Completes i s fun t => ∀ p, p ∉ mayChange i → Part.same s.m t.m p

/-- A command that is not well formed answers the state it found. That it does is the model's choice (log 44): the spec gives such a command no meaning. -/
def Obligations.IllFormedChangesNothing : Prop :=
  ∀ (i : Instr) (s : State), i.wf = false → exec i s = .next s

/-- While the module is off, a command other than insertion, cold start, a security violation, a change of a safe input and the end of the hold-up changes nothing in it. -/
def Obligations.UnpoweredBlock : Prop :=
  ∀ (i : Instr) (s : State), s.m.power.state = .off → s.m.upd.recovery = false → livesUnpowered i = false →
    Completes i s fun t => t.m = s.m

/-- Every command leaves GRAIN_CNT and the mark of the first grain alone, with these exceptions. A grain boundary begins the first grain with the count as it stands, and each later one with the count one higher. A start or a loss of power leaves the count 0 with no grain run. A replay record sets the count of the standby to the grain after its own. A boundary that is due in a running plan always does so. So a plan restart, a bed replant, a warm supervisor restart and a yield leave the count unchanged. -/
def Obligations.GrainCounter : Prop :=
  -- every command
  (∀ (i : Instr) (s : State), Completes i s fun t =>
    (t.m.plan.grainCnt = s.m.plan.grainCnt ∧ t.m.plan.firstGrain = s.m.plan.firstGrain) ∨
    ((∃ dieT, i = .grainBoundary dieT) ∧ t.m.plan.firstGrain = true ∧
      t.m.plan.grainCnt = if s.m.plan.firstGrain then s.m.plan.grainCnt + 1 else s.m.plan.grainCnt) ∨
    (Restarts i = true ∧ t.m.plan.firstGrain = false ∧ t.m.plan.grainCnt = 0) ∨
    (∃ r image exch, i = .replayRecordReceive r image exch ∧ s.m.standby = true ∧ t.m.plan.firstGrain = s.m.plan.firstGrain ∧
      t.m.plan.grainCnt = r.grain + 1)) ∧
  -- every boundary
  (∀ (dieT : Int) (s : State), s.m.planOn = true → s.m.boundaryDue = true → Completes (.grainBoundary dieT) s fun t =>
    t.m.plan.firstGrain = true ∧ t.m.plan.tick = 0 ∧
    t.m.plan.grainCnt = if s.m.plan.firstGrain then s.m.plan.grainCnt + 1 else s.m.plan.grainCnt)

/-- From every state whose tick is within 0 to 99, every step gives a state whose tick is within 0 to 99: the tick values 100 to 127 never occur. -/
def Obligations.TickRange : Prop :=
  ∀ s t : State, s.m.plan.tick < 100 → step s = .next t → t.m.plan.tick < 100

/-- From every state in which the memory of the host exchange area is canonical (addresses strictly rising, no byte listed that equals what an unlisted address reads as), every step gives a state in which it is canonical. -/
def Obligations.MemoryStaysCanonical : Prop :=
  ∀ s t : State, Memory.wf s.m.host.xa = true → step s = .next t → Memory.wf t.m.host.xa = true

/-- From every state in which each complete copy of the point directory is that of its own parity, every step gives such a state: the values of grain g are only ever in copy g mod 2, so the writing of one grain never touches the copy of the grain before. -/
def Obligations.DirectoryCopies : Prop :=
  ∀ s t : State, DirInv s → step s = .next t → DirInv t

/-- After reset the exchange area is canonical, no copy of the directory is complete, the tick and GRAIN_CNT are 0 with no grain run, the module is starting with no part of it powered, no session is open and no command waits. -/
def Obligations.ResetMeetsTheInvariants : Prop :=
  Memory.wf State.reset.m.host.xa = true ∧ DirInv State.reset ∧ State.reset.dir = none ∧ State.reset.m.plan.tick = 0 ∧
    State.reset.m.plan.grainCnt = 0 ∧ State.reset.m.plan.firstGrain = false ∧ State.reset.m.power.state = .starting ∧ State.reset.m.powered = false ∧
    State.reset.m.host.sessions = [] ∧ State.reset.pending = []

/-- When the sequence of R308 is started with a cause for a list of strings, then for each string of it that the running plan configures and that did not have the cause: the cause is latched, the string's link is tripped, the group of its safe output opens or waits for PROT_CONT_DELAY, and every other configured string of the group has a cause, and is tripped where it had none. No cause and no trip held before is taken back, and no group that opened closes. -/
def Obligations.OpeningSequence : Prop :=
  -- what has begun
  (∀ (m : Mod) (l : List Nat) (c gidx : Nat) (val : Int) (n : Nat), 1 ≤ c → c ≤ 18 → n ∈ l → m.configured n = true →
    m.hasCause n c = false →
      (m.openSeqs l c gidx val).Opening n c ∧
      ∀ g k, m.groupOf n = some g → k ∈ m.members g → k ≠ n → m.configured k = true →
        ((m.openSeqs l c gidx val).strProt k).cause ≠ 0 ∧ ((m.strProt k).cause = 0 → (m.openSeqs l c gidx val).Tripped k)) ∧
  -- what is kept
  (∀ (m : Mod) (l : List Nat) (c gidx : Nat) (val : Int), 1 ≤ c → c ≤ 18 →
      (∀ n d, m.hasCause n d = true → (m.openSeqs l c gidx val).hasCause n d = true) ∧
      (∀ n, m.Tripped n → (m.openSeqs l c gidx val).Tripped n) ∧ ∀ g, m.Opens g → (m.openSeqs l c gidx val).Opens g)

/-- A press of an armed button still held at 10,001 ms is declared stuck: BUTTON_STUCK is recorded and the state is DISARMED; before that nothing is declared. The press is discarded: its release only ends it. A disarmed button is armed once it has been released for 2,000 ms, and not before. A press while it is disarmed leaves it disarmed, and the release that follows starts the count again. -/
def Obligations.StuckButton : Prop :=
  -- declared stuck
  (∀ s : State, s.m.powered = true → s.m.power.btnState = 1 → s.m.power.btnHeld = true → 10001 ≤ s.m.host.ms - s.m.power.btnSince →
    Completes .buttonStuck s fun t => t = { s with m := (s.m.onPower fun p => { p with btnState := 2 }).post 0xE006 0xFF bSup [] }) ∧
  -- not before
  (∀ s : State, s.m.host.ms - s.m.power.btnSince < 10001 → Completes .buttonStuck s fun t => t = s) ∧
  -- the press is discarded
  (∀ s : State, s.m.supRuns = true → s.m.power.btnState = 2 → s.m.power.btnHeld = true →
    Completes .restartButtonRelease s fun t => t = { s with m := s.m.onPower fun p => { p with btnHeld := false, btnSince := s.m.host.ms } }) ∧
  -- armed again
  (∀ s : State, s.m.powered = true → s.m.power.btnState = 2 → s.m.power.btnHeld = false → 2000 ≤ s.m.host.ms - s.m.power.btnSince →
    Completes .buttonRearm s fun t => t = { s with m := s.m.onPower fun p => { p with btnState := 0 } }) ∧
  -- armed by an unbroken release only
  (∀ s : State, s.m.power.btnHeld = true ∨ s.m.host.ms - s.m.power.btnSince < 2000 → Completes .buttonRearm s fun t => t = s) ∧
  -- a press while disarmed
  (∀ s : State, s.m.supRuns = true → s.m.power.btnState = 2 → s.m.power.btnHeld = false →
    Completes .restartButtonPress s fun t => t = { s with m := s.m.onPower fun p => { p with btnHeld := true, presses := stopAt 0xFFFF (p.presses + 1), btnSince := s.m.host.ms } })
end

