-- ==== Sys2Proof/Laws/Tab.lean ====
section
/-! SUPPORT. The laws of sparse tables, among them the host exchange area: what a write leaves to be read, and that every
operation keeps the canonical form. -/

namespace Sys2Proof.Machine

variable {α : Type} [Inhabited α] [DecidableEq α]

omit [DecidableEq α] in
theorem tget_tins (t : Tab α) (i k : Nat) (v : α) : tget (tins t i v) k = if k = i then v else tget t k := by
  induction t with
  | nil => simp [tins, tget]
  | cons e t ih =>
    obtain ⟨j, a⟩ := e
    simp only [tins]
    split
    · simp [tget]
    · split
      · next h => subst h; simp only [tget]; split <;> rfl
      · next h1 h2 =>
        simp only [tget, ih]
        split
        · next h => subst h; simp [Ne.symm h2]
        · rfl

omit [DecidableEq α] in
theorem tget_filter (t : Tab α) (i k : Nat) :
    tget (t.filter fun e => e.1 != i) k = if k = i then default else tget t k := by
  induction t with
  | nil => simp [tget]
  | cons e t ih =>
    obtain ⟨j, a⟩ := e
    simp only [List.filter_cons]
    by_cases hj : j = i
    · subst hj
      simp only [bne_self_eq_false, Bool.false_eq_true, if_false, ih]
      by_cases hk : k = j <;> simp [hk, tget]
    · have : (j != i) = true := by simpa using hj
      simp only [this, if_true, tget, ih]
      by_cases hk : k = j
      · subst hk; simp [hj]
      · simp [hk]

/-- A write is read back, and every other entry is as before. -/
theorem tget_tput (t : Tab α) (i k : Nat) (v : α) : tget (tput t i v) k = if k = i then v else tget t k := by
  unfold tput
  split
  · next h => rw [tget_filter, h]
  · exact tget_tins t i k v

@[simp] theorem tget_tput_same (t : Tab α) (i : Nat) (v : α) : tget (tput t i v) i = v := by simp [tget_tput]

theorem tget_tput_ne (t : Tab α) {i k : Nat} (v : α) (h : k ≠ i) : tget (tput t i v) k = tget t k := by simp [tget_tput, h]

/-- A change of one entry changes that entry alone. -/
theorem tget_tmod (t : Tab α) (i k : Nat) (f : α → α) :
    tget (tmod t i f) k = if k = i then f (tget t i) else tget t k := tget_tput t i k _

@[simp] theorem tget_tmod_same (t : Tab α) (i : Nat) (f : α → α) : tget (tmod t i f) i = f (tget t i) := by simp [tget_tmod]

theorem tget_tmod_ne (t : Tab α) {i k : Nat} (f : α → α) (h : k ≠ i) : tget (tmod t i f) k = tget t k := by simp [tget_tmod, h]

omit [DecidableEq α] in
@[simp] theorem tget_nil (i : Nat) : tget ([] : Tab α) i = default := rfl

theorem twfFrom_mono {lo hi : Nat} (t : Tab α) (h : lo ≤ hi) (w : twfFrom hi t = true) : twfFrom lo t = true := by
  cases t with
  | nil => rfl
  | cons e t =>
    obtain ⟨j, a⟩ := e
    simp only [twfFrom, Bool.and_eq_true, decide_eq_true_eq] at w ⊢
    exact ⟨⟨le_trans h w.1.1, w.1.2⟩, w.2⟩

theorem twfFrom_filter (t : Tab α) (i lo : Nat) (w : twfFrom lo t = true) : twfFrom lo (t.filter fun e => e.1 != i) = true := by
  induction t generalizing lo with
  | nil => rfl
  | cons e t ih =>
    obtain ⟨j, a⟩ := e
    simp only [twfFrom, Bool.and_eq_true, decide_eq_true_eq] at w
    simp only [List.filter_cons]
    split
    · simp only [twfFrom, Bool.and_eq_true, decide_eq_true_eq]
      exact ⟨w.1, ih _ w.2⟩
    · exact twfFrom_mono _ (by omega) (ih _ w.2)

theorem twfFrom_tins (t : Tab α) (i lo : Nat) (v : α) (hv : v ≠ default) (hi : lo ≤ i) (w : twfFrom lo t = true) :
    twfFrom lo (tins t i v) = true := by
  induction t generalizing lo with
  | nil => simp [tins, twfFrom, hv, hi]
  | cons e t ih =>
    obtain ⟨j, a⟩ := e
    have w' := w
    simp only [twfFrom, Bool.and_eq_true, decide_eq_true_eq] at w
    simp only [tins]
    split
    · next h => simp only [twfFrom, Bool.and_eq_true, decide_eq_true_eq]; exact ⟨⟨hi, by simpa using hv⟩, ⟨by omega, w.1.2⟩, w.2⟩
    · split
      · next h => subst h; simp only [twfFrom, Bool.and_eq_true, decide_eq_true_eq]; exact ⟨⟨hi, by simpa using hv⟩, w.2⟩
      · simp only [twfFrom, Bool.and_eq_true, decide_eq_true_eq]
        exact ⟨w.1, ih _ (by omega) w.2⟩

/-- A write keeps the canonical form. -/
theorem twf_tput (t : Tab α) (i : Nat) (v : α) (w : twf t = true) : twf (tput t i v) = true := by
  unfold tput
  split
  · exact twfFrom_filter t i 0 w
  · next h => exact twfFrom_tins t i 0 v h (Nat.zero_le _) w

theorem twf_tmod (t : Tab α) (i : Nat) (f : α → α) (w : twf t = true) : twf (tmod t i f) = true := twf_tput t i _ w

/-- A write of bytes keeps the canonical form. -/
theorem twf_tputs (t : Tab Byte) (i : Nat) (bs : List Byte) (w : twf t = true) : twf (tputs t i bs) = true := by
  induction bs generalizing t i with
  | nil => exact w
  | cons b bs ih => exact ih _ _ (twf_tput t i b w)

/-- A write of bytes is read back byte for byte, and every byte outside it is as before. -/
theorem tget_tputs (t : Tab Byte) (i k : Nat) (bs : List Byte) :
    tget (tputs t i bs) k = if i ≤ k ∧ k < i + bs.length then bs.getD (k - i) 0 else tget t k := by
  induction bs generalizing t i with
  | nil => simp only [tputs, List.length_nil, Nat.add_zero]; rw [if_neg (by omega)]
  | cons b bs ih =>
    rw [tputs, ih, tget_tput]
    by_cases h1 : k = i
    · subst h1; simp
    · by_cases h2 : i + 1 ≤ k ∧ k < i + 1 + bs.length
      · have : k - i = (k - (i + 1)) + 1 := by omega
        rw [if_pos h2, if_pos (by simp only [List.length_cons]; omega), this, List.getD_cons_succ]
      · rw [if_neg h2, if_neg h1, if_neg (by simp only [List.length_cons]; omega)]

theorem tgets_tputs (t : Tab Byte) (i : Nat) (bs : List Byte) : tgets (tputs t i bs) i bs.length = bs := by
  apply List.ext_getElem
  · simp [tgets]
  · intro k h1 h2
    simp only [tgets, List.getElem_map, List.getElem_range, tget_tputs]
    rw [if_pos (by omega)]
    simp [List.getElem?_eq_getElem h2]

end Sys2Proof.Machine
end

