-- ==== Sys2Proof/Laws/State.lean ====
section
/-! SUPPORT. The laws of the state: for every update of one part, every field it leaves and the field it changes, true by
definition; and for every indexed item, what an update of one leaves to be read of all. -/

namespace Sys2Proof.Machine

@[simp] theorem Mod.onPlan_fields (m : Mod) (f : PlanSt → PlanSt) :
      (m.onPlan f).plan = f m.plan ∧ (m.onPlan f).host = m.host ∧ (m.onPlan f).store = m.store ∧ (m.onPlan f).power = m.power ∧
      (m.onPlan f).chain = m.chain ∧ (m.onPlan f).est = m.est ∧ (m.onPlan f).conv = m.conv ∧ (m.onPlan f).disp = m.disp ∧
      (m.onPlan f).prot = m.prot ∧ (m.onPlan f).safety = m.safety ∧ (m.onPlan f).pair = m.pair ∧ (m.onPlan f).time = m.time ∧
      (m.onPlan f).can = m.can ∧ (m.onPlan f).adc = m.adc ∧ (m.onPlan f).upd = m.upd ∧ (m.onPlan f).sent = m.sent ∧
      (m.onPlan f).freeCtr = m.freeCtr :=
  ⟨rfl, rfl, rfl, rfl, rfl, rfl, rfl, rfl, rfl, rfl, rfl, rfl, rfl, rfl, rfl, rfl, rfl⟩

@[simp] theorem Mod.onHost_fields (m : Mod) (f : HostSt → HostSt) :
      (m.onHost f).host = f m.host ∧ (m.onHost f).plan = m.plan ∧ (m.onHost f).store = m.store ∧ (m.onHost f).power = m.power ∧
      (m.onHost f).chain = m.chain ∧ (m.onHost f).est = m.est ∧ (m.onHost f).conv = m.conv ∧ (m.onHost f).disp = m.disp ∧
      (m.onHost f).prot = m.prot ∧ (m.onHost f).safety = m.safety ∧ (m.onHost f).pair = m.pair ∧ (m.onHost f).time = m.time ∧
      (m.onHost f).can = m.can ∧ (m.onHost f).adc = m.adc ∧ (m.onHost f).upd = m.upd ∧ (m.onHost f).sent = m.sent ∧
      (m.onHost f).freeCtr = m.freeCtr :=
  ⟨rfl, rfl, rfl, rfl, rfl, rfl, rfl, rfl, rfl, rfl, rfl, rfl, rfl, rfl, rfl, rfl, rfl⟩

@[simp] theorem Mod.onStore_fields (m : Mod) (f : StoreSt → StoreSt) :
      (m.onStore f).store = f m.store ∧ (m.onStore f).plan = m.plan ∧ (m.onStore f).host = m.host ∧ (m.onStore f).power = m.power ∧
      (m.onStore f).chain = m.chain ∧ (m.onStore f).est = m.est ∧ (m.onStore f).conv = m.conv ∧ (m.onStore f).disp = m.disp ∧
      (m.onStore f).prot = m.prot ∧ (m.onStore f).safety = m.safety ∧ (m.onStore f).pair = m.pair ∧ (m.onStore f).time = m.time ∧
      (m.onStore f).can = m.can ∧ (m.onStore f).adc = m.adc ∧ (m.onStore f).upd = m.upd ∧ (m.onStore f).sent = m.sent ∧
      (m.onStore f).freeCtr = m.freeCtr :=
  ⟨rfl, rfl, rfl, rfl, rfl, rfl, rfl, rfl, rfl, rfl, rfl, rfl, rfl, rfl, rfl, rfl, rfl⟩

@[simp] theorem Mod.onPower_fields (m : Mod) (f : PowerSt → PowerSt) :
      (m.onPower f).power = f m.power ∧ (m.onPower f).plan = m.plan ∧ (m.onPower f).host = m.host ∧ (m.onPower f).store = m.store ∧
      (m.onPower f).chain = m.chain ∧ (m.onPower f).est = m.est ∧ (m.onPower f).conv = m.conv ∧ (m.onPower f).disp = m.disp ∧
      (m.onPower f).prot = m.prot ∧ (m.onPower f).safety = m.safety ∧ (m.onPower f).pair = m.pair ∧ (m.onPower f).time = m.time ∧
      (m.onPower f).can = m.can ∧ (m.onPower f).adc = m.adc ∧ (m.onPower f).upd = m.upd ∧ (m.onPower f).sent = m.sent ∧
      (m.onPower f).freeCtr = m.freeCtr :=
  ⟨rfl, rfl, rfl, rfl, rfl, rfl, rfl, rfl, rfl, rfl, rfl, rfl, rfl, rfl, rfl, rfl, rfl⟩

@[simp] theorem Mod.onChain_fields (m : Mod) (f : ChainSt → ChainSt) :
      (m.onChain f).chain = f m.chain ∧ (m.onChain f).plan = m.plan ∧ (m.onChain f).host = m.host ∧ (m.onChain f).store = m.store ∧
      (m.onChain f).power = m.power ∧ (m.onChain f).est = m.est ∧ (m.onChain f).conv = m.conv ∧ (m.onChain f).disp = m.disp ∧
      (m.onChain f).prot = m.prot ∧ (m.onChain f).safety = m.safety ∧ (m.onChain f).pair = m.pair ∧ (m.onChain f).time = m.time ∧
      (m.onChain f).can = m.can ∧ (m.onChain f).adc = m.adc ∧ (m.onChain f).upd = m.upd ∧ (m.onChain f).sent = m.sent ∧
      (m.onChain f).freeCtr = m.freeCtr :=
  ⟨rfl, rfl, rfl, rfl, rfl, rfl, rfl, rfl, rfl, rfl, rfl, rfl, rfl, rfl, rfl, rfl, rfl⟩

@[simp] theorem Mod.onEst_fields (m : Mod) (f : EstSt → EstSt) :
      (m.onEst f).est = f m.est ∧ (m.onEst f).plan = m.plan ∧ (m.onEst f).host = m.host ∧ (m.onEst f).store = m.store ∧
      (m.onEst f).power = m.power ∧ (m.onEst f).chain = m.chain ∧ (m.onEst f).conv = m.conv ∧ (m.onEst f).disp = m.disp ∧
      (m.onEst f).prot = m.prot ∧ (m.onEst f).safety = m.safety ∧ (m.onEst f).pair = m.pair ∧ (m.onEst f).time = m.time ∧ (m.onEst f).can = m.can ∧
      (m.onEst f).adc = m.adc ∧ (m.onEst f).upd = m.upd ∧ (m.onEst f).sent = m.sent ∧ (m.onEst f).freeCtr = m.freeCtr :=
  ⟨rfl, rfl, rfl, rfl, rfl, rfl, rfl, rfl, rfl, rfl, rfl, rfl, rfl, rfl, rfl, rfl, rfl⟩

@[simp] theorem Mod.onConv_fields (m : Mod) (f : ConvSt → ConvSt) :
      (m.onConv f).conv = f m.conv ∧ (m.onConv f).plan = m.plan ∧ (m.onConv f).host = m.host ∧ (m.onConv f).store = m.store ∧
      (m.onConv f).power = m.power ∧ (m.onConv f).chain = m.chain ∧ (m.onConv f).est = m.est ∧ (m.onConv f).disp = m.disp ∧
      (m.onConv f).prot = m.prot ∧ (m.onConv f).safety = m.safety ∧ (m.onConv f).pair = m.pair ∧ (m.onConv f).time = m.time ∧
      (m.onConv f).can = m.can ∧ (m.onConv f).adc = m.adc ∧ (m.onConv f).upd = m.upd ∧ (m.onConv f).sent = m.sent ∧
      (m.onConv f).freeCtr = m.freeCtr :=
  ⟨rfl, rfl, rfl, rfl, rfl, rfl, rfl, rfl, rfl, rfl, rfl, rfl, rfl, rfl, rfl, rfl, rfl⟩

@[simp] theorem Mod.onDisp_fields (m : Mod) (f : DispSt → DispSt) :
      (m.onDisp f).disp = f m.disp ∧ (m.onDisp f).plan = m.plan ∧ (m.onDisp f).host = m.host ∧ (m.onDisp f).store = m.store ∧
      (m.onDisp f).power = m.power ∧ (m.onDisp f).chain = m.chain ∧ (m.onDisp f).est = m.est ∧ (m.onDisp f).conv = m.conv ∧
      (m.onDisp f).prot = m.prot ∧ (m.onDisp f).safety = m.safety ∧ (m.onDisp f).pair = m.pair ∧ (m.onDisp f).time = m.time ∧
      (m.onDisp f).can = m.can ∧ (m.onDisp f).adc = m.adc ∧ (m.onDisp f).upd = m.upd ∧ (m.onDisp f).sent = m.sent ∧
      (m.onDisp f).freeCtr = m.freeCtr :=
  ⟨rfl, rfl, rfl, rfl, rfl, rfl, rfl, rfl, rfl, rfl, rfl, rfl, rfl, rfl, rfl, rfl, rfl⟩

@[simp] theorem Mod.onProt_fields (m : Mod) (f : ProtSt → ProtSt) :
      (m.onProt f).prot = f m.prot ∧ (m.onProt f).plan = m.plan ∧ (m.onProt f).host = m.host ∧ (m.onProt f).store = m.store ∧
      (m.onProt f).power = m.power ∧ (m.onProt f).chain = m.chain ∧ (m.onProt f).est = m.est ∧ (m.onProt f).conv = m.conv ∧
      (m.onProt f).disp = m.disp ∧ (m.onProt f).safety = m.safety ∧ (m.onProt f).pair = m.pair ∧ (m.onProt f).time = m.time ∧
      (m.onProt f).can = m.can ∧ (m.onProt f).adc = m.adc ∧ (m.onProt f).upd = m.upd ∧ (m.onProt f).sent = m.sent ∧
      (m.onProt f).freeCtr = m.freeCtr :=
  ⟨rfl, rfl, rfl, rfl, rfl, rfl, rfl, rfl, rfl, rfl, rfl, rfl, rfl, rfl, rfl, rfl, rfl⟩

@[simp] theorem Mod.onSafety_fields (m : Mod) (f : SafetySt → SafetySt) :
      (m.onSafety f).safety = f m.safety ∧ (m.onSafety f).plan = m.plan ∧ (m.onSafety f).host = m.host ∧ (m.onSafety f).store = m.store ∧
      (m.onSafety f).power = m.power ∧ (m.onSafety f).chain = m.chain ∧ (m.onSafety f).est = m.est ∧ (m.onSafety f).conv = m.conv ∧
      (m.onSafety f).disp = m.disp ∧ (m.onSafety f).prot = m.prot ∧ (m.onSafety f).pair = m.pair ∧ (m.onSafety f).time = m.time ∧
      (m.onSafety f).can = m.can ∧ (m.onSafety f).adc = m.adc ∧ (m.onSafety f).upd = m.upd ∧ (m.onSafety f).sent = m.sent ∧
      (m.onSafety f).freeCtr = m.freeCtr :=
  ⟨rfl, rfl, rfl, rfl, rfl, rfl, rfl, rfl, rfl, rfl, rfl, rfl, rfl, rfl, rfl, rfl, rfl⟩

@[simp] theorem Mod.onPair_fields (m : Mod) (f : PairSt → PairSt) :
      (m.onPair f).pair = f m.pair ∧ (m.onPair f).plan = m.plan ∧ (m.onPair f).host = m.host ∧ (m.onPair f).store = m.store ∧
      (m.onPair f).power = m.power ∧ (m.onPair f).chain = m.chain ∧ (m.onPair f).est = m.est ∧ (m.onPair f).conv = m.conv ∧
      (m.onPair f).disp = m.disp ∧ (m.onPair f).prot = m.prot ∧ (m.onPair f).safety = m.safety ∧ (m.onPair f).time = m.time ∧
      (m.onPair f).can = m.can ∧ (m.onPair f).adc = m.adc ∧ (m.onPair f).upd = m.upd ∧ (m.onPair f).sent = m.sent ∧
      (m.onPair f).freeCtr = m.freeCtr :=
  ⟨rfl, rfl, rfl, rfl, rfl, rfl, rfl, rfl, rfl, rfl, rfl, rfl, rfl, rfl, rfl, rfl, rfl⟩

@[simp] theorem Mod.onTime_fields (m : Mod) (f : TimeSt → TimeSt) :
      (m.onTime f).time = f m.time ∧ (m.onTime f).plan = m.plan ∧ (m.onTime f).host = m.host ∧ (m.onTime f).store = m.store ∧
      (m.onTime f).power = m.power ∧ (m.onTime f).chain = m.chain ∧ (m.onTime f).est = m.est ∧ (m.onTime f).conv = m.conv ∧
      (m.onTime f).disp = m.disp ∧ (m.onTime f).prot = m.prot ∧ (m.onTime f).safety = m.safety ∧ (m.onTime f).pair = m.pair ∧
      (m.onTime f).can = m.can ∧ (m.onTime f).adc = m.adc ∧ (m.onTime f).upd = m.upd ∧ (m.onTime f).sent = m.sent ∧
      (m.onTime f).freeCtr = m.freeCtr :=
  ⟨rfl, rfl, rfl, rfl, rfl, rfl, rfl, rfl, rfl, rfl, rfl, rfl, rfl, rfl, rfl, rfl, rfl⟩

@[simp] theorem Mod.onCan_fields (m : Mod) (f : CanSt → CanSt) :
      (m.onCan f).can = f m.can ∧ (m.onCan f).plan = m.plan ∧ (m.onCan f).host = m.host ∧ (m.onCan f).store = m.store ∧
      (m.onCan f).power = m.power ∧ (m.onCan f).chain = m.chain ∧ (m.onCan f).est = m.est ∧ (m.onCan f).conv = m.conv ∧ (m.onCan f).disp = m.disp ∧
      (m.onCan f).prot = m.prot ∧ (m.onCan f).safety = m.safety ∧ (m.onCan f).pair = m.pair ∧ (m.onCan f).time = m.time ∧ (m.onCan f).adc = m.adc ∧
      (m.onCan f).upd = m.upd ∧ (m.onCan f).sent = m.sent ∧ (m.onCan f).freeCtr = m.freeCtr :=
  ⟨rfl, rfl, rfl, rfl, rfl, rfl, rfl, rfl, rfl, rfl, rfl, rfl, rfl, rfl, rfl, rfl, rfl⟩

@[simp] theorem Mod.onAdc_fields (m : Mod) (f : AdcSt → AdcSt) :
      (m.onAdc f).adc = f m.adc ∧ (m.onAdc f).plan = m.plan ∧ (m.onAdc f).host = m.host ∧ (m.onAdc f).store = m.store ∧
      (m.onAdc f).power = m.power ∧ (m.onAdc f).chain = m.chain ∧ (m.onAdc f).est = m.est ∧ (m.onAdc f).conv = m.conv ∧ (m.onAdc f).disp = m.disp ∧
      (m.onAdc f).prot = m.prot ∧ (m.onAdc f).safety = m.safety ∧ (m.onAdc f).pair = m.pair ∧ (m.onAdc f).time = m.time ∧ (m.onAdc f).can = m.can ∧
      (m.onAdc f).upd = m.upd ∧ (m.onAdc f).sent = m.sent ∧ (m.onAdc f).freeCtr = m.freeCtr :=
  ⟨rfl, rfl, rfl, rfl, rfl, rfl, rfl, rfl, rfl, rfl, rfl, rfl, rfl, rfl, rfl, rfl, rfl⟩

@[simp] theorem Mod.onUpd_fields (m : Mod) (f : UpdSt → UpdSt) :
      (m.onUpd f).upd = f m.upd ∧ (m.onUpd f).plan = m.plan ∧ (m.onUpd f).host = m.host ∧ (m.onUpd f).store = m.store ∧
      (m.onUpd f).power = m.power ∧ (m.onUpd f).chain = m.chain ∧ (m.onUpd f).est = m.est ∧ (m.onUpd f).conv = m.conv ∧ (m.onUpd f).disp = m.disp ∧
      (m.onUpd f).prot = m.prot ∧ (m.onUpd f).safety = m.safety ∧ (m.onUpd f).pair = m.pair ∧ (m.onUpd f).time = m.time ∧ (m.onUpd f).can = m.can ∧
      (m.onUpd f).adc = m.adc ∧ (m.onUpd f).sent = m.sent ∧ (m.onUpd f).freeCtr = m.freeCtr :=
  ⟨rfl, rfl, rfl, rfl, rfl, rfl, rfl, rfl, rfl, rfl, rfl, rfl, rfl, rfl, rfl, rfl, rfl⟩

@[simp] theorem Mod.onRing_fields (m : Mod) (n : Nat) (f : Ring → Ring) :
      (m.onRing n f).ring n = f (m.ring n) ∧ (m.onRing n f).plan = m.plan ∧ (m.onRing n f).host = m.host ∧ (m.onRing n f).store = m.store ∧
      (m.onRing n f).power = m.power ∧ (m.onRing n f).est = m.est ∧ (m.onRing n f).conv = m.conv ∧ (m.onRing n f).disp = m.disp ∧
      (m.onRing n f).prot = m.prot ∧ (m.onRing n f).safety = m.safety ∧ (m.onRing n f).pair = m.pair ∧ (m.onRing n f).time = m.time ∧
      (m.onRing n f).can = m.can ∧ (m.onRing n f).adc = m.adc ∧ (m.onRing n f).upd = m.upd ∧ (m.onRing n f).sent = m.sent ∧
      (m.onRing n f).freeCtr = m.freeCtr ∧ (m.onRing n f).chain.mons = m.chain.mons ∧ (m.onRing n f).chain.cells = m.chain.cells :=
  ⟨tget_tmod_same .., rfl, rfl, rfl, rfl, rfl, rfl, rfl, rfl, rfl, rfl, rfl, rfl, rfl, rfl, rfl, rfl, rfl, rfl⟩

theorem Mod.ring_onRing (m : Mod) (n k : Nat) (f : Ring → Ring) : (m.onRing n f).ring k = if k = n then f (m.ring n) else m.ring k := tget_tmod ..

@[simp] theorem Mod.onCell_fields (m : Mod) (g : Nat) (f : Cell → Cell) :
      (m.onCell g f).cell g = f (m.cell g) ∧ (m.onCell g f).plan = m.plan ∧ (m.onCell g f).host = m.host ∧ (m.onCell g f).store = m.store ∧
      (m.onCell g f).power = m.power ∧ (m.onCell g f).est = m.est ∧ (m.onCell g f).conv = m.conv ∧ (m.onCell g f).disp = m.disp ∧
      (m.onCell g f).prot = m.prot ∧ (m.onCell g f).safety = m.safety ∧ (m.onCell g f).pair = m.pair ∧ (m.onCell g f).time = m.time ∧
      (m.onCell g f).can = m.can ∧ (m.onCell g f).adc = m.adc ∧ (m.onCell g f).upd = m.upd ∧ (m.onCell g f).sent = m.sent ∧
      (m.onCell g f).freeCtr = m.freeCtr ∧ (m.onCell g f).chain.rings = m.chain.rings ∧ (m.onCell g f).chain.mons = m.chain.mons :=
  ⟨tget_tmod_same .., rfl, rfl, rfl, rfl, rfl, rfl, rfl, rfl, rfl, rfl, rfl, rfl, rfl, rfl, rfl, rfl, rfl, rfl⟩

theorem Mod.cell_onCell (m : Mod) (g k : Nat) (f : Cell → Cell) : (m.onCell g f).cell k = if k = g then f (m.cell g) else m.cell k := tget_tmod ..

@[simp] theorem Mod.onCellEst_fields (m : Mod) (g : Nat) (f : CellEst → CellEst) :
      (m.onCellEst g f).cellEst g = f (m.cellEst g) ∧ (m.onCellEst g f).plan = m.plan ∧ (m.onCellEst g f).host = m.host ∧
      (m.onCellEst g f).store = m.store ∧ (m.onCellEst g f).power = m.power ∧ (m.onCellEst g f).chain = m.chain ∧ (m.onCellEst g f).conv = m.conv ∧
      (m.onCellEst g f).disp = m.disp ∧ (m.onCellEst g f).prot = m.prot ∧ (m.onCellEst g f).safety = m.safety ∧ (m.onCellEst g f).pair = m.pair ∧
      (m.onCellEst g f).time = m.time ∧ (m.onCellEst g f).can = m.can ∧ (m.onCellEst g f).adc = m.adc ∧ (m.onCellEst g f).upd = m.upd ∧
      (m.onCellEst g f).sent = m.sent ∧ (m.onCellEst g f).freeCtr = m.freeCtr ∧ (m.onCellEst g f).est.strs = m.est.strs ∧
      (m.onCellEst g f).est.scale = m.est.scale ∧ (m.onCellEst g f).est.limited = m.est.limited ∧ (m.onCellEst g f).est.interval = m.est.interval ∧
      (m.onCellEst g f).est.restore = m.est.restore :=
  ⟨tget_tmod_same .., rfl, rfl, rfl, rfl, rfl, rfl, rfl, rfl, rfl, rfl, rfl, rfl, rfl, rfl, rfl, rfl, rfl, rfl, rfl, rfl, rfl⟩

theorem Mod.cellEst_onCellEst (m : Mod) (g k : Nat) (f : CellEst → CellEst) : (m.onCellEst g f).cellEst k = if k = g then f (m.cellEst g) else m.cellEst k := tget_tmod ..

@[simp] theorem Mod.onStrEst_fields (m : Mod) (n : Nat) (f : StrEst → StrEst) :
      (m.onStrEst n f).strEst n = f (m.strEst n) ∧ (m.onStrEst n f).plan = m.plan ∧ (m.onStrEst n f).host = m.host ∧
      (m.onStrEst n f).store = m.store ∧ (m.onStrEst n f).power = m.power ∧ (m.onStrEst n f).chain = m.chain ∧ (m.onStrEst n f).conv = m.conv ∧
      (m.onStrEst n f).disp = m.disp ∧ (m.onStrEst n f).prot = m.prot ∧ (m.onStrEst n f).safety = m.safety ∧ (m.onStrEst n f).pair = m.pair ∧
      (m.onStrEst n f).time = m.time ∧ (m.onStrEst n f).can = m.can ∧ (m.onStrEst n f).adc = m.adc ∧ (m.onStrEst n f).upd = m.upd ∧
      (m.onStrEst n f).sent = m.sent ∧ (m.onStrEst n f).freeCtr = m.freeCtr ∧ (m.onStrEst n f).est.cells = m.est.cells ∧
      (m.onStrEst n f).est.scale = m.est.scale ∧ (m.onStrEst n f).est.limited = m.est.limited ∧ (m.onStrEst n f).est.interval = m.est.interval ∧
      (m.onStrEst n f).est.restore = m.est.restore :=
  ⟨tget_tmod_same .., rfl, rfl, rfl, rfl, rfl, rfl, rfl, rfl, rfl, rfl, rfl, rfl, rfl, rfl, rfl, rfl, rfl, rfl, rfl, rfl, rfl⟩

theorem Mod.strEst_onStrEst (m : Mod) (n k : Nat) (f : StrEst → StrEst) : (m.onStrEst n f).strEst k = if k = n then f (m.strEst n) else m.strEst k := tget_tmod ..

@[simp] theorem Mod.onLink_fields (m : Mod) (n : Nat) (f : Link → Link) :
      (m.onLink n f).link n = f (m.link n) ∧ (m.onLink n f).plan = m.plan ∧ (m.onLink n f).host = m.host ∧ (m.onLink n f).store = m.store ∧
      (m.onLink n f).power = m.power ∧ (m.onLink n f).chain = m.chain ∧ (m.onLink n f).est = m.est ∧ (m.onLink n f).disp = m.disp ∧
      (m.onLink n f).prot = m.prot ∧ (m.onLink n f).safety = m.safety ∧ (m.onLink n f).pair = m.pair ∧ (m.onLink n f).time = m.time ∧
      (m.onLink n f).can = m.can ∧ (m.onLink n f).adc = m.adc ∧ (m.onLink n f).upd = m.upd ∧ (m.onLink n f).sent = m.sent ∧
      (m.onLink n f).freeCtr = m.freeCtr ∧ (m.onLink n f).conv.phases = m.conv.phases :=
  ⟨tget_tmod_same .., rfl, rfl, rfl, rfl, rfl, rfl, rfl, rfl, rfl, rfl, rfl, rfl, rfl, rfl, rfl, rfl, rfl⟩

theorem Mod.link_onLink (m : Mod) (n k : Nat) (f : Link → Link) : (m.onLink n f).link k = if k = n then f (m.link n) else m.link k := tget_tmod ..

@[simp] theorem Mod.onStrDisp_fields (m : Mod) (n : Nat) (f : StrDisp → StrDisp) :
      (m.onStrDisp n f).strDisp n = f (m.strDisp n) ∧ (m.onStrDisp n f).plan = m.plan ∧ (m.onStrDisp n f).host = m.host ∧
      (m.onStrDisp n f).store = m.store ∧ (m.onStrDisp n f).power = m.power ∧ (m.onStrDisp n f).chain = m.chain ∧ (m.onStrDisp n f).est = m.est ∧
      (m.onStrDisp n f).conv = m.conv ∧ (m.onStrDisp n f).prot = m.prot ∧ (m.onStrDisp n f).safety = m.safety ∧ (m.onStrDisp n f).pair = m.pair ∧
      (m.onStrDisp n f).time = m.time ∧ (m.onStrDisp n f).can = m.can ∧ (m.onStrDisp n f).adc = m.adc ∧ (m.onStrDisp n f).upd = m.upd ∧
      (m.onStrDisp n f).sent = m.sent ∧ (m.onStrDisp n f).freeCtr = m.freeCtr ∧ (m.onStrDisp n f).disp.owner = m.disp.owner ∧
      (m.onStrDisp n f).disp.ownerPrio = m.disp.ownerPrio ∧ (m.onStrDisp n f).disp.exp = m.disp.exp ∧ (m.onStrDisp n f).disp.cmds = m.disp.cmds ∧
      (m.onStrDisp n f).disp.pstate = m.disp.pstate ∧ (m.onStrDisp n f).disp.src = m.disp.src ∧ (m.onStrDisp n f).disp.setPower = m.disp.setPower ∧
      (m.onStrDisp n f).disp.lastTarget = m.disp.lastTarget ∧ (m.onStrDisp n f).disp.srcFault = m.disp.srcFault ∧
      (m.onStrDisp n f).disp.srcBad = m.disp.srcBad ∧ (m.onStrDisp n f).disp.srcGood = m.disp.srcGood ∧
      (m.onStrDisp n f).disp.srcKept = m.disp.srcKept ∧ (m.onStrDisp n f).disp.droopF = m.disp.droopF ∧ (m.onStrDisp n f).disp.p = m.disp.p ∧
      (m.onStrDisp n f).disp.r = m.disp.r ∧ (m.onStrDisp n f).disp.tgt = m.disp.tgt ∧ (m.onStrDisp n f).disp.rLim = m.disp.rLim ∧
      (m.onStrDisp n f).disp.atTarget = m.disp.atTarget ∧ (m.onStrDisp n f).disp.rateLim = m.disp.rateLim ∧
      (m.onStrDisp n f).disp.availLim = m.disp.availLim ∧ (m.onStrDisp n f).disp.shortfall = m.disp.shortfall ∧
      (m.onStrDisp n f).disp.reversing = m.disp.reversing ∧ (m.onStrDisp n f).disp.short = m.disp.short ∧
      (m.onStrDisp n f).disp.move = m.disp.move ∧ (m.onStrDisp n f).disp.kept = m.disp.kept ∧ (m.onStrDisp n f).disp.q = m.disp.q ∧
      (m.onStrDisp n f).disp.moveE = m.disp.moveE ∧ (m.onStrDisp n f).disp.overshoot = m.disp.overshoot ∧
      (m.onStrDisp n f).disp.overNow = m.disp.overNow ∧ (m.onStrDisp n f).disp.shortfallE = m.disp.shortfallE ∧
      (m.onStrDisp n f).disp.availDis = m.disp.availDis ∧ (m.onStrDisp n f).disp.availChg = m.disp.availChg ∧
      (m.onStrDisp n f).disp.s64Latch = m.disp.s64Latch ∧ (m.onStrDisp n f).disp.jobs = m.disp.jobs :=
  ⟨tget_tmod_same .., rfl, rfl, rfl, rfl, rfl, rfl, rfl, rfl, rfl, rfl, rfl, rfl, rfl, rfl, rfl, rfl, rfl, rfl, rfl, rfl, rfl, rfl, rfl, rfl, rfl, rfl, rfl, rfl, rfl, rfl, rfl, rfl, rfl, rfl, rfl, rfl, rfl, rfl, rfl, rfl, rfl, rfl, rfl, rfl, rfl, rfl, rfl, rfl, rfl, rfl⟩

theorem Mod.strDisp_onStrDisp (m : Mod) (n k : Nat) (f : StrDisp → StrDisp) : (m.onStrDisp n f).strDisp k = if k = n then f (m.strDisp n) else m.strDisp k := tget_tmod ..

@[simp] theorem Mod.onStrProt_fields (m : Mod) (n : Nat) (f : StrProt → StrProt) :
      (m.onStrProt n f).strProt n = f (m.strProt n) ∧ (m.onStrProt n f).plan = m.plan ∧ (m.onStrProt n f).host = m.host ∧
      (m.onStrProt n f).store = m.store ∧ (m.onStrProt n f).power = m.power ∧ (m.onStrProt n f).chain = m.chain ∧ (m.onStrProt n f).est = m.est ∧
      (m.onStrProt n f).conv = m.conv ∧ (m.onStrProt n f).disp = m.disp ∧ (m.onStrProt n f).safety = m.safety ∧ (m.onStrProt n f).pair = m.pair ∧
      (m.onStrProt n f).time = m.time ∧ (m.onStrProt n f).can = m.can ∧ (m.onStrProt n f).adc = m.adc ∧ (m.onStrProt n f).upd = m.upd ∧
      (m.onStrProt n f).sent = m.sent ∧ (m.onStrProt n f).freeCtr = m.freeCtr ∧ (m.onStrProt n f).prot.therms = m.prot.therms ∧
      (m.onStrProt n f).prot.groups = m.prot.groups ∧ (m.onStrProt n f).prot.zones = m.prot.zones ∧ (m.onStrProt n f).prot.tMod = m.prot.tMod ∧
      (m.onStrProt n f).prot.warn = m.prot.warn ∧ (m.onStrProt n f).prot.high = m.prot.high ∧ (m.onStrProt n f).prot.trip = m.prot.trip ∧
      (m.onStrProt n f).prot.ocWritten = m.prot.ocWritten ∧ (m.onStrProt n f).prot.ocReadback = m.prot.ocReadback :=
  ⟨tget_tmod_same .., rfl, rfl, rfl, rfl, rfl, rfl, rfl, rfl, rfl, rfl, rfl, rfl, rfl, rfl, rfl, rfl, rfl, rfl, rfl, rfl, rfl, rfl, rfl, rfl, rfl⟩

theorem Mod.strProt_onStrProt (m : Mod) (n k : Nat) (f : StrProt → StrProt) : (m.onStrProt n f).strProt k = if k = n then f (m.strProt n) else m.strProt k := tget_tmod ..

@[simp] theorem Mod.onTherm_fields (m : Mod) (g : Nat) (f : Therm → Therm) :
      (m.onTherm g f).therm g = f (m.therm g) ∧ (m.onTherm g f).plan = m.plan ∧ (m.onTherm g f).host = m.host ∧ (m.onTherm g f).store = m.store ∧
      (m.onTherm g f).power = m.power ∧ (m.onTherm g f).chain = m.chain ∧ (m.onTherm g f).est = m.est ∧ (m.onTherm g f).conv = m.conv ∧
      (m.onTherm g f).disp = m.disp ∧ (m.onTherm g f).safety = m.safety ∧ (m.onTherm g f).pair = m.pair ∧ (m.onTherm g f).time = m.time ∧
      (m.onTherm g f).can = m.can ∧ (m.onTherm g f).adc = m.adc ∧ (m.onTherm g f).upd = m.upd ∧ (m.onTherm g f).sent = m.sent ∧
      (m.onTherm g f).freeCtr = m.freeCtr ∧ (m.onTherm g f).prot.strs = m.prot.strs ∧ (m.onTherm g f).prot.groups = m.prot.groups ∧
      (m.onTherm g f).prot.zones = m.prot.zones ∧ (m.onTherm g f).prot.tMod = m.prot.tMod ∧ (m.onTherm g f).prot.warn = m.prot.warn ∧
      (m.onTherm g f).prot.high = m.prot.high ∧ (m.onTherm g f).prot.trip = m.prot.trip ∧ (m.onTherm g f).prot.ocWritten = m.prot.ocWritten ∧
      (m.onTherm g f).prot.ocReadback = m.prot.ocReadback :=
  ⟨tget_tmod_same .., rfl, rfl, rfl, rfl, rfl, rfl, rfl, rfl, rfl, rfl, rfl, rfl, rfl, rfl, rfl, rfl, rfl, rfl, rfl, rfl, rfl, rfl, rfl, rfl, rfl⟩

theorem Mod.therm_onTherm (m : Mod) (g k : Nat) (f : Therm → Therm) : (m.onTherm g f).therm k = if k = g then f (m.therm g) else m.therm k := tget_tmod ..

@[simp] theorem Mod.onGroup_fields (m : Mod) (g : Nat) (f : Group → Group) :
      (m.onGroup g f).group g = f (m.group g) ∧ (m.onGroup g f).plan = m.plan ∧ (m.onGroup g f).host = m.host ∧ (m.onGroup g f).store = m.store ∧
      (m.onGroup g f).power = m.power ∧ (m.onGroup g f).chain = m.chain ∧ (m.onGroup g f).est = m.est ∧ (m.onGroup g f).conv = m.conv ∧
      (m.onGroup g f).disp = m.disp ∧ (m.onGroup g f).safety = m.safety ∧ (m.onGroup g f).pair = m.pair ∧ (m.onGroup g f).time = m.time ∧
      (m.onGroup g f).can = m.can ∧ (m.onGroup g f).adc = m.adc ∧ (m.onGroup g f).upd = m.upd ∧ (m.onGroup g f).sent = m.sent ∧
      (m.onGroup g f).freeCtr = m.freeCtr ∧ (m.onGroup g f).prot.strs = m.prot.strs ∧ (m.onGroup g f).prot.therms = m.prot.therms ∧
      (m.onGroup g f).prot.zones = m.prot.zones ∧ (m.onGroup g f).prot.tMod = m.prot.tMod ∧ (m.onGroup g f).prot.warn = m.prot.warn ∧
      (m.onGroup g f).prot.high = m.prot.high ∧ (m.onGroup g f).prot.trip = m.prot.trip ∧ (m.onGroup g f).prot.ocWritten = m.prot.ocWritten ∧
      (m.onGroup g f).prot.ocReadback = m.prot.ocReadback :=
  ⟨tget_tmod_same .., rfl, rfl, rfl, rfl, rfl, rfl, rfl, rfl, rfl, rfl, rfl, rfl, rfl, rfl, rfl, rfl, rfl, rfl, rfl, rfl, rfl, rfl, rfl, rfl, rfl⟩

theorem Mod.group_onGroup (m : Mod) (g k : Nat) (f : Group → Group) : (m.onGroup g f).group k = if k = g then f (m.group g) else m.group k := tget_tmod ..

@[simp] theorem Mod.onZone_fields (m : Mod) (z : Nat) (f : Zone → Zone) :
      (m.onZone z f).zone z = f (m.zone z) ∧ (m.onZone z f).plan = m.plan ∧ (m.onZone z f).host = m.host ∧ (m.onZone z f).store = m.store ∧
      (m.onZone z f).power = m.power ∧ (m.onZone z f).chain = m.chain ∧ (m.onZone z f).est = m.est ∧ (m.onZone z f).conv = m.conv ∧
      (m.onZone z f).disp = m.disp ∧ (m.onZone z f).safety = m.safety ∧ (m.onZone z f).pair = m.pair ∧ (m.onZone z f).time = m.time ∧
      (m.onZone z f).can = m.can ∧ (m.onZone z f).adc = m.adc ∧ (m.onZone z f).upd = m.upd ∧ (m.onZone z f).sent = m.sent ∧
      (m.onZone z f).freeCtr = m.freeCtr ∧ (m.onZone z f).prot.strs = m.prot.strs ∧ (m.onZone z f).prot.therms = m.prot.therms ∧
      (m.onZone z f).prot.groups = m.prot.groups ∧ (m.onZone z f).prot.tMod = m.prot.tMod ∧ (m.onZone z f).prot.warn = m.prot.warn ∧
      (m.onZone z f).prot.high = m.prot.high ∧ (m.onZone z f).prot.trip = m.prot.trip ∧ (m.onZone z f).prot.ocWritten = m.prot.ocWritten ∧
      (m.onZone z f).prot.ocReadback = m.prot.ocReadback :=
  ⟨tget_tmod_same .., rfl, rfl, rfl, rfl, rfl, rfl, rfl, rfl, rfl, rfl, rfl, rfl, rfl, rfl, rfl, rfl, rfl, rfl, rfl, rfl, rfl, rfl, rfl, rfl, rfl⟩

theorem Mod.zone_onZone (m : Mod) (z k : Nat) (f : Zone → Zone) : (m.onZone z f).zone k = if k = z then f (m.zone z) else m.zone k := tget_tmod ..

@[simp] theorem Mod.onSi_fields (m : Mod) (i : Nat) (f : SafeIn → SafeIn) :
      (m.onSi i f).si i = f (m.si i) ∧ (m.onSi i f).plan = m.plan ∧ (m.onSi i f).host = m.host ∧ (m.onSi i f).store = m.store ∧
      (m.onSi i f).power = m.power ∧ (m.onSi i f).chain = m.chain ∧ (m.onSi i f).est = m.est ∧ (m.onSi i f).conv = m.conv ∧
      (m.onSi i f).disp = m.disp ∧ (m.onSi i f).prot = m.prot ∧ (m.onSi i f).pair = m.pair ∧ (m.onSi i f).time = m.time ∧ (m.onSi i f).can = m.can ∧
      (m.onSi i f).adc = m.adc ∧ (m.onSi i f).upd = m.upd ∧ (m.onSi i f).sent = m.sent ∧ (m.onSi i f).freeCtr = m.freeCtr ∧
      (m.onSi i f).safety.ms = m.safety.ms ∧ (m.onSi i f).safety.coresAgree = m.safety.coresAgree ∧
      (m.onSi i f).safety.selftestOk = m.safety.selftestOk ∧ (m.onSi i f).safety.cfgValid = m.safety.cfgValid ∧
      (m.onSi i f).safety.cfgCrc = m.safety.cfgCrc ∧ (m.onSi i f).safety.cfg = m.safety.cfg ∧ (m.onSi i f).safety.staged = m.safety.staged ∧
      (m.onSi i f).safety.stagedMs = m.safety.stagedMs ∧ (m.onSi i f).safety.stagedAgree = m.safety.stagedAgree ∧
      (m.onSi i f).safety.oi = m.safety.oi ∧ (m.onSi i f).safety.sq = m.safety.sq ∧ (m.onSi i f).safety.tpFault = m.safety.tpFault ∧
      (m.onSi i f).safety.tpGood = m.safety.tpGood ∧ (m.onSi i f).safety.twoHand = m.safety.twoHand ∧ (m.onSi i f).safety.armAt = m.safety.armAt ∧
      (m.onSi i f).safety.firstL = m.safety.firstL ∧ (m.onSi i f).safety.bpOut = m.safety.bpOut ∧ (m.onSi i f).safety.bpIn = m.safety.bpIn ∧
      (m.onSi i f).safety.bpHold = m.safety.bpHold ∧ (m.onSi i f).safety.runOk = m.safety.runOk ∧
      (m.onSi i f).safety.strDemand = m.safety.strDemand ∧ (m.onSi i f).safety.strWait = m.safety.strWait ∧
      (m.onSi i f).safety.graftDemand = m.safety.graftDemand ∧ (m.onSi i f).safety.graftSafe = m.safety.graftSafe ∧
      (m.onSi i f).safety.resetReq = m.safety.resetReq ∧ (m.onSi i f).safety.stops = m.safety.stops ∧ (m.onSi i f).safety.fallow = m.safety.fallow ∧
      (m.onSi i f).safety.fallowExp = m.safety.fallowExp ∧ (m.onSi i f).safety.fallowExpMod = m.safety.fallowExpMod ∧
      (m.onSi i f).safety.plant = m.safety.plant ∧ (m.onSi i f).safety.graft = m.safety.graft ∧ (m.onSi i f).safety.bpCount = m.safety.bpCount ∧
      (m.onSi i f).safety.resets = m.safety.resets ∧ (m.onSi i f).safety.fieldLow = m.safety.fieldLow ∧
      (m.onSi i f).safety.gapTp0 = m.safety.gapTp0 ∧ (m.onSi i f).safety.gapTp1 = m.safety.gapTp1 :=
  ⟨tget_tmod_same .., rfl, rfl, rfl, rfl, rfl, rfl, rfl, rfl, rfl, rfl, rfl, rfl, rfl, rfl, rfl, rfl, rfl, rfl, rfl, rfl, rfl, rfl, rfl, rfl, rfl, rfl, rfl, rfl, rfl, rfl, rfl, rfl, rfl, rfl, rfl, rfl, rfl, rfl, rfl, rfl, rfl, rfl, rfl, rfl, rfl, rfl, rfl, rfl, rfl, rfl, rfl, rfl⟩

theorem Mod.si_onSi (m : Mod) (i k : Nat) (f : SafeIn → SafeIn) : (m.onSi i f).si k = if k = i then f (m.si i) else m.si k := tget_tmod ..

@[simp] theorem Mod.onOi_fields (m : Mod) (i : Nat) (f : SafeIn → SafeIn) :
      (m.onOi i f).oi i = f (m.oi i) ∧ (m.onOi i f).plan = m.plan ∧ (m.onOi i f).host = m.host ∧ (m.onOi i f).store = m.store ∧
      (m.onOi i f).power = m.power ∧ (m.onOi i f).chain = m.chain ∧ (m.onOi i f).est = m.est ∧ (m.onOi i f).conv = m.conv ∧
      (m.onOi i f).disp = m.disp ∧ (m.onOi i f).prot = m.prot ∧ (m.onOi i f).pair = m.pair ∧ (m.onOi i f).time = m.time ∧ (m.onOi i f).can = m.can ∧
      (m.onOi i f).adc = m.adc ∧ (m.onOi i f).upd = m.upd ∧ (m.onOi i f).sent = m.sent ∧ (m.onOi i f).freeCtr = m.freeCtr ∧
      (m.onOi i f).safety.ms = m.safety.ms ∧ (m.onOi i f).safety.coresAgree = m.safety.coresAgree ∧
      (m.onOi i f).safety.selftestOk = m.safety.selftestOk ∧ (m.onOi i f).safety.cfgValid = m.safety.cfgValid ∧
      (m.onOi i f).safety.cfgCrc = m.safety.cfgCrc ∧ (m.onOi i f).safety.cfg = m.safety.cfg ∧ (m.onOi i f).safety.staged = m.safety.staged ∧
      (m.onOi i f).safety.stagedMs = m.safety.stagedMs ∧ (m.onOi i f).safety.stagedAgree = m.safety.stagedAgree ∧
      (m.onOi i f).safety.si = m.safety.si ∧ (m.onOi i f).safety.sq = m.safety.sq ∧ (m.onOi i f).safety.tpFault = m.safety.tpFault ∧
      (m.onOi i f).safety.tpGood = m.safety.tpGood ∧ (m.onOi i f).safety.twoHand = m.safety.twoHand ∧ (m.onOi i f).safety.armAt = m.safety.armAt ∧
      (m.onOi i f).safety.firstL = m.safety.firstL ∧ (m.onOi i f).safety.bpOut = m.safety.bpOut ∧ (m.onOi i f).safety.bpIn = m.safety.bpIn ∧
      (m.onOi i f).safety.bpHold = m.safety.bpHold ∧ (m.onOi i f).safety.runOk = m.safety.runOk ∧
      (m.onOi i f).safety.strDemand = m.safety.strDemand ∧ (m.onOi i f).safety.strWait = m.safety.strWait ∧
      (m.onOi i f).safety.graftDemand = m.safety.graftDemand ∧ (m.onOi i f).safety.graftSafe = m.safety.graftSafe ∧
      (m.onOi i f).safety.resetReq = m.safety.resetReq ∧ (m.onOi i f).safety.stops = m.safety.stops ∧ (m.onOi i f).safety.fallow = m.safety.fallow ∧
      (m.onOi i f).safety.fallowExp = m.safety.fallowExp ∧ (m.onOi i f).safety.fallowExpMod = m.safety.fallowExpMod ∧
      (m.onOi i f).safety.plant = m.safety.plant ∧ (m.onOi i f).safety.graft = m.safety.graft ∧ (m.onOi i f).safety.bpCount = m.safety.bpCount ∧
      (m.onOi i f).safety.resets = m.safety.resets ∧ (m.onOi i f).safety.fieldLow = m.safety.fieldLow ∧
      (m.onOi i f).safety.gapTp0 = m.safety.gapTp0 ∧ (m.onOi i f).safety.gapTp1 = m.safety.gapTp1 :=
  ⟨tget_tmod_same .., rfl, rfl, rfl, rfl, rfl, rfl, rfl, rfl, rfl, rfl, rfl, rfl, rfl, rfl, rfl, rfl, rfl, rfl, rfl, rfl, rfl, rfl, rfl, rfl, rfl, rfl, rfl, rfl, rfl, rfl, rfl, rfl, rfl, rfl, rfl, rfl, rfl, rfl, rfl, rfl, rfl, rfl, rfl, rfl, rfl, rfl, rfl, rfl, rfl, rfl, rfl, rfl⟩

theorem Mod.oi_onOi (m : Mod) (i k : Nat) (f : SafeIn → SafeIn) : (m.onOi i f).oi k = if k = i then f (m.oi i) else m.oi k := tget_tmod ..

@[simp] theorem Mod.onSq_fields (m : Mod) (g : Nat) (f : SafeOut → SafeOut) :
      (m.onSq g f).sq g = f (m.sq g) ∧ (m.onSq g f).plan = m.plan ∧ (m.onSq g f).host = m.host ∧ (m.onSq g f).store = m.store ∧
      (m.onSq g f).power = m.power ∧ (m.onSq g f).chain = m.chain ∧ (m.onSq g f).est = m.est ∧ (m.onSq g f).conv = m.conv ∧
      (m.onSq g f).disp = m.disp ∧ (m.onSq g f).prot = m.prot ∧ (m.onSq g f).pair = m.pair ∧ (m.onSq g f).time = m.time ∧ (m.onSq g f).can = m.can ∧
      (m.onSq g f).adc = m.adc ∧ (m.onSq g f).upd = m.upd ∧ (m.onSq g f).sent = m.sent ∧ (m.onSq g f).freeCtr = m.freeCtr ∧
      (m.onSq g f).safety.ms = m.safety.ms ∧ (m.onSq g f).safety.coresAgree = m.safety.coresAgree ∧
      (m.onSq g f).safety.selftestOk = m.safety.selftestOk ∧ (m.onSq g f).safety.cfgValid = m.safety.cfgValid ∧
      (m.onSq g f).safety.cfgCrc = m.safety.cfgCrc ∧ (m.onSq g f).safety.cfg = m.safety.cfg ∧ (m.onSq g f).safety.staged = m.safety.staged ∧
      (m.onSq g f).safety.stagedMs = m.safety.stagedMs ∧ (m.onSq g f).safety.stagedAgree = m.safety.stagedAgree ∧
      (m.onSq g f).safety.si = m.safety.si ∧ (m.onSq g f).safety.oi = m.safety.oi ∧ (m.onSq g f).safety.tpFault = m.safety.tpFault ∧
      (m.onSq g f).safety.tpGood = m.safety.tpGood ∧ (m.onSq g f).safety.twoHand = m.safety.twoHand ∧ (m.onSq g f).safety.armAt = m.safety.armAt ∧
      (m.onSq g f).safety.firstL = m.safety.firstL ∧ (m.onSq g f).safety.bpOut = m.safety.bpOut ∧ (m.onSq g f).safety.bpIn = m.safety.bpIn ∧
      (m.onSq g f).safety.bpHold = m.safety.bpHold ∧ (m.onSq g f).safety.runOk = m.safety.runOk ∧
      (m.onSq g f).safety.strDemand = m.safety.strDemand ∧ (m.onSq g f).safety.strWait = m.safety.strWait ∧
      (m.onSq g f).safety.graftDemand = m.safety.graftDemand ∧ (m.onSq g f).safety.graftSafe = m.safety.graftSafe ∧
      (m.onSq g f).safety.resetReq = m.safety.resetReq ∧ (m.onSq g f).safety.stops = m.safety.stops ∧ (m.onSq g f).safety.fallow = m.safety.fallow ∧
      (m.onSq g f).safety.fallowExp = m.safety.fallowExp ∧ (m.onSq g f).safety.fallowExpMod = m.safety.fallowExpMod ∧
      (m.onSq g f).safety.plant = m.safety.plant ∧ (m.onSq g f).safety.graft = m.safety.graft ∧ (m.onSq g f).safety.bpCount = m.safety.bpCount ∧
      (m.onSq g f).safety.resets = m.safety.resets ∧ (m.onSq g f).safety.fieldLow = m.safety.fieldLow ∧
      (m.onSq g f).safety.gapTp0 = m.safety.gapTp0 ∧ (m.onSq g f).safety.gapTp1 = m.safety.gapTp1 :=
  ⟨tget_tmod_same .., rfl, rfl, rfl, rfl, rfl, rfl, rfl, rfl, rfl, rfl, rfl, rfl, rfl, rfl, rfl, rfl, rfl, rfl, rfl, rfl, rfl, rfl, rfl, rfl, rfl, rfl, rfl, rfl, rfl, rfl, rfl, rfl, rfl, rfl, rfl, rfl, rfl, rfl, rfl, rfl, rfl, rfl, rfl, rfl, rfl, rfl, rfl, rfl, rfl, rfl, rfl, rfl⟩

theorem Mod.sq_onSq (m : Mod) (g k : Nat) (f : SafeOut → SafeOut) : (m.onSq g f).sq k = if k = g then f (m.sq g) else m.sq k := tget_tmod ..

@[simp] theorem Mod.onPort_fields (m : Mod) (p : Nat) (f : CanPort → CanPort) :
      (m.onPort p f).port p = f (m.port p) ∧ (m.onPort p f).plan = m.plan ∧ (m.onPort p f).host = m.host ∧ (m.onPort p f).store = m.store ∧
      (m.onPort p f).power = m.power ∧ (m.onPort p f).chain = m.chain ∧ (m.onPort p f).est = m.est ∧ (m.onPort p f).conv = m.conv ∧
      (m.onPort p f).disp = m.disp ∧ (m.onPort p f).prot = m.prot ∧ (m.onPort p f).safety = m.safety ∧ (m.onPort p f).pair = m.pair ∧
      (m.onPort p f).time = m.time ∧ (m.onPort p f).adc = m.adc ∧ (m.onPort p f).upd = m.upd ∧ (m.onPort p f).sent = m.sent ∧
      (m.onPort p f).freeCtr = m.freeCtr :=
  ⟨tget_tmod_same .., rfl, rfl, rfl, rfl, rfl, rfl, rfl, rfl, rfl, rfl, rfl, rfl, rfl, rfl, rfl, rfl⟩

theorem Mod.port_onPort (m : Mod) (p k : Nat) (f : CanPort → CanPort) : (m.onPort p f).port k = if k = p then f (m.port p) else m.port k := tget_tmod ..

@[simp] theorem Mod.onAdcConv_fields (m : Mod) (c : Nat) (f : AdcConv → AdcConv) :
      (m.onAdcConv c f).adcConv c = f (m.adcConv c) ∧ (m.onAdcConv c f).plan = m.plan ∧ (m.onAdcConv c f).host = m.host ∧
      (m.onAdcConv c f).store = m.store ∧ (m.onAdcConv c f).power = m.power ∧ (m.onAdcConv c f).chain = m.chain ∧ (m.onAdcConv c f).est = m.est ∧
      (m.onAdcConv c f).conv = m.conv ∧ (m.onAdcConv c f).disp = m.disp ∧ (m.onAdcConv c f).prot = m.prot ∧ (m.onAdcConv c f).safety = m.safety ∧
      (m.onAdcConv c f).pair = m.pair ∧ (m.onAdcConv c f).time = m.time ∧ (m.onAdcConv c f).can = m.can ∧ (m.onAdcConv c f).upd = m.upd ∧
      (m.onAdcConv c f).sent = m.sent ∧ (m.onAdcConv c f).freeCtr = m.freeCtr ∧ (m.onAdcConv c f).adc.strs = m.adc.strs ∧
      (m.onAdcConv c f).adc.ais = m.adc.ais ∧ (m.onAdcConv c f).adc.pis = m.adc.pis ∧ (m.onAdcConv c f).adc.board = m.adc.board ∧
      (m.onAdcConv c f).adc.boardSum = m.adc.boardSum ∧ (m.onAdcConv c f).adc.boardHold = m.adc.boardHold :=
  ⟨tget_tmod_same .., rfl, rfl, rfl, rfl, rfl, rfl, rfl, rfl, rfl, rfl, rfl, rfl, rfl, rfl, rfl, rfl, rfl, rfl, rfl, rfl, rfl, rfl⟩

theorem Mod.adcConv_onAdcConv (m : Mod) (c k : Nat) (f : AdcConv → AdcConv) : (m.onAdcConv c f).adcConv k = if k = c then f (m.adcConv c) else m.adcConv k := tget_tmod ..

@[simp] theorem Mod.onStrAdc_fields (m : Mod) (n : Nat) (f : StrAdc → StrAdc) :
      (m.onStrAdc n f).strAdc n = f (m.strAdc n) ∧ (m.onStrAdc n f).plan = m.plan ∧ (m.onStrAdc n f).host = m.host ∧
      (m.onStrAdc n f).store = m.store ∧ (m.onStrAdc n f).power = m.power ∧ (m.onStrAdc n f).chain = m.chain ∧ (m.onStrAdc n f).est = m.est ∧
      (m.onStrAdc n f).conv = m.conv ∧ (m.onStrAdc n f).disp = m.disp ∧ (m.onStrAdc n f).prot = m.prot ∧ (m.onStrAdc n f).safety = m.safety ∧
      (m.onStrAdc n f).pair = m.pair ∧ (m.onStrAdc n f).time = m.time ∧ (m.onStrAdc n f).can = m.can ∧ (m.onStrAdc n f).upd = m.upd ∧
      (m.onStrAdc n f).sent = m.sent ∧ (m.onStrAdc n f).freeCtr = m.freeCtr ∧ (m.onStrAdc n f).adc.convs = m.adc.convs ∧
      (m.onStrAdc n f).adc.ais = m.adc.ais ∧ (m.onStrAdc n f).adc.pis = m.adc.pis ∧ (m.onStrAdc n f).adc.board = m.adc.board ∧
      (m.onStrAdc n f).adc.boardSum = m.adc.boardSum ∧ (m.onStrAdc n f).adc.boardHold = m.adc.boardHold :=
  ⟨tget_tmod_same .., rfl, rfl, rfl, rfl, rfl, rfl, rfl, rfl, rfl, rfl, rfl, rfl, rfl, rfl, rfl, rfl, rfl, rfl, rfl, rfl, rfl, rfl⟩

theorem Mod.strAdc_onStrAdc (m : Mod) (n k : Nat) (f : StrAdc → StrAdc) : (m.onStrAdc n f).strAdc k = if k = n then f (m.strAdc n) else m.strAdc k := tget_tmod ..

@[simp] theorem Mod.onAi_fields (m : Mod) (a : Nat) (f : AiCh → AiCh) :
      (m.onAi a f).ai a = f (m.ai a) ∧ (m.onAi a f).plan = m.plan ∧ (m.onAi a f).host = m.host ∧ (m.onAi a f).store = m.store ∧
      (m.onAi a f).power = m.power ∧ (m.onAi a f).chain = m.chain ∧ (m.onAi a f).est = m.est ∧ (m.onAi a f).conv = m.conv ∧
      (m.onAi a f).disp = m.disp ∧ (m.onAi a f).prot = m.prot ∧ (m.onAi a f).safety = m.safety ∧ (m.onAi a f).pair = m.pair ∧
      (m.onAi a f).time = m.time ∧ (m.onAi a f).can = m.can ∧ (m.onAi a f).upd = m.upd ∧ (m.onAi a f).sent = m.sent ∧
      (m.onAi a f).freeCtr = m.freeCtr ∧ (m.onAi a f).adc.convs = m.adc.convs ∧ (m.onAi a f).adc.strs = m.adc.strs ∧
      (m.onAi a f).adc.pis = m.adc.pis ∧ (m.onAi a f).adc.board = m.adc.board ∧ (m.onAi a f).adc.boardSum = m.adc.boardSum ∧
      (m.onAi a f).adc.boardHold = m.adc.boardHold :=
  ⟨tget_tmod_same .., rfl, rfl, rfl, rfl, rfl, rfl, rfl, rfl, rfl, rfl, rfl, rfl, rfl, rfl, rfl, rfl, rfl, rfl, rfl, rfl, rfl, rfl⟩

theorem Mod.ai_onAi (m : Mod) (a k : Nat) (f : AiCh → AiCh) : (m.onAi a f).ai k = if k = a then f (m.ai a) else m.ai k := tget_tmod ..

@[simp] theorem Mod.onPi_fields (m : Mod) (p : Nat) (f : PiCh → PiCh) :
      (m.onPi p f).pi p = f (m.pi p) ∧ (m.onPi p f).plan = m.plan ∧ (m.onPi p f).host = m.host ∧ (m.onPi p f).store = m.store ∧
      (m.onPi p f).power = m.power ∧ (m.onPi p f).chain = m.chain ∧ (m.onPi p f).est = m.est ∧ (m.onPi p f).conv = m.conv ∧
      (m.onPi p f).disp = m.disp ∧ (m.onPi p f).prot = m.prot ∧ (m.onPi p f).safety = m.safety ∧ (m.onPi p f).pair = m.pair ∧
      (m.onPi p f).time = m.time ∧ (m.onPi p f).can = m.can ∧ (m.onPi p f).upd = m.upd ∧ (m.onPi p f).sent = m.sent ∧
      (m.onPi p f).freeCtr = m.freeCtr ∧ (m.onPi p f).adc.convs = m.adc.convs ∧ (m.onPi p f).adc.strs = m.adc.strs ∧
      (m.onPi p f).adc.ais = m.adc.ais ∧ (m.onPi p f).adc.board = m.adc.board ∧ (m.onPi p f).adc.boardSum = m.adc.boardSum ∧
      (m.onPi p f).adc.boardHold = m.adc.boardHold :=
  ⟨tget_tmod_same .., rfl, rfl, rfl, rfl, rfl, rfl, rfl, rfl, rfl, rfl, rfl, rfl, rfl, rfl, rfl, rfl, rfl, rfl, rfl, rfl, rfl, rfl⟩

theorem Mod.pi_onPi (m : Mod) (p k : Nat) (f : PiCh → PiCh) : (m.onPi p f).pi k = if k = p then f (m.pi p) else m.pi k := tget_tmod ..

@[simp] theorem Mod.onDma_fields (m : Mod) (c : Nat) (f : DmaCh → DmaCh) :
      (m.onDma c f).dmaCh c = f (m.dmaCh c) ∧ (m.onDma c f).plan = m.plan ∧ (m.onDma c f).host = m.host ∧ (m.onDma c f).power = m.power ∧
      (m.onDma c f).chain = m.chain ∧ (m.onDma c f).est = m.est ∧ (m.onDma c f).conv = m.conv ∧ (m.onDma c f).disp = m.disp ∧
      (m.onDma c f).prot = m.prot ∧ (m.onDma c f).safety = m.safety ∧ (m.onDma c f).pair = m.pair ∧ (m.onDma c f).time = m.time ∧
      (m.onDma c f).can = m.can ∧ (m.onDma c f).adc = m.adc ∧ (m.onDma c f).upd = m.upd ∧ (m.onDma c f).sent = m.sent ∧
      (m.onDma c f).freeCtr = m.freeCtr ∧ (m.onDma c f).store.recNext = m.store.recNext ∧ (m.onDma c f).store.recDurable = m.store.recDurable ∧
      (m.onDma c f).store.recOldest = m.store.recOldest ∧ (m.onDma c f).store.sram = m.store.sram ∧ (m.onDma c f).store.dram = m.store.dram ∧
      (m.onDma c f).store.flashRing = m.store.flashRing ∧ (m.onDma c f).store.markers = m.store.markers ∧
      (m.onDma c f).store.flush = m.store.flush ∧ (m.onDma c f).store.flushAgain = m.store.flushAgain ∧
      (m.onDma c f).store.lastFlush = m.store.lastFlush ∧ (m.onDma c f).store.sramFull = m.store.sramFull ∧
      (m.onDma c f).store.dramDrop = m.store.dramDrop ∧ (m.onDma c f).store.dropRange = m.store.dropRange ∧
      (m.onDma c f).store.flashHold = m.store.flashHold ∧ (m.onDma c f).store.startClean = m.store.startClean ∧
      (m.onDma c f).store.rate = m.store.rate ∧ (m.onDma c f).store.mkLastDurable = m.store.mkLastDurable ∧
      (m.onDma c f).store.mkClean = m.store.mkClean ∧ (m.onDma c f).store.curPos = m.store.curPos ∧ (m.onDma c f).store.curCtrl = m.store.curCtrl ∧
      (m.onDma c f).store.curData = m.store.curData ∧ (m.onDma c f).store.curEnd = m.store.curEnd ∧ (m.onDma c f).store.curBad = m.store.curBad ∧
      (m.onDma c f).store.queries = m.store.queries ∧ (m.onDma c f).store.flashReady = m.store.flashReady ∧
      (m.onDma c f).store.flashLife = m.store.flashLife ∧ (m.onDma c f).store.wearWarned = m.store.wearWarned ∧
      (m.onDma c f).store.roMask = m.store.roMask ∧ (m.onDma c f).store.retired = m.store.retired ∧ (m.onDma c f).store.ce = m.store.ce ∧
      (m.onDma c f).store.ceHour = m.store.ceHour ∧ (m.onDma c f).store.ceHourFrom = m.store.ceHourFrom ∧
      (m.onDma c f).store.ceHigh = m.store.ceHigh ∧ (m.onDma c f).store.ue = m.store.ue ∧ (m.onDma c f).store.scrubAt = m.store.scrubAt ∧
      (m.onDma c f).store.poison = m.store.poison ∧ (m.onDma c f).store.ueAddr = m.store.ueAddr ∧ (m.onDma c f).store.ueLatch = m.store.ueLatch ∧
      (m.onDma c f).store.dramBad = m.store.dramBad ∧ (m.onDma c f).store.bank0 = m.store.bank0 ∧ (m.onDma c f).store.bank1 = m.store.bank1 ∧
      (m.onDma c f).store.bankInUse = m.store.bankInUse ∧ (m.onDma c f).store.cfgWriting = m.store.cfgWriting ∧
      (m.onDma c f).store.cfgParams = m.store.cfgParams ∧ (m.onDma c f).store.arch = m.store.arch ∧
      (m.onDma c f).store.archCells = m.store.archCells ∧ (m.onDma c f).store.archive = m.store.archive :=
  ⟨tget_tmod_same .., rfl, rfl, rfl, rfl, rfl, rfl, rfl, rfl, rfl, rfl, rfl, rfl, rfl, rfl, rfl, rfl, rfl, rfl, rfl, rfl, rfl, rfl, rfl, rfl, rfl, rfl, rfl, rfl, rfl, rfl, rfl, rfl, rfl, rfl, rfl, rfl, rfl, rfl, rfl, rfl, rfl, rfl, rfl, rfl, rfl, rfl, rfl, rfl, rfl, rfl, rfl, rfl, rfl, rfl, rfl, rfl, rfl, rfl, rfl, rfl, rfl, rfl, rfl⟩

theorem Mod.dmaCh_onDma (m : Mod) (c k : Nat) (f : DmaCh → DmaCh) : (m.onDma c f).dmaCh k = if k = c then f (m.dmaCh c) else m.dmaCh k := tget_tmod ..

@[simp] theorem Mod.onMon_fields (m : Mod) (n a : Nat) (f : Monitor → Monitor) :
      (m.onMon n a f).mon n a = f (m.mon n a) ∧ (m.onMon n a f).plan = m.plan ∧ (m.onMon n a f).host = m.host ∧ (m.onMon n a f).store = m.store ∧
      (m.onMon n a f).power = m.power ∧ (m.onMon n a f).est = m.est ∧ (m.onMon n a f).conv = m.conv ∧ (m.onMon n a f).disp = m.disp ∧
      (m.onMon n a f).prot = m.prot ∧ (m.onMon n a f).safety = m.safety ∧ (m.onMon n a f).pair = m.pair ∧ (m.onMon n a f).time = m.time ∧
      (m.onMon n a f).can = m.can ∧ (m.onMon n a f).adc = m.adc ∧ (m.onMon n a f).upd = m.upd ∧ (m.onMon n a f).sent = m.sent ∧
      (m.onMon n a f).freeCtr = m.freeCtr ∧ (m.onMon n a f).chain.rings = m.chain.rings ∧ (m.onMon n a f).chain.cells = m.chain.cells :=
  ⟨tget_tmod_same .., rfl, rfl, rfl, rfl, rfl, rfl, rfl, rfl, rfl, rfl, rfl, rfl, rfl, rfl, rfl, rfl, rfl, rfl⟩

theorem Mod.mon_onMon (m : Mod) (n a k j : Nat) (f : Monitor → Monitor) :
    (m.onMon n a f).mon k j = if 40 * k + j = 40 * n + a then f (m.mon n a) else m.mon k j := tget_tmod ..

@[simp] theorem Mod.onPhase_fields (m : Mod) (n p : Nat) (f : Phase → Phase) :
      (m.onPhase n p f).phase n p = f (m.phase n p) ∧ (m.onPhase n p f).plan = m.plan ∧ (m.onPhase n p f).host = m.host ∧
      (m.onPhase n p f).store = m.store ∧ (m.onPhase n p f).power = m.power ∧ (m.onPhase n p f).chain = m.chain ∧ (m.onPhase n p f).est = m.est ∧
      (m.onPhase n p f).disp = m.disp ∧ (m.onPhase n p f).prot = m.prot ∧ (m.onPhase n p f).safety = m.safety ∧ (m.onPhase n p f).pair = m.pair ∧
      (m.onPhase n p f).time = m.time ∧ (m.onPhase n p f).can = m.can ∧ (m.onPhase n p f).adc = m.adc ∧ (m.onPhase n p f).upd = m.upd ∧
      (m.onPhase n p f).sent = m.sent ∧ (m.onPhase n p f).freeCtr = m.freeCtr ∧ (m.onPhase n p f).conv.links = m.conv.links :=
  ⟨tget_tmod_same .., rfl, rfl, rfl, rfl, rfl, rfl, rfl, rfl, rfl, rfl, rfl, rfl, rfl, rfl, rfl, rfl, rfl⟩

theorem Mod.phase_onPhase (m : Mod) (n p k j : Nat) (f : Phase → Phase) :
    (m.onPhase n p f).phase k j = if 6 * k + j = 6 * n + p then f (m.phase n p) else m.phase k j := tget_tmod ..

end Sys2Proof.Machine
end

