-- ==== Sys2Proof/Laws/Ops.lean ====
section
/-! SUPPORT. What each shared operation can do, once: what it leaves alone, and what an event recorded leaves in the ring. -/

namespace Sys2Proof.Machine

@[simp] theorem Mod.out_fields (m : Mod) (o : Output) :
    (m.out o).sent = o :: m.sent ∧ (m.out o).plan = m.plan ∧ (m.out o).host = m.host ∧ (m.out o).store = m.store ∧
      (m.out o).power = m.power ∧ (m.out o).chain = m.chain ∧ (m.out o).est = m.est ∧ (m.out o).conv = m.conv ∧
      (m.out o).disp = m.disp ∧ (m.out o).prot = m.prot ∧ (m.out o).safety = m.safety ∧ (m.out o).pair = m.pair ∧
      (m.out o).time = m.time ∧ (m.out o).can = m.can ∧ (m.out o).adc = m.adc ∧ (m.out o).upd = m.upd ∧
      (m.out o).freeCtr = m.freeCtr :=
  ⟨rfl, rfl, rfl, rfl, rfl, rfl, rfl, rfl, rfl, rfl, rfl, rfl, rfl, rfl, rfl, rfl, rfl⟩

/-- What leaves a field alone for each element leaves it alone for all. -/
theorem Mod.each_keeps {α β : Type} (F : Mod → β) (m : Mod) (l : List α) (f : Mod → α → Mod)
    (h : ∀ m a, F (f m a) = F m) : F (m.each l f) = F m := by
  unfold Mod.each
  induction l generalizing m with
  | nil => rfl
  | cons a l ih => rw [List.foldl_cons, ih, h]

/-- The same for a fold that gathers something beside the module. -/
theorem Mod.foldl_keeps {α β γ : Type} (F : Mod → γ) (l : List α) (f : Mod × β → α → Mod × β) (z : Mod × β)
    (h : ∀ x a, F (f x a).1 = F x.1) : F (l.foldl f z).1 = F z.1 := by
  induction l generalizing z with
  | nil => rfl
  | cons a l ih => rw [List.foldl_cons, ih, h]

/-- What holds once the element `x` of a list is done holds after all, where every step is related by `R`, and `R` keeps it. -/
theorem Mod.each_mem {α : Type} {m : Mod} {l : List α} {f : Mod → α → Mod} (R : Mod → Mod → Prop) (hr : ∀ a, R a a)
    (ht : ∀ {a b c}, R a b → R b c → R a c) (h : ∀ m x, R m (f m x)) {x : α} (hx : x ∈ l) {P : Mod → Prop}
    (hp : ∀ a b, R a b → P a → P b) (hf : ∀ a, R m a → P (f a x)) : P (m.each l f) := by
  unfold Mod.each
  suffices H : ∀ a, R m a → P (l.foldl f a) from H m (hr m)
  have hl : ∀ (l : List α) a, R a (l.foldl f a) := by
    intro l
    induction l with
    | nil => exact hr
    | cons y l ih => intro a; exact ht (h a y) (ih _)
  induction l with
  | nil => cases hx
  | cons y l ih =>
    intro a ha
    rw [List.foldl_cons]
    rcases List.mem_cons.1 hx with rfl | hx
    · exact hp _ _ (hl l _) (hf a ha)
    · exact ih hx _ (ht ha (h a y))

theorem Mod.startFlush_store (m : Mod) (e : Bool) :
    (m.startFlush e).store.dram = m.store.dram ∧ (m.startFlush e).store.recNext = m.store.recNext ∧
      (m.startFlush e).store.rate = m.store.rate := by
  unfold Mod.startFlush
  split
  · exact ⟨rfl, rfl, rfl⟩
  · dsimp only
    split <;> split <;> exact ⟨rfl, rfl, rfl⟩

theorem Mod.ite_flush (c : Bool) (m : Mod) :
    (if c then m.startFlush false else m).store.dram = m.store.dram ∧ (if c then m.startFlush false else m).store.recNext = m.store.recNext := by
  cases c
  · exact ⟨rfl, rfl⟩
  · exact ⟨(m.startFlush_store false).1, (m.startFlush_store false).2.1⟩

/-- One record is stored: it is the newest, and RSEQ advances. -/
theorem Mod.store1_store (m : Mod) (r : EventRec) :
    (m.store1 r).store.dram.getLast? = some r ∧ (m.store1 r).store.recNext = nextRseq r.rseq ∧ (m.store1 r).store.rate = m.store.rate := by
  refine ⟨?_, rfl, rfl⟩
  show (_ ++ [r]).getLast? = some r
  simp

theorem rateOf_self (k : Nat × Nat) (a b : Nat) (l : List ((Nat × Nat) × Nat × Nat)) : rateOf ((k, a, b) :: l) k = (a, b) := by
  simp [rateOf]

/-- An event posted is recorded, or counted as withheld. -/
theorem Mod.post_recorded (m : Mod) (code item block : Nat) (data : List Byte) :
    Recorded code item block m (m.post code item block data) := by
  unfold Mod.post
  simp only
  split
  · left
    rw [(Mod.ite_flush _ _).1, (Mod.ite_flush _ _).2, (Mod.store1_store _ _).1, (Mod.store1_store _ _).2.1]
    exact ⟨rfl, rfl⟩
  · right
    exact ⟨rfl, by rw [show sourceOf item block = (m.mkRec code item block data).source from rfl, rateOf_self]⟩

end Sys2Proof.Machine
end

