-- ==== Sys2Proof/Laws/Within.lean ====
section
/-! SUPPORT. Which parts of the module an operation can change: one relation, how it is composed, and its law for every update
of a part. -/

namespace Sys2Proof.Machine

/-- Outside the parts named, the two modules are the same; nothing sent is withdrawn; and the memory of the host exchange area keeps its
canonical form. -/
structure Within (ps : List Part) (a b : Mod) : Prop where
  out : ∀ p, p ∉ ps → Part.same a b p
  log : a.sent <:+ b.sent
  mem : Memory.wf a.host.xa = true → Memory.wf b.host.xa = true

theorem Within.ofSame {ps : List Part} {a b : Mod} (h : ∀ p, p ∉ ps → Part.same a b p) (l : b.sent = a.sent) (x : b.host.xa = a.host.xa) :
    Within ps a b := ⟨h, by rw [l], by rw [x]; exact id⟩

theorem Within.refl (ps : List Part) (a : Mod) : Within ps a a := by
  refine .ofSame ?_ rfl rfl; intro p _; cases p <;> simp [Part.same, Mod.pl]

theorem Within.trans {ps : List Part} {a b c : Mod} (h : Within ps a b) (k : Within ps b c) : Within ps a c := by
  refine ⟨?_, h.log.trans k.log, fun x => k.mem (h.mem x)⟩
  intro p hp
  have h1 := h.out p hp
  have h2 := k.out p hp
  cases p <;> simp_all [Part.same, Mod.pl]

theorem Within.mono {ps qs : List Part} {a b : Mod} (h : Within ps a b) (s : ∀ p ∈ ps, p ∈ qs) : Within qs a b :=
  ⟨fun p hp => h.out p fun x => hp (s p x), h.log, h.mem⟩

theorem Within.step {ps qs : List Part} {a b c : Mod} (k : Within qs b c) (s : ∀ p ∈ qs, p ∈ ps) (h : Within ps a b) : Within ps a c :=
  h.trans (k.mono s)

theorem Within.ite {ps : List Part} {a b c : Mod} {p : Prop} [Decidable p] (h : Within ps a b) (k : Within ps a c) :
    Within ps a (if p then b else c) := by
  split <;> assumption

theorem Within.iteFst {α : Type} {ps : List Part} {a : Mod} {b c : Mod × α} {p : Prop} [Decidable p] (h : Within ps a b.1)
    (k : Within ps a c.1) : Within ps a (if p then b else c).1 := by
  split <;> assumption

theorem Within.iteSnd {α : Type} {ps : List Part} {a : Mod} {b c : α × Mod} {p : Prop} [Decidable p] (h : Within ps a b.2)
    (k : Within ps a c.2) : Within ps a (if p then b else c).2 := by
  split <;> assumption

theorem Within.each {α : Type} {ps : List Part} {a b : Mod} {l : List α} {f : Mod → α → Mod} (k : ∀ m x, Within ps m (f m x))
    (h : Within ps a b) : Within ps a (b.each l f) := by
  unfold Mod.each
  induction l generalizing b with
  | nil => exact h
  | cons x l ih => exact ih (h.trans (k b x))

theorem Within.foldl {α β : Type} {ps : List Part} {f : Mod × β → α → Mod × β} (h : ∀ x a, Within ps x.1 (f x a).1) (l : List α)
    (z : Mod × β) : Within ps z.1 (l.foldl f z).1 := by
  induction l generalizing z with
  | nil => exact .refl ..
  | cons a l ih => exact (h z a).trans (ih _)

theorem Within.cut {ps : List Part} {a b x : Mod} (h : Within ps a x) (k : Within ps a x → Within ps a b) : Within ps a b := k h

theorem Mod.onPlan_within (m : Mod) (f : PlanSt → PlanSt) (h : ∀ p, (f p).grainCnt = p.grainCnt ∧ (f p).tick = p.tick ∧ (f p).firstGrain = p.firstGrain) : Within [.plan] m (m.onPlan f) := by
  refine .ofSame ?_ rfl rfl; intro p hp; cases p <;> first | exact absurd (by decide) hp | exact rfl | exact h _ | exact ⟨rfl, rfl⟩
theorem Mod.onPlan_clock (m : Mod) (f : PlanSt → PlanSt) : Within [.plan, .clock] m (m.onPlan f) := by
  refine .ofSame ?_ rfl rfl; intro p hp; cases p <;> first | exact absurd (by decide) hp | exact rfl | exact ⟨rfl, rfl⟩
theorem Within.stepPlan {ps : List Part} {a b : Mod} {f : PlanSt → PlanSt} (hp : .plan ∈ ps)
    (h : ∀ p, (f p).grainCnt = p.grainCnt ∧ (f p).tick = p.tick ∧ (f p).firstGrain = p.firstGrain) (k : Within ps a b) :
    Within ps a (b.onPlan f) := Within.step (Mod.onPlan_within b f h) (by intro p hq; simp_all) k

theorem Mod.onHost_within (m : Mod) (f : HostSt → HostSt) (h : ∀ x, Memory.wf x.xa = true → Memory.wf (f x).xa = true) : Within [.host] m (m.onHost f) := by
  refine ⟨?_, List.suffix_rfl, h _⟩; intro p hp; cases p <;> first | exact absurd (by decide) hp | exact rfl | exact ⟨rfl, rfl⟩ | exact ⟨rfl, rfl, rfl⟩
theorem Within.stepHost {ps : List Part} {a b : Mod} {f : HostSt → HostSt} (hp : .host ∈ ps)
    (h : ∀ x, Memory.wf x.xa = true → Memory.wf (f x).xa = true) (k : Within ps a b) : Within ps a (b.onHost f) :=
  Within.step (Mod.onHost_within b f h) (by intro p hq; simp_all) k

theorem Mod.onStore_within (m : Mod) (f : StoreSt → StoreSt) : Within [.store] m (m.onStore f) := by
  refine .ofSame ?_ rfl rfl; intro p hp; cases p <;> first | exact absurd (by decide) hp | exact rfl | exact ⟨rfl, rfl, rfl⟩
theorem Mod.onPower_within (m : Mod) (f : PowerSt → PowerSt) (h : ∀ p, (f p).rseqHwm = p.rseqHwm) : Within [.power] m (m.onPower f) := by
  refine .ofSame ?_ rfl rfl; intro p hp; cases p <;> first | exact absurd (by decide) hp | exact rfl | exact ⟨rfl, h _⟩ | exact ⟨rfl, rfl, rfl⟩
theorem Within.stepPower {ps : List Part} {a b : Mod} {f : PowerSt → PowerSt} (hp : .power ∈ ps) (h : ∀ p, (f p).rseqHwm = p.rseqHwm)
    (k : Within ps a b) : Within ps a (b.onPower f) :=
  Within.step (Mod.onPower_within b f h) (by intro p hq; simp_all) k

theorem Mod.onChain_within (m : Mod) (f : ChainSt → ChainSt) : Within [.chain] m (m.onChain f) := by
  refine .ofSame ?_ rfl rfl; intro p hp; cases p <;> first | exact absurd (by decide) hp | exact rfl | exact ⟨rfl, rfl⟩ | exact ⟨rfl, rfl, rfl⟩
theorem Mod.onEst_within (m : Mod) (f : EstSt → EstSt) : Within [.est] m (m.onEst f) := by
  refine .ofSame ?_ rfl rfl; intro p hp; cases p <;> first | exact absurd (by decide) hp | exact rfl | exact ⟨rfl, rfl⟩ | exact ⟨rfl, rfl, rfl⟩
theorem Mod.onConv_within (m : Mod) (f : ConvSt → ConvSt) : Within [.conv] m (m.onConv f) := by
  refine .ofSame ?_ rfl rfl; intro p hp; cases p <;> first | exact absurd (by decide) hp | exact rfl | exact ⟨rfl, rfl⟩ | exact ⟨rfl, rfl, rfl⟩
theorem Mod.onDisp_within (m : Mod) (f : DispSt → DispSt) : Within [.disp] m (m.onDisp f) := by
  refine .ofSame ?_ rfl rfl; intro p hp; cases p <;> first | exact absurd (by decide) hp | exact rfl | exact ⟨rfl, rfl⟩ | exact ⟨rfl, rfl, rfl⟩
theorem Mod.onProt_within (m : Mod) (f : ProtSt → ProtSt) : Within [.prot] m (m.onProt f) := by
  refine .ofSame ?_ rfl rfl; intro p hp; cases p <;> first | exact absurd (by decide) hp | exact rfl | exact ⟨rfl, rfl⟩ | exact ⟨rfl, rfl, rfl⟩
theorem Mod.onSafety_within (m : Mod) (f : SafetySt → SafetySt) : Within [.safety] m (m.onSafety f) := by
  refine .ofSame ?_ rfl rfl; intro p hp; cases p <;> first | exact absurd (by decide) hp | exact rfl | exact ⟨rfl, rfl⟩ | exact ⟨rfl, rfl, rfl⟩
theorem Mod.onPair_within (m : Mod) (f : PairSt → PairSt) : Within [.pair] m (m.onPair f) := by
  refine .ofSame ?_ rfl rfl; intro p hp; cases p <;> first | exact absurd (by decide) hp | exact rfl | exact ⟨rfl, rfl⟩ | exact ⟨rfl, rfl, rfl⟩
theorem Mod.onTime_within (m : Mod) (f : TimeSt → TimeSt) : Within [.time] m (m.onTime f) := by
  refine .ofSame ?_ rfl rfl; intro p hp; cases p <;> first | exact absurd (by decide) hp | exact rfl | exact ⟨rfl, rfl⟩ | exact ⟨rfl, rfl, rfl⟩
theorem Mod.onCan_within (m : Mod) (f : CanSt → CanSt) : Within [.can] m (m.onCan f) := by
  refine .ofSame ?_ rfl rfl; intro p hp; cases p <;> first | exact absurd (by decide) hp | exact rfl | exact ⟨rfl, rfl⟩ | exact ⟨rfl, rfl, rfl⟩
theorem Mod.onAdc_within (m : Mod) (f : AdcSt → AdcSt) : Within [.adc] m (m.onAdc f) := by
  refine .ofSame ?_ rfl rfl; intro p hp; cases p <;> first | exact absurd (by decide) hp | exact rfl | exact ⟨rfl, rfl⟩ | exact ⟨rfl, rfl, rfl⟩
theorem Mod.onUpd_within (m : Mod) (f : UpdSt → UpdSt) : Within [.upd] m (m.onUpd f) := by
  refine .ofSame ?_ rfl rfl; intro p hp; cases p <;> first | exact absurd (by decide) hp | exact rfl | exact ⟨rfl, rfl⟩ | exact ⟨rfl, rfl, rfl⟩
theorem Mod.onRing_within (m : Mod) (n : Nat) (f : Ring → Ring) : Within [.chain] m (m.onRing n f) := by
  refine .ofSame ?_ rfl rfl; intro p hp; cases p <;> first | exact absurd (by decide) hp | exact rfl | exact ⟨rfl, rfl⟩ | exact ⟨rfl, rfl, rfl⟩
theorem Mod.onCell_within (m : Mod) (g : Nat) (f : Cell → Cell) : Within [.chain] m (m.onCell g f) := by
  refine .ofSame ?_ rfl rfl; intro p hp; cases p <;> first | exact absurd (by decide) hp | exact rfl | exact ⟨rfl, rfl⟩ | exact ⟨rfl, rfl, rfl⟩
theorem Mod.onCellEst_within (m : Mod) (g : Nat) (f : CellEst → CellEst) : Within [.est] m (m.onCellEst g f) := by
  refine .ofSame ?_ rfl rfl; intro p hp; cases p <;> first | exact absurd (by decide) hp | exact rfl | exact ⟨rfl, rfl⟩ | exact ⟨rfl, rfl, rfl⟩
theorem Mod.onStrEst_within (m : Mod) (n : Nat) (f : StrEst → StrEst) : Within [.est] m (m.onStrEst n f) := by
  refine .ofSame ?_ rfl rfl; intro p hp; cases p <;> first | exact absurd (by decide) hp | exact rfl | exact ⟨rfl, rfl⟩ | exact ⟨rfl, rfl, rfl⟩
theorem Mod.onLink_within (m : Mod) (n : Nat) (f : Link → Link) : Within [.conv] m (m.onLink n f) := by
  refine .ofSame ?_ rfl rfl; intro p hp; cases p <;> first | exact absurd (by decide) hp | exact rfl | exact ⟨rfl, rfl⟩ | exact ⟨rfl, rfl, rfl⟩
theorem Mod.onStrDisp_within (m : Mod) (n : Nat) (f : StrDisp → StrDisp) : Within [.disp] m (m.onStrDisp n f) := by
  refine .ofSame ?_ rfl rfl; intro p hp; cases p <;> first | exact absurd (by decide) hp | exact rfl | exact ⟨rfl, rfl⟩ | exact ⟨rfl, rfl, rfl⟩
theorem Mod.onStrProt_within (m : Mod) (n : Nat) (f : StrProt → StrProt) : Within [.prot] m (m.onStrProt n f) := by
  refine .ofSame ?_ rfl rfl; intro p hp; cases p <;> first | exact absurd (by decide) hp | exact rfl | exact ⟨rfl, rfl⟩ | exact ⟨rfl, rfl, rfl⟩
theorem Mod.onTherm_within (m : Mod) (g : Nat) (f : Therm → Therm) : Within [.prot] m (m.onTherm g f) := by
  refine .ofSame ?_ rfl rfl; intro p hp; cases p <;> first | exact absurd (by decide) hp | exact rfl | exact ⟨rfl, rfl⟩ | exact ⟨rfl, rfl, rfl⟩
theorem Mod.onGroup_within (m : Mod) (g : Nat) (f : Group → Group) : Within [.prot] m (m.onGroup g f) := by
  refine .ofSame ?_ rfl rfl; intro p hp; cases p <;> first | exact absurd (by decide) hp | exact rfl | exact ⟨rfl, rfl⟩ | exact ⟨rfl, rfl, rfl⟩
theorem Mod.onZone_within (m : Mod) (z : Nat) (f : Zone → Zone) : Within [.prot] m (m.onZone z f) := by
  refine .ofSame ?_ rfl rfl; intro p hp; cases p <;> first | exact absurd (by decide) hp | exact rfl | exact ⟨rfl, rfl⟩ | exact ⟨rfl, rfl, rfl⟩
theorem Mod.onSi_within (m : Mod) (i : Nat) (f : SafeIn → SafeIn) : Within [.safety] m (m.onSi i f) := by
  refine .ofSame ?_ rfl rfl; intro p hp; cases p <;> first | exact absurd (by decide) hp | exact rfl | exact ⟨rfl, rfl⟩ | exact ⟨rfl, rfl, rfl⟩
theorem Mod.onOi_within (m : Mod) (i : Nat) (f : SafeIn → SafeIn) : Within [.safety] m (m.onOi i f) := by
  refine .ofSame ?_ rfl rfl; intro p hp; cases p <;> first | exact absurd (by decide) hp | exact rfl | exact ⟨rfl, rfl⟩ | exact ⟨rfl, rfl, rfl⟩
theorem Mod.onSq_within (m : Mod) (g : Nat) (f : SafeOut → SafeOut) : Within [.safety] m (m.onSq g f) := by
  refine .ofSame ?_ rfl rfl; intro p hp; cases p <;> first | exact absurd (by decide) hp | exact rfl | exact ⟨rfl, rfl⟩ | exact ⟨rfl, rfl, rfl⟩
theorem Mod.onPort_within (m : Mod) (p : Nat) (f : CanPort → CanPort) : Within [.can] m (m.onPort p f) := by
  refine .ofSame ?_ rfl rfl; intro p hp; cases p <;> first | exact absurd (by decide) hp | exact rfl | exact ⟨rfl, rfl⟩ | exact ⟨rfl, rfl, rfl⟩
theorem Mod.onAdcConv_within (m : Mod) (c : Nat) (f : AdcConv → AdcConv) : Within [.adc] m (m.onAdcConv c f) := by
  refine .ofSame ?_ rfl rfl; intro p hp; cases p <;> first | exact absurd (by decide) hp | exact rfl | exact ⟨rfl, rfl⟩ | exact ⟨rfl, rfl, rfl⟩
theorem Mod.onStrAdc_within (m : Mod) (n : Nat) (f : StrAdc → StrAdc) : Within [.adc] m (m.onStrAdc n f) := by
  refine .ofSame ?_ rfl rfl; intro p hp; cases p <;> first | exact absurd (by decide) hp | exact rfl | exact ⟨rfl, rfl⟩ | exact ⟨rfl, rfl, rfl⟩
theorem Mod.onAi_within (m : Mod) (a : Nat) (f : AiCh → AiCh) : Within [.adc] m (m.onAi a f) := by
  refine .ofSame ?_ rfl rfl; intro p hp; cases p <;> first | exact absurd (by decide) hp | exact rfl | exact ⟨rfl, rfl⟩ | exact ⟨rfl, rfl, rfl⟩
theorem Mod.onPi_within (m : Mod) (p : Nat) (f : PiCh → PiCh) : Within [.adc] m (m.onPi p f) := by
  refine .ofSame ?_ rfl rfl; intro p hp; cases p <;> first | exact absurd (by decide) hp | exact rfl | exact ⟨rfl, rfl⟩ | exact ⟨rfl, rfl, rfl⟩
theorem Mod.onDma_within (m : Mod) (c : Nat) (f : DmaCh → DmaCh) : Within [.store] m (m.onDma c f) := by
  refine .ofSame ?_ rfl rfl; intro p hp; cases p <;> first | exact absurd (by decide) hp | exact rfl | exact ⟨rfl, rfl, rfl⟩
theorem Mod.onMon_within (m : Mod) (n a : Nat) (f : Monitor → Monitor) : Within [.chain] m (m.onMon n a f) := by
  refine .ofSame ?_ rfl rfl; intro p hp; cases p <;> first | exact absurd (by decide) hp | exact rfl | exact ⟨rfl, rfl⟩ | exact ⟨rfl, rfl, rfl⟩
theorem Mod.onPhase_within (m : Mod) (n p : Nat) (f : Phase → Phase) : Within [.conv] m (m.onPhase n p f) := by
  refine .ofSame ?_ rfl rfl; intro p hp; cases p <;> first | exact absurd (by decide) hp | exact rfl | exact ⟨rfl, rfl⟩ | exact ⟨rfl, rfl, rfl⟩
theorem Mod.onObj_within (m : Mod) (p o : Nat) (f : CanObj → CanObj) : Within [.can] m (m.onObj p o f) := Mod.onPort_within m p _
theorem Mod.out_within (m : Mod) (o : Output) : Within [.sent] m (m.out o) := by
  refine ⟨?_, List.suffix_cons .., id⟩; intro p hp; cases p <;> first | exact absurd (by decide) hp | exact rfl | exact ⟨rfl, rfl⟩ | exact ⟨rfl, rfl, rfl⟩
theorem Mod.free_within (m : Mod) : Within [.free] m m.free.2 := by
  refine .ofSame ?_ rfl rfl; intro p hp; cases p <;> first | exact absurd (by decide) hp | exact rfl | exact ⟨rfl, rfl⟩ | exact ⟨rfl, rfl, rfl⟩

/-- The recorder's part alone is written. -/
theorem Within.storeOnly (m : Mod) (x : StoreSt) (h : Nat) (c : Bool) :
    Within [.store] m { m with store := x, power := if c then { m.power with rseqHwm := h } else m.power } := by
  refine .ofSame ?_ rfl rfl; intro p hp
  cases p <;> first | exact absurd (by decide) hp | exact rfl | exact ⟨rfl, rfl, rfl⟩ | (cases c <;> exact rfl)

theorem Within.storeRaw (m : Mod) (x : StoreSt) : Within [.store] m { m with store := x } := by
  refine .ofSame ?_ rfl rfl; intro p hp; cases p <;> first | exact absurd (by decide) hp | exact rfl | exact ⟨rfl, rfl, rfl⟩

theorem Mod.dmaStart_within (m : Mod) (ch : Nat) (use : DmaUse) (len : Nat) : Within [.store] m (m.dmaStart ch use len) := Mod.onDma_within ..

theorem Mod.startFlush_within (m : Mod) (e : Bool) : Within [.store] m (m.startFlush e) := by
  unfold Mod.startFlush
  split
  · exact Within.storeRaw ..
  · dsimp only
    split <;> split
    · exact Within.step (Mod.dmaStart_within ..) (by decide) (Within.storeRaw ..)
    · exact Within.refl ..
    · exact Within.storeRaw ..
    · exact Within.refl ..

theorem Mod.store1_within (m : Mod) (r : EventRec) : Within [.store] m (m.store1 r) := by
  refine .ofSame ?_ rfl rfl; intro p hp
  cases p <;> first | exact absurd (by decide) hp | exact rfl | exact ⟨rfl, rfl, rfl⟩ | skip
  unfold Mod.store1
  simp only [Part.same, Mod.pw]
  split <;> rfl

theorem Mod.post_within (m : Mod) (code item block : Nat) (data : List Byte) : Within [.store] m (m.post code item block data) := by
  unfold Mod.post
  extract_lets r k
  split
  apply Within.ite
  · apply Within.ite
    · exact ((Within.storeRaw ..).trans (Mod.store1_within ..)).trans (Mod.startFlush_within ..)
    · exact (Within.storeRaw ..).trans (Mod.store1_within ..)
  · exact Within.storeRaw ..

theorem Within.logicalOf {ps : List Part} {b a : Mod} {g : W32} {adc : AdcSt} {safe : SafetySt}
    (h : Within ps { b with sent := [], plan := { b.plan with grainCnt := g }, adc := adc, safety := safe } a) :
    Within ps b { a with sent := a.sent.filter Output.ofStandby ++ b.sent, plan := { a.plan with grainCnt := b.plan.grainCnt },
                         adc := b.adc, safety := b.safety, prot := { a.prot with groups := b.prot.groups } } := by
  refine ⟨?_, List.suffix_append .., h.mem⟩
  intro p hp
  have h2 := h.out p hp
  cases p <;> simp_all [Part.same, Mod.pw, Mod.pl]

/-- The plan's own work for a logical grain touches what it touches in the acting module, never the safety processor's own state
or the readings of its ports (R378). -/
theorem Within.logical {ps : List Part} {a b : Mod} {f : Mod → Mod} (k : ∀ m, Within ps m (f m)) (h : Within ps a b) :
    Within ps a (b.logical f) := by
  refine h.trans ?_
  unfold Mod.logical
  split
  · exact k b
  · split
    · exact Within.refl ..
    · exact Within.logicalOf (k _)

/-- A part of the plan run as at a past tick leaves the clock as it stands. -/
theorem Within.atTick {ps : List Part} {a b : Mod} {t : Nat} {f : Mod → Mod} (k : ∀ m, Within ps m (f m)) (hc : .clock ∉ ps) (h : Within ps a b) :
    Within ps a (b.atTick t f) := by
  refine h.trans ?_
  have h1 := k (b.onPlan fun p => { p with tick := t })
  refine ⟨?_, h1.log, h1.mem⟩
  intro p hq
  have h2 := h1.out p hq
  have h3 := h1.out _ hc
  cases p <;> simp_all [Part.same, Mod.pw, Mod.pl, Mod.atTick, Mod.onPlan]

/-- What the standby does to its own port touches the pair part in place of the links (R375). -/
theorem Within.viaPort {ps : List Part} {a b : Mod} {f : Mod → Mod} (k : ∀ m, Within ps m (f m)) (hp : .pair ∈ ps) (h : Within ps a b) :
    Within ps a (b.viaPort f) := by
  refine h.trans ?_
  unfold Mod.viaPort
  split
  · exact k b
  · extract_lets x
    have h1 := k { b with conv := { links := b.pair.ports, phases := [] } }
    refine ⟨?_, h1.log, h1.mem⟩
    intro p hq
    have h2 := h1.out p hq
    cases p <;> simp_all [Part.same, Mod.pw, Mod.pl, x]

theorem Within.planEq {ps : List Part} {a b : Mod} (h : Within ps a b) (n : .plan ∉ ps ∧ .clock ∉ ps) : b.plan = a.plan := by
  have h1 := h.out _ n.1
  have h2 := h.out _ n.2
  simp only [Part.same, Mod.pl] at h1 h2
  cases ha : a.plan; cases hb : b.plan; simp_all
theorem Within.clockEq {ps : List Part} {a b : Mod} (h : Within ps a b) (n : .clock ∉ ps) :
    b.plan.grainCnt = a.plan.grainCnt ∧ b.plan.tick = a.plan.tick ∧ b.plan.firstGrain = a.plan.firstGrain := h.out _ n
theorem Within.hostEq {ps : List Part} {a b : Mod} (h : Within ps a b) (n : .host ∉ ps) : b.host = a.host := h.out _ n
theorem Within.chainEq {ps : List Part} {a b : Mod} (h : Within ps a b) (n : .chain ∉ ps) : b.chain = a.chain := h.out _ n
theorem Within.estEq {ps : List Part} {a b : Mod} (h : Within ps a b) (n : .est ∉ ps) : b.est = a.est := h.out _ n
theorem Within.convEq {ps : List Part} {a b : Mod} (h : Within ps a b) (n : .conv ∉ ps) : b.conv = a.conv := h.out _ n
theorem Within.dispEq {ps : List Part} {a b : Mod} (h : Within ps a b) (n : .disp ∉ ps) : b.disp = a.disp := h.out _ n
theorem Within.protEq {ps : List Part} {a b : Mod} (h : Within ps a b) (n : .prot ∉ ps) : b.prot = a.prot := h.out _ n
theorem Within.safetyEq {ps : List Part} {a b : Mod} (h : Within ps a b) (n : .safety ∉ ps) : b.safety = a.safety := h.out _ n
theorem Within.pairEq {ps : List Part} {a b : Mod} (h : Within ps a b) (n : .pair ∉ ps) : b.pair = a.pair := h.out _ n
theorem Within.timeEq {ps : List Part} {a b : Mod} (h : Within ps a b) (n : .time ∉ ps) : b.time = a.time := h.out _ n
theorem Within.canEq {ps : List Part} {a b : Mod} (h : Within ps a b) (n : .can ∉ ps) : b.can = a.can := h.out _ n
theorem Within.adcEq {ps : List Part} {a b : Mod} (h : Within ps a b) (n : .adc ∉ ps) : b.adc = a.adc := h.out _ n
theorem Within.updEq {ps : List Part} {a b : Mod} (h : Within ps a b) (n : .upd ∉ ps) : b.upd = a.upd := h.out _ n
theorem Within.sentEq {ps : List Part} {a b : Mod} (h : Within ps a b) (n : .sent ∉ ps) : b.sent = a.sent := h.out _ n
theorem Within.freeEq {ps : List Part} {a b : Mod} (h : Within ps a b) (n : .free ∉ ps) : b.freeCtr = a.freeCtr := h.out _ n
theorem Within.storeEq {ps : List Part} {a b : Mod} (h : Within ps a b) (n : .store ∉ ps) : b.store = a.store := (h.out _ n).1
theorem Within.pwEq {ps : List Part} {a b : Mod} (h : Within ps a b) (n : .power ∉ ps) : b.pw = a.pw := h.out _ n
theorem Within.powerEq {ps : List Part} {a b : Mod} (h : Within ps a b) (n : .power ∉ ps) (k : .store ∉ ps) : b.power = a.power := by
  have h1 := h.out _ n
  have h2 := (h.out _ k).2
  simp only [Part.same, Mod.pw] at h1 h2
  cases ha : a.power; cases hb : b.power; simp_all
/-- The fields of the power part but the high-water mark. -/
theorem Within.powerFields {ps : List Part} {a b : Mod} (h : Within ps a b) (n : .power ∉ ps) :
    b.power.state = a.power.state ∧ b.power.holdupOk = a.power.holdupOk ∧ b.power.inrushLim = a.power.inrushLim ∧ b.power.parkWhy = a.power.parkWhy ∧ b.power.lastCause = a.power.lastCause ∧ b.power.warmCount = a.power.warmCount ∧ b.power.powerFail = a.power.powerFail ∧ b.power.powerFailMs = a.power.powerFailMs ∧ b.power.straps = a.power.straps ∧ b.power.strapPins = a.power.strapPins ∧ b.power.strapValid = a.power.strapValid ∧ b.power.strapChanged = a.power.strapChanged ∧ b.power.parkRequest = a.power.parkRequest ∧ b.power.restart = a.power.restart ∧ b.power.opMs = a.power.opMs ∧ b.power.opMsAtFail = a.power.opMsAtFail ∧ b.power.outageMs = a.power.outageMs ∧ b.power.pwrCycle = a.power.pwrCycle ∧ b.power.cfSignature = a.power.cfSignature ∧ b.power.savedIncr = a.power.savedIncr ∧ b.power.clearCount = a.power.clearCount ∧ b.power.lastClearRseq = a.power.lastClearRseq ∧ b.power.respMesh = a.power.respMesh ∧ b.power.respGlitch = a.power.respGlitch ∧ b.power.respAuth = a.power.respAuth ∧ b.power.locked = a.power.locked ∧ b.power.eraseCount = a.power.eraseCount ∧ b.power.unpoweredViolation = a.power.unpoweredViolation ∧ b.power.kseal = a.power.kseal ∧ b.power.chainRoot = a.power.chainRoot ∧ b.power.credKeys = a.power.credKeys ∧ b.power.priorRoots = a.power.priorRoots ∧ b.power.cfResponding = a.power.cfResponding ∧ b.power.cellLow = a.power.cellLow ∧ b.power.capLow = a.power.capLow ∧ b.power.blankSeen = a.power.blankSeen ∧ b.power.cellMv = a.power.cellMv ∧ b.power.capMv = a.power.capMv ∧ b.power.meshOk = a.power.meshOk ∧ b.power.meshBreach = a.power.meshBreach ∧ b.power.glitch = a.power.glitch ∧ b.power.glitchNow = a.power.glitchNow ∧ b.power.erased = a.power.erased ∧ b.power.authBlockedAt = a.power.authBlockedAt ∧ b.power.btnState = a.power.btnState ∧ b.power.btnSince = a.power.btnSince ∧ b.power.btnHeld = a.power.btnHeld ∧ b.power.presses = a.power.presses := by
  have h1 := h.out _ n
  simp only [Part.same, Mod.pw, PowerSt.mk.injEq] at h1
  simp_all

@[simp] theorem Mod.post_fields (m : Mod) (code item block : Nat) (data : List Byte) :
    (m.post code item block data).plan = m.plan ∧ (m.post code item block data).host = m.host ∧ (m.post code item block data).chain = m.chain ∧ (m.post code item block data).est = m.est ∧ (m.post code item block data).conv = m.conv ∧ (m.post code item block data).disp = m.disp ∧ (m.post code item block data).prot = m.prot ∧ (m.post code item block data).safety = m.safety ∧ (m.post code item block data).pair = m.pair ∧ (m.post code item block data).time = m.time ∧ (m.post code item block data).can = m.can ∧ (m.post code item block data).adc = m.adc ∧ (m.post code item block data).upd = m.upd ∧ (m.post code item block data).sent = m.sent ∧ (m.post code item block data).freeCtr = m.freeCtr  :=
  have h := m.post_within code item block data
  ⟨h.planEq (by decide), h.hostEq (by decide), h.chainEq (by decide), h.estEq (by decide), h.convEq (by decide), h.dispEq (by decide), h.protEq (by decide), h.safetyEq (by decide), h.pairEq (by decide), h.timeEq (by decide), h.canEq (by decide), h.adcEq (by decide), h.updEq (by decide), h.sentEq (by decide), h.freeEq (by decide)⟩

@[simp] theorem Mod.post_power (m : Mod) (code item block : Nat) (data : List Byte) :
    (m.post code item block data).power.state = m.power.state ∧ (m.post code item block data).power.holdupOk = m.power.holdupOk ∧ (m.post code item block data).power.inrushLim = m.power.inrushLim ∧ (m.post code item block data).power.parkWhy = m.power.parkWhy ∧ (m.post code item block data).power.lastCause = m.power.lastCause ∧ (m.post code item block data).power.warmCount = m.power.warmCount ∧ (m.post code item block data).power.powerFail = m.power.powerFail ∧ (m.post code item block data).power.powerFailMs = m.power.powerFailMs ∧ (m.post code item block data).power.straps = m.power.straps ∧ (m.post code item block data).power.strapPins = m.power.strapPins ∧ (m.post code item block data).power.strapValid = m.power.strapValid ∧ (m.post code item block data).power.strapChanged = m.power.strapChanged ∧ (m.post code item block data).power.parkRequest = m.power.parkRequest ∧ (m.post code item block data).power.restart = m.power.restart ∧ (m.post code item block data).power.opMs = m.power.opMs ∧ (m.post code item block data).power.opMsAtFail = m.power.opMsAtFail ∧ (m.post code item block data).power.outageMs = m.power.outageMs ∧ (m.post code item block data).power.pwrCycle = m.power.pwrCycle ∧ (m.post code item block data).power.cfSignature = m.power.cfSignature ∧ (m.post code item block data).power.savedIncr = m.power.savedIncr ∧ (m.post code item block data).power.clearCount = m.power.clearCount ∧ (m.post code item block data).power.lastClearRseq = m.power.lastClearRseq ∧ (m.post code item block data).power.respMesh = m.power.respMesh ∧ (m.post code item block data).power.respGlitch = m.power.respGlitch ∧ (m.post code item block data).power.respAuth = m.power.respAuth ∧ (m.post code item block data).power.locked = m.power.locked ∧ (m.post code item block data).power.eraseCount = m.power.eraseCount ∧ (m.post code item block data).power.unpoweredViolation = m.power.unpoweredViolation ∧ (m.post code item block data).power.kseal = m.power.kseal ∧ (m.post code item block data).power.chainRoot = m.power.chainRoot ∧ (m.post code item block data).power.credKeys = m.power.credKeys ∧ (m.post code item block data).power.priorRoots = m.power.priorRoots ∧ (m.post code item block data).power.cfResponding = m.power.cfResponding ∧ (m.post code item block data).power.cellLow = m.power.cellLow ∧ (m.post code item block data).power.capLow = m.power.capLow ∧ (m.post code item block data).power.blankSeen = m.power.blankSeen ∧ (m.post code item block data).power.cellMv = m.power.cellMv ∧ (m.post code item block data).power.capMv = m.power.capMv ∧ (m.post code item block data).power.meshOk = m.power.meshOk ∧ (m.post code item block data).power.meshBreach = m.power.meshBreach ∧ (m.post code item block data).power.glitch = m.power.glitch ∧ (m.post code item block data).power.glitchNow = m.power.glitchNow ∧ (m.post code item block data).power.erased = m.power.erased ∧ (m.post code item block data).power.authBlockedAt = m.power.authBlockedAt ∧ (m.post code item block data).power.btnState = m.power.btnState ∧ (m.post code item block data).power.btnSince = m.power.btnSince ∧ (m.post code item block data).power.btnHeld = m.power.btnHeld ∧ (m.post code item block data).power.presses = m.power.presses :=
  (m.post_within code item block data).powerFields (by decide)

theorem Mod.freeBytes_within (k : Nat) (m : Mod) : Within [.free] m (Mod.freeBytes k m).2 := by
  induction k generalizing m with
  | zero => exact Within.refl ..
  | succ k ih =>
    unfold Mod.freeBytes
    exact (Mod.free_within m).trans (ih _)

theorem Within.acted {ps : List Part} {a b : Mod} {st : Nat} {tl : List Tlv} (h : Within ps a b) : Within ps a (b.acted st tl).1 := h

theorem Within.actSt {ps : List Part} {a : Mod} {r : Mod × Nat} (h : Within ps a r.1) : Within ps a (actSt r).1 := h

theorem Within.refuse {ps : List Part} {a b : Mod} {st ty off it : Nat} (h : Within ps a b) : Within ps a (refuse b st ty off it).1 := h

end Sys2Proof.Machine
end

