-- ==== Sys2Proof/Laws/OpsFrame.lean ====
section
/-! SUPPORT. Which parts of the module each operation of Machine/Ops.lean can change. -/

namespace Sys2Proof.Machine

theorem Mod.xaPut_within (m : Mod) (off : Nat) (bs : List Byte) : Within [.host] m (m.xaPut off bs) :=
  Mod.onHost_within m _ fun _ h => twf_tputs _ _ _ h

theorem Mod.onSession_within (m : Mod) (sid : Nat) (f : Session → Session) : Within [.host] m (Mod.onSession m sid f) := by
  refine .ofSame ?_ rfl rfl; intro p hp; cases p <;> first | exact absurd (by decide) hp | exact rfl | exact ⟨rfl, rfl⟩ | exact ⟨rfl, rfl, rfl⟩

theorem Mod.sendNotice_within (m : Mod) (s : Session) (n : Notice) : Within [.sent] m (Mod.sendNotice m s n) := by
  unfold Mod.sendNotice
  repeat' first
    | with_reducible apply Within.refl
    | with_reducible assumption
    | with_reducible apply Within.ite
    | (with_reducible apply Within.step (Mod.out_within ..); (on_goal 1 => decide))
    | with_reducible apply Within.each
    | (intro _)

theorem Mod.notify_within (m : Mod) (sid opcode status : Nat) (tlvs : List Tlv) : Within [.host, .sent] m (Mod.notify m sid opcode status tlvs) := by
  unfold Mod.notify
  repeat' first
    | with_reducible apply Within.refl
    | with_reducible assumption
    | with_reducible apply Within.ite
    | (extract_lets +onlyGivenNames x; first | (refine Within.cut (x := x) ?_ ?_; (on_goal 1 => (unfold x; clear x)); on_goal 2 => (intro hx; clear_value x; rename' x => y)) | (clear_value x; rename' x => y))
    | (with_reducible apply Within.step (Mod.onSession_within ..); (on_goal 1 => decide))
    | (with_reducible apply Within.step (Mod.sendNotice_within ..); (on_goal 1 => decide))
    | (intro _)
    | split

theorem Mod.complete_within (m : Mod) (o : Origin) (status : Nat) (tlvs : List Tlv) : Within [.host, .sent] m (Mod.complete m o status tlvs) := by
  unfold Mod.complete
  repeat' first
    | with_reducible apply Within.refl
    | with_reducible assumption
    | with_reducible apply Within.ite
    | (with_reducible apply Within.step (Mod.notify_within ..); (on_goal 1 => decide))

theorem Mod.setPar_within (m : Mod) (id : Nat) (v : Int) : Within [.host] m (Mod.setPar m id v) := by
  refine .ofSame ?_ rfl rfl; intro p hp; cases p <;> first | exact absurd (by decide) hp | exact rfl | exact ⟨rfl, rfl⟩ | exact ⟨rfl, rfl, rfl⟩

theorem Mod.dmaEnd_within (m : Mod) (ch : Nat) : Within [.store] m (Mod.dmaEnd m ch) := by
  unfold Mod.dmaEnd
  repeat' first
    | with_reducible apply Within.refl
    | with_reducible assumption
    | with_reducible apply Within.ite
    | (with_reducible apply Within.step (Mod.onDma_within ..); (on_goal 1 => decide))

theorem Mod.sendReply1_within (m : Mod) (key : List Byte) (net addr port : Nat) (r : Reply) : Within [.host, .sent] m (Mod.sendReply1 m key net addr port r) := by
  unfold Mod.sendReply1
  repeat' first
    | with_reducible apply Within.refl
    | with_reducible assumption
    | with_reducible apply Within.ite
    | (with_reducible apply Within.step (Mod.out_within ..); (on_goal 1 => decide))

theorem Mod.xaUnpoison_within (m : Mod) (off len : Nat) : Within [.store] m (Mod.xaUnpoison m off len) := by
  unfold Mod.xaUnpoison
  repeat' first
    | with_reducible apply Within.refl
    | with_reducible assumption
    | with_reducible apply Within.ite
    | (with_reducible apply Within.step (Mod.poison_within ..); (on_goal 1 => decide))
    | (with_reducible apply Within.step (Mod.onStore_within ..); (on_goal 1 => decide))
    | (intro _)
    | split

theorem Mod.onMbx_within (m : Mod) (k : Nat) (f : Mailbox → Mailbox) : Within [.host] m (Mod.onMbx m k f) := by
  unfold Mod.onMbx
  repeat' first
    | with_reducible apply Within.refl
    | with_reducible assumption
    | with_reducible apply Within.ite
    | (with_reducible apply Within.stepHost; (on_goal 1 => decide); (on_goal 1 => (intro _ h; exact h)))
    | (intro _)
    | split

theorem Mod.mbxOut_within (m : Mod) (slot ptr len type domain : Nat) : Within [.host, .sent] m (Mod.mbxOut m slot ptr len type domain) := by
  unfold Mod.mbxOut
  repeat' first
    | with_reducible apply Within.refl
    | with_reducible assumption
    | with_reducible apply Within.ite
    | (extract_lets +onlyGivenNames x; first | (refine Within.cut (x := x) ?_ ?_; (on_goal 1 => (unfold x; clear x)); on_goal 2 => (intro hx; clear_value x; rename' x => y)) | (clear_value x; rename' x => y))
    | (with_reducible apply Within.step (Mod.notify_within ..); (on_goal 1 => decide))
    | (with_reducible apply Within.step (Mod.onMbx_within ..); (on_goal 1 => decide))
    | (intro _)
    | split

theorem Mod.batchEnd_within (m : Mod) (b : BatchSt) : Within [.host, .store, .sent] m (Mod.batchEnd m b) := by
  unfold Mod.batchEnd
  repeat' first
    | with_reducible apply Within.refl
    | with_reducible assumption
    | with_reducible apply Within.ite
    | (extract_lets +onlyGivenNames x; first | (refine Within.cut (x := x) ?_ ?_; (on_goal 1 => (unfold x; clear x)); on_goal 2 => (intro hx; clear_value x; rename' x => y)) | (clear_value x; rename' x => y))
    | (with_reducible apply Within.step (Mod.xaPut_within ..); (on_goal 1 => decide))
    | (with_reducible apply Within.step (Mod.xaUnpoison_within ..); (on_goal 1 => decide))
    | (with_reducible apply Within.step (Mod.mbxOut_within ..); (on_goal 1 => decide))
    | (with_reducible apply Within.step (Mod.out_within ..); (on_goal 1 => decide))
    | (intro _)
    | split

theorem Mod.batchDone_within (m : Mod) (id : Nat) : Within [.host, .store, .sent] m (Mod.batchDone m id) := by
  unfold Mod.batchDone
  repeat' first
    | with_reducible apply Within.refl
    | with_reducible assumption
    | with_reducible apply Within.ite
    | (with_reducible apply Within.stepHost; (on_goal 1 => decide); (on_goal 1 => (intro _ h; exact h)))
    | (with_reducible apply Within.step (Mod.batchEnd_within ..); (on_goal 1 => decide))
    | (intro _)
    | split

theorem Mod.batchReply_within (m : Mod) (id item : Nat) (bs : List Byte) : Within [.host, .store, .sent] m (Mod.batchReply m id item bs) := by
  unfold Mod.batchReply
  repeat' first
    | with_reducible apply Within.refl
    | with_reducible assumption
    | with_reducible apply Within.ite
    | (with_reducible apply Within.stepHost; (on_goal 1 => decide); (on_goal 1 => (intro _ h; exact h)))
    | (with_reducible apply Within.step (Mod.batchDone_within ..); (on_goal 1 => decide))
    | (intro _)
    | split

theorem Mod.sendReplyTo_within (m : Mod) (key : List Byte) (dest : ReplyTo) (r : Reply) : Within [.host, .store, .sent] m (Mod.sendReplyTo m key dest r) := by
  unfold Mod.sendReplyTo
  repeat' first
    | with_reducible apply Within.refl
    | with_reducible assumption
    | with_reducible apply Within.ite
    | (with_reducible apply Within.step (Mod.sendReply1_within ..); (on_goal 1 => decide))
    | (with_reducible apply Within.step (Mod.batchReply_within ..); (on_goal 1 => decide))
    | (with_reducible apply Within.step (Mod.out_within ..); (on_goal 1 => decide))
    | (intro _)
    | split

theorem Mod.reply_within (m : Mod) (sid : Nat) (r : Reply) : Within [.host, .store, .sent] m (Mod.reply m sid r) := by
  unfold Mod.reply
  repeat' first
    | with_reducible apply Within.refl
    | with_reducible assumption
    | with_reducible apply Within.ite
    | (with_reducible apply Within.step (Mod.onSession_within ..); (on_goal 1 => decide))
    | (with_reducible apply Within.step (Mod.sendReplyTo_within ..); (on_goal 1 => decide))
    | with_reducible apply Within.each
    | (intro _)
    | split

theorem Mod.capture_within (m : Mod) (f : ReplayRec → ReplayRec) : Within [.pair] m (Mod.capture m f) := by
  unfold Mod.capture
  repeat' first
    | with_reducible apply Within.refl
    | with_reducible assumption
    | with_reducible apply Within.ite
    | (with_reducible apply Within.step (Mod.onPair_within ..); (on_goal 1 => decide))
    | (intro _)
    | split

theorem Mod.await_within (m : Mod) (sid : Nat) (w : Wait) : Within [.host] m (Mod.await m sid w) := by
  unfold Mod.await
  repeat' first
    | with_reducible apply Within.refl
    | with_reducible assumption
    | with_reducible apply Within.ite
    | (with_reducible apply Within.step (Mod.onSession_within ..); (on_goal 1 => decide))
    | (intro _)
    | split

theorem Mod.again_within (m : Mod) (s : Session) (seq : W32) (dest : ReplyTo) : Within [.host] m (Mod.again m s seq dest).1 := by
  unfold Mod.again
  repeat' first
    | with_reducible apply Within.refl
    | with_reducible assumption
    | with_reducible apply Within.ite
    | with_reducible apply Within.iteFst
    | (with_reducible apply Within.step (Mod.await_within ..); (on_goal 1 => decide))
    | (intro _)
    | split

theorem Mod.forget_within (m : Mod) (keep : List DispCmd) : Within [.host, .store, .disp, .sent] m (Mod.forget m keep) := by
  unfold Mod.forget
  dsimp only
  repeat' first
    | with_reducible apply Within.refl
    | with_reducible assumption
    | with_reducible apply Within.ite
    | (with_reducible apply Within.stepHost; (on_goal 1 => decide); (on_goal 1 => (intro _ h; exact h)))
    | (with_reducible apply Within.step (Mod.batchReply_within ..); (on_goal 1 => decide))
    | (with_reducible apply Within.step (Mod.onDisp_within ..); (on_goal 1 => decide))
    | with_reducible apply Within.each
    | (intro _)
    | split

end Sys2Proof.Machine
end

