-- ==== Sys2Proof/Laws/TripFrame.lean ====
section
/-! SUPPORT. Which parts of the module each operation of Machine/Trip.lean can change. -/

namespace Sys2Proof.Machine

theorem Mod.phasesOff_within (m : Mod) (n : Nat) : Within [.conv] m (Mod.phasesOff m n) := by
  unfold Mod.phasesOff
  repeat' first
    | with_reducible apply Within.refl
    | with_reducible assumption
    | with_reducible apply Within.ite
    | (with_reducible apply Within.step (Mod.onPhase_within ..); (on_goal 1 => decide))
    | with_reducible apply Within.each
    | (intro _)

theorem Mod.linkTo_within (m : Mod) (n : Nat) (st : LinkState) : Within [.conv] m (Mod.linkTo m n st) := by
  unfold Mod.linkTo
  repeat' first
    | with_reducible apply Within.refl
    | with_reducible assumption
    | with_reducible apply Within.ite
    | (with_reducible apply Within.step (Mod.onLink_within ..); (on_goal 1 => decide))
    | (with_reducible apply Within.step (Mod.phasesOff_within ..); (on_goal 1 => decide))

theorem Mod.tellCancel_within (m : Mod) (cause : Nat) : Within [.sent] m (Mod.tellCancel m cause) := by
  unfold Mod.tellCancel
  repeat' first
    | with_reducible apply Within.refl
    | with_reducible assumption
    | with_reducible apply Within.ite
    | (with_reducible apply Within.step (Mod.out_within ..); (on_goal 1 => decide))
    | (intro _)
    | split

theorem Mod.cancelActivation_within (m : Mod) (cause : Nat) : Within [.plan, .store, .sent] m (Mod.cancelActivation m cause) := by
  unfold Mod.cancelActivation
  repeat' first
    | with_reducible apply Within.refl
    | with_reducible assumption
    | with_reducible apply Within.ite
    | (with_reducible apply Within.stepPlan; (on_goal 1 => decide); (on_goal 1 => (intro _; exact ⟨rfl, rfl, rfl⟩)))
    | (with_reducible apply Within.step (Mod.tellCancel_within ..); (on_goal 1 => decide))
    | (with_reducible apply Within.step (Mod.post_within ..); (on_goal 1 => decide))
    | (intro _)
    | split

theorem Mod.yield_within (m : Mod) (drill : Bool) : Within [.plan, .store, .pair, .sent] m (Mod.yield m drill) := by
  unfold Mod.yield
  repeat' first
    | with_reducible apply Within.refl
    | with_reducible assumption
    | with_reducible apply Within.ite
    | (extract_lets +onlyGivenNames x; first | (refine Within.cut (x := x) ?_ ?_; (on_goal 1 => (unfold x; clear x)); on_goal 2 => (intro hx; clear_value x; rename' x => y)) | (clear_value x; rename' x => y))
    | (with_reducible apply Within.step (Mod.cancelActivation_within ..); (on_goal 1 => decide))
    | (with_reducible apply Within.step (Mod.onPair_within ..); (on_goal 1 => decide))
    | (with_reducible apply Within.step (Mod.out_within ..); (on_goal 1 => decide))

theorem Mod.fallowAdd_within (m : Mod) (mod : Bool) (n : Nat) (c : FallowCause) : Within [.safety] m (Mod.fallowAdd m mod n c) := by
  unfold Mod.fallowAdd
  repeat' first
    | with_reducible apply Within.refl
    | with_reducible assumption
    | with_reducible apply Within.ite
    | (extract_lets +onlyGivenNames x; clear_value x; rename' x => y)
    | (with_reducible apply Within.step (Mod.onSafety_within ..); (on_goal 1 => decide))

theorem Mod.fallowClear_within (m : Mod) (p : FallowCause → Bool) : Within [.safety] m (Mod.fallowClear m p) := by
  unfold Mod.fallowClear
  repeat' first
    | with_reducible apply Within.refl
    | with_reducible assumption
    | with_reducible apply Within.ite
    | (with_reducible apply Within.step (Mod.onSafety_within ..); (on_goal 1 => decide))

theorem Mod.evalCauses_within (m : Mod) : Within [.plan, .store, .safety, .pair, .sent] m (Mod.evalCauses m) := by
  unfold Mod.evalCauses
  repeat' first
    | with_reducible apply Within.refl
    | with_reducible assumption
    | with_reducible apply Within.ite
    | (extract_lets +onlyGivenNames x; first | (refine Within.cut (x := x) ?_ ?_; (on_goal 1 => (unfold x; clear x)); on_goal 2 => (intro hx; clear_value x; rename' x => y)) | (clear_value x; rename' x => y))
    | (with_reducible apply Within.step (Mod.fallowAdd_within ..); (on_goal 1 => decide))
    | (with_reducible apply Within.step (Mod.fallowClear_within ..); (on_goal 1 => decide))
    | (with_reducible apply Within.step (Mod.yield_within ..); (on_goal 1 => decide))
    | with_reducible apply Within.each
    | (intro _)

theorem Mod.latchCause_within (m : Mod) (n c gidx : Nat) (val : Int) : Within [.store, .conv, .prot] m (Mod.latchCause m n c gidx val) := by
  unfold Mod.latchCause
  repeat' first
    | with_reducible apply Within.refl
    | with_reducible assumption
    | with_reducible apply Within.ite
    | (extract_lets +onlyGivenNames x; first | (refine Within.cut (x := x) ?_ ?_; (on_goal 1 => (unfold x; clear x)); on_goal 2 => (intro hx; clear_value x; rename' x => y)) | (clear_value x; rename' x => y))
    | (with_reducible apply Within.step (Mod.onLink_within ..); (on_goal 1 => decide))
    | (with_reducible apply Within.step (Mod.onStrProt_within ..); (on_goal 1 => decide))
    | (with_reducible apply Within.step (Mod.post_within ..); (on_goal 1 => decide))

theorem Mod.portTrip_within (m : Mod) (n : Nat) : Within [.pair, .sent] m (Mod.portTrip m n) := by
  unfold Mod.portTrip
  repeat' first
    | with_reducible apply Within.refl
    | with_reducible assumption
    | with_reducible apply Within.ite
    | (with_reducible apply Within.step (Mod.onPair_within ..); (on_goal 1 => decide))
    | (with_reducible apply Within.step (Mod.out_within ..); (on_goal 1 => decide))

theorem Mod.tripRequest_within (m : Mod) (n : Nat) : Within [.conv, .sent] m (Mod.tripRequest m n) := by
  unfold Mod.tripRequest
  repeat' first
    | with_reducible apply Within.refl
    | with_reducible assumption
    | with_reducible apply Within.ite
    | (extract_lets +onlyGivenNames x; first | (refine Within.cut (x := x) ?_ ?_; (on_goal 1 => (unfold x; clear x)); on_goal 2 => (intro hx; clear_value x; rename' x => y)) | (clear_value x; rename' x => y))
    | (with_reducible apply Within.step (Mod.linkTo_within ..); (on_goal 1 => decide))
    | (with_reducible apply Within.step (Mod.onLink_within ..); (on_goal 1 => decide))
    | (with_reducible apply Within.step (Mod.out_within ..); (on_goal 1 => decide))

theorem Mod.switchOff_within (m : Mod) (g : Nat) : Within [.store, .conv, .prot, .safety, .sent] m (Mod.switchOff m g) := by
  unfold Mod.switchOff
  repeat' first
    | with_reducible apply Within.refl
    | with_reducible assumption
    | with_reducible apply Within.ite
    | (extract_lets +onlyGivenNames x; first | (refine Within.cut (x := x) ?_ ?_; (on_goal 1 => (unfold x; clear x)); on_goal 2 => (intro hx; clear_value x; rename' x => y)) | (clear_value x; rename' x => y))
    | (with_reducible apply Within.step (Mod.latchCause_within ..); (on_goal 1 => decide))
    | (with_reducible apply Within.step (Mod.onGroup_within ..); (on_goal 1 => decide))
    | (with_reducible apply Within.step (Mod.onSq_within ..); (on_goal 1 => decide))
    | (with_reducible apply Within.step (Mod.onStrProt_within ..); (on_goal 1 => decide))
    | (with_reducible apply Within.step (Mod.tripRequest_within ..); (on_goal 1 => decide))
    | with_reducible apply Within.each
    | (intro _)

theorem Mod.requestOpen_within (m : Mod) (g : Nat) : Within [.store, .conv, .prot, .safety, .sent] m (Mod.requestOpen m g) := by
  unfold Mod.requestOpen
  repeat' first
    | with_reducible apply Within.refl
    | with_reducible assumption
    | with_reducible apply Within.ite
    | (with_reducible apply Within.step (Mod.onGroup_within ..); (on_goal 1 => decide))
    | (with_reducible apply Within.step (Mod.onSq_within ..); (on_goal 1 => decide))
    | (with_reducible apply Within.step (Mod.switchOff_within ..); (on_goal 1 => decide))

theorem Mod.tripMates_within (m : Mod) (n g : Nat) : Within [.store, .conv, .prot, .sent] m (Mod.tripMates m n g) := by
  unfold Mod.tripMates
  repeat' first
    | with_reducible apply Within.refl
    | with_reducible assumption
    | with_reducible apply Within.ite
    | (with_reducible apply Within.step (Mod.latchCause_within ..); (on_goal 1 => decide))
    | (with_reducible apply Within.step (Mod.tripRequest_within ..); (on_goal 1 => decide))
    | with_reducible apply Within.each
    | (intro _)

theorem Mod.openGroup_within (m : Mod) (n : Nat) : Within [.store, .conv, .prot, .safety, .sent] m (Mod.openGroup m n) := by
  unfold Mod.openGroup
  repeat' first
    | with_reducible apply Within.refl
    | with_reducible assumption
    | with_reducible apply Within.ite
    | (with_reducible apply Within.step (Mod.requestOpen_within ..); (on_goal 1 => decide))
    | (with_reducible apply Within.step (Mod.tripMates_within ..); (on_goal 1 => decide))
    | (intro _)
    | split

theorem Mod.openSeqs_within (m : Mod) (l : List Nat) (c gidx : Nat) (val : Int) : Within [.store, .conv, .prot, .safety, .sent] m (Mod.openSeqs m l c gidx val) := by
  unfold Mod.openSeqs
  repeat' first
    | with_reducible apply Within.refl
    | with_reducible assumption
    | with_reducible apply Within.ite
    | (extract_lets +onlyGivenNames x; first | (refine Within.cut (x := x) ?_ ?_; (on_goal 1 => (unfold x; clear x)); on_goal 2 => (intro hx; clear_value x; rename' x => y)) | (clear_value x; rename' x => y))
    | (with_reducible apply Within.step (Mod.latchCause_within ..); (on_goal 1 => decide))
    | (with_reducible apply Within.step (Mod.openGroup_within ..); (on_goal 1 => decide))
    | (with_reducible apply Within.step (Mod.tripRequest_within ..); (on_goal 1 => decide))
    | with_reducible apply Within.each
    | (intro _)

theorem Mod.standbySafe_within (m : Mod) (n : Nat) : Within [.store, .conv, .prot, .safety, .pair, .sent] m (Mod.standbySafe m n) := by
  unfold Mod.standbySafe
  repeat' first
    | with_reducible apply Within.refl
    | with_reducible assumption
    | with_reducible apply Within.ite
    | (extract_lets +onlyGivenNames x; refine Within.cut (x := x) ?_ ?_; (on_goal 1 => (unfold x; clear x)); on_goal 2 => (intro hx; clear_value x; rename' x => y))
    | (with_reducible apply Within.step (Mod.portTrip_within ..); (on_goal 1 => decide))
    | (with_reducible apply Within.step (Mod.requestOpen_within ..); (on_goal 1 => decide))
    | (intro _)
    | split

theorem Mod.safeStateStrings_within (m : Mod) (l : List Nat) : Within [.store, .conv, .prot, .safety, .pair, .sent] m (Mod.safeStateStrings m l) := by
  unfold Mod.safeStateStrings
  repeat' first
    | with_reducible apply Within.refl
    | with_reducible assumption
    | with_reducible apply Within.ite
    | (extract_lets +onlyGivenNames x; refine Within.cut (x := x) ?_ ?_; (on_goal 1 => (unfold x; clear x)); on_goal 2 => (intro hx; clear_value x; rename' x => y))
    | (with_reducible apply Within.step (Mod.openSeqs_within ..); (on_goal 1 => decide))
    | (with_reducible apply Within.step (Mod.requestOpen_within ..); (on_goal 1 => decide))
    | (with_reducible apply Within.step (Mod.standbySafe_within ..); (on_goal 1 => decide))
    | (with_reducible apply Within.step (Mod.tripMates_within ..); (on_goal 1 => decide))
    | (with_reducible apply Within.step (Mod.tripRequest_within ..); (on_goal 1 => decide))
    | with_reducible apply Within.each
    | (intro _)
    | split

theorem Mod.applyHolds_within (m : Mod) : Within [.store, .conv, .prot, .safety, .pair, .sent] m (Mod.applyHolds m) := by
  unfold Mod.applyHolds
  repeat' first
    | with_reducible apply Within.refl
    | with_reducible assumption
    | with_reducible apply Within.ite
    | (extract_lets +onlyGivenNames x; first | (refine Within.cut (x := x) ?_ ?_; (on_goal 1 => (unfold x; clear x)); on_goal 2 => (intro hx; clear_value x; rename' x => y)) | (clear_value x; rename' x => y))
    | (with_reducible apply Within.step (Mod.latchCause_within ..); (on_goal 1 => decide))
    | (with_reducible apply Within.step (Mod.portTrip_within ..); (on_goal 1 => decide))
    | (with_reducible apply Within.step (Mod.safeStateStrings_within ..); (on_goal 1 => decide))
    | (with_reducible apply Within.step (Mod.tripRequest_within ..); (on_goal 1 => decide))
    | with_reducible apply Within.each
    | (intro _)

theorem Mod.safeStateString_within (m : Mod) (n : Nat) : Within [.store, .conv, .prot, .safety, .pair, .sent] m (Mod.safeStateString m n) := by
  unfold Mod.safeStateString
  repeat' first
    | with_reducible apply Within.refl
    | with_reducible assumption
    | with_reducible apply Within.ite
    | (with_reducible apply Within.step (Mod.safeStateStrings_within ..); (on_goal 1 => decide))

theorem Mod.trialAgain_within (m : Mod) : Within [.upd] m (Mod.trialAgain m) := by
  unfold Mod.trialAgain
  repeat' first
    | with_reducible apply Within.refl
    | with_reducible assumption
    | with_reducible apply Within.ite
    | (with_reducible apply Within.step (Mod.onUpd_within ..); (on_goal 1 => decide))

theorem Mod.selfFaultClear_within (m : Mod) (cause : Nat) : Within [.plan, .store, .safety, .pair, .sent] m (Mod.selfFaultClear m cause) := by
  unfold Mod.selfFaultClear
  repeat' first
    | with_reducible apply Within.refl
    | with_reducible assumption
    | with_reducible apply Within.ite
    | (with_reducible apply Within.step (Mod.evalCauses_within ..); (on_goal 1 => decide))
    | (with_reducible apply Within.stepPlan; (on_goal 1 => decide); (on_goal 1 => (intro _; exact ⟨rfl, rfl, rfl⟩)))
    | (with_reducible apply Within.step (Mod.post_within ..); (on_goal 1 => decide))

theorem Mod.selfFaultMod_within (m : Mod) (cause : Nat) : Within [.plan, .store, .safety, .pair, .upd, .sent] m (Mod.selfFaultMod m cause) := by
  unfold Mod.selfFaultMod
  repeat' first
    | with_reducible apply Within.refl
    | with_reducible assumption
    | with_reducible apply Within.ite
    | (extract_lets +onlyGivenNames x; refine Within.cut (x := x) ?_ ?_; (on_goal 1 => (unfold x; clear x)); on_goal 2 => (intro hx; clear_value x; rename' x => y))
    | (with_reducible apply Within.step (Mod.cancelActivation_within ..); (on_goal 1 => decide))
    | (with_reducible apply Within.step (Mod.evalCauses_within ..); (on_goal 1 => decide))
    | (with_reducible apply Within.stepPlan; (on_goal 1 => decide); (on_goal 1 => (intro _; exact ⟨rfl, rfl, rfl⟩)))
    | (with_reducible apply Within.step (Mod.post_within ..); (on_goal 1 => decide))
    | (with_reducible apply Within.step (Mod.trialAgain_within ..); (on_goal 1 => decide))

theorem Mod.openSeq_within (m : Mod) (n c gidx : Nat) (val : Int) : Within [.store, .conv, .prot, .safety, .sent] m (Mod.openSeq m n c gidx val) := by
  unfold Mod.openSeq
  repeat' first
    | with_reducible apply Within.refl
    | with_reducible assumption
    | with_reducible apply Within.ite
    | (with_reducible apply Within.step (Mod.openSeqs_within ..); (on_goal 1 => decide))

theorem Mod.canInhibit_within (m : Mod) : Within [.can] m (Mod.canInhibit m) := by
  unfold Mod.canInhibit
  repeat' first
    | with_reducible apply Within.refl
    | with_reducible assumption
    | with_reducible apply Within.ite
    | (with_reducible apply Within.step (Mod.onPort_within ..); (on_goal 1 => decide))
    | with_reducible apply Within.each
    | (intro _)
    | split

theorem Mod.toStandby_within (m : Mod) (join : JoinStep) : Within [.pair, .can] m (Mod.toStandby m join) := by
  unfold Mod.toStandby
  repeat' first
    | with_reducible apply Within.refl
    | with_reducible assumption
    | with_reducible apply Within.ite
    | (extract_lets +onlyGivenNames x; first | (refine Within.cut (x := x) ?_ ?_; (on_goal 1 => (unfold x; clear x)); on_goal 2 => (intro hx; clear_value x; rename' x => y)) | (clear_value x; rename' x => y))
    | (with_reducible apply Within.step (Mod.canInhibit_within ..); (on_goal 1 => decide))
    | (with_reducible apply Within.step (Mod.onPair_within ..); (on_goal 1 => decide))
    | (intro _)
    | split

theorem Mod.releaseRole_within (m : Mod) : Within [.pair, .can] m (Mod.releaseRole m) := by
  unfold Mod.releaseRole
  repeat' first
    | with_reducible apply Within.refl
    | with_reducible assumption
    | with_reducible apply Within.ite
    | (with_reducible apply Within.step (Mod.toStandby_within ..); (on_goal 1 => decide))
    | (with_reducible apply Within.step (Mod.onPair_within ..); (on_goal 1 => decide))
    | (intro _)
    | split

theorem Mod.safeStop_within (m : Mod) (k : StopKind) (mod : Bool) (scope : Nat) : Within [.plan, .store, .conv, .prot, .safety, .pair, .can, .upd, .sent] m (Mod.safeStop m k mod scope) := by
  unfold Mod.safeStop
  repeat' first
    | with_reducible apply Within.refl
    | with_reducible assumption
    | with_reducible apply Within.ite
    | (extract_lets +onlyGivenNames x; first | (refine Within.cut (x := x) ?_ ?_; (on_goal 1 => (unfold x; clear x)); on_goal 2 => (intro hx; clear_value x; rename' x => y)) | (clear_value x; rename' x => y))
    | (with_reducible apply Within.step (Mod.cancelActivation_within ..); (on_goal 1 => decide))
    | (with_reducible apply Within.step (Mod.safeStateStrings_within ..); (on_goal 1 => decide))
    | (with_reducible apply Within.step (Mod.trialAgain_within ..); (on_goal 1 => decide))
    | (with_reducible apply Within.step (Mod.releaseRole_within ..); (on_goal 1 => decide))
    | (with_reducible apply Within.step (Mod.onSafety_within ..); (on_goal 1 => decide))
    | (intro _)
    | split

theorem Mod.driverBack_within (m : Mod) : Within [.pair] m (Mod.driverBack m) := by
  unfold Mod.driverBack
  repeat' first
    | with_reducible apply Within.refl
    | with_reducible assumption
    | with_reducible apply Within.ite
    | (with_reducible apply Within.step (Mod.onPair_within ..); (on_goal 1 => decide))
    | (intro _)
    | split

theorem Mod.tellPartner_within (m : Mod) (k : Nat) : Within [.sent] m (Mod.tellPartner m k) := by
  unfold Mod.tellPartner
  repeat' first
    | with_reducible apply Within.refl
    | with_reducible assumption
    | with_reducible apply Within.ite
    | (with_reducible apply Within.step (Mod.out_within ..); (on_goal 1 => decide))
    | (intro _)
    | split

end Sys2Proof.Machine
end

