-- ==== Sys2Proof/Laws/ProtectionFrame.lean ====
section
/-! SUPPORT. Which parts of the module each operation of Machine/Protection.lean can change. -/

namespace Sys2Proof.Machine

theorem Mod.contFaultEnd_within (m : Mod) (g : Nat) : Within [.prot] m (Mod.contFaultEnd m g) := by
  unfold Mod.contFaultEnd
  repeat' first
    | with_reducible apply Within.refl
    | with_reducible assumption
    | with_reducible apply Within.ite
    | (with_reducible apply Within.step (Mod.onGroup_within ..); (on_goal 1 => decide))

theorem Mod.dropCause_within (m : Mod) (n c : Nat) : Within [.prot] m (Mod.dropCause m n c) := by
  unfold Mod.dropCause
  repeat' first
    | with_reducible apply Within.refl
    | with_reducible assumption
    | with_reducible apply Within.ite
    | (extract_lets +onlyGivenNames x; refine Within.cut (x := x) ?_ ?_; (on_goal 1 => (unfold x; clear x)); on_goal 2 => (intro hx; clear_value x; rename' x => y))
    | (with_reducible apply Within.step (Mod.contFaultEnd_within ..); (on_goal 1 => decide))
    | (with_reducible apply Within.step (Mod.onStrProt_within ..); (on_goal 1 => decide))
    | (intro _)
    | split

theorem Mod.releaseTrip_within (m : Mod) (n : Nat) : Within [.conv] m (Mod.releaseTrip m n) := by
  unfold Mod.releaseTrip
  repeat' first
    | with_reducible apply Within.refl
    | with_reducible assumption
    | with_reducible apply Within.ite
    | (with_reducible apply Within.step (Mod.onLink_within ..); (on_goal 1 => decide))

theorem protClear_within (mask : Nat) (chargeOnly : Bool) (m : Mod) : Within [.conv, .prot] m (protClear mask chargeOnly m).1 := by
  unfold protClear
  dsimp only
  repeat' first
    | with_reducible apply Within.refl
    | with_reducible assumption
    | with_reducible apply Within.ite
    | with_reducible apply Within.iteFst
    | (with_reducible apply Within.step (Mod.dropCause_within ..); (on_goal 1 => decide))
    | (with_reducible apply Within.step (Mod.onStrProt_within ..); (on_goal 1 => decide))
    | (with_reducible apply Within.step (Mod.releaseTrip_within ..); (on_goal 1 => decide))
    | with_reducible apply Within.each
    | (intro _)

theorem Mod.closeRequest_within (m : Mod) (n : Nat) : Within [.prot, .safety] m (Mod.closeRequest m n).1 := by
  unfold Mod.closeRequest
  repeat' first
    | with_reducible apply Within.refl
    | with_reducible assumption
    | with_reducible apply Within.ite
    | with_reducible apply Within.iteFst
    | (extract_lets +onlyGivenNames x; first | (refine Within.cut (x := x) ?_ ?_; (on_goal 1 => (unfold x; clear x)); on_goal 2 => (intro hx; clear_value x; rename' x => y)) | (clear_value x; rename' x => y))
    | (with_reducible apply Within.step (Mod.onGroup_within ..); (on_goal 1 => decide))
    | (with_reducible apply Within.step (Mod.onSq_within ..); (on_goal 1 => decide))
    | (with_reducible apply Within.step (Mod.onStrProt_within ..); (on_goal 1 => decide))
    | (intro _)
    | split

theorem Mod.serviceCheck_within (m : Mod) (g : Nat) : Within [.store, .conv, .prot, .safety, .sent] m (Mod.serviceCheck m g) := by
  unfold Mod.serviceCheck
  repeat' first
    | with_reducible apply Within.refl
    | with_reducible assumption
    | with_reducible apply Within.ite
    | (with_reducible apply Within.step (Mod.switchOff_within ..); (on_goal 1 => decide))

theorem Mod.serviceOpen_within (m : Mod) (n : Nat) : Within [.store, .conv, .prot, .safety, .sent] m (Mod.serviceOpen m n) := by
  unfold Mod.serviceOpen
  repeat' first
    | with_reducible apply Within.refl
    | with_reducible assumption
    | with_reducible apply Within.ite
    | (extract_lets +onlyGivenNames x; first | (refine Within.cut (x := x) ?_ ?_; (on_goal 1 => (unfold x; clear x)); on_goal 2 => (intro hx; clear_value x; rename' x => y)) | (clear_value x; rename' x => y))
    | (with_reducible apply Within.step (Mod.onStrProt_within ..); (on_goal 1 => decide))
    | (with_reducible apply Within.step (Mod.serviceCheck_within ..); (on_goal 1 => decide))
    | (intro _)
    | split

theorem Mod.peakGrain_within (m : Mod) (n : Nat) : Within [.adc] m (Mod.peakGrain m n) := by
  unfold Mod.peakGrain
  repeat' first
    | with_reducible apply Within.refl
    | with_reducible assumption
    | with_reducible apply Within.ite
    | (with_reducible apply Within.step (Mod.onStrAdc_within ..); (on_goal 1 => decide))
    | (intro _)
    | split

theorem Mod.modTemp_within (m : Mod) (t : Int) : Within [.plan, .store, .conv, .prot, .safety, .pair, .upd, .sent] m (Mod.modTemp m t) := by
  unfold Mod.modTemp
  repeat' first
    | with_reducible apply Within.refl
    | with_reducible assumption
    | with_reducible apply Within.ite
    | (with_reducible apply Within.step (Mod.onProt_within ..); (on_goal 1 => decide))
    | (with_reducible apply Within.step (Mod.openSeqs_within ..); (on_goal 1 => decide))
    | (with_reducible apply Within.step (Mod.post_within ..); (on_goal 1 => decide))
    | (with_reducible apply Within.step (Mod.selfFaultClear_within ..); (on_goal 1 => decide))
    | (with_reducible apply Within.step (Mod.selfFaultMod_within ..); (on_goal 1 => decide))

theorem Mod.readOcLatch_within (m : Mod) (n : Nat) : Within [.store, .conv, .prot, .safety, .pair, .adc, .sent] m (Mod.readOcLatch m n) := by
  unfold Mod.readOcLatch
  repeat' first
    | with_reducible apply Within.refl
    | with_reducible assumption
    | with_reducible apply Within.ite
    | (extract_lets +onlyGivenNames x; first | (refine Within.cut (x := x) ?_ ?_; (on_goal 1 => (unfold x; clear x)); on_goal 2 => (intro hx; clear_value x; rename' x => y)) | (clear_value x; rename' x => y))
    | (with_reducible apply Within.step (Mod.openSeq_within ..); (on_goal 1 => decide))
    | (with_reducible apply Within.step (Mod.capture_within ..); (on_goal 1 => decide))
    | (with_reducible apply Within.step (Mod.onStrAdc_within ..); (on_goal 1 => decide))
    | (intro _)
    | split

theorem Mod.derate_within (m : Mod) (n : Nat) : Within [.prot] m (Mod.derate m n) := by
  unfold Mod.derate
  repeat' first
    | with_reducible apply Within.refl
    | with_reducible assumption
    | with_reducible apply Within.ite
    | (extract_lets +onlyGivenNames x; first | (refine Within.cut (x := x) ?_ ?_; (on_goal 1 => (unfold x; clear x)); on_goal 2 => (intro hx; clear_value x; rename' x => y)) | (clear_value x; rename' x => y))
    | (with_reducible apply Within.step (Mod.onStrProt_within ..); (on_goal 1 => decide))
    | (intro _)
    | split

theorem Mod.judgeTherm_within (m : Mod) (c : Nat) (others : List Int) : Within [.chain, .prot] m (Mod.judgeTherm m c others) := by
  unfold Mod.judgeTherm
  repeat' first
    | with_reducible apply Within.refl
    | with_reducible assumption
    | with_reducible apply Within.ite
    | (extract_lets +onlyGivenNames x; clear_value x; rename' x => y)
    | (with_reducible apply Within.step (Mod.onCell_within ..); (on_goal 1 => decide))
    | (with_reducible apply Within.step (Mod.onTherm_within ..); (on_goal 1 => decide))
    | (intro _)
    | split

theorem Mod.judgeTherms_within (m : Mod) (n : Nat) : Within [.chain, .prot] m (Mod.judgeTherms m n) := by
  unfold Mod.judgeTherms
  repeat' first
    | with_reducible apply Within.refl
    | with_reducible assumption
    | with_reducible apply Within.ite
    | (extract_lets +onlyGivenNames x; first | (refine Within.cut (x := x) ?_ ?_; (on_goal 1 => (unfold x; clear x)); on_goal 2 => (intro hx; clear_value x; rename' x => y)) | (clear_value x; rename' x => y))
    | (with_reducible apply Within.step (Mod.judgeTherm_within ..); (on_goal 1 => decide))
    | (with_reducible apply Within.step (Mod.onCell_within ..); (on_goal 1 => decide))
    | with_reducible apply Within.each
    | (intro _)

theorem Mod.latchForTrip_within (m : Mod) (n c gidx : Nat) (val : Int) : Within [.store, .conv, .prot] m (Mod.latchForTrip m n c gidx val) := by
  unfold Mod.latchForTrip
  repeat' first
    | with_reducible apply Within.refl
    | with_reducible assumption
    | with_reducible apply Within.ite
    | (with_reducible apply Within.step (Mod.latchCause_within ..); (on_goal 1 => decide))
    | (with_reducible apply Within.step (Mod.onStrProt_within ..); (on_goal 1 => decide))
    | with_reducible apply Within.each
    | (intro _)
    | split

theorem Mod.ocRead_within (m : Mod) (n : Nat) (rb : Option (Int × Int)) : Within [.store, .conv, .prot, .safety, .pair, .sent] m (Mod.ocRead m n rb) := by
  unfold Mod.ocRead
  repeat' first
    | with_reducible apply Within.refl
    | with_reducible assumption
    | with_reducible apply Within.ite
    | (extract_lets +onlyGivenNames x; first | (refine Within.cut (x := x) ?_ ?_; (on_goal 1 => (unfold x; clear x)); on_goal 2 => (intro hx; clear_value x; rename' x => y)) | (clear_value x; rename' x => y))
    | (with_reducible apply Within.step (Mod.openSeq_within ..); (on_goal 1 => decide))
    | (with_reducible apply Within.step (Mod.capture_within ..); (on_goal 1 => decide))
    | (with_reducible apply Within.step (Mod.onProt_within ..); (on_goal 1 => decide))
    | (intro _)
    | split

theorem Mod.protectSlot_within (m : Mod) (n : Nat) (rb : Option (Int × Int)) : Within [.store, .chain, .conv, .prot, .safety, .pair, .sent] m (Mod.protectSlot m n rb) := by
  unfold Mod.protectSlot
  repeat' first
    | with_reducible apply Within.refl
    | with_reducible assumption
    | with_reducible apply Within.ite
    | (extract_lets +onlyGivenNames x; first | (refine Within.cut (x := x) ?_ ?_; (on_goal 1 => (unfold x; clear x)); on_goal 2 => (intro hx; clear_value x; rename' x => y)) | (clear_value x; rename' x => y))
    | (with_reducible apply Within.step (Mod.derate_within ..); (on_goal 1 => decide))
    | (with_reducible apply Within.step (Mod.judgeTherms_within ..); (on_goal 1 => decide))
    | (with_reducible apply Within.step (Mod.latchForTrip_within ..); (on_goal 1 => decide))
    | (with_reducible apply Within.step (Mod.ocRead_within ..); (on_goal 1 => decide))
    | (with_reducible apply Within.step (Mod.onStrProt_within ..); (on_goal 1 => decide))
    | with_reducible apply Within.each
    | (intro _)
    | split

theorem Mod.writeOc_within (m : Mod) (n : Nat) : Within [.prot] m (Mod.writeOc m n) := by
  unfold Mod.writeOc
  repeat' first
    | with_reducible apply Within.refl
    | with_reducible assumption
    | with_reducible apply Within.ite
    | (with_reducible apply Within.step (Mod.onProt_within ..); (on_goal 1 => decide))

theorem contDelayExpiry_within (g : Nat) (m : Mod) : Within [.store, .conv, .prot, .safety, .sent] m (contDelayExpiry g m) := by
  unfold contDelayExpiry
  repeat' first
    | with_reducible apply Within.refl
    | with_reducible assumption
    | with_reducible apply Within.ite
    | (with_reducible apply Within.step (Mod.switchOff_within ..); (on_goal 1 => decide))
    | (intro _)
    | split

theorem Mod.closeDone_within (m : Mod) (g : Nat) : Within [.prot] m (Mod.closeDone m g) := by
  unfold Mod.closeDone
  repeat' first
    | with_reducible apply Within.refl
    | with_reducible assumption
    | with_reducible apply Within.ite
    | (with_reducible apply Within.step (Mod.onGroup_within ..); (on_goal 1 => decide))

theorem Mod.contFault_within (m : Mod) (g : Nat) : Within [.store, .conv, .prot, .sent] m (Mod.contFault m g) := by
  unfold Mod.contFault
  repeat' first
    | with_reducible apply Within.refl
    | with_reducible assumption
    | with_reducible apply Within.ite
    | (extract_lets +onlyGivenNames x; refine Within.cut (x := x) ?_ ?_; (on_goal 1 => (unfold x; clear x)); on_goal 2 => (intro hx; clear_value x; rename' x => y))
    | (with_reducible apply Within.step (Mod.latchCause_within ..); (on_goal 1 => decide))
    | (with_reducible apply Within.step (Mod.onGroup_within ..); (on_goal 1 => decide))
    | (with_reducible apply Within.step (Mod.tripRequest_within ..); (on_goal 1 => decide))
    | with_reducible apply Within.each
    | (intro _)

theorem contFbTimeout_within (g : Nat) (m : Mod) : Within [.store, .conv, .prot, .safety, .sent] m (contFbTimeout g m) := by
  unfold contFbTimeout
  repeat' first
    | with_reducible apply Within.refl
    | with_reducible assumption
    | with_reducible apply Within.ite
    | (extract_lets +onlyGivenNames x; clear_value x; rename' x => y)
    | (with_reducible apply Within.step (Mod.closeDone_within ..); (on_goal 1 => decide))
    | (with_reducible apply Within.step (Mod.contFault_within ..); (on_goal 1 => decide))
    | (with_reducible apply Within.step (Mod.onGroup_within ..); (on_goal 1 => decide))
    | (with_reducible apply Within.step (Mod.post_within ..); (on_goal 1 => decide))
    | (with_reducible apply Within.step (Mod.switchOff_within ..); (on_goal 1 => decide))
    | (intro _)
    | split

theorem Mod.groupFeedback_within (m : Mod) (g : Nat) (closed : Bool) : Within [.store, .conv, .prot, .safety, .sent] m (Mod.groupFeedback m g closed) := by
  unfold Mod.groupFeedback
  repeat' first
    | with_reducible apply Within.refl
    | with_reducible assumption
    | with_reducible apply Within.ite
    | (extract_lets +onlyGivenNames x; refine Within.cut (x := x) ?_ ?_; (on_goal 1 => (unfold x; clear x)); on_goal 2 => (intro hx; clear_value x; rename' x => y))
    | (with_reducible apply Within.step (Mod.closeDone_within ..); (on_goal 1 => decide))
    | (with_reducible apply Within.step (Mod.contFaultEnd_within ..); (on_goal 1 => decide))
    | (with_reducible apply Within.step (Mod.onGroup_within ..); (on_goal 1 => decide))
    | (with_reducible apply Within.step (Mod.openSeqs_within ..); (on_goal 1 => decide))
    | (with_reducible apply Within.step (Mod.post_within ..); (on_goal 1 => decide))
    | (with_reducible apply Within.step (Mod.requestOpen_within ..); (on_goal 1 => decide))
    | (intro _)
    | split

theorem Mod.feedbackChannel_within (m : Mod) (i : Nat) (b : Bool) (closed : Bool) : Within [.store, .conv, .prot, .safety, .sent] m (Mod.feedbackChannel m i b closed) := by
  unfold Mod.feedbackChannel
  repeat' first
    | with_reducible apply Within.refl
    | with_reducible assumption
    | with_reducible apply Within.ite
    | (extract_lets +onlyGivenNames x; refine Within.cut (x := x) ?_ ?_; (on_goal 1 => (unfold x; clear x)); on_goal 2 => (intro hx; clear_value x; rename' x => y))
    | (with_reducible apply Within.step (Mod.groupFeedback_within ..); (on_goal 1 => decide))
    | (with_reducible apply Within.step (Mod.onSi_within ..); (on_goal 1 => decide))
    | with_reducible apply Within.each
    | (intro _)

theorem contactorFeedbackChange_within (g : Nat) (closed : Bool) (m : Mod) : Within [.store, .conv, .prot, .safety, .sent] m (contactorFeedbackChange g closed m) := by
  unfold contactorFeedbackChange
  repeat' first
    | with_reducible apply Within.refl
    | with_reducible assumption
    | with_reducible apply Within.ite
    | (with_reducible apply Within.step (Mod.feedbackChannel_within ..); (on_goal 1 => decide))
    | (intro _)
    | split

theorem derateStepTimer_within (n : Nat) (m : Mod) : Within [.prot] m (derateStepTimer n m) := by
  unfold derateStepTimer
  repeat' first
    | with_reducible apply Within.refl
    | with_reducible assumption
    | with_reducible apply Within.ite
    | (with_reducible apply Within.step (Mod.onStrProt_within ..); (on_goal 1 => decide))

theorem ocComparatorEvent_within (n : Nat) (above active : Bool) (m : Mod) : Within [.conv, .prot, .pair, .adc, .sent] m (ocComparatorEvent n above active m) := by
  unfold ocComparatorEvent
  repeat' first
    | with_reducible apply Within.refl
    | with_reducible assumption
    | with_reducible apply Within.ite
    | (with_reducible apply Within.step (Mod.onStrAdc_within ..); (on_goal 1 => decide))
    | (with_reducible apply Within.step (Mod.onStrProt_within ..); (on_goal 1 => decide))
    | (with_reducible apply Within.step (Mod.portTrip_within ..); (on_goal 1 => decide))
    | (with_reducible apply Within.step (Mod.tripRequest_within ..); (on_goal 1 => decide))

theorem sensorBadHoldExpiry_within (n : Nat) (m : Mod) : Within [.store, .conv, .prot, .safety, .sent] m (sensorBadHoldExpiry n m) := by
  unfold sensorBadHoldExpiry
  repeat' first
    | with_reducible apply Within.refl
    | with_reducible assumption
    | with_reducible apply Within.ite
    | (with_reducible apply Within.step (Mod.onStrProt_within ..); (on_goal 1 => decide))
    | (with_reducible apply Within.step (Mod.openSeq_within ..); (on_goal 1 => decide))

theorem Mod.tripDueTick_within (m : Mod) (n : Nat) : Within [.store, .conv, .prot, .safety, .sent] m (Mod.tripDueTick m n) := by
  unfold Mod.tripDueTick
  repeat' first
    | with_reducible apply Within.refl
    | with_reducible assumption
    | with_reducible apply Within.ite
    | (with_reducible apply Within.step (Mod.tripRequest_within ..); (on_goal 1 => decide))
    | (with_reducible apply Within.step (Mod.openGroup_within ..); (on_goal 1 => decide))
    | (with_reducible apply Within.step (Mod.onStrProt_within ..); (on_goal 1 => decide))
    | (intro _)
    | split

theorem Mod.setLine_within (m : Mod) (n : Nat) (sig : LineSignal) : Within [.chain, .sent] m (Mod.setLine m n sig) := by
  unfold Mod.setLine
  repeat' first
    | with_reducible apply Within.refl
    | with_reducible assumption
    | with_reducible apply Within.ite
    | (with_reducible apply Within.step (Mod.onRing_within ..); (on_goal 1 => decide))
    | (with_reducible apply Within.step (Mod.out_within ..); (on_goal 1 => decide))
    | (intro _)
    | split

theorem Mod.lineTick_within (m : Mod) : Within [.chain, .sent] m (Mod.lineTick m) := by
  unfold Mod.lineTick
  repeat' first
    | with_reducible apply Within.refl
    | with_reducible assumption
    | with_reducible apply Within.ite
    | (with_reducible apply Within.step (Mod.setLine_within ..); (on_goal 1 => decide))
    | with_reducible apply Within.each
    | (intro _)
    | split

theorem Mod.wakeTick_within (m : Mod) : Within [.chain] m (Mod.wakeTick m) := by
  unfold Mod.wakeTick
  repeat' first
    | with_reducible apply Within.refl
    | with_reducible assumption
    | with_reducible apply Within.ite
    | (with_reducible apply Within.step (Mod.onRing_within ..); (on_goal 1 => decide))
    | with_reducible apply Within.each
    | (intro _)
    | split

end Sys2Proof.Machine
end

