-- ==== Sys2Proof/Laws/AdcFrame.lean ====
section
/-! SUPPORT. Which parts of the module each operation of Machine/Adc.lean can change. -/

namespace Sys2Proof.Machine

theorem Mod.judgeRefs_within (m : Mod) (c : Nat) (r : AdcRound) : Within [.adc] m (Mod.judgeRefs m c r) := by
  unfold Mod.judgeRefs
  repeat' first
    | with_reducible apply Within.refl
    | with_reducible assumption
    | with_reducible apply Within.ite
    | (extract_lets +onlyGivenNames x; clear_value x; rename' x => y)
    | (with_reducible apply Within.step (Mod.onAdcConv_within ..); (on_goal 1 => decide))

theorem Mod.takeAi_within (m : Mod) (a : Nat) (code : Int) (lost ok : Bool) : Within [.adc] m (Mod.takeAi m a code lost ok) := by
  unfold Mod.takeAi
  repeat' first
    | with_reducible apply Within.refl
    | with_reducible assumption
    | with_reducible apply Within.ite
    | (extract_lets +onlyGivenNames x; clear_value x; rename' x => y)
    | (with_reducible apply Within.step (Mod.onAi_within ..); (on_goal 1 => decide))

theorem Mod.takeBoard_within (m : Mod) (k : Nat) (code : Int) (lost ok : Bool) : Within [.adc] m (Mod.takeBoard m k code lost ok) := by
  unfold Mod.takeBoard
  repeat' first
    | with_reducible apply Within.refl
    | with_reducible assumption
    | with_reducible apply Within.ite
    | (extract_lets +onlyGivenNames x; clear_value x; rename' x => y)
    | (with_reducible apply Within.step (Mod.onAdc_within ..); (on_goal 1 => decide))

theorem Mod.takeStr_within (m : Mod) (n ns : Nat) (code : Int) (lost ok : Bool) : Within [.prot, .adc] m (Mod.takeStr m n ns code lost ok) := by
  unfold Mod.takeStr
  repeat' first
    | with_reducible apply Within.refl
    | with_reducible assumption
    | with_reducible apply Within.ite
    | (extract_lets +onlyGivenNames x; first | (refine Within.cut (x := x) ?_ ?_; (on_goal 1 => (unfold x; clear x)); on_goal 2 => (intro hx; clear_value x; rename' x => y)) | (clear_value x; rename' x => y))
    | (with_reducible apply Within.step (Mod.onStrAdc_within ..); (on_goal 1 => decide))
    | (with_reducible apply Within.step (Mod.onStrProt_within ..); (on_goal 1 => decide))

theorem Mod.takeSlots_within (m : Mod) (c : Nat) (r : AdcRound) (top : Nat) : Within [.prot, .adc] m (Mod.takeSlots m c r top) := by
  unfold Mod.takeSlots
  repeat' first
    | with_reducible apply Within.refl
    | with_reducible assumption
    | with_reducible apply Within.ite
    | (extract_lets +onlyGivenNames x; first | (refine Within.cut (x := x) ?_ ?_; (on_goal 1 => (unfold x; clear x)); on_goal 2 => (intro hx; clear_value x; rename' x => y)) | (clear_value x; rename' x => y))
    | (with_reducible apply Within.step (Mod.takeAi_within ..); (on_goal 1 => decide))
    | (with_reducible apply Within.step (Mod.takeBoard_within ..); (on_goal 1 => decide))
    | (with_reducible apply Within.step (Mod.takeStr_within ..); (on_goal 1 => decide))
    | (with_reducible apply Within.step (Mod.onAdcConv_within ..); (on_goal 1 => decide))
    | with_reducible apply Within.each
    | (intro _)
    | split

theorem Mod.commitRound_within (m : Mod) (c : Nat) : Within [.prot, .adc] m (Mod.commitRound m c) := by
  unfold Mod.commitRound
  repeat' first
    | with_reducible apply Within.refl
    | with_reducible assumption
    | with_reducible apply Within.ite
    | (with_reducible apply Within.step (Mod.judgeRefs_within ..); (on_goal 1 => decide))
    | (with_reducible apply Within.step (Mod.takeSlots_within ..); (on_goal 1 => decide))
    | (with_reducible apply Within.step (Mod.onAdcConv_within ..); (on_goal 1 => decide))
    | (intro _)
    | split

theorem Mod.calBegin_within (m : Mod) (c : Nat) : Within [.prot, .adc] m (Mod.calBegin m c) := by
  unfold Mod.calBegin
  repeat' first
    | with_reducible apply Within.refl
    | with_reducible assumption
    | with_reducible apply Within.ite
    | (with_reducible apply Within.step (Mod.commitRound_within ..); (on_goal 1 => decide))
    | (with_reducible apply Within.step (Mod.onAdcConv_within ..); (on_goal 1 => decide))

theorem adcCtrlCal_within (mask : Nat) (m : Mod) : Within [.prot, .adc] m (adcCtrlCal mask m).1 := by
  unfold adcCtrlCal
  repeat' first
    | with_reducible apply Within.refl
    | with_reducible assumption
    | with_reducible apply Within.ite
    | with_reducible apply Within.iteFst
    | (with_reducible apply Within.step (Mod.calBegin_within ..); (on_goal 1 => decide))
    | (intro _)
    | split

theorem adcCtrlClr_within (m : Mod) : Within [.adc] m (adcCtrlClr m) := by
  unfold adcCtrlClr
  repeat' first
    | with_reducible apply Within.refl
    | with_reducible assumption
    | with_reducible apply Within.ite
    | (with_reducible apply Within.step (Mod.onAdcConv_within ..); (on_goal 1 => decide))
    | with_reducible apply Within.each
    | (intro _)

theorem Mod.inject_within (m : Mod) (c prio : Nat) (slots : List Nat) (str : Option Nat) (atNs : Nat) (codes : List Int) : Within [.adc] m (Mod.inject m c prio slots str atNs codes) := by
  unfold Mod.inject
  repeat' first
    | with_reducible apply Within.refl
    | with_reducible assumption
    | with_reducible apply Within.ite
    | (extract_lets +onlyGivenNames x; first | (refine Within.cut (x := x) ?_ ?_; (on_goal 1 => (unfold x; clear x)); on_goal 2 => (intro hx; clear_value x; rename' x => y)) | (clear_value x; rename' x => y))
    | (with_reducible apply Within.step (Mod.onAdcConv_within ..); (on_goal 1 => decide))
    | (with_reducible apply Within.step (Mod.onStrAdc_within ..); (on_goal 1 => decide))
    | with_reducible apply Within.each
    | (intro _)
    | split

theorem adcCtrlInjGo_within (c atNs : Nat) (codes : List Int) (m : Mod) : Within [.adc] m (adcCtrlInjGo c atNs codes m) := by
  unfold adcCtrlInjGo
  repeat' first
    | with_reducible apply Within.refl
    | with_reducible assumption
    | with_reducible apply Within.ite
    | (with_reducible apply Within.step (Mod.inject_within ..); (on_goal 1 => decide))
    | (intro _)
    | split

theorem Mod.aiGrain_within (m : Mod) (a : Nat) : Within [.adc] m (Mod.aiGrain m a) := by
  unfold Mod.aiGrain
  repeat' first
    | with_reducible apply Within.refl
    | with_reducible assumption
    | with_reducible apply Within.ite
    | (extract_lets +onlyGivenNames x; clear_value x; rename' x => y)
    | (with_reducible apply Within.step (Mod.onAi_within ..); (on_goal 1 => decide))

theorem Mod.boardGrain_within (m : Mod) (die : Int) : Within [.plan, .store, .conv, .prot, .safety, .pair, .adc, .upd, .sent] m (Mod.boardGrain m die) := by
  unfold Mod.boardGrain
  repeat' first
    | with_reducible apply Within.refl
    | with_reducible assumption
    | with_reducible apply Within.ite
    | (extract_lets +onlyGivenNames x; first | (refine Within.cut (x := x) ?_ ?_; (on_goal 1 => (unfold x; clear x)); on_goal 2 => (intro hx; clear_value x; rename' x => y)) | (clear_value x; rename' x => y))
    | (with_reducible apply Within.step (Mod.modTemp_within ..); (on_goal 1 => decide))
    | (with_reducible apply Within.step (Mod.onAdc_within ..); (on_goal 1 => decide))

theorem Mod.convGrain_within (m : Mod) (c : Nat) : Within [.adc] m (Mod.convGrain m c) := by
  unfold Mod.convGrain
  repeat' first
    | with_reducible apply Within.refl
    | with_reducible assumption
    | with_reducible apply Within.ite
    | (extract_lets +onlyGivenNames x; clear_value x; rename' x => y)
    | (with_reducible apply Within.step (Mod.onAdcConv_within ..); (on_goal 1 => decide))

theorem Mod.piGrain_within (m : Mod) (p : Nat) : Within [.adc] m (Mod.piGrain m p) := by
  unfold Mod.piGrain
  repeat' first
    | with_reducible apply Within.refl
    | with_reducible assumption
    | with_reducible apply Within.ite
    | (with_reducible apply Within.step (Mod.onPi_within ..); (on_goal 1 => decide))

theorem Mod.plausGrain_within (m : Mod) (n : Nat) : Within [.adc] m (Mod.plausGrain m n) := by
  unfold Mod.plausGrain
  repeat' first
    | with_reducible apply Within.refl
    | with_reducible assumption
    | with_reducible apply Within.ite
    | (extract_lets +onlyGivenNames x; clear_value x; rename' x => y)
    | (with_reducible apply Within.step (Mod.onStrAdc_within ..); (on_goal 1 => decide))

theorem Mod.strGrain_within (m : Mod) (n : Nat) : Within [.adc] m (Mod.strGrain m n) := by
  unfold Mod.strGrain
  repeat' first
    | with_reducible apply Within.refl
    | with_reducible assumption
    | with_reducible apply Within.ite
    | (extract_lets +onlyGivenNames x; clear_value x; rename' x => y)
    | (with_reducible apply Within.step (Mod.onStrAdc_within ..); (on_goal 1 => decide))
    | (with_reducible apply Within.step (Mod.plausGrain_within ..); (on_goal 1 => decide))

theorem Mod.adcGrain_within (m : Mod) (die : Int) : Within [.plan, .store, .conv, .prot, .safety, .pair, .adc, .upd, .sent] m (Mod.adcGrain m die) := by
  unfold Mod.adcGrain
  repeat' first
    | with_reducible apply Within.refl
    | with_reducible assumption
    | with_reducible apply Within.ite
    | (extract_lets +onlyGivenNames x; refine Within.cut (x := x) ?_ ?_; (on_goal 1 => (unfold x; clear x)); on_goal 2 => (intro hx; clear_value x; rename' x => y))
    | (with_reducible apply Within.step (Mod.aiGrain_within ..); (on_goal 1 => decide))
    | (with_reducible apply Within.step (Mod.boardGrain_within ..); (on_goal 1 => decide))
    | (with_reducible apply Within.step (Mod.commitRound_within ..); (on_goal 1 => decide))
    | (with_reducible apply Within.step (Mod.convGrain_within ..); (on_goal 1 => decide))
    | (with_reducible apply Within.step (Mod.piGrain_within ..); (on_goal 1 => decide))
    | (with_reducible apply Within.step (Mod.strGrain_within ..); (on_goal 1 => decide))
    | with_reducible apply Within.each
    | (intro _)

theorem Mod.dacWrite_within (m : Mod) (n : Nat) : Within [.store, .adc] m (Mod.dacWrite m n) := by
  unfold Mod.dacWrite
  repeat' first
    | with_reducible apply Within.refl
    | with_reducible assumption
    | with_reducible apply Within.ite
    | (extract_lets +onlyGivenNames x; clear_value x; rename' x => y)
    | (with_reducible apply Within.step (Mod.onStrAdc_within ..); (on_goal 1 => decide))
    | (with_reducible apply Within.step (Mod.post_within ..); (on_goal 1 => decide))
    | (intro _)
    | split

theorem Mod.ocRewrite_within (m : Mod) (old : Mod) : Within [.store, .adc] m (Mod.ocRewrite m old) := by
  unfold Mod.ocRewrite
  repeat' first
    | with_reducible apply Within.refl
    | with_reducible assumption
    | with_reducible apply Within.ite
    | (with_reducible apply Within.step (Mod.dacWrite_within ..); (on_goal 1 => decide))
    | (with_reducible apply Within.step (Mod.onStrAdc_within ..); (on_goal 1 => decide))
    | with_reducible apply Within.each
    | (intro _)
    | split

theorem Mod.calResult_within (m : Mod) (c : Nat) (offset gain : Int) : Within [.adc] m (Mod.calResult m c offset gain) := by
  unfold Mod.calResult
  repeat' first
    | with_reducible apply Within.refl
    | with_reducible assumption
    | with_reducible apply Within.ite
    | (extract_lets +onlyGivenNames x; first | (refine Within.cut (x := x) ?_ ?_; (on_goal 1 => (unfold x; clear x)); on_goal 2 => (intro hx; clear_value x; rename' x => y)) | (clear_value x; rename' x => y))
    | (with_reducible apply Within.step (Mod.onAdcConv_within ..); (on_goal 1 => decide))
    | (intro _)
    | split

theorem adcCalComplete_within (c : Nat) (offset gain : Int) (m : Mod) : Within [.prot, .adc] m (adcCalComplete c offset gain m) := by
  unfold adcCalComplete
  repeat' first
    | with_reducible apply Within.refl
    | with_reducible assumption
    | with_reducible apply Within.ite
    | (extract_lets +onlyGivenNames x; first | (refine Within.cut (x := x) ?_ ?_; (on_goal 1 => (unfold x; clear x)); on_goal 2 => (intro hx; clear_value x; rename' x => y)) | (clear_value x; rename' x => y))
    | (with_reducible apply Within.step (Mod.calBegin_within ..); (on_goal 1 => decide))
    | (with_reducible apply Within.step (Mod.calResult_within ..); (on_goal 1 => decide))
    | (intro _)
    | split

theorem adcInjectedTrigger_within (c : Nat) (src : Option Nat) (atNs : Nat) (codes : List Int) (m : Mod) : Within [.adc] m (adcInjectedTrigger c src atNs codes m) := by
  unfold adcInjectedTrigger
  repeat' first
    | with_reducible apply Within.refl
    | with_reducible assumption
    | with_reducible apply Within.ite
    | (extract_lets +onlyGivenNames x; first | (refine Within.cut (x := x) ?_ ?_; (on_goal 1 => (unfold x; clear x)); on_goal 2 => (intro hx; clear_value x; rename' x => y)) | (clear_value x; rename' x => y))
    | (with_reducible apply Within.step (Mod.inject_within ..); (on_goal 1 => decide))
    | (with_reducible apply Within.step (Mod.onAdcConv_within ..); (on_goal 1 => decide))
    | (intro _)
    | split

theorem adcRoundTrigger_within (c : Nat) (codes : List Int) (m : Mod) : Within [.prot, .adc] m (adcRoundTrigger c codes m) := by
  unfold adcRoundTrigger
  repeat' first
    | with_reducible apply Within.refl
    | with_reducible assumption
    | with_reducible apply Within.ite
    | (extract_lets +onlyGivenNames x; first | (refine Within.cut (x := x) ?_ ?_; (on_goal 1 => (unfold x; clear x)); on_goal 2 => (intro hx; clear_value x; rename' x => y)) | (clear_value x; rename' x => y))
    | (with_reducible apply Within.step (Mod.commitRound_within ..); (on_goal 1 => decide))
    | (with_reducible apply Within.step (Mod.onAdcConv_within ..); (on_goal 1 => decide))

theorem aiBurdenOpen_within (a : Nat) (m : Mod) : Within [.adc] m (aiBurdenOpen a m) := by
  unfold aiBurdenOpen
  repeat' first
    | with_reducible apply Within.refl
    | with_reducible assumption
    | with_reducible apply Within.ite
    | (with_reducible apply Within.step (Mod.onAi_within ..); (on_goal 1 => decide))

theorem aiBurdenReclose_within (a : Nat) (m : Mod) : Within [.adc] m (aiBurdenReclose a m) := by
  unfold aiBurdenReclose
  repeat' first
    | with_reducible apply Within.refl
    | with_reducible assumption
    | with_reducible apply Within.ite
    | (with_reducible apply Within.step (Mod.onAi_within ..); (on_goal 1 => decide))
    | (intro _)
    | split

theorem Mod.ocActivate_within (m : Mod) (n : Nat) : Within [.store, .prot, .adc] m (Mod.ocActivate m n) := by
  unfold Mod.ocActivate
  repeat' first
    | with_reducible apply Within.refl
    | with_reducible assumption
    | with_reducible apply Within.ite
    | (extract_lets +onlyGivenNames x; first | (refine Within.cut (x := x) ?_ ?_; (on_goal 1 => (unfold x; clear x)); on_goal 2 => (intro hx; clear_value x; rename' x => y)) | (clear_value x; rename' x => y))
    | (with_reducible apply Within.step (Mod.writeOc_within ..); (on_goal 1 => decide))
    | (with_reducible apply Within.step (Mod.dacWrite_within ..); (on_goal 1 => decide))
    | (with_reducible apply Within.step (Mod.onProt_within ..); (on_goal 1 => decide))
    | (intro _)
    | split

theorem Mod.calStart_within (m : Mod) (l : List (Int × Int)) : Within [.prot, .adc] m (m.calStart l) := by
  unfold Mod.calStart
  extract_lets go
  refine Within.foldl ?_ _ (m, l)
  intro x c
  have h1 : ∀ a b d (m : Mod), Within [.prot, .adc] m (m.calResult a b d) := fun a b d m =>
    (Mod.calResult_within m a b d).mono (by decide)
  have h2 : ∀ a (m : Mod), Within [.prot, .adc] m (m.calBegin a) := fun a m => (Mod.calBegin_within m a).mono (by decide)
  show Within _ x.1 (go x c).1
  unfold go
  dsimp only
  split
  · exact ((h2 ..).trans (h1 ..)).trans (h1 ..)
  · exact (h2 ..).trans (h1 ..)

theorem implausibleChange_within (n : Nat) (m : Mod) : Within [.store, .adc] m (implausibleChange n m) := by
  unfold implausibleChange
  repeat' first
    | with_reducible apply Within.refl
    | with_reducible assumption
    | with_reducible apply Within.ite
    | (with_reducible apply Within.step (Mod.onStrAdc_within ..); (on_goal 1 => decide))
    | (with_reducible apply Within.step (Mod.post_within ..); (on_goal 1 => decide))

theorem piNoPulseTimeout_within (p : Nat) (m : Mod) : Within [.adc] m (piNoPulseTimeout p m) := by
  unfold piNoPulseTimeout
  repeat' first
    | with_reducible apply Within.refl
    | with_reducible assumption
    | with_reducible apply Within.ite
    | (with_reducible apply Within.step (Mod.onPi_within ..); (on_goal 1 => decide))

theorem piPulse_within (p : Nat) (edge : PiEdge) (heldUs periodNs : Nat) (m : Mod) : Within [.adc] m (piPulse p edge heldUs periodNs m) := by
  unfold piPulse
  repeat' first
    | with_reducible apply Within.refl
    | with_reducible assumption
    | with_reducible apply Within.ite
    | (extract_lets +onlyGivenNames x; first | (refine Within.cut (x := x) ?_ ?_; (on_goal 1 => (unfold x; clear x)); on_goal 2 => (intro hx; clear_value x; rename' x => y)) | (clear_value x; rename' x => y))
    | (with_reducible apply Within.step (Mod.onPi_within ..); (on_goal 1 => decide))
    | (intro _)
    | split

theorem Mod.splitRound_within (m : Mod) (c : Nat) : Within [.prot, .adc] m (Mod.splitRound m c) := by
  unfold Mod.splitRound
  dsimp only
  repeat' first
    | with_reducible apply Within.refl
    | with_reducible assumption
    | with_reducible apply Within.ite
    | (with_reducible apply Within.step (Mod.commitRound_within ..); (on_goal 1 => decide))
    | (with_reducible apply Within.step (Mod.takeSlots_within ..); (on_goal 1 => decide))
    | (with_reducible apply Within.step (Mod.onAdcConv_within ..); (on_goal 1 => decide))
    | (intro _)
    | split

end Sys2Proof.Machine
end

