-- ==== Sys2Proof/Laws/EstCoreFrame.lean ====
section
/-! SUPPORT. Which parts of the module each operation of Machine/EstCore.lean can change. -/

namespace Sys2Proof.Machine

theorem Mod.estReset_within (m : Mod) (n : Nat) (gs : List Nat) (cause : Nat) : Within [.store, .est] m (Mod.estReset m n gs cause) := by
  unfold Mod.estReset
  repeat' first
    | with_reducible apply Within.refl
    | with_reducible assumption
    | with_reducible apply Within.ite
    | (with_reducible apply Within.step (Mod.onCellEst_within ..); (on_goal 1 => decide))
    | (with_reducible apply Within.step (Mod.onStore_within ..); (on_goal 1 => decide))
    | (with_reducible apply Within.step (Mod.post_within ..); (on_goal 1 => decide))
    | with_reducible apply Within.each
    | (intro _)

theorem Mod.reacquire_within (m : Mod) (n g cause : Nat) : Within [.store, .est] m (Mod.reacquire m n g cause) := by
  unfold Mod.reacquire
  repeat' first
    | with_reducible apply Within.refl
    | with_reducible assumption
    | with_reducible apply Within.ite
    | (with_reducible apply Within.step (Mod.onCellEst_within ..); (on_goal 1 => decide))
    | (with_reducible apply Within.step (Mod.post_within ..); (on_goal 1 => decide))

end Sys2Proof.Machine
end

