-- ==== Sys2Proof/Laws/ChainFrame.lean ====
section
/-! SUPPORT. Which parts of the module each operation of Machine/Chain.lean can change. -/

namespace Sys2Proof.Machine

theorem clrChainCnt_within (mask : Nat) (m : Mod) : Within [.chain] m (clrChainCnt mask m) := by
  unfold clrChainCnt
  repeat' first
    | with_reducible apply Within.refl
    | with_reducible assumption
    | with_reducible apply Within.ite
    | (with_reducible apply Within.step (Mod.onRing_within ..); (on_goal 1 => decide))
    | with_reducible apply Within.each
    | (intro _)
    | split

theorem Mod.startEnum_within (m : Mod) (n : Nat) (cfgLost : Bool) : Within [.chain] m (Mod.startEnum m n cfgLost) := by
  unfold Mod.startEnum
  repeat' first
    | with_reducible apply Within.refl
    | with_reducible assumption
    | with_reducible apply Within.ite
    | (with_reducible apply Within.step (Mod.onRing_within ..); (on_goal 1 => decide))
    | (intro _)
    | split

theorem enumerateCmd_within (mask : Nat) (m : Mod) : Within [.chain] m (enumerateCmd mask m) := by
  unfold enumerateCmd
  repeat' first
    | with_reducible apply Within.refl
    | with_reducible assumption
    | with_reducible apply Within.ite
    | (with_reducible apply Within.step (Mod.startEnum_within ..); (on_goal 1 => decide))
    | with_reducible apply Within.each
    | (intro _)
    | split

theorem Mod.orderFullTest_within (m : Mod) (n a : Nat) : Within [.chain] m (Mod.orderFullTest m n a) := by
  unfold Mod.orderFullTest
  repeat' first
    | with_reducible apply Within.refl
    | with_reducible assumption
    | with_reducible apply Within.ite
    | (extract_lets +onlyGivenNames x; first | (refine Within.cut (x := x) ?_ ?_; (on_goal 1 => (unfold x; clear x)); on_goal 2 => (intro hx; clear_value x; rename' x => y)) | (clear_value x; rename' x => y))
    | (with_reducible apply Within.step (Mod.owPend_within ..); (on_goal 1 => decide))
    | (with_reducible apply Within.step (Mod.onRing_within ..); (on_goal 1 => decide))
    | (with_reducible apply Within.step (Mod.onMon_within ..); (on_goal 1 => decide))
    | (intro _)
    | split

theorem senseClear_within (n a : Nat) (m : Mod) : Within [.chain] m (senseClear n a m) := by
  unfold senseClear
  repeat' first
    | with_reducible apply Within.refl
    | with_reducible assumption
    | with_reducible apply Within.ite
    | (extract_lets +onlyGivenNames x; first | (refine Within.cut (x := x) ?_ ?_; (on_goal 1 => (unfold x; clear x)); on_goal 2 => (intro hx; clear_value x; rename' x => y)) | (clear_value x; rename' x => y))
    | (with_reducible apply Within.step (Mod.orderFullTest_within ..); (on_goal 1 => decide))
    | (with_reducible apply Within.step (Mod.onMon_within ..); (on_goal 1 => decide))
    | (intro _)
    | split

theorem toneReset_within (mask : Nat) (m : Mod) : Within [.chain, .conv, .prot] m (toneReset mask m).1 := by
  unfold toneReset
  repeat' first
    | with_reducible apply Within.refl
    | with_reducible assumption
    | with_reducible apply Within.ite
    | with_reducible apply Within.iteFst
    | (extract_lets +onlyGivenNames x; first | (refine Within.cut (x := x) ?_ ?_; (on_goal 1 => (unfold x; clear x)); on_goal 2 => (intro hx; clear_value x; rename' x => y)) | (clear_value x; rename' x => y))
    | (with_reducible apply Within.step (Mod.dropCause_within ..); (on_goal 1 => decide))
    | (with_reducible apply Within.step (Mod.releaseTrip_within ..); (on_goal 1 => decide))
    | (with_reducible apply Within.step (Mod.onRing_within ..); (on_goal 1 => decide))
    | with_reducible apply Within.each
    | (intro _)
    | split

theorem Mod.balanceSecond_within (m : Mod) (n : Nat) : Within [.chain] m (Mod.balanceSecond m n) := by
  unfold Mod.balanceSecond
  repeat' first
    | with_reducible apply Within.refl
    | with_reducible assumption
    | with_reducible apply Within.ite
    | (with_reducible apply Within.step (Mod.onCell_within ..); (on_goal 1 => decide))
    | with_reducible apply Within.each
    | (intro _)
    | split

theorem Mod.enqueue_within (m : Mod) (n : Nat) (w : ChainWait) : Within [.chain] m (Mod.enqueue m n w) := by
  unfold Mod.enqueue
  repeat' first
    | with_reducible apply Within.refl
    | with_reducible assumption
    | with_reducible apply Within.ite
    | (with_reducible apply Within.step (Mod.onRing_within ..); (on_goal 1 => decide))
    | (intro _)
    | split

theorem Mod.slowRound_within (m : Mod) (n : Nat) : Within [.chain] m (Mod.slowRound m n) := by
  unfold Mod.slowRound
  repeat' first
    | with_reducible apply Within.refl
    | with_reducible assumption
    | with_reducible apply Within.ite
    | (extract_lets +onlyGivenNames x; first | (refine Within.cut (x := x) ?_ ?_; (on_goal 1 => (unfold x; clear x)); on_goal 2 => (intro hx; clear_value x; rename' x => y)) | (clear_value x; rename' x => y))
    | (with_reducible apply Within.step (Mod.enqueue_within ..); (on_goal 1 => decide))
    | (intro _)
    | split

theorem Mod.latchSweep_within (m : Mod) (n : Nat) : Within [.chain] m (Mod.latchSweep m n) := by
  unfold Mod.latchSweep
  repeat' first
    | with_reducible apply Within.refl
    | with_reducible assumption
    | with_reducible apply Within.ite
    | (extract_lets +onlyGivenNames x; first | (refine Within.cut (x := x) ?_ ?_; (on_goal 1 => (unfold x; clear x)); on_goal 2 => (intro hx; clear_value x; rename' x => y)) | (clear_value x; rename' x => y))
    | (with_reducible apply Within.step (Mod.onRing_within ..); (on_goal 1 => decide))
    | (with_reducible apply Within.step (Mod.onCell_within ..); (on_goal 1 => decide))
    | with_reducible apply Within.each
    | (intro _)
    | split

theorem Mod.roundEnds_within (m : Mod) (n : Nat) : Within [.chain] m (Mod.roundEnds m n) := by
  unfold Mod.roundEnds
  repeat' first
    | with_reducible apply Within.refl
    | with_reducible assumption
    | with_reducible apply Within.ite
    | (with_reducible apply Within.step (Mod.onMon_within ..); (on_goal 1 => decide))
    | with_reducible apply Within.each
    | (intro _)
    | split

theorem Mod.chainGrain_within (m : Mod) (n : Nat) : Within [.store, .chain] m (Mod.chainGrain m n) := by
  unfold Mod.chainGrain
  repeat' first
    | with_reducible apply Within.refl
    | with_reducible assumption
    | with_reducible apply Within.ite
    | (extract_lets +onlyGivenNames x; first | (refine Within.cut (x := x) ?_ ?_; (on_goal 1 => (unfold x; clear x)); on_goal 2 => (intro hx; clear_value x; rename' x => y)) | (clear_value x; rename' x => y))
    | (with_reducible apply Within.step (Mod.balanceSecond_within ..); (on_goal 1 => decide))
    | (with_reducible apply Within.step (Mod.slowRound_within ..); (on_goal 1 => decide))
    | (with_reducible apply Within.step (Mod.latchSweep_within ..); (on_goal 1 => decide))
    | (with_reducible apply Within.step (Mod.roundEnds_within ..); (on_goal 1 => decide))
    | (with_reducible apply Within.step (Mod.onRing_within ..); (on_goal 1 => decide))
    | (with_reducible apply Within.step (Mod.post_within ..); (on_goal 1 => decide))
    | (intro _)
    | split

theorem Mod.writeBalance_within (m : Mod) (n a : Nat) (timers : List Nat) (prio : ChainPrio) (force : Bool) : Within [.chain] m (Mod.writeBalance m n a timers prio force) := by
  unfold Mod.writeBalance
  repeat' first
    | with_reducible apply Within.refl
    | with_reducible assumption
    | with_reducible apply Within.ite
    | (extract_lets +onlyGivenNames x; first | (refine Within.cut (x := x) ?_ ?_; (on_goal 1 => (unfold x; clear x)); on_goal 2 => (intro hx; clear_value x; rename' x => y)) | (clear_value x; rename' x => y))
    | (with_reducible apply Within.step (Mod.enqueue_within ..); (on_goal 1 => decide))
    | (with_reducible apply Within.step (Mod.onRing_within ..); (on_goal 1 => decide))
    | (intro _)
    | split

theorem Mod.balanceCheck_within (m : Mod) (n : Nat) : Within [.chain] m (Mod.balanceCheck m n) := by
  unfold Mod.balanceCheck
  repeat' first
    | with_reducible apply Within.refl
    | with_reducible assumption
    | with_reducible apply Within.ite
    | (extract_lets +onlyGivenNames x; first | (refine Within.cut (x := x) ?_ ?_; (on_goal 1 => (unfold x; clear x)); on_goal 2 => (intro hx; clear_value x; rename' x => y)) | (clear_value x; rename' x => y))
    | (with_reducible apply Within.step (Mod.writeBalance_within ..); (on_goal 1 => decide))
    | with_reducible apply Within.each
    | (intro _)
    | split

theorem Mod.judgeCell_within (m : Mod) (n : Nat) (mc : MonCfg) (k : Nat) : Within [.chain] m (Mod.judgeCell m n mc k) := by
  unfold Mod.judgeCell
  repeat' first
    | with_reducible apply Within.refl
    | with_reducible assumption
    | with_reducible apply Within.ite
    | (extract_lets +onlyGivenNames x; first | (refine Within.cut (x := x) ?_ ?_; (on_goal 1 => (unfold x; clear x)); on_goal 2 => (intro hx; clear_value x; rename' x => y)) | (clear_value x; rename' x => y))
    | (with_reducible apply Within.step (Mod.onCell_within ..); (on_goal 1 => decide))
    | (intro _)
    | split

theorem Mod.judgeRound_within (m : Mod) (n : Nat) (mc : MonCfg) (due : Bool) : Within [.chain] m (Mod.judgeRound m n mc due) := by
  unfold Mod.judgeRound
  repeat' first
    | with_reducible apply Within.refl
    | with_reducible assumption
    | with_reducible apply Within.ite
    | (with_reducible apply Within.step (Mod.onCell_within ..); (on_goal 1 => decide))
    | with_reducible apply Within.each
    | (intro _)
    | split

theorem Mod.toneSource_within (m : Mod) (n : Nat) : Within [.store, .chain] m (Mod.toneSource m n) := by
  unfold Mod.toneSource
  repeat' first
    | with_reducible apply Within.refl
    | with_reducible assumption
    | with_reducible apply Within.ite
    | (extract_lets +onlyGivenNames x; first | (refine Within.cut (x := x) ?_ ?_; (on_goal 1 => (unfold x; clear x)); on_goal 2 => (intro hx; clear_value x; rename' x => y)) | (clear_value x; rename' x => y))
    | (with_reducible apply Within.step (Mod.onRing_within ..); (on_goal 1 => decide))
    | (with_reducible apply Within.step (Mod.post_within ..); (on_goal 1 => decide))
    | (intro _)
    | split

theorem Mod.evalSweep_within (m : Mod) (n : Nat) : Within [.store, .chain, .conv, .prot, .safety, .sent] m (Mod.evalSweep m n) := by
  unfold Mod.evalSweep
  repeat' first
    | with_reducible apply Within.refl
    | with_reducible assumption
    | with_reducible apply Within.ite
    | (extract_lets +onlyGivenNames x; first | (refine Within.cut (x := x) ?_ ?_; (on_goal 1 => (unfold x; clear x)); on_goal 2 => (intro hx; clear_value x; rename' x => y)) | (clear_value x; rename' x => y))
    | (with_reducible apply Within.step (Mod.judgeCell_within ..); (on_goal 1 => decide))
    | (with_reducible apply Within.step (Mod.judgeRound_within ..); (on_goal 1 => decide))
    | (with_reducible apply Within.step (Mod.toneSource_within ..); (on_goal 1 => decide))
    | (with_reducible apply Within.step (Mod.openSeq_within ..); (on_goal 1 => decide))
    | (with_reducible apply Within.step (Mod.onRing_within ..); (on_goal 1 => decide))
    | (with_reducible apply Within.step (Mod.onMon_within ..); (on_goal 1 => decide))
    | (with_reducible apply Within.step (Mod.post_within ..); (on_goal 1 => decide))
    | with_reducible apply Within.each
    | (intro _)
    | split

theorem Mod.judgeAccel_within (m : Mod) (n : Nat) (mc : MonCfg) : Within [.chain] m (Mod.judgeAccel m n mc) := by
  unfold Mod.judgeAccel
  repeat' first
    | with_reducible apply Within.refl
    | with_reducible assumption
    | with_reducible apply Within.ite
    | (extract_lets +onlyGivenNames x; first | (refine Within.cut (x := x) ?_ ?_; (on_goal 1 => (unfold x; clear x)); on_goal 2 => (intro hx; clear_value x; rename' x => y)) | (clear_value x; rename' x => y))
    | (with_reducible apply Within.step (Mod.onMon_within ..); (on_goal 1 => decide))
    | (intro _)
    | split

theorem Mod.orderTest_within (m : Mod) (n a : Nat) (taps : List Nat) : Within [.chain] m (Mod.orderTest m n a taps) := by
  unfold Mod.orderTest
  repeat' first
    | with_reducible apply Within.refl
    | with_reducible assumption
    | with_reducible apply Within.ite
    | (extract_lets +onlyGivenNames x; first | (refine Within.cut (x := x) ?_ ?_; (on_goal 1 => (unfold x; clear x)); on_goal 2 => (intro hx; clear_value x; rename' x => y)) | (clear_value x; rename' x => y))
    | (with_reducible apply Within.step (Mod.owPend_within ..); (on_goal 1 => decide))
    | (with_reducible apply Within.step (Mod.onRing_within ..); (on_goal 1 => decide))
    | (intro _)
    | split

theorem Mod.suspectTap_within (m : Mod) (n : Nat) (mc : MonCfg) (k : Nat) : Within [.store, .chain] m (Mod.suspectTap m n mc k) := by
  unfold Mod.suspectTap
  repeat' first
    | with_reducible apply Within.refl
    | with_reducible assumption
    | with_reducible apply Within.ite
    | (extract_lets +onlyGivenNames x; first | (refine Within.cut (x := x) ?_ ?_; (on_goal 1 => (unfold x; clear x)); on_goal 2 => (intro hx; clear_value x; rename' x => y)) | (clear_value x; rename' x => y))
    | (with_reducible apply Within.step (Mod.writeBalance_within ..); (on_goal 1 => decide))
    | (with_reducible apply Within.step (Mod.orderTest_within ..); (on_goal 1 => decide))
    | (with_reducible apply Within.step (Mod.onMon_within ..); (on_goal 1 => decide))
    | (with_reducible apply Within.step (Mod.post_within ..); (on_goal 1 => decide))
    | (intro _)
    | split

theorem Mod.senseMonitor_within (m : Mod) (n : Nat) (mc : MonCfg) : Within [.store, .chain] m (Mod.senseMonitor m n mc) := by
  unfold Mod.senseMonitor
  repeat' first
    | with_reducible apply Within.refl
    | with_reducible assumption
    | with_reducible apply Within.ite
    | (extract_lets +onlyGivenNames x; first | (refine Within.cut (x := x) ?_ ?_; (on_goal 1 => (unfold x; clear x)); on_goal 2 => (intro hx; clear_value x; rename' x => y)) | (clear_value x; rename' x => y))
    | (with_reducible apply Within.step (Mod.orderTest_within ..); (on_goal 1 => decide))
    | (with_reducible apply Within.step (Mod.suspectTap_within ..); (on_goal 1 => decide))
    | (with_reducible apply Within.step (Mod.onCell_within ..); (on_goal 1 => decide))
    | (with_reducible apply Within.step (Mod.onMon_within ..); (on_goal 1 => decide))
    | (with_reducible apply Within.step (Mod.post_within ..); (on_goal 1 => decide))
    | with_reducible apply Within.each
    | (intro _)
    | split

theorem Mod.senseAnalysis_within (m : Mod) (n : Nat) : Within [.store, .chain] m (Mod.senseAnalysis m n) := by
  unfold Mod.senseAnalysis
  repeat' first
    | with_reducible apply Within.refl
    | with_reducible assumption
    | with_reducible apply Within.ite
    | (with_reducible apply Within.step (Mod.senseMonitor_within ..); (on_goal 1 => decide))
    | with_reducible apply Within.each
    | (intro _)
    | split

theorem Mod.forward_within (m : Mod) (resps : List (Nat × ChainResp)) (ends : List (Nat × EndObs)) (tones : List (Nat × BitVec 2)) : Within [.sent] m (Mod.forward m resps ends tones) := by
  unfold Mod.forward
  repeat' first
    | with_reducible apply Within.refl
    | with_reducible assumption
    | with_reducible apply Within.ite
    | (with_reducible apply Within.step (Mod.out_within ..); (on_goal 1 => decide))
    | (intro _)
    | split

theorem alarmToneAbsent_within (n : Nat) (e : RingEnd) (m : Mod) : Within [.chain, .sent] m (alarmToneAbsent n e m) := by
  unfold alarmToneAbsent
  repeat' first
    | with_reducible apply Within.refl
    | with_reducible assumption
    | with_reducible apply Within.ite
    | (extract_lets +onlyGivenNames x; first | (refine Within.cut (x := x) ?_ ?_; (on_goal 1 => (unfold x; clear x)); on_goal 2 => (intro hx; clear_value x; rename' x => y)) | (clear_value x; rename' x => y))
    | (with_reducible apply Within.step (Mod.forward_within ..); (on_goal 1 => decide))
    | (with_reducible apply Within.step (Mod.onRing_within ..); (on_goal 1 => decide))
    | (intro _)
    | split

theorem alarmToneDeclared_within (n : Nat) (e : RingEnd) (m : Mod) : Within [.store, .chain, .conv, .prot, .safety, .pair, .sent] m (alarmToneDeclared n e m) := by
  unfold alarmToneDeclared
  repeat' first
    | with_reducible apply Within.refl
    | with_reducible assumption
    | with_reducible apply Within.ite
    | (extract_lets +onlyGivenNames x; first | (refine Within.cut (x := x) ?_ ?_; (on_goal 1 => (unfold x; clear x)); on_goal 2 => (intro hx; clear_value x; rename' x => y)) | (clear_value x; rename' x => y))
    | (with_reducible apply Within.step (Mod.forward_within ..); (on_goal 1 => decide))
    | (with_reducible apply Within.step (Mod.standbySafe_within ..); (on_goal 1 => decide))
    | (with_reducible apply Within.step (Mod.openSeq_within ..); (on_goal 1 => decide))
    | (with_reducible apply Within.step (Mod.onRing_within ..); (on_goal 1 => decide))
    | (with_reducible apply Within.step (Mod.post_within ..); (on_goal 1 => decide))
    | (intro _)
    | split

theorem authReadDue_within (n a : Nat) (m : Mod) : Within [.chain] m (authReadDue n a m) := by
  unfold authReadDue
  repeat' first
    | with_reducible apply Within.refl
    | with_reducible assumption
    | with_reducible apply Within.ite
    | (with_reducible apply Within.step (Mod.enqueue_within ..); (on_goal 1 => decide))
    | (intro _)
    | split

theorem Mod.afterAuth_within (m : Mod) (n a : Nat) : Within [.chain] m (Mod.afterAuth m n a) := by
  unfold Mod.afterAuth
  repeat' first
    | with_reducible apply Within.refl
    | with_reducible assumption
    | with_reducible apply Within.ite
    | (with_reducible apply Within.step (Mod.enqueue_within ..); (on_goal 1 => decide))
    | (with_reducible apply Within.step (Mod.onMon_within ..); (on_goal 1 => decide))
    | (intro _)
    | split

theorem Mod.authFails_within (m : Mod) (n a reason : Nat) : Within [.store, .chain] m (Mod.authFails m n a reason) := by
  unfold Mod.authFails
  repeat' first
    | with_reducible apply Within.refl
    | with_reducible assumption
    | with_reducible apply Within.ite
    | (with_reducible apply Within.step (Mod.onMon_within ..); (on_goal 1 => decide))
    | (with_reducible apply Within.step (Mod.post_within ..); (on_goal 1 => decide))
    | (intro _)
    | split

theorem authTimeout_within (n a : Nat) (m : Mod) : Within [.store, .chain] m (authTimeout n a m) := by
  unfold authTimeout
  repeat' first
    | with_reducible apply Within.refl
    | with_reducible assumption
    | with_reducible apply Within.ite
    | (extract_lets +onlyGivenNames x; first | (refine Within.cut (x := x) ?_ ?_; (on_goal 1 => (unfold x; clear x)); on_goal 2 => (intro hx; clear_value x; rename' x => y)) | (clear_value x; rename' x => y))
    | (with_reducible apply Within.step (Mod.afterAuth_within ..); (on_goal 1 => decide))
    | (with_reducible apply Within.step (Mod.authFails_within ..); (on_goal 1 => decide))
    | (with_reducible apply Within.step (Mod.onRing_within ..); (on_goal 1 => decide))
    | (intro _)
    | split

theorem Mod.balMonitor_within (m : Mod) (n : Nat) (mc : MonCfg) (qs : List (Nat × Rat)) : Within [.chain] m (Mod.balMonitor m n mc qs) := by
  unfold Mod.balMonitor
  repeat' first
    | with_reducible apply Within.refl
    | with_reducible assumption
    | with_reducible apply Within.ite
    | (extract_lets +onlyGivenNames x; first | (refine Within.cut (x := x) ?_ ?_; (on_goal 1 => (unfold x; clear x)); on_goal 2 => (intro hx; clear_value x; rename' x => y)) | (clear_value x; rename' x => y))
    | (with_reducible apply Within.step (Mod.writeBalance_within ..); (on_goal 1 => decide))
    | (intro _)
    | split

theorem Mod.readBalance_within (m : Mod) (n a : Nat) : Within [.chain] m (Mod.readBalance m n a) := by
  unfold Mod.readBalance
  repeat' first
    | with_reducible apply Within.refl
    | with_reducible assumption
    | with_reducible apply Within.ite
    | (with_reducible apply Within.step (Mod.enqueue_within ..); (on_goal 1 => decide))
    | (intro _)
    | split

theorem balancePlan_within (n : Nat) (m : Mod) : Within [.chain] m (balancePlan n m) := by
  unfold balancePlan
  repeat' first
    | with_reducible apply Within.refl
    | with_reducible assumption
    | with_reducible apply Within.ite
    | (extract_lets +onlyGivenNames x; first | (refine Within.cut (x := x) ?_ ?_; (on_goal 1 => (unfold x; clear x)); on_goal 2 => (intro hx; clear_value x; rename' x => y)) | (clear_value x; rename' x => y))
    | (with_reducible apply Within.step (Mod.balMonitor_within ..); (on_goal 1 => decide))
    | (with_reducible apply Within.step (Mod.readBalance_within ..); (on_goal 1 => decide))
    | (with_reducible apply Within.step (Mod.onRing_within ..); (on_goal 1 => decide))
    | with_reducible apply Within.each
    | (intro _)
    | split

theorem Mod.wakeRing_within (m : Mod) (n : Nat) : Within [.chain, .sent] m (Mod.wakeRing m n) := by
  unfold Mod.wakeRing
  repeat' first
    | with_reducible apply Within.refl
    | with_reducible assumption
    | with_reducible apply Within.ite
    | (with_reducible apply Within.step (Mod.setLine_within ..); (on_goal 1 => decide))
    | (with_reducible apply Within.step (Mod.onRing_within ..); (on_goal 1 => decide))
    | (intro _)
    | split

theorem Mod.authTag_within (m : Mod) (n a : Nat) (e : RingEnd) (tag : List Byte) : Within [.store, .chain, .est] m (Mod.authTag m n a e tag) := by
  unfold Mod.authTag
  dsimp only
  repeat' first
    | with_reducible apply Within.refl
    | with_reducible assumption
    | with_reducible apply Within.ite
    | (with_reducible apply Within.step (Mod.orderFullTest_within ..); (on_goal 1 => decide))
    | (with_reducible apply Within.step (Mod.afterAuth_within ..); (on_goal 1 => decide))
    | (with_reducible apply Within.step (Mod.authFails_within ..); (on_goal 1 => decide))
    | (with_reducible apply Within.step (Mod.estReset_within ..); (on_goal 1 => decide))
    | (with_reducible apply Within.step (Mod.onMon_within ..); (on_goal 1 => decide))
    | (with_reducible apply Within.step (Mod.post_within ..); (on_goal 1 => decide))
    | (intro _)
    | split

theorem Mod.balMismatch_within (m : Mod) (n a commanded reported : Nat) : Within [.store, .chain] m (Mod.balMismatch m n a commanded reported) := by
  unfold Mod.balMismatch
  repeat' first
    | with_reducible apply Within.refl
    | with_reducible assumption
    | with_reducible apply Within.ite
    | (extract_lets +onlyGivenNames x; first | (refine Within.cut (x := x) ?_ ?_; (on_goal 1 => (unfold x; clear x)); on_goal 2 => (intro hx; clear_value x; rename' x => y)) | (clear_value x; rename' x => y))
    | (with_reducible apply Within.step (Mod.writeBalance_within ..); (on_goal 1 => decide))
    | (with_reducible apply Within.step (Mod.onMon_within ..); (on_goal 1 => decide))
    | (with_reducible apply Within.step (Mod.post_within ..); (on_goal 1 => decide))
    | (intro _)
    | split

theorem Mod.tapOpen_within (m : Mod) (n a k : Nat) : Within [.store, .chain] m (Mod.tapOpen m n a k) := by
  unfold Mod.tapOpen
  repeat' first
    | with_reducible apply Within.refl
    | with_reducible assumption
    | with_reducible apply Within.ite
    | (extract_lets +onlyGivenNames x; first | (refine Within.cut (x := x) ?_ ?_; (on_goal 1 => (unfold x; clear x)); on_goal 2 => (intro hx; clear_value x; rename' x => y)) | (clear_value x; rename' x => y))
    | (with_reducible apply Within.step (Mod.onMon_within ..); (on_goal 1 => decide))
    | (with_reducible apply Within.step (Mod.post_within ..); (on_goal 1 => decide))
    | (intro _)
    | split

theorem Mod.tapInconclusive_within (m : Mod) (n a k : Nat) : Within [.store, .chain] m (Mod.tapInconclusive m n a k) := by
  unfold Mod.tapInconclusive
  repeat' first
    | with_reducible apply Within.refl
    | with_reducible assumption
    | with_reducible apply Within.ite
    | (extract_lets +onlyGivenNames x; first | (refine Within.cut (x := x) ?_ ?_; (on_goal 1 => (unfold x; clear x)); on_goal 2 => (intro hx; clear_value x; rename' x => y)) | (clear_value x; rename' x => y))
    | (with_reducible apply Within.step (Mod.tapOpen_within ..); (on_goal 1 => decide))
    | (with_reducible apply Within.step (Mod.onMon_within ..); (on_goal 1 => decide))
    | (intro _)
    | split

theorem Mod.tapIntact_within (m : Mod) (n a k : Nat) : Within [.store, .chain] m (Mod.tapIntact m n a k) := by
  unfold Mod.tapIntact
  repeat' first
    | with_reducible apply Within.refl
    | with_reducible assumption
    | with_reducible apply Within.ite
    | (extract_lets +onlyGivenNames x; first | (refine Within.cut (x := x) ?_ ?_; (on_goal 1 => (unfold x; clear x)); on_goal 2 => (intro hx; clear_value x; rename' x => y)) | (clear_value x; rename' x => y))
    | (with_reducible apply Within.step (Mod.onMon_within ..); (on_goal 1 => decide))
    | (with_reducible apply Within.step (Mod.post_within ..); (on_goal 1 => decide))
    | (intro _)
    | split

theorem Mod.repeatTest_within (m : Mod) (n a : Nat) (taps : List Nat) : Within [.chain] m (Mod.repeatTest m n a taps) := by
  unfold Mod.repeatTest
  repeat' first
    | with_reducible apply Within.refl
    | with_reducible assumption
    | with_reducible apply Within.ite
    | (with_reducible apply Within.step (Mod.owPend_within ..); (on_goal 1 => decide))
    | (with_reducible apply Within.step (Mod.onRing_within ..); (on_goal 1 => decide))
    | (intro _)
    | split

theorem Mod.testFailed_within (m : Mod) (n a : Nat) (taps : List Nat) : Within [.store, .chain] m (Mod.testFailed m n a taps) := by
  unfold Mod.testFailed
  repeat' first
    | with_reducible apply Within.refl
    | with_reducible assumption
    | with_reducible apply Within.ite
    | (extract_lets +onlyGivenNames x; first | (refine Within.cut (x := x) ?_ ?_; (on_goal 1 => (unfold x; clear x)); on_goal 2 => (intro hx; clear_value x; rename' x => y)) | (clear_value x; rename' x => y))
    | (with_reducible apply Within.step (Mod.tapInconclusive_within ..); (on_goal 1 => decide))
    | (with_reducible apply Within.step (Mod.repeatTest_within ..); (on_goal 1 => decide))
    | with_reducible apply Within.each
    | (intro _)
    | split

theorem Mod.fullTestDone_within (m : Mod) (n a : Nat) : Within [.chain] m (Mod.fullTestDone m n a) := by
  unfold Mod.fullTestDone
  repeat' first
    | with_reducible apply Within.refl
    | with_reducible assumption
    | with_reducible apply Within.ite
    | (extract_lets +onlyGivenNames x; first | (refine Within.cut (x := x) ?_ ?_; (on_goal 1 => (unfold x; clear x)); on_goal 2 => (intro hx; clear_value x; rename' x => y)) | (clear_value x; rename' x => y))
    | (with_reducible apply Within.step (senseClear_within ..); (on_goal 1 => decide))
    | (with_reducible apply Within.step (Mod.onMon_within ..); (on_goal 1 => decide))
    | (intro _)
    | split

theorem Mod.fullTestEnd_within (m : Mod) (n a : Nat) : Within [.chain] m (Mod.fullTestEnd m n a) := by
  unfold Mod.fullTestEnd
  repeat' first
    | with_reducible apply Within.refl
    | with_reducible assumption
    | with_reducible apply Within.ite
    | (with_reducible apply Within.step (Mod.fullTestDone_within ..); (on_goal 1 => decide))
    | (intro _)
    | split

theorem Mod.openWireResult_within (m : Mod) (n a : Nat) (taps : BitVec 17) (p : List Byte) : Within [.store, .chain, .est] m (Mod.openWireResult m n a taps p) := by
  unfold Mod.openWireResult
  dsimp only
  repeat' first
    | with_reducible apply Within.refl
    | with_reducible assumption
    | with_reducible apply Within.ite
    | (with_reducible apply Within.step (Mod.tapOpen_within ..); (on_goal 1 => decide))
    | (with_reducible apply Within.step (Mod.tapIntact_within ..); (on_goal 1 => decide))
    | (with_reducible apply Within.step (Mod.testFailed_within ..); (on_goal 1 => decide))
    | (with_reducible apply Within.step (Mod.fullTestEnd_within ..); (on_goal 1 => decide))
    | (with_reducible apply Within.step (Mod.reacquire_within ..); (on_goal 1 => decide))
    | with_reducible apply Within.each
    | (intro _)
    | split

theorem Mod.takeBalance_within (m : Mod) (n a : Nat) (p : List Byte) : Within [.store, .chain] m (Mod.takeBalance m n a p) := by
  unfold Mod.takeBalance
  repeat' first
    | with_reducible apply Within.refl
    | with_reducible assumption
    | with_reducible apply Within.ite
    | (extract_lets +onlyGivenNames x; first | (refine Within.cut (x := x) ?_ ?_; (on_goal 1 => (unfold x; clear x)); on_goal 2 => (intro hx; clear_value x; rename' x => y)) | (clear_value x; rename' x => y))
    | (with_reducible apply Within.step (Mod.balMismatch_within ..); (on_goal 1 => decide))
    | (with_reducible apply Within.step (Mod.onCell_within ..); (on_goal 1 => decide))
    | (with_reducible apply Within.step (Mod.onMon_within ..); (on_goal 1 => decide))
    | with_reducible apply Within.each
    | (intro _)
    | split

theorem Mod.challenge_within (m : Mod) (n a : Nat) (nonce : List Byte) : Within [.chain] m (Mod.challenge m n a nonce) := by
  unfold Mod.challenge
  repeat' first
    | with_reducible apply Within.refl
    | with_reducible assumption
    | with_reducible apply Within.ite
    | (extract_lets +onlyGivenNames x; first | (refine Within.cut (x := x) ?_ ?_; (on_goal 1 => (unfold x; clear x)); on_goal 2 => (intro hx; clear_value x; rename' x => y)) | (clear_value x; rename' x => y))
    | (with_reducible apply Within.step (Mod.enqueue_within ..); (on_goal 1 => decide))
    | (with_reducible apply Within.step (Mod.onRing_within ..); (on_goal 1 => decide))
    | (intro _)
    | split

theorem Mod.nonce_within (m : Mod) : Within [.free] m (Mod.nonce m).2 := by
  unfold Mod.nonce
  repeat' first
    | with_reducible apply Within.refl
    | with_reducible assumption
    | with_reducible apply Within.ite
    | with_reducible apply Within.iteSnd
    | (extract_lets +onlyGivenNames x; first | (refine Within.cut (x := x) ?_ ?_; (on_goal 1 => (unfold x; clear x)); on_goal 2 => (intro hx; clear_value x; rename' x => y)) | (clear_value x; rename' x => y))
    | (with_reducible apply Within.step (Mod.free_within ..); (on_goal 1 => decide))
    | (intro _)
    | split

theorem Mod.writeAccepted_within (m : Mod) (n a : Nat) (e : RingEnd) (cmd : ChainCmd) : Within [.chain, .free] m (Mod.writeAccepted m n a e cmd) := by
  unfold Mod.writeAccepted
  repeat' first
    | with_reducible apply Within.refl
    | with_reducible assumption
    | with_reducible apply Within.ite
    | (extract_lets +onlyGivenNames x; first | (refine Within.cut (x := x) ?_ ?_; (on_goal 1 => (unfold x; clear x)); on_goal 2 => (intro hx; clear_value x; rename' x => y)) | (clear_value x; rename' x => y))
    | (with_reducible apply Within.step (Mod.orderFullTest_within ..); (on_goal 1 => decide))
    | (with_reducible apply Within.step (Mod.challenge_within ..); (on_goal 1 => decide))
    | (with_reducible apply Within.step (Mod.nonce_within ..); (on_goal 1 => decide))
    | (with_reducible apply Within.step (Mod.onCell_within ..); (on_goal 1 => decide))
    | (with_reducible apply Within.step (Mod.onMon_within ..); (on_goal 1 => decide))
    | with_reducible apply Within.each
    | (intro _)
    | split

theorem Mod.takeMstat_within (m : Mod) (n a : Nat) (st : W16) (point : Bool) : Within [.store, .chain, .free] m (Mod.takeMstat m n a st point) := by
  unfold Mod.takeMstat
  extract_lets +onlyGivenNames old m1 m2 mf m3 m4
  have h1 : Within [.store, .chain, .free] m m1 := (Mod.onMon_within ..).mono (by decide)
  have h2 : Within [.store, .chain, .free] m1 m2 := .ite ((Mod.post_within ..).mono (by decide)) (.refl ..)
  have h3 : Within [.store, .chain, .free] m2 m3 := by
    have hf : Within [.store, .chain, .free] m2 mf := (Mod.onMon_within ..).mono (by decide)
    unfold m3
    clear_value mf m2 m1 old
    split
    · exact .ite (.ite (hf.trans ((Mod.writeAccepted_within ..).mono (by decide))) hf) (.refl ..)
    · exact .refl ..
  have h4 : Within [.store, .chain, .free] m3 m4 := .ite ((Mod.enqueue_within ..).mono (by decide)) (.refl ..)
  refine (((h1.trans h2).trans h3).trans h4).trans ?_
  exact .ite (((Mod.onMon_within ..).mono (by decide)).trans ((Mod.startEnum_within ..).mono (by decide))) (.refl ..)

theorem Mod.takeRead12_within (m : Mod) (n : Nat) (mc : MonCfg) (p : List Byte) : Within [.store, .chain, .free] m (Mod.takeRead12 m n mc p) := by
  unfold Mod.takeRead12
  repeat' first
    | with_reducible apply Within.refl
    | with_reducible assumption
    | with_reducible apply Within.ite
    | (extract_lets +onlyGivenNames x; first | (refine Within.cut (x := x) ?_ ?_; (on_goal 1 => (unfold x; clear x)); on_goal 2 => (intro hx; clear_value x; rename' x => y)) | (clear_value x; rename' x => y))
    | (with_reducible apply Within.step (Mod.takeMstat_within ..); (on_goal 1 => decide))
    | (with_reducible apply Within.step (Mod.onCell_within ..); (on_goal 1 => decide))
    | (with_reducible apply Within.step (Mod.onMon_within ..); (on_goal 1 => decide))
    | with_reducible apply Within.each
    | (intro _)
    | split

theorem Mod.takeDie_within (m : Mod) (n : Nat) (mc : MonCfg) (t : Int) : Within [.chain] m (Mod.takeDie m n mc t) := by
  unfold Mod.takeDie
  repeat' first
    | with_reducible apply Within.refl
    | with_reducible assumption
    | with_reducible apply Within.ite
    | (extract_lets +onlyGivenNames x; first | (refine Within.cut (x := x) ?_ ?_; (on_goal 1 => (unfold x; clear x)); on_goal 2 => (intro hx; clear_value x; rename' x => y)) | (clear_value x; rename' x => y))
    | (with_reducible apply Within.step (Mod.balMonitor_within ..); (on_goal 1 => decide))
    | (with_reducible apply Within.step (Mod.onMon_within ..); (on_goal 1 => decide))
    | (intro _)
    | split

theorem Mod.takeStatus_within (m : Mod) (n : Nat) (mc : MonCfg) (p : List Byte) : Within [.store, .chain, .free] m (Mod.takeStatus m n mc p) := by
  unfold Mod.takeStatus
  repeat' first
    | with_reducible apply Within.refl
    | with_reducible assumption
    | with_reducible apply Within.ite
    | (extract_lets +onlyGivenNames x; first | (refine Within.cut (x := x) ?_ ?_; (on_goal 1 => (unfold x; clear x)); on_goal 2 => (intro hx; clear_value x; rename' x => y)) | (clear_value x; rename' x => y))
    | (with_reducible apply Within.step (Mod.takeMstat_within ..); (on_goal 1 => decide))
    | (with_reducible apply Within.step (Mod.takeDie_within ..); (on_goal 1 => decide))
    | (with_reducible apply Within.step (Mod.onMon_within ..); (on_goal 1 => decide))
    | (intro _)
    | split

theorem Mod.takeSweep_within (m : Mod) (n : Nat) (mc : MonCfg) (dir : RingEnd) (p : List Byte) (temp : Bool) : Within [.store, .chain, .free] m (Mod.takeSweep m n mc dir p temp) := by
  unfold Mod.takeSweep
  repeat' first
    | with_reducible apply Within.refl
    | with_reducible assumption
    | with_reducible apply Within.ite
    | (extract_lets +onlyGivenNames x; first | (refine Within.cut (x := x) ?_ ?_; (on_goal 1 => (unfold x; clear x)); on_goal 2 => (intro hx; clear_value x; rename' x => y)) | (clear_value x; rename' x => y))
    | (with_reducible apply Within.step (Mod.takeMstat_within ..); (on_goal 1 => decide))
    | (with_reducible apply Within.step (Mod.takeDie_within ..); (on_goal 1 => decide))
    | (with_reducible apply Within.step (Mod.onCell_within ..); (on_goal 1 => decide))
    | (with_reducible apply Within.step (Mod.onMon_within ..); (on_goal 1 => decide))
    | with_reducible apply Within.each
    | (intro _)
    | split

theorem Mod.takeEcho_within (m : Mod) (n a : Nat) (e : RingEnd) (rtt : Nat) : Within [.chain] m (Mod.takeEcho m n a e rtt) := by
  unfold Mod.takeEcho
  repeat' first
    | with_reducible apply Within.refl
    | with_reducible assumption
    | with_reducible apply Within.ite
    | (extract_lets +onlyGivenNames x; first | (refine Within.cut (x := x) ?_ ?_; (on_goal 1 => (unfold x; clear x)); on_goal 2 => (intro hx; clear_value x; rename' x => y)) | (clear_value x; rename' x => y))
    | (with_reducible apply Within.step (Mod.enqueue_within ..); (on_goal 1 => decide))
    | (with_reducible apply Within.step (Mod.onMon_within ..); (on_goal 1 => decide))
    | (intro _)
    | split

theorem Mod.monHeard_within (m : Mod) (n : Nat) (mc : MonCfg) (x : ChainTxn) (r : ChainResp) : Within [.chain] m (Mod.monHeard m n mc x r) := by
  unfold Mod.monHeard
  repeat' first
    | with_reducible apply Within.refl
    | with_reducible assumption
    | with_reducible apply Within.ite
    | (extract_lets +onlyGivenNames x; first | (refine Within.cut (x := x) ?_ ?_; (on_goal 1 => (unfold x; clear x)); on_goal 2 => (intro hx; clear_value x; rename' x => y)) | (clear_value x; rename' x => y))
    | (with_reducible apply Within.step (Mod.orderFullTest_within ..); (on_goal 1 => decide))
    | (with_reducible apply Within.step (Mod.onRing_within ..); (on_goal 1 => decide))
    | (with_reducible apply Within.step (Mod.onMon_within ..); (on_goal 1 => decide))
    | (intro _)
    | split

theorem Mod.takeResp_within (m : Mod) (n : Nat) (x : ChainTxn) (r : ChainResp) : Within [.store, .chain, .est, .sent, .free] m (Mod.takeResp m n x r) := by
  unfold Mod.takeResp
  repeat' first
    | with_reducible apply Within.refl
    | with_reducible assumption
    | with_reducible apply Within.ite
    | (extract_lets +onlyGivenNames x; first | (refine Within.cut (x := x) ?_ ?_; (on_goal 1 => (unfold x; clear x)); on_goal 2 => (intro hx; clear_value x; rename' x => y)) | (clear_value x; rename' x => y))
    | (with_reducible apply Within.step (Mod.authTag_within ..); (on_goal 1 => decide))
    | (with_reducible apply Within.step (Mod.balMismatch_within ..); (on_goal 1 => decide))
    | (with_reducible apply Within.step (Mod.testFailed_within ..); (on_goal 1 => decide))
    | (with_reducible apply Within.step (Mod.openWireResult_within ..); (on_goal 1 => decide))
    | (with_reducible apply Within.step (Mod.takeBalance_within ..); (on_goal 1 => decide))
    | (with_reducible apply Within.step (Mod.writeAccepted_within ..); (on_goal 1 => decide))
    | (with_reducible apply Within.step (Mod.takeRead12_within ..); (on_goal 1 => decide))
    | (with_reducible apply Within.step (Mod.takeStatus_within ..); (on_goal 1 => decide))
    | (with_reducible apply Within.step (Mod.takeSweep_within ..); (on_goal 1 => decide))
    | (with_reducible apply Within.step (Mod.takeEcho_within ..); (on_goal 1 => decide))
    | (with_reducible apply Within.step (Mod.monHeard_within ..); (on_goal 1 => decide))
    | (with_reducible apply Within.step (Mod.fullTestEnd_within ..); (on_goal 1 => decide))
    | (with_reducible apply Within.step (Mod.onMon_within ..); (on_goal 1 => decide))
    | (with_reducible apply Within.step (Mod.out_within ..); (on_goal 1 => decide))
    | (with_reducible apply Within.step (Mod.post_within ..); (on_goal 1 => decide))
    | (intro _)
    | split

theorem chainResponse_within (n : Nat) (r : ChainResp) (m : Mod) : Within [.host, .store, .chain, .est, .sent, .free] m (chainResponse n r m) := by
  unfold chainResponse
  dsimp only
  repeat' first
    | with_reducible apply Within.refl
    | with_reducible assumption
    | with_reducible apply Within.ite
    | (with_reducible apply Within.step (Mod.takeResp_within ..); (on_goal 1 => decide))
    | (with_reducible apply Within.step (Mod.onRing_within ..); (on_goal 1 => decide))
    | (intro _)
    | split

theorem Mod.chainResponseTaken_within (m : Mod) (n : Nat) (r : ChainResp) : Within [.host, .store, .chain, .est, .pair, .sent, .free] m (Mod.chainResponseTaken m n r) := by
  unfold Mod.chainResponseTaken
  repeat' first
    | with_reducible apply Within.refl
    | with_reducible assumption
    | with_reducible apply Within.ite
    | (with_reducible apply Within.step (chainResponse_within ..); (on_goal 1 => decide))
    | (with_reducible apply Within.step (Mod.capture_within ..); (on_goal 1 => decide))
    | (intro _)
    | split

theorem chainResponseOwn_within (n : Nat) (x : ChainRx) (m : Mod) : Within [.host, .store, .chain, .est, .pair, .sent, .free] m (chainResponseOwn n x m) := by
  unfold chainResponseOwn
  dsimp only
  repeat' first
    | with_reducible apply Within.refl
    | with_reducible assumption
    | with_reducible apply Within.ite
    | (with_reducible apply Within.step (Mod.chainResponseTaken_within ..); (on_goal 1 => decide))
    | (with_reducible apply Within.step (Mod.forward_within ..); (on_goal 1 => decide))
    | (with_reducible apply Within.step (Mod.onPair_within ..); (on_goal 1 => decide))
    | (with_reducible apply Within.step (Mod.onRing_within ..); (on_goal 1 => decide))
    | (intro _)
    | split

theorem Mod.closeMissed_within (m : Mod) (n : Nat) (w : ChainWait) : Within [.store, .chain] m (Mod.closeMissed m n w) := by
  unfold Mod.closeMissed
  repeat' first
    | with_reducible apply Within.refl
    | with_reducible assumption
    | with_reducible apply Within.ite
    | (extract_lets +onlyGivenNames x; first | (refine Within.cut (x := x) ?_ ?_; (on_goal 1 => (unfold x; clear x)); on_goal 2 => (intro hx; clear_value x; rename' x => y)) | (clear_value x; rename' x => y))
    | (with_reducible apply Within.step (Mod.enqueue_within ..); (on_goal 1 => decide))
    | (with_reducible apply Within.step (Mod.testFailed_within ..); (on_goal 1 => decide))
    | (with_reducible apply Within.step (Mod.fullTestEnd_within ..); (on_goal 1 => decide))
    | (with_reducible apply Within.step (Mod.onRing_within ..); (on_goal 1 => decide))
    | (with_reducible apply Within.step (Mod.onMon_within ..); (on_goal 1 => decide))
    | (with_reducible apply Within.step (Mod.post_within ..); (on_goal 1 => decide))
    | (intro _)
    | split

theorem Mod.closeSweep_within (m : Mod) (n : Nat) (t : ChainTxn) (cont : Bool) : Within [.chain] m (Mod.closeSweep m n t cont) := by
  unfold Mod.closeSweep
  repeat' first
    | with_reducible apply Within.refl
    | with_reducible assumption
    | with_reducible apply Within.ite
    | (extract_lets +onlyGivenNames x; first | (refine Within.cut (x := x) ?_ ?_; (on_goal 1 => (unfold x; clear x)); on_goal 2 => (intro hx; clear_value x; rename' x => y)) | (clear_value x; rename' x => y))
    | (with_reducible apply Within.step (Mod.onRing_within ..); (on_goal 1 => decide))
    | (intro _)
    | split

theorem Mod.enumFails_within (m : Mod) (n : Nat) : Within [.chain] m (Mod.enumFails m n) := by
  unfold Mod.enumFails
  repeat' first
    | with_reducible apply Within.refl
    | with_reducible assumption
    | with_reducible apply Within.ite
    | (extract_lets +onlyGivenNames x; first | (refine Within.cut (x := x) ?_ ?_; (on_goal 1 => (unfold x; clear x)); on_goal 2 => (intro hx; clear_value x; rename' x => y)) | (clear_value x; rename' x => y))
    | (with_reducible apply Within.step (Mod.onRing_within ..); (on_goal 1 => decide))
    | (with_reducible apply Within.step (Mod.onMon_within ..); (on_goal 1 => decide))
    | with_reducible apply Within.each
    | (intro _)
    | split

theorem Mod.startSequence_within (m : Mod) (n : Nat) (mc : MonCfg) (ends : List RingEnd) : Within [.chain] m (Mod.startSequence m n mc ends) := by
  unfold Mod.startSequence
  repeat' first
    | with_reducible apply Within.refl
    | with_reducible assumption
    | with_reducible apply Within.ite
    | (extract_lets +onlyGivenNames x; first | (refine Within.cut (x := x) ?_ ?_; (on_goal 1 => (unfold x; clear x)); on_goal 2 => (intro hx; clear_value x; rename' x => y)) | (clear_value x; rename' x => y))
    | (with_reducible apply Within.step (Mod.enqueue_within ..); (on_goal 1 => decide))
    | (with_reducible apply Within.step (Mod.onRing_within ..); (on_goal 1 => decide))
    | (with_reducible apply Within.step (Mod.onMon_within ..); (on_goal 1 => decide))
    | with_reducible apply Within.each
    | (intro _)
    | split

theorem Mod.enumMonitor_within (m : Mod) (n : Nat) (mc : MonCfg) (got : List (RingEnd × List (List Nat))) (cfgLost passed : Bool) : Within [.store, .chain, .est, .free] m (Mod.enumMonitor m n mc got cfgLost passed) := by
  unfold Mod.enumMonitor
  dsimp only
  repeat' first
    | with_reducible apply Within.refl
    | with_reducible assumption
    | with_reducible apply Within.ite
    | (with_reducible apply Within.step (Mod.orderFullTest_within ..); (on_goal 1 => decide))
    | (with_reducible apply Within.step (Mod.enqueue_within ..); (on_goal 1 => decide))
    | (with_reducible apply Within.step (Mod.challenge_within ..); (on_goal 1 => decide))
    | (with_reducible apply Within.step (Mod.nonce_within ..); (on_goal 1 => decide))
    | (with_reducible apply Within.step (Mod.startSequence_within ..); (on_goal 1 => decide))
    | (with_reducible apply Within.step (Mod.estReset_within ..); (on_goal 1 => decide))
    | (with_reducible apply Within.step (Mod.onMon_within ..); (on_goal 1 => decide))
    | (with_reducible apply Within.step (Mod.post_within ..); (on_goal 1 => decide))
    | (intro _)
    | split

theorem Mod.recordEnum_within (m : Mod) (n e fault hop addr : Nat) : Within [.store] m (Mod.recordEnum m n e fault hop addr) := by
  unfold Mod.recordEnum
  repeat' first
    | with_reducible apply Within.refl
    | with_reducible assumption
    | with_reducible apply Within.ite
    | (with_reducible apply Within.step (Mod.post_within ..); (on_goal 1 => decide))
    | (intro _)
    | split

theorem Mod.enumComplete_within (m : Mod) (n : Nat) : Within [.store, .chain, .est, .free] m (Mod.enumComplete m n) := by
  unfold Mod.enumComplete
  repeat' first
    | with_reducible apply Within.refl
    | with_reducible assumption
    | with_reducible apply Within.ite
    | (extract_lets +onlyGivenNames x; first | (refine Within.cut (x := x) ?_ ?_; (on_goal 1 => (unfold x; clear x)); on_goal 2 => (intro hx; clear_value x; rename' x => y)) | (clear_value x; rename' x => y))
    | (with_reducible apply Within.step (Mod.enumFails_within ..); (on_goal 1 => decide))
    | (with_reducible apply Within.step (Mod.enumMonitor_within ..); (on_goal 1 => decide))
    | (with_reducible apply Within.step (Mod.recordEnum_within ..); (on_goal 1 => decide))
    | (with_reducible apply Within.step (Mod.onRing_within ..); (on_goal 1 => decide))
    | with_reducible apply Within.each
    | (intro _)
    | split

theorem Mod.enumEnd_within (m : Mod) (n : Nat) (e : RingEnd) (got : List (List Nat)) (far : Option Nat) : Within [.store, .chain, .est, .free] m (Mod.enumEnd m n e got far) := by
  unfold Mod.enumEnd
  repeat' first
    | with_reducible apply Within.refl
    | with_reducible assumption
    | with_reducible apply Within.ite
    | (extract_lets +onlyGivenNames x; first | (refine Within.cut (x := x) ?_ ?_; (on_goal 1 => (unfold x; clear x)); on_goal 2 => (intro hx; clear_value x; rename' x => y)) | (clear_value x; rename' x => y))
    | (with_reducible apply Within.step (Mod.enumFails_within ..); (on_goal 1 => decide))
    | (with_reducible apply Within.step (Mod.recordEnum_within ..); (on_goal 1 => decide))
    | (with_reducible apply Within.step (Mod.enumComplete_within ..); (on_goal 1 => decide))
    | (with_reducible apply Within.step (Mod.onRing_within ..); (on_goal 1 => decide))
    | (intro _)
    | split

theorem chainTransactionClose_within (n : Nat) (far : Option Nat) (m : Mod) : Within [.store, .chain, .est, .free] m (chainTransactionClose n far m) := by
  unfold chainTransactionClose
  repeat' first
    | with_reducible apply Within.refl
    | with_reducible assumption
    | with_reducible apply Within.ite
    | (extract_lets +onlyGivenNames x; first | (refine Within.cut (x := x) ?_ ?_; (on_goal 1 => (unfold x; clear x)); on_goal 2 => (intro hx; clear_value x; rename' x => y)) | (clear_value x; rename' x => y))
    | (with_reducible apply Within.step (Mod.closeMissed_within ..); (on_goal 1 => decide))
    | (with_reducible apply Within.step (Mod.closeSweep_within ..); (on_goal 1 => decide))
    | (with_reducible apply Within.step (Mod.enumEnd_within ..); (on_goal 1 => decide))
    | (with_reducible apply Within.step (Mod.onRing_within ..); (on_goal 1 => decide))
    | (with_reducible apply Within.step (Mod.onMon_within ..); (on_goal 1 => decide))
    | with_reducible apply Within.each
    | (intro _)
    | split

theorem enumRetry_within (n : Nat) (m : Mod) : Within [.chain] m (enumRetry n m) := by
  unfold enumRetry
  repeat' first
    | with_reducible apply Within.refl
    | with_reducible assumption
    | with_reducible apply Within.ite
    | (extract_lets +onlyGivenNames x; first | (refine Within.cut (x := x) ?_ ?_; (on_goal 1 => (unfold x; clear x)); on_goal 2 => (intro hx; clear_value x; rename' x => y)) | (clear_value x; rename' x => y))
    | (with_reducible apply Within.step (Mod.startEnum_within ..); (on_goal 1 => decide))
    | (intro _)
    | split

theorem fullTestDue_within (n a : Nat) (m : Mod) : Within [.chain] m (fullTestDue n a m) := by
  unfold fullTestDue
  repeat' first
    | with_reducible apply Within.refl
    | with_reducible assumption
    | with_reducible apply Within.ite
    | (extract_lets +onlyGivenNames x; first | (refine Within.cut (x := x) ?_ ?_; (on_goal 1 => (unfold x; clear x)); on_goal 2 => (intro hx; clear_value x; rename' x => y)) | (clear_value x; rename' x => y))
    | (with_reducible apply Within.step (Mod.orderFullTest_within ..); (on_goal 1 => decide))
    | (with_reducible apply Within.step (Mod.onRing_within ..); (on_goal 1 => decide))
    | (intro _)
    | split

theorem Mod.wokenEnum_within (m : Mod) (n : Nat) : Within [.chain] m (Mod.wokenEnum m n) := by
  unfold Mod.wokenEnum
  repeat' first
    | with_reducible apply Within.refl
    | with_reducible assumption
    | with_reducible apply Within.ite
    | (extract_lets +onlyGivenNames x; first | (refine Within.cut (x := x) ?_ ?_; (on_goal 1 => (unfold x; clear x)); on_goal 2 => (intro hx; clear_value x; rename' x => y)) | (clear_value x; rename' x => y))
    | (with_reducible apply Within.step (Mod.startEnum_within ..); (on_goal 1 => decide))
    | (with_reducible apply Within.step (Mod.onRing_within ..); (on_goal 1 => decide))
    | (with_reducible apply Within.step (Mod.onMon_within ..); (on_goal 1 => decide))
    | with_reducible apply Within.each
    | (intro _)
    | split

theorem monitorWakeTone_within (n : Nat) (e : RingEnd) (m : Mod) : Within [.store, .chain] m (monitorWakeTone n e m) := by
  unfold monitorWakeTone
  repeat' first
    | with_reducible apply Within.refl
    | with_reducible assumption
    | with_reducible apply Within.ite
    | (extract_lets +onlyGivenNames x; first | (refine Within.cut (x := x) ?_ ?_; (on_goal 1 => (unfold x; clear x)); on_goal 2 => (intro hx; clear_value x; rename' x => y)) | (clear_value x; rename' x => y))
    | (with_reducible apply Within.step (Mod.wokenEnum_within ..); (on_goal 1 => decide))
    | (with_reducible apply Within.step (Mod.onRing_within ..); (on_goal 1 => decide))
    | (with_reducible apply Within.step (Mod.post_within ..); (on_goal 1 => decide))
    | (intro _)
    | split

theorem reauthDue_within (n a : Nat) (nonce : List Byte) (m : Mod) : Within [.chain] m (reauthDue n a nonce m) := by
  unfold reauthDue
  repeat' first
    | with_reducible apply Within.refl
    | with_reducible assumption
    | with_reducible apply Within.ite
    | (extract_lets +onlyGivenNames x; first | (refine Within.cut (x := x) ?_ ?_; (on_goal 1 => (unfold x; clear x)); on_goal 2 => (intro hx; clear_value x; rename' x => y)) | (clear_value x; rename' x => y))
    | (with_reducible apply Within.step (Mod.challenge_within ..); (on_goal 1 => decide))
    | (intro _)
    | split

theorem ringWakeDone_within (n : Nat) (m : Mod) : Within [.chain] m (ringWakeDone n m) := by
  unfold ringWakeDone
  repeat' first
    | with_reducible apply Within.refl
    | with_reducible assumption
    | with_reducible apply Within.ite
    | (with_reducible apply Within.step (Mod.wokenEnum_within ..); (on_goal 1 => decide))
    | (intro _)
    | split

theorem senseOpenHoldExpiry_within (n a tap : Nat) (m : Mod) : Within [.store, .chain, .conv, .prot, .safety, .sent] m (senseOpenHoldExpiry n a tap m) := by
  unfold senseOpenHoldExpiry
  repeat' first
    | with_reducible apply Within.refl
    | with_reducible assumption
    | with_reducible apply Within.ite
    | (extract_lets +onlyGivenNames x; first | (refine Within.cut (x := x) ?_ ?_; (on_goal 1 => (unfold x; clear x)); on_goal 2 => (intro hx; clear_value x; rename' x => y)) | (clear_value x; rename' x => y))
    | (with_reducible apply Within.step (Mod.openSeq_within ..); (on_goal 1 => decide))
    | (with_reducible apply Within.step (Mod.onRing_within ..); (on_goal 1 => decide))
    | (intro _)
    | split

theorem Mod.openTxn_within (m : Mod) (n : Nat) (f : ChainFrame) (expected : List Nat) (room start len : Nat) (w : Option ChainWait) : Within [.chain, .sent] m (Mod.openTxn m n f expected room start len w) := by
  unfold Mod.openTxn
  repeat' first
    | with_reducible apply Within.refl
    | with_reducible assumption
    | with_reducible apply Within.ite
    | (extract_lets +onlyGivenNames x; first | (refine Within.cut (x := x) ?_ ?_; (on_goal 1 => (unfold x; clear x)); on_goal 2 => (intro hx; clear_value x; rename' x => y)) | (clear_value x; rename' x => y))
    | (with_reducible apply Within.step (Mod.onRing_within ..); (on_goal 1 => decide))
    | (with_reducible apply Within.step (Mod.out_within ..); (on_goal 1 => decide))
    | (intro _)
    | split

theorem Mod.sendTrain_within (m : Mod) (n : Nat) (e : RingEnd) (cmd : ChainCmd) (expected : List Nat) (room start len : Nat) : Within [.chain, .sent] m (Mod.sendTrain m n e cmd expected room start len) := by
  unfold Mod.sendTrain
  repeat' first
    | with_reducible apply Within.refl
    | with_reducible assumption
    | with_reducible apply Within.ite
    | (extract_lets +onlyGivenNames x; first | (refine Within.cut (x := x) ?_ ?_; (on_goal 1 => (unfold x; clear x)); on_goal 2 => (intro hx; clear_value x; rename' x => y)) | (clear_value x; rename' x => y))
    | (with_reducible apply Within.step (Mod.openTxn_within ..); (on_goal 1 => decide))
    | (with_reducible apply Within.step (Mod.onRing_within ..); (on_goal 1 => decide))
    | (intro _)
    | split

theorem Mod.challenged_within (m : Mod) (n : Nat) (w : ChainWait) : Within [.chain] m (Mod.challenged m n w) := by
  unfold Mod.challenged
  repeat' first
    | with_reducible apply Within.refl
    | with_reducible assumption
    | with_reducible apply Within.ite
    | (with_reducible apply Within.step (Mod.onMon_within ..); (on_goal 1 => decide))
    | (intro _)
    | split

theorem Mod.sendWait_within (m : Mod) (n : Nat) (w : ChainWait) (start : Nat) : Within [.chain, .sent] m (Mod.sendWait m n w start) := by
  unfold Mod.sendWait
  dsimp only
  repeat' first
    | with_reducible apply Within.refl
    | with_reducible assumption
    | with_reducible apply Within.ite
    | (with_reducible apply Within.step (Mod.openTxn_within ..); (on_goal 1 => decide))
    | (with_reducible apply Within.step (Mod.challenged_within ..); (on_goal 1 => decide))
    | (with_reducible apply Within.step (Mod.onRing_within ..); (on_goal 1 => decide))
    | (with_reducible apply Within.step (Mod.onMon_within ..); (on_goal 1 => decide))
    | (intro _)
    | split

theorem Mod.diagSlot_within (m : Mod) (n s : Nat) (tests : Bool) : Within [.chain, .sent] m (Mod.diagSlot m n s tests) := by
  unfold Mod.diagSlot
  dsimp only
  repeat' first
    | with_reducible apply Within.refl
    | with_reducible assumption
    | with_reducible apply Within.ite
    | (with_reducible apply Within.step (Mod.sendTrain_within ..); (on_goal 1 => decide))
    | (with_reducible apply Within.step (Mod.sendWait_within ..); (on_goal 1 => decide))
    | (with_reducible apply Within.step (Mod.onRing_within ..); (on_goal 1 => decide))
    | (intro _)
    | split

theorem Mod.withholdForward_within (m : Mod) (n : Nat) : Within [.chain] m (Mod.withholdForward m n) := by
  unfold Mod.withholdForward
  repeat' first
    | with_reducible apply Within.refl
    | with_reducible assumption
    | with_reducible apply Within.ite
    | (extract_lets +onlyGivenNames x; first | (refine Within.cut (x := x) ?_ ?_; (on_goal 1 => (unfold x; clear x)); on_goal 2 => (intro hx; clear_value x; rename' x => y)) | (clear_value x; rename' x => y))
    | (with_reducible apply Within.step (Mod.onRing_within ..); (on_goal 1 => decide))
    | (intro _)
    | split

theorem Mod.sendForward_within (m : Mod) (n s : Nat) : Within [.chain, .sent] m (Mod.sendForward m n s) := by
  unfold Mod.sendForward
  repeat' first
    | with_reducible apply Within.refl
    | with_reducible assumption
    | with_reducible apply Within.ite
    | (extract_lets +onlyGivenNames x; first | (refine Within.cut (x := x) ?_ ?_; (on_goal 1 => (unfold x; clear x)); on_goal 2 => (intro hx; clear_value x; rename' x => y)) | (clear_value x; rename' x => y))
    | (with_reducible apply Within.step (Mod.sendTrain_within ..); (on_goal 1 => decide))
    | (with_reducible apply Within.step (Mod.withholdForward_within ..); (on_goal 1 => decide))
    | (with_reducible apply Within.step (Mod.onRing_within ..); (on_goal 1 => decide))
    | (intro _)
    | split

theorem Mod.withholdReverse_within (m : Mod) (n : Nat) : Within [.chain] m (Mod.withholdReverse m n) := by
  unfold Mod.withholdReverse
  repeat' first
    | with_reducible apply Within.refl
    | with_reducible assumption
    | with_reducible apply Within.ite
    | (with_reducible apply Within.step (Mod.onRing_within ..); (on_goal 1 => decide))
    | (intro _)
    | split

theorem Mod.sendReverse_within (m : Mod) (n s : Nat) : Within [.chain, .sent] m (Mod.sendReverse m n s) := by
  unfold Mod.sendReverse
  repeat' first
    | with_reducible apply Within.refl
    | with_reducible assumption
    | with_reducible apply Within.ite
    | (extract_lets +onlyGivenNames x; first | (refine Within.cut (x := x) ?_ ?_; (on_goal 1 => (unfold x; clear x)); on_goal 2 => (intro hx; clear_value x; rename' x => y)) | (clear_value x; rename' x => y))
    | (with_reducible apply Within.step (Mod.sendTrain_within ..); (on_goal 1 => decide))
    | (with_reducible apply Within.step (Mod.withholdReverse_within ..); (on_goal 1 => decide))
    | (with_reducible apply Within.step (Mod.onRing_within ..); (on_goal 1 => decide))
    | (intro _)
    | split

theorem Mod.chainSlots_within (m : Mod) (n s : Nat) : Within [.chain, .sent] m (Mod.chainSlots m n s) := by
  unfold Mod.chainSlots
  repeat' first
    | with_reducible apply Within.refl
    | with_reducible assumption
    | with_reducible apply Within.ite
    | (extract_lets +onlyGivenNames x; first | (refine Within.cut (x := x) ?_ ?_; (on_goal 1 => (unfold x; clear x)); on_goal 2 => (intro hx; clear_value x; rename' x => y)) | (clear_value x; rename' x => y))
    | (with_reducible apply Within.step (Mod.sendWait_within ..); (on_goal 1 => decide))
    | (with_reducible apply Within.step (Mod.diagSlot_within ..); (on_goal 1 => decide))
    | (intro _)
    | split

theorem Mod.quietTick_within (m : Mod) (n : Nat) : Within [.chain] m (Mod.quietTick m n) := by
  unfold Mod.quietTick
  repeat' first
    | with_reducible apply Within.refl
    | with_reducible assumption
    | with_reducible apply Within.ite
    | (extract_lets +onlyGivenNames x; first | (refine Within.cut (x := x) ?_ ?_; (on_goal 1 => (unfold x; clear x)); on_goal 2 => (intro hx; clear_value x; rename' x => y)) | (clear_value x; rename' x => y))
    | (with_reducible apply Within.step (Mod.withholdForward_within ..); (on_goal 1 => decide))
    | (with_reducible apply Within.step (Mod.withholdReverse_within ..); (on_goal 1 => decide))
    | (intro _)
    | split

theorem Mod.displaceReverse_within (m : Mod) (n : Nat) : Within [.chain] m (Mod.displaceReverse m n) := by
  unfold Mod.displaceReverse
  repeat' first
    | with_reducible apply Within.refl
    | with_reducible assumption
    | with_reducible apply Within.ite
    | (with_reducible apply Within.step (Mod.onRing_within ..); (on_goal 1 => decide))
    | (intro _)
    | split

theorem Mod.chainTick_within (m : Mod) (n : Nat) : Within [.chain, .sent] m (Mod.chainTick m n) := by
  unfold Mod.chainTick
  dsimp only
  repeat' first
    | with_reducible apply Within.refl
    | with_reducible assumption
    | with_reducible apply Within.ite
    | (with_reducible apply Within.step (Mod.diagSlot_within ..); (on_goal 1 => decide))
    | (with_reducible apply Within.step (Mod.sendForward_within ..); (on_goal 1 => decide))
    | (with_reducible apply Within.step (Mod.sendReverse_within ..); (on_goal 1 => decide))
    | (with_reducible apply Within.step (Mod.chainSlots_within ..); (on_goal 1 => decide))
    | (with_reducible apply Within.step (Mod.quietTick_within ..); (on_goal 1 => decide))
    | (with_reducible apply Within.step (Mod.displaceReverse_within ..); (on_goal 1 => decide))
    | (with_reducible apply Within.step (Mod.onRing_within ..); (on_goal 1 => decide))
    | (intro _)
    | split

theorem toneDetectorTest_within (n : Nat) (failed : BitVec 2) (m : Mod) : Within [.plan, .store, .chain, .safety, .pair, .sent] m (toneDetectorTest n failed m) := by
  unfold toneDetectorTest
  repeat' first
    | with_reducible apply Within.refl
    | with_reducible assumption
    | with_reducible apply Within.ite
    | (extract_lets +onlyGivenNames x; first | (refine Within.cut (x := x) ?_ ?_; (on_goal 1 => (unfold x; clear x)); on_goal 2 => (intro hx; clear_value x; rename' x => y)) | (clear_value x; rename' x => y))
    | (with_reducible apply Within.step (Mod.evalCauses_within ..); (on_goal 1 => decide))
    | (with_reducible apply Within.step (Mod.onRing_within ..); (on_goal 1 => decide))
    | (with_reducible apply Within.step (Mod.out_within ..); (on_goal 1 => decide))
    | (with_reducible apply Within.step (Mod.post_within ..); (on_goal 1 => decide))
    | with_reducible apply Within.each
    | (intro _)
    | split

theorem chainCloseOwn_within (n : Nat) (far : Option Nat) (m : Mod) : Within [.store, .chain, .est, .pair, .free] m (chainCloseOwn n far m) := by
  unfold chainCloseOwn
  repeat' first
    | with_reducible apply Within.refl
    | with_reducible assumption
    | with_reducible apply Within.ite
    | (with_reducible apply Within.step (chainTransactionClose_within ..); (on_goal 1 => decide))
    | (with_reducible apply Within.step (Mod.capture_within ..); (on_goal 1 => decide))
    | (intro _)
    | split

end Sys2Proof.Machine
end

