-- ==== Sys2Proof/Laws/EstFrame.lean ====
section
/-! SUPPORT. Which parts of the module each operation of Machine/Est.lean can change. -/

namespace Sys2Proof.Machine

theorem estRestoreCmd_within (o : Origin) (img : List Byte) (m : Mod) : Within [.est] m (estRestoreCmd o img m).1 := by
  unfold estRestoreCmd
  repeat' first
    | with_reducible apply Within.refl
    | with_reducible assumption
    | with_reducible apply Within.ite
    | with_reducible apply Within.iteFst
    | (with_reducible apply Within.step (Mod.onEst_within ..); (on_goal 1 => decide))
    | (intro _)
    | split

theorem Mod.eisCheck_within (m : Mod) (n : Nat) : Within [.est] m (Mod.eisCheck m n) := by
  unfold Mod.eisCheck
  repeat' first
    | with_reducible apply Within.refl
    | with_reducible assumption
    | with_reducible apply Within.ite
    | (extract_lets +onlyGivenNames x; first | (refine Within.cut (x := x) ?_ ?_; (on_goal 1 => (unfold x; clear x)); on_goal 2 => (intro hx; clear_value x; rename' x => y)) | (clear_value x; rename' x => y))
    | (with_reducible apply Within.step (Mod.onStrEst_within ..); (on_goal 1 => decide))
    | (intro _)
    | split

theorem Mod.anomalyStep_within (m : Mod) (g : Nat) : Within [.est] m (Mod.anomalyStep m g) := by
  unfold Mod.anomalyStep
  repeat' first
    | with_reducible apply Within.refl
    | with_reducible assumption
    | with_reducible apply Within.ite
    | (extract_lets +onlyGivenNames x; first | (refine Within.cut (x := x) ?_ ?_; (on_goal 1 => (unfold x; clear x)); on_goal 2 => (intro hx; clear_value x; rename' x => y)) | (clear_value x; rename' x => y))
    | (with_reducible apply Within.step (Mod.onCellEst_within ..); (on_goal 1 => decide))
    | (intro _)
    | split

theorem Mod.availability_within (m : Mod) (n : Nat) : Within [.est] m (Mod.availability m n) := by
  unfold Mod.availability
  repeat' first
    | with_reducible apply Within.refl
    | with_reducible assumption
    | with_reducible apply Within.ite
    | (with_reducible apply Within.step (Mod.onStrEst_within ..); (on_goal 1 => decide))
    | (intro _)
    | split

theorem Mod.cellInit_within (m : Mod) (md : Option (List Rat)) (x : StepIn) : Within [.est, .free] m (Mod.cellInit m md x) := by
  unfold Mod.cellInit
  dsimp only
  repeat' first
    | with_reducible apply Within.refl
    | with_reducible assumption
    | with_reducible apply Within.ite
    | (with_reducible apply Within.step (Mod.onCellEst_within ..); (on_goal 1 => decide))
    | (with_reducible apply Within.step (Mod.free_within ..); (on_goal 1 => decide))
    | (intro _)
    | split

theorem Mod.deviate_within (m : Mod) (g : Nat) : Within [.chain] m (Mod.deviate m g) := by
  unfold Mod.deviate
  repeat' first
    | with_reducible apply Within.refl
    | with_reducible assumption
    | with_reducible apply Within.ite
    | (extract_lets +onlyGivenNames x; first | (refine Within.cut (x := x) ?_ ?_; (on_goal 1 => (unfold x; clear x)); on_goal 2 => (intro hx; clear_value x; rename' x => y)) | (clear_value x; rename' x => y))
    | (with_reducible apply Within.step (Mod.onCell_within ..); (on_goal 1 => decide))
    | (intro _)
    | split

theorem Mod.cellTime_within (m : Mod) (x : StepIn) : Within [.chain, .est] m (Mod.cellTime m x) := by
  unfold Mod.cellTime
  repeat' first
    | with_reducible apply Within.refl
    | with_reducible assumption
    | with_reducible apply Within.ite
    | (extract_lets +onlyGivenNames x; first | (refine Within.cut (x := x) ?_ ?_; (on_goal 1 => (unfold x; clear x)); on_goal 2 => (intro hx; clear_value x; rename' x => y)) | (clear_value x; rename' x => y))
    | (with_reducible apply Within.step (Mod.deviate_within ..); (on_goal 1 => decide))
    | (with_reducible apply Within.step (Mod.onCellEst_within ..); (on_goal 1 => decide))
    | (intro _)
    | split

theorem Mod.eisTake_within (m : Mod) (x : StepIn) : Within [.est] m (Mod.eisTake m x) := by
  unfold Mod.eisTake
  dsimp only
  repeat' first
    | with_reducible apply Within.refl
    | with_reducible assumption
    | with_reducible apply Within.ite
    | (with_reducible apply Within.step (Mod.onCellEst_within ..); (on_goal 1 => decide))
    | (intro _)
    | split

theorem Mod.notGated_within (m : Mod) (x : StepIn) : Within [.est] m (Mod.notGated m x) := by
  unfold Mod.notGated
  repeat' first
    | with_reducible apply Within.refl
    | with_reducible assumption
    | with_reducible apply Within.ite
    | (with_reducible apply Within.step (Mod.onCellEst_within ..); (on_goal 1 => decide))
    | (intro _)
    | split

theorem Mod.measure_within (m : Mod) (xs : List StepIn) : Within [.store, .est] m (Mod.measure m xs) := by
  unfold Mod.measure
  repeat' first
    | with_reducible apply Within.refl
    | with_reducible assumption
    | with_reducible apply Within.ite
    | (extract_lets +onlyGivenNames x; first | (refine Within.cut (x := x) ?_ ?_; (on_goal 1 => (unfold x; clear x)); on_goal 2 => (intro hx; clear_value x; rename' x => y)) | (clear_value x; rename' x => y))
    | (with_reducible apply Within.step (Mod.notGated_within ..); (on_goal 1 => decide))
    | (with_reducible apply Within.step (Mod.reacquire_within ..); (on_goal 1 => decide))
    | (with_reducible apply Within.step (Mod.onCellEst_within ..); (on_goal 1 => decide))
    | with_reducible apply Within.each
    | (intro _)
    | split

theorem Mod.reportStep_within (m : Mod) (x : StepIn) : Within [.est] m (Mod.reportStep m x) := by
  unfold Mod.reportStep
  repeat' first
    | with_reducible apply Within.refl
    | with_reducible assumption
    | with_reducible apply Within.ite
    | (extract_lets +onlyGivenNames x; first | (refine Within.cut (x := x) ?_ ?_; (on_goal 1 => (unfold x; clear x)); on_goal 2 => (intro hx; clear_value x; rename' x => y)) | (clear_value x; rename' x => y))
    | (with_reducible apply Within.step (Mod.onCellEst_within ..); (on_goal 1 => decide))
    | (intro _)
    | split

theorem Mod.restRequest_within (m : Mod) (n : Nat) : Within [.est] m (Mod.restRequest m n) := by
  unfold Mod.restRequest
  repeat' first
    | with_reducible apply Within.refl
    | with_reducible assumption
    | with_reducible apply Within.ite
    | (extract_lets +onlyGivenNames x; first | (refine Within.cut (x := x) ?_ ?_; (on_goal 1 => (unfold x; clear x)); on_goal 2 => (intro hx; clear_value x; rename' x => y)) | (clear_value x; rename' x => y))
    | (with_reducible apply Within.step (Mod.onStrEst_within ..); (on_goal 1 => decide))
    | (intro _)
    | split

theorem Mod.restStep_within (m : Mod) (n d : Nat) (i : Rat × List (Nat × Int)) : Within [.est] m (Mod.restStep m n d i) := by
  unfold Mod.restStep
  repeat' first
    | with_reducible apply Within.refl
    | with_reducible assumption
    | with_reducible apply Within.ite
    | (extract_lets +onlyGivenNames x; first | (refine Within.cut (x := x) ?_ ?_; (on_goal 1 => (unfold x; clear x)); on_goal 2 => (intro hx; clear_value x; rename' x => y)) | (clear_value x; rename' x => y))
    | (with_reducible apply Within.step (Mod.onCellEst_within ..); (on_goal 1 => decide))
    | (with_reducible apply Within.step (Mod.onStrEst_within ..); (on_goal 1 => decide))
    | with_reducible apply Within.each
    | (intro _)
    | split

theorem Mod.anchor_within (m : Mod) (n g : Nat) (t ocv sigma : Rat) : Within [.store, .est] m (Mod.anchor m n g t ocv sigma) := by
  unfold Mod.anchor
  repeat' first
    | with_reducible apply Within.refl
    | with_reducible assumption
    | with_reducible apply Within.ite
    | (extract_lets +onlyGivenNames x; first | (refine Within.cut (x := x) ?_ ?_; (on_goal 1 => (unfold x; clear x)); on_goal 2 => (intro hx; clear_value x; rename' x => y)) | (clear_value x; rename' x => y))
    | (with_reducible apply Within.step (Mod.onCellEst_within ..); (on_goal 1 => decide))
    | (with_reducible apply Within.step (Mod.post_within ..); (on_goal 1 => decide))
    | (intro _)
    | split

theorem Mod.eisCell_within (m : Mod) (n : Nat) (mc : MonCfg) (k : Nat) (g0 : W32) (zs : List Rat) : Within [.store, .est] m (Mod.eisCell m n mc k g0 zs) := by
  unfold Mod.eisCell
  dsimp only
  repeat' first
    | with_reducible apply Within.refl
    | with_reducible assumption
    | with_reducible apply Within.ite
    | (with_reducible apply Within.step (Mod.anchor_within ..); (on_goal 1 => decide))
    | (with_reducible apply Within.step (Mod.onCellEst_within ..); (on_goal 1 => decide))
    | (intro _)
    | split

theorem Mod.eisResults_within (m : Mod) (n : Nat) (g0 : W32) : Within [.store, .est] m (Mod.eisResults m n g0) := by
  unfold Mod.eisResults
  dsimp only
  repeat' first
    | with_reducible apply Within.refl
    | with_reducible assumption
    | with_reducible apply Within.ite
    | (with_reducible apply Within.step (Mod.eisCell_within ..); (on_goal 1 => decide))
    | (with_reducible apply Within.step (Mod.onCellEst_within ..); (on_goal 1 => decide))
    | (with_reducible apply Within.step (Mod.onStrEst_within ..); (on_goal 1 => decide))
    | (with_reducible apply Within.step (Mod.post_within ..); (on_goal 1 => decide))
    | with_reducible apply Within.each
    | (intro _)
    | split

theorem Mod.eisClear_within (m : Mod) (n : Nat) : Within [.est] m (Mod.eisClear m n) := by
  unfold Mod.eisClear
  repeat' first
    | with_reducible apply Within.refl
    | with_reducible assumption
    | with_reducible apply Within.ite
    | (extract_lets +onlyGivenNames x; first | (refine Within.cut (x := x) ?_ ?_; (on_goal 1 => (unfold x; clear x)); on_goal 2 => (intro hx; clear_value x; rename' x => y)) | (clear_value x; rename' x => y))
    | (with_reducible apply Within.step (Mod.onCellEst_within ..); (on_goal 1 => decide))
    | (with_reducible apply Within.step (Mod.onStrEst_within ..); (on_goal 1 => decide))
    | with_reducible apply Within.each
    | (intro _)
    | split

theorem Mod.eisRelease_within (m : Mod) (n : Nat) : Within [.store, .est] m (Mod.eisRelease m n) := by
  unfold Mod.eisRelease
  repeat' first
    | with_reducible apply Within.refl
    | with_reducible assumption
    | with_reducible apply Within.ite
    | (with_reducible apply Within.step (Mod.eisResults_within ..); (on_goal 1 => decide))
    | (with_reducible apply Within.step (Mod.eisClear_within ..); (on_goal 1 => decide))
    | (intro _)
    | split

theorem Mod.cellIdle_within (m : Mod) (x : StepIn) : Within [.chain, .est] m (Mod.cellIdle m x) := by
  unfold Mod.cellIdle
  repeat' first
    | with_reducible apply Within.refl
    | with_reducible assumption
    | with_reducible apply Within.ite
    | (with_reducible apply Within.step (Mod.notGated_within ..); (on_goal 1 => decide))
    | (with_reducible apply Within.step (Mod.deviate_within ..); (on_goal 1 => decide))
    | (with_reducible apply Within.step (Mod.onCellEst_within ..); (on_goal 1 => decide))
    | (intro _)
    | split

theorem Mod.estStep_within (m : Mod) (n : Nat) : Within [.store, .chain, .est, .free] m (Mod.estStep m n) := by
  unfold Mod.estStep
  repeat' first
    | with_reducible apply Within.refl
    | with_reducible assumption
    | with_reducible apply Within.ite
    | (extract_lets +onlyGivenNames x; first | (refine Within.cut (x := x) ?_ ?_; (on_goal 1 => (unfold x; clear x)); on_goal 2 => (intro hx; clear_value x; rename' x => y)) | (clear_value x; rename' x => y))
    | (with_reducible apply Within.step (Mod.anomalyStep_within ..); (on_goal 1 => decide))
    | (with_reducible apply Within.step (Mod.cellInit_within ..); (on_goal 1 => decide))
    | (with_reducible apply Within.step (Mod.cellTime_within ..); (on_goal 1 => decide))
    | (with_reducible apply Within.step (Mod.eisTake_within ..); (on_goal 1 => decide))
    | (with_reducible apply Within.step (Mod.measure_within ..); (on_goal 1 => decide))
    | (with_reducible apply Within.step (Mod.reportStep_within ..); (on_goal 1 => decide))
    | (with_reducible apply Within.step (Mod.restStep_within ..); (on_goal 1 => decide))
    | (with_reducible apply Within.step (Mod.cellIdle_within ..); (on_goal 1 => decide))
    | (with_reducible apply Within.step (Mod.onCellEst_within ..); (on_goal 1 => decide))
    | (with_reducible apply Within.step (Mod.onStrEst_within ..); (on_goal 1 => decide))
    | with_reducible apply Within.each
    | (intro _)
    | split

theorem Mod.estimator_within (m : Mod) (n : Nat) : Within [.store, .chain, .est, .free] m (Mod.estimator m n) := by
  unfold Mod.estimator
  repeat' first
    | with_reducible apply Within.refl
    | with_reducible assumption
    | with_reducible apply Within.ite
    | (extract_lets +onlyGivenNames x; first | (refine Within.cut (x := x) ?_ ?_; (on_goal 1 => (unfold x; clear x)); on_goal 2 => (intro hx; clear_value x; rename' x => y)) | (clear_value x; rename' x => y))
    | (with_reducible apply Within.step (Mod.availability_within ..); (on_goal 1 => decide))
    | (with_reducible apply Within.step (Mod.restRequest_within ..); (on_goal 1 => decide))
    | (with_reducible apply Within.step (Mod.eisRelease_within ..); (on_goal 1 => decide))
    | (with_reducible apply Within.step (Mod.estStep_within ..); (on_goal 1 => decide))
    | (with_reducible apply Within.step (Mod.onStrEst_within ..); (on_goal 1 => decide))
    | (intro _)
    | split

theorem anomalyClear_within (g : Nat) (m : Mod) : Within [.est] m (anomalyClear g m) := by
  unfold anomalyClear
  repeat' first
    | with_reducible apply Within.refl
    | with_reducible assumption
    | with_reducible apply Within.ite
    | (with_reducible apply Within.step (Mod.onCellEst_within ..); (on_goal 1 => decide))
    | (intro _)
    | split

theorem Mod.estBlank_within (m : Mod) (n g : Nat) : Within [.est] m (Mod.estBlank m n g) := by
  unfold Mod.estBlank
  repeat' first
    | with_reducible apply Within.refl
    | with_reducible assumption
    | with_reducible apply Within.ite
    | (with_reducible apply Within.step (Mod.onCellEst_within ..); (on_goal 1 => decide))
    | (intro _)
    | split

theorem Mod.localRestore_within (m : Mod) (n lostMs : Nat) (outMs : Option Nat) : Within [.store, .est] m (Mod.localRestore m n lostMs outMs) := by
  unfold Mod.localRestore
  repeat' first
    | with_reducible apply Within.refl
    | with_reducible assumption
    | with_reducible apply Within.ite
    | (extract_lets +onlyGivenNames x; first | (refine Within.cut (x := x) ?_ ?_; (on_goal 1 => (unfold x; clear x)); on_goal 2 => (intro hx; clear_value x; rename' x => y)) | (clear_value x; rename' x => y))
    | (with_reducible apply Within.step (Mod.estBlank_within ..); (on_goal 1 => decide))
    | (with_reducible apply Within.step (Mod.estReset_within ..); (on_goal 1 => decide))
    | (with_reducible apply Within.step (Mod.onCellEst_within ..); (on_goal 1 => decide))
    | (with_reducible apply Within.step (Mod.onStrEst_within ..); (on_goal 1 => decide))
    | with_reducible apply Within.each
    | (intro _)
    | split

theorem checkpointCapture_within (n : Nat) (m : Mod) : Within [.store, .est] m (checkpointCapture n m) := by
  unfold checkpointCapture
  repeat' first
    | with_reducible apply Within.refl
    | with_reducible assumption
    | with_reducible apply Within.ite
    | (extract_lets +onlyGivenNames x; first | (refine Within.cut (x := x) ?_ ?_; (on_goal 1 => (unfold x; clear x)); on_goal 2 => (intro hx; clear_value x; rename' x => y)) | (clear_value x; rename' x => y))
    | (with_reducible apply Within.step (Mod.onStrEst_within ..); (on_goal 1 => decide))
    | (with_reducible apply Within.step (Mod.dmaStart_within ..); (on_goal 1 => decide))
    | (intro _)
    | split

theorem checkpointWriteComplete_within (n : Nat) (ok : Bool) (m : Mod) : Within [.store, .est] m (checkpointWriteComplete n ok m) := by
  unfold checkpointWriteComplete
  repeat' first
    | with_reducible apply Within.refl
    | with_reducible assumption
    | with_reducible apply Within.ite
    | (extract_lets +onlyGivenNames x; first | (refine Within.cut (x := x) ?_ ?_; (on_goal 1 => (unfold x; clear x)); on_goal 2 => (intro hx; clear_value x; rename' x => y)) | (clear_value x; rename' x => y))
    | (with_reducible apply Within.step (Mod.dmaEnd_within ..); (on_goal 1 => decide))
    | (with_reducible apply Within.step (Mod.onStrEst_within ..); (on_goal 1 => decide))
    | (intro _)
    | split

theorem Mod.estWait_within (m : Mod) (n : Nat) : Within [.est] m (Mod.estWait m n) := by
  unfold Mod.estWait
  repeat' first
    | with_reducible apply Within.refl
    | with_reducible assumption
    | with_reducible apply Within.ite
    | (extract_lets +onlyGivenNames x; first | (refine Within.cut (x := x) ?_ ?_; (on_goal 1 => (unfold x; clear x)); on_goal 2 => (intro hx; clear_value x; rename' x => y)) | (clear_value x; rename' x => y))
    | (with_reducible apply Within.step (Mod.onStrEst_within ..); (on_goal 1 => decide))
    | (intro _)
    | split

theorem Mod.estStart_within (m : Mod) (lostMs : Nat) (outMs : Option Nat) : Within [.store, .est] m (Mod.estStart m lostMs outMs) := by
  unfold Mod.estStart
  repeat' first
    | with_reducible apply Within.refl
    | with_reducible assumption
    | with_reducible apply Within.ite
    | (with_reducible apply Within.step (Mod.localRestore_within ..); (on_goal 1 => decide))
    | (with_reducible apply Within.step (Mod.estWait_within ..); (on_goal 1 => decide))
    | (with_reducible apply Within.step (Mod.onStrEst_within ..); (on_goal 1 => decide))
    | with_reducible apply Within.each
    | (intro _)
    | split

theorem Mod.restoreRecord_within (m : Mod) (r : EstRec) : Within [.est] m (Mod.restoreRecord m r) := by
  unfold Mod.restoreRecord
  repeat' first
    | with_reducible apply Within.refl
    | with_reducible assumption
    | with_reducible apply Within.ite
    | (with_reducible apply Within.step (Mod.onCellEst_within ..); (on_goal 1 => decide))
    | (intro _)
    | split

theorem estRestoreComplete_within (m : Mod) : Within [.host, .store, .est, .sent] m (estRestoreComplete m) := by
  unfold estRestoreComplete
  split
  · exact .refl ..
  · dsimp only
    generalize hx : List.foldl (α := Mod × List (Nat × Nat)) _ _ _ = res
    have hw : Within [.est] m res.1 := by
      rw [← hx]
      refine Within.foldl ?_ _ (m, _)
      intro x a
      dsimp only
      repeat' split
      all_goals first | exact .refl .. | exact Mod.restoreRecord_within ..
    clear hx
    refine Within.step (Mod.complete_within ..) (by decide) (Within.step (Mod.post_within ..) (by decide) ?_)
    refine Within.each (fun m x => ?_) (Within.step (Mod.onEst_within ..) (by decide) (hw.mono (by decide)))
    split
    · exact (Mod.onStrEst_within ..).mono (by decide)
    · exact .refl ..

theorem Mod.eisBegin_within (m : Mod) (prev : Option W32) : Within [.store, .est] m (Mod.eisBegin m prev) := by
  unfold Mod.eisBegin
  repeat' first
    | with_reducible apply Within.refl
    | with_reducible assumption
    | with_reducible apply Within.ite
    | (extract_lets +onlyGivenNames x; first | (refine Within.cut (x := x) ?_ ?_; (on_goal 1 => (unfold x; clear x)); on_goal 2 => (intro hx; clear_value x; rename' x => y)) | (clear_value x; rename' x => y))
    | (with_reducible apply Within.step (Mod.eisClear_within ..); (on_goal 1 => decide))
    | (with_reducible apply Within.step (Mod.eisRelease_within ..); (on_goal 1 => decide))
    | (with_reducible apply Within.step (Mod.onEst_within ..); (on_goal 1 => decide))
    | (with_reducible apply Within.step (Mod.onCellEst_within ..); (on_goal 1 => decide))
    | (with_reducible apply Within.step (Mod.onStrEst_within ..); (on_goal 1 => decide))
    | with_reducible apply Within.each
    | (intro _)
    | split

theorem impedanceIntervalEnd_within (m : Mod) : Within [.store, .est] m (impedanceIntervalEnd m) := by
  unfold impedanceIntervalEnd
  repeat' first
    | with_reducible apply Within.refl
    | with_reducible assumption
    | with_reducible apply Within.ite
    | (extract_lets +onlyGivenNames x; first | (refine Within.cut (x := x) ?_ ?_; (on_goal 1 => (unfold x; clear x)); on_goal 2 => (intro hx; clear_value x; rename' x => y)) | (clear_value x; rename' x => y))
    | (with_reducible apply Within.step (Mod.eisBegin_within ..); (on_goal 1 => decide))
    | (intro _)
    | split

theorem restAnchor_within (n : Nat) (m : Mod) : Within [.store, .est] m (restAnchor n m) := by
  unfold restAnchor
  repeat' first
    | with_reducible apply Within.refl
    | with_reducible assumption
    | with_reducible apply Within.ite
    | (extract_lets +onlyGivenNames x; first | (refine Within.cut (x := x) ?_ ?_; (on_goal 1 => (unfold x; clear x)); on_goal 2 => (intro hx; clear_value x; rename' x => y)) | (clear_value x; rename' x => y))
    | (with_reducible apply Within.step (Mod.anchor_within ..); (on_goal 1 => decide))
    | (with_reducible apply Within.step (Mod.onStrEst_within ..); (on_goal 1 => decide))
    | with_reducible apply Within.each
    | (intro _)
    | split

theorem restoreWaitExpiry_within (n : Nat) (m : Mod) : Within [.est] m (restoreWaitExpiry n m) := by
  unfold restoreWaitExpiry
  repeat' first
    | with_reducible apply Within.refl
    | with_reducible assumption
    | with_reducible apply Within.ite
    | (with_reducible apply Within.step (Mod.onStrEst_within ..); (on_goal 1 => decide))
    | (intro _)
    | split

theorem Mod.outageRest_within (m : Mod) (ms : Nat) : Within [.est] m (Mod.outageRest m ms) := by
  unfold Mod.outageRest
  repeat' first
    | with_reducible apply Within.refl
    | with_reducible assumption
    | with_reducible apply Within.ite
    | (with_reducible apply Within.step (Mod.onStrEst_within ..); (on_goal 1 => decide))
    | with_reducible apply Within.each
    | (intro _)
    | split

theorem Mod.estReplant_within (m : Mod) (n : Nat) (keep chem : Bool) : Within [.store, .est] m (Mod.estReplant m n keep chem) := by
  unfold Mod.estReplant
  repeat' first
    | with_reducible apply Within.refl
    | with_reducible assumption
    | with_reducible apply Within.ite
    | (extract_lets +onlyGivenNames x; first | (refine Within.cut (x := x) ?_ ?_; (on_goal 1 => (unfold x; clear x)); on_goal 2 => (intro hx; clear_value x; rename' x => y)) | (clear_value x; rename' x => y))
    | (with_reducible apply Within.step (Mod.estBlank_within ..); (on_goal 1 => decide))
    | (with_reducible apply Within.step (Mod.localRestore_within ..); (on_goal 1 => decide))
    | (with_reducible apply Within.step (Mod.estWait_within ..); (on_goal 1 => decide))
    | (with_reducible apply Within.step (Mod.estReset_within ..); (on_goal 1 => decide))
    | with_reducible apply Within.each
    | (intro _)
    | split

end Sys2Proof.Machine
end

