-- ==== Sys2Proof/Laws/ConvFrame.lean ====
section
/-! SUPPORT. Which parts of the module each operation of Machine/Conv.lean can change. -/

namespace Sys2Proof.Machine

theorem clrConvCnt_within (mask : Nat) (m : Mod) : Within [.conv, .pair] m (clrConvCnt mask m) := by
  unfold clrConvCnt
  repeat' first
    | with_reducible apply Within.refl
    | with_reducible assumption
    | with_reducible apply Within.ite
    | (with_reducible apply Within.viaPort; (on_goal 2 => decide))
    | (with_reducible apply Within.step (Mod.onLink_within ..); (on_goal 1 => decide))
    | with_reducible apply Within.each
    | (intro _)
    | split

theorem clrConvFlags_within (mask : Nat) (m : Mod) : Within [.conv] m (clrConvFlags mask m) := by
  unfold clrConvFlags
  repeat' first
    | with_reducible apply Within.refl
    | with_reducible assumption
    | with_reducible apply Within.ite
    | (with_reducible apply Within.step (Mod.onLink_within ..); (on_goal 1 => decide))
    | with_reducible apply Within.each
    | (intro _)

theorem convFaultClear_within (mask : Nat) (m : Mod) : Within [.conv] m (convFaultClear mask m).1 := by
  unfold convFaultClear
  repeat' first
    | with_reducible apply Within.refl
    | with_reducible assumption
    | with_reducible apply Within.ite
    | with_reducible apply Within.iteFst
    | (extract_lets +onlyGivenNames x; first | (refine Within.cut (x := x) ?_ ?_; (on_goal 1 => (unfold x; clear x)); on_goal 2 => (intro hx; clear_value x; rename' x => y)) | (clear_value x; rename' x => y))
    | (with_reducible apply Within.step (Mod.linkTo_within ..); (on_goal 1 => decide))
    | (with_reducible apply Within.step (Mod.onLink_within ..); (on_goal 1 => decide))
    | with_reducible apply Within.each
    | (intro _)

theorem phaseClearCmd_within (n : Nat) (mask : BitVec 6) (m : Mod) : Within [.conv] m (phaseClearCmd n mask m).1 := by
  unfold phaseClearCmd
  repeat' first
    | with_reducible apply Within.refl
    | with_reducible assumption
    | with_reducible apply Within.ite
    | with_reducible apply Within.iteFst
    | (extract_lets +onlyGivenNames x; refine Within.cut (x := x) ?_ ?_; (on_goal 1 => (unfold x; clear x)); on_goal 2 => (intro hx; clear_value x; rename' x => y))
    | (with_reducible apply Within.step (Mod.onLink_within ..); (on_goal 1 => decide))
    | (with_reducible apply Within.step (Mod.onPhase_within ..); (on_goal 1 => decide))
    | with_reducible apply Within.each
    | (intro _)

theorem Mod.softStop_within (m : Mod) (n : Nat) (toFault : Bool) : Within [.conv] m (Mod.softStop m n toFault) := by
  unfold Mod.softStop
  repeat' first
    | with_reducible apply Within.refl
    | with_reducible assumption
    | with_reducible apply Within.ite
    | (extract_lets +onlyGivenNames x; clear_value x; rename' x => y)
    | (with_reducible apply Within.step (Mod.onLink_within ..); (on_goal 1 => decide))
    | (intro _)
    | split

theorem Mod.spread_within (m : Mod) (n : Nat) : Within [.conv] m (Mod.spread m n) := by
  unfold Mod.spread
  repeat' first
    | with_reducible apply Within.refl
    | with_reducible assumption
    | with_reducible apply Within.ite
    | (extract_lets +onlyGivenNames x; first | (refine Within.cut (x := x) ?_ ?_; (on_goal 1 => (unfold x; clear x)); on_goal 2 => (intro hx; clear_value x; rename' x => y)) | (clear_value x; rename' x => y))
    | (with_reducible apply Within.step (Mod.onLink_within ..); (on_goal 1 => decide))
    | (with_reducible apply Within.step (Mod.onPhase_within ..); (on_goal 1 => decide))
    | with_reducible apply Within.each
    | (intro _)

theorem Mod.linkGrain_within (m : Mod) (n : Nat) : Within [.conv] m (Mod.linkGrain m n) := by
  unfold Mod.linkGrain
  repeat' first
    | with_reducible apply Within.refl
    | with_reducible assumption
    | with_reducible apply Within.ite
    | (extract_lets +onlyGivenNames x; first | (refine Within.cut (x := x) ?_ ?_; (on_goal 1 => (unfold x; clear x)); on_goal 2 => (intro hx; clear_value x; rename' x => y)) | (clear_value x; rename' x => y))
    | (with_reducible apply Within.step (Mod.onLink_within ..); (on_goal 1 => decide))
    | (with_reducible apply Within.step (Mod.onPhase_within ..); (on_goal 1 => decide))
    | (with_reducible apply Within.step (Mod.spread_within ..); (on_goal 1 => decide))
    | with_reducible apply Within.each
    | (intro _)
    | split

theorem Mod.startRequest_within (m : Mod) (n : Nat) : Within [.conv] m (Mod.startRequest m n).1 := by
  unfold Mod.startRequest
  repeat' first
    | with_reducible apply Within.refl
    | with_reducible assumption
    | with_reducible apply Within.ite
    | with_reducible apply Within.iteFst
    | (extract_lets +onlyGivenNames x; first | (refine Within.cut (x := x) ?_ ?_; (on_goal 1 => (unfold x; clear x)); on_goal 2 => (intro hx; clear_value x; rename' x => y)) | (clear_value x; rename' x => y))
    | (with_reducible apply Within.step (Mod.onLink_within ..); (on_goal 1 => decide))
    | (with_reducible apply Within.step (Mod.onPhase_within ..); (on_goal 1 => decide))
    | with_reducible apply Within.each
    | (intro _)
    | split

theorem Mod.leaveDark_within (m : Mod) (n : Nat) : Within [.conv] m (Mod.leaveDark m n) := by
  unfold Mod.leaveDark
  repeat' first
    | with_reducible apply Within.refl
    | with_reducible assumption
    | with_reducible apply Within.ite
    | (with_reducible apply Within.step (Mod.linkTo_within ..); (on_goal 1 => decide))
    | (with_reducible apply Within.step (Mod.onLink_within ..); (on_goal 1 => decide))

theorem Mod.burstStep_within (m : Mod) (n : Nat) : Within [.conv] m (Mod.burstStep m n) := by
  unfold Mod.burstStep
  dsimp only
  repeat' first
    | with_reducible apply Within.refl
    | with_reducible assumption
    | with_reducible apply Within.ite
    | (with_reducible apply Within.step (Mod.onLink_within ..); (on_goal 1 => decide))
    | (with_reducible apply Within.step (Mod.onPhase_within ..); (on_goal 1 => decide))
    | with_reducible apply Within.each
    | (intro _)
    | split

theorem Mod.fastAdd_within (m : Mod) (n : Nat) (i : Rat) : Within [.conv] m (Mod.fastAdd m n i) := by
  unfold Mod.fastAdd
  repeat' first
    | with_reducible apply Within.refl
    | with_reducible assumption
    | with_reducible apply Within.ite
    | (with_reducible apply Within.step (Mod.onLink_within ..); (on_goal 1 => decide))
    | (with_reducible apply Within.step (Mod.onPhase_within ..); (on_goal 1 => decide))
    | with_reducible apply Within.each
    | (intro _)
    | split

theorem Mod.phaseWatch_within (m : Mod) (n p : Nat) (ip e : Rat) : Within [.conv] m (Mod.phaseWatch m n p ip e) := by
  unfold Mod.phaseWatch
  repeat' first
    | with_reducible apply Within.refl
    | with_reducible assumption
    | with_reducible apply Within.ite
    | (extract_lets +onlyGivenNames x; clear_value x; rename' x => y)
    | (with_reducible apply Within.step (Mod.onPhase_within ..); (on_goal 1 => decide))

theorem Mod.satIf_within (m : Mod) (n b : Nat) (c : Bool) : Within [.conv] m (Mod.satIf m n b c) := by
  unfold Mod.satIf
  repeat' first
    | with_reducible apply Within.refl
    | with_reducible assumption
    | with_reducible apply Within.ite
    | (with_reducible apply Within.step (Mod.onLink_within ..); (on_goal 1 => decide))

theorem Mod.phaseCore_within (m : Mod) (n : Nat) (ip dff : Rat) : Within [.conv] m (Mod.phaseCore m n ip dff) := by
  unfold Mod.phaseCore
  dsimp only
  repeat' first
    | with_reducible apply Within.refl
    | with_reducible assumption
    | with_reducible apply Within.ite
    | (with_reducible apply Within.step (Mod.onLink_within ..); (on_goal 1 => decide))
    | (with_reducible apply Within.step (Mod.onPhase_within ..); (on_goal 1 => decide))
    | (with_reducible apply Within.step (Mod.phaseWatch_within ..); (on_goal 1 => decide))
    | (with_reducible apply Within.step (Mod.satIf_within ..); (on_goal 1 => decide))
    | with_reducible apply Within.each
    | (intro _)
    | split

theorem Mod.phaseLoop_within (m : Mod) (n : Nat) : Within [.conv] m (Mod.phaseLoop m n) := by
  unfold Mod.phaseLoop
  repeat' first
    | with_reducible apply Within.refl
    | with_reducible assumption
    | with_reducible apply Within.ite
    | (extract_lets +onlyGivenNames x; first | (refine Within.cut (x := x) ?_ ?_; (on_goal 1 => (unfold x; clear x)); on_goal 2 => (intro hx; clear_value x; rename' x => y)) | (clear_value x; rename' x => y))
    | (with_reducible apply Within.step (Mod.fastAdd_within ..); (on_goal 1 => decide))
    | (with_reducible apply Within.step (Mod.onLink_within ..); (on_goal 1 => decide))
    | (with_reducible apply Within.step (Mod.phaseCore_within ..); (on_goal 1 => decide))
    | (with_reducible apply Within.step (Mod.satIf_within ..); (on_goal 1 => decide))

theorem Mod.phaseTick_within (m : Mod) (n p : Nat) : Within [.conv] m (Mod.phaseTick m n p) := by
  unfold Mod.phaseTick
  repeat' first
    | with_reducible apply Within.refl
    | with_reducible assumption
    | with_reducible apply Within.ite
    | (extract_lets +onlyGivenNames x; first | (refine Within.cut (x := x) ?_ ?_; (on_goal 1 => (unfold x; clear x)); on_goal 2 => (intro hx; clear_value x; rename' x => y)) | (clear_value x; rename' x => y))
    | (with_reducible apply Within.step (Mod.onLink_within ..); (on_goal 1 => decide))
    | (with_reducible apply Within.step (Mod.onPhase_within ..); (on_goal 1 => decide))

theorem Mod.setLims_within (m : Mod) (n : Nat) : Within [.conv] m (Mod.setLims m n) := by
  unfold Mod.setLims
  repeat' first
    | with_reducible apply Within.refl
    | with_reducible assumption
    | with_reducible apply Within.ite
    | (with_reducible apply Within.step (Mod.onLink_within ..); (on_goal 1 => decide))
    | (intro _)
    | split

theorem Mod.stringLoop_within (m : Mod) (n : Nat) : Within [.est, .conv] m (Mod.stringLoop m n) := by
  unfold Mod.stringLoop
  repeat' first
    | with_reducible apply Within.refl
    | with_reducible assumption
    | with_reducible apply Within.ite
    | (extract_lets +onlyGivenNames x; first | (refine Within.cut (x := x) ?_ ?_; (on_goal 1 => (unfold x; clear x)); on_goal 2 => (intro hx; clear_value x; rename' x => y)) | (clear_value x; rename' x => y))
    | (with_reducible apply Within.step (Mod.eisCheck_within ..); (on_goal 1 => decide))
    | (with_reducible apply Within.step (Mod.onLink_within ..); (on_goal 1 => decide))
    | (with_reducible apply Within.step (Mod.fastAdd_within ..); (on_goal 1 => decide))
    | (with_reducible apply Within.step (Mod.satIf_within ..); (on_goal 1 => decide))
    | (with_reducible apply Within.step (Mod.setLims_within ..); (on_goal 1 => decide))
    | (intro _)
    | split

theorem Mod.linkLoops_within (m : Mod) (n : Nat) : Within [.est, .conv] m (Mod.linkLoops m n) := by
  unfold Mod.linkLoops
  repeat' first
    | with_reducible apply Within.refl
    | with_reducible assumption
    | with_reducible apply Within.ite
    | (extract_lets +onlyGivenNames x; first | (refine Within.cut (x := x) ?_ ?_; (on_goal 1 => (unfold x; clear x)); on_goal 2 => (intro hx; clear_value x; rename' x => y)) | (clear_value x; rename' x => y))
    | (with_reducible apply Within.step (Mod.onLink_within ..); (on_goal 1 => decide))
    | (with_reducible apply Within.step (Mod.burstStep_within ..); (on_goal 1 => decide))
    | (with_reducible apply Within.step (Mod.phaseLoop_within ..); (on_goal 1 => decide))
    | (with_reducible apply Within.step (Mod.phaseTick_within ..); (on_goal 1 => decide))
    | (with_reducible apply Within.step (Mod.stringLoop_within ..); (on_goal 1 => decide))
    | with_reducible apply Within.each
    | (intro _)
    | split

theorem Mod.portTick_within (m : Mod) (n : Nat) : Within [.conv, .sent] m (Mod.portTick m n) := by
  unfold Mod.portTick
  repeat' first
    | with_reducible apply Within.refl
    | with_reducible assumption
    | with_reducible apply Within.ite
    | (extract_lets +onlyGivenNames x; first | (refine Within.cut (x := x) ?_ ?_; (on_goal 1 => (unfold x; clear x)); on_goal 2 => (intro hx; clear_value x; rename' x => y)) | (clear_value x; rename' x => y))
    | (with_reducible apply Within.step (Mod.onLink_within ..); (on_goal 1 => decide))
    | (with_reducible apply Within.step (Mod.out_within ..); (on_goal 1 => decide))
    | with_reducible apply Within.each
    | (intro _)
    | split

theorem Mod.linkTick_within (m : Mod) (n : Nat) : Within [.est, .conv, .sent] m (Mod.linkTick m n) := by
  unfold Mod.linkTick
  repeat' first
    | with_reducible apply Within.refl
    | with_reducible assumption
    | with_reducible apply Within.ite
    | (with_reducible apply Within.step (Mod.leaveDark_within ..); (on_goal 1 => decide))
    | (with_reducible apply Within.step (Mod.linkLoops_within ..); (on_goal 1 => decide))
    | (with_reducible apply Within.step (Mod.onLink_within ..); (on_goal 1 => decide))
    | (with_reducible apply Within.step (Mod.portTick_within ..); (on_goal 1 => decide))

theorem Mod.portOnlyTick_within (m : Mod) (n : Nat) : Within [.conv, .pair, .sent] m (Mod.portOnlyTick m n) := by
  unfold Mod.portOnlyTick
  repeat' first
    | with_reducible apply Within.refl
    | with_reducible assumption
    | with_reducible apply Within.ite
    | (with_reducible apply Within.step (Mod.leaveDark_within ..); (on_goal 1 => decide))
    | (with_reducible apply Within.step (Mod.onLink_within ..); (on_goal 1 => decide))
    | (with_reducible apply Within.step (Mod.portTick_within ..); (on_goal 1 => decide))
    | (with_reducible apply Within.viaPort; (on_goal 2 => decide))
    | (intro _)

theorem Mod.burstToRun_within (m : Mod) (n : Nat) : Within [.conv] m (Mod.burstToRun m n) := by
  unfold Mod.burstToRun
  repeat' first
    | with_reducible apply Within.refl
    | with_reducible assumption
    | with_reducible apply Within.ite
    | (extract_lets +onlyGivenNames x; first | (refine Within.cut (x := x) ?_ ?_; (on_goal 1 => (unfold x; clear x)); on_goal 2 => (intro hx; clear_value x; rename' x => y)) | (clear_value x; rename' x => y))
    | (with_reducible apply Within.step (Mod.onLink_within ..); (on_goal 1 => decide))
    | (with_reducible apply Within.step (Mod.onPhase_within ..); (on_goal 1 => decide))
    | with_reducible apply Within.each
    | (intro _)

theorem Mod.powerCore_within (m : Mod) (n : Nat) (v : Rat) : Within [.conv] m (Mod.powerCore m n v) := by
  unfold Mod.powerCore
  repeat' first
    | with_reducible apply Within.refl
    | with_reducible assumption
    | with_reducible apply Within.ite
    | (extract_lets +onlyGivenNames x; clear_value x; rename' x => y)
    | (with_reducible apply Within.step (Mod.onLink_within ..); (on_goal 1 => decide))
    | (with_reducible apply Within.step (Mod.satIf_within ..); (on_goal 1 => decide))

theorem Mod.pruneDecide_within (m : Mod) (n : Nat) : Within [.conv] m (Mod.pruneDecide m n) := by
  unfold Mod.pruneDecide
  repeat' first
    | with_reducible apply Within.refl
    | with_reducible assumption
    | with_reducible apply Within.ite
    | (with_reducible apply Within.step (Mod.onLink_within ..); (on_goal 1 => decide))
    | (intro _)
    | split

theorem Mod.powerLoop_within (m : Mod) (n : Nat) : Within [.conv] m (Mod.powerLoop m n) := by
  unfold Mod.powerLoop
  repeat' first
    | with_reducible apply Within.refl
    | with_reducible assumption
    | with_reducible apply Within.ite
    | (extract_lets +onlyGivenNames x; first | (refine Within.cut (x := x) ?_ ?_; (on_goal 1 => (unfold x; clear x)); on_goal 2 => (intro hx; clear_value x; rename' x => y)) | (clear_value x; rename' x => y))
    | (with_reducible apply Within.step (Mod.onLink_within ..); (on_goal 1 => decide))
    | (with_reducible apply Within.step (Mod.satIf_within ..); (on_goal 1 => decide))
    | (with_reducible apply Within.step (Mod.burstToRun_within ..); (on_goal 1 => decide))
    | (with_reducible apply Within.step (Mod.powerCore_within ..); (on_goal 1 => decide))
    | (with_reducible apply Within.step (Mod.pruneDecide_within ..); (on_goal 1 => decide))
    | (with_reducible apply Within.step (Mod.setLims_within ..); (on_goal 1 => decide))
    | (intro _)
    | split

theorem Mod.unaligned_within (m : Mod) (n : Nat) : Within [.store, .conv] m (Mod.unaligned m n) := by
  unfold Mod.unaligned
  repeat' first
    | with_reducible apply Within.refl
    | with_reducible assumption
    | with_reducible apply Within.ite
    | (extract_lets +onlyGivenNames x; clear_value x; rename' x => y)
    | (with_reducible apply Within.step (Mod.linkTo_within ..); (on_goal 1 => decide))
    | (with_reducible apply Within.step (Mod.onLink_within ..); (on_goal 1 => decide))
    | (with_reducible apply Within.step (Mod.post_within ..); (on_goal 1 => decide))

theorem alignmentLost_within (n : Nat) (m : Mod) : Within [.store, .conv, .pair] m (alignmentLost n m) := by
  unfold alignmentLost
  repeat' first
    | with_reducible apply Within.refl
    | with_reducible assumption
    | with_reducible apply Within.ite
    | (with_reducible apply Within.step (Mod.unaligned_within ..); (on_goal 1 => decide))
    | (with_reducible apply Within.viaPort; (on_goal 2 => decide))
    | (intro _)

theorem armTimerExpiry_within (n p : Nat) (m : Mod) : Within [.conv] m (armTimerExpiry n p m) := by
  unfold armTimerExpiry
  repeat' first
    | with_reducible apply Within.refl
    | with_reducible assumption
    | with_reducible apply Within.ite
    | (with_reducible apply Within.step (Mod.onPhase_within ..); (on_goal 1 => decide))

theorem burstEntry_within (n : Nat) (m : Mod) : Within [.conv] m (burstEntry n m) := by
  unfold burstEntry
  repeat' first
    | with_reducible apply Within.refl
    | with_reducible assumption
    | with_reducible apply Within.ite
    | (extract_lets +onlyGivenNames x; refine Within.cut (x := x) ?_ ?_; (on_goal 1 => (unfold x; clear x)); on_goal 2 => (intro hx; clear_value x; rename' x => y))
    | (with_reducible apply Within.step (Mod.onLink_within ..); (on_goal 1 => decide))
    | (with_reducible apply Within.step (Mod.onPhase_within ..); (on_goal 1 => decide))
    | (with_reducible apply Within.step (Mod.spread_within ..); (on_goal 1 => decide))
    | with_reducible apply Within.each
    | (intro _)
    | split

theorem burstPhaseReselect_within (n : Nat) (m : Mod) : Within [.conv] m (burstPhaseReselect n m) := by
  unfold burstPhaseReselect
  repeat' first
    | with_reducible apply Within.refl
    | with_reducible assumption
    | with_reducible apply Within.ite
    | (extract_lets +onlyGivenNames x; refine Within.cut (x := x) ?_ ?_; (on_goal 1 => (unfold x; clear x)); on_goal 2 => (intro hx; clear_value x; rename' x => y))
    | (with_reducible apply Within.step (Mod.onLink_within ..); (on_goal 1 => decide))
    | (with_reducible apply Within.step (Mod.onPhase_within ..); (on_goal 1 => decide))
    | (with_reducible apply Within.step (Mod.spread_within ..); (on_goal 1 => decide))
    | (intro _)
    | split

theorem Mod.measureDelay_within (m : Mod) (n : Nat) : Within [.store, .conv] m (Mod.measureDelay m n) := by
  unfold Mod.measureDelay
  repeat' first
    | with_reducible apply Within.refl
    | with_reducible assumption
    | with_reducible apply Within.ite
    | (with_reducible apply Within.step (Mod.linkTo_within ..); (on_goal 1 => decide))
    | (with_reducible apply Within.step (Mod.onLink_within ..); (on_goal 1 => decide))
    | (with_reducible apply Within.step (Mod.post_within ..); (on_goal 1 => decide))

theorem fibreDelayMeasure_within (n : Nat) (m : Mod) : Within [.store, .conv, .pair] m (fibreDelayMeasure n m) := by
  unfold fibreDelayMeasure
  repeat' first
    | with_reducible apply Within.refl
    | with_reducible assumption
    | with_reducible apply Within.ite
    | (with_reducible apply Within.step (Mod.measureDelay_within ..); (on_goal 1 => decide))
    | (with_reducible apply Within.viaPort; (on_goal 2 => decide))
    | (intro _)

theorem hiccupClearExpiry_within (n p : Nat) (m : Mod) : Within [.conv] m (hiccupClearExpiry n p m) := by
  unfold hiccupClearExpiry
  repeat' first
    | with_reducible apply Within.refl
    | with_reducible assumption
    | with_reducible apply Within.ite
    | (with_reducible apply Within.step (Mod.onPhase_within ..); (on_goal 1 => decide))

theorem Mod.convTrip_within (m : Mod) (n : Nat) : Within [.store, .conv, .prot, .sent] m (Mod.convTrip m n) := by
  unfold Mod.convTrip
  repeat' first
    | with_reducible apply Within.refl
    | with_reducible assumption
    | with_reducible apply Within.ite
    | (with_reducible apply Within.step (Mod.latchCause_within ..); (on_goal 1 => decide))
    | (with_reducible apply Within.step (Mod.tripRequest_within ..); (on_goal 1 => decide))

theorem Mod.latchPhase_within (m : Mod) (n p cause : Nat) : Within [.store, .conv, .prot, .sent] m (Mod.latchPhase m n p cause) := by
  unfold Mod.latchPhase
  repeat' first
    | with_reducible apply Within.refl
    | with_reducible assumption
    | with_reducible apply Within.ite
    | (with_reducible apply Within.step (Mod.convTrip_within ..); (on_goal 1 => decide))
    | (with_reducible apply Within.step (Mod.onLink_within ..); (on_goal 1 => decide))
    | (with_reducible apply Within.step (Mod.onPhase_within ..); (on_goal 1 => decide))

theorem hiccupEntry_within (n p : Nat) (m : Mod) : Within [.store, .conv, .prot, .sent] m (hiccupEntry n p m) := by
  unfold hiccupEntry
  repeat' first
    | with_reducible apply Within.refl
    | with_reducible assumption
    | with_reducible apply Within.ite
    | (with_reducible apply Within.step (Mod.convTrip_within ..); (on_goal 1 => decide))
    | (with_reducible apply Within.step (Mod.latchPhase_within ..); (on_goal 1 => decide))
    | (with_reducible apply Within.step (Mod.onLink_within ..); (on_goal 1 => decide))
    | (with_reducible apply Within.step (Mod.onPhase_within ..); (on_goal 1 => decide))

theorem hiccupTimeExpiry_within (n p : Nat) (m : Mod) : Within [.conv] m (hiccupTimeExpiry n p m) := by
  unfold hiccupTimeExpiry
  repeat' first
    | with_reducible apply Within.refl
    | with_reducible assumption
    | with_reducible apply Within.ite
    | (with_reducible apply Within.step (Mod.onLink_within ..); (on_goal 1 => decide))
    | (with_reducible apply Within.step (Mod.onPhase_within ..); (on_goal 1 => decide))

theorem Mod.linkLost_within (m : Mod) (n : Nat) : Within [.store, .conv] m (Mod.linkLost m n) := by
  unfold Mod.linkLost
  repeat' first
    | with_reducible apply Within.refl
    | with_reducible assumption
    | with_reducible apply Within.ite
    | (extract_lets +onlyGivenNames x; refine Within.cut (x := x) ?_ ?_; (on_goal 1 => (unfold x; clear x)); on_goal 2 => (intro hx; clear_value x; rename' x => y))
    | (with_reducible apply Within.step (Mod.linkTo_within ..); (on_goal 1 => decide))
    | (with_reducible apply Within.step (Mod.onLink_within ..); (on_goal 1 => decide))
    | (with_reducible apply Within.step (Mod.post_within ..); (on_goal 1 => decide))

theorem klinkLost_within (n : Nat) (m : Mod) : Within [.store, .conv, .pair] m (klinkLost n m) := by
  unfold klinkLost
  repeat' first
    | with_reducible apply Within.refl
    | with_reducible assumption
    | with_reducible apply Within.ite
    | (with_reducible apply Within.step (Mod.linkLost_within ..); (on_goal 1 => decide))
    | (with_reducible apply Within.viaPort; (on_goal 2 => decide))
    | (intro _)

theorem Mod.nowAligned_within (m : Mod) (n : Nat) : Within [.conv] m (Mod.nowAligned m n) := by
  unfold Mod.nowAligned
  repeat' first
    | with_reducible apply Within.refl
    | with_reducible assumption
    | with_reducible apply Within.ite
    | (with_reducible apply Within.step (Mod.onLink_within ..); (on_goal 1 => decide))

theorem linkAligned_within (n : Nat) (m : Mod) : Within [.conv, .pair] m (linkAligned n m) := by
  unfold linkAligned
  repeat' first
    | with_reducible apply Within.refl
    | with_reducible assumption
    | with_reducible apply Within.ite
    | (with_reducible apply Within.step (Mod.nowAligned_within ..); (on_goal 1 => decide))
    | (with_reducible apply Within.viaPort; (on_goal 2 => decide))
    | (intro _)

theorem localRampTimeout_within (n : Nat) (m : Mod) : Within [.store, .conv, .prot, .safety, .sent] m (localRampTimeout n m) := by
  unfold localRampTimeout
  repeat' first
    | with_reducible apply Within.refl
    | with_reducible assumption
    | with_reducible apply Within.ite
    | (with_reducible apply Within.step (Mod.onLink_within ..); (on_goal 1 => decide))
    | (with_reducible apply Within.step (Mod.openSeq_within ..); (on_goal 1 => decide))
    | (intro _)
    | split

theorem mirrorTimeout_within (n p : Nat) (m : Mod) : Within [.store, .conv, .prot, .sent] m (mirrorTimeout n p m) := by
  unfold mirrorTimeout
  repeat' first
    | with_reducible apply Within.refl
    | with_reducible assumption
    | with_reducible apply Within.ite
    | (with_reducible apply Within.step (Mod.latchPhase_within ..); (on_goal 1 => decide))

theorem phaseFollowLatch_within (n p : Nat) (m : Mod) : Within [.store, .conv, .prot, .sent] m (phaseFollowLatch n p m) := by
  unfold phaseFollowLatch
  repeat' first
    | with_reducible apply Within.refl
    | with_reducible assumption
    | with_reducible apply Within.ite
    | (with_reducible apply Within.step (Mod.latchPhase_within ..); (on_goal 1 => decide))
    | (with_reducible apply Within.step (Mod.satIf_within ..); (on_goal 1 => decide))

theorem phaseOpenDetect_within (n p : Nat) (m : Mod) : Within [.store, .conv, .prot, .sent] m (phaseOpenDetect n p m) := by
  unfold phaseOpenDetect
  repeat' first
    | with_reducible apply Within.refl
    | with_reducible assumption
    | with_reducible apply Within.ite
    | (with_reducible apply Within.step (Mod.latchPhase_within ..); (on_goal 1 => decide))
    | (with_reducible apply Within.step (Mod.post_within ..); (on_goal 1 => decide))

theorem phaseSenseFail_within (n p : Nat) (m : Mod) : Within [.store, .conv, .prot, .sent] m (phaseSenseFail n p m) := by
  unfold phaseSenseFail
  repeat' first
    | with_reducible apply Within.refl
    | with_reducible assumption
    | with_reducible apply Within.ite
    | (with_reducible apply Within.step (Mod.latchPhase_within ..); (on_goal 1 => decide))
    | (with_reducible apply Within.step (Mod.onPhase_within ..); (on_goal 1 => decide))

theorem powerFollowFlag_within (n : Nat) (m : Mod) : Within [.store, .conv] m (powerFollowFlag n m) := by
  unfold powerFollowFlag
  repeat' first
    | with_reducible apply Within.refl
    | with_reducible assumption
    | with_reducible apply Within.ite
    | (with_reducible apply Within.step (Mod.onLink_within ..); (on_goal 1 => decide))
    | (with_reducible apply Within.step (Mod.post_within ..); (on_goal 1 => decide))
    | (with_reducible apply Within.step (Mod.satIf_within ..); (on_goal 1 => decide))

theorem pruneCommit_within (n : Nat) (m : Mod) : Within [.conv] m (pruneCommit n m) := by
  unfold pruneCommit
  repeat' first
    | with_reducible apply Within.refl
    | with_reducible assumption
    | with_reducible apply Within.ite
    | (extract_lets +onlyGivenNames x; first | (refine Within.cut (x := x) ?_ ?_; (on_goal 1 => (unfold x; clear x)); on_goal 2 => (intro hx; clear_value x; rename' x => y)) | (clear_value x; rename' x => y))
    | (with_reducible apply Within.step (Mod.onLink_within ..); (on_goal 1 => decide))
    | (with_reducible apply Within.step (Mod.onPhase_within ..); (on_goal 1 => decide))
    | (with_reducible apply Within.step (Mod.spread_within ..); (on_goal 1 => decide))
    | (intro _)
    | split

theorem Mod.identDone_within (m : Mod) (n : Nat) : Within [.store, .conv] m (Mod.identDone m n) := by
  unfold Mod.identDone
  repeat' first
    | with_reducible apply Within.refl
    | with_reducible assumption
    | with_reducible apply Within.ite
    | (extract_lets +onlyGivenNames x; first | (refine Within.cut (x := x) ?_ ?_; (on_goal 1 => (unfold x; clear x)); on_goal 2 => (intro hx; clear_value x; rename' x => y)) | (clear_value x; rename' x => y))
    | (with_reducible apply Within.step (Mod.linkTo_within ..); (on_goal 1 => decide))
    | (with_reducible apply Within.step (Mod.onLink_within ..); (on_goal 1 => decide))
    | (with_reducible apply Within.step (Mod.post_within ..); (on_goal 1 => decide))
    | (intro _)
    | split

theorem Mod.regNext_within (m : Mod) (n : Nat) : Within [.store, .conv] m (Mod.regNext m n) := by
  unfold Mod.regNext
  repeat' first
    | with_reducible apply Within.refl
    | with_reducible assumption
    | with_reducible apply Within.ite
    | (with_reducible apply Within.step (Mod.identDone_within ..); (on_goal 1 => decide))
    | (with_reducible apply Within.step (Mod.onLink_within ..); (on_goal 1 => decide))

theorem Mod.regExpiry_within (m : Mod) (n : Nat) : Within [.store, .conv] m (Mod.regExpiry m n) := by
  unfold Mod.regExpiry
  repeat' first
    | with_reducible apply Within.refl
    | with_reducible assumption
    | with_reducible apply Within.ite
    | (with_reducible apply Within.step (Mod.post_within ..); (on_goal 1 => decide))
    | (with_reducible apply Within.step (Mod.regNext_within ..); (on_goal 1 => decide))
    | (intro _)
    | split

theorem regTimeout_within (n : Nat) (m : Mod) : Within [.store, .conv, .pair] m (regTimeout n m) := by
  unfold regTimeout
  repeat' first
    | with_reducible apply Within.refl
    | with_reducible assumption
    | with_reducible apply Within.ite
    | (with_reducible apply Within.step (Mod.regExpiry_within ..); (on_goal 1 => decide))
    | (with_reducible apply Within.viaPort; (on_goal 2 => decide))
    | (intro _)

theorem softStopComplete_within (n : Nat) (m : Mod) : Within [.conv] m (softStopComplete n m) := by
  unfold softStopComplete
  repeat' first
    | with_reducible apply Within.refl
    | with_reducible assumption
    | with_reducible apply Within.ite
    | (with_reducible apply Within.step (Mod.linkTo_within ..); (on_goal 1 => decide))
    | (with_reducible apply Within.step (Mod.onLink_within ..); (on_goal 1 => decide))

theorem softStopTimeout_within (n : Nat) (m : Mod) : Within [.store, .conv, .prot, .sent] m (softStopTimeout n m) := by
  unfold softStopTimeout
  repeat' first
    | with_reducible apply Within.refl
    | with_reducible assumption
    | with_reducible apply Within.ite
    | (with_reducible apply Within.step (Mod.convTrip_within ..); (on_goal 1 => decide))

theorem stringFollowStop_within (n : Nat) (m : Mod) : Within [.conv] m (stringFollowStop n m) := by
  unfold stringFollowStop
  repeat' first
    | with_reducible apply Within.refl
    | with_reducible assumption
    | with_reducible apply Within.ite
    | (with_reducible apply Within.step (Mod.onLink_within ..); (on_goal 1 => decide))
    | (with_reducible apply Within.step (Mod.satIf_within ..); (on_goal 1 => decide))
    | (with_reducible apply Within.step (Mod.softStop_within ..); (on_goal 1 => decide))

theorem Mod.faultReact_within (m : Mod) (n : Nat) (f : W16) : Within [.store, .conv, .prot, .sent] m (Mod.faultReact m n f) := by
  unfold Mod.faultReact
  dsimp only
  repeat' first
    | with_reducible apply Within.refl
    | with_reducible assumption
    | with_reducible apply Within.ite
    | (with_reducible apply Within.step (Mod.latchCause_within ..); (on_goal 1 => decide))
    | (with_reducible apply Within.step (Mod.softStop_within ..); (on_goal 1 => decide))
    | (with_reducible apply Within.step (Mod.convTrip_within ..); (on_goal 1 => decide))
    | (with_reducible apply Within.step (Mod.latchPhase_within ..); (on_goal 1 => decide))
    | with_reducible apply Within.each
    | (intro _)
    | split

theorem Mod.takeSamples_within (m : Mod) (n : Nat) (f : UpFrame) : Within [.conv] m (Mod.takeSamples m n f) := by
  unfold Mod.takeSamples
  repeat' first
    | with_reducible apply Within.refl
    | with_reducible assumption
    | with_reducible apply Within.ite
    | (extract_lets +onlyGivenNames x; clear_value x; rename' x => y)
    | (with_reducible apply Within.step (Mod.onPhase_within ..); (on_goal 1 => decide))
    | with_reducible apply Within.each
    | (intro _)

theorem Mod.takeFrame_within (m : Mod) (n : Nat) (f : UpFrame) (plan : Bool) : Within [.store, .conv, .prot, .sent] m (Mod.takeFrame m n f plan) := by
  unfold Mod.takeFrame
  repeat' first
    | with_reducible apply Within.refl
    | with_reducible assumption
    | with_reducible apply Within.ite
    | (extract_lets +onlyGivenNames x; refine Within.cut (x := x) ?_ ?_; (on_goal 1 => (unfold x; clear x)); on_goal 2 => (intro hx; clear_value x; rename' x => y))
    | (with_reducible apply Within.step (Mod.faultReact_within ..); (on_goal 1 => decide))
    | (with_reducible apply Within.step (Mod.linkTo_within ..); (on_goal 1 => decide))
    | (with_reducible apply Within.step (Mod.onLink_within ..); (on_goal 1 => decide))
    | (with_reducible apply Within.step (Mod.regNext_within ..); (on_goal 1 => decide))
    | (with_reducible apply Within.step (Mod.takeSamples_within ..); (on_goal 1 => decide))
    | (with_reducible apply Within.step (Mod.out_within ..); (on_goal 1 => decide))
    | (intro _)
    | split

theorem tripRequestRow_within (n : Nat) (m : Mod) : Within [.conv, .pair, .sent] m (tripRequestRow n m) := by
  unfold tripRequestRow
  repeat' first
    | with_reducible apply Within.refl
    | with_reducible assumption
    | with_reducible apply Within.ite
    | (with_reducible apply Within.step (Mod.portTrip_within ..); (on_goal 1 => decide))
    | (with_reducible apply Within.step (Mod.tripRequest_within ..); (on_goal 1 => decide))

theorem upstreamFrame_within (n : Nat) (f : UpFrame) (m : Mod) : Within [.store, .conv, .prot, .pair, .sent] m (upstreamFrame n f m) := by
  unfold upstreamFrame
  repeat' first
    | with_reducible apply Within.refl
    | with_reducible assumption
    | with_reducible apply Within.ite
    | (extract_lets +onlyGivenNames x; first | (refine Within.cut (x := x) ?_ ?_; (on_goal 1 => (unfold x; clear x)); on_goal 2 => (intro hx; clear_value x; rename' x => y)) | (clear_value x; rename' x => y))
    | (with_reducible apply Within.viaPort; (on_goal 2 => decide))
    | (with_reducible apply Within.step (Mod.capture_within ..); (on_goal 1 => decide))
    | (with_reducible apply Within.step (Mod.takeFrame_within ..); (on_goal 1 => decide))
    | (intro _)
    | split

end Sys2Proof.Machine
end

