-- ==== Sys2Proof/Laws/DispFrame.lean ====
section
/-! SUPPORT. Which parts of the module each operation of Machine/Disp.lean can change. -/

namespace Sys2Proof.Machine

theorem Mod.overEnd_within (m : Mod) : Within [.store, .disp] m (Mod.overEnd m) := by
  unfold Mod.overEnd
  repeat' first
    | with_reducible apply Within.refl
    | with_reducible assumption
    | with_reducible apply Within.ite
    | (with_reducible apply Within.step (Mod.onDisp_within ..); (on_goal 1 => decide))
    | (with_reducible apply Within.step (Mod.post_within ..); (on_goal 1 => decide))
    | (intro _)
    | split

theorem Mod.discardMove_within (m : Mod) (cause : Nat) : Within [.store, .disp] m (Mod.discardMove m cause) := by
  unfold Mod.discardMove
  repeat' first
    | with_reducible apply Within.refl
    | with_reducible assumption
    | with_reducible apply Within.ite
    | (extract_lets +onlyGivenNames x; first | (refine Within.cut (x := x) ?_ ?_; (on_goal 1 => (unfold x; clear x)); on_goal 2 => (intro hx; clear_value x; rename' x => y)) | (clear_value x; rename' x => y))
    | (with_reducible apply Within.step (Mod.overEnd_within ..); (on_goal 1 => decide))
    | (with_reducible apply Within.step (Mod.onDisp_within ..); (on_goal 1 => decide))
    | (with_reducible apply Within.step (Mod.post_within ..); (on_goal 1 => decide))
    | (intro _)
    | split

theorem Mod.moveDone_within (m : Mod) (session : Nat) (seq : W32) (shortfall : Int) : Within [.host, .store, .sent] m (Mod.moveDone m session seq shortfall) := by
  unfold Mod.moveDone
  repeat' first
    | with_reducible apply Within.refl
    | with_reducible assumption
    | with_reducible apply Within.ite
    | (extract_lets +onlyGivenNames x; first | (refine Within.cut (x := x) ?_ ?_; (on_goal 1 => (unfold x; clear x)); on_goal 2 => (intro hx; clear_value x; rename' x => y)) | (clear_value x; rename' x => y))
    | (with_reducible apply Within.step (Mod.complete_within ..); (on_goal 1 => decide))
    | (with_reducible apply Within.step (Mod.post_within ..); (on_goal 1 => decide))

theorem Mod.onMove_within (m : Mod) (f : Move → Move) : Within [.disp] m (Mod.onMove m f) := by
  unfold Mod.onMove
  repeat' first
    | with_reducible apply Within.refl
    | with_reducible assumption
    | with_reducible apply Within.ite
    | (with_reducible apply Within.step (Mod.onDisp_within ..); (on_goal 1 => decide))

theorem Mod.profileCmd_within (m : Mod) (c : DispCmd) (stop : Bool) : Within [.host, .store, .disp, .sent] m (Mod.profileCmd m c stop).1 := by
  unfold Mod.profileCmd
  dsimp only
  repeat' first
    | with_reducible apply Within.refl
    | with_reducible assumption
    | with_reducible apply Within.ite
    | with_reducible apply Within.iteFst
    | (with_reducible apply Within.step (Mod.overEnd_within ..); (on_goal 1 => decide))
    | (with_reducible apply Within.step (Mod.discardMove_within ..); (on_goal 1 => decide))
    | (with_reducible apply Within.step (Mod.moveDone_within ..); (on_goal 1 => decide))
    | (with_reducible apply Within.step (Mod.onMove_within ..); (on_goal 1 => decide))
    | (with_reducible apply Within.step (Mod.onDisp_within ..); (on_goal 1 => decide))
    | (intro _)
    | split

theorem Mod.restAbort_within (m : Mod) (n cause : Nat) : Within [.store, .disp] m (Mod.restAbort m n cause) := by
  unfold Mod.restAbort
  repeat' first
    | with_reducible apply Within.refl
    | with_reducible assumption
    | with_reducible apply Within.ite
    | (with_reducible apply Within.step (Mod.onStrDisp_within ..); (on_goal 1 => decide))
    | (with_reducible apply Within.step (Mod.post_within ..); (on_goal 1 => decide))

theorem Mod.svcMark_within (m : Mod) (n : Nat) (ok : Bool) : Within [.disp] m (Mod.svcMark m n ok) := by
  unfold Mod.svcMark
  repeat' first
    | with_reducible apply Within.refl
    | with_reducible assumption
    | with_reducible apply Within.ite
    | (with_reducible apply Within.step (Mod.onDisp_within ..); (on_goal 1 => decide))

theorem Mod.svcOut_within (m : Mod) (n : Nat) : Within [.conv, .disp] m (Mod.svcOut m n) := by
  unfold Mod.svcOut
  repeat' first
    | with_reducible apply Within.refl
    | with_reducible assumption
    | with_reducible apply Within.ite
    | (with_reducible apply Within.step (Mod.onStrDisp_within ..); (on_goal 1 => decide))
    | (with_reducible apply Within.step (Mod.softStop_within ..); (on_goal 1 => decide))

theorem Mod.svcFail_within (m : Mod) (n cond : Nat) : Within [.store, .conv, .disp] m (Mod.svcFail m n cond) := by
  unfold Mod.svcFail
  repeat' first
    | with_reducible apply Within.refl
    | with_reducible assumption
    | with_reducible apply Within.ite
    | (extract_lets +onlyGivenNames x; clear_value x; rename' x => y)
    | (with_reducible apply Within.step (Mod.post_within ..); (on_goal 1 => decide))
    | (with_reducible apply Within.step (Mod.svcMark_within ..); (on_goal 1 => decide))
    | (with_reducible apply Within.step (Mod.svcOut_within ..); (on_goal 1 => decide))

theorem Mod.svcClose_within (m : Mod) (n : Nat) : Within [.store, .conv, .disp, .prot, .safety] m (Mod.svcClose m n) := by
  unfold Mod.svcClose
  repeat' first
    | with_reducible apply Within.refl
    | with_reducible assumption
    | with_reducible apply Within.ite
    | (with_reducible apply Within.step (Mod.closeRequest_within ..); (on_goal 1 => decide))
    | (with_reducible apply Within.step (Mod.onStrDisp_within ..); (on_goal 1 => decide))
    | (with_reducible apply Within.step (Mod.svcFail_within ..); (on_goal 1 => decide))
    | (intro _)
    | split

theorem Mod.svcIn_within (m : Mod) (n : Nat) (startup : Bool) : Within [.store, .conv, .disp, .prot, .safety] m (Mod.svcIn m n startup) := by
  unfold Mod.svcIn
  repeat' first
    | with_reducible apply Within.refl
    | with_reducible assumption
    | with_reducible apply Within.ite
    | (with_reducible apply Within.step (Mod.onStrDisp_within ..); (on_goal 1 => decide))
    | (with_reducible apply Within.step (Mod.svcClose_within ..); (on_goal 1 => decide))
    | (with_reducible apply Within.step (Mod.svcMark_within ..); (on_goal 1 => decide))

theorem stringService_within (o : Origin) (inMask outMask : Nat) (m : Mod) : Within [.store, .conv, .disp, .prot, .safety] m (stringService o inMask outMask m) := by
  unfold stringService
  repeat' first
    | with_reducible apply Within.refl
    | with_reducible assumption
    | with_reducible apply Within.ite
    | (extract_lets +onlyGivenNames x; first | (refine Within.cut (x := x) ?_ ?_; (on_goal 1 => (unfold x; clear x)); on_goal 2 => (intro hx; clear_value x; rename' x => y)) | (clear_value x; rename' x => y))
    | (with_reducible apply Within.step (Mod.onDisp_within ..); (on_goal 1 => decide))
    | (with_reducible apply Within.step (Mod.restAbort_within ..); (on_goal 1 => decide))
    | (with_reducible apply Within.step (Mod.svcIn_within ..); (on_goal 1 => decide))
    | (with_reducible apply Within.step (Mod.svcMark_within ..); (on_goal 1 => decide))
    | (with_reducible apply Within.step (Mod.svcOut_within ..); (on_goal 1 => decide))
    | with_reducible apply Within.each
    | (intro _)

theorem tripCmd_within (sid : Nat) (mask : Nat) (m : Mod) : Within [.store, .conv, .disp, .prot, .safety, .sent] m (tripCmd sid mask m) := by
  unfold tripCmd
  repeat' first
    | with_reducible apply Within.refl
    | with_reducible assumption
    | with_reducible apply Within.ite
    | (with_reducible apply Within.step (Mod.onDisp_within ..); (on_goal 1 => decide))
    | (with_reducible apply Within.step (Mod.openSeqs_within ..); (on_goal 1 => decide))

theorem Mod.performStop_within (m : Mod) : Within [.disp] m (Mod.performStop m) := by
  unfold Mod.performStop
  repeat' first
    | with_reducible apply Within.refl
    | with_reducible assumption
    | with_reducible apply Within.ite
    | (with_reducible apply Within.step (Mod.onDisp_within ..); (on_goal 1 => decide))
    | (intro _)
    | split

theorem Mod.leaseEnd_within (m : Mod) : Within [.disp] m (Mod.leaseEnd m) := by
  unfold Mod.leaseEnd
  repeat' first
    | with_reducible apply Within.refl
    | with_reducible assumption
    | with_reducible apply Within.ite
    | (with_reducible apply Within.step (Mod.onDisp_within ..); (on_goal 1 => decide))
    | (with_reducible apply Within.step (Mod.performStop_within ..); (on_goal 1 => decide))

theorem Mod.sourceChange_within (m : Mod) : Within [.store, .disp] m (Mod.sourceChange m) := by
  unfold Mod.sourceChange
  repeat' first
    | with_reducible apply Within.refl
    | with_reducible assumption
    | with_reducible apply Within.ite
    | (extract_lets +onlyGivenNames x; refine Within.cut (x := x) ?_ ?_; (on_goal 1 => (unfold x; clear x)); on_goal 2 => (intro hx; clear_value x; rename' x => y))
    | (with_reducible apply Within.step (Mod.onDisp_within ..); (on_goal 1 => decide))
    | (with_reducible apply Within.step (Mod.performStop_within ..); (on_goal 1 => decide))
    | (with_reducible apply Within.step (Mod.post_within ..); (on_goal 1 => decide))

theorem leaseExpiry_within (m : Mod) : Within [.disp] m (leaseExpiry m) := by
  unfold leaseExpiry
  repeat' first
    | with_reducible apply Within.refl
    | with_reducible assumption
    | with_reducible apply Within.ite
    | (with_reducible apply Within.step (Mod.leaseEnd_within ..); (on_goal 1 => decide))

theorem Mod.estResetCmd_within (m : Mod) (args : List Int) : Within [.store, .est] m (Mod.estResetCmd m args) := by
  unfold Mod.estResetCmd
  dsimp only
  repeat' first
    | with_reducible apply Within.refl
    | with_reducible assumption
    | with_reducible apply Within.ite
    | (with_reducible apply Within.step (Mod.estReset_within ..); (on_goal 1 => decide))
    | with_reducible apply Within.each
    | (intro _)
    | split

theorem Mod.dispRun_within (stop revoked : Bool) (l : List DispCmd) (won : Option DispCmd) (m : Mod) (acc : List (DispCmd × Nat)) :
    Within [.host, .store, .est, .conv, .disp, .prot, .sent] m (Mod.dispRun stop revoked l won m acc).1 := by
  have h0 : ∀ (m : Mod) f, Within [.host, .store, .est, .conv, .disp, .prot, .sent] m (m.onDisp f) := fun m f => (Mod.onDisp_within m f).mono (by decide)
  have h1 : ∀ (m : Mod), Within [.host, .store, .est, .conv, .disp, .prot, .sent] m m.leaseEnd := fun m => (Mod.leaseEnd_within m).mono (by decide)
  have h2 : ∀ (m : Mod) c s, Within [.host, .store, .est, .conv, .disp, .prot, .sent] m (m.profileCmd c s).1 := fun m c s => (Mod.profileCmd_within m c s).mono (by decide)
  have h3 : ∀ (m : Mod) k o, Within [.host, .store, .est, .conv, .disp, .prot, .sent] m (protClear k o m).1 := fun m k o => (protClear_within k o m).mono (by decide)
  have h4 : ∀ (m : Mod) a, Within [.host, .store, .est, .conv, .disp, .prot, .sent] m (m.estResetCmd a) := fun m a => (Mod.estResetCmd_within m a).mono (by decide)
  induction l generalizing won m acc with
  | nil => exact .refl ..
  | cons c l ih =>
    unfold Mod.dispRun
    dsimp only
    repeat' split
    all_goals with_reducible first
      | exact ih ..
      | exact (h0 ..).trans (ih ..)
      | exact ((h0 ..).trans (h0 ..)).trans (ih ..)
      | exact (h1 ..).trans (ih ..)
      | exact (h2 ..).trans (ih ..)
      | exact (h3 ..).trans (ih ..)
      | exact (h4 ..).trans (ih ..)

theorem Mod.dispBoundary_within (m : Mod) : Within [.host, .store, .est, .conv, .disp, .prot, .sent] m m.dispBoundary.1 := by
  have h1 : ∀ (m : Mod), Within [.host, .store, .est, .conv, .disp, .prot, .sent] m m.leaseEnd := fun m => (Mod.leaseEnd_within m).mono (by decide)
  have h2 : ∀ (m : Mod), Within [.host, .store, .est, .conv, .disp, .prot, .sent] m (leaseExpiry m) := fun m => (leaseExpiry_within m).mono (by decide)
  have h3 : ∀ (m : Mod), Within [.host, .store, .est, .conv, .disp, .prot, .sent] m m.sourceChange := fun m => (Mod.sourceChange_within m).mono (by decide)
  have h4 : ∀ (m : Mod), Within [.host, .store, .est, .conv, .disp, .prot, .sent] m m.performStop := fun m => (Mod.performStop_within m).mono (by decide)
  have h0 : ∀ (m : Mod) f, Within [.host, .store, .est, .conv, .disp, .prot, .sent] m (m.onDisp f) := fun m f => (Mod.onDisp_within m f).mono (by decide)
  unfold Mod.dispBoundary
  dsimp only
  have h5 : ∀ (m : Mod) (c : Bool), Within [.host, .store, .est, .conv, .disp, .prot, .sent] m (if c = true then m.leaseEnd else m) := by
    intro m c; split
    · exact h1 _
    · exact .refl ..
  have h7 : ∀ (m : Mod) (c : Bool) f, Within [.host, .store, .est, .conv, .disp, .prot, .sent] m (if c = true then m else m.onDisp f) := by
    intro m c f; split
    · exact .refl ..
    · exact h0 ..
  have h6 := fun (m : Mod) a b c d e => Mod.dispRun_within a b c d m e
  have h8 : ∀ (m : Mod) (c : Bool), Within [.host, .store, .est, .conv, .disp, .prot, .sent] m (if c = true then m.performStop else m) := by
    intro m c; split
    · exact h4 _
    · exact .refl ..
  generalize (if m.plan.warm = true then [] else m.disp.cmds) = cmds
  exact ((((h7 ..).trans (h3 _)).trans (h2 _)).trans (h5 ..)).trans ((h6 ..).trans (h8 ..))

theorem Mod.svcGrain_within (m : Mod) (n : Nat) : Within [.store, .conv, .disp, .prot, .safety, .sent] m (Mod.svcGrain m n) := by
  unfold Mod.svcGrain
  repeat' first
    | with_reducible apply Within.refl
    | with_reducible assumption
    | with_reducible apply Within.ite
    | (with_reducible apply Within.step (Mod.onStrDisp_within ..); (on_goal 1 => decide))
    | (with_reducible apply Within.step (Mod.serviceOpen_within ..); (on_goal 1 => decide))
    | (with_reducible apply Within.step (Mod.startRequest_within ..); (on_goal 1 => decide))
    | (with_reducible apply Within.step (Mod.svcClose_within ..); (on_goal 1 => decide))
    | (with_reducible apply Within.step (Mod.svcFail_within ..); (on_goal 1 => decide))
    | (with_reducible apply Within.step (Mod.svcMark_within ..); (on_goal 1 => decide))
    | (intro _)
    | split

theorem Mod.availStep_within (m : Mod) : Within [.disp] m (Mod.availStep m) := by
  unfold Mod.availStep
  repeat' first
    | with_reducible apply Within.refl
    | with_reducible assumption
    | with_reducible apply Within.ite
    | (extract_lets +onlyGivenNames x; refine Within.cut (x := x) ?_ ?_; (on_goal 1 => (unfold x; clear x)); on_goal 2 => (intro hx; clear_value x; rename' x => y))
    | (with_reducible apply Within.step (Mod.onDisp_within ..); (on_goal 1 => decide))
    | (with_reducible apply Within.step (Mod.onStrDisp_within ..); (on_goal 1 => decide))
    | with_reducible apply Within.each
    | (intro _)

theorem Mod.moveCount_within (m : Mod) : Within [.store, .disp] m (Mod.moveCount m) := by
  unfold Mod.moveCount
  repeat' first
    | with_reducible apply Within.refl
    | with_reducible assumption
    | with_reducible apply Within.ite
    | (extract_lets +onlyGivenNames x; first | (refine Within.cut (x := x) ?_ ?_; (on_goal 1 => (unfold x; clear x)); on_goal 2 => (intro hx; clear_value x; rename' x => y)) | (clear_value x; rename' x => y))
    | (with_reducible apply Within.step (Mod.overEnd_within ..); (on_goal 1 => decide))
    | (with_reducible apply Within.step (Mod.onDisp_within ..); (on_goal 1 => decide))
    | (intro _)
    | split

theorem sourceFault_within (m : Mod) : Within [.store, .disp] m (sourceFault m) := by
  unfold sourceFault
  repeat' first
    | with_reducible apply Within.refl
    | with_reducible assumption
    | with_reducible apply Within.ite
    | (with_reducible apply Within.step (Mod.onDisp_within ..); (on_goal 1 => decide))
    | (with_reducible apply Within.step (Mod.post_within ..); (on_goal 1 => decide))

theorem sourceRecover_within (m : Mod) : Within [.store, .disp] m (sourceRecover m) := by
  unfold sourceRecover
  repeat' first
    | with_reducible apply Within.refl
    | with_reducible assumption
    | with_reducible apply Within.ite
    | (with_reducible apply Within.step (Mod.onDisp_within ..); (on_goal 1 => decide))
    | (with_reducible apply Within.step (Mod.post_within ..); (on_goal 1 => decide))

theorem Mod.sourceStep_within (m : Mod) : Within [.store, .disp] m (Mod.sourceStep m).1 := by
  unfold Mod.sourceStep
  repeat' first
    | with_reducible apply Within.refl
    | with_reducible assumption
    | with_reducible apply Within.ite
    | with_reducible apply Within.iteFst
    | (extract_lets +onlyGivenNames x; refine Within.cut (x := x) ?_ ?_; (on_goal 1 => (unfold x; clear x)); on_goal 2 => (intro hx; clear_value x; rename' x => y))
    | (with_reducible apply Within.step (Mod.onDisp_within ..); (on_goal 1 => decide))
    | (with_reducible apply Within.step (sourceFault_within ..); (on_goal 1 => decide))
    | (with_reducible apply Within.step (sourceRecover_within ..); (on_goal 1 => decide))
    | (intro _)
    | split

theorem Mod.profileStep_within (m : Mod) : Within [.host, .store, .disp, .sent] m (Mod.profileStep m) := by
  unfold Mod.profileStep
  repeat' first
    | with_reducible apply Within.refl
    | with_reducible assumption
    | with_reducible apply Within.ite
    | (extract_lets +onlyGivenNames x; first | (refine Within.cut (x := x) ?_ ?_; (on_goal 1 => (unfold x; clear x)); on_goal 2 => (intro hx; clear_value x; rename' x => y)) | (clear_value x; rename' x => y))
    | (with_reducible apply Within.step (Mod.overEnd_within ..); (on_goal 1 => decide))
    | (with_reducible apply Within.step (Mod.moveDone_within ..); (on_goal 1 => decide))
    | (with_reducible apply Within.step (Mod.availStep_within ..); (on_goal 1 => decide))
    | (with_reducible apply Within.step (Mod.moveCount_within ..); (on_goal 1 => decide))
    | (with_reducible apply Within.step (Mod.sourceStep_within ..); (on_goal 1 => decide))
    | (with_reducible apply Within.step (Mod.onDisp_within ..); (on_goal 1 => decide))
    | (intro _)
    | split

theorem Mod.place_within (m : Mod) : Within [.conv, .disp] m (Mod.place m) := by
  unfold Mod.place
  repeat' first
    | with_reducible apply Within.refl
    | with_reducible assumption
    | with_reducible apply Within.ite
    | (extract_lets +onlyGivenNames x; clear_value x; rename' x => y)
    | (with_reducible apply Within.step (Mod.onDisp_within ..); (on_goal 1 => decide))
    | (with_reducible apply Within.step (Mod.onLink_within ..); (on_goal 1 => decide))
    | with_reducible apply Within.each
    | (intro _)

theorem Mod.restRefuse_within (m : Mod) (n cause : Nat) : Within [.store, .est] m (Mod.restRefuse m n cause) := by
  unfold Mod.restRefuse
  repeat' first
    | with_reducible apply Within.refl
    | with_reducible assumption
    | with_reducible apply Within.ite
    | (extract_lets +onlyGivenNames x; first | (refine Within.cut (x := x) ?_ ?_; (on_goal 1 => (unfold x; clear x)); on_goal 2 => (intro hx; clear_value x; rename' x => y)) | (clear_value x; rename' x => y))
    | (with_reducible apply Within.step (Mod.onStrEst_within ..); (on_goal 1 => decide))
    | (with_reducible apply Within.step (Mod.post_within ..); (on_goal 1 => decide))
    | (intro _)
    | split

theorem Mod.restWindows_within (m : Mod) : Within [.store, .est, .disp] m (Mod.restWindows m) := by
  unfold Mod.restWindows
  repeat' first
    | with_reducible apply Within.refl
    | with_reducible assumption
    | with_reducible apply Within.ite
    | (extract_lets +onlyGivenNames x; first | (refine Within.cut (x := x) ?_ ?_; (on_goal 1 => (unfold x; clear x)); on_goal 2 => (intro hx; clear_value x; rename' x => y)) | (clear_value x; rename' x => y))
    | (with_reducible apply Within.step (Mod.restAbort_within ..); (on_goal 1 => decide))
    | (with_reducible apply Within.step (Mod.restRefuse_within ..); (on_goal 1 => decide))
    | (with_reducible apply Within.step (Mod.onStrEst_within ..); (on_goal 1 => decide))
    | (with_reducible apply Within.step (Mod.onStrDisp_within ..); (on_goal 1 => decide))
    | with_reducible apply Within.each
    | (intro _)
    | split

theorem Mod.weightStep_within (m : Mod) : Within [.disp] m (Mod.weightStep m) := by
  unfold Mod.weightStep
  repeat' first
    | with_reducible apply Within.refl
    | with_reducible assumption
    | with_reducible apply Within.ite
    | (extract_lets +onlyGivenNames x; clear_value x; rename' x => y)
    | (with_reducible apply Within.step (Mod.onStrDisp_within ..); (on_goal 1 => decide))
    | with_reducible apply Within.each
    | (intro _)

theorem Mod.zoneStep_within (m : Mod) (n : Nat) : Within [.disp] m (Mod.zoneStep m n) := by
  unfold Mod.zoneStep
  repeat' first
    | with_reducible apply Within.refl
    | with_reducible assumption
    | with_reducible apply Within.ite
    | (with_reducible apply Within.step (Mod.onStrDisp_within ..); (on_goal 1 => decide))

theorem Mod.sharingStep_within (m : Mod) : Within [.store, .est, .conv, .disp] m (Mod.sharingStep m) := by
  unfold Mod.sharingStep
  repeat' first
    | with_reducible apply Within.refl
    | with_reducible assumption
    | with_reducible apply Within.ite
    | (extract_lets +onlyGivenNames x; refine Within.cut (x := x) ?_ ?_; (on_goal 1 => (unfold x; clear x)); on_goal 2 => (intro hx; clear_value x; rename' x => y))
    | (with_reducible apply Within.step (Mod.availStep_within ..); (on_goal 1 => decide))
    | (with_reducible apply Within.step (Mod.place_within ..); (on_goal 1 => decide))
    | (with_reducible apply Within.step (Mod.restWindows_within ..); (on_goal 1 => decide))
    | (with_reducible apply Within.step (Mod.weightStep_within ..); (on_goal 1 => decide))
    | (with_reducible apply Within.step (Mod.zoneStep_within ..); (on_goal 1 => decide))
    | with_reducible apply Within.each
    | (intro _)

theorem Mod.powerSlot_within (m : Mod) : Within [.host, .store, .est, .conv, .disp, .sent] m (Mod.powerSlot m) := by
  unfold Mod.powerSlot
  repeat' first
    | with_reducible apply Within.refl
    | with_reducible assumption
    | with_reducible apply Within.ite
    | (with_reducible apply Within.step (Mod.powerLoop_within ..); (on_goal 1 => decide))
    | (with_reducible apply Within.step (Mod.profileStep_within ..); (on_goal 1 => decide))
    | (with_reducible apply Within.step (Mod.sharingStep_within ..); (on_goal 1 => decide))
    | with_reducible apply Within.each
    | (intro _)

theorem restPendExpiry_within (n : Nat) (m : Mod) : Within [.store, .est] m (restPendExpiry n m) := by
  unfold restPendExpiry
  repeat' first
    | with_reducible apply Within.refl
    | with_reducible assumption
    | with_reducible apply Within.ite
    | (extract_lets +onlyGivenNames x; first | (refine Within.cut (x := x) ?_ ?_; (on_goal 1 => (unfold x; clear x)); on_goal 2 => (intro hx; clear_value x; rename' x => y)) | (clear_value x; rename' x => y))
    | (with_reducible apply Within.step (Mod.restRefuse_within ..); (on_goal 1 => decide))
    | (intro _)
    | split

theorem restWindowEnd_within (n : Nat) (m : Mod) : Within [.disp] m (restWindowEnd n m) := by
  unfold restWindowEnd
  repeat' first
    | with_reducible apply Within.refl
    | with_reducible assumption
    | with_reducible apply Within.ite
    | (extract_lets +onlyGivenNames x; clear_value x; rename' x => y)
    | (with_reducible apply Within.step (Mod.onStrDisp_within ..); (on_goal 1 => decide))
    | (intro _)
    | split

theorem serviceComplete_within (m : Mod) : Within [.host, .disp, .sent] m (serviceComplete m) := by
  unfold serviceComplete
  repeat' first
    | with_reducible apply Within.refl
    | with_reducible assumption
    | with_reducible apply Within.ite
    | (extract_lets +onlyGivenNames x; first | (refine Within.cut (x := x) ?_ ?_; (on_goal 1 => (unfold x; clear x)); on_goal 2 => (intro hx; clear_value x; rename' x => y)) | (clear_value x; rename' x => y))
    | (with_reducible apply Within.step (Mod.complete_within ..); (on_goal 1 => decide))
    | (with_reducible apply Within.step (Mod.onDisp_within ..); (on_goal 1 => decide))
    | with_reducible apply Within.each
    | (intro _)

end Sys2Proof.Machine
end

