-- ==== Sys2Proof/Laws/SafetyFnsFrame.lean ====
section
/-! SUPPORT. Which parts of the module each operation of Machine/SafetyFns.lean can change. -/

namespace Sys2Proof.Machine

theorem clrSafetyCnt_within (m : Mod) : Within [.safety] m (clrSafetyCnt m) := by
  unfold clrSafetyCnt
  repeat' first
    | with_reducible apply Within.refl
    | with_reducible assumption
    | with_reducible apply Within.ite
    | (extract_lets +onlyGivenNames x; first | (refine Within.cut (x := x) ?_ ?_; (on_goal 1 => (unfold x; clear x)); on_goal 2 => (intro hx; clear_value x; rename' x => y)) | (clear_value x; rename' x => y))
    | (with_reducible apply Within.step (Mod.onOi_within ..); (on_goal 1 => decide))
    | (with_reducible apply Within.step (Mod.onSafety_within ..); (on_goal 1 => decide))
    | (with_reducible apply Within.step (Mod.onSi_within ..); (on_goal 1 => decide))
    | with_reducible apply Within.each
    | (intro _)

theorem Mod.evalMaint_within (m : Mod) : Within [.store, .conv, .prot, .safety, .pair, .sent] m (Mod.evalMaint m) := by
  unfold Mod.evalMaint
  repeat' first
    | with_reducible apply Within.refl
    | with_reducible assumption
    | with_reducible apply Within.ite
    | (with_reducible apply Within.step (Mod.safeStateString_within ..); (on_goal 1 => decide))
    | with_reducible apply Within.each
    | (intro _)
    | split

theorem Mod.recordDemand_within (m : Mod) (item kind fn scope : Nat) : Within [.store] m (Mod.recordDemand m item kind fn scope) := by
  unfold Mod.recordDemand
  repeat' first
    | with_reducible apply Within.refl
    | with_reducible assumption
    | with_reducible apply Within.ite
    | (with_reducible apply Within.step (Mod.post_within ..); (on_goal 1 => decide))

theorem Mod.evalOi_within (m : Mod) (k : Nat) : Within [.store, .safety] m (Mod.evalOi m k) := by
  unfold Mod.evalOi
  repeat' first
    | with_reducible apply Within.refl
    | with_reducible assumption
    | with_reducible apply Within.ite
    | (with_reducible apply Within.step (Mod.onOi_within ..); (on_goal 1 => decide))
    | (with_reducible apply Within.step (Mod.recordDemand_within ..); (on_goal 1 => decide))

theorem Mod.evalPlant_within (m : Mod) : Within [.store, .safety] m (Mod.evalPlant m) := by
  unfold Mod.evalPlant
  repeat' first
    | with_reducible apply Within.refl
    | with_reducible assumption
    | with_reducible apply Within.ite
    | (with_reducible apply Within.step (Mod.onSafety_within ..); (on_goal 1 => decide))
    | (with_reducible apply Within.step (Mod.recordDemand_within ..); (on_goal 1 => decide))

theorem Mod.evalSi_within (m : Mod) (i : Nat) : Within [.store, .safety] m (Mod.evalSi m i) := by
  unfold Mod.evalSi
  repeat' first
    | with_reducible apply Within.refl
    | with_reducible assumption
    | with_reducible apply Within.ite
    | (with_reducible apply Within.step (Mod.onSi_within ..); (on_goal 1 => decide))
    | (with_reducible apply Within.step (Mod.recordDemand_within ..); (on_goal 1 => decide))

theorem Mod.maintAbort_within (m : Mod) : Within [.store, .conv, .prot, .safety, .sent] m (Mod.maintAbort m) := by
  unfold Mod.maintAbort
  repeat' first
    | with_reducible apply Within.refl
    | with_reducible assumption
    | with_reducible apply Within.ite
    | (extract_lets +onlyGivenNames x; clear_value x; rename' x => y)
    | (with_reducible apply Within.step (Mod.post_within ..); (on_goal 1 => decide))
    | (with_reducible apply Within.step (Mod.switchOff_within ..); (on_goal 1 => decide))
    | with_reducible apply Within.each
    | (intro _)

theorem Mod.evalTwoHand_within (m : Mod) : Within [.store, .conv, .prot, .safety, .sent] m (Mod.evalTwoHand m) := by
  unfold Mod.evalTwoHand
  dsimp only
  repeat' first
    | with_reducible apply Within.refl
    | with_reducible assumption
    | with_reducible apply Within.ite
    | (with_reducible apply Within.step (Mod.maintAbort_within ..); (on_goal 1 => decide))
    | (with_reducible apply Within.step (Mod.onSafety_within ..); (on_goal 1 => decide))
    | (intro _)
    | split

theorem Mod.judgeSi_within (m : Mod) (i : Nat) : Within [.safety] m (Mod.judgeSi m i) := by
  unfold Mod.judgeSi
  repeat' first
    | with_reducible apply Within.refl
    | with_reducible assumption
    | with_reducible apply Within.ite
    | (with_reducible apply Within.step (Mod.onSi_within ..); (on_goal 1 => decide))

theorem Mod.judgeOi_within (m : Mod) (k : Nat) : Within [.safety] m (Mod.judgeOi m k) := by
  unfold Mod.judgeOi
  repeat' first
    | with_reducible apply Within.refl
    | with_reducible assumption
    | with_reducible apply Within.ite
    | (extract_lets +onlyGivenNames x; first | (refine Within.cut (x := x) ?_ ?_; (on_goal 1 => (unfold x; clear x)); on_goal 2 => (intro hx; clear_value x; rename' x => y)) | (clear_value x; rename' x => y))
    | (with_reducible apply Within.step (Mod.onOi_within ..); (on_goal 1 => decide))
    | (intro _)
    | split

theorem Mod.evalSafety_within (m : Mod) : Within [.plan, .store, .conv, .prot, .safety, .pair, .sent] m (Mod.evalSafety m) := by
  unfold Mod.evalSafety
  repeat' first
    | with_reducible apply Within.refl
    | with_reducible assumption
    | with_reducible apply Within.ite
    | (extract_lets +onlyGivenNames x; first | (refine Within.cut (x := x) ?_ ?_; (on_goal 1 => (unfold x; clear x)); on_goal 2 => (intro hx; clear_value x; rename' x => y)) | (clear_value x; rename' x => y))
    | (with_reducible apply Within.step (Mod.evalCauses_within ..); (on_goal 1 => decide))
    | (with_reducible apply Within.step (Mod.applyHolds_within ..); (on_goal 1 => decide))
    | (with_reducible apply Within.step (Mod.evalMaint_within ..); (on_goal 1 => decide))
    | (with_reducible apply Within.step (Mod.evalOi_within ..); (on_goal 1 => decide))
    | (with_reducible apply Within.step (Mod.evalPlant_within ..); (on_goal 1 => decide))
    | (with_reducible apply Within.step (Mod.evalSi_within ..); (on_goal 1 => decide))
    | (with_reducible apply Within.step (Mod.evalTwoHand_within ..); (on_goal 1 => decide))
    | (with_reducible apply Within.step (Mod.judgeSi_within ..); (on_goal 1 => decide))
    | (with_reducible apply Within.step (Mod.judgeOi_within ..); (on_goal 1 => decide))
    | (with_reducible apply Within.step (Mod.onSafety_within ..); (on_goal 1 => decide))
    | with_reducible apply Within.each
    | (intro _)
    | split

theorem Mod.resetInputs_within (m : Mod) : Within [.safety] m (Mod.resetInputs m) := by
  unfold Mod.resetInputs
  repeat' first
    | with_reducible apply Within.refl
    | with_reducible assumption
    | with_reducible apply Within.ite
    | (extract_lets +onlyGivenNames x; first | (refine Within.cut (x := x) ?_ ?_; (on_goal 1 => (unfold x; clear x)); on_goal 2 => (intro hx; clear_value x; rename' x => y)) | (clear_value x; rename' x => y))
    | (with_reducible apply Within.step (Mod.onOi_within ..); (on_goal 1 => decide))
    | (with_reducible apply Within.step (Mod.onSi_within ..); (on_goal 1 => decide))
    | with_reducible apply Within.each
    | (intro _)

theorem Mod.resetOutputs_within (m : Mod) : Within [.safety] m (Mod.resetOutputs m) := by
  unfold Mod.resetOutputs
  repeat' first
    | with_reducible apply Within.refl
    | with_reducible assumption
    | with_reducible apply Within.ite
    | (with_reducible apply Within.step (Mod.onSq_within ..); (on_goal 1 => decide))
    | with_reducible apply Within.each
    | (intro _)

theorem Mod.resetStops_within (m : Mod) : Within [.safety, .pair] m (Mod.resetStops m) := by
  unfold Mod.resetStops
  repeat' first
    | with_reducible apply Within.refl
    | with_reducible assumption
    | with_reducible apply Within.ite
    | (extract_lets +onlyGivenNames x; first | (refine Within.cut (x := x) ?_ ?_; (on_goal 1 => (unfold x; clear x)); on_goal 2 => (intro hx; clear_value x; rename' x => y)) | (clear_value x; rename' x => y))
    | (with_reducible apply Within.step (Mod.driverBack_within ..); (on_goal 1 => decide))
    | (with_reducible apply Within.step (Mod.onSafety_within ..); (on_goal 1 => decide))
    | (intro _)
    | split

theorem Mod.giveReset_within (m : Mod) (src : Nat) : Within [.plan, .store, .conv, .prot, .safety, .pair, .sent] m (Mod.giveReset m src) := by
  unfold Mod.giveReset
  dsimp only
  repeat' first
    | with_reducible apply Within.refl
    | with_reducible assumption
    | with_reducible apply Within.ite
    | (with_reducible apply Within.step (Mod.evalCauses_within ..); (on_goal 1 => decide))
    | (with_reducible apply Within.step (Mod.evalSafety_within ..); (on_goal 1 => decide))
    | (with_reducible apply Within.step (Mod.onSafety_within ..); (on_goal 1 => decide))
    | (with_reducible apply Within.step (Mod.post_within ..); (on_goal 1 => decide))
    | (with_reducible apply Within.step (Mod.resetInputs_within ..); (on_goal 1 => decide))
    | (with_reducible apply Within.step (Mod.resetOutputs_within ..); (on_goal 1 => decide))
    | (with_reducible apply Within.step (Mod.resetStops_within ..); (on_goal 1 => decide))

theorem safetyReset_within (m : Mod) : Within [.plan, .store, .conv, .prot, .safety, .pair, .sent] m (safetyReset m).1 := by
  unfold safetyReset
  repeat' first
    | with_reducible apply Within.refl
    | with_reducible assumption
    | with_reducible apply Within.ite
    | with_reducible apply Within.iteFst
    | (with_reducible apply Within.step (Mod.giveReset_within ..); (on_goal 1 => decide))

theorem Mod.msTick_within (m : Mod) : Within [.host, .power, .chain, .sent] m (Mod.msTick m) := by
  unfold Mod.msTick
  repeat' first
    | with_reducible apply Within.refl
    | with_reducible assumption
    | with_reducible apply Within.ite
    | (with_reducible apply Within.stepPower; (on_goal 1 => decide); (on_goal 1 => (intro _; rfl)))
    | (with_reducible apply Within.stepHost; (on_goal 1 => decide); (on_goal 1 => (intro _ h; exact h)))
    | (with_reducible apply Within.step (Mod.lineTick_within ..); (on_goal 1 => decide))
    | (with_reducible apply Within.step (Mod.wakeTick_within ..); (on_goal 1 => decide))
    | (intro _)
    | split

theorem Mod.onCloche_within (m : Mod) (graft : Bool) (f : Cloche → Cloche) : Within [.safety] m (Mod.onCloche m graft f) := by
  unfold Mod.onCloche
  repeat' first
    | with_reducible apply Within.refl
    | with_reducible assumption
    | with_reducible apply Within.ite
    | (with_reducible apply Within.step (Mod.onSafety_within ..); (on_goal 1 => decide))

theorem Mod.clocheFail_within (m : Mod) (graft : Bool) (cause : Nat) : Within [.store, .safety] m (Mod.clocheFail m graft cause) := by
  unfold Mod.clocheFail
  repeat' first
    | with_reducible apply Within.refl
    | with_reducible assumption
    | with_reducible apply Within.ite
    | (extract_lets +onlyGivenNames x; first | (refine Within.cut (x := x) ?_ ?_; (on_goal 1 => (unfold x; clear x)); on_goal 2 => (intro hx; clear_value x; rename' x => y)) | (clear_value x; rename' x => y))
    | (with_reducible apply Within.step (Mod.onCloche_within ..); (on_goal 1 => decide))
    | (with_reducible apply Within.step (Mod.onSafety_within ..); (on_goal 1 => decide))
    | (with_reducible apply Within.step (Mod.post_within ..); (on_goal 1 => decide))
    | (intro _)
    | split

theorem Mod.graftData_within (m : Mod) (d : List Byte) : Within [.store, .conv, .prot, .safety, .pair, .sent] m (Mod.graftData m d) := by
  unfold Mod.graftData
  repeat' first
    | with_reducible apply Within.refl
    | with_reducible assumption
    | with_reducible apply Within.ite
    | (extract_lets +onlyGivenNames x; first | (refine Within.cut (x := x) ?_ ?_; (on_goal 1 => (unfold x; clear x)); on_goal 2 => (intro hx; clear_value x; rename' x => y)) | (clear_value x; rename' x => y))
    | (with_reducible apply Within.step (Mod.onSafety_within ..); (on_goal 1 => decide))
    | (with_reducible apply Within.step (Mod.recordDemand_within ..); (on_goal 1 => decide))
    | (with_reducible apply Within.step (Mod.safeStateStrings_within ..); (on_goal 1 => decide))

theorem Mod.clocheAccept_within (m : Mod) (graft : Bool) (net : Nat) (f : ClocheFrame) : Within [.store, .conv, .prot, .safety, .pair, .sent] m (Mod.clocheAccept m graft net f) := by
  unfold Mod.clocheAccept
  repeat' first
    | with_reducible apply Within.refl
    | with_reducible assumption
    | with_reducible apply Within.ite
    | (extract_lets +onlyGivenNames x; first | (refine Within.cut (x := x) ?_ ?_; (on_goal 1 => (unfold x; clear x)); on_goal 2 => (intro hx; clear_value x; rename' x => y)) | (clear_value x; rename' x => y))
    | (with_reducible apply Within.step (Mod.clocheFail_within ..); (on_goal 1 => decide))
    | (with_reducible apply Within.step (Mod.graftData_within ..); (on_goal 1 => decide))
    | (with_reducible apply Within.step (Mod.onCloche_within ..); (on_goal 1 => decide))
    | (intro _)
    | split

theorem Mod.clocheDiscard_within (m : Mod) (graft : Bool) : Within [.safety] m (Mod.clocheDiscard m graft) := by
  unfold Mod.clocheDiscard
  repeat' first
    | with_reducible apply Within.refl
    | with_reducible assumption
    | with_reducible apply Within.ite
    | (with_reducible apply Within.step (Mod.onCloche_within ..); (on_goal 1 => decide))
    | (intro _)
    | split

theorem clocheFrameReceive_within (graft : Bool) (src : NetSrc) (frame : List Byte) (port : Nat) (m : Mod) : Within [.plan, .store, .conv, .prot, .safety, .pair, .sent] m (clocheFrameReceive graft src frame port m) := by
  unfold clocheFrameReceive
  repeat' first
    | with_reducible apply Within.refl
    | with_reducible assumption
    | with_reducible apply Within.ite
    | (extract_lets +onlyGivenNames x; first | (refine Within.cut (x := x) ?_ ?_; (on_goal 1 => (unfold x; clear x)); on_goal 2 => (intro hx; clear_value x; rename' x => y)) | (clear_value x; rename' x => y))
    | (with_reducible apply Within.step (Mod.evalSafety_within ..); (on_goal 1 => decide))
    | (with_reducible apply Within.step (Mod.giveReset_within ..); (on_goal 1 => decide))
    | (with_reducible apply Within.step (Mod.onCloche_within ..); (on_goal 1 => decide))
    | (with_reducible apply Within.step (Mod.clocheAccept_within ..); (on_goal 1 => decide))
    | (with_reducible apply Within.step (Mod.clocheDiscard_within ..); (on_goal 1 => decide))
    | (with_reducible apply Within.step (Mod.onSafety_within ..); (on_goal 1 => decide))
    | (intro _)
    | split

theorem clocheSend_within (graft : Bool) (m : Mod) : Within [.safety, .sent] m (clocheSend graft m) := by
  unfold clocheSend
  repeat' first
    | with_reducible apply Within.refl
    | with_reducible assumption
    | with_reducible apply Within.ite
    | (extract_lets +onlyGivenNames x; clear_value x; rename' x => y)
    | (with_reducible apply Within.step (Mod.onCloche_within ..); (on_goal 1 => decide))
    | (with_reducible apply Within.step (Mod.out_within ..); (on_goal 1 => decide))

theorem clocheWatchdogExpiry_within (graft : Bool) (m : Mod) : Within [.plan, .store, .conv, .prot, .safety, .pair, .sent] m (clocheWatchdogExpiry graft m) := by
  unfold clocheWatchdogExpiry
  repeat' first
    | with_reducible apply Within.refl
    | with_reducible assumption
    | with_reducible apply Within.ite
    | (with_reducible apply Within.step (Mod.clocheFail_within ..); (on_goal 1 => decide))
    | (with_reducible apply Within.step (Mod.evalSafety_within ..); (on_goal 1 => decide))
    | (with_reducible apply Within.step (Mod.onCloche_within ..); (on_goal 1 => decide))
    | (intro _)
    | split

theorem Mod.takeFeedback_within (m : Mod) : Within [.prot] m (Mod.takeFeedback m) := by
  unfold Mod.takeFeedback
  repeat' first
    | with_reducible apply Within.refl
    | with_reducible assumption
    | with_reducible apply Within.ite
    | (with_reducible apply Within.step (Mod.onGroup_within ..); (on_goal 1 => decide))
    | with_reducible apply Within.each
    | (intro _)
    | split

theorem Mod.startFunctions_within (m : Mod) : Within [.prot, .safety] m (Mod.startFunctions m) := by
  unfold Mod.startFunctions
  dsimp only
  repeat' first
    | with_reducible apply Within.refl
    | with_reducible assumption
    | with_reducible apply Within.ite
    | (with_reducible apply Within.step (Mod.judgeSi_within ..); (on_goal 1 => decide))
    | (with_reducible apply Within.step (Mod.judgeOi_within ..); (on_goal 1 => decide))
    | (with_reducible apply Within.step (Mod.takeFeedback_within ..); (on_goal 1 => decide))
    | (with_reducible apply Within.step (Mod.onSafety_within ..); (on_goal 1 => decide))
    | (with_reducible apply Within.step (Mod.onSi_within ..); (on_goal 1 => decide))
    | (with_reducible apply Within.step (Mod.onOi_within ..); (on_goal 1 => decide))
    | with_reducible apply Within.each
    | (intro _)
    | split

theorem discrepancyTimeout_within (optical : Bool) (i : Nat) (m : Mod) : Within [.plan, .store, .safety, .pair, .sent] m (discrepancyTimeout optical i m) := by
  unfold discrepancyTimeout
  repeat' first
    | with_reducible apply Within.refl
    | with_reducible assumption
    | with_reducible apply Within.ite
    | (extract_lets +onlyGivenNames x; first | (refine Within.cut (x := x) ?_ ?_; (on_goal 1 => (unfold x; clear x)); on_goal 2 => (intro hx; clear_value x; rename' x => y)) | (clear_value x; rename' x => y))
    | (with_reducible apply Within.step (Mod.evalCauses_within ..); (on_goal 1 => decide))
    | (with_reducible apply Within.step (Mod.onOi_within ..); (on_goal 1 => decide))
    | (with_reducible apply Within.step (Mod.onSi_within ..); (on_goal 1 => decide))
    | (with_reducible apply Within.step (Mod.post_within ..); (on_goal 1 => decide))
    | (intro _)
    | split

theorem fallowExpiry_within (m : Mod) : Within [.plan, .store, .conv, .prot, .safety, .pair, .can, .upd, .sent] m (fallowExpiry m) := by
  unfold fallowExpiry
  repeat' first
    | with_reducible apply Within.refl
    | with_reducible assumption
    | with_reducible apply Within.ite
    | (extract_lets +onlyGivenNames x; first | (refine Within.cut (x := x) ?_ ?_; (on_goal 1 => (unfold x; clear x)); on_goal 2 => (intro hx; clear_value x; rename' x => y)) | (clear_value x; rename' x => y))
    | (with_reducible apply Within.step (Mod.safeStop_within ..); (on_goal 1 => decide))
    | (with_reducible apply Within.step (Mod.evalSafety_within ..); (on_goal 1 => decide))
    | (with_reducible apply Within.step (Mod.onSafety_within ..); (on_goal 1 => decide))
    | (with_reducible apply Within.step (Mod.post_within ..); (on_goal 1 => decide))
    | (intro _)
    | split

theorem fieldSupplyChange_within (supply mv : Nat) (m : Mod) : Within [.store, .safety] m (fieldSupplyChange supply mv m) := by
  unfold fieldSupplyChange
  repeat' first
    | with_reducible apply Within.refl
    | with_reducible assumption
    | with_reducible apply Within.ite
    | (with_reducible apply Within.step (Mod.onSafety_within ..); (on_goal 1 => decide))
    | (with_reducible apply Within.step (Mod.onSq_within ..); (on_goal 1 => decide))
    | (with_reducible apply Within.step (Mod.post_within ..); (on_goal 1 => decide))
    | with_reducible apply Within.each
    | (intro _)

theorem inputLevel_within (optical : Bool) (i : Nat) (second level : Bool) (m : Mod) : Within [.safety] m (inputLevel optical i second level m) := by
  unfold inputLevel
  repeat' first
    | with_reducible apply Within.refl
    | with_reducible assumption
    | with_reducible apply Within.ite
    | (with_reducible apply Within.step (Mod.onOi_within ..); (on_goal 1 => decide))
    | (with_reducible apply Within.step (Mod.onSi_within ..); (on_goal 1 => decide))

theorem Mod.sqStuck_within (m : Mod) (g : Nat) : Within [.plan, .store, .conv, .prot, .safety, .pair, .can, .upd, .sent] m (Mod.sqStuck m g) := by
  unfold Mod.sqStuck
  repeat' first
    | with_reducible apply Within.refl
    | with_reducible assumption
    | with_reducible apply Within.ite
    | (extract_lets +onlyGivenNames x; first | (refine Within.cut (x := x) ?_ ?_; (on_goal 1 => (unfold x; clear x)); on_goal 2 => (intro hx; clear_value x; rename' x => y)) | (clear_value x; rename' x => y))
    | (with_reducible apply Within.step (Mod.safeStop_within ..); (on_goal 1 => decide))
    | (with_reducible apply Within.step (Mod.onSq_within ..); (on_goal 1 => decide))
    | (with_reducible apply Within.step (Mod.post_within ..); (on_goal 1 => decide))
    | (intro _)
    | split

theorem offPulseEnd_within (g : Nat) (x : PulseMeas) (m : Mod) : Within [.plan, .store, .conv, .prot, .safety, .pair, .can, .upd, .sent] m (offPulseEnd g x m) := by
  unfold offPulseEnd
  repeat' first
    | with_reducible apply Within.refl
    | with_reducible assumption
    | with_reducible apply Within.ite
    | (extract_lets +onlyGivenNames x; first | (refine Within.cut (x := x) ?_ ?_; (on_goal 1 => (unfold x; clear x)); on_goal 2 => (intro hx; clear_value x; rename' x => y)) | (clear_value x; rename' x => y))
    | (with_reducible apply Within.step (Mod.evalCauses_within ..); (on_goal 1 => decide))
    | (with_reducible apply Within.step (Mod.sqStuck_within ..); (on_goal 1 => decide))
    | (with_reducible apply Within.step (Mod.onSq_within ..); (on_goal 1 => decide))
    | (with_reducible apply Within.step (Mod.post_within ..); (on_goal 1 => decide))
    | (intro _)
    | split

theorem offPulseTest_within (g : Nat) (m : Mod) : Within [.safety, .sent] m (offPulseTest g m) := by
  unfold offPulseTest
  repeat' first
    | with_reducible apply Within.refl
    | with_reducible assumption
    | with_reducible apply Within.ite
    | (with_reducible apply Within.step (Mod.onSq_within ..); (on_goal 1 => decide))
    | (with_reducible apply Within.step (Mod.out_within ..); (on_goal 1 => decide))

theorem openLoadTimeout_within (g : Nat) (m : Mod) : Within [.store, .safety] m (openLoadTimeout g m) := by
  unfold openLoadTimeout
  repeat' first
    | with_reducible apply Within.refl
    | with_reducible assumption
    | with_reducible apply Within.ite
    | (with_reducible apply Within.step (Mod.onSq_within ..); (on_goal 1 => decide))
    | (with_reducible apply Within.step (Mod.post_within ..); (on_goal 1 => decide))

theorem partnerBpTrip_within (asserted : Bool) (m : Mod) : Within [.plan, .store, .conv, .prot, .safety, .pair, .sent] m (partnerBpTrip asserted m) := by
  unfold partnerBpTrip
  repeat' first
    | with_reducible apply Within.refl
    | with_reducible assumption
    | with_reducible apply Within.ite
    | (extract_lets +onlyGivenNames x; refine Within.cut (x := x) ?_ ?_; (on_goal 1 => (unfold x; clear x)); on_goal 2 => (intro hx; clear_value x; rename' x => y))
    | (with_reducible apply Within.step (Mod.evalSafety_within ..); (on_goal 1 => decide))
    | (with_reducible apply Within.step (Mod.onSafety_within ..); (on_goal 1 => decide))
    | (with_reducible apply Within.step (Mod.recordDemand_within ..); (on_goal 1 => decide))

theorem Mod.resetRelease_within (m : Mod) (i : Nat) : Within [.plan, .store, .conv, .prot, .safety, .pair, .sent] m (Mod.resetRelease m i) := by
  unfold Mod.resetRelease
  repeat' first
    | with_reducible apply Within.refl
    | with_reducible assumption
    | with_reducible apply Within.ite
    | (extract_lets +onlyGivenNames x; refine Within.cut (x := x) ?_ ?_; (on_goal 1 => (unfold x; clear x)); on_goal 2 => (intro hx; clear_value x; rename' x => y))
    | (with_reducible apply Within.step (Mod.giveReset_within ..); (on_goal 1 => decide))
    | (with_reducible apply Within.step (Mod.onSi_within ..); (on_goal 1 => decide))
    | (with_reducible apply Within.step (Mod.post_within ..); (on_goal 1 => decide))
    | (intro _)
    | split

theorem resetInputRelease_within (i : Nat) (m : Mod) : Within [.plan, .store, .conv, .prot, .safety, .pair, .sent] m (resetInputRelease i m) := by
  unfold resetInputRelease
  repeat' first
    | with_reducible apply Within.refl
    | with_reducible assumption
    | with_reducible apply Within.ite
    | (with_reducible apply Within.step (Mod.onSi_within ..); (on_goal 1 => decide))
    | (with_reducible apply Within.step (Mod.resetRelease_within ..); (on_goal 1 => decide))

theorem Mod.commitSafety_within (m : Mod) (cfg : Tab (Option Int)) : Within [.plan, .store, .conv, .prot, .safety, .pair, .sent] m (Mod.commitSafety m cfg) := by
  unfold Mod.commitSafety
  repeat' first
    | with_reducible apply Within.refl
    | with_reducible assumption
    | with_reducible apply Within.ite
    | (extract_lets +onlyGivenNames x; first | (refine Within.cut (x := x) ?_ ?_; (on_goal 1 => (unfold x; clear x)); on_goal 2 => (intro hx; clear_value x; rename' x => y)) | (clear_value x; rename' x => y))
    | (with_reducible apply Within.step (Mod.evalSafety_within ..); (on_goal 1 => decide))
    | (with_reducible apply Within.step (Mod.takeFeedback_within ..); (on_goal 1 => decide))
    | (with_reducible apply Within.step (Mod.onSafety_within ..); (on_goal 1 => decide))
    | (intro _)
    | split

theorem safeInputChange_within (optical : Bool) (i : Nat) (second level : Bool) (m : Mod) : Within [.plan, .store, .conv, .prot, .safety, .pair, .sent] m (safeInputChange optical i second level m) := by
  unfold safeInputChange
  repeat' first
    | with_reducible apply Within.refl
    | with_reducible assumption
    | with_reducible apply Within.ite
    | (extract_lets +onlyGivenNames x; first | (refine Within.cut (x := x) ?_ ?_; (on_goal 1 => (unfold x; clear x)); on_goal 2 => (intro hx; clear_value x; rename' x => y)) | (clear_value x; rename' x => y))
    | (with_reducible apply Within.step (Mod.evalSafety_within ..); (on_goal 1 => decide))
    | (with_reducible apply Within.step (Mod.feedbackChannel_within ..); (on_goal 1 => decide))
    | (with_reducible apply Within.step (Mod.onOi_within ..); (on_goal 1 => decide))
    | (with_reducible apply Within.step (Mod.onSi_within ..); (on_goal 1 => decide))
    | (with_reducible apply Within.step (Mod.resetRelease_within ..); (on_goal 1 => decide))

theorem safeStageExpiry_within (m : Mod) : Within [.safety] m (safeStageExpiry m) := by
  unfold safeStageExpiry
  repeat' first
    | with_reducible apply Within.refl
    | with_reducible assumption
    | with_reducible apply Within.ite
    | (with_reducible apply Within.step (Mod.onSafety_within ..); (on_goal 1 => decide))

theorem Mod.sqOverload_within (m : Mod) (g : Nat) : Within [.store, .conv, .prot, .safety, .sent] m (Mod.sqOverload m g) := by
  unfold Mod.sqOverload
  repeat' first
    | with_reducible apply Within.refl
    | with_reducible assumption
    | with_reducible apply Within.ite
    | (extract_lets +onlyGivenNames x; first | (refine Within.cut (x := x) ?_ ?_; (on_goal 1 => (unfold x; clear x)); on_goal 2 => (intro hx; clear_value x; rename' x => y)) | (clear_value x; rename' x => y))
    | (with_reducible apply Within.step (Mod.onSq_within ..); (on_goal 1 => decide))
    | (with_reducible apply Within.step (Mod.openSeqs_within ..); (on_goal 1 => decide))
    | (with_reducible apply Within.step (Mod.post_within ..); (on_goal 1 => decide))
    | (with_reducible apply Within.step (Mod.switchOff_within ..); (on_goal 1 => decide))

theorem Mod.sqMeasure_within (m : Mod) (x : SqMeas) : Within [.plan, .store, .conv, .prot, .safety, .pair, .can, .upd, .sent] m (Mod.sqMeasure m x) := by
  unfold Mod.sqMeasure
  repeat' first
    | with_reducible apply Within.refl
    | with_reducible assumption
    | with_reducible apply Within.ite
    | (extract_lets +onlyGivenNames x; first | (refine Within.cut (x := x) ?_ ?_; (on_goal 1 => (unfold x; clear x)); on_goal 2 => (intro hx; clear_value x; rename' x => y)) | (clear_value x; rename' x => y))
    | (with_reducible apply Within.step (Mod.sqStuck_within ..); (on_goal 1 => decide))
    | (with_reducible apply Within.step (Mod.sqOverload_within ..); (on_goal 1 => decide))
    | (with_reducible apply Within.step (Mod.onSq_within ..); (on_goal 1 => decide))
    | (intro _)
    | split

theorem Mod.idleMs_within (m : Mod) : Within [.host, .power, .chain, .pair, .time, .sent] m (Mod.idleMs m) := by
  unfold Mod.idleMs
  repeat' first
    | with_reducible apply Within.refl
    | with_reducible assumption
    | with_reducible apply Within.ite
    | (with_reducible apply Within.step (Mod.msTick_within ..); (on_goal 1 => decide))
    | (with_reducible apply Within.step (Mod.onPair_within ..); (on_goal 1 => decide))
    | (with_reducible apply Within.step (Mod.onTime_within ..); (on_goal 1 => decide))
    | (intro _)
    | split

theorem safetyCycle_within (meas : List SqMeas) (m : Mod) : Within [.plan, .host, .store, .power, .chain, .conv, .prot, .safety, .pair, .time, .can, .upd, .sent] m (safetyCycle meas m) := by
  unfold safetyCycle
  dsimp only
  repeat' first
    | with_reducible apply Within.refl
    | with_reducible assumption
    | with_reducible apply Within.ite
    | (with_reducible apply Within.step (Mod.switchOff_within ..); (on_goal 1 => decide))
    | (with_reducible apply Within.step (Mod.evalSafety_within ..); (on_goal 1 => decide))
    | (with_reducible apply Within.step (Mod.commitSafety_within ..); (on_goal 1 => decide))
    | (with_reducible apply Within.step (Mod.sqMeasure_within ..); (on_goal 1 => decide))
    | (with_reducible apply Within.step (Mod.idleMs_within ..); (on_goal 1 => decide))
    | (with_reducible apply Within.step (Mod.onSafety_within ..); (on_goal 1 => decide))
    | (with_reducible apply Within.step (Mod.onSi_within ..); (on_goal 1 => decide))
    | (with_reducible apply Within.step (Mod.onOi_within ..); (on_goal 1 => decide))
    | with_reducible apply Within.each
    | (intro _)
    | split

theorem sqHighSideOn_within (g : Nat) (m : Mod) : Within [.store, .conv, .prot, .safety, .sent] m (sqHighSideOn g m) := by
  unfold sqHighSideOn
  repeat' first
    | with_reducible apply Within.refl
    | with_reducible assumption
    | with_reducible apply Within.ite
    | (extract_lets +onlyGivenNames x; refine Within.cut (x := x) ?_ ?_; (on_goal 1 => (unfold x; clear x)); on_goal 2 => (intro hx; clear_value x; rename' x => y))
    | (with_reducible apply Within.step (Mod.closeDone_within ..); (on_goal 1 => decide))
    | (with_reducible apply Within.step (Mod.maintAbort_within ..); (on_goal 1 => decide))
    | (with_reducible apply Within.step (Mod.onGroup_within ..); (on_goal 1 => decide))
    | (with_reducible apply Within.step (Mod.onSq_within ..); (on_goal 1 => decide))
    | (with_reducible apply Within.step (Mod.switchOff_within ..); (on_goal 1 => decide))
    | (intro _)
    | split

theorem Mod.gapJudge_within (m : Mod) (i src : Nat) (missing : Bool) : Within [.store, .safety] m (Mod.gapJudge m i src missing) := by
  unfold Mod.gapJudge
  repeat' first
    | with_reducible apply Within.refl
    | with_reducible assumption
    | with_reducible apply Within.ite
    | (with_reducible apply Within.step (Mod.onSi_within ..); (on_goal 1 => decide))
    | (with_reducible apply Within.step (Mod.post_within ..); (on_goal 1 => decide))

theorem testPulseGap_within (src : Nat) (readback : Bool) (missing : List Nat) (m : Mod) : Within [.plan, .store, .conv, .prot, .safety, .pair, .sent] m (testPulseGap src readback missing m) := by
  unfold testPulseGap
  repeat' first
    | with_reducible apply Within.refl
    | with_reducible assumption
    | with_reducible apply Within.ite
    | (extract_lets +onlyGivenNames x; first | (refine Within.cut (x := x) ?_ ?_; (on_goal 1 => (unfold x; clear x)); on_goal 2 => (intro hx; clear_value x; rename' x => y)) | (clear_value x; rename' x => y))
    | (with_reducible apply Within.step (Mod.evalSafety_within ..); (on_goal 1 => decide))
    | (with_reducible apply Within.step (Mod.gapJudge_within ..); (on_goal 1 => decide))
    | (with_reducible apply Within.step (Mod.onSafety_within ..); (on_goal 1 => decide))
    | (with_reducible apply Within.step (Mod.post_within ..); (on_goal 1 => decide))
    | with_reducible apply Within.each
    | (intro _)

theorem twoHandSyncExpiry_within (m : Mod) : Within [.safety] m (twoHandSyncExpiry m) := by
  unfold twoHandSyncExpiry
  repeat' first
    | with_reducible apply Within.refl
    | with_reducible assumption
    | with_reducible apply Within.ite
    | (with_reducible apply Within.step (Mod.onSafety_within ..); (on_goal 1 => decide))

end Sys2Proof.Machine
end

