-- ==== Sys2Proof/Laws/PairFrame.lean ====
section
/-! SUPPORT. Which parts of the module each operation of Machine/Pair.lean can change. -/

namespace Sys2Proof.Machine

theorem Mod.joinEnter_within (m : Mod) (s : JoinStep) : Within [.prot, .safety, .pair, .adc, .sent] m (Mod.joinEnter m s) := by
  unfold Mod.joinEnter
  repeat' first
    | with_reducible apply Within.refl
    | with_reducible assumption
    | with_reducible apply Within.ite
    | (extract_lets +onlyGivenNames x; first | (refine Within.cut (x := x) ?_ ?_; (on_goal 1 => (unfold x; clear x)); on_goal 2 => (intro hx; clear_value x; rename' x => y)) | (clear_value x; rename' x => y))
    | (with_reducible apply Within.step (adcCtrlCal_within ..); (on_goal 1 => decide))
    | (with_reducible apply Within.step (Mod.onSafety_within ..); (on_goal 1 => decide))
    | (with_reducible apply Within.step (Mod.onPair_within ..); (on_goal 1 => decide))
    | (with_reducible apply Within.step (Mod.out_within ..); (on_goal 1 => decide))
    | (intro _)
    | split

theorem clrPairCnt_within (m : Mod) : Within [.pair] m (clrPairCnt m) := by
  unfold clrPairCnt
  repeat' first
    | with_reducible apply Within.refl
    | with_reducible assumption
    | with_reducible apply Within.ite
    | (with_reducible apply Within.step (Mod.onPair_within ..); (on_goal 1 => decide))

theorem Mod.copyBed_within (m : Mod) (src : BedImage) (b : Nat) : Within [.chain, .est, .conv, .disp, .prot] m (m.copyBed src b) := by
  unfold Mod.copyBed
  split <;> (refine .ofSame ?_ rfl rfl; intro p hp; cases p <;> first | exact absurd (by decide) hp | exact rfl | exact ⟨rfl, rfl⟩ | exact ⟨rfl, rfl, rfl⟩)

theorem Mod.resyncGrain_within (m : Mod) (bed : Option Nat) (image : Option BedImage) (exch : List (Nat × BedImage)) : Within [.chain, .est, .conv, .disp, .prot, .pair] m (Mod.resyncGrain m bed image exch) := by
  unfold Mod.resyncGrain
  repeat' first
    | with_reducible apply Within.refl
    | with_reducible assumption
    | with_reducible apply Within.ite
    | (extract_lets +onlyGivenNames x; first | (refine Within.cut (x := x) ?_ ?_; (on_goal 1 => (unfold x; clear x)); on_goal 2 => (intro hx; clear_value x; rename' x => y)) | (clear_value x; rename' x => y))
    | (with_reducible apply Within.step (Mod.copyBed_within ..); (on_goal 1 => decide))
    | (with_reducible apply Within.step (Mod.onPair_within ..); (on_goal 1 => decide))
    | with_reducible apply Within.each
    | (intro _)
    | split

theorem Mod.followContact_within (m : Mod) (req : BitVec 8) : Within [.store, .conv, .prot, .safety, .pair, .sent] m (Mod.followContact m req) := by
  unfold Mod.followContact
  repeat' first
    | with_reducible apply Within.refl
    | with_reducible assumption
    | with_reducible apply Within.ite
    | (extract_lets +onlyGivenNames x; refine Within.cut (x := x) ?_ ?_; (on_goal 1 => (unfold x; clear x)); on_goal 2 => (intro hx; clear_value x; rename' x => y))
    | (with_reducible apply Within.step (Mod.onGroup_within ..); (on_goal 1 => decide))
    | (with_reducible apply Within.step (Mod.onPair_within ..); (on_goal 1 => decide))
    | (with_reducible apply Within.step (Mod.onSq_within ..); (on_goal 1 => decide))
    | (with_reducible apply Within.step (Mod.switchOff_within ..); (on_goal 1 => decide))
    | with_reducible apply Within.each
    | (intro _)

theorem Mod.formDigests_within (m : Mod) : Within [.pair] m (Mod.formDigests m) := by
  unfold Mod.formDigests
  repeat' first
    | with_reducible apply Within.refl
    | with_reducible assumption
    | with_reducible apply Within.ite
    | (with_reducible apply Within.step (Mod.onPair_within ..); (on_goal 1 => decide))
    | (intro _)
    | split

theorem Mod.sendReplay_within (m : Mod) : Within [.pair, .sent] m (Mod.sendReplay m) := by
  unfold Mod.sendReplay
  repeat' first
    | with_reducible apply Within.refl
    | with_reducible assumption
    | with_reducible apply Within.ite
    | (extract_lets +onlyGivenNames x; first | (refine Within.cut (x := x) ?_ ?_; (on_goal 1 => (unfold x; clear x)); on_goal 2 => (intro hx; clear_value x; rename' x => y)) | (clear_value x; rename' x => y))
    | (with_reducible apply Within.step (Mod.onPair_within ..); (on_goal 1 => decide))
    | (with_reducible apply Within.step (Mod.out_within ..); (on_goal 1 => decide))
    | (intro _)
    | split

theorem Mod.mismatch_within (m : Mod) (grain : W32) (beds : Nat) : Within [.store, .pair] m (Mod.mismatch m grain beds) := by
  unfold Mod.mismatch
  repeat' first
    | with_reducible apply Within.refl
    | with_reducible assumption
    | with_reducible apply Within.ite
    | (extract_lets +onlyGivenNames x; first | (refine Within.cut (x := x) ?_ ?_; (on_goal 1 => (unfold x; clear x)); on_goal 2 => (intro hx; clear_value x; rename' x => y)) | (clear_value x; rename' x => y))
    | (with_reducible apply Within.step (Mod.onPair_within ..); (on_goal 1 => decide))
    | (with_reducible apply Within.step (Mod.post_within ..); (on_goal 1 => decide))

theorem Mod.resyncFail_within (m : Mod) : Within [.store, .pair] m (Mod.resyncFail m) := by
  unfold Mod.resyncFail
  repeat' first
    | with_reducible apply Within.refl
    | with_reducible assumption
    | with_reducible apply Within.ite
    | (with_reducible apply Within.step (Mod.onPair_within ..); (on_goal 1 => decide))
    | (with_reducible apply Within.step (Mod.post_within ..); (on_goal 1 => decide))

theorem Mod.standbyEnd_within (m : Mod) : Within [.store, .pair, .sent] m (Mod.standbyEnd m) := by
  unfold Mod.standbyEnd
  repeat' first
    | with_reducible apply Within.refl
    | with_reducible assumption
    | with_reducible apply Within.ite
    | (extract_lets +onlyGivenNames x; first | (refine Within.cut (x := x) ?_ ?_; (on_goal 1 => (unfold x; clear x)); on_goal 2 => (intro hx; clear_value x; rename' x => y)) | (clear_value x; rename' x => y))
    | (with_reducible apply Within.step (Mod.mismatch_within ..); (on_goal 1 => decide))
    | (with_reducible apply Within.step (Mod.resyncFail_within ..); (on_goal 1 => decide))
    | (with_reducible apply Within.step (Mod.onPair_within ..); (on_goal 1 => decide))
    | (with_reducible apply Within.step (Mod.out_within ..); (on_goal 1 => decide))
    | (intro _)
    | split

theorem Mod.activationPoint_within (m : Mod) (g : W32) : Within [.plan, .pair] m (Mod.activationPoint m g) := by
  unfold Mod.activationPoint
  repeat' first
    | with_reducible apply Within.refl
    | with_reducible assumption
    | with_reducible apply Within.ite
    | (with_reducible apply Within.stepPlan; (on_goal 1 => decide); (on_goal 1 => (intro _; exact ⟨rfl, rfl, rfl⟩)))
    | (with_reducible apply Within.step (Mod.onPair_within ..); (on_goal 1 => decide))
    | (intro _)
    | split

theorem Mod.resyncBoundary_within (m : Mod) (g : W32) : Within [.plan, .store, .pair, .sent] m (Mod.resyncBoundary m g) := by
  unfold Mod.resyncBoundary
  repeat' first
    | with_reducible apply Within.refl
    | with_reducible assumption
    | with_reducible apply Within.ite
    | (extract_lets +onlyGivenNames x; first | (refine Within.cut (x := x) ?_ ?_; (on_goal 1 => (unfold x; clear x)); on_goal 2 => (intro hx; clear_value x; rename' x => y)) | (clear_value x; rename' x => y))
    | (with_reducible apply Within.step (Mod.resyncFail_within ..); (on_goal 1 => decide))
    | (with_reducible apply Within.step (Mod.activationPoint_within ..); (on_goal 1 => decide))
    | (with_reducible apply Within.step (Mod.onPair_within ..); (on_goal 1 => decide))
    | (with_reducible apply Within.step (Mod.out_within ..); (on_goal 1 => decide))
    | (intro _)
    | split

theorem drillCheck_within (m : Mod) : Within [.store, .pair] m (drillCheck m) := by
  unfold drillCheck
  repeat' first
    | with_reducible apply Within.refl
    | with_reducible assumption
    | with_reducible apply Within.ite
    | (extract_lets +onlyGivenNames x; first | (refine Within.cut (x := x) ?_ ?_; (on_goal 1 => (unfold x; clear x)); on_goal 2 => (intro hx; clear_value x; rename' x => y)) | (clear_value x; rename' x => y))
    | (with_reducible apply Within.step (Mod.onPair_within ..); (on_goal 1 => decide))
    | (with_reducible apply Within.step (Mod.post_within ..); (on_goal 1 => decide))
    | (intro _)
    | split

theorem drillOverdue_within (m : Mod) : Within [.store, .pair] m (drillOverdue m) := by
  unfold drillOverdue
  repeat' first
    | with_reducible apply Within.refl
    | with_reducible assumption
    | with_reducible apply Within.ite
    | (with_reducible apply Within.step (Mod.onPair_within ..); (on_goal 1 => decide))
    | (with_reducible apply Within.step (Mod.post_within ..); (on_goal 1 => decide))

theorem drillDue_within (m : Mod) : Within [.plan, .store, .pair, .sent] m (drillDue m) := by
  unfold drillDue
  repeat' first
    | with_reducible apply Within.refl
    | with_reducible assumption
    | with_reducible apply Within.ite
    | (with_reducible apply Within.step (Mod.onPair_within ..); (on_goal 1 => decide))
    | (with_reducible apply Within.step (Mod.yield_within ..); (on_goal 1 => decide))

theorem Mod.partnerReport_within (m : Mod) (ready : Bool) : Within [.pair] m (Mod.partnerReport m ready) := by
  unfold Mod.partnerReport
  repeat' first
    | with_reducible apply Within.refl
    | with_reducible assumption
    | with_reducible apply Within.ite
    | (with_reducible apply Within.step (Mod.onPair_within ..); (on_goal 1 => decide))

theorem Mod.partnerTone_within (m : Mod) (n : Nat) (tone : BitVec 2) : Within [.chain] m (Mod.partnerTone m n tone) := by
  unfold Mod.partnerTone
  repeat' first
    | with_reducible apply Within.refl
    | with_reducible assumption
    | with_reducible apply Within.ite
    | (with_reducible apply Within.step (Mod.onRing_within ..); (on_goal 1 => decide))
    | (intro _)
    | split

theorem fieldForward_within (resps : List (Nat × ChainResp)) (ends : List (Nat × EndObs)) (tones : List (Nat × BitVec 2)) (ready : Bool) (m : Mod) : Within [.host, .store, .chain, .est, .pair, .sent, .free] m (fieldForward resps ends tones ready m) := by
  unfold fieldForward
  repeat' first
    | with_reducible apply Within.refl
    | with_reducible assumption
    | with_reducible apply Within.ite
    | (extract_lets +onlyGivenNames x; first | (refine Within.cut (x := x) ?_ ?_; (on_goal 1 => (unfold x; clear x)); on_goal 2 => (intro hx; clear_value x; rename' x => y)) | (clear_value x; rename' x => y))
    | (with_reducible apply Within.step (Mod.chainResponseTaken_within ..); (on_goal 1 => decide))
    | (with_reducible apply Within.step (Mod.partnerReport_within ..); (on_goal 1 => decide))
    | (with_reducible apply Within.step (Mod.partnerTone_within ..); (on_goal 1 => decide))
    | (with_reducible apply Within.step (Mod.onPair_within ..); (on_goal 1 => decide))
    | (with_reducible apply Within.step (Mod.onRing_within ..); (on_goal 1 => decide))
    | (with_reducible apply Within.step (Mod.out_within ..); (on_goal 1 => decide))
    | with_reducible apply Within.each
    | (intro _)
    | split

theorem graftLaneChange_within (lane : Nat) (up : Bool) (m : Mod) : Within [.pair] m (graftLaneChange lane up m) := by
  unfold graftLaneChange
  repeat' first
    | with_reducible apply Within.refl
    | with_reducible assumption
    | with_reducible apply Within.ite
    | (extract_lets +onlyGivenNames x; clear_value x; rename' x => y)
    | (with_reducible apply Within.step (Mod.onPair_within ..); (on_goal 1 => decide))

theorem heartbeatMiss_within (m : Mod) : Within [.store, .pair] m (heartbeatMiss m) := by
  unfold heartbeatMiss
  repeat' first
    | with_reducible apply Within.refl
    | with_reducible assumption
    | with_reducible apply Within.ite
    | (with_reducible apply Within.step (Mod.onPair_within ..); (on_goal 1 => decide))
    | (with_reducible apply Within.step (Mod.post_within ..); (on_goal 1 => decide))

theorem Mod.joinRun_within (k : Nat) (m : Mod) : Within [.prot, .safety, .pair, .adc, .sent] m (Mod.joinRun k m) := by
  induction k generalizing m with
  | zero => exact .refl ..
  | succ k ih =>
    unfold Mod.joinRun
    repeat' split
    all_goals first
      | exact .refl ..
      | exact ((Mod.joinEnter_within ..).mono (by decide)).trans (ih _)

theorem joinPair_within (m : Mod) : Within [.prot, .safety, .pair, .can, .adc, .sent] m (joinPair m) := by
  unfold joinPair
  repeat' first
    | with_reducible apply Within.refl
    | with_reducible assumption
    | with_reducible apply Within.ite
    | (with_reducible apply Within.step (Mod.toStandby_within ..); (on_goal 1 => decide))
    | (with_reducible apply Within.step (Mod.joinRun_within ..); (on_goal 1 => decide))
    | (intro _)
    | split

theorem Mod.assertRole_within (m : Mod) (us : Nat) : Within [.pair] m (Mod.assertRole m us) := by
  unfold Mod.assertRole
  repeat' first
    | with_reducible apply Within.refl
    | with_reducible assumption
    | with_reducible apply Within.ite
    | (with_reducible apply Within.step (Mod.onPair_within ..); (on_goal 1 => decide))
    | (intro _)
    | split

theorem pairFormWaitExpiry_within (m : Mod) : Within [.pair] m (pairFormWaitExpiry m) := by
  unfold pairFormWaitExpiry
  repeat' first
    | with_reducible apply Within.refl
    | with_reducible assumption
    | with_reducible apply Within.ite
    | (extract_lets +onlyGivenNames x; first | (refine Within.cut (x := x) ?_ ?_; (on_goal 1 => (unfold x; clear x)); on_goal 2 => (intro hx; clear_value x; rename' x => y)) | (clear_value x; rename' x => y))
    | (with_reducible apply Within.step (Mod.assertRole_within ..); (on_goal 1 => decide))
    | (intro _)
    | split

theorem partnerAbsent_within (m : Mod) : Within [.plan, .store, .safety, .pair, .sent] m (partnerAbsent m) := by
  unfold partnerAbsent
  repeat' first
    | with_reducible apply Within.refl
    | with_reducible assumption
    | with_reducible apply Within.ite
    | (extract_lets +onlyGivenNames x; first | (refine Within.cut (x := x) ?_ ?_; (on_goal 1 => (unfold x; clear x)); on_goal 2 => (intro hx; clear_value x; rename' x => y)) | (clear_value x; rename' x => y))
    | (with_reducible apply Within.step (Mod.evalCauses_within ..); (on_goal 1 => decide))
    | (with_reducible apply Within.step (Mod.onPair_within ..); (on_goal 1 => decide))
    | (with_reducible apply Within.step (Mod.onSafety_within ..); (on_goal 1 => decide))

theorem partnerPresent_within (m : Mod) : Within [.plan, .store, .safety, .pair, .sent] m (partnerPresent m) := by
  unfold partnerPresent
  repeat' first
    | with_reducible apply Within.refl
    | with_reducible assumption
    | with_reducible apply Within.ite
    | (extract_lets +onlyGivenNames x; refine Within.cut (x := x) ?_ ?_; (on_goal 1 => (unfold x; clear x)); on_goal 2 => (intro hx; clear_value x; rename' x => y))
    | (with_reducible apply Within.step (Mod.evalCauses_within ..); (on_goal 1 => decide))
    | (with_reducible apply Within.step (Mod.onPair_within ..); (on_goal 1 => decide))
    | (with_reducible apply Within.step (Mod.onSafety_within ..); (on_goal 1 => decide))

theorem resyncRetryExpiry_within (m : Mod) : Within [.pair] m (resyncRetryExpiry m) := by
  unfold resyncRetryExpiry
  repeat' first
    | with_reducible apply Within.refl
    | with_reducible assumption
    | with_reducible apply Within.ite
    | (with_reducible apply Within.step (Mod.onPair_within ..); (on_goal 1 => decide))
    | (intro _)
    | split

theorem roleLineChange_within (asserted : Bool) (m : Mod) : Within [.pair, .can] m (roleLineChange asserted m) := by
  unfold roleLineChange
  repeat' first
    | with_reducible apply Within.refl
    | with_reducible assumption
    | with_reducible apply Within.ite
    | (extract_lets +onlyGivenNames x; first | (refine Within.cut (x := x) ?_ ?_; (on_goal 1 => (unfold x; clear x)); on_goal 2 => (intro hx; clear_value x; rename' x => y)) | (clear_value x; rename' x => y))
    | (with_reducible apply Within.step (Mod.toStandby_within ..); (on_goal 1 => decide))
    | (with_reducible apply Within.step (Mod.onPair_within ..); (on_goal 1 => decide))
    | (intro _)
    | split

theorem rolePoint_within (m : Mod) : Within [.pair, .can] m (rolePoint m) := by
  unfold rolePoint
  repeat' first
    | with_reducible apply Within.refl
    | with_reducible assumption
    | with_reducible apply Within.ite
    | (extract_lets +onlyGivenNames x; first | (refine Within.cut (x := x) ?_ ?_; (on_goal 1 => (unfold x; clear x)); on_goal 2 => (intro hx; clear_value x; rename' x => y)) | (clear_value x; rename' x => y))
    | (with_reducible apply Within.step (Mod.toStandby_within ..); (on_goal 1 => decide))
    | (with_reducible apply Within.step (Mod.onPair_within ..); (on_goal 1 => decide))
    | (intro _)
    | split

theorem standbyReplayTimeout_within (m : Mod) : Within [.store, .conv, .prot, .safety, .pair, .sent] m (standbyReplayTimeout m) := by
  unfold standbyReplayTimeout
  repeat' first
    | with_reducible apply Within.refl
    | with_reducible assumption
    | with_reducible apply Within.ite
    | (with_reducible apply Within.step (Mod.followContact_within ..); (on_goal 1 => decide))

theorem Mod.takeRole_within (m : Mod) (kind : Nat) : Within [.plan, .host, .store, .conv, .disp, .pair, .time, .sent] m (Mod.takeRole m kind) := by
  unfold Mod.takeRole
  repeat' first
    | with_reducible apply Within.refl
    | with_reducible assumption
    | with_reducible apply Within.ite
    | (extract_lets +onlyGivenNames x; first | (refine Within.cut (x := x) ?_ ?_; (on_goal 1 => (unfold x; clear x)); on_goal 2 => (intro hx; clear_value x; rename' x => y)) | (clear_value x; rename' x => y))
    | with_reducible apply Within.logical
    | (with_reducible apply Within.step (Mod.cancelActivation_within ..); (on_goal 1 => decide))
    | (with_reducible apply Within.step (Mod.forget_within ..); (on_goal 1 => decide))
    | (with_reducible apply Within.step (drillCheck_within ..); (on_goal 1 => decide))
    | (with_reducible apply Within.step (drillOverdue_within ..); (on_goal 1 => decide))
    | (with_reducible apply Within.step (drillDue_within ..); (on_goal 1 => decide))
    | (with_reducible apply Within.step (Mod.assertRole_within ..); (on_goal 1 => decide))
    | (with_reducible apply Within.step (Mod.onPair_within ..); (on_goal 1 => decide))
    | (with_reducible apply Within.step (Mod.onTime_within ..); (on_goal 1 => decide))
    | (with_reducible apply Within.step (Mod.onLink_within ..); (on_goal 1 => decide))
    | (with_reducible apply Within.step (Mod.post_within ..); (on_goal 1 => decide))
    | with_reducible apply Within.each
    | (intro _)
    | split

theorem Mod.coldTakeover_within (m : Mod) : Within [.plan, .host, .store, .chain, .est, .conv, .disp, .prot, .pair, .time, .sent] m (Mod.coldTakeover m) := by
  unfold Mod.coldTakeover
  repeat' first
    | with_reducible apply Within.refl
    | with_reducible assumption
    | with_reducible apply Within.ite
    | (extract_lets +onlyGivenNames x; first | (refine Within.cut (x := x) ?_ ?_; (on_goal 1 => (unfold x; clear x)); on_goal 2 => (intro hx; clear_value x; rename' x => y)) | (clear_value x; rename' x => y))
    | (with_reducible apply Within.step (Mod.estStart_within ..); (on_goal 1 => decide))
    | (with_reducible apply Within.step (Mod.startEnum_within ..); (on_goal 1 => decide))
    | (with_reducible apply Within.step (Mod.linkTo_within ..); (on_goal 1 => decide))
    | (with_reducible apply Within.step (Mod.copyBed_within ..); (on_goal 1 => decide))
    | (with_reducible apply Within.step (Mod.takeRole_within ..); (on_goal 1 => decide))
    | (with_reducible apply Within.step (Mod.onPair_within ..); (on_goal 1 => decide))
    | (with_reducible apply Within.step (Mod.onLink_within ..); (on_goal 1 => decide))
    | (with_reducible apply Within.step (Mod.onStrDisp_within ..); (on_goal 1 => decide))
    | (with_reducible apply Within.step (Mod.post_within ..); (on_goal 1 => decide))
    | with_reducible apply Within.each
    | (intro _)
    | split

theorem Mod.examineLink_within (m : Mod) (n : Nat) : Within [.store, .conv, .disp, .prot] m (Mod.examineLink m n) := by
  unfold Mod.examineLink
  repeat' first
    | with_reducible apply Within.refl
    | with_reducible assumption
    | with_reducible apply Within.ite
    | (with_reducible apply Within.step (Mod.dropCause_within ..); (on_goal 1 => decide))
    | (with_reducible apply Within.step (Mod.latchCause_within ..); (on_goal 1 => decide))
    | (with_reducible apply Within.step (Mod.linkTo_within ..); (on_goal 1 => decide))
    | (with_reducible apply Within.step (Mod.onLink_within ..); (on_goal 1 => decide))
    | (with_reducible apply Within.step (Mod.onStrDisp_within ..); (on_goal 1 => decide))
    | (with_reducible apply Within.step (Mod.releaseTrip_within ..); (on_goal 1 => decide))

theorem Mod.replayTick_within (m : Mod) : Within [.plan, .host, .store, .chain, .est, .conv, .prot, .safety, .adc, .sent, .free] m (Mod.replayTick m) := by
  unfold Mod.replayTick
  repeat' first
    | with_reducible apply Within.refl
    | with_reducible assumption
    | with_reducible apply Within.ite
    | (extract_lets +onlyGivenNames x; first | (refine Within.cut (x := x) ?_ ?_; (on_goal 1 => (unfold x; clear x)); on_goal 2 => (intro hx; clear_value x; rename' x => y)) | (clear_value x; rename' x => y))
    | (with_reducible apply Within.step (Mod.linkLost_within ..); (on_goal 1 => decide))
    | (with_reducible apply Within.step (Mod.measureDelay_within ..); (on_goal 1 => decide))
    | (with_reducible apply Within.step (Mod.nowAligned_within ..); (on_goal 1 => decide))
    | (with_reducible apply Within.step (Mod.regExpiry_within ..); (on_goal 1 => decide))
    | (with_reducible apply Within.step (Mod.takeFrame_within ..); (on_goal 1 => decide))
    | (with_reducible apply Within.step (Mod.unaligned_within ..); (on_goal 1 => decide))
    | (with_reducible apply Within.step (chainResponse_within ..); (on_goal 1 => decide))
    | (with_reducible apply Within.step (chainTransactionClose_within ..); (on_goal 1 => decide))
    | with_reducible apply Within.logical
    | with_reducible apply Within.each
    | (intro _)
    | split

theorem yieldRoleRelease_within (m : Mod) : Within [.pair, .can] m (yieldRoleRelease m) := by
  unfold yieldRoleRelease
  repeat' first
    | with_reducible apply Within.refl
    | with_reducible assumption
    | with_reducible apply Within.ite
    | (with_reducible apply Within.step (Mod.canInhibit_within ..); (on_goal 1 => decide))
    | (with_reducible apply Within.step (Mod.onPair_within ..); (on_goal 1 => decide))
    | (intro _)
    | split

theorem Mod.formRecord_within (m : Mod) : Within [.pair, .sent] m (Mod.formRecord m) := by
  unfold Mod.formRecord
  repeat' first
    | with_reducible apply Within.refl
    | with_reducible assumption
    | with_reducible apply Within.ite
    | (extract_lets +onlyGivenNames x; first | (refine Within.cut (x := x) ?_ ?_; (on_goal 1 => (unfold x; clear x)); on_goal 2 => (intro hx; clear_value x; rename' x => y)) | (clear_value x; rename' x => y))
    | (with_reducible apply Within.step (Mod.formDigests_within ..); (on_goal 1 => decide))
    | (with_reducible apply Within.step (Mod.onPair_within ..); (on_goal 1 => decide))
    | (with_reducible apply Within.step (Mod.out_within ..); (on_goal 1 => decide))
    | (intro _)
    | split

theorem Mod.yielded_within (m : Mod) : Within [.plan, .store, .pair, .can, .sent] m (Mod.yielded m) := by
  unfold Mod.yielded
  repeat' first
    | with_reducible apply Within.refl
    | with_reducible assumption
    | with_reducible apply Within.ite
    | (with_reducible apply Within.step (Mod.toStandby_within ..); (on_goal 1 => decide))
    | (with_reducible apply Within.step (drillDue_within ..); (on_goal 1 => decide))
    | (with_reducible apply Within.step (Mod.onPair_within ..); (on_goal 1 => decide))
    | (intro _)
    | split

end Sys2Proof.Machine
end

