-- ==== Sys2Proof/Laws/TimeFrame.lean ====
section
/-! SUPPORT. Which parts of the module each operation of Machine/Time.lean can change. -/

namespace Sys2Proof.Machine

theorem Mod.timeStatWrite_within (m : Mod) (v : W32) : Within [.time] m (Mod.timeStatWrite m v) := by
  unfold Mod.timeStatWrite
  repeat' first
    | with_reducible apply Within.refl
    | with_reducible assumption
    | with_reducible apply Within.ite
    | (with_reducible apply Within.step (Mod.onTime_within ..); (on_goal 1 => decide))

theorem grnNowRead_within (m : Mod) : Within [.plan] m (grnNowRead m) := by
  unfold grnNowRead
  repeat' first
    | with_reducible apply Within.refl
    | with_reducible assumption
    | with_reducible apply Within.ite
    | (with_reducible apply Within.stepPlan; (on_goal 1 => decide); (on_goal 1 => (intro _; exact ⟨rfl, rfl, rfl⟩)))

theorem s64LowRead_within (off : Nat) (m : Mod) : Within [.disp] m (s64LowRead off m) := by
  unfold s64LowRead
  repeat' first
    | with_reducible apply Within.refl
    | with_reducible assumption
    | with_reducible apply Within.ite
    | (with_reducible apply Within.step (Mod.onDisp_within ..); (on_goal 1 => decide))
    | (intro _)
    | split

theorem timeNsRead_within (m : Mod) : Within [.time] m (timeNsRead m) := by
  unfold timeNsRead
  repeat' first
    | with_reducible apply Within.refl
    | with_reducible assumption
    | with_reducible apply Within.ite
    | (with_reducible apply Within.step (Mod.onTime_within ..); (on_goal 1 => decide))

theorem timeSecLoRead_within (m : Mod) : Within [.time] m (timeSecLoRead m) := by
  unfold timeSecLoRead
  repeat' first
    | with_reducible apply Within.refl
    | with_reducible assumption
    | with_reducible apply Within.ite
    | (with_reducible apply Within.step (Mod.onTime_within ..); (on_goal 1 => decide))

theorem Mod.armStep_within (m : Mod) : Within [.time] m (Mod.armStep m) := by
  unfold Mod.armStep
  repeat' first
    | with_reducible apply Within.refl
    | with_reducible assumption
    | with_reducible apply Within.ite
    | (with_reducible apply Within.step (Mod.onTime_within ..); (on_goal 1 => decide))

theorem Mod.servoHold_within (m : Mod) : Within [.time] m (Mod.servoHold m) := by
  unfold Mod.servoHold
  repeat' first
    | with_reducible apply Within.refl
    | with_reducible assumption
    | with_reducible apply Within.ite
    | (with_reducible apply Within.step (Mod.onTime_within ..); (on_goal 1 => decide))

theorem Mod.grainLabel_within (m : Mod) : Within [.plan, .time] m (Mod.grainLabel m) := by
  unfold Mod.grainLabel
  repeat' first
    | with_reducible apply Within.refl
    | with_reducible assumption
    | with_reducible apply Within.ite
    | (extract_lets +onlyGivenNames x; first | (refine Within.cut (x := x) ?_ ?_; (on_goal 1 => (unfold x; clear x)); on_goal 2 => (intro hx; clear_value x; rename' x => y)) | (clear_value x; rename' x => y))
    | (with_reducible apply Within.stepPlan; (on_goal 1 => decide); (on_goal 1 => (intro _; exact ⟨rfl, rfl, rfl⟩)))
    | (with_reducible apply Within.step (Mod.onTime_within ..); (on_goal 1 => decide))

theorem Mod.onPtp_within (m : Mod) (p : Nat) (f : PtpPort → PtpPort) : Within [.time] m (Mod.onPtp m p f) := by
  unfold Mod.onPtp
  repeat' first
    | with_reducible apply Within.refl
    | with_reducible assumption
    | with_reducible apply Within.ite
    | (with_reducible apply Within.step (Mod.onTime_within ..); (on_goal 1 => decide))

theorem Mod.selectParent_within (m : Mod) : Within [.store, .time, .sent] m (Mod.selectParent m) := by
  unfold Mod.selectParent
  repeat' first
    | with_reducible apply Within.refl
    | with_reducible assumption
    | with_reducible apply Within.ite
    | (extract_lets +onlyGivenNames x; first | (refine Within.cut (x := x) ?_ ?_; (on_goal 1 => (unfold x; clear x)); on_goal 2 => (intro hx; clear_value x; rename' x => y)) | (clear_value x; rename' x => y))
    | (with_reducible apply Within.step (Mod.onTime_within ..); (on_goal 1 => decide))
    | (with_reducible apply Within.step (Mod.out_within ..); (on_goal 1 => decide))
    | (with_reducible apply Within.step (Mod.post_within ..); (on_goal 1 => decide))
    | (intro _)
    | split

theorem announceTimeout_within (p : Nat) (m : Mod) : Within [.store, .time, .sent] m (announceTimeout p m) := by
  unfold announceTimeout
  repeat' first
    | with_reducible apply Within.refl
    | with_reducible assumption
    | with_reducible apply Within.ite
    | (with_reducible apply Within.step (Mod.onPtp_within ..); (on_goal 1 => decide))
    | (with_reducible apply Within.step (Mod.selectParent_within ..); (on_goal 1 => decide))
    | (intro _)
    | split

theorem Mod.timeStart_within (m : Mod) : Within [.time] m m.timeStart := by
  refine .ofSame ?_ rfl rfl; intro p hp; cases p <;> first | exact absurd (by decide) hp | exact rfl | exact ⟨rfl, rfl⟩ | exact ⟨rfl, rfl, rfl⟩

theorem delayReqSend_within (p : Nat) (t3 : Int) (m : Mod) : Within [.time, .sent] m (delayReqSend p t3 m) := by
  unfold delayReqSend
  repeat' first
    | with_reducible apply Within.refl
    | with_reducible assumption
    | with_reducible apply Within.ite
    | (extract_lets +onlyGivenNames x; clear_value x; rename' x => y)
    | (with_reducible apply Within.step (Mod.onPtp_within ..); (on_goal 1 => decide))
    | (with_reducible apply Within.step (Mod.out_within ..); (on_goal 1 => decide))

theorem forceStepExpiry_within (m : Mod) : Within [.host, .time] m (forceStepExpiry m) := by
  unfold forceStepExpiry
  repeat' first
    | with_reducible apply Within.refl
    | with_reducible assumption
    | with_reducible apply Within.ite
    | (with_reducible apply Within.step (Mod.onTime_within ..); (on_goal 1 => decide))
    | (with_reducible apply Within.step (Mod.setPar_within ..); (on_goal 1 => decide))
    | (intro _)
    | split

theorem holdMaxExpiry_within (m : Mod) : Within [.time] m (holdMaxExpiry m) := by
  unfold holdMaxExpiry
  repeat' first
    | with_reducible apply Within.refl
    | with_reducible assumption
    | with_reducible apply Within.ite
    | (with_reducible apply Within.step (Mod.onTime_within ..); (on_goal 1 => decide))
    | (intro _)
    | split

theorem Mod.saveIncr_within (m : Mod) : Within [.power, .time] m (Mod.saveIncr m) := by
  unfold Mod.saveIncr
  repeat' first
    | with_reducible apply Within.refl
    | with_reducible assumption
    | with_reducible apply Within.ite
    | (with_reducible apply Within.stepPower; (on_goal 1 => decide); (on_goal 1 => (intro _; rfl)))
    | (with_reducible apply Within.step (Mod.onTime_within ..); (on_goal 1 => decide))

theorem incrSave_within (m : Mod) : Within [.power, .time] m (incrSave m) := by
  unfold incrSave
  repeat' first
    | with_reducible apply Within.refl
    | with_reducible assumption
    | with_reducible apply Within.ite
    | (with_reducible apply Within.step (Mod.saveIncr_within ..); (on_goal 1 => decide))

theorem ptpAnnounceReceive_within (p : Nat) (f : PtpAnnounce) (m : Mod) : Within [.store, .time, .sent] m (ptpAnnounceReceive p f m) := by
  unfold ptpAnnounceReceive
  repeat' first
    | with_reducible apply Within.refl
    | with_reducible assumption
    | with_reducible apply Within.ite
    | (extract_lets +onlyGivenNames x; first | (refine Within.cut (x := x) ?_ ?_; (on_goal 1 => (unfold x; clear x)); on_goal 2 => (intro hx; clear_value x; rename' x => y)) | (clear_value x; rename' x => y))
    | (with_reducible apply Within.step (Mod.onPtp_within ..); (on_goal 1 => decide))
    | (with_reducible apply Within.step (Mod.selectParent_within ..); (on_goal 1 => decide))
    | (intro _)
    | split

theorem ptpDelayRespReceive_within (p : Nat) (f : PtpDelayResp) (m : Mod) : Within [.time] m (ptpDelayRespReceive p f m) := by
  unfold ptpDelayRespReceive
  repeat' first
    | with_reducible apply Within.refl
    | with_reducible assumption
    | with_reducible apply Within.ite
    | (extract_lets +onlyGivenNames x; first | (refine Within.cut (x := x) ?_ ?_; (on_goal 1 => (unfold x; clear x)); on_goal 2 => (intro hx; clear_value x; rename' x => y)) | (clear_value x; rename' x => y))
    | (with_reducible apply Within.step (Mod.onPtp_within ..); (on_goal 1 => decide))
    | (with_reducible apply Within.step (Mod.onTime_within ..); (on_goal 1 => decide))
    | (intro _)
    | split

theorem Mod.servoJudge_within (m : Mod) (p : Nat) (o : Int) : Within [.store, .power, .time] m (Mod.servoJudge m p o) := by
  unfold Mod.servoJudge
  repeat' first
    | with_reducible apply Within.refl
    | with_reducible assumption
    | with_reducible apply Within.ite
    | (extract_lets +onlyGivenNames x; first | (refine Within.cut (x := x) ?_ ?_; (on_goal 1 => (unfold x; clear x)); on_goal 2 => (intro hx; clear_value x; rename' x => y)) | (clear_value x; rename' x => y))
    | (with_reducible apply Within.step (Mod.saveIncr_within ..); (on_goal 1 => decide))
    | (with_reducible apply Within.step (Mod.onTime_within ..); (on_goal 1 => decide))
    | (with_reducible apply Within.step (Mod.post_within ..); (on_goal 1 => decide))
    | (intro _)
    | split

theorem Mod.steerIncr_within (m : Mod) (out : Rat) : Within [.time, .sent] m (Mod.steerIncr m out) := by
  unfold Mod.steerIncr
  repeat' first
    | with_reducible apply Within.refl
    | with_reducible assumption
    | with_reducible apply Within.ite
    | (with_reducible apply Within.step (Mod.onTime_within ..); (on_goal 1 => decide))

theorem Mod.servoRun_within (m : Mod) (o : Int) : Within [.time, .sent] m (Mod.servoRun m o) := by
  unfold Mod.servoRun
  repeat' first
    | with_reducible apply Within.refl
    | with_reducible assumption
    | with_reducible apply Within.ite
    | (extract_lets +onlyGivenNames x; first | (refine Within.cut (x := x) ?_ ?_; (on_goal 1 => (unfold x; clear x)); on_goal 2 => (intro hx; clear_value x; rename' x => y)) | (clear_value x; rename' x => y))
    | (with_reducible apply Within.step (Mod.onTime_within ..); (on_goal 1 => decide))
    | (with_reducible apply Within.step (Mod.steerIncr_within ..); (on_goal 1 => decide))

theorem Mod.stepEpoch_within (m : Mod) (o : Int) (forced : Bool) : Within [.host, .store, .time] m (Mod.stepEpoch m o forced).1 := by
  unfold Mod.stepEpoch
  repeat' first
    | with_reducible apply Within.refl
    | with_reducible assumption
    | with_reducible apply Within.ite
    | with_reducible apply Within.iteFst
    | (with_reducible apply Within.step (Mod.onTime_within ..); (on_goal 1 => decide))
    | (with_reducible apply Within.step (Mod.post_within ..); (on_goal 1 => decide))
    | (with_reducible apply Within.step (Mod.setPar_within ..); (on_goal 1 => decide))

theorem Mod.takeOffset_within (m : Mod) (p : Nat) (o : Int) : Within [.host, .store, .power, .time, .sent, .free] m (Mod.takeOffset m p o) := by
  unfold Mod.takeOffset
  repeat' first
    | with_reducible apply Within.refl
    | with_reducible assumption
    | with_reducible apply Within.ite
    | (with_reducible apply Within.step (Mod.onTime_within ..); (on_goal 1 => decide))
    | (with_reducible apply Within.step (Mod.servoJudge_within ..); (on_goal 1 => decide))
    | (with_reducible apply Within.step (Mod.servoRun_within ..); (on_goal 1 => decide))
    | (with_reducible apply Within.step (Mod.stepEpoch_within ..); (on_goal 1 => decide))
    | (intro _)
    | split

theorem Mod.syncOffset_within (m : Mod) (p : Nat) (t1 corr t2 : Int) : Within [.host, .store, .power, .time, .sent, .free] m (Mod.syncOffset m p t1 corr t2) := by
  unfold Mod.syncOffset
  repeat' first
    | with_reducible apply Within.refl
    | with_reducible assumption
    | with_reducible apply Within.ite
    | (extract_lets +onlyGivenNames x; first | (refine Within.cut (x := x) ?_ ?_; (on_goal 1 => (unfold x; clear x)); on_goal 2 => (intro hx; clear_value x; rename' x => y)) | (clear_value x; rename' x => y))
    | (with_reducible apply Within.step (Mod.onTime_within ..); (on_goal 1 => decide))
    | (with_reducible apply Within.step (Mod.takeOffset_within ..); (on_goal 1 => decide))

theorem ptpFollowUpReceive_within (p : Nat) (f : PtpFollowUp) (m : Mod) : Within [.host, .store, .power, .time, .sent, .free] m (ptpFollowUpReceive p f m) := by
  unfold ptpFollowUpReceive
  repeat' first
    | with_reducible apply Within.refl
    | with_reducible assumption
    | with_reducible apply Within.ite
    | (with_reducible apply Within.step (Mod.syncOffset_within ..); (on_goal 1 => decide))
    | (intro _)
    | split

theorem ptpSyncReceive_within (p : Nat) (f : PtpSync) (m : Mod) : Within [.host, .store, .power, .time, .sent, .free] m (ptpSyncReceive p f m) := by
  unfold ptpSyncReceive
  repeat' first
    | with_reducible apply Within.refl
    | with_reducible assumption
    | with_reducible apply Within.ite
    | (with_reducible apply Within.step (Mod.onTime_within ..); (on_goal 1 => decide))
    | (with_reducible apply Within.step (Mod.syncOffset_within ..); (on_goal 1 => decide))

theorem ptpTcForward_within (p domain kind : Nat) (corr ingress egress : Int) (frame : List Byte) (m : Mod) : Within [.sent] m (ptpTcForward p domain kind corr ingress egress frame m) := by
  unfold ptpTcForward
  repeat' first
    | with_reducible apply Within.refl
    | with_reducible assumption
    | with_reducible apply Within.ite
    | (extract_lets +onlyGivenNames x; clear_value x; rename' x => y)
    | (with_reducible apply Within.step (Mod.out_within ..); (on_goal 1 => decide))

theorem syncLossTimeout_within (m : Mod) : Within [.time] m (syncLossTimeout m) := by
  unfold syncLossTimeout
  repeat' first
    | with_reducible apply Within.refl
    | with_reducible assumption
    | with_reducible apply Within.ite
    | (extract_lets +onlyGivenNames x; clear_value x; rename' x => y)
    | (with_reducible apply Within.step (Mod.onTime_within ..); (on_goal 1 => decide))

theorem timeExtend_within (m : Mod) : Within [.time] m (timeExtend m) := by
  unfold timeExtend
  repeat' first
    | with_reducible apply Within.refl
    | with_reducible assumption
    | with_reducible apply Within.ite
    | (with_reducible apply Within.step (Mod.onTime_within ..); (on_goal 1 => decide))

theorem Mod.takeForce_within (m : Mod) : Within [.time] m (Mod.takeForce m) := by
  unfold Mod.takeForce
  repeat' first
    | with_reducible apply Within.refl
    | with_reducible assumption
    | with_reducible apply Within.ite
    | (with_reducible apply Within.step (Mod.armStep_within ..); (on_goal 1 => decide))
    | (with_reducible apply Within.step (Mod.onTime_within ..); (on_goal 1 => decide))
    | (intro _)
    | split

theorem Mod.followMarker_within (m : Mod) : Within [.time, .sent, .free] m (Mod.followMarker m) := by
  unfold Mod.followMarker
  repeat' first
    | with_reducible apply Within.refl
    | with_reducible assumption
    | with_reducible apply Within.ite
    | (extract_lets +onlyGivenNames x; first | (refine Within.cut (x := x) ?_ ?_; (on_goal 1 => (unfold x; clear x)); on_goal 2 => (intro hx; clear_value x; rename' x => y)) | (clear_value x; rename' x => y))
    | (with_reducible apply Within.step (Mod.steerIncr_within ..); (on_goal 1 => decide))
    | (with_reducible apply Within.step (Mod.free_within ..); (on_goal 1 => decide))
    | (intro _)
    | split

end Sys2Proof.Machine
end

