-- ==== Sys2Proof/Laws/CanFrame.lean ====
section
/-! SUPPORT. Which parts of the module each operation of Machine/Can.lean can change. -/

namespace Sys2Proof.Machine

theorem canCtrlAbortAll_within (p : Nat) (m : Mod) : Within [.can] m (canCtrlAbortAll p m) := by
  unfold canCtrlAbortAll
  repeat' first
    | with_reducible apply Within.refl
    | with_reducible assumption
    | with_reducible apply Within.ite
    | (with_reducible apply Within.step (Mod.onObj_within ..); (on_goal 1 => decide))
    | (with_reducible apply Within.step (Mod.onPort_within ..); (on_goal 1 => decide))
    | with_reducible apply Within.each
    | (intro _)

theorem canCtrlClearFlags_within (p : Nat) (m : Mod) : Within [.can] m (canCtrlClearFlags p m) := by
  unfold canCtrlClearFlags
  repeat' first
    | with_reducible apply Within.refl
    | with_reducible assumption
    | with_reducible apply Within.ite
    | (with_reducible apply Within.step (Mod.onObj_within ..); (on_goal 1 => decide))
    | (with_reducible apply Within.step (Mod.onPort_within ..); (on_goal 1 => decide))
    | with_reducible apply Within.each
    | (intro _)

theorem canCtrlDetect_within (p : Nat) (m : Mod) : Within [.can] m (canCtrlDetect p m) := by
  unfold canCtrlDetect
  repeat' first
    | with_reducible apply Within.refl
    | with_reducible assumption
    | with_reducible apply Within.ite
    | (with_reducible apply Within.step (Mod.onPort_within ..); (on_goal 1 => decide))

theorem canCtrlRecover_within (p : Nat) (m : Mod) : Within [.can] m (canCtrlRecover p m) := by
  unfold canCtrlRecover
  repeat' first
    | with_reducible apply Within.refl
    | with_reducible assumption
    | with_reducible apply Within.ite
    | (with_reducible apply Within.step (Mod.onPort_within ..); (on_goal 1 => decide))

theorem Mod.canStart_within (m : Mod) (p o : Nat) : Within [.can, .sent] m (Mod.canStart m p o) := by
  unfold Mod.canStart
  repeat' first
    | with_reducible apply Within.refl
    | with_reducible assumption
    | with_reducible apply Within.ite
    | (extract_lets +onlyGivenNames x; clear_value x; rename' x => y)
    | (with_reducible apply Within.step (Mod.onObj_within ..); (on_goal 1 => decide))
    | (with_reducible apply Within.step (Mod.onPort_within ..); (on_goal 1 => decide))
    | (with_reducible apply Within.step (Mod.out_within ..); (on_goal 1 => decide))

theorem Mod.ttMiss_within (m : Mod) (p o : Nat) : Within [.can] m (Mod.ttMiss m p o) := by
  unfold Mod.ttMiss
  repeat' first
    | with_reducible apply Within.refl
    | with_reducible assumption
    | with_reducible apply Within.ite
    | (with_reducible apply Within.step (Mod.onPort_within ..); (on_goal 1 => decide))
    | (with_reducible apply Within.step (Mod.onObj_within ..); (on_goal 1 => decide))
    | (intro _)
    | split

theorem Mod.ttCycle_within (m : Mod) (p t : Nat) : Within [.can] m (Mod.ttCycle m p t) := by
  unfold Mod.ttCycle
  repeat' first
    | with_reducible apply Within.refl
    | with_reducible assumption
    | with_reducible apply Within.ite
    | (extract_lets +onlyGivenNames x; first | (refine Within.cut (x := x) ?_ ?_; (on_goal 1 => (unfold x; clear x)); on_goal 2 => (intro hx; clear_value x; rename' x => y)) | (clear_value x; rename' x => y))
    | (with_reducible apply Within.step (Mod.ttMiss_within ..); (on_goal 1 => decide))
    | (with_reducible apply Within.step (Mod.onPort_within ..); (on_goal 1 => decide))
    | with_reducible apply Within.each
    | (intro _)
    | split

theorem Mod.canNext_within (m : Mod) (p : Nat) : Within [.can, .sent] m (Mod.canNext m p) := by
  unfold Mod.canNext
  dsimp only
  repeat' first
    | with_reducible apply Within.refl
    | with_reducible assumption
    | with_reducible apply Within.ite
    | (with_reducible apply Within.step (Mod.canStart_within ..); (on_goal 1 => decide))
    | (with_reducible apply Within.step (Mod.ttCycle_within ..); (on_goal 1 => decide))
    | (with_reducible apply Within.step (Mod.onPort_within ..); (on_goal 1 => decide))
    | (with_reducible apply Within.step (Mod.out_within ..); (on_goal 1 => decide))
    | (intro _)
    | split

theorem Mod.canPend_within (m : Mod) (p o : Nat) (data : List Byte) : Within [.pair, .can] m (Mod.canPend m p o data) := by
  unfold Mod.canPend
  repeat' first
    | with_reducible apply Within.refl
    | with_reducible assumption
    | with_reducible apply Within.ite
    | (extract_lets +onlyGivenNames x; first | (refine Within.cut (x := x) ?_ ?_; (on_goal 1 => (unfold x; clear x)); on_goal 2 => (intro hx; clear_value x; rename' x => y)) | (clear_value x; rename' x => y))
    | (with_reducible apply Within.step (Mod.capture_within ..); (on_goal 1 => decide))
    | (with_reducible apply Within.step (Mod.onPort_within ..); (on_goal 1 => decide))
    | (with_reducible apply Within.step (Mod.onObj_within ..); (on_goal 1 => decide))
    | (intro _)
    | split

theorem Mod.canData_within (m : Mod) (p o : Nat) (data : List Byte) : Within [.pair, .can, .sent] m (Mod.canData m p o data) := by
  unfold Mod.canData
  repeat' first
    | with_reducible apply Within.refl
    | with_reducible assumption
    | with_reducible apply Within.ite
    | (with_reducible apply Within.step (Mod.canNext_within ..); (on_goal 1 => decide))
    | (with_reducible apply Within.step (Mod.canPend_within ..); (on_goal 1 => decide))
    | (intro _)
    | split

theorem Mod.canGo_within (m : Mod) (p : Nat) : Within [.pair, .can, .sent] m (Mod.canGo m p).1 := by
  unfold Mod.canGo
  repeat' first
    | with_reducible apply Within.refl
    | with_reducible assumption
    | with_reducible apply Within.ite
    | with_reducible apply Within.iteFst
    | (extract_lets +onlyGivenNames x; first | (refine Within.cut (x := x) ?_ ?_; (on_goal 1 => (unfold x; clear x)); on_goal 2 => (intro hx; clear_value x; rename' x => y)) | (clear_value x; rename' x => y))
    | (with_reducible apply Within.step (Mod.canData_within ..); (on_goal 1 => decide))
    | (intro _)
    | split

theorem Mod.canGrainPort_within (m : Mod) (p : Nat) : Within [.pair, .can, .sent] m (Mod.canGrainPort m p) := by
  unfold Mod.canGrainPort
  repeat' first
    | with_reducible apply Within.refl
    | with_reducible assumption
    | with_reducible apply Within.ite
    | (extract_lets +onlyGivenNames x; first | (refine Within.cut (x := x) ?_ ?_; (on_goal 1 => (unfold x; clear x)); on_goal 2 => (intro hx; clear_value x; rename' x => y)) | (clear_value x; rename' x => y))
    | (with_reducible apply Within.step (Mod.canNext_within ..); (on_goal 1 => decide))
    | (with_reducible apply Within.step (Mod.canPend_within ..); (on_goal 1 => decide))
    | (with_reducible apply Within.step (Mod.onPort_within ..); (on_goal 1 => decide))
    | (with_reducible apply Within.step (Mod.onObj_within ..); (on_goal 1 => decide))
    | with_reducible apply Within.each
    | (intro _)
    | split

theorem Mod.canRole_within (m : Mod) : Within [.can, .sent] m (Mod.canRole m) := by
  unfold Mod.canRole
  repeat' first
    | with_reducible apply Within.refl
    | with_reducible assumption
    | with_reducible apply Within.ite
    | (extract_lets +onlyGivenNames x; first | (refine Within.cut (x := x) ?_ ?_; (on_goal 1 => (unfold x; clear x)); on_goal 2 => (intro hx; clear_value x; rename' x => y)) | (clear_value x; rename' x => y))
    | (with_reducible apply Within.step (Mod.canNext_within ..); (on_goal 1 => decide))
    | (with_reducible apply Within.step (Mod.onObj_within ..); (on_goal 1 => decide))
    | (with_reducible apply Within.step (Mod.onPort_within ..); (on_goal 1 => decide))
    | with_reducible apply Within.each
    | (intro _)

theorem Mod.canPass_within (m : Mod) (ns : Nat) : Within [.can, .sent] m (Mod.canPass m ns) := by
  unfold Mod.canPass
  repeat' first
    | with_reducible apply Within.refl
    | with_reducible assumption
    | with_reducible apply Within.ite
    | (extract_lets +onlyGivenNames x; first | (refine Within.cut (x := x) ?_ ?_; (on_goal 1 => (unfold x; clear x)); on_goal 2 => (intro hx; clear_value x; rename' x => y)) | (clear_value x; rename' x => y))
    | (with_reducible apply Within.step (Mod.canNext_within ..); (on_goal 1 => decide))
    | (with_reducible apply Within.step (Mod.onPort_within ..); (on_goal 1 => decide))
    | with_reducible apply Within.each
    | (intro _)
    | split

theorem Mod.canGrain_within (m : Mod) : Within [.pair, .can, .sent] m (Mod.canGrain m) := by
  unfold Mod.canGrain
  repeat' first
    | with_reducible apply Within.refl
    | with_reducible assumption
    | with_reducible apply Within.ite
    | (extract_lets +onlyGivenNames x; first | (refine Within.cut (x := x) ?_ ?_; (on_goal 1 => (unfold x; clear x)); on_goal 2 => (intro hx; clear_value x; rename' x => y)) | (clear_value x; rename' x => y))
    | (with_reducible apply Within.step (Mod.canGrainPort_within ..); (on_goal 1 => decide))
    | (with_reducible apply Within.step (Mod.canRole_within ..); (on_goal 1 => decide))
    | (with_reducible apply Within.step (Mod.canPass_within ..); (on_goal 1 => decide))
    | (with_reducible apply Within.step (Mod.onCan_within ..); (on_goal 1 => decide))
    | with_reducible apply Within.each
    | (intro _)
    | split

theorem Mod.detectFrame_within (m : Mod) (p : Nat) (d : CanDetect) (f : CanFrame) : Within [.store, .can] m (Mod.detectFrame m p d f) := by
  unfold Mod.detectFrame
  repeat' first
    | with_reducible apply Within.refl
    | with_reducible assumption
    | with_reducible apply Within.ite
    | (extract_lets +onlyGivenNames x; clear_value x; rename' x => y)
    | (with_reducible apply Within.step (Mod.onPort_within ..); (on_goal 1 => decide))
    | (with_reducible apply Within.step (Mod.post_within ..); (on_goal 1 => decide))

theorem Mod.recGood_within (m : Mod) (p : Nat) : Within [.can, .free] m (Mod.recGood m p) := by
  unfold Mod.recGood
  repeat' first
    | with_reducible apply Within.refl
    | with_reducible assumption
    | with_reducible apply Within.ite
    | (with_reducible apply Within.step (Mod.free_within ..); (on_goal 1 => decide))
    | (with_reducible apply Within.step (Mod.onPort_within ..); (on_goal 1 => decide))

theorem Mod.ttReference_within (m : Mod) (p cycle t : Nat) : Within [.can] m (Mod.ttReference m p cycle t) := by
  unfold Mod.ttReference
  repeat' first
    | with_reducible apply Within.refl
    | with_reducible assumption
    | with_reducible apply Within.ite
    | (with_reducible apply Within.step (Mod.ttCycle_within ..); (on_goal 1 => decide))
    | (with_reducible apply Within.step (Mod.onPort_within ..); (on_goal 1 => decide))
    | (intro _)
    | split

theorem Mod.ttReceive_within (m : Mod) (p cycle ago : Nat) : Within [.can, .free] m (Mod.ttReceive m p cycle ago) := by
  unfold Mod.ttReceive
  repeat' first
    | with_reducible apply Within.refl
    | with_reducible assumption
    | with_reducible apply Within.ite
    | (with_reducible apply Within.step (Mod.recGood_within ..); (on_goal 1 => decide))
    | (with_reducible apply Within.step (Mod.ttReference_within ..); (on_goal 1 => decide))
    | (with_reducible apply Within.step (Mod.onPort_within ..); (on_goal 1 => decide))
    | (intro _)
    | split

theorem ttReferenceReceive_within (p cycle : Nat) (m : Mod) : Within [.can, .free] m (ttReferenceReceive p cycle m) := by
  unfold ttReferenceReceive
  repeat' first
    | with_reducible apply Within.refl
    | with_reducible assumption
    | with_reducible apply Within.ite
    | (with_reducible apply Within.step (Mod.ttReceive_within ..); (on_goal 1 => decide))
    | (intro _)
    | split

theorem canFrameReceived_within (p : Nat) (f : CanFrame) (bits : Nat) (m : Mod) : Within [.store, .can, .sent, .free] m (canFrameReceived p f bits m) := by
  unfold canFrameReceived
  repeat' first
    | with_reducible apply Within.refl
    | with_reducible assumption
    | with_reducible apply Within.ite
    | (extract_lets +onlyGivenNames x; first | (refine Within.cut (x := x) ?_ ?_; (on_goal 1 => (unfold x; clear x)); on_goal 2 => (intro hx; clear_value x; rename' x => y)) | (clear_value x; rename' x => y))
    | (with_reducible apply Within.step (Mod.canNext_within ..); (on_goal 1 => decide))
    | (with_reducible apply Within.step (Mod.detectFrame_within ..); (on_goal 1 => decide))
    | (with_reducible apply Within.step (Mod.recGood_within ..); (on_goal 1 => decide))
    | (with_reducible apply Within.step (Mod.ttReceive_within ..); (on_goal 1 => decide))
    | (with_reducible apply Within.step (Mod.onPort_within ..); (on_goal 1 => decide))
    | (with_reducible apply Within.step (Mod.onObj_within ..); (on_goal 1 => decide))
    | (intro _)
    | split

theorem Mod.canRelease_within (m : Mod) (p : Nat) (abort : Bool) : Within [.can] m (Mod.canRelease m p abort) := by
  unfold Mod.canRelease
  repeat' first
    | with_reducible apply Within.refl
    | with_reducible assumption
    | with_reducible apply Within.ite
    | (extract_lets +onlyGivenNames x; first | (refine Within.cut (x := x) ?_ ?_; (on_goal 1 => (unfold x; clear x)); on_goal 2 => (intro hx; clear_value x; rename' x => y)) | (clear_value x; rename' x => y))
    | (with_reducible apply Within.step (Mod.onObj_within ..); (on_goal 1 => decide))
    | (with_reducible apply Within.step (Mod.onPort_within ..); (on_goal 1 => decide))
    | (intro _)
    | split

theorem canLockTimeout_within (p : Nat) (m : Mod) : Within [.can] m (canLockTimeout p m) := by
  unfold canLockTimeout
  repeat' first
    | with_reducible apply Within.refl
    | with_reducible assumption
    | with_reducible apply Within.ite
    | (with_reducible apply Within.step (Mod.canRelease_within ..); (on_goal 1 => decide))

theorem canObjectFirstRead_within (p o : Nat) (m : Mod) : Within [.can] m (canObjectFirstRead p o m) := by
  unfold canObjectFirstRead
  repeat' first
    | with_reducible apply Within.refl
    | with_reducible assumption
    | with_reducible apply Within.ite
    | (with_reducible apply Within.step (Mod.canRelease_within ..); (on_goal 1 => decide))
    | (with_reducible apply Within.step (Mod.onObj_within ..); (on_goal 1 => decide))
    | (with_reducible apply Within.step (Mod.onPort_within ..); (on_goal 1 => decide))

theorem canObjectLastRead_within (p o : Nat) (m : Mod) : Within [.can] m (canObjectLastRead p o m) := by
  unfold canObjectLastRead
  repeat' first
    | with_reducible apply Within.refl
    | with_reducible assumption
    | with_reducible apply Within.ite
    | (with_reducible apply Within.step (Mod.canRelease_within ..); (on_goal 1 => decide))

theorem canRecoveryComplete_within (p : Nat) (m : Mod) : Within [.store, .can, .sent] m (canRecoveryComplete p m) := by
  unfold canRecoveryComplete
  repeat' first
    | with_reducible apply Within.refl
    | with_reducible assumption
    | with_reducible apply Within.ite
    | (extract_lets +onlyGivenNames x; refine Within.cut (x := x) ?_ ?_; (on_goal 1 => (unfold x; clear x)); on_goal 2 => (intro hx; clear_value x; rename' x => y))
    | (with_reducible apply Within.step (Mod.canNext_within ..); (on_goal 1 => decide))
    | (with_reducible apply Within.step (Mod.onObj_within ..); (on_goal 1 => decide))
    | (with_reducible apply Within.step (Mod.onPort_within ..); (on_goal 1 => decide))
    | (with_reducible apply Within.step (Mod.post_within ..); (on_goal 1 => decide))
    | with_reducible apply Within.each
    | (intro _)

theorem canRxError_within (p lec inc : Nat) (m : Mod) : Within [.can] m (canRxError p lec inc m) := by
  unfold canRxError
  repeat' first
    | with_reducible apply Within.refl
    | with_reducible assumption
    | with_reducible apply Within.ite
    | (with_reducible apply Within.step (Mod.onPort_within ..); (on_goal 1 => decide))

theorem Mod.canBusOff_within (m : Mod) (p : Nat) : Within [.store, .can] m (Mod.canBusOff m p) := by
  unfold Mod.canBusOff
  repeat' first
    | with_reducible apply Within.refl
    | with_reducible assumption
    | with_reducible apply Within.ite
    | (extract_lets +onlyGivenNames x; first | (refine Within.cut (x := x) ?_ ?_; (on_goal 1 => (unfold x; clear x)); on_goal 2 => (intro hx; clear_value x; rename' x => y)) | (clear_value x; rename' x => y))
    | (with_reducible apply Within.step (Mod.onObj_within ..); (on_goal 1 => decide))
    | (with_reducible apply Within.step (Mod.onPort_within ..); (on_goal 1 => decide))
    | (with_reducible apply Within.step (Mod.post_within ..); (on_goal 1 => decide))
    | with_reducible apply Within.each
    | (intro _)

theorem Mod.txFails_within (m : Mod) (p o : Nat) : Within [.can] m (Mod.txFails m p o) := by
  unfold Mod.txFails
  repeat' first
    | with_reducible apply Within.refl
    | with_reducible assumption
    | with_reducible apply Within.ite
    | (with_reducible apply Within.step (Mod.onPort_within ..); (on_goal 1 => decide))
    | (with_reducible apply Within.step (Mod.onObj_within ..); (on_goal 1 => decide))
    | (intro _)
    | split

theorem Mod.canNewData_within (m : Mod) (p o : Nat) (spent : Bool) (d : List Byte) : Within [.can] m (Mod.canNewData m p o spent d) := by
  unfold Mod.canNewData
  repeat' first
    | with_reducible apply Within.refl
    | with_reducible assumption
    | with_reducible apply Within.ite
    | (extract_lets +onlyGivenNames x; first | (refine Within.cut (x := x) ?_ ?_; (on_goal 1 => (unfold x; clear x)); on_goal 2 => (intro hx; clear_value x; rename' x => y)) | (clear_value x; rename' x => y))
    | (with_reducible apply Within.step (Mod.txFails_within ..); (on_goal 1 => decide))
    | (with_reducible apply Within.step (Mod.onPort_within ..); (on_goal 1 => decide))
    | (with_reducible apply Within.step (Mod.onObj_within ..); (on_goal 1 => decide))
    | (intro _)
    | split

theorem Mod.canFailed_within (m : Mod) (p : Nat) (b : CanOnBus) : Within [.can] m (Mod.canFailed m p b) := by
  unfold Mod.canFailed
  repeat' first
    | with_reducible apply Within.refl
    | with_reducible assumption
    | with_reducible apply Within.ite
    | (extract_lets +onlyGivenNames x; first | (refine Within.cut (x := x) ?_ ?_; (on_goal 1 => (unfold x; clear x)); on_goal 2 => (intro hx; clear_value x; rename' x => y)) | (clear_value x; rename' x => y))
    | (with_reducible apply Within.step (Mod.txFails_within ..); (on_goal 1 => decide))
    | (with_reducible apply Within.step (Mod.canNewData_within ..); (on_goal 1 => decide))
    | (with_reducible apply Within.step (Mod.onPort_within ..); (on_goal 1 => decide))
    | (with_reducible apply Within.step (Mod.onObj_within ..); (on_goal 1 => decide))
    | (intro _)
    | split

theorem canTxError_within (p : Nat) (e : CanTxErr) (m : Mod) : Within [.store, .can, .sent] m (canTxError p e m) := by
  unfold canTxError
  repeat' first
    | with_reducible apply Within.refl
    | with_reducible assumption
    | with_reducible apply Within.ite
    | (extract_lets +onlyGivenNames x; first | (refine Within.cut (x := x) ?_ ?_; (on_goal 1 => (unfold x; clear x)); on_goal 2 => (intro hx; clear_value x; rename' x => y)) | (clear_value x; rename' x => y))
    | (with_reducible apply Within.step (Mod.canNext_within ..); (on_goal 1 => decide))
    | (with_reducible apply Within.step (Mod.canBusOff_within ..); (on_goal 1 => decide))
    | (with_reducible apply Within.step (Mod.canFailed_within ..); (on_goal 1 => decide))
    | (with_reducible apply Within.step (Mod.canNewData_within ..); (on_goal 1 => decide))
    | (with_reducible apply Within.step (Mod.onPort_within ..); (on_goal 1 => decide))
    | (intro _)
    | split

theorem canTxSuccess_within (p bits : Nat) (m : Mod) : Within [.can, .sent] m (canTxSuccess p bits m) := by
  unfold canTxSuccess
  repeat' first
    | with_reducible apply Within.refl
    | with_reducible assumption
    | with_reducible apply Within.ite
    | (extract_lets +onlyGivenNames x; first | (refine Within.cut (x := x) ?_ ?_; (on_goal 1 => (unfold x; clear x)); on_goal 2 => (intro hx; clear_value x; rename' x => y)) | (clear_value x; rename' x => y))
    | (with_reducible apply Within.step (Mod.canNext_within ..); (on_goal 1 => decide))
    | (with_reducible apply Within.step (Mod.onObj_within ..); (on_goal 1 => decide))
    | (with_reducible apply Within.step (Mod.onPort_within ..); (on_goal 1 => decide))
    | (intro _)
    | split

theorem canTxwGo_within (p : Nat) (m : Mod) : Within [.pair, .can, .sent] m (canTxwGo p m) := by
  unfold canTxwGo
  repeat' first
    | with_reducible apply Within.refl
    | with_reducible assumption
    | with_reducible apply Within.ite
    | (with_reducible apply Within.step (Mod.canGo_within ..); (on_goal 1 => decide))
    | (intro _)
    | split

theorem detectDwellExpiry_within (p : Nat) (m : Mod) : Within [.store, .can] m (detectDwellExpiry p m) := by
  unfold detectDwellExpiry
  repeat' first
    | with_reducible apply Within.refl
    | with_reducible assumption
    | with_reducible apply Within.ite
    | (with_reducible apply Within.step (Mod.onPort_within ..); (on_goal 1 => decide))
    | (with_reducible apply Within.step (Mod.post_within ..); (on_goal 1 => decide))
    | (intro _)
    | split

theorem hvacRequest_within (z : Nat) (m : Mod) : Within [.prot, .pair, .can, .sent] m (hvacRequest z m) := by
  unfold hvacRequest
  dsimp only
  repeat' first
    | with_reducible apply Within.refl
    | with_reducible assumption
    | with_reducible apply Within.ite
    | (with_reducible apply Within.step (Mod.canData_within ..); (on_goal 1 => decide))
    | (with_reducible apply Within.step (Mod.onZone_within ..); (on_goal 1 => decide))
    | (intro _)
    | split

theorem ttLossTimeout_within (p : Nat) (m : Mod) : Within [.store, .can] m (ttLossTimeout p m) := by
  unfold ttLossTimeout
  repeat' first
    | with_reducible apply Within.refl
    | with_reducible assumption
    | with_reducible apply Within.ite
    | (extract_lets +onlyGivenNames x; clear_value x; rename' x => y)
    | (with_reducible apply Within.step (Mod.onPort_within ..); (on_goal 1 => decide))
    | (with_reducible apply Within.step (Mod.post_within ..); (on_goal 1 => decide))
    | (intro _)
    | split

theorem ttWindowStart_within (p o : Nat) (busIdle : Bool) (m : Mod) : Within [.can, .sent] m (ttWindowStart p o busIdle m) := by
  unfold ttWindowStart
  repeat' first
    | with_reducible apply Within.refl
    | with_reducible assumption
    | with_reducible apply Within.ite
    | (extract_lets +onlyGivenNames x; first | (refine Within.cut (x := x) ?_ ?_; (on_goal 1 => (unfold x; clear x)); on_goal 2 => (intro hx; clear_value x; rename' x => y)) | (clear_value x; rename' x => y))
    | (with_reducible apply Within.step (Mod.canStart_within ..); (on_goal 1 => decide))
    | (with_reducible apply Within.step (Mod.ttMiss_within ..); (on_goal 1 => decide))
    | (with_reducible apply Within.step (Mod.onPort_within ..); (on_goal 1 => decide))
    | (with_reducible apply Within.step (Mod.onObj_within ..); (on_goal 1 => decide))
    | (intro _)
    | split

theorem Mod.canFreed_within (m : Mod) (old : Mod) : Within [.can] m (Mod.canFreed m old) := by
  unfold Mod.canFreed
  repeat' first
    | with_reducible apply Within.refl
    | with_reducible assumption
    | with_reducible apply Within.ite
    | (extract_lets +onlyGivenNames x; first | (refine Within.cut (x := x) ?_ ?_; (on_goal 1 => (unfold x; clear x)); on_goal 2 => (intro hx; clear_value x; rename' x => y)) | (clear_value x; rename' x => y))
    | (with_reducible apply Within.step (Mod.onObj_within ..); (on_goal 1 => decide))
    | with_reducible apply Within.each
    | (intro _)
    | split

end Sys2Proof.Machine
end

