-- ==== Sys2Proof/Laws/StoreFrame.lean ====
section
/-! SUPPORT. Which parts of the module each operation of Machine/Store.lean can change. -/

namespace Sys2Proof.Machine

theorem Mod.curFill_within (m : Mod) : Within [.store] m (Mod.curFill m) := by
  unfold Mod.curFill
  repeat' first
    | with_reducible apply Within.refl
    | with_reducible assumption
    | with_reducible apply Within.ite
    | (extract_lets +onlyGivenNames x; clear_value x; rename' x => y)
    | (with_reducible apply Within.step (Mod.onStore_within ..); (on_goal 1 => decide))

theorem recCurPosWrite_within (pos : Option W32) (ctrl : Option (BitVec 3)) (m : Mod) : Within [.store] m (recCurPosWrite pos ctrl m) := by
  unfold recCurPosWrite
  repeat' first
    | with_reducible apply Within.refl
    | with_reducible assumption
    | with_reducible apply Within.ite
    | (with_reducible apply Within.step (Mod.curFill_within ..); (on_goal 1 => decide))
    | (with_reducible apply Within.step (Mod.onStore_within ..); (on_goal 1 => decide))

theorem dramUeLoRead_within (m : Mod) : Within [.store] m (dramUeLoRead m) := by
  unfold dramUeLoRead
  repeat' first
    | with_reducible apply Within.refl
    | with_reducible assumption
    | with_reducible apply Within.ite
    | (with_reducible apply Within.step (Mod.onStore_within ..); (on_goal 1 => decide))

theorem recCurDataLastRead_within (m : Mod) : Within [.store] m (recCurDataLastRead m) := by
  unfold recCurDataLastRead
  repeat' first
    | with_reducible apply Within.refl
    | with_reducible assumption
    | with_reducible apply Within.ite
    | (extract_lets +onlyGivenNames x; clear_value x; rename' x => y)
    | (with_reducible apply Within.step (Mod.curFill_within ..); (on_goal 1 => decide))
    | (with_reducible apply Within.step (Mod.onStore_within ..); (on_goal 1 => decide))
    | (intro _)
    | split

theorem Mod.poison_within (m : Mod) (addr reader : Nat) : Within [.store] m (Mod.poison m addr reader) := by
  unfold Mod.poison
  repeat' first
    | with_reducible apply Within.refl
    | with_reducible assumption
    | with_reducible apply Within.ite
    | (with_reducible apply Within.step (Mod.onStore_within ..); (on_goal 1 => decide))
    | (with_reducible apply Within.step (Mod.post_within ..); (on_goal 1 => decide))

theorem Mod.cfgWrite_within (m : Mod) : Within [.host, .store] m (Mod.cfgWrite m) := by
  unfold Mod.cfgWrite
  repeat' first
    | with_reducible apply Within.refl
    | with_reducible assumption
    | with_reducible apply Within.ite
    | (with_reducible apply Within.step (Mod.dmaStart_within ..); (on_goal 1 => decide))
    | (with_reducible apply Within.stepHost; (on_goal 1 => decide); (on_goal 1 => (intro _ h; exact h)))
    | (with_reducible apply Within.step (Mod.onStore_within ..); (on_goal 1 => decide))

theorem Mod.runQuery_within (m : Mod) (q : QuerySt) : Within [.host] m (Mod.runQuery m q).1 := by
  unfold Mod.runQuery
  repeat' first
    | with_reducible apply Within.refl
    | with_reducible assumption
    | with_reducible apply Within.ite
    | with_reducible apply Within.iteFst
    | (extract_lets +onlyGivenNames x; clear_value x; rename' x => y)
    | (with_reducible apply Within.step (Mod.xaPut_within ..); (on_goal 1 => decide))
    | (intro _)
    | split

theorem Mod.endQuery_within (m : Mod) (sid : Nat) (status written : Nat) : Within [.host, .store, .sent] m (Mod.endQuery m sid status written) := by
  unfold Mod.endQuery
  repeat' first
    | with_reducible apply Within.refl
    | with_reducible assumption
    | with_reducible apply Within.ite
    | (extract_lets +onlyGivenNames x; first | (refine Within.cut (x := x) ?_ ?_; (on_goal 1 => (unfold x; clear x)); on_goal 2 => (intro hx; clear_value x; rename' x => y)) | (clear_value x; rename' x => y))
    | (with_reducible apply Within.step (Mod.runQuery_within ..); (on_goal 1 => decide))
    | (with_reducible apply Within.step (Mod.xaPut_within ..); (on_goal 1 => decide))
    | (with_reducible apply Within.step (Mod.onSession_within ..); (on_goal 1 => decide))
    | (with_reducible apply Within.step (Mod.complete_within ..); (on_goal 1 => decide))
    | (with_reducible apply Within.step (Mod.dmaEnd_within ..); (on_goal 1 => decide))
    | (with_reducible apply Within.step (Mod.onStore_within ..); (on_goal 1 => decide))
    | (intro _)
    | split

theorem Mod.recorderClear_within (m : Mod) (cred sid : Nat) : Within [.host, .store, .power, .sent, .free] m (m.recorderClear cred sid).1 := by
  unfold Mod.recorderClear
  split
  · exact .refl ..
  · extract_lets last r m1 nxt
    have h1 : Within [.host, .store, .power, .sent, .free] m m1 :=
      Within.each (fun m _ => Within.step (Mod.endQuery_within ..) (by decide) ((Mod.free_within m).mono (by decide))) (.refl ..)
    clear_value m1 r nxt last
    refine Within.step (Mod.dmaEnd_within ..) (by decide) (h1.trans ?_)
    refine .ofSame ?_ rfl rfl; intro p hp; cases p <;> first | exact absurd (by decide) hp | exact rfl | exact ⟨rfl, rfl, rfl⟩

theorem Mod.archGrain_within (m : Mod) (n : Nat) : Within [.store] m (Mod.archGrain m n) := by
  unfold Mod.archGrain
  repeat' first
    | with_reducible apply Within.refl
    | with_reducible assumption
    | with_reducible apply Within.ite
    | (extract_lets +onlyGivenNames x; first | (refine Within.cut (x := x) ?_ ?_; (on_goal 1 => (unfold x; clear x)); on_goal 2 => (intro hx; clear_value x; rename' x => y)) | (clear_value x; rename' x => y))
    | (with_reducible apply Within.step (Mod.onStore_within ..); (on_goal 1 => decide))
    | with_reducible apply Within.each
    | (intro _)

theorem Mod.archAdd_within (m : Mod) (r : ArchRec) : Within [.store] m (Mod.archAdd m r) := by
  unfold Mod.archAdd
  repeat' first
    | with_reducible apply Within.refl
    | with_reducible assumption
    | with_reducible apply Within.ite
    | (with_reducible apply Within.step (Mod.onStore_within ..); (on_goal 1 => decide))

theorem Mod.archFine_within (m : Mod) (n : Nat) : Within [.store] m (Mod.archFine m n) := by
  unfold Mod.archFine
  repeat' first
    | with_reducible apply Within.refl
    | with_reducible assumption
    | with_reducible apply Within.ite
    | (extract_lets +onlyGivenNames x; clear_value x; rename' x => y)
    | (with_reducible apply Within.step (Mod.archAdd_within ..); (on_goal 1 => decide))
    | (with_reducible apply Within.step (Mod.onStore_within ..); (on_goal 1 => decide))

theorem Mod.archPeriodChange_within (m : Mod) (old : Mod) : Within [.store] m (Mod.archPeriodChange m old) := by
  unfold Mod.archPeriodChange
  repeat' first
    | with_reducible apply Within.refl
    | with_reducible assumption
    | with_reducible apply Within.ite
    | (with_reducible apply Within.step (Mod.archFine_within ..); (on_goal 1 => decide))
    | with_reducible apply Within.each
    | (intro _)

theorem archiveCoarseDay_within (n : Nat) (m : Mod) : Within [.store] m (archiveCoarseDay n m) := by
  unfold archiveCoarseDay
  repeat' first
    | with_reducible apply Within.refl
    | with_reducible assumption
    | with_reducible apply Within.ite
    | (extract_lets +onlyGivenNames x; first | (refine Within.cut (x := x) ?_ ?_; (on_goal 1 => (unfold x; clear x)); on_goal 2 => (intro hx; clear_value x; rename' x => y)) | (clear_value x; rename' x => y))
    | (with_reducible apply Within.step (Mod.archAdd_within ..); (on_goal 1 => decide))
    | (with_reducible apply Within.step (Mod.onStore_within ..); (on_goal 1 => decide))
    | (intro _)
    | split

theorem archiveFinePeriod_within (n : Nat) (m : Mod) : Within [.store] m (archiveFinePeriod n m) := by
  unfold archiveFinePeriod
  repeat' first
    | with_reducible apply Within.refl
    | with_reducible assumption
    | with_reducible apply Within.ite
    | (with_reducible apply Within.step (Mod.archFine_within ..); (on_goal 1 => decide))

theorem Mod.archGap_within (m : Mod) : Within [.store] m (Mod.archGap m) := by
  unfold Mod.archGap
  repeat' first
    | with_reducible apply Within.refl
    | with_reducible assumption
    | with_reducible apply Within.ite
    | (with_reducible apply Within.step (Mod.post_within ..); (on_goal 1 => decide))
    | with_reducible apply Within.each
    | (intro _)
    | split

theorem Mod.cfgStart_within (m : Mod) : Within [.store] m (Mod.cfgStart m) := by
  unfold Mod.cfgStart
  dsimp only
  repeat' first
    | with_reducible apply Within.refl
    | with_reducible assumption
    | with_reducible apply Within.ite
    | (with_reducible apply Within.step (Mod.onStore_within ..); (on_goal 1 => decide))
    | (with_reducible apply Within.step (Mod.post_within ..); (on_goal 1 => decide))

theorem Mod.recStart_within (m : Mod) (blank : Bool) : Within [.store, .power] m (m.recStart blank) := by
  unfold Mod.recStart
  dsimp only
  have h : ∀ (m : Mod) s (c : Prop) [Decidable c] n, Within [.store] m ({ m with store := s
                                                                                 power := if c then { m.power with rseqHwm := n } else m.power }) := by
    intro m s c _ n; refine .ofSame ?_ rfl rfl; intro p hp
    cases p <;> first | exact absurd (by decide) hp | exact rfl | exact ⟨rfl, rfl, rfl⟩ | (show PowerSt.mk .. = _; by_cases c <;> simp [Mod.pw, *])
  split
  · exact Within.step (Mod.post_within ..) (by decide) ((h ..).mono (by decide))
  · exact (h ..).mono (by decide)

theorem configWriteComplete_within (m : Mod) : Within [.host, .store] m (configWriteComplete m) := by
  unfold configWriteComplete
  repeat' first
    | with_reducible apply Within.refl
    | with_reducible assumption
    | with_reducible apply Within.ite
    | (extract_lets +onlyGivenNames x; first | (refine Within.cut (x := x) ?_ ?_; (on_goal 1 => (unfold x; clear x)); on_goal 2 => (intro hx; clear_value x; rename' x => y)) | (clear_value x; rename' x => y))
    | (with_reducible apply Within.step (Mod.dmaEnd_within ..); (on_goal 1 => decide))
    | (with_reducible apply Within.stepHost; (on_goal 1 => decide); (on_goal 1 => (intro _ h; exact h)))
    | (with_reducible apply Within.step (Mod.onStore_within ..); (on_goal 1 => decide))

theorem Mod.failUse_within (m : Mod) (u : DmaUse) (bytes : Nat) : Within [.host, .store, .est, .sent] m (Mod.failUse m u bytes) := by
  unfold Mod.failUse
  dsimp only
  repeat' first
    | with_reducible apply Within.refl
    | with_reducible assumption
    | with_reducible apply Within.ite
    | (with_reducible apply Within.step (checkpointWriteComplete_within ..); (on_goal 1 => decide))
    | (with_reducible apply Within.step (Mod.endQuery_within ..); (on_goal 1 => decide))
    | (with_reducible apply Within.step (Mod.onStore_within ..); (on_goal 1 => decide))
    | (intro _)
    | split

theorem Mod.dmaFault_within (m : Mod) (ch cause bytes : Nat) : Within [.host, .store, .est, .sent] m (Mod.dmaFault m ch cause bytes) := by
  unfold Mod.dmaFault
  repeat' first
    | with_reducible apply Within.refl
    | with_reducible assumption
    | with_reducible apply Within.ite
    | (extract_lets +onlyGivenNames x; first | (refine Within.cut (x := x) ?_ ?_; (on_goal 1 => (unfold x; clear x)); on_goal 2 => (intro hx; clear_value x; rename' x => y)) | (clear_value x; rename' x => y))
    | (with_reducible apply Within.step (Mod.failUse_within ..); (on_goal 1 => decide))
    | (with_reducible apply Within.step (Mod.onDma_within ..); (on_goal 1 => decide))
    | (with_reducible apply Within.step (Mod.post_within ..); (on_goal 1 => decide))
    | (intro _)
    | split

theorem dmaDescriptorDone_within (ch : Nat) (next : DmaDesc) (m : Mod) : Within [.host, .store, .est, .sent] m (dmaDescriptorDone ch next m) := by
  unfold dmaDescriptorDone
  repeat' first
    | with_reducible apply Within.refl
    | with_reducible assumption
    | with_reducible apply Within.ite
    | (extract_lets +onlyGivenNames x; clear_value x; rename' x => y)
    | (with_reducible apply Within.step (Mod.dmaFault_within ..); (on_goal 1 => decide))
    | (with_reducible apply Within.step (Mod.onDma_within ..); (on_goal 1 => decide))
    | (intro _)
    | split

theorem dmaFaultRow_within (ch cause bytes : Nat) (m : Mod) : Within [.host, .store, .est, .sent] m (dmaFaultRow ch cause bytes m) := by
  unfold dmaFaultRow
  repeat' first
    | with_reducible apply Within.refl
    | with_reducible assumption
    | with_reducible apply Within.ite
    | (with_reducible apply Within.step (Mod.dmaFault_within ..); (on_goal 1 => decide))

theorem Mod.ueRing_within (m : Mod) (addr : Nat) : Within [.store] m (Mod.ueRing m addr) := by
  unfold Mod.ueRing
  repeat' first
    | with_reducible apply Within.refl
    | with_reducible assumption
    | with_reducible apply Within.ite
    | (extract_lets +onlyGivenNames x; clear_value x; rename' x => y)
    | (with_reducible apply Within.step (Mod.onStore_within ..); (on_goal 1 => decide))
    | (with_reducible apply Within.step (Mod.post_within ..); (on_goal 1 => decide))
    | (intro _)
    | split

theorem Mod.wearStep_within (m : Mod) : Within [.store] m (Mod.wearStep m) := by
  unfold Mod.wearStep
  repeat' first
    | with_reducible apply Within.refl
    | with_reducible assumption
    | with_reducible apply Within.ite
    | (with_reducible apply Within.step (Mod.onStore_within ..); (on_goal 1 => decide))
    | (with_reducible apply Within.step (Mod.post_within ..); (on_goal 1 => decide))
    | (intro _)
    | split

theorem flashLifeChange_within (life : Nat) (reserveOut : Bool) (m : Mod) : Within [.store] m (flashLifeChange life reserveOut m) := by
  unfold flashLifeChange
  repeat' first
    | with_reducible apply Within.refl
    | with_reducible assumption
    | with_reducible apply Within.ite
    | (extract_lets +onlyGivenNames x; first | (refine Within.cut (x := x) ?_ ?_; (on_goal 1 => (unfold x; clear x)); on_goal 2 => (intro hx; clear_value x; rename' x => y)) | (clear_value x; rename' x => y))
    | (with_reducible apply Within.step (Mod.wearStep_within ..); (on_goal 1 => decide))
    | (with_reducible apply Within.step (Mod.onStore_within ..); (on_goal 1 => decide))
    | (with_reducible apply Within.step (Mod.post_within ..); (on_goal 1 => decide))
    | (intro _)
    | split

theorem flashPageWriteFail_within (partition addr : Nat) (m : Mod) : Within [.store] m (flashPageWriteFail partition addr m) := by
  unfold flashPageWriteFail
  repeat' first
    | with_reducible apply Within.refl
    | with_reducible assumption
    | with_reducible apply Within.ite
    | (with_reducible apply Within.step (Mod.wearStep_within ..); (on_goal 1 => decide))
    | (with_reducible apply Within.step (Mod.onStore_within ..); (on_goal 1 => decide))
    | (with_reducible apply Within.step (Mod.post_within ..); (on_goal 1 => decide))
    | (intro _)
    | split

theorem flashResponseChange_within (responding : Bool) (m : Mod) : Within [.store] m (flashResponseChange responding m) := by
  unfold flashResponseChange
  repeat' first
    | with_reducible apply Within.refl
    | with_reducible assumption
    | with_reducible apply Within.ite
    | (with_reducible apply Within.step (Mod.onStore_within ..); (on_goal 1 => decide))
    | (with_reducible apply Within.step (Mod.startFlush_within ..); (on_goal 1 => decide))

theorem flushComplete_within (m : Mod) : Within [.store] m (flushComplete m) := by
  unfold flushComplete
  repeat' first
    | with_reducible apply Within.refl
    | with_reducible assumption
    | with_reducible apply Within.ite
    | (extract_lets +onlyGivenNames x; clear_value x; rename' x => y)
    | (with_reducible apply Within.step (Mod.dmaEnd_within ..); (on_goal 1 => decide))
    | (with_reducible apply Within.step (Mod.onStore_within ..); (on_goal 1 => decide))
    | (with_reducible apply Within.step (Mod.post_within ..); (on_goal 1 => decide))
    | (with_reducible apply Within.step (Mod.startFlush_within ..); (on_goal 1 => decide))
    | (intro _)
    | split

theorem flushStart_within (m : Mod) : Within [.store] m (flushStart m) := by
  unfold flushStart
  repeat' first
    | with_reducible apply Within.refl
    | with_reducible assumption
    | with_reducible apply Within.ite
    | (with_reducible apply Within.step (Mod.startFlush_within ..); (on_goal 1 => decide))

theorem rateSecondEnd_within (m : Mod) : Within [.store] m (rateSecondEnd m) := by
  unfold rateSecondEnd
  repeat' first
    | with_reducible apply Within.refl
    | with_reducible assumption
    | with_reducible apply Within.ite
    | (extract_lets +onlyGivenNames x; first | (refine Within.cut (x := x) ?_ ?_; (on_goal 1 => (unfold x; clear x)); on_goal 2 => (intro hx; clear_value x; rename' x => y)) | (clear_value x; rename' x => y))
    | (with_reducible apply Within.step (Mod.onStore_within ..); (on_goal 1 => decide))
    | (with_reducible apply Within.step (Mod.post_within ..); (on_goal 1 => decide))
    | with_reducible apply Within.each
    | (intro _)

theorem recordPost_within (code item block : Nat) (data : List Byte) (m : Mod) : Within [.store] m (recordPost code item block data m) := by
  unfold recordPost
  repeat' first
    | with_reducible apply Within.refl
    | with_reducible assumption
    | with_reducible apply Within.ite
    | (with_reducible apply Within.step (Mod.post_within ..); (on_goal 1 => decide))

theorem recordQueryComplete_within (sid : Nat) (m : Mod) : Within [.host, .store, .sent] m (recordQueryComplete sid m) := by
  unfold recordQueryComplete
  repeat' first
    | with_reducible apply Within.refl
    | with_reducible assumption
    | with_reducible apply Within.ite
    | (with_reducible apply Within.step (Mod.endQuery_within ..); (on_goal 1 => decide))
    | (intro _)
    | split

theorem scrubPass_within (corrected : Nat) (bad : List Nat) (m : Mod) : Within [.store] m (scrubPass corrected bad m) := by
  unfold scrubPass
  repeat' first
    | with_reducible apply Within.refl
    | with_reducible assumption
    | with_reducible apply Within.ite
    | (extract_lets +onlyGivenNames x; first | (refine Within.cut (x := x) ?_ ?_; (on_goal 1 => (unfold x; clear x)); on_goal 2 => (intro hx; clear_value x; rename' x => y)) | (clear_value x; rename' x => y))
    | (with_reducible apply Within.step (Mod.onStore_within ..); (on_goal 1 => decide))
    | (with_reducible apply Within.step (Mod.poison_within ..); (on_goal 1 => decide))
    | (with_reducible apply Within.step (Mod.post_within ..); (on_goal 1 => decide))
    | with_reducible apply Within.each
    | (intro _)

theorem Mod.flushCut_within (m : Mod) : Within [.store, .free] m (Mod.flushCut m) := by
  unfold Mod.flushCut
  repeat' first
    | with_reducible apply Within.refl
    | with_reducible assumption
    | with_reducible apply Within.ite
    | (extract_lets +onlyGivenNames x; first | (refine Within.cut (x := x) ?_ ?_; (on_goal 1 => (unfold x; clear x)); on_goal 2 => (intro hx; clear_value x; rename' x => y)) | (clear_value x; rename' x => y))
    | (with_reducible apply Within.step (Mod.onStore_within ..); (on_goal 1 => decide))
    | (with_reducible apply Within.step (Mod.free_within ..); (on_goal 1 => decide))
    | (intro _)
    | split

end Sys2Proof.Machine
end

