-- ==== Sys2Proof/Laws/PlanFrame.lean ====
section
/-! SUPPORT. Which parts of the module each operation of Machine/Plan.lean can change. -/

namespace Sys2Proof.Machine

/-- The loader's preparation of a bank leaves the clock as it is. -/
theorem PlanSt.prepare_clock (p : PlanSt) (c : Candidate) :
    (p.prepare c).grainCnt = p.grainCnt ∧ (p.prepare c).tick = p.tick ∧ (p.prepare c).firstGrain = p.firstGrain := by
  unfold PlanSt.prepare
  dsimp only
  split <;> exact ⟨rfl, rfl, rfl⟩

theorem PlanSt.reprepare_clock (p : PlanSt) :
    (p.reprepare).grainCnt = p.grainCnt ∧ (p.reprepare).tick = p.tick ∧ (p.reprepare).firstGrain = p.firstGrain := by
  unfold PlanSt.reprepare
  split
  · exact PlanSt.prepare_clock ..
  · exact ⟨rfl, rfl, rfl⟩

theorem clrOverrun_within (m : Mod) : Within [.plan] m (clrOverrun m) := by
  unfold clrOverrun
  repeat' first
    | with_reducible apply Within.refl
    | with_reducible assumption
    | with_reducible apply Within.ite
    | (with_reducible apply Within.stepPlan; (on_goal 1 => decide); (on_goal 1 => (intro _; exact ⟨rfl, rfl, rfl⟩)))
    | (intro _)
    | split

theorem Mod.activationRefused_within (m : Mod) (c : Candidate) (when_ : Nat) (g : W32) : Within [.store] m (Mod.activationRefused m c when_ g) := by
  unfold Mod.activationRefused
  repeat' first
    | with_reducible apply Within.refl
    | with_reducible assumption
    | with_reducible apply Within.ite
    | (with_reducible apply Within.step (Mod.post_within ..); (on_goal 1 => decide))
    | (intro _)
    | split

theorem Mod.schedule_within (m : Mod) (g : W32) : Within [.plan] m (Mod.schedule m g) := by
  unfold Mod.schedule
  repeat' first
    | with_reducible apply Within.refl
    | with_reducible assumption
    | with_reducible apply Within.ite
    | (with_reducible apply Within.stepPlan; (on_goal 1 => decide); (on_goal 1 => (intro _; exact PlanSt.prepare_clock ..)))
    | (intro _)
    | split

theorem planActivate_within (o : Origin) (grain : W32) (m : Mod) : Within [.plan, .store, .pair, .sent] m (planActivate o grain m).1 := by
  unfold planActivate
  repeat' first
    | with_reducible apply Within.refl
    | with_reducible assumption
    | with_reducible apply Within.ite
    | with_reducible apply Within.iteFst
    | (extract_lets +onlyGivenNames x; first | (refine Within.cut (x := x) ?_ ?_; (on_goal 1 => (unfold x; clear x)); on_goal 2 => (intro hx; clear_value x; rename' x => y)) | (clear_value x; rename' x => y))
    | (with_reducible apply Within.stepPlan; (on_goal 1 => decide); (on_goal 1 => (intro _; exact ⟨rfl, rfl, rfl⟩)))
    | (with_reducible apply Within.step (Mod.activationRefused_within ..); (on_goal 1 => decide))
    | (with_reducible apply Within.step (Mod.schedule_within ..); (on_goal 1 => decide))
    | (with_reducible apply Within.step (Mod.capture_within ..); (on_goal 1 => decide))
    | (with_reducible apply Within.step (Mod.out_within ..); (on_goal 1 => decide))
    | (intro _)
    | split

theorem planDiscard_within (m : Mod) : Within [.plan, .store, .sent] m (planDiscard m).1 := by
  unfold planDiscard
  repeat' first
    | with_reducible apply Within.refl
    | with_reducible assumption
    | with_reducible apply Within.ite
    | with_reducible apply Within.iteFst
    | (extract_lets +onlyGivenNames x; first | (refine Within.cut (x := x) ?_ ?_; (on_goal 1 => (unfold x; clear x)); on_goal 2 => (intro hx; clear_value x; rename' x => y)) | (clear_value x; rename' x => y))
    | (with_reducible apply Within.stepPlan; (on_goal 1 => decide); (on_goal 1 => (intro _; exact ⟨rfl, rfl, rfl⟩)))
    | (with_reducible apply Within.step (Mod.tellCancel_within ..); (on_goal 1 => decide))
    | (with_reducible apply Within.step (Mod.cancelActivation_within ..); (on_goal 1 => decide))
    | (intro _)
    | split

theorem planLoad_within (o : Origin) (img : List Byte) (m : Mod) : Within [.plan] m (planLoad o img m).1 := by
  unfold planLoad
  repeat' first
    | with_reducible apply Within.refl
    | with_reducible assumption
    | with_reducible apply Within.ite
    | with_reducible apply Within.iteFst
    | (with_reducible apply Within.stepPlan; (on_goal 1 => decide); (on_goal 1 => (intro _; exact ⟨rfl, rfl, rfl⟩)))
    | (intro _)
    | split

theorem Mod.warmRestart_within (m : Mod) (cause : Nat) : Within [.plan, .store, .power, .time, .upd, .sent] m (Mod.warmRestart m cause) := by
  unfold Mod.warmRestart
  repeat' first
    | with_reducible apply Within.refl
    | with_reducible assumption
    | with_reducible apply Within.ite
    | (extract_lets +onlyGivenNames x; first | (refine Within.cut (x := x) ?_ ?_; (on_goal 1 => (unfold x; clear x)); on_goal 2 => (intro hx; clear_value x; rename' x => y)) | (clear_value x; rename' x => y))
    | (with_reducible apply Within.stepPlan; (on_goal 1 => decide); (on_goal 1 => (intro _; exact ⟨rfl, rfl, rfl⟩)))
    | (with_reducible apply Within.stepPower; (on_goal 1 => decide); (on_goal 1 => (intro _; rfl)))
    | (with_reducible apply Within.step (Mod.servoHold_within ..); (on_goal 1 => decide))
    | (with_reducible apply Within.step (Mod.trialAgain_within ..); (on_goal 1 => decide))
    | (with_reducible apply Within.step (Mod.tellPartner_within ..); (on_goal 1 => decide))
    | (with_reducible apply Within.step (Mod.post_within ..); (on_goal 1 => decide))
    | (intro _)
    | split

theorem Mod.dispReplies_within (m : Mod) (l : List (DispCmd × Nat)) : Within [.host, .store, .sent] m (Mod.dispReplies m l) := by
  unfold Mod.dispReplies
  repeat' first
    | with_reducible apply Within.refl
    | with_reducible assumption
    | with_reducible apply Within.ite
    | (extract_lets +onlyGivenNames x; first | (refine Within.cut (x := x) ?_ ?_; (on_goal 1 => (unfold x; clear x)); on_goal 2 => (intro hx; clear_value x; rename' x => y)) | (clear_value x; rename' x => y))
    | (with_reducible apply Within.step (Mod.reply_within ..); (on_goal 1 => decide))
    | with_reducible apply Within.each
    | (intro _)
    | split

theorem Mod.planBoundary_within (m : Mod) : Within [.host, .store, .chain, .est, .conv, .disp, .prot, .safety, .sent] m (Mod.planBoundary m) := by
  unfold Mod.planBoundary
  repeat' first
    | with_reducible apply Within.refl
    | with_reducible assumption
    | with_reducible apply Within.ite
    | (extract_lets +onlyGivenNames x; first | (refine Within.cut (x := x) ?_ ?_; (on_goal 1 => (unfold x; clear x)); on_goal 2 => (intro hx; clear_value x; rename' x => y)) | (clear_value x; rename' x => y))
    | (with_reducible apply Within.step (Mod.chainGrain_within ..); (on_goal 1 => decide))
    | (with_reducible apply Within.step (Mod.archGrain_within ..); (on_goal 1 => decide))
    | (with_reducible apply Within.step (Mod.dispReplies_within ..); (on_goal 1 => decide))
    | (with_reducible apply Within.step (Mod.dispBoundary_within ..); (on_goal 1 => decide))
    | (with_reducible apply Within.step (Mod.svcGrain_within ..); (on_goal 1 => decide))
    | (with_reducible apply Within.step (Mod.linkGrain_within ..); (on_goal 1 => decide))
    | with_reducible apply Within.each
    | (intro _)
    | split

theorem Mod.endOverrunStops_within (m : Mod) : Within [.safety, .pair] m (Mod.endOverrunStops m) := by
  unfold Mod.endOverrunStops
  repeat' first
    | with_reducible apply Within.refl
    | with_reducible assumption
    | with_reducible apply Within.ite
    | (with_reducible apply Within.step (Mod.driverBack_within ..); (on_goal 1 => decide))
    | (with_reducible apply Within.step (Mod.onSafety_within ..); (on_goal 1 => decide))
    | (intro _)
    | split

theorem Mod.onAcct_within (m : Mod) (b : Nat) (f : BedAcct → BedAcct) : Within [.plan] m (Mod.onAcct m b f) := by
  unfold Mod.onAcct
  repeat' first
    | with_reducible apply Within.refl
    | with_reducible assumption
    | with_reducible apply Within.ite
    | (with_reducible apply Within.stepPlan; (on_goal 1 => decide); (on_goal 1 => (intro _; exact ⟨rfl, rfl, rfl⟩)))
    | (intro _)
    | split

theorem Mod.acctGrain_within (m : Mod) : Within [.plan, .store, .safety, .pair, .sent] m (Mod.acctGrain m) := by
  unfold Mod.acctGrain
  repeat' first
    | with_reducible apply Within.refl
    | with_reducible assumption
    | with_reducible apply Within.ite
    | (extract_lets +onlyGivenNames x; first | (refine Within.cut (x := x) ?_ ?_; (on_goal 1 => (unfold x; clear x)); on_goal 2 => (intro hx; clear_value x; rename' x => y)) | (clear_value x; rename' x => y))
    | (with_reducible apply Within.stepPlan; (on_goal 1 => decide); (on_goal 1 => (intro _; exact ⟨rfl, rfl, rfl⟩)))
    | (with_reducible apply Within.step (Mod.endOverrunStops_within ..); (on_goal 1 => decide))
    | (with_reducible apply Within.step (Mod.onAcct_within ..); (on_goal 1 => decide))
    | (with_reducible apply Within.step (Mod.evalCauses_within ..); (on_goal 1 => decide))
    | (with_reducible apply Within.step (Mod.post_within ..); (on_goal 1 => decide))
    | with_reducible apply Within.each
    | (intro _)
    | split

theorem Mod.tickEnd_within (m : Mod) : Within [.est, .conv, .sent] m (Mod.tickEnd m) := by
  unfold Mod.tickEnd
  repeat' first
    | with_reducible apply Within.refl
    | with_reducible assumption
    | with_reducible apply Within.ite
    | (with_reducible apply Within.step (Mod.linkTick_within ..); (on_goal 1 => decide))
    | with_reducible apply Within.each
    | (intro _)
    | split

theorem Mod.endTick_within (m : Mod) : Within [.plan, .host, .store, .chain, .est, .conv, .prot, .safety, .pair, .adc, .sent, .free] m (Mod.endTick m) := by
  unfold Mod.endTick
  repeat' first
    | with_reducible apply Within.refl
    | with_reducible assumption
    | with_reducible apply Within.ite
    | with_reducible apply Within.logical
    | (with_reducible apply Within.step (Mod.tickEnd_within ..); (on_goal 1 => decide))
    | (with_reducible apply Within.step (Mod.replayTick_within ..); (on_goal 1 => decide))
    | (with_reducible apply Within.step (Mod.portOnlyTick_within ..); (on_goal 1 => decide))
    | with_reducible apply Within.each
    | (intro _)
    | split

theorem Mod.endGrain_within (m : Mod) : Within [.plan, .host, .store, .chain, .est, .conv, .prot, .safety, .pair, .can, .adc, .sent, .free] m (Mod.endGrain m) := by
  unfold Mod.endGrain
  repeat' first
    | with_reducible apply Within.refl
    | with_reducible assumption
    | with_reducible apply Within.ite
    | (extract_lets +onlyGivenNames x; first | (refine Within.cut (x := x) ?_ ?_; (on_goal 1 => (unfold x; clear x)); on_goal 2 => (intro hx; clear_value x; rename' x => y)) | (clear_value x; rename' x => y))
    | (with_reducible apply Within.step (Mod.peakGrain_within ..); (on_goal 1 => decide))
    | (with_reducible apply Within.step (Mod.acctGrain_within ..); (on_goal 1 => decide))
    | (with_reducible apply Within.step (Mod.endTick_within ..); (on_goal 1 => decide))
    | (with_reducible apply Within.step (Mod.standbyEnd_within ..); (on_goal 1 => decide))
    | (with_reducible apply Within.step (Mod.formRecord_within ..); (on_goal 1 => decide))
    | (with_reducible apply Within.step (Mod.yielded_within ..); (on_goal 1 => decide))
    | (with_reducible apply Within.step (Mod.onPair_within ..); (on_goal 1 => decide))
    | with_reducible apply Within.each
    | (intro _)
    | split

theorem Mod.restartGrain_within (m : Mod) : Within [.store, .conv, .prot, .safety, .sent] m (Mod.restartGrain m) := by
  unfold Mod.restartGrain
  repeat' first
    | with_reducible apply Within.refl
    | with_reducible assumption
    | with_reducible apply Within.ite
    | (extract_lets +onlyGivenNames x; first | (refine Within.cut (x := x) ?_ ?_; (on_goal 1 => (unfold x; clear x)); on_goal 2 => (intro hx; clear_value x; rename' x => y)) | (clear_value x; rename' x => y))
    | (with_reducible apply Within.step (Mod.linkTo_within ..); (on_goal 1 => decide))
    | (with_reducible apply Within.step (Mod.switchOff_within ..); (on_goal 1 => decide))
    | with_reducible apply Within.each
    | (intro _)
    | split

theorem Mod.tripTick_within (m : Mod) (n : Nat) : Within [.conv] m (Mod.tripTick m n) := by
  unfold Mod.tripTick
  repeat' first
    | with_reducible apply Within.refl
    | with_reducible assumption
    | with_reducible apply Within.ite
    | (with_reducible apply Within.step (Mod.onLink_within ..); (on_goal 1 => decide))
    | (intro _)
    | split

theorem Mod.overrunDue_within (m : Mod) : Within [.plan, .store, .conv, .prot, .safety, .pair, .can, .upd, .sent] m (Mod.overrunDue m) := by
  unfold Mod.overrunDue
  repeat' first
    | with_reducible apply Within.refl
    | with_reducible assumption
    | with_reducible apply Within.ite
    | (extract_lets +onlyGivenNames x; first | (refine Within.cut (x := x) ?_ ?_; (on_goal 1 => (unfold x; clear x)); on_goal 2 => (intro hx; clear_value x; rename' x => y)) | (clear_value x; rename' x => y))
    | (with_reducible apply Within.stepPlan; (on_goal 1 => decide); (on_goal 1 => (intro _; exact ⟨rfl, rfl, rfl⟩)))
    | (with_reducible apply Within.step (Mod.onAcct_within ..); (on_goal 1 => decide))
    | (with_reducible apply Within.step (Mod.evalCauses_within ..); (on_goal 1 => decide))
    | (with_reducible apply Within.step (Mod.safeStop_within ..); (on_goal 1 => decide))
    | with_reducible apply Within.each
    | (intro _)
    | split

theorem Mod.tickStart_within (m : Mod) : Within [.store, .chain, .conv, .prot, .safety, .pair, .adc, .sent] m (Mod.tickStart m) := by
  unfold Mod.tickStart
  repeat' first
    | with_reducible apply Within.refl
    | with_reducible assumption
    | with_reducible apply Within.ite
    | (extract_lets +onlyGivenNames x; first | (refine Within.cut (x := x) ?_ ?_; (on_goal 1 => (unfold x; clear x)); on_goal 2 => (intro hx; clear_value x; rename' x => y)) | (clear_value x; rename' x => y))
    | (with_reducible apply Within.step (Mod.chainTick_within ..); (on_goal 1 => decide))
    | (with_reducible apply Within.step (Mod.readOcLatch_within ..); (on_goal 1 => decide))
    | (with_reducible apply Within.step (Mod.tripDueTick_within ..); (on_goal 1 => decide))
    | with_reducible apply Within.each
    | (intro _)
    | split

theorem Mod.portTrips_within (m : Mod) : Within [.pair] m (Mod.portTrips m) := by
  unfold Mod.portTrips
  repeat' first
    | with_reducible apply Within.refl
    | with_reducible assumption
    | with_reducible apply Within.ite
    | (with_reducible apply Within.step (Mod.onPair_within ..); (on_goal 1 => decide))
    | with_reducible apply Within.each
    | (intro _)
    | split

theorem Mod.beginTick_within (m : Mod) : Within [.plan, .store, .chain, .conv, .prot, .safety, .pair, .can, .adc, .upd, .sent] m (Mod.beginTick m) := by
  unfold Mod.beginTick
  repeat' first
    | with_reducible apply Within.refl
    | with_reducible assumption
    | with_reducible apply Within.ite
    | (extract_lets +onlyGivenNames x; first | (refine Within.cut (x := x) ?_ ?_; (on_goal 1 => (unfold x; clear x)); on_goal 2 => (intro hx; clear_value x; rename' x => y)) | (clear_value x; rename' x => y))
    | with_reducible apply Within.logical
    | (with_reducible apply Within.step (Mod.tripTick_within ..); (on_goal 1 => decide))
    | (with_reducible apply Within.step (Mod.overrunDue_within ..); (on_goal 1 => decide))
    | (with_reducible apply Within.step (Mod.tickStart_within ..); (on_goal 1 => decide))
    | (with_reducible apply Within.step (Mod.portTrips_within ..); (on_goal 1 => decide))
    | with_reducible apply Within.each
    | (intro _)
    | split

theorem Mod.noDecision_within (m : Mod) (n : Nat) : Within [.conv, .prot] m (Mod.noDecision m n) := by
  unfold Mod.noDecision
  repeat' first
    | with_reducible apply Within.refl
    | with_reducible assumption
    | with_reducible apply Within.ite
    | (with_reducible apply Within.step (Mod.onStrProt_within ..); (on_goal 1 => decide))
    | (with_reducible apply Within.step (Mod.onPhase_within ..); (on_goal 1 => decide))
    | with_reducible apply Within.each
    | (intro _)
    | split

theorem Mod.grainWork_within (m : Mod) (old : Mod) (dieT : Int) : Within [.plan, .host, .store, .power, .chain, .est, .conv, .disp, .prot, .safety, .pair, .time, .can, .adc, .upd, .sent, .free] m (Mod.grainWork m old dieT) := by
  unfold Mod.grainWork
  repeat' first
    | with_reducible apply Within.refl
    | with_reducible assumption
    | with_reducible apply Within.ite
    | (extract_lets +onlyGivenNames x; first | (refine Within.cut (x := x) ?_ ?_; (on_goal 1 => (unfold x; clear x)); on_goal 2 => (intro hx; clear_value x; rename' x => y)) | (clear_value x; rename' x => y))
    | (with_reducible apply Within.stepHost; (on_goal 1 => decide); (on_goal 1 => (intro _ h; exact h)))
    | (with_reducible apply Within.step (Mod.outageRest_within ..); (on_goal 1 => decide))
    | (with_reducible apply Within.step (Mod.canGrain_within ..); (on_goal 1 => decide))
    | (with_reducible apply Within.step (Mod.canFreed_within ..); (on_goal 1 => decide))
    | (with_reducible apply Within.step (Mod.grainLabel_within ..); (on_goal 1 => decide))
    | (with_reducible apply Within.step (Mod.takeForce_within ..); (on_goal 1 => decide))
    | (with_reducible apply Within.step (Mod.followMarker_within ..); (on_goal 1 => decide))
    | (with_reducible apply Within.step (Mod.serviceCheck_within ..); (on_goal 1 => decide))
    | (with_reducible apply Within.step (Mod.archPeriodChange_within ..); (on_goal 1 => decide))
    | (with_reducible apply Within.step (Mod.adcGrain_within ..); (on_goal 1 => decide))
    | (with_reducible apply Within.step (Mod.ocRewrite_within ..); (on_goal 1 => decide))
    | (with_reducible apply Within.step (Mod.splitRound_within ..); (on_goal 1 => decide))
    | (with_reducible apply Within.step (Mod.planBoundary_within ..); (on_goal 1 => decide))
    | (with_reducible apply Within.step (Mod.restartGrain_within ..); (on_goal 1 => decide))
    | (with_reducible apply Within.step (Mod.beginTick_within ..); (on_goal 1 => decide))
    | (with_reducible apply Within.step (Mod.noDecision_within ..); (on_goal 1 => decide))
    | (with_reducible apply Within.step (Mod.resyncBoundary_within ..); (on_goal 1 => decide))
    | (with_reducible apply Within.step (Mod.msTick_within ..); (on_goal 1 => decide))
    | (with_reducible apply Within.step (Mod.onPair_within ..); (on_goal 1 => decide))
    | (with_reducible apply Within.step (Mod.onTime_within ..); (on_goal 1 => decide))
    | with_reducible apply Within.each
    | (intro _)
    | split

theorem tick_within (m : Mod) : Within [.plan, .clock, .host, .store, .chain, .est, .conv, .prot, .safety, .pair, .time, .can, .adc, .upd, .sent, .free] m (tick m) := by
  unfold tick
  repeat' first
    | with_reducible apply Within.refl
    | with_reducible assumption
    | with_reducible apply Within.ite
    | (extract_lets +onlyGivenNames x; first | (refine Within.cut (x := x) ?_ ?_; (on_goal 1 => (unfold x; clear x)); on_goal 2 => (intro hx; clear_value x; rename' x => y)) | (clear_value x; rename' x => y))
    | (with_reducible apply Within.step (Mod.onPlan_clock ..); (on_goal 1 => decide))
    | (with_reducible apply Within.step (Mod.canRole_within ..); (on_goal 1 => decide))
    | (with_reducible apply Within.step (Mod.canPass_within ..); (on_goal 1 => decide))
    | (with_reducible apply Within.step (Mod.endTick_within ..); (on_goal 1 => decide))
    | (with_reducible apply Within.step (Mod.beginTick_within ..); (on_goal 1 => decide))
    | (with_reducible apply Within.step (Mod.sendReplay_within ..); (on_goal 1 => decide))
    | (with_reducible apply Within.step (Mod.onPair_within ..); (on_goal 1 => decide))
    | (with_reducible apply Within.step (Mod.onTime_within ..); (on_goal 1 => decide))
    | (intro _)
    | split

theorem Mod.nextGrain_within (m : Mod) : Within [.plan, .clock] m (Mod.nextGrain m) := by
  unfold Mod.nextGrain
  repeat' first
    | with_reducible apply Within.refl
    | with_reducible assumption
    | with_reducible apply Within.ite
    | (extract_lets +onlyGivenNames x; clear_value x; rename' x => y)
    | (with_reducible apply Within.stepPlan; (on_goal 1 => decide); (on_goal 1 => (intro _; exact ⟨rfl, rfl, rfl⟩)))
    | (with_reducible apply Within.step (Mod.onPlan_clock ..); (on_goal 1 => decide))

theorem grainBoundary_within (dieT : Int) (m : Mod) : Within [.plan, .clock, .host, .store, .power, .chain, .est, .conv, .disp, .prot, .safety, .pair, .time, .can, .adc, .upd, .sent, .free] m (grainBoundary dieT m) := by
  unfold grainBoundary
  repeat' first
    | with_reducible apply Within.refl
    | with_reducible assumption
    | with_reducible apply Within.ite
    | (with_reducible apply Within.step (Mod.endGrain_within ..); (on_goal 1 => decide))
    | (with_reducible apply Within.step (Mod.grainWork_within ..); (on_goal 1 => decide))
    | (with_reducible apply Within.step (Mod.nextGrain_within ..); (on_goal 1 => decide))
    | (intro _)
    | split

theorem Mod.kernelWork_within (m : Mod) (s : Slot) (readback : Option (Int × Int)) : Within [.host, .store, .chain, .est, .conv, .disp, .prot, .safety, .pair, .sent, .free] m (Mod.kernelWork m s readback) := by
  unfold Mod.kernelWork
  repeat' first
    | with_reducible apply Within.refl
    | with_reducible assumption
    | with_reducible apply Within.ite
    | (extract_lets +onlyGivenNames x; first | (refine Within.cut (x := x) ?_ ?_; (on_goal 1 => (unfold x; clear x)); on_goal 2 => (intro hx; clear_value x; rename' x => y)) | (clear_value x; rename' x => y))
    | (with_reducible apply Within.step (Mod.estimator_within ..); (on_goal 1 => decide))
    | (with_reducible apply Within.step (Mod.balanceCheck_within ..); (on_goal 1 => decide))
    | (with_reducible apply Within.step (Mod.evalSweep_within ..); (on_goal 1 => decide))
    | (with_reducible apply Within.step (Mod.judgeAccel_within ..); (on_goal 1 => decide))
    | (with_reducible apply Within.step (Mod.senseAnalysis_within ..); (on_goal 1 => decide))
    | (with_reducible apply Within.step (Mod.protectSlot_within ..); (on_goal 1 => decide))
    | (with_reducible apply Within.step (Mod.powerSlot_within ..); (on_goal 1 => decide))
    | (with_reducible apply Within.step (Mod.onPair_within ..); (on_goal 1 => decide))
    | (with_reducible apply Within.step (Mod.onLink_within ..); (on_goal 1 => decide))
    | with_reducible apply Within.each
    | (intro _)
    | split

theorem Mod.useCycles_within (m : Mod) (tile c : Nat) : Within [.plan] m (Mod.useCycles m tile c) := by
  unfold Mod.useCycles
  repeat' first
    | with_reducible apply Within.refl
    | with_reducible assumption
    | with_reducible apply Within.ite
    | (extract_lets +onlyGivenNames x; first | (refine Within.cut (x := x) ?_ ?_; (on_goal 1 => (unfold x; clear x)); on_goal 2 => (intro hx; clear_value x; rename' x => y)) | (clear_value x; rename' x => y))
    | (with_reducible apply Within.stepPlan; (on_goal 1 => decide); (on_goal 1 => (intro _; exact ⟨rfl, rfl, rfl⟩)))
    | (intro _)
    | split

theorem Mod.overrun_within (m : Mod) (s : Slot) (cause : OverrunCause) : Within [.plan, .store, .conv, .pair, .upd, .sent] m (Mod.overrun m s cause) := by
  unfold Mod.overrun
  repeat' first
    | with_reducible apply Within.refl
    | with_reducible assumption
    | with_reducible apply Within.ite
    | (extract_lets +onlyGivenNames x; first | (refine Within.cut (x := x) ?_ ?_; (on_goal 1 => (unfold x; clear x)); on_goal 2 => (intro hx; clear_value x; rename' x => y)) | (clear_value x; rename' x => y))
    | (with_reducible apply Within.stepPlan; (on_goal 1 => decide); (on_goal 1 => (intro _; exact ⟨rfl, rfl, rfl⟩)))
    | (with_reducible apply Within.step (Mod.onAcct_within ..); (on_goal 1 => decide))
    | (with_reducible apply Within.step (Mod.useCycles_within ..); (on_goal 1 => decide))
    | (with_reducible apply Within.step (Mod.cancelActivation_within ..); (on_goal 1 => decide))
    | (with_reducible apply Within.step (Mod.yield_within ..); (on_goal 1 => decide))
    | (with_reducible apply Within.step (Mod.trialAgain_within ..); (on_goal 1 => decide))
    | (with_reducible apply Within.step (Mod.onLink_within ..); (on_goal 1 => decide))
    | (with_reducible apply Within.step (Mod.post_within ..); (on_goal 1 => decide))
    | (intro _)
    | split

theorem Mod.retire_within (m : Mod) (s : Slot) (cycles : Nat) (readback : Option (Int × Int)) : Within [.plan, .host, .store, .chain, .est, .conv, .disp, .prot, .safety, .pair, .upd, .sent, .free] m (Mod.retire m s cycles readback) := by
  unfold Mod.retire
  repeat' first
    | with_reducible apply Within.refl
    | with_reducible assumption
    | with_reducible apply Within.ite
    | (extract_lets +onlyGivenNames x; first | (refine Within.cut (x := x) ?_ ?_; (on_goal 1 => (unfold x; clear x)); on_goal 2 => (intro hx; clear_value x; rename' x => y)) | (clear_value x; rename' x => y))
    | with_reducible apply Within.logical
    | (with_reducible apply Within.step (Mod.kernelWork_within ..); (on_goal 1 => decide))
    | (with_reducible apply Within.step (Mod.useCycles_within ..); (on_goal 1 => decide))
    | (with_reducible apply Within.step (Mod.overrun_within ..); (on_goal 1 => decide))
    | (intro _)
    | split

theorem Mod.tileEccOverrun_within (m : Mod) (s : Slot) : Within [.plan, .store, .conv, .pair, .upd, .sent] m (Mod.tileEccOverrun m s) := by
  unfold Mod.tileEccOverrun
  repeat' first
    | with_reducible apply Within.refl
    | with_reducible assumption
    | with_reducible apply Within.ite
    | (with_reducible apply Within.stepPlan; (on_goal 1 => decide); (on_goal 1 => (intro _; exact ⟨rfl, rfl, rfl⟩)))
    | (with_reducible apply Within.step (Mod.overrun_within ..); (on_goal 1 => decide))
    | (intro _)
    | split

theorem slotRun_within (bed slotId cycles : Nat) (fault : SlotFault) (readback : Option (Int × Int)) (m : Mod) : Within [.plan, .host, .store, .chain, .est, .conv, .disp, .prot, .safety, .pair, .upd, .sent, .free] m (slotRun bed slotId cycles fault readback m) := by
  unfold slotRun
  repeat' first
    | with_reducible apply Within.refl
    | with_reducible assumption
    | with_reducible apply Within.ite
    | (with_reducible apply Within.stepPlan; (on_goal 1 => decide); (on_goal 1 => (intro _; exact ⟨rfl, rfl, rfl⟩)))
    | (with_reducible apply Within.step (Mod.overrun_within ..); (on_goal 1 => decide))
    | (with_reducible apply Within.step (Mod.retire_within ..); (on_goal 1 => decide))
    | (with_reducible apply Within.step (Mod.tileEccOverrun_within ..); (on_goal 1 => decide))
    | (intro _)
    | split

theorem Mod.sendPlan_within (m : Mod) : Within [.sent] m (Mod.sendPlan m) := by
  unfold Mod.sendPlan
  repeat' first
    | with_reducible apply Within.refl
    | with_reducible assumption
    | with_reducible apply Within.ite
    | (extract_lets +onlyGivenNames x; first | (refine Within.cut (x := x) ?_ ?_; (on_goal 1 => (unfold x; clear x)); on_goal 2 => (intro hx; clear_value x; rename' x => y)) | (clear_value x; rename' x => y))
    | (with_reducible apply Within.step (Mod.out_within ..); (on_goal 1 => decide))
    | with_reducible apply Within.each
    | (intro _)
    | split

theorem Mod.activated_within (m : Mod) (c : Candidate) : Within [.host, .store, .pair, .sent] m (Mod.activated m c) := by
  unfold Mod.activated
  repeat' first
    | with_reducible apply Within.refl
    | with_reducible assumption
    | with_reducible apply Within.ite
    | (extract_lets +onlyGivenNames x; first | (refine Within.cut (x := x) ?_ ?_; (on_goal 1 => (unfold x; clear x)); on_goal 2 => (intro hx; clear_value x; rename' x => y)) | (clear_value x; rename' x => y))
    | (with_reducible apply Within.step (Mod.cfgWrite_within ..); (on_goal 1 => decide))
    | (with_reducible apply Within.step (Mod.sendPlan_within ..); (on_goal 1 => decide))
    | (with_reducible apply Within.step (Mod.complete_within ..); (on_goal 1 => decide))
    | (with_reducible apply Within.step (Mod.resyncRestart_within ..); (on_goal 1 => decide))
    | (with_reducible apply Within.step (Mod.post_within ..); (on_goal 1 => decide))
    | (intro _)
    | split

theorem Mod.activationFails_within (m : Mod) (c : Candidate) (g : W32) : Within [.plan, .host, .store, .sent] m (Mod.activationFails m c g) := by
  unfold Mod.activationFails
  repeat' first
    | with_reducible apply Within.refl
    | with_reducible assumption
    | with_reducible apply Within.ite
    | (extract_lets +onlyGivenNames x; first | (refine Within.cut (x := x) ?_ ?_; (on_goal 1 => (unfold x; clear x)); on_goal 2 => (intro hx; clear_value x; rename' x => y)) | (clear_value x; rename' x => y))
    | (with_reducible apply Within.stepPlan; (on_goal 1 => decide); (on_goal 1 => (intro _; exact ⟨rfl, rfl, rfl⟩)))
    | (with_reducible apply Within.step (Mod.activationRefused_within ..); (on_goal 1 => decide))
    | (with_reducible apply Within.step (Mod.complete_within ..); (on_goal 1 => decide))
    | (intro _)
    | split

theorem Mod.newLayout_within (m : Mod) (n : Nat) (fresh : Bool) : Within [.chain, .sent] m (Mod.newLayout m n fresh) := by
  unfold Mod.newLayout
  repeat' first
    | with_reducible apply Within.refl
    | with_reducible assumption
    | with_reducible apply Within.ite
    | (extract_lets +onlyGivenNames x; first | (refine Within.cut (x := x) ?_ ?_; (on_goal 1 => (unfold x; clear x)); on_goal 2 => (intro hx; clear_value x; rename' x => y)) | (clear_value x; rename' x => y))
    | (with_reducible apply Within.step (Mod.startEnum_within ..); (on_goal 1 => decide))
    | (with_reducible apply Within.step (Mod.wakeRing_within ..); (on_goal 1 => decide))
    | (with_reducible apply Within.step (Mod.onCell_within ..); (on_goal 1 => decide))
    | with_reducible apply Within.each
    | (intro _)
    | split

theorem Mod.unpoison_within (m : Mod) (base size : Nat) : Within [.store] m (Mod.unpoison m base size) := by
  unfold Mod.unpoison
  repeat' first
    | with_reducible apply Within.refl
    | with_reducible assumption
    | with_reducible apply Within.ite
    | (with_reducible apply Within.step (Mod.poison_within ..); (on_goal 1 => decide))
    | (with_reducible apply Within.step (Mod.onStore_within ..); (on_goal 1 => decide))
    | (intro _)
    | split

theorem Mod.clearString_within (m : Mod) (n : Nat) : Within [.store, .chain, .prot] m (Mod.clearString m n) := by
  unfold Mod.clearString
  repeat' first
    | with_reducible apply Within.refl
    | with_reducible assumption
    | with_reducible apply Within.ite
    | (extract_lets +onlyGivenNames x; first | (refine Within.cut (x := x) ?_ ?_; (on_goal 1 => (unfold x; clear x)); on_goal 2 => (intro hx; clear_value x; rename' x => y)) | (clear_value x; rename' x => y))
    | (with_reducible apply Within.step (Mod.unpoison_within ..); (on_goal 1 => decide))
    | (with_reducible apply Within.step (Mod.onChain_within ..); (on_goal 1 => decide))
    | (with_reducible apply Within.step (Mod.onProt_within ..); (on_goal 1 => decide))
    | (with_reducible apply Within.step (Mod.onStrProt_within ..); (on_goal 1 => decide))
    | (intro _)
    | split

theorem Mod.bedStarts_within (m : Mod) (n : Nat) (old : Option Bed) : Within [.store, .chain, .est, .conv, .prot, .adc, .sent] m (Mod.bedStarts m n old) := by
  unfold Mod.bedStarts
  repeat' first
    | with_reducible apply Within.refl
    | with_reducible assumption
    | with_reducible apply Within.ite
    | (extract_lets +onlyGivenNames x; first | (refine Within.cut (x := x) ?_ ?_; (on_goal 1 => (unfold x; clear x)); on_goal 2 => (intro hx; clear_value x; rename' x => y)) | (clear_value x; rename' x => y))
    | (with_reducible apply Within.step (Mod.estReplant_within ..); (on_goal 1 => decide))
    | (with_reducible apply Within.step (Mod.startEnum_within ..); (on_goal 1 => decide))
    | (with_reducible apply Within.step (Mod.ocActivate_within ..); (on_goal 1 => decide))
    | (with_reducible apply Within.step (Mod.noDecision_within ..); (on_goal 1 => decide))
    | (with_reducible apply Within.step (Mod.newLayout_within ..); (on_goal 1 => decide))
    | (with_reducible apply Within.step (Mod.clearString_within ..); (on_goal 1 => decide))
    | (with_reducible apply Within.step (Mod.linkTo_within ..); (on_goal 1 => decide))
    | (intro _)
    | split

theorem Mod.newGeneration_within (m : Mod) (b : Nat) (replant : Bool) : Within [.plan] m (Mod.newGeneration m b replant) := by
  unfold Mod.newGeneration
  repeat' first
    | with_reducible apply Within.refl
    | with_reducible assumption
    | with_reducible apply Within.ite
    | (with_reducible apply Within.step (Mod.onAcct_within ..); (on_goal 1 => decide))
    | (intro _)
    | split

theorem bedReplant_within (m : Mod) : Within [.plan, .host, .store, .chain, .est, .conv, .prot, .pair, .adc, .sent] m (bedReplant m) := by
  unfold bedReplant
  repeat' first
    | with_reducible apply Within.refl
    | with_reducible assumption
    | with_reducible apply Within.ite
    | (extract_lets +onlyGivenNames x; first | (refine Within.cut (x := x) ?_ ?_; (on_goal 1 => (unfold x; clear x)); on_goal 2 => (intro hx; clear_value x; rename' x => y)) | (clear_value x; rename' x => y))
    | (with_reducible apply Within.stepPlan; (on_goal 1 => decide); (on_goal 1 => (intro _; exact ⟨rfl, rfl, rfl⟩)))
    | (with_reducible apply Within.step (Mod.activated_within ..); (on_goal 1 => decide))
    | (with_reducible apply Within.step (Mod.activationFails_within ..); (on_goal 1 => decide))
    | (with_reducible apply Within.step (Mod.bedStarts_within ..); (on_goal 1 => decide))
    | (with_reducible apply Within.step (Mod.newGeneration_within ..); (on_goal 1 => decide))
    | (intro _)
    | split

theorem Mod.timeBaseStop_within (m : Mod) (cause : Nat) : Within [.plan, .store, .conv, .prot, .safety, .pair, .can, .upd, .sent] m (Mod.timeBaseStop m cause) := by
  unfold Mod.timeBaseStop
  repeat' first
    | with_reducible apply Within.refl
    | with_reducible assumption
    | with_reducible apply Within.ite
    | (with_reducible apply Within.step (Mod.safeStop_within ..); (on_goal 1 => decide))
    | (with_reducible apply Within.step (Mod.post_within ..); (on_goal 1 => decide))
    | (intro _)
    | split

theorem clockMeasurement_within (clk : Nat) (ppm : Int) (m : Mod) : Within [.plan, .store, .conv, .prot, .safety, .pair, .can, .upd, .sent] m (clockMeasurement clk ppm m) := by
  unfold clockMeasurement
  repeat' first
    | with_reducible apply Within.refl
    | with_reducible assumption
    | with_reducible apply Within.ite
    | (extract_lets +onlyGivenNames x; first | (refine Within.cut (x := x) ?_ ?_; (on_goal 1 => (unfold x; clear x)); on_goal 2 => (intro hx; clear_value x; rename' x => y)) | (clear_value x; rename' x => y))
    | (with_reducible apply Within.stepPlan; (on_goal 1 => decide); (on_goal 1 => (intro _; exact ⟨rfl, rfl, rfl⟩)))
    | (with_reducible apply Within.step (Mod.timeBaseStop_within ..); (on_goal 1 => decide))
    | (with_reducible apply Within.step (Mod.safeStateStrings_within ..); (on_goal 1 => decide))
    | (with_reducible apply Within.step (Mod.selfFaultClear_within ..); (on_goal 1 => decide))
    | (with_reducible apply Within.step (Mod.selfFaultMod_within ..); (on_goal 1 => decide))
    | (intro _)
    | split

theorem Mod.planRefused_within (m : Mod) (kind planId refusal bed from_ : Nat) : Within [.plan, .store] m (Mod.planRefused m kind planId refusal bed from_) := by
  unfold Mod.planRefused
  repeat' first
    | with_reducible apply Within.refl
    | with_reducible assumption
    | with_reducible apply Within.ite
    | (extract_lets +onlyGivenNames x; first | (refine Within.cut (x := x) ?_ ?_; (on_goal 1 => (unfold x; clear x)); on_goal 2 => (intro hx; clear_value x; rename' x => y)) | (clear_value x; rename' x => y))
    | (with_reducible apply Within.stepPlan; (on_goal 1 => decide); (on_goal 1 => (intro _; exact ⟨rfl, rfl, rfl⟩)))
    | (with_reducible apply Within.step (Mod.post_within ..); (on_goal 1 => decide))
    | (intro _)
    | split

theorem Mod.criticalFault_within (m : Mod) (crc : Bool) : Within [.plan, .store, .conv, .prot, .safety, .pair, .can, .upd, .sent] m (Mod.criticalFault m crc) := by
  unfold Mod.criticalFault
  repeat' first
    | with_reducible apply Within.refl
    | with_reducible assumption
    | with_reducible apply Within.ite
    | (with_reducible apply Within.step (Mod.safeStop_within ..); (on_goal 1 => decide))
    | (with_reducible apply Within.step (Mod.onSafety_within ..); (on_goal 1 => decide))
    | (intro _)
    | split

theorem safetyCoreFault_within (cause : Nat) (m : Mod) : Within [.plan, .store, .conv, .prot, .safety, .pair, .can, .upd, .sent] m (safetyCoreFault cause m) := by
  unfold safetyCoreFault
  repeat' first
    | with_reducible apply Within.refl
    | with_reducible assumption
    | with_reducible apply Within.ite
    | (extract_lets +onlyGivenNames x; first | (refine Within.cut (x := x) ?_ ?_; (on_goal 1 => (unfold x; clear x)); on_goal 2 => (intro hx; clear_value x; rename' x => y)) | (clear_value x; rename' x => y))
    | (with_reducible apply Within.step (Mod.criticalFault_within ..); (on_goal 1 => decide))
    | (with_reducible apply Within.step (Mod.switchOff_within ..); (on_goal 1 => decide))
    | (with_reducible apply Within.step (Mod.safeStop_within ..); (on_goal 1 => decide))
    | (with_reducible apply Within.step (Mod.onSafety_within ..); (on_goal 1 => decide))
    | (with_reducible apply Within.step (Mod.post_within ..); (on_goal 1 => decide))
    | with_reducible apply Within.each
    | (intro _)
    | split

theorem overrunRow_within (bed slotId : Nat) (cause : OverrunCause) (m : Mod) : Within [.plan, .store, .conv, .pair, .upd, .sent] m (overrunRow bed slotId cause m) := by
  unfold overrunRow
  repeat' first
    | with_reducible apply Within.refl
    | with_reducible assumption
    | with_reducible apply Within.ite
    | (with_reducible apply Within.step (Mod.overrun_within ..); (on_goal 1 => decide))
    | (with_reducible apply Within.step (Mod.tileEccOverrun_within ..); (on_goal 1 => decide))
    | (intro _)
    | split

theorem Mod.checkNotice_within (m : Mod) (origin : Option Origin) (planId refusal bed : Nat) : Within [.host, .sent] m (Mod.checkNotice m origin planId refusal bed) := by
  unfold Mod.checkNotice
  repeat' first
    | with_reducible apply Within.refl
    | with_reducible assumption
    | with_reducible apply Within.ite
    | (with_reducible apply Within.step (Mod.complete_within ..); (on_goal 1 => decide))
    | (with_reducible apply Within.step (Mod.out_within ..); (on_goal 1 => decide))
    | (intro _)
    | split

theorem Mod.planStaged_within (m : Mod) (c : Check) : Within [.plan, .host, .sent] m (Mod.planStaged m c) := by
  unfold Mod.planStaged
  repeat' first
    | with_reducible apply Within.refl
    | with_reducible assumption
    | with_reducible apply Within.ite
    | (extract_lets +onlyGivenNames x; first | (refine Within.cut (x := x) ?_ ?_; (on_goal 1 => (unfold x; clear x)); on_goal 2 => (intro hx; clear_value x; rename' x => y)) | (clear_value x; rename' x => y))
    | (with_reducible apply Within.stepPlan; (on_goal 1 => decide); (on_goal 1 => (intro _; exact ⟨rfl, rfl, rfl⟩)))
    | (with_reducible apply Within.step (Mod.checkNotice_within ..); (on_goal 1 => decide))
    | (intro _)
    | split

theorem Mod.candidateReport_within (m : Mod) (refusal : Nat) : Within [.plan, .host, .store, .pair, .sent] m (Mod.candidateReport m refusal) := by
  unfold Mod.candidateReport
  repeat' first
    | with_reducible apply Within.refl
    | with_reducible assumption
    | with_reducible apply Within.ite
    | (extract_lets +onlyGivenNames x; first | (refine Within.cut (x := x) ?_ ?_; (on_goal 1 => (unfold x; clear x)); on_goal 2 => (intro hx; clear_value x; rename' x => y)) | (clear_value x; rename' x => y))
    | (with_reducible apply Within.step (Mod.planRefused_within ..); (on_goal 1 => decide))
    | (with_reducible apply Within.step (Mod.checkNotice_within ..); (on_goal 1 => decide))
    | (with_reducible apply Within.step (Mod.planStaged_within ..); (on_goal 1 => decide))
    | (with_reducible apply Within.step (Mod.onPair_within ..); (on_goal 1 => decide))
    | (intro _)
    | split

theorem Mod.graftCandidate_within (m : Mod) (img : List Byte) : Within [.plan] m (Mod.graftCandidate m img) := by
  unfold Mod.graftCandidate
  repeat' first
    | with_reducible apply Within.refl
    | with_reducible assumption
    | with_reducible apply Within.ite
    | (with_reducible apply Within.stepPlan; (on_goal 1 => decide); (on_goal 1 => (intro _; exact ⟨rfl, rfl, rfl⟩)))
    | (intro _)
    | split

theorem Mod.unconfigure_within (m : Mod) (n : Nat) : Within [.chain, .conv, .sent] m (Mod.unconfigure m n) := by
  unfold Mod.unconfigure
  repeat' first
    | with_reducible apply Within.refl
    | with_reducible assumption
    | with_reducible apply Within.ite
    | (extract_lets +onlyGivenNames x; first | (refine Within.cut (x := x) ?_ ?_; (on_goal 1 => (unfold x; clear x)); on_goal 2 => (intro hx; clear_value x; rename' x => y)) | (clear_value x; rename' x => y))
    | (with_reducible apply Within.step (Mod.setLine_within ..); (on_goal 1 => decide))
    | (with_reducible apply Within.step (Mod.linkTo_within ..); (on_goal 1 => decide))
    | (with_reducible apply Within.step (Mod.onRing_within ..); (on_goal 1 => decide))
    | (intro _)
    | split

theorem grainPulseTimeout_within (m : Mod) : Within [.plan, .store, .conv, .prot, .safety, .pair, .can, .upd, .sent] m (grainPulseTimeout m) := by
  unfold grainPulseTimeout
  repeat' first
    | with_reducible apply Within.refl
    | with_reducible assumption
    | with_reducible apply Within.ite
    | (with_reducible apply Within.stepPlan; (on_goal 1 => decide); (on_goal 1 => (intro _; exact ⟨rfl, rfl, rfl⟩)))
    | (with_reducible apply Within.step (Mod.timeBaseStop_within ..); (on_goal 1 => decide))
    | (intro _)
    | split

theorem lockstepMismatch_within (_pair : Nat) (m : Mod) : Within [.plan, .store, .power, .safety, .pair, .time, .upd, .sent] m (lockstepMismatch _pair m) := by
  unfold lockstepMismatch
  repeat' first
    | with_reducible apply Within.refl
    | with_reducible assumption
    | with_reducible apply Within.ite
    | (extract_lets +onlyGivenNames x; first | (refine Within.cut (x := x) ?_ ?_; (on_goal 1 => (unfold x; clear x)); on_goal 2 => (intro hx; clear_value x; rename' x => y)) | (clear_value x; rename' x => y))
    | (with_reducible apply Within.stepPlan; (on_goal 1 => decide); (on_goal 1 => (intro _; exact ⟨rfl, rfl, rfl⟩)))
    | (with_reducible apply Within.step (Mod.warmRestart_within ..); (on_goal 1 => decide))
    | (with_reducible apply Within.step (Mod.selfFaultMod_within ..); (on_goal 1 => decide))
    | (intro _)
    | split

theorem planCheckComplete_within (m : Mod) : Within [.plan, .host, .store, .pair, .sent] m (planCheckComplete m) := by
  unfold planCheckComplete
  repeat' first
    | with_reducible apply Within.refl
    | with_reducible assumption
    | with_reducible apply Within.ite
    | (extract_lets +onlyGivenNames x; first | (refine Within.cut (x := x) ?_ ?_; (on_goal 1 => (unfold x; clear x)); on_goal 2 => (intro hx; clear_value x; rename' x => y)) | (clear_value x; rename' x => y))
    | (with_reducible apply Within.step (Mod.planRefused_within ..); (on_goal 1 => decide))
    | (with_reducible apply Within.step (Mod.checkNotice_within ..); (on_goal 1 => decide))
    | (with_reducible apply Within.step (Mod.planStaged_within ..); (on_goal 1 => decide))
    | (with_reducible apply Within.step (Mod.onPair_within ..); (on_goal 1 => decide))
    | (with_reducible apply Within.step (Mod.out_within ..); (on_goal 1 => decide))
    | (intro _)
    | split

theorem Mod.clearCommon_within (m : Mod) : Within [.store, .est, .disp, .prot] m (Mod.clearCommon m) := by
  unfold Mod.clearCommon
  dsimp only
  repeat' first
    | with_reducible apply Within.refl
    | with_reducible assumption
    | with_reducible apply Within.ite
    | (with_reducible apply Within.step (Mod.unpoison_within ..); (on_goal 1 => decide))
    | (with_reducible apply Within.step (Mod.onEst_within ..); (on_goal 1 => decide))
    | (with_reducible apply Within.step (Mod.onDisp_within ..); (on_goal 1 => decide))
    | (with_reducible apply Within.step (Mod.onProt_within ..); (on_goal 1 => decide))
    | (intro _)
    | split

theorem Mod.judgeOld_within (m : Mod) (new : Plan) : Within [.store, .chain, .conv, .prot, .safety, .pair, .sent] m (Mod.judgeOld m new) := by
  unfold Mod.judgeOld
  repeat' first
    | with_reducible apply Within.refl
    | with_reducible assumption
    | with_reducible apply Within.ite
    | (with_reducible apply Within.step (Mod.evalSweep_within ..); (on_goal 1 => decide))
    | (with_reducible apply Within.step (Mod.protectSlot_within ..); (on_goal 1 => decide))
    | with_reducible apply Within.each
    | (intro _)
    | split

theorem planRestart_within (m : Mod) : Within [.plan, .host, .store, .chain, .est, .conv, .disp, .prot, .safety, .pair, .adc, .sent] m (planRestart m) := by
  unfold planRestart
  dsimp only
  repeat' first
    | with_reducible apply Within.refl
    | with_reducible assumption
    | with_reducible apply Within.ite
    | (with_reducible apply Within.stepPlan; (on_goal 1 => decide); (on_goal 1 => (intro _; exact ⟨rfl, rfl, rfl⟩)))
    | (with_reducible apply Within.step (Mod.activated_within ..); (on_goal 1 => decide))
    | (with_reducible apply Within.step (Mod.activationFails_within ..); (on_goal 1 => decide))
    | (with_reducible apply Within.step (Mod.bedStarts_within ..); (on_goal 1 => decide))
    | (with_reducible apply Within.step (Mod.newGeneration_within ..); (on_goal 1 => decide))
    | (with_reducible apply Within.step (Mod.unconfigure_within ..); (on_goal 1 => decide))
    | (with_reducible apply Within.step (Mod.clearCommon_within ..); (on_goal 1 => decide))
    | (with_reducible apply Within.step (Mod.judgeOld_within ..); (on_goal 1 => decide))
    | with_reducible apply Within.each
    | (intro _)
    | split

theorem recoveredClockLock_within (c : RecClk) (inverted : Bool) (m : Mod) : Within [.plan, .chain] m (recoveredClockLock c inverted m) := by
  unfold recoveredClockLock
  repeat' first
    | with_reducible apply Within.refl
    | with_reducible assumption
    | with_reducible apply Within.ite
    | (extract_lets +onlyGivenNames x; first | (refine Within.cut (x := x) ?_ ?_; (on_goal 1 => (unfold x; clear x)); on_goal 2 => (intro hx; clear_value x; rename' x => y)) | (clear_value x; rename' x => y))
    | (with_reducible apply Within.stepPlan; (on_goal 1 => decide); (on_goal 1 => (intro _; exact ⟨rfl, rfl, rfl⟩)))
    | (with_reducible apply Within.step (Mod.onRing_within ..); (on_goal 1 => decide))
    | (intro _)
    | split

theorem recoveredClockUnlock_within (c : RecClk) (m : Mod) : Within [.plan] m (recoveredClockUnlock c m) := by
  unfold recoveredClockUnlock
  repeat' first
    | with_reducible apply Within.refl
    | with_reducible assumption
    | with_reducible apply Within.ite
    | (with_reducible apply Within.stepPlan; (on_goal 1 => decide); (on_goal 1 => (intro _; exact ⟨rfl, rfl, rfl⟩)))
    | (intro _)
    | split

theorem supervisorWatchdog_within (m : Mod) : Within [.plan, .store, .power, .time, .upd, .sent] m (supervisorWatchdog m) := by
  unfold supervisorWatchdog
  repeat' first
    | with_reducible apply Within.refl
    | with_reducible assumption
    | with_reducible apply Within.ite
    | (with_reducible apply Within.step (Mod.warmRestart_within ..); (on_goal 1 => decide))
    | (intro _)
    | split

theorem overrunAt_within (bed slotId : Nat) (cause : OverrunCause) (m : Mod) : Within [.plan, .store, .conv, .pair, .upd, .sent] m (overrunAt bed slotId cause m) := by
  unfold overrunAt
  repeat' first
    | with_reducible apply Within.refl
    | with_reducible assumption
    | with_reducible apply Within.ite
    | (with_reducible apply Within.step (Mod.overrun_within ..); (on_goal 1 => decide))
    | (intro _)
    | split

theorem takeover_within (m : Mod) : Within [.plan, .host, .store, .chain, .est, .conv, .disp, .prot, .safety, .pair, .time, .can, .adc, .sent] m (takeover m) := by
  unfold takeover
  repeat' first
    | with_reducible apply Within.refl
    | with_reducible assumption
    | with_reducible apply Within.ite
    | (extract_lets +onlyGivenNames x; first | (refine Within.cut (x := x) ?_ ?_; (on_goal 1 => (unfold x; clear x)); on_goal 2 => (intro hx; clear_value x; rename' x => y)) | (clear_value x; rename' x => y))
    | (with_reducible apply Within.step (Mod.canRole_within ..); (on_goal 1 => decide))
    | (with_reducible apply Within.step (Mod.planBoundary_within ..); (on_goal 1 => decide))
    | (with_reducible apply Within.step (Mod.tickStart_within ..); (on_goal 1 => decide))
    | (with_reducible apply Within.step (Mod.takeRole_within ..); (on_goal 1 => decide))
    | (with_reducible apply Within.step (Mod.coldTakeover_within ..); (on_goal 1 => decide))
    | (with_reducible apply Within.step (Mod.examineLink_within ..); (on_goal 1 => decide))
    | with_reducible apply Within.each
    | (intro _)
    | split

end Sys2Proof.Machine
end

