-- ==== Sys2Proof/Laws/PowerFrame.lean ====
section
/-! SUPPORT. Which parts of the module each operation of Machine/Power.lean can change. -/

namespace Sys2Proof.Machine

theorem Mod.closeSession_within (m : Mod) (sid : Nat) : Within [.host, .store, .pair] m (Mod.closeSession m sid) := by
  unfold Mod.closeSession
  repeat' first
    | with_reducible apply Within.refl
    | with_reducible assumption
    | with_reducible apply Within.ite
    | (with_reducible apply Within.stepHost; (on_goal 1 => decide); (on_goal 1 => (intro _ h; exact h)))
    | (with_reducible apply Within.step (Mod.capture_within ..); (on_goal 1 => decide))
    | (with_reducible apply Within.step (Mod.onStore_within ..); (on_goal 1 => decide))
    | (intro _)
    | split

theorem Mod.requestRestart_within (m : Mod) (cause : Nat) (factory : Bool) : Within [.plan, .store, .power, .conv, .disp, .pair, .sent] m (Mod.requestRestart m cause factory) := by
  unfold Mod.requestRestart
  repeat' first
    | with_reducible apply Within.refl
    | with_reducible assumption
    | with_reducible apply Within.ite
    | (with_reducible apply Within.stepPower; (on_goal 1 => decide); (on_goal 1 => (intro _; rfl)))
    | (with_reducible apply Within.step (Mod.performStop_within ..); (on_goal 1 => decide))
    | (with_reducible apply Within.step (Mod.softStop_within ..); (on_goal 1 => decide))
    | (with_reducible apply Within.step (Mod.yield_within ..); (on_goal 1 => decide))
    | with_reducible apply Within.each
    | (intro _)

theorem Mod.closeSessions_within (m : Mod) (p : Session → Bool) : Within [.host, .store, .pair] m (Mod.closeSessions m p) := by
  unfold Mod.closeSessions
  repeat' first
    | with_reducible apply Within.refl
    | with_reducible assumption
    | with_reducible apply Within.ite
    | (with_reducible apply Within.step (Mod.closeSession_within ..); (on_goal 1 => decide))
    | with_reducible apply Within.each
    | (intro _)
    | split

theorem Mod.drawSeal_within (m : Mod) : Within [.power, .free] m m.drawSeal := by
  unfold Mod.drawSeal
  have h := Mod.freeBytes_within 4 m
  generalize Mod.freeBytes 4 m = x at h ⊢
  exact Within.stepPower (by decide) (fun _ => rfl) (h.mono (by decide))

theorem Mod.recordErase_within (m : Mod) (cause : Nat) : Within [.store, .power] m (Mod.recordErase m cause) := by
  unfold Mod.recordErase
  repeat' first
    | with_reducible apply Within.refl
    | with_reducible assumption
    | with_reducible apply Within.ite
    | (with_reducible apply Within.stepPower; (on_goal 1 => decide); (on_goal 1 => (intro _; rfl)))
    | (with_reducible apply Within.step (Mod.post_within ..); (on_goal 1 => decide))

theorem Mod.serviceEnd_within (m : Mod) : Within [.store, .upd] m (Mod.serviceEnd m) := by
  unfold Mod.serviceEnd
  repeat' first
    | with_reducible apply Within.refl
    | with_reducible assumption
    | with_reducible apply Within.ite
    | (with_reducible apply Within.step (Mod.onUpd_within ..); (on_goal 1 => decide))
    | (with_reducible apply Within.step (Mod.post_within ..); (on_goal 1 => decide))

theorem Mod.rvEnd_within (m : Mod) : Within [.store, .upd] m (Mod.rvEnd m) := by
  unfold Mod.rvEnd
  repeat' first
    | with_reducible apply Within.refl
    | with_reducible assumption
    | with_reducible apply Within.ite
    | (with_reducible apply Within.step (Mod.onUpd_within ..); (on_goal 1 => decide))
    | (with_reducible apply Within.step (Mod.serviceEnd_within ..); (on_goal 1 => decide))

theorem Mod.securityErase_within (m : Mod) (cause : Nat) : Within [.host, .store, .power, .pair, .upd, .free] m (m.securityErase cause) := by
  unfold Mod.securityErase
  dsimp only
  refine Within.step (Mod.recordErase_within ..) (by decide) (Within.step (Mod.cfgWrite_within ..) (by decide)
    (Within.step (Mod.rvEnd_within ..) (by decide) (Within.step (Mod.closeSessions_within ..) (by decide)
    (Within.step (Mod.drawSeal_within ..) (by decide) ?_))))
  refine .ofSame ?_ rfl rfl; intro p hp; cases p <;> first | exact absurd (by decide) hp | exact rfl | exact ⟨rfl, rfl, rfl⟩

theorem Mod.onFwSlot_within (m : Mod) (b : Bool) (f : FwSlot → FwSlot) : Within [.upd] m (Mod.onFwSlot m b f) := by
  unfold Mod.onFwSlot
  repeat' first
    | with_reducible apply Within.refl
    | with_reducible assumption
    | with_reducible apply Within.ite
    | (with_reducible apply Within.step (Mod.onUpd_within ..); (on_goal 1 => decide))

theorem buttonRearm_within (m : Mod) : Within [.power] m (buttonRearm m) := by
  unfold buttonRearm
  repeat' first
    | with_reducible apply Within.refl
    | with_reducible assumption
    | with_reducible apply Within.ite
    | (with_reducible apply Within.stepPower; (on_goal 1 => decide); (on_goal 1 => (intro _; rfl)))

theorem buttonStuck_within (m : Mod) : Within [.store, .power] m (buttonStuck m) := by
  unfold buttonStuck
  repeat' first
    | with_reducible apply Within.refl
    | with_reducible assumption
    | with_reducible apply Within.ite
    | (with_reducible apply Within.stepPower; (on_goal 1 => decide); (on_goal 1 => (intro _; rfl)))
    | (with_reducible apply Within.step (Mod.post_within ..); (on_goal 1 => decide))

theorem cellLow_within (mv : Nat) (m : Mod) : Within [.store, .power] m (cellLow mv m) := by
  unfold cellLow
  repeat' first
    | with_reducible apply Within.refl
    | with_reducible assumption
    | with_reducible apply Within.ite
    | (with_reducible apply Within.stepPower; (on_goal 1 => decide); (on_goal 1 => (intro _; rfl)))
    | (with_reducible apply Within.step (Mod.post_within ..); (on_goal 1 => decide))

theorem Mod.blankStart_within (m : Mod) : Within [.store, .power] m m.blankStart := by
  have h : ∀ m : Mod, Within [.store, .power] m (m.onPower fun p => { p.noKeys with
    cfSignature := 0x4B584346, savedIncr := 0x08000000, unpoweredViolation := none, blankSeen := true, locked := false }) := by
    intro m; exact Within.stepPower (by decide) (fun _ => rfl) (.refl ..)
  unfold Mod.blankStart
  dsimp only
  refine Within.step (Mod.recordErase_within ..) (by decide) (Within.trans ?_ (h _))
  split
  · exact Within.step (Mod.post_within ..) (by decide) (Within.step (Mod.post_within ..) (by decide) (.refl ..))
  · exact Within.step (Mod.post_within ..) (by decide) (.refl ..)

theorem Mod.loadFab_within (m : Mod) (b : Bool) : Within [.plan, .store, .chain, .est, .conv, .free] m (Mod.loadFab m b) := by
  unfold Mod.loadFab
  repeat' first
    | with_reducible apply Within.refl
    | with_reducible assumption
    | with_reducible apply Within.ite
    | (extract_lets +onlyGivenNames x; clear_value x; rename' x => y)
    | (with_reducible apply Within.stepPlan; (on_goal 1 => decide); (on_goal 1 => (intro _; exact ⟨rfl, rfl, rfl⟩)))
    | (intro _)
    | split

theorem Mod.bootInto_within (m : Mod) (b warm : Bool) : Within [.plan, .store, .chain, .est, .conv, .upd, .free] m (Mod.bootInto m b warm) := by
  unfold Mod.bootInto
  repeat' first
    | with_reducible apply Within.refl
    | with_reducible assumption
    | with_reducible apply Within.ite
    | (with_reducible apply Within.step (Mod.loadFab_within ..); (on_goal 1 => decide))
    | (with_reducible apply Within.step (Mod.onUpd_within ..); (on_goal 1 => decide))

theorem Mod.bootTry_within (ok : Bool → Bool) (r : Mod × Option Bool) (b : Bool) :
    Within [.store, .upd] r.1 (Mod.bootTry ok r b).1 := by
  have hp : ∀ (m : Mod) a b c d, Within [.store, .upd] m (m.post a b c d) := fun m a b c d => (Mod.post_within m a b c d).mono (by decide)
  have hf : ∀ (m : Mod) a f, Within [.store, .upd] m (m.onFwSlot a f) := fun m a f => (Mod.onFwSlot_within m a f).mono (by decide)
  obtain ⟨m, done⟩ := r
  unfold Mod.bootTry
  dsimp only
  split
  · exact .refl ..
  split
  · exact (hf ..).trans (hp ..)
  generalize hx : (if (m.fwSlot b).st = SlotState.trial then _ else m) = m1
  have h : Within [.store, .upd] m m1 := by
    rw [← hx]
    split
    · exact hf ..
    · exact .refl ..
  split
  · exact h
  · exact (h.trans (hf ..)).trans (hp ..)

theorem Mod.bootSelect_within (m : Mod) (ok : Bool → Bool) : Within [.store, .upd] m (m.bootSelect ok).1 :=
  Within.foldl (Mod.bootTry_within ok) _ (m, none)

theorem Mod.enterRecovery_within (m : Mod) :
    Within [.plan, .host, .store, .power, .conv, .prot, .safety, .pair, .can, .adc, .upd, .sent] m m.enterRecovery := by
  have h : ∀ m : Mod, Within [.plan, .host, .store, .power, .conv, .prot, .safety, .pair, .can, .adc, .upd, .sent] m ({ m with
    upd := { m.upd with recovery := true, trialSince := none, fioCan := 0, fioKl := 0 }, power := { m.power with state := .starting, restart := none }
    plan := { m.plan with mode := .stopped, warm := false, sp0Ok := false, sp1Ok := true, chnLock := 0, klnkLock := 0 }, can := {}, adc := {} }) := by
    intro m; refine .ofSame ?_ rfl rfl; intro p hp; cases p <;> first | exact absurd (by decide) hp | exact rfl | exact ⟨rfl, rfl⟩ | exact ⟨rfl, rfl, rfl⟩
  unfold Mod.enterRecovery
  dsimp only
  refine Within.trans ?_ (h _)
  refine Within.step (Mod.closeSessions_within ..) (by decide) (Within.each (fun m x => (Mod.switchOff_within m x).mono (by decide)) ?_)
  exact (Mod.post_within ..).mono (by decide)

theorem Mod.otpCheck_within (m : Mod) : Within [.store, .adc, .upd] m (Mod.otpCheck m) := by
  unfold Mod.otpCheck
  repeat' first
    | with_reducible apply Within.refl
    | with_reducible assumption
    | with_reducible apply Within.ite
    | (with_reducible apply Within.step (Mod.onAdcConv_within ..); (on_goal 1 => decide))
    | (with_reducible apply Within.step (Mod.onUpd_within ..); (on_goal 1 => decide))
    | (with_reducible apply Within.step (Mod.post_within ..); (on_goal 1 => decide))
    | with_reducible apply Within.each
    | (intro _)

theorem Mod.retained_within (m : Mod) (cold : Bool) :
    Within [.plan, .clock, .host, .store, .power, .chain, .est, .conv, .disp, .prot, .safety, .pair, .time, .can, .adc, .upd] m (m.retained cold) := by
  refine ⟨?_, List.suffix_rfl, fun _ => rfl⟩; intro p hp; cases p <;> first | exact absurd (by decide) hp | exact rfl | exact ⟨rfl, rfl, rfl⟩

theorem Mod.startPlan_within (m : Mod) : Within [.plan, .store] m (Mod.startPlan m) := by
  unfold Mod.startPlan
  repeat' first
    | with_reducible apply Within.refl
    | with_reducible assumption
    | with_reducible apply Within.ite
    | (with_reducible apply Within.stepPlan; (on_goal 1 => decide); (on_goal 1 => (intro _; exact ⟨rfl, rfl, rfl⟩)))
    | (with_reducible apply Within.step (Mod.planRefused_within ..); (on_goal 1 => decide))
    | (intro _)
    | split

theorem Mod.startFabric_within (m : Mod) (env : StartEnv) (lostMs : Nat) (outMs : Option Nat) : Within [.plan, .store, .power, .chain, .est, .disp, .prot, .adc, .upd, .sent] m (Mod.startFabric m env lostMs outMs) := by
  unfold Mod.startFabric
  repeat' first
    | with_reducible apply Within.refl
    | with_reducible assumption
    | with_reducible apply Within.ite
    | (extract_lets +onlyGivenNames x; first | (refine Within.cut (x := x) ?_ ?_; (on_goal 1 => (unfold x; clear x)); on_goal 2 => (intro hx; clear_value x; rename' x => y)) | (clear_value x; rename' x => y))
    | (with_reducible apply Within.stepPlan; (on_goal 1 => decide); (on_goal 1 => (intro _; exact ⟨rfl, rfl, rfl⟩)))
    | (with_reducible apply Within.stepPower; (on_goal 1 => decide); (on_goal 1 => (intro _; rfl)))
    | (with_reducible apply Within.step (Mod.estStart_within ..); (on_goal 1 => decide))
    | (with_reducible apply Within.step (Mod.wakeRing_within ..); (on_goal 1 => decide))
    | (with_reducible apply Within.step (Mod.ocActivate_within ..); (on_goal 1 => decide))
    | (with_reducible apply Within.step (Mod.calStart_within ..); (on_goal 1 => decide))
    | (with_reducible apply Within.step (Mod.startPlan_within ..); (on_goal 1 => decide))
    | (with_reducible apply Within.step (Mod.onUpd_within ..); (on_goal 1 => decide))
    | (with_reducible apply Within.step (Mod.onStrDisp_within ..); (on_goal 1 => decide))
    | with_reducible apply Within.each
    | (intro _)
    | split

theorem Mod.lockModule_within (m : Mod) (source : Nat) : Within [.host, .store, .power, .pair, .upd] m (Mod.lockModule m source) := by
  unfold Mod.lockModule
  repeat' first
    | with_reducible apply Within.refl
    | with_reducible assumption
    | with_reducible apply Within.ite
    | (extract_lets +onlyGivenNames x; first | (refine Within.cut (x := x) ?_ ?_; (on_goal 1 => (unfold x; clear x)); on_goal 2 => (intro hx; clear_value x; rename' x => y)) | (clear_value x; rename' x => y))
    | (with_reducible apply Within.stepPower; (on_goal 1 => decide); (on_goal 1 => (intro _; rfl)))
    | (with_reducible apply Within.step (Mod.closeSessions_within ..); (on_goal 1 => decide))
    | (with_reducible apply Within.step (Mod.rvEnd_within ..); (on_goal 1 => decide))
    | (with_reducible apply Within.step (Mod.post_within ..); (on_goal 1 => decide))
    | (intro _)
    | split

theorem Mod.violation_within (m : Mod) (source : Nat) : Within [.host, .store, .power, .pair, .upd, .free] m (Mod.violation m source) := by
  unfold Mod.violation
  repeat' first
    | with_reducible apply Within.refl
    | with_reducible assumption
    | with_reducible apply Within.ite
    | (extract_lets +onlyGivenNames x; first | (refine Within.cut (x := x) ?_ ?_; (on_goal 1 => (unfold x; clear x)); on_goal 2 => (intro hx; clear_value x; rename' x => y)) | (clear_value x; rename' x => y))
    | (with_reducible apply Within.stepPower; (on_goal 1 => decide); (on_goal 1 => (intro _; rfl)))
    | (with_reducible apply Within.step (Mod.securityErase_within ..); (on_goal 1 => decide))
    | (with_reducible apply Within.step (Mod.lockModule_within ..); (on_goal 1 => decide))
    | (with_reducible apply Within.step (Mod.post_within ..); (on_goal 1 => decide))
    | (intro _)
    | split

theorem Mod.unpoweredErase_within (m : Mod) : Within [.store, .power] m m.unpoweredErase := by
  refine .ofSame ?_ rfl rfl; intro p hp; cases p <;> first | exact absurd (by decide) hp | exact rfl | exact ⟨rfl, rfl, rfl⟩

theorem Mod.coldFrameLost_within (m : Mod) : Within [.store, .power] m (Mod.coldFrameLost m) := by
  unfold Mod.coldFrameLost
  repeat' first
    | with_reducible apply Within.refl
    | with_reducible assumption
    | with_reducible apply Within.ite
    | (with_reducible apply Within.stepPower; (on_goal 1 => decide); (on_goal 1 => (intro _; rfl)))
    | (with_reducible apply Within.step (Mod.unpoweredErase_within ..); (on_goal 1 => decide))
    | (intro _)
    | split

theorem Mod.loadWindows_within (m : Mod) (l : List (Nat × List (Nat × Nat × Bool))) : Within [.store] m (Mod.loadWindows m l) := by
  unfold Mod.loadWindows
  dsimp only
  repeat' first
    | with_reducible apply Within.refl
    | with_reducible assumption
    | with_reducible apply Within.ite
    | (with_reducible apply Within.step (Mod.onDma_within ..); (on_goal 1 => decide))
    | with_reducible apply Within.each
    | (intro _)
    | split

theorem Mod.startUp_within (m : Mod) (cold : Bool) (cause : Nat) (env : StartEnv) : Within [.plan, .clock, .host, .store, .power, .chain, .est, .conv, .disp, .prot, .safety, .pair, .time, .can, .adc, .upd, .sent, .free] m (Mod.startUp m cold cause env) := by
  unfold Mod.startUp
  dsimp only
  repeat' first
    | with_reducible apply Within.refl
    | with_reducible assumption
    | with_reducible apply Within.ite
    | (with_reducible apply Within.stepPlan; (on_goal 1 => decide); (on_goal 1 => (intro _; exact ⟨rfl, rfl, rfl⟩)))
    | (with_reducible apply Within.stepPower; (on_goal 1 => decide); (on_goal 1 => (intro _; rfl)))
    | (with_reducible apply Within.step (Mod.timeStart_within ..); (on_goal 1 => decide))
    | (with_reducible apply Within.step (Mod.archGap_within ..); (on_goal 1 => decide))
    | (with_reducible apply Within.step (Mod.cfgStart_within ..); (on_goal 1 => decide))
    | (with_reducible apply Within.step (Mod.recStart_within ..); (on_goal 1 => decide))
    | (with_reducible apply Within.step (Mod.criticalFault_within ..); (on_goal 1 => decide))
    | (with_reducible apply Within.step (safetyCoreFault_within ..); (on_goal 1 => decide))
    | (with_reducible apply Within.step (Mod.cancelActivation_within ..); (on_goal 1 => decide))
    | (with_reducible apply Within.step (Mod.startFunctions_within ..); (on_goal 1 => decide))
    | (with_reducible apply Within.step (Mod.drawSeal_within ..); (on_goal 1 => decide))
    | (with_reducible apply Within.step (cellLow_within ..); (on_goal 1 => decide))
    | (with_reducible apply Within.step (Mod.blankStart_within ..); (on_goal 1 => decide))
    | (with_reducible apply Within.step (Mod.bootInto_within ..); (on_goal 1 => decide))
    | (with_reducible apply Within.step (Mod.bootSelect_within ..); (on_goal 1 => decide))
    | (with_reducible apply Within.step (Mod.enterRecovery_within ..); (on_goal 1 => decide))
    | (with_reducible apply Within.step (Mod.otpCheck_within ..); (on_goal 1 => decide))
    | (with_reducible apply Within.step (Mod.retained_within ..); (on_goal 1 => decide))
    | (with_reducible apply Within.step (Mod.startFabric_within ..); (on_goal 1 => decide))
    | (with_reducible apply Within.step (Mod.violation_within ..); (on_goal 1 => decide))
    | (with_reducible apply Within.step (Mod.coldFrameLost_within ..); (on_goal 1 => decide))
    | (with_reducible apply Within.step (Mod.loadWindows_within ..); (on_goal 1 => decide))
    | (with_reducible apply Within.step (Mod.onProt_within ..); (on_goal 1 => decide))
    | (with_reducible apply Within.step (Mod.onSafety_within ..); (on_goal 1 => decide))
    | (with_reducible apply Within.step (Mod.post_within ..); (on_goal 1 => decide))
    | (intro _)
    | split

theorem insertion_within (m : Mod) : Within [.power, .pair] m (insertion m) := by
  unfold insertion
  repeat' first
    | with_reducible apply Within.refl
    | with_reducible assumption
    | with_reducible apply Within.ite
    | (with_reducible apply Within.step (Mod.onPair_within ..); (on_goal 1 => decide))
    | (with_reducible apply Within.stepPower; (on_goal 1 => decide); (on_goal 1 => (intro _; rfl)))

theorem coldStart_within (insertion : Bool) (env : StartEnv) (m : Mod) : Within [.plan, .clock, .host, .store, .power, .chain, .est, .conv, .disp, .prot, .safety, .pair, .time, .can, .adc, .upd, .sent, .free] m (coldStart insertion env m) := by
  unfold coldStart
  repeat' first
    | with_reducible apply Within.refl
    | with_reducible assumption
    | with_reducible apply Within.ite
    | (extract_lets +onlyGivenNames x; first | (refine Within.cut (x := x) ?_ ?_; (on_goal 1 => (unfold x; clear x)); on_goal 2 => (intro hx; clear_value x; rename' x => y)) | (clear_value x; rename' x => y))
    | (with_reducible apply Within.step (Mod.startUp_within ..); (on_goal 1 => decide))
    | (with_reducible apply Within.step (insertion_within ..); (on_goal 1 => decide))
    | (with_reducible apply Within.step (Mod.onPair_within ..); (on_goal 1 => decide))
    | (intro _)
    | split

theorem dramUeRead_within (addr reader bed slotId : Nat) (use : DmaUse) (m : Mod) : Within [.plan, .host, .store, .power, .est, .conv, .pair, .time, .upd, .sent] m (dramUeRead addr reader bed slotId use m) := by
  unfold dramUeRead
  repeat' first
    | with_reducible apply Within.refl
    | with_reducible assumption
    | with_reducible apply Within.ite
    | (extract_lets +onlyGivenNames x; first | (refine Within.cut (x := x) ?_ ?_; (on_goal 1 => (unfold x; clear x)); on_goal 2 => (intro hx; clear_value x; rename' x => y)) | (clear_value x; rename' x => y))
    | (with_reducible apply Within.step (Mod.poison_within ..); (on_goal 1 => decide))
    | (with_reducible apply Within.step (Mod.failUse_within ..); (on_goal 1 => decide))
    | (with_reducible apply Within.step (Mod.ueRing_within ..); (on_goal 1 => decide))
    | (with_reducible apply Within.step (Mod.warmRestart_within ..); (on_goal 1 => decide))
    | (with_reducible apply Within.step (overrunAt_within ..); (on_goal 1 => decide))
    | (intro _)
    | split

theorem Mod.yieldOrRamp_within (m : Mod) : Within [.plan, .store, .conv, .pair, .sent] m (Mod.yieldOrRamp m) := by
  unfold Mod.yieldOrRamp
  repeat' first
    | with_reducible apply Within.refl
    | with_reducible assumption
    | with_reducible apply Within.ite
    | (with_reducible apply Within.step (Mod.linkTo_within ..); (on_goal 1 => decide))
    | (with_reducible apply Within.step (Mod.yield_within ..); (on_goal 1 => decide))
    | with_reducible apply Within.each
    | (intro _)

theorem extractionWarning_within (m : Mod) : Within [.plan, .store, .power, .conv, .pair, .sent] m (extractionWarning m) := by
  unfold extractionWarning
  repeat' first
    | with_reducible apply Within.refl
    | with_reducible assumption
    | with_reducible apply Within.ite
    | (extract_lets +onlyGivenNames x; first | (refine Within.cut (x := x) ?_ ?_; (on_goal 1 => (unfold x; clear x)); on_goal 2 => (intro hx; clear_value x; rename' x => y)) | (clear_value x; rename' x => y))
    | (with_reducible apply Within.stepPower; (on_goal 1 => decide); (on_goal 1 => (intro _; rfl)))
    | (with_reducible apply Within.step (Mod.cancelActivation_within ..); (on_goal 1 => decide))
    | (with_reducible apply Within.step (Mod.yieldOrRamp_within ..); (on_goal 1 => decide))
    | (with_reducible apply Within.step (Mod.onPair_within ..); (on_goal 1 => decide))
    | (with_reducible apply Within.step (Mod.startFlush_within ..); (on_goal 1 => decide))
    | (intro _)
    | split

theorem Mod.factoryItems_within (m : Mod) :
    Within [.plan, .host, .store, .power, .chain, .est, .disp, .safety, .pair] m m.factoryItems := by
  refine .ofSame ?_ rfl rfl; intro p hp; cases p <;> first | exact absurd (by decide) hp | exact rfl | exact ⟨rfl, rfl⟩ | exact ⟨rfl, rfl, rfl⟩

theorem Mod.factoryEnd_within (m : Mod) : Within [.plan, .host, .store, .power, .chain, .est, .disp, .safety, .pair] m (Mod.factoryEnd m) := by
  unfold Mod.factoryEnd
  repeat' first
    | with_reducible apply Within.refl
    | with_reducible assumption
    | with_reducible apply Within.ite
    | (with_reducible apply Within.step (Mod.factoryItems_within ..); (on_goal 1 => decide))
    | (intro _)
    | split

theorem holdupExhausted_within (m : Mod) : Within [.plan, .clock, .host, .store, .power, .chain, .est, .conv, .disp, .prot, .safety, .pair, .time, .can, .adc, .upd, .free] m (holdupExhausted m) := by
  unfold holdupExhausted
  repeat' first
    | with_reducible apply Within.refl
    | with_reducible assumption
    | with_reducible apply Within.ite
    | (extract_lets +onlyGivenNames x; first | (refine Within.cut (x := x) ?_ ?_; (on_goal 1 => (unfold x; clear x)); on_goal 2 => (intro hx; clear_value x; rename' x => y)) | (clear_value x; rename' x => y))
    | (with_reducible apply Within.stepPower; (on_goal 1 => decide); (on_goal 1 => (intro _; rfl)))
    | (with_reducible apply Within.step (configWriteComplete_within ..); (on_goal 1 => decide))
    | (with_reducible apply Within.step (Mod.flushCut_within ..); (on_goal 1 => decide))
    | (with_reducible apply Within.step (Mod.retained_within ..); (on_goal 1 => decide))
    | (with_reducible apply Within.step (Mod.factoryEnd_within ..); (on_goal 1 => decide))
    | (intro _)
    | split

theorem Mod.restartFlush_within (m : Mod) : Within [.host, .store] m (Mod.restartFlush m) := by
  unfold Mod.restartFlush
  repeat' first
    | with_reducible apply Within.refl
    | with_reducible assumption
    | with_reducible apply Within.ite
    | (with_reducible apply Within.step (Mod.startFlush_within ..); (on_goal 1 => decide))
    | (with_reducible apply Within.step (configWriteComplete_within ..); (on_goal 1 => decide))
    | (with_reducible apply Within.step (flushComplete_within ..); (on_goal 1 => decide))

theorem moduleRestart_within (env : StartEnv) (m : Mod) : Within [.plan, .clock, .host, .store, .power, .chain, .est, .conv, .disp, .prot, .safety, .pair, .time, .can, .adc, .upd, .sent, .free] m (moduleRestart env m) := by
  unfold moduleRestart
  repeat' first
    | with_reducible apply Within.refl
    | with_reducible assumption
    | with_reducible apply Within.ite
    | (extract_lets +onlyGivenNames x; first | (refine Within.cut (x := x) ?_ ?_; (on_goal 1 => (unfold x; clear x)); on_goal 2 => (intro hx; clear_value x; rename' x => y)) | (clear_value x; rename' x => y))
    | (with_reducible apply Within.step (Mod.cancelActivation_within ..); (on_goal 1 => decide))
    | (with_reducible apply Within.step (Mod.rvEnd_within ..); (on_goal 1 => decide))
    | (with_reducible apply Within.step (Mod.startUp_within ..); (on_goal 1 => decide))
    | (with_reducible apply Within.step (Mod.factoryItems_within ..); (on_goal 1 => decide))
    | (with_reducible apply Within.step (Mod.restartFlush_within ..); (on_goal 1 => decide))
    | (intro _)
    | split

theorem powerFailure_within (vin : Nat) (m : Mod) : Within [.plan, .store, .power, .conv, .pair, .sent] m (powerFailure vin m) := by
  unfold powerFailure
  repeat' first
    | with_reducible apply Within.refl
    | with_reducible assumption
    | with_reducible apply Within.ite
    | (extract_lets +onlyGivenNames x; first | (refine Within.cut (x := x) ?_ ?_; (on_goal 1 => (unfold x; clear x)); on_goal 2 => (intro hx; clear_value x; rename' x => y)) | (clear_value x; rename' x => y))
    | (with_reducible apply Within.stepPower; (on_goal 1 => decide); (on_goal 1 => (intro _; rfl)))
    | (with_reducible apply Within.step (Mod.cancelActivation_within ..); (on_goal 1 => decide))
    | (with_reducible apply Within.step (Mod.yieldOrRamp_within ..); (on_goal 1 => decide))
    | (with_reducible apply Within.step (Mod.startFlush_within ..); (on_goal 1 => decide))
    | (with_reducible apply Within.step (Mod.post_within ..); (on_goal 1 => decide))
    | (intro _)
    | split

theorem powerRecovered_within (env : StartEnv) (m : Mod) : Within [.plan, .clock, .host, .store, .power, .chain, .est, .conv, .disp, .prot, .safety, .pair, .time, .can, .adc, .upd, .sent, .free] m (powerRecovered env m) := by
  unfold powerRecovered
  repeat' first
    | with_reducible apply Within.refl
    | with_reducible assumption
    | with_reducible apply Within.ite
    | (with_reducible apply Within.step (configWriteComplete_within ..); (on_goal 1 => decide))
    | (with_reducible apply Within.step (Mod.startUp_within ..); (on_goal 1 => decide))
    | (with_reducible apply Within.step (Mod.factoryEnd_within ..); (on_goal 1 => decide))
    | (intro _)
    | split

theorem presenceReturn_within (env : StartEnv) (m : Mod) : Within [.plan, .clock, .host, .store, .power, .chain, .est, .conv, .disp, .prot, .safety, .pair, .time, .can, .adc, .upd, .sent, .free] m (presenceReturn env m) := by
  unfold presenceReturn
  repeat' first
    | with_reducible apply Within.refl
    | with_reducible assumption
    | with_reducible apply Within.ite
    | (with_reducible apply Within.step (configWriteComplete_within ..); (on_goal 1 => decide))
    | (with_reducible apply Within.step (Mod.startUp_within ..); (on_goal 1 => decide))
    | (with_reducible apply Within.step (Mod.factoryEnd_within ..); (on_goal 1 => decide))
    | (with_reducible apply Within.step (Mod.onPair_within ..); (on_goal 1 => decide))
    | (intro _)
    | split

theorem restartButtonPress_within (m : Mod) : Within [.power] m (restartButtonPress m) := by
  unfold restartButtonPress
  repeat' first
    | with_reducible apply Within.refl
    | with_reducible assumption
    | with_reducible apply Within.ite
    | (with_reducible apply Within.stepPower; (on_goal 1 => decide); (on_goal 1 => (intro _; rfl)))

theorem restartButtonRelease_within (m : Mod) : Within [.plan, .store, .power, .conv, .disp, .pair, .time, .upd, .sent] m (restartButtonRelease m) := by
  unfold restartButtonRelease
  repeat' first
    | with_reducible apply Within.refl
    | with_reducible assumption
    | with_reducible apply Within.ite
    | (extract_lets +onlyGivenNames x; first | (refine Within.cut (x := x) ?_ ?_; (on_goal 1 => (unfold x; clear x)); on_goal 2 => (intro hx; clear_value x; rename' x => y)) | (clear_value x; rename' x => y))
    | (with_reducible apply Within.stepPower; (on_goal 1 => decide); (on_goal 1 => (intro _; rfl)))
    | (with_reducible apply Within.step (Mod.warmRestart_within ..); (on_goal 1 => decide))
    | (with_reducible apply Within.step (Mod.requestRestart_within ..); (on_goal 1 => decide))
    | (with_reducible apply Within.step (Mod.post_within ..); (on_goal 1 => decide))
    | (intro _)
    | split

theorem secViolation_within (source : Nat) (powered holds : Bool) (m : Mod) : Within [.host, .store, .power, .pair, .upd, .free] m (secViolation source powered holds m) := by
  unfold secViolation
  repeat' first
    | with_reducible apply Within.refl
    | with_reducible assumption
    | with_reducible apply Within.ite
    | (extract_lets +onlyGivenNames x; first | (refine Within.cut (x := x) ?_ ?_; (on_goal 1 => (unfold x; clear x)); on_goal 2 => (intro hx; clear_value x; rename' x => y)) | (clear_value x; rename' x => y))
    | (with_reducible apply Within.stepPower; (on_goal 1 => decide); (on_goal 1 => (intro _; rfl)))
    | (with_reducible apply Within.step (Mod.unpoweredErase_within ..); (on_goal 1 => decide))
    | (with_reducible apply Within.step (Mod.violation_within ..); (on_goal 1 => decide))
    | (intro _)
    | split

theorem strapRecheck_within (pins : BitVec 9) (m : Mod) : Within [.store, .power] m (strapRecheck pins m) := by
  unfold strapRecheck
  repeat' first
    | with_reducible apply Within.refl
    | with_reducible assumption
    | with_reducible apply Within.ite
    | (with_reducible apply Within.stepPower; (on_goal 1 => decide); (on_goal 1 => (intro _; rfl)))
    | (with_reducible apply Within.step (Mod.post_within ..); (on_goal 1 => decide))

end Sys2Proof.Machine
end

