-- ==== Sys2Proof/Laws/RegsFrame.lean ====
section
/-! SUPPORT. Which parts of the module each operation of Machine/Regs.lean can change. -/

namespace Sys2Proof.Machine

theorem Mod.freeCodes_within (k : Nat) (m : Mod) : Within [.free] m (Mod.freeCodes k m).2 := by
  induction k generalizing m with
  | zero => exact .refl ..
  | succ k ih => exact (Mod.free_within m).trans (ih _)

theorem Mod.adcCtrlWrite_within (m : Mod) (v : W32) : Within [.prot, .adc, .free] m (m.adcCtrlWrite v).1 := by
  unfold Mod.adcCtrlWrite
  dsimp only
  refine Within.step (adcCtrlCal_within ..) (by decide) (Within.each (fun m c => ?_) ?_)
  · exact Within.step (adcCtrlInjGo_within ..) (by decide) (((Mod.freeCodes_within 4 m).trans (Mod.free_within _)).mono (by decide))
  · split
    · exact (adcCtrlClr_within ..).mono (by decide)
    · exact .refl ..

theorem Mod.canCtrlWrite_within (m : Mod) (p : Nat) (v : W32) : Within [.can] m (Mod.canCtrlWrite m p v) := by
  unfold Mod.canCtrlWrite
  repeat' first
    | with_reducible apply Within.refl
    | with_reducible assumption
    | with_reducible apply Within.ite
    | (with_reducible apply Within.step (canCtrlAbortAll_within ..); (on_goal 1 => decide))
    | (with_reducible apply Within.step (canCtrlClearFlags_within ..); (on_goal 1 => decide))
    | (with_reducible apply Within.step (canCtrlDetect_within ..); (on_goal 1 => decide))
    | (with_reducible apply Within.step (canCtrlRecover_within ..); (on_goal 1 => decide))

theorem Mod.canTxwWrite_within (m : Mod) (p j : Nat) (v : W32) : Within [.pair, .can, .sent] m (Mod.canTxwWrite m p j v).1 := by
  unfold Mod.canTxwWrite
  repeat' first
    | with_reducible apply Within.refl
    | with_reducible assumption
    | with_reducible apply Within.ite
    | with_reducible apply Within.iteFst
    | (with_reducible apply Within.step (Mod.canGo_within ..); (on_goal 1 => decide))
    | (with_reducible apply Within.step (Mod.onPort_within ..); (on_goal 1 => decide))
    | (intro _)
    | split

theorem Mod.diagWrite_within (m : Mod) (off : Nat) (v : W32) : Within [.store, .prot, .pair, .time, .can, .adc, .sent, .free] m (Mod.diagWrite m off v).1 := by
  unfold Mod.diagWrite
  repeat' first
    | with_reducible apply Within.refl
    | with_reducible assumption
    | with_reducible apply Within.ite
    | with_reducible apply Within.iteFst
    | (with_reducible apply Within.step (Mod.timeStatWrite_within ..); (on_goal 1 => decide))
    | (with_reducible apply Within.step (recCurPosWrite_within ..); (on_goal 1 => decide))
    | (with_reducible apply Within.step (Mod.adcCtrlWrite_within ..); (on_goal 1 => decide))
    | (with_reducible apply Within.step (Mod.canCtrlWrite_within ..); (on_goal 1 => decide))
    | (with_reducible apply Within.step (Mod.canTxwWrite_within ..); (on_goal 1 => decide))
    | (intro _)
    | split

theorem Mod.latchesEnd_within (m : Mod) : Within [.plan, .store, .disp, .time] m (Mod.latchesEnd m) := by
  refine .ofSame ?_ rfl rfl; intro p hp; cases p <;> first | exact absurd (by decide) hp | exact rfl | exact ⟨rfl, rfl, rfl⟩

theorem Mod.readEffect_within (off : Nat) (m : Mod) : Within [.plan, .store, .disp, .time] m (Mod.readEffect off m) := by
  unfold Mod.readEffect
  repeat' first
    | with_reducible apply Within.refl
    | with_reducible assumption
    | with_reducible apply Within.ite
    | (with_reducible apply Within.step (Mod.latchesEnd_within ..); (on_goal 1 => decide))
    | (with_reducible apply Within.step (dramUeLoRead_within ..); (on_goal 1 => decide))
    | (with_reducible apply Within.step (grnNowRead_within ..); (on_goal 1 => decide))
    | (with_reducible apply Within.step (recCurDataLastRead_within ..); (on_goal 1 => decide))
    | (with_reducible apply Within.step (s64LowRead_within ..); (on_goal 1 => decide))
    | (with_reducible apply Within.step (timeNsRead_within ..); (on_goal 1 => decide))
    | (with_reducible apply Within.step (timeSecLoRead_within ..); (on_goal 1 => decide))

theorem Mod.diagRead_within (off : Nat) (m : Mod) : Within [.plan, .store, .disp, .time] m (Mod.diagRead off m).2 := by
  unfold Mod.diagRead
  repeat' first
    | with_reducible apply Within.refl
    | with_reducible assumption
    | with_reducible apply Within.ite
    | with_reducible apply Within.iteSnd
    | (with_reducible apply Within.step (Mod.readEffect_within ..); (on_goal 1 => decide))
    | (intro _)
    | split

end Sys2Proof.Machine
end

