-- ==== Sys2Proof/Laws/HostFrame.lean ====
section
/-! SUPPORT. Which parts of the module each operation of Machine/Host.lean can change. -/

namespace Sys2Proof.Machine

theorem Mod.acted_within (m : Mod) (st : Nat) (tlvs : List Tlv) : Within [] m (Mod.acted m st tlvs).1 := by
  unfold Mod.acted
  repeat' first
    | with_reducible apply Within.refl

theorem refuse_within (m : Mod) (st type off item : Nat) : Within [] m (refuse m st type off item).1 := by
  unfold refuse
  repeat' first
    | with_reducible apply Within.refl

theorem Mod.diagReads_within (l : List Nat) (m : Mod) : Within [.plan, .store, .disp, .time] m (Mod.diagReads l m).2 := by
  induction l generalizing m with
  | nil => exact .refl ..
  | cons o l ih => exact ((Mod.readEffect_within o m).mono (by decide)).trans (ih _)

theorem hDiagRead_within (r : Req) (m : Mod) : Within [.plan, .store, .disp, .time] m (hDiagRead r m).1 := by
  unfold hDiagRead
  dsimp only
  split
  · exact .refl ..
  · exact Mod.diagReads_within ..

theorem Mod.diagWrites_within (l : List (Nat × W32)) (m : Mod) :
    Within [.store, .prot, .pair, .time, .can, .adc, .sent, .free] m (Mod.diagWrites l m).1 := by
  unfold Mod.diagWrites
  dsimp only
  split
  · exact .refl ..
  · refine Within.foldl ?_ l (m, 0)
    intro x e
    exact Mod.diagWrite_within ..

theorem hDiagWrite_within (r : Req) (m : Mod) : Within [.store, .prot, .pair, .time, .can, .adc, .sent, .free] m (hDiagWrite r m).1 := by
  unfold hDiagWrite
  repeat' first
    | with_reducible apply Within.refl
    | with_reducible assumption
    | with_reducible apply Within.ite
    | with_reducible apply Within.iteFst
    | with_reducible apply Within.acted
    | with_reducible apply Within.refuse
    | (extract_lets +onlyGivenNames x; first | (refine Within.cut (x := x) ?_ ?_; (on_goal 1 => (unfold x; clear x)); on_goal 2 => (intro hx; clear_value x; rename' x => y)) | (clear_value x; rename' x => y))
    | (with_reducible apply Within.step (Mod.acted_within ..); (on_goal 1 => decide))
    | (with_reducible apply Within.step (refuse_within ..); (on_goal 1 => decide))
    | (with_reducible apply Within.step (Mod.diagWrites_within ..); (on_goal 1 => decide))
    | (intro _)
    | split

theorem hMbxAck_within (r : Req) (m : Mod) : Within [.host] m (hMbxAck r m).1 := by
  unfold hMbxAck
  repeat' first
    | with_reducible apply Within.refl
    | with_reducible assumption
    | with_reducible apply Within.ite
    | with_reducible apply Within.iteFst
    | (extract_lets +onlyGivenNames x; refine Within.cut (x := x) ?_ ?_; (on_goal 1 => (unfold x; clear x)); on_goal 2 => (intro hx; clear_value x; rename' x => y))
    | (with_reducible apply Within.step (Mod.onMbx_within ..); (on_goal 1 => decide))
    | (with_reducible apply Within.step (refuse_within ..); (on_goal 1 => decide))

theorem hMbxPost_within (r : Req) (m : Mod) : Within [.host, .store, .sent] m (hMbxPost r m).1 := by
  unfold hMbxPost
  repeat' first
    | with_reducible apply Within.refl
    | with_reducible assumption
    | with_reducible apply Within.ite
    | with_reducible apply Within.iteFst
    | with_reducible apply Within.refuse
    | (extract_lets +onlyGivenNames x; first | (refine Within.cut (x := x) ?_ ?_; (on_goal 1 => (unfold x; clear x)); on_goal 2 => (intro hx; clear_value x; rename' x => y)) | (clear_value x; rename' x => y))
    | (with_reducible apply Within.step (Mod.onMbx_within ..); (on_goal 1 => decide))
    | (with_reducible apply Within.step (refuse_within ..); (on_goal 1 => decide))
    | (with_reducible apply Within.step (Mod.mbxOut_within ..); (on_goal 1 => decide))
    | (with_reducible apply Within.step (Mod.out_within ..); (on_goal 1 => decide))
    | (with_reducible apply Within.step (Mod.post_within ..); (on_goal 1 => decide))
    | (intro _)
    | split

theorem hMbxRead_within (r : Req) (m : Mod) : Within [] m (hMbxRead r m).1 := by
  unfold hMbxRead
  repeat' first
    | with_reducible apply Within.refl

theorem hNoticeAck_within (r : Req) (m : Mod) : Within [.host] m (hNoticeAck r m).1 := by
  unfold hNoticeAck
  repeat' first
    | with_reducible apply Within.refl
    | with_reducible assumption
    | with_reducible apply Within.ite
    | with_reducible apply Within.iteFst
    | (with_reducible apply Within.step (Mod.onSession_within ..); (on_goal 1 => decide))

theorem hParamRead_within (r : Req) (m : Mod) : Within [] m (hParamRead r m).1 := by
  unfold hParamRead
  repeat' first
    | with_reducible apply Within.refl
    | with_reducible assumption
    | with_reducible apply Within.ite
    | with_reducible apply Within.iteFst
    | (extract_lets +onlyGivenNames x; clear_value x; rename' x => y)
    | (with_reducible apply Within.step (refuse_within ..); (on_goal 1 => decide))
    | with_reducible apply Within.refuse
    | (intro _)
    | split

theorem Mod.freeReserved_within (m : Mod) (port : Int) : Within [.host] m (Mod.freeReserved m port) := by
  unfold Mod.freeReserved
  repeat' first
    | with_reducible apply Within.refl
    | with_reducible assumption
    | with_reducible apply Within.ite
    | (with_reducible apply Within.step (Mod.setPar_within ..); (on_goal 1 => decide))
    | with_reducible apply Within.each
    | (intro _)
    | split

theorem Mod.credChanged_within (m : Mod) (c : Nat) : Within [.host, .upd] m (Mod.credChanged m c) := by
  unfold Mod.credChanged
  dsimp only
  repeat' first
    | with_reducible apply Within.refl
    | with_reducible assumption
    | with_reducible apply Within.ite
    | (with_reducible apply Within.stepHost; (on_goal 1 => decide); (on_goal 1 => (intro _ h; exact h)))
    | (with_reducible apply Within.step (Mod.onUpd_within ..); (on_goal 1 => decide))
    | (intro _)
    | split

theorem Mod.writeParams_within (m : Mod) (vals : List (Nat × Int)) : Within [.host, .store, .pair, .time, .upd] m (Mod.writeParams m vals) := by
  unfold Mod.writeParams
  repeat' first
    | with_reducible apply Within.refl
    | with_reducible assumption
    | with_reducible apply Within.ite
    | (extract_lets +onlyGivenNames x; first | (refine Within.cut (x := x) ?_ ?_; (on_goal 1 => (unfold x; clear x)); on_goal 2 => (intro hx; clear_value x; rename' x => y)) | (clear_value x; rename' x => y))
    | (with_reducible apply Within.step (Mod.cfgWrite_within ..); (on_goal 1 => decide))
    | (with_reducible apply Within.step (Mod.setPar_within ..); (on_goal 1 => decide))
    | (with_reducible apply Within.step (Mod.capture_within ..); (on_goal 1 => decide))
    | (with_reducible apply Within.step (Mod.freeReserved_within ..); (on_goal 1 => decide))
    | (with_reducible apply Within.step (Mod.credChanged_within ..); (on_goal 1 => decide))
    | (with_reducible apply Within.step (Mod.onTime_within ..); (on_goal 1 => decide))
    | with_reducible apply Within.each
    | (intro _)
    | split

theorem hParamWrite_within (r : Req) (m : Mod) : Within [.host, .store, .pair, .time, .upd] m (hParamWrite r m).1 := by
  unfold hParamWrite
  repeat' first
    | with_reducible apply Within.refl
    | with_reducible assumption
    | with_reducible apply Within.ite
    | with_reducible apply Within.iteFst
    | with_reducible apply Within.acted
    | with_reducible apply Within.refuse
    | (extract_lets +onlyGivenNames x; first | (refine Within.cut (x := x) ?_ ?_; (on_goal 1 => (unfold x; clear x)); on_goal 2 => (intro hx; clear_value x; rename' x => y)) | (clear_value x; rename' x => y))
    | (with_reducible apply Within.step (Mod.acted_within ..); (on_goal 1 => decide))
    | (with_reducible apply Within.step (refuse_within ..); (on_goal 1 => decide))
    | (with_reducible apply Within.step (Mod.writeParams_within ..); (on_goal 1 => decide))
    | (intro _)
    | split

theorem hPointRead_within (r : Req) (m : Mod) : Within [.host, .sent] m (hPointRead r m).1 := by
  unfold hPointRead
  dsimp only
  repeat' first
    | with_reducible apply Within.refl
    | with_reducible assumption
    | with_reducible apply Within.ite
    | with_reducible apply Within.iteFst
    | (with_reducible apply Within.step (refuse_within ..); (on_goal 1 => decide))
    | with_reducible apply Within.refuse
    | (intro _)
    | split

theorem hStreamClose_within (r : Req) (m : Mod) : Within [.host] m (hStreamClose r m).1 := by
  unfold hStreamClose
  repeat' first
    | with_reducible apply Within.refl
    | with_reducible assumption
    | with_reducible apply Within.ite
    | with_reducible apply Within.iteFst
    | (with_reducible apply Within.stepHost; (on_goal 1 => decide); (on_goal 1 => (intro _ h; exact h)))
    | (with_reducible apply Within.step (refuse_within ..); (on_goal 1 => decide))

theorem hStreamOpen_within (r : Req) (m : Mod) : Within [.host] m (hStreamOpen r m).1 := by
  unfold hStreamOpen
  repeat' first
    | with_reducible apply Within.refl
    | with_reducible assumption
    | with_reducible apply Within.ite
    | with_reducible apply Within.iteFst
    | (extract_lets +onlyGivenNames x; clear_value x; rename' x => y)
    | (with_reducible apply Within.stepHost; (on_goal 1 => decide); (on_goal 1 => (intro _ h; exact h)))
    | (with_reducible apply Within.step (refuse_within ..); (on_goal 1 => decide))
    | with_reducible apply Within.refuse
    | (intro _)
    | split

theorem hXaRead_within (r : Req) (m : Mod) : Within [] m (hXaRead r m).1 := by
  unfold hXaRead
  repeat' first
    | with_reducible apply Within.refl
    | with_reducible assumption
    | with_reducible apply Within.ite
    | with_reducible apply Within.iteFst
    | (with_reducible apply Within.step (refuse_within ..); (on_goal 1 => decide))

theorem hXaWrite_within (r : Req) (m : Mod) : Within [.host, .store] m (hXaWrite r m).1 := by
  unfold hXaWrite
  repeat' first
    | with_reducible apply Within.refl
    | with_reducible assumption
    | with_reducible apply Within.ite
    | with_reducible apply Within.iteFst
    | (with_reducible apply Within.step (Mod.xaPut_within ..); (on_goal 1 => decide))
    | (with_reducible apply Within.step (Mod.xaUnpoison_within ..); (on_goal 1 => decide))
    | (with_reducible apply Within.step (refuse_within ..); (on_goal 1 => decide))

theorem roleRefused_within (r : Req) (m : Mod) : Within [] m (roleRefused r m).1 := by
  unfold roleRefused
  repeat' first
    | with_reducible apply Within.refl
    | with_reducible assumption
    | with_reducible apply Within.ite
    | with_reducible apply Within.iteFst
    | with_reducible apply Within.refuse
    | (extract_lets +onlyGivenNames x; first | (refine Within.cut (x := x) ?_ ?_; (on_goal 1 => (unfold x; clear x)); on_goal 2 => (intro hx; clear_value x; rename' x => y)) | (clear_value x; rename' x => y))
    | (with_reducible apply Within.step (refuse_within ..); (on_goal 1 => decide))
    | (intro _)
    | split

end Sys2Proof.Machine
end

