-- ==== Sys2Proof/Laws/HostCmdsFrame.lean ====
section
/-! SUPPORT. Which parts of the module each operation of Machine/HostCmds.lean can change. -/

namespace Sys2Proof.Machine

theorem Mod.cacheReply_within (m : Mod) (sid : Nat) (r : Reply) : Within [.host] m (Mod.cacheReply m sid r) := by
  unfold Mod.cacheReply
  repeat' first
    | with_reducible apply Within.refl
    | with_reducible assumption
    | with_reducible apply Within.ite
    | (with_reducible apply Within.step (Mod.onSession_within ..); (on_goal 1 => decide))

theorem hClrChainCnt_within (r : Req) (m : Mod) : Within [.chain] m (hClrChainCnt r m).1 := by
  unfold hClrChainCnt
  repeat' first
    | with_reducible apply Within.refl
    | with_reducible assumption
    | with_reducible apply Within.ite
    | with_reducible apply Within.iteFst
    | (with_reducible apply Within.step (Mod.acted_within ..); (on_goal 1 => decide))
    | (with_reducible apply Within.step (clrChainCnt_within ..); (on_goal 1 => decide))

theorem hClrConvCnt_within (r : Req) (m : Mod) : Within [.conv, .pair] m (hClrConvCnt r m).1 := by
  unfold hClrConvCnt
  repeat' first
    | with_reducible apply Within.refl
    | with_reducible assumption
    | with_reducible apply Within.ite
    | with_reducible apply Within.iteFst
    | with_reducible apply Within.acted
    | (with_reducible apply Within.step (Mod.acted_within ..); (on_goal 1 => decide))
    | (with_reducible apply Within.step (clrConvCnt_within ..); (on_goal 1 => decide))
    | (intro _)
    | split

theorem hClrConvFlags_within (r : Req) (m : Mod) : Within [.conv] m (hClrConvFlags r m).1 := by
  unfold hClrConvFlags
  repeat' first
    | with_reducible apply Within.refl
    | with_reducible assumption
    | with_reducible apply Within.ite
    | with_reducible apply Within.iteFst
    | (with_reducible apply Within.step (Mod.acted_within ..); (on_goal 1 => decide))
    | (with_reducible apply Within.step (clrConvFlags_within ..); (on_goal 1 => decide))

theorem hClrOverrun_within (x0 : Req) (m : Mod) : Within [.plan] m (hClrOverrun x0 m).1 := by
  unfold hClrOverrun
  repeat' first
    | with_reducible apply Within.refl
    | with_reducible assumption
    | with_reducible apply Within.ite
    | with_reducible apply Within.iteFst
    | (with_reducible apply Within.step (Mod.acted_within ..); (on_goal 1 => decide))
    | (with_reducible apply Within.step (clrOverrun_within ..); (on_goal 1 => decide))

theorem hClrPairCnt_within (x0 : Req) (m : Mod) : Within [.pair] m (hClrPairCnt x0 m).1 := by
  unfold hClrPairCnt
  repeat' first
    | with_reducible apply Within.refl
    | with_reducible assumption
    | with_reducible apply Within.ite
    | with_reducible apply Within.iteFst
    | (with_reducible apply Within.step (Mod.acted_within ..); (on_goal 1 => decide))
    | (with_reducible apply Within.step (clrPairCnt_within ..); (on_goal 1 => decide))

theorem hClrSafetyCnt_within (x0 : Req) (m : Mod) : Within [.safety] m (hClrSafetyCnt x0 m).1 := by
  unfold hClrSafetyCnt
  repeat' first
    | with_reducible apply Within.refl
    | with_reducible assumption
    | with_reducible apply Within.ite
    | with_reducible apply Within.iteFst
    | (with_reducible apply Within.step (Mod.acted_within ..); (on_goal 1 => decide))
    | (with_reducible apply Within.step (clrSafetyCnt_within ..); (on_goal 1 => decide))

theorem hConvFaultClear_within (r : Req) (m : Mod) : Within [.conv] m (hConvFaultClear r m).1 := by
  unfold hConvFaultClear
  repeat' first
    | with_reducible apply Within.refl
    | with_reducible assumption
    | with_reducible apply Within.ite
    | with_reducible apply Within.iteFst
    | (with_reducible apply Within.step (Mod.acted_within ..); (on_goal 1 => decide))
    | (with_reducible apply Within.step (convFaultClear_within ..); (on_goal 1 => decide))
    | with_reducible apply Within.acted
    | with_reducible apply Within.actSt

theorem hEnumerate_within (r : Req) (m : Mod) : Within [.chain] m (hEnumerate r m).1 := by
  unfold hEnumerate
  repeat' first
    | with_reducible apply Within.refl
    | with_reducible assumption
    | with_reducible apply Within.ite
    | with_reducible apply Within.iteFst
    | (with_reducible apply Within.step (Mod.acted_within ..); (on_goal 1 => decide))
    | (with_reducible apply Within.step (enumerateCmd_within ..); (on_goal 1 => decide))

theorem hEstRead_within (r : Req) (m : Mod) : Within [.host, .store] m (hEstRead r m).1 := by
  unfold hEstRead
  repeat' first
    | with_reducible apply Within.refl
    | with_reducible assumption
    | with_reducible apply Within.ite
    | with_reducible apply Within.iteFst
    | (extract_lets +onlyGivenNames x; clear_value x; rename' x => y)
    | (with_reducible apply Within.step (Mod.xaPut_within ..); (on_goal 1 => decide))
    | (with_reducible apply Within.step (Mod.xaUnpoison_within ..); (on_goal 1 => decide))
    | (with_reducible apply Within.step (refuse_within ..); (on_goal 1 => decide))

theorem Mod.queueReset_within (m : Mod) (r : Req) (args : List Int) : Within [.store, .est, .disp] m (Mod.queueReset m r args) := by
  unfold Mod.queueReset
  repeat' first
    | with_reducible apply Within.refl
    | with_reducible assumption
    | with_reducible apply Within.ite
    | (with_reducible apply Within.step (Mod.estResetCmd_within ..); (on_goal 1 => decide))
    | (with_reducible apply Within.step (Mod.onDisp_within ..); (on_goal 1 => decide))
    | (intro _)
    | split

theorem hEstReset_within (r : Req) (m : Mod) : Within [.store, .est, .disp] m (hEstReset r m).1 := by
  unfold hEstReset
  repeat' first
    | with_reducible apply Within.refl
    | with_reducible assumption
    | with_reducible apply Within.ite
    | with_reducible apply Within.iteFst
    | with_reducible apply Within.acted
    | with_reducible apply Within.refuse
    | (extract_lets +onlyGivenNames x; first | (refine Within.cut (x := x) ?_ ?_; (on_goal 1 => (unfold x; clear x)); on_goal 2 => (intro hx; clear_value x; rename' x => y)) | (clear_value x; rename' x => y))
    | (with_reducible apply Within.step (Mod.acted_within ..); (on_goal 1 => decide))
    | (with_reducible apply Within.step (refuse_within ..); (on_goal 1 => decide))
    | (with_reducible apply Within.step (Mod.queueReset_within ..); (on_goal 1 => decide))
    | (intro _)
    | split

theorem hEstRestore_within (r : Req) (m : Mod) : Within [.est] m (hEstRestore r m).1 := by
  unfold hEstRestore
  repeat' first
    | with_reducible apply Within.refl
    | with_reducible assumption
    | with_reducible apply Within.ite
    | with_reducible apply Within.iteFst
    | (with_reducible apply Within.step (estRestoreCmd_within ..); (on_goal 1 => decide))
    | (with_reducible apply Within.step (refuse_within ..); (on_goal 1 => decide))
    | with_reducible apply Within.actSt
    | with_reducible apply Within.refuse
    | (intro _)
    | split

theorem twoStep_within (r : Req) (m : Mod) (act : Mod → Mod × Ans) {ps : List Part} (hp : ∀ p ∈ [Part.host, .free], p ∈ ps)
    (h : ∀ m, Within ps m (act m).1) : Within ps m (twoStep r m act).1 := by
  have h0 : ∀ (m : Mod) i f, Within ps m (m.onSession i f) := fun m i f => (Mod.onSession_within m i f).mono fun p q => hp p (by simp_all)
  have h1 : ∀ m : Mod, Within ps m m.free.2 := fun m => (Mod.free_within m).mono fun p q => hp p (by simp_all)
  unfold twoStep
  dsimp only
  repeat' split
  all_goals first
    | exact .refl ..
    | exact (h1 ..).trans (h0 ..)
    | exact (h0 ..).trans (h ..)

theorem hFactoryRestore_within (r : Req) (m : Mod) : Within [.host, .store, .free] m (hFactoryRestore r m).1 := by
  unfold hFactoryRestore
  repeat' first
    | with_reducible apply Within.refl
    | with_reducible assumption
    | with_reducible apply Within.ite
    | with_reducible apply Within.iteFst
    | with_reducible apply Within.refuse
    | (with_reducible apply Within.step (Mod.post_within ..); (on_goal 1 => decide))
    | (with_reducible apply twoStep_within; (on_goal 1 => decide))
    | (intro _)

theorem Mod.storeKey_within (m : Mod) (slot gen : Nat) (key : List Byte) : Within [.host, .store, .power, .upd] m (Mod.storeKey m slot gen key) := by
  unfold Mod.storeKey
  repeat' first
    | with_reducible apply Within.refl
    | with_reducible assumption
    | with_reducible apply Within.ite
    | (extract_lets +onlyGivenNames x; first | (refine Within.cut (x := x) ?_ ?_; (on_goal 1 => (unfold x; clear x)); on_goal 2 => (intro hx; clear_value x; rename' x => y)) | (clear_value x; rename' x => y))
    | (with_reducible apply Within.stepPower; (on_goal 1 => decide); (on_goal 1 => (intro _; rfl)))
    | (with_reducible apply Within.step (Mod.cfgWrite_within ..); (on_goal 1 => decide))
    | (with_reducible apply Within.step (Mod.credChanged_within ..); (on_goal 1 => decide))
    | (with_reducible apply Within.step (Mod.post_within ..); (on_goal 1 => decide))
    | (intro _)
    | split

theorem hKeyLoad_within (r : Req) (m : Mod) : Within [.host, .store, .power, .upd] m (hKeyLoad r m).1 := by
  unfold hKeyLoad
  repeat' first
    | with_reducible apply Within.refl
    | with_reducible assumption
    | with_reducible apply Within.ite
    | with_reducible apply Within.iteFst
    | with_reducible apply Within.refuse
    | (extract_lets +onlyGivenNames x; first | (refine Within.cut (x := x) ?_ ?_; (on_goal 1 => (unfold x; clear x)); on_goal 2 => (intro hx; clear_value x; rename' x => y)) | (clear_value x; rename' x => y))
    | (with_reducible apply Within.step (refuse_within ..); (on_goal 1 => decide))
    | (with_reducible apply Within.step (Mod.storeKey_within ..); (on_goal 1 => decide))
    | (intro _)
    | split

theorem queueCmd_within (r : Req) (args : List Int) (m : Mod) : Within [.disp] m (queueCmd r args m).1 := by
  unfold queueCmd
  repeat' first
    | with_reducible apply Within.refl
    | with_reducible assumption
    | with_reducible apply Within.ite
    | with_reducible apply Within.iteFst
    | (with_reducible apply Within.step (Mod.onDisp_within ..); (on_goal 1 => decide))

theorem hLeaseClaim_within (r : Req) (m : Mod) : Within [.disp] m (hLeaseClaim r m).1 := by
  unfold hLeaseClaim
  repeat' first
    | with_reducible apply Within.refl
    | with_reducible assumption
    | with_reducible apply Within.ite
    | with_reducible apply Within.iteFst
    | (with_reducible apply Within.step (queueCmd_within ..); (on_goal 1 => decide))

theorem hLeaseRelease_within (r : Req) (m : Mod) : Within [.disp] m (hLeaseRelease r m).1 := by
  unfold hLeaseRelease
  repeat' first
    | with_reducible apply Within.refl
    | with_reducible assumption
    | with_reducible apply Within.ite
    | with_reducible apply Within.iteFst
    | (with_reducible apply Within.step (queueCmd_within ..); (on_goal 1 => decide))

theorem hLeaseRenew_within (r : Req) (m : Mod) : Within [.disp] m (hLeaseRenew r m).1 := by
  unfold hLeaseRenew
  repeat' first
    | with_reducible apply Within.refl
    | with_reducible assumption
    | with_reducible apply Within.ite
    | with_reducible apply Within.iteFst
    | (with_reducible apply Within.step (queueCmd_within ..); (on_goal 1 => decide))

theorem hLeaseRevoke_within (r : Req) (m : Mod) : Within [.disp] m (hLeaseRevoke r m).1 := by
  unfold hLeaseRevoke
  repeat' first
    | with_reducible apply Within.refl
    | with_reducible assumption
    | with_reducible apply Within.ite
    | with_reducible apply Within.iteFst
    | (with_reducible apply Within.step (queueCmd_within ..); (on_goal 1 => decide))

theorem hMoveRetarget_within (r : Req) (m : Mod) : Within [.disp] m (hMoveRetarget r m).1 := by
  unfold hMoveRetarget
  repeat' first
    | with_reducible apply Within.refl
    | with_reducible assumption
    | with_reducible apply Within.ite
    | with_reducible apply Within.iteFst
    | (with_reducible apply Within.step (queueCmd_within ..); (on_goal 1 => decide))

theorem hMoveStart_within (r : Req) (m : Mod) : Within [.disp] m (hMoveStart r m).1 := by
  unfold hMoveStart
  repeat' first
    | with_reducible apply Within.refl
    | with_reducible assumption
    | with_reducible apply Within.ite
    | with_reducible apply Within.iteFst
    | (with_reducible apply Within.step (queueCmd_within ..); (on_goal 1 => decide))

theorem hPark_within (r : Req) (m : Mod) : Within [.host, .store, .power] m (hPark r m).1 := by
  unfold hPark
  repeat' first
    | with_reducible apply Within.refl
    | with_reducible assumption
    | with_reducible apply Within.ite
    | with_reducible apply Within.iteFst
    | (extract_lets +onlyGivenNames x; clear_value x; rename' x => y)
    | (with_reducible apply Within.step (Mod.cfgWrite_within ..); (on_goal 1 => decide))
    | (with_reducible apply Within.stepPower; (on_goal 1 => decide); (on_goal 1 => (intro _; rfl)))
    | (with_reducible apply Within.step (refuse_within ..); (on_goal 1 => decide))

theorem hPhaseClear_within (r : Req) (m : Mod) : Within [.conv] m (hPhaseClear r m).1 := by
  unfold hPhaseClear
  repeat' first
    | with_reducible apply Within.refl
    | with_reducible assumption
    | with_reducible apply Within.ite
    | with_reducible apply Within.iteFst
    | (with_reducible apply Within.step (Mod.acted_within ..); (on_goal 1 => decide))
    | (with_reducible apply Within.step (phaseClearCmd_within ..); (on_goal 1 => decide))
    | (with_reducible apply Within.step (refuse_within ..); (on_goal 1 => decide))
    | with_reducible apply Within.acted
    | with_reducible apply Within.actSt

theorem hPlanActivate_within (r : Req) (m : Mod) : Within [.plan, .store, .pair, .sent] m (hPlanActivate r m).1 := by
  unfold hPlanActivate
  repeat' first
    | with_reducible apply Within.refl
    | with_reducible assumption
    | with_reducible apply Within.ite
    | with_reducible apply Within.iteFst
    | with_reducible apply Within.refuse
    | (extract_lets +onlyGivenNames x; first | (refine Within.cut (x := x) ?_ ?_; (on_goal 1 => (unfold x; clear x)); on_goal 2 => (intro hx; clear_value x; rename' x => y)) | (clear_value x; rename' x => y))
    | (with_reducible apply Within.step (planActivate_within ..); (on_goal 1 => decide))
    | (with_reducible apply Within.step (refuse_within ..); (on_goal 1 => decide))
    | (intro _)
    | split

theorem hPlanDiscard_within (_r : Req) (m : Mod) : Within [.plan, .store, .sent] m (hPlanDiscard _r m).1 := by
  unfold hPlanDiscard
  repeat' first
    | with_reducible apply Within.refl
    | with_reducible assumption
    | with_reducible apply Within.ite
    | with_reducible apply Within.iteFst
    | with_reducible apply Within.actSt
    | (with_reducible apply Within.step (planDiscard_within ..); (on_goal 1 => decide))
    | (intro _)
    | split

theorem hPlanLoad_within (r : Req) (m : Mod) : Within [.plan] m (hPlanLoad r m).1 := by
  unfold hPlanLoad
  repeat' first
    | with_reducible apply Within.refl
    | with_reducible assumption
    | with_reducible apply Within.ite
    | with_reducible apply Within.iteFst
    | (with_reducible apply Within.step (planLoad_within ..); (on_goal 1 => decide))
    | (with_reducible apply Within.step (refuse_within ..); (on_goal 1 => decide))
    | with_reducible apply Within.actSt
    | with_reducible apply Within.refuse
    | (intro _)
    | split

theorem hProtClear_within (r : Req) (m : Mod) : Within [.conv, .disp, .prot] m (hProtClear r m).1 := by
  unfold hProtClear
  repeat' first
    | with_reducible apply Within.refl
    | with_reducible assumption
    | with_reducible apply Within.ite
    | with_reducible apply Within.iteFst
    | with_reducible apply Within.acted
    | with_reducible apply Within.actSt
    | with_reducible apply Within.refuse
    | (extract_lets +onlyGivenNames x; first | (refine Within.cut (x := x) ?_ ?_; (on_goal 1 => (unfold x; clear x)); on_goal 2 => (intro hx; clear_value x; rename' x => y)) | (clear_value x; rename' x => y))
    | (with_reducible apply Within.step (protClear_within ..); (on_goal 1 => decide))
    | (with_reducible apply Within.step (Mod.acted_within ..); (on_goal 1 => decide))
    | (with_reducible apply Within.step (refuse_within ..); (on_goal 1 => decide))
    | (with_reducible apply Within.step (queueCmd_within ..); (on_goal 1 => decide))
    | (intro _)
    | split

theorem hRecordQuery_within (r : Req) (m : Mod) : Within [.host, .store] m (hRecordQuery r m).1 := by
  unfold hRecordQuery
  repeat' first
    | with_reducible apply Within.refl
    | with_reducible assumption
    | with_reducible apply Within.ite
    | with_reducible apply Within.iteFst
    | (extract_lets +onlyGivenNames x; first | (refine Within.cut (x := x) ?_ ?_; (on_goal 1 => (unfold x; clear x)); on_goal 2 => (intro hx; clear_value x; rename' x => y)) | (clear_value x; rename' x => y))
    | (with_reducible apply Within.step (Mod.dmaStart_within ..); (on_goal 1 => decide))
    | (with_reducible apply Within.step (Mod.onSession_within ..); (on_goal 1 => decide))
    | (with_reducible apply Within.step (Mod.onStore_within ..); (on_goal 1 => decide))
    | (with_reducible apply Within.step (Mod.runQuery_within ..); (on_goal 1 => decide))
    | (with_reducible apply Within.step (refuse_within ..); (on_goal 1 => decide))
    | with_reducible apply Within.refuse
    | (intro _)
    | split

theorem hRecorderClear_within (r : Req) (m : Mod) : Within [.host, .store, .power, .sent, .free] m (hRecorderClear r m).1 := by
  unfold hRecorderClear
  dsimp only
  repeat' first
    | with_reducible apply Within.refl
    | with_reducible assumption
    | with_reducible apply Within.ite
    | with_reducible apply Within.iteFst
    | (with_reducible apply Within.step (Mod.recorderClear_within ..); (on_goal 1 => decide))
    | (with_reducible apply twoStep_within; (on_goal 1 => decide))
    | (intro _)

theorem hRestart_within (r : Req) (m : Mod) : Within [] m (hRestart r m).1 := by
  unfold hRestart
  repeat' first
    | with_reducible apply Within.refl
    | with_reducible assumption
    | with_reducible apply Within.ite
    | with_reducible apply Within.iteFst
    | (with_reducible apply Within.step (refuse_within ..); (on_goal 1 => decide))

theorem hResume_within (r : Req) (m : Mod) : Within [.disp] m (hResume r m).1 := by
  unfold hResume
  repeat' first
    | with_reducible apply Within.refl
    | with_reducible assumption
    | with_reducible apply Within.ite
    | with_reducible apply Within.iteFst
    | (with_reducible apply Within.step (queueCmd_within ..); (on_goal 1 => decide))

theorem hRoleSwap_within (x0 : Req) (m : Mod) : Within [.plan, .store, .pair, .sent] m (hRoleSwap x0 m).1 := by
  unfold hRoleSwap
  repeat' first
    | with_reducible apply Within.refl
    | with_reducible assumption
    | with_reducible apply Within.ite
    | with_reducible apply Within.iteFst
    | (with_reducible apply Within.step (Mod.acted_within ..); (on_goal 1 => decide))
    | (with_reducible apply Within.step (Mod.yield_within ..); (on_goal 1 => decide))

theorem hSafetyReset_within (x0 : Req) (m : Mod) : Within [.plan, .store, .conv, .prot, .safety, .pair, .sent] m (hSafetyReset x0 m).1 := by
  unfold hSafetyReset
  repeat' first
    | with_reducible apply Within.refl
    | with_reducible assumption
    | with_reducible apply Within.ite
    | with_reducible apply Within.iteFst
    | (with_reducible apply Within.step (safetyReset_within ..); (on_goal 1 => decide))
    | with_reducible apply Within.actSt

theorem hSecClear_within (x0 : Req) (m : Mod) : Within [.power] m (hSecClear x0 m).1 := by
  unfold hSecClear
  repeat' first
    | with_reducible apply Within.refl
    | with_reducible assumption
    | with_reducible apply Within.ite
    | with_reducible apply Within.iteFst
    | (with_reducible apply Within.stepPower; (on_goal 1 => decide); (on_goal 1 => (intro _; rfl)))

theorem hSecErase_within (r : Req) (m : Mod) : Within [.host, .free] m (hSecErase r m).1 := by
  unfold hSecErase
  repeat' first
    | with_reducible apply Within.refl
    | with_reducible assumption
    | with_reducible apply Within.ite
    | with_reducible apply Within.iteFst
    | (with_reducible apply twoStep_within; (on_goal 1 => decide))

theorem hSecSet_within (r : Req) (m : Mod) : Within [.host, .power, .free] m (hSecSet r m).1 := by
  unfold hSecSet
  dsimp only
  repeat' first
    | with_reducible apply Within.refl
    | with_reducible assumption
    | with_reducible apply Within.ite
    | with_reducible apply Within.iteFst
    | (with_reducible apply Within.stepPower; (on_goal 1 => decide); (on_goal 1 => (intro _; rfl)))
    | (with_reducible apply Within.step (refuse_within ..); (on_goal 1 => decide))
    | (with_reducible apply twoStep_within; (on_goal 1 => decide))
    | with_reducible apply Within.refuse
    | (intro _)
    | split

theorem hSecUnlock_within (r : Req) (m : Mod) : Within [.host, .store, .power, .free] m (hSecUnlock r m).1 := by
  unfold hSecUnlock
  repeat' first
    | with_reducible apply Within.refl
    | with_reducible assumption
    | with_reducible apply Within.ite
    | with_reducible apply Within.iteFst
    | (with_reducible apply Within.stepPower; (on_goal 1 => decide); (on_goal 1 => (intro _; rfl)))
    | (with_reducible apply Within.step (Mod.post_within ..); (on_goal 1 => decide))
    | (with_reducible apply twoStep_within; (on_goal 1 => decide))
    | (intro _)

theorem hSenseClear_within (r : Req) (m : Mod) : Within [.chain] m (hSenseClear r m).1 := by
  unfold hSenseClear
  repeat' first
    | with_reducible apply Within.refl
    | with_reducible assumption
    | with_reducible apply Within.ite
    | with_reducible apply Within.iteFst
    | (with_reducible apply Within.step (Mod.acted_within ..); (on_goal 1 => decide))
    | (with_reducible apply Within.step (refuse_within ..); (on_goal 1 => decide))
    | (with_reducible apply Within.step (senseClear_within ..); (on_goal 1 => decide))

theorem hSetPower_within (r : Req) (m : Mod) : Within [.disp] m (hSetPower r m).1 := by
  unfold hSetPower
  repeat' first
    | with_reducible apply Within.refl
    | with_reducible assumption
    | with_reducible apply Within.ite
    | with_reducible apply Within.iteFst
    | (with_reducible apply Within.step (queueCmd_within ..); (on_goal 1 => decide))

theorem hStop_within (r : Req) (m : Mod) : Within [.disp] m (hStop r m).1 := by
  unfold hStop
  repeat' first
    | with_reducible apply Within.refl
    | with_reducible assumption
    | with_reducible apply Within.ite
    | with_reducible apply Within.iteFst
    | (with_reducible apply Within.step (queueCmd_within ..); (on_goal 1 => decide))

theorem hStringService_within (r : Req) (m : Mod) : Within [.store, .conv, .disp, .prot, .safety] m (hStringService r m).1 := by
  unfold hStringService
  repeat' first
    | with_reducible apply Within.refl
    | with_reducible assumption
    | with_reducible apply Within.ite
    | with_reducible apply Within.iteFst
    | (with_reducible apply Within.step (Mod.acted_within ..); (on_goal 1 => decide))
    | (with_reducible apply Within.step (refuse_within ..); (on_goal 1 => decide))
    | (with_reducible apply Within.step (stringService_within ..); (on_goal 1 => decide))

theorem hToneReset_within (r : Req) (m : Mod) : Within [.chain, .conv, .prot] m (hToneReset r m).1 := by
  unfold hToneReset
  repeat' first
    | with_reducible apply Within.refl
    | with_reducible assumption
    | with_reducible apply Within.ite
    | with_reducible apply Within.iteFst
    | (with_reducible apply Within.step (Mod.acted_within ..); (on_goal 1 => decide))
    | (with_reducible apply Within.step (toneReset_within ..); (on_goal 1 => decide))
    | with_reducible apply Within.acted
    | with_reducible apply Within.actSt

theorem hTrip_within (r : Req) (m : Mod) : Within [.store, .conv, .disp, .prot, .safety, .sent] m (hTrip r m).1 := by
  unfold hTrip
  repeat' first
    | with_reducible apply Within.refl
    | with_reducible assumption
    | with_reducible apply Within.ite
    | with_reducible apply Within.iteFst
    | (with_reducible apply Within.step (Mod.acted_within ..); (on_goal 1 => decide))
    | (with_reducible apply Within.step (tripCmd_within ..); (on_goal 1 => decide))

theorem hostOp_within (r : Req) (m : Mod) : Within [.plan, .host, .store, .power, .chain, .est, .conv, .disp, .prot, .safety, .pair, .time, .can, .adc, .upd, .sent, .free] m (hostOp r m).1 := by
  unfold hostOp
  repeat' first
    | with_reducible apply Within.refl
    | with_reducible assumption
    | with_reducible apply Within.ite
    | with_reducible apply Within.iteFst
    | (with_reducible apply Within.step (hDiagRead_within ..); (on_goal 1 => decide))
    | (with_reducible apply Within.step (hDiagWrite_within ..); (on_goal 1 => decide))
    | (with_reducible apply Within.step (hMbxAck_within ..); (on_goal 1 => decide))
    | (with_reducible apply Within.step (hMbxPost_within ..); (on_goal 1 => decide))
    | (with_reducible apply Within.step (hMbxRead_within ..); (on_goal 1 => decide))
    | (with_reducible apply Within.step (hNoticeAck_within ..); (on_goal 1 => decide))
    | (with_reducible apply Within.step (hParamRead_within ..); (on_goal 1 => decide))
    | (with_reducible apply Within.step (hParamWrite_within ..); (on_goal 1 => decide))
    | (with_reducible apply Within.step (hPointRead_within ..); (on_goal 1 => decide))
    | (with_reducible apply Within.step (hStreamClose_within ..); (on_goal 1 => decide))
    | (with_reducible apply Within.step (hStreamOpen_within ..); (on_goal 1 => decide))
    | (with_reducible apply Within.step (hXaRead_within ..); (on_goal 1 => decide))
    | (with_reducible apply Within.step (hXaWrite_within ..); (on_goal 1 => decide))
    | (with_reducible apply Within.step (hClrChainCnt_within ..); (on_goal 1 => decide))
    | (with_reducible apply Within.step (hClrConvCnt_within ..); (on_goal 1 => decide))
    | (with_reducible apply Within.step (hClrConvFlags_within ..); (on_goal 1 => decide))
    | (with_reducible apply Within.step (hClrOverrun_within ..); (on_goal 1 => decide))
    | (with_reducible apply Within.step (hClrPairCnt_within ..); (on_goal 1 => decide))
    | (with_reducible apply Within.step (hClrSafetyCnt_within ..); (on_goal 1 => decide))
    | (with_reducible apply Within.step (hConvFaultClear_within ..); (on_goal 1 => decide))
    | (with_reducible apply Within.step (hEnumerate_within ..); (on_goal 1 => decide))
    | (with_reducible apply Within.step (hEstRead_within ..); (on_goal 1 => decide))
    | (with_reducible apply Within.step (hEstReset_within ..); (on_goal 1 => decide))
    | (with_reducible apply Within.step (hEstRestore_within ..); (on_goal 1 => decide))
    | (with_reducible apply Within.step (hFactoryRestore_within ..); (on_goal 1 => decide))
    | (with_reducible apply Within.step (hKeyLoad_within ..); (on_goal 1 => decide))
    | (with_reducible apply Within.step (hLeaseClaim_within ..); (on_goal 1 => decide))
    | (with_reducible apply Within.step (hLeaseRelease_within ..); (on_goal 1 => decide))
    | (with_reducible apply Within.step (hLeaseRenew_within ..); (on_goal 1 => decide))
    | (with_reducible apply Within.step (hLeaseRevoke_within ..); (on_goal 1 => decide))
    | (with_reducible apply Within.step (hMoveRetarget_within ..); (on_goal 1 => decide))
    | (with_reducible apply Within.step (hMoveStart_within ..); (on_goal 1 => decide))
    | (with_reducible apply Within.step (hPark_within ..); (on_goal 1 => decide))
    | (with_reducible apply Within.step (hPhaseClear_within ..); (on_goal 1 => decide))
    | (with_reducible apply Within.step (hPlanActivate_within ..); (on_goal 1 => decide))
    | (with_reducible apply Within.step (hPlanDiscard_within ..); (on_goal 1 => decide))
    | (with_reducible apply Within.step (hPlanLoad_within ..); (on_goal 1 => decide))
    | (with_reducible apply Within.step (hProtClear_within ..); (on_goal 1 => decide))
    | (with_reducible apply Within.step (hRecordQuery_within ..); (on_goal 1 => decide))
    | (with_reducible apply Within.step (hRecorderClear_within ..); (on_goal 1 => decide))
    | (with_reducible apply Within.step (hRestart_within ..); (on_goal 1 => decide))
    | (with_reducible apply Within.step (hResume_within ..); (on_goal 1 => decide))
    | (with_reducible apply Within.step (hRoleSwap_within ..); (on_goal 1 => decide))
    | (with_reducible apply Within.step (hSafetyReset_within ..); (on_goal 1 => decide))
    | (with_reducible apply Within.step (hSecClear_within ..); (on_goal 1 => decide))
    | (with_reducible apply Within.step (hSecErase_within ..); (on_goal 1 => decide))
    | (with_reducible apply Within.step (hSecSet_within ..); (on_goal 1 => decide))
    | (with_reducible apply Within.step (hSecUnlock_within ..); (on_goal 1 => decide))
    | (with_reducible apply Within.step (hSenseClear_within ..); (on_goal 1 => decide))
    | (with_reducible apply Within.step (hSetPower_within ..); (on_goal 1 => decide))
    | (with_reducible apply Within.step (hStop_within ..); (on_goal 1 => decide))
    | (with_reducible apply Within.step (hStringService_within ..); (on_goal 1 => decide))
    | (with_reducible apply Within.step (hToneReset_within ..); (on_goal 1 => decide))
    | (with_reducible apply Within.step (hTrip_within ..); (on_goal 1 => decide))
    | (intro _)
    | split

theorem hostChecked_within (r : Req) (malformed : Bool) (m : Mod) : Within [.plan, .host, .store, .power, .chain, .est, .conv, .disp, .prot, .safety, .pair, .time, .can, .adc, .upd, .sent, .free] m (hostChecked r malformed m).1 := by
  unfold hostChecked
  repeat' first
    | with_reducible apply Within.refl
    | with_reducible assumption
    | with_reducible apply Within.ite
    | with_reducible apply Within.iteFst
    | with_reducible apply Within.refuse
    | (with_reducible apply Within.step (refuse_within ..); (on_goal 1 => decide))
    | (with_reducible apply Within.step (roleRefused_within ..); (on_goal 1 => decide))
    | (with_reducible apply Within.step (hostOp_within ..); (on_goal 1 => decide))
    | (with_reducible apply Within.step (Mod.out_within ..); (on_goal 1 => decide))
    | (intro _)
    | split

theorem Mod.passOn_within (m : Mod) (op : Nat) (rq : HostReq) (s : Session) (grain : Nat) (reply : Option Reply) : Within [.pair] m (Mod.passOn m op rq s grain reply) := by
  unfold Mod.passOn
  repeat' first
    | with_reducible apply Within.refl
    | with_reducible assumption
    | with_reducible apply Within.ite
    | (extract_lets +onlyGivenNames x; first | (refine Within.cut (x := x) ?_ ?_; (on_goal 1 => (unfold x; clear x)); on_goal 2 => (intro hx; clear_value x; rename' x => y)) | (clear_value x; rename' x => y))
    | (with_reducible apply Within.step (Mod.capture_within ..); (on_goal 1 => decide))
    | (intro _)
    | split

theorem hostServe_within (op : Nat) (rq : HostReq) (dest : ReplyTo) (dir : Option (W32 × Mod)) (s : Session) (m : Mod) : Within [.plan, .host, .store, .power, .chain, .est, .conv, .disp, .prot, .safety, .pair, .time, .can, .adc, .upd, .sent, .free] m (hostServe op rq dest dir s m).1 := by
  unfold hostServe
  split
  case h_2 => exact ((Mod.onSession_within ..).mono (by decide)).trans ((Mod.again_within ..).mono (by decide))
  repeat' first
    | with_reducible apply Within.refl
    | with_reducible assumption
    | with_reducible apply Within.ite
    | with_reducible apply Within.iteFst
    | (extract_lets +onlyGivenNames x; first | (refine Within.cut (x := x) ?_ ?_; (on_goal 1 => (unfold x; clear x)); on_goal 2 => (intro hx; clear_value x; rename' x => y)) | (clear_value x; rename' x => y))
    | (with_reducible apply Within.stepHost; (on_goal 1 => decide); (on_goal 1 => (intro _ h; exact h)))
    | (with_reducible apply Within.step (Mod.onSession_within ..); (on_goal 1 => decide))
    | (with_reducible apply Within.step (Mod.await_within ..); (on_goal 1 => decide))
    | (with_reducible apply Within.step (Mod.cacheReply_within ..); (on_goal 1 => decide))
    | (with_reducible apply Within.step (hostChecked_within ..); (on_goal 1 => decide))
    | (with_reducible apply Within.step (Mod.passOn_within ..); (on_goal 1 => decide))
    | (intro _)
    | split

theorem Mod.afterReply_within (m : Mod) (sid k : Nat) :
    Within [.plan, .host, .store, .power, .conv, .disp, .pair, .time, .upd, .sent, .free] m (m.afterReply sid k) := by
  unfold Mod.afterReply
  split
  · exact (Mod.warmRestart_within ..).mono (by decide)
  · exact (Mod.requestRestart_within ..).mono (by decide)
  · exact (Mod.requestRestart_within ..).mono (by decide)
  · exact (Mod.requestRestart_within ..).mono (by decide)
  · exact (Mod.securityErase_within ..).mono (by decide)
  · exact (Mod.closeSession_within ..).mono (by decide)
  · exact .refl ..

theorem hostRow_within (op : Nat) (rq : HostReq) (dir : Option (W32 × Mod)) (m : Mod) : Within [.plan, .host, .store, .power, .chain, .est, .conv, .disp, .prot, .safety, .pair, .time, .can, .adc, .upd, .sent, .free] m (hostRow op rq dir m) := by
  unfold hostRow
  repeat' first
    | with_reducible apply Within.refl
    | with_reducible assumption
    | with_reducible apply Within.ite
    | (extract_lets +onlyGivenNames x; first | (refine Within.cut (x := x) ?_ ?_; (on_goal 1 => (unfold x; clear x)); on_goal 2 => (intro hx; clear_value x; rename' x => y)) | (clear_value x; rename' x => y))
    | (with_reducible apply Within.step (Mod.sendReply1_within ..); (on_goal 1 => decide))
    | (with_reducible apply Within.step (hostServe_within ..); (on_goal 1 => decide))
    | (with_reducible apply Within.step (Mod.afterReply_within ..); (on_goal 1 => decide))
    | (intro _)
    | split

end Sys2Proof.Machine
end

