-- ==== Sys2Proof/Laws/SessFrame.lean ====
section
/-! SUPPORT. Which parts of the module each operation of Machine/Sess.lean can change. -/

namespace Sys2Proof.Machine

theorem Mod.watchPassed_within (m : Mod) (newest : Option W32) : Within [.host] m (Mod.watchPassed m newest) := by
  unfold Mod.watchPassed
  repeat' first
    | with_reducible apply Within.refl
    | with_reducible assumption
    | with_reducible apply Within.ite
    | (with_reducible apply Within.stepHost; (on_goal 1 => decide); (on_goal 1 => (intro _ h; exact h)))
    | (intro _)
    | split

theorem Mod.addSession_within (m : Mod) (s : Session) : Within [.host] m (Mod.addSession m s) := by
  unfold Mod.addSession
  repeat' first
    | with_reducible apply Within.refl
    | with_reducible assumption
    | with_reducible apply Within.ite
    | (with_reducible apply Within.stepHost; (on_goal 1 => decide); (on_goal 1 => (intro _ h; exact h)))

theorem authBlockExpiry_within (addr : Nat) (m : Mod) : Within [.host] m (authBlockExpiry addr m) := by
  unfold authBlockExpiry
  repeat' first
    | with_reducible apply Within.refl
    | with_reducible assumption
    | with_reducible apply Within.ite
    | (with_reducible apply Within.stepHost; (on_goal 1 => decide); (on_goal 1 => (intro _ h; exact h)))

theorem confirmExpiry_within (sid : Nat) (m : Mod) : Within [.host] m (confirmExpiry sid m) := by
  unfold confirmExpiry
  repeat' first
    | with_reducible apply Within.refl
    | with_reducible assumption
    | with_reducible apply Within.ite
    | (with_reducible apply Within.step (Mod.onSession_within ..); (on_goal 1 => decide))

theorem mbxCrossTimeout_within (slot : Nat) (m : Mod) : Within [.host, .sent] m (mbxCrossTimeout slot m) := by
  unfold mbxCrossTimeout
  repeat' first
    | with_reducible apply Within.refl
    | with_reducible assumption
    | with_reducible apply Within.ite
    | (extract_lets +onlyGivenNames x; first | (refine Within.cut (x := x) ?_ ?_; (on_goal 1 => (unfold x; clear x)); on_goal 2 => (intro hx; clear_value x; rename' x => y)) | (clear_value x; rename' x => y))
    | (with_reducible apply Within.step (Mod.notify_within ..); (on_goal 1 => decide))
    | (with_reducible apply Within.step (Mod.onMbx_within ..); (on_goal 1 => decide))
    | (intro _)
    | split

theorem Mod.runBatch_within (dir : Option (W32 × Mod)) (sid id fuel : Nat) (bs : List Byte) (out : List (Option (List Byte))) (m : Mod) :
    Within [.plan, .host, .store, .power, .chain, .est, .conv, .disp, .prot, .safety, .pair, .time, .can, .adc, .upd, .sent, .free] m (Mod.runBatch dir sid id fuel bs out m).2 := by
  induction fuel generalizing bs out m with
  | zero => exact .refl ..
  | succ k ih =>
    unfold Mod.runBatch
    dsimp only
    repeat' split
    all_goals first
      | exact .refl ..
      | exact (((hostServe_within ..).mono (by decide)).trans ((Mod.afterReply_within ..).mono (by decide))).trans (ih ..)

theorem noticeResend_within (sid seq : Nat) (m : Mod) : Within [.host, .sent] m (noticeResend sid seq m) := by
  unfold noticeResend
  repeat' first
    | with_reducible apply Within.refl
    | with_reducible assumption
    | with_reducible apply Within.ite
    | (extract_lets +onlyGivenNames x; clear_value x; rename' x => y)
    | (with_reducible apply Within.step (Mod.onSession_within ..); (on_goal 1 => decide))
    | (with_reducible apply Within.step (Mod.sendNotice_within ..); (on_goal 1 => decide))
    | (intro _)
    | split

theorem outboundMbxWrite_within (slot ptr len type domain : Nat) (m : Mod) : Within [.host, .sent] m (outboundMbxWrite slot ptr len type domain m) := by
  unfold outboundMbxWrite
  repeat' first
    | with_reducible apply Within.refl
    | with_reducible assumption
    | with_reducible apply Within.ite
    | (with_reducible apply Within.step (Mod.mbxOut_within ..); (on_goal 1 => decide))

theorem Mod.badTag_within (m : Mod) : Within [.host] m (Mod.badTag m) := by
  unfold Mod.badTag
  repeat' first
    | with_reducible apply Within.refl
    | with_reducible assumption
    | with_reducible apply Within.ite
    | (with_reducible apply Within.stepHost; (on_goal 1 => decide); (on_goal 1 => (intro _ h; exact h)))

theorem sessionIdleTimeout_within (sid : Nat) (m : Mod) : Within [.host, .store, .pair] m (sessionIdleTimeout sid m) := by
  unfold sessionIdleTimeout
  repeat' first
    | with_reducible apply Within.refl
    | with_reducible assumption
    | with_reducible apply Within.ite
    | (with_reducible apply Within.step (Mod.closeSession_within ..); (on_goal 1 => decide))
    | (intro _)
    | split

theorem sessionOpen_within (rq : HostReq) (m : Mod) : Within [.host, .pair, .sent, .free] m (sessionOpen rq m) := by
  unfold sessionOpen
  repeat' first
    | with_reducible apply Within.refl
    | with_reducible assumption
    | with_reducible apply Within.ite
    | (extract_lets +onlyGivenNames x; first | (refine Within.cut (x := x) ?_ ?_; (on_goal 1 => (unfold x; clear x)); on_goal 2 => (intro hx; clear_value x; rename' x => y)) | (clear_value x; rename' x => y))
    | (with_reducible apply Within.step (Mod.addSession_within ..); (on_goal 1 => decide))
    | (with_reducible apply Within.step (Mod.badTag_within ..); (on_goal 1 => decide))
    | (with_reducible apply Within.step (Mod.sendReply1_within ..); (on_goal 1 => decide))
    | (with_reducible apply Within.step (Mod.capture_within ..); (on_goal 1 => decide))
    | (with_reducible apply Within.step (Mod.free_within ..); (on_goal 1 => decide))
    | (with_reducible apply Within.step (Mod.freeBytes_within ..); (on_goal 1 => decide))
    | (intro _)
    | split

theorem Mod.sendFrag_within (m : Mod) (s : Session) (x : Stream) (g : W32) (d : Mod) (idx : List (Option Nat)) (n k : Nat) : Within [.sent] m (Mod.sendFrag m s x g d idx n k) := by
  unfold Mod.sendFrag
  repeat' first
    | with_reducible apply Within.refl
    | with_reducible assumption
    | with_reducible apply Within.ite
    | (extract_lets +onlyGivenNames x; first | (refine Within.cut (x := x) ?_ ?_; (on_goal 1 => (unfold x; clear x)); on_goal 2 => (intro hx; clear_value x; rename' x => y)) | (clear_value x; rename' x => y))
    | (with_reducible apply Within.step (Mod.out_within ..); (on_goal 1 => decide))
    | with_reducible apply Within.each
    | (intro _)
    | split

theorem streamCycle_within (id : Nat) (fits : Bool) (dir : Option (W32 × Mod)) (m : Mod) : Within [.host, .sent] m (streamCycle id fits dir m) := by
  unfold streamCycle
  repeat' first
    | with_reducible apply Within.refl
    | with_reducible assumption
    | with_reducible apply Within.ite
    | (extract_lets +onlyGivenNames x; first | (refine Within.cut (x := x) ?_ ?_; (on_goal 1 => (unfold x; clear x)); on_goal 2 => (intro hx; clear_value x; rename' x => y)) | (clear_value x; rename' x => y))
    | (with_reducible apply Within.stepHost; (on_goal 1 => decide); (on_goal 1 => (intro _ h; exact h)))
    | (with_reducible apply Within.step (Mod.sendFrag_within ..); (on_goal 1 => decide))
    | with_reducible apply Within.each
    | (intro _)
    | split

theorem Mod.takeBatch_within (m : Mod) (slot : Nat) (dir : Option (W32 × Mod)) (s : Session) : Within [.plan, .host, .store, .power, .chain, .est, .conv, .disp, .prot, .safety, .pair, .time, .can, .adc, .upd, .sent, .free] m (Mod.takeBatch m slot dir s) := by
  unfold Mod.takeBatch
  repeat' first
    | with_reducible apply Within.refl
    | with_reducible assumption
    | with_reducible apply Within.ite
    | (extract_lets +onlyGivenNames x; first | (refine Within.cut (x := x) ?_ ?_; (on_goal 1 => (unfold x; clear x)); on_goal 2 => (intro hx; clear_value x; rename' x => y)) | (clear_value x; rename' x => y))
    | (with_reducible apply Within.stepHost; (on_goal 1 => decide); (on_goal 1 => (intro _ h; exact h)))
    | (with_reducible apply Within.step (Mod.runBatch_within ..); (on_goal 1 => decide))
    | (with_reducible apply Within.step (Mod.batchDone_within ..); (on_goal 1 => decide))
    | (intro _)
    | split

theorem supervisorMbxTake_within (slot : Nat) (dir : Option (W32 × Mod)) (m : Mod) : Within [.plan, .host, .store, .power, .chain, .est, .conv, .disp, .prot, .safety, .pair, .time, .can, .adc, .upd, .sent, .free] m (supervisorMbxTake slot dir m) := by
  unfold supervisorMbxTake
  repeat' first
    | with_reducible apply Within.refl
    | with_reducible assumption
    | with_reducible apply Within.ite
    | (extract_lets +onlyGivenNames x; first | (refine Within.cut (x := x) ?_ ?_; (on_goal 1 => (unfold x; clear x)); on_goal 2 => (intro hx; clear_value x; rename' x => y)) | (clear_value x; rename' x => y))
    | (with_reducible apply Within.step (Mod.takeBatch_within ..); (on_goal 1 => decide))
    | (with_reducible apply Within.step (Mod.onMbx_within ..); (on_goal 1 => decide))
    | (with_reducible apply Within.step (Mod.out_within ..); (on_goal 1 => decide))
    | (intro _)
    | split

theorem Mod.badForm_within (m : Mod) : Within [.host] m (Mod.badForm m) := by
  unfold Mod.badForm
  repeat' first
    | with_reducible apply Within.refl
    | with_reducible assumption
    | with_reducible apply Within.ite
    | (with_reducible apply Within.stepHost; (on_goal 1 => decide); (on_goal 1 => (intro _ h; exact h)))

theorem Mod.tagFail_within (m : Mod) (net addr : Nat) : Within [.host, .store, .power] m (Mod.tagFail m net addr) := by
  unfold Mod.tagFail
  repeat' first
    | with_reducible apply Within.refl
    | with_reducible assumption
    | with_reducible apply Within.ite
    | (extract_lets +onlyGivenNames x; refine Within.cut (x := x) ?_ ?_; (on_goal 1 => (unfold x; clear x)); on_goal 2 => (intro hx; clear_value x; rename' x => y))
    | (with_reducible apply Within.step (Mod.badTag_within ..); (on_goal 1 => decide))
    | (with_reducible apply Within.stepHost; (on_goal 1 => decide); (on_goal 1 => (intro _ h; exact h)))
    | (with_reducible apply Within.stepPower; (on_goal 1 => decide); (on_goal 1 => (intro _; rfl)))
    | (with_reducible apply Within.step (Mod.post_within ..); (on_goal 1 => decide))

theorem udpPacketReceive_within (net addr port dest : Nat) (bytes : List Byte) (dir : Option (W32 × Mod)) (m : Mod) : Within [.plan, .host, .store, .power, .chain, .est, .conv, .disp, .prot, .safety, .pair, .time, .can, .adc, .upd, .sent, .free] m (udpPacketReceive net addr port dest bytes dir m) := by
  unfold udpPacketReceive
  repeat' first
    | with_reducible apply Within.refl
    | with_reducible assumption
    | with_reducible apply Within.ite
    | (with_reducible apply Within.step (Mod.badForm_within ..); (on_goal 1 => decide))
    | (with_reducible apply Within.step (Mod.badTag_within ..); (on_goal 1 => decide))
    | (with_reducible apply Within.step (Mod.tagFail_within ..); (on_goal 1 => decide))
    | (with_reducible apply Within.step (hostRow_within ..); (on_goal 1 => decide))
    | (with_reducible apply Within.step (sessionOpen_within ..); (on_goal 1 => decide))
    | (intro _)
    | split

theorem Mod.watchStep_within (m : Mod) (d : Mod) (w : Nat) : Within [.host, .store, .sent] m (Mod.watchStep m d w) := by
  unfold Mod.watchStep
  repeat' first
    | with_reducible apply Within.refl
    | with_reducible assumption
    | with_reducible apply Within.ite
    | (with_reducible apply Within.step (Mod.notify_within ..); (on_goal 1 => decide))
    | (with_reducible apply Within.stepHost; (on_goal 1 => decide); (on_goal 1 => (intro _ h; exact h)))
    | (with_reducible apply Within.step (Mod.post_within ..); (on_goal 1 => decide))
    | with_reducible apply Within.each
    | (intro _)

theorem watchEvaluation_within (dir : Option (W32 × Mod)) (m : Mod) : Within [.host, .store, .sent] m (watchEvaluation dir m) := by
  unfold watchEvaluation
  repeat' first
    | with_reducible apply Within.refl
    | with_reducible assumption
    | with_reducible apply Within.ite
    | (with_reducible apply Within.stepHost; (on_goal 1 => decide); (on_goal 1 => (intro _ h; exact h)))
    | (with_reducible apply Within.step (Mod.watchStep_within ..); (on_goal 1 => decide))
    | with_reducible apply Within.each
    | (intro _)
    | split

end Sys2Proof.Machine
end

