-- ==== Sys2Proof/Laws/UpdFrame.lean ====
section
/-! SUPPORT. Which parts of the module each operation of Machine/Upd.lean can change. -/

namespace Sys2Proof.Machine

theorem Mod.onInactive_within (m : Mod) (f : FwSlot → FwSlot) : Within [.upd] m (Mod.onInactive m f) := by
  unfold Mod.onInactive
  repeat' first
    | with_reducible apply Within.refl
    | with_reducible assumption
    | with_reducible apply Within.ite
    | (with_reducible apply Within.step (Mod.onFwSlot_within ..); (on_goal 1 => decide))

theorem Mod.updRefused_within (m : Mod) (code : Nat) : Within [.store, .upd] m (Mod.updRefused m code) := by
  unfold Mod.updRefused
  repeat' first
    | with_reducible apply Within.refl
    | with_reducible assumption
    | with_reducible apply Within.ite
    | (with_reducible apply Within.step (Mod.onInactive_within ..); (on_goal 1 => decide))
    | (with_reducible apply Within.step (Mod.post_within ..); (on_goal 1 => decide))

theorem Mod.updNo_within (m : Mod) (st code : Nat) : Within [.store, .upd] m (Mod.updNo m st code).1 := by
  unfold Mod.updNo
  repeat' first
    | with_reducible apply Within.refl
    | with_reducible assumption
    | with_reducible apply Within.ite
    | with_reducible apply Within.iteFst
    | (extract_lets +onlyGivenNames x; first | (refine Within.cut (x := x) ?_ ?_; (on_goal 1 => (unfold x; clear x)); on_goal 2 => (intro hx; clear_value x; rename' x => y)) | (clear_value x; rename' x => y))
    | (with_reducible apply Within.step (Mod.updRefused_within ..); (on_goal 1 => decide))

theorem Mod.activate_within (m : Mod) : Within [.store, .upd] m (Mod.activate m).1 := by
  unfold Mod.activate
  repeat' first
    | with_reducible apply Within.refl
    | with_reducible assumption
    | with_reducible apply Within.ite
    | with_reducible apply Within.iteFst
    | (extract_lets +onlyGivenNames x; first | (refine Within.cut (x := x) ?_ ?_; (on_goal 1 => (unfold x; clear x)); on_goal 2 => (intro hx; clear_value x; rename' x => y)) | (clear_value x; rename' x => y))
    | (with_reducible apply Within.step (Mod.onInactive_within ..); (on_goal 1 => decide))
    | (with_reducible apply Within.step (Mod.onUpd_within ..); (on_goal 1 => decide))
    | (with_reducible apply Within.step (Mod.post_within ..); (on_goal 1 => decide))
    | (with_reducible apply Within.step (Mod.updNo_within ..); (on_goal 1 => decide))

theorem networkLinkChange_within (net : Nat) (up : Bool) (m : Mod) : Within [.plan] m (networkLinkChange net up m) := by
  unfold networkLinkChange
  repeat' first
    | with_reducible apply Within.refl
    | with_reducible assumption
    | with_reducible apply Within.ite
    | (extract_lets +onlyGivenNames x; clear_value x; rename' x => y)
    | (with_reducible apply Within.stepPlan; (on_goal 1 => decide); (on_goal 1 => (intro _; exact ⟨rfl, rfl, rfl⟩)))

theorem Mod.rvSend_within (m : Mod) (key : List Byte) (r : Reply) : Within [.sent] m (Mod.rvSend m key r) := by
  unfold Mod.rvSend
  repeat' first
    | with_reducible apply Within.refl
    | with_reducible assumption
    | with_reducible apply Within.ite
    | (extract_lets +onlyGivenNames x; clear_value x; rename' x => y)
    | (with_reducible apply Within.step (Mod.out_within ..); (on_goal 1 => decide))

theorem rvOpen_within (rq : RvReq) (m : Mod) : Within [.host, .store, .upd, .sent, .free] m (rvOpen rq m) := by
  unfold rvOpen
  repeat' first
    | with_reducible apply Within.refl
    | with_reducible assumption
    | with_reducible apply Within.ite
    | (extract_lets +onlyGivenNames x; refine Within.cut (x := x) ?_ ?_; (on_goal 1 => (unfold x; clear x)); on_goal 2 => (intro hx; clear_value x; rename' x => y))
    | (with_reducible apply Within.step (Mod.badTag_within ..); (on_goal 1 => decide))
    | (with_reducible apply Within.step (Mod.free_within ..); (on_goal 1 => decide))
    | (with_reducible apply Within.step (Mod.freeBytes_within ..); (on_goal 1 => decide))
    | (with_reducible apply Within.step (Mod.onUpd_within ..); (on_goal 1 => decide))
    | (with_reducible apply Within.step (Mod.rvEnd_within ..); (on_goal 1 => decide))
    | (with_reducible apply Within.step (Mod.rvSend_within ..); (on_goal 1 => decide))
    | (intro _)
    | split

theorem Mod.rvAfter_within (m : Mod) (k : Nat) :
    Within [.plan, .host, .store, .power, .conv, .disp, .pair, .time, .upd, .sent, .free] m (m.rvAfter k) := by
  unfold Mod.rvAfter
  split
  · exact (Mod.warmRestart_within ..).mono (by decide)
  · exact (Mod.requestRestart_within ..).mono (by decide)
  · exact (Mod.rvEnd_within ..).mono (by decide)
  · exact (Mod.afterReply_within ..).mono (by decide)

theorem uAbort_within (x0 : Req) (m : Mod) : Within [.upd] m (uAbort x0 m).1 := by
  unfold uAbort
  repeat' first
    | with_reducible apply Within.refl
    | with_reducible assumption
    | with_reducible apply Within.ite
    | with_reducible apply Within.iteFst
    | (with_reducible apply Within.step (Mod.onInactive_within ..); (on_goal 1 => decide))
    | (with_reducible apply Within.step (Mod.onUpd_within ..); (on_goal 1 => decide))

theorem uActivate_within (x0 : Req) (m : Mod) : Within [.store, .upd] m (uActivate x0 m).1 := by
  unfold uActivate
  repeat' first
    | with_reducible apply Within.refl
    | with_reducible assumption
    | with_reducible apply Within.ite
    | with_reducible apply Within.iteFst
    | (with_reducible apply Within.step (Mod.activate_within ..); (on_goal 1 => decide))

theorem uBegin_within (r : Req) (m : Mod) : Within [.store, .upd] m (uBegin r m).1 := by
  unfold uBegin
  repeat' first
    | with_reducible apply Within.refl
    | with_reducible assumption
    | with_reducible apply Within.ite
    | with_reducible apply Within.iteFst
    | (with_reducible apply Within.step (Mod.onInactive_within ..); (on_goal 1 => decide))
    | (with_reducible apply Within.step (Mod.post_within ..); (on_goal 1 => decide))
    | (with_reducible apply Within.step (refuse_within ..); (on_goal 1 => decide))

theorem uBlock_within (r : Req) (m : Mod) : Within [.store, .upd] m (uBlock r m).1 := by
  unfold uBlock
  repeat' first
    | with_reducible apply Within.refl
    | with_reducible assumption
    | with_reducible apply Within.ite
    | with_reducible apply Within.iteFst
    | (with_reducible apply Within.step (Mod.onInactive_within ..); (on_goal 1 => decide))
    | (with_reducible apply Within.step (Mod.updNo_within ..); (on_goal 1 => decide))

theorem uCalRead_within (x0 : Req) (m : Mod) : Within [] m (uCalRead x0 m).1 := by
  unfold uCalRead
  repeat' first
    | with_reducible apply Within.refl

theorem uCalReset_within (r : Req) (m : Mod) : Within [.host, .store] m (uCalReset r m).1 := by
  unfold uCalReset
  repeat' first
    | with_reducible apply Within.refl
    | with_reducible assumption
    | with_reducible apply Within.ite
    | with_reducible apply Within.iteFst
    | (extract_lets +onlyGivenNames x; refine Within.cut (x := x) ?_ ?_; (on_goal 1 => (unfold x; clear x)); on_goal 2 => (intro hx; clear_value x; rename' x => y))
    | (with_reducible apply Within.step (Mod.cfgWrite_within ..); (on_goal 1 => decide))
    | (with_reducible apply Within.step (Mod.post_within ..); (on_goal 1 => decide))
    | (with_reducible apply Within.step (Mod.setPar_within ..); (on_goal 1 => decide))
    | (with_reducible apply Within.step (refuse_within ..); (on_goal 1 => decide))
    | with_reducible apply Within.each
    | with_reducible apply Within.refuse
    | (intro _)

theorem Mod.confirm_within (m : Mod) : Within [.store, .upd] m (Mod.confirm m) := by
  unfold Mod.confirm
  repeat' first
    | with_reducible apply Within.refl
    | with_reducible assumption
    | with_reducible apply Within.ite
    | (extract_lets +onlyGivenNames x; first | (refine Within.cut (x := x) ?_ ?_; (on_goal 1 => (unfold x; clear x)); on_goal 2 => (intro hx; clear_value x; rename' x => y)) | (clear_value x; rename' x => y))
    | (with_reducible apply Within.step (Mod.onFwSlot_within ..); (on_goal 1 => decide))
    | (with_reducible apply Within.step (Mod.onInactive_within ..); (on_goal 1 => decide))
    | (with_reducible apply Within.step (Mod.onUpd_within ..); (on_goal 1 => decide))
    | (with_reducible apply Within.step (Mod.post_within ..); (on_goal 1 => decide))

theorem uConfirm_within (x0 : Req) (m : Mod) : Within [.store, .upd] m (uConfirm x0 m).1 := by
  unfold uConfirm
  repeat' first
    | with_reducible apply Within.refl
    | with_reducible assumption
    | with_reducible apply Within.ite
    | with_reducible apply Within.iteFst
    | (with_reducible apply Within.step (Mod.confirm_within ..); (on_goal 1 => decide))

theorem uInfo_within (x0 : Req) (m : Mod) : Within [] m (uInfo x0 m).1 := by
  unfold uInfo
  repeat' first
    | with_reducible apply Within.refl

theorem uKeyLoadClear_within (presence : Bool) (r : Req) (m : Mod) : Within [.host, .store, .power, .upd] m (uKeyLoadClear presence r m).1 := by
  unfold uKeyLoadClear
  repeat' first
    | with_reducible apply Within.refl
    | with_reducible assumption
    | with_reducible apply Within.ite
    | with_reducible apply Within.iteFst
    | with_reducible apply Within.refuse
    | (extract_lets +onlyGivenNames x; first | (refine Within.cut (x := x) ?_ ?_; (on_goal 1 => (unfold x; clear x)); on_goal 2 => (intro hx; clear_value x; rename' x => y)) | (clear_value x; rename' x => y))
    | (with_reducible apply Within.step (refuse_within ..); (on_goal 1 => decide))
    | (with_reducible apply Within.step (Mod.storeKey_within ..); (on_goal 1 => decide))
    | (intro _)
    | split

theorem uRollback_within (x0 : Req) (m : Mod) : Within [.store, .upd] m (uRollback x0 m).1 := by
  unfold uRollback
  repeat' first
    | with_reducible apply Within.refl
    | with_reducible assumption
    | with_reducible apply Within.ite
    | with_reducible apply Within.iteFst
    | (with_reducible apply Within.step (Mod.activate_within ..); (on_goal 1 => decide))
    | (with_reducible apply Within.step (Mod.post_within ..); (on_goal 1 => decide))
    | (with_reducible apply Within.step (Mod.updNo_within ..); (on_goal 1 => decide))

theorem uSafeCommit_within (r : Req) (m : Mod) : Within [.store, .safety] m (uSafeCommit r m).1 := by
  unfold uSafeCommit
  repeat' first
    | with_reducible apply Within.refl
    | with_reducible assumption
    | with_reducible apply Within.ite
    | with_reducible apply Within.iteFst
    | (extract_lets +onlyGivenNames x; first | (refine Within.cut (x := x) ?_ ?_; (on_goal 1 => (unfold x; clear x)); on_goal 2 => (intro hx; clear_value x; rename' x => y)) | (clear_value x; rename' x => y))
    | (with_reducible apply Within.step (Mod.onSafety_within ..); (on_goal 1 => decide))
    | (with_reducible apply Within.step (Mod.post_within ..); (on_goal 1 => decide))
    | (intro _)
    | split

theorem uSafeStage_within (r : Req) (m : Mod) : Within [.safety] m (uSafeStage r m).1 := by
  unfold uSafeStage
  repeat' first
    | with_reducible apply Within.refl
    | with_reducible assumption
    | with_reducible apply Within.ite
    | with_reducible apply Within.iteFst
    | (extract_lets +onlyGivenNames x; clear_value x; rename' x => y)
    | (with_reducible apply Within.step (Mod.onSafety_within ..); (on_goal 1 => decide))
    | (with_reducible apply Within.step (refuse_within ..); (on_goal 1 => decide))
    | with_reducible apply Within.refuse
    | (intro _)
    | split

theorem uStatus_within (x0 : Req) (m : Mod) : Within [] m (uStatus x0 m).1 := by
  unfold uStatus
  repeat' first
    | with_reducible apply Within.refl

theorem uSvcEnter_within (x0 : Req) (m : Mod) : Within [.store, .upd] m (uSvcEnter x0 m).1 := by
  unfold uSvcEnter
  repeat' first
    | with_reducible apply Within.refl
    | with_reducible assumption
    | with_reducible apply Within.ite
    | with_reducible apply Within.iteFst
    | (with_reducible apply Within.step (Mod.onUpd_within ..); (on_goal 1 => decide))
    | (with_reducible apply Within.step (Mod.post_within ..); (on_goal 1 => decide))

theorem uSvcLeave_within (x0 : Req) (m : Mod) : Within [.store, .upd] m (uSvcLeave x0 m).1 := by
  unfold uSvcLeave
  repeat' first
    | with_reducible apply Within.refl
    | with_reducible assumption
    | with_reducible apply Within.ite
    | with_reducible apply Within.iteFst
    | (with_reducible apply Within.step (Mod.serviceEnd_within ..); (on_goal 1 => decide))

theorem uVerify_within (x0 : Req) (m : Mod) : Within [.upd] m (uVerify x0 m).1 := by
  unfold uVerify
  repeat' first
    | with_reducible apply Within.refl
    | with_reducible assumption
    | with_reducible apply Within.ite
    | with_reducible apply Within.iteFst
    | (with_reducible apply Within.step (Mod.onInactive_within ..); (on_goal 1 => decide))
    | (with_reducible apply Within.step (Mod.onUpd_within ..); (on_goal 1 => decide))

theorem rvOp_within (presence : Bool) (r : Req) (m : Mod) : Within [.plan, .host, .store, .power, .conv, .disp, .prot, .safety, .pair, .time, .can, .adc, .upd, .sent, .free] m (rvOp presence r m).1 := by
  unfold rvOp
  repeat' first
    | with_reducible apply Within.refl
    | with_reducible assumption
    | with_reducible apply Within.ite
    | with_reducible apply Within.iteFst
    | (with_reducible apply Within.step (hDiagRead_within ..); (on_goal 1 => decide))
    | (with_reducible apply Within.step (hDiagWrite_within ..); (on_goal 1 => decide))
    | (with_reducible apply Within.step (hRestart_within ..); (on_goal 1 => decide))
    | (with_reducible apply Within.step (uAbort_within ..); (on_goal 1 => decide))
    | (with_reducible apply Within.step (uActivate_within ..); (on_goal 1 => decide))
    | (with_reducible apply Within.step (uBegin_within ..); (on_goal 1 => decide))
    | (with_reducible apply Within.step (uBlock_within ..); (on_goal 1 => decide))
    | (with_reducible apply Within.step (uCalRead_within ..); (on_goal 1 => decide))
    | (with_reducible apply Within.step (uCalReset_within ..); (on_goal 1 => decide))
    | (with_reducible apply Within.step (uConfirm_within ..); (on_goal 1 => decide))
    | (with_reducible apply Within.step (uInfo_within ..); (on_goal 1 => decide))
    | (with_reducible apply Within.step (uKeyLoadClear_within ..); (on_goal 1 => decide))
    | (with_reducible apply Within.step (uRollback_within ..); (on_goal 1 => decide))
    | (with_reducible apply Within.step (uSafeCommit_within ..); (on_goal 1 => decide))
    | (with_reducible apply Within.step (uSafeStage_within ..); (on_goal 1 => decide))
    | (with_reducible apply Within.step (uStatus_within ..); (on_goal 1 => decide))
    | (with_reducible apply Within.step (uSvcEnter_within ..); (on_goal 1 => decide))
    | (with_reducible apply Within.step (uSvcLeave_within ..); (on_goal 1 => decide))
    | (with_reducible apply Within.step (uVerify_within ..); (on_goal 1 => decide))
    | (intro _)
    | split

theorem rvChecked_within (presence : Bool) (r : Req) (malformed : Bool) (m : Mod) : Within [.plan, .host, .store, .power, .conv, .disp, .prot, .safety, .pair, .time, .can, .adc, .upd, .sent, .free] m (rvChecked presence r malformed m).1 := by
  unfold rvChecked
  repeat' first
    | with_reducible apply Within.refl
    | with_reducible assumption
    | with_reducible apply Within.ite
    | with_reducible apply Within.iteFst
    | (with_reducible apply Within.step (refuse_within ..); (on_goal 1 => decide))
    | (with_reducible apply Within.step (rvOp_within ..); (on_goal 1 => decide))
    | with_reducible apply Within.refuse
    | (intro _)
    | split

theorem rvCursor_within (op : Nat) (rq : RvReq) (m : Mod) : Within [.plan, .host, .store, .power, .conv, .disp, .prot, .safety, .pair, .time, .can, .adc, .upd, .sent, .free] m (rvCursor op rq m) := by
  unfold rvCursor
  repeat' first
    | with_reducible apply Within.refl
    | with_reducible assumption
    | with_reducible apply Within.ite
    | (extract_lets +onlyGivenNames x; clear_value x; rename' x => y)
    | (with_reducible apply Within.step (Mod.rvSend_within ..); (on_goal 1 => decide))
    | (with_reducible apply Within.step (refuse_within ..); (on_goal 1 => decide))
    | (with_reducible apply Within.step (rvOp_within ..); (on_goal 1 => decide))
    | with_reducible apply Within.refuse
    | (intro _)
    | split

theorem rvRow_within (op : Nat) (rq : RvReq) (m : Mod) : Within [.plan, .host, .store, .power, .conv, .disp, .prot, .safety, .pair, .time, .can, .adc, .upd, .sent, .free] m (rvRow op rq m) := by
  unfold rvRow
  dsimp only
  repeat' first
    | with_reducible apply Within.refl
    | with_reducible assumption
    | with_reducible apply Within.ite
    | (with_reducible apply Within.stepHost; (on_goal 1 => decide); (on_goal 1 => (intro _ h; exact h)))
    | (with_reducible apply Within.step (Mod.rvSend_within ..); (on_goal 1 => decide))
    | (with_reducible apply Within.step (Mod.rvAfter_within ..); (on_goal 1 => decide))
    | (with_reducible apply Within.step (rvChecked_within ..); (on_goal 1 => decide))
    | (with_reducible apply Within.step (rvCursor_within ..); (on_goal 1 => decide))
    | (with_reducible apply Within.step (Mod.rvEnd_within ..); (on_goal 1 => decide))
    | (with_reducible apply Within.step (Mod.onUpd_within ..); (on_goal 1 => decide))
    | (intro _)
    | split

theorem rvSessionIdle_within (m : Mod) : Within [.store, .upd] m (rvSessionIdle m) := by
  unfold rvSessionIdle
  repeat' first
    | with_reducible apply Within.refl
    | with_reducible assumption
    | with_reducible apply Within.ite
    | (with_reducible apply Within.step (Mod.rvEnd_within ..); (on_goal 1 => decide))
    | (intro _)
    | split

theorem trialAutoConfirm_within (m : Mod) : Within [.store, .upd] m (trialAutoConfirm m) := by
  unfold trialAutoConfirm
  repeat' first
    | with_reducible apply Within.refl
    | with_reducible assumption
    | with_reducible apply Within.ite
    | (with_reducible apply Within.step (Mod.confirm_within ..); (on_goal 1 => decide))
    | (intro _)
    | split

theorem updVerifyComplete_within (m : Mod) : Within [.store, .upd] m (updVerifyComplete m) := by
  unfold updVerifyComplete
  repeat' first
    | with_reducible apply Within.refl
    | with_reducible assumption
    | with_reducible apply Within.ite
    | (with_reducible apply Within.step (Mod.onInactive_within ..); (on_goal 1 => decide))
    | (with_reducible apply Within.step (Mod.onUpd_within ..); (on_goal 1 => decide))
    | (with_reducible apply Within.step (Mod.post_within ..); (on_goal 1 => decide))
    | (with_reducible apply Within.step (Mod.updRefused_within ..); (on_goal 1 => decide))

theorem usbDisconnect_within (m : Mod) : Within [.store, .upd] m (usbDisconnect m) := by
  unfold usbDisconnect
  repeat' first
    | with_reducible apply Within.refl
    | with_reducible assumption
    | with_reducible apply Within.ite
    | (with_reducible apply Within.step (Mod.onUpd_within ..); (on_goal 1 => decide))
    | (with_reducible apply Within.step (Mod.rvEnd_within ..); (on_goal 1 => decide))

theorem Mod.supVolatile_within (m : Mod) : Within [.host, .store, .prot, .time] m (Mod.supVolatile m) := by
  unfold Mod.supVolatile
  repeat' first
    | with_reducible apply Within.refl
    | with_reducible assumption
    | with_reducible apply Within.ite
    | (with_reducible apply Within.stepHost; (on_goal 1 => decide); (on_goal 1 => (intro _ h; exact h)))
    | (with_reducible apply Within.step (Mod.setPar_within ..); (on_goal 1 => decide))
    | (with_reducible apply Within.step (Mod.onStore_within ..); (on_goal 1 => decide))
    | (with_reducible apply Within.step (Mod.onProt_within ..); (on_goal 1 => decide))
    | (with_reducible apply Within.step (Mod.onTime_within ..); (on_goal 1 => decide))
    | (intro _)
    | split

theorem warmRestartComplete_within (bootA bootB : Bool) (m : Mod) : Within [.plan, .host, .store, .power, .chain, .est, .conv, .disp, .prot, .safety, .pair, .time, .can, .adc, .upd, .sent, .free] m (warmRestartComplete bootA bootB m) := by
  have hu : ∀ (m : Mod) f, Within [.plan, .host, .store, .power, .chain, .est, .conv, .disp, .prot, .safety, .pair, .time, .can, .adc, .upd, .sent, .free] m (m.onUpd f) := fun m f => (Mod.onUpd_within m f).mono (by decide)
  have hi : ∀ (m : Mod) f, Within [.plan, .host, .store, .power, .chain, .est, .conv, .disp, .prot, .safety, .pair, .time, .can, .adc, .upd, .sent, .free] m (m.onInactive f) := fun m f => (Mod.onInactive_within m f).mono (by decide)
  have hp : ∀ (m : Mod), Within [.plan, .host, .store, .power, .chain, .est, .conv, .disp, .prot, .safety, .pair, .time, .can, .adc, .upd, .sent, .free] m
      (m.onPlan fun p => { p with warm := false, sp0Ok := true, sp1Ok := decide (m.power.state ≠ .parked) }) := fun m =>
    Within.stepPlan (by decide) (fun _ => ⟨rfl, rfl, rfl⟩) (.refl ..)
  unfold warmRestartComplete
  split
  · exact .refl ..
  extract_lets was trial m1 m2
  have h1 : Within [.plan, .host, .store, .power, .chain, .est, .conv, .disp, .prot, .safety, .pair, .time, .can, .adc, .upd, .sent, .free] m m1 := (hu ..).trans ((Mod.rvEnd_within _).mono (by decide))
  have h2 : Within [.plan, .host, .store, .power, .chain, .est, .conv, .disp, .prot, .safety, .pair, .time, .can, .adc, .upd, .sent, .free] m m2 := by
    unfold m2
    split
    · exact h1.trans ((hi ..).trans (hu ..))
    · exact h1
  have h3 : Within [.plan, .host, .store, .power, .chain, .est, .conv, .disp, .prot, .safety, .pair, .time, .can, .adc, .upd, .sent, .free] m m2.supVolatile := h2.trans ((Mod.supVolatile_within _).mono (by decide))
  clear_value m2
  have h4 := Mod.bootSelect_within m2.supVolatile fun b => if b then bootB else bootA
  generalize m2.supVolatile.bootSelect _ = x at h4 ⊢
  have h5 : Within [.plan, .host, .store, .power, .chain, .est, .conv, .disp, .prot, .safety, .pair, .time, .can, .adc, .upd, .sent, .free] m ((x.1.onPlan fun p => { p with warm := false, sp0Ok := true, sp1Ok := decide (x.1.power.state ≠ .parked) }).tellPartner 0) :=
    ((h3.trans (h4.mono (by decide))).trans (hp ..)).trans ((Mod.tellPartner_within ..).mono (by decide))
  obtain ⟨y, slot⟩ := x
  dsimp only at h5 ⊢
  split
  · exact h5.trans ((Mod.enterRecovery_within ..).mono (by decide))
  · split
    · exact h5.trans (((Mod.bootInto_within ..).mono (by decide)).trans ((Mod.requestRestart_within ..).mono (by decide)))
    · exact h5.trans ((Mod.bootInto_within ..).mono (by decide))

end Sys2Proof.Machine
end

