-- ==== Sys2Proof/Laws/ReplayFrame.lean ====
section
/-! SUPPORT. Which parts of the module each operation of Machine/Replay.lean can change. -/

namespace Sys2Proof.Machine

theorem Mod.replayOpen_within (m : Mod) (c : RepCmd) : Within [.host] m (Mod.replayOpen m c) := by
  unfold Mod.replayOpen
  repeat' first
    | with_reducible apply Within.refl
    | with_reducible assumption
    | with_reducible apply Within.ite
    | (with_reducible apply Within.step (Mod.addSession_within ..); (on_goal 1 => decide))

theorem Mod.replayCmd_within (m : Mod) (c : RepCmd) : Within [.plan, .host, .store, .power, .chain, .est, .conv, .disp, .prot, .safety, .pair, .time, .can, .adc, .upd, .sent, .free] m (Mod.replayCmd m c) := by
  unfold Mod.replayCmd
  repeat' first
    | with_reducible apply Within.refl
    | with_reducible assumption
    | with_reducible apply Within.ite
    | (extract_lets +onlyGivenNames x; first | (refine Within.cut (x := x) ?_ ?_; (on_goal 1 => (unfold x; clear x)); on_goal 2 => (intro hx; clear_value x; rename' x => y)) | (clear_value x; rename' x => y))
    | with_reducible apply Within.logical
    | (with_reducible apply Within.step (estRestoreCmd_within ..); (on_goal 1 => decide))
    | (with_reducible apply Within.step (Mod.onSession_within ..); (on_goal 1 => decide))
    | (with_reducible apply Within.step (Mod.reply_within ..); (on_goal 1 => decide))
    | (with_reducible apply Within.step (Mod.cacheReply_within ..); (on_goal 1 => decide))
    | (with_reducible apply Within.step (hKeyLoad_within ..); (on_goal 1 => decide))
    | (with_reducible apply Within.step (hostOp_within ..); (on_goal 1 => decide))
    | (with_reducible apply Within.step (Mod.replayOpen_within ..); (on_goal 1 => decide))
    | (with_reducible apply Within.step (Mod.closeSession_within ..); (on_goal 1 => decide))
    | (with_reducible apply Within.step (Mod.securityErase_within ..); (on_goal 1 => decide))
    | (intro _)
    | split

theorem Mod.loopsRan_within (m : Mod) : Within [.conv] m (Mod.loopsRan m) := by
  unfold Mod.loopsRan
  dsimp only
  repeat' first
    | with_reducible apply Within.refl
    | with_reducible assumption
    | with_reducible apply Within.ite
    | (with_reducible apply Within.step (Mod.onLink_within ..); (on_goal 1 => decide))
    | with_reducible apply Within.each
    | (intro _)
    | split

theorem Mod.catchUp_within (m : Mod) : Within [.plan, .host, .store, .chain, .est, .conv, .prot, .safety, .pair, .adc, .sent, .free] m (Mod.catchUp m) := by
  unfold Mod.catchUp
  repeat' first
    | with_reducible apply Within.refl
    | with_reducible assumption
    | with_reducible apply Within.ite
    | with_reducible apply Within.logical
    | (with_reducible apply Within.atTick; (on_goal 2 => decide))
    | (with_reducible apply Within.step (Mod.tickEnd_within ..); (on_goal 1 => decide))
    | (with_reducible apply Within.step (Mod.tickStart_within ..); (on_goal 1 => decide))
    | (with_reducible apply Within.step (Mod.replayTick_within ..); (on_goal 1 => decide))
    | (with_reducible apply Within.step (Mod.loopsRan_within ..); (on_goal 1 => decide))
    | with_reducible apply Within.each
    | (intro _)
    | split

theorem Mod.replayBoundary_within (m : Mod) (r : ReplayRec) : Within [.plan, .host, .store, .chain, .est, .conv, .disp, .prot, .safety, .pair, .adc, .sent] m (Mod.replayBoundary m r) := by
  unfold Mod.replayBoundary
  repeat' first
    | with_reducible apply Within.refl
    | with_reducible assumption
    | with_reducible apply Within.ite
    | (extract_lets +onlyGivenNames x; first | (refine Within.cut (x := x) ?_ ?_; (on_goal 1 => (unfold x; clear x)); on_goal 2 => (intro hx; clear_value x; rename' x => y)) | (clear_value x; rename' x => y))
    | with_reducible apply Within.logical
    | (with_reducible apply Within.step (Mod.planBoundary_within ..); (on_goal 1 => decide))
    | (with_reducible apply Within.step (bedReplant_within ..); (on_goal 1 => decide))
    | (with_reducible apply Within.step (planRestart_within ..); (on_goal 1 => decide))
    | (intro _)
    | split

theorem replayRecordReceive_within (r : ReplayRec) (exch : List (Nat × BedImage)) (m : Mod) : Within [.plan, .clock, .host, .store, .power, .chain, .est, .conv, .disp, .prot, .safety, .pair, .time, .can, .adc, .upd, .sent, .free] m (replayRecordReceive r exch m) := by
  unfold replayRecordReceive
  repeat' first
    | with_reducible apply Within.refl
    | with_reducible assumption
    | with_reducible apply Within.ite
    | (extract_lets +onlyGivenNames x; first | (refine Within.cut (x := x) ?_ ?_; (on_goal 1 => (unfold x; clear x)); on_goal 2 => (intro hx; clear_value x; rename' x => y)) | (clear_value x; rename' x => y))
    | (with_reducible apply Within.step (Mod.onPlan_clock ..); (on_goal 1 => decide))
    | (with_reducible apply Within.step (Mod.schedule_within ..); (on_goal 1 => decide))
    | (with_reducible apply Within.step (Mod.activate_within ..); (on_goal 1 => decide))
    | (with_reducible apply Within.step (Mod.resyncGrain_within ..); (on_goal 1 => decide))
    | (with_reducible apply Within.step (Mod.followContact_within ..); (on_goal 1 => decide))
    | (with_reducible apply Within.step (Mod.partnerTone_within ..); (on_goal 1 => decide))
    | (with_reducible apply Within.step (Mod.writeParams_within ..); (on_goal 1 => decide))
    | (with_reducible apply Within.step (Mod.replayCmd_within ..); (on_goal 1 => decide))
    | (with_reducible apply Within.step (Mod.catchUp_within ..); (on_goal 1 => decide))
    | (with_reducible apply Within.step (Mod.replayBoundary_within ..); (on_goal 1 => decide))
    | (with_reducible apply Within.step (Mod.onDisp_within ..); (on_goal 1 => decide))
    | (with_reducible apply Within.step (Mod.onPair_within ..); (on_goal 1 => decide))
    | (with_reducible apply Within.step (Mod.onTime_within ..); (on_goal 1 => decide))
    | (with_reducible apply Within.step (Mod.onRing_within ..); (on_goal 1 => decide))
    | (with_reducible apply Within.step (Mod.onObj_within ..); (on_goal 1 => decide))
    | with_reducible apply Within.each
    | (intro _)
    | split

theorem Mod.forwardReply_within (m : Mod) (body : List Byte) : Within [.host, .store, .sent] m (Mod.forwardReply m body) := by
  unfold Mod.forwardReply
  repeat' first
    | with_reducible apply Within.refl
    | with_reducible assumption
    | with_reducible apply Within.ite
    | (with_reducible apply Within.step (Mod.reply_within ..); (on_goal 1 => decide))
    | (intro _)
    | split

theorem Mod.forwarded_within (m : Mod) (op : Nat) (body : List Byte) : Within [.host, .store, .conv, .disp, .prot, .safety, .pair, .sent] m (Mod.forwarded m op body) := by
  unfold Mod.forwarded
  dsimp only
  repeat' first
    | with_reducible apply Within.refl
    | with_reducible assumption
    | with_reducible apply Within.ite
    | (with_reducible apply Within.step (tripCmd_within ..); (on_goal 1 => decide))
    | (with_reducible apply Within.step (Mod.onSession_within ..); (on_goal 1 => decide))
    | (with_reducible apply Within.step (Mod.sendReplyTo_within ..); (on_goal 1 => decide))
    | (with_reducible apply Within.step (Mod.reply_within ..); (on_goal 1 => decide))
    | (with_reducible apply Within.step (Mod.capture_within ..); (on_goal 1 => decide))
    | (with_reducible apply Within.step (Mod.await_within ..); (on_goal 1 => decide))
    | (with_reducible apply Within.step (Mod.again_within ..); (on_goal 1 => decide))
    | (with_reducible apply Within.step (Mod.onDisp_within ..); (on_goal 1 => decide))
    | (intro _)
    | split

theorem Mod.planImage_within (m : Mod) (type left : Nat) (img : List Byte) : Within [.plan, .store, .chain, .est, .conv, .prot, .pair, .adc, .sent] m (Mod.planImage m type left img) := by
  unfold Mod.planImage
  repeat' first
    | with_reducible apply Within.refl
    | with_reducible assumption
    | with_reducible apply Within.ite
    | (extract_lets +onlyGivenNames x; first | (refine Within.cut (x := x) ?_ ?_; (on_goal 1 => (unfold x; clear x)); on_goal 2 => (intro hx; clear_value x; rename' x => y)) | (clear_value x; rename' x => y))
    | (with_reducible apply Within.stepPlan; (on_goal 1 => decide); (on_goal 1 => (intro _; exact PlanSt.reprepare_clock ..)))
    | (with_reducible apply Within.stepPlan; (on_goal 1 => decide); (on_goal 1 => (intro _; exact ⟨rfl, rfl, rfl⟩)))
    | (with_reducible apply Within.step (Mod.bedStarts_within ..); (on_goal 1 => decide))
    | (with_reducible apply Within.step (Mod.planRefused_within ..); (on_goal 1 => decide))
    | (with_reducible apply Within.step (Mod.unconfigure_within ..); (on_goal 1 => decide))
    | (with_reducible apply Within.step (Mod.onPair_within ..); (on_goal 1 => decide))
    | with_reducible apply Within.each
    | (intro _)
    | split

theorem Mod.versionsReport_within (m : Mod) (v : PartnerVer) : Within [.pair, .sent] m (Mod.versionsReport m v) := by
  unfold Mod.versionsReport
  repeat' first
    | with_reducible apply Within.refl
    | with_reducible assumption
    | with_reducible apply Within.ite
    | (extract_lets +onlyGivenNames x; first | (refine Within.cut (x := x) ?_ ?_; (on_goal 1 => (unfold x; clear x)); on_goal 2 => (intro hx; clear_value x; rename' x => y)) | (clear_value x; rename' x => y))
    | (with_reducible apply Within.step (Mod.sendPlan_within ..); (on_goal 1 => decide))
    | (with_reducible apply Within.step (Mod.onPair_within ..); (on_goal 1 => decide))
    | (with_reducible apply Within.step (Mod.out_within ..); (on_goal 1 => decide))
    | (intro _)
    | split

theorem Mod.chainWindow_within (m : Mod) (body : List Byte) : Within [.pair, .sent] m (Mod.chainWindow m body) := by
  unfold Mod.chainWindow
  repeat' first
    | with_reducible apply Within.refl
    | with_reducible assumption
    | with_reducible apply Within.ite
    | (extract_lets +onlyGivenNames x; first | (refine Within.cut (x := x) ?_ ?_; (on_goal 1 => (unfold x; clear x)); on_goal 2 => (intro hx; clear_value x; rename' x => y)) | (clear_value x; rename' x => y))
    | (with_reducible apply Within.step (Mod.onPair_within ..); (on_goal 1 => decide))
    | (with_reducible apply Within.step (Mod.out_within ..); (on_goal 1 => decide))
    | (intro _)
    | split

theorem Mod.partnerCancels_within (m : Mod) (cause : Nat) : Within [.plan, .store, .sent] m (Mod.partnerCancels m cause) := by
  unfold Mod.partnerCancels
  repeat' first
    | with_reducible apply Within.refl
    | with_reducible assumption
    | with_reducible apply Within.ite
    | (extract_lets +onlyGivenNames x; first | (refine Within.cut (x := x) ?_ ?_; (on_goal 1 => (unfold x; clear x)); on_goal 2 => (intro hx; clear_value x; rename' x => y)) | (clear_value x; rename' x => y))
    | (with_reducible apply Within.stepPlan; (on_goal 1 => decide); (on_goal 1 => (intro _; exact ⟨rfl, rfl, rfl⟩)))
    | (with_reducible apply Within.step (Mod.cancelActivation_within ..); (on_goal 1 => decide))
    | (intro _)
    | split

theorem Mod.yieldAnnounced_within (m : Mod) (t : W32) (drill : Bool) : Within [.plan, .store, .pair, .sent] m (Mod.yieldAnnounced m t drill) := by
  unfold Mod.yieldAnnounced
  repeat' first
    | with_reducible apply Within.refl
    | with_reducible assumption
    | with_reducible apply Within.ite
    | (with_reducible apply Within.step (Mod.cancelActivation_within ..); (on_goal 1 => decide))
    | (with_reducible apply Within.step (Mod.onPair_within ..); (on_goal 1 => decide))
    | (intro _)
    | split

theorem Mod.graftMessage_within (m : Mod) (ptr len type : Nat) (body : List Byte) : Within [.host, .store] m (Mod.graftMessage m ptr len type body) := by
  unfold Mod.graftMessage
  repeat' first
    | with_reducible apply Within.refl
    | with_reducible assumption
    | with_reducible apply Within.ite
    | (extract_lets +onlyGivenNames x; first | (refine Within.cut (x := x) ?_ ?_; (on_goal 1 => (unfold x; clear x)); on_goal 2 => (intro hx; clear_value x; rename' x => y)) | (clear_value x; rename' x => y))
    | (with_reducible apply Within.step (Mod.xaPut_within ..); (on_goal 1 => decide))
    | (with_reducible apply Within.step (Mod.xaUnpoison_within ..); (on_goal 1 => decide))
    | (with_reducible apply Within.step (Mod.onMbx_within ..); (on_goal 1 => decide))
    | (with_reducible apply Within.step (Mod.post_within ..); (on_goal 1 => decide))
    | (intro _)
    | split

theorem Mod.graftBatch_within (m : Mod) (body : List Byte) : Within [.host, .store, .sent] m (Mod.graftBatch m body) := by
  unfold Mod.graftBatch
  repeat' first
    | with_reducible apply Within.refl
    | with_reducible assumption
    | with_reducible apply Within.ite
    | (extract_lets +onlyGivenNames x; first | (refine Within.cut (x := x) ?_ ?_; (on_goal 1 => (unfold x; clear x)); on_goal 2 => (intro hx; clear_value x; rename' x => y)) | (clear_value x; rename' x => y))
    | (with_reducible apply Within.step (Mod.xaPut_within ..); (on_goal 1 => decide))
    | (with_reducible apply Within.step (Mod.xaUnpoison_within ..); (on_goal 1 => decide))
    | (with_reducible apply Within.step (Mod.mbxOut_within ..); (on_goal 1 => decide))
    | (intro _)
    | split

theorem Mod.resyncAsked_within (m : Mod) (g : W32) : Within [.pair] m (Mod.resyncAsked m g) := by
  unfold Mod.resyncAsked
  repeat' first
    | with_reducible apply Within.refl
    | with_reducible assumption
    | with_reducible apply Within.ite
    | (with_reducible apply Within.step (Mod.onPair_within ..); (on_goal 1 => decide))
    | (intro _)
    | split

theorem graftMailboxReceive_within (kind ptr len type : Nat) (body : List Byte) (m : Mod) : Within [.plan, .host, .store, .chain, .est, .conv, .disp, .prot, .safety, .pair, .adc, .sent] m (graftMailboxReceive kind ptr len type body m) := by
  unfold graftMailboxReceive
  repeat' first
    | with_reducible apply Within.refl
    | with_reducible assumption
    | with_reducible apply Within.ite
    | (extract_lets +onlyGivenNames x; first | (refine Within.cut (x := x) ?_ ?_; (on_goal 1 => (unfold x; clear x)); on_goal 2 => (intro hx; clear_value x; rename' x => y)) | (clear_value x; rename' x => y))
    | (with_reducible apply Within.step (Mod.startEnum_within ..); (on_goal 1 => decide))
    | (with_reducible apply Within.step (Mod.schedule_within ..); (on_goal 1 => decide))
    | (with_reducible apply Within.step (Mod.candidateReport_within ..); (on_goal 1 => decide))
    | (with_reducible apply Within.step (Mod.graftCandidate_within ..); (on_goal 1 => decide))
    | (with_reducible apply Within.step (Mod.onMbx_within ..); (on_goal 1 => decide))
    | (with_reducible apply Within.step (Mod.mismatch_within ..); (on_goal 1 => decide))
    | (with_reducible apply Within.step (Mod.forwardReply_within ..); (on_goal 1 => decide))
    | (with_reducible apply Within.step (Mod.forwarded_within ..); (on_goal 1 => decide))
    | (with_reducible apply Within.step (Mod.planImage_within ..); (on_goal 1 => decide))
    | (with_reducible apply Within.step (Mod.versionsReport_within ..); (on_goal 1 => decide))
    | (with_reducible apply Within.step (Mod.chainWindow_within ..); (on_goal 1 => decide))
    | (with_reducible apply Within.step (Mod.partnerCancels_within ..); (on_goal 1 => decide))
    | (with_reducible apply Within.step (Mod.yieldAnnounced_within ..); (on_goal 1 => decide))
    | (with_reducible apply Within.step (Mod.graftMessage_within ..); (on_goal 1 => decide))
    | (with_reducible apply Within.step (Mod.graftBatch_within ..); (on_goal 1 => decide))
    | (with_reducible apply Within.step (Mod.resyncAsked_within ..); (on_goal 1 => decide))
    | (with_reducible apply Within.step (Mod.onPair_within ..); (on_goal 1 => decide))
    | with_reducible apply Within.each
    | (intro _)
    | split

end Sys2Proof.Machine
end

