-- ==== Sys2Proof/Laws/Run.lean ====
section
/-! SUPPORT. How a command reaches the module, said once for each wrapper: what it answers where its event can happen. -/

namespace Sys2Proof.Machine

theorem State.when_true (s : State) {c : Bool} (h : c = true) (f : Mod → Mod) : s.when c f = .next { s with m := f s.m } := by
  simp [State.when, h]

theorem State.when_false (s : State) {c : Bool} (h : c = false) (f : Mod → Mod) : s.when c f = .next s := by
  simp [State.when, h]

theorem State.any_runs (s : State) {ok : Bool} (h : ok = true) (f : Mod → Mod) : s.any ok f = .next { s with m := f s.m } :=
  s.when_true h f

theorem State.on_runs (s : State) {ok : Bool} (h : ok = true) (p : s.m.powered = true) (f : Mod → Mod) :
    s.on ok f = .next { s with m := f s.m } := s.when_true (by simp [h, p]) f

theorem State.sup_runs (s : State) {ok : Bool} (h : ok = true) (p : s.m.supRuns = true) (f : Mod → Mod) :
    s.sup ok f = .next { s with m := f s.m } := s.when_true (by simp [h, p]) f

theorem State.fab_runs (s : State) {ok : Bool} (h : ok = true) (p : s.m.fabricOn = true) (f : Mod → Mod) :
    s.fab ok f = .next { s with m := f s.m } := s.when_true (by simp [h, p]) f

theorem State.plan_runs (s : State) {ok : Bool} (h : ok = true) (p : s.m.planOn = true) (f : Mod → Mod) :
    s.plan ok f = .next { s with m := f s.m } := s.when_true (by simp [h, p]) f

theorem State.act_runs (s : State) {ok : Bool} (h : ok = true) (p : s.acts) (f : Mod → Mod) :
    s.act ok f = .next { s with m := f s.m } := s.when_true (by simp [h, p.1, p.2]) f

theorem Mod.logical_acts (m : Mod) (h : m.standby = false) (f : Mod → Mod) : m.logical f = f m := by
  simp [Mod.logical, h]

theorem State.lgc_runs (s : State) {ok : Bool} (h : ok = true) (p : s.acts) (f : Mod → Mod) :
    s.lgc ok f = .next { s with m := f s.m } := by
  rw [State.lgc, s.when_true (by simp [h, p.1]) _, Mod.logical_acts _ p.2]

/-- A change of the module within parts leaves the rest of the block alone. -/
theorem Within.only {ps : List Part} {s : State} {m : Mod} (h : Within ps s.m m) : Only ps s { s with m := m } :=
  ⟨h.out, rfl, rfl, rfl, rfl⟩

end Sys2Proof.Machine
end

