-- ==== Sys2Proof/Laws/Exec.lean ====
section
/-! SUPPORT. What each command can change: it answers a next state, in which only the parts named may differ, and the waiting commands
stand as they stood. -/

namespace Sys2Proof.Machine

/-- The outcome is a next state in which the module differs from that of `s` within the parts named, and the queue is that of `s`. -/
def Law (ps : List Part) (s : State) (o : Host.Outcome State Fault Refusal) : Prop :=
  ∃ t, o = .next t ∧ Within ps s.m t.m ∧ t.pending = s.pending

theorem Law.all {ps qs : List Part} {s : State} {o : Host.Outcome State Fault Refusal} (h : Law ps s o) (k : ∀ p ∈ ps, p ∈ qs) : Law qs s o := by
  obtain ⟨t, a, b, c⟩ := h
  exact ⟨t, a, b.mono k, c⟩

theorem State.when_law {ps : List Part} (s : State) (c : Bool) {f : Mod → Mod} (h : ∀ m, Within ps m (f m)) : Law ps s (s.when c f) := by
  unfold State.when
  cases c
  · exact ⟨s, rfl, .refl .., rfl⟩
  · exact ⟨_, rfl, h _, rfl⟩

theorem State.lgc_law {ps : List Part} (s : State) (ok : Bool) {f : Mod → Mod} (h : ∀ m, Within ps m (f m)) : Law ps s (s.lgc ok f) :=
  s.when_law _ fun _ => Within.logical h (.refl ..)

theorem State.start_law {ps : List Part} (s : State) (ok : Bool) {f : Mod → Mod} (h : ∀ m, Within ps m (f m)) : Law ps s (s.start ok f) := by
  unfold State.start
  refine ⟨_, rfl, ?_, ?_⟩
  · repeat' split
    all_goals first | exact h _ | exact .refl ..
  · repeat' split
    all_goals rfl

/-- A copy of the directory is written: of the module, only the watches' counts may change. -/
theorem State.publish_m (s : State) : s.publish.m = s.m.watchPassed (s.dir.map Prod.fst) ∧ s.publish.pending = s.pending := by
  unfold State.publish
  extract_lets g d s'
  cases hg : g.getLsbD 0 <;> exact ⟨rfl, rfl⟩

theorem State.grain_law {ps : List Part} (s : State) {f : Mod → Mod} (h : ∀ m, Within ps m (f m))
    (k : ∀ m b x, Within ps m (m.resyncGrain b x [])) : Law ps s (s.grain f) := by
  unfold State.grain
  split
  · split
    · exact ⟨_, rfl, (k ..).trans (h _), rfl⟩
    · exact ⟨_, rfl, h _, rfl⟩
  · exact ⟨s, rfl, .refl .., rfl⟩

theorem State.slot_law {ps : List Part} (s : State) (ok pub : Bool) {f : Mod → Mod} (h : ∀ m, Within ps m (f m))
    (k : ∀ m g, Within ps m (Mod.watchPassed m g)) : Law ps s (s.slot ok pub f) := by
  unfold State.slot
  split
  · cases pub
    · exact ⟨_, rfl, h _, rfl⟩
    · refine ⟨_, rfl, ?_, ?_⟩
      · simp only [if_true, State.publish_m]; exact (h _).trans (k ..)
      · simp only [if_true, State.publish_m]
  · exact ⟨s, rfl, .refl .., rfl⟩

theorem State.replay_law {ps : List Part} (s : State) (r : ReplayRec) (image : Option BedImage) (exch : List (Nat × BedImage))
    (h : ∀ m, Within ps m (replayRecordReceive r exch m)) : Law ps s (s.replay r image exch) := by
  unfold State.replay
  split
  · dsimp only
    split
    · exact ⟨_, rfl, h _, rfl⟩
    · exact ⟨_, rfl, h _, rfl⟩
  · exact ⟨s, rfl, .refl .., rfl⟩

theorem tick_law  (s : State) : Law [.plan, .clock, .host, .store, .chain, .est, .conv, .prot, .safety, .pair, .time, .can, .adc, .upd, .sent, .free] s (execTick s) :=
  s.when_law _ fun _ => (tick_within ..)

theorem grainBoundary_law (dieT : Int) (s : State) : Law [.plan, .clock, .host, .store, .power, .chain, .est, .conv, .disp, .prot, .safety, .pair, .time, .can, .adc, .upd, .sent, .free] s (execGrainBoundary dieT s) :=
  s.grain_law (fun _ => (grainBoundary_within ..).mono (by decide)) fun _ _ _ => (Mod.resyncGrain_within ..).mono (by decide)

theorem slotRun_law (bed slotId cycles : Nat) (fault : SlotFault) (readback : Option (Int × Int)) (s : State) : Law [.plan, .host, .store, .chain, .est, .conv, .disp, .prot, .safety, .pair, .upd, .sent, .free] s (execSlotRun bed slotId cycles fault readback s) :=
  s.slot_law _ _ (fun _ => (slotRun_within ..).mono (by decide)) fun _ _ => (Mod.watchPassed_within ..).mono (by decide)

theorem overrun_law (bed slotId : Nat) (cause : OverrunCause) (s : State) : Law [.plan, .store, .conv, .pair, .upd, .sent] s (execOverrun bed slotId cause s) :=
  s.when_law _ fun _ => (overrunRow_within ..)

theorem lockstepMismatch_law (pair : Nat) (s : State) : Law [.plan, .store, .power, .safety, .pair, .time, .upd, .sent] s (execLockstepMismatch pair s) :=
  s.when_law _ fun _ => (lockstepMismatch_within ..)

theorem supervisorWatchdog_law  (s : State) : Law [.plan, .store, .power, .time, .upd, .sent] s (execSupervisorWatchdog s) :=
  s.when_law _ fun _ => (supervisorWatchdog_within ..)

theorem warmRestartComplete_law (bootA bootB : Bool) (s : State) : Law [.plan, .host, .store, .power, .chain, .est, .conv, .disp, .prot, .safety, .pair, .time, .can, .adc, .upd, .sent, .free] s (execWarmRestartComplete bootA bootB s) :=
  s.when_law _ fun _ => (warmRestartComplete_within ..)

theorem grainPulseTimeout_law  (s : State) : Law [.plan, .store, .conv, .prot, .safety, .pair, .can, .upd, .sent] s (execGrainPulseTimeout s) :=
  s.when_law _ fun _ => (grainPulseTimeout_within ..)

theorem safetyCoreFault_law (cause : Nat) (s : State) : Law [.plan, .store, .conv, .prot, .safety, .pair, .can, .upd, .sent] s (execSafetyCoreFault cause s) :=
  s.when_law _ fun _ => (safetyCoreFault_within ..)

theorem clockMeasurement_law (clk : Nat) (ppm : Int) (s : State) : Law [.plan, .store, .conv, .prot, .safety, .pair, .can, .upd, .sent] s (execClockMeasurement clk ppm s) :=
  s.when_law _ fun _ => (clockMeasurement_within ..)

theorem recoveredClockUnlock_law (clk : RecClk) (s : State) : Law [.plan] s (execRecoveredClockUnlock clk s) :=
  s.when_law _ fun _ => (recoveredClockUnlock_within ..)

theorem planCheckComplete_law  (s : State) : Law [.plan, .host, .store, .pair, .sent] s (execPlanCheckComplete s) :=
  s.when_law _ fun _ => (planCheckComplete_within ..)

theorem planRestart_law  (s : State) : Law [.plan, .host, .store, .chain, .est, .conv, .disp, .prot, .safety, .pair, .adc, .sent] s (execPlanRestart s) :=
  s.lgc_law _ fun _ => (planRestart_within ..)

theorem bedReplant_law  (s : State) : Law [.plan, .host, .store, .chain, .est, .conv, .prot, .pair, .adc, .sent] s (execBedReplant s) :=
  s.lgc_law _ fun _ => (bedReplant_within ..)

theorem chainResponse_law (ring : Nat) (rx : ChainRx) (s : State) : Law [.host, .store, .chain, .est, .pair, .sent, .free] s (execChainResponse ring rx s) :=
  s.when_law _ fun _ => (chainResponseOwn_within ..)

theorem chainTransactionClose_law (ring : Nat) (far : Option Nat) (s : State) : Law [.store, .chain, .est, .pair, .free] s (execChainTransactionClose ring far s) :=
  s.when_law _ fun _ => (chainCloseOwn_within ..)

theorem enumRetry_law (ring : Nat) (s : State) : Law [.chain] s (execEnumRetry ring s) :=
  s.lgc_law _ fun _ => (enumRetry_within ..)

theorem authReadDue_law (ring mon : Nat) (s : State) : Law [.chain] s (execAuthReadDue ring mon s) :=
  s.lgc_law _ fun _ => (authReadDue_within ..)

theorem authTimeout_law (ring mon : Nat) (s : State) : Law [.store, .chain] s (execAuthTimeout ring mon s) :=
  s.lgc_law _ fun _ => (authTimeout_within ..)

theorem reauthDue_law (ring mon : Nat) (nonce : List Byte) (s : State) : Law [.chain] s (execReauthDue ring mon nonce s) :=
  s.lgc_law _ fun _ => (reauthDue_within ..)

theorem ringWakeDone_law (ring : Nat) (s : State) : Law [.chain] s (execRingWakeDone ring s) :=
  s.lgc_law _ fun _ => (ringWakeDone_within ..)

theorem monitorWakeTone_law (ring : Nat) (e : RingEnd) (s : State) : Law [.store, .chain] s (execMonitorWakeTone ring e s) :=
  s.lgc_law _ fun _ => (monitorWakeTone_within ..)

theorem alarmToneDeclared_law (ring : Nat) (e : RingEnd) (s : State) : Law [.store, .chain, .conv, .prot, .safety, .pair, .sent] s (execAlarmToneDeclared ring e s) :=
  s.when_law _ fun _ => (alarmToneDeclared_within ..)

theorem alarmToneAbsent_law (ring : Nat) (e : RingEnd) (s : State) : Law [.chain, .sent] s (execAlarmToneAbsent ring e s) :=
  s.when_law _ fun _ => (alarmToneAbsent_within ..)

theorem toneDetectorTest_law (ring : Nat) (failed : BitVec 2) (s : State) : Law [.plan, .store, .chain, .safety, .pair, .sent] s (execToneDetectorTest ring failed s) :=
  s.when_law _ fun _ => (toneDetectorTest_within ..)

theorem senseOpenHoldExpiry_law (ring mon tap : Nat) (s : State) : Law [.store, .chain, .conv, .prot, .safety, .sent] s (execSenseOpenHoldExpiry ring mon tap s) :=
  s.lgc_law _ fun _ => (senseOpenHoldExpiry_within ..)

theorem fullTestDue_law (ring mon : Nat) (s : State) : Law [.chain] s (execFullTestDue ring mon s) :=
  s.lgc_law _ fun _ => (fullTestDue_within ..)

theorem balancePlan_law (string : Nat) (s : State) : Law [.chain] s (execBalancePlan string s) :=
  s.lgc_law _ fun _ => (balancePlan_within ..)

theorem restAnchor_law (string : Nat) (s : State) : Law [.store, .est] s (execRestAnchor string s) :=
  s.lgc_law _ fun _ => (restAnchor_within ..)

theorem impedanceIntervalEnd_law  (s : State) : Law [.store, .est] s (execImpedanceIntervalEnd s) :=
  s.lgc_law _ fun _ => (impedanceIntervalEnd_within ..)

theorem anomalyClear_law (gidx : Nat) (s : State) : Law [.est] s (execAnomalyClear gidx s) :=
  s.lgc_law _ fun _ => (anomalyClear_within ..)

theorem checkpointCapture_law (string : Nat) (s : State) : Law [.store, .est] s (execCheckpointCapture string s) :=
  s.lgc_law _ fun _ => (checkpointCapture_within ..)

theorem checkpointWriteComplete_law (string : Nat) (ok : Bool) (s : State) : Law [.store, .est] s (execCheckpointWriteComplete string ok s) :=
  s.when_law _ fun _ => (checkpointWriteComplete_within ..)

theorem estRestoreComplete_law  (s : State) : Law [.host, .store, .est, .sent] s (execEstRestoreComplete s) :=
  s.lgc_law _ fun _ => (estRestoreComplete_within ..)

theorem restoreWaitExpiry_law (string : Nat) (s : State) : Law [.est] s (execRestoreWaitExpiry string s) :=
  s.lgc_law _ fun _ => (restoreWaitExpiry_within ..)

theorem upstreamFrame_law (link : Nat) (frame : UpFrame) (s : State) : Law [.store, .conv, .prot, .pair, .sent] s (execUpstreamFrame link frame s) :=
  s.when_law _ fun _ => (upstreamFrame_within ..)

theorem klinkLost_law (link : Nat) (s : State) : Law [.store, .conv, .pair] s (execKlinkLost link s) :=
  s.when_law _ fun _ => (klinkLost_within ..)

theorem localRampTimeout_law (link : Nat) (s : State) : Law [.store, .conv, .prot, .safety, .sent] s (execLocalRampTimeout link s) :=
  s.lgc_law _ fun _ => (localRampTimeout_within ..)

theorem fibreDelayMeasure_law (link : Nat) (s : State) : Law [.store, .conv, .pair] s (execFibreDelayMeasure link s) :=
  s.when_law _ fun _ => (fibreDelayMeasure_within ..)

theorem linkAligned_law (link : Nat) (s : State) : Law [.conv, .pair] s (execLinkAligned link s) :=
  s.when_law _ fun _ => (linkAligned_within ..)

theorem alignmentLost_law (link : Nat) (s : State) : Law [.store, .conv, .pair] s (execAlignmentLost link s) :=
  s.when_law _ fun _ => (alignmentLost_within ..)

theorem regTimeout_law (link : Nat) (s : State) : Law [.store, .conv, .pair] s (execRegTimeout link s) :=
  s.when_law _ fun _ => (regTimeout_within ..)

theorem tripRequest_law (link : Nat) (s : State) : Law [.conv, .pair, .sent] s (execTripRequest link s) :=
  s.when_law _ fun _ => (tripRequestRow_within ..)

theorem pruneCommit_law (link : Nat) (s : State) : Law [.conv] s (execPruneCommit link s) :=
  s.lgc_law _ fun _ => (pruneCommit_within ..)

theorem armTimerExpiry_law (link phase : Nat) (s : State) : Law [.conv] s (execArmTimerExpiry link phase s) :=
  s.lgc_law _ fun _ => (armTimerExpiry_within ..)

theorem hiccupEntry_law (link phase : Nat) (s : State) : Law [.store, .conv, .prot, .sent] s (execHiccupEntry link phase s) :=
  s.lgc_law _ fun _ => (hiccupEntry_within ..)

theorem hiccupTimeExpiry_law (link phase : Nat) (s : State) : Law [.conv] s (execHiccupTimeExpiry link phase s) :=
  s.lgc_law _ fun _ => (hiccupTimeExpiry_within ..)

theorem hiccupClearExpiry_law (link phase : Nat) (s : State) : Law [.conv] s (execHiccupClearExpiry link phase s) :=
  s.lgc_law _ fun _ => (hiccupClearExpiry_within ..)

theorem phaseOpenDetect_law (link phase : Nat) (s : State) : Law [.store, .conv, .prot, .sent] s (execPhaseOpenDetect link phase s) :=
  s.lgc_law _ fun _ => (phaseOpenDetect_within ..)

theorem phaseSenseFail_law (link phase : Nat) (s : State) : Law [.store, .conv, .prot, .sent] s (execPhaseSenseFail link phase s) :=
  s.lgc_law _ fun _ => (phaseSenseFail_within ..)

theorem mirrorTimeout_law (link phase : Nat) (s : State) : Law [.store, .conv, .prot, .sent] s (execMirrorTimeout link phase s) :=
  s.lgc_law _ fun _ => (mirrorTimeout_within ..)

theorem phaseFollowLatch_law (link phase : Nat) (s : State) : Law [.store, .conv, .prot, .sent] s (execPhaseFollowLatch link phase s) :=
  s.lgc_law _ fun _ => (phaseFollowLatch_within ..)

theorem stringFollowStop_law (link : Nat) (s : State) : Law [.conv] s (execStringFollowStop link s) :=
  s.lgc_law _ fun _ => (stringFollowStop_within ..)

theorem powerFollowFlag_law (link : Nat) (s : State) : Law [.store, .conv] s (execPowerFollowFlag link s) :=
  s.lgc_law _ fun _ => (powerFollowFlag_within ..)

theorem burstEntry_law (link : Nat) (s : State) : Law [.conv] s (execBurstEntry link s) :=
  s.lgc_law _ fun _ => (burstEntry_within ..)

theorem burstPhaseReselect_law (link : Nat) (s : State) : Law [.conv] s (execBurstPhaseReselect link s) :=
  s.lgc_law _ fun _ => (burstPhaseReselect_within ..)

theorem softStopComplete_law (link : Nat) (s : State) : Law [.conv] s (execSoftStopComplete link s) :=
  s.lgc_law _ fun _ => (softStopComplete_within ..)

theorem softStopTimeout_law (link : Nat) (s : State) : Law [.store, .conv, .prot, .sent] s (execSoftStopTimeout link s) :=
  s.lgc_law _ fun _ => (softStopTimeout_within ..)

theorem leaseExpiry_law  (s : State) : Law [.disp] s (execLeaseExpiry s) :=
  s.lgc_law _ fun _ => (leaseExpiry_within ..)

theorem sourceFault_law  (s : State) : Law [.store, .disp] s (execSourceFault s) :=
  s.lgc_law _ fun _ => (sourceFault_within ..)

theorem sourceRecover_law  (s : State) : Law [.store, .disp] s (execSourceRecover s) :=
  s.lgc_law _ fun _ => (sourceRecover_within ..)

theorem restWindowEnd_law (string : Nat) (s : State) : Law [.disp] s (execRestWindowEnd string s) :=
  s.lgc_law _ fun _ => (restWindowEnd_within ..)

theorem restPendExpiry_law (string : Nat) (s : State) : Law [.store, .est] s (execRestPendExpiry string s) :=
  s.lgc_law _ fun _ => (restPendExpiry_within ..)

theorem serviceComplete_law  (s : State) : Law [.host, .disp, .sent] s (execServiceComplete s) :=
  s.lgc_law _ fun _ => (serviceComplete_within ..)

theorem sensorBadHoldExpiry_law (string : Nat) (s : State) : Law [.store, .conv, .prot, .safety, .sent] s (execSensorBadHoldExpiry string s) :=
  s.lgc_law _ fun _ => (sensorBadHoldExpiry_within ..)

theorem derateStepTimer_law (string : Nat) (s : State) : Law [.prot] s (execDerateStepTimer string s) :=
  s.lgc_law _ fun _ => (derateStepTimer_within ..)

theorem ocComparatorEvent_law (string : Nat) (above active : Bool) (s : State) : Law [.conv, .prot, .pair, .adc, .sent] s (execOcComparatorEvent string above active s) :=
  s.when_law _ fun _ => (ocComparatorEvent_within ..)

theorem contDelayExpiry_law (group : Nat) (s : State) : Law [.store, .conv, .prot, .safety, .sent] s (execContDelayExpiry group s) :=
  s.when_law _ fun _ => (contDelayExpiry_within ..)

theorem contFbTimeout_law (group : Nat) (s : State) : Law [.store, .conv, .prot, .safety, .sent] s (execContFbTimeout group s) :=
  s.when_law _ fun _ => (contFbTimeout_within ..)

theorem contactorFeedbackChange_law (group : Nat) (closed : Bool) (s : State) : Law [.store, .conv, .prot, .safety, .sent] s (execContactorFeedbackChange group closed s) :=
  s.when_law _ fun _ => (contactorFeedbackChange_within ..)

theorem hvacRequest_law (zone : Nat) (s : State) : Law [.prot, .pair, .can, .sent] s (execHvacRequest zone s) :=
  s.when_law _ fun _ => (hvacRequest_within ..)

theorem safetyCycle_law (meas : List SqMeas) (s : State) : Law [.plan, .host, .store, .power, .chain, .conv, .prot, .safety, .pair, .time, .can, .upd, .sent] s (execSafetyCycle meas s) :=
  s.when_law _ fun _ => (safetyCycle_within ..)

theorem safeInputChange_law (optical : Bool) (idx : Nat) (second level : Bool) (s : State) : Law [.plan, .store, .conv, .prot, .safety, .pair, .sent] s (execSafeInputChange optical idx second level s) :=
  by
  unfold execSafeInputChange State.any
  refine s.when_law _ fun m => ?_
  split
  · exact (safeInputChange_within ..).mono (by decide)
  · exact (inputLevel_within ..).mono (by decide)

theorem discrepancyTimeout_law (optical : Bool) (idx : Nat) (s : State) : Law [.plan, .store, .safety, .pair, .sent] s (execDiscrepancyTimeout optical idx s) :=
  s.when_law _ fun _ => (discrepancyTimeout_within ..)

theorem testPulseGap_law (source : Nat) (readback : Bool) (missing : List Nat) (s : State) : Law [.plan, .store, .conv, .prot, .safety, .pair, .sent] s (execTestPulseGap source readback missing s) :=
  s.when_law _ fun _ => (testPulseGap_within ..)

theorem resetInputRelease_law (idx : Nat) (s : State) : Law [.plan, .store, .conv, .prot, .safety, .pair, .sent] s (execResetInputRelease idx s) :=
  s.when_law _ fun _ => (resetInputRelease_within ..)

theorem twoHandSyncExpiry_law  (s : State) : Law [.safety] s (execTwoHandSyncExpiry s) :=
  s.when_law _ fun _ => (twoHandSyncExpiry_within ..)

theorem sqHighSideOn_law (sq : Nat) (s : State) : Law [.store, .conv, .prot, .safety, .sent] s (execSqHighSideOn sq s) :=
  s.when_law _ fun _ => (sqHighSideOn_within ..)

theorem offPulseTest_law (sq : Nat) (s : State) : Law [.safety, .sent] s (execOffPulseTest sq s) :=
  s.when_law _ fun _ => (offPulseTest_within ..)

theorem offPulseEnd_law (sq : Nat) (pass : PulseMeas) (s : State) : Law [.plan, .store, .conv, .prot, .safety, .pair, .can, .upd, .sent] s (execOffPulseEnd sq pass s) :=
  s.when_law _ fun _ => (offPulseEnd_within ..)

theorem openLoadTimeout_law (sq : Nat) (s : State) : Law [.store, .safety] s (execOpenLoadTimeout sq s) :=
  s.when_law _ fun _ => (openLoadTimeout_within ..)

theorem fallowExpiry_law  (s : State) : Law [.plan, .store, .conv, .prot, .safety, .pair, .can, .upd, .sent] s (execFallowExpiry s) :=
  s.when_law _ fun _ => (fallowExpiry_within ..)

theorem clocheSend_law (graft : Bool) (s : State) : Law [.safety, .sent] s (execClocheSend graft s) :=
  s.when_law _ fun _ => (clocheSend_within ..)

theorem clocheFrameReceive_law (graft : Bool) (src : NetSrc) (frame : List Byte) (port : Nat) (s : State) : Law [.plan, .store, .conv, .prot, .safety, .pair, .sent] s (execClocheFrameReceive graft src frame port s) :=
  s.when_law _ fun _ => (clocheFrameReceive_within ..)

theorem clocheWatchdogExpiry_law (graft : Bool) (s : State) : Law [.plan, .store, .conv, .prot, .safety, .pair, .sent] s (execClocheWatchdogExpiry graft s) :=
  s.when_law _ fun _ => (clocheWatchdogExpiry_within ..)

theorem partnerBpTrip_law (asserted : Bool) (s : State) : Law [.plan, .store, .conv, .prot, .safety, .pair, .sent] s (execPartnerBpTrip asserted s) :=
  s.when_law _ fun _ => (partnerBpTrip_within ..)

theorem fieldSupplyChange_law (supply mv : Nat) (s : State) : Law [.store, .safety] s (execFieldSupplyChange supply mv s) :=
  s.when_law _ fun _ => (fieldSupplyChange_within ..)

theorem safeStageExpiry_law  (s : State) : Law [.safety] s (execSafeStageExpiry s) :=
  s.when_law _ fun _ => (safeStageExpiry_within ..)

theorem standbyReplayTimeout_law  (s : State) : Law [.store, .conv, .prot, .safety, .pair, .sent] s (execStandbyReplayTimeout s) :=
  s.when_law _ fun _ => (standbyReplayTimeout_within ..)

theorem rolePoint_law  (s : State) : Law [.pair, .can] s (execRolePoint s) :=
  s.when_law _ fun _ => (rolePoint_within ..)

theorem pairFormWaitExpiry_law  (s : State) : Law [.pair] s (execPairFormWaitExpiry s) :=
  s.when_law _ fun _ => (pairFormWaitExpiry_within ..)

theorem roleLineChange_law (asserted : Bool) (s : State) : Law [.pair, .can] s (execRoleLineChange asserted s) :=
  s.when_law _ fun _ => (roleLineChange_within ..)

theorem partnerAbsent_law  (s : State) : Law [.plan, .store, .safety, .pair, .sent] s (execPartnerAbsent s) :=
  s.when_law _ fun _ => (partnerAbsent_within ..)

theorem joinPair_law  (s : State) : Law [.prot, .safety, .pair, .can, .adc, .sent] s (execJoinPair s) :=
  s.when_law _ fun _ => (joinPair_within ..)

theorem replayRecordReceive_law (r : ReplayRec) (image : Option BedImage) (exch : List (Nat × BedImage)) (s : State) : Law [.plan, .clock, .host, .store, .power, .chain, .est, .conv, .disp, .prot, .safety, .pair, .time, .can, .adc, .upd, .sent, .free] s (execReplayRecordReceive r image exch s) :=
  s.replay_law _ _ _ fun _ => (replayRecordReceive_within ..)

theorem fieldForward_law (resps : List (Nat × ChainResp)) (ends : List (Nat × EndObs)) (tones : List (Nat × BitVec 2)) (ready : Bool) (s : State) : Law [.host, .store, .chain, .est, .pair, .sent, .free] s (execFieldForward resps ends tones ready s) :=
  s.when_law _ fun _ => (fieldForward_within ..)

theorem heartbeatMiss_law  (s : State) : Law [.store, .pair] s (execHeartbeatMiss s) :=
  s.when_law _ fun _ => (heartbeatMiss_within ..)

theorem resyncRetryExpiry_law  (s : State) : Law [.pair] s (execResyncRetryExpiry s) :=
  s.when_law _ fun _ => (resyncRetryExpiry_within ..)

theorem yieldRoleRelease_law  (s : State) : Law [.pair, .can] s (execYieldRoleRelease s) :=
  s.when_law _ fun _ => (yieldRoleRelease_within ..)

theorem takeover_law  (s : State) : Law [.plan, .host, .store, .chain, .est, .conv, .disp, .prot, .safety, .pair, .time, .can, .adc, .sent] s (execTakeover s) :=
  s.when_law _ fun _ => (takeover_within ..)

theorem drillDue_law  (s : State) : Law [.plan, .store, .pair, .sent] s (execDrillDue s) :=
  s.when_law _ fun _ => (drillDue_within ..)

theorem drillOverdue_law  (s : State) : Law [.store, .pair] s (execDrillOverdue s) :=
  s.when_law _ fun _ => (drillOverdue_within ..)

theorem drillCheck_law  (s : State) : Law [.store, .pair] s (execDrillCheck s) :=
  s.when_law _ fun _ => (drillCheck_within ..)

theorem graftLaneChange_law (lane : Nat) (up : Bool) (s : State) : Law [.pair] s (execGraftLaneChange lane up s) :=
  s.when_law _ fun _ => (graftLaneChange_within ..)

theorem insertion_law  (s : State) : Law [.power, .pair] s (execInsertion s) :=
  s.when_law _ fun _ => (insertion_within ..)

theorem extractionWarning_law  (s : State) : Law [.plan, .store, .power, .conv, .pair, .sent] s (execExtractionWarning s) :=
  s.when_law _ fun _ => (extractionWarning_within ..)

theorem presenceReturn_law (env : StartEnv) (s : State) : Law [.plan, .clock, .host, .store, .power, .chain, .est, .conv, .disp, .prot, .safety, .pair, .time, .can, .adc, .upd, .sent, .free] s (execPresenceReturn env s) :=
  s.start_law _ fun _ => (presenceReturn_within ..)

theorem udpPacketReceive_law (net addr port dest : Nat) (bytes : List Byte) (s : State) : Law [.plan, .host, .store, .power, .chain, .est, .conv, .disp, .prot, .safety, .pair, .time, .can, .adc, .upd, .sent, .free] s (execUdpPacketReceive net addr port dest bytes s) :=
  s.when_law _ fun _ => (udpPacketReceive_within ..)

theorem sessionOpen_law (rq : HostReq) (s : State) : Law [.host, .pair, .sent, .free] s (execSessionOpen rq s) :=
  s.when_law _ fun _ => (sessionOpen_within ..)

theorem sessionClose_law (rq : HostReq) (s : State) : Law [.plan, .host, .store, .power, .chain, .est, .conv, .disp, .prot, .safety, .pair, .time, .can, .adc, .upd, .sent, .free] s (execSessionClose rq s) :=
  s.when_law _ fun _ => (hostRow_within ..)

theorem nop_law (rq : HostReq) (s : State) : Law [.plan, .host, .store, .power, .chain, .est, .conv, .disp, .prot, .safety, .pair, .time, .can, .adc, .upd, .sent, .free] s (execNop rq s) :=
  s.when_law _ fun _ => (hostRow_within ..)

theorem noticeAck_law (rq : HostReq) (s : State) : Law [.plan, .host, .store, .power, .chain, .est, .conv, .disp, .prot, .safety, .pair, .time, .can, .adc, .upd, .sent, .free] s (execNoticeAck rq s) :=
  s.when_law _ fun _ => (hostRow_within ..)

theorem pointRead_law (rq : HostReq) (s : State) : Law [.plan, .host, .store, .power, .chain, .est, .conv, .disp, .prot, .safety, .pair, .time, .can, .adc, .upd, .sent, .free] s (execPointRead rq s) :=
  s.when_law _ fun _ => (hostRow_within ..)

theorem streamOpen_law (rq : HostReq) (s : State) : Law [.plan, .host, .store, .power, .chain, .est, .conv, .disp, .prot, .safety, .pair, .time, .can, .adc, .upd, .sent, .free] s (execStreamOpen rq s) :=
  s.when_law _ fun _ => (hostRow_within ..)

theorem streamClose_law (rq : HostReq) (s : State) : Law [.plan, .host, .store, .power, .chain, .est, .conv, .disp, .prot, .safety, .pair, .time, .can, .adc, .upd, .sent, .free] s (execStreamClose rq s) :=
  s.when_law _ fun _ => (hostRow_within ..)

theorem paramRead_law (rq : HostReq) (s : State) : Law [.plan, .host, .store, .power, .chain, .est, .conv, .disp, .prot, .safety, .pair, .time, .can, .adc, .upd, .sent, .free] s (execParamRead rq s) :=
  s.when_law _ fun _ => (hostRow_within ..)

theorem paramWrite_law (rq : HostReq) (s : State) : Law [.plan, .host, .store, .power, .chain, .est, .conv, .disp, .prot, .safety, .pair, .time, .can, .adc, .upd, .sent, .free] s (execParamWrite rq s) :=
  s.when_law _ fun _ => (hostRow_within ..)

theorem diagRead_law (rq : HostReq) (s : State) : Law [.plan, .host, .store, .power, .chain, .est, .conv, .disp, .prot, .safety, .pair, .time, .can, .adc, .upd, .sent, .free] s (execDiagRead rq s) :=
  s.when_law _ fun _ => (hostRow_within ..)

theorem diagWrite_law (rq : HostReq) (s : State) : Law [.plan, .host, .store, .power, .chain, .est, .conv, .disp, .prot, .safety, .pair, .time, .can, .adc, .upd, .sent, .free] s (execDiagWrite rq s) :=
  s.when_law _ fun _ => (hostRow_within ..)

theorem xaRead_law (rq : HostReq) (s : State) : Law [.plan, .host, .store, .power, .chain, .est, .conv, .disp, .prot, .safety, .pair, .time, .can, .adc, .upd, .sent, .free] s (execXaRead rq s) :=
  s.when_law _ fun _ => (hostRow_within ..)

theorem xaWrite_law (rq : HostReq) (s : State) : Law [.plan, .host, .store, .power, .chain, .est, .conv, .disp, .prot, .safety, .pair, .time, .can, .adc, .upd, .sent, .free] s (execXaWrite rq s) :=
  s.when_law _ fun _ => (hostRow_within ..)

theorem mbxPost_law (rq : HostReq) (s : State) : Law [.plan, .host, .store, .power, .chain, .est, .conv, .disp, .prot, .safety, .pair, .time, .can, .adc, .upd, .sent, .free] s (execMbxPost rq s) :=
  s.when_law _ fun _ => (hostRow_within ..)

theorem mbxRead_law (rq : HostReq) (s : State) : Law [.plan, .host, .store, .power, .chain, .est, .conv, .disp, .prot, .safety, .pair, .time, .can, .adc, .upd, .sent, .free] s (execMbxRead rq s) :=
  s.when_law _ fun _ => (hostRow_within ..)

theorem mbxAck_law (rq : HostReq) (s : State) : Law [.plan, .host, .store, .power, .chain, .est, .conv, .disp, .prot, .safety, .pair, .time, .can, .adc, .upd, .sent, .free] s (execMbxAck rq s) :=
  s.when_law _ fun _ => (hostRow_within ..)

theorem supervisorMbxTake_law (slot : Nat) (s : State) : Law [.plan, .host, .store, .power, .chain, .est, .conv, .disp, .prot, .safety, .pair, .time, .can, .adc, .upd, .sent, .free] s (execSupervisorMbxTake slot s) :=
  s.when_law _ fun _ => (supervisorMbxTake_within ..)

theorem outboundMbxWrite_law (slot ptr len type domain : Nat) (s : State) : Law [.host, .sent] s (execOutboundMbxWrite slot ptr len type domain s) :=
  s.when_law _ fun _ => (outboundMbxWrite_within ..)

theorem mbxCrossTimeout_law (slot : Nat) (s : State) : Law [.host, .sent] s (execMbxCrossTimeout slot s) :=
  s.when_law _ fun _ => (mbxCrossTimeout_within ..)

theorem estRead_law (rq : HostReq) (s : State) : Law [.plan, .host, .store, .power, .chain, .est, .conv, .disp, .prot, .safety, .pair, .time, .can, .adc, .upd, .sent, .free] s (execEstRead rq s) :=
  s.when_law _ fun _ => (hostRow_within ..)

theorem estRestore_law (rq : HostReq) (s : State) : Law [.plan, .host, .store, .power, .chain, .est, .conv, .disp, .prot, .safety, .pair, .time, .can, .adc, .upd, .sent, .free] s (execEstRestore rq s) :=
  s.when_law _ fun _ => (hostRow_within ..)

theorem estReset_law (rq : HostReq) (s : State) : Law [.plan, .host, .store, .power, .chain, .est, .conv, .disp, .prot, .safety, .pair, .time, .can, .adc, .upd, .sent, .free] s (execEstReset rq s) :=
  s.when_law _ fun _ => (hostRow_within ..)

theorem recordQuery_law (rq : HostReq) (s : State) : Law [.plan, .host, .store, .power, .chain, .est, .conv, .disp, .prot, .safety, .pair, .time, .can, .adc, .upd, .sent, .free] s (execRecordQuery rq s) :=
  s.when_law _ fun _ => (hostRow_within ..)

theorem recorderClear_law (rq : HostReq) (s : State) : Law [.plan, .host, .store, .power, .chain, .est, .conv, .disp, .prot, .safety, .pair, .time, .can, .adc, .upd, .sent, .free] s (execRecorderClear rq s) :=
  s.when_law _ fun _ => (hostRow_within ..)

theorem confirmExpiry_law (sid : Nat) (s : State) : Law [.host] s (execConfirmExpiry sid s) :=
  s.when_law _ fun _ => (confirmExpiry_within ..)

theorem leaseClaim_law (rq : HostReq) (s : State) : Law [.plan, .host, .store, .power, .chain, .est, .conv, .disp, .prot, .safety, .pair, .time, .can, .adc, .upd, .sent, .free] s (execLeaseClaim rq s) :=
  s.when_law _ fun _ => (hostRow_within ..)

theorem leaseRenew_law (rq : HostReq) (s : State) : Law [.plan, .host, .store, .power, .chain, .est, .conv, .disp, .prot, .safety, .pair, .time, .can, .adc, .upd, .sent, .free] s (execLeaseRenew rq s) :=
  s.when_law _ fun _ => (hostRow_within ..)

theorem leaseRelease_law (rq : HostReq) (s : State) : Law [.plan, .host, .store, .power, .chain, .est, .conv, .disp, .prot, .safety, .pair, .time, .can, .adc, .upd, .sent, .free] s (execLeaseRelease rq s) :=
  s.when_law _ fun _ => (hostRow_within ..)

theorem leaseRevoke_law (rq : HostReq) (s : State) : Law [.plan, .host, .store, .power, .chain, .est, .conv, .disp, .prot, .safety, .pair, .time, .can, .adc, .upd, .sent, .free] s (execLeaseRevoke rq s) :=
  s.when_law _ fun _ => (hostRow_within ..)

theorem setPower_law (rq : HostReq) (s : State) : Law [.plan, .host, .store, .power, .chain, .est, .conv, .disp, .prot, .safety, .pair, .time, .can, .adc, .upd, .sent, .free] s (execSetPower rq s) :=
  s.when_law _ fun _ => (hostRow_within ..)

theorem moveStart_law (rq : HostReq) (s : State) : Law [.plan, .host, .store, .power, .chain, .est, .conv, .disp, .prot, .safety, .pair, .time, .can, .adc, .upd, .sent, .free] s (execMoveStart rq s) :=
  s.when_law _ fun _ => (hostRow_within ..)

theorem moveRetarget_law (rq : HostReq) (s : State) : Law [.plan, .host, .store, .power, .chain, .est, .conv, .disp, .prot, .safety, .pair, .time, .can, .adc, .upd, .sent, .free] s (execMoveRetarget rq s) :=
  s.when_law _ fun _ => (hostRow_within ..)

theorem stop_law (rq : HostReq) (s : State) : Law [.plan, .host, .store, .power, .chain, .est, .conv, .disp, .prot, .safety, .pair, .time, .can, .adc, .upd, .sent, .free] s (execStop rq s) :=
  s.when_law _ fun _ => (hostRow_within ..)

theorem resume_law (rq : HostReq) (s : State) : Law [.plan, .host, .store, .power, .chain, .est, .conv, .disp, .prot, .safety, .pair, .time, .can, .adc, .upd, .sent, .free] s (execResume rq s) :=
  s.when_law _ fun _ => (hostRow_within ..)

theorem trip_law (rq : HostReq) (s : State) : Law [.plan, .host, .store, .power, .chain, .est, .conv, .disp, .prot, .safety, .pair, .time, .can, .adc, .upd, .sent, .free] s (execTrip rq s) :=
  s.when_law _ fun _ => (hostRow_within ..)

theorem stringService_law (rq : HostReq) (s : State) : Law [.plan, .host, .store, .power, .chain, .est, .conv, .disp, .prot, .safety, .pair, .time, .can, .adc, .upd, .sent, .free] s (execStringService rq s) :=
  s.when_law _ fun _ => (hostRow_within ..)

theorem planLoad_law (rq : HostReq) (s : State) : Law [.plan, .host, .store, .power, .chain, .est, .conv, .disp, .prot, .safety, .pair, .time, .can, .adc, .upd, .sent, .free] s (execPlanLoad rq s) :=
  s.when_law _ fun _ => (hostRow_within ..)

theorem planActivate_law (rq : HostReq) (s : State) : Law [.plan, .host, .store, .power, .chain, .est, .conv, .disp, .prot, .safety, .pair, .time, .can, .adc, .upd, .sent, .free] s (execPlanActivate rq s) :=
  s.when_law _ fun _ => (hostRow_within ..)

theorem planDiscard_law (rq : HostReq) (s : State) : Law [.plan, .host, .store, .power, .chain, .est, .conv, .disp, .prot, .safety, .pair, .time, .can, .adc, .upd, .sent, .free] s (execPlanDiscard rq s) :=
  s.when_law _ fun _ => (hostRow_within ..)

theorem protClear_law (rq : HostReq) (s : State) : Law [.plan, .host, .store, .power, .chain, .est, .conv, .disp, .prot, .safety, .pair, .time, .can, .adc, .upd, .sent, .free] s (execProtClear rq s) :=
  s.when_law _ fun _ => (hostRow_within ..)

theorem toneReset_law (rq : HostReq) (s : State) : Law [.plan, .host, .store, .power, .chain, .est, .conv, .disp, .prot, .safety, .pair, .time, .can, .adc, .upd, .sent, .free] s (execToneReset rq s) :=
  s.when_law _ fun _ => (hostRow_within ..)

theorem senseClear_law (rq : HostReq) (s : State) : Law [.plan, .host, .store, .power, .chain, .est, .conv, .disp, .prot, .safety, .pair, .time, .can, .adc, .upd, .sent, .free] s (execSenseClear rq s) :=
  s.when_law _ fun _ => (hostRow_within ..)

theorem safetyReset_law (rq : HostReq) (s : State) : Law [.plan, .host, .store, .power, .chain, .est, .conv, .disp, .prot, .safety, .pair, .time, .can, .adc, .upd, .sent, .free] s (execSafetyReset rq s) :=
  s.when_law _ fun _ => (hostRow_within ..)

theorem convFaultClear_law (rq : HostReq) (s : State) : Law [.plan, .host, .store, .power, .chain, .est, .conv, .disp, .prot, .safety, .pair, .time, .can, .adc, .upd, .sent, .free] s (execConvFaultClear rq s) :=
  s.when_law _ fun _ => (hostRow_within ..)

theorem phaseClear_law (rq : HostReq) (s : State) : Law [.plan, .host, .store, .power, .chain, .est, .conv, .disp, .prot, .safety, .pair, .time, .can, .adc, .upd, .sent, .free] s (execPhaseClear rq s) :=
  s.when_law _ fun _ => (hostRow_within ..)

theorem enumerate_law (rq : HostReq) (s : State) : Law [.plan, .host, .store, .power, .chain, .est, .conv, .disp, .prot, .safety, .pair, .time, .can, .adc, .upd, .sent, .free] s (execEnumerate rq s) :=
  s.when_law _ fun _ => (hostRow_within ..)

theorem clrOverrun_law (rq : HostReq) (s : State) : Law [.plan, .host, .store, .power, .chain, .est, .conv, .disp, .prot, .safety, .pair, .time, .can, .adc, .upd, .sent, .free] s (execClrOverrun rq s) :=
  s.when_law _ fun _ => (hostRow_within ..)

theorem clrChainCnt_law (rq : HostReq) (s : State) : Law [.plan, .host, .store, .power, .chain, .est, .conv, .disp, .prot, .safety, .pair, .time, .can, .adc, .upd, .sent, .free] s (execClrChainCnt rq s) :=
  s.when_law _ fun _ => (hostRow_within ..)

theorem clrConvFlags_law (rq : HostReq) (s : State) : Law [.plan, .host, .store, .power, .chain, .est, .conv, .disp, .prot, .safety, .pair, .time, .can, .adc, .upd, .sent, .free] s (execClrConvFlags rq s) :=
  s.when_law _ fun _ => (hostRow_within ..)

theorem clrConvCnt_law (rq : HostReq) (s : State) : Law [.plan, .host, .store, .power, .chain, .est, .conv, .disp, .prot, .safety, .pair, .time, .can, .adc, .upd, .sent, .free] s (execClrConvCnt rq s) :=
  s.when_law _ fun _ => (hostRow_within ..)

theorem clrSafetyCnt_law (rq : HostReq) (s : State) : Law [.plan, .host, .store, .power, .chain, .est, .conv, .disp, .prot, .safety, .pair, .time, .can, .adc, .upd, .sent, .free] s (execClrSafetyCnt rq s) :=
  s.when_law _ fun _ => (hostRow_within ..)

theorem clrPairCnt_law (rq : HostReq) (s : State) : Law [.plan, .host, .store, .power, .chain, .est, .conv, .disp, .prot, .safety, .pair, .time, .can, .adc, .upd, .sent, .free] s (execClrPairCnt rq s) :=
  s.when_law _ fun _ => (hostRow_within ..)

theorem restart_law (rq : HostReq) (s : State) : Law [.plan, .host, .store, .power, .chain, .est, .conv, .disp, .prot, .safety, .pair, .time, .can, .adc, .upd, .sent, .free] s (execRestart rq s) :=
  s.when_law _ fun _ => (hostRow_within ..)

theorem roleSwap_law (rq : HostReq) (s : State) : Law [.plan, .host, .store, .power, .chain, .est, .conv, .disp, .prot, .safety, .pair, .time, .can, .adc, .upd, .sent, .free] s (execRoleSwap rq s) :=
  s.when_law _ fun _ => (hostRow_within ..)

theorem sessionIdleTimeout_law (sid : Nat) (s : State) : Law [.host, .store, .pair] s (execSessionIdleTimeout sid s) :=
  s.when_law _ fun _ => (sessionIdleTimeout_within ..)

theorem noticeResend_law (sid seq : Nat) (s : State) : Law [.host, .sent] s (execNoticeResend sid seq s) :=
  s.when_law _ fun _ => (noticeResend_within ..)

theorem streamCycle_law (id : Nat) (fits : Bool) (s : State) : Law [.host, .sent] s (execStreamCycle id fits s) :=
  s.when_law _ fun _ => (streamCycle_within ..)

theorem watchEvaluation_law  (s : State) : Law [.host, .store, .sent] s (execWatchEvaluation s) :=
  s.when_law _ fun _ => (watchEvaluation_within ..)

theorem authBlockExpiry_law (addr : Nat) (s : State) : Law [.host] s (execAuthBlockExpiry addr s) :=
  s.when_law _ fun _ => (authBlockExpiry_within ..)

theorem grnNowRead_law  (s : State) : Law [.plan, .store, .disp, .time] s (execGrnNowRead s) :=
  s.when_law _ fun _ => (Mod.readEffect_within ..)

theorem s64LowRead_law (off : Nat) (s : State) : Law [.plan, .store, .disp, .time] s (execS64LowRead off s) :=
  s.when_law _ fun _ => (Mod.readEffect_within ..)

theorem timeNsRead_law  (s : State) : Law [.plan, .store, .disp, .time] s (execTimeNsRead s) :=
  s.when_law _ fun _ => (Mod.readEffect_within ..)

theorem timeSecLoRead_law  (s : State) : Law [.plan, .store, .disp, .time] s (execTimeSecLoRead s) :=
  s.when_law _ fun _ => (Mod.readEffect_within ..)

theorem dramUeLoRead_law  (s : State) : Law [.plan, .store, .disp, .time] s (execDramUeLoRead s) :=
  s.when_law _ fun _ => (Mod.readEffect_within ..)

theorem ptpSyncReceive_law (port : Nat) (f : PtpSync) (s : State) : Law [.host, .store, .power, .time, .sent, .free] s (execPtpSyncReceive port f s) :=
  s.when_law _ fun _ => (ptpSyncReceive_within ..)

theorem ptpAnnounceReceive_law (port : Nat) (f : PtpAnnounce) (s : State) : Law [.store, .time, .sent] s (execPtpAnnounceReceive port f s) :=
  s.when_law _ fun _ => (ptpAnnounceReceive_within ..)

theorem ptpDelayRespReceive_law (port : Nat) (f : PtpDelayResp) (s : State) : Law [.time] s (execPtpDelayRespReceive port f s) :=
  s.when_law _ fun _ => (ptpDelayRespReceive_within ..)

theorem delayReqSend_law (port : Nat) (t3 : Int) (s : State) : Law [.time, .sent] s (execDelayReqSend port t3 s) :=
  s.when_law _ fun _ => (delayReqSend_within ..)

theorem ptpTcForward_law (port domain kind : Nat) (corr ingress egress : Int) (frame : List Byte) (s : State) : Law [.sent] s (execPtpTcForward port domain kind corr ingress egress frame s) :=
  s.when_law _ fun _ => (ptpTcForward_within ..)

theorem announceTimeout_law (port : Nat) (s : State) : Law [.store, .time, .sent] s (execAnnounceTimeout port s) :=
  s.when_law _ fun _ => (announceTimeout_within ..)

theorem syncLossTimeout_law  (s : State) : Law [.time] s (execSyncLossTimeout s) :=
  s.when_law _ fun _ => (syncLossTimeout_within ..)

theorem holdMaxExpiry_law  (s : State) : Law [.time] s (execHoldMaxExpiry s) :=
  s.when_law _ fun _ => (holdMaxExpiry_within ..)

theorem timeExtend_law  (s : State) : Law [.time] s (execTimeExtend s) :=
  s.when_law _ fun _ => (timeExtend_within ..)

theorem forceStepExpiry_law  (s : State) : Law [.host, .time] s (execForceStepExpiry s) :=
  s.when_law _ fun _ => (forceStepExpiry_within ..)

theorem incrSave_law  (s : State) : Law [.power, .time] s (execIncrSave s) :=
  s.when_law _ fun _ => (incrSave_within ..)

theorem canFrameReceived_law (port : Nat) (frame : CanFrame) (bits : Nat) (s : State) : Law [.store, .can, .sent, .free] s (execCanFrameReceived port frame bits s) :=
  s.when_law _ fun _ => (canFrameReceived_within ..)

theorem canTxSuccess_law (port bits : Nat) (s : State) : Law [.can, .sent] s (execCanTxSuccess port bits s) :=
  s.when_law _ fun _ => (canTxSuccess_within ..)

theorem canTxError_law (port : Nat) (e : CanTxErr) (s : State) : Law [.store, .can, .sent] s (execCanTxError port e s) :=
  s.when_law _ fun _ => (canTxError_within ..)

theorem canRecoveryComplete_law (port : Nat) (s : State) : Law [.store, .can, .sent] s (execCanRecoveryComplete port s) :=
  s.when_law _ fun _ => (canRecoveryComplete_within ..)

theorem canCtrlRecover_law (port : Nat) (s : State) : Law [.can] s (execCanCtrlRecover port s) :=
  s.when_law _ fun _ => (canCtrlRecover_within ..)

theorem canCtrlDetect_law (port : Nat) (s : State) : Law [.can] s (execCanCtrlDetect port s) :=
  s.when_law _ fun _ => (canCtrlDetect_within ..)

theorem detectDwellExpiry_law (port : Nat) (s : State) : Law [.store, .can] s (execDetectDwellExpiry port s) :=
  s.when_law _ fun _ => (detectDwellExpiry_within ..)

theorem canCtrlAbortAll_law (port : Nat) (s : State) : Law [.can] s (execCanCtrlAbortAll port s) :=
  s.when_law _ fun _ => (canCtrlAbortAll_within ..)

theorem canCtrlClearFlags_law (port : Nat) (s : State) : Law [.can] s (execCanCtrlClearFlags port s) :=
  s.when_law _ fun _ => (canCtrlClearFlags_within ..)

theorem canTxwGo_law (port : Nat) (s : State) : Law [.pair, .can, .sent] s (execCanTxwGo port s) :=
  s.when_law _ fun _ => (canTxwGo_within ..)

theorem canObjectFirstRead_law (port obj : Nat) (s : State) : Law [.can] s (execCanObjectFirstRead port obj s) :=
  s.when_law _ fun _ => (canObjectFirstRead_within ..)

theorem canObjectLastRead_law (port obj : Nat) (s : State) : Law [.can] s (execCanObjectLastRead port obj s) :=
  s.when_law _ fun _ => (canObjectLastRead_within ..)

theorem canLockTimeout_law (port : Nat) (s : State) : Law [.can] s (execCanLockTimeout port s) :=
  s.when_law _ fun _ => (canLockTimeout_within ..)

theorem ttReferenceReceive_law (port cycle : Nat) (s : State) : Law [.can, .free] s (execTtReferenceReceive port cycle s) :=
  s.when_law _ fun _ => (ttReferenceReceive_within ..)

theorem ttWindowStart_law (port obj : Nat) (busIdle : Bool) (s : State) : Law [.can, .sent] s (execTtWindowStart port obj busIdle s) :=
  s.when_law _ fun _ => (ttWindowStart_within ..)

theorem ttLossTimeout_law (port : Nat) (s : State) : Law [.store, .can] s (execTtLossTimeout port s) :=
  s.when_law _ fun _ => (ttLossTimeout_within ..)

theorem adcRoundTrigger_law (conv : Nat) (codes : List Int) (s : State) : Law [.prot, .adc] s (execAdcRoundTrigger conv codes s) :=
  s.when_law _ fun _ => (adcRoundTrigger_within ..)

theorem adcInjectedTrigger_law (conv : Nat) (src : Option Nat) (atNs : Nat) (codes : List Int) (s : State) : Law [.adc] s (execAdcInjectedTrigger conv src atNs codes s) :=
  s.when_law _ fun _ => (adcInjectedTrigger_within ..)

theorem adcCtrlInjGo_law (conv atNs : Nat) (codes : List Int) (s : State) : Law [.adc] s (execAdcCtrlInjGo conv atNs codes s) :=
  s.when_law _ fun _ => (adcCtrlInjGo_within ..)

theorem adcCtrlCal_law (mask : BitVec 3) (s : State) : Law [.prot, .adc] s (execAdcCtrlCal mask s) :=
  s.when_law _ fun _ => (adcCtrlCal_within ..)

theorem adcCalComplete_law (conv : Nat) (offset gain : Int) (s : State) : Law [.prot, .adc] s (execAdcCalComplete conv offset gain s) :=
  s.when_law _ fun _ => (adcCalComplete_within ..)

theorem adcCtrlClr_law  (s : State) : Law [.adc] s (execAdcCtrlClr s) :=
  s.when_law _ fun _ => (adcCtrlClr_within ..)

theorem implausibleChange_law (string : Nat) (s : State) : Law [.store, .adc] s (execImplausibleChange string s) :=
  s.when_law _ fun _ => (implausibleChange_within ..)

theorem piPulse_law (pi : Nat) (edge : PiEdge) (heldUs periodNs : Nat) (s : State) : Law [.adc] s (execPiPulse pi edge heldUs periodNs s) :=
  s.when_law _ fun _ => (piPulse_within ..)

theorem piNoPulseTimeout_law (pi : Nat) (s : State) : Law [.adc] s (execPiNoPulseTimeout pi s) :=
  s.when_law _ fun _ => (piNoPulseTimeout_within ..)

theorem aiBurdenOpen_law (ai : Nat) (s : State) : Law [.adc] s (execAiBurdenOpen ai s) :=
  s.when_law _ fun _ => (aiBurdenOpen_within ..)

theorem aiBurdenReclose_law (ai : Nat) (s : State) : Law [.adc] s (execAiBurdenReclose ai s) :=
  s.when_law _ fun _ => (aiBurdenReclose_within ..)

theorem recordPost_law (code item block : Nat) (data : List Byte) (s : State) : Law [.store] s (execRecordPost code item block data s) :=
  s.when_law _ fun _ => (recordPost_within ..)

theorem flushStart_law  (s : State) : Law [.store] s (execFlushStart s) :=
  s.when_law _ fun _ => (flushStart_within ..)

theorem flushComplete_law  (s : State) : Law [.store] s (execFlushComplete s) :=
  s.when_law _ fun _ => (flushComplete_within ..)

theorem rateSecondEnd_law  (s : State) : Law [.store] s (execRateSecondEnd s) :=
  s.when_law _ fun _ => (rateSecondEnd_within ..)

theorem recCurPosWrite_law (pos : Option W32) (ctrl : Option (BitVec 3)) (s : State) : Law [.store] s (execRecCurPosWrite pos ctrl s) :=
  s.when_law _ fun _ => (recCurPosWrite_within ..)

theorem recCurDataLastRead_law  (s : State) : Law [.store] s (execRecCurDataLastRead s) :=
  s.when_law _ fun _ => (recCurDataLastRead_within ..)

theorem archiveFinePeriod_law (string : Nat) (s : State) : Law [.store] s (execArchiveFinePeriod string s) :=
  s.when_law _ fun _ => (archiveFinePeriod_within ..)

theorem archiveCoarseDay_law (string : Nat) (s : State) : Law [.store] s (execArchiveCoarseDay string s) :=
  s.when_law _ fun _ => (archiveCoarseDay_within ..)

theorem configWriteComplete_law  (s : State) : Law [.host, .store] s (execConfigWriteComplete s) :=
  s.when_law _ fun _ => (configWriteComplete_within ..)

theorem flashPageWriteFail_law (partition addr : Nat) (s : State) : Law [.store] s (execFlashPageWriteFail partition addr s) :=
  s.when_law _ fun _ => (flashPageWriteFail_within ..)

theorem flashLifeChange_law (life : Nat) (reserveOut : Bool) (s : State) : Law [.store] s (execFlashLifeChange life reserveOut s) :=
  s.when_law _ fun _ => (flashLifeChange_within ..)

theorem scrubPass_law (corrected : Nat) (bad : List Nat) (s : State) : Law [.store] s (execScrubPass corrected bad s) :=
  s.when_law _ fun _ => (scrubPass_within ..)

theorem dramUeRead_law (addr reader bed slotId : Nat) (use : DmaUse) (s : State) : Law [.plan, .host, .store, .power, .est, .conv, .pair, .time, .upd, .sent] s (execDramUeRead addr reader bed slotId use s) :=
  s.when_law _ fun _ => (dramUeRead_within ..)

theorem dmaDescriptorDone_law (ch : Nat) (next : DmaDesc) (s : State) : Law [.host, .store, .est, .sent] s (execDmaDescriptorDone ch next s) :=
  s.when_law _ fun _ => (dmaDescriptorDone_within ..)

theorem dmaFault_law (ch cause bytes : Nat) (s : State) : Law [.host, .store, .est, .sent] s (execDmaFault ch cause bytes s) :=
  s.when_law _ fun _ => (dmaFaultRow_within ..)

theorem coldStart_law (insertion : Bool) (env : StartEnv) (s : State) : Law [.plan, .clock, .host, .store, .power, .chain, .est, .conv, .disp, .prot, .safety, .pair, .time, .can, .adc, .upd, .sent, .free] s (execColdStart insertion env s) :=
  s.start_law _ fun _ => (coldStart_within ..)

theorem moduleRestart_law (env : StartEnv) (s : State) : Law [.plan, .clock, .host, .store, .power, .chain, .est, .conv, .disp, .prot, .safety, .pair, .time, .can, .adc, .upd, .sent, .free] s (execModuleRestart env s) :=
  s.start_law _ fun _ => (moduleRestart_within ..)

theorem restartButtonRelease_law  (s : State) : Law [.plan, .store, .power, .conv, .disp, .pair, .time, .upd, .sent] s (execRestartButtonRelease s) :=
  s.when_law _ fun _ => (restartButtonRelease_within ..)

theorem buttonStuck_law  (s : State) : Law [.store, .power] s (execButtonStuck s) :=
  s.when_law _ fun _ => (buttonStuck_within ..)

theorem buttonRearm_law  (s : State) : Law [.power] s (execButtonRearm s) :=
  s.when_law _ fun _ => (buttonRearm_within ..)

theorem strapRecheck_law (pins : BitVec 9) (s : State) : Law [.store, .power] s (execStrapRecheck pins s) :=
  s.when_law _ fun _ => (strapRecheck_within ..)

theorem powerFailure_law (vin : Nat) (s : State) : Law [.plan, .store, .power, .conv, .pair, .sent] s (execPowerFailure vin s) :=
  s.when_law _ fun _ => (powerFailure_within ..)

theorem powerRecovered_law (env : StartEnv) (s : State) : Law [.plan, .clock, .host, .store, .power, .chain, .est, .conv, .disp, .prot, .safety, .pair, .time, .can, .adc, .upd, .sent, .free] s (execPowerRecovered env s) :=
  s.start_law _ fun _ => (powerRecovered_within ..)

theorem secViolation_law (source : Nat) (powered holds : Bool) (s : State) : Law [.host, .store, .power, .pair, .upd, .free] s (execSecViolation source powered holds s) :=
  s.when_law _ fun _ => (secViolation_within ..)

theorem cellLow_law (mv : Nat) (s : State) : Law [.store, .power] s (execCellLow mv s) :=
  s.when_law _ fun _ => (cellLow_within ..)

theorem keyLoad_law (rq : HostReq) (s : State) : Law [.plan, .host, .store, .power, .chain, .est, .conv, .disp, .prot, .safety, .pair, .time, .can, .adc, .upd, .sent, .free] s (execKeyLoad rq s) :=
  s.when_law _ fun _ => (hostRow_within ..)

theorem secSet_law (rq : HostReq) (s : State) : Law [.plan, .host, .store, .power, .chain, .est, .conv, .disp, .prot, .safety, .pair, .time, .can, .adc, .upd, .sent, .free] s (execSecSet rq s) :=
  s.when_law _ fun _ => (hostRow_within ..)

theorem secUnlock_law (rq : HostReq) (s : State) : Law [.plan, .host, .store, .power, .chain, .est, .conv, .disp, .prot, .safety, .pair, .time, .can, .adc, .upd, .sent, .free] s (execSecUnlock rq s) :=
  s.when_law _ fun _ => (hostRow_within ..)

theorem secErase_law (rq : HostReq) (s : State) : Law [.plan, .host, .store, .power, .chain, .est, .conv, .disp, .prot, .safety, .pair, .time, .can, .adc, .upd, .sent, .free] s (execSecErase rq s) :=
  s.when_law _ fun _ => (hostRow_within ..)

theorem factoryRestore_law (rq : HostReq) (s : State) : Law [.plan, .host, .store, .power, .chain, .est, .conv, .disp, .prot, .safety, .pair, .time, .can, .adc, .upd, .sent, .free] s (execFactoryRestore rq s) :=
  s.when_law _ fun _ => (hostRow_within ..)

theorem park_law (rq : HostReq) (s : State) : Law [.plan, .host, .store, .power, .chain, .est, .conv, .disp, .prot, .safety, .pair, .time, .can, .adc, .upd, .sent, .free] s (execPark rq s) :=
  s.when_law _ fun _ => (hostRow_within ..)

theorem secClear_law (rq : HostReq) (s : State) : Law [.plan, .host, .store, .power, .chain, .est, .conv, .disp, .prot, .safety, .pair, .time, .can, .adc, .upd, .sent, .free] s (execSecClear rq s) :=
  s.when_law _ fun _ => (hostRow_within ..)

theorem rvOpen_law (rq : RvReq) (s : State) : Law [.host, .store, .upd, .sent, .free] s (execRvOpen rq s) :=
  s.when_law _ fun _ => (rvOpen_within ..)

theorem rvClose_law (rq : RvReq) (s : State) : Law [.plan, .host, .store, .power, .conv, .disp, .prot, .safety, .pair, .time, .can, .adc, .upd, .sent, .free] s (execRvClose rq s) :=
  s.when_law _ fun _ => (rvRow_within ..)

theorem rvInfo_law (rq : RvReq) (s : State) : Law [.plan, .host, .store, .power, .conv, .disp, .prot, .safety, .pair, .time, .can, .adc, .upd, .sent, .free] s (execRvInfo rq s) :=
  s.when_law _ fun _ => (rvRow_within ..)

theorem updBegin_law (rq : RvReq) (s : State) : Law [.plan, .host, .store, .power, .conv, .disp, .prot, .safety, .pair, .time, .can, .adc, .upd, .sent, .free] s (execUpdBegin rq s) :=
  s.when_law _ fun _ => (rvRow_within ..)

theorem updBlock_law (rq : RvReq) (s : State) : Law [.plan, .host, .store, .power, .conv, .disp, .prot, .safety, .pair, .time, .can, .adc, .upd, .sent, .free] s (execUpdBlock rq s) :=
  s.when_law _ fun _ => (rvRow_within ..)

theorem updVerify_law (rq : RvReq) (s : State) : Law [.plan, .host, .store, .power, .conv, .disp, .prot, .safety, .pair, .time, .can, .adc, .upd, .sent, .free] s (execUpdVerify rq s) :=
  s.when_law _ fun _ => (rvRow_within ..)

theorem updVerifyComplete_law  (s : State) : Law [.store, .upd] s (execUpdVerifyComplete s) :=
  s.when_law _ fun _ => (updVerifyComplete_within ..)

theorem updStatus_law (rq : RvReq) (s : State) : Law [.plan, .host, .store, .power, .conv, .disp, .prot, .safety, .pair, .time, .can, .adc, .upd, .sent, .free] s (execUpdStatus rq s) :=
  s.when_law _ fun _ => (rvRow_within ..)

theorem updActivate_law (rq : RvReq) (s : State) : Law [.plan, .host, .store, .power, .conv, .disp, .prot, .safety, .pair, .time, .can, .adc, .upd, .sent, .free] s (execUpdActivate rq s) :=
  s.when_law _ fun _ => (rvRow_within ..)

theorem updConfirm_law (rq : RvReq) (s : State) : Law [.plan, .host, .store, .power, .conv, .disp, .prot, .safety, .pair, .time, .can, .adc, .upd, .sent, .free] s (execUpdConfirm rq s) :=
  s.when_law _ fun _ => (rvRow_within ..)

theorem trialAutoConfirm_law  (s : State) : Law [.store, .upd] s (execTrialAutoConfirm s) :=
  s.when_law _ fun _ => (trialAutoConfirm_within ..)

theorem updRollback_law (rq : RvReq) (s : State) : Law [.plan, .host, .store, .power, .conv, .disp, .prot, .safety, .pair, .time, .can, .adc, .upd, .sent, .free] s (execUpdRollback rq s) :=
  s.when_law _ fun _ => (rvRow_within ..)

theorem updAbort_law (rq : RvReq) (s : State) : Law [.plan, .host, .store, .power, .conv, .disp, .prot, .safety, .pair, .time, .can, .adc, .upd, .sent, .free] s (execUpdAbort rq s) :=
  s.when_law _ fun _ => (rvRow_within ..)

theorem safeStage_law (rq : RvReq) (s : State) : Law [.plan, .host, .store, .power, .conv, .disp, .prot, .safety, .pair, .time, .can, .adc, .upd, .sent, .free] s (execSafeStage rq s) :=
  s.when_law _ fun _ => (rvRow_within ..)

theorem safeCommit_law (rq : RvReq) (s : State) : Law [.plan, .host, .store, .power, .conv, .disp, .prot, .safety, .pair, .time, .can, .adc, .upd, .sent, .free] s (execSafeCommit rq s) :=
  s.when_law _ fun _ => (rvRow_within ..)

theorem keyLoadClear_law (rq : RvReq) (s : State) : Law [.plan, .host, .store, .power, .conv, .disp, .prot, .safety, .pair, .time, .can, .adc, .upd, .sent, .free] s (execKeyLoadClear rq s) :=
  s.when_law _ fun _ => (rvRow_within ..)

theorem calRead_law (rq : RvReq) (s : State) : Law [.plan, .host, .store, .power, .conv, .disp, .prot, .safety, .pair, .time, .can, .adc, .upd, .sent, .free] s (execCalRead rq s) :=
  s.when_law _ fun _ => (rvRow_within ..)

theorem calReset_law (rq : RvReq) (s : State) : Law [.plan, .host, .store, .power, .conv, .disp, .prot, .safety, .pair, .time, .can, .adc, .upd, .sent, .free] s (execCalReset rq s) :=
  s.when_law _ fun _ => (rvRow_within ..)

theorem rvDiagRead_law (rq : RvReq) (s : State) : Law [.plan, .host, .store, .power, .conv, .disp, .prot, .safety, .pair, .time, .can, .adc, .upd, .sent, .free] s (execRvDiagRead rq s) :=
  s.when_law _ fun _ => (rvRow_within ..)

theorem rvDiagWrite_law (rq : RvReq) (s : State) : Law [.plan, .host, .store, .power, .conv, .disp, .prot, .safety, .pair, .time, .can, .adc, .upd, .sent, .free] s (execRvDiagWrite rq s) :=
  s.when_law _ fun _ => (rvRow_within ..)

theorem svcEnter_law (rq : RvReq) (s : State) : Law [.plan, .host, .store, .power, .conv, .disp, .prot, .safety, .pair, .time, .can, .adc, .upd, .sent, .free] s (execSvcEnter rq s) :=
  s.when_law _ fun _ => (rvRow_within ..)

theorem svcLeave_law (rq : RvReq) (s : State) : Law [.plan, .host, .store, .power, .conv, .disp, .prot, .safety, .pair, .time, .can, .adc, .upd, .sent, .free] s (execSvcLeave rq s) :=
  s.when_law _ fun _ => (rvRow_within ..)

theorem rvRestart_law (rq : RvReq) (s : State) : Law [.plan, .host, .store, .power, .conv, .disp, .prot, .safety, .pair, .time, .can, .adc, .upd, .sent, .free] s (execRvRestart rq s) :=
  s.when_law _ fun _ => (rvRow_within ..)

theorem rvSessionIdle_law  (s : State) : Law [.store, .upd] s (execRvSessionIdle s) :=
  s.when_law _ fun _ => (rvSessionIdle_within ..)

theorem usbDisconnect_law  (s : State) : Law [.store, .upd] s (execUsbDisconnect s) :=
  s.when_law _ fun _ => (usbDisconnect_within ..)

theorem recoveredClockLock_law (clk : RecClk) (inverted : Bool) (s : State) : Law [.plan, .chain] s (execRecoveredClockLock clk inverted s) :=
  s.when_law _ fun _ => (recoveredClockLock_within ..)

theorem networkLinkChange_law (net : Nat) (up : Bool) (s : State) : Law [.plan] s (execNetworkLinkChange net up s) :=
  s.when_law _ fun _ => (networkLinkChange_within ..)

theorem partnerPresent_law  (s : State) : Law [.plan, .store, .safety, .pair, .sent] s (execPartnerPresent s) :=
  s.when_law _ fun _ => (partnerPresent_within ..)

theorem holdupExhausted_law  (s : State) : Law [.plan, .clock, .host, .store, .power, .chain, .est, .conv, .disp, .prot, .safety, .pair, .time, .can, .adc, .upd, .free] s (execHoldupExhausted s) :=
  s.start_law _ fun _ => (holdupExhausted_within ..)

theorem flashResponseChange_law (responding : Bool) (s : State) : Law [.store] s (execFlashResponseChange responding s) :=
  s.when_law _ fun _ => (flashResponseChange_within ..)

theorem restartButtonPress_law  (s : State) : Law [.power] s (execRestartButtonPress s) :=
  s.when_law _ fun _ => (restartButtonPress_within ..)

theorem graftMailboxReceive_law (kind : Nat) (ptr len type : Nat) (body : List Byte) (s : State) : Law [.plan, .host, .store, .chain, .est, .conv, .disp, .prot, .safety, .pair, .adc, .sent] s (execGraftMailboxReceive kind ptr len type body s) :=
  s.when_law _ fun _ => (graftMailboxReceive_within ..)

theorem recordQueryComplete_law (sid : Nat) (s : State) : Law [.host, .store, .sent] s (execRecordQueryComplete sid s) :=
  s.when_law _ fun _ => (recordQueryComplete_within ..)

theorem ptpFollowUpReceive_law (port : Nat) (f : PtpFollowUp) (s : State) : Law [.host, .store, .power, .time, .sent, .free] s (execPtpFollowUpReceive port f s) :=
  s.when_law _ fun _ => (ptpFollowUpReceive_within ..)

theorem canRxError_law (port lec inc : Nat) (s : State) : Law [.can] s (execCanRxError port lec inc s) :=
  s.when_law _ fun _ => (canRxError_within ..)

/-- Every part of the module. -/
def Part.every : List Part := [.plan, .clock, .host, .store, .power, .chain, .est, .conv, .disp, .prot, .safety, .pair, .time, .can, .adc, .upd, .sent, .free]

/-- No command stops: each answers a next state, withdraws nothing sent, keeps the memory's canonical form, and leaves the waiting commands
as they stand. -/
theorem exec_law (i : Instr) (s : State) : Law Part.every s (exec i s) := by
  cases i
  case tick => exact (tick_law ..).all (by decide)
  case grainBoundary => exact (grainBoundary_law ..).all (by decide)
  case slotRun => exact (slotRun_law ..).all (by decide)
  case overrun => exact (overrun_law ..).all (by decide)
  case lockstepMismatch => exact (lockstepMismatch_law ..).all (by decide)
  case supervisorWatchdog => exact (supervisorWatchdog_law ..).all (by decide)
  case warmRestartComplete => exact (warmRestartComplete_law ..).all (by decide)
  case grainPulseTimeout => exact (grainPulseTimeout_law ..).all (by decide)
  case safetyCoreFault => exact (safetyCoreFault_law ..).all (by decide)
  case clockMeasurement => exact (clockMeasurement_law ..).all (by decide)
  case recoveredClockUnlock => exact (recoveredClockUnlock_law ..).all (by decide)
  case planCheckComplete => exact (planCheckComplete_law ..).all (by decide)
  case planRestart => exact (planRestart_law ..).all (by decide)
  case bedReplant => exact (bedReplant_law ..).all (by decide)
  case chainResponse => exact (chainResponse_law ..).all (by decide)
  case chainTransactionClose => exact (chainTransactionClose_law ..).all (by decide)
  case enumRetry => exact (enumRetry_law ..).all (by decide)
  case authReadDue => exact (authReadDue_law ..).all (by decide)
  case authTimeout => exact (authTimeout_law ..).all (by decide)
  case reauthDue => exact (reauthDue_law ..).all (by decide)
  case ringWakeDone => exact (ringWakeDone_law ..).all (by decide)
  case monitorWakeTone => exact (monitorWakeTone_law ..).all (by decide)
  case alarmToneDeclared => exact (alarmToneDeclared_law ..).all (by decide)
  case alarmToneAbsent => exact (alarmToneAbsent_law ..).all (by decide)
  case toneDetectorTest => exact (toneDetectorTest_law ..).all (by decide)
  case senseOpenHoldExpiry => exact (senseOpenHoldExpiry_law ..).all (by decide)
  case fullTestDue => exact (fullTestDue_law ..).all (by decide)
  case balancePlan => exact (balancePlan_law ..).all (by decide)
  case restAnchor => exact (restAnchor_law ..).all (by decide)
  case impedanceIntervalEnd => exact (impedanceIntervalEnd_law ..).all (by decide)
  case anomalyClear => exact (anomalyClear_law ..).all (by decide)
  case checkpointCapture => exact (checkpointCapture_law ..).all (by decide)
  case checkpointWriteComplete => exact (checkpointWriteComplete_law ..).all (by decide)
  case estRestoreComplete => exact (estRestoreComplete_law ..).all (by decide)
  case restoreWaitExpiry => exact (restoreWaitExpiry_law ..).all (by decide)
  case upstreamFrame => exact (upstreamFrame_law ..).all (by decide)
  case klinkLost => exact (klinkLost_law ..).all (by decide)
  case localRampTimeout => exact (localRampTimeout_law ..).all (by decide)
  case fibreDelayMeasure => exact (fibreDelayMeasure_law ..).all (by decide)
  case linkAligned => exact (linkAligned_law ..).all (by decide)
  case alignmentLost => exact (alignmentLost_law ..).all (by decide)
  case regTimeout => exact (regTimeout_law ..).all (by decide)
  case tripRequest => exact (tripRequest_law ..).all (by decide)
  case pruneCommit => exact (pruneCommit_law ..).all (by decide)
  case armTimerExpiry => exact (armTimerExpiry_law ..).all (by decide)
  case hiccupEntry => exact (hiccupEntry_law ..).all (by decide)
  case hiccupTimeExpiry => exact (hiccupTimeExpiry_law ..).all (by decide)
  case hiccupClearExpiry => exact (hiccupClearExpiry_law ..).all (by decide)
  case phaseOpenDetect => exact (phaseOpenDetect_law ..).all (by decide)
  case phaseSenseFail => exact (phaseSenseFail_law ..).all (by decide)
  case mirrorTimeout => exact (mirrorTimeout_law ..).all (by decide)
  case phaseFollowLatch => exact (phaseFollowLatch_law ..).all (by decide)
  case stringFollowStop => exact (stringFollowStop_law ..).all (by decide)
  case powerFollowFlag => exact (powerFollowFlag_law ..).all (by decide)
  case burstEntry => exact (burstEntry_law ..).all (by decide)
  case burstPhaseReselect => exact (burstPhaseReselect_law ..).all (by decide)
  case softStopComplete => exact (softStopComplete_law ..).all (by decide)
  case softStopTimeout => exact (softStopTimeout_law ..).all (by decide)
  case leaseExpiry => exact (leaseExpiry_law ..).all (by decide)
  case sourceFault => exact (sourceFault_law ..).all (by decide)
  case sourceRecover => exact (sourceRecover_law ..).all (by decide)
  case restWindowEnd => exact (restWindowEnd_law ..).all (by decide)
  case restPendExpiry => exact (restPendExpiry_law ..).all (by decide)
  case serviceComplete => exact (serviceComplete_law ..).all (by decide)
  case sensorBadHoldExpiry => exact (sensorBadHoldExpiry_law ..).all (by decide)
  case derateStepTimer => exact (derateStepTimer_law ..).all (by decide)
  case ocComparatorEvent => exact (ocComparatorEvent_law ..).all (by decide)
  case contDelayExpiry => exact (contDelayExpiry_law ..).all (by decide)
  case contFbTimeout => exact (contFbTimeout_law ..).all (by decide)
  case contactorFeedbackChange => exact (contactorFeedbackChange_law ..).all (by decide)
  case hvacRequest => exact (hvacRequest_law ..).all (by decide)
  case safetyCycle => exact (safetyCycle_law ..).all (by decide)
  case safeInputChange => exact (safeInputChange_law ..).all (by decide)
  case discrepancyTimeout => exact (discrepancyTimeout_law ..).all (by decide)
  case testPulseGap => exact (testPulseGap_law ..).all (by decide)
  case resetInputRelease => exact (resetInputRelease_law ..).all (by decide)
  case twoHandSyncExpiry => exact (twoHandSyncExpiry_law ..).all (by decide)
  case sqHighSideOn => exact (sqHighSideOn_law ..).all (by decide)
  case offPulseTest => exact (offPulseTest_law ..).all (by decide)
  case offPulseEnd => exact (offPulseEnd_law ..).all (by decide)
  case openLoadTimeout => exact (openLoadTimeout_law ..).all (by decide)
  case fallowExpiry => exact (fallowExpiry_law ..).all (by decide)
  case clocheSend => exact (clocheSend_law ..).all (by decide)
  case clocheFrameReceive => exact (clocheFrameReceive_law ..).all (by decide)
  case clocheWatchdogExpiry => exact (clocheWatchdogExpiry_law ..).all (by decide)
  case partnerBpTrip => exact (partnerBpTrip_law ..).all (by decide)
  case fieldSupplyChange => exact (fieldSupplyChange_law ..).all (by decide)
  case safeStageExpiry => exact (safeStageExpiry_law ..).all (by decide)
  case standbyReplayTimeout => exact (standbyReplayTimeout_law ..).all (by decide)
  case rolePoint => exact (rolePoint_law ..).all (by decide)
  case pairFormWaitExpiry => exact (pairFormWaitExpiry_law ..).all (by decide)
  case roleLineChange => exact (roleLineChange_law ..).all (by decide)
  case partnerAbsent => exact (partnerAbsent_law ..).all (by decide)
  case joinPair => exact (joinPair_law ..).all (by decide)
  case replayRecordReceive => exact (replayRecordReceive_law ..).all (by decide)
  case fieldForward => exact (fieldForward_law ..).all (by decide)
  case heartbeatMiss => exact (heartbeatMiss_law ..).all (by decide)
  case resyncRetryExpiry => exact (resyncRetryExpiry_law ..).all (by decide)
  case yieldRoleRelease => exact (yieldRoleRelease_law ..).all (by decide)
  case takeover => exact (takeover_law ..).all (by decide)
  case drillDue => exact (drillDue_law ..).all (by decide)
  case drillOverdue => exact (drillOverdue_law ..).all (by decide)
  case drillCheck => exact (drillCheck_law ..).all (by decide)
  case graftLaneChange => exact (graftLaneChange_law ..).all (by decide)
  case insertion => exact (insertion_law ..).all (by decide)
  case extractionWarning => exact (extractionWarning_law ..).all (by decide)
  case presenceReturn => exact (presenceReturn_law ..).all (by decide)
  case udpPacketReceive => exact (udpPacketReceive_law ..).all (by decide)
  case sessionOpen => exact (sessionOpen_law ..).all (by decide)
  case sessionClose => exact (sessionClose_law ..).all (by decide)
  case nop => exact (nop_law ..).all (by decide)
  case noticeAck => exact (noticeAck_law ..).all (by decide)
  case pointRead => exact (pointRead_law ..).all (by decide)
  case streamOpen => exact (streamOpen_law ..).all (by decide)
  case streamClose => exact (streamClose_law ..).all (by decide)
  case paramRead => exact (paramRead_law ..).all (by decide)
  case paramWrite => exact (paramWrite_law ..).all (by decide)
  case diagRead => exact (diagRead_law ..).all (by decide)
  case diagWrite => exact (diagWrite_law ..).all (by decide)
  case xaRead => exact (xaRead_law ..).all (by decide)
  case xaWrite => exact (xaWrite_law ..).all (by decide)
  case mbxPost => exact (mbxPost_law ..).all (by decide)
  case mbxRead => exact (mbxRead_law ..).all (by decide)
  case mbxAck => exact (mbxAck_law ..).all (by decide)
  case supervisorMbxTake => exact (supervisorMbxTake_law ..).all (by decide)
  case outboundMbxWrite => exact (outboundMbxWrite_law ..).all (by decide)
  case mbxCrossTimeout => exact (mbxCrossTimeout_law ..).all (by decide)
  case estRead => exact (estRead_law ..).all (by decide)
  case estRestore => exact (estRestore_law ..).all (by decide)
  case estReset => exact (estReset_law ..).all (by decide)
  case recordQuery => exact (recordQuery_law ..).all (by decide)
  case recorderClear => exact (recorderClear_law ..).all (by decide)
  case confirmExpiry => exact (confirmExpiry_law ..).all (by decide)
  case leaseClaim => exact (leaseClaim_law ..).all (by decide)
  case leaseRenew => exact (leaseRenew_law ..).all (by decide)
  case leaseRelease => exact (leaseRelease_law ..).all (by decide)
  case leaseRevoke => exact (leaseRevoke_law ..).all (by decide)
  case setPower => exact (setPower_law ..).all (by decide)
  case moveStart => exact (moveStart_law ..).all (by decide)
  case moveRetarget => exact (moveRetarget_law ..).all (by decide)
  case stop => exact (stop_law ..).all (by decide)
  case resume => exact (resume_law ..).all (by decide)
  case trip => exact (trip_law ..).all (by decide)
  case stringService => exact (stringService_law ..).all (by decide)
  case planLoad => exact (planLoad_law ..).all (by decide)
  case planActivate => exact (planActivate_law ..).all (by decide)
  case planDiscard => exact (planDiscard_law ..).all (by decide)
  case protClear => exact (protClear_law ..).all (by decide)
  case toneReset => exact (toneReset_law ..).all (by decide)
  case senseClear => exact (senseClear_law ..).all (by decide)
  case safetyReset => exact (safetyReset_law ..).all (by decide)
  case convFaultClear => exact (convFaultClear_law ..).all (by decide)
  case phaseClear => exact (phaseClear_law ..).all (by decide)
  case enumerate => exact (enumerate_law ..).all (by decide)
  case clrOverrun => exact (clrOverrun_law ..).all (by decide)
  case clrChainCnt => exact (clrChainCnt_law ..).all (by decide)
  case clrConvFlags => exact (clrConvFlags_law ..).all (by decide)
  case clrConvCnt => exact (clrConvCnt_law ..).all (by decide)
  case clrSafetyCnt => exact (clrSafetyCnt_law ..).all (by decide)
  case clrPairCnt => exact (clrPairCnt_law ..).all (by decide)
  case restart => exact (restart_law ..).all (by decide)
  case roleSwap => exact (roleSwap_law ..).all (by decide)
  case sessionIdleTimeout => exact (sessionIdleTimeout_law ..).all (by decide)
  case noticeResend => exact (noticeResend_law ..).all (by decide)
  case streamCycle => exact (streamCycle_law ..).all (by decide)
  case watchEvaluation => exact (watchEvaluation_law ..).all (by decide)
  case authBlockExpiry => exact (authBlockExpiry_law ..).all (by decide)
  case grnNowRead => exact (grnNowRead_law ..).all (by decide)
  case s64LowRead => exact (s64LowRead_law ..).all (by decide)
  case timeNsRead => exact (timeNsRead_law ..).all (by decide)
  case timeSecLoRead => exact (timeSecLoRead_law ..).all (by decide)
  case dramUeLoRead => exact (dramUeLoRead_law ..).all (by decide)
  case ptpSyncReceive => exact (ptpSyncReceive_law ..).all (by decide)
  case ptpAnnounceReceive => exact (ptpAnnounceReceive_law ..).all (by decide)
  case ptpDelayRespReceive => exact (ptpDelayRespReceive_law ..).all (by decide)
  case delayReqSend => exact (delayReqSend_law ..).all (by decide)
  case ptpTcForward => exact (ptpTcForward_law ..).all (by decide)
  case announceTimeout => exact (announceTimeout_law ..).all (by decide)
  case syncLossTimeout => exact (syncLossTimeout_law ..).all (by decide)
  case holdMaxExpiry => exact (holdMaxExpiry_law ..).all (by decide)
  case timeExtend => exact (timeExtend_law ..).all (by decide)
  case forceStepExpiry => exact (forceStepExpiry_law ..).all (by decide)
  case incrSave => exact (incrSave_law ..).all (by decide)
  case canFrameReceived => exact (canFrameReceived_law ..).all (by decide)
  case canTxSuccess => exact (canTxSuccess_law ..).all (by decide)
  case canTxError => exact (canTxError_law ..).all (by decide)
  case canRecoveryComplete => exact (canRecoveryComplete_law ..).all (by decide)
  case canCtrlRecover => exact (canCtrlRecover_law ..).all (by decide)
  case canCtrlDetect => exact (canCtrlDetect_law ..).all (by decide)
  case detectDwellExpiry => exact (detectDwellExpiry_law ..).all (by decide)
  case canCtrlAbortAll => exact (canCtrlAbortAll_law ..).all (by decide)
  case canCtrlClearFlags => exact (canCtrlClearFlags_law ..).all (by decide)
  case canTxwGo => exact (canTxwGo_law ..).all (by decide)
  case canObjectFirstRead => exact (canObjectFirstRead_law ..).all (by decide)
  case canObjectLastRead => exact (canObjectLastRead_law ..).all (by decide)
  case canLockTimeout => exact (canLockTimeout_law ..).all (by decide)
  case ttReferenceReceive => exact (ttReferenceReceive_law ..).all (by decide)
  case ttWindowStart => exact (ttWindowStart_law ..).all (by decide)
  case ttLossTimeout => exact (ttLossTimeout_law ..).all (by decide)
  case adcRoundTrigger => exact (adcRoundTrigger_law ..).all (by decide)
  case adcInjectedTrigger => exact (adcInjectedTrigger_law ..).all (by decide)
  case adcCtrlInjGo => exact (adcCtrlInjGo_law ..).all (by decide)
  case adcCtrlCal => exact (adcCtrlCal_law ..).all (by decide)
  case adcCalComplete => exact (adcCalComplete_law ..).all (by decide)
  case adcCtrlClr => exact (adcCtrlClr_law ..).all (by decide)
  case implausibleChange => exact (implausibleChange_law ..).all (by decide)
  case piPulse => exact (piPulse_law ..).all (by decide)
  case piNoPulseTimeout => exact (piNoPulseTimeout_law ..).all (by decide)
  case aiBurdenOpen => exact (aiBurdenOpen_law ..).all (by decide)
  case aiBurdenReclose => exact (aiBurdenReclose_law ..).all (by decide)
  case recordPost => exact (recordPost_law ..).all (by decide)
  case flushStart => exact (flushStart_law ..).all (by decide)
  case flushComplete => exact (flushComplete_law ..).all (by decide)
  case rateSecondEnd => exact (rateSecondEnd_law ..).all (by decide)
  case recCurPosWrite => exact (recCurPosWrite_law ..).all (by decide)
  case recCurDataLastRead => exact (recCurDataLastRead_law ..).all (by decide)
  case archiveFinePeriod => exact (archiveFinePeriod_law ..).all (by decide)
  case archiveCoarseDay => exact (archiveCoarseDay_law ..).all (by decide)
  case configWriteComplete => exact (configWriteComplete_law ..).all (by decide)
  case flashPageWriteFail => exact (flashPageWriteFail_law ..).all (by decide)
  case flashLifeChange => exact (flashLifeChange_law ..).all (by decide)
  case scrubPass => exact (scrubPass_law ..).all (by decide)
  case dramUeRead => exact (dramUeRead_law ..).all (by decide)
  case dmaDescriptorDone => exact (dmaDescriptorDone_law ..).all (by decide)
  case dmaFault => exact (dmaFault_law ..).all (by decide)
  case coldStart => exact (coldStart_law ..).all (by decide)
  case moduleRestart => exact (moduleRestart_law ..).all (by decide)
  case restartButtonRelease => exact (restartButtonRelease_law ..).all (by decide)
  case buttonStuck => exact (buttonStuck_law ..).all (by decide)
  case buttonRearm => exact (buttonRearm_law ..).all (by decide)
  case strapRecheck => exact (strapRecheck_law ..).all (by decide)
  case powerFailure => exact (powerFailure_law ..).all (by decide)
  case powerRecovered => exact (powerRecovered_law ..).all (by decide)
  case secViolation => exact (secViolation_law ..).all (by decide)
  case cellLow => exact (cellLow_law ..).all (by decide)
  case keyLoad => exact (keyLoad_law ..).all (by decide)
  case secSet => exact (secSet_law ..).all (by decide)
  case secUnlock => exact (secUnlock_law ..).all (by decide)
  case secErase => exact (secErase_law ..).all (by decide)
  case factoryRestore => exact (factoryRestore_law ..).all (by decide)
  case park => exact (park_law ..).all (by decide)
  case secClear => exact (secClear_law ..).all (by decide)
  case rvOpen => exact (rvOpen_law ..).all (by decide)
  case rvClose => exact (rvClose_law ..).all (by decide)
  case rvInfo => exact (rvInfo_law ..).all (by decide)
  case updBegin => exact (updBegin_law ..).all (by decide)
  case updBlock => exact (updBlock_law ..).all (by decide)
  case updVerify => exact (updVerify_law ..).all (by decide)
  case updVerifyComplete => exact (updVerifyComplete_law ..).all (by decide)
  case updStatus => exact (updStatus_law ..).all (by decide)
  case updActivate => exact (updActivate_law ..).all (by decide)
  case updConfirm => exact (updConfirm_law ..).all (by decide)
  case trialAutoConfirm => exact (trialAutoConfirm_law ..).all (by decide)
  case updRollback => exact (updRollback_law ..).all (by decide)
  case updAbort => exact (updAbort_law ..).all (by decide)
  case safeStage => exact (safeStage_law ..).all (by decide)
  case safeCommit => exact (safeCommit_law ..).all (by decide)
  case keyLoadClear => exact (keyLoadClear_law ..).all (by decide)
  case calRead => exact (calRead_law ..).all (by decide)
  case calReset => exact (calReset_law ..).all (by decide)
  case rvDiagRead => exact (rvDiagRead_law ..).all (by decide)
  case rvDiagWrite => exact (rvDiagWrite_law ..).all (by decide)
  case svcEnter => exact (svcEnter_law ..).all (by decide)
  case svcLeave => exact (svcLeave_law ..).all (by decide)
  case rvRestart => exact (rvRestart_law ..).all (by decide)
  case rvSessionIdle => exact (rvSessionIdle_law ..).all (by decide)
  case usbDisconnect => exact (usbDisconnect_law ..).all (by decide)
  case recoveredClockLock => exact (recoveredClockLock_law ..).all (by decide)
  case networkLinkChange => exact (networkLinkChange_law ..).all (by decide)
  case partnerPresent => exact (partnerPresent_law ..).all (by decide)
  case holdupExhausted => exact (holdupExhausted_law ..).all (by decide)
  case flashResponseChange => exact (flashResponseChange_law ..).all (by decide)
  case restartButtonPress => exact (restartButtonPress_law ..).all (by decide)
  case graftMailboxReceive => exact (graftMailboxReceive_law ..).all (by decide)
  case recordQueryComplete => exact (recordQueryComplete_law ..).all (by decide)
  case ptpFollowUpReceive => exact (ptpFollowUpReceive_law ..).all (by decide)
  case canRxError => exact (canRxError_law ..).all (by decide)

end Sys2Proof.Machine
end

