-- ==== Sys2Proof/Laws/Host.lean ====
section
/-! SUPPORT. A host request that passes its checks is carried out by its opcode's operation, answered, and followed by what its
answer names. -/

namespace Sys2Proof.Machine

/-- What becomes of a host request that passes every check: the operation of its opcode runs on the module with the request noted,
its answer is kept and sent unless it is held, and what follows it happens. -/
theorem hostRow_admitted {m : Mod} {op : Nat} {rq : HostReq} {e : Session} (dir : Option (W32 × Mod)) (h : m.Admits op rq e) :
    hostRow op rq dir m =
      let x := hostOp { s := e, op := op, rq := rq, dir := dir } (m.noted rq e)
      (if x.2.held then x.1.awaited op rq e x.2.grain else x.1.replied op rq e x.2.status x.2.tlvs x.2.grain).afterReply rq.session x.2.after := by
  obtain ⟨-, h1, h2, h3, h4, h5, h6, h7, h8⟩ := h
  have hst : (m.noted rq e).power = m.power := by unfold Mod.noted; split <;> rfl
  have hpr : (m.noted rq e).pair = m.pair := by unfold Mod.noted; split <;> rfl
  unfold hostRow
  rw [h2]
  simp only [h1, Bool.not_true, Bool.false_eq_true, if_false]
  unfold hostServe
  cases hj : e.judge rq.seq with
  | dup => exact absurd hj h3
  | out => exact absurd hj h4
  | new high seen =>
    have hn : m.noted rq e = m.onSession rq.session fun x => { x with
      high := high, seen := seen, lastReq := m.host.ms, net := rq.net, addr := rq.addr, port := rq.port
      recent := m.host.ms :: e.recent.filter fun t => decide (m.host.ms - t < 1000)
      lastNetA := if rq.net = 0 then some m.host.ms else x.lastNetA, lastNetB := if rq.net = 1 then some m.host.ms else x.lastNetB } := by
      unfold Mod.noted; rw [hj]
    have hsb : ((m.noted rq e).standby && (m.noted rq e).pairOp) = false := by
      unfold Mod.standby Mod.pairOp Mod.paired at *; rw [hst, hpr]; exact h7
    dsimp only
    rw [if_neg (by omega), ← hn]
    simp only [h6, Bool.false_eq_true, if_false]
    have hc : hostChecked { s := e, op := op, rq := rq, dir := dir } rq.malformed (m.noted rq e)
        = hostOp { s := e, op := op, rq := rq, dir := dir } (m.noted rq e) := by
      unfold hostChecked
      cases hr : opRow hostOps op with
      | none => simp [hr] at h8
      | some row =>
        simp only [hr, Option.any_some, Bool.and_eq_true, decide_eq_true_eq, Bool.or_eq_true, Option.isNone_iff_eq_none] at h8
        obtain ⟨⟨ha, hb⟩, hp⟩ := h8
        dsimp only
        simp only [ha, Bool.not_true, Bool.false_eq_true, if_false]
        rw [hsb, hb, hst]
        have : (decide (m.power.state = .parked) && !row.parked) = false := by
          rcases hp with hp | hp <;> simp [hp]
        simp [this]
    rw [hc]
    by_cases hh : (hostOp { s := e, op := op, rq := rq, dir := dir } (m.noted rq e)).2.held = true
    · simp only [hh, if_true]; rfl
    · simp only [hh, if_false]; rfl

/-- What becomes of a Rovisa request that passes every check: the operation of its opcode runs on the module with the request
noted, its answer is kept and sent, and what follows it happens. -/
theorem rvRow_admitted {m : Mod} {op : Nat} {rq : RvReq} {x : RvSession} (h : m.RvAdmits op rq x) :
    rvRow op rq m =
      let a := rvOp x.presence { s := x.s, op := op, rq := rvHost rq } (m.rvNoted rq x)
      (a.1.rvReplied op rq x a.2.status a.2.tlvs).rvAfter a.2.after := by
  obtain ⟨-, h1, h2, h3, h4, h5, h6, ha, h7, h8, h9⟩ := h
  unfold rvRow
  simp only [h1, Bool.not_true, Bool.false_eq_true, if_false, if_neg h4]
  have hs : (m.onUpd fun u => { u with usbUp := true }).upd.session = some x := h2
  rw [hs]
  dsimp only
  rw [if_neg (not_not.mpr h3)]
  cases hj : x.s.judge rq.seq with
  | dup => exact absurd hj h5
  | out => exact absurd hj h6
  | new high seen =>
    have hn : m.rvNoted rq x =
        m.onUpd fun u => { u with usbUp := true, session := some { x with s := { x.s with high := high, seen := seen, lastReq := m.host.ms } } } := by
      unfold Mod.rvNoted; rw [hj]
    have he : ((m.onUpd fun u => { u with usbUp := true }).onUpd fun u => { u with session := u.session.map fun y => { y with s := { y.s with
        high := high, seen := seen, lastReq := (m.onUpd fun u => { u with usbUp := true }).host.ms } } }) = m.rvNoted rq x := by
      rw [hn]; simp [Mod.onUpd, h2]
    have hc : ∀ m', m' = m.rvNoted rq x → rvChecked x.presence { s := x.s, op := op, rq := rvHost rq } rq.malformed m'
        = rvOp x.presence { s := x.s, op := op, rq := rvHost rq } m' := by
      intro m' hm
      have hp : m'.portState = m.portState := by rw [hm, hn]; rfl
      unfold rvChecked
      cases hr : opRow rovisaOps op with
      | none => simp [hr] at h7
      | some row =>
        simp only [hr, Option.any_some, Bool.and_eq_true, decide_eq_true_eq, Option.isNone_iff_eq_none] at h7
        dsimp only
        have hx : ¬(x.s.role < row.role ∨ (op = 48 ∧ x.presence = false)) := by
          rintro (h | ⟨h, h'⟩)
          · omega
          · simp [h8 h] at h'
        simp only [Bool.or_eq_true, Bool.and_eq_true, decide_eq_true_eq, Bool.not_eq_true', hx, if_false, rvHost, h7.2, hp, h9, if_true]
    dsimp only
    rw [if_neg (by simp [ha]), hc _ he, he]
    rfl

end Sys2Proof.Machine
end

