-- ==== Sys2Proof/Laws/Trip.lean ====
section
/-! SUPPORT. Trips, latched causes and the contactor-opening sequence of R308: what they only ever add, and what they leave behind for
each string that takes the cause. -/

namespace Sys2Proof.Machine

/-- From `a` to `b` no latched cause, no trip and no opening is lost, and the running plan and the parameters stay. -/
structure Trips (a b : Mod) : Prop where
  within : Within [.store, .conv, .prot, .safety, .sent, .pair] a b
  cause : ∀ n c, a.hasCause n c = true → b.hasCause n c = true
  tripped : ∀ n, a.Tripped n → b.Tripped n
  opens : ∀ g, a.Opens g → b.Opens g
  cfg : b.safety.cfg = a.safety.cfg

theorem Trips.refl (a : Mod) : Trips a a := ⟨.refl .., fun _ _ h => h, fun _ h => h, fun _ h => h, rfl⟩

theorem Trips.trans {a b c : Mod} (h : Trips a b) (k : Trips b c) : Trips a c :=
  ⟨h.within.trans k.within, fun n x y => k.cause n x (h.cause n x y), fun n y => k.tripped n (h.tripped n y),
    fun n y => k.opens n (h.opens n y), k.cfg.trans h.cfg⟩

theorem Trips.each {α : Type} (m : Mod) (l : List α) (f : Mod → α → Mod) (h : ∀ m x, Trips m (f m x)) : Trips m (m.each l f) := by
  unfold Mod.each
  induction l generalizing m with
  | nil => exact .refl m
  | cons x l ih => exact (h m x).trans (ih _)

/-- What holds after the element `x` of a list is done holds after all, where nothing that follows takes it back. -/
theorem Trips.each_mem {α : Type} {m : Mod} {l : List α} {f : Mod → α → Mod} (h : ∀ m x, Trips m (f m x)) {x : α} (hx : x ∈ l)
    {P : Mod → Prop} (hp : ∀ a b, Trips a b → P a → P b) (hf : ∀ a, Trips m a → P (f a x)) : P (m.each l f) :=
  Mod.each_mem Trips .refl .trans h hx hp hf

theorem Trips.configured {a b : Mod} (h : Trips a b) (n : Nat) : b.configured n = a.configured n := by
  have := h.within.planEq (by decide)
  simp only [Mod.configured, Mod.bed?, this]

theorem Trips.groupOf {a b : Mod} (h : Trips a b) (n : Nat) : b.groupOf n = a.groupOf n := by
  have := h.within.hostEq (by decide)
  unfold Mod.groupOf Mod.parN Mod.par
  rw [this, h.cfg]

/-- A change outside causes, links and contactors takes nothing back. -/
theorem Trips.quiet {a b : Mod} (w : Within [.store, .conv, .prot, .safety, .sent, .pair] a b) (h1 : b.prot = a.prot)
    (h2 : b.conv = a.conv) (h3 : b.safety = a.safety) : Trips a b :=
  ⟨w, fun n c => by simp only [Mod.hasCause, Mod.strProt, h1, imp_self], fun n => by simp only [Mod.Tripped, Mod.link, h2, imp_self],
    fun g => by simp only [Mod.Opens, Mod.sq, Mod.group, h1, h3, imp_self], by rw [h3]⟩

theorem Mod.post_trips (m : Mod) (c i b : Nat) (d : List Byte) : Trips m (m.post c i b d) := by
  have h := Mod.post_within m c i b d
  exact .quiet (h.mono (by decide)) (h.protEq (by decide)) (h.convEq (by decide)) (h.safetyEq (by decide))

theorem Mod.out_trips (m : Mod) (o : Output) : Trips m (m.out o) := by
  have h := Mod.out_within m o
  exact .quiet (h.mono (by decide)) (h.protEq (by decide)) (h.convEq (by decide)) (h.safetyEq (by decide))

/-- An update of a link that keeps a trip in force takes nothing back. -/
theorem Mod.onLink_trips (m : Mod) (n : Nat) (f : Link → Link)
    (h : (m.link n).tripHeld = true → ((m.link n).st = .tripped ∨ (m.link n).st = .dark) →
      (f (m.link n)).tripHeld = true ∧ ((f (m.link n)).st = .tripped ∨ (f (m.link n)).st = .dark)) : Trips m (m.onLink n f) := by
  refine ⟨(Mod.onLink_within m n f).mono (by decide), fun k c x => x, ?_, fun g x => x, rfl⟩
  intro k hk
  unfold Mod.Tripped at hk ⊢
  rw [Mod.link_onLink]
  split
  · rename_i e; subst e; exact h hk.1 hk.2
  · exact hk

theorem Mod.phasesOff_link (m : Mod) (n : Nat) : (m.phasesOff n).conv.links = m.conv.links := by
  unfold Mod.phasesOff
  exact Mod.each_keeps (fun m => m.conv.links) m _ _ fun _ _ => rfl

theorem Mod.phasesOff_safety (m : Mod) (n : Nat) : (m.phasesOff n).safety = m.safety ∧ (m.phasesOff n).prot = m.prot :=
  ⟨Mod.each_keeps (fun m => m.safety) m _ _ fun _ _ => rfl, Mod.each_keeps (fun m => m.prot) m _ _ fun _ _ => rfl⟩

theorem Mod.linkTo_link (m : Mod) (n k : Nat) (st : LinkState) :
    (m.linkTo n st).link k = if k = n then { (m.link n).loopsOff with st := st, rampTicks := none } else m.link k := by
  have h (j : Nat) : (m.phasesOff n).link j = m.link j := by simp only [Mod.link, Mod.phasesOff_link]
  rw [Mod.linkTo, Mod.link_onLink, h, h]

theorem Mod.linkTo_tripped_trips (m : Mod) (n : Nat) : Trips m (m.linkTo n .tripped) := by
  have w := Mod.linkTo_within m n .tripped
  refine ⟨w.mono (by decide), fun k c => ?_, fun k hk => ?_, fun g => ?_, ?_⟩
  · simp only [Mod.hasCause, Mod.strProt, w.protEq (by decide), imp_self]
  · unfold Mod.Tripped at hk ⊢
    rw [Mod.linkTo_link]
    split
    · rename_i e; subst e; exact ⟨hk.1, .inl rfl⟩
    · exact hk
  · simp only [Mod.Opens, Mod.sq, Mod.group, w.protEq (by decide), w.safetyEq (by decide), imp_self]
  · rw [w.safetyEq (by decide)]

theorem Mod.tripRequest_trips (m : Mod) (n : Nat) : Trips m (m.tripRequest n) := by
  unfold Mod.tripRequest
  extract_lets k begun m1 m2
  have h1 : Trips m m1 := by
    unfold m1
    split
    · exact Mod.out_trips ..
    · exact .refl _
  have h2 : Trips m m2 := by
    unfold m2
    split
    · exact h1
    · exact h1.trans (Mod.linkTo_tripped_trips ..)
  exact h2.trans (Mod.onLink_trips _ _ _ fun _ h => ⟨rfl, h⟩)

/-- A trip request trips its string. -/
theorem Mod.tripRequest_tripped (m : Mod) (n : Nat) : (m.tripRequest n).Tripped n := by
  unfold Mod.tripRequest
  extract_lets k begun m1 m2
  have h1 : m1.link n = k := by unfold m1; split <;> rfl
  have h2 : (m2.link n).st = .tripped ∨ (m2.link n).st = .dark := by
    unfold m2
    split
    · rename_i h; rw [h1]; exact h.symm
    · rw [Mod.linkTo_link]; simp
  unfold Mod.Tripped
  rw [Mod.link_onLink]
  simp only [if_true, true_and]
  exact h2

/-- What a string's own cause is after one is latched on it. -/
theorem Mod.latchCause_has (m : Mod) (n c gidx : Nat) (val : Int) (hc : 1 ≤ c ∧ c ≤ 18) (h : m.configured n = true) :
    (m.latchCause n c gidx val).hasCause n c = true := by
  unfold Mod.latchCause
  rw [h]
  cases hh : m.hasCause n c
  · simp only [Bool.not_true, Bool.false_or, Bool.false_eq_true, if_false]
    have w := fun (m : Mod) a b d e => (Mod.post_within m a b d e).protEq (by decide)
    simp only [Mod.hasCause, Mod.strProt, w, Mod.onLink_fields]
    show ((Mod.onStrProt m n _).strProt n).cause.getLsbD (c - 1) = true
    rw [(Mod.onStrProt_fields m n _).1]
    simp only [BitVec.getLsbD_or, BitVec.getLsbD_ofNat, Nat.testBit_two_pow_self, Bool.or_eq_true]
    right
    simp; omega
  · simp [hh]

theorem Mod.latchCause_trips (m : Mod) (n c gidx : Nat) (val : Int) : Trips m (m.latchCause n c gidx val) := by
  unfold Mod.latchCause
  split
  · exact .refl _
  extract_lets m1 m2
  refine Trips.trans (b := m2) (Trips.trans (b := m1) ?_ (Mod.onLink_trips _ _ _ fun _ h => ⟨rfl, h⟩)) (Mod.post_trips ..)
  refine ⟨(Mod.onStrProt_within m n _).mono (by decide), fun k x hk => ?_, fun k hk => hk, fun g hg => hg, rfl⟩
  unfold Mod.hasCause at hk ⊢
  unfold m1
  rw [Mod.strProt_onStrProt]
  split
  · rename_i e; subst e; simp [hk]
  · exact hk

theorem Mod.switchOff_trips (m : Mod) (g : Nat) : Trips m (m.switchOff g) := by
  unfold Mod.switchOff
  extract_lets o closed judge m1 m2 m3
  split
  · rename_i h
    refine ⟨(Mod.onGroup_within ..).mono (by decide), fun k x hk => hk, fun k hk => hk, fun k hk => ?_, rfl⟩
    unfold Mod.Opens at hk ⊢
    by_cases e : k = g
    · subst e; left; simp [o] at h; exact h
    · rw [Mod.group_onGroup, if_neg e]; exact hk
  · have h1 : Trips m m1 := by
      refine ⟨(Mod.onSq_within ..).mono (by decide), fun k x hk => hk, fun k hk => hk, fun k hk => ?_, rfl⟩
      unfold Mod.Opens at hk ⊢
      unfold m1
      rw [Mod.sq_onSq]
      split
      · exact .inl ⟨rfl, rfl⟩
      · exact hk
    have h2 : Trips m1 m2 := by
      refine ⟨(Mod.onGroup_within ..).mono (by decide), fun k x hk => hk, fun k hk => hk, fun k hk => ?_, rfl⟩
      unfold Mod.Opens at hk ⊢
      by_cases e : k = g
      · subst e; left; unfold m2 m1
        show ((Mod.onSq m k _).sq k).on = false ∧ ((Mod.onSq m k _).sq k).lowAt = none
        rw [(Mod.onSq_fields m k _).1]; exact ⟨rfl, rfl⟩
      · unfold m2; rw [Mod.group_onGroup, if_neg e]; exact hk
    have h3 : Trips m2 m3 := Trips.each _ _ _ fun m n => by
      refine ⟨(Mod.onStrProt_within ..).mono (by decide), fun k x hk => ?_, fun k hk => hk, fun k hk => hk, rfl⟩
      unfold Mod.hasCause at hk ⊢
      rw [Mod.strProt_onStrProt]
      split
      · rename_i e; subst e; exact hk
      · exact hk
    refine ((h1.trans h2).trans h3).trans (Trips.each _ _ _ fun m n => ?_)
    split
    · exact (Mod.latchCause_trips ..).trans (Mod.tripRequest_trips ..)
    · exact .refl _

/-- Both switches of an output open: the group opens. -/
theorem Mod.switchOff_opens (m : Mod) (g : Nat) : (m.switchOff g).Opens g := by
  unfold Mod.switchOff
  extract_lets o closed judge m1 m2 m3
  split
  · rename_i h
    left; simp [o] at h; exact h
  · have h1 : m2.Opens g := by
      left; unfold m2 m1
      show ((Mod.onSq m g _).sq g).on = false ∧ ((Mod.onSq m g _).sq g).lowAt = none
      rw [(Mod.onSq_fields m g _).1]; exact ⟨rfl, rfl⟩
    have h3 : Trips m2 m3 := Trips.each _ _ _ fun m n => by
      refine ⟨(Mod.onStrProt_within ..).mono (by decide), fun k x hk => ?_, fun k hk => hk, fun k hk => hk, rfl⟩
      unfold Mod.hasCause at hk ⊢
      rw [Mod.strProt_onStrProt]
      split
      · rename_i e; subst e; exact hk
      · exact hk
    refine ((h3.trans (Trips.each _ _ _ fun m n => ?_))).opens g h1
    split
    · exact (Mod.latchCause_trips ..).trans (Mod.tripRequest_trips ..)
    · exact .refl _

theorem Mod.reqOff_trips (m : Mod) (g : Nat) : Trips m (m.onSq g fun o => { o with reqOn := false }) := by
  refine ⟨(Mod.onSq_within ..).mono (by decide), fun k x hk => hk, fun k hk => hk, fun k hk => ?_, rfl⟩
  unfold Mod.Opens at hk ⊢
  rw [Mod.sq_onSq]
  split
  · rename_i e; subst e; exact hk
  · exact hk

theorem Mod.openStamp_trips (m : Mod) (g : Nat) (c : Option W32) : Trips m (m.onGroup g fun x => { x with openGrain := c }) := by
  refine ⟨(Mod.onGroup_within ..).mono (by decide), fun k x hk => hk, fun k hk => hk, fun k hk => ?_, rfl⟩
  unfold Mod.Opens at hk ⊢
  rw [Mod.group_onGroup]
  split
  · rename_i e; subst e; exact hk
  · exact hk

theorem Mod.requestOpen_spec (m : Mod) (g : Nat) : Trips m (m.requestOpen g) ∧ (m.requestOpen g).Opens g := by
  unfold Mod.requestOpen
  extract_lets o m1
  have h1 : Trips m m1 := (Mod.reqOff_trips m g).trans (Mod.openStamp_trips ..)
  have e1 : (m1.sq g).on = o.on ∧ (m1.sq g).lowAt = o.lowAt := by
    unfold m1
    show ((Mod.onSq m g _).sq g).on = _ ∧ ((Mod.onSq m g _).sq g).lowAt = _
    rw [(Mod.onSq_fields m g _).1]; exact ⟨rfl, rfl⟩
  split
  · rename_i h
    refine ⟨h1, .inl ?_⟩
    rw [e1.1, e1.2]; simpa using h
  split
  · exact ⟨h1.trans (Mod.switchOff_trips ..), Mod.switchOff_opens ..⟩
  split
  · rename_i h
    exact ⟨h1, .inr h⟩
  · refine ⟨h1.trans ⟨(Mod.onGroup_within ..).mono (by decide), fun k x hk => hk, fun k hk => hk, fun k hk => ?_, rfl⟩, .inr ?_⟩
    · unfold Mod.Opens at hk ⊢
      by_cases e : k = g
      · subst e; right; rw [(Mod.onGroup_fields m1 k _).1]; rfl
      · rw [Mod.group_onGroup, if_neg e]; exact hk
    · rw [(Mod.onGroup_fields m1 g _).1]; rfl

theorem Mod.tripMates_trips (m : Mod) (n g : Nat) : Trips m (m.tripMates n g) := by
  unfold Mod.tripMates
  refine Trips.each _ _ _ fun m k => ?_
  split
  · exact .refl _
  · exact (Mod.latchCause_trips ..).trans (Mod.tripRequest_trips ..)

theorem Mod.openGroup_spec (m : Mod) (n : Nat) : Trips m (m.openGroup n) ∧ ∀ g, m.groupOf n = some g → (m.openGroup n).Opens g := by
  unfold Mod.openGroup
  cases h : m.groupOf n with
  | none => exact ⟨.refl _, fun g hg => by cases hg⟩
  | some g =>
    refine ⟨(Mod.tripMates_trips ..).trans (Mod.requestOpen_spec ..).1, fun g' hg => ?_⟩
    cases hg
    exact (Mod.requestOpen_spec ..).2

/-- The contactor-opening sequence of R308: it takes nothing back, and it has begun for every string of the list on which the cause
is new and which the running plan configures. -/
theorem Mod.openSeqs_spec (m : Mod) (l : List Nat) (c gidx : Nat) (val : Int) (hc : 1 ≤ c ∧ c ≤ 18) :
    Trips m (m.openSeqs l c gidx val) ∧
      ∀ n ∈ l, m.configured n = true → m.hasCause n c = false → (m.openSeqs l c gidx val).Opening n c := by
  unfold Mod.openSeqs
  extract_lets new m1
  have s1 : ∀ m n, Trips m ((m.latchCause n c gidx val).tripRequest n) := fun m n =>
    (Mod.latchCause_trips ..).trans (Mod.tripRequest_trips ..)
  have h1 : Trips m m1 := Trips.each _ _ _ s1
  have s2 : ∀ m n, Trips m (Mod.openGroup m n) := fun m n => (m.openGroup_spec n).1
  have h2 : Trips m1 (m1.each new Mod.openGroup) := Trips.each _ _ _ s2
  refine ⟨h1.trans h2, fun n hn hcfg hno => ?_⟩
  have hmem : n ∈ new := by simp [new, Mod.newCause, hn, hno]
  have p1 : m1.hasCause n c = true ∧ m1.Tripped n := by
    refine Trips.each_mem (P := fun a => a.hasCause n c = true ∧ a.Tripped n) s1 hmem (fun a b h p => ⟨h.cause _ _ p.1, h.tripped _ p.2⟩)
      fun a ha => ⟨?_, Mod.tripRequest_tripped ..⟩
    exact (Mod.tripRequest_trips ..).cause _ _ (Mod.latchCause_has _ _ _ _ _ hc (by rw [ha.configured]; exact hcfg))
  refine ⟨h2.cause _ _ p1.1, h2.tripped _ p1.2, fun g hg => ?_⟩
  have hg1 : m1.groupOf n = some g := by rw [h2.groupOf] at hg; exact hg
  exact Trips.each_mem (P := fun a => a.Opens g) s2 hmem (fun a b h p => h.opens _ p)
    fun a ha => (a.openGroup_spec n).2 g (by rw [ha.groupOf]; exact hg1)

/-- The same for one string. -/
theorem Mod.openSeq_spec (m : Mod) (n c gidx : Nat) (val : Int) (hc : 1 ≤ c ∧ c ≤ 18) :
    Trips m (m.openSeq n c gidx val) ∧
      (m.configured n = true → m.hasCause n c = false → (m.openSeq n c gidx val).Opening n c) :=
  ⟨(m.openSeqs_spec [n] c gidx val hc).1, fun h k => (m.openSeqs_spec [n] c gidx val hc).2 n (by simp) h k⟩

end Sys2Proof.Machine
end

