-- ==== Sys2Proof/Tests/Slice0.lean ====
section
/-! SUPPORT. Tests of one small step or one function each: ill-formed commands, the spec's worked examples, and a witness for the
hypotheses of each statement. -/

set_option Elab.async false

open Sys2Proof Sys2Proof.Machine

/-- A module that runs a plan with one string bed, number 3: two monitors of 16 cells and a converter. -/
def Tests.module : Mod :=
  { power := { state := .running, straps := 259 }
    plan := { mode := .admitted, firstGrain := true
              running := { beds := [{ bed := 3, layout := { monitors := [{}, { addr := 1 }] }, conv := some {} }, { bed := 32 }] } } }

/-- The block with that module, nothing waiting. -/
abbrev Tests.on (m : Mod) : State := { m := m }

/-- The same module in slot 5, paired (pins 0x1A5 hold profile 2). -/
def Tests.paired : Mod := { Tests.module with power := { Tests.module.power with straps := 0x1A5 } }

/-- A session of a keeper, with one confirmation value of each two-step command and one notice. -/
def Tests.session : Session :=
  { sid := 7, role := 3, prio := 9, key := [1], notices := [{ seq := 4 }]
    confirms := [⟨0x0161, 5, 9⟩, ⟨0x0702, 5, 9⟩, ⟨0x0703, 5, 9⟩, ⟨0x0704, 5, 9⟩, ⟨0x0705, 5, 9⟩] }

/-- The module with that session open. -/
def Tests.hosted : Mod := { Tests.module with host := { Tests.module.host with sessions := [Tests.session] } }

/-- The module with a parent clock selected on port A. -/
def Tests.timed : Mod := { Tests.module with time := { parent := some (0, 0, 0), portA := { best := some {} } }, power := { Tests.module.power with cfResponding := true } }

/-- The module with port F0 in normal mode: object 5 receives identifier 0x123, object 6 sends 0x124. -/
def Tests.onCan : Mod :=
  { Tests.module with
    can := { ports := [(0, { mode := 1 })] }
    host := { Tests.module.host with snap := [(canO 0 5 0, some 0x80000123), (canO 0 6 0, some 0xC0000124)] } }

/-- The same, with object 6 time-triggered on a time slave. -/
def Tests.onTt : Mod :=
  { Tests.onCan with host := { Tests.onCan.host with snap := [(canO 0 6 0, some 0xC0000124), (canO 0 6 1, some 0x800), (canP 0 15, some 2)] } }

/-- Its next request. -/
def Tests.req (tlvs : List Tlv) : HostReq := { session := 7, seq := 1, tlvs := tlvs }

/-- The module with a keeper's session on the Rovisa port. -/
def Tests.rovisa : Mod := { Tests.module with upd := { Tests.module.upd with session := some { s := Tests.session } } }

/-- The same, with the inactive slot receiving an image of two blocks. -/
def Tests.receiving : Mod :=
  { Tests.rovisa with upd := { Tests.rovisa.upd with slotB := { st := .receiving, blockCount := 2, header := some {} } } }

/-- A block of zeros. -/
def Tests.zeros : List Byte := List.replicate 4096 0

/-- UPD_BLOCK of that session with the zero block as block `i` and its CRC. -/
def Tests.block (i : Nat) : RvReq :=
  { session := 7, seq := 1, tlvs := [⟨0x0101, leN 4 i ++ (leN 4 (crc32c Tests.zeros).toNat ++ Tests.zeros)⟩] }

theorem test_unle_leN (v : Nat) (l : List Byte) (h : v < 2 ^ 32) : unle ((leN 4 v ++ l).take 4) = v := by
  simp [leN, unle]; omega
theorem test_block_value (i : Nat) : tlvVal (Tests.block i).tlvs 0x0101 = leN 4 i ++ (leN 4 (crc32c Tests.zeros).toNat ++ Tests.zeros) := by
  simp [tlvVal, tlv?, Tests.block]
theorem test_block_data (i : Nat) : (tlvVal (Tests.block i).tlvs 0x0101).drop 8 = Tests.zeros := by
  rw [test_block_value]; simp [leN]
theorem test_block_crc (i : Nat) : reqNum (rvHost (Tests.block i)) 0x0101 4 4 = (crc32c ((tlvVal (Tests.block i).tlvs 0x0101).drop 8)).toNat := by
  rw [test_block_data]
  show unle (((tlvVal (Tests.block i).tlvs 0x0101).drop 4).take 4) = _
  rw [test_block_value]
  exact test_unle_leN _ _ (crc32c Tests.zeros).isLt
theorem test_block_num (i : Nat) (h : i < 2 ^ 32) : reqNum (rvHost (Tests.block i)) 0x0101 0 4 = i := by
  show unle (((tlvVal (Tests.block i).tlvs 0x0101).drop 0).take 4) = _
  rw [test_block_value]
  exact test_unle_leN _ _ h
theorem test_block_admits (i : Nat) : Tests.receiving.RvAdmits 0x0011 (Tests.block i) (Tests.rovisa.upd.session.getD {}) := by
  refine ⟨by decide, by decide, rfl, rfl, by simp [Tests.block], by show Session.judge _ 1#32 ≠ _; decide, by show Session.judge _ 1#32 ≠ _; decide, rfl, ?_, by simp, by decide⟩
  have : ∀ v : List Byte, v.length = 4104 → tlvFault ⟨0x0011, 2, .yes, [0x0101], [], [], false⟩ false [⟨0x0101, v⟩] = none := by
    intro v h
    simp [tlvFault, show tlvLenOk 0x0101 v.length = some true by rw [h]; rfl]
  have h := this (leN 4 i ++ (leN 4 (crc32c Tests.zeros).toNat ++ Tests.zeros)) (by rw [List.length_append, List.length_append, show Tests.zeros.length = 4096 from List.length_replicate ..]; simp only [leN, List.length_cons, List.length_nil])
  have ho : opRow rovisaOps 0x0011 = some ⟨0x0011, 2, .yes, [0x0101], [], [], false⟩ := rfl
  simp only [ho, Option.any_some, Bool.and_eq_true, decide_eq_true_eq]
  exact ⟨by decide, by rw [show (Tests.block i).malformed = false from rfl, show (Tests.block i).tlvs = [⟨0x0101, _⟩] from rfl, h]; rfl⟩
theorem test_block_header : 1 = Tests.receiving.headerRefusal Tests.receiving.inactive.blockCount (headerOf ((tlvVal (Tests.block 0).tlvs 0x0101).drop 8)) := by
  rw [test_block_data]; decide +kernel
theorem test_commit_crc : reqNum (rvHost { session := 7, seq := 1, tlvs := [⟨0x0104, leN 4 (cfgCrcOf fun i => (tget ([] : Tab (Option Int)) i).getD (paramDefault i)).toNat⟩] }) 0x0104 0 4
    = (cfgCrcOf fun i => (tget ([] : Tab (Option Int)) i).getD (paramDefault i)).toNat := by
  have h := test_unle_leN (cfgCrcOf fun i => (tget ([] : Tab (Option Int)) i).getD (paramDefault i)).toNat [] (BitVec.isLt _)
  simpa [reqNum, rdN, tlvVal, tlv?, rvHost] using h
theorem test_commit_admits : (Tests.on { Tests.rovisa with safety := { Tests.rovisa.safety with staged := some [], stagedAgree := true } }).m.RvAdmits 0x0021
    { session := 7, seq := 1, tlvs := [⟨0x0104, leN 4 (cfgCrcOf fun i => (tget ([] : Tab (Option Int)) i).getD (paramDefault i)).toNat⟩] } (Tests.rovisa.upd.session.getD {}) := by
  refine ⟨by decide, by decide, rfl, rfl, by decide, by decide, by decide, rfl, ?_, by decide, by decide⟩
  generalize (cfgCrcOf fun i => (tget ([] : Tab (Option Int)) i).getD (paramDefault i)).toNat = v
  have ho : opRow rovisaOps 0x0021 = some ⟨0x0021, 3, .yes, [0x0104], [], [], false⟩ := rfl
  simp only [ho, Option.any_some, Bool.and_eq_true, decide_eq_true_eq]
  exact ⟨by decide, by simp [tlvFault, tlvLenOk, leN]⟩

/- The complete set of group 8 at its defaults is a set SAFE_STAGE takes; it is judged entry by entry. -/

/-- The entry of parameter `i` in the set of defaults. -/
def Tests.safeEntry (i : Nat) : List Byte := leN 2 i ++ u8 (paramType i) ++ [0] ++ leI 8 (paramDefault i)

/-- What `paramEntries` reads of that entry. -/
def Tests.safeRead (i : Nat) : Nat × Nat × List Byte :=
  (rdN (Tests.safeEntry i) 0 2, rdN (Tests.safeEntry i) 2 1, ((Tests.safeEntry i).drop 4).take 8)

theorem test_safe_set : safeSet [] = safeIds.flatMap Tests.safeEntry := rfl
theorem test_safe_entry_length (i : Nat) : (Tests.safeEntry i).length = 12 := rfl
theorem test_param_entries_cons (a v : List Byte) (h : a.length = 12) :
    paramEntries (a ++ v) = (rdN a 0 2, rdN a 2 1, (a.drop 4).take 8) :: paramEntries v := by
  have hn : (a ++ v).length / 12 = v.length / 12 + 1 := by rw [List.length_append]; omega
  have hd (j : Nat) : (a ++ v).drop (12 + j) = v.drop j := by rw [← h]; simp
  have ht (j k : Nat) (hk : j + k ≤ 12) : ((a ++ v).drop j).take k = (a.drop j).take k := by
    rw [List.drop_append_of_le_length (by omega), List.take_append_of_le_length (by rw [List.length_drop]; omega)]
  simp only [paramEntries, hn, List.range_succ_eq_map, List.map_cons, List.map_map]
  congr 1
  · simp only [rdN, Nat.mul_zero, Nat.zero_add, ht 0 2 (by omega), ht 2 1 (by omega), ht 4 8 (by omega)]
  · refine List.map_congr_left fun k _ => ?_
    simp only [Function.comp, rdN, show 12 * k.succ = 12 + 12 * k by omega, Nat.add_assoc, hd]
theorem test_param_entries (l : List Nat) : paramEntries (l.flatMap Tests.safeEntry) = l.map Tests.safeRead := by
  induction l with
  | nil => rfl
  | cons i l ih => rw [List.flatMap_cons, test_param_entries_cons _ _ (test_safe_entry_length i), ih]; rfl
theorem test_safe_length (l : List Nat) : (l.flatMap Tests.safeEntry).length = 12 * l.length := by
  induction l with
  | nil => rfl
  | cons i l ih => rw [List.flatMap_cons, List.length_append, test_safe_entry_length, ih, List.length_cons]; omega
theorem test_safe_ids_length : safeIds.length = 168 := by decide +kernel
theorem test_safe_ids_nodup : safeIds.Nodup := by decide +kernel
theorem test_safe_judged : (safeIds.all fun i => rdN (Tests.safeEntry i) 0 2 == i &&
    (match ({} : Mod).paramJudge (Tests.safeRead i) with | .ok v => v == paramDefault i | .error _ => false)) = true := by decide +kernel
theorem test_safe_ok : stageOk paramDefault = true := by decide +kernel
theorem test_safe_judge (m : Mod) (i : Nat) (h : i ∈ safeIds) :
    (Tests.safeRead i).1 = i ∧ m.paramJudge (Tests.safeRead i) = .ok (paramDefault i) := by
  have hj := List.all_eq_true.mp test_safe_judged i h
  simp only [Bool.and_eq_true, beq_iff_eq] at hj
  have hi : (Tests.safeRead i).1 = i := hj.1
  refine ⟨hi, ?_⟩
  have hp : m.paramJudge (Tests.safeRead i) = ({} : Mod).paramJudge (Tests.safeRead i) := by
    have hb : ∀ j ∈ safeIds, (j == 0x6009 || j == 0x600A || j == 0x6014) = false := by decide +kernel
    simp only [Mod.paramJudge, Mod.powerBound, hi, hb i h, Bool.not_false, Bool.true_or]
  rw [hp]
  revert hj
  cases ({} : Mod).paramJudge (Tests.safeRead i) with
  | ok v => intro hj; rw [(eq_of_beq hj.2)]
  | error e => intro hj; exact absurd hj.2 (by simp)
theorem test_safe_fault (m : Mod) : m.paramFault (safeIds.map Tests.safeRead) = none := by
  refine List.findSome?_eq_none_iff.mpr fun k hk => ?_
  have hk : k < safeIds.length := by simpa using hk
  rw [List.getD_eq_getElem _ _ (by simpa using hk), List.getElem_map, (test_safe_judge m _ (List.getElem_mem hk)).2]
theorem test_safe_vals (m : Mod) (l : List Nat) (h : ∀ i ∈ l, i ∈ safeIds) :
    m.paramVals (l.map Tests.safeRead) = l.map fun i => (i, paramDefault i) := by
  induction l with
  | nil => rfl
  | cons i l ih =>
    have hi := test_safe_judge m i (h i (by simp))
    have ih := ih fun j hj => h j (by simp [hj])
    simp only [Mod.paramVals] at ih ⊢
    rw [List.map_cons, List.filterMap_cons, hi.2, hi.1, ih]; rfl
theorem test_safe_staged (l : List Nat) :
    (l.map fun i => (i, paramDefault i)).foldl (fun t e => tput t e.1 (if e.2 = paramDefault e.1 then none else some e.2)) ([] : Tab (Option Int)) = [] := by
  induction l with
  | nil => rfl
  | cons i l ih => rw [List.map_cons, List.foldl_cons, if_pos rfl]; exact ih
theorem test_safe_once (e : Nat × Nat × List Byte) (h : e ∈ safeIds.map Tests.safeRead) :
    safeIds.contains e.1 = true ∧ ((safeIds.map Tests.safeRead).filter fun y => y.1 == e.1).length = 1 := by
  obtain ⟨i, hi, rfl⟩ := List.mem_map.mp h
  have hc : ((safeIds.map Tests.safeRead).filter fun y => y.1 == i) = (safeIds.filter (· == i)).map Tests.safeRead := by
    rw [List.filter_map]
    exact congrArg _ (List.filter_congr fun j hj => by simp [(test_safe_judge {} j hj).1])
  rw [(test_safe_judge {} i hi).1, hc, List.length_map, ← List.countP_eq_length_filter, ← List.count]
  exact ⟨List.contains_iff_mem.mpr hi, List.count_eq_one_of_mem test_safe_ids_nodup hi⟩
theorem test_safe_admits : Tests.rovisa.RvAdmits 0x0020 { session := 7, seq := 1, tlvs := [⟨0x0103, safeSet []⟩] } (Tests.rovisa.upd.session.getD {}) := by
  have hl : (safeSet []).length = 2016 := by rw [test_safe_set, test_safe_length, test_safe_ids_length]
  generalize safeSet [] = v at hl
  refine ⟨by decide, by decide, rfl, rfl, by simp, by show Session.judge _ 1#32 ≠ _; decide, by show Session.judge _ 1#32 ≠ _; decide, rfl, ?_, by simp, by decide⟩
  have ho : opRow rovisaOps 0x0020 = some ⟨0x0020, 3, .yes, [0x0103], [], [], false⟩ := rfl
  simp only [ho, Option.any_some, Bool.and_eq_true, decide_eq_true_eq]
  exact ⟨by decide, by simp [tlvFault, tlvLenOk, hl]⟩

/-- A NOP of that session as a packet: header, then the tag under the key 01. -/
def Tests.packet : List Byte :=
  leN 2 0x4B58 ++ [1, 0] ++ leN 2 3 ++ [0, 0] ++ leN 4 1 ++ leN 4 7 ++ leN 4 0 ++ leN 4 0 ++
    [82, 241, 144, 227, 150, 39, 21, 100, 222, 100, 199, 168, 118, 74, 239, 237]

/-- The frame of monitor 1's response to an AUTH_CHALLENGE of end A, with the count 0 and no payload (Table 3.4); its CRC is worked by hand from the generator of R104. -/
def Tests.rx : ChainRx := { bytes := [0x55, 0x55, 0x5B, 0x01, 0x09, 0x00, 0x00, 0x00, 0x2A, 0x48] }

/-- An open AUTH_CHALLENGE transaction with monitor 1. -/
def Tests.challenge : ChainTxn := { frame := { cmd := .authChallenge [1], addr := 1 }, expected := [1], room := 1 }

theorem test_response_frame : Tests.rx.frame = .resp { src := 1, opcode := 9 } := by decide +kernel

/-- The frame of READ_STATUS to monitor 5 from end B with the count 3 (Table 3.3): ADDR 0x45, opcode, count, no payload. -/
theorem test_command_frame : ({ cmd := .readStatus, addr := 5, dir := .B, cnt := 3 } : ChainFrame).bytes.take 7
    = [0x55, 0x55, 0xC7, 0x45, 0x0B, 0x03, 0x00] := by decide +kernel

/-- An exchange area that holds at address 0 a restore image of one cell, with its two CRCs. -/
def Tests.restoreXa : List (Nat × Byte) :=
  [(0, 67), (1, 69), (2, 88), (3, 75), (4, 1), (8, 1), (12, 228), (60, 239), (61, 130), (62, 180), (63, 141), (224, 178), (225, 22), (226, 22), (227, 231)]

/-- A key package of generation 1 for slot 0: 32 bytes 07 under the key-wrapping key of that session, nonce zero. -/
def Tests.keyPackage : List Byte :=
  leN 4 0 ++ leN 4 1 ++ List.replicate 12 0 ++
    [48, 229, 215, 18, 2, 1, 199, 178, 86, 201, 115, 20, 87, 104, 250, 249, 39, 175, 146, 237, 230, 172, 135, 251] ++
    [189, 166, 102, 252, 23, 233, 59, 89, 57, 25, 219, 205, 137, 17, 226, 21, 148, 119, 33, 68, 116, 120, 99, 234]

/- The key package is opened in steps: the key-wrapping key, its round keys, the blocks of the counter, the hash. -/

/-- The round keys of that key-wrapping key. -/
def Tests.kwKeys : List (List Byte) :=
  [[207, 38, 116, 209, 214, 196, 2, 56, 117, 8, 186, 25, 197, 189, 160, 61],
   [70, 37, 180, 70, 190, 198, 249, 109, 143, 231, 250, 75, 93, 53, 45, 106],
   [88, 254, 118, 157, 142, 58, 116, 165, 251, 50, 206, 188, 62, 143, 110, 129],
   [244, 86, 43, 74, 74, 144, 210, 39, 197, 119, 40, 108, 152, 66, 5, 6],
   [118, 149, 25, 219, 248, 175, 109, 126, 3, 157, 163, 194, 61, 18, 205, 67],
   [211, 159, 150, 80, 153, 15, 68, 119, 92, 120, 108, 27, 196, 58, 105, 29],
   [242, 108, 189, 199, 10, 195, 208, 185, 9, 94, 115, 123, 52, 76, 190, 56],
   [203, 182, 56, 87, 82, 185, 124, 32, 14, 193, 16, 59, 202, 251, 121, 38]] ++
  [[245, 218, 74, 179, 255, 25, 154, 10, 246, 71, 233, 113, 194, 11, 87, 73],
   [238, 157, 99, 108, 188, 36, 31, 76, 178, 229, 15, 119, 120, 30, 118, 81],
   [151, 226, 155, 15, 104, 251, 1, 5, 158, 188, 232, 116, 92, 183, 191, 61],
   [164, 52, 107, 75, 24, 16, 116, 7, 170, 245, 123, 112, 210, 235, 13, 33],
   [94, 53, 102, 186, 54, 206, 103, 191, 168, 114, 143, 203, 244, 197, 48, 246],
   [27, 146, 111, 9, 3, 130, 27, 14, 169, 119, 96, 126, 123, 156, 109, 95],
   [192, 9, 169, 155, 246, 199, 206, 36, 94, 181, 65, 239, 170, 112, 113, 25]]

theorem test_kw_key : hmac [1] (ascii "KXKW") =
    [207, 38, 116, 209, 214, 196, 2, 56, 117, 8, 186, 25, 197, 189, 160, 61, 70, 37, 180, 70, 190, 198, 249, 109, 143, 231,
     250, 75, 93, 53, 45, 106] := by decide +kernel
theorem test_kw_keys : aesKeys
    [207, 38, 116, 209, 214, 196, 2, 56, 117, 8, 186, 25, 197, 189, 160, 61, 70, 37, 180, 70, 190, 198, 249, 109, 143, 231,
     250, 75, 93, 53, 45, 106] = Tests.kwKeys := by decide +kernel
theorem test_kw_block (b : List Byte) : aesBlock (aesKeys (hmac [1] (ascii "KXKW"))) b = aesBlock Tests.kwKeys b := by
  rw [test_kw_key, test_kw_keys]
theorem test_kw_block_h : BitVec.ofNat 128 (unbe (aesBlock Tests.kwKeys (List.replicate 16 0))) =
    332950822630012089611999104319442647140#128 := by decide +kernel
theorem test_kw_block_1 : aesBlock Tests.kwKeys ((Tests.keyPackage.drop 8).take 12 ++ (leN 4 1).reverse) =
    [137, 121, 220, 185, 16, 75, 120, 176, 56, 166, 44, 224, 174, 155, 118, 104] := by decide +kernel
theorem test_kw_block_2 : aesBlock Tests.kwKeys ((Tests.keyPackage.drop 8).take 12 ++ (leN 4 2).reverse) =
    [55, 226, 208, 21, 5, 6, 192, 181, 81, 206, 116, 19, 80, 111, 253, 254] := by decide +kernel
theorem test_kw_block_3 : aesBlock Tests.kwKeys ((Tests.keyPackage.drop 8).take 12 ++ (leN 4 3).reverse) =
    [32, 168, 149, 234, 225, 171, 128, 252, 186, 161, 97, 251, 16, 238, 60, 94] := by decide +kernel
theorem test_kw_hash : ghash 332950822630012089611999104319442647140#128 (Tests.keyPackage.take 8) ((Tests.keyPackage.drop 20).take 32) =
    234442738971359354426800094413211243906#128 := by decide +kernel
theorem test_kw_open : gcmOpen (hmac [1] (ascii "KXKW")) ((Tests.keyPackage.drop 8).take 12) (Tests.keyPackage.take 8)
    ((Tests.keyPackage.drop 20).take 32) ((Tests.keyPackage.drop 52).take 16) = some (List.replicate 32 7) := by
  have hr : List.range ((((Tests.keyPackage.drop 20).take 32).length + 15) / 16) = [0, 1] := rfl
  simp only [gcmOpen, test_kw_block, hr, List.flatMap_cons, List.flatMap_nil, Nat.zero_add, Nat.reduceAdd, test_kw_block_h, test_kw_block_1, test_kw_block_2, test_kw_block_3, test_kw_hash]
  decide +kernel

/-- The restore image of that exchange area; its CRC is computed in pieces. -/
abbrev Tests.restoreImage : List Byte := tgets Tests.restoreXa 0 228

theorem test_restore_crc_1 : ((Tests.restoreImage.drop 0).take 40).foldl crc32Step 4294967295#32 = 759994087#32 := by decide +kernel
theorem test_restore_crc_2 : ((Tests.restoreImage.drop 40).take 40).foldl crc32Step 759994087#32 = 1127918017#32 := by decide +kernel
theorem test_restore_crc_3 : ((Tests.restoreImage.drop 80).take 40).foldl crc32Step 1127918017#32 = 2784295630#32 := by decide +kernel
theorem test_restore_crc_4 : ((Tests.restoreImage.drop 120).take 40).foldl crc32Step 2784295630#32 = 4164182025#32 := by decide +kernel
theorem test_restore_crc_5 : ((Tests.restoreImage.drop 160).take 40).foldl crc32Step 4164182025#32 = 4273010146#32 := by decide +kernel
theorem test_restore_crc_6 : ((Tests.restoreImage.drop 200).take 24).foldl crc32Step 4273010146#32 = 417982797#32 := by decide +kernel
theorem test_restore_parts : Tests.restoreImage.take (Tests.restoreImage.length - 4) =
    ((Tests.restoreImage.drop 0).take 40) ++ (((Tests.restoreImage.drop 40).take 40) ++ (((Tests.restoreImage.drop 80).take 40) ++ (((Tests.restoreImage.drop 120).take 40) ++ (((Tests.restoreImage.drop 160).take 40) ++ (((Tests.restoreImage.drop 200).take 24)))))) := by decide +kernel

theorem test_restore_crc : (crc32c (Tests.restoreImage.take (Tests.restoreImage.length - 4))).toNat =
    rdN Tests.restoreImage (Tests.restoreImage.length - 4) 4 := by
  rw [test_restore_parts]
  unfold crc32c
  rw [List.foldl_append, List.foldl_append, List.foldl_append, List.foldl_append, List.foldl_append, show (0xFFFFFFFF#32 : W32) = 4294967295#32 from rfl, test_restore_crc_1, test_restore_crc_2, test_restore_crc_3, test_restore_crc_4, test_restore_crc_5, test_restore_crc_6]
  decide +kernel

/- Each check of WellFormed refuses a command that is one beyond it. -/

theorem test_wf_string : Instr.wf (.linkAligned 32) = false := by decide
theorem test_wf_monitor : Instr.wf (.authReadDue 3 40) = false := by decide
theorem test_wf_tap : Instr.wf (.senseOpenHoldExpiry 3 9 17) = false := by decide
theorem test_wf_cell : Instr.wf (.anomalyClear 20480) = false := by decide
theorem test_wf_phase : Instr.wf (.armTimerExpiry 3 6) = false := by decide
theorem test_wf_bed : Instr.wf (.overrun 33 0 .time) = false := by decide
theorem test_wf_group : Instr.wf (.contDelayExpiry 8) = false := by decide
theorem test_wf_input : Instr.wf (.safeInputChange false 16 false true) = false := by decide
theorem test_wf_optical_input : Instr.wf (.safeInputChange true 4 false true) = false := by decide
theorem test_wf_lockstep_pair : Instr.wf (.lockstepMismatch 2) = false := by decide
theorem test_wf_clock : Instr.wf (.clockMeasurement 5 0) = false := by decide
theorem test_wf_recovered_clock : Instr.wf (.recoveredClockUnlock (.link 32)) = false := by decide
theorem test_wf_can_port : Instr.wf (.canRxError 4 0 0) = false := by decide
theorem test_wf_can_object : Instr.wf (.canObjectFirstRead 0 256) = false := by decide
theorem test_wf_converter : Instr.wf (.adcCalComplete 3 0 0) = false := by decide
theorem test_wf_analogue_input : Instr.wf (.aiBurdenOpen 4) = false := by decide
theorem test_wf_mailbox : Instr.wf (.supervisorMbxTake 17) = false := by decide
theorem test_wf_dma_channel : Instr.wf (.dmaFault 16 0 0) = false := by decide
theorem test_wf_partition : Instr.wf (.flashPageWriteFail 6 0) = false := by decide
theorem test_wf_violation_source : Instr.wf (.secViolation 3 true false) = false := by decide

/- No row of the table gives bits, so no word spells a command. -/

theorem test_no_word : decodeTableWord 32 0 = none := by decide

/- Worked examples of the spec. -/

/-- R62: the check value of CRC-32C over "123456789". -/
theorem test_crc32c : crc32c [0x31, 0x32, 0x33, 0x34, 0x35, 0x36, 0x37, 0x38, 0x39] = 0xE3069283#32 := by decide +kernel

/-- R104: the check value of the frame CRC over "123456789". -/
theorem test_crc16 : crc16 [0x31, 0x32, 0x33, 0x34, 0x35, 0x36, 0x37, 0x38, 0x39] = 0x29B1#16 := by decide +kernel

/-- R5: cell 9 of M25 on C7 has global index 4,889. -/
theorem test_global_index : gcell 7 25 9 = 4889 := by decide

/-- R8: a full cell is reported as 0xFFFF. -/
theorem test_soc_full : socU16 1 = 0xFFFF := by decide +kernel

/-- R558: slot 5, PAIR 1, profile 2 makes four ones, so PARITY is 1; with PARITY 0 the straps are not valid. -/
theorem test_straps : strapsValid 0x1A5 = true ∧ strapsValid 0x0A5 = false := by decide

/-- R559, worked case: the partner is in slot 6; plant frames go out with CONN_ID 0x4B02_0501 and come with 0x4B02_0502, graft
frames go out with 0x4B02_0510. -/
theorem test_strap_defaults :
    Tests.paired.partnerSlot = 6 ∧ Tests.paired.connTx false = 0x4B020501 ∧ Tests.paired.connRx false = 0x4B020502
      ∧ Tests.paired.connTx true = 0x4B020510 := by decide

/-- S5 of Table 14.2: SENSOR_SCALE 150,000 mA/V, USER_OFFSET -150 mA, USER_GAIN -400 ppm, F_OFFSET +120 uV, F_GAIN +250 ppm,
F_DAC_OFFSET -1,400 uV, SC_OFFSET +3. -/
def Tests.s5 : Mod :=
  { Tests.module with
    host := { Tests.module.host with snap := [(adcId 5 0, some (-150)), (adcId 5 1, some (-400)), (adcId 5 2, some 150000)] }
    upd := { Tests.module.upd with otp := [(5, { fOffset := 120, fGain := 250, fDacOffset := -1400 })] }
    adc := { Tests.module.adc with convs := [(0, { scOffset := 3 })] } }

/-- Table 14.2: raw code 85,003 is reported as 509,791 mA. -/
theorem test_current : Tests.s5.strMa 5 85003 = 509791 := by decide +kernel

/-- Table 14.2: OC_DIS of 600,000 mA gives DAC code 1,564, which reads 599,976 mA. -/
theorem test_discharge_threshold : Tests.s5.dacFor 5 600000 = 1564 ∧ Tests.s5.dacMa 5 1564 = 599976 := by decide +kernel

/-- Table 14.2: OC_CHG of 600,000 mA gives DAC code -1,562, which reads -599,928 mA. -/
theorem test_charge_threshold : Tests.s5.dacFor 5 (-600000) = -1562 ∧ Tests.s5.dacMa 5 (-1562) = -599928 := by decide +kernel

/- One step. -/

/-- The step takes the front command and leaves the rest (R565: a disarmed button after 2,000 ms of release). -/
theorem test_step_front :
    ((step { Tests.on { Tests.module with power := { Tests.module.power with btnState := 2 }, host := { Tests.module.host with ms := 2000 } } with
      pending := [.buttonRearm, .tick] }) matches .next ⟨_, _, _, _, [.tick]⟩) = true := by decide

/-- R43: a grain boundary of a running plan counts GRAIN_CNT up by one and begins at tick 0. -/
theorem test_next_grain :
    ({ Tests.module with plan := { Tests.module.plan with tick := 99, grainCnt := 7 } } : Mod).nextGrain.plan.grainCnt = 8 ∧
    ({ Tests.module with plan := { Tests.module.plan with tick := 99, grainCnt := 7 } } : Mod).nextGrain.plan.tick = 0 := by decide

/-- An ill-formed command changes nothing (log 44). -/
theorem test_ill_formed : exec (.linkAligned 32) (Tests.on Tests.module) = .next (Tests.on Tests.module) := rfl

/- A state, and operands, that meet the hypotheses of each statement; each clause has its own. -/

theorem witness_ChainRingTimers_1 : ∃ (s : State) (n : Nat),
    s.acts ∧ n < 32 ∧ s.m.monsOf n ≠ [] ∧ (s.m.ring n).wakeSince = none ∧ (s.m.ring n).enum = .fault ∧ 1000 ≤ s.m.host.ms - (s.m.ring n).enumFailMs :=
  ⟨Tests.on { Tests.module with chain := { rings := [(3, { enum := .fault, enumFailMs := 500 })] }, host := { Tests.module.host with ms := 1500 } }, 3, by decide⟩

theorem witness_ChainRingTimers_2 : ∃ (s : State) (n w : Nat),
    s.acts ∧ n < 32 ∧ (s.m.ring n).wakeSince = some w :=
  ⟨Tests.on { Tests.module with chain := { rings := [(3, { wakeSince := some 5 })] } }, 3, 5, by decide⟩

theorem witness_ChainRingTimers_3 : ∃ (s : State) (n w : Nat),
    s.acts ∧ n < 32 ∧ s.m.monsOf n ≠ [] ∧ (s.m.ring n).wakeSince = some w ∧ 10 ≤ s.m.host.ms - w :=
  ⟨Tests.on { Tests.module with chain := { rings := [(3, { wakeSince := some 2 })] }, host := { Tests.module.host with ms := 5000 } }, 3, 2, by decide⟩

theorem witness_ChainRingTimers_4 : ∃ (s : State) (n : Nat) (e : RingEnd),
    s.acts ∧ n < 32 ∧ s.m.monsOf n ≠ [] ∧ (s.m.ring n).inverted e = false ∧ (∀ u ∈ (s.m.ring n).wokeMs, 14 < s.m.host.ms - u) :=
  ⟨Tests.on { Tests.module with chain := { rings := [(3, { wokeMs := some 100, inv := 1#2 })] }, host := { Tests.module.host with ms := 115 } }, 3, .B, by decide⟩

theorem witness_ChainRingTimers_5 : ∃ (s : State) (n u : Nat) (e : RingEnd),
    s.acts ∧ n < 32 ∧ (s.m.ring n).inverted e = false ∧ (s.m.ring n).wokeMs = some u ∧ s.m.host.ms - u ≤ 14 :=
  ⟨Tests.on { Tests.module with chain := { rings := [(3, { wokeMs := some 100 })] }, host := { Tests.module.host with ms := 114 } }, 3, 100, .B, by decide⟩

theorem witness_ChainRingTimers_6 : ∃ (s : State) (n : Nat) (e : RingEnd),
    s.acts ∧ n < 32 ∧ (s.m.ring n).inverted e = true :=
  ⟨Tests.on { Tests.module with chain := { rings := [(3, { inv := 2#2 })] } }, 3, .B, by decide⟩

theorem witness_ChainAuthentication_1 : ∃ (s : State) (n a : Nat) (g : W32),
    s.acts ∧ n < 32 ∧ a < 40 ∧ (s.m.mon n a).challengeAt = some g ∧ (s.m.mon n a).nMon ≠ [] ∧ 2 ≤ (s.m.plan.grainCnt - g).toNat ∧ (∀ w ∈ (s.m.ring n).queue, w.addr = a → w.cmd.opcode ≠ 10) :=
  ⟨Tests.on { Tests.module with chain := { mons := [(120, { challengeAt := some 2, nMon := [4] })] }, plan := { Tests.module.plan with grainCnt := 4 } }, 3, 0, 2, by decide⟩

theorem witness_ChainAuthentication_2 : ∃ (s : State) (n a : Nat) (g : W32),
    s.acts ∧ n < 32 ∧ a < 40 ∧ (s.m.mon n a).challengeAt = some g ∧ 10 ≤ (s.m.plan.grainCnt - g).toNat ∧ (s.m.mon n a).sequence = none :=
  ⟨Tests.on { Tests.module with chain := { mons := [(120, { challengeAt := some 2 })] }, plan := { Tests.module.plan with grainCnt := 15 } }, 3, 0, 2, by decide⟩

theorem witness_ChainAuthentication_3 : ∃ (s : State) (n a : Nat) (nonce : List Byte),
    s.acts ∧ n < 32 ∧ a < 40 ∧ (s.m.mon n a).challengeAt = none ∧ s.m.compat n = false ∧ (((s.m.mon n a).authed = true ∧ 600000 ≤ s.m.host.ms - (s.m.mon n a).authMs) ∨ ((s.m.mon n a).authed = false ∧ (s.m.mon n a).unauth = true ∧ 60000 ≤ s.m.host.ms - (s.m.mon n a).authMs)) :=
  ⟨Tests.on { Tests.module with chain := { mons := [(120, { unauth := true })] }, host := { Tests.module.host with ms := 60000 } }, 3, 0, [], by decide⟩

theorem witness_ChainTones_1 : ∃ (s : State) (n : Nat) (e : RingEnd),
    s.m.fabricOn = true ∧ n < 32 ∧ s.m.monsOf n ≠ [] ∧ (s.m.ring n).toneTrip = false ∧ (s.m.ring n).inverted e = false :=
  ⟨Tests.on Tests.module, 3, .B, by decide⟩

theorem witness_ChainTones_2 : ∃ (s : State) (n : Nat) (e : RingEnd),
    s.m.fabricOn = true ∧ n < 32 ∧ (s.m.ring n).inverted e = true :=
  ⟨Tests.on { Tests.module with chain := { rings := [(3, { inv := 2#2 })] } }, 3, .B, by decide⟩

theorem witness_ChainTones_3 : ∃ (s : State) (n : Nat) (e : RingEnd),
    s.m.fabricOn = true ∧ n < 32 :=
  ⟨Tests.on Tests.module, 3, .B, by decide⟩

theorem witness_ChainTones_4 : ∃ (s : State) (n : Nat) (failed : BitVec 2),
    s.m.fabricOn = true ∧ n < 32 ∧ s.m.monsOf n ≠ [] ∧ 95 ≤ s.m.plan.tick ∧ (∀ u ∈ (s.m.ring n).toneTestMs, 10000 ≤ s.m.safety.ms - u) :=
  ⟨Tests.on { Tests.module with plan := { Tests.module.plan with tick := 97 } }, 3, 2#2, by decide⟩

theorem witness_ChainTones_5 : ∃ (s : State) (n a tap : Nat),
    s.acts ∧ n < 32 ∧ a < 40 ∧ 1 ≤ tap ∧ tap ≤ 15 ∧ (tget (s.m.mon n a).taps tap).openTap = true ∧ s.m.inService n = true ∧ 1000 * s.m.parN (0x2120 + n) ≤ s.m.host.ms - (tget (s.m.mon n a).taps tap).openSince :=
  ⟨Tests.on { Tests.module with chain := { mons := [(120, { taps := [(4, { openTap := true })] })] }, disp := { strs := [(3, { inService := true })] }, host := { Tests.module.host with ms := 1000000000 } }, 3, 0, 4, by decide⟩

theorem witness_ChainTestsAndAnomalies_1 : ∃ (s : State) (n a : Nat),
    s.acts ∧ n < 32 ∧ a < 40 ∧ s.m.compat n = false ∧ (s.m.monAddrs n)[(s.m.ring n).owTurn % (s.m.monAddrs n).length]? = some a ∧ (∀ u ∈ (s.m.ring n).owMs, 1000 * s.m.parN 0x2145 / (s.m.monAddrs n).length ≤ s.m.host.ms - u) ∧ (s.m.owTest a 0x15555#17 ∉ (s.m.ring n).owQueue) :=
  ⟨Tests.on { Tests.module with chain := { rings := [(3, { owTurn := 1, owMs := some 0 })] }, host := { Tests.module.host with ms := 500 * Tests.module.parN 0x2145 } }, 3, 1, by decide⟩

theorem witness_ChainTestsAndAnomalies_2 : ∃ (s : State) (n : Nat),
    s.acts ∧ n < 32 ∧ s.m.configured n = true ∧ 1000 * s.m.parN 0x3040 ≤ s.m.host.ms - (s.m.ring n).balMs :=
  ⟨Tests.on { Tests.module with host := { Tests.module.host with ms := 1000000000 } }, 3, by decide⟩

theorem witness_ChainTestsAndAnomalies_3 : ∃ (s : State) (g : Nat),
    s.acts ∧ g < 20480 ∧ (s.m.cellEst g).anomaly = true ∧ 3600000 ≤ (s.m.cellEst g).anomalyAge + (s.m.host.ms - (s.m.cellEst g).anomalyMs) :=
  ⟨Tests.on { Tests.module with est := { cells := [(2000, { anomaly := true, anomalyAge := 3599000, anomalyMs := 7 })] }, host := { Tests.module.host with ms := 1007 } }, 2000, by decide⟩

theorem witness_RestAndImpedance_1 : ∃ (s : State) (n : Nat) (x : StrEst) (sigma : Rat),
    s.acts ∧ n < 32 ∧ s.m.configured n = true ∧ s.m.strEst n = x ∧ x.restGrains ≠ 0 ∧ 1000 * s.m.restDue x.restAnchors ≤ x.restGrains ∧ ((s.m.cellIns n).map (·.g)).Nodup ∧ sigma = (if s.m.parN 0x4065 ≤ x.restGrains / 1000 then 1 else 2) * (s.m.par 0x4066 : Rat) / 10000 :=
  ⟨Tests.on { Tests.module with est := { strs := [(3, { restGrains := 1800000 })] } }, 3, { restGrains := 1800000 }, 1 / 1000, by decide +kernel⟩

theorem witness_RestAndImpedance_2 : ∃ (s : State) (g0 : W32),
    s.acts ∧ s.m.plan.grainCnt.toNat % 10000 = 0 ∧ s.m.est.interval = some g0 ∧ (s.m.plan.grainCnt - g0).toNat = 10000 :=
  ⟨Tests.on { Tests.module with plan := { Tests.module.plan with grainCnt := 20000 }, est := { interval := some 10000 } }, 10000, by decide⟩

theorem witness_RestAndImpedance_3 : ∃ (s : State),
    s.acts ∧ s.m.plan.grainCnt.toNat % 10000 = 0 ∧ s.m.est.interval ≠ some s.m.plan.grainCnt ∧ (∀ g0 ∈ s.m.est.interval, (s.m.plan.grainCnt - g0).toNat ≠ 10000) :=
  ⟨Tests.on { Tests.module with plan := { Tests.module.plan with grainCnt := 20000 }, est := { interval := some 0 } },
    by decide, by decide, by decide, by intro g h; cases h; decide⟩

theorem witness_EstimatorCheckpoints_1 : ∃ (s : State) (n : Nat),
    s.acts ∧ n < 32 ∧ s.m.configured n = true ∧ s.m.gcells n ≠ [] ∧ s.m.plan.grainCnt.toNat % 60000 = 1000 * n ∧ s.m.flashWrites 3 = true :=
  ⟨Tests.on { Tests.module with store := { flashReady := true }, plan := { Tests.module.plan with grainCnt := 3000 } }, 3, by decide⟩

theorem witness_EstimatorCheckpoints_2 : ∃ (s : State) (n : Nat) (ok : Bool),
    s.m.powered = true ∧ n < 32 ∧ (s.m.strEst n).ckptBuf ≠ [] :=
  ⟨Tests.on { Tests.module with est := { strs := [(3, { ckptBuf := [0x43] })] } }, 3, true, by decide⟩

theorem witness_EstimatorCheckpoints_3 : ∃ (s : State) (j : RestoreJob),
    s.acts ∧ s.m.est.restore = some j :=
  ⟨Tests.on { Tests.module with est := { restore := some default } }, default, by decide⟩

theorem witness_EstimatorCheckpoints_4 : ∃ (s : State) (n w : Nat),
    s.acts ∧ n < 32 ∧ (s.m.strEst n).restoreWait = some w ∧ 1000 * s.m.parN 0x406A ≤ (s.m.strEst n).restoreAge + (s.m.host.ms - w) :=
  ⟨Tests.on { Tests.module with est := { strs := [(3, { restoreWait := some 5, restoreAge := 1000 })] }, host := { Tests.module.host with ms := 1000 * Tests.module.parN 0x406A - 995 } }, 3, 5, by decide⟩

theorem witness_EstimatorCheckpoints_5 : ∃ (s : State) (n : Nat),
    s.m.supRuns = true ∧ n < 32 ∧ s.m.configured n = true ∧ s.m.par (0xD000 + 4 * n) = 1 ∧ 0 < (tget s.m.store.arch n).grains ∧ (tget s.m.store.arch n).fromMs + 1000 * s.m.parN (0xD001 + 4 * n) ≤ s.m.power.opMs ∧ s.m.archWritable = true :=
  ⟨Tests.on { Tests.module with store := { flashReady := true, arch := [(3, { grains := 5 })] }, power := { Tests.module.power with opMs := 3600000 }, host := { Tests.module.host with snap := [(0xD00C, some 1)] } }, 3, by decide +kernel⟩

theorem witness_EstimatorCheckpoints_6 : ∃ (s : State) (n : Nat),
    s.m.supRuns = true ∧ n < 32 ∧ s.m.configured n = true ∧ s.m.par (0xD000 + 4 * n) = 1 ∧ (tget s.m.store.arch n).dayFrom + 86400000 ≤ s.m.power.opMs ∧ s.m.archWritable = true ∧ (s.m.store.archive.filter (fun r => r.string == n && r.tier == 0 && decide ((tget s.m.store.arch n).dayFrom ≤ r.fromMs)) = []) :=
  ⟨Tests.on { Tests.module with store := { flashReady := true }, power := { Tests.module.power with opMs := 86400000 }, host := { Tests.module.host with snap := [(0xD00C, some 1)] } }, 3, by decide +kernel⟩

theorem witness_EstimatorCheckpoints_7 : ∃ (s : State) (n : Nat) (l : List ArchRec) (a z : ArchRec),
    s.m.supRuns = true ∧ n < 32 ∧ s.m.configured n = true ∧ s.m.par (0xD000 + 4 * n) = 1 ∧ (tget s.m.store.arch n).dayFrom + 86400000 ≤ s.m.power.opMs ∧ s.m.archWritable = true ∧ (s.m.store.archive.filter (fun r => r.string == n && r.tier == 0 && decide ((tget s.m.store.arch n).dayFrom ≤ r.fromMs)) = l) ∧ l.head? = some a ∧ l.getLast? = some z :=
  ⟨Tests.on { Tests.module with store := { flashReady := true, archive := [{ string := 3, toMs := 9 }] }, power := { Tests.module.power with opMs := 86400000 }, host := { Tests.module.host with snap := [(0xD00C, some 1)] } }, 3, [{ string := 3, toMs := 9 }], { string := 3, toMs := 9 }, { string := 3, toMs := 9 }, by decide +kernel⟩

theorem witness_ChainTraffic_1 : ∃ (s : State) (n : Nat) (x : ChainRx),
    s.m.planOn = true ∧ n < 32 ∧ x.frame = .foreign :=
  ⟨Tests.on Tests.module, 3, { bytes := [0x55, 0x55, 0xC7] }, by decide +kernel⟩

theorem witness_ChainTraffic_2 : ∃ (s : State) (n : Nat) (x : ChainRx),
    s.m.planOn = true ∧ n < 32 ∧ (x.frame = .broken ∨ ((∃ r, x.frame = .resp r) ∧ s.m.endLocked n x.rxEnd = false)) :=
  ⟨Tests.on Tests.module, 3, { bytes := [0x55, 0x55, 0x5B, 1, 9, 0, 0] }, by decide, by decide, Or.inl (by decide +kernel)⟩

theorem witness_ChainTraffic_3 : ∃ (s : State) (n : Nat) (b : ChainRx) (r : ChainResp) (x : ChainTxn) (nm : List Byte) (mc : MonCfg),
    s.acts ∧ n < 32 ∧ b.frame = .resp r ∧ s.m.endLocked n b.rxEnd = true ∧ (s.m.ring n).txn = some x ∧ x.frame.cmd = .authChallenge nm ∧ r.inWindow = true ∧ x.expected = [r.src] ∧ 0 < x.room ∧ x.accepted = [] ∧ r.dir = x.frame.dir ∧ r.opcode = 9 ∧ r.cnt = x.frame.cnt ∧ r.err = false ∧ s.m.monCfg? n r.src = some mc ∧ s.m.host.ms - (s.m.mon n r.src).heardMs ≤ 1000 :=
  ⟨Tests.on { Tests.module with chain := { rings := [(3, { txn := some Tests.challenge })] }, plan := { Tests.module.plan with chnLock := 0xFFFFFFFFFFFFFFFF } }, 3, Tests.rx, { src := 1, opcode := 9 }, Tests.challenge, [1], { addr := 1 }, by decide, by decide, test_response_frame, by decide⟩

theorem witness_ChainTraffic_4 : ∃ (s : State) (n : Nat) (far : Option Nat) (x : ChainTxn),
    s.acts ∧ n < 32 ∧ (s.m.ring n).txn = some x ∧ x.closes ≤ 20000 * (s.m.plan.tick + 1) ∧ x.accepted ≠ [] ∧ x.frame.cmd ≠ .enum ∧ (∀ w b, x.frame.cmd ≠ .sweep w b) :=
  ⟨Tests.on { Tests.module with chain := { rings := [(3, { txn := some { frame := { cmd := .readStatus }, accepted := [1], closes := 20000 } })] } }, 3, none, { frame := { cmd := .readStatus }, accepted := [1], closes := 20000 }, by decide, by decide, by decide, by decide, by decide, by decide, by simp⟩

theorem witness_ChainTraffic_5 : ∃ (s : State) (n : Nat) (far : Option Nat) (x : ChainTxn) (w : ChainWait),
    s.acts ∧ n < 32 ∧ (s.m.ring n).txn = some x ∧ x.closes ≤ 20000 * (s.m.plan.tick + 1) ∧ x.accepted = [] ∧ x.wait = some w ∧ x.frame.cmd = w.cmd ∧ (w.cmd ≠ .enum ∧ w.cmd ≠ .hibernate) ∧ (∀ k b, w.cmd ≠ .sweep k b) ∧ w.attempts + 1 < 3 ∧ (w.cmd.opcode = 6 → s.m.balWaiting n w.addr = none) :=
  ⟨Tests.on { Tests.module with chain := { rings := [(3, { txn := some { frame := { cmd := .readStatus }, wait := some {}, closes := 20000 } })] } }, 3, none, { frame := { cmd := .readStatus }, wait := some {}, closes := 20000 }, {}, by decide, by decide, by decide, by decide, by decide, by decide, by decide, by decide, by simp [ChainWait.cmd], by decide, by decide⟩

theorem witness_ChainTraffic_6 : ∃ (s : State) (n : Nat) (far : Option Nat) (x : ChainTxn) (w : ChainWait) (b : List Nat × Bool),
    s.acts ∧ n < 32 ∧ (s.m.ring n).txn = some x ∧ x.closes ≤ 20000 * (s.m.plan.tick + 1) ∧ x.accepted = [] ∧ x.wait = some w ∧ x.frame.cmd = w.cmd ∧ w.cmd.opcode = 6 ∧ w.attempts + 1 < 3 ∧ s.m.balWaiting n w.addr = some b :=
  ⟨Tests.on { Tests.module with chain := { rings := [(3, { txn := some { frame := { cmd := .setBalance [4] }, wait := some { cmd := .setBalance [4] } }, queue := [{ cmd := .setBalance [0] }] })] } }, 3, none, { frame := { cmd := .setBalance [4] }, wait := some { cmd := .setBalance [4] } }, { cmd := .setBalance [4] }, ([0], false), by decide⟩

theorem witness_TimeAdvances_1 : ∃ (s : State),
    s.m.planOn = true ∧ s.m.plan.firstGrain = true ∧ s.m.roleless = false ∧ s.m.plan.tick < 99 ∧ 0 < s.m.time.incr ∧ s.m.time.excess ≤ 10000 * 2 ^ 24 :=
  ⟨Tests.on { Tests.module with time := { Tests.module.time with incr := 0xA000000 } }, by decide⟩

theorem witness_TimeAdvances_2 : ∃ (s : State) (d : Int),
    s.m.planOn = true ∧ s.m.boundaryDue = true :=
  ⟨Tests.on { Tests.module with plan := { Tests.module.plan with tick := 99 } }, 0, by decide⟩

theorem witness_SlotsAndOverruns_1 : ∃ (s : State) (b k c : Nat) (x : Slot),
    s.m.planOn = true ∧ b ≤ 32 ∧ s.m.slot? b k = some x ∧ s.m.runs = true ∧ runsIn x.startTick x.period s.m.plan.tick = true ∧ c ≤ x.reserve ∧ s.m.lastOfRole x = false :=
  ⟨Tests.on { Tests.module with plan := ({ Tests.module.plan with tick := 5, running := { beds := [{ bed := 3, slots := [{ slotId := 1, bed := 3, startTick := 5, period := 100, reserve := 600 }, { slotId := 2, bed := 3, startTick := 9, period := 100 }] }] } } : PlanSt).loadTables }, 3, 1, 500, { slotId := 1, bed := 3, startTick := 5, period := 100, reserve := 600 }, by decide⟩

theorem witness_SlotsAndOverruns_2 : ∃ (s : State) (b k c : Nat) (x : Slot),
    s.m.planOn = true ∧ b ≤ 32 ∧ s.m.slot? b k = some x ∧ s.m.runs = true ∧ runsIn x.startTick x.period s.m.plan.tick = true ∧ c ≤ x.reserve ∧ s.m.lastOfRole x = false :=
  ⟨Tests.on { Tests.module with plan := ({ Tests.module.plan with tick := 5, running := { beds := [{ bed := 3, slots := [{ slotId := 1, bed := 3, startTick := 5, period := 100, reserve := 600 }, { slotId := 2, bed := 3, startTick := 9, period := 100 }] }] } } : PlanSt).loadTables }, 3, 1, 500, { slotId := 1, bed := 3, startTick := 5, period := 100, reserve := 600 }, by decide⟩

theorem witness_SlotsAndOverruns_3 : ∃ (s : State) (b k c : Nat) (x : Slot),
    s.acts ∧ b ≤ 32 ∧ s.m.slot? b k = some x ∧ runsIn x.startTick x.period s.m.plan.tick = true ∧ c ≤ x.reserve ∧ s.m.lastOfRole x = true ∧ s.m.slotRole x = .publication ∧ (x.bed, .publication) ∉ s.m.plan.heldRoles :=
  ⟨Tests.on { Tests.module with plan := ({ Tests.module.plan with tick := 5, running := { beds := [{ bed := 32, slots := [{ slotId := 1, bed := 32, startTick := 5, period := 100, reserve := 600, kernel := 0xFF03 }] }] } } : PlanSt).loadTables }, 32, 1, 500, { slotId := 1, bed := 32, startTick := 5, period := 100, reserve := 600, kernel := 0xFF03 }, by decide⟩

theorem witness_SlotsAndOverruns_4 : ∃ (s : State) (b k : Nat) (cause : OverrunCause) (x : Slot),
    s.m.planOn = true ∧ s.m.slot? b k = some x ∧ b ≤ 32 ∧ s.m.runs = true ∧ runsIn x.startTick x.period s.m.plan.tick = true ∧ (s.m.acct x.bed).count < 2 ∧ s.m.overrunFallow x.bed = false :=
  ⟨Tests.on { Tests.module with plan := ({ Tests.module.plan with tick := 5, running := { beds := [{ bed := 3, slots := [{ slotId := 1, bed := 3, startTick := 5, period := 100, reserve := 600 }] }] } } : PlanSt).loadTables }, 3, 1, .time, { slotId := 1, bed := 3, startTick := 5, period := 100, reserve := 600 }, by decide⟩

theorem witness_SupervisorRestarts_1 : ∃ (s : State) (p : Nat),
    s.m.powered = true ∧ p < 2 ∧ s.m.plan.warm = false ∧ s.m.power.restart = none ∧ s.m.power.state ≠ .failing ∧ ((s.m.plan.lockstepAt.filter fun u => decide (s.m.host.ms - u < 3600000)).length < 2) :=
  ⟨Tests.on Tests.module, 1, by decide⟩

theorem witness_SupervisorRestarts_2 : ∃ (s : State),
    s.m.powered = true ∧ s.m.plan.warm = false ∧ s.m.power.restart = none ∧ s.m.power.state ≠ .failing :=
  ⟨Tests.on Tests.module, by decide⟩

theorem witness_SupervisorRestarts_3 : ∃ (s : State) (bootB : Bool),
    s.m.powered = true ∧ s.m.plan.warm = true ∧ s.m.upd.verifying = false ∧ s.m.upd.slotA.st = .active ∧ s.m.upd.slotB.st = .empty ∧ s.m.upd.runB = false ∧ s.m.upd.minSvn ≤ s.m.upd.slotA.hdr.svn :=
  ⟨Tests.on { Tests.module with plan := { Tests.module.plan with warm := true }, upd := { slotA := { st := .active } } }, false, by decide⟩

theorem witness_SupervisorRestarts_4 : ∃ (s : State) (k ptr len type dom : Nat),
    s.m.supRuns = true ∧ k ≤ 16 :=
  ⟨Tests.on Tests.hosted, 0, 16, 4, 0x8000, 0, by decide⟩

theorem witness_SupervisorRestarts_5 : ∃ (s : State) (k : Nat),
    s.m.supRuns = true ∧ k < 16 ∧ (s.m.mbx k).inFull = true ∧ (s.m.mbx k).outFull = true ∧ (s.m.mbx k).cross = false ∧ s.m.parN 0xA0C1 < s.m.host.ms - max (s.m.mbx k).inSince (s.m.mbx k).outSince :=
  ⟨Tests.on { Tests.hosted with host := { Tests.hosted.host with ms := 1000000000, mbx := [(0, { inFull := true, outFull := true })] } }, 0, by decide⟩

theorem witness_TimeBaseFaults_1 : ∃ (s : State),
    s.m.fabricOn = true ∧ s.m.plan.firstGrain = true ∧ s.m.plan.pulsesMissed ≠ 3 :=
  ⟨Tests.on Tests.module, by decide⟩

theorem witness_TimeBaseFaults_2 : ∃ (s : State) (cause : Nat),
    s.m.powered = true ∧ cause < 2 ∧ (∀ x ∈ s.m.safety.stops, x.kind ≠ .cores) :=
  ⟨Tests.on Tests.module, 1, by decide⟩

theorem witness_TimeBaseFaults_3 : ∃ (s : State) (cause : Nat),
    s.m.powered = true ∧ 2 ≤ cause ∧ cause < 4 :=
  ⟨Tests.on Tests.module, 3, by decide⟩

theorem witness_TimeBaseFaults_4 : ∃ (s : State) (c : Nat) (ppm : Int),
    s.m.powered = true ∧ c < 5 ∧ 20000 < ppm.natAbs ∧ s.m.plan.clkBad.getLsbD c = false :=
  ⟨Tests.on Tests.module, 2, 30000, by decide⟩

theorem witness_TimeBaseFaults_5 : ∃ (s : State) (n : Nat),
    s.m.fabricOn = true ∧ n < 32 :=
  ⟨Tests.on Tests.module, 2, by decide⟩

theorem witness_TimeBaseFaults_6 : ∃ (s : State) (n : Nat) (e : RingEnd),
    s.m.fabricOn = true ∧ n < 32 :=
  ⟨Tests.on Tests.module, 2, .B, by decide⟩

theorem witness_TimeBaseFaults_7 : ∃ (s : State) (n : Nat) (e : RingEnd),
    s.m.fabricOn = true ∧ n < 32 :=
  ⟨Tests.on Tests.module, 2, .B, by decide⟩

theorem witness_TimeBaseFaults_8 : ∃ (s : State) (n : Nat) (inv : Bool),
    s.m.fabricOn = true ∧ n < 32 :=
  ⟨Tests.on Tests.module, 2, false, by decide⟩

theorem witness_TimeBaseFaults_9 : ∃ (s : State) (p : Nat) (f : PtpDelayResp) (q : PendDelay) (a r d t3 t4 : Int) (l : List Int),
    s.m.supRuns = true ∧ p < 2 ∧ (s.m.time.ptp p).delayReq = some q ∧ q.seq = f.seq ∧ f.forUs = true ∧ s.m.fromParent p f.domain f.source = true ∧ s.m.time.lastPair = some (a, r) ∧ t3 = s.m.time.epoch + q.t3 + s.m.par (0xA00C + 48 * p) ∧ t4 = f.t4 - corrNs f.corr + s.m.par (0xA00A + 48 * p) ∧ d = rnear (((s.m.time.epoch + r - a + (t4 - t3) : Int) : Rat) / 2) ∧ d ≤ s.m.par 0xA0DA ∧ l = (d :: s.m.time.delays).take (s.m.parN 0xA0D9) :=
  ⟨Tests.on { Tests.timed with time := { Tests.timed.time with lastPair := some (0, 400), portA := { Tests.timed.time.portA with delayReq := some {} } } }, 0, { t4 := 600 }, {}, 0, 400, 500, 0, 600, [500], by decide +kernel⟩

theorem witness_TimeBaseFaults_10 : ∃ (s : State) (p : Nat) (t3 : Int),
    s.m.supRuns = true ∧ p < 2 ∧ s.m.ptpOn p = true ∧ (s.m.time.ptp p).best.isSome = true ∧ (∀ u, (s.m.time.ptp p).reqMs = some u → 1000 * 2 ^ (s.m.par 0xA0D8 + 4).toNat ≤ 16 * (s.m.host.ms - u)) :=
  ⟨Tests.on Tests.timed, 0, 3, by decide, by decide, by decide +kernel, by decide, (fun _ h => by cases h)⟩

theorem witness_PlanActivation_1 : ∃ (s : State) (c : Check),
    s.m.supRuns = true ∧ s.m.paired = false ∧ s.m.pair.pairCheck = false ∧ s.m.plan.check = some c :=
  ⟨Tests.on { Tests.module with plan := { Tests.module.plan with check := some {} } }, {}, by decide⟩

theorem witness_PlanActivation_2 : ∃ (s : State) (c : Candidate) (g : W32),
    s.acts ∧ s.m.activates 0 = some (c, g) ∧ s.m.activationBars c = false :=
  ⟨Tests.on { Tests.module with plan := { Tests.module.plan with scheduled := some 0, staged := some {} } }, {}, 0, by decide⟩

theorem witness_PlanActivation_3 : ∃ (s : State) (c : Candidate) (g : W32),
    s.acts ∧ s.m.activates 1 = some (c, g) ∧ s.m.activationBars c = false :=
  ⟨Tests.on { Tests.module with plan := { Tests.module.plan with scheduled := some 0, staged := some { kind := 1, bed := 3, plan := Tests.module.plan.running } } }, { kind := 1, bed := 3, plan := Tests.module.plan.running }, 0, by decide⟩

theorem witness_PlanActivation_4 : ∃ (s : State) (rq : HostReq) (e : Session),
    s.m.Admits 0x0301 rq e ∧ 1 ≤ reqNum rq 0x0030 4 4 ∧ reqNum rq 0x0030 4 4 ≤ 12582912 ∧ reqNum rq 0x0030 0 4 + reqNum rq 0x0030 4 4 ≤ 0x1000000 ∧ s.m.xaPoisoned (reqNum rq 0x0030 0 4) (reqNum rq 0x0030 4 4) = false ∧ s.m.plan.check = none ∧ s.m.plan.scheduled = none :=
  ⟨Tests.on Tests.hosted, Tests.req [⟨0x0030, leN 4 0 ++ leN 4 8⟩], Tests.session, by decide⟩

theorem witness_PlanActivation_5 : ∃ (s : State) (rq : HostReq) (e : Session) (c : Candidate),
    s.m.Admits 0x0302 rq e ∧ reqNum rq 0x0060 0 4 ≠ 0 ∧ reqNum rq 0x0060 0 4 < 2 ^ 32 ∧ s.m.pairOp = false ∧ 10 ≤ (BitVec.ofNat 32 (reqNum rq 0x0060 0 4) - s.m.plan.grainCnt).toNat ∧ (BitVec.ofNat 32 (reqNum rq 0x0060 0 4) - s.m.plan.grainCnt).toNat ≤ 60000 ∧ s.m.plan.staged = some c ∧ (s.m.noted rq e).activationBars c = false :=
  ⟨Tests.on { Tests.hosted with plan := { Tests.hosted.plan with staged := some {} } }, Tests.req [⟨0x0060, leN 4 50⟩], Tests.session, {}, by decide⟩

theorem witness_PlanActivation_6 : ∃ (s : State) (rq : HostReq) (e : Session) (c : Candidate),
    s.m.Admits 0x0302 rq e ∧ reqNum rq 0x0060 0 4 ≠ 0 ∧ reqNum rq 0x0060 0 4 < 2 ^ 32 ∧ s.m.pairOp = true ∧ s.m.pair.role = true ∧ 20 ≤ (BitVec.ofNat 32 (reqNum rq 0x0060 0 4) - s.m.plan.grainCnt).toNat ∧ (BitVec.ofNat 32 (reqNum rq 0x0060 0 4) - s.m.plan.grainCnt).toNat ≤ 60000 ∧ s.m.plan.staged = some c ∧ (s.m.noted rq e).activationBars c = false :=
  ⟨Tests.on { Tests.paired with host := Tests.hosted.host, pair := { single := false, role := true, lanes := 1 }, plan := { Tests.hosted.plan with staged := some {} } }, Tests.req [⟨0x0060, leN 4 50⟩], Tests.session, {}, by decide⟩

theorem witness_PlanActivation_7 : ∃ (s : State) (rq : HostReq) (e : Session),
    s.m.Admits 0x0303 rq e ∧ s.m.plan.staged.isSome = true ∧ s.m.plan.scheduled = none :=
  ⟨Tests.on { Tests.hosted with plan := { Tests.hosted.plan with staged := some {} } }, Tests.req [], Tests.session, by decide⟩

theorem witness_LinkFrames_1 : ∃ (s : State) (n : Nat) (f : UpFrame),
    s.m.fabricOn = true ∧ n < 32 ∧ s.m.standby = false ∧ (s.m.convDef? n).isSome = true ∧ (s.m.link n).st ≠ .dark ∧ f.good = false :=
  ⟨Tests.on { Tests.module with conv := { links := [(3, { st := .off })] } }, 3, { good := false }, by decide⟩

theorem witness_LinkFrames_2 : ∃ (s : State) (n : Nat) (f : UpFrame),
    s.m.fabricOn = true ∧ n < 32 ∧ s.m.standby = false ∧ (s.m.convDef? n).isSome = true ∧ (s.m.link n).st = .off ∧ s.m.plan.klnkLock.getLsbD n = true ∧ f.good = true ∧ f.err.natAbs ≤ 80 ∧ (s.m.link n).regAcc = none ∧ f.fault = 0 :=
  ⟨Tests.on { Tests.module with conv := { links := [(3, { st := .off })] }, plan := { Tests.module.plan with klnkLock := 8#32 } }, 3, { err := 3, fstate := 2 }, by decide⟩

theorem witness_LinkFrames_3 : ∃ (s : State) (n : Nat),
    s.m.fabricOn = true ∧ n < 32 ∧ s.m.standby = false ∧ (s.m.link n).st = .training ∧ (s.m.link n).aligned = false ∧ (s.m.link n).fibreDelay = none ∧ (s.m.link n).trainErrs.length = 16 :=
  ⟨Tests.on { Tests.module with conv := { links := [(3, { st := .training, trainErrs := List.replicate 16 4 })] } }, 3, by decide⟩

theorem witness_LinkFrames_4 : ∃ (s : State) (n : Nat),
    s.m.fabricOn = true ∧ n < 32 ∧ s.m.standby = false ∧ (s.m.link n).st = .training ∧ (s.m.link n).aligned = false ∧ (s.m.link n).fibreDelay.isSome = true ∧ 100 ≤ (s.m.link n).goodRun :=
  ⟨Tests.on { Tests.module with conv := { links := [(3, { st := .training, fibreDelay := some 9, goodRun := 100 })] } }, 3, by decide⟩

theorem witness_LinkFrames_5 : ∃ (s : State) (n : Nat),
    s.m.fabricOn = true ∧ n < 32 ∧ s.m.standby = false ∧ 16 ≤ (s.m.link n).badRun ∧ (s.m.link n).st = .run ∧ s.m.acts n ≠ [] :=
  ⟨Tests.on { Tests.module with conv := { links := [(3, { st := .run, badRun := 16 })], phases := [(18, { st := .active })] } }, 3, by decide⟩

theorem witness_LinkFrames_6 : ∃ (s : State) (n : Nat),
    s.m.fabricOn = true ∧ n < 32 ∧ s.m.standby = false ∧ 16 ≤ (s.m.link n).badRun ∧ (s.m.link n).st = .off ∧ (s.m.link n).stGrain.running = false :=
  ⟨Tests.on { Tests.module with conv := { links := [(3, { st := .off, badRun := 16 })] } }, 3, by decide⟩

theorem witness_LinkFrames_7 : ∃ (s : State) (n : Nat),
    s.m.fabricOn = true ∧ n < 32 ∧ s.m.standby = false ∧ 50 ≤ (s.m.link n).missRun ∧ (s.m.link n).st = .run :=
  ⟨Tests.on { Tests.module with conv := { links := [(3, { st := .run, missRun := 50 })] } }, 3, by decide⟩

theorem witness_LinkFrames_8 : ∃ (s : State) (n : Nat),
    s.m.fabricOn = true ∧ n < 32 ∧ s.m.standby = false ∧ 50 ≤ (s.m.link n).missRun ∧ (s.m.link n).st = .localRamp ∧ (s.m.link n).lost = false :=
  ⟨Tests.on { Tests.module with conv := { links := [(3, { st := .localRamp, missRun := 50 })] } }, 3, by decide⟩

theorem witness_LinkFrames_9 : ∃ (s : State) (n : Nat),
    s.m.fabricOn = true ∧ n < 32 ∧ s.m.standby = false ∧ 50 ≤ (s.m.link n).missRun ∧ (s.m.link n).st = .off ∧ (s.m.link n).stGrain.running = true :=
  ⟨Tests.on { Tests.module with conv := { links := [(3, { st := .off, stGrain := .softStop, missRun := 50 })] } }, 3, by decide⟩

theorem witness_LinkFrames_10 : ∃ (s : State) (n : Nat),
    s.m.fabricOn = true ∧ n < 32 ∧ s.m.standby = false ∧ 50 ≤ (s.m.link n).missRun ∧ (s.m.link n).st = .off ∧ (s.m.link n).stGrain.running = false :=
  ⟨Tests.on { Tests.module with conv := { links := [(3, { st := .off, missRun := 50 })] } }, 3, by decide⟩

theorem witness_LinkFrames_11 : ∃ (s : State) (n u : Nat),
    s.acts ∧ n < 32 ∧ (s.m.link n).rampTicks = some u ∧ 300 ≤ u ∧ (s.m.link n).st = .localRamp ∧ (s.m.link n).missRun ≠ 0 :=
  ⟨Tests.on { Tests.module with conv := { links := [(3, { st := .localRamp, rampTicks := some 300, missRun := 60 })] } }, 3, 300, by decide⟩

theorem witness_LinkFrames_12 : ∃ (s : State) (n : Nat) (a : RegAcc),
    s.m.fabricOn = true ∧ n < 32 ∧ s.m.standby = false ∧ (s.m.link n).regAcc = some a ∧ 8 ≤ a.waited :=
  ⟨Tests.on { Tests.module with conv := { links := [(3, { st := .training, regAcc := some { addr := 4, waited := 8 } })] } }, 3, { addr := 4, waited := 8 }, by decide⟩

theorem witness_LinkFrames_13 : ∃ (s : State) (n : Nat),
    s.m.fabricOn = true ∧ n < 32 ∧ s.m.standby = false ∧ (s.m.link n).st ≠ .dark ∧ (s.m.link n).st ≠ .tripped ∧ (s.m.link n).tripTicks = 0 :=
  ⟨Tests.on { Tests.module with conv := { links := [(3, { st := .run })] } }, 3, by decide⟩

theorem witness_PhaseStates_1 : ∃ (s : State) (n p : Nat),
    s.acts ∧ n < 32 ∧ p < 6 ∧ (s.m.phase n p).st = .armed ∧ (s.m.phase n p).armShed = true ∧ (s.m.phase n p).addPending = false ∧ 500 ≤ (s.m.phase n p).armTicks :=
  ⟨Tests.on { Tests.module with conv := { phases := [(19, { st := .armed, armShed := true, armTicks := 500 })] } }, 3, 1, by decide⟩

theorem witness_PhaseStates_2 : ∃ (s : State) (n p : Nat),
    s.acts ∧ n < 32 ∧ p < 6 ∧ ((s.m.phase n p).st = .active ∨ (s.m.phase n p).st = .soft) ∧ s.m.parN 0x5031 ≤ (s.m.phase n p).climRun ∧ 0 < (s.m.phase n p).climRun ∧ (s.m.phase n p).retries < s.m.parN 0x5033 ∧ 2 ≤ s.m.nOk n :=
  ⟨Tests.on { Tests.module with conv := { phases := [(18, { st := .active }), (19, { st := .active, climRun := 300 })] } }, 3, 1, by decide⟩

theorem witness_PhaseStates_3 : ∃ (s : State) (n p : Nat),
    s.acts ∧ n < 32 ∧ p < 6 ∧ ((s.m.phase n p).st = .active ∨ (s.m.phase n p).st = .soft) ∧ s.m.parN 0x5031 ≤ (s.m.phase n p).climRun ∧ 0 < (s.m.phase n p).climRun ∧ s.m.parN 0x5033 ≤ (s.m.phase n p).retries :=
  ⟨Tests.on { Tests.module with conv := { phases := [(19, { st := .soft, climRun := 300, retries := 15 })] } }, 3, 1, by decide⟩

theorem witness_PhaseStates_4 : ∃ (s : State) (n p : Nat),
    s.acts ∧ n < 32 ∧ p < 6 ∧ (s.m.phase n p).st = .hiccup ∧ 100 * s.m.parN 0x5032 ≤ (s.m.phase n p).timer :=
  ⟨Tests.on { Tests.module with conv := { phases := [(19, { st := .hiccup, timer := 1000000000 })] } }, 3, 1, by decide⟩

theorem witness_PhaseStates_5 : ∃ (s : State) (n p : Nat),
    s.acts ∧ n < 32 ∧ p < 6 ∧ 0 < (s.m.phase n p).retries ∧ 100000 * s.m.parN 0x5034 ≤ (s.m.phase n p).cleanTicks :=
  ⟨Tests.on { Tests.module with conv := { phases := [(19, { st := .active, retries := 2, cleanTicks := 1000000000000 })] } }, 3, 1, by decide⟩

theorem witness_PhaseStates_6 : ∃ (s : State) (n p : Nat),
    s.acts ∧ n < 32 ∧ p < 6 ∧ (s.m.phase n p).switching = true ∧ s.m.parN 0x5052 ≤ (s.m.phase n p).openRun :=
  ⟨Tests.on { Tests.module with conv := { phases := [(19, { st := .active, openRun := 1000000 })] } }, 3, 1, by decide⟩

theorem witness_PhaseStates_7 : ∃ (s : State) (n p : Nat),
    s.acts ∧ n < 32 ∧ p < 6 ∧ (s.m.phase n p).st = .active ∧ 25 ≤ (s.m.phase n p).devRun ∧ (2 ≤ ((s.m.acts n).filter fun q => q != p && decide ((s.m.phase n q).st ≠ .mirrored)).length) :=
  ⟨Tests.on { Tests.module with plan := { Tests.module.plan with running := { beds := [{ bed := 3, conv := some { phases := 3 } }] } }, conv := { phases := [(18, { st := .active }), (19, { st := .active, devRun := 25 }), (20, { st := .active })] } }, 3, 1, by decide⟩

theorem witness_PhaseStates_8 : ∃ (s : State) (n p : Nat),
    s.acts ∧ n < 32 ∧ p < 6 ∧ (s.m.phase n p).st = .active ∧ 25 ≤ (s.m.phase n p).devRun ∧ (((s.m.acts n).filter fun q => q != p && decide ((s.m.phase n q).st ≠ .mirrored)).length < 2) :=
  ⟨Tests.on { Tests.module with conv := { phases := [(19, { st := .active, devRun := 25 })] } }, 3, 1, by decide⟩

theorem witness_PhaseStates_9 : ∃ (s : State) (n p : Nat),
    s.acts ∧ n < 32 ∧ p < 6 ∧ (s.m.phase n p).st = .mirrored ∧ 200000 ≤ (s.m.phase n p).timer :=
  ⟨Tests.on { Tests.module with conv := { phases := [(19, { st := .mirrored, timer := 200000 })] } }, 3, 1, by decide⟩

theorem witness_PhaseStates_10 : ∃ (s : State) (n p : Nat),
    s.acts ∧ n < 32 ∧ p < 6 ∧ (s.m.phase n p).switching = true ∧ s.m.parN 0x5041 ≤ (s.m.phase n p).followRun :=
  ⟨Tests.on { Tests.module with conv := { phases := [(19, { st := .active, followRun := 1000000 })] } }, 3, 1, by decide⟩

theorem witness_LinkStops_1 : ∃ (s : State) (n : Nat),
    s.acts ∧ n < 32 ∧ (s.m.link n).st = .run ∧ s.m.parN 0x5043 ≤ (s.m.link n).followSt :=
  ⟨Tests.on { Tests.module with conv := { links := [(3, { st := .run, followSt := 1000000 })] } }, 3, by decide⟩

theorem witness_LinkStops_2 : ∃ (s : State) (n : Nat),
    s.acts ∧ n < 32 ∧ (s.m.link n).st = .run ∧ s.m.parN 0x5045 ≤ (s.m.link n).followPw :=
  ⟨Tests.on { Tests.module with conv := { links := [(3, { st := .run, followPw := 1000000 })] } }, 3, by decide⟩

theorem witness_LinkStops_3 : ∃ (s : State) (n : Nat),
    s.acts ∧ n < 32 ∧ (s.m.link n).st = .softStop ∧ 10 ≤ (s.m.link n).stopRun :=
  ⟨Tests.on { Tests.module with conv := { links := [(3, { st := .softStop, stopRun := 10, stopToFault := true })] } }, 3, by decide⟩

theorem witness_LinkStops_4 : ∃ (s : State) (n : Nat),
    s.acts ∧ n < 32 ∧ (s.m.link n).st = .softStop ∧ s.m.parN 0x500A ≤ s.m.host.ms - (s.m.link n).stopMs :=
  ⟨Tests.on { Tests.module with conv := { links := [(3, { st := .softStop })] }, host := { Tests.module.host with ms := 1000000000 } }, 3, by decide⟩

theorem witness_LinkStops_5 : ∃ (s : State) (n b : Nat),
    s.acts ∧ n < 32 ∧ (s.m.link n).st = .run ∧ 100 ≤ (s.m.link n).burstRun ∧ s.m.par 0x5010 ≠ 0 ∧ s.m.burstPick n = some b :=
  ⟨Tests.on { Tests.module with conv := { links := [(3, { st := .run, burstRun := 100 })], phases := [(18, { st := .active })] }, host := { Tests.module.host with snap := [(0x5010, some 100)] } }, 3, 0, by decide⟩

theorem witness_LinkStops_6 : ∃ (s : State) (n b : Nat),
    s.acts ∧ n < 32 ∧ (s.m.link n).st = .burst ∧ 10000 ≤ s.m.host.ms - (s.m.link n).burstMs ∧ s.m.burstPick n = some b :=
  ⟨Tests.on { Tests.module with conv := { links := [(3, { st := .burst })], phases := [(18, { st := .active })] }, host := { Tests.module.host with ms := 10000 } }, 3, 0, by decide⟩

theorem witness_LinkStops_7 : ∃ (s : State) (n : Nat) (x : Prune),
    s.acts ∧ n < 32 ∧ (s.m.link n).prune = some x ∧ 3 ≤ (s.m.plan.grainCnt - x.decidedAt).toNat ∧ x.shed = true ∧ (s.m.phase n x.phase).st = .active :=
  ⟨Tests.on { Tests.module with conv := { links := [(3, { st := .run, prune := some { phase := 1 } })], phases := [(18, { st := .active }), (19, { st := .active })] }, plan := { Tests.module.plan with grainCnt := 3 } }, 3, { phase := 1 }, by decide⟩

theorem witness_LinkStops_8 : ∃ (s : State) (n : Nat) (x : Prune),
    s.acts ∧ n < 32 ∧ (s.m.link n).prune = some x ∧ 3 ≤ (s.m.plan.grainCnt - x.decidedAt).toNat ∧ x.shed = false ∧ ((s.m.phase n x.phase).st = .disabled ∨ (s.m.phase n x.phase).st = .armed) :=
  ⟨Tests.on { Tests.module with conv := { links := [(3, { st := .run, prune := some { shed := false, phase := 1 } })], phases := [(18, { st := .active })] }, plan := { Tests.module.plan with grainCnt := 3 } }, 3, { shed := false, phase := 1 }, by decide⟩

theorem witness_DispatchTimers_1 : ∃ (s : State),
    s.acts ∧ s.m.disp.owner.isSome = true ∧ (s.m.plan.grainCnt - s.m.disp.exp).toNat < 2 ^ 31 :=
  ⟨Tests.on { Tests.module with disp := { Tests.module.disp with owner := some 1 } }, by decide⟩

theorem witness_DispatchTimers_2 : ∃ (s : State),
    s.acts ∧ s.m.disp.src ≠ 0 ∧ s.m.disp.srcFault = false ∧ 0 < s.m.disp.srcBad ∧ s.m.srcLimit ≤ s.m.disp.srcBad :=
  ⟨Tests.on { Tests.module with disp := { Tests.module.disp with src := 1, srcBad := 1000000 } }, by decide⟩

theorem witness_DispatchTimers_3 : ∃ (s : State),
    s.acts ∧ s.m.disp.srcFault = true ∧ 0 < s.m.disp.srcGood ∧ s.m.parN 0x6018 ≤ s.m.disp.srcGood :=
  ⟨Tests.on { Tests.module with disp := { Tests.module.disp with src := 1, srcGood := 1000000, srcFault := true } }, by decide⟩

theorem witness_DispatchTimers_4 : ∃ (s : State) (n k : Nat) (g : W32),
    s.acts ∧ n < 32 ∧ (s.m.strDisp n).restGrains = some k ∧ (s.m.strDisp n).rest = true ∧ (s.m.strEst n).anchorApplied = some g ∧ (s.m.plan.grainCnt - g).toNat ≤ k :=
  ⟨Tests.on { Tests.module with disp := { Tests.module.disp with strs := [(3, { rest := true, restGrains := some 40 })] }, est := { strs := [(3, { anchorApplied := some 2 })] }, plan := { Tests.module.plan with grainCnt := 42 } }, 3, 40, 2, by decide⟩

theorem witness_DispatchTimers_5 : ∃ (s : State) (n k : Nat),
    s.acts ∧ n < 32 ∧ (s.m.strDisp n).restGrains = some k ∧ (s.m.strDisp n).rest = true ∧ 1000 * s.m.parN 0x6201 ≤ k :=
  ⟨Tests.on { Tests.module with disp := { Tests.module.disp with strs := [(3, { rest := true, restGrains := some 1000000000 })] } }, 3, 1000000000, by decide⟩

theorem witness_DispatchTimers_6 : ∃ (s : State) (n : Nat),
    s.acts ∧ n < 32 ∧ (s.m.strEst n).restReq = true ∧ (s.m.strEst n).restDenied = false ∧ (s.m.strEst n).restGranted = false ∧ 1000 * s.m.parN 0x6204 ≤ (s.m.strEst n).restReqAge + (s.m.host.ms - (s.m.strEst n).restReqMs) ∧ (s.m.strEst n).restRefused = false :=
  ⟨Tests.on { Tests.module with est := { strs := [(3, { restReq := true, restReqAge := 1000 })] }, host := { Tests.module.host with ms := 1000000000000 } }, 3, by decide⟩

theorem witness_DispatchTimers_7 : ∃ (s : State) (n : Nat),
    s.acts ∧ n < 32 ∧ (s.m.strEst n).restReq = true ∧ (s.m.strEst n).restDenied = false ∧ (s.m.strEst n).restGranted = false ∧ 1000 * s.m.parN 0x6204 ≤ (s.m.strEst n).restReqAge + (s.m.host.ms - (s.m.strEst n).restReqMs) ∧ (s.m.strEst n).restRefused = true :=
  ⟨Tests.on { Tests.module with est := { strs := [(3, { restReq := true, restRefused := true })] }, host := { Tests.module.host with ms := 1000000000000 } }, 3, by decide⟩

theorem witness_DispatchTimers_8 : ∃ (s : State) (j : SvcJob),
    s.acts ∧ s.m.disp.jobs = [j] ∧ j.done ||| j.failed = j.named :=
  ⟨Tests.on { Tests.module with disp := { Tests.module.disp with jobs := [{}] } }, {}, by decide⟩

theorem witness_SafetyInputs_1 : ∃ (s : State) (i : Nat) (second level : Bool),
    s.m.powered = true ∧ i < 16 ∧ 1 ≤ s.m.siFunc i ∧ s.m.siFunc i ≤ 5 :=
  ⟨Tests.on { Tests.module with safety := { cfg := [(0x8002, some 1)] } }, 2, true, true, by decide⟩

theorem witness_SafetyInputs_2 : ∃ (s : State) (i : Nat) (second level : Bool),
    s.m.powered = true ∧ i < 16 ∧ s.m.siFunc i = 0 :=
  ⟨Tests.on Tests.module, 2, true, true, by decide⟩

theorem witness_SafetyInputs_3 : ∃ (s : State) (i : Nat),
    s.m.powered = true ∧ i < 16 ∧ s.m.siFunc i = 6 ∧ s.m.faultA i = false :=
  ⟨Tests.on { Tests.module with safety := { cfg := [(0x8002, some 6)] } }, 2, by decide⟩

theorem witness_SafetyInputs_4 : ∃ (s : State) (i : Nat) (second level : Bool),
    s.m.powered = true ∧ i < 4 ∧ s.m.oiFunc i ≠ 0 :=
  ⟨Tests.on { Tests.module with safety := { cfg := [(0x8060, some 1)] } }, 0, true, true, by decide⟩

theorem witness_SafetyInputs_5 : ∃ (s : State) (i : Nat) (second level : Bool),
    s.m.powered = true ∧ i < 4 ∧ s.m.oiFunc i = 0 :=
  ⟨Tests.on Tests.module, 2, true, true, by decide⟩

theorem witness_SafetyInputs_6 : ∃ (s : State) (i d : Nat),
    s.m.powered = true ∧ i < 16 ∧ 1 ≤ s.m.siFunc i ∧ s.m.siFunc i ≤ 5 ∧ (s.m.si i).discMs = some d ∧ s.m.parN (0x8020 + i) ≤ d ∧ (s.m.si i).discFault = false :=
  ⟨Tests.on { Tests.module with safety := { cfg := [(0x8002, some 1)], si := [(2, { discMs := some 1000000 })] } }, 2, 1000000, by decide⟩

theorem witness_SafetyInputs_7 : ∃ (s : State) (missing : List Nat),
    s.m.powered = true ∧ s.m.plan.grainCnt.toNat % 10 = 5 ∧ s.m.safety.gapTp1 ≠ some s.m.plan.grainCnt ∧ s.m.safety.tpFault.getLsbD 1 = false :=
  ⟨Tests.on { Tests.module with plan := { Tests.module.plan with grainCnt := 15 } }, [], by decide⟩

theorem witness_SafetyInputs_8 : ∃ (s : State) (missing : List Nat),
    s.m.powered = true ∧ s.m.plan.grainCnt.toNat % 10 = 0 ∧ s.m.safety.gapTp0 ≠ some s.m.plan.grainCnt :=
  ⟨Tests.on { Tests.module with plan := { Tests.module.plan with grainCnt := 10 } }, [2], by decide⟩

theorem witness_SafetyInputs_9 : ∃ (s : State) (i u : Nat),
    s.m.powered = true ∧ i < 16 ∧ s.m.siFunc i = 6 ∧ (s.m.si i).a = true ∧ (s.m.si i).pressAt = some u ∧ s.m.faultA i = false ∧ 100 ≤ s.m.safety.ms - u ∧ s.m.safety.ms - u ≤ 5000 ∧ s.m.resetSrc 0 = true :=
  ⟨Tests.on { Tests.module with safety := { ms := 1200, cfg := [(0x8002, some 6), (0x809C, some 1)], si := [(2, { a := true, pressAt := some 1000 })] } }, 2, 1000, by decide⟩

theorem witness_SafetyInputs_10 : ∃ (s : State) (i u : Nat),
    s.m.powered = true ∧ i < 16 ∧ s.m.siFunc i = 6 ∧ (s.m.si i).a = true ∧ (s.m.si i).pressAt = some u ∧ s.m.faultA i = false ∧ 5000 < s.m.safety.ms - u :=
  ⟨Tests.on { Tests.module with safety := { ms := 7200, cfg := [(0x8002, some 6)], si := [(2, { a := true, pressAt := some 1000 })] } }, 2, 1000, by decide⟩

theorem witness_SafetyInputs_11 : ∃ (s : State) (i u : Nat),
    s.m.powered = true ∧ i < 16 ∧ s.m.siFunc i = 6 ∧ (s.m.si i).a = true ∧ (s.m.si i).pressAt = some u ∧ s.m.faultA i = true :=
  ⟨Tests.on { Tests.module with safety := { ms := 7200, cfg := [(0x8002, some 6)], si := [(2, { a := true, pressAt := some 1000, crossFault := 1 })] } }, 2, 1000, by decide⟩

theorem witness_SafetyInputs_12 : ∃ (s : State),
    s.m.powered = true ∧ s.m.safety.twoHand = .arming ∧ s.m.parN 0x809B ≤ s.m.safety.ms - s.m.safety.armAt :=
  ⟨Tests.on { Tests.module with safety := { ms := 1000000, twoHand := .arming } }, by decide⟩

theorem witness_SafetyInputs_13 : ∃ (s : State),
    s.m.powered = true ∧ s.m.paired = true ∧ s.m.safety.bpIn = false :=
  ⟨Tests.on { Tests.module with power := { Tests.module.power with straps := 0x1A5 } }, by decide⟩

theorem witness_SafetyInputs_14 : ∃ (s : State),
    s.m.powered = true ∧ s.m.paired = true :=
  ⟨Tests.on { Tests.module with power := { Tests.module.power with straps := 0x1A5 } }, by decide⟩

theorem witness_SafetyOutputs_1 : ∃ (s : State) (g u : Nat),
    s.m.powered = true ∧ g < 8 ∧ (s.m.group g).switchedAt = some u ∧ u + s.m.parN 0x7001 ≤ s.m.safety.ms ∧ (s.m.group g).closingJudge = false ∧ s.m.fbClosed g = false :=
  ⟨Tests.on { Tests.module with prot := { groups := [(2, { switchedAt := some 5 })] }, safety := { ms := 1000000 } }, 2, 5, by decide⟩

theorem witness_SafetyOutputs_2 : ∃ (s : State) (g u : Nat),
    s.m.powered = true ∧ g < 8 ∧ (s.m.group g).switchedAt = some u ∧ u + s.m.parN 0x7001 ≤ s.m.safety.ms ∧ (s.m.group g).closingJudge = false ∧ s.m.fbClosed g = true :=
  ⟨Tests.on { Tests.module with prot := { groups := [(2, { switchedAt := some 5, fbClosed := true })] }, safety := { ms := 1000000, cfg := [(0x8092, some 4)] } }, 2, 5, by decide⟩

theorem witness_SafetyOutputs_3 : ∃ (s : State) (g u : Nat),
    s.m.powered = true ∧ g < 8 ∧ (s.m.group g).switchedAt = some u ∧ u + s.m.parN 0x7001 ≤ s.m.safety.ms ∧ (s.m.group g).closingJudge = true ∧ (s.m.feedbackOf g).isSome = true ∧ s.m.fbClosed g = false :=
  ⟨Tests.on { Tests.module with prot := { groups := [(2, { switchedAt := some 5, closingJudge := true })] }, safety := { ms := 1000000, cfg := [(0x8092, some 4)] } }, 2, 5, by decide⟩

theorem witness_SafetyOutputs_4 : ∃ (s : State) (g i : Nat) (b closed : Bool),
    s.m.powered = true ∧ g < 8 ∧ s.m.feedbackOf g = some (i, b) :=
  ⟨Tests.on { Tests.module with safety := { cfg := [(0x8092, some 4)] } }, 2, 2, false, true, by decide⟩

theorem witness_SafetyOutputs_5 : ∃ (s : State) (g u : Nat),
    s.m.powered = true ∧ g < 8 ∧ (s.m.sq g).lowAt = some u ∧ u + 1 ≤ s.m.safety.ms ∧ s.m.outputPermits g = true ∧ ((s.m.sq g).maint = false ∨ s.m.safety.twoHand = .active) ∧ s.m.fbClosed g = false :=
  ⟨Tests.on { Tests.module with safety := { ms := 9, sq := [(2, { lowAt := some 8 })] } }, 2, 8, by decide⟩

theorem witness_SafetyOutputs_6 : ∃ (s : State) (g u : Nat),
    s.m.powered = true ∧ g < 8 ∧ (s.m.sq g).lowAt = some u ∧ u + 1 ≤ s.m.safety.ms ∧ ((∃ n ∈ s.m.members g, s.m.held n = true) ∨ s.m.safety.fieldLow.getLsbD (g / 4) = true ∨ (((s.m.sq g).maint = false ∨ s.m.safety.twoHand = .active) ∧ s.m.outputPermits g = false)) :=
  ⟨Tests.on { Tests.module with safety := { ms := 9, sq := [(2, { lowAt := some 5, stuck := true })] } }, 2, 5, by decide⟩

theorem witness_SafetyOutputs_7 : ∃ (s : State) (g : Nat),
    s.m.powered = true ∧ g < 8 ∧ (s.m.sq g).on = true ∧ (s.m.sq g).pulsing = none ∧ (s.m.standby = true ∨ (s.m.sq g).pulseAt ≤ s.m.safety.ms) ∧ (s.m.sq g).switchMs ≠ some s.m.safety.ms ∧ s.m.safety.fieldLow.getLsbD (g / 4) = false :=
  ⟨Tests.on { Tests.module with safety := { ms := 9, sq := [(2, { on := true, pulseAt := 9 })] } }, 2, by decide⟩

theorem witness_SafetyOutputs_8 : ∃ (s : State) (g : Nat),
    s.m.powered = true ∧ g < 8 ∧ (s.m.sq g).on = true ∧ (s.m.sq g).pulsing = none ∧ (s.m.standby = true ∨ (s.m.sq g).pulseAt ≤ s.m.safety.ms) ∧ ((s.m.sq g).switchMs = some s.m.safety.ms ∨ s.m.safety.fieldLow.getLsbD (g / 4) = true) :=
  ⟨Tests.on { Tests.module with safety := { ms := 9, sq := [(2, { on := true, pulseAt := 9, switchMs := some 9 })] } }, 2, by decide⟩

theorem witness_SafetyOutputs_9 : ∃ (s : State) (g : Nat) (high : Bool) (x : PulseMeas),
    s.m.powered = true ∧ g < 8 ∧ (s.m.sq g).pulsing = some high ∧ x.passes high (s.m.sq g).vField = true :=
  ⟨Tests.on { Tests.module with safety := { sq := [(2, { on := true, pulsing := some true, vField := 24000 })] } }, 2, true, { low := 5000, back := 22500 }, by decide⟩

theorem witness_SafetyOutputs_10 : ∃ (s : State) (g : Nat) (x : PulseMeas),
    s.m.powered = true ∧ g < 8 ∧ (s.m.sq g).pulsing = some true ∧ x.passes true (s.m.sq g).vField = false ∧ 1 ≤ (s.m.sq g).hsFails ∧ (s.m.sq g).hsFault = false ∧ (s.m.sq g).lsFault = false :=
  ⟨Tests.on { Tests.module with safety := { sq := [(2, { on := true, pulsing := some true, hsFails := 1, vField := 24000 })] } }, 2, { low := 5001, back := 24000 }, by decide⟩

theorem witness_SafetyCycles_1 : ∃ (s : State) (meas : List SqMeas),
    s.m.powered = true :=
  ⟨Tests.on Tests.module, [], by decide⟩

theorem witness_SafetyCycles_2 : ∃ (s : State) (graft : Bool),
    s.m.powered = true ∧ (s.m.cloche graft).st ≠ .off ∧ ((s.m.cloche graft).txSeq = 0 ∨ (s.m.cloche graft).sentMs + s.m.parN 0x80A3 ≤ s.m.safety.ms) :=
  ⟨Tests.on { Tests.module with safety := { ms := 1000000, plant := { st := .run, txSeq := 7 } } }, false, by decide⟩

theorem witness_SafetyCycles_3 : ∃ (s : State) (src : NetSrc) (port : Nat) (b : List Byte) (f : ClocheFrame),
    s.m.powered = true ∧ src.net < 2 ∧ (s.m.cloche true).st = .run ∧ clocheOf b = some f ∧ f.conn = s.m.connRx true ∧ f.seq ≠ 0 ∧ 1 ≤ seqDist (s.m.cloche true).rxSeq f.seq ∧ seqDist (s.m.cloche true).rxSeq f.seq ≤ 8 :=
  ⟨Tests.on { Tests.module with safety := { graft := { st := .run, rxSeq := 6 } } }, {}, 0, ({ seq := 14, conn := Tests.module.connRx true, data := List.replicate 28 0 } : ClocheFrame).bytes, { seq := 14, conn := Tests.module.connRx true, data := List.replicate 28 0 }, by decide +kernel⟩

theorem witness_SafetyCycles_4 : ∃ (s : State) (src : NetSrc) (port : Nat) (b : List Byte),
    s.m.powered = true ∧ src.net < 2 ∧ (s.m.cloche true).st = .run ∧ (∀ f ∈ clocheOf b, f.conn ≠ s.m.connRx true ∨ f.seq = 0 ∨ seqDist (s.m.cloche true).rxSeq f.seq = 0 ∨ 8 < seqDist (s.m.cloche true).rxSeq f.seq) :=
  ⟨Tests.on { Tests.module with safety := { graft := { st := .run, rxSeq := 6 } } }, {}, 0, ({ seq := 15, conn := Tests.module.connRx true, data := List.replicate 28 0 } : ClocheFrame).bytes, by decide +kernel⟩

theorem witness_SafetyCycles_5 : ∃ (s : State) (src : NetSrc) (port : Nat) (b : List Byte),
    s.m.powered = true ∧ (port ≠ 50233 ∨ s.m.netAllows src.net src.addr = false) :=
  ⟨Tests.on Tests.module, {}, 50231, [], by decide⟩

theorem witness_SafetyCycles_6 : ∃ (s : State) (graft : Bool),
    s.m.powered = true ∧ s.m.parN 0x80A4 < s.m.safety.ms - (s.m.cloche graft).lastMs ∧ (s.m.cloche graft).st = .run :=
  ⟨Tests.on { Tests.module with safety := { ms := 1000000, plant := { st := .run } } }, false, by decide⟩

theorem witness_SafetyCycles_7 : ∃ (s : State) (f : FallowScope),
    s.m.powered = true ∧ s.m.safety.fallow = [f] ∧ f.mod = false ∧ f.string < 32 ∧ f.expires ≤ s.m.safety.ms ∧ s.m.safety.expiredScope f = false :=
  ⟨Tests.on { Tests.module with safety := { ms := 9, fallow := [{ string := 3, expires := 7 }] } }, { string := 3, expires := 7 }, by decide⟩

theorem witness_SafetyCycles_8 : ∃ (s : State),
    s.m.powered = true ∧ s.m.safety.staged.isSome = true ∧ 60000 ≤ s.m.safety.ms - s.m.safety.stagedMs :=
  ⟨Tests.on { Tests.module with safety := { ms := 60000, staged := some [] } }, by decide⟩

theorem witness_SafetyCycles_9 : ∃ (s : State) (g : Nat),
    s.m.powered = true ∧ g < 8 ∧ (s.m.sq g).on = true ∧ 100 ≤ (s.m.sq g).lowMs ∧ (s.m.sq g).openLoad = false :=
  ⟨Tests.on { Tests.module with safety := { sq := [(2, { on := true, lowMs := 100 })] } }, 2, by decide⟩

theorem witness_SafetyCycles_10 : ∃ (s : State) (g u : Nat),
    s.m.powered = true ∧ g < 8 ∧ (s.m.group g).openAt = some u ∧ u + s.m.parN 0x7000 ≤ s.m.safety.ms :=
  ⟨Tests.on { Tests.module with prot := { groups := [(2, { openAt := some 5 })] }, safety := { ms := 1000000 } }, 2, 5, by decide⟩

theorem witness_SafetyCycles_11 : ∃ (s : State) (k mv : Nat),
    s.m.powered = true ∧ k < 2 ∧ mv < 19200 ∧ s.m.safety.fieldLow.getLsbD k = false :=
  ⟨Tests.on Tests.module, 1, 19199, by decide⟩

theorem witness_ProtectionTimers_1 : ∃ (s : State) (n : Nat),
    s.acts ∧ n < 32 ∧ s.m.configured n = true ∧ s.m.anyBad n = true ∧ (s.m.strProt n).sensorHoldDone = false ∧ 1000 * s.m.parN 0x7005 ≤ (s.m.strProt n).sensorBadAge :=
  ⟨Tests.on { Tests.module with plan := { Tests.module.plan with running := { beds := [{ bed := 3, layout := { monitors := [{ thermMask := 1 }] } }] } }, prot := { strs := [(3, { sensorBadAge := 1000000000 })], therms := [(1920, { bad := true })] } }, 3, by decide⟩

theorem witness_ProtectionTimers_2 : ∃ (s : State) (n : Nat),
    s.acts ∧ n < 32 ∧ (s.m.strProt n).band = .derate ∧ 10000 ≤ (s.m.strProt n).bandGrains ∧ (s.m.strProt n).step < 8 :=
  ⟨Tests.on { Tests.module with prot := { strs := [(3, { band := .derate, bandGrains := 10000, step := 7 })] } }, 3, by decide⟩

theorem witness_ProtectionTimers_3 : ∃ (s : State) (n : Nat),
    s.acts ∧ n < 32 ∧ (s.m.strProt n).band = .restore ∧ 60000 ≤ (s.m.strProt n).bandGrains ∧ 0 < (s.m.strProt n).step :=
  ⟨Tests.on { Tests.module with prot := { strs := [(3, { band := .restore, bandGrains := 60000, step := 1 })] } }, 3, by decide⟩

theorem witness_ProtectionTimers_4 : ∃ (s : State) (n : Nat),
    s.acts ∧ n < 32 ∧ ((s.m.strProt n).band = .hold ∨ ((s.m.strProt n).band = .derate ∧ (8 ≤ (s.m.strProt n).step ∨ (s.m.strProt n).bandGrains < 10000)) ∨ ((s.m.strProt n).band = .restore ∧ ((s.m.strProt n).step = 0 ∨ (s.m.strProt n).bandGrains < 60000))) :=
  ⟨Tests.on { Tests.module with prot := { strs := [(3, { band := .derate, bandGrains := 10000, step := 8 })] } }, 3, by decide⟩

theorem witness_ProtectionTimers_5 : ∃ (s : State) (n : Nat) (above : Bool),
    s.m.fabricOn = true ∧ n < 32 ∧ s.m.standby = false :=
  ⟨Tests.on Tests.module, 3, true, by decide⟩

theorem witness_ProtectionTimers_6 : ∃ (s : State) (n : Nat) (above : Bool),
    s.m.fabricOn = true ∧ n < 32 ∧ s.m.standby = true :=
  ⟨Tests.on { Tests.paired with pair := { single := false } }, 3, true, by decide⟩

theorem witness_ProtectionTimers_7 : ∃ (s : State) (n : Nat) (above : Bool),
    s.m.fabricOn = true ∧ n < 32 :=
  ⟨Tests.on Tests.module, 3, true, by decide⟩

theorem witness_ProtectionTimers_8 : ∃ (s : State) (z : Nat),
    s.m.supRuns = true ∧ s.m.paired = false ∧ s.m.power.state = .running ∧ z < 8 ∧ s.m.parN 0x7010 ≤ 3 ∧ s.m.zoneStrings z ≠ [] ∧ (∀ u ∈ (s.m.zone z).sentMs, u + s.m.parN 0x7012 ≤ s.m.host.ms) :=
  ⟨Tests.on { Tests.module with host := { Tests.module.host with snap := [(0x7010, some 2), (0x7023, some 5)], ms := Tests.module.parN 0x7012 }, prot := { zones := [(5, { sentMs := some 0 })] } }, 5, by decide⟩

theorem witness_ProtectionTimers_9 : ∃ (s : State) (z u : Nat),
    s.m.supRuns = true ∧ (s.m.zone z).sentMs = some u ∧ s.m.host.ms < u + s.m.parN 0x7012 :=
  ⟨Tests.on { Tests.module with host := { Tests.module.host with ms := Tests.module.parN 0x7012 - 1 }, prot := { zones := [(5, { sentMs := some 0 })] } }, 5, 0, by decide⟩

theorem witness_PairRoles_1 : ∃ (s : State),
    s.m.fabricOn = true ∧ s.m.paired = true ∧ s.m.pair.rolePoint = none ∧ s.m.plan.mode ≠ .stopped ∧ s.m.anySelfFault = false ∧ s.m.power.state ≠ .parked ∧ s.m.pair.partnerRole = false :=
  ⟨Tests.on Tests.paired, by decide⟩

theorem witness_PairRoles_2 : ∃ (s : State),
    s.m.fabricOn = true ∧ s.m.paired = true ∧ s.m.pair.rolePoint = none ∧ s.m.plan.mode ≠ .stopped ∧ s.m.anySelfFault = false ∧ s.m.power.state ≠ .parked ∧ s.m.pair.partnerRole = true :=
  ⟨Tests.on { Tests.paired with pair := { partnerRole := true } }, by decide⟩

theorem witness_PairRoles_3 : ∃ (s : State) (u : Nat),
    s.m.fabricOn = true ∧ s.m.paired = true ∧ s.m.pair.rolePoint = some u ∧ s.m.pair.role = false ∧ s.m.pair.join = none ∧ s.m.pair.driverEnabled = true ∧ s.m.anySelfFault = false ∧ s.m.pair.partnerRole = false ∧ 10 ≤ s.m.pair.releasedUs ∧ s.m.parN 0x9001 + (if s.m.preferred then 0 else 200) ≤ s.m.host.ms - u :=
  ⟨Tests.on { Tests.paired with pair := { rolePoint := some 0, driverEnabled := true, releasedUs := 10 }, host := { Tests.module.host with ms := 1000000 } }, 0, by decide⟩

theorem witness_PairRoles_4 : ∃ (s : State),
    s.m.powered = true ∧ s.m.paired = true ∧ s.m.pair.role = true ∧ s.m.oddSlot = false ∧ s.m.pair.roleUs ≤ 20 :=
  ⟨Tests.on { Tests.paired with power := { Tests.module.power with straps := 0x1A4 }, pair := { role := true, roleUs := 5 } }, by decide⟩

theorem witness_PairRoles_5 : ∃ (s : State),
    s.m.powered = true ∧ s.m.paired = true :=
  ⟨Tests.on { Tests.paired with pair := { partnerRole := true } }, by decide⟩

theorem witness_PairRoles_6 : ∃ (s : State),
    s.m.powered = true ∧ s.m.paired = true ∧ s.m.pair.single = false :=
  ⟨Tests.on { Tests.paired with pair := { single := false } }, by decide⟩

theorem witness_PairRoles_7 : ∃ (s : State),
    s.m.powered = true ∧ s.m.paired = true ∧ s.m.safety.graft.st = .off :=
  ⟨Tests.on Tests.paired, by decide⟩

theorem witness_PairRoles_8 : ∃ (s : State),
    s.m.fabricOn = true ∧ s.m.standby = true ∧ s.m.pairOp = true ∧ s.m.pair.partnerRole = true ∧ s.m.pair.rolePoint.isSome = true ∧ s.m.pair.join.isSome = true :=
  ⟨Tests.on { Tests.paired with pair := { single := false, partnerRole := true, rolePoint := some 0, join := some .lanes, lanes := 3 } }, by decide⟩

theorem witness_PairRoles_9 : ∃ (s : State) (u : Nat),
    s.m.fabricOn = true ∧ s.m.standby = true ∧ s.m.pair.resyncWait = some u ∧ u ≤ s.m.host.ms :=
  ⟨Tests.on { Tests.paired with pair := { resyncWait := some 0 } }, 0, by decide⟩

theorem witness_PairRoles_10 : ∃ (s : State) (lane : Nat) (up : Bool),
    s.m.fabricOn = true ∧ s.m.paired = true ∧ lane < 2 :=
  ⟨Tests.on { Tests.paired with pair := { lanes := 1 } }, 0, false, by decide⟩

theorem witness_StandbyFollows_1 : ∃ (s : State) (r : ReplayRec) (image : Option BedImage) (exch : List (Nat × BedImage)),
    s.m.fabricOn = true ∧ s.m.standby = true ∧ s.m.pairOp = true ∧ s.m.pair.lanes ≠ 0 ∧ s.m.pair.join.isSome = true ∧ r.good = true ∧ s.m.plan.tick ≤ 10 ∧ s.m.pair.hbThis = false ∧ s.m.pair.hbJudged = false ∧ s.m.takeoverDue = none ∧ (s.m.pair.sync = .none ∨ r.grain + 1 = s.m.plan.grainCnt) :=
  ⟨Tests.on { Tests.paired with pair := { single := false, join := some .lanes, lanes := 3 } }, { grain := 8, owner := some 5 }, none, [], by decide⟩

theorem witness_StandbyFollows_2 : ∃ (s : State) (resps : List (Nat × ChainResp)) (ends : List (Nat × EndObs)) (tones : List (Nat × BitVec 2)) (ready : Bool),
    s.m.fabricOn = true ∧ s.m.pairOp = true ∧ s.m.standby = true ∧ s.m.pair.lanes ≠ 0 :=
  ⟨Tests.on { Tests.paired with pair := { single := false, lanes := 2 } }, [], [], [], true, by decide⟩

theorem witness_StandbyFollows_3 : ∃ (s : State) (ends : List (Nat × EndObs)) (ready : Bool),
    s.m.fabricOn = true ∧ s.m.pairOp = true ∧ s.m.standby = false :=
  ⟨Tests.on { Tests.paired with pair := { single := false, role := true } }, [(3, { cont := true }), (7, { lock := true })], true, by decide⟩

theorem witness_StandbyFollows_4 : ∃ (s : State),
    s.m.fabricOn = true ∧ s.m.standby = true ∧ s.m.pairOp = true ∧ s.m.pair.join.isSome = true ∧ s.m.pair.hbThis = false ∧ s.m.pair.hbJudged = false ∧ 10 ≤ s.m.plan.tick ∧ s.m.pair.hbMiss = 2 ∧ s.m.pair.partnerRole = true :=
  ⟨Tests.on { Tests.paired with pair := { single := false, join := some .lanes, hbMiss := 2, partnerRole := true }, plan := { Tests.module.plan with tick := 10 } }, by decide⟩

theorem witness_StandbyFollows_5 : ∃ (s : State),
    s.m.fabricOn = true ∧ s.m.standby = true ∧ s.m.pairOp = true ∧ s.m.pair.join.isSome = true ∧ s.m.pair.hbThis = false ∧ s.m.pair.hbJudged = false ∧ 10 ≤ s.m.plan.tick ∧ s.m.pair.hbMiss < 2 :=
  ⟨Tests.on { Tests.paired with pair := { single := false, join := some .lanes, hbMiss := 1 }, plan := { Tests.module.plan with tick := 10 } }, by decide⟩

theorem witness_StandbyFollows_6 : ∃ (s : State),
    s.m.powered = true ∧ s.m.standby = true ∧ 10 ≤ s.m.pair.noRecord :=
  ⟨Tests.on { Tests.paired with pair := { noRecord := 10 }, safety := { sq := [(2, { on := true })] } }, by decide⟩

theorem witness_StandbyFollows_7 : ∃ (s : State) (ptr len type : Nat) (body : List Byte),
    s.m.fabricOn = true ∧ s.m.pairOp = true ∧ s.m.pair.lanes ≠ 0 ∧ s.m.standby = true :=
  ⟨Tests.on { Tests.paired with pair := { single := false, lanes := 1 } }, 77, 0, 1, [], by decide⟩

theorem witness_StandbyFollows_8 : ∃ (s : State) (ptr len type : Nat) (body : List Byte) (c : Candidate),
    s.m.fabricOn = true ∧ s.m.pairOp = true ∧ s.m.pair.lanes ≠ 0 ∧ s.m.standby = true ∧ s.m.plan.staged = some c :=
  ⟨Tests.on { Tests.paired with pair := { single := false, lanes := 1 }, plan := { Tests.paired.plan with staged := some {} } }, 77, 0, 0, [], {}, by decide⟩

theorem witness_StandbyFollows_9 : ∃ (s : State) (ptr len type : Nat) (body : List Byte),
    s.m.fabricOn = true ∧ s.m.pairOp = true ∧ s.m.pair.lanes ≠ 0 ∧ s.m.pair.role = true :=
  ⟨Tests.on { Tests.paired with pair := { single := false, lanes := 1, role := true } }, 77, 0, 1, [8], by decide⟩

theorem witness_Handover_1 : ∃ (s : State) (g : W32),
    s.m.fabricOn = true ∧ s.m.pair.yieldAt = some g ∧ s.m.pair.role = true ∧ s.m.plan.grainCnt + 1 = g ∧ 98 ≤ s.m.plan.tick :=
  ⟨Tests.on { Tests.paired with pair := { role := true, yieldAt := some 5 }, plan := { Tests.module.plan with grainCnt := 4, tick := 98 } }, 5, by decide⟩

theorem witness_Handover_2 : ∃ (s : State) (d : Int) (g : W32),
    s.m.planOn = true ∧ s.m.plan.firstGrain = true ∧ s.m.boundaryDue = true ∧ s.m.pair.lastRecord = some g :=
  ⟨Tests.on { Tests.paired with pair := { lastRecord := some 9 }, plan := { Tests.module.plan with grainCnt := 9, tick := 99, firstGrain := true } }, 0, 9, by decide⟩

theorem witness_Handover_3 : ∃ (s : State),
    s.m.planOn = true ∧ s.m.pair.driverEnabled = true ∧ s.m.plan.tick = 0 ∧ s.m.pair.partnerRole = false ∧ ((s.m.pair.announced = some s.m.plan.grainCnt ∧ 10 ≤ s.m.pair.releasedUs) ∨ (100 ≤ s.m.pair.releasedUs ∧ 3 ≤ s.m.pair.hbMiss)) ∧ s.m.standbyReady = true :=
  ⟨Tests.on { Tests.paired with plan := { Tests.module.plan with running := { beds := [] } }, pair := { driverEnabled := true, announced := some 0, releasedUs := 10, sync := .synced }, safety := { graft := { st := .run } } }, by decide⟩

theorem witness_Handover_4 : ∃ (s : State),
    s.m.fabricOn = true ∧ s.m.pairOp = true ∧ s.m.pair.role = true ∧ s.m.par 0x9002 = 1 ∧ s.m.pair.yieldAt = none ∧ s.m.pair.drillDue = false ∧ s.m.pair.partnerReady = false ∧ 1000 * s.m.parN 0x9003 ≤ s.m.power.opMs - s.m.pair.lastTakeoverMs :=
  ⟨Tests.on { Tests.paired with pair := { single := false, role := true }, power := { Tests.paired.power with opMs := 1000000000000 }, host := { Tests.module.host with snap := [(0x9002, some 1)] } }, by decide⟩

theorem witness_Handover_5 : ∃ (s : State),
    s.m.fabricOn = true ∧ s.m.pair.drillDue = true ∧ s.m.pair.drillOverdue = false ∧ 1000 * s.m.parN 0x9004 ≤ s.m.host.ms - s.m.pair.drillDueMs :=
  ⟨Tests.on { Tests.paired with pair := { drillDue := true }, host := { Tests.module.host with ms := 1000000000000 } }, by decide⟩

theorem witness_Handover_6 : ∃ (s : State) (g : W32),
    s.m.fabricOn = true ∧ s.m.pair.drillCheck = some g ∧ 200 ≤ (s.m.plan.grainCnt - g).toNat ∧ s.m.pair.drillHandoverOk = true ∧ s.m.pair.drillReady = true :=
  ⟨Tests.on { Tests.paired with pair := { drillCheck := some 0, drillReady := true }, plan := { Tests.module.plan with grainCnt := 200 } }, 0, by decide⟩

theorem witness_Handover_7 : ∃ (s : State) (g : W32),
    s.m.fabricOn = true ∧ s.m.pair.drillCheck = some g ∧ 200 ≤ (s.m.plan.grainCnt - g).toNat ∧ s.m.pair.drillHandoverOk = true ∧ s.m.pair.drillReady = false :=
  ⟨Tests.on { Tests.paired with pair := { drillCheck := some 0 }, plan := { Tests.module.plan with grainCnt := 200 } }, 0, by decide⟩

theorem witness_Handover_8 : ∃ (s : State) (ptr len type : Nat) (body : List Byte),
    s.m.fabricOn = true ∧ s.m.pairOp = true ∧ s.m.pair.lanes ≠ 0 ∧ s.m.standby = true :=
  ⟨Tests.on { Tests.paired with pair := { single := false, lanes := 1 } }, 0, 0, 0, [3, 1, 0, 0, 0, 0, 0x55], by decide⟩

theorem witness_Handover_9 : ∃ (s : State) (ptr len type : Nat) (body : List Byte) (g : W32) (c : Candidate),
    s.m.fabricOn = true ∧ s.m.pairOp = true ∧ s.m.pair.lanes ≠ 0 ∧ s.m.standby = true ∧ rdN body 0 1 ≠ 0 ∧ s.m.plan.scheduled = some g ∧ s.m.plan.staged = some c :=
  ⟨Tests.on { Tests.paired with pair := { single := false, lanes := 1 }, plan := { Tests.paired.plan with staged := some {}, scheduled := some 77 } }, 0, 1, 0, [2], 77, {}, by decide⟩

theorem witness_SessionRows_1 : ∃ (s : State) (rq : HostReq) (c : Nat),
    s.m.powered = true ∧ s.m.servesHost = true ∧ c = reqNum rq 0x0001 0 2 ∧ rq.malformed = false ∧ tlvFault ⟨0x0001, 0, .yes, [0x0001, 0x0002], [], [], true⟩ rq.malformed rq.tlvs = none ∧ s.m.credOk c rq.net rq.addr = true ∧ s.m.openedBy c (tlvVal rq.tlvs 0x0002) rq.seq = none ∧ s.m.host.sessions.length < 16 :=
  ⟨Tests.on { Tests.module with power := { Tests.module.power with credKeys := [(0, ⟨[1], 1⟩)] }, host := { Tests.module.host with snap := [(0xE000, some 1), (0xE003, some 3)] } }, { seq := 1, tlvs := [⟨0x0001, [0, 0]⟩, ⟨0x0002, List.replicate 16 3⟩] }, 0, by decide⟩

theorem witness_SessionRows_2 : ∃ (s : State) (rq : HostReq) (e : Session),
    s.m.Admits 0x0002 rq e :=
  ⟨Tests.on Tests.hosted, Tests.req [], Tests.session, by decide⟩

theorem witness_SessionRows_3 : ∃ (s : State) (rq : HostReq) (e : Session),
    s.m.Admits 0x0003 rq e :=
  ⟨Tests.on Tests.hosted, Tests.req [], Tests.session, by decide⟩

theorem witness_SessionRows_4 : ∃ (s : State) (rq : HostReq) (e : Session),
    s.m.Admits 0x0004 rq e ∧ (∀ x ∈ rq.tlvs, x.type = 0x0004 → ∃ n ∈ e.notices, n.seq = rdN x.value 0 4) :=
  ⟨Tests.on Tests.hosted, Tests.req [⟨0x0004, leN 4 4⟩], Tests.session, by decide⟩

theorem witness_SessionRows_5 : ∃ (s : State) (sid : Nat) (e : Session),
    s.m.supRuns = true ∧ s.m.session? sid = some e ∧ 1000 * s.m.parN 0xA0C0 ≤ s.m.host.ms - e.lastReq :=
  ⟨Tests.on { Tests.hosted with host := { Tests.hosted.host with ms := 1000000000 } }, 7, Tests.session, by decide⟩

theorem witness_SessionRows_6 : ∃ (s : State) (sid q : Nat) (e : Session) (n : Notice),
    s.m.supRuns = true ∧ s.m.session? sid = some e ∧ e.notices = [n] ∧ n.seq = q ∧ s.m.parN 0xA0C2 ≤ s.m.host.ms - n.sentAt ∧ n.tries - 1 < s.m.parN 0xA0C3 :=
  ⟨Tests.on { Tests.hosted with host := { Tests.hosted.host with ms := 1000000000 } }, 7, 4, Tests.session, { seq := 4 }, by decide⟩

theorem witness_SessionRows_7 : ∃ (s : State) (sid q : Nat) (e : Session) (n : Notice),
    s.m.supRuns = true ∧ s.m.session? sid = some e ∧ e.notices = [n] ∧ n.seq = q ∧ s.m.parN 0xA0C2 ≤ s.m.host.ms - n.sentAt ∧ s.m.parN 0xA0C3 ≤ n.tries - 1 :=
  ⟨Tests.on { Tests.hosted with host := { Tests.hosted.host with ms := 1000000000, sessions := [{ Tests.session with notices := [{ seq := 4, tries := 100 }] }] } }, 7, 4, { Tests.session with notices := [{ seq := 4, tries := 100 }] }, { seq := 4, tries := 100 }, by decide⟩

theorem witness_SessionRows_8 : ∃ (s : State) (addr : Nat),
    s.m.supRuns = true :=
  ⟨Tests.on Tests.hosted, 5, by decide⟩

theorem witness_SessionRows_9 : ∃ (s : State) (net addr port : Nat) (bytes : List Byte) (e : Session),
    s.m.powered = true ∧ s.m.servesHost = true ∧ net < 2 ∧ s.m.netAllows net addr = true ∧ s.m.isBlocked addr = false ∧ 40 ≤ bytes.length ∧ rdN bytes 0 2 = 0x4B58 ∧ rdN bytes 2 1 = 1 ∧ rdN bytes 16 4 ≤ 8192 ∧ rdN bytes 16 4 = bytes.length - 40 ∧ rdN bytes 3 1 &&& 11 = 0 ∧ rdN bytes 4 2 ≠ 1 ∧ s.m.session? (rdN bytes 12 4) = some e ∧ packetTag e.key (bytes.take (bytes.length - 16)) = bytes.drop (bytes.length - 16) :=
  ⟨Tests.on Tests.hosted, 0, 5, 6, Tests.packet, Tests.session, by decide +kernel⟩

theorem witness_SessionRows_10 : ∃ (s : State) (net addr port : Nat) (bytes : List Byte),
    s.m.powered = true ∧ s.m.servesHost = true ∧ net < 2 ∧ s.m.netAllows net addr = true ∧ s.m.isBlocked addr = false ∧ bytes.length < 40 :=
  ⟨Tests.on Tests.hosted, 0, 5, 6, [], by decide⟩

theorem witness_SessionRows_11 : ∃ (s : State) (net addr port : Nat) (bytes : List Byte),
    s.m.powered = true ∧ net < 2 ∧ s.m.parN (0xA00D + 48 * net) = 1 ∧ (∀ k < 16, s.m.parN (0xA020 + k + 48 * net) ≠ 0 → addr &&& s.m.parN (0xA020 + k + 48 * net) ≠ s.m.parN (0xA010 + k + 48 * net) &&& s.m.parN (0xA020 + k + 48 * net)) :=
  ⟨Tests.on { Tests.hosted with host := { Tests.hosted.host with snap := [(0xA00D, some 1)] } }, 0, 5, 6, [], by decide +kernel⟩

theorem witness_PointRows_1 : ∃ (s : State) (rq : HostReq) (e : Session) (v : List Byte) (ids : List Nat) (g : W32) (d : Mod),
    s.m.Admits 0x0101 rq e ∧ s.m.power.state ≠ .parked ∧ s.dir = some (g, d) ∧ rq.tlvs = [⟨0x0010, v⟩] ∧ (ids = (List.range (v.length / 4)).map fun k => rdN v (4 * k) 4) ∧ (∀ i ∈ ids, (pointGroup i).isSome = true) :=
  ⟨{ Tests.on Tests.hosted with dir0 := { complete := true } }, Tests.req [⟨0x0010, leN 4 0x2000⟩], Tests.session, leN 4 0x2000, [0x2000], 0, default, by decide⟩

theorem witness_PointRows_2 : ∃ (s : State) (rq : HostReq) (e : Session) (v : List Byte) (x : Stream),
    s.m.Admits 0x0102 rq e ∧ v = tlvVal rq.tlvs 0x0013 ∧ v.length = 8 + 8 * rdN v 5 1 ∧ 1 ≤ rdN v 0 2 ∧ rdN v 0 2 ≤ 60000 ∧ 1 ≤ rdN v 4 1 ∧ rdN v 4 1 ≤ 3 ∧ 1 ≤ rdN v 5 1 ∧ rdN v 5 1 ≤ 16 ∧ (x = { id := s.m.streamId, sid := rq.session, period := rdN v 0 2, port := if rdN v 2 2 = 0 then rq.port else rdN v 2 2, addr := rq.addr, nets := BitVec.ofNat 2 (rdN v 4 1), ranges := (List.range (rdN v 5 1)).map fun k => (rdN v (8 + 8 * k) 4, rdN v (12 + 8 * k) 4) }) ∧ (∀ r ∈ x.ranges, 1 ≤ r.2 ∧ r.2 ≤ 65536 ∧ (pointGroup r.1).isSome = true) ∧ x.points ≤ 65536 ∧ ((s.m.host.streams.filter fun y => y.sid == rq.session).length < 8) ∧ s.m.host.streams.length < 32 ∧ (∀ b < 2, x.nets.getLsbD b = true → rsum ((s.m.host.streams.filter fun y => y.nets.getLsbD b).map Stream.load) + x.load ≤ ((1000000 * s.m.parN 0xA0C5 : Nat) : Rat)) :=
  ⟨Tests.on Tests.hosted, Tests.req [⟨0x0013, leN 2 10 ++ leN 2 0 ++ u8 1 ++ u8 1 ++ [0, 0] ++ leN 4 0x2000 ++ leN 4 1⟩], Tests.session, leN 2 10 ++ leN 2 0 ++ u8 1 ++ u8 1 ++ [0, 0] ++ leN 4 0x2000 ++ leN 4 1, { id := 1, sid := 7, period := 10, nets := 1, ranges := [(0x2000, 1)] }, by decide +kernel⟩

theorem witness_PointRows_3 : ∃ (s : State) (rq : HostReq) (e : Session),
    s.m.Admits 0x0103 rq e ∧ (∃ x ∈ s.m.host.streams, x.id = reqNum rq 0x0014 0 2 ∧ x.sid = rq.session) :=
  ⟨Tests.on { Tests.hosted with host := { Tests.hosted.host with streams := [{ id := 3, sid := 7 }] } }, Tests.req [⟨0x0014, leN 2 3⟩], Tests.session, by decide⟩

theorem witness_PointRows_4 : ∃ (s : State) (rq : HostReq) (e : Session) (v : List Byte) (ids : List Nat),
    s.m.Admits 0x0110 rq e ∧ v = tlvVal rq.tlvs 0x0020 ∧ (ids = (List.range (v.length / 2)).map fun k => rdN v (2 * k) 2) ∧ (∀ i ∈ ids, (paramRow i).isSome = true) :=
  ⟨Tests.on Tests.hosted, Tests.req [⟨0x0020, leN 2 0x3040 ++ leN 2 0x7005⟩], Tests.session, leN 2 0x3040 ++ leN 2 0x7005, [0x3040, 0x7005], by decide⟩

theorem witness_PointRows_5 : ∃ (s : State) (rq : HostReq) (e : Session) (es : List (Nat × Nat × List Byte)),
    s.m.Admits 0x0111 rq e ∧ 1 ≤ e.role ∧ es = paramEntries (tlvVal rq.tlvs 0x0021) ∧ (∀ x ∈ es, paramRoleOk e.role x.1 = true) ∧ (s.m.noted rq e).ownsNow rq.session = true ∧ (s.m.noted rq e).paramFault es = none ∧ (s.m.noted rq e).paramCross ((s.m.noted rq e).paramVals es) = none :=
  ⟨Tests.on { Tests.hosted with disp := { Tests.hosted.disp with owner := some 7 } }, Tests.req [⟨0x0021, leN 2 0x3040 ++ u8 (paramType 0x3040) ++ [0] ++ leI 8 (paramDefault 0x3040)⟩], Tests.session, [(0x3040, paramType 0x3040, leI 8 (paramDefault 0x3040))], by decide⟩

theorem witness_PointRows_6 : ∃ (s : State) (id : Nat) (x : Stream) (e : Session) (d : Mod) (g : W32),
    s.m.supRuns = true ∧ s.m.upd.recovery = false ∧ s.m.plan.firstGrain = true ∧ s.m.host.streams = [x] ∧ x.id = id ∧ s.m.plan.grainCnt.toNat % x.period = 0 ∧ s.dir = some (g, d) ∧ g + 1 = s.m.plan.grainCnt ∧ s.m.session? x.sid = some e :=
  ⟨{ Tests.on { Tests.hosted with plan := { Tests.module.plan with grainCnt := 20 }, host := { Tests.hosted.host with streams := [{ id := 3, sid := 7, period := 10 }] } } with dir1 := { complete := true, grain := 19 } }, 3, { id := 3, sid := 7, period := 10 }, Tests.session, default, 19, by decide⟩

theorem witness_PointRows_7 : ∃ (s : State) (id : Nat) (x : Stream),
    s.m.supRuns = true ∧ s.m.upd.recovery = false ∧ s.m.plan.firstGrain = true ∧ s.m.host.streams = [x] ∧ x.id = id ∧ s.m.plan.grainCnt.toNat % x.period = 0 :=
  ⟨Tests.on { Tests.hosted with plan := { Tests.module.plan with grainCnt := 20 }, host := { Tests.hosted.host with streams := [{ id := 3, sid := 7, period := 10 }] } }, 3, { id := 3, sid := 7, period := 10 }, by decide⟩

theorem witness_PointRows_8 : ∃ (s : State) (g : W32) (d : Mod),
    s.m.supRuns = true ∧ s.dir = some (g, d) ∧ s.m.host.watchCopy ≠ some g :=
  ⟨{ Tests.on Tests.hosted with dir1 := { complete := true, grain := 19 } }, 19, default, by decide⟩

theorem witness_ExchangeRows_1 : ∃ (s : State) (rq : HostReq) (e : Session),
    s.m.Admits 0x0130 rq e ∧ 1 ≤ reqNum rq 0x0030 4 4 ∧ reqNum rq 0x0030 4 4 ≤ 8176 ∧ reqNum rq 0x0030 0 4 + reqNum rq 0x0030 4 4 ≤ 0x1000000 ∧ s.m.xaPoisoned (reqNum rq 0x0030 0 4) (reqNum rq 0x0030 4 4) = false :=
  ⟨Tests.on Tests.hosted, Tests.req [⟨0x0030, leN 4 0x100 ++ leN 4 8⟩], Tests.session, by decide⟩

theorem witness_ExchangeRows_2 : ∃ (s : State) (rq : HostReq) (e : Session),
    s.m.Admits 0x0131 rq e ∧ 1 ≤ reqNum rq 0x0030 4 4 ∧ reqNum rq 0x0030 4 4 ≤ 8176 ∧ reqNum rq 0x0030 4 4 = (tlvVal rq.tlvs 0x0031).length ∧ reqNum rq 0x0030 0 4 + reqNum rq 0x0030 4 4 ≤ 0x1000000 ∧ Memory.wf s.m.host.xa = true :=
  ⟨Tests.on Tests.hosted, Tests.req [⟨0x0030, leN 4 0x100 ++ leN 4 2⟩, ⟨0x0031, [5, 6]⟩], Tests.session, by decide⟩

theorem witness_ExchangeRows_3 : ∃ (s : State) (rq : HostReq) (e : Session),
    s.m.Admits 0x0140 rq e ∧ reqNum rq 0x0070 0 4 + reqNum rq 0x0070 4 4 ≤ 0x1000000 ∧ reqNum rq 0x0070 8 2 = 1 ∧ reqNum rq 0x0070 10 1 = 0 :=
  ⟨Tests.on Tests.hosted, Tests.req [⟨0x0070, leN 4 0x100 ++ leN 4 2 ++ leN 2 1 ++ u8 0 ++ [0]⟩], Tests.session, by decide⟩

theorem witness_ExchangeRows_4 : ∃ (s : State) (rq : HostReq) (e : Session),
    s.m.Admits 0x0140 rq e ∧ reqNum rq 0x0070 0 4 + reqNum rq 0x0070 4 4 ≤ 0x1000000 ∧ e.slot < 16 ∧ (0x8000 ≤ reqNum rq 0x0070 8 2 ∧ reqNum rq 0x0070 10 1 ≤ 1 ∨ reqNum rq 0x0070 8 2 = 1 ∧ reqNum rq 0x0070 10 1 = 1) ∧ s.m.pairOp = true ∧ s.m.pair.partnerDown = false ∧ s.m.pair.lanes ≠ 0 :=
  ⟨Tests.on { Tests.hosted with power := Tests.paired.power, pair := { role := true, single := false, lanes := 1 } }, Tests.req [⟨0x0070, leN 4 0x100 ++ leN 4 2 ++ leN 2 1 ++ u8 1 ++ [0]⟩], Tests.session, by decide⟩

theorem witness_ExchangeRows_5 : ∃ (s : State) (rq : HostReq) (e : Session),
    s.m.Admits 0x0141 rq e :=
  ⟨Tests.on Tests.hosted, Tests.req [], Tests.session, by decide⟩

theorem witness_ExchangeRows_6 : ∃ (s : State) (rq : HostReq) (e : Session),
    s.m.Admits 0x0142 rq e ∧ e.slot < 16 ∧ reqNum rq 0x0072 0 4 ≤ 7 :=
  ⟨Tests.on Tests.hosted, Tests.req [⟨0x0072, leN 4 7⟩], Tests.session, by decide⟩

theorem witness_ExchangeRows_7 : ∃ (s : State) (k : Nat),
    s.m.supRuns = true ∧ k < 16 ∧ (s.m.mbx k).inFull = true ∧ (s.m.mbx k).inType ≠ 1 :=
  ⟨Tests.on { Tests.hosted with host := { Tests.hosted.host with mbx := [(0, { inFull := true, inType := 0x8000 })] } }, 0, by decide⟩

theorem witness_ExchangeRows_8 : ∃ (s : State) (k : Nat) (e : Session) (its : List (Option (List Byte))) (out : List Byte) (m : Mod),
    s.m.supRuns = true ∧ k < 16 ∧ (s.m.mbx k).inFull = true ∧ (s.m.mbx k).inType = 1 ∧ s.m.host.sessions = [e] ∧ e.slot = k ∧ s.m.host.batches = [] ∧ s.m.xaPoisoned (s.m.mbx k).inPtr.toNat (s.m.mbx k).inLen.toNat = false ∧ (Mod.runBatch s.dir e.sid 1 ((s.m.mbx k).inLen.toNat / 24 + 1) (tgets s.m.host.xa (s.m.mbx k).inPtr.toNat (s.m.mbx k).inLen.toNat) [] (s.m.onMbx k fun b => { b with inFull := false }) = (its, m)) ∧ (∀ x ∈ its, x.isSome = true) ∧ out = its.flatMap (·.getD []) ∧ m.servesHost = true ∧ m.host.batches = [] ∧ (∃ x ∈ m.host.sessions, x.sid = e.sid) ∧ (s.m.mbx k).inPtr.toNat + (s.m.mbx k).inLen.toNat + out.length ≤ 0x1000000 :=
  ⟨Tests.on { Tests.hosted with host := { Tests.hosted.host with mbx := [(0, { inFull := true, inType := 1 })] } }, 0, Tests.session, [], [], { Tests.hosted with host := { Tests.hosted.host with mbx := [(0, { inType := 1 })] } }, by decide⟩

theorem witness_EstimateAndRecorderRows_1 : ∃ (s : State) (rq : HostReq) (e : Session),
    s.m.Admits 0x0150 rq e ∧ 1 ≤ reqNum rq 0x0043 4 4 ∧ reqNum rq 0x0043 0 4 + reqNum rq 0x0043 4 4 ≤ 20480 ∧ 64 * reqNum rq 0x0043 4 4 ≤ reqNum rq 0x0032 4 4 ∧ reqNum rq 0x0032 0 4 + reqNum rq 0x0032 4 4 ≤ 0x1000000 :=
  ⟨Tests.on Tests.hosted, Tests.req [⟨0x0032, leN 4 0x100 ++ leN 4 64⟩, ⟨0x0043, leN 4 1920 ++ leN 4 1⟩], Tests.session, by decide⟩

theorem witness_EstimateAndRecorderRows_2 : ∃ (s : State) (rq : HostReq) (e : Session) (img : List Byte),
    s.m.Admits 0x0151 rq e ∧ img = tgets s.m.host.xa (reqNum rq 0x0030 0 4) (reqNum rq 0x0030 4 4) ∧ reqNum rq 0x0030 4 4 ≤ 0x1000000 ∧ reqNum rq 0x0030 0 4 + reqNum rq 0x0030 4 4 ≤ 0x1000000 ∧ s.m.xaPoisoned (reqNum rq 0x0030 0 4) (reqNum rq 0x0030 4 4) = false ∧ rdN img 0 4 = 0x4B584543 ∧ rdN img 4 2 = 1 ∧ rdN img 8 4 ≠ 0 ∧ rdN img 8 4 ≤ 20480 ∧ img.length = rdN img 0x0C 4 ∧ img.length = 64 + 160 * rdN img 8 4 + 4 ∧ (crc32c (img.take 0x3C)).toNat = rdN img 0x3C 4 ∧ (crc32c (img.take (img.length - 4))).toNat = rdN img (img.length - 4) 4 ∧ s.m.est.restore = none :=
  ⟨Tests.on { Tests.hosted with host := { Tests.hosted.host with xa := Tests.restoreXa } }, Tests.req [⟨0x0030, leN 4 0 ++ leN 4 228⟩], Tests.session, Tests.restoreImage, by
    refine ⟨?_, rfl, ?_, ?_, ?_, ?_, ?_, ?_, ?_, ?_, ?_, ?_, test_restore_crc, ?_⟩ <;> decide +kernel⟩

theorem witness_EstimateAndRecorderRows_3 : ∃ (s : State) (rq : HostReq) (e : Session) (g : Nat),
    s.m.Admits 0x0152 rq e ∧ s.m.standby = false ∧ s.m.plan.mode ≠ .stopped ∧ (tlv? rq.tlvs 0x0041).isSome = true ∧ reqNum rq 0x0041 0 4 < 20480 ∧ g = (s.m.plan.grainCnt + 1).toNat :=
  ⟨Tests.on Tests.hosted, Tests.req [⟨0x0041, leN 4 1921⟩], Tests.session, 1, by decide⟩

theorem witness_EstimateAndRecorderRows_4 : ∃ (s : State) (rq : HostReq) (e : Session) (g : Nat),
    s.m.Admits 0x0152 rq e ∧ s.m.standby = false ∧ s.m.plan.mode = .stopped ∧ (tlv? rq.tlvs 0x0041).isSome = true ∧ reqNum rq 0x0041 0 4 < 20480 ∧ g = (s.m.plan.grainCnt + 1).toNat :=
  ⟨Tests.on { Tests.hosted with plan := { Tests.hosted.plan with mode := .stopped } }, Tests.req [⟨0x0041, leN 4 1921⟩], Tests.session, 1, by decide⟩

theorem witness_EstimateAndRecorderRows_5 : ∃ (s : State) (rq : HostReq) (e : Session) (q : QuerySt),
    s.m.Admits 0x0160 rq e ∧ tlv? rq.tlvs 0x0091 = none ∧ q = { sid := rq.session, seq := rq.seq, from_ := reqNum rq 0x0090 0 4, count := reqNum rq 0x0090 4 4, codeLo := reqNum rq 0x0090 8 2, codeHi := reqNum rq 0x0090 10 2, source := reqNum rq 0x0090 12 2, classes := reqNum rq 0x0090 14 1, kind := reqNum rq 0x0090 15 1, dest := reqNum rq 0x0032 0 4, maxLen := reqNum rq 0x0032 4 4 } ∧ 1 ≤ q.count ∧ q.count ≤ 131072 ∧ q.codeLo ≤ q.codeHi ∧ q.classes ≠ 0 ∧ q.kind ≤ 2 ∧ 64 * q.count ≤ q.maxLen ∧ q.dest + q.maxLen ≤ 0x1000000 ∧ (∀ x ∈ s.m.store.queries, x.sid ≠ rq.session) ∧ (s.m.noted rq e).queryFromDram q = true :=
  ⟨Tests.on Tests.hosted, Tests.req [⟨0x0090, leN 4 1 ++ leN 4 2 ++ leN 2 0 ++ leN 2 0xFFFF ++ leN 2 0 ++ u8 7 ++ u8 0⟩, ⟨0x0032, leN 4 0x100 ++ leN 4 128⟩], Tests.session, { sid := 7, seq := 1, from_ := 1, count := 2, codeHi := 0xFFFF, classes := 7, dest := 0x100, maxLen := 128 }, by decide⟩

theorem witness_EstimateAndRecorderRows_6 : ∃ (s : State) (rq : HostReq) (e : Session) (v : List Byte),
    s.m.Admits 0x0161 rq e ∧ tlv? rq.tlvs 0x0093 = some v ∧ rdN v 0 4 ≠ 0 ∧ (∃ c ∈ e.confirms, c.opcode = 0x0161 ∧ c.value = rdN v 0 4 ∧ s.m.host.ms < c.expires) ∧ s.m.store.markers.length < markerCap ∧ s.m.store.queries = [] :=
  ⟨Tests.on Tests.hosted, Tests.req [⟨0x0093, leN 4 5⟩], Tests.session, leN 4 5, by decide⟩

theorem witness_EstimateAndRecorderRows_7 : ∃ (s : State) (sid : Nat),
    s.m.supRuns = true :=
  ⟨Tests.on Tests.hosted, 7, by decide⟩

theorem witness_EstimateAndRecorderRows_8 : ∃ (s : State) (sid : Nat) (q : QuerySt) (m : Mod),
    s.m.supRuns = true ∧ s.m.store.queries = [q] ∧ q.sid = sid ∧ (s.m.dmaCh 11).use ≠ .query sid ∧ (m = (s.m.onStore fun x => { x with queries := [] }).onSession sid fun x => { x with query := none }) :=
  ⟨Tests.on { Tests.hosted with store := { Tests.hosted.store with queries := [{ sid := 7, kind := 1, count := 1 }] } }, 7, { sid := 7, kind := 1, count := 1 }, { Tests.hosted with store := { Tests.hosted.store with queries := [] } }, by decide⟩

theorem witness_DispatchRows_1 : ∃ (s : State) (rq : HostReq) (e : Session),
    s.m.Admits 0x0201 rq e ∧ s.m.plan.mode ≠ .stopped :=
  ⟨Tests.on Tests.hosted, Tests.req [], Tests.session, by decide⟩

theorem witness_DispatchRows_2 : ∃ (s : State) (rq : HostReq) (e : Session),
    s.m.Admits 0x0202 rq e ∧ s.m.plan.mode ≠ .stopped :=
  ⟨Tests.on Tests.hosted, Tests.req [], Tests.session, by decide⟩

theorem witness_DispatchRows_3 : ∃ (s : State) (rq : HostReq) (e : Session),
    s.m.Admits 0x0203 rq e ∧ s.m.plan.mode ≠ .stopped :=
  ⟨Tests.on Tests.hosted, Tests.req [], Tests.session, by decide⟩

theorem witness_DispatchRows_4 : ∃ (s : State) (rq : HostReq) (e : Session),
    s.m.Admits 0x0204 rq e ∧ s.m.plan.mode ≠ .stopped :=
  ⟨Tests.on Tests.hosted, Tests.req [], Tests.session, by decide⟩

theorem witness_DispatchRows_5 : ∃ (s : State) (rq : HostReq) (e : Session),
    s.m.Admits 0x0210 rq e ∧ s.m.plan.mode ≠ .stopped :=
  ⟨Tests.on Tests.hosted, Tests.req [⟨0x0050, leN 4 1000⟩], Tests.session, by decide⟩

theorem witness_DispatchRows_6 : ∃ (s : State) (rq : HostReq) (e : Session),
    s.m.Admits 0x0211 rq e ∧ s.m.plan.mode ≠ .stopped :=
  ⟨Tests.on Tests.hosted, Tests.req [⟨0x0051, leN 8 1000 ++ leN 4 5 ++ leN 4 6 ++ leN 4 7⟩], Tests.session, by decide⟩

theorem witness_DispatchRows_7 : ∃ (s : State) (rq : HostReq) (e : Session),
    s.m.Admits 0x0212 rq e ∧ s.m.plan.mode ≠ .stopped :=
  ⟨Tests.on Tests.hosted, Tests.req [⟨0x0052, leN 8 1000⟩], Tests.session, by decide⟩

theorem witness_DispatchRows_8 : ∃ (s : State) (rq : HostReq) (e : Session),
    s.m.Admits 0x0213 rq e ∧ s.m.plan.mode ≠ .stopped :=
  ⟨Tests.on Tests.hosted, Tests.req [], Tests.session, by decide⟩

theorem witness_DispatchRows_9 : ∃ (s : State) (rq : HostReq) (e : Session),
    s.m.Admits 0x0214 rq e ∧ s.m.plan.mode ≠ .stopped :=
  ⟨Tests.on Tests.hosted, Tests.req [], Tests.session, by decide⟩

theorem witness_DispatchRows_10 : ∃ (s : State) (rq : HostReq) (e : Session),
    s.m.Admits 0x0215 rq e :=
  ⟨Tests.on Tests.hosted, Tests.req [⟨0x0040, leN 4 8⟩], Tests.session, by decide⟩

theorem witness_DispatchRows_11 : ∃ (s : State) (rq : HostReq) (e : Session) (g : Nat),
    s.m.Admits 0x0216 rq e ∧ (s.m.noted rq e).ownsNow rq.session = true ∧ reqNum rq 0x0053 0 4 &&& reqNum rq 0x0053 4 4 = 0 ∧ reqNum rq 0x0053 0 4 ||| reqNum rq 0x0053 4 4 ≠ 0 ∧ s.m.upd.service = false ∧ g = (s.m.plan.grainCnt + 1).toNat :=
  ⟨Tests.on { Tests.hosted with disp := { Tests.hosted.disp with owner := some 7 } }, Tests.req [⟨0x0053, leN 4 8 ++ leN 4 0⟩], Tests.session, 1, by decide⟩

theorem witness_PlanAndClearRows_1 : ∃ (s : State) (rq : HostReq) (e : Session),
    s.m.Admits 0x0401 rq e ∧ s.m.plan.mode ≠ .stopped ∧ reqMask rq ≠ 0 ∧ reqNum rq 0x0048 0 4 ≤ 1 :=
  ⟨Tests.on Tests.hosted, Tests.req [⟨0x0040, leN 4 8⟩, ⟨0x0048, leN 4 0⟩], Tests.session, by decide⟩

theorem witness_PlanAndClearRows_2 : ∃ (s : State) (rq : HostReq) (e : Session) (n c : Nat),
    s.m.Admits 0x0401 rq e ∧ s.m.plan.mode = .stopped ∧ n < 32 ∧ reqMask rq = 2 ^ n ∧ reqNum rq 0x0048 0 4 = 0 ∧ 1 ≤ c ∧ c ≤ 18 ∧ c ≠ cTone ∧ c ≠ cGroup ∧ (s.m.strProt n).cause = BitVec.ofNat 18 (2 ^ (c - 1)) ∧ (s.m.noted rq e).clearCond n c = true :=
  ⟨Tests.on { Tests.hosted with plan := { Tests.hosted.plan with mode := .stopped }, prot := { strs := [(3, { cause := 0x2000 })] } }, Tests.req [⟨0x0040, leN 4 8⟩, ⟨0x0048, leN 4 0⟩], Tests.session, 3, 14, by decide⟩

theorem witness_PlanAndClearRows_3 : ∃ (s : State) (rq : HostReq) (e : Session) (n : Nat),
    s.m.Admits 0x0402 rq e ∧ n < 32 ∧ reqMask rq = 2 ^ n ∧ (s.m.ring n).toneTrip = true ∧ 1000 ≤ (s.m.ring n).toneAbsent :=
  ⟨Tests.on { Tests.hosted with chain := { rings := [(3, { toneTrip := true, toneAbsent := 1000 })] } }, Tests.req [⟨0x0040, leN 4 8⟩], Tests.session, 3, by decide⟩

theorem witness_PlanAndClearRows_4 : ∃ (s : State) (rq : HostReq) (e : Session),
    s.m.Admits 0x0403 rq e ∧ reqNum rq 0x0042 0 1 < 32 ∧ reqNum rq 0x0042 1 1 < 40 :=
  ⟨Tests.on Tests.hosted, Tests.req [⟨0x0042, [3, 1, 0, 0]⟩], Tests.session, by decide⟩

theorem witness_PlanAndClearRows_5 : ∃ (s : State) (rq : HostReq) (e : Session) (g : Nat),
    s.m.Admits 0x0404 rq e ∧ s.m.resetSrc 2 = true ∧ g = (s.m.plan.grainCnt + 1).toNat :=
  ⟨Tests.on { Tests.hosted with safety := { cfg := [(0x809C, some 4)] } }, Tests.req [], Tests.session, 1, by decide⟩

theorem witness_PlanAndClearRows_6 : ∃ (s : State) (rq : HostReq) (e : Session) (n : Nat),
    s.m.Admits 0x0405 rq e ∧ n < 32 ∧ reqMask rq = 2 ^ n ∧ (s.m.link n).st = .fault ∧ (s.m.link n).faultFromTraining = false ∧ (s.m.link n).fault.getLsbD 2 = false ∧ (s.m.link n).fault.getLsbD 6 = false :=
  ⟨Tests.on { Tests.hosted with conv := { links := [(3, { st := .fault })] } }, Tests.req [⟨0x0040, leN 4 8⟩], Tests.session, 3, by decide⟩

theorem witness_PlanAndClearRows_7 : ∃ (s : State) (rq : HostReq) (e : Session),
    s.m.Admits 0x0406 rq e ∧ reqNum rq 0x0044 0 1 < 32 ∧ 1 ≤ reqNum rq 0x0044 1 1 ∧ reqNum rq 0x0044 1 1 < 64 ∧ (s.m.link (reqNum rq 0x0044 0 1)).st = .off :=
  ⟨Tests.on { Tests.hosted with conv := { links := [(3, { st := .off })] } }, Tests.req [⟨0x0044, [3, 2, 0, 0]⟩], Tests.session, by decide⟩

theorem witness_PlanAndClearRows_8 : ∃ (s : State) (rq : HostReq) (e : Session),
    s.m.Admits 0x0407 rq e :=
  ⟨Tests.on Tests.hosted, Tests.req [⟨0x0040, leN 4 8⟩], Tests.session, by decide⟩

theorem witness_CounterRows_1 : ∃ (s : State) (rq : HostReq) (e : Session),
    s.m.Admits 0x0410 rq e :=
  ⟨Tests.on Tests.hosted, Tests.req [], Tests.session, by decide⟩

theorem witness_CounterRows_2 : ∃ (s : State) (rq : HostReq) (e : Session),
    s.m.Admits 0x0411 rq e :=
  ⟨Tests.on Tests.hosted, Tests.req [⟨0x0040, leN 4 8⟩], Tests.session, by decide⟩

theorem witness_CounterRows_3 : ∃ (s : State) (rq : HostReq) (e : Session),
    s.m.Admits 0x0412 rq e :=
  ⟨Tests.on Tests.hosted, Tests.req [⟨0x0040, leN 4 8⟩], Tests.session, by decide⟩

theorem witness_CounterRows_4 : ∃ (s : State) (rq : HostReq) (e : Session),
    s.m.Admits 0x0413 rq e :=
  ⟨Tests.on Tests.hosted, Tests.req [⟨0x0040, leN 4 8⟩], Tests.session, by decide⟩

theorem witness_CounterRows_5 : ∃ (s : State) (rq : HostReq) (e : Session),
    s.m.Admits 0x0414 rq e :=
  ⟨Tests.on Tests.hosted, Tests.req [], Tests.session, by decide⟩

theorem witness_CounterRows_6 : ∃ (s : State) (rq : HostReq) (e : Session),
    s.m.Admits 0x0415 rq e :=
  ⟨Tests.on Tests.hosted, Tests.req [], Tests.session, by decide⟩

theorem witness_CounterRows_7 : ∃ (s : State) (rq : HostReq) (e : Session),
    s.m.Admits 0x0501 rq e ∧ reqNum rq 0x0061 0 1 = 1 :=
  ⟨Tests.on Tests.hosted, Tests.req [⟨0x0061, [1]⟩], Tests.session, by decide⟩

theorem witness_CounterRows_8 : ∃ (s : State) (rq : HostReq) (e : Session),
    s.m.Admits 0x0501 rq e ∧ reqNum rq 0x0061 0 1 = 2 :=
  ⟨Tests.on Tests.hosted, Tests.req [⟨0x0061, [2]⟩], Tests.session, by decide⟩

theorem witness_CounterRows_9 : ∃ (s : State) (rq : HostReq) (e : Session),
    s.m.Admits 0x0502 rq e ∧ s.m.canYield = true ∧ s.m.pair.yieldAt = none :=
  ⟨Tests.on { Tests.hosted with power := Tests.paired.power, pair := { single := false, role := true, partnerReady := true } }, Tests.req [], Tests.session, by decide⟩

theorem witness_SecurityRows_1 : ∃ (s : State) (rq : HostReq) (e : Session) (key : List Byte),
    s.m.Admits 0x0701 rq e ∧ reqNum rq 0x00A0 0 1 < 16 ∧ reqNum rq 0x00A0 1 3 = 0 ∧ gcmOpen (hmac e.key (ascii "KXKW")) (((tlvVal rq.tlvs 0x00A0).drop 8).take 12) ((tlvVal rq.tlvs 0x00A0).take 8) (((tlvVal rq.tlvs 0x00A0).drop 20).take 32) (((tlvVal rq.tlvs 0x00A0).drop 52).take 16) = some key ∧ (tget s.m.power.credKeys (reqNum rq 0x00A0 0 1)).generation < reqNum rq 0x00A0 4 4 ∧ key.all (· == 0) = false :=
  ⟨Tests.on Tests.hosted, Tests.req [⟨0x00A0, Tests.keyPackage⟩], Tests.session, List.replicate 32 7, by decide +kernel, by decide, by decide, test_kw_open, by decide, by decide⟩

theorem witness_SecurityRows_2 : ∃ (s : State) (rq : HostReq) (e : Session),
    s.m.Admits 0x0702 rq e ∧ reqNum rq 0x00A1 0 1 ≤ 2 ∧ reqNum rq 0x00A1 1 1 ≤ 2 ∧ reqNum rq 0x00A1 2 1 ≤ 2 ∧ reqNum rq 0x00A1 3 1 = 0 ∧ s.m.power.locked = false ∧ (s.m.power.respMesh = 2 → reqNum rq 0x00A1 0 1 = 2) ∧ (s.m.power.respGlitch = 2 → reqNum rq 0x00A1 1 1 = 2) ∧ (s.m.power.respAuth = 2 → reqNum rq 0x00A1 2 1 = 2) :=
  ⟨Tests.on Tests.hosted, Tests.req [⟨0x00A1, [2, 1, 0, 0]⟩], Tests.session, by decide⟩

theorem witness_SecurityRows_3 : ∃ (s : State) (rq : HostReq) (e : Session) (v : List Byte),
    s.m.Admits 0x0703 rq e ∧ tlv? rq.tlvs 0x0093 = some v ∧ rdN v 0 4 ≠ 0 ∧ (∃ c ∈ e.confirms, c.opcode = 0x0703 ∧ c.value = rdN v 0 4 ∧ s.m.host.ms < c.expires) ∧ s.m.violationHolds = false :=
  ⟨Tests.on { Tests.hosted with power := { Tests.hosted.power with meshOk := true } }, Tests.req [⟨0x0093, leN 4 5⟩], Tests.session, leN 4 5, by decide⟩

theorem witness_SecurityRows_4 : ∃ (s : State) (rq : HostReq) (e : Session) (v : List Byte),
    s.m.Admits 0x0704 rq e ∧ tlv? rq.tlvs 0x0093 = some v ∧ rdN v 0 4 ≠ 0 ∧ (∃ c ∈ e.confirms, c.opcode = 0x0704 ∧ c.value = rdN v 0 4 ∧ s.m.host.ms < c.expires) :=
  ⟨Tests.on Tests.hosted, Tests.req [⟨0x0093, leN 4 5⟩], Tests.session, leN 4 5, by decide⟩

theorem witness_SecurityRows_5 : ∃ (s : State) (rq : HostReq) (e : Session) (v : List Byte),
    s.m.Admits 0x0705 rq e ∧ tlv? rq.tlvs 0x0093 = some v ∧ rdN v 0 4 ≠ 0 ∧ (∃ c ∈ e.confirms, c.opcode = 0x0705 ∧ c.value = rdN v 0 4 ∧ s.m.host.ms < c.expires) ∧ (∀ n ∈ strings, s.m.linkOff n = true) ∧ (∀ g < 8, (s.m.sq g).on = false) :=
  ⟨Tests.on { Tests.hosted with conv := { links := [(3, { st := .off })] } }, Tests.req [⟨0x0093, leN 4 5⟩], Tests.session, leN 4 5, by decide⟩

theorem witness_SecurityRows_6 : ∃ (s : State) (rq : HostReq) (e : Session),
    s.m.Admits 0x0706 rq e ∧ reqNum rq 0x00A2 0 4 = 1 ∧ s.m.power.state ≠ .parked :=
  ⟨Tests.on Tests.hosted, Tests.req [⟨0x00A2, leN 4 1⟩], Tests.session, by decide⟩

theorem witness_SecurityRows_7 : ∃ (s : State) (rq : HostReq) (e : Session),
    s.m.Admits 0x0707 rq e :=
  ⟨Tests.on Tests.hosted, Tests.req [], Tests.session, by decide⟩

theorem witness_TimeMessages_1 : ∃ (s : State) (p : Nat) (f : PtpSync),
    s.m.supRuns = true ∧ p < 2 ∧ s.m.fromParent p f.domain f.source = true ∧ f.twoStep = true :=
  ⟨Tests.on Tests.timed, 0, { twoStep := true }, by decide +kernel⟩

theorem witness_TimeMessages_2 : ∃ (s : State) (p : Nat) (f : PtpSync) (o : Int),
    s.m.supRuns = true ∧ p < 2 ∧ s.m.fromParent p f.domain f.source = true ∧ f.twoStep = false ∧ s.m.standby = false ∧ s.m.time.servo = .free ∧ s.m.time.forceArmed = none ∧ o = s.m.time.epoch + (f.t2 - s.m.par (0xA00B + 48 * p)) - (f.t1 + corrNs f.corr + s.m.par (0xA00A + 48 * p)) - s.m.time.delay :=
  ⟨Tests.on Tests.timed, 0, { t1 := 7000300, t2 := 4000100 }, -3000200, by decide +kernel⟩

theorem witness_TimeMessages_3 : ∃ (s : State) (p : Nat) (f : PtpSync) (o : Int),
    s.m.supRuns = true ∧ p < 2 ∧ s.m.fromParent p f.domain f.source = true ∧ f.twoStep = false ∧ s.m.standby = false ∧ s.m.time.servo ≠ .free ∧ o = s.m.time.epoch + (f.t2 - s.m.par (0xA00B + 48 * p)) - (f.t1 + corrNs f.corr + s.m.par (0xA00A + 48 * p)) - s.m.time.delay ∧ s.m.parN 0xA0DB < (o - s.m.time.offset).natAbs ∧ s.m.time.outliers < 3 :=
  ⟨Tests.on { Tests.timed with time := { Tests.timed.time with servo := .locked } }, 0, { t1 := 2500300 }, -2500300, by decide +kernel⟩

theorem witness_TimeMessages_4 : ∃ (s : State) (p : Nat) (f : PtpSync) (o : Int),
    s.m.supRuns = true ∧ p < 2 ∧ s.m.fromParent p f.domain f.source = true ∧ f.twoStep = false ∧ s.m.standby = false ∧ (s.m.time.servo = .acquiring ∨ s.m.time.servo = .locked) ∧ s.m.time.forceArmed = none ∧ o = s.m.time.epoch + (f.t2 - s.m.par (0xA00B + 48 * p)) - (f.t1 + corrNs f.corr + s.m.par (0xA00A + 48 * p)) - s.m.time.delay ∧ ((o - s.m.time.offset).natAbs ≤ s.m.parN 0xA0DB ∨ 3 ≤ s.m.time.outliers) ∧ s.m.parN 0xA0D3 * 1000 < o.natAbs :=
  ⟨Tests.on { Tests.timed with time := { Tests.timed.time with servo := .locked, outliers := 3 } }, 0, { t1 := 2500300 }, -2500300, by decide +kernel⟩

theorem witness_TimeMessages_5 : ∃ (s : State) (p : Nat) (f : PtpSync) (o : Int) (u : Nat),
    s.m.supRuns = true ∧ p < 2 ∧ s.m.fromParent p f.domain f.source = true ∧ f.twoStep = false ∧ s.m.standby = false ∧ s.m.time.forceArmed = some u ∧ o = s.m.time.epoch + (f.t2 - s.m.par (0xA00B + 48 * p)) - (f.t1 + corrNs f.corr + s.m.par (0xA00A + 48 * p)) - s.m.time.delay ∧ (s.m.time.servo = .free ∨ (o - s.m.time.offset).natAbs ≤ s.m.parN 0xA0DB ∨ 3 ≤ s.m.time.outliers) :=
  ⟨Tests.on { Tests.timed with time := { Tests.timed.time with servo := .acquiring, forceArmed := some 9, offset := -1500300 } }, 0, { t1 := 1400300 }, -1400300, 9, by decide +kernel⟩

theorem witness_TimeMessages_6 : ∃ (s : State) (p : Nat) (f : PtpSync) (o : Int),
    s.m.supRuns = true ∧ p < 2 ∧ s.m.fromParent p f.domain f.source = true ∧ f.twoStep = false ∧ s.m.standby = false ∧ s.m.time.servo = .acquiring ∧ s.m.time.forceArmed = none ∧ s.m.time.lockRun = 3 ∧ s.m.power.cfResponding = true ∧ o = s.m.time.epoch + (f.t2 - s.m.par (0xA00B + 48 * p)) - (f.t1 + corrNs f.corr + s.m.par (0xA00A + 48 * p)) - s.m.time.delay ∧ ((o - s.m.time.offset).natAbs ≤ s.m.parN 0xA0DB ∨ 3 ≤ s.m.time.outliers) ∧ o.natAbs ≤ s.m.parN 0xA0DC ∧ o.natAbs ≤ s.m.parN 0xA0D3 * 1000 :=
  ⟨Tests.on { Tests.timed with time := { Tests.timed.time with servo := .acquiring, lockRun := 3 } }, 0, { t1 := 300 }, -300, by decide +kernel⟩

theorem witness_TimeMessages_7 : ∃ (s : State) (p : Nat) (f : PtpFollowUp) (q : PendSync),
    s.m.supRuns = true ∧ p < 2 ∧ s.m.time.pendSync = some q ∧ q.port = p ∧ q.seq = f.seq ∧ s.m.fromParent p f.domain f.source = true :=
  ⟨Tests.on { Tests.timed with time := { Tests.timed.time with pendSync := some { seq := 4 } } }, 0, { seq := 4 }, { seq := 4 }, by decide +kernel⟩

theorem witness_ServoTimers_1 : ∃ (s : State) (p : Nat) (a : Announce),
    s.m.supRuns = true ∧ p < 2 ∧ (s.m.time.ptp p).best = some a ∧ (s.m.time.ptp (1 - p)).best = none ∧ 1000 * s.m.parN 0xA0D6 ≤ s.m.host.ms - a.ms :=
  ⟨Tests.on { Tests.timed with host := { Tests.timed.host with ms := 3000 } }, 0, {}, by decide +kernel⟩

theorem witness_ServoTimers_2 : ∃ (s : State) (p g c : Nat) (a b : Announce),
    s.m.supRuns = true ∧ p < 2 ∧ (s.m.time.ptp p).best = some a ∧ (s.m.time.ptp (1 - p)).best = some b ∧ s.m.time.parent = some (p, g, c) ∧ 1000 * s.m.parN 0xA0D6 ≤ s.m.host.ms - a.ms :=
  ⟨Tests.on { Tests.timed with host := { Tests.timed.host with ms := 3000 }, time := { Tests.timed.time with portB := { best := some { gmId := 8 } } } }, 0, 0, 0, {}, { gmId := 8 }, by decide +kernel⟩

theorem witness_ServoTimers_3 : ∃ (s : State),
    s.m.supRuns = true ∧ s.m.standby = false ∧ (s.m.time.servo = .acquiring ∨ s.m.time.servo = .locked) ∧ s.m.time.outputs ≠ [] ∧ 1000 * s.m.parN 0xA0D7 ≤ s.m.host.ms - s.m.time.lastSync :=
  ⟨Tests.on { Tests.timed with host := { Tests.timed.host with ms := 3000 }, time := { Tests.timed.time with servo := .locked, outputs := [3] } }, by decide +kernel⟩

theorem witness_ServoTimers_4 : ∃ (s : State) (u : Nat),
    s.m.supRuns = true ∧ s.m.time.servo = .holdover ∧ s.m.time.holdSince = some u ∧ 1000 * s.m.parN 0xA0E0 ≤ s.m.host.ms - u :=
  ⟨Tests.on { Tests.timed with host := { Tests.timed.host with ms := 86400000 }, time := { Tests.timed.time with servo := .holdover, holdSince := some 0 } }, 0, by decide +kernel⟩

theorem witness_ServoTimers_5 : ∃ (s : State),
    s.m.supRuns = true :=
  ⟨Tests.on Tests.timed, by decide⟩

theorem witness_ServoTimers_6 : ∃ (s : State) (u : Nat),
    s.m.supRuns = true ∧ s.m.time.forceArmed = some u ∧ u ≤ s.m.host.ms :=
  ⟨Tests.on { Tests.timed with time := { Tests.timed.time with forceArmed := some 0 } }, 0, by decide⟩

theorem witness_ServoTimers_7 : ∃ (s : State),
    s.m.supRuns = true ∧ s.m.time.servo = .locked ∧ 3600000 ≤ s.m.host.ms - s.m.time.lastSave ∧ s.m.power.cfResponding = true :=
  ⟨Tests.on { Tests.timed with host := { Tests.timed.host with ms := 3600000 }, time := { Tests.timed.time with servo := .locked } }, by decide⟩

theorem witness_ServoTimers_8 : ∃ (s : State) (p : Nat) (f : PtpAnnounce),
    s.m.supRuns = true ∧ p < 2 ∧ s.m.ptpOn p = true ∧ (f.domain : Int) = s.m.par 0xA0D1 ∧ f.a.clockClass ≤ s.m.parN 0xA0E1 ∧ s.m.time.portA.best = none ∧ s.m.time.portB.best = none ∧ s.m.time.parent = none :=
  ⟨Tests.on Tests.module, 1, {}, by decide +kernel⟩

theorem witness_ServoTimers_9 : ∃ (s : State) (p g c : Nat) (f : PtpAnnounce) (b : Announce),
    s.m.supRuns = true ∧ p < 2 ∧ s.m.ptpOn p = true ∧ (f.domain : Int) = s.m.par 0xA0D1 ∧ f.a.clockClass ≤ s.m.parN 0xA0E1 ∧ (s.m.time.ptp p).best = some b ∧ (s.m.time.ptp (1 - p)).best = none ∧ f.a.better b = true ∧ s.m.time.parent = some (p, g, c) ∧ f.a.gmId ≠ g :=
  ⟨Tests.on Tests.timed, 0, 0, 0, { a := { prio1 := 1, gmId := 5 } }, {}, by decide +kernel⟩

theorem witness_ServoTimers_10 : ∃ (s : State) (p domain kind : Nat) (corr ingress egress : Int) (frame : List Byte),
    s.m.powered = true ∧ p < 2 ∧ s.m.par 0xA0E2 = 1 ∧ (domain : Int) = s.m.par 0xA0D1 :=
  ⟨Tests.on { Tests.module with host := { Tests.module.host with snap := [(0xA0E2, some 1)] } }, 0, 0, 0, 0, 5, 9, [], by decide +kernel⟩

theorem witness_RegisterLatches_1 : ∃ (s : State),
    s.m.powered = true :=
  ⟨Tests.on Tests.module, by decide⟩

theorem witness_RegisterLatches_2 : ∃ (s : State),
    s.m.powered = true :=
  ⟨Tests.on Tests.module, by decide⟩

theorem witness_RegisterLatches_3 : ∃ (s : State),
    s.m.powered = true :=
  ⟨Tests.on Tests.module, by decide⟩

theorem witness_RegisterLatches_4 : ∃ (s : State) (off : Nat) (v : Int),
    s.m.powered = true ∧ s.m.dispWide off = some v ∧ off ∉ [0x100, 0x1804, 0x1814, 0x1D24, 0x217C] :=
  ⟨Tests.on Tests.module, 0xD20, 0, by decide⟩

theorem witness_RegisterLatches_5 : ∃ (s : State),
    s.m.powered = true :=
  ⟨Tests.on Tests.module, by decide⟩

theorem witness_RegisterLatches_6 : ∃ (s : State) (rq : HostReq) (e : Session),
    s.m.Admits 0x0120 rq e ∧ reqNum rq 0x0022 0 4 % 4 = 0 ∧ reqNum rq 0x0022 0 4 + 4 * reqNum rq 0x0022 4 4 ≤ 0x10000 ∧ 1 ≤ reqNum rq 0x0022 4 4 ∧ reqNum rq 0x0022 4 4 ≤ 1024 :=
  ⟨Tests.on Tests.hosted, Tests.req [⟨0x0022, leN 4 0x100 ++ leN 4 2⟩], Tests.session, by decide⟩

theorem witness_RegisterLatches_7 : ∃ (s : State) (rq : HostReq) (e : Session) (g : Nat),
    s.m.Admits 0x0121 rq e ∧ reqNum rq 0x0022 0 4 % 4 = 0 ∧ reqNum rq 0x0022 0 4 + 4 * reqNum rq 0x0022 4 4 ≤ 0x10000 ∧ 1 ≤ reqNum rq 0x0022 4 4 ∧ reqNum rq 0x0022 4 4 ≤ 64 ∧ (tlvVal rq.tlvs 0x0023).length = 4 * reqNum rq 0x0022 4 4 ∧ (((s.m.noted rq e).diagWrites ((List.range (reqNum rq 0x0022 4 4)).map fun k => (hostOff (reqNum rq 0x0022 0 4 + 4 * k), BitVec.ofNat 32 (reqNum rq 0x0023 (4 * k) 4)))).2 = 0) ∧ (g = ((s.m.noted rq e).diagWrites ((List.range (reqNum rq 0x0022 4 4)).map fun k => (hostOff (reqNum rq 0x0022 0 4 + 4 * k), BitVec.ofNat 32 (reqNum rq 0x0023 (4 * k) 4)))).1.effGrain) :=
  ⟨Tests.on Tests.hosted, Tests.req [⟨0x0022, leN 4 0x100 ++ leN 4 1⟩, ⟨0x0023, leN 4 0⟩], Tests.session, 1, by decide⟩

theorem witness_CanReception_1 : ∃ (s : State) (p o : Nat) (f : CanFrame) (bits : Nat),
    s.m.fabricOn = true ∧ p < 4 ∧ (s.m.port p).mode ≠ 0 ∧ ((s.m.port p).err = .active ∨ (s.m.port p).err = .passive) ∧ (s.m.port p).detect = none ∧ (s.m.port p).integ = 0 ∧ s.m.ttListens p = false ∧ (s.m.port p).lock ≠ some o ∧ ((s.m.canObjs p).find? (fun k => !(s.m.canCfg p k).tx && (s.m.canCfg p k).ide == f.ide && (s.m.canCfg p k).id == f.id) = some o) :=
  ⟨Tests.on Tests.onCan, 0, 5, { id := 0x123, dlc := 2, data := [1, 2] }, 60, by decide +kernel⟩

theorem witness_CanReception_2 : ∃ (s : State) (p : Nat) (f : CanFrame) (bits : Nat),
    s.m.fabricOn = true ∧ p < 4 ∧ (s.m.port p).mode ≠ 0 ∧ ((s.m.port p).err = .active ∨ (s.m.port p).err = .passive) ∧ (s.m.port p).detect = none ∧ (s.m.port p).integ = 0 ∧ s.m.ttListens p = false ∧ ((s.m.canObjs p).find? (fun k => !(s.m.canCfg p k).tx && (s.m.canCfg p k).ide == f.ide && (s.m.canCfg p k).id == f.id) = none) :=
  ⟨Tests.on Tests.onCan, 0, { id := 0x124 }, 60, by decide +kernel⟩

theorem witness_CanReception_3 : ∃ (s : State) (p o : Nat) (f : CanFrame) (bits : Nat),
    s.m.fabricOn = true ∧ p < 4 ∧ (s.m.port p).mode ≠ 0 ∧ ((s.m.port p).err = .active ∨ (s.m.port p).err = .passive) ∧ (s.m.port p).detect = none ∧ (s.m.port p).integ = 0 ∧ s.m.ttListens p = false ∧ (s.m.port p).lock = some o ∧ ((s.m.canObjs p).find? (fun k => !(s.m.canCfg p k).tx && (s.m.canCfg p k).ide == f.ide && (s.m.canCfg p k).id == f.id) = some o) :=
  ⟨Tests.on (Tests.onCan.onPort 0 fun c => { c with lock := some 5 }), 0, 5, { id := 0x123 }, 60, by decide +kernel⟩

theorem witness_CanReception_4 : ∃ (s : State) (p : Nat) (d : CanDetect) (f : CanFrame) (bits : Nat),
    s.m.fabricOn = true ∧ p < 4 ∧ (s.m.port p).mode = 2 ∧ (s.m.port p).err = .active ∧ (s.m.port p).detect = some d ∧ (s.m.port p).integ = 0 ∧ d.run = 1 ∧ f.brs = false :=
  ⟨Tests.on (Tests.onCan.onPort 0 fun c => { c with mode := 2, detect := some { rate := 3, run := 1 } }), 0, { rate := 3, run := 1 }, {}, 60, by decide +kernel⟩

theorem witness_CanReception_5 : ∃ (s : State) (p : Nat) (f : CanFrame) (bits : Nat),
    s.m.fabricOn = true ∧ p < 4 ∧ (s.m.port p).mode = 2 ∧ ((s.m.port p).err = .active ∨ (s.m.port p).err = .passive) ∧ 0 < (s.m.port p).integ :=
  ⟨Tests.on (Tests.onCan.onPort 0 fun c => { c with mode := 2, integ := 11000 }), 0, {}, 60, by decide +kernel⟩

theorem witness_CanReception_6 : ∃ (s : State) (p lec inc : Nat),
    s.m.fabricOn = true ∧ p < 4 ∧ (s.m.port p).mode ≠ 0 ∧ (s.m.port p).integ = 0 ∧ ((s.m.port p).err = .active ∨ (s.m.port p).err = .passive) :=
  ⟨Tests.on Tests.onCan, 0, 1, 8, by decide⟩

theorem witness_CanTransmission_1 : ∃ (s : State) (p o bits : Nat),
    s.m.fabricOn = true ∧ p < 4 ∧ (s.m.port p).onBus = some (.object o) ∧ ((s.m.port p).obj o).nextData = none :=
  ⟨Tests.on (Tests.onCan.onPort 0 fun c => { c with onBus := some (.object 6) }), 0, 6, 60, by decide⟩

theorem witness_CanTransmission_2 : ∃ (s : State) (p o bits : Nat) (d : List Byte),
    s.m.fabricOn = true ∧ p < 4 ∧ (s.m.port p).onBus = some (.object o) ∧ ((s.m.port p).obj o).pending = true ∧ ((s.m.port p).obj o).nextData = some d ∧ (s.m.port p).txInhibit = false :=
  ⟨Tests.on ((Tests.onCan.onPort 0 fun c => { c with onBus := some (.object 6) }).onObj 0 6 fun x => { x with pending := true, nextData := some [1] }), 0, 6, 60, [1], by decide⟩

theorem witness_CanTransmission_3 : ∃ (s : State) (p o : Nat) (e : CanTxErr),
    s.m.fabricOn = true ∧ p < 4 ∧ (s.m.port p).onBus = some (.object o) ∧ ((s.m.port p).obj o).pending = true ∧ ((s.m.port p).obj o).nextData = none ∧ (s.m.port p).txInhibit = false ∧ (s.m.canCfg p o).tt = false ∧ (s.m.canCfg p o).retry < ((s.m.port p).obj o).attempts ∧ (s.m.port p).tec ≤ 255 ∧ e = .arbitration :=
  ⟨Tests.on ((Tests.onCan.onPort 0 fun c => { c with onBus := some (.object 6) }).onObj 0 6 fun x => { x with pending := true, attempts := 1 }), 0, 6, .arbitration, by decide +kernel⟩

theorem witness_CanTransmission_4 : ∃ (s : State) (p o lec inc : Nat),
    s.m.fabricOn = true ∧ p < 4 ∧ (s.m.port p).onBus = some (.object o) ∧ 255 < (s.m.port p).tec + inc ∧ ((s.m.port p).obj o).pending = true ∧ ((s.m.port p).obj o).nextData = none :=
  ⟨Tests.on ((Tests.onCan.onPort 0 fun c => { c with onBus := some (.object 6), tec := 250 }).onObj 0 6 fun x => { x with pending := true, attempts := 9 }), 0, 6, 1, 8, by decide +kernel⟩

theorem witness_CanTransmission_5 : ∃ (s : State) (p : Nat),
    s.m.fabricOn = true ∧ p < 4 ∧ s.m.standby = false ∧ objReserved s.m.par p (s.m.port p).txwObj = false ∧ (s.m.canCfg p (s.m.port p).txwObj).en = true ∧ (s.m.canCfg p (s.m.port p).txwObj).tx = true ∧ (s.m.port p).mode = 1 ∧ (s.m.port p).txInhibit = false ∧ (s.m.port p).onBus = none :=
  ⟨Tests.on (Tests.onCan.onPort 0 fun c => { c with txwObj := 6, txw := [7] }), 0, by decide +kernel⟩

theorem witness_CanTransmission_6 : ∃ (s : State) (p o r : Nat) (idle : Bool),
    s.m.fabricOn = true ∧ p < 4 ∧ o < 256 ∧ (s.m.canCfg p o).en = true ∧ (s.m.canCfg p o).tx = true ∧ (s.m.canCfg p o).tt = true ∧ s.m.par (canP p 15) ≠ 0 ∧ (s.m.port p).ttSync = true ∧ (s.m.port p).cycle % 2 ^ (s.m.canCfg p o).rep = (s.m.canCfg p o).base % 2 ^ (s.m.canCfg p o).rep ∧ (s.m.port p).mode = 1 ∧ s.m.acting = true ∧ (s.m.port p).refs.head? = some r ∧ o ∉ (s.m.port p).ttDone ∧ 1000 * (s.m.canCfg p o).period + r < s.m.time.extNow + 10000 ∧ (idle = false ∨ s.m.canMayTx p = false ∨ 1000 * (s.m.canCfg p o).period + r + 10000 ≤ s.m.time.extNow) :=
  ⟨Tests.on (Tests.onTt.onPort 0 fun c => { c with ttSync := true, refs := [0] }), 0, 6, 0, false, by decide +kernel⟩

theorem witness_CanTransmission_7 : ∃ (s : State) (p o r : Nat),
    s.m.fabricOn = true ∧ p < 4 ∧ o < 256 ∧ (s.m.canCfg p o).en = true ∧ (s.m.canCfg p o).tx = true ∧ (s.m.canCfg p o).tt = true ∧ s.m.par (canP p 15) ≠ 0 ∧ (s.m.port p).ttSync = true ∧ (s.m.port p).cycle % 2 ^ (s.m.canCfg p o).rep = (s.m.canCfg p o).base % 2 ^ (s.m.canCfg p o).rep ∧ s.m.canMayTx p = true ∧ (s.m.port p).refs.head? = some r ∧ o ∉ (s.m.port p).ttDone ∧ 1000 * (s.m.canCfg p o).period + r < s.m.time.extNow + 10000 ∧ s.m.time.extNow < 1000 * (s.m.canCfg p o).period + r + 10000 :=
  ⟨Tests.on (Tests.onTt.onPort 0 fun c => { c with ttSync := true, refs := [0] }), 0, 6, 0, by decide +kernel⟩

theorem witness_CanControl_1 : ∃ (s : State) (p : Nat),
    s.m.fabricOn = true ∧ p < 4 ∧ (s.m.port p).err = .busOff :=
  ⟨Tests.on (Tests.onCan.onPort 0 fun c => { c with err := .busOff }), 0, by decide⟩

theorem witness_CanControl_2 : ∃ (s : State) (p : Nat),
    s.m.fabricOn = true ∧ p < 4 ∧ (s.m.port p).mode = 2 :=
  ⟨Tests.on (Tests.onCan.onPort 0 fun c => { c with mode := 2 }), 0, by decide⟩

theorem witness_CanControl_3 : ∃ (s : State) (p : Nat),
    s.m.fabricOn = true ∧ p < 4 ∧ (s.m.port p).mode ≠ 2 :=
  ⟨Tests.on Tests.onCan, 0, by decide⟩

theorem witness_CanControl_4 : ∃ (s : State) (p : Nat) (d : CanDetect),
    s.m.fabricOn = true ∧ p < 4 ∧ (s.m.port p).detect = some d ∧ s.m.parN (canP p 14) ≤ s.m.host.ms - d.since ∧ d.rate < 8 :=
  ⟨Tests.on (({ Tests.onCan with host := { Tests.onCan.host with ms := 100000 } } : Mod).onPort 0 fun c => { c with mode := 2, detect := some {} }), 0, {}, by decide +kernel⟩

theorem witness_CanControl_5 : ∃ (s : State) (p : Nat) (d : CanDetect),
    s.m.fabricOn = true ∧ p < 4 ∧ (s.m.port p).detect = some d ∧ s.m.parN (canP p 14) ≤ s.m.host.ms - d.since ∧ 8 ≤ d.rate :=
  ⟨Tests.on (({ Tests.onCan with host := { Tests.onCan.host with ms := 100000 } } : Mod).onPort 0 fun c => { c with mode := 2, detect := some { rate := 8 } }), 0, { rate := 8 }, by decide +kernel⟩

theorem witness_CanControl_6 : ∃ (s : State) (p : Nat),
    s.m.fabricOn = true ∧ p < 4 :=
  ⟨Tests.on Tests.onCan, 0, by decide⟩

theorem witness_CanControl_7 : ∃ (s : State) (p : Nat),
    s.m.fabricOn = true ∧ p < 4 :=
  ⟨Tests.on Tests.onCan, 0, by decide⟩

theorem witness_CanControl_8 : ∃ (s : State) (p o : Nat),
    s.m.fabricOn = true ∧ p < 4 ∧ o < 256 ∧ s.m.supDown = false ∧ (s.m.port p).lock = none :=
  ⟨Tests.on Tests.onCan, 0, 5, by decide⟩

theorem witness_CanControl_9 : ∃ (s : State) (p o : Nat) (r : CanRx),
    s.m.fabricOn = true ∧ p < 4 ∧ o < 256 ∧ (s.m.port p).lock = some o ∧ (s.m.port p).held = some r :=
  ⟨Tests.on (Tests.onCan.onPort 0 fun c => { c with lock := some 5, held := some {} }), 0, 5, {}, by decide⟩

theorem witness_CanControl_10 : ∃ (s : State) (p o : Nat),
    s.m.fabricOn = true ∧ p < 4 ∧ (s.m.port p).lock = some o ∧ (s.m.port p).held = none :=
  ⟨Tests.on (Tests.onCan.onPort 0 fun c => { c with lock := some 5 }), 0, 5, by decide⟩

theorem witness_CanControl_11 : ∃ (s : State) (p : Nat),
    s.m.fabricOn = true ∧ p < 4 ∧ (s.m.port p).err = .recovering :=
  ⟨Tests.on (Tests.onCan.onPort 0 fun c => { c with err := .recovering }), 0, by decide⟩

theorem witness_CanControl_12 : ∃ (s : State) (p a b : Nat) (l : List Nat),
    s.m.fabricOn = true ∧ p < 4 ∧ (s.m.port p).refs = a :: b :: l ∧ (s.m.port p).ttSync = true ∧ s.m.par (canP p 15) = 2 ∧ (s.m.port p).mode ≠ 0 ∧ s.m.parN (canP p 19) * (a - b) ≤ s.m.time.extNow - a :=
  ⟨Tests.on { (Tests.onTt.onPort 0 fun c => { c with ttSync := true, refs := [3, 2] }) with time := { nsCnt := 900 } }, 0, 3, 2, [], by decide +kernel⟩

theorem witness_CanControl_13 : ∃ (s : State) (p cycle : Nat),
    s.m.fabricOn = true ∧ p < 4 ∧ s.m.ttListens p = true ∧ ((s.m.port p).err = .active ∨ (s.m.port p).err = .passive) :=
  ⟨Tests.on { Tests.onCan with host := { Tests.onCan.host with snap := [(canP 0 15, some 2)] } }, 0, 4, by decide +kernel⟩

theorem witness_AdcSequences_1 : ∃ (s : State) (c g b : Nat) (a : Int) (codes : List Int),
    s.m.fabricOn = true ∧ c < 3 ∧ (s.m.adcConv c).running = true ∧ (s.m.adcConv c).calRun = false ∧ (s.m.adcConv c).round = none ∧ a = (s.m.trigNs c s.m.plan.tick : Nat) ∧ (∀ e, (s.m.adcConv c).endNs = some e → e ≤ a) ∧ g = (s.m.adcConv c).gap a ∧ b = (s.m.adcConv c).carryLost - g :=
  ⟨Tests.on (Tests.module.onAdcConv 1 fun x => { x with running := true }), 1, 0, 0, Tests.module.trigNs 1 0, [5], by decide, by decide, by decide, by decide, by decide, by decide, (fun _ h => by cases h), by decide, by decide⟩

theorem witness_AdcSequences_2 : ∃ (s : State) (c n atNs : Nat) (codes : List Int) (r : AdcRound),
    s.m.fabricOn = true ∧ c < 2 ∧ n / 16 = c ∧ (s.m.adcPar (48 + c) 3).toNat.testBit 0 = true ∧ (s.m.adcConv c).calRun = false ∧ (s.m.adcConv c).running = true ∧ (s.m.adcConv c).round = some r ∧ (r.injected = none ∧ r.busyTo ≤ atNs ∨ ∃ q, 0 < q ∧ r.injected = some (atNs, q)) :=
  ⟨Tests.on (({ Tests.module with host := { Tests.module.host with snap := [(adcId 49 3, some 1)] } } : Mod).onAdcConv 1 fun x => { x with running := true, round := some {} }), 1, 20, 700, [5, 6, 7, 8], {}, by decide +kernel, by decide, by decide, by decide +kernel, by decide, by decide, by decide, .inl (by decide)⟩

theorem witness_AdcSequences_3 : ∃ (s : State) (c u v atNs : Nat) (codes : List Int) (r : AdcRound),
    s.m.fabricOn = true ∧ c < 3 ∧ (s.m.adcPar (48 + c) 3).toNat.testBit 1 = true ∧ (s.m.adcConv c).injGrain ≠ some s.m.plan.grainCnt ∧ s.m.injNs c = some u ∧ u / 10000 = s.m.plan.tick ∧ (s.m.adcConv c).round = some r ∧ v = ((u : Int) - r.start).toNat ∧ (r.injected = none ∧ v < r.busyTo ∨ ∃ t q, r.injected = some (t, q) ∧ (t ≠ v ∨ q ≤ 1)) :=
  ⟨Tests.on (({ Tests.module with host := { Tests.module.host with snap := [(adcId 50 3, some 2), (adcId 50 4, some 3)] } } : Mod).onAdcConv 2 fun x => { x with running := true, round := some { injected := some (1, 0) } }), 2, 4800, 4800, 0, [], { injected := some (1, 0) }, by decide, by decide, by decide +kernel, by decide, by decide +kernel, by decide, by decide, by decide, .inr ⟨1, 0, by decide⟩⟩

theorem witness_AdcSequences_4 : ∃ (s : State) (c atNs : Nat) (codes : List Int) (r : AdcRound),
    s.m.fabricOn = true ∧ c < 3 ∧ (s.m.adcPar (48 + c) 3).toNat.testBit 2 = true ∧ (s.m.adcConv c).calRun = false ∧ (s.m.adcConv c).running = true ∧ (s.m.adcConv c).round = some r ∧ r.injected = none ∧ r.busyTo ≤ atNs :=
  ⟨Tests.on (({ Tests.module with host := { Tests.module.host with snap := [(adcId 48 3, some 4)] } } : Mod).onAdcConv 0 fun x => { x with running := true, round := some {} }), 0, 700, [], {}, by decide +kernel⟩

theorem witness_AdcSequences_5 : ∃ (s : State) (mask : BitVec 3) (c : Nat) (l : List Nat),
    s.m.fabricOn = true ∧ setBits 3 mask.toNat = c :: l ∧ (∀ k < 3, (s.m.adcConv k).calRun = false) :=
  ⟨Tests.on Tests.module, 6#3, 1, [2], by decide⟩

theorem witness_AdcSequences_6 : ∃ (s : State) (c : Nat) (offset gain : Int),
    s.m.fabricOn = true ∧ c < 3 ∧ (s.m.adcConv c).calRun = true ∧ s.m.pair.join ≠ some .calibrate ∧ offset.natAbs ≤ 2000 ∧ gain.natAbs * 100 ≤ 1048576 :=
  ⟨Tests.on (Tests.module.onAdcConv 2 fun x => { x with calRun := true }), 2, -2000, 10485, by decide⟩

theorem witness_AdcSequences_7 : ∃ (s : State) (c : Nat) (offset gain : Int),
    s.m.fabricOn = true ∧ c < 2 ∧ (s.m.adcConv c).calRun = true ∧ s.m.pair.join = some .calibrate ∧ offset.natAbs ≤ 2000 ∧ gain.natAbs * 100 ≤ 1048576 :=
  ⟨Tests.on (({ Tests.module with pair := { join := some .calibrate } } : Mod).onAdcConv 1 fun x => { x with calRun := true }), 1, -2000, 10485, by decide⟩

theorem witness_AdcSequences_8 : ∃ (s : State) (c : Nat) (offset gain : Int),
    s.m.fabricOn = true ∧ c < 3 ∧ (s.m.adcConv c).calRun = true ∧ (s.m.adcConv c).calAgain = false ∧ (2000 < offset.natAbs ∨ 1048576 < gain.natAbs * 100) :=
  ⟨Tests.on (Tests.module.onAdcConv 2 fun x => { x with calRun := true }), 2, 2001, 0, by decide⟩

theorem witness_AdcSequences_9 : ∃ (s : State) (c : Nat) (offset gain : Int),
    s.m.fabricOn = true ∧ c < 3 ∧ (s.m.adcConv c).calRun = true ∧ (s.m.adcConv c).calAgain = true ∧ s.m.pair.join ≠ some .calibrate ∧ (2000 < offset.natAbs ∨ 1048576 < gain.natAbs * 100) :=
  ⟨Tests.on (Tests.module.onAdcConv 2 fun x => { x with calRun := true, calAgain := true }), 2, 2001, 0, by decide⟩

theorem witness_AnalogueAndPulseInputs_1 : ∃ (s : State) (p held period : Nat) (e : PiEdge),
    s.m.fabricOn = true ∧ p < 2 ∧ e.rising = decide (s.m.adcPar (36 + p) 2 = 0) ∧ (s.m.adcPar (36 + p) 3).toNat ≤ held ∧ (s.m.pi p).seen = false :=
  ⟨Tests.on Tests.module, 1, 1000, 0, { grain := 4, ns := 5 }, by decide +kernel⟩

theorem witness_AnalogueAndPulseInputs_2 : ∃ (s : State) (p held period : Nat) (e : PiEdge),
    s.m.fabricOn = true ∧ p < 2 ∧ e.rising = decide (s.m.adcPar (36 + p) 2 = 0) ∧ (s.m.adcPar (36 + p) 3).toNat ≤ held ∧ (s.m.pi p).seen = true :=
  ⟨Tests.on (Tests.module.onPi 1 fun x => { x with seen := true }), 1, 1000, 20000000, { grain := 4, ns := 5 }, by decide +kernel⟩

theorem witness_AnalogueAndPulseInputs_3 : ∃ (s : State) (p : Nat),
    s.m.fabricOn = true ∧ p < 2 ∧ 100 ≤ s.m.host.ms - (s.m.pi p).lastMs :=
  ⟨Tests.on { Tests.module with host := { Tests.module.host with ms := 100 } }, 1, by decide⟩

theorem witness_AnalogueAndPulseInputs_4 : ∃ (s : State) (a : Nat),
    s.m.fabricOn = true ∧ a < 4 ∧ (s.m.ai a).mode = 1 ∧ (s.m.ai a).burdenOpen = none :=
  ⟨Tests.on (Tests.module.onAi 2 fun x => { x with mode := 1 }), 2, by decide⟩

theorem witness_AnalogueAndPulseInputs_5 : ∃ (s : State) (a u : Nat),
    s.m.fabricOn = true ∧ a < 4 ∧ (s.m.ai a).burdenOpen = some u ∧ 1000 ≤ s.m.host.ms - u :=
  ⟨Tests.on (({ Tests.module with host := { Tests.module.host with ms := 1000 } } : Mod).onAi 2 fun x => { x with mode := 1, burdenOpen := some 0 }), 2, 0, by decide⟩

theorem witness_AnalogueAndPulseInputs_6 : ∃ (s : State) (n : Nat),
    s.m.fabricOn = true ∧ n < 32 ∧ (s.m.strAdc n).implausible = false ∧ 100 ≤ (s.m.strAdc n).badRun :=
  ⟨Tests.on (Tests.module.onStrAdc 3 fun a => { a with badRun := 100 }), 3, by decide⟩

theorem witness_AnalogueAndPulseInputs_7 : ∃ (s : State),
    s.m.fabricOn = true :=
  ⟨Tests.on Tests.module, by decide⟩

theorem witness_RecorderRows_1 : ∃ (s : State) (code item block : Nat) (data : List Byte),
    s.m.powered = true ∧ (evCatalogue.any (fun r => r.code == code) = true) ∧ (3 ≤ evClass code ∨ (rateOf s.m.store.rate (code, sourceOf item block)).1 < s.m.parN 0xD082) :=
  ⟨Tests.on Tests.module, 0xD004, 3, 9, [1], by decide +kernel⟩

theorem witness_RecorderRows_2 : ∃ (s : State) (a b : EventRec),
    s.m.powered = true ∧ s.m.store.flush = none ∧ s.m.store.undurable.head? = some a ∧ s.m.store.undurable.getLast? = some b ∧ (1000 * s.m.parN 0xD080 ≤ s.m.host.ms - s.m.store.lastFlush ∨ s.m.parN 0xD081 ≤ s.m.store.undurable.length ∨ (∃ r ∈ s.m.store.undurable, 2 ≤ r.cls)) ∧ s.m.canFlush = true :=
  ⟨Tests.on { Tests.module with store := { flashReady := true, sram := [{ rseq := 4, cls := 2 }], dram := [{ rseq := 4, cls := 2 }] } }, { rseq := 4, cls := 2 }, { rseq := 4, cls := 2 }, by decide +kernel⟩

theorem witness_RecorderRows_3 : ∃ (s : State) (f : Flush) (u : List EventRec),
    s.m.powered = true ∧ s.m.store.flush = some f ∧ s.m.store.flashReady = true ∧ s.m.store.flashHold = false ∧ s.m.store.flushAgain = false ∧ s.m.store.dropRange = none ∧ u = s.m.store.undurable ∧ u.getLast?.map (·.rseq) = some f.last ∧ (u.map (·.rseq)).Nodup :=
  ⟨Tests.on { Tests.module with store := { flashReady := true, flush := some ⟨4, 4, false⟩, sram := [{ rseq := 4, cls := 2 }], dram := [{ rseq := 4, cls := 2 }] } }, ⟨4, 4, false⟩, [{ rseq := 4, cls := 2 }], by decide⟩

theorem witness_RecorderRows_4 : ∃ (s : State),
    s.m.powered = true ∧ s.m.power.opMs % 1000 = 0 ∧ (∀ e ∈ s.m.store.rate, e.2.2 = 0) :=
  ⟨Tests.on { Tests.module with store := { rate := [((1, 2), 3, 0)] } }, by decide⟩

theorem witness_RecorderRows_5 : ∃ (s : State) (e : (Nat × Nat) × Nat × Nat),
    s.m.powered = true ∧ s.m.power.opMs % 1000 = 0 ∧ (s.m.store.rate.filter (fun e => e.2.2 != 0) = [e]) :=
  ⟨Tests.on { Tests.module with store := { rate := [((1, 2), 3, 7)] } }, ((1, 2), 3, 7), by decide⟩

theorem witness_RecorderRows_6 : ∃ (s : State) (pos : W32),
    s.m.powered = true ∧ s.m.cursorServed = true :=
  ⟨Tests.on { Tests.module with upd := { Tests.module.upd with service := true } }, 5#32, by decide⟩

theorem witness_RecorderRows_7 : ∃ (s : State) (r : EventRec),
    s.m.powered = true ∧ s.m.cursorServed = true ∧ s.m.store.curData.getLast? = some r ∧ s.m.store.curEnd = true :=
  ⟨Tests.on { Tests.module with upd := { Tests.module.upd with service := true }, store := { curData := [{ rseq := 6 }], curEnd := true } }, { rseq := 6 }, by decide⟩

theorem witness_RecorderRows_8 : ∃ (s : State) (r : EventRec),
    s.m.powered = true ∧ s.m.cursorServed = true ∧ s.m.store.curData.getLast? = some r ∧ s.m.store.curEnd = false ∧ s.m.store.curCtrl.getLsbD 0 = false :=
  ⟨Tests.on { Tests.module with upd := { Tests.module.upd with service := true }, store := { curData := [{ rseq := 6 }] } }, { rseq := 6 }, by decide⟩

theorem witness_RecorderRows_9 : ∃ (s : State) (a b : EventRec),
    s.m.powered = true ∧ s.m.store.flush = none ∧ s.m.store.undurable.head? = some a ∧ s.m.store.undurable.getLast? = some b ∧ s.m.plan.warm = false ∧ s.m.store.roMask.getLsbD 4 = false ∧ s.m.flashLate = false :=
  ⟨Tests.on { Tests.module with store := { flashHold := true, sram := [{ rseq := 4 }], dram := [{ rseq := 4 }] } }, { rseq := 4 }, { rseq := 4 }, by decide⟩

theorem witness_RecorderRows_10 : ∃ (s : State),
    s.m.powered = true :=
  ⟨Tests.on Tests.module, by decide⟩

theorem witness_StorageRows_1 : ∃ (s : State),
    s.m.powered = true ∧ s.m.store.cfgWriting = true ∧ s.m.store.flashReady = true ∧ s.m.store.flashHold = false ∧ s.m.store.bankInUse = 0 :=
  ⟨Tests.on { Tests.module with store := { flashReady := true, cfgWriting := true } }, by decide⟩

theorem witness_StorageRows_2 : ∃ (s : State) (p a : Nat),
    s.m.powered = true ∧ (partitionAt p).1 ≤ a ∧ a < (partitionAt p).1 + (partitionAt p).2 ∧ s.m.store.retired.length < 245760 :=
  ⟨Tests.on Tests.module, 3, 0x24000000, by decide⟩

theorem witness_StorageRows_3 : ∃ (s : State) (life : Nat),
    s.m.powered = true ∧ life < 100 ∧ s.m.parN 0xD085 % 256 ≤ life ∧ s.m.store.wearWarned = false ∧ s.m.store.retired.length < 245760 :=
  ⟨Tests.on Tests.module, 90, by decide +kernel⟩

theorem witness_StorageRows_4 : ∃ (s : State),
    s.m.powered = true ∧ s.m.store.wearWarned = true ∧ s.m.store.roMask.getLsbD 5 = false :=
  ⟨Tests.on { Tests.module with store := { wearWarned := true } }, by decide⟩

theorem witness_StorageRows_5 : ∃ (s : State) (k : Nat),
    s.m.powered = true ∧ s.m.store.ceHigh = true ∧ s.m.host.ms - s.m.store.ceHourFrom < 3600000 :=
  ⟨Tests.on { Tests.module with store := { ceHigh := true } }, 4, by decide⟩

theorem witness_StorageRows_6 : ∃ (s : State) (a reader bed slot : Nat) (use : DmaUse),
    s.m.powered = true ∧ 0x80000000 ≤ a ∧ a < 0x81000000 ∧ s.m.store.poison.contains (a / 64 * 64) = false :=
  ⟨Tests.on Tests.module, 0x80000047, 3, 0, 0, .none, by decide⟩

theorem witness_StorageRows_7 : ∃ (s : State) (ch : Nat) (next x : DmaDesc),
    s.m.powered = true ∧ ch < 16 ∧ (s.m.dmaCh ch).busy = true ∧ (s.m.dmaCh ch).desc = some x ∧ x.ctrl.getLsbD 0 = true :=
  ⟨Tests.on (Tests.module.onDma 4 fun d => { d with busy := true, desc := some { len := 64, ctrl := 1 } }), 4, {}, { len := 64, ctrl := 1 }, by decide⟩

theorem witness_StorageRows_8 : ∃ (s : State) (ch : Nat) (next x : DmaDesc),
    s.m.powered = true ∧ ch < 16 ∧ (s.m.dmaCh ch).busy = true ∧ (s.m.dmaCh ch).desc = some x ∧ x.ctrl.getLsbD 0 = false ∧ (s.m.dmaCh ch).badDesc next = false :=
  ⟨Tests.on (Tests.module.onDma 4 fun d => { d with busy := true, desc := some { len := 64, next := 8 } }), 4, { len := 64, ctrl := 1 }, { len := 64, next := 8 }, by decide⟩

theorem witness_StorageRows_9 : ∃ (s : State) (ch cause bytes : Nat),
    s.m.powered = true ∧ ch < 16 ∧ ch ≠ 2 ∧ (s.m.dmaCh ch).busy = true ∧ (s.m.dmaCh ch).use = .other :=
  ⟨Tests.on (Tests.module.onDma 4 fun d => { d with busy := true, use := .other }), 4, 2, 32, by decide⟩

theorem witness_StartsAndLosses_1 : ∃ (s : State),
    s.m.power.state = .off :=
  ⟨Tests.on { Tests.module with power := { state := .off } }, by decide⟩

theorem witness_StartsAndLosses_2 : ∃ (s : State) (ins : Bool) (env : StartEnv),
    s.m.power.state = .off ∧ (s.m.pair.presence = true ∨ ins = true) ∧ env.selftestOk = true ∧ env.meshOk = true ∧ env.cfLost = false :=
  ⟨Tests.on { Tests.module with power := { state := .off } }, true, {}, by decide⟩

theorem witness_StartsAndLosses_3 : ∃ (s : State) (env : StartEnv) (r : RestartSeq),
    s.m.power.restart = some r ∧ s.m.restartReady r = true ∧ r.factory = false ∧ s.m.power.state ≠ .failing ∧ s.m.power.state ≠ .off ∧ env.selftestOk = true ∧ env.meshOk = true :=
  ⟨Tests.on { Tests.module with power := { Tests.module.power with restart := some { cause := 5 } } }, {}, { cause := 5 }, by decide⟩

theorem witness_StartsAndLosses_4 : ∃ (s : State) (env : StartEnv),
    s.m.power.state = .failing ∧ s.m.pair.presence = true ∧ env.selftestOk = true ∧ env.meshOk = true :=
  ⟨Tests.on { Tests.module with power := { Tests.module.power with state := .failing }, pair := { Tests.module.pair with presence := true } }, {}, by decide⟩

theorem witness_StartsAndLosses_5 : ∃ (s : State) (env : StartEnv),
    s.m.pair.extraction = true ∧ s.m.power.state ≠ .off ∧ env.selftestOk = true ∧ env.meshOk = true :=
  ⟨Tests.on { Tests.module with pair := { Tests.module.pair with extraction := true } }, {}, by decide⟩

theorem witness_StartsAndLosses_6 : ∃ (s : State) (vin : Nat),
    s.m.power.state = .running ∧ vin < 37000 ∧ s.m.paired = false :=
  ⟨Tests.on { Tests.module with conv := { links := [(3, { st := .run })] } }, 36999, by decide⟩

theorem witness_StartsAndLosses_7 : ∃ (s : State) (vin : Nat),
    37000 ≤ vin :=
  ⟨Tests.on Tests.module, 37000, by decide⟩

theorem witness_StartsAndLosses_8 : ∃ (s : State),
    s.m.pair.extraction = false ∧ s.m.power.state = .running ∧ s.m.paired = false :=
  ⟨Tests.on { Tests.module with conv := { links := [(3, { st := .run })] } }, by decide⟩

theorem witness_StartsAndLosses_9 : ∃ (s : State),
    s.m.power.state = .failing :=
  ⟨Tests.on { Tests.module with power := { Tests.module.power with state := .failing } }, by decide⟩

theorem witness_ButtonStrapsCell_1 : ∃ (s : State),
    s.m.supRuns = true ∧ s.m.power.btnHeld = false :=
  ⟨Tests.on Tests.module, by decide⟩

theorem witness_ButtonStrapsCell_2 : ∃ (s : State),
    s.m.supRuns = true ∧ s.m.power.btnHeld = true ∧ s.m.power.btnState = 1 ∧ s.m.host.ms - s.m.power.btnSince < 200 :=
  ⟨Tests.on { Tests.module with power := { Tests.module.power with btnHeld := true, btnState := 1 }, host := { Tests.module.host with ms := 199 } }, by decide⟩

theorem witness_ButtonStrapsCell_3 : ∃ (s : State),
    s.m.supRuns = true ∧ s.m.power.btnHeld = true ∧ s.m.power.btnState = 1 ∧ 200 ≤ s.m.host.ms - s.m.power.btnSince ∧ s.m.host.ms - s.m.power.btnSince < 3000 ∧ s.m.power.restart = none ∧ s.m.power.state = .running :=
  ⟨Tests.on { Tests.module with power := { Tests.module.power with btnHeld := true, btnState := 1 }, host := { Tests.module.host with ms := 2999 } }, by decide⟩

theorem witness_ButtonStrapsCell_4 : ∃ (s : State),
    s.m.supRuns = true ∧ s.m.power.btnHeld = true ∧ s.m.power.btnState = 1 ∧ 3000 ≤ s.m.host.ms - s.m.power.btnSince ∧ s.m.host.ms - s.m.power.btnSince ≤ 10000 ∧ s.m.power.restart = none ∧ s.m.power.state = .running ∧ s.m.pair.extraction = false ∧ s.m.paired = false :=
  ⟨Tests.on { Tests.module with power := { Tests.module.power with btnHeld := true, btnState := 1 }, host := { Tests.module.host with ms := 10000 } }, by decide⟩

theorem witness_ButtonStrapsCell_5 : ∃ (s : State),
    s.m.powered = true ∧ s.m.power.btnState = 1 ∧ s.m.power.btnHeld = true ∧ 10001 ≤ s.m.host.ms - s.m.power.btnSince :=
  ⟨Tests.on { Tests.module with power := { Tests.module.power with btnHeld := true, btnState := 1 }, host := { Tests.module.host with ms := 10001 } }, by decide⟩

theorem witness_ButtonStrapsCell_6 : ∃ (s : State),
    s.m.powered = true ∧ s.m.power.btnState = 2 ∧ s.m.power.btnHeld = false ∧ 2000 ≤ s.m.host.ms - s.m.power.btnSince :=
  ⟨Tests.on { Tests.module with power := { Tests.module.power with btnState := 2 }, host := { Tests.module.host with ms := 2000 } }, by decide⟩

theorem witness_ButtonStrapsCell_7 : ∃ (s : State) (pins : BitVec 9),
    s.m.supRuns = true ∧ pins ≠ s.m.power.strapPins :=
  ⟨Tests.on Tests.module, 7#9, by decide⟩

theorem witness_ButtonStrapsCell_8 : ∃ (s : State) (mv : Nat),
    s.m.powered = true ∧ mv < 2700 ∧ s.m.power.cellLow = false :=
  ⟨Tests.on Tests.module, 2699, by decide⟩

theorem witness_ButtonStrapsCell_9 : ∃ (s : State) (net : Nat),
    s.m.powered = true ∧ net < 2 :=
  ⟨Tests.on Tests.module, 1, by decide⟩

theorem witness_ButtonStrapsCell_10 : ∃ (s : State) (net : Nat),
    s.m.powered = true ∧ net < 2 :=
  ⟨Tests.on Tests.module, 1, by decide⟩

theorem witness_ButtonStrapsCell_11 : ∃ (s : State),
    s.m.power.state = .running ∧ s.m.power.meshOk = true ∧ s.m.power.respMesh = 0 :=
  ⟨Tests.on { Tests.module with power := { Tests.module.power with meshOk := true, respMesh := 0 } }, by decide⟩

theorem witness_ButtonStrapsCell_12 : ∃ (s : State),
    s.m.power.state = .off :=
  ⟨Tests.on { Tests.module with power := { state := .off } }, by decide⟩

theorem witness_RovisaSessions_1 : ∃ (s : State) (rq : RvReq),
    s.m.powered = true ∧ s.m.rvServed = true ∧ rq.malformed = false ∧ tlvFault ⟨0x0001, 0, .yes, [0x0001, 0x0002], [], [], true⟩ false rq.tlvs = none ∧ reqNum (rvHost rq) 0x0001 0 2 = 0xFFFF ∧ s.m.provisioned = false :=
  ⟨Tests.on Tests.module, { tlvs := [⟨0x0001, leN 2 0xFFFF⟩, ⟨0x0002, List.replicate 16 0⟩] }, by decide⟩

theorem witness_RovisaSessions_2 : ∃ (s : State) (rq : RvReq) (k : List Byte) (role : Nat),
    s.m.powered = true ∧ s.m.rvServed = true ∧ rq.malformed = false ∧ tlvFault ⟨0x0001, 0, .yes, [0x0001, 0x0002], [], [], true⟩ false rq.tlvs = none ∧ s.m.rvCred (reqNum (rvHost rq) 0x0001 0 2) = some (k, role) ∧ reqNum (rvHost rq) 0x0001 0 2 ≠ 0xFFFF ∧ s.m.upd.session = none :=
  ⟨Tests.on { Tests.module with power := { Tests.module.power with credKeys := [(0, ⟨[1], 1⟩)] }, host := { Tests.module.host with snap := [(0xE000, some 1), (0xE001, some 2)] } }, { tlvs := [⟨0x0001, leN 2 0⟩, ⟨0x0002, List.replicate 16 0⟩] }, [1], 2, by decide +kernel⟩

theorem witness_RovisaSessions_3 : ∃ (s : State) (rq : RvReq) (x : RvSession),
    s.m.RvAdmits 0x0002 rq x ∧ s.m.upd.service = false :=
  ⟨Tests.on Tests.rovisa, { session := 7, seq := 1, tlvs := [] }, Tests.rovisa.upd.session.getD {}, by decide⟩

theorem witness_RovisaSessions_4 : ∃ (s : State) (rq : RvReq) (x : RvSession),
    s.m.RvAdmits 0x0003 rq x :=
  ⟨Tests.on Tests.rovisa, { session := 7, seq := 1, tlvs := [] }, Tests.rovisa.upd.session.getD {}, by decide⟩

theorem witness_RovisaSessions_5 : ∃ (s : State) (rq : RvReq) (x : RvSession),
    s.m.RvAdmits 0x0050 rq x ∧ reqNum (rvHost rq) 0x0022 0 4 % 4 = 0 ∧ reqNum (rvHost rq) 0x0022 0 4 + 4 * reqNum (rvHost rq) 0x0022 4 4 ≤ 0x10000 ∧ 1 ≤ reqNum (rvHost rq) 0x0022 4 4 ∧ reqNum (rvHost rq) 0x0022 4 4 ≤ 1024 :=
  ⟨Tests.on Tests.rovisa, { session := 7, seq := 1, tlvs := [⟨0x0022, leN 4 0x100 ++ leN 4 2⟩] }, Tests.rovisa.upd.session.getD {}, by decide⟩

theorem witness_RovisaSessions_6 : ∃ (s : State) (rq : RvReq),
    s.m.powered = true ∧ s.m.rvServed = true ∧ rq.session = 0 ∧ (∃ row, opRow rovisaOps 0x0050 = some row ∧ tlvFault row rq.malformed rq.tlvs = none) ∧ reqNum (rvHost rq) 0x0022 0 4 % 4 = 0 ∧ 0x1D40 ≤ reqNum (rvHost rq) 0x0022 0 4 ∧ reqNum (rvHost rq) 0x0022 0 4 + 4 * reqNum (rvHost rq) 0x0022 4 4 ≤ 0x2180 ∧ 1 ≤ reqNum (rvHost rq) 0x0022 4 4 :=
  ⟨Tests.on Tests.module, { tlvs := [⟨0x0022, leN 4 0x1D40 ++ leN 4 2⟩] }, by decide, by decide, by decide, ⟨_, rfl, by decide⟩, by decide⟩

theorem witness_RovisaSessions_7 : ∃ (s : State) (rq : RvReq) (x : RvSession),
    s.m.RvAdmits 0x0051 rq x ∧ reqNum (rvHost rq) 0x0022 0 4 % 4 = 0 ∧ reqNum (rvHost rq) 0x0022 0 4 + 4 * reqNum (rvHost rq) 0x0022 4 4 ≤ 0x10000 ∧ 1 ≤ reqNum (rvHost rq) 0x0022 4 4 ∧ reqNum (rvHost rq) 0x0022 4 4 ≤ 64 ∧ (tlvVal rq.tlvs 0x0023).length = 4 * reqNum (rvHost rq) 0x0022 4 4 ∧ (((s.m.rvNoted rq x).diagWrites ((List.range (reqNum (rvHost rq) 0x0022 4 4)).map fun k => (reqNum (rvHost rq) 0x0022 0 4 + 4 * k, BitVec.ofNat 32 (reqNum (rvHost rq) 0x0023 (4 * k) 4)))).2 = 0) :=
  ⟨Tests.on Tests.rovisa, { session := 7, seq := 1, tlvs := [⟨0x0022, leN 4 0x100 ++ leN 4 1⟩, ⟨0x0023, leN 4 0⟩] }, Tests.rovisa.upd.session.getD {}, by decide⟩

theorem witness_RovisaSessions_8 : ∃ (s : State) (rq : RvReq) (x : RvSession),
    s.m.RvAdmits 0x0060 rq x ∧ strings.all s.m.linkOff = true ∧ (∀ g < 8, (s.m.sq g).on = false) :=
  ⟨Tests.on { Tests.rovisa with conv := { links := [(3, { st := .off })] } }, { session := 7, seq := 1, tlvs := [] }, Tests.rovisa.upd.session.getD {}, by decide⟩

theorem witness_RovisaSessions_9 : ∃ (s : State) (rq : RvReq) (x : RvSession),
    s.m.RvAdmits 0x0061 rq x ∧ s.m.upd.service = true :=
  ⟨Tests.on { Tests.rovisa with upd := { Tests.rovisa.upd with service := true } }, { session := 7, seq := 1, tlvs := [] }, Tests.rovisa.upd.session.getD {}, by decide⟩

theorem witness_RovisaSessions_10 : ∃ (s : State) (rq : RvReq) (x : RvSession),
    s.m.RvAdmits 0x0070 rq x ∧ reqNum (rvHost rq) 0x0061 0 1 = 1 :=
  ⟨Tests.on Tests.rovisa, { session := 7, seq := 1, tlvs := [⟨0x0061, [1]⟩] }, Tests.rovisa.upd.session.getD {}, by decide⟩

theorem witness_RovisaSessions_11 : ∃ (s : State) (x : RvSession),
    s.m.powered = true ∧ s.m.upd.session = some x ∧ 600000 ≤ s.m.host.ms - x.s.lastReq ∧ s.m.upd.service = false :=
  ⟨Tests.on { Tests.rovisa with host := { Tests.rovisa.host with ms := 600000 } }, Tests.rovisa.upd.session.getD {}, by decide⟩

theorem witness_RovisaSessions_12 : ∃ (s : State) (x : RvSession),
    s.m.powered = true ∧ s.m.upd.session = some x ∧ s.m.upd.service = true :=
  ⟨Tests.on { Tests.rovisa with upd := { Tests.rovisa.upd with service := true } }, Tests.rovisa.upd.session.getD {}, by decide⟩

theorem witness_FirmwareUpdate_1 : ∃ (s : State) (rq : RvReq) (x : RvSession),
    s.m.RvAdmits 0x0010 rq x ∧ 2 ≤ reqNum (rvHost rq) 0x0100 0 4 ∧ reqNum (rvHost rq) 0x0100 0 4 ≤ 65471 ∧ s.m.inactive.st ≠ .trial ∧ s.m.store.roMask.getLsbD (b2n (!s.m.upd.runB)) = false ∧ s.m.upd.verifying = false :=
  ⟨Tests.on Tests.rovisa, { session := 7, seq := 1, tlvs := [⟨0x0100, leN 4 2⟩] }, Tests.rovisa.upd.session.getD {}, by decide⟩

theorem witness_FirmwareUpdate_2 : ∃ (s : State) (rq : RvReq) (x : RvSession),
    s.m.RvAdmits 0x0011 rq x ∧ s.m.inactive.st = .receiving ∧ reqNum (rvHost rq) 0x0101 0 4 < s.m.inactive.blockCount ∧ reqNum (rvHost rq) 0x0101 4 4 = (crc32c ((tlvVal rq.tlvs 0x0101).drop 8)).toNat ∧ reqNum (rvHost rq) 0x0101 0 4 ≠ 0 ∧ s.m.inactive.header.isSome = true :=
  ⟨Tests.on Tests.receiving, Tests.block 1, Tests.rovisa.upd.session.getD {}, test_block_admits 1, by decide, by rw [test_block_num 1 (by decide)]; decide, test_block_crc 1, by rw [test_block_num 1 (by decide)]; decide, by decide⟩

theorem witness_FirmwareUpdate_3 : ∃ (s : State) (rq : RvReq) (x : RvSession) (c : Nat),
    s.m.RvAdmits 0x0011 rq x ∧ s.m.inactive.st = .receiving ∧ reqNum (rvHost rq) 0x0101 0 4 < s.m.inactive.blockCount ∧ reqNum (rvHost rq) 0x0101 4 4 = (crc32c ((tlvVal rq.tlvs 0x0101).drop 8)).toNat ∧ reqNum (rvHost rq) 0x0101 0 4 = 0 ∧ c = s.m.headerRefusal s.m.inactive.blockCount (headerOf ((tlvVal rq.tlvs 0x0101).drop 8)) ∧ c ≠ 0 :=
  ⟨Tests.on Tests.receiving, Tests.block 0, Tests.rovisa.upd.session.getD {}, 1, test_block_admits 0, by decide, by rw [test_block_num 0 (by decide)]; decide, test_block_crc 0, test_block_num 0 (by decide), test_block_header, by decide⟩

theorem witness_FirmwareUpdate_4 : ∃ (s : State) (rq : RvReq) (x : RvSession),
    s.m.RvAdmits 0x0012 rq x ∧ s.m.upd.verifying = false ∧ s.m.inactive.st = .receiving :=
  ⟨Tests.on Tests.receiving, { session := 7, seq := 1, tlvs := [] }, Tests.rovisa.upd.session.getD {}, by decide⟩

theorem witness_FirmwareUpdate_5 : ∃ (s : State),
    s.m.powered = true ∧ s.m.upd.verifying = true ∧ s.m.plan.warm = false :=
  ⟨Tests.on { Tests.receiving with upd := { Tests.receiving.upd with verifying := true } }, by decide⟩

theorem witness_FirmwareUpdate_6 : ∃ (s : State) (rq : RvReq) (x : RvSession),
    s.m.RvAdmits 0x0013 rq x :=
  ⟨Tests.on Tests.rovisa, { session := 7, seq := 1, tlvs := [] }, Tests.rovisa.upd.session.getD {}, by decide⟩

theorem witness_FirmwareUpdate_7 : ∃ (s : State) (rq : RvReq) (x : RvSession),
    s.m.RvAdmits 0x0014 rq x ∧ s.m.inactive.st = .verified ∧ s.m.moduleKind = false ∧ s.m.upd.recovery = false ∧ s.m.power.restart = none ∧ s.m.power.state = .running :=
  ⟨Tests.on { Tests.rovisa with upd := { Tests.rovisa.upd with slotB := { st := .verified } } }, { session := 7, seq := 1, tlvs := [] }, Tests.rovisa.upd.session.getD {}, by decide⟩

theorem witness_FirmwareUpdate_8 : ∃ (s : State) (rq : RvReq) (x : RvSession),
    s.m.RvAdmits 0x0017 rq x ∧ s.m.inactive.st ≠ .trial :=
  ⟨Tests.on Tests.receiving, { session := 7, seq := 1, tlvs := [] }, Tests.rovisa.upd.session.getD {}, by decide⟩

theorem witness_SafetySetKeysCalibration_1 : ∃ (s : State) (rq : RvReq) (x : RvSession) (c : Tab (Option Int)),
    s.m.RvAdmits 0x0020 rq x ∧ (c = ((((s.m.rvNoted rq x).paramVals (paramEntries (tlvVal rq.tlvs 0x0103))).foldl (fun t e => tput t e.1 (if e.2 = paramDefault e.1 then none else some e.2)) []) : Tab (Option Int))) ∧ (∀ e ∈ (paramEntries (tlvVal rq.tlvs 0x0103)), safeIds.contains e.1 = true ∧ ((paramEntries (tlvVal rq.tlvs 0x0103)).filter fun y => y.1 == e.1).length = 1) ∧ (s.m.rvNoted rq x).paramFault (paramEntries (tlvVal rq.tlvs 0x0103)) = none ∧ (stageOk (fun i => (tget c i).getD (paramDefault i)) = true) := by
  have he : paramEntries (tlvVal [⟨0x0103, safeSet []⟩] 0x0103) = safeIds.map Tests.safeRead := test_param_entries safeIds
  refine ⟨Tests.on Tests.rovisa, { session := 7, seq := 1, tlvs := [⟨0x0103, safeSet []⟩] }, Tests.rovisa.upd.session.getD {}, [], test_safe_admits, ?_, ?_, ?_, test_safe_ok⟩
  · rw [he, test_safe_vals _ _ fun _ h => h, test_safe_staged]
  · rw [he]; exact test_safe_once
  · rw [he]; exact test_safe_fault _

theorem witness_SafetySetKeysCalibration_2 : ∃ (s : State) (rq : RvReq) (x : RvSession) (c : Tab (Option Int)),
    s.m.RvAdmits 0x0021 rq x ∧ s.m.safety.staged = some c ∧ s.m.safety.stagedAgree = true ∧ (reqNum (rvHost rq) 0x0104 0 4 = (cfgCrcOf fun i => (tget c i).getD (paramDefault i)).toNat) ∧ s.m.safety.ms - s.m.safety.stagedMs < 60000 ∧ (∀ g < 8, (s.m.sq g).on = false) :=
  ⟨Tests.on { Tests.rovisa with safety := { Tests.rovisa.safety with staged := some [], stagedAgree := true } }, { session := 7, seq := 1, tlvs := [⟨0x0104, leN 4 (cfgCrcOf fun i => (tget ([] : Tab (Option Int)) i).getD (paramDefault i)).toNat⟩] }, Tests.rovisa.upd.session.getD {}, [], test_commit_admits, rfl, rfl, test_commit_crc, by decide, by decide⟩

theorem witness_SafetySetKeysCalibration_3 : ∃ (s : State) (rq : RvReq) (x : RvSession),
    s.m.RvAdmits 0x0030 rq x ∧ reqNum (rvHost rq) 0x0105 0 1 < 16 ∧ reqNum (rvHost rq) 0x0105 1 3 = 0 ∧ (tget s.m.power.credKeys (reqNum (rvHost rq) 0x0105 0 1)).generation < reqNum (rvHost rq) 0x0105 4 4 ∧ (((tlvVal rq.tlvs 0x0105).drop 8).take 32).all (· == 0) = false :=
  ⟨Tests.on { Tests.module with upd := { Tests.module.upd with session := some { s := Tests.session, presence := true } } }, { session := 7, seq := 1, tlvs := [⟨0x0105, leN 4 0 ++ leN 4 1 ++ List.replicate 32 7⟩] }, { s := Tests.session, presence := true }, by decide⟩

theorem witness_SafetySetKeysCalibration_4 : ∃ (s : State) (rq : RvReq) (x : RvSession),
    s.m.RvAdmits 0x0040 rq x :=
  ⟨Tests.on Tests.rovisa, { session := 7, seq := 1, tlvs := [] }, Tests.rovisa.upd.session.getD {}, by decide⟩

theorem witness_SafetySetKeysCalibration_5 : ∃ (s : State) (rq : RvReq) (x : RvSession),
    s.m.RvAdmits 0x0041 rq x ∧ reqNum (rvHost rq) 0x0106 0 8 < 2 ^ 46 ∧ reqNum (rvHost rq) 0x0106 0 8 ≠ 0 :=
  ⟨Tests.on Tests.rovisa, { session := 7, seq := 1, tlvs := [⟨0x0106, leN 8 5⟩] }, Tests.rovisa.upd.session.getD {}, by decide⟩

theorem witness_SafetySetKeysCalibration_6 : ∃ (s : State) (rq : RvReq) (x : RvSession),
    s.m.RvAdmits 0x0015 rq x ∧ (s.m.fwSlot s.m.upd.runB).st = .trial :=
  ⟨Tests.on { Tests.rovisa with upd := { Tests.rovisa.upd with slotA := { st := .trial } } }, { session := 7, seq := 1, tlvs := [] }, Tests.rovisa.upd.session.getD {}, by decide⟩

theorem witness_SafetySetKeysCalibration_7 : ∃ (s : State) (u : Nat),
    s.m.powered = true ∧ s.m.upd.trialSince = some u ∧ s.m.plan.warm = false ∧ (s.m.fwSlot s.m.upd.runB).st = .trial ∧ 600000 ≤ s.m.host.ms - u :=
  ⟨Tests.on { Tests.module with upd := { Tests.module.upd with slotA := { st := .trial }, trialSince := some 0 }, host := { Tests.module.host with ms := 600000 } }, 0, by decide⟩

theorem witness_SafetySetKeysCalibration_8 : ∃ (s : State) (rq : RvReq) (x : RvSession),
    s.m.RvAdmits 0x0016 rq x ∧ (s.m.inactive.st = .verified ∨ s.m.inactive.st = .active) ∧ s.m.upd.minSvn ≤ s.m.inactive.hdr.svn ∧ s.m.moduleKind = false ∧ s.m.upd.recovery = false ∧ s.m.power.restart = none ∧ s.m.power.state = .running :=
  ⟨Tests.on { Tests.rovisa with upd := { Tests.rovisa.upd with slotB := { st := .active } } }, { session := 7, seq := 1, tlvs := [] }, Tests.rovisa.upd.session.getD {}, by decide⟩

theorem witness_StepTakesTheFront_2 : ∃ s : State,
    s.pending = [] :=
  ⟨State.reset, by decide⟩

theorem witness_ChainTraffic_2_unlocked : ∃ (s : State) (n : Nat) (x : ChainRx),
    s.m.planOn = true ∧ n < 32 ∧ (x.frame = .broken ∨ ((∃ r, x.frame = .resp r) ∧ s.m.endLocked n x.rxEnd = false)) :=
  ⟨Tests.on Tests.module, 3, Tests.rx, by decide, by decide, Or.inr ⟨⟨_, test_response_frame⟩, by decide⟩⟩

theorem witness_IllFormedChangesNothing : ∃ i : Instr, i.wf = false := ⟨.linkAligned 32, by decide⟩

theorem witness_UnpoweredBlock : ∃ (i : Instr) (s : State), s.m.power.state = .off ∧ s.m.upd.recovery = false ∧ livesUnpowered i = false :=
  ⟨.tick, Tests.on { power := { state := .off } }, by decide⟩

theorem witness_GrainCounter_2 : ∃ s : State, s.m.planOn = true ∧ s.m.boundaryDue = true :=
  ⟨Tests.on { Tests.module with plan := { Tests.module.plan with tick := 99 } }, by decide⟩

theorem witness_TickRange : ∃ s t : State, s.m.plan.tick < 100 ∧ step s = .next t := ⟨State.reset, State.reset, by decide, rfl⟩

theorem witness_MemoryStaysCanonical : ∃ s t : State, Memory.wf s.m.host.xa = true ∧ step s = .next t := ⟨State.reset, State.reset, by decide, rfl⟩

theorem witness_DirectoryCopies : ∃ s t : State, DirInv s ∧ step s = .next t :=
  ⟨{ State.reset with dir0 := { complete := true, grain := 4 }, dir1 := { complete := true, grain := 3 } }, _, by decide, rfl⟩

theorem witness_OpeningSequence_1 : ∃ (m : Mod) (l : List Nat) (c n g k : Nat), 1 ≤ c ∧ c ≤ 18 ∧ n ∈ l ∧ m.configured n = true ∧ m.hasCause n c = false ∧ m.groupOf n = some g ∧ k ∈ m.members g ∧ k ≠ n ∧ m.configured k = true :=
  ⟨{ Tests.module with plan := { Tests.module.plan with running := { beds := [{ bed := 3 }, { bed := 4 }] } }, safety := { cfg := [(0x8073, some 2), (0x8074, some 2)] } },
    [3], 18, 3, 2, 4, by decide⟩

theorem witness_OpeningSequence_2 : ∃ c : Nat, 1 ≤ c ∧ c ≤ 18 := ⟨1, by decide⟩

theorem witness_StuckButton_1 : ∃ s : State, s.m.powered = true ∧ s.m.power.btnState = 1 ∧ s.m.power.btnHeld = true ∧ 10001 ≤ s.m.host.ms - s.m.power.btnSince :=
  ⟨Tests.on { Tests.module with power := { Tests.module.power with btnHeld := true, btnState := 1 }, host := { Tests.module.host with ms := 10001 } }, by decide⟩

theorem witness_StuckButton_2 : ∃ s : State, s.m.host.ms - s.m.power.btnSince < 10001 :=
  ⟨Tests.on { Tests.module with host := { Tests.module.host with ms := 10000 } }, by decide⟩

theorem witness_StuckButton_3 : ∃ s : State, s.m.supRuns = true ∧ s.m.power.btnState = 2 ∧ s.m.power.btnHeld = true :=
  ⟨Tests.on { Tests.module with power := { Tests.module.power with btnHeld := true, btnState := 2 } }, by decide⟩

theorem witness_StuckButton_4 : ∃ s : State, s.m.powered = true ∧ s.m.power.btnState = 2 ∧ s.m.power.btnHeld = false ∧ 2000 ≤ s.m.host.ms - s.m.power.btnSince :=
  ⟨Tests.on { Tests.module with power := { Tests.module.power with btnState := 2 }, host := { Tests.module.host with ms := 2000 } }, by decide⟩

theorem witness_StuckButton_5 : ∃ s : State, s.m.power.btnHeld = true ∨ s.m.host.ms - s.m.power.btnSince < 2000 :=
  ⟨Tests.on { Tests.module with host := { Tests.module.host with ms := 1999 } }, by decide⟩

theorem witness_StuckButton_6 : ∃ s : State, s.m.supRuns = true ∧ s.m.power.btnState = 2 ∧ s.m.power.btnHeld = false :=
  ⟨Tests.on { Tests.module with power := { Tests.module.power with btnState := 2 } }, by decide⟩
end

section
/-! PROOF. What each operation does with GRAIN_CNT and the mark of the first grain (R40). -/

namespace Sys2Proof.Machine

/-- Every part of the module but the clock of the plan. -/
def Part.noClock : List Part :=
  [.plan, .host, .store, .power, .chain, .est, .conv, .disp, .prot, .safety, .pair, .time, .can, .adc, .upd, .sent, .free]

/-- GRAIN_CNT and the mark of the first grain are the same in both modules. -/
def Mod.CountKept (a b : Mod) : Prop := b.plan.grainCnt = a.plan.grainCnt ∧ b.plan.firstGrain = a.plan.firstGrain

/-- No grain has run, and GRAIN_CNT is 0. -/
def Mod.CountFresh (m : Mod) : Prop := m.plan.firstGrain = false ∧ m.plan.grainCnt = 0

/-- GRAIN_CNT as the grain that follows has it: the first grain takes the count as it stands (R40). -/
def Mod.nextCount (m : Mod) : W32 := if m.plan.firstGrain then m.plan.grainCnt + 1 else m.plan.grainCnt

theorem Mod.CountKept.refl (m : Mod) : m.CountKept m := ⟨rfl, rfl⟩

theorem Within.countKept {ps : List Part} {a b : Mod} (h : Within ps a b) (n : .clock ∉ ps) : a.CountKept b :=
  have ⟨hcnt, _, hfirst⟩ := h.clockEq n
  ⟨hcnt, hfirst⟩

theorem Mod.CountKept.trans {a b c : Mod} (h : a.CountKept b) (k : b.CountKept c) : a.CountKept c :=
  ⟨k.1.trans h.1, k.2.trans h.2⟩

theorem Mod.CountKept.nextCount {a b : Mod} (h : a.CountKept b) : b.nextCount = a.nextCount := by
  obtain ⟨hcnt, hfirst⟩ := h
  simp only [Mod.nextCount, hcnt, hfirst]

/- Ticks and grain boundaries -/

/-- A tick that passes within the grain moves only the tick of the clock. -/
theorem tick_count (m : Mod) : m.CountKept (tick m) := by
  unfold tick
  split
  · exact .refl m
  · extract_lets m1 m2
    have h1 : m.CountKept m1 := (Mod.endTick_within m).countKept (by decide)
    have h2 : Within Part.noClock m1 m2 :=
      (Mod.canRole_within ..).step (by decide) ((Mod.onPair_within ..).step (by decide) ((Mod.canPass_within ..).mono (by decide)))
    have hbegin : Within Part.noClock m1 (if m2.plan.tick = 2 then m2.sendReplay else m2).beginTick :=
      (Mod.beginTick_within ..).step (by decide) (.ite ((Mod.sendReplay_within ..).step (by decide) h2) h2)
    exact h1.trans (hbegin.countKept (by decide))

theorem Mod.nextGrain_clock (m : Mod) :
    m.nextGrain.plan.grainCnt = m.nextCount ∧ m.nextGrain.plan.tick = 0 ∧ m.nextGrain.plan.firstGrain = true := by
  cases h : m.plan.firstGrain <;> simp [Mod.nextGrain, Mod.onPlan, Mod.nextCount, h]

/-- A boundary that is due begins the next grain at its tick 0. -/
theorem grainBoundary_of_due {m : Mod} (dieT : Int) (h : m.boundaryDue = true) :
    (grainBoundary dieT m).plan.grainCnt = m.nextCount ∧ (grainBoundary dieT m).plan.tick = 0 ∧
      (grainBoundary dieT m).plan.firstGrain = true := by
  have hend : m.CountKept (if m.plan.firstGrain then m.endGrain else m) :=
    (Within.ite (Mod.endGrain_within m) (.refl ..)).countKept (by decide)
  simp only [grainBoundary, h, Bool.not_true, Bool.false_eq_true, if_false]
  generalize (if m.plan.firstGrain then m.endGrain else m) = e at hend ⊢
  obtain ⟨hcnt, htick, hfirst⟩ := (Mod.grainWork_within e.nextGrain m dieT).clockEq (by decide)
  obtain ⟨ncnt, ntick, nfirst⟩ := e.nextGrain_clock
  rw [hcnt, htick, hfirst, ncnt, ntick, nfirst, hend.nextCount]
  exact ⟨rfl, rfl, rfl⟩

/-- Of the pair part, taking a bed image changes only which beds are replaced. -/
theorem Mod.resyncGrain_pair (m : Mod) (bed : Option Nat) (image : Option BedImage) (exch : List (Nat × BedImage)) :
    ∃ l b, (m.resyncGrain bed image exch).pair = { m.pair with replaced := l, resyncBed := b } := by
  have hcopy (m : Mod) (src : BedImage) (b : Nat) : (m.copyBed src b).pair = m.pair := (m.copyBed_within src b).pairEq (by decide)
  have heach (m : Mod) (l : List (Nat × BedImage)) : (m.each l fun m e => m.copyBed e.2 e.1).pair = m.pair :=
    (Within.each (fun m (e : Nat × BedImage) => m.copyBed_within e.2 e.1) (.refl [.chain, .est, .conv, .disp, .prot] m)).pairEq (by decide)
  unfold Mod.resyncGrain
  extract_lets m1
  have h1 : ∃ l b, m1.pair = { m.pair with replaced := l, resyncBed := b } := by
    unfold m1
    split
    · split
      · exact ⟨_, _, by rw [← hcopy m]; rfl⟩
      · exact ⟨_, _, rfl⟩
    · exact ⟨_, _, rfl⟩
  split
  · rw [heach]
    exact h1
  · exact h1

theorem Mod.resyncGrain_boundaryDue (m : Mod) (bed : Option Nat) (image : Option BedImage) (exch : List (Nat × BedImage)) :
    (m.resyncGrain bed image exch).boundaryDue = m.boundaryDue := by
  have h := m.resyncGrain_within bed image exch
  obtain ⟨l, b, hpair⟩ := m.resyncGrain_pair bed image exch
  simp only [Mod.boundaryDue, Mod.roleless, Mod.standby, Mod.paired, Mod.roleLine, h.planEq (by decide), h.powerEq (by decide) (by decide), hpair]

/- Starts and losses of power -/

/-- A start gives the fields that it does not retain their reset values, and counts no grain after that. -/
theorem Mod.startUp_countFresh (m : Mod) (cold : Bool) (cause : Nat) (env : StartEnv) : (m.startUp cold cause env).CountFresh := by
  suffices h : ∃ a : Mod, Within Part.noClock (a.retained cold) (m.startUp cold cause env) by
    obtain ⟨a, h⟩ := h
    obtain ⟨hcnt, hfirst⟩ := h.countKept (by decide)
    exact ⟨hfirst, hcnt⟩
  refine ⟨if cold then if env.cfLost then m.coldFrameLost else m else m.cancelActivation 4, ?_⟩
  unfold Mod.startUp
  -- `m1` is the module with its retained fields; each later number is the next value of `m` in the definition
  extract_lets wasOff mesh m1 m2 blank m3 m4 m5 m6 m7 out lost m8 m9 m10 judged
  change Within Part.noClock m1 _
  have h2 : Within Part.noClock m1 m2 := .stepPower (by decide) (fun _ => rfl) (.refl ..)
  have h3 : Within Part.noClock m1 m3 := (Mod.recStart_within ..).step (by decide) ((Mod.cfgStart_within ..).step (by decide) h2)
  have h4 : Within Part.noClock m1 m4 := .ite ((Mod.blankStart_within ..).step (by decide) h3) h3
  have h5 : Within Part.noClock m1 m5 :=
    (Mod.loadWindows_within ..).step (by decide) (.ite ((Mod.violation_within ..).step (by decide) h4) h4)
  have h6 : Within Part.noClock m1 m6 := .ite ((Mod.post_within ..).step (by decide) h5) h5
  have h7 : Within Part.noClock m1 m7 := .ite ((Mod.drawSeal_within ..).step (by decide) h6) h6
  have h8 : Within Part.noClock m1 m8 := .stepPower (by decide) (fun _ => rfl) h7
  have h9 : Within Part.noClock m1 m9 :=
    .ite h8 ((Mod.post_within ..).step (by decide) (.stepPower (by decide) (fun _ => rfl) h8))
  have h10 : Within Part.noClock m1 m10 := (Mod.onSafety_within ..).step (by decide) h9
  have hjudged {a : Mod} (h : Within Part.noClock m1 a) : Within Part.noClock m1 (judged a) :=
    have hself := Within.ite h ((safetyCoreFault_within ..).step (by decide) h)
    .ite hself ((Mod.criticalFault_within ..).step (by decide) hself)
  have hboot := (Mod.bootSelect_within m10 fun b => if b then env.bootB else env.bootA).step (ps := Part.noClock) (by decide) h10
  split
  next m11 slot heq =>
  rw [heq] at hboot
  extract_lets m12 m13
  have h13 : Within Part.noClock m1 m13 := (Mod.post_within ..).step (by decide) ((Mod.timeStart_within ..).step (by decide) hboot)
  split
  · exact hjudged ((Mod.enterRecovery_within ..).step (by decide) ((Mod.startFunctions_within ..).step (by decide) h13))
  · extract_lets m14 m15 m16 m17
    have h14 : Within Part.noClock m1 m14 := (Mod.otpCheck_within ..).step (by decide) ((Mod.bootInto_within ..).step (by decide) h13)
    have h16 : Within Part.noClock m1 m16 :=
      .stepPower (by decide) (fun _ => rfl) ((Mod.onProt_within ..).step (by decide) h14)
    have h17 : Within Part.noClock m1 m17 :=
      .stepPlan (by decide) (fun _ => ⟨rfl, rfl, rfl⟩) ((Mod.startFunctions_within ..).step (by decide) h16)
    exact hjudged (.ite (.stepPower (by decide) (fun _ => rfl) h17)
      ((Mod.archGap_within ..).step (by decide) ((Mod.startFabric_within ..).step (by decide) h17)))

theorem coldStart_count (insertion : Bool) (env : StartEnv) (m : Mod) :
    m.CountKept (coldStart insertion env m) ∨ (coldStart insertion env m).CountFresh := by
  unfold coldStart
  extract_lets may
  split
  · exact .inl (.refl m)
  · exact .inr (Mod.startUp_countFresh ..)

theorem moduleRestart_count (env : StartEnv) (m : Mod) :
    m.CountKept (moduleRestart env m) ∨ (moduleRestart env m).CountFresh := by
  unfold moduleRestart
  split
  · split
    · exact .inr (Mod.startUp_countFresh ..)
    · exact .inl (.refl m)
  · exact .inl (.refl m)

theorem powerRecovered_count (env : StartEnv) (m : Mod) :
    m.CountKept (powerRecovered env m) ∨ (powerRecovered env m).CountFresh := by
  unfold powerRecovered
  split
  · exact .inr (Mod.startUp_countFresh ..)
  · exact .inl (.refl m)

theorem presenceReturn_count (env : StartEnv) (m : Mod) :
    m.CountKept (presenceReturn env m) ∨ (presenceReturn env m).CountFresh := by
  unfold presenceReturn
  split
  · exact .inr (Mod.startUp_countFresh ..)
  · exact .inl (.refl m)

theorem holdupExhausted_count (m : Mod) : m.CountKept (holdupExhausted m) ∨ (holdupExhausted m).CountFresh := by
  unfold holdupExhausted
  split
  · exact .inr ⟨rfl, rfl⟩
  · exact .inl (.refl m)

/- Replay records -/

/-- A record that is taken sets the standby's count to the grain after its own; nothing else it brings touches the count. -/
theorem replayRecordReceive_count (r : ReplayRec) (exch : List (Nat × BedImage)) (m : Mod) :
    m.CountKept (replayRecordReceive r exch m) ∨
      m.standby = true ∧ (replayRecordReceive r exch m).plan.firstGrain = m.plan.firstGrain ∧
        (replayRecordReceive r exch m).plan.grainCnt = r.grain + 1 := by
  unfold replayRecordReceive
  -- `m2` has the count adopted; each later number is the next value of `m` in the definition
  extract_lets p inStep late m1 m2 m3 m4 m5 m6 m7 m8 m9 m10 m11 m12
  split
  · exact .inl (.refl m)
  next hserved =>
    split
    · exact .inl ((Mod.onPair_within ..).countKept (by decide))
    · simp only [Bool.not_eq_true, Bool.or_eq_false_iff, Bool.not_eq_false'] at hserved
      obtain ⟨⟨⟨hstandby, _⟩, _⟩, _⟩ := hserved
      have hadopted {t : Mod} (h : Within Part.noClock m2 t) :
          t.plan.firstGrain = m.plan.firstGrain ∧ t.plan.grainCnt = r.grain + 1 := (h.countKept (by decide)).symm
      have h3 : Within Part.noClock m2 m3 := (Mod.onPair_within ..).mono (by decide)
      have h5 : Within Part.noClock m2 m5 :=
        (Mod.resyncGrain_within ..).step (by decide) ((Mod.followContact_within ..).step (by decide) h3)
      have h6 : Within Part.noClock m2 m6 := Within.each (fun _ _ =>
        (Mod.partnerTone_within ..).step (by decide) ((Mod.onRing_within ..).mono (by decide))) h5
      have h7 : Within Part.noClock m2 m7 := (Mod.onPair_within ..).step (by decide) h6
      have h8 : Within Part.noClock m2 m8 := .ite ((Mod.catchUp_within ..).step (by decide)
        ((Mod.replayBoundary_within ..).step (by decide) ((Mod.onPair_within ..).step (by decide) h7))) h7
      have h9 : Within Part.noClock m2 m9 := h8.each fun _ _ => Mod.replayCmd_within ..
      have h10 : Within Part.noClock m2 m10 := .ite h9 ((Mod.writeParams_within ..).step (by decide) h9)
      have h11 : Within Part.noClock m2 m11 := h10.each fun _ _ => (Mod.onObj_within ..).mono (by decide)
      have h12 : Within Part.noClock m2 m12 := by
        unfold m12
        split
        · exact (Mod.schedule_within ..).step (by decide) h11
        · exact h11
      exact .inr ⟨hstandby, hadopted ((Mod.onTime_within ..).step (by decide) ((Mod.onDisp_within ..).step (by decide) h12))⟩

end Sys2Proof.Machine
end

section
/-! PROOF. Which commands can change GRAIN_CNT and the mark of the first grain, and how (R40). -/

namespace Sys2Proof.Machine

/-- Each command answers a next state, in which only the parts that `mayChange` names for it may differ. -/
theorem exec_law_mayChange (i : Instr) (s : State) : Law (mayChange i) s (exec i s) := by
  cases i
  case tick => exact tick_law ..
  case grainBoundary => exact grainBoundary_law ..
  case slotRun => exact slotRun_law ..
  case overrun => exact overrun_law ..
  case lockstepMismatch => exact lockstepMismatch_law ..
  case supervisorWatchdog => exact supervisorWatchdog_law ..
  case warmRestartComplete => exact warmRestartComplete_law ..
  case grainPulseTimeout => exact grainPulseTimeout_law ..
  case safetyCoreFault => exact safetyCoreFault_law ..
  case clockMeasurement => exact clockMeasurement_law ..
  case recoveredClockUnlock => exact recoveredClockUnlock_law ..
  case planCheckComplete => exact planCheckComplete_law ..
  case planRestart => exact planRestart_law ..
  case bedReplant => exact bedReplant_law ..
  case chainResponse => exact chainResponse_law ..
  case chainTransactionClose => exact chainTransactionClose_law ..
  case enumRetry => exact enumRetry_law ..
  case authReadDue => exact authReadDue_law ..
  case authTimeout => exact authTimeout_law ..
  case reauthDue => exact reauthDue_law ..
  case ringWakeDone => exact ringWakeDone_law ..
  case monitorWakeTone => exact monitorWakeTone_law ..
  case alarmToneDeclared => exact alarmToneDeclared_law ..
  case alarmToneAbsent => exact alarmToneAbsent_law ..
  case toneDetectorTest => exact toneDetectorTest_law ..
  case senseOpenHoldExpiry => exact senseOpenHoldExpiry_law ..
  case fullTestDue => exact fullTestDue_law ..
  case balancePlan => exact balancePlan_law ..
  case restAnchor => exact restAnchor_law ..
  case impedanceIntervalEnd => exact impedanceIntervalEnd_law ..
  case anomalyClear => exact anomalyClear_law ..
  case checkpointCapture => exact checkpointCapture_law ..
  case checkpointWriteComplete => exact checkpointWriteComplete_law ..
  case estRestoreComplete => exact estRestoreComplete_law ..
  case restoreWaitExpiry => exact restoreWaitExpiry_law ..
  case upstreamFrame => exact upstreamFrame_law ..
  case klinkLost => exact klinkLost_law ..
  case localRampTimeout => exact localRampTimeout_law ..
  case fibreDelayMeasure => exact fibreDelayMeasure_law ..
  case linkAligned => exact linkAligned_law ..
  case alignmentLost => exact alignmentLost_law ..
  case regTimeout => exact regTimeout_law ..
  case tripRequest => exact tripRequest_law ..
  case pruneCommit => exact pruneCommit_law ..
  case armTimerExpiry => exact armTimerExpiry_law ..
  case hiccupEntry => exact hiccupEntry_law ..
  case hiccupTimeExpiry => exact hiccupTimeExpiry_law ..
  case hiccupClearExpiry => exact hiccupClearExpiry_law ..
  case phaseOpenDetect => exact phaseOpenDetect_law ..
  case phaseSenseFail => exact phaseSenseFail_law ..
  case mirrorTimeout => exact mirrorTimeout_law ..
  case phaseFollowLatch => exact phaseFollowLatch_law ..
  case stringFollowStop => exact stringFollowStop_law ..
  case powerFollowFlag => exact powerFollowFlag_law ..
  case burstEntry => exact burstEntry_law ..
  case burstPhaseReselect => exact burstPhaseReselect_law ..
  case softStopComplete => exact softStopComplete_law ..
  case softStopTimeout => exact softStopTimeout_law ..
  case leaseExpiry => exact leaseExpiry_law ..
  case sourceFault => exact sourceFault_law ..
  case sourceRecover => exact sourceRecover_law ..
  case restWindowEnd => exact restWindowEnd_law ..
  case restPendExpiry => exact restPendExpiry_law ..
  case serviceComplete => exact serviceComplete_law ..
  case sensorBadHoldExpiry => exact sensorBadHoldExpiry_law ..
  case derateStepTimer => exact derateStepTimer_law ..
  case ocComparatorEvent => exact ocComparatorEvent_law ..
  case contDelayExpiry => exact contDelayExpiry_law ..
  case contFbTimeout => exact contFbTimeout_law ..
  case contactorFeedbackChange => exact contactorFeedbackChange_law ..
  case hvacRequest => exact hvacRequest_law ..
  case safetyCycle => exact safetyCycle_law ..
  case safeInputChange => exact safeInputChange_law ..
  case discrepancyTimeout => exact discrepancyTimeout_law ..
  case testPulseGap => exact testPulseGap_law ..
  case resetInputRelease => exact resetInputRelease_law ..
  case twoHandSyncExpiry => exact twoHandSyncExpiry_law ..
  case sqHighSideOn => exact sqHighSideOn_law ..
  case offPulseTest => exact offPulseTest_law ..
  case offPulseEnd => exact offPulseEnd_law ..
  case openLoadTimeout => exact openLoadTimeout_law ..
  case fallowExpiry => exact fallowExpiry_law ..
  case clocheSend => exact clocheSend_law ..
  case clocheFrameReceive => exact clocheFrameReceive_law ..
  case clocheWatchdogExpiry => exact clocheWatchdogExpiry_law ..
  case partnerBpTrip => exact partnerBpTrip_law ..
  case fieldSupplyChange => exact fieldSupplyChange_law ..
  case safeStageExpiry => exact safeStageExpiry_law ..
  case standbyReplayTimeout => exact standbyReplayTimeout_law ..
  case rolePoint => exact rolePoint_law ..
  case pairFormWaitExpiry => exact pairFormWaitExpiry_law ..
  case roleLineChange => exact roleLineChange_law ..
  case partnerAbsent => exact partnerAbsent_law ..
  case joinPair => exact joinPair_law ..
  case replayRecordReceive => exact replayRecordReceive_law ..
  case fieldForward => exact fieldForward_law ..
  case heartbeatMiss => exact heartbeatMiss_law ..
  case resyncRetryExpiry => exact resyncRetryExpiry_law ..
  case yieldRoleRelease => exact yieldRoleRelease_law ..
  case takeover => exact takeover_law ..
  case drillDue => exact drillDue_law ..
  case drillOverdue => exact drillOverdue_law ..
  case drillCheck => exact drillCheck_law ..
  case graftLaneChange => exact graftLaneChange_law ..
  case insertion => exact insertion_law ..
  case extractionWarning => exact extractionWarning_law ..
  case presenceReturn => exact presenceReturn_law ..
  case udpPacketReceive => exact udpPacketReceive_law ..
  case sessionOpen => exact sessionOpen_law ..
  case sessionClose => exact sessionClose_law ..
  case nop => exact nop_law ..
  case noticeAck => exact noticeAck_law ..
  case pointRead => exact pointRead_law ..
  case streamOpen => exact streamOpen_law ..
  case streamClose => exact streamClose_law ..
  case paramRead => exact paramRead_law ..
  case paramWrite => exact paramWrite_law ..
  case diagRead => exact diagRead_law ..
  case diagWrite => exact diagWrite_law ..
  case xaRead => exact xaRead_law ..
  case xaWrite => exact xaWrite_law ..
  case mbxPost => exact mbxPost_law ..
  case mbxRead => exact mbxRead_law ..
  case mbxAck => exact mbxAck_law ..
  case supervisorMbxTake => exact supervisorMbxTake_law ..
  case outboundMbxWrite => exact outboundMbxWrite_law ..
  case mbxCrossTimeout => exact mbxCrossTimeout_law ..
  case estRead => exact estRead_law ..
  case estRestore => exact estRestore_law ..
  case estReset => exact estReset_law ..
  case recordQuery => exact recordQuery_law ..
  case recorderClear => exact recorderClear_law ..
  case confirmExpiry => exact confirmExpiry_law ..
  case leaseClaim => exact leaseClaim_law ..
  case leaseRenew => exact leaseRenew_law ..
  case leaseRelease => exact leaseRelease_law ..
  case leaseRevoke => exact leaseRevoke_law ..
  case setPower => exact setPower_law ..
  case moveStart => exact moveStart_law ..
  case moveRetarget => exact moveRetarget_law ..
  case stop => exact stop_law ..
  case resume => exact resume_law ..
  case trip => exact trip_law ..
  case stringService => exact stringService_law ..
  case planLoad => exact planLoad_law ..
  case planActivate => exact planActivate_law ..
  case planDiscard => exact planDiscard_law ..
  case protClear => exact protClear_law ..
  case toneReset => exact toneReset_law ..
  case senseClear => exact senseClear_law ..
  case safetyReset => exact safetyReset_law ..
  case convFaultClear => exact convFaultClear_law ..
  case phaseClear => exact phaseClear_law ..
  case enumerate => exact enumerate_law ..
  case clrOverrun => exact clrOverrun_law ..
  case clrChainCnt => exact clrChainCnt_law ..
  case clrConvFlags => exact clrConvFlags_law ..
  case clrConvCnt => exact clrConvCnt_law ..
  case clrSafetyCnt => exact clrSafetyCnt_law ..
  case clrPairCnt => exact clrPairCnt_law ..
  case restart => exact restart_law ..
  case roleSwap => exact roleSwap_law ..
  case sessionIdleTimeout => exact sessionIdleTimeout_law ..
  case noticeResend => exact noticeResend_law ..
  case streamCycle => exact streamCycle_law ..
  case watchEvaluation => exact watchEvaluation_law ..
  case authBlockExpiry => exact authBlockExpiry_law ..
  case grnNowRead => exact grnNowRead_law ..
  case s64LowRead => exact s64LowRead_law ..
  case timeNsRead => exact timeNsRead_law ..
  case timeSecLoRead => exact timeSecLoRead_law ..
  case dramUeLoRead => exact dramUeLoRead_law ..
  case ptpSyncReceive => exact ptpSyncReceive_law ..
  case ptpAnnounceReceive => exact ptpAnnounceReceive_law ..
  case ptpDelayRespReceive => exact ptpDelayRespReceive_law ..
  case delayReqSend => exact delayReqSend_law ..
  case ptpTcForward => exact ptpTcForward_law ..
  case announceTimeout => exact announceTimeout_law ..
  case syncLossTimeout => exact syncLossTimeout_law ..
  case holdMaxExpiry => exact holdMaxExpiry_law ..
  case timeExtend => exact timeExtend_law ..
  case forceStepExpiry => exact forceStepExpiry_law ..
  case incrSave => exact incrSave_law ..
  case canFrameReceived => exact canFrameReceived_law ..
  case canTxSuccess => exact canTxSuccess_law ..
  case canTxError => exact canTxError_law ..
  case canRecoveryComplete => exact canRecoveryComplete_law ..
  case canCtrlRecover => exact canCtrlRecover_law ..
  case canCtrlDetect => exact canCtrlDetect_law ..
  case detectDwellExpiry => exact detectDwellExpiry_law ..
  case canCtrlAbortAll => exact canCtrlAbortAll_law ..
  case canCtrlClearFlags => exact canCtrlClearFlags_law ..
  case canTxwGo => exact canTxwGo_law ..
  case canObjectFirstRead => exact canObjectFirstRead_law ..
  case canObjectLastRead => exact canObjectLastRead_law ..
  case canLockTimeout => exact canLockTimeout_law ..
  case ttReferenceReceive => exact ttReferenceReceive_law ..
  case ttWindowStart => exact ttWindowStart_law ..
  case ttLossTimeout => exact ttLossTimeout_law ..
  case adcRoundTrigger => exact adcRoundTrigger_law ..
  case adcInjectedTrigger => exact adcInjectedTrigger_law ..
  case adcCtrlInjGo => exact adcCtrlInjGo_law ..
  case adcCtrlCal => exact adcCtrlCal_law ..
  case adcCalComplete => exact adcCalComplete_law ..
  case adcCtrlClr => exact adcCtrlClr_law ..
  case implausibleChange => exact implausibleChange_law ..
  case piPulse => exact piPulse_law ..
  case piNoPulseTimeout => exact piNoPulseTimeout_law ..
  case aiBurdenOpen => exact aiBurdenOpen_law ..
  case aiBurdenReclose => exact aiBurdenReclose_law ..
  case recordPost => exact recordPost_law ..
  case flushStart => exact flushStart_law ..
  case flushComplete => exact flushComplete_law ..
  case rateSecondEnd => exact rateSecondEnd_law ..
  case recCurPosWrite => exact recCurPosWrite_law ..
  case recCurDataLastRead => exact recCurDataLastRead_law ..
  case archiveFinePeriod => exact archiveFinePeriod_law ..
  case archiveCoarseDay => exact archiveCoarseDay_law ..
  case configWriteComplete => exact configWriteComplete_law ..
  case flashPageWriteFail => exact flashPageWriteFail_law ..
  case flashLifeChange => exact flashLifeChange_law ..
  case scrubPass => exact scrubPass_law ..
  case dramUeRead => exact dramUeRead_law ..
  case dmaDescriptorDone => exact dmaDescriptorDone_law ..
  case dmaFault => exact dmaFault_law ..
  case coldStart => exact coldStart_law ..
  case moduleRestart => exact moduleRestart_law ..
  case restartButtonRelease => exact restartButtonRelease_law ..
  case buttonStuck => exact buttonStuck_law ..
  case buttonRearm => exact buttonRearm_law ..
  case strapRecheck => exact strapRecheck_law ..
  case powerFailure => exact powerFailure_law ..
  case powerRecovered => exact powerRecovered_law ..
  case secViolation => exact secViolation_law ..
  case cellLow => exact cellLow_law ..
  case keyLoad => exact keyLoad_law ..
  case secSet => exact secSet_law ..
  case secUnlock => exact secUnlock_law ..
  case secErase => exact secErase_law ..
  case factoryRestore => exact factoryRestore_law ..
  case park => exact park_law ..
  case secClear => exact secClear_law ..
  case rvOpen => exact rvOpen_law ..
  case rvClose => exact rvClose_law ..
  case rvInfo => exact rvInfo_law ..
  case updBegin => exact updBegin_law ..
  case updBlock => exact updBlock_law ..
  case updVerify => exact updVerify_law ..
  case updVerifyComplete => exact updVerifyComplete_law ..
  case updStatus => exact updStatus_law ..
  case updActivate => exact updActivate_law ..
  case updConfirm => exact updConfirm_law ..
  case trialAutoConfirm => exact trialAutoConfirm_law ..
  case updRollback => exact updRollback_law ..
  case updAbort => exact updAbort_law ..
  case safeStage => exact safeStage_law ..
  case safeCommit => exact safeCommit_law ..
  case keyLoadClear => exact keyLoadClear_law ..
  case calRead => exact calRead_law ..
  case calReset => exact calReset_law ..
  case rvDiagRead => exact rvDiagRead_law ..
  case rvDiagWrite => exact rvDiagWrite_law ..
  case svcEnter => exact svcEnter_law ..
  case svcLeave => exact svcLeave_law ..
  case rvRestart => exact rvRestart_law ..
  case rvSessionIdle => exact rvSessionIdle_law ..
  case usbDisconnect => exact usbDisconnect_law ..
  case recoveredClockLock => exact recoveredClockLock_law ..
  case networkLinkChange => exact networkLinkChange_law ..
  case partnerPresent => exact partnerPresent_law ..
  case holdupExhausted => exact holdupExhausted_law ..
  case flashResponseChange => exact flashResponseChange_law ..
  case restartButtonPress => exact restartButtonPress_law ..
  case graftMailboxReceive => exact graftMailboxReceive_law ..
  case recordQueryComplete => exact recordQueryComplete_law ..
  case ptpFollowUpReceive => exact ptpFollowUpReceive_law ..
  case canRxError => exact canRxError_law ..

/-- The commands whose rows name the clock: ticks and boundaries, starts and losses of power, and replay records. -/
theorem clock_mem_mayChange {i : Instr} (h : .clock ∈ mayChange i) :
    i = .tick ∨ (∃ dieT, i = .grainBoundary dieT) ∨ Restarts i = true ∨ ∃ r image exch, i = .replayRecordReceive r image exch := by
  cases i
  case tick => exact .inl rfl
  case grainBoundary dieT => exact .inr (.inl ⟨dieT, rfl⟩)
  case coldStart | moduleRestart | powerRecovered | presenceReturn | holdupExhausted => exact .inr (.inr (.inl rfl))
  case replayRecordReceive r image exch => exact .inr (.inr (.inr ⟨r, image, exch, rfl⟩))
  all_goals
    dsimp only [mayChange] at h
    exact absurd h (by decide)

/- What becomes of the module in each of them -/

theorem State.start_m (s : State) (f : Mod → Mod) : ∃ t, s.start true f = .next t ∧ t.m = f s.m := by
  refine ⟨_, rfl, ?_⟩
  simp only [if_true]
  split <;> rfl

theorem State.replay_m (s : State) (r : ReplayRec) (image : Option BedImage) (exch : List (Nat × BedImage)) :
    ∃ t, s.replay r image exch = .next t ∧ (t.m = s.m ∨ t.m = replayRecordReceive r exch s.m) := by
  unfold State.replay
  split
  · refine ⟨_, rfl, .inr ?_⟩
    split <;> rfl
  · exact ⟨s, rfl, .inl rfl⟩

theorem State.grain_of_not_due {s : State} (f : Mod → Mod) (h : ¬(s.m.planOn && s.m.boundaryDue) = true) : s.grain f = .next s :=
  if_neg h

/-- A boundary that is due in a running plan acts on the module with the waiting bed image taken, in which it is due as well. -/
theorem State.grain_of_due {s : State} (f : Mod → Mod) (hon : s.m.planOn = true) (hdue : s.m.boundaryDue = true) :
    ∃ t a, s.grain f = .next t ∧ t.m = f a ∧ a.boundaryDue = true ∧ s.m.CountKept a := by
  unfold State.grain
  simp only [hon, hdue, Bool.and_true, if_true]
  split
  next bed img _ =>
    exact ⟨_, _, rfl, rfl, (s.m.resyncGrain_boundaryDue ..).trans hdue, (s.m.resyncGrain_within ..).countKept (by decide)⟩
  next => exact ⟨_, _, rfl, rfl, hdue, .refl s.m⟩

/-- A start or a loss of power leaves the count as it was, where it does not happen, or fresh. -/
theorem exec_restart_count {i : Instr} (h : Restarts i = true) (s : State) :
    Completes i s fun t => s.m.CountKept t.m ∨ t.m.CountFresh := by
  have started (f : Mod → Mod) (hf : s.m.CountKept (f s.m) ∨ (f s.m).CountFresh) :
      ∃ t, s.start true f = .next t ∧ (s.m.CountKept t.m ∨ t.m.CountFresh) := by
    obtain ⟨t, ht, hm⟩ := s.start_m f
    exact ⟨t, ht, hm ▸ hf⟩
  cases i
  case coldStart => exact started _ (coldStart_count ..)
  case moduleRestart => exact started _ (moduleRestart_count ..)
  case powerRecovered => exact started _ (powerRecovered_count ..)
  case presenceReturn => exact started _ (presenceReturn_count ..)
  case holdupExhausted => exact started _ (holdupExhausted_count ..)
  all_goals exact absurd h Bool.false_ne_true

/-- A boundary that is due in a running plan begins the next grain. -/
theorem exec_grainBoundary_of_due (dieT : Int) {s : State} (hon : s.m.planOn = true) (hdue : s.m.boundaryDue = true) :
    Completes (.grainBoundary dieT) s fun t =>
      t.m.plan.firstGrain = true ∧ t.m.plan.tick = 0 ∧ t.m.plan.grainCnt = s.m.nextCount := by
  obtain ⟨t, a, ht, hm, ha, hkept⟩ := State.grain_of_due (grainBoundary dieT) hon hdue
  obtain ⟨hcnt, htick, hfirst⟩ := grainBoundary_of_due dieT ha
  refine ⟨t, ht, ?_⟩
  simp only [hm]
  exact ⟨hfirst, htick, hcnt.trans hkept.nextCount⟩

theorem exec_replayRecordReceive_count (r : ReplayRec) (image : Option BedImage) (exch : List (Nat × BedImage)) (s : State) :
    Completes (.replayRecordReceive r image exch) s fun t => s.m.CountKept t.m ∨
      s.m.standby = true ∧ t.m.plan.firstGrain = s.m.plan.firstGrain ∧ t.m.plan.grainCnt = r.grain + 1 := by
  obtain ⟨t, ht, hm | hm⟩ := s.replay_m r image exch
  all_goals
    refine ⟨t, ht, ?_⟩
    simp only [hm]
  · exact .inl (.refl s.m)
  · exact replayRecordReceive_count r exch s.m

theorem exec_count_of_clock_not_mem {i : Instr} (h : .clock ∉ mayChange i) (s : State) : Completes i s fun t => s.m.CountKept t.m := by
  obtain ⟨t, ht, hwithin, _⟩ := exec_law_mayChange i s
  exact ⟨t, ht, hwithin.countKept h⟩

theorem exec_tick_count (s : State) : Completes .tick s fun t => s.m.CountKept t.m := by
  refine ⟨_, rfl, ?_⟩
  split
  · exact tick_count s.m
  · exact .refl s.m

/-- Settles O53: a command whose row does not name the clock keeps the count by its frame, and the rows that name it do with it what R40
says. -/
theorem grainCounter : Obligations.GrainCounter := by
  refine ⟨fun i s => ?_, fun dieT s hon hdue => exec_grainBoundary_of_due dieT hon hdue⟩
  by_cases hclock : .clock ∈ mayChange i
  · obtain rfl | ⟨dieT, rfl⟩ | hstart | ⟨r, image, exch, rfl⟩ := clock_mem_mayChange hclock
    · obtain ⟨t, ht, hkept⟩ := exec_tick_count s
      exact ⟨t, ht, .inl hkept⟩
    · by_cases hdue : (s.m.planOn && s.m.boundaryDue) = true
      · obtain ⟨hon, hdue⟩ := Bool.and_eq_true_iff.mp hdue
        obtain ⟨t, ht, hfirst, _, hcnt⟩ := exec_grainBoundary_of_due dieT hon hdue
        exact ⟨t, ht, .inr (.inl ⟨⟨dieT, rfl⟩, hfirst, hcnt⟩)⟩
      · exact ⟨s, State.grain_of_not_due _ hdue, .inl (Mod.CountKept.refl s.m)⟩
    · obtain ⟨t, ht, hkept | hfresh⟩ := exec_restart_count hstart s
      · exact ⟨t, ht, .inl hkept⟩
      · exact ⟨t, ht, .inr (.inr (.inl ⟨hstart, hfresh⟩))⟩
    · obtain ⟨t, ht, hkept | hadopted⟩ := exec_replayRecordReceive_count r image exch s
      · exact ⟨t, ht, .inl hkept⟩
      · exact ⟨t, ht, .inr (.inr (.inr ⟨r, image, exch, rfl, hadopted⟩))⟩
  · obtain ⟨t, ht, hkept⟩ := exec_count_of_clock_not_mem hclock s
    exact ⟨t, ht, .inl hkept⟩

end Sys2Proof.Machine
end

section
/-! PROOF. The restart button: a stuck press, its discard and the rearming (R565). -/

namespace Sys2Proof.Machine

/- Commands of a powered module -/

theorem Mod.powered_of_supRuns {m : Mod} (h : m.supRuns = true) : m.powered = true := by
  obtain ⟨_, hstate⟩ := Bool.and_eq_true_iff.mp h
  exact Bool.or_eq_true_iff.mpr (.inr hstate)

/-- In a powered module a command that is `f` answers what `f` makes of the module. -/
theorem Completes.of_on {i : Instr} {s : State} {f : Mod → Mod} {m : Mod} (hexec : exec i s = s.on true f) (hon : s.m.powered = true)
    (hf : f s.m = m) : Completes i s fun t => t = { s with m := m } :=
  ⟨_, hexec.trans (s.on_runs rfl hon f), by rw [hf]⟩

/-- Powered or not, a command that is `f` changes nothing where `f` changes nothing. -/
theorem Completes.of_on_unchanged {i : Instr} {s : State} {f : Mod → Mod} (hexec : exec i s = s.on true f) (hf : f s.m = s.m) :
    Completes i s fun t => t = s := by
  cases hon : s.m.powered
  · exact ⟨s, hexec.trans (s.when_false (by simp [hon]) f), rfl⟩
  · exact Completes.of_on hexec hon hf

/- The rows of the button -/

theorem buttonStuck_of_held {m : Mod} (hpressed : m.power.btnState = 1) (hheld : m.power.btnHeld = true)
    (hlong : 10001 ≤ m.host.ms - m.power.btnSince) :
    buttonStuck m = (m.onPower fun p => { p with btnState := 2 }).post 0xE006 0xFF bSup [] := by
  simp [buttonStuck, hpressed, hheld, hlong]

theorem buttonStuck_of_early {m : Mod} (hearly : m.host.ms - m.power.btnSince < 10001) : buttonStuck m = m := by
  have hlong : ¬ 10001 ≤ m.host.ms - m.power.btnSince := by omega
  simp [buttonStuck, hlong]

theorem buttonRearm_of_released {m : Mod} (hdisarmed : m.power.btnState = 2) (hreleased : m.power.btnHeld = false)
    (hlong : 2000 ≤ m.host.ms - m.power.btnSince) : buttonRearm m = m.onPower fun p => { p with btnState := 0 } := by
  simp [buttonRearm, hdisarmed, hreleased, hlong]

theorem buttonRearm_of_held {m : Mod} (hheld : m.power.btnHeld = true) : buttonRearm m = m := by
  simp [buttonRearm, hheld]

theorem buttonRearm_of_early {m : Mod} (hearly : m.host.ms - m.power.btnSince < 2000) : buttonRearm m = m := by
  have hlong : ¬ 2000 ≤ m.host.ms - m.power.btnSince := by omega
  simp [buttonRearm, hlong]

/-- A press that the supervisor sees is counted, and presses an armed button alone. -/
theorem restartButtonPress_of_supRuns {m : Mod} (hsup : m.supRuns = true) (hreleased : m.power.btnHeld = false) :
    restartButtonPress m = m.onPower fun p =>
      { p with btnHeld := true, presses := stopAt 0xFFFF (p.presses + 1), btnState := if p.btnState = 0 then 1 else p.btnState, btnSince := m.host.ms } := by
  simp [restartButtonPress, hsup, hreleased]

theorem restartButtonPress_of_disarmed {m : Mod} (hsup : m.supRuns = true) (hdisarmed : m.power.btnState = 2)
    (hreleased : m.power.btnHeld = false) :
    restartButtonPress m = m.onPower fun p =>
      { p with btnHeld := true, presses := stopAt 0xFFFF (p.presses + 1), btnSince := m.host.ms } := by
  rw [restartButtonPress_of_supRuns hsup hreleased]
  simp [Mod.onPower, hdisarmed]

/-- The release of a button that is not in state 1 acts on nothing, whatever the length of the press. -/
theorem restartButtonRelease_of_not_pressed {m : Mod} (hsup : m.supRuns = true) (hheld : m.power.btnHeld = true)
    (hstate : m.power.btnState ≠ 1) :
    restartButtonRelease m = m.onPower fun p => { p with btnHeld := false, btnSince := m.host.ms } := by
  simp [restartButtonRelease, hsup, hheld, hstate, Mod.onPower]

/-- Settles O59: each row of the button reaches the powered module, and does there what R565 says. -/
theorem stuckButton : Obligations.StuckButton := by
  refine ⟨fun s hon hpressed hheld hlong => ?stuck, fun s hearly => ?early, fun s hsup hdisarmed hheld => ?discarded,
    fun s hon hdisarmed hreleased hlong => ?rearmed, fun s hbroken => ?broken, fun s hsup hdisarmed hreleased => ?press⟩
  case stuck => exact .of_on rfl hon (buttonStuck_of_held hpressed hheld hlong)
  case early => exact .of_on_unchanged rfl (buttonStuck_of_early hearly)
  case discarded =>
    have hstate : s.m.power.btnState ≠ 1 := by omega
    exact .of_on rfl (Mod.powered_of_supRuns hsup) (restartButtonRelease_of_not_pressed hsup hheld hstate)
  case rearmed => exact .of_on rfl hon (buttonRearm_of_released hdisarmed hreleased hlong)
  case broken =>
    obtain hheld | hearly := hbroken
    · exact .of_on_unchanged rfl (buttonRearm_of_held hheld)
    · exact .of_on_unchanged rfl (buttonRearm_of_early hearly)
  case press => exact .of_on rfl (Mod.powered_of_supRuns hsup) (restartButtonPress_of_disarmed hsup hdisarmed hreleased)

end Sys2Proof.Machine
end

section
/-! PROOF. Which commands wait for a guard, and what that says of every command: it completes (R18, R561, R563, log 44). -/

namespace Sys2Proof.Machine

/-- The command is one change of the module, made where its operands name items of the module and the module is powered. -/
def Guarded (i : Instr) (s : State) : Prop :=
  ∃ c f, exec i s = s.when c f ∧ (c = true → i.wf = true ∧ s.m.powered = true)

theorem Mod.powered_of_fabricOn {m : Mod} (h : m.fabricOn = true) : m.powered = true := by
  obtain ⟨hstate, _⟩ := Bool.and_eq_true_iff.mp h
  have hon := of_decide_eq_true hstate
  exact Bool.or_eq_true_iff.mpr (.inr (decide_eq_true (hon.imp_right .inr)))

theorem Mod.powered_of_planOn {m : Mod} (h : m.planOn = true) : m.powered = true :=
  Mod.powered_of_fabricOn (Bool.and_eq_true_iff.mp h).1

theorem Guarded.on {i : Instr} {s : State} {f : Mod → Mod} (h : exec i s = s.on i.wf f) : Guarded i s :=
  ⟨_, f, h, Bool.and_eq_true_iff.mp⟩

theorem Guarded.sup {i : Instr} {s : State} {f : Mod → Mod} (h : exec i s = s.sup i.wf f) : Guarded i s :=
  ⟨_, f, h, fun c => (Bool.and_eq_true_iff.mp c).imp_right Mod.powered_of_supRuns⟩

theorem Guarded.fab {i : Instr} {s : State} {f : Mod → Mod} (h : exec i s = s.fab i.wf f) : Guarded i s :=
  ⟨_, f, h, fun c => (Bool.and_eq_true_iff.mp c).imp_right Mod.powered_of_fabricOn⟩

theorem Guarded.plan {i : Instr} {s : State} {f : Mod → Mod} (h : exec i s = s.plan i.wf f) : Guarded i s :=
  ⟨_, f, h, fun c => (Bool.and_eq_true_iff.mp c).imp_right Mod.powered_of_planOn⟩

theorem Guarded.act {i : Instr} {s : State} {f : Mod → Mod} (h : exec i s = s.act i.wf f) : Guarded i s :=
  ⟨_, f, h, fun c => (Bool.and_eq_true_iff.mp (Bool.and_eq_true_iff.mp c).1).imp_right Mod.powered_of_planOn⟩

theorem Guarded.lgc {i : Instr} {s : State} {f : Mod → Mod} (h : exec i s = s.lgc i.wf f) : Guarded i s :=
  ⟨_, _, h, fun c => (Bool.and_eq_true_iff.mp c).imp_right Mod.powered_of_planOn⟩

/-- The commands that judge the power themselves: those of a module that may be off. -/
def judgesPower : Instr → Bool
  | .insertion | .extractionWarning | .powerFailure .. | .secViolation .. | .safeInputChange .. => true
  | _ => false

/-- The commands that touch the copies of the point directory or the waiting bed image: starts and losses of power, boundaries, slots and
replay records. -/
def touchesBlock : Instr → Bool
  | .grainBoundary _ | .slotRun .. | .replayRecordReceive .. => true
  | i => Restarts i

/-- Every other command waits for its guard. -/
theorem exec_guarded {i : Instr} (s : State) (hpower : judgesPower i = false) (hblock : touchesBlock i = false) : Guarded i s := by
  cases i
  case safeInputChange | insertion | extractionWarning | powerFailure | secViolation => exact absurd hpower Bool.noConfusion
  case presenceReturn | coldStart | moduleRestart | powerRecovered | holdupExhausted | grainBoundary | slotRun | replayRecordReceive => exact absurd hblock Bool.noConfusion
  case lockstepMismatch | supervisorWatchdog | warmRestartComplete | safetyCoreFault | clockMeasurement | checkpointWriteComplete |
      contDelayExpiry | contFbTimeout | contactorFeedbackChange | safetyCycle | discrepancyTimeout | testPulseGap | resetInputRelease |
      twoHandSyncExpiry | sqHighSideOn | offPulseTest | offPulseEnd | openLoadTimeout | fallowExpiry | clocheSend | clocheFrameReceive |
      clocheWatchdogExpiry | partnerBpTrip | fieldSupplyChange | safeStageExpiry | standbyReplayTimeout | roleLineChange | partnerAbsent |
      udpPacketReceive | sessionOpen | sessionClose | nop | noticeAck | pointRead | streamOpen | streamClose | paramRead | paramWrite |
      diagRead | diagWrite | xaRead | xaWrite | mbxPost | mbxRead | mbxAck | supervisorMbxTake | outboundMbxWrite | mbxCrossTimeout |
      estRead | estRestore | estReset | recordQuery | recorderClear | leaseClaim | leaseRenew | leaseRelease | leaseRevoke | setPower |
      moveStart | moveRetarget | stop | resume | trip | stringService | planLoad | planActivate | planDiscard | protClear | toneReset |
      senseClear | safetyReset | convFaultClear | phaseClear | enumerate | clrOverrun | clrChainCnt | clrConvFlags | clrConvCnt |
      clrSafetyCnt | clrPairCnt | restart | roleSwap | grnNowRead | s64LowRead | timeNsRead | timeSecLoRead | dramUeLoRead | ptpTcForward |
      recordPost | flushStart | flushComplete | rateSecondEnd | recCurPosWrite | recCurDataLastRead | configWriteComplete |
      flashPageWriteFail | flashLifeChange | scrubPass | dramUeRead | dmaDescriptorDone | dmaFault | restartButtonRelease | buttonStuck |
      buttonRearm | strapRecheck | cellLow | keyLoad | secSet | secUnlock | secErase | factoryRestore | park | secClear | rvOpen | rvClose |
      rvInfo | updBegin | updBlock | updVerify | updVerifyComplete | updStatus | updActivate | updConfirm | trialAutoConfirm | updRollback |
      updAbort | safeStage | safeCommit | keyLoadClear | calRead | calReset | rvDiagRead | rvDiagWrite | svcEnter | svcLeave | rvRestart |
      rvSessionIdle | usbDisconnect | networkLinkChange | partnerPresent | flashResponseChange | restartButtonPress => exact .on rfl
  case planCheckComplete | hvacRequest | confirmExpiry | sessionIdleTimeout | noticeResend | streamCycle | watchEvaluation |
      authBlockExpiry | ptpSyncReceive | ptpAnnounceReceive | ptpDelayRespReceive | delayReqSend | announceTimeout | syncLossTimeout |
      holdMaxExpiry | timeExtend | forceStepExpiry | incrSave | archiveFinePeriod | archiveCoarseDay | recordQueryComplete |
      ptpFollowUpReceive => exact .sup rfl
  case grainPulseTimeout | recoveredClockUnlock | alarmToneDeclared | alarmToneAbsent | toneDetectorTest | upstreamFrame | klinkLost |
      fibreDelayMeasure | linkAligned | alignmentLost | regTimeout | tripRequest | ocComparatorEvent | rolePoint | pairFormWaitExpiry |
      joinPair | fieldForward | heartbeatMiss | resyncRetryExpiry | yieldRoleRelease | takeover | drillDue | drillOverdue | drillCheck |
      graftLaneChange | canFrameReceived | canTxSuccess | canTxError | canRecoveryComplete | canCtrlRecover | canCtrlDetect |
      detectDwellExpiry | canCtrlAbortAll | canCtrlClearFlags | canTxwGo | canObjectFirstRead | canObjectLastRead | canLockTimeout |
      ttReferenceReceive | ttWindowStart | ttLossTimeout | adcRoundTrigger | adcInjectedTrigger | adcCtrlInjGo | adcCalComplete
      | adcCtrlClr | implausibleChange | piPulse | piNoPulseTimeout | aiBurdenOpen | aiBurdenReclose | recoveredClockLock |
      graftMailboxReceive | canRxError => exact .fab rfl
  case tick | overrun | chainResponse => exact .plan rfl
  case chainTransactionClose => exact .act rfl
  case planRestart | bedReplant | enumRetry | authReadDue | authTimeout | reauthDue | ringWakeDone | monitorWakeTone | senseOpenHoldExpiry
      | fullTestDue | balancePlan | restAnchor | impedanceIntervalEnd | anomalyClear | checkpointCapture | estRestoreComplete |
      restoreWaitExpiry | localRampTimeout | pruneCommit | armTimerExpiry | hiccupEntry | hiccupTimeExpiry | hiccupClearExpiry |
      phaseOpenDetect | phaseSenseFail | mirrorTimeout | phaseFollowLatch | stringFollowStop | powerFollowFlag | burstEntry |
      burstPhaseReselect | softStopComplete | softStopTimeout | leaseExpiry | sourceFault | sourceRecover | restWindowEnd | restPendExpiry |
      serviceComplete | sensorBadHoldExpiry | derateStepTimer => exact .lgc rfl
  case adcCtrlCal mask => exact .fab (f := fun m => (adcCtrlCal mask.toNat m).1) rfl

/- What a guard answers -/

theorem State.when_of_not (s : State) {c : Bool} (f : Mod → Mod) (h : ¬c = true) : s.when c f = .next s :=
  s.when_false (Bool.eq_false_iff.mpr h) f

/-- A guarded command changes the module alone. -/
theorem Guarded.next {i : Instr} {s : State} (h : Guarded i s) : ∃ m, exec i s = .next { s with m := m } := by
  obtain ⟨c, f, hexec, _⟩ := h
  cases c
  · exact ⟨s.m, hexec⟩
  · exact ⟨f s.m, hexec⟩

theorem Guarded.of_not_wf {i : Instr} {s : State} (h : Guarded i s) (hwf : i.wf = false) : exec i s = .next s := by
  obtain ⟨c, f, hexec, hguard⟩ := h
  rw [hexec, State.when_of_not]
  intro hc
  simp [(hguard hc).1] at hwf

theorem Guarded.of_not_powered {i : Instr} {s : State} (h : Guarded i s) (hoff : s.m.powered = false) : exec i s = .next s := by
  obtain ⟨c, f, hexec, hguard⟩ := h
  rw [hexec, State.when_of_not]
  intro hc
  simp [(hguard hc).2] at hoff

theorem exec_safeInputChange (optical : Bool) (idx : Nat) (second level : Bool) (s : State) :
    exec (.safeInputChange optical idx second level) s = s.when (okInput optical idx) fun m =>
      if m.powered then safeInputChange optical idx second level m else inputLevel optical idx second level m := rfl

/- The statements that the frame of every command settles -/

/-- Settles O48: the law of every command names its next state. -/
theorem everyCommandCompletes : Obligations.EveryCommandCompletes := by
  intro i s
  obtain ⟨t, ht, _, hpending⟩ := exec_law_mayChange i s
  exact ⟨t, ht, hpending⟩

/-- Settles O49: what a change within parts sends comes in front. -/
theorem nothingSentIsWithdrawn : Obligations.NothingSentIsWithdrawn := by
  intro i s
  obtain ⟨t, ht, hwithin, _⟩ := exec_law_mayChange i s
  exact ⟨t, ht, hwithin.log⟩

/-- Settles O50: the law of every command is stated over the parts that its row names. -/
theorem frameOfEveryCommand : Obligations.FrameOfEveryCommand := by
  intro i s
  obtain ⟨t, ht, hwithin, _⟩ := exec_law_mayChange i s
  exact ⟨t, ht, hwithin.out⟩

/-- Settles O51: the commands that can be ill formed wait for their operands; of those that judge the power or touch the directory only four
name a numbered item. -/
theorem illFormedChangesNothing : Obligations.IllFormedChangesNothing := by
  intro i s hwf
  cases hpower : judgesPower i
  · cases hblock : touchesBlock i
    · exact (exec_guarded s hpower hblock).of_not_wf hwf
    · cases i
      case slotRun bed slotId cycles fault readback =>
        have hbed : okBed bed = false := hwf
        simp [exec, execSlotRun, State.slot, hbed]
      case grainBoundary | replayRecordReceive | coldStart | moduleRestart | powerRecovered | presenceReturn | holdupExhausted =>
        exact absurd hwf (by simp [Instr.wf])
      all_goals exact absurd hblock Bool.false_ne_true
  · cases i
    case secViolation => exact s.when_false hwf _
    case safeInputChange => exact (exec_safeInputChange ..).trans (s.when_false hwf _)
    case insertion | extractionWarning | powerFailure => exact absurd hwf (by simp [Instr.wf])
    all_goals exact absurd hpower Bool.false_ne_true

/-- A module that is off, and not in RECOVERY, is not powered. -/
theorem Mod.powered_of_off {m : Mod} (hoff : m.power.state = .off) (hrec : m.upd.recovery = false) : m.powered = false := by
  simp [Mod.powered, hoff, hrec]

theorem Mod.fabricOn_of_off {m : Mod} (hoff : m.power.state = .off) : m.fabricOn = false := by
  simp [Mod.fabricOn, hoff]

theorem Mod.planOn_of_off {m : Mod} (hoff : m.power.state = .off) : m.planOn = false := by
  simp [Mod.planOn, Mod.fabricOn_of_off hoff]

/-- Settles O52: a guarded command needs power, and each of the others that is not named judges the state of the power itself. -/
theorem unpoweredBlock : Obligations.UnpoweredBlock := by
  intro i s hoff hrec hlives
  have started (f : Mod → Mod) (hf : f s.m = s.m) : ∃ t, s.start true f = .next t ∧ t.m = s.m := by
    obtain ⟨t, ht, hm⟩ := s.start_m f
    exact ⟨t, ht, hm.trans hf⟩
  cases hpower : judgesPower i
  · cases hblock : touchesBlock i
    · exact ⟨s, (exec_guarded s hpower hblock).of_not_powered (Mod.powered_of_off hoff hrec), rfl⟩
    · have hplan := Mod.planOn_of_off hoff
      cases i
      case grainBoundary => exact ⟨s, State.grain_of_not_due _ (by simp [hplan]), rfl⟩
      case slotRun => exact ⟨s, by simp [exec, execSlotRun, State.slot, hplan], rfl⟩
      case replayRecordReceive => exact ⟨s, by simp [exec, execReplayRecordReceive, State.replay, Mod.fabricOn_of_off hoff], rfl⟩
      case moduleRestart =>
        refine started _ ?_
        cases hr : s.m.power.restart <;> simp [moduleRestart, hr, hoff]
      case powerRecovered => exact started _ (by simp [powerRecovered, hoff])
      case presenceReturn => exact started _ (by simp [presenceReturn, hoff])
      case coldStart | holdupExhausted => exact absurd hlives Bool.noConfusion
      all_goals exact absurd hblock Bool.false_ne_true
  · cases i
    case extractionWarning => exact ⟨_, s.when_true rfl _, by simp [extractionWarning, hoff]⟩
    case powerFailure => exact ⟨_, s.when_true rfl _, by simp [powerFailure, hoff]⟩
    case insertion | secViolation | safeInputChange => exact absurd hlives Bool.noConfusion
    all_goals exact absurd hpower Bool.false_ne_true

/-- Settles O47: both clauses are the definition of a step, by the queue. -/
theorem stepTakesTheFront : Obligations.StepTakesTheFront :=
  ⟨fun _ _ _ => rfl, fun s h => by simp [step, h]⟩

/-- Settles O57: the reset state lists no byte and no copy of the directory, and every counter starts at 0. -/
theorem resetMeetsTheInvariants : Obligations.ResetMeetsTheInvariants := by
  have hdir : DirInv State.reset := ⟨Bool.noConfusion, Bool.noConfusion⟩
  exact ⟨rfl, hdir, rfl, rfl, rfl, rfl, rfl, by decide, rfl, rfl⟩

end Sys2Proof.Machine
end

section
/-! PROOF. Invariants of a step: the exchange area and the copies of the point directory (R18, R444). -/

namespace Sys2Proof.Machine

/-- What every command that is carried out keeps, whatever else waits, every step keeps: an idle block keeps it, and the front command finds
the same module and directory. -/
theorem step_keeps {P : State → Prop} (hqueue : ∀ s l, P s → P { s with pending := l })
    (hexec : ∀ i s t, P s → exec i s = .next t → P t) {s t : State} (h : P s) (hstep : step s = .next t) : P t := by
  unfold step at hstep
  split at hstep
  · cases hstep
    exact h
  next i rest _ => exact hexec i _ t (hqueue s rest h) hstep

/-- Settles O55: whatever parts a command changes, it keeps the canonical form of the exchange area. -/
theorem memoryStaysCanonical : Obligations.MemoryStaysCanonical := by
  intro s t hmem
  refine step_keeps (P := fun s => Memory.wf s.m.host.xa = true) (fun _ _ h => h) (fun i s t h hexec => ?_) hmem
  obtain ⟨u, hu, hwithin, _⟩ := exec_law_mayChange i s
  obtain rfl : u = t := by simpa [hu] using hexec
  exact hwithin.mem h

/-- The copies of the directory are those of `s`. -/
def State.DirKept (s t : State) : Prop := t.dir0 = s.dir0 ∧ t.dir1 = s.dir1

theorem State.DirKept.inv {s t : State} (h : s.DirKept t) (hinv : DirInv s) : DirInv t := by
  obtain ⟨h0, h1⟩ := h
  unfold DirInv
  rwa [h0, h1]

theorem State.publish_dirInv {s : State} (h : DirInv s) : DirInv s.publish := by
  obtain ⟨h0, h1⟩ := h
  unfold State.publish
  extract_lets g objs d s1
  split
  next hodd => exact ⟨h0, fun _ => hodd⟩
  next heven => exact ⟨fun _ => Bool.eq_false_iff.mpr heven, h1⟩

theorem State.slot_dirInv {s t : State} {ok pub : Bool} {f : Mod → Mod} (h : DirInv s) (ht : s.slot ok pub f = .next t) : DirInv t := by
  unfold State.slot at ht
  split at ht
  · cases pub <;> cases ht
    · exact h
    · exact State.publish_dirInv h
  · cases ht
    exact h

/-- A start or a loss of power that happens leaves no complete copy. -/
theorem State.start_dirInv {s t : State} {ok : Bool} {f : Mod → Mod} (h : DirInv s) (ht : s.start ok f = .next t) : DirInv t := by
  unfold State.start at ht
  extract_lets m at ht
  split at ht <;> cases ht
  · exact h
  · exact ⟨Bool.noConfusion, Bool.noConfusion⟩

theorem State.grain_dirKept {s t : State} {f : Mod → Mod} (ht : s.grain f = .next t) : s.DirKept t := by
  unfold State.grain at ht
  split at ht
  · split at ht <;> cases ht <;> exact ⟨rfl, rfl⟩
  · cases ht
    exact ⟨rfl, rfl⟩

theorem State.replay_dirKept {s t : State} {r : ReplayRec} {image : Option BedImage} {exch : List (Nat × BedImage)}
    (ht : s.replay r image exch = .next t) : s.DirKept t := by
  unfold State.replay at ht
  split at ht
  · cases ht
    split <;> exact ⟨rfl, rfl⟩
  · cases ht
    exact ⟨rfl, rfl⟩

theorem exec_dirInv {i : Instr} {s t : State} (h : DirInv s) (ht : exec i s = .next t) : DirInv t := by
  have within (c : Bool) (f : Mod → Mod) (ht : s.when c f = .next t) : DirInv t := by
    cases c <;> cases ht <;> exact h
  cases hpower : judgesPower i
  · cases hblock : touchesBlock i
    · obtain ⟨c, f, hexec, _⟩ := exec_guarded s hpower hblock
      exact within c f (hexec.symm.trans ht)
    · cases i
      case slotRun => exact State.slot_dirInv h ht
      case grainBoundary => exact (State.grain_dirKept ht).inv h
      case replayRecordReceive => exact (State.replay_dirKept ht).inv h
      case coldStart | moduleRestart | powerRecovered | presenceReturn | holdupExhausted => exact State.start_dirInv h ht
      all_goals exact absurd hblock Bool.false_ne_true
  · cases i
    case insertion | extractionWarning | powerFailure | secViolation => exact within _ _ ht
    case safeInputChange => exact within _ _ ((exec_safeInputChange ..).symm.trans ht)
    all_goals exact absurd hpower Bool.false_ne_true

/-- Settles O56: only a publication slot completes a copy, that of the parity of its grain; a start completes none, and no other command
touches the copies. -/
theorem directoryCopies : Obligations.DirectoryCopies := by
  intro s t h
  exact step_keeps (fun _ _ h => h) (fun _ _ _ => exec_dirInv) h

end Sys2Proof.Machine
end

section
/-! PROOF. The opening sequence of R308 leaves a tripped mate without a cause: the counterexample of its statement. -/

namespace Sys2Proof.Machine

/-- A module that runs strings 3 and 4 on safe output 2, the link of string 4 tripped as by TRIP_REQUEST, which latches no cause (R236). -/
def tripped4 : Mod :=
  { plan := { running := { beds := [{ bed := 3 }, { bed := 4 }] } }
    safety := { cfg := [(0x8073, some 2), (0x8074, some 2)] }
    conv := { links := [(4, { st := .tripped, tripHeld := true })] } }

theorem tripped4_mate : tripped4.groupOf 3 = some 2 ∧ 4 ∈ tripped4.members 2 ∧ tripped4.configured 4 = true := by decide

theorem tripped4_no_cause : ((tripped4.openSeqs [3] 18 0 0).strProt 4).cause = 0 := by decide +kernel

/-- Refutes O58: a mate that is tripped without a cause stays without one, since a string already tripped takes no cause GROUP (log 20). -/
theorem not_openingSequence : ¬ Obligations.OpeningSequence := by
  intro h
  have ⟨_, hmates⟩ := h.1 tripped4 [3] 18 0 0 3 (by decide) (by decide) (by decide) (by decide) (by decide)
  obtain ⟨hg, hmem, hcfg⟩ := tripped4_mate
  exact (hmates 2 4 hg hmem (by decide) hcfg).1 tripped4_no_cause

end Sys2Proof.Machine
end


section
/-! PROOF. The tick of the grain stays within 0 to 99 (R10, R40). -/

namespace Sys2Proof.Machine

theorem Within.tickEq {ps : List Part} {a b : Mod} (h : Within ps a b) (n : .clock ∉ ps) : b.plan.tick = a.plan.tick :=
  have ⟨_, htick, _⟩ := h.clockEq n
  htick

/-- One more operation that leaves the clock alone. -/
theorem Within.thenNoClock {ps : List Part} {a b c : Mod} (h : Within Part.noClock a b) (k : Within ps b c)
    (hps : ∀ p ∈ ps, p ∈ Part.noClock := by decide) : Within Part.noClock a c :=
  k.step hps h

/-- Before tick 99 a tick that passes is the next one; at tick 99 it is the boundary that comes next. -/
theorem tick_tick (m : Mod) : (tick m).plan.tick = m.plan.tick ∨ (tick m).plan.tick = m.plan.tick + 1 ∧ m.plan.tick < 99 := by
  unfold tick
  split
  · exact .inl rfl
  next hbefore =>
    extract_lets m1 m2
    have hlast : m.plan.tick < 99 := by simp at hbefore; exact hbefore.2
    have h1 : m1.plan.tick = m.plan.tick + 1 := congrArg (· + 1) ((Mod.endTick_within m).tickEq (by decide))
    have h2 : Within Part.noClock m1 m2 :=
      (((Within.refl ..).thenNoClock (Mod.canPass_within ..)).thenNoClock (Mod.onPair_within ..)).thenNoClock (Mod.canRole_within ..)
    have hbegin : Within Part.noClock m1 (if m2.plan.tick = 2 then m2.sendReplay else m2).beginTick :=
      (Within.ite (h2.thenNoClock (Mod.sendReplay_within ..)) h2).thenNoClock (Mod.beginTick_within ..)
    exact .inr ⟨(hbegin.tickEq (by decide)).trans h1, hlast⟩

/-- A start has tick 0, the reset value of a field that it does not retain. -/
theorem Mod.startUp_tick (m : Mod) (cold : Bool) (cause : Nat) (env : StartEnv) : (m.startUp cold cause env).plan.tick = 0 := by
  unfold Mod.startUp
  -- `m1` is the module with its retained fields; each later number is the next value of `m` in the definition
  extract_lets wasOff mesh m1 m2 blank m3 m4 m5 m6 m7 out lost m8 m9 m10 judged
  suffices h : ∀ t, Within Part.noClock m1 t → t.plan.tick = 0 by
    refine h _ ?_
    have h2 : Within Part.noClock m1 m2 := .stepPower (by decide) (fun _ => rfl) (.refl ..)
    have h3 : Within Part.noClock m1 m3 := (h2.thenNoClock (Mod.cfgStart_within ..)).thenNoClock (Mod.recStart_within ..)
    have h4 : Within Part.noClock m1 m4 := .ite (h3.thenNoClock (Mod.blankStart_within ..)) h3
    have h5 : Within Part.noClock m1 m5 := (Within.ite (h4.thenNoClock (Mod.violation_within ..)) h4).thenNoClock (Mod.loadWindows_within ..)
    have h6 : Within Part.noClock m1 m6 := .ite (h5.thenNoClock (Mod.post_within ..)) h5
    have h7 : Within Part.noClock m1 m7 := .ite (h6.thenNoClock (Mod.drawSeal_within ..)) h6
    have h8 : Within Part.noClock m1 m8 := .stepPower (by decide) (fun _ => rfl) h7
    have h9 : Within Part.noClock m1 m9 := 
      .ite h8 ((Mod.post_within ..).step (by decide) (.stepPower (by decide) (fun _ => rfl) h8))
    have hboot := (h9.thenNoClock (Mod.onSafety_within ..)).thenNoClock (Mod.bootSelect_within m10 fun b => if b then env.bootB else env.bootA)
    have hjudged {a : Mod} (h : Within Part.noClock m1 a) : Within Part.noClock m1 (judged a) :=
      have hself := Within.ite h (h.thenNoClock (safetyCoreFault_within ..))
      .ite hself (hself.thenNoClock (Mod.criticalFault_within ..))
    split
    next m11 slot heq =>
    rw [heq] at hboot
    extract_lets m12 m13
    have h13 : Within Part.noClock m1 m13 := (hboot.thenNoClock (Mod.timeStart_within ..)).thenNoClock (Mod.post_within ..)
    split
    · exact hjudged ((h13.thenNoClock (Mod.startFunctions_within ..)).thenNoClock (Mod.enterRecovery_within ..))
    · extract_lets m14 m15 m16 m17
      have h16 : Within Part.noClock m1 m16 := .stepPower (by decide) (fun _ => rfl)
        (((h13.thenNoClock (Mod.bootInto_within ..)).thenNoClock (Mod.otpCheck_within ..)).thenNoClock (Mod.onProt_within ..))
      have h17 : Within Part.noClock m1 m17 :=
        .stepPlan (by decide) (fun _ => ⟨rfl, rfl, rfl⟩) (h16.thenNoClock (Mod.startFunctions_within ..))
      exact hjudged (.ite (.stepPower (by decide) (fun _ => rfl) h17)
        ((h17.thenNoClock (Mod.startFabric_within ..)).thenNoClock (Mod.archGap_within ..)))
  exact fun t h => h.tickEq (by decide)

theorem exec_restart_tick {i : Instr} (h : Restarts i = true) (s : State) :
    Completes i s fun t => t.m.plan.tick = s.m.plan.tick ∨ t.m.plan.tick = 0 := by
  have started (f : Mod → Mod) (hf : (f s.m).plan.tick = s.m.plan.tick ∨ (f s.m).plan.tick = 0) :
      ∃ t, s.start true f = .next t ∧ (t.m.plan.tick = s.m.plan.tick ∨ t.m.plan.tick = 0) := by
    obtain ⟨t, ht, hm⟩ := s.start_m f
    exact ⟨t, ht, hm ▸ hf⟩
  cases i
  case coldStart =>
    refine started _ ?_
    unfold coldStart
    extract_lets may
    split
    · exact .inl rfl
    · exact .inr (Mod.startUp_tick ..)
  case moduleRestart =>
    refine started _ ?_
    unfold moduleRestart
    split
    · split
      · exact .inr (Mod.startUp_tick ..)
      · exact .inl rfl
    · exact .inl rfl
  case powerRecovered =>
    refine started _ ?_
    unfold powerRecovered
    split
    · exact .inr (Mod.startUp_tick ..)
    · exact .inl rfl
  case presenceReturn =>
    refine started _ ?_
    unfold presenceReturn
    split
    · exact .inr (Mod.startUp_tick ..)
    · exact .inl rfl
  case holdupExhausted =>
    refine started _ ?_
    unfold holdupExhausted
    split
    · exact .inr rfl
    · exact .inl rfl
  all_goals exact absurd h Bool.false_ne_true

/-- A replay record adopts a count, and leaves the tick as it stands. -/
theorem replayRecordReceive_tick (r : ReplayRec) (exch : List (Nat × BedImage)) (m : Mod) :
    (replayRecordReceive r exch m).plan.tick = m.plan.tick := by
  unfold replayRecordReceive
  -- `m2` has the count adopted; each later number is the next value of `m` in the definition
  extract_lets p inStep late m1 m2 m3 m4 m5 m6 m7 m8 m9 m10 m11 m12
  split
  · rfl
  split
  · rfl
  suffices h : Within Part.noClock m2 m12 by
    exact ((h.thenNoClock (Mod.onDisp_within ..)).thenNoClock (Mod.onTime_within ..)).tickEq (by decide)
  have h5 : Within Part.noClock m2 m5 :=
    (((Within.refl ..).thenNoClock (Mod.onPair_within ..)).thenNoClock (Mod.followContact_within ..)).thenNoClock (Mod.resyncGrain_within ..)
  have h6 : Within Part.noClock m2 m6 := h5.each fun _ _ =>
    ((Within.refl ..).thenNoClock (Mod.onRing_within ..)).thenNoClock (Mod.partnerTone_within ..)
  have h7 : Within Part.noClock m2 m7 := h6.thenNoClock (Mod.onPair_within ..)
  have h8 : Within Part.noClock m2 m8 := .ite
    (((h7.thenNoClock (Mod.onPair_within ..)).thenNoClock (Mod.replayBoundary_within ..)).thenNoClock (Mod.catchUp_within ..)) h7
  have h9 : Within Part.noClock m2 m9 := h8.each fun _ _ => Mod.replayCmd_within ..
  have h10 : Within Part.noClock m2 m10 := .ite h9 (h9.thenNoClock (Mod.writeParams_within ..))
  have h11 : Within Part.noClock m2 m11 := h10.each fun _ _ => (Within.refl ..).thenNoClock (Mod.onObj_within ..)
  unfold m12
  split
  · exact h11.thenNoClock (Mod.schedule_within ..)
  · exact h11

/-- Each command leaves the tick, resets it, or lets one pass that is not the last. -/
theorem exec_tick (i : Instr) (s : State) :
    Completes i s fun t => t.m.plan.tick = s.m.plan.tick ∨ t.m.plan.tick = 0 ∨ t.m.plan.tick = s.m.plan.tick + 1 ∧ s.m.plan.tick < 99 := by
  by_cases hclock : .clock ∈ mayChange i
  · obtain rfl | ⟨dieT, rfl⟩ | hstart | ⟨r, image, exch, rfl⟩ := clock_mem_mayChange hclock
    · refine ⟨_, rfl, ?_⟩
      split
      · exact (tick_tick s.m).imp_right .inr
      · exact .inl rfl
    · by_cases hdue : (s.m.planOn && s.m.boundaryDue) = true
      · obtain ⟨hon, hdue⟩ := Bool.and_eq_true_iff.mp hdue
        obtain ⟨t, ht, _, htick, _⟩ := exec_grainBoundary_of_due dieT hon hdue
        exact ⟨t, ht, .inr (.inl htick)⟩
      · exact ⟨s, State.grain_of_not_due _ hdue, .inl rfl⟩
    · obtain ⟨t, ht, hkept | hreset⟩ := exec_restart_tick hstart s
      · exact ⟨t, ht, .inl hkept⟩
      · exact ⟨t, ht, .inr (.inl hreset)⟩
    · obtain ⟨t, ht, hm | hm⟩ := s.replay_m r image exch
      · exact ⟨t, ht, .inl (by rw [hm])⟩
      · exact ⟨t, ht, .inl (by rw [hm, replayRecordReceive_tick])⟩
  · obtain ⟨t, ht, hwithin, _⟩ := exec_law_mayChange i s
    exact ⟨t, ht, .inl (hwithin.tickEq hclock)⟩

/-- Settles O54: a tick passes only before tick 99, and whatever else moves the tick makes it 0. -/
theorem tickRange : Obligations.TickRange := by
  intro s t hrange
  refine step_keeps (P := fun s => s.m.plan.tick < 100) (fun _ _ h => h) (fun i s t h hexec => ?_) hrange
  obtain ⟨u, hu, htick⟩ := exec_tick i s
  obtain rfl : u = t := by simpa [hu] using hexec
  omega

end Sys2Proof.Machine
end


section
/-! PROOF. A start puts in force the safety configuration that was committed before it (R326): the counterexample of the statement that it
keeps the one in force. -/

namespace Sys2Proof.Machine

/-- Every part of the module but the safety functions. -/
def Part.noSafety : List Part :=
  [.plan, .clock, .host, .store, .power, .chain, .est, .conv, .disp, .prot, .pair, .time, .can, .adc, .upd, .sent, .free]

/-- The safety configuration in force is the same. -/
structure Mod.CfgKept (a b : Mod) : Prop where
  cfg : b.safety.cfg = a.safety.cfg

theorem Mod.CfgKept.trans {a b c : Mod} (h : a.CfgKept b) (k : b.CfgKept c) : a.CfgKept c := ⟨k.cfg.trans h.cfg⟩

theorem Within.cfgKept {ps : List Part} {a b : Mod} (h : Within ps a b) (n : .safety ∉ ps := by decide) : a.CfgKept b :=
  ⟨congrArg SafetySt.cfg (h.safetyEq n)⟩

theorem Mod.CfgKept.each {α : Type} (m : Mod) (l : List α) (f : Mod → α → Mod) (h : ∀ (m : Mod) a, m.CfgKept (f m a)) :
    m.CfgKept (m.each l f) :=
  ⟨Mod.each_keeps (fun m => m.safety.cfg) m l f fun m a => (h m a).cfg⟩

theorem Mod.onSafety_cfgKept (m : Mod) {f : SafetySt → SafetySt} (hf : ∀ s, (f s).cfg = s.cfg) : m.CfgKept (m.onSafety f) := ⟨hf _⟩

/-- One more operation that leaves the safety functions alone. -/
theorem Within.thenNoSafety {ps : List Part} {a b c : Mod} (h : Within Part.noSafety a b) (k : Within ps b c)
    (hps : ∀ p ∈ ps, p ∈ Part.noSafety := by decide) : Within Part.noSafety a c :=
  k.step hps h

theorem Mod.judgeSi_cfgKept (m : Mod) (i : Nat) : m.CfgKept (m.judgeSi i) := by
  unfold Mod.judgeSi
  extract_lets f x y
  clear_value y
  split <;> exact ⟨rfl⟩

theorem Mod.judgeOi_cfgKept (m : Mod) (k : Nat) : m.CfgKept (m.judgeOi k) := by
  unfold Mod.judgeOi
  extract_lets x y
  clear_value y
  split <;> exact ⟨rfl⟩

theorem Mod.takeFeedback_cfgKept (m : Mod) : m.CfgKept m.takeFeedback := by
  unfold Mod.takeFeedback
  refine Mod.CfgKept.each m _ _ fun m g => ?_
  split <;> exact ⟨rfl⟩

theorem Mod.startFunctions_cfgKept (m : Mod) : m.CfgKept m.startFunctions := by
  unfold Mod.startFunctions
  extract_lets fst m1 m2 m3
  have h1 : m.CfgKept m1 := .each _ _ _ fun m i => by split <;> exact ⟨rfl⟩
  have h2 : m1.CfgKept m2 := .each _ _ _ fun m k => by split <;> exact ⟨rfl⟩
  have hsi : m2.CfgKept (m2.each (List.range 16) Mod.judgeSi) := .each _ _ _ Mod.judgeSi_cfgKept
  have hoi (m : Mod) : m.CfgKept (m.each (List.range 4) Mod.judgeOi) := .each _ _ _ Mod.judgeOi_cfgKept
  have h3 : m2.CfgKept m3 := (hsi.trans (hoi _)).trans (Mod.takeFeedback_cfgKept _)
  have h := (h1.trans h2).trans h3
  clear_value m3
  exact h.trans ⟨rfl⟩

theorem Mod.enterRecovery_cfgKept (m : Mod) : m.CfgKept m.enterRecovery := by
  unfold Mod.enterRecovery
  extract_lets m1 m2
  have h1 : m.CfgKept m1 := (Mod.post_within ..).cfgKept
  have hoff : m1.CfgKept (m1.each (List.range 8) Mod.switchOff) := .each _ _ _ fun m g => ⟨(Mod.switchOff_trips m g).cfg⟩
  have h2 : m1.CfgKept m2 := hoff.trans (Mod.closeSessions_within ..).cfgKept
  have h := h1.trans h2
  clear_value m2
  exact h.trans ⟨rfl⟩

/-- A start whose tests of the safety processor pass runs with the configuration of the retained module. -/
theorem Mod.startUp_cfg (m : Mod) (cause : Nat) (env : StartEnv) (hself : env.selftestOk = true) (hok : env.cfgOk = true) :
    (m.startUp false cause env).safety.cfg = m.safety.commitCfg.getD m.safety.cfg := by
  have hcancel := (Mod.cancelActivation_within m 4).safetyEq (by decide)
  unfold Mod.startUp
  -- `m1` is the module with its retained fields; each later number is the next value of `m` in the definition
  extract_lets wasOff mesh m1 m2 blank m3 m4 m5 m6 m7 out lost m8 m9 m10 judged
  have h1 : m1.safety.cfg = m.safety.commitCfg.getD m.safety.cfg := by
    show (m.cancelActivation 4).safety.commitCfg.getD (m.cancelActivation 4).safety.cfg = _
    rw [hcancel]
  suffices h : ∀ t, m1.CfgKept t → t.safety.cfg = m.safety.commitCfg.getD m.safety.cfg by
    refine h _ ?_
    have h2 : Within Part.noSafety m1 m2 := .stepPower (by decide) (fun _ => rfl) (.refl ..)
    have h3 : Within Part.noSafety m1 m3 := (h2.thenNoSafety (Mod.cfgStart_within ..)).thenNoSafety (Mod.recStart_within ..)
    have h4 : Within Part.noSafety m1 m4 := .ite (h3.thenNoSafety (Mod.blankStart_within ..)) h3
    have h5 : Within Part.noSafety m1 m5 :=
      (Within.ite (h4.thenNoSafety (Mod.violation_within ..)) h4).thenNoSafety (Mod.loadWindows_within ..)
    have h6 : Within Part.noSafety m1 m6 := .ite (h5.thenNoSafety (Mod.post_within ..)) h5
    have h7 : Within Part.noSafety m1 m7 := .ite (h6.thenNoSafety (Mod.drawSeal_within ..)) h6
    have h8 : Within Part.noSafety m1 m8 := .stepPower (by decide) (fun _ => rfl) h7
    have h9 : Within Part.noSafety m1 m9 :=
      .ite h8 ((Mod.post_within ..).step (by decide) (.stepPower (by decide) (fun _ => rfl) h8))
    have h10 : m1.CfgKept m10 := h9.cfgKept.trans (Mod.onSafety_cfgKept _ fun _ => rfl)
    have hboot := (Mod.bootSelect_within m10 fun b => if b then env.bootB else env.bootA).mono (qs := Part.noSafety) (by decide)
    have hjudged (a : Mod) : judged a = a := by simp [judged, hself, hok]
    split
    next m11 slot heq =>
    rw [heq] at hboot
    extract_lets m12 m13
    have h13 : m1.CfgKept m13 :=
      h10.trans ((hboot.thenNoSafety (Mod.timeStart_within ..)).thenNoSafety (Mod.post_within ..)).cfgKept
    split
    · rw [hjudged]
      exact (h13.trans (Mod.startFunctions_cfgKept _)).trans (Mod.enterRecovery_cfgKept _)
    · extract_lets m14 m15 m16 m17
      have h14 : Within Part.noSafety m13 m14 := ((Within.refl ..).thenNoSafety (Mod.bootInto_within ..)).thenNoSafety (Mod.otpCheck_within ..)
      have h16 : Within Part.noSafety m13 m16 := .stepPower (by decide) (fun _ => rfl) (h14.thenNoSafety (Mod.onProt_within ..))
      have h17 : m1.CfgKept m17 := (h13.trans h16.cfgKept).trans ((Mod.startFunctions_cfgKept _).trans (Mod.onPlan_clock ..).cfgKept)
      rw [hjudged]
      refine h17.trans ?_
      clear_value m17
      split
      · exact ⟨rfl⟩
      · exact (((Within.refl Part.noSafety _).thenNoSafety (Mod.startFabric_within ..)).thenNoSafety (Mod.archGap_within ..)).cfgKept
  exact fun t h => h.cfg.trans h1

/-- A module about to restart, with a safety configuration committed and not yet in force (R326). -/
def committedRestart : State :=
  { m := { power := { state := .parked, restart := some {} }, safety := { commitCfg := some [(0x8000, some 1)] } } }

theorem committedRestart_ready : committedRestart.m.restartReady {} = true := by decide

theorem moduleRestart_of_ready {m : Mod} {r : RestartSeq} (env : StartEnv) (hr : m.power.restart = some r) (hready : m.restartReady r = true)
    (hfactory : r.factory = false) (hstate : m.power.state ≠ .failing ∧ m.power.state ≠ .off) :
    moduleRestart env m = ((m.rvEnd.cancelActivation 4).restartFlush).startUp false r.cause env := by
  simp [moduleRestart, hr, hready, hfactory, hstate]

/-- A module restart takes the configuration that was committed, where one was. -/
theorem moduleRestart_cfg {m : Mod} {r : RestartSeq} (env : StartEnv) (hr : m.power.restart = some r) (hready : m.restartReady r = true)
    (hfactory : r.factory = false) (hstate : m.power.state ≠ .failing ∧ m.power.state ≠ .off) (hself : env.selftestOk = true)
    (hok : env.cfgOk = true) : (moduleRestart env m).safety.cfg = m.safety.commitCfg.getD m.safety.cfg := by
  have hstop : Within Part.noSafety m (m.rvEnd.cancelActivation 4).restartFlush :=
    (((Within.refl ..).thenNoSafety (Mod.rvEnd_within ..)).thenNoSafety (Mod.cancelActivation_within ..)).thenNoSafety
      (Mod.restartFlush_within ..)
  rw [moduleRestart_of_ready env hr hready hfactory hstate, Mod.startUp_cfg _ _ _ hself hok, hstop.safetyEq (by decide)]

/-- Refutes O42: the module restart clause, in a module whose committed configuration waits for the next safety cycle. -/
theorem not_startsAndLosses : ¬ Obligations.StartsAndLosses := by
  rintro ⟨-, -, hrestart, -⟩
  obtain ⟨t, ht, -, -, -, -, -, -, -, -, -, -, -, hcfg, -⟩ :=
    hrestart committedRestart {} {} rfl committedRestart_ready rfl (by decide) (by decide) rfl rfl
  obtain ⟨u, hu, hm⟩ := committedRestart.start_m (moduleRestart {})
  obtain rfl : u = t := by injection hu.symm.trans ht
  rw [hm, moduleRestart_cfg {} rfl committedRestart_ready rfl (by decide) rfl rfl] at hcfg
  exact absurd hcfg (by decide)

end Sys2Proof.Machine
end


section
/-! PROOF. How a row reaches the module, as a completion: one lemma for each guard. -/

namespace Sys2Proof.Machine

theorem Completes.any {i : Instr} {s : State} {ok : Bool} {f : Mod → Mod} {C : State → Prop} (hexec : exec i s = s.any ok f) (hok : ok = true)
    (h : C { s with m := f s.m }) : Completes i s C :=
  ⟨_, hexec.trans (s.any_runs hok f), h⟩

theorem Completes.on {i : Instr} {s : State} {ok : Bool} {f : Mod → Mod} {C : State → Prop} (hexec : exec i s = s.on ok f) (hok : ok = true)
    (hon : s.m.powered = true) (h : C { s with m := f s.m }) : Completes i s C :=
  ⟨_, hexec.trans (s.on_runs hok hon f), h⟩

theorem Completes.sup {i : Instr} {s : State} {ok : Bool} {f : Mod → Mod} {C : State → Prop} (hexec : exec i s = s.sup ok f) (hok : ok = true)
    (hsup : s.m.supRuns = true) (h : C { s with m := f s.m }) : Completes i s C :=
  ⟨_, hexec.trans (s.sup_runs hok hsup f), h⟩

theorem Completes.fab {i : Instr} {s : State} {ok : Bool} {f : Mod → Mod} {C : State → Prop} (hexec : exec i s = s.fab ok f) (hok : ok = true)
    (hfab : s.m.fabricOn = true) (h : C { s with m := f s.m }) : Completes i s C :=
  ⟨_, hexec.trans (s.fab_runs hok hfab f), h⟩

theorem Completes.plan {i : Instr} {s : State} {ok : Bool} {f : Mod → Mod} {C : State → Prop} (hexec : exec i s = s.plan ok f) (hok : ok = true)
    (hplan : s.m.planOn = true) (h : C { s with m := f s.m }) : Completes i s C :=
  ⟨_, hexec.trans (s.plan_runs hok hplan f), h⟩

theorem Completes.act {i : Instr} {s : State} {ok : Bool} {f : Mod → Mod} {C : State → Prop} (hexec : exec i s = s.act ok f) (hok : ok = true)
    (hacts : s.acts) (h : C { s with m := f s.m }) : Completes i s C :=
  ⟨_, hexec.trans (s.act_runs hok hacts f), h⟩

theorem Completes.lgc {i : Instr} {s : State} {ok : Bool} {f : Mod → Mod} {C : State → Prop} (hexec : exec i s = s.lgc ok f) (hok : ok = true)
    (hacts : s.acts) (h : C { s with m := f s.m }) : Completes i s C :=
  ⟨_, hexec.trans (s.lgc_runs hok hacts f), h⟩

end Sys2Proof.Machine
end

section
/-! PROOF. A tick and a grain boundary advance the time (R31, R40, R42, R456). -/

namespace Sys2Proof.Machine

/-- The edges of a span carry the excess to the span's end, and no more than one INCR beyond it. -/
theorem TimeSt.edges_spec (t : TimeSt) (ns : Nat) (hincr : 0 < t.incr) (hexcess : t.excess ≤ ns * 2 ^ 24) :
    ns * 2 ^ 24 ≤ t.excess + t.edges ns * t.incr ∧ t.excess + t.edges ns * t.incr < ns * 2 ^ 24 + t.incr := by
  have hdiv := Nat.div_add_mod (ns * 2 ^ 24 - t.excess + t.incr - 1) t.incr
  have hmod := Nat.mod_lt (ns * 2 ^ 24 - t.excess + t.incr - 1) hincr
  rw [Nat.mul_comm] at hdiv
  unfold TimeSt.edges
  generalize (ns * 2 ^ 24 - t.excess + t.incr - 1) / t.incr * t.incr = k at hdiv ⊢
  omega

/-- A tick that passes in a running grain: the tick is the next one, and the corrected time runs for its span. -/
theorem tick_of_running {m : Mod} (hrun : m.grainsRun = true) (htick : m.plan.tick < 99) :
    (tick m).plan.tick = m.plan.tick + 1 ∧ (tick m).time = m.time.tickNs := by
  have hnot : ¬(!m.grainsRun || decide (99 ≤ m.plan.tick)) = true := by simp [hrun, htick]
  unfold tick
  rw [if_neg hnot]
  extract_lets m1 m2
  have hend := Mod.endTick_within m
  have h2 : Within [.can, .pair, .sent] m1 m2 :=
    (Mod.canRole_within ..).step (by decide) ((Mod.onPair_within ..).step (by decide) ((Mod.canPass_within ..).mono (by decide)))
  have hbegin : Within [.plan, .store, .chain, .conv, .prot, .safety, .pair, .can, .adc, .upd, .sent] m1
      (if m2.plan.tick = 2 then m2.sendReplay else m2).beginTick :=
    (Mod.beginTick_within ..).step (by decide) (.ite ((Mod.sendReplay_within ..).step (by decide) (h2.mono (by decide))) (h2.mono (by decide)))
  have h1 : m1.plan.tick = m.plan.tick + 1 := congrArg (· + 1) (hend.tickEq (by decide))
  have ht : m1.time = m.time.tickNs := congrArg TimeSt.tickNs (hend.timeEq (by decide))
  exact ⟨(hbegin.tickEq (by decide)).trans h1, (hbegin.timeEq (by decide)).trans ht⟩

theorem Mod.grainsRun_of_planOn {m : Mod} (hplan : m.planOn = true) (hfirst : m.plan.firstGrain = true) (hrole : m.roleless = false) :
    m.grainsRun = true := by
  obtain ⟨_, hmode⟩ := Bool.and_eq_true_iff.mp hplan
  simp [Mod.grainsRun, hmode, hfirst, hrole]

/-- Settles O8: the tick runs the corrected time to the first edge at or beyond its end, and the boundary is that of R40. -/
theorem timeAdvances : Obligations.TimeAdvances := by
  refine ⟨fun s hplan hfirst hrole htick hincr hexcess => ?tick, fun s d hplan hdue => exec_grainBoundary_of_due d hplan hdue |>.imp ?boundary⟩
  case tick =>
    obtain ⟨hnext, htime⟩ := tick_of_running (Mod.grainsRun_of_planOn hplan hfirst hrole) htick
    obtain ⟨hcnt, hkeeps⟩ := tick_count s.m
    obtain ⟨hreach, hfirstEdge⟩ := s.m.time.edges_spec 10000 hincr hexcess
    refine .plan (f := tick) rfl rfl hplan ⟨hnext, hcnt, hkeeps.trans hfirst, ⟨_, hreach, hfirstEdge, ?_⟩, (tick_within s.m).only⟩
    rw [htime]
    rfl
  case boundary =>
    rintro t ⟨ht, hfirst, htick, hcnt⟩
    exact ⟨ht, htick, hfirst, hcnt⟩

end Sys2Proof.Machine
end

section
/-! PROOF. A response at a ring end, and the end of a transaction's response window (R93, R97, R101-R107, R121, R167). -/

namespace Sys2Proof.Machine

@[simp] theorem okString_of_lt {n : Nat} (h : n < 32) : okString n = true := by simp [okString, h]

@[simp] theorem Mod.capture_chain (m : Mod) (f : ReplayRec → ReplayRec) : (m.capture f).chain = m.chain :=
  (Mod.capture_within m f).out .chain (by decide)

@[simp] theorem Mod.capture_ring (m : Mod) (f : ReplayRec → ReplayRec) (n : Nat) : (m.capture f).ring n = m.ring n :=
  congrArg (fun c : ChainSt => tget c.rings n) (m.capture_chain f)

@[simp] theorem Mod.capture_mon (m : Mod) (f : ReplayRec → ReplayRec) (n a : Nat) : (m.capture f).mon n a = m.mon n a :=
  congrArg (fun c : ChainSt => tget c.mons (40 * n + a)) (m.capture_chain f)

@[simp] theorem Mod.onMon_ring (m : Mod) (n a k : Nat) (f : Monitor → Monitor) : (m.onMon n a f).ring k = m.ring k := rfl

@[simp] theorem Mod.onRing_mon (m : Mod) (n k a : Nat) (f : Ring → Ring) : (m.onRing n f).mon k a = m.mon k a := rfl

theorem chainResponseOwn_discards {n : Nat} {x : ChainRx} {m : Mod}
    (h : x.frame = .broken ∨ (∃ r, x.frame = .resp r) ∧ m.endLocked n x.rxEnd = false) :
    chainResponseOwn n x m = m.onRing n fun r => { r with crcDiscard := stopAt 0xFFFF (r.crcDiscard + 1) } := by
  rcases h with hbroken | ⟨⟨r, hresp⟩, hlock⟩
  · simp [chainResponseOwn, hbroken]
  · simp [chainResponseOwn, hresp, hlock]

theorem chainResponseOwn_taken {n : Nat} {x : ChainRx} {r : ChainResp} {m : Mod} (hframe : x.frame = .resp r)
    (hlock : m.endLocked n x.rxEnd = true) (hact : m.standby = false) : chainResponseOwn n x m = m.chainResponseTaken n r := by
  simp [chainResponseOwn, hframe, hlock, hact]

/-- A response that matches the open transaction of an addressed command is accepted (R106). -/
theorem chainResponse_accepted {n : Nat} {r : ChainResp} {t : ChainTxn} {m : Mod} (htxn : (m.ring n).txn = some t) (hwin : r.inWindow = true)
    (hcmd : t.frame.cmd ≠ .enum) (hsrc : r.src ∈ t.expected) (hnew : r.src ∉ t.accepted) (hroom : t.accepted.length < t.room)
    (hdir : r.dir = t.frame.dir) (hop : r.opcode = t.frame.cmd.opcode) (hcnt : r.cnt = t.frame.cnt) :
    chainResponse n r m = (m.onRing n fun x => { x with txn := some { t with accepted := t.accepted ++ [r.src] } }).takeResp n t r := by
  have hroom' : ¬ t.room ≤ t.accepted.length := by omega
  simp [chainResponse, htxn, hwin, hcmd, hsrc, hnew, hroom', hdir, hop, hcnt]

/-- A monitor heard within the last second by a command other than the sweep only has its state noted (R107). -/
theorem Mod.monHeard_of_recent {m : Mod} {n : Nat} {mc : MonCfg} {x : ChainTxn} {r : ChainResp} (hop : x.frame.cmd.opcode ≠ 1)
    (hms : m.host.ms - (m.mon n mc.addr).heardMs ≤ 1000) :
    m.monHeard n mc x r = m.onMon n mc.addr fun y => { y with
      cmp := r.cmp, answered := true, spoke := true, silent := false, heardMs := m.host.ms
      norespHeard := y.norespHeard || x.frame.cmd.opcode == 1 || x.frame.cmd.opcode == 0x21, testDue := y.testDue || false } := by
  have hms' : ¬ 1000 < m.host.ms - (m.mon n mc.addr).heardMs := by omega
  simp [Mod.monHeard, hop, hms']

theorem Mod.monCfg?_addr {m : Mod} {n a : Nat} {mc : MonCfg} (h : m.monCfg? n a = some mc) : mc.addr = a := by
  simpa using List.find?_some h

/-- The answer to an AUTH_CHALLENGE: the monitor is heard, and its nonce is kept (R121). -/
theorem Mod.takeResp_authChallenge {m : Mod} {n : Nat} {x : ChainTxn} {r : ChainResp} {nm : List Byte} {mc : MonCfg}
    (hcmd : x.frame.cmd = .authChallenge nm) (herr : r.err = false) (hmc : m.monCfg? n r.src = some mc)
    (hms : m.host.ms - (m.mon n r.src).heardMs ≤ 1000) :
    m.takeResp n x r = (m.onMon n r.src fun y => { y with
      cmp := r.cmp, answered := true, spoke := true, silent := false, heardMs := m.host.ms
      norespHeard := y.norespHeard || false || false, testDue := y.testDue || false }).onMon n r.src fun y => { y with nMon := r.payload } := by
  have haddr := Mod.monCfg?_addr hmc
  have hheard : m.monHeard n mc x r = _ := Mod.monHeard_of_recent (by simp [hcmd, ChainCmd.opcode]) (haddr ▸ hms)
  simp [Mod.takeResp, herr, hmc, hcmd, hheard, haddr, ChainCmd.opcode]

/-- The module once a transaction is closed: what is missing is counted, and the monitors that were silent are noted (R93, R97, R106). -/
def Mod.txnClosed (m : Mod) (n : Nat) (far : Option Nat) (x : ChainTxn) : Mod :=
  let mute := x.expected.filter fun a => !x.accepted.contains a
  (m.onRing n fun r => { r with
    txn := none, cont := far.isSome && !(m.ring n).inverted x.frame.dir.other
    missing := stopAt 0xFFFF (r.missing + (x.room - (x.expected.length - mute.length))) }).each
    (mute.filter fun a => !((if x.frame.dir = m.fwdEnd then [] else (m.ring n).now.gotFwd).contains a)) fun m a =>
    m.onMon n a fun y => { y with silent := true }

/-- With no response taken, every monitor expected is silent and every room is missing. -/
theorem Mod.txnClosed_of_none (m : Mod) (n : Nat) (far : Option Nat) {x : ChainTxn} (hnone : x.accepted = []) :
    m.txnClosed n far x = (m.onRing n fun r => { r with
      txn := none, cont := far.isSome && !(m.ring n).inverted x.frame.dir.other, missing := stopAt 0xFFFF (r.missing + x.room) }).each
      (x.expected.filter fun a => !((if x.frame.dir = m.fwdEnd then [] else (m.ring n).now.gotFwd).contains a)) fun m a =>
      m.onMon n a fun y => { y with silent := true } := by
  simp [Mod.txnClosed, hnone]

theorem Mod.txnClosed_queue (m : Mod) (n : Nat) (far : Option Nat) (x : ChainTxn) : ((m.txnClosed n far x).ring n).queue = (m.ring n).queue := by
  refine (Mod.each_keeps (fun m => (m.ring n).queue) _ _ _ fun m a => by rfl).trans ?_
  simp

theorem Mod.txnClosed_balWaiting (m : Mod) (n : Nat) (far : Option Nat) (x : ChainTxn) (a : Nat) :
    (m.txnClosed n far x).balWaiting n a = m.balWaiting n a := by
  unfold Mod.balWaiting
  rw [Mod.txnClosed_queue]

/-- A transaction other than an ENUM or a sweep whose window ended: closed, and its command missed where nothing was taken (R107). -/
theorem chainTransactionClose_closes {n : Nat} {far : Option Nat} {x : ChainTxn} {m : Mod} (htxn : (m.ring n).txn = some x)
    (hend : x.closes ≤ 20000 * (m.plan.tick + 1)) (henum : x.frame.cmd ≠ .enum) (hsweep : ∀ w b, x.frame.cmd ≠ .sweep w b) :
    chainTransactionClose n far m = if x.frame.cmd = .hibernate then m.txnClosed n far x else
      match x.wait with
      | some w => if x.accepted.isEmpty then (m.txnClosed n far x).closeMissed n w else m.txnClosed n far x
      | none => m.txnClosed n far x := by
  have hcont : (if (m.ring n).inverted x.frame.dir.other then none else far).isSome = (far.isSome && !(m.ring n).inverted x.frame.dir.other) := by
    cases (m.ring n).inverted x.frame.dir.other <;> simp
  unfold chainTransactionClose
  simp only [htxn, Mod.windowEnded, hend, decide_true, Bool.not_true, Bool.false_eq_true, if_false, hcont, Mod.onRing_fields]
  cases hcmd : x.frame.cmd
  case enum => exact absurd hcmd henum
  case sweep => exact absurd hcmd (hsweep _ _)
  all_goals rfl

/-- A transaction other than an ENUM or a sweep that took a response only closes. -/
theorem chainTransactionClose_of_taken {n : Nat} {far : Option Nat} {x : ChainTxn} {m : Mod} (htxn : (m.ring n).txn = some x)
    (hend : x.closes ≤ 20000 * (m.plan.tick + 1)) (hacc : x.accepted ≠ []) (henum : x.frame.cmd ≠ .enum)
    (hsweep : ∀ w b, x.frame.cmd ≠ .sweep w b) : chainTransactionClose n far m = m.txnClosed n far x := by
  rw [chainTransactionClose_closes htxn hend henum hsweep]
  by_cases hhib : x.frame.cmd = .hibernate
  · rw [if_pos hhib]
  · rw [if_neg hhib]
    cases x.wait <;> simp [hacc]

/-- A transaction of an addressed command that took no response is closed as missed. -/
theorem chainTransactionClose_of_none {n : Nat} {far : Option Nat} {x : ChainTxn} {w : ChainWait} {m : Mod} (htxn : (m.ring n).txn = some x)
    (hend : x.closes ≤ 20000 * (m.plan.tick + 1)) (hnone : x.accepted = []) (hwait : x.wait = some w) (henum : x.frame.cmd ≠ .enum)
    (hhib : x.frame.cmd ≠ .hibernate) (hsweep : ∀ w b, x.frame.cmd ≠ .sweep w b) :
    chainTransactionClose n far m = (m.txnClosed n far x).closeMissed n w := by
  rw [chainTransactionClose_closes htxn hend henum hsweep, if_neg hhib, hwait, hnone]
  rfl

/-- A missed command goes back among the waiting ones while attempts are left, an OPEN_WIRE among the tests (R107, R136). -/
theorem Mod.closeMissed_again {m : Mod} {n : Nat} {w : ChainWait} (htries : w.attempts + 1 < 3)
    (hbal : w.cmd.opcode = 6 → m.balWaiting n w.addr = none) :
    m.closeMissed n w = m.onRing n fun r =>
      if w.cmd.opcode = 8 then { r with owQueue := { w with attempts := w.attempts + 1 } :: r.owQueue }
      else { r with queue := r.queue ++ [{ w with attempts := w.attempts + 1, prio := if w.prio.rank < 2 then w.prio else .retry }] } := by
  have hnot : ¬ (w.cmd.opcode = 6 && (m.balWaiting n w.addr).isSome) = true := by
    rw [Bool.and_eq_true, decide_eq_true_eq]
    rintro ⟨hop, hsome⟩
    rw [hbal hop] at hsome
    cases hsome
  rw [Mod.closeMissed, if_pos htries, if_neg hnot]
  split <;> rfl

/-- A missed SET_BALANCE that a newer one replaces is dropped (R167). -/
theorem Mod.closeMissed_replaced {m : Mod} {n : Nat} {w : ChainWait} {b : List Nat × Bool} (htries : w.attempts + 1 < 3)
    (hop : w.cmd.opcode = 6) (hbal : m.balWaiting n w.addr = some b) : m.closeMissed n w = m := by
  simp [Mod.closeMissed, htries, hop, hbal]

/-- Settles O7: what each response and each closing does is read off the lemmas above. -/
theorem chainTraffic : Obligations.ChainTraffic := by
  refine ⟨fun s n x hplan hn hframe => ?foreign, fun s n x hplan hn h => ?discarded,
    fun s n b r x nm mc hacts hn hframe hlock htxn hcmd hwin hexp hroom hacc hdir hop hcnt herr hmc hms => ?answer,
    fun s n far x hacts hn htxn hend hacc henum hsweep => ?taken,
    fun s n far x w hacts hn htxn hend hacc hwait hcmd hnot hsweep htries hbal => ?missed,
    fun s n far x w b hacts hn htxn hend hacc hwait hcmd hop htries hbal => ?replaced⟩
  case foreign =>
    refine .plan rfl (okString_of_lt hn) hplan ?_
    simp [chainResponseOwn, hframe]
  case discarded =>
    refine .plan rfl (okString_of_lt hn) hplan ?_
    rw [chainResponseOwn_discards h]
  case answer =>
    refine .plan (f := chainResponseOwn n b) rfl (okString_of_lt hn) hacts.1 ?_
    have hheard : chainResponse n r s.m = _ :=
      (chainResponse_accepted htxn hwin (by simp [hcmd]) (by simp [hexp]) (by simp [hacc]) (by simpa [hacc] using hroom) hdir
        (by simp [hop, hcmd, ChainCmd.opcode]) hcnt).trans (Mod.takeResp_authChallenge hcmd herr hmc hms)
    rw [chainResponseOwn_taken hframe hlock hacts.2, Mod.chainResponseTaken, hheard]
    refine ⟨by simp [hacc], by simp, by simp, by simp, by simp, by simp, by simp, by simp, ⟨fun k hk => ?_, fun j hj => ?_, ?_⟩, ?_⟩
    · simp [Mod.ring_onRing, hk]
    · simp [Mod.onMon, tget_tmod, hj]
    · simp
    · exact ((Mod.capture_within ..).step (by decide) ((Mod.onMon_within ..).step (by decide) ((Mod.onMon_within ..).step (by decide)
        ((Mod.onRing_within ..).mono (by decide))))).only
  case taken =>
    refine .act rfl (okString_of_lt hn) hacts ?_
    rw [chainCloseOwn, chainTransactionClose_of_taken htxn hend hacc henum hsweep]
    rfl
  case missed =>
    obtain ⟨henum, hhib⟩ := hnot
    refine .act rfl (okString_of_lt hn) hacts ?_
    rw [chainCloseOwn, chainTransactionClose_of_none htxn hend hacc hwait (hcmd ▸ henum) (hcmd ▸ hhib) (hcmd ▸ hsweep),
      Mod.closeMissed_again htries (by rwa [Mod.txnClosed_balWaiting]), Mod.txnClosed_of_none _ _ _ hacc]
  case replaced =>
    have hnot : ∀ c : ChainCmd, c.opcode ≠ 6 → x.frame.cmd ≠ c := fun c hc heq => hc (by rw [← heq, hcmd, hop])
    refine .act rfl (okString_of_lt hn) hacts ?_
    rw [chainCloseOwn, chainTransactionClose_of_none htxn hend hacc hwait (hnot _ (by decide)) (hnot _ (by decide)) (fun _ _ => hnot _ (by simp [ChainCmd.opcode])),
      Mod.closeMissed_replaced htries hop ((Mod.txnClosed_balWaiting ..).trans hbal), Mod.txnClosed_of_none _ _ _ hacc]

end Sys2Proof.Machine
end

section
/-! PROOF. CAN ports: what a row at a port leaves alone, and how a frame is received (R471, R477, R480, R481, R485). -/

namespace Sys2Proof.Machine

/-- What is read of the plan's parameters and objects depends on the host interface, the plan and the safety configuration alone. -/
theorem Within.parEq {ps : List Part} {a b : Mod} (h : Within ps a b) (hhost : .host ∉ ps) (hsafety : .safety ∉ ps) (id : Nat) :
    b.par id = a.par id := by
  unfold Mod.par
  rw [h.hostEq hhost, h.safetyEq hsafety]

theorem Within.canCfgEq {ps : List Part} {a b : Mod} (h : Within ps a b) (hhost : .host ∉ ps) (hsafety : .safety ∉ ps)
    (hplan : .plan ∉ ps ∧ .clock ∉ ps) (p o : Nat) : b.canCfg p o = a.canCfg p o := by
  have hpar : b.par = a.par := funext (h.parEq hhost hsafety)
  unfold Mod.canCfg Mod.zoneStrings Mod.confStrings Mod.configured Mod.bed?
  rw [hpar, h.planEq hplan]

theorem Within.canObjsEq {ps : List Part} {a b : Mod} (h : Within ps a b) (hhost : .host ∉ ps) (hsafety : .safety ∉ ps)
    (hplan : .plan ∉ ps ∧ .clock ∉ ps) (p : Nat) : b.canObjs p = a.canObjs p := by
  have hpar : b.par = a.par := funext (h.parEq hhost hsafety)
  have hcfg : b.canCfg p = a.canCfg p := funext (h.canCfgEq hhost hsafety hplan p)
  unfold Mod.canObjs
  rw [hpar, hcfg, h.hostEq hhost]

/-- A record counts from the storage that it finds. -/
theorem Recorded.of_store {code item block : Nat} {a a' b : Mod} (h : Recorded code item block a' b) (hstore : a'.store = a.store) :
    Recorded code item block a b := by
  unfold Recorded at h ⊢
  rwa [hstore] at h

/-- Every port but `p` is as it was. -/
structure OtherPorts (p : Nat) (a b : Mod) : Prop where
  eq : ∀ q, q ≠ p → b.port q = a.port q

theorem OtherPorts.refl (p : Nat) (a : Mod) : OtherPorts p a a := ⟨fun _ _ => rfl⟩

theorem OtherPorts.trans {p : Nat} {a b c : Mod} (h : OtherPorts p a b) (k : OtherPorts p b c) : OtherPorts p a c :=
  ⟨fun q hq => (k.eq q hq).trans (h.eq q hq)⟩

theorem OtherPorts.onPort {p : Nat} {a b : Mod} (h : OtherPorts p a b) (f : CanPort → CanPort) : OtherPorts p a (b.onPort p f) :=
  h.trans ⟨fun q hq => by rw [Mod.port_onPort, if_neg hq]⟩

theorem OtherPorts.onObj {p : Nat} {a b : Mod} (h : OtherPorts p a b) (o : Nat) (f : CanObj → CanObj) : OtherPorts p a (b.onObj p o f) :=
  h.onPort _

theorem OtherPorts.sameCan {p : Nat} {a b c : Mod} (h : OtherPorts p a b) (hcan : c.can = b.can) : OtherPorts p a c :=
  h.trans ⟨fun q _ => congrArg (fun x : CanSt => tget x.ports q) hcan⟩

theorem OtherPorts.post {p : Nat} {a b : Mod} (h : OtherPorts p a b) (code item block : Nat) (data : List Byte) :
    OtherPorts p a (b.post code item block data) := h.sameCan ((Mod.post_within ..).canEq (by decide))

@[simp] theorem Mod.post_port (m : Mod) (code item block : Nat) (data : List Byte) (p : Nat) :
    (m.post code item block data).port p = m.port p :=
  congrArg (fun x : CanSt => tget x.ports p) ((Mod.post_within m code item block data).canEq (by decide))

@[simp] theorem Mod.port_onObj (m : Mod) (p o : Nat) (f : CanObj → CanObj) : (m.onObj p o f).port p = (m.port p).onObj o f :=
  (m.onPort_fields p _).1

@[simp] theorem CanPort.obj_onObj (c : CanPort) (o k : Nat) (f : CanObj → CanObj) :
    (c.onObj o f).obj k = if k = o then f (c.obj o) else c.obj k := tget_tmod ..

/-- The counters of a port only tell whether it is error active or passive. -/
theorem CanPort.errNow_eq (c : CanPort) : c.errNow = { c with err := c.errNow.err } := by
  unfold CanPort.errNow
  split <;> rfl

/-- A frame received without error changes REC and the error state of its port alone. -/
theorem Mod.recGood_port (m : Mod) (p : Nat) : ∃ r e, (m.recGood p).port p = { m.port p with recCnt := r, err := e } := by
  unfold Mod.recGood
  dsimp only
  split
  · exact ⟨_, _, rfl⟩
  split
  · exact ⟨_, _, (m.onPort_fields p _).1.trans (CanPort.errNow_eq _)⟩
  · exact ⟨_, _, (m.free.2.onPort_fields p _).1.trans (CanPort.errNow_eq _)⟩

theorem OtherPorts.recGood (p : Nat) (m : Mod) : OtherPorts p m (m.recGood p) := by
  unfold Mod.recGood
  dsimp only
  split
  · exact .refl ..
  split
  · exact (OtherPorts.refl ..).onPort _
  · exact ((OtherPorts.refl p m).sameCan (c := m.free.2) rfl).onPort _

/-- The port once a frame is heard without error, before it is looked at (R480, R485). -/
def Mod.canHeard (m : Mod) (p bits : Nat) : Mod :=
  ((m.onPort p fun c => { c with busBits := c.busBits + bits }).onPort p fun c =>
    { c with rxFrames := stopAt 0xFFFFFFFF (c.rxFrames + 1) }).recGood p

theorem Mod.canHeard_within (m : Mod) (p bits : Nat) : Within [.can, .free] m (m.canHeard p bits) :=
  (Mod.recGood_within ..).step (by decide) ((Mod.onPort_within ..).step (by decide) ((Mod.onPort_within ..).mono (by decide)))

theorem OtherPorts.canHeard (m : Mod) (p bits : Nat) : OtherPorts p m (m.canHeard p bits) :=
  (((OtherPorts.refl ..).onPort _).onPort _).trans (.recGood ..)

theorem Mod.canHeard_port (m : Mod) (p bits : Nat) : ∃ r e, (m.canHeard p bits).port p =
    { m.port p with busBits := (m.port p).busBits + bits, rxFrames := stopAt 0xFFFFFFFF ((m.port p).rxFrames + 1), recCnt := r, err := e } := by
  obtain ⟨r, e, h⟩ := Mod.recGood_port ((m.onPort p fun c => { c with busBits := c.busBits + bits }).onPort p fun c =>
    { c with rxFrames := stopAt 0xFFFFFFFF (c.rxFrames + 1) }) p
  exact ⟨r, e, h.trans (by simp)⟩

/-- The first enabled receive object that carries a frame's identifier (R480). -/
def Mod.canHit (m : Mod) (p : Nat) (f : CanFrame) : Option Nat :=
  (m.canObjs p).find? fun k => !(m.canCfg p k).tx && (m.canCfg p k).ide == f.ide && (m.canCfg p k).id == f.id

/-- What a receive object takes of a frame, with the stamps of its start of frame (R480). -/
def Mod.canImage (m : Mod) (p : Nat) (f : CanFrame) (bits : Nat) : CanRx :=
  { frame := { f with data := padTo 64 0 (f.data.take (if f.rtr then 0 else dlcLen f.fdf f.dlc)) }
    tsGrain := (m.stampAgo (m.bitNs p bits)).1, tsNs := (m.stampAgo (m.bitNs p bits)).2 }

/-- The port receives: it is on, on the bus, integrated, tries no rates and takes no reference messages (R471, R477, R488). -/
structure Mod.CanReceives (m : Mod) (p : Nat) : Prop where
  lt : p < 4
  on : (m.port p).mode ≠ 0
  err : (m.port p).err = .active ∨ (m.port p).err = .passive
  detect : (m.port p).detect = none
  integ : (m.port p).integ = 0
  slave : m.ttListens p = false

theorem CanPort.onBus_of_err {c : CanPort} (h : c.err = .active ∨ c.err = .passive) : ¬ (c.err = .busOff ∨ c.err = .recovering) := by
  rcases h with h | h <;> simp [h]

/-- A port that receives hears the frame, and its object, its lock buffer or none takes it (R480, R481). -/
theorem canFrameReceived_of_receives {m : Mod} {p : Nat} (h : m.CanReceives p) (f : CanFrame) (bits : Nat) :
    canFrameReceived p f bits m =
      match m.canHit p f with
      | none => (m.canHeard p bits).onPort p fun c => { c with unmatched := stopAt 0xFFFFFFFF (c.unmatched + 1) }
      | some o =>
        if (m.port p).lock = some o then
          let m' := (m.canHeard p bits).onPort p fun c => { c with
            held := some (m.canImage p f bits), lockDefer := stopAt 0xFFFFFFFF (c.lockDefer + 1), lostAny := c.lostAny || (m.port p).held.isSome }
          if (m.port p).held.isSome then m'.onObj p o fun x => { x with lost := true, lostCnt := stopAt 0xFFFFFFFF (x.lostCnt + 1) } else m'
        else
          ((m.canHeard p bits).onObj p o fun x => x.take (m.canImage p f bits)).onPort p fun c =>
            { c with lostAny := c.lostAny || ((m.port p).obj o).unread } := by
  have hguard : ¬ (decide (3 < p) || decide ((m.port p).mode = 0) || decide ((m.port p).err = .busOff ∨ (m.port p).err = .recovering)) = true := by
    simp only [Bool.or_eq_true, decide_eq_true_eq, not_or]
    exact ⟨⟨by have := h.lt; omega, h.on⟩, not_or.mp (CanPort.onBus_of_err h.err)⟩
  have hinteg : ¬ 0 < (m.port p).integ := by rw [h.integ]; omega
  have hslave : (m.onPort p fun c => { c with busBits := c.busBits + bits }).ttListens p = false := by
    have hport := (m.onPort_fields p fun c => { c with busBits := c.busBits + bits }).1
    have hlisten := h.slave
    unfold Mod.ttListens at hlisten ⊢
    rwa [hport]
  have htiming : (m.onPort p fun c => { c with busBits := c.busBits + bits }).bitNs p bits = m.bitNs p bits := by
    have hport := (m.onPort_fields p fun c => { c with busBits := c.busBits + bits }).1
    unfold Mod.bitNs
    rw [hport]
  have hheard := Mod.canHeard_within m p bits
  have hcfg (o : Nat) : (m.canHeard p bits).canCfg p o = m.canCfg p o := hheard.canCfgEq (by decide) (by decide) (by decide) p o
  have hobjs : (m.canHeard p bits).canObjs p = m.canObjs p := hheard.canObjsEq (by decide) (by decide) (by decide) p
  unfold canFrameReceived
  rw [if_neg hguard]
  dsimp only
  rw [if_neg hinteg, h.detect]
  dsimp only
  rw [if_neg (by simp [hslave])]
  rw [htiming, ← Mod.canHeard]
  have hhit : ((m.canHeard p bits).canObjs p).find? (fun o => !((m.canHeard p bits).canCfg p o).tx && ((m.canHeard p bits).canCfg p o).ide == f.ide &&
      ((m.canHeard p bits).canCfg p o).id == f.id) = m.canHit p f := by
    rw [Mod.canHit, hobjs]
    simp only [hcfg]
  rw [hhit]
  rfl

/-- A frame that an object takes (R480). -/
theorem canFrameReceived_into {m : Mod} {p o : Nat} (h : m.CanReceives p) {f : CanFrame} (bits : Nat) (hhit : m.canHit p f = some o)
    (hlock : (m.port p).lock ≠ some o) :
    canFrameReceived p f bits m = ((m.canHeard p bits).onObj p o fun x => x.take (m.canImage p f bits)).onPort p fun c =>
      { c with lostAny := c.lostAny || ((m.port p).obj o).unread } := by
  rw [canFrameReceived_of_receives h, hhit]
  exact if_neg hlock

/-- The rates are found by the second frame in succession (R477). -/
theorem canFrameReceived_detects {m : Mod} {p : Nat} {d : CanDetect} {f : CanFrame} (bits : Nat) (hp : p < 4) (hmode : (m.port p).mode ≠ 0)
    (herr : (m.port p).err = .active) (hdetect : (m.port p).detect = some d) (hinteg : (m.port p).integ = 0) (hrun : d.run = 1)
    (hbrs : f.brs = false) :
    canFrameReceived p f bits m = ((m.onPort p fun c => { c with busBits := c.busBits + bits }).onPort p fun c =>
      { c with detect := none, detRate := detectRates.getD d.rate 0 }).post 0xB003 p bCan (leN 4 (detectRates.getD d.rate 0)) := by
  have hlt : ¬ 3 < p := by omega
  simp [canFrameReceived, hlt, hmode, herr, hinteg, hdetect, Mod.detectFrame, hbrs, hrun]

/-- A listening port sends nothing. -/
theorem Mod.canNext_of_listens {m : Mod} {p : Nat} (hmode : (m.port p).mode ≠ 1) : m.canNext p = m := by
  simp [Mod.canNext, Mod.canMayTx, Mod.canNormal, hmode]

/-- A frame heard while a listening port integrates ends the integration (R471). -/
theorem canFrameReceived_integrates {m : Mod} {p : Nat} (f : CanFrame) (bits : Nat) (hp : p < 4) (hmode : (m.port p).mode = 2)
    (herr : (m.port p).err = .active ∨ (m.port p).err = .passive) (hinteg : 0 < (m.port p).integ) :
    canFrameReceived p f bits m = (m.onPort p fun c => { c with busBits := c.busBits + bits }).onPort p fun c => { c with integ := 0 } := by
  have hguard : ¬ (decide (3 < p) || decide ((m.port p).mode = 0) || decide ((m.port p).err = .busOff ∨ (m.port p).err = .recovering)) = true := by
    simp only [Bool.or_eq_true, decide_eq_true_eq, not_or]
    exact ⟨⟨by omega, by omega⟩, not_or.mp (CanPort.onBus_of_err herr)⟩
  unfold canFrameReceived
  rw [if_neg hguard]
  dsimp only
  rw [if_pos hinteg, Mod.canNext_of_listens]
  simp [hmode]

/-- A port that has met an error while receiving (R485). -/
def CanPort.rxErrored (c : CanPort) (live : Bool) (lec inc : Nat) : CanPort :=
  let c := { c with errFrames := stopAt 0xFFFFFFFF (c.errFrames + 1), lec := lec, detect := c.detect.map fun d => { d with run := 0 } }
  if live then { c with recCnt := stopAt 255 (c.recCnt + inc) }.errNow else c

theorem CanPort.rxErrored_fields (c : CanPort) (live : Bool) (lec inc : Nat) :
    (c.rxErrored live lec inc).errFrames = stopAt 0xFFFFFFFF (c.errFrames + 1) ∧ (c.rxErrored live lec inc).lec = lec ∧
    (c.rxErrored live lec inc).recCnt = (if live then stopAt 255 (c.recCnt + inc) else c.recCnt) ∧
    (c.rxErrored live lec inc).tec = c.tec ∧ (c.rxErrored live lec inc).objs = c.objs := by
  cases live
  · exact ⟨rfl, rfl, rfl, rfl, rfl⟩
  · have heq : c.rxErrored true lec inc = _ := CanPort.errNow_eq _
    rw [heq]
    exact ⟨rfl, rfl, rfl, rfl, rfl⟩

theorem canRxError_of_hears {m : Mod} {p : Nat} (lec inc : Nat) (hp : p < 4) (hmode : (m.port p).mode ≠ 0) (hinteg : (m.port p).integ = 0)
    (herr : (m.port p).err = .active ∨ (m.port p).err = .passive) :
    canRxError p lec inc m = m.onPort p fun c => c.rxErrored (m.canNormal p) lec inc := by
  have hguard : ¬ (decide (3 < p) || decide ((m.port p).mode = 0) || decide ((m.port p).err = .busOff ∨ (m.port p).err = .recovering) ||
      decide (0 < (m.port p).integ)) = true := by
    simp only [Bool.or_eq_true, decide_eq_true_eq, not_or]
    exact ⟨⟨⟨by omega, hmode⟩, not_or.mp (CanPort.onBus_of_err herr)⟩, by omega⟩
  exact if_neg hguard

/-- Settles O35: reception is judged once, and each clause reads the port that results. -/
theorem canReception : Obligations.CanReception := by
  refine ⟨fun s p o f bits hfab hp hmode herr hdet hinteg hslave hlock hhit => ?into,
    fun s p f bits hfab hp hmode herr hdet hinteg hslave hhit => ?unmatched,
    fun s p o f bits hfab hp hmode herr hdet hinteg hslave hlock hhit => ?locked,
    fun s p d f bits hfab hp hmode herr hdet hinteg hrun hbrs => ?detects,
    fun s p f bits hfab hp hmode herr hinteg => ?integrates,
    fun s p lec inc hfab hp hmode hinteg herr => ?error⟩
  case into =>
    have hrec : s.m.CanReceives p := ⟨hp, hmode, herr, hdet, hinteg, hslave⟩
    obtain ⟨r, e, hheard⟩ := Mod.canHeard_port s.m p bits
    refine .fab rfl (by simp [okCan, hp]) hfab ?_
    rw [canFrameReceived_into hrec bits hhit hlock]
    refine ⟨by simp [hheard, CanPort.obj, CanPort.onObj, CanObj.take]; rfl, by simp [CanPort.obj, CanPort.onObj, CanObj.take],
      by simp [CanPort.obj, CanPort.onObj, CanObj.take], by simp [hheard, CanPort.obj, CanPort.onObj, CanObj.take],
      by simp [hheard, CanPort.obj, CanPort.onObj, CanObj.take], by simp [hheard, CanPort.onObj], by simp [hheard, CanPort.onObj],
      by simp [hheard, CanPort.onObj], fun k hk => by simp [hheard, CanPort.obj, CanPort.onObj, tget_tmod, hk],
      (((OtherPorts.canHeard s.m p bits).onObj o _).onPort _).eq,
      ((Mod.onPort_within ..).step (by decide) ((Mod.onObj_within ..).step (by decide) (Mod.canHeard_within s.m p bits))).only⟩
  case unmatched =>
    have hrec : s.m.CanReceives p := ⟨hp, hmode, herr, hdet, hinteg, hslave⟩
    have hnone : s.m.canHit p f = none := hhit
    obtain ⟨r, e, hheard⟩ := Mod.canHeard_port s.m p bits
    refine .fab rfl (by simp [okCan, hp]) hfab ?_
    rw [canFrameReceived_of_receives hrec, hnone]
    exact ⟨by simp [hheard], by simp [hheard], by simp [hheard], by simp [hheard], ((OtherPorts.canHeard s.m p bits).onPort _).eq,
      ((Mod.onPort_within ..).step (by decide) (Mod.canHeard_within s.m p bits)).only⟩
  case locked =>
    have hrec : s.m.CanReceives p := ⟨hp, hmode, herr, hdet, hinteg, hslave⟩
    have hsome : s.m.canHit p f = some o := hhit
    obtain ⟨r, e, hheard⟩ := Mod.canHeard_port s.m p bits
    refine .fab rfl (by simp [okCan, hp]) hfab ?_
    rw [canFrameReceived_of_receives hrec, hsome]
    dsimp only
    rw [if_pos hlock]
    have hwithin := Mod.canHeard_within s.m p bits
    have hothers := OtherPorts.canHeard s.m p bits
    cases hheld : (s.m.port p).held.isSome
    · rw [if_neg (by simp)]
      exact ⟨by simp; rfl, by simp [hheard, CanPort.obj], by simp [hheard, CanPort.obj], by simp [hheard], by simpa [hheard] using hlock,
        fun k _ => by simp [hheard, CanPort.obj], (hothers.onPort _).eq, ((Mod.onPort_within ..).step (by decide) hwithin).only⟩
    · rw [if_pos rfl]
      exact ⟨by simp [CanPort.onObj]; rfl, by simp [hheard, CanPort.obj, CanPort.onObj], by simp [hheard, CanPort.obj, CanPort.onObj],
        by simp [hheard, CanPort.onObj], by simpa [hheard, CanPort.onObj] using hlock,
        fun k hk => by simp [hheard, CanPort.obj, CanPort.onObj, tget_tmod, hk], ((hothers.onPort _).onObj _ _).eq,
        ((Mod.onObj_within ..).step (by decide) ((Mod.onPort_within ..).step (by decide) hwithin)).only⟩
  case detects =>
    refine .fab rfl (by simp [okCan, hp]) hfab ?_
    rw [canFrameReceived_detects bits hp (by omega) herr hdet hinteg hrun hbrs]
    exact ⟨by simp, by simp, (Mod.post_recorded ..).of_store rfl, by simp, by simp, ((((OtherPorts.refl ..).onPort _).onPort _).post ..).eq,
      ((Mod.post_within ..).step (by decide) ((Mod.onPort_within ..).step (by decide) ((Mod.onPort_within ..).mono (by decide)))).only⟩
  case integrates =>
    refine .fab rfl (by simp [okCan, hp]) hfab ?_
    rw [canFrameReceived_integrates f bits hp hmode herr hinteg]
    exact ⟨by simp, by simp, by simp, by simp, by simp, (((OtherPorts.refl ..).onPort _).onPort _).eq,
      ((Mod.onPort_within ..).trans (Mod.onPort_within ..)).only⟩
  case error =>
    refine .fab rfl (by simp [okCan, hp]) hfab ?_
    rw [canRxError_of_hears lec inc hp hmode hinteg herr]
    obtain ⟨h1, h2, h3, h4, h5⟩ := CanPort.rxErrored_fields (s.m.port p) (s.m.canNormal p) lec inc
    refine ⟨by simp [h1], by simp [h2], ?_, by simp [h4], by simp [h5], ((OtherPorts.refl ..).onPort _).eq, (Mod.onPort_within ..).only⟩
    simpa [Mod.canNormal] using h3

end Sys2Proof.Machine
end

section
/-! PROOF. CAN ports: what contention for the bus leaves alone, and how a frame is sent (R472, R482-R489, R492). -/

namespace Sys2Proof.Machine

/-- A repeated update keeps what each update keeps. -/
theorem Mod.each_rel {α : Type} {R : Mod → Mod → Prop} (hrefl : ∀ a, R a a) (htrans : ∀ {a b c}, R a b → R b c → R a c) (m : Mod)
    (l : List α) {f : Mod → α → Mod} (hstep : ∀ m x, R m (f m x)) : R m (m.each l f) := by
  unfold Mod.each
  induction l generalizing m with
  | nil => exact hrefl m
  | cons x l ih => exact htrans (hstep m x) (ih _)

/-- What contention for the bus may change at a port: the frame on the bus, the reference message and its windows, and the attempts of an object. -/
structure CanContends (p : Nat) (a b : Mod) : Prop where
  port : ∃ onBus ref refs done miss objs, b.port p =
    { a.port p with onBus := onBus, refPending := ref, refs := refs, ttDone := done, ttMissAny := miss, objs := objs }
  obj : ∀ o, ∃ tries miss, (b.port p).obj o = { (a.port p).obj o with attempts := tries, ttMiss := miss }
  others : OtherPorts p a b

theorem CanContends.refl (p : Nat) (a : Mod) : CanContends p a a :=
  ⟨⟨_, _, _, _, _, _, rfl⟩, fun _ => ⟨_, _, rfl⟩, .refl ..⟩

theorem CanContends.trans {p : Nat} {a b c : Mod} (h : CanContends p a b) (k : CanContends p b c) : CanContends p a c := by
  obtain ⟨_, _, _, _, _, _, hport⟩ := h.port
  obtain ⟨_, _, _, _, _, _, kport⟩ := k.port
  refine ⟨⟨_, _, _, _, _, _, by rw [kport, hport]⟩, fun o => ?_, h.others.trans k.others⟩
  obtain ⟨_, _, hobj⟩ := h.obj o
  obtain ⟨_, _, kobj⟩ := k.obj o
  exact ⟨_, _, by rw [kobj, hobj]⟩

theorem CanContends.onPort {p : Nat} {a : Mod} {f : CanPort → CanPort}
    (hport : ∃ onBus ref refs done miss, f (a.port p) = { a.port p with onBus := onBus, refPending := ref, refs := refs, ttDone := done, ttMissAny := miss }) :
    CanContends p a (a.onPort p f) := by
  obtain ⟨onBus, ref, refs, done, miss, h⟩ := hport
  refine ⟨⟨onBus, ref, refs, done, miss, (a.port p).objs, by rw [(a.onPort_fields p f).1, h]⟩, fun o => ?_, (OtherPorts.refl ..).onPort _⟩
  rw [(a.onPort_fields p f).1, h]
  exact ⟨_, _, rfl⟩

theorem CanContends.onObj {p : Nat} {a : Mod} (o : Nat) {f : CanObj → CanObj}
    (hobj : ∃ tries miss, f ((a.port p).obj o) = { (a.port p).obj o with attempts := tries, ttMiss := miss }) :
    CanContends p a (a.onObj p o f) := by
  obtain ⟨tries, miss, h⟩ := hobj
  refine ⟨?_, fun k => ?_, (OtherPorts.refl ..).onObj _ _⟩
  · rw [Mod.port_onObj]
    exact ⟨_, _, _, _, _, _, rfl⟩
  · rw [Mod.port_onObj, CanPort.obj_onObj]
    split
    · next heq => exact ⟨tries, miss, by rw [heq, h]⟩
    · exact ⟨_, _, rfl⟩

theorem CanContends.sameCan {p : Nat} {a b c : Mod} (h : CanContends p a b) (hcan : c.can = b.can) : CanContends p a c := by
  have hport (q : Nat) : c.port q = b.port q := congrArg (fun x : CanSt => tget x.ports q) hcan
  exact ⟨by rw [hport]; exact h.port, fun o => by rw [hport]; exact h.obj o, h.others.sameCan hcan⟩

theorem CanContends.ttMiss (p o : Nat) (m : Mod) : CanContends p m (m.ttMiss p o) :=
  (CanContends.onObj o ⟨_, _, rfl⟩).trans (.onPort ⟨_, _, _, _, _, rfl⟩)

theorem CanContends.ttCycle (p t : Nat) (m : Mod) : CanContends p m (m.ttCycle p t) := by
  unfold Mod.ttCycle
  refine (CanContends.onPort (f := fun c => { c with refs := (t :: c.refs).take 2, ttDone := [] }) ⟨_, _, _, _, _, rfl⟩).trans ?_
  generalize (m.onPort p fun c => { c with refs := (t :: c.refs).take 2, ttDone := [] }) = m'
  exact Mod.each_rel (CanContends.refl p) CanContends.trans m' _ fun m o => .ttMiss p o m

theorem CanContends.canStart (p o : Nat) (m : Mod) : CanContends p m (m.canStart p o) :=
  ((CanContends.onPort ⟨_, _, _, _, _, rfl⟩).trans (.onObj o ⟨_, _, rfl⟩)).sameCan rfl

/-- Contention starts a frame, a reference message, or none (R483, R488). -/
theorem CanContends.canNext (p : Nat) (m : Mod) : CanContends p m (m.canNext p) := by
  unfold Mod.canNext
  extract_lets c os key best refId ref
  clear_value os best ref
  split
  · exact .refl ..
  split
  · exact ((CanContends.onPort ⟨_, _, _, _, _, rfl⟩).trans (.ttCycle ..)).sameCan rfl
  cases best with
  | none => exact .refl ..
  | some o => exact .canStart p o m

/-- An entry that is not the default one is found in the table. -/
theorem mem_of_tget {α : Type} [Inhabited α] {t : Tab α} {k : Nat} (h : tget t k ≠ default) : (k, tget t k) ∈ t := by
  induction t with
  | nil => exact absurd rfl h
  | cons e t ih =>
    obtain ⟨j, a⟩ := e
    unfold tget at h ⊢
    split
    · next heq => simp [heq]
    · next hne =>
      rw [if_neg hne] at h
      exact List.mem_cons_of_mem _ (ih h)

/-- What an update of listed objects, done twice as well as once, makes of each object. -/
theorem Mod.each_onObj_obj {f : CanObj → CanObj} (hf : ∀ x, f (f x) = f x) (m : Mod) (p : Nat) (l : List Nat) (k : Nat) :
    ((m.each l fun m o => m.onObj p o f).port p).obj k = if k ∈ l then f ((m.port p).obj k) else (m.port p).obj k := by
  unfold Mod.each
  induction l generalizing m with
  | nil => rfl
  | cons o l ih =>
    rw [List.foldl_cons, ih, Mod.port_onObj, CanPort.obj_onObj]
    by_cases hko : k = o
    · subst hko; simp [hf]
    · simp [hko]

/-- What the bus-off state does to objects leaves the port's count of it, the other ports and all but the ports alone. -/
structure Stranding (p : Nat) (a b : Mod) : Prop where
  cnt : (b.port p).busOffCnt = (a.port p).busOffCnt
  others : OtherPorts p a b
  within : Within [.can] a b

theorem Stranding.refl (p : Nat) (a : Mod) : Stranding p a a := ⟨rfl, .refl .., .refl ..⟩

theorem Stranding.trans {p : Nat} {a b c : Mod} (h : Stranding p a b) (k : Stranding p b c) : Stranding p a c :=
  ⟨k.cnt.trans h.cnt, h.others.trans k.others, h.within.trans k.within⟩

theorem Stranding.onObj (p o : Nat) (m : Mod) : Stranding p m (m.onObj p o fun x => { x with stranded := true }) :=
  ⟨by simp [CanPort.onObj], (OtherPorts.refl ..).onObj .., Mod.onObj_within ..⟩

@[simp] theorem CanPort.errNow_fields (c : CanPort) :
    c.errNow.tec = c.tec ∧ c.errNow.objs = c.objs ∧ c.errNow.txFrames = c.txFrames ∧ c.errNow.txInhibit = c.txInhibit ∧
    c.errNow.busOffCnt = c.busOffCnt := by
  rw [CanPort.errNow_eq]
  exact ⟨rfl, rfl, rfl, rfl, rfl⟩

/-- An object once its frame has been sent (R482, R483). -/
def CanObj.succeeded (x : CanObj) (inhibit : Bool) : CanObj :=
  { x with
    retries := x.attempts - 1, attempts := 0, pending := x.nextData.isSome && !inhibit, txData := x.nextData.getD x.txData, nextData := none
    frames := stopAt 0xFFFFFFFF (x.frames + 1) }

/-- A frame of an object has been sent: the port and the object count it, and what waits contends. -/
theorem canTxSuccess_object {m : Mod} {p o : Nat} (bits : Nat) (hbus : (m.port p).onBus = some (.object o)) :
    ∃ m', CanContends p m' (canTxSuccess p bits m) ∧ OtherPorts p m m' ∧
      (m'.port p).obj o = ((m.port p).obj o).succeeded (m.port p).txInhibit ∧
      (m'.port p).txFrames = stopAt 0xFFFFFFFF ((m.port p).txFrames + 1) ∧ (m'.port p).tec = (m.port p).tec - 1 := by
  unfold canTxSuccess
  dsimp only
  rw [hbus]
  dsimp only
  refine ⟨_, .canNext .., ?_⟩
  split
  · exact ⟨(((OtherPorts.refl ..).onPort _).onObj _ _).onPort _, by simp [CanPort.obj, CanPort.onObj, CanObj.succeeded], by simp [CanPort.onObj],
      by simp [CanPort.onObj]⟩
  · exact ⟨((OtherPorts.refl ..).onPort _).onObj _ _, by simp [CanPort.obj, CanPort.onObj, CanObj.succeeded], by simp [CanPort.onObj],
      by simp [CanPort.onObj]⟩

/-- What an object is after contention, as far as contention leaves it alone. -/
theorem CanContends.objFields {p : Nat} {a b : Mod} (h : CanContends p a b) (o : Nat) :
    ((b.port p).obj o).pending = ((a.port p).obj o).pending ∧ ((b.port p).obj o).lost = ((a.port p).obj o).lost ∧
    ((b.port p).obj o).txFail = ((a.port p).obj o).txFail ∧ ((b.port p).obj o).txData = ((a.port p).obj o).txData ∧
    ((b.port p).obj o).nextData = ((a.port p).obj o).nextData ∧ ((b.port p).obj o).retries = ((a.port p).obj o).retries ∧
    ((b.port p).obj o).frames = ((a.port p).obj o).frames := by
  obtain ⟨tries, miss, hobj⟩ := h.obj o
  rw [hobj]
  exact ⟨rfl, rfl, rfl, rfl, rfl, rfl, rfl⟩

/-- What a port is after contention, as far as contention leaves it alone. -/
theorem CanContends.portFields {p : Nat} {a b : Mod} (h : CanContends p a b) :
    (b.port p).tec = (a.port p).tec ∧ (b.port p).txFrames = (a.port p).txFrames ∧ (b.port p).arbLost = (a.port p).arbLost ∧
    (b.port p).txFailAny = (a.port p).txFailAny ∧ (b.port p).recCnt = (a.port p).recCnt ∧ (b.port p).err = (a.port p).err := by
  obtain ⟨_, _, _, _, _, _, hport⟩ := h.port
  rw [hport]
  exact ⟨rfl, rfl, rfl, rfl, rfl, rfl⟩

/-- The bus-off state strands what is pending and discards nothing (R486). -/
theorem Mod.canBusOff_spec (m : Mod) (p : Nat) :
    (((m.canBusOff p).port p).err = if m.par (canP p 13) = 1 then .recovering else .busOff) ∧ ((m.canBusOff p).port p).tec = 256 ∧
    ((m.canBusOff p).port p).onBus = none ∧ ((m.canBusOff p).port p).busOffCnt = stopAt 0xFFFFFFFF ((m.port p).busOffCnt + 1) ∧
    OtherPorts p m (m.canBusOff p) ∧ Recorded 0xB001 p bCan m (m.canBusOff p) ∧ (m.canBusOff p).sent = m.sent := by
  have hstrand := Mod.each_rel (R := Stranding p) (.refl p) .trans m (((m.port p).objs.filter fun e => e.2.pending).map (·.1))
    (f := fun m o => m.onObj p o fun x => { x with stranded := true }) fun m o => .onObj p o m
  unfold Mod.canBusOff
  dsimp only
  generalize m.each _ _ = m' at hstrand ⊢
  obtain ⟨hcnt, hothers, hwithin⟩ := hstrand
  exact ⟨by simp [hwithin.parEq (by decide) (by decide)], by simp, by simp, by simp [hcnt], (hothers.onPort _).post .., (Mod.post_recorded ..).of_store (hwithin.storeEq (by decide)),
    by simp [hwithin.sentEq (by decide)]⟩

theorem Mod.canBusOff_obj {m : Mod} {p o : Nat} (hpend : ((m.port p).obj o).pending = true) :
    ((m.canBusOff p).port p).obj o = { (m.port p).obj o with stranded := true } := by
  have hmem : o ∈ ((m.port p).objs.filter fun e => e.2.pending).map (·.1) := by
    have hne : (m.port p).obj o ≠ default := fun h => by rw [h] at hpend; cases hpend
    exact List.mem_map.mpr ⟨_, List.mem_filter.mpr ⟨mem_of_tget hne, hpend⟩, rfl⟩
  have hobj := Mod.each_onObj_obj (f := fun x => { x with stranded := true }) (fun _ => rfl) m p
    (((m.port p).objs.filter fun e => e.2.pending).map (·.1)) o
  rw [if_pos hmem] at hobj
  rw [← hobj]
  unfold Mod.canBusOff
  simp [CanPort.obj]

theorem OtherPorts.txFails {p : Nat} {a b : Mod} (h : OtherPorts p a b) (o : Nat) : OtherPorts p a (b.txFails p o) :=
  (h.onObj o _).onPort _

/-- A frame that lost arbitration for the last time: the pending state ends, its data stay, and what waits contends (R483). -/
theorem canTxError_spent {m : Mod} {p o : Nat} (hbus : (m.port p).onBus = some (.object o)) (hpend : ((m.port p).obj o).pending = true)
    (hnew : ((m.port p).obj o).nextData = none) (hinh : (m.port p).txInhibit = false) (htt : (m.canCfg p o).tt = false)
    (hspent : (m.canCfg p o).retry < ((m.port p).obj o).attempts) (htec : (m.port p).tec ≤ 255) :
    canTxError p .arbitration m = (((m.onPort p fun c =>
      { c with arbLost := stopAt 0xFFFFFFFF (c.arbLost + 1), onBus := none }).txFails p o).canNext p) := by
  have hcfg : (m.onPort p fun c => { c with arbLost := stopAt 0xFFFFFFFF (c.arbLost + 1), onBus := none }).canCfg p o = m.canCfg p o := rfl
  have htec' : ¬ 255 < (m.port p).tec := by omega
  unfold canTxError
  dsimp only
  rw [hbus]
  dsimp only
  rw [if_neg (by simpa using htec)]
  congr 1
  simp only [Mod.canFailed, Mod.onPort_fields, CanPort.obj] at *
  simp [hinh, hnew, hpend, hcfg, htt, hspent]

/-- An error that takes TEC above 255 takes the port off the bus (R486). -/
theorem canTxError_busOff {m : Mod} {p o lec inc : Nat} (hbus : (m.port p).onBus = some (.object o))
    (hnew : ((m.port p).obj o).nextData = none) (htec : 255 < (m.port p).tec + inc) :
    canTxError p (.error lec inc) m = (m.onPort p fun c =>
      { c with errFrames := stopAt 0xFFFFFFFF (c.errFrames + 1), lec := lec, tec := c.tec + inc, onBus := none }.errNow).canBusOff p := by
  unfold canTxError
  dsimp only
  rw [hbus]
  dsimp only
  rw [if_pos (by simpa using htec), hnew]

/-- GO that is not refused gives the staged data to the object (R482). -/
theorem canTxwGo_accepted {m : Mod} {p : Nat} (hp : p < 4) (hact : m.standby = false) (hfree : objReserved m.par p (m.port p).txwObj = false)
    (hen : (m.canCfg p (m.port p).txwObj).en = true) (htx : (m.canCfg p (m.port p).txwObj).tx = true) (hmode : (m.port p).mode = 1)
    (hinh : (m.port p).txInhibit = false) : canTxwGo p m = m.canData p (m.port p).txwObj (m.port p).txw := by
  have hzero : m.goRefusal p (m.port p).txwObj = 0 := by simp [Mod.goRefusal, hen, htx, hfree, hmode, hinh, hact]
  simp [canTxwGo, hp, Mod.canGo, hzero]

@[simp] theorem Mod.capture_port (m : Mod) (f : ReplayRec → ReplayRec) (p : Nat) : (m.capture f).port p = m.port p :=
  congrArg (fun x : CanSt => tget x.ports p) ((Mod.capture_within m f).canEq (by decide))

/-- New data of an object whose frame is not on the bus make it pending (R482). -/
theorem Mod.canPend_off {m : Mod} {p : Nat} (o : Nat) (data : List Byte) (hbus : (m.port p).onBus = none) :
    (((m.canPend p o data).port p).obj o).pending = true ∧ (((m.canPend p o data).port p).obj o).txData = data ∧
    (((m.canPend p o data).port p).obj o).lost = (((m.port p).obj o).lost || ((m.port p).obj o).pending) ∧
    OtherPorts p m (m.canPend p o data) := by
  have hothers : OtherPorts p m (m.capture fun r => { r with tx := r.tx ++ [(p, o, data)] }) :=
    (OtherPorts.refl ..).sameCan ((Mod.capture_within ..).canEq (by decide))
  unfold Mod.canPend
  dsimp only
  rw [if_neg (by simp [hbus])]
  split
  · exact ⟨by simp [CanPort.obj, CanPort.onObj], by simp [CanPort.obj, CanPort.onObj], by simp [CanPort.obj, CanPort.onObj], (hothers.onObj ..).onPort _⟩
  · exact ⟨by simp [CanPort.obj, CanPort.onObj], by simp [CanPort.obj, CanPort.onObj], by simp [CanPort.obj, CanPort.onObj], hothers.onObj ..⟩

/-- The window of a time-triggered object opens in its basic cycle, not yet done (R489). -/
theorem Mod.ttOpens_of_due {m : Mod} {p o r : Nat} (hen : (m.canCfg p o).en = true) (htx : (m.canCfg p o).tx = true)
    (htt : (m.canCfg p o).tt = true) (hpar : m.par (canP p 15) ≠ 0) (hsync : (m.port p).ttSync = true)
    (hcycle : (m.port p).cycle % 2 ^ (m.canCfg p o).rep = (m.canCfg p o).base % 2 ^ (m.canCfg p o).rep)
    (hrefs : (m.port p).refs.head? = some r) (hdone : o ∉ (m.port p).ttDone) (hstart : 1000 * (m.canCfg p o).period + r < m.time.extNow + 10000) :
    m.ttOpens p o = (true, decide (1000 * (m.canCfg p o).period + r + 10000 ≤ m.time.extNow)) := by
  obtain ⟨rest, hlist⟩ : ∃ rest, (m.port p).refs = r :: rest := by
    cases h : (m.port p).refs with
    | nil => simp [h] at hrefs
    | cons a l => simp only [h, List.head?_cons, Option.some.injEq] at hrefs; exact ⟨l, by rw [hrefs]⟩
  simp [Mod.ttOpens, Mod.ttDue, hen, htx, htt, hpar, hsync, hcycle, hlist, hdone, hstart]

/-- A window that opens is missed where the bus is busy or its start has passed, and otherwise sends its object (R489, R492). -/
theorem ttWindowStart_opens {m : Mod} {p o : Nat} {idle passed : Bool} (hp : p < 4) (hopens : m.ttOpens p o = (true, passed))
    (hmode : (m.port p).mode = 1) (hact : m.acting = true) :
    ttWindowStart p o idle m = if !idle || !m.canMayTx p || passed then m.ttMiss p o else
      ((m.onPort p fun c => { c with ttDone := o :: c.ttDone }).onObj p o fun x =>
        { x with pending := true, attempts := 0, ttMiss := false }).canStart p o := by
  have hlt : ¬ 3 < p := by omega
  simp [ttWindowStart, hopens, hlt, hmode, hact]

/-- The frame of an object starts on the bus (R483). -/
theorem Mod.canStart_spec (m : Mod) (p o : Nat) :
    ((m.canStart p o).port p).onBus = some (.object o) ∧ ((m.canStart p o).port p).ttDone = (m.port p).ttDone ∧
    ((m.canStart p o).port p).obj o = { (m.port p).obj o with attempts := ((m.port p).obj o).attempts + 1 } ∧
    (∀ k, k ≠ o → ((m.canStart p o).port p).obj k = (m.port p).obj k) ∧
    (m.canStart p o).sent = .can p ((m.canCfg p o).frame (decide ((m.port p).err = .passive)) ((m.port p).obj o).txData) :: m.sent := by
  have hport : (m.canStart p o).port p =
      ({ m.port p with onBus := some (.object o) } : CanPort).onObj o fun x => { x with attempts := x.attempts + 1 } := by
    refine (Mod.port_onObj ..).trans ?_
    rw [(Mod.onPort_fields ..).1]
  rw [hport]
  exact ⟨rfl, rfl, by rw [CanPort.obj_onObj, if_pos rfl]; rfl, fun k hk => by rw [CanPort.obj_onObj, if_neg hk]; rfl, rfl⟩

/-- Settles O36: each row's own update is read at its object, and contention afterwards leaves what is said of it. -/
theorem canTransmission : Obligations.CanTransmission := by
  refine ⟨fun s p o bits hfab hp hbus hnew => ?success, fun s p o bits d hfab hp hbus hpend hnew hinh => ?again,
    fun s p o e hfab hp hbus hpend hnew hinh htt hspent htec he => ?fails, fun s p o lec inc hfab hp hbus htec hpend hnew => ?busOff,
    fun s p hfab hp hact hfree hen htx hmode hinh hbus => ?go,
    fun s p o r idle hfab hp ho hen htx htt hpar hsync hcycle hmode hact hrefs hdone hstart hmiss => ?missed,
    fun s p o r hfab hp ho hen htx htt hpar hsync hcycle hmay hrefs hdone hstart hend => ?window⟩
  case success =>
    refine .fab (f := canTxSuccess p bits) rfl (by simp [okCan, hp]) hfab ?_
    obtain ⟨m', hcont, hothers, hobj, hframes, htec⟩ := canTxSuccess_object bits hbus
    obtain ⟨kpend, klost, -, kdata, -, kretries, kframes⟩ := hcont.objFields o
    obtain ⟨ktec, ktx, -⟩ := hcont.portFields
    refine ⟨?_, ?_, ?_, ?_, ?_, ktx.trans hframes, ktec.trans htec, (hothers.trans hcont.others).eq, (canTxSuccess_within ..).only⟩
    all_goals simp [kpend, klost, kdata, kretries, kframes, hobj, CanObj.succeeded, hnew]
  case again =>
    refine .fab (f := canTxSuccess p bits) rfl (by simp [okCan, hp]) hfab ?_
    obtain ⟨m', hcont, hothers, hobj, -⟩ := canTxSuccess_object bits hbus
    obtain ⟨kpend, klost, -, kdata, knext, -⟩ := hcont.objFields o
    refine ⟨?_, ?_, ?_, ?_, (hothers.trans hcont.others).eq, (canTxSuccess_within ..).only⟩
    all_goals simp [kpend, klost, kdata, knext, hobj, CanObj.succeeded, hnew, hinh]
  case fails =>
    subst he
    refine .fab (f := canTxError p .arbitration) rfl (by simp [okCan, hp]) hfab ?_
    have hwithin := canTxError_within p .arbitration s.m
    rw [canTxError_spent hbus hpend hnew hinh htt hspent htec] at hwithin ⊢
    generalize hm : (s.m.onPort p _).txFails p o = m' at hwithin ⊢
    have hobj : (m'.port p).obj o = { (s.m.port p).obj o with
        pending := false, txFail := true, retries := ((s.m.port p).obj o).attempts - 1, attempts := 0 } := by
      subst hm; simp [Mod.txFails, CanPort.obj, CanPort.onObj]
    have hport : (m'.port p).txFailAny = true ∧ (m'.port p).arbLost = stopAt 0xFFFFFFFF ((s.m.port p).arbLost + 1) ∧
        (m'.port p).tec = (s.m.port p).tec := by
      subst hm; simp [Mod.txFails, CanPort.onObj]
    have hothers : OtherPorts p s.m m' := by subst hm; exact ((OtherPorts.refl ..).onPort _).txFails o
    have hcont := CanContends.canNext p m'
    obtain ⟨kpend, -, kfail, kdata, -⟩ := hcont.objFields o
    obtain ⟨ktec, -, karb, kany, -⟩ := hcont.portFields
    obtain ⟨hany, harb, htec⟩ := hport
    rw [hobj] at kpend kfail kdata
    exact ⟨kpend, kfail, kany.trans hany, kdata, karb.trans harb, ktec.trans htec, (hothers.trans hcont.others).eq, hwithin.only⟩
  case busOff =>
    refine .fab (f := canTxError p (.error lec inc)) rfl (by simp [okCan, hp]) hfab ?_
    have hwithin := canTxError_within p (.error lec inc) s.m
    rw [canTxError_busOff hbus hnew htec] at hwithin ⊢
    generalize hm : s.m.onPort p _ = m' at hwithin ⊢
    have hobj : (m'.port p).obj o = (s.m.port p).obj o := by subst hm; simp [CanPort.obj]
    have hcnt : (m'.port p).busOffCnt = (s.m.port p).busOffCnt := by subst hm; simp
    have hother : OtherPorts p s.m m' := by subst hm; exact (OtherPorts.refl ..).onPort _
    have hpar : m'.par (canP p 13) = s.m.par (canP p 13) := by subst hm; rfl
    have hstore : m'.store = s.m.store := by subst hm; rfl
    have hsent' : m'.sent = s.m.sent := by subst hm; rfl
    obtain ⟨herr, htec, hbus, hcount, hothers, hrec, hsent⟩ := Mod.canBusOff_spec m' p
    have hstrand := Mod.canBusOff_obj (by rw [hobj]; exact hpend)
    exact ⟨by simp [herr, hpar], htec, hbus, by simp [hcount, hcnt], by simp [hstrand], by simp [hstrand, hobj, hpend], by simp [hstrand, hobj],
      hrec.of_store hstore, hsent.trans hsent', (hother.trans hothers).eq, hwithin.only⟩
  case go =>
    refine .fab (f := canTxwGo p) rfl (by simp [okCan, hp]) hfab ?_
    rw [canTxwGo_accepted hp hact hfree hen htx hmode hinh]
    obtain ⟨hpend, hdata, hlost, hothers⟩ := Mod.canPend_off (s.m.port p).txwObj (s.m.port p).txw hbus
    have hcont := CanContends.canNext p (s.m.canPend p (s.m.port p).txwObj (s.m.port p).txw)
    obtain ⟨kpend, klost, -, kdata, -⟩ := hcont.objFields (s.m.port p).txwObj
    exact ⟨kpend.trans hpend, kdata.trans hdata, klost.trans hlost, (hothers.trans hcont.others).eq, ((Mod.canData_within ..).mono (by decide)).only⟩
  case missed =>
    refine .fab (f := ttWindowStart p o idle) rfl (by simp [okObj, okCan, hp, ho]) hfab ?_
    rw [ttWindowStart_opens hp (Mod.ttOpens_of_due hen htx htt hpar hsync hcycle hrefs hdone hstart) hmode hact, if_pos]
    · rfl
    · rcases hmiss with h | h | h <;> simp [h]
  case window =>
    refine .fab (f := ttWindowStart p o true) rfl (by simp [okObj, okCan, hp, ho]) hfab ?_
    have hwithin := ttWindowStart_within p o true s.m
    obtain ⟨hmode, hact⟩ : (s.m.port p).mode = 1 ∧ s.m.acting = true := by
      have h := hmay
      simp only [Mod.canMayTx, Mod.canNormal, Bool.and_eq_true, decide_eq_true_eq] at h
      obtain ⟨⟨⟨⟨h, -⟩, -⟩, -⟩, -⟩ := h
      exact h
    rw [ttWindowStart_opens hp (Mod.ttOpens_of_due hen htx htt hpar hsync hcycle hrefs hdone hstart) hmode hact,
      if_neg (by simp [hmay]; omega)] at hwithin ⊢
    generalize hm : (s.m.onPort p fun c => { c with ttDone := o :: c.ttDone }).onObj p o _ = m' at hwithin ⊢
    have hobj : (m'.port p).obj o = { (s.m.port p).obj o with pending := true, attempts := 0, ttMiss := false } := by
      subst hm; simp [CanPort.obj, CanPort.onObj]
    have hkeep (k : Nat) (hk : k ≠ o) : (m'.port p).obj k = (s.m.port p).obj k := by subst hm; simp [CanPort.obj, CanPort.onObj, tget_tmod, hk]
    have hport : (m'.port p).ttDone = o :: (s.m.port p).ttDone ∧ (m'.port p).err = (s.m.port p).err := by subst hm; simp [CanPort.onObj]
    have hothers : OtherPorts p s.m m' := by subst hm; exact ((OtherPorts.refl ..).onPort _).onObj ..
    have hcfg : m'.canCfg p o = s.m.canCfg p o ∧ m'.sent = s.m.sent := by subst hm; exact ⟨rfl, rfl⟩
    obtain ⟨kbus, kdone, kobj, kkeep, ksent⟩ := m'.canStart_spec p o
    rw [hobj] at kobj ksent
    rw [hport.2, hcfg.1, hcfg.2] at ksent
    exact ⟨kbus, by rw [kobj], by rw [kobj], ksent, by simp [kdone, hport.1], fun k hk => (kkeep k hk).trans (hkeep k hk),
      (hothers.trans (CanContends.canStart p o m').others).eq, hwithin.only⟩

end Sys2Proof.Machine
end

section
/-! PROOF. CAN ports: the control register, the lock of an object, the end of recovery and the time-triggered reference (R477, R481,
R487-R489, R493, R494). -/

namespace Sys2Proof.Machine

/-- An update of every object of a port, done twice as well as once, reaches each of them: an object that is not there is the default one. -/
theorem Mod.each_objs_all {f : CanObj → CanObj} (hf : ∀ x, f (f x) = f x) {P : CanObj → CanObj → Prop} (hP : ∀ x, P x (f x))
    (hdef : P default default) (m : Mod) (p k : Nat) :
    P ((m.port p).obj k) (((m.each ((m.port p).objs.map (·.1)) fun m o => m.onObj p o f).port p).obj k) := by
  rw [Mod.each_onObj_obj hf]
  split
  · exact hP _
  · next hmem =>
    have hnone : (m.port p).obj k = default := by
      by_contra hne
      exact hmem (List.mem_map.mpr ⟨_, mem_of_tget hne, rfl⟩)
    rwa [hnone]

theorem Recorded.to_store {code item block : Nat} {a b b' : Mod} (h : Recorded code item block a b) (hstore : b'.store = b.store) :
    Recorded code item block a b' := by
  unfold Recorded at h ⊢
  rwa [hstore]

/-- An update of objects leaves the rest of their port alone. -/
structure ObjsOnly (p : Nat) (a b : Mod) : Prop where
  port : ∃ objs, b.port p = { a.port p with objs := objs }
  others : OtherPorts p a b
  within : Within [.can] a b

theorem ObjsOnly.refl (p : Nat) (a : Mod) : ObjsOnly p a a := ⟨⟨_, rfl⟩, .refl .., .refl ..⟩

theorem ObjsOnly.trans {p : Nat} {a b c : Mod} (h : ObjsOnly p a b) (k : ObjsOnly p b c) : ObjsOnly p a c := by
  obtain ⟨_, hport⟩ := h.port
  obtain ⟨_, kport⟩ := k.port
  exact ⟨⟨_, by rw [kport, hport]⟩, h.others.trans k.others, h.within.trans k.within⟩

theorem ObjsOnly.each (p : Nat) (f : CanObj → CanObj) (m : Mod) (l : List Nat) : ObjsOnly p m (m.each l fun m o => m.onObj p o f) :=
  Mod.each_rel (R := ObjsOnly p) (.refl p) .trans m l fun _ _ =>
    ⟨⟨_, Mod.port_onObj ..⟩, (OtherPorts.refl ..).onObj .., Mod.onObj_within ..⟩

theorem Mod.onPort_obj {m : Mod} {p o : Nat} {f : CanPort → CanPort} (h : (f (m.port p)).objs = (m.port p).objs) :
    ((m.onPort p f).port p).obj o = (m.port p).obj o := by
  rw [(Mod.onPort_fields ..).1, CanPort.obj, h, ← CanPort.obj]

/-- The rates are tried in turn (R477). -/
theorem detectDwellExpiry_over {m : Mod} {p : Nat} {d : CanDetect} (hdetect : (m.port p).detect = some d)
    (hdwell : m.parN (canP p 14) ≤ m.host.ms - d.since) :
    detectDwellExpiry p m = if d.rate + 1 < detectRates.length then
        m.onPort p fun c => { c with detect := some { rate := d.rate + 1, run := 0, since := m.host.ms } }
      else (m.onPort p fun c => { c with detect := none, detRate := 0 }).post 0xB003 p bCan (leN 4 0) := by
  unfold detectDwellExpiry
  rw [hdetect]
  dsimp only
  rw [if_neg (by omega)]

/-- The release of a lock with a frame held moves the frame into its object (R481). -/
theorem Mod.canRelease_held {m : Mod} {p o : Nat} {r : CanRx} (abort : Bool) (hlock : (m.port p).lock = some o) (hheld : (m.port p).held = some r) :
    ∃ any, (m.canRelease p abort).port p = ({ m.port p with
        lock := none, held := none, lockAbort := (m.port p).lockAbort || abort, lostAny := any } : CanPort).onObj o fun x => x.take r := by
  unfold Mod.canRelease
  dsimp only
  rw [hlock, hheld]
  dsimp only
  split
  · exact ⟨true, by simp [CanPort.onObj]⟩
  · exact ⟨_, by simp; rfl⟩

theorem OtherPorts.canRelease (p : Nat) (abort : Bool) (m : Mod) : OtherPorts p m (m.canRelease p abort) := by
  unfold Mod.canRelease
  dsimp only
  split
  · exact .refl ..
  split
  · split
    · exact (((OtherPorts.refl ..).onPort _).onObj ..).onPort _
    · exact ((OtherPorts.refl ..).onPort _).onObj ..
  · exact (OtherPorts.refl ..).onPort _

/-- A reference message that starts now passes no window of its cycle (R489). -/
theorem Mod.ttReceive_now {m : Mod} {p : Nat} (cycle : Nat) (hp : p < 4) (hlisten : m.ttListens p = true)
    (herr : (m.port p).err = .active ∨ (m.port p).err = .passive) :
    m.ttReceive p cycle 0 = ((((m.onPort p fun c => { c with rxFrames := stopAt 0xFFFFFFFF (c.rxFrames + 1) }).onPort p fun c => { c with
      ttSync := c.ttSync || (!c.refs.isEmpty && decide (cycle % 64 = (c.cycle + 1) % (m.parN (canP p 18)))), cycle := cycle % 64 }).onPort p fun c =>
      { c with refs := (m.time.extNow :: c.refs).take 2, ttDone := [] }).recGood p) := by
  have hcond : (p < 4 && m.ttListens p && decide ((m.port p).err = .active ∨ (m.port p).err = .passive)) = true := by simp [hp, hlisten, herr]
  unfold Mod.ttReceive
  rw [if_pos hcond]
  unfold Mod.ttReference Mod.ttCycle
  dsimp only
  congr 1
  rw [List.filter_eq_nil_iff.mpr]
  · rfl
  · intro o _
    rw [Bool.and_eq_true, decide_eq_true_eq]
    rintro ⟨-, hpassed⟩
    have htime : ¬ 1000 * (m.canCfg p o).period + m.time.extNow < m.time.extNow := by omega
    exact htime hpassed

/-- Settles O37: each write and each time-out is its own update, and contention after a recovery leaves what is said of it. -/
theorem canControl : Obligations.CanControl := by
  refine ⟨fun s p hfab hp herr => ?recover, fun s p hfab hp hmode => ?detect, fun s p hfab hp hmode => ?noDetect,
    fun s p d hfab hp hdet hdwell hrate => ?dwell, fun s p d hfab hp hdet hdwell hrate => ?dwellLast, fun s p hfab hp => ?abortAll,
    fun s p hfab hp => ?clearFlags, fun s p o hfab hp ho hsup hlock => ?firstRead, fun s p o r hfab hp ho hlock hheld => ?lastRead,
    fun s p o hfab hp hlock hheld => ?lockTimeout, fun s p hfab hp herr => ?recovered,
    fun s p a b l hfab hp hrefs hsync hpar hmode hloss => ?loss, fun s p cycle hfab hp hlisten herr => ?reference⟩
  case recover => exact .fab rfl (by simp [okCan, hp]) hfab (by simp [canCtrlRecover, herr])
  case detect => exact .fab rfl (by simp [okCan, hp]) hfab (by simp [canCtrlDetect, hmode])
  case noDetect => exact .fab rfl (by simp [okCan, hp]) hfab (by simp [canCtrlDetect, hmode])
  case dwell =>
    refine .fab rfl (by simp [okCan, hp]) hfab ?_
    have hlen : detectRates.length = 9 := rfl
    rw [detectDwellExpiry_over hdet hdwell, if_pos (by omega)]
  case dwellLast =>
    refine .fab rfl (by simp [okCan, hp]) hfab ?_
    have hlen : detectRates.length = 9 := rfl
    rw [detectDwellExpiry_over hdet hdwell, if_neg (by omega)]
  case abortAll =>
    refine .fab (f := canCtrlAbortAll p) rfl (by simp [okCan, hp]) hfab ?_
    have hobj := Mod.each_objs_all (f := fun x => { x with pending := false, nextData := none }) (fun _ => rfl)
      (P := fun x y => y.pending = false ∧ y.txData = x.txData ∧ y.rx = x.rx) (fun _ => ⟨rfl, rfl, rfl⟩) ⟨rfl, rfl, rfl⟩ s.m p
    obtain ⟨⟨objs, hport⟩, hothers, hwithin⟩ := ObjsOnly.each p (fun x => { x with pending := false, nextData := none }) s.m ((s.m.port p).objs.map (·.1))
    have hall := canCtrlAbortAll_within p s.m
    unfold canCtrlAbortAll at hall ⊢
    generalize s.m.each _ _ = m' at *
    have hkeep (o : Nat) := Mod.onPort_obj (m := m') (p := p) (f := fun c => { c with refPending := false }) (o := o) rfl
    exact ⟨fun o => (congrArg CanObj.pending (hkeep o)).trans (hobj o).1, by simp,
      fun o => (congrArg CanObj.txData (hkeep o)).trans (hobj o).2.1, fun o => (congrArg CanObj.rx (hkeep o)).trans (hobj o).2.2, by simp [hport],
      (hothers.onPort _).eq, hall.only⟩
  case clearFlags =>
    refine .fab (f := canCtrlClearFlags p) rfl (by simp [okCan, hp]) hfab ?_
    have hobj := Mod.each_objs_all (f := fun x => { x with lost := false, txFail := false }) (fun _ => rfl)
      (P := fun x y => y.lost = false ∧ y.txFail = false ∧ y.pending = x.pending ∧ y.lostCnt = x.lostCnt)
      (fun _ => ⟨rfl, rfl, rfl, rfl⟩) ⟨rfl, rfl, rfl, rfl⟩ s.m p
    obtain ⟨-, hothers, hwithin⟩ := ObjsOnly.each p (fun x => { x with lost := false, txFail := false }) s.m ((s.m.port p).objs.map (·.1))
    have hall := canCtrlClearFlags_within p s.m
    unfold canCtrlClearFlags at hall ⊢
    generalize s.m.each _ _ = m' at *
    have hkeep (o : Nat) := Mod.onPort_obj (m := m') (p := p)
      (f := fun c => { c with lostAny := false, txFailAny := false, lockAbort := false, ttMissAny := false }) (o := o) rfl
    exact ⟨by simp, by simp, by simp, by simp, fun o => (congrArg CanObj.lost (hkeep o)).trans (hobj o).1,
      fun o => (congrArg CanObj.txFail (hkeep o)).trans (hobj o).2.1, fun o => (congrArg CanObj.pending (hkeep o)).trans (hobj o).2.2.1,
      fun o => (congrArg CanObj.lostCnt (hkeep o)).trans (hobj o).2.2.2, (hothers.onPort _).eq, hall.only⟩
  case firstRead =>
    refine .fab (f := canObjectFirstRead p o) rfl (by simp [okObj, okCan, hp, ho]) hfab ?_
    have hlt : ¬ 3 < p := by omega
    simp [canObjectFirstRead, hlt, hsup, Mod.canRelease, hlock]
  case lastRead =>
    refine .fab (f := canObjectLastRead p o) rfl (by simp [okObj, okCan, hp, ho]) hfab ?_
    obtain ⟨any, hport⟩ := Mod.canRelease_held false hlock hheld
    rw [canObjectLastRead, if_pos hlock]
    refine ⟨?_, ?_, ?_, ?_, ?_, ?_, fun k hk => ?_, (OtherPorts.canRelease ..).eq, (Mod.canRelease_within ..).only⟩
    all_goals simp [CanObj.take, CanPort.obj, CanPort.onObj, tget_tmod, *]
  case lockTimeout =>
    refine .fab (f := canLockTimeout p) rfl (by simp [okCan, hp]) hfab ?_
    simp [canLockTimeout, Mod.canRelease, hlock, hheld]
  case recovered =>
    refine .fab (f := canRecoveryComplete p) rfl (by simp [okCan, hp]) hfab ?_
    have hobj := Mod.each_objs_all (f := fun x => { x with stranded := false, attempts := 0 }) (fun _ => rfl)
      (P := fun x y => y.stranded = false ∧ y.pending = x.pending ∧ y.txData = x.txData) (fun _ => ⟨rfl, rfl, rfl⟩) ⟨rfl, rfl, rfl⟩ s.m p
    obtain ⟨-, hothers, hwithin⟩ := ObjsOnly.each p (fun x => { x with stranded := false, attempts := 0 }) s.m ((s.m.port p).objs.map (·.1))
    have hall := canRecoveryComplete_within p s.m
    unfold canRecoveryComplete at hall ⊢
    dsimp only at hall ⊢
    rw [if_neg (not_not.mpr herr)] at hall ⊢
    generalize s.m.each _ _ = m' at *
    have hkeep (o : Nat) := Mod.onPort_obj (m := m') (p := p) (f := fun c => { c with tec := 0, recCnt := 0, err := .active }) (o := o) rfl
    generalize hm : m'.onPort p _ = n at hall hkeep ⊢
    have hother : OtherPorts p m' n := by subst hm; exact (OtherPorts.refl ..).onPort _
    have hstore : n.store = s.m.store := by subst hm; exact hwithin.storeEq (by decide)
    have hport : (n.port p).tec = 0 ∧ (n.port p).recCnt = 0 ∧ (n.port p).err = .active := by subst hm; simp
    have hcont := CanContends.canNext p (n.post 0xB002 p bCan [])
    have kobj (o : Nat) := hcont.obj o
    obtain ⟨ktec, -, -, -, krec, kerr⟩ := hcont.portFields
    rw [Mod.post_port] at ktec krec kerr kobj
    have kfields (o : Nat) : (((n.post 0xB002 p bCan []).canNext p).port p |>.obj o).stranded = ((m'.port p).obj o).stranded ∧
        (((n.post 0xB002 p bCan []).canNext p).port p |>.obj o).pending = ((m'.port p).obj o).pending ∧
        (((n.post 0xB002 p bCan []).canNext p).port p |>.obj o).txData = ((m'.port p).obj o).txData := by
      obtain ⟨_, _, h⟩ := kobj o
      rw [h, hkeep]
      exact ⟨rfl, rfl, rfl⟩
    obtain ⟨htec, hrec, herr⟩ := hport
    exact ⟨ktec.trans htec, krec.trans hrec, kerr.trans herr, fun o => (kfields o).1.trans (hobj o).1,
      fun o => (kfields o).2.1.trans (hobj o).2.1, fun o => (kfields o).2.2.trans (hobj o).2.2,
      ((Mod.post_recorded ..).of_store hstore).to_store ((Mod.canNext_within ..).storeEq (by decide)),
      (((hothers.trans hother).post ..).trans hcont.others).eq, hall.only⟩
  case loss =>
    refine .fab (f := ttLossTimeout p) rfl (by simp [okCan, hp]) hfab ?_
    simp [ttLossTimeout, hrefs, hsync, Mod.ttListens, hpar, hmode, hloss]
  case reference =>
    refine .fab (f := ttReferenceReceive p cycle) rfl (by simp [okCan, hp]) hfab ?_
    rw [ttReferenceReceive, Mod.ttReceive_now cycle hp hlisten herr]
    generalize hm : Mod.onPort (Mod.onPort (Mod.onPort s.m p _) p _) p _ = m'
    obtain ⟨r, e, hrec⟩ := Mod.recGood_port m' p
    have hwithin : Within [.can, .free] s.m m' := by
      subst hm
      exact (Mod.onPort_within ..).step (by decide) ((Mod.onPort_within ..).step (by decide) ((Mod.onPort_within ..).mono (by decide)))
    have hothers : OtherPorts p s.m m' := by subst hm; exact (((OtherPorts.refl ..).onPort _).onPort _).onPort _
    refine ⟨?_, ?_, ?_, ?_, (hothers.trans (.recGood ..)).eq, ((Mod.recGood_within ..).step (by decide) hwithin).only⟩
    all_goals rw [hrec]; subst hm; simp

end Sys2Proof.Machine
end

section
/-! PROOF. The local ADC: rounds, injected sequences, self-calibration, analogue and pulse inputs (R500-R513, R517). -/

namespace Sys2Proof.Machine

/-- An update of an item depends on what it makes of the item that is there. -/
theorem tmod_congr {α : Type} [Inhabited α] [DecidableEq α] {t : Tab α} {i : Nat} {f g : α → α} (h : f (tget t i) = g (tget t i)) :
    tmod t i f = tmod t i g := by
  unfold tmod
  rw [h]

theorem Mod.onPi_congr {m : Mod} {p : Nat} {f g : PiCh → PiCh} (h : f (m.pi p) = g (m.pi p)) : m.onPi p f = m.onPi p g := by
  unfold Mod.onPi
  rw [tmod_congr h]

/-- A transition that counts as a pulse is taken (R511). -/
theorem piPulse_counts {p held period : Nat} {e : PiEdge} {m : Mod} (hp : p < 2) (hedge : e.rising = decide (m.adcPar (36 + p) 2 = 0))
    (hheld : (m.adcPar (36 + p) 3).toNat ≤ held) : piPulse p e held period m = m.onPi p fun x =>
      let x := { x with
        pulses := x.pulses + 1, pulsesNow := x.pulsesNow + 1, edgeGrain := e.grain, edgeNs := e.ns, noPulse := false, lastMs := m.host.ms }
      if !x.seen then { x with seen := true } else
        { x with
          freq := m.piFreq p period, period := period, periodsNow := x.periodsNow + 1, sumNow := x.sumNow + period, valid := true } := by
  refine if_neg ?_
  have hnot : ¬ held < (m.adcPar (36 + p) 3).toNat := Nat.not_lt.mpr hheld
  simp only [hedge, hnot, bne_self_eq_false, Bool.or_false, decide_false, decide_eq_true_eq]
  omega

/-- Settles O39: each row is one update of its channel. -/
theorem analogueAndPulseInputs : Obligations.AnalogueAndPulseInputs := by
  refine ⟨fun s p held period e hfab hp hedge hheld hseen => ?first, fun s p held period e hfab hp hedge hheld hseen => ?period,
    fun s p hfab hp hms => ?noPulse, fun s a hfab ha hmode hopen => ?burdenOpen, fun s a u hfab ha hopen hms => ?burdenReclose,
    fun s n hfab hn himp hbad => ?implausible, fun s hfab => ?clear⟩
  case first =>
    refine .fab (f := piPulse p e held period) rfl (by simp [okTwo, hp]) hfab ?_
    rw [piPulse_counts hp hedge hheld, Mod.onPi_congr]
    simp [hseen]
  case period =>
    refine .fab (f := piPulse p e held period) rfl (by simp [okTwo, hp]) hfab ?_
    rw [piPulse_counts hp hedge hheld]
    refine ⟨?_, ?_, ?_, ?_, ?_, ?_, ?_, ?_, ?_, fun k hk => ?_, rfl, rfl, (Mod.onPi_within ..).only⟩
    case refine_10 => exact (Mod.pi_onPi ..).trans (if_neg hk)
    all_goals simp [hseen, Mod.piFreq]
  case noPulse =>
    refine .fab (f := piNoPulseTimeout p) rfl (by simp [okTwo, hp]) hfab ?_
    have hlt : ¬ 2 ≤ p := by omega
    have hnot : ¬ s.m.since (s.m.pi p).lastMs < 100 := Nat.not_lt.mpr hms
    simp [piNoPulseTimeout, hlt, hnot]
  case burdenOpen =>
    refine .fab (f := aiBurdenOpen a) rfl (by simp [okAi, ha]) hfab ?_
    simp [aiBurdenOpen, ha, hmode, hopen]
  case burdenReclose =>
    refine .fab (f := aiBurdenReclose a) rfl (by simp [okAi, ha]) hfab ?_
    rw [aiBurdenReclose, hopen]
    exact congrArg (fun m => ({ s with m := m } : State)) (if_neg (Nat.not_lt.mpr hms))
  case implausible =>
    refine .fab (f := implausibleChange n) rfl (by simp [hn]) hfab ?_
    have hlt : ¬ 32 ≤ n := by omega
    simp [implausibleChange, hlt, himp, hbad]
    rfl
  case clear =>
    refine .fab (f := adcCtrlClr) rfl rfl hfab ?_
    refine ⟨fun c hc => ?_, rfl, ((Mod.onAdcConv_within ..).trans ((Mod.onAdcConv_within ..).trans (Mod.onAdcConv_within ..))).only⟩
    change (Mod.onAdcConv (Mod.onAdcConv (Mod.onAdcConv s.m 0 _) 1 _) 2 _).adcConv c = _
    simp only [Mod.adcConv_onAdcConv]
    interval_cases c <;> simp

end Sys2Proof.Machine
end

section
/-! PROOF. The local ADC: rounds, injected sequences and self-calibration of a converter (R500-R505, R513, R395). -/

namespace Sys2Proof.Machine

/-- The results of slots reach their channels and no converter but that of the round. -/
theorem Mod.takeStr_convs (m : Mod) (n ns : Nat) (code : Int) (lost ok : Bool) : (m.takeStr n ns code lost ok).adc.convs = m.adc.convs := by
  unfold Mod.takeStr
  split
  · rfl
  · rfl

theorem Mod.takeAi_convs (m : Mod) (a : Nat) (code : Int) (lost ok : Bool) : (m.takeAi a code lost ok).adc.convs = m.adc.convs := by
  unfold Mod.takeAi
  split
  · rfl
  · rfl

theorem Mod.takeBoard_convs (m : Mod) (k : Nat) (code : Int) (lost ok : Bool) : (m.takeBoard k code lost ok).adc.convs = m.adc.convs := by
  unfold Mod.takeBoard
  split
  · rfl
  · rfl

/-- Every converter but `c` is as it was. -/
structure OtherConvs (c : Nat) (a b : Mod) : Prop where
  eq : ∀ k, k ≠ c → b.adcConv k = a.adcConv k

theorem OtherConvs.refl (c : Nat) (a : Mod) : OtherConvs c a a := ⟨fun _ _ => rfl⟩

theorem OtherConvs.onAdcConv {c : Nat} {a b : Mod} (h : OtherConvs c a b) (f : AdcConv → AdcConv) : OtherConvs c a (b.onAdcConv c f) :=
  ⟨fun k hk => ((Mod.adcConv_onAdcConv ..).trans (if_neg hk)).trans (h.eq k hk)⟩

theorem OtherConvs.sameConvs {c : Nat} {a b b' : Mod} (h : OtherConvs c a b) (hconvs : b'.adc.convs = b.adc.convs) : OtherConvs c a b' :=
  ⟨fun k hk => (congrArg (fun t : Tab AdcConv => tget t k) hconvs).trans (h.eq k hk)⟩

theorem OtherConvs.takeSlots (c : Nat) (r : AdcRound) (top : Nat) (m : Mod) : OtherConvs c m (m.takeSlots c r top) := by
  refine OtherConvs.onAdcConv (.sameConvs (.refl c m) ?_) _
  refine Mod.each_keeps (fun m : Mod => m.adc.convs) _ _ _ fun m k => ?_
  dsimp only
  split
  · exact Mod.takeStr_convs ..
  split
  · exact Mod.takeAi_convs ..
  · exact Mod.takeBoard_convs ..

theorem OtherConvs.commitRound (c : Nat) (m : Mod) : OtherConvs c m (m.commitRound c) := by
  unfold Mod.commitRound
  split
  · exact .refl ..
  · exact ((OtherConvs.takeSlots ..).onAdcConv _).onAdcConv _

/-- A converter that begins self-calibration is stopped, with no round (R513). -/
theorem Mod.calBegin_conv (m : Mod) (c : Nat) :
    ((m.calBegin c).adcConv c).calRun = true ∧ ((m.calBegin c).adcConv c).running = false := by
  rw [Mod.calBegin, (Mod.onAdcConv_fields ..).1]
  exact ⟨rfl, rfl⟩

theorem Mod.commitRound_round (m : Mod) (c : Nat) : ((m.commitRound c).adcConv c).round = none := by
  unfold Mod.commitRound
  split
  · assumption
  · simp [Mod.judgeRefs]

/-- A trigger that comes when the round before is over starts the next (R500). -/
theorem adcRoundTrigger_starts {c : Nat} {codes : List Int} {m : Mod} (hc : c < 3) (hrun : (m.adcConv c).running = true)
    (hcal : (m.adcConv c).calRun = false) (hround : (m.adcConv c).round = none)
    (hend : ∀ e, (m.adcConv c).endNs = some e → e ≤ (m.trigNs c m.plan.tick : Nat)) :
    adcRoundTrigger c codes m = m.onAdcConv c fun x => { x with
      round := some { start := (m.trigNs c m.plan.tick : Nat), codes := codes
                      lost := overlapped 0 ((m.adcConv c).carryLost - (m.adcConv c).gap (m.trigNs c m.plan.tick : Nat))
                      busyTo := (m.adcConv c).carryLost - (m.adcConv c).gap (m.trigNs c m.plan.tick : Nat) }
      endNs := some ((m.trigNs c m.plan.tick : Nat) + 10000)
      lostNow := x.lostNow + (m.adcConv c).gap (m.trigNs c m.plan.tick : Nat) / 500, carryLost := 0 } := by
  have hlt : ¬ 3 ≤ c := by omega
  have hover : (m.adcConv c).endNs.any (fun e => decide (((m.trigNs c m.plan.tick : Nat) : Int) < e)) = false := by
    cases h : (m.adcConv c).endNs with
    | none => rfl
    | some e => simpa using hend e h
  have hcommit : m.commitRound c = m := by simp [Mod.commitRound, hround]
  unfold adcRoundTrigger
  rw [hcommit]
  simp [hlt, hrun, hcal, hover]

/-- The results of an injected sequence of `slots` (R503). -/
def injResults (slots : List Nat) (codes : List Int) : List InjRes :=
  (List.range 4).map fun k => if k < slots.length then { code := nth codes k, valid := true, slot := nth slots k } else {}

/-- The converter once a sequence of `len` slots has begun at `atNs` (R503, R504). -/
def AdcConv.injected (x : AdcConv) (r : AdcRound) (wins : Bool) (prio len atNs : Nat) (res : List InjRes) : AdcConv :=
  { x with
    injRes := res, injOverrun := x.injOverrun || wins, carryLost := atNs + 500 * len - 10000
    round := some { r with injected := some (atNs, prio), lost := r.lost ||| overlapped atNs (atNs + 500 * len) } }

/-- A string's injected sequence keeps the greatest current of its codes (R503). -/
def Mod.takePeaks (m : Mod) (n : Nat) (codes : List Int) : Mod :=
  m.each codes fun m code =>
    let i := m.strMa n code
    if (m.strAdc n).injPeak.natAbs < i.natAbs then m.onStrAdc n fun a => { a with injPeak := i, injGrain := m.plan.grainCnt } else m

theorem Mod.onAdcConv_congr {m : Mod} {c : Nat} {f g : AdcConv → AdcConv} (h : f (m.adcConv c) = g (m.adcConv c)) :
    m.onAdcConv c f = m.onAdcConv c g := by
  unfold Mod.onAdcConv
  rw [tmod_congr h]

theorem Mod.inject_runs {m : Mod} {c prio atNs : Nat} {slots : List Nat} {str : Option Nat} {codes : List Int} {r : AdcRound}
    (hcal : (m.adcConv c).calRun = false) (hrun : (m.adcConv c).running = true) (hround : (m.adcConv c).round = some r)
    (hfirst : r.injected = none ∧ r.busyTo ≤ atNs ∨ ∃ q, prio < q ∧ r.injected = some (atNs, q)) :
    ∃ wins, m.inject c prio slots str atNs codes =
      let m' := m.onAdcConv c fun x => x.injected r wins prio slots.length atNs (injResults slots codes)
      match str with
      | none => m'
      | some n => m'.takePeaks n (codes.take slots.length) := by
  have hupdate (wins : Bool) : m.onAdcConv c (fun x => { x with
      injRes := injResults slots codes, injOverrun := x.injOverrun || wins
      carryLost := if x.round.isSome then atNs + 500 * slots.length - 10000 else 0
      round := x.round.map fun r => { r with injected := some (atNs, prio), lost := r.lost ||| overlapped atNs (atNs + 500 * slots.length) } }) =
      m.onAdcConv c fun x => x.injected r wins prio slots.length atNs (injResults slots codes) :=
    Mod.onAdcConv_congr (by simp [AdcConv.injected, hround])
  unfold Mod.inject
  dsimp only
  rw [hround, Option.getD_some, hcal, hrun]
  rcases hfirst with ⟨hnone, hbusy⟩ | ⟨q, hq, hsome⟩
  · refine ⟨false, ?_⟩
    rw [hnone, if_neg (by simp [hbusy]), if_neg (by simp), ← hupdate]
    rfl
  · refine ⟨true, ?_⟩
    rw [hsome, if_neg (by simp [hq]), if_neg (by simp), ← hupdate]
    simp only [hq, and_self, decide_true]
    rfl

/-- A trigger in a round that had a sequence of at least its own priority, or that a sequence still takes, is an overrun (R505). -/
theorem Mod.inject_overrun {m : Mod} {c prio atNs : Nat} {slots : List Nat} {str : Option Nat} {codes : List Int} {r : AdcRound}
    (hround : (m.adcConv c).round = some r)
    (hbusy : r.injected = none ∧ atNs < r.busyTo ∨ ∃ t q, r.injected = some (t, q) ∧ (t ≠ atNs ∨ q ≤ prio)) :
    m.inject c prio slots str atNs codes = m.onAdcConv c fun x => { x with injOverrun := true } := by
  unfold Mod.inject
  dsimp only
  rw [hround, Option.getD_some]
  rcases hbusy with ⟨hnone, hbusy⟩ | ⟨t, q, hsome, hne⟩
  · have hnot : ¬ r.busyTo ≤ atNs := by omega
    rw [hnone, if_pos (by simp [hnot])]
  · have hnot : ¬ (t = atNs ∧ prio < q) := by omega
    rw [hsome, if_pos (by simp [hnot])]

/-- The current of a code depends on the calibration of the converter, which a sequence leaves alone. -/
theorem Mod.strMa_onAdcConv (m : Mod) (n c : Nat) {f : AdcConv → AdcConv} (hoffset : ∀ x, (f x).scOffset = x.scOffset)
    (hgain : ∀ x, (f x).scGain = x.scGain) (code : Int) : (m.onAdcConv c f).strMa n code = m.strMa n code := by
  have hc1 : ((m.onAdcConv c f).adcConv (n / 16)).c1 code = (m.adcConv (n / 16)).c1 code := by
    rw [Mod.adcConv_onAdcConv]
    split
    · next heq => rw [AdcConv.c1, hoffset, hgain, heq, AdcConv.c1]
    · rfl
  unfold Mod.strMa Mod.strVolt
  rw [hc1]
  rfl

/-- What taking the peaks of a sequence keeps, and that the peak is at least that of each code. -/
theorem Mod.takePeaks_spec (m : Mod) (n : Nat) (codes : List Int) :
    (∀ code ∈ codes, (m.strMa n code).natAbs ≤ ((m.takePeaks n codes).strAdc n).injPeak.natAbs) ∧
    (m.strAdc n).injPeak.natAbs ≤ ((m.takePeaks n codes).strAdc n).injPeak.natAbs ∧
    ((m.takePeaks n codes).strAdc n).win = (m.strAdc n).win ∧ (∀ k, k ≠ n → (m.takePeaks n codes).strAdc k = m.strAdc k) ∧
    (m.takePeaks n codes).adc.convs = m.adc.convs ∧ Within [.adc] m (m.takePeaks n codes) := by
  unfold Mod.takePeaks Mod.each
  induction codes generalizing m with
  | nil => exact ⟨by simp, le_rfl, rfl, fun _ _ => rfl, rfl, .refl ..⟩
  | cons code codes ih =>
    rw [List.foldl_cons]
    dsimp only
    split
    · next hlt =>
      obtain ⟨hall, hpeak, hwin, hother, hconvs, hwithin⟩ := ih (m.onStrAdc n fun a => { a with injPeak := m.strMa n code, injGrain := m.plan.grainCnt })
      rw [(Mod.onStrAdc_fields ..).1] at hpeak hwin
      refine ⟨?_, (Nat.le_of_lt hlt).trans hpeak, hwin, fun k hk => (hother k hk).trans ((Mod.strAdc_onStrAdc ..).trans (if_neg hk)), hconvs, (Mod.onStrAdc_within ..).trans hwithin⟩
      intro c hc
      rcases List.mem_cons.mp hc with rfl | hc
      · exact hpeak
      · exact hall c hc
    · next hle =>
      obtain ⟨hall, hpeak, hwin, hother, hconvs, hwithin⟩ := ih m
      refine ⟨?_, hpeak, hwin, hother, hconvs, hwithin⟩
      intro c hc
      rcases List.mem_cons.mp hc with rfl | hc
      · exact (Nat.not_lt.mp hle).trans hpeak
      · exact hall c hc

/-- A sequence of a string begins: its converter, and the peak of the string (R503). -/
theorem Mod.injected_peaks (m : Mod) (n c : Nat) (r : AdcRound) (wins : Bool) (atNs : Nat) (res : List InjRes) (codes : List Int) :
    let m' := (m.onAdcConv c fun x => x.injected r wins 0 4 atNs res).takePeaks n codes
    m'.adcConv c = (m.adcConv c).injected r wins 0 4 atNs res ∧
    (∀ code ∈ codes, (m.strMa n code).natAbs ≤ (m'.strAdc n).injPeak.natAbs) ∧ (m'.strAdc n).win = (m.strAdc n).win ∧
    OtherConvs c m m' ∧ (∀ k, k ≠ n → m'.strAdc k = m.strAdc k) ∧ Within [.adc] m m' := by
  have hma (code : Int) : (m.onAdcConv c fun x => x.injected r wins 0 4 atNs res).strMa n code = m.strMa n code := by
    refine Mod.strMa_onAdcConv _ _ _ ?_ ?_ code <;> intro x <;> rfl
  obtain ⟨hpeaks, -, hwin, hother, hconvs, hwithin⟩ := (m.onAdcConv c fun x => x.injected r wins 0 4 atNs res).takePeaks_spec n codes
  simp only [hma] at hpeaks
  have hconv := congrArg (fun t : Tab AdcConv => tget t c) hconvs
  exact ⟨hconv.trans (Mod.onAdcConv_fields ..).1, hpeaks, hwin, ((OtherConvs.refl c m).onAdcConv _).sameConvs hconvs, hother,
    (Mod.onAdcConv_within ..).trans hwithin⟩

theorem injResults_replicate (k : Nat) (codes : List Int) :
    injResults (List.replicate 4 k) codes = (List.range 4).map fun i => ({ code := nth codes i, valid := true, slot := k } : InjRes) := by
  refine List.map_congr_left fun i hi => ?_
  have hlt : i < 4 := List.mem_range.mp hi
  rw [if_pos (by simpa using hlt)]
  have hslot : nth (List.replicate 4 k) i = k := by rw [nth, List.getElem?_replicate, if_pos hlt]; rfl
  rw [hslot]

/-- The result of a calibration within the limits (R513). -/
theorem Mod.calResult_good {m : Mod} {c : Nat} {offset gain : Int} (hc : c < 3) (hcal : (m.adcConv c).calRun = true)
    (hoffset : offset.natAbs ≤ 2000) (hgain : gain.natAbs * 100 ≤ 1048576) :
    m.calResult c offset gain = m.onAdcConv c fun x => { x with
      scOffset := offset, scGain := gain, calRun := false, running := true, failed := false, refBad := [] } := by
  have hlt : ¬ 3 ≤ c := by omega
  simp [Mod.calResult, hlt, hcal, hoffset, hgain]

/-- The result of a calibration beyond the limits is asked for again once, and fails the converter the second time (R513). -/
theorem Mod.calResult_bad {m : Mod} {c : Nat} {offset gain : Int} (hc : c < 3) (hcal : (m.adcConv c).calRun = true)
    (hbad : 2000 < offset.natAbs ∨ 1048576 < gain.natAbs * 100) :
    m.calResult c offset gain = if (m.adcConv c).calAgain then
        m.onAdcConv c fun x => { x with calRun := false, running := true, failed := true, calFail := true }
      else m.onAdcConv c fun x => { x with calAgain := true } := by
  have hlt : ¬ 3 ≤ c := by omega
  have hnot : ¬ (offset.natAbs ≤ 2000 ∧ gain.natAbs * 100 ≤ 1048576) := by omega
  simp [Mod.calResult, hlt, hcal, hnot]

/-- Outside a start nothing follows the result of a calibration (R395). -/
theorem adcCalComplete_alone {m : Mod} (c : Nat) (offset gain : Int) (hjoin : m.pair.join ≠ some .calibrate) :
    adcCalComplete c offset gain m = m.calResult c offset gain := if_neg fun h => hjoin h.1

/-- Settles O38: a round, a sequence and a calibration are each one update of their converter, after what they end. -/
theorem adcSequences : Obligations.AdcSequences := by
  refine ⟨fun s c g b a codes hfab hc hrun hcal hround ha hend hg hb => ?round,
    fun s c n atNs codes r hfab hc hn hen hcal hrun hround hfirst => ?comparator,
    fun s c u v atNs codes r hfab hc hen hgrain hns htick hround hv hbusy => ?carrier,
    fun s c atNs codes r hfab hc hen hcal hrun hround hnone hfirst => ?command, fun s mask c l hfab hset hnone => ?calibrate,
    fun s c offset gain hfab hc hcal hjoin hoffset hgain => ?good, fun s c offset gain hfab hc hcal hjoin hoffset hgain => ?joining,
    fun s c offset gain hfab hc hcal hagain hbad => ?again, fun s c offset gain hfab hc hcal hagain hjoin hbad => ?fails⟩
  case round =>
    subst ha hg hb
    refine .fab rfl (by simp [okConv, hc]) hfab ?_
    rw [adcRoundTrigger_starts hc hrun hcal hround hend]
  case comparator =>
    refine .fab (f := adcInjectedTrigger c (some n) atNs codes) rfl (by simp [okConv]; omega) hfab ?_
    have hrow : adcInjectedTrigger c (some n) atNs codes s.m = s.m.inject c 0 (List.replicate 4 (n % 16)) (some n) atNs codes := by
      have hlt : ¬ 2 ≤ c := by omega
      simp [adcInjectedTrigger, hlt, hn, hen]
    obtain ⟨wins, hinject⟩ := Mod.inject_runs (str := some n) (slots := List.replicate 4 (n % 16)) (codes := codes) hcal hrun hround hfirst
    rw [hrow, hinject]
    dsimp only
    rw [List.length_replicate]
    obtain ⟨hconv, hpeaks, hwin, hothers, hother, hwithin⟩ := s.m.injected_peaks n c r wins atNs (injResults (List.replicate 4 (n % 16)) codes) (codes.take 4)
    refine ⟨?_, ?_, ?_, hpeaks, hwin, hothers.eq, hother, hwithin.only⟩
    all_goals rw [hconv]
    · exact injResults_replicate ..
    · rfl
    · rfl
  case carrier =>
    refine .fab (f := adcInjectedTrigger c none atNs codes) rfl (by simp [okConv, hc]) hfab ?_
    have hlt : ¬ 3 ≤ c := by omega
    have hrow : adcInjectedTrigger c none atNs codes s.m =
        (s.m.onAdcConv c fun x => { x with injGrain := some s.m.plan.grainCnt }).inject c 1 (s.m.injEntries c) none v codes := by
      simp [adcInjectedTrigger, hlt, hen, hgrain, hns, htick, hround, hv]
    rw [hrow, Mod.inject_overrun (r := r) (by simp [hround]) hbusy]
  case command =>
    refine .fab (f := adcCtrlInjGo c atNs codes) rfl (by simp [okConv, hc]) hfab ?_
    have hlt : ¬ 3 ≤ c := by omega
    have hrow : adcCtrlInjGo c atNs codes s.m = s.m.inject c 2 (s.m.injEntries c) none atNs codes := by simp [adcCtrlInjGo, hlt, hen]
    obtain ⟨wins, hinject⟩ := Mod.inject_runs (str := none) (prio := 2) (slots := s.m.injEntries c) (codes := codes) hcal hrun hround (.inl ⟨hnone, hfirst⟩)
    rw [hrow, hinject]
    exact ⟨by simp [AdcConv.injected, injResults], by simp [AdcConv.injected], ((OtherConvs.refl ..).onAdcConv _).eq, rfl, (Mod.onAdcConv_within ..).only⟩
  case calibrate =>
    refine .fab (f := fun m => (adcCtrlCal mask.toNat m).1) rfl rfl hfab ?_
    have hany : ((List.range 3).any fun k => (s.m.adcConv k).calRun) = false := by
      rw [List.any_eq_false]
      intro k hk
      simp [hnone k (List.mem_range.mp hk)]
    have hrow : (adcCtrlCal mask.toNat s.m).1 = s.m.calBegin c := by simp [adcCtrlCal, hset, hany]
    obtain ⟨hrun, hstop⟩ := s.m.calBegin_conv c
    rw [hrow]
    exact ⟨hrun, hstop, by rw [Mod.calBegin, (Mod.onAdcConv_fields ..).1]; exact Mod.commitRound_round .., ((OtherConvs.commitRound c s.m).onAdcConv _).eq,
      (Mod.calBegin_within ..).only⟩
  case good =>
    refine .fab rfl (by simp [okConv, hc]) hfab ?_
    rw [adcCalComplete_alone c offset gain hjoin, Mod.calResult_good hc hcal hoffset hgain]
  case joining =>
    refine .fab (f := adcCalComplete c offset gain) rfl (by simp [okConv]; omega) hfab ?_
    have hwithin := adcCalComplete_within c offset gain s.m
    have hrow : adcCalComplete c offset gain s.m = (s.m.calResult c offset gain).calBegin (c + 1) := by
      refine if_pos ⟨hjoin, hc, hcal, ?_⟩
      rw [Mod.calResult_good (by omega) hcal hoffset hgain, (Mod.onAdcConv_fields ..).1]
      simp
    rw [hrow] at hwithin ⊢
    obtain ⟨hrun, hstop⟩ := (s.m.calResult c offset gain).calBegin_conv (c + 1)
    refine ⟨?_, hrun, hstop, hwithin.only⟩
    refine (((OtherConvs.commitRound (c + 1) _).onAdcConv _).eq c (by omega)).trans ?_
    rw [Mod.calResult_good (by omega) hcal hoffset hgain, (Mod.onAdcConv_fields ..).1]
  case again =>
    refine .fab (f := adcCalComplete c offset gain) rfl (by simp [okConv, hc]) hfab ?_
    have hrow : adcCalComplete c offset gain s.m = s.m.calResult c offset gain := by
      refine if_neg ?_
      rintro ⟨-, -, -, hdone⟩
      rw [Mod.calResult_bad hc hcal hbad, hagain] at hdone
      exact hdone (by simp [hcal])
    rw [hrow, Mod.calResult_bad hc hcal hbad, hagain]
    rfl
  case fails =>
    refine .fab rfl (by simp [okConv, hc]) hfab ?_
    rw [adcCalComplete_alone c offset gain hjoin, Mod.calResult_bad hc hcal hbad, if_pos hagain]

end Sys2Proof.Machine
end

section
/-! PROOF. Two rows of storage that do less than is said of them: the last word of the cursor window, and a page of the reserve. -/

namespace Sys2Proof.Machine

/-- A completion speaks of the state that the command gives. -/
theorem Completes.elim {i : Instr} {s u : State} {C : State → Prop} (h : Completes i s C) (hexec : exec i s = .next u) : C u := by
  obtain ⟨t, ht, hC⟩ := h
  obtain rfl : u = t := by injection hexec.symm.trans ht
  exact hC

/-- A module in service with a record in its cursor window, whose register read before latched GRAIN_CNT. -/
def latchedCursor : State :=
  Tests.on { Tests.module with
    plan := { Tests.module.plan with grnLatch := some 5 }, upd := { Tests.module.upd with service := true }
    store := { curData := [{ rseq := 6 }], curEnd := true } }

/-- Refutes O40: the last word of the cursor window is read by a row of its own, which ends no latch set by another register read. -/
theorem not_recorderRows : ¬ Obligations.RecorderRows := by
  rintro ⟨-, -, -, -, -, -, hread, -⟩
  have hexec : exec .recCurDataLastRead latchedCursor = .next { latchedCursor with m := recCurDataLastRead latchedCursor.m } :=
    latchedCursor.on_runs rfl (by decide) _
  have hstate := (hread latchedCursor { rseq := 6 } (by decide) (by decide) (by decide) (by decide)).elim hexec
  have hlatch : (recCurDataLastRead latchedCursor.m).plan.grnLatch = none := by
    have hm : recCurDataLastRead latchedCursor.m = latchedCursor.m.latchesEnd.onStore fun x => { x with curPos := 6, curData := [] } :=
      congrArg State.m hstate
    rw [hm]
    rfl
  rw [(recCurDataLastRead_within latchedCursor.m).planEq (by decide)] at hlatch
  cases hlatch

/-- Refutes O41: the reserve has the number 6 among the partitions, which FLASH_PAGE_WRITE_FAIL does not take as one of the operands of a
well-formed command, so that a page of it is not mapped to another. -/
theorem not_storageRows : ¬ Obligations.StorageRows := by
  rintro ⟨-, hfail, -⟩
  have hexec : exec (.flashPageWriteFail 6 0x3C4000000) (Tests.on Tests.module) = .next (Tests.on Tests.module) :=
    (Tests.on Tests.module).when_false rfl _
  have hstate := (hfail (Tests.on Tests.module) 6 0x3C4000000 (by decide) (by decide) (by decide) (by decide)).elim hexec
  have hm : Tests.module = (Tests.module.onStore fun x => { x with retired := x.retired ++ [0x3C4000000 / 4096 * 4096] }).post 0xD004 0xFF bStore
    (u8 6 ++ List.replicate 7 0 ++ leN 8 0x3C4000000) := congrArg State.m hstate
  have hrec := Mod.post_recorded (Tests.module.onStore fun x => { x with retired := x.retired ++ [0x3C4000000 / 4096 * 4096] }) 0xD004 0xFF bStore
    (u8 6 ++ List.replicate 7 0 ++ leN 8 0x3C4000000)
  rw [← hm] at hrec
  rcases hrec with ⟨hnext, -⟩ | ⟨-, hrate⟩
  · exact absurd hnext (by decide)
  · exact absurd hrate (by decide)

end Sys2Proof.Machine
end

section
/-! PROOF. A request on the Rovisa port that is carried out, as a completion; and the firmware update (R591-R598). -/

namespace Sys2Proof.Machine

/-- A request on the Rovisa port that is admitted completes with what its operation does, its reply, and what follows the reply. -/
theorem Completes.rv {i : Instr} {s : State} {op : Nat} {rq : RvReq} {x : RvSession} {C : State → Prop} {m' : Mod} {a : Ans}
    (hexec : exec i s = s.on true (rvRow op rq)) (hadmit : s.m.RvAdmits op rq x)
    (hop : rvOp x.presence { s := x.s, op := op, rq := rvHost rq } (s.m.rvNoted rq x) = (m', a))
    (h : C { s with m := (m'.rvReplied op rq x a.status a.tlvs).rvAfter a.after }) : Completes i s C := by
  refine .on hexec rfl hadmit.1 ?_
  rw [rvRow_admitted hadmit]
  dsimp only
  rw [hop]
  exact h

/-- What a request that is carried out may change. -/
theorem Mod.RvAdmits.within {m m' : Mod} {op : Nat} {rq : RvReq} {x : RvSession} {a : Ans} (h : m.RvAdmits op rq x)
    (hop : rvOp x.presence { s := x.s, op := op, rq := rvHost rq } (m.rvNoted rq x) = (m', a)) :
    Within [.plan, .host, .store, .power, .conv, .disp, .prot, .safety, .pair, .time, .can, .adc, .upd, .sent, .free] m
      ((m'.rvReplied op rq x a.status a.tlvs).rvAfter a.after) := by
  have hrow := rvRow_within op rq m
  rw [rvRow_admitted h] at hrow
  dsimp only at hrow
  rwa [hop] at hrow

theorem Mod.rvNoted_fields (m : Mod) (rq : RvReq) (x : RvSession) :
    (m.rvNoted rq x).plan = m.plan ∧ (m.rvNoted rq x).host = m.host ∧ (m.rvNoted rq x).store = m.store ∧ (m.rvNoted rq x).power = m.power ∧
    (m.rvNoted rq x).safety = m.safety ∧ (m.rvNoted rq x).pair = m.pair ∧ (m.rvNoted rq x).sent = m.sent := by
  unfold Mod.rvNoted
  split <;> exact ⟨rfl, rfl, rfl, rfl, rfl, rfl, rfl⟩

/-- Noting a request on the port changes its session alone. -/
theorem Mod.rvNoted_upd (m : Mod) (rq : RvReq) (x : RvSession) : ∃ usb ses, (m.rvNoted rq x).upd = { m.upd with usbUp := usb, session := ses } := by
  unfold Mod.rvNoted
  split <;> exact ⟨_, _, rfl⟩

@[simp] theorem Mod.rvNoted_fwSlot (m : Mod) (rq : RvReq) (x : RvSession) (b : Bool) : (m.rvNoted rq x).fwSlot b = m.fwSlot b := by
  obtain ⟨_, _, hupd⟩ := m.rvNoted_upd rq x
  unfold Mod.fwSlot
  rw [hupd]

@[simp] theorem Mod.rvNoted_runB (m : Mod) (rq : RvReq) (x : RvSession) : (m.rvNoted rq x).upd.runB = m.upd.runB := by
  obtain ⟨_, _, hupd⟩ := m.rvNoted_upd rq x
  rw [hupd]

@[simp] theorem Mod.rvNoted_inactive (m : Mod) (rq : RvReq) (x : RvSession) : (m.rvNoted rq x).inactive = m.inactive := by
  unfold Mod.inactive
  rw [Mod.rvNoted_fwSlot, Mod.rvNoted_runB]

@[simp] theorem Mod.rvNoted_verifying (m : Mod) (rq : RvReq) (x : RvSession) : (m.rvNoted rq x).upd.verifying = m.upd.verifying := by
  obtain ⟨_, _, hupd⟩ := m.rvNoted_upd rq x
  rw [hupd]

/-- The inactive slot once it is changed, and the slot that runs. -/
@[simp] theorem Mod.onInactive_slots (m : Mod) (f : FwSlot → FwSlot) :
    (m.onInactive f).inactive = f m.inactive ∧ (m.onInactive f).fwSlot m.upd.runB = m.fwSlot m.upd.runB ∧
    (m.onInactive f).upd.runB = m.upd.runB := by
  cases h : m.upd.runB <;> simp [Mod.inactive, Mod.onInactive, Mod.onFwSlot, Mod.fwSlot, Mod.onUpd, h]

/-- The other slot is read past the flags of a verification. -/
@[simp] theorem Mod.inactive_onUpd_verifying (m : Mod) (b : Bool) : (m.onUpd fun u => { u with verifying := b }).inactive = m.inactive := rfl

theorem Mod.inactive_congr {m m' : Mod} (h : m'.upd = m.upd) : m'.inactive = m.inactive := by
  unfold Mod.inactive Mod.fwSlot
  rw [h]

theorem Mod.fwSlot_congr {m m' : Mod} (h : m'.upd = m.upd) (b : Bool) : m'.fwSlot b = m.fwSlot b := by
  unfold Mod.fwSlot
  rw [h]

/-- The reply to a request on the port changes neither slot. -/
theorem Mod.rvReplied_slots (m : Mod) (op : Nat) (rq : RvReq) (x : RvSession) (st : Nat) (tlvs : List Tlv) :
    (m.rvReplied op rq x st tlvs).inactive = m.inactive ∧ (∀ b, (m.rvReplied op rq x st tlvs).fwSlot b = m.fwSlot b) ∧
    (m.rvReplied op rq x st tlvs).upd.runB = m.upd.runB ∧ (m.rvReplied op rq x st tlvs).store = m.store ∧
    (m.rvReplied op rq x st tlvs).plan = m.plan ∧ (m.rvReplied op rq x st tlvs).power = m.power :=
  ⟨rfl, fun _ => rfl, rfl, rfl, rfl, rfl⟩

/-- The reply to a request on the port is the newest that was sent. -/
theorem Mod.rvReplied_sent (m : Mod) (op : Nat) (rq : RvReq) (x : RvSession) (st : Nat) (tlvs : List Tlv) :
    ∃ r : Reply, ∃ g : List Byte, (m.rvReplied op rq x st tlvs).sent = .rvReply r g :: m.sent ∧ r.status = st :=
  ⟨_, _, rfl, rfl⟩

/-- A trial that begins anew changes its start alone. -/
theorem Mod.trialAgain_upd (m : Mod) : ∃ t, m.trialAgain.upd = { m.upd with trialSince := t } := by
  unfold Mod.trialAgain
  split <;> exact ⟨_, rfl⟩

/-- A warm restart in progress changes neither slot and not which of them runs. -/
theorem Mod.warmRestart_slots (m : Mod) (cause : Nat) :
    (m.warmRestart cause).inactive = m.inactive ∧ (m.warmRestart cause).upd.runB = m.upd.runB := by
  suffices h : ∃ t, (m.warmRestart cause).upd = { m.upd with trialSince := t } by
    obtain ⟨t, h⟩ := h
    exact ⟨by unfold Mod.inactive Mod.fwSlot; rw [h], by rw [h]⟩
  unfold Mod.warmRestart
  split
  · exact ⟨_, rfl⟩
  · dsimp only
    rw [(Mod.post_within ..).updEq (by decide), (Mod.tellPartner_within ..).updEq (by decide)]
    obtain ⟨t, h⟩ := Mod.trialAgain_upd (Mod.servoHold ((m.onPlan fun p => { p with warm := true, warmCause := cause, sp0Ok := false, sp1Ok := false }).onPower
      fun p => { p with warmCount := stopAt 255 (p.warmCount + 1), lastCause := cause, btnState := if p.btnState = 1 then 0 else p.btnState }))
    rw [h, (Mod.servoHold_within _).updEq (by decide)]
    exact ⟨t, rfl⟩

/-- A warm restart begins where no other restart is under way. -/
theorem Mod.warmRestart_begins (m : Mod) (cause : Nat) (hrestart : m.power.restart = none) (hstate : m.power.state ≠ .failing)
    (hwarm : m.plan.warm = false) :
    (m.warmRestart cause).plan = { m.plan with warm := true, warmCause := cause, sp0Ok := false, sp1Ok := false } ∧
    (m.warmRestart cause).power.restart = none := by
  have hfree : ¬ (m.power.restart.isSome || m.power.state = .failing || m.plan.warm) = true := by simp [hrestart, hstate, hwarm]
  unfold Mod.warmRestart
  rw [if_neg hfree]
  dsimp only
  generalize hm : (m.onPlan fun p => { p with warm := true, warmCause := cause, sp0Ok := false, sp1Ok := false }).onPower _ = m'
  refine ⟨?_, ?_⟩
  · rw [(Mod.post_within ..).planEq (by decide), (Mod.tellPartner_within ..).planEq (by decide), (Mod.trialAgain_within _).planEq (by decide),
      (Mod.servoHold_within _).planEq (by decide), ← hm]
    rfl
  · rw [(Mod.post_power ..).2.2.2.2.2.2.2.2.2.2.2.2.2.1, (Mod.tellPartner_within ..).powerEq (by decide) (by decide),
      (Mod.trialAgain_within _).powerEq (by decide) (by decide), (Mod.servoHold_within _).powerEq (by decide) (by decide), ← hm]
    exact hrestart

/-- UPD_BEGIN where every check passes. -/
theorem uBegin_of_ready (r : Req) (m : Mod) (hmin : 2 ≤ r.num 0x0100 0 4) (hmax : r.num 0x0100 0 4 ≤ 65471) (hst : m.inactive.st ≠ .trial)
    (hro : m.store.roMask.getLsbD (b2n (!m.upd.runB)) = false) (hver : m.upd.verifying = false) :
    uBegin r m = ((m.onInactive fun s =>
      { s with st := .receiving, header := none, blockCount := r.num 0x0100 0 4, blocks := [], crcs := [], refusal := 0 }).post 0x0001 0xFF bSup
        (leN 4 (r.num 0x0100 0 4)), ans 0) := by
  have hzero : ¬ r.num 0x0100 0 4 = 0 := by omega
  have hrange : ¬ (r.num 0x0100 0 4 < 2 ∨ 65471 < r.num 0x0100 0 4) := by omega
  simp only [uBegin, if_neg hzero, if_neg hrange]
  simp [hst, hro, hver]

/-- UPD_BLOCK of a block after the first, with the header in. -/
theorem uBlock_of_later (r : Req) (m : Mod) (hst : m.inactive.st = .receiving) (hcount : r.num 0x0101 0 4 < m.inactive.blockCount)
    (hcrc : r.num 0x0101 4 4 = (crc32c ((r.val 0x0101).drop 8)).toNat) (hne : r.num 0x0101 0 4 ≠ 0) (hheader : m.inactive.header.isSome = true) :
    uBlock r m = (m.onInactive fun s => { s with
      blocks := tput s.blocks (r.num 0x0101 0 4) ((r.val 0x0101).drop 8)
      crcs := tput s.crcs (r.num 0x0101 0 4) (crc32c ((r.val 0x0101).drop 8)) }, ans 0) := by
  have hheld : m.inactive.header.isNone = false := by simpa using hheader
  have hin : ¬ m.inactive.blockCount ≤ r.num 0x0101 0 4 := by omega
  simp [uBlock, hst, hin, hheld, ← hcrc, hne]

/-- UPD_BLOCK of a first block whose header fails. -/
theorem uBlock_of_header_refused (r : Req) (m : Mod) (c : Nat) (hst : m.inactive.st = .receiving)
    (hcount : r.num 0x0101 0 4 < m.inactive.blockCount) (hcrc : r.num 0x0101 4 4 = (crc32c ((r.val 0x0101).drop 8)).toNat)
    (hzero : r.num 0x0101 0 4 = 0) (hc : c = m.headerRefusal m.inactive.blockCount (headerOf ((r.val 0x0101).drop 8))) (hne : c ≠ 0) :
    uBlock r m = (m.onInactive fun s => { s with st := .empty, header := none, blockCount := 0, blocks := [], crcs := [] }).updNo 0x8005 c := by
  have hin : ¬ m.inactive.blockCount ≤ 0 := by omega
  simp [uBlock, hst, hin, ← hcrc, hzero, ← hc, hne]

theorem uVerify_of_receiving (r : Req) (m : Mod) (hver : m.upd.verifying = false) (hst : m.inactive.st = .receiving) :
    uVerify r m = ((m.onInactive fun s => { s with st := .verifying }).onUpd fun u => { u with verifying := true }, ans 1) := by
  simp [uVerify, hver, hst]

theorem uAbort_of_untried (r : Req) (m : Mod) (hst : m.inactive.st ≠ .trial) :
    uAbort r m = ((m.onInactive fun s => { s with st := .empty, header := none, blockCount := 0, blocks := [], crcs := [] }).onUpd
      fun u => { u with verifying := false }, ans 0) := if_neg hst

/-- UPD_ACTIVATE of a verified slot whose other components are those that run. -/
theorem uActivate_of_supervisor (r : Req) (m : Mod) (hst : m.inactive.st = .verified) (hkind : m.moduleKind = false)
    (hrec : m.upd.recovery = false) :
    uActivate r m = ((((m.onInactive fun s => { s with st := .trial, generation := (m.fwSlot m.upd.runB).generation + 1, tries := 0 }).onUpd
      fun u => { u with trialModule := false }).post 0x0004 0xFF bSup (u8 0)), { after := 7 }) := by
  simp [uActivate, hst, Mod.activate, hkind, hrec, b2n]

/-- The end of a verification. -/
theorem updVerifyComplete_of_verifying (m : Mod) (hver : m.upd.verifying = true) (hwarm : m.plan.warm = false) :
    updVerifyComplete m =
      if m.inactive.verify = 0 then
        ((m.onUpd fun u => { u with verifying := false }).onInactive fun s => { s with st := .verified, refusal := 0 }).post 0x0002 0xFF bSup
          (leN 2 m.inactive.hdr.svn)
      else
        ((m.onUpd fun u => { u with verifying := false }).onInactive fun s => { s with st := .invalid }).updRefused m.inactive.verify := by
  simp only [updVerifyComplete, hver, hwarm]
  rfl

@[simp] theorem Mod.onInactive_others (m : Mod) (f : FwSlot → FwSlot) :
    (m.onInactive f).plan = m.plan ∧ (m.onInactive f).power = m.power ∧ (m.onInactive f).store = m.store ∧ (m.onInactive f).sent = m.sent :=
  ⟨rfl, rfl, rfl, rfl⟩

@[simp] theorem Mod.onInactive_verifying (m : Mod) (f : FwSlot → FwSlot) : (m.onInactive f).upd.verifying = m.upd.verifying := by
  cases h : m.upd.runB <;> simp [Mod.onInactive, Mod.onFwSlot, Mod.onUpd, h]

/-- A refusal is kept in the other slot, and recorded. -/
theorem Mod.updRefused_effect (m : Mod) (c : Nat) (hne : c ≠ 0) :
    (m.updRefused c).inactive = { m.inactive with refusal := c } ∧ (m.updRefused c).fwSlot m.upd.runB = m.fwSlot m.upd.runB ∧
    (m.updRefused c).upd.runB = m.upd.runB ∧ (m.updRefused c).upd.verifying = m.upd.verifying ∧
    Recorded 0x0003 0xFF bSup m (m.updRefused c) := by
  have hupd := (Mod.post_within (m.onInactive fun s => { s with refusal := c }) 0x0003 0xFF bSup (u8 c)).updEq (by decide)
  have hrec := Mod.post_recorded (m.onInactive fun s => { s with refusal := c }) 0x0003 0xFF bSup (u8 c)
  have hslots := m.onInactive_slots fun s => { s with refusal := c }
  unfold Mod.updRefused
  rw [if_neg hne, Mod.inactive_congr hupd, Mod.fwSlot_congr hupd, hupd]
  exact ⟨hslots.1, hslots.2.1, hslots.2.2, m.onInactive_verifying _, hrec.of_store rfl⟩

/-- What a header is judged by is not the session of the port. -/
@[simp] theorem Mod.rvNoted_headerRefusal (m : Mod) (rq : RvReq) (x : RvSession) (n : Nat) (h : FwHeader) :
    (m.rvNoted rq x).headerRefusal n h = m.headerRefusal n h := by
  obtain ⟨_, _, hupd⟩ := m.rvNoted_upd rq x
  unfold Mod.headerRefusal
  rw [hupd]

@[simp] theorem Mod.rvNoted_moduleKind (m : Mod) (rq : RvReq) (x : RvSession) : (m.rvNoted rq x).moduleKind = m.moduleKind := by
  obtain ⟨_, _, hupd⟩ := m.rvNoted_upd rq x
  unfold Mod.moduleKind
  rw [Mod.rvNoted_inactive, hupd]

@[simp] theorem Mod.rvNoted_recovery (m : Mod) (rq : RvReq) (x : RvSession) : (m.rvNoted rq x).upd.recovery = m.upd.recovery := by
  obtain ⟨_, _, hupd⟩ := m.rvNoted_upd rq x
  rw [hupd]

/-- UPD_ACTIVATE of a verified supervisor image: the slot is on trial under the next generation, and the supervisor restarts. -/
theorem Mod.activated_effect (m : Mod) (rq : RvReq) (x : RvSession) (hrestart : m.power.restart = none) (hstate : m.power.state = .running)
    (hwarm : m.plan.warm = false) {m₁ m₂ : Mod}
    (hm₁ : m₁ = ((m.onInactive fun s => { s with st := .trial, generation := (m.fwSlot m.upd.runB).generation + 1, tries := 0 }).onUpd
      fun u => { u with trialModule := false }).post 0x0004 0xFF bSup (u8 0))
    (hm₂ : m₂ = (m₁.rvReplied 0x0014 rq x 0).warmRestart 10) :
    m₂.inactive = { m.inactive with st := .trial, generation := (m.fwSlot m.upd.runB).generation + 1, tries := 0 } ∧ m₂.upd.runB = m.upd.runB ∧
    m₂.plan = { m.plan with warm := true, warmCause := 10, sp0Ok := false, sp1Ok := false } ∧ m₂.power.restart = none := by
  have hslots := m.onInactive_slots fun s => { s with st := .trial, generation := (m.fwSlot m.upd.runB).generation + 1, tries := 0 }
  have hposted : m₁.inactive = { m.inactive with st := .trial, generation := (m.fwSlot m.upd.runB).generation + 1, tries := 0 } ∧ m₁.upd.runB = m.upd.runB ∧ m₁.plan = m.plan ∧ m₁.power.restart = none ∧ m₁.power.state = .running := by
    subst hm₁
    exact ⟨(Mod.inactive_congr ((Mod.post_within ..).updEq (by decide))).trans hslots.1, by simp, by simp, by simpa using hrestart,
      by simpa using hstate⟩
  obtain ⟨hinactive, hrun, hplan, hrestart', hstate'⟩ := hposted
  have hbegins := (m₁.rvReplied 0x0014 rq x 0).warmRestart_begins 10 hrestart' (by simp [(m₁.rvReplied_slots 0x0014 rq x 0 []).2.2.2.2.2, hstate'])
    (by simp [(m₁.rvReplied_slots 0x0014 rq x 0 []).2.2.2.2.1, hplan, hwarm])
  have hkept := (m₁.rvReplied 0x0014 rq x 0).warmRestart_slots 10
  subst hm₂
  exact ⟨hkept.1.trans hinactive, hkept.2.trans hrun, hbegins.1.trans (by rw [(m₁.rvReplied_slots 0x0014 rq x 0 []).2.2.2.2.1, hplan]), hbegins.2⟩

/-- Settles O45: each request's operation is judged once, on the module with the request noted. -/
theorem firmwareUpdate : Obligations.FirmwareUpdate := by
  refine ⟨fun s rq x hadmit hmin hmax hst hro hver => ?begin, fun s rq x hadmit hst hcount hcrc hne hheader => ?block,
    fun s rq x c hadmit hst hcount hcrc hzero hc hne => ?header, fun s rq x hadmit hver hst => ?verify, fun s hon hver hwarm => ?verified,
    fun s rq x hadmit => ?status, fun s rq x hadmit hst hkind hrec hrestart hstate => ?activate, fun s rq x hadmit hst => ?abort⟩
  case begin =>
    exact .rv rfl hadmit (uBegin_of_ready _ _ hmin hmax (by simpa using hst) (by simpa [(s.m.rvNoted_fields rq x).2.2.1] using hro) (by simpa using hver)) rfl
  case block =>
    exact .rv rfl hadmit (uBlock_of_later _ _ (by simpa using hst) (by rw [Mod.rvNoted_inactive]; exact hcount) hcrc hne (by simpa using hheader)) rfl
  case header =>
    have hop := uBlock_of_header_refused { s := x.s, op := 0x0011, rq := rvHost rq } (s.m.rvNoted rq x) c (by simpa using hst)
      (by rw [Mod.rvNoted_inactive]; exact hcount) hcrc hzero (by rw [Mod.rvNoted_headerRefusal, Mod.rvNoted_inactive]; exact hc) hne
    have hslots := (s.m.rvNoted rq x).onInactive_slots fun y => { y with st := .empty, header := none, blockCount := 0, blocks := [], crcs := [] }
    obtain ⟨hinactive, hother, -, -, hposted⟩ := Mod.updRefused_effect ((s.m.rvNoted rq x).onInactive fun y =>
      { y with st := .empty, header := none, blockCount := 0, blocks := [], crcs := [] }) c hne
    refine .rv rfl hadmit hop ⟨?_, ?_, ?_, ?_, (hadmit.within hop).only⟩
    · exact hinactive.trans (by rw [hslots.1, Mod.rvNoted_inactive])
    · exact (hposted.of_store (s.m.rvNoted_fields rq x).2.2.1).to_store rfl
    · rw [hslots.2.2, hslots.2.1, Mod.rvNoted_runB, Mod.rvNoted_fwSlot] at hother
      exact hother
    · obtain ⟨r, g, hsent, hstatus⟩ := Mod.rvReplied_sent _ 0x0011 rq x 0x8005 _
      refine ⟨r, g, hsent.trans ?_, hstatus⟩
      rw [(Mod.updRefused_within _ c).sentEq (by decide), (Mod.onInactive_others _ _).2.2.2, (s.m.rvNoted_fields rq x).2.2.2.2.2.2]
  case verify =>
    exact .rv rfl hadmit (uVerify_of_receiving { s := x.s, op := 0x0012, rq := rvHost rq } _ (by simpa using hver) (by simpa using hst)) rfl
  case verified =>
    refine .on rfl rfl hon ?_
    have honly := (updVerifyComplete_within s.m).only
    rw [updVerifyComplete_of_verifying _ hver hwarm] at honly ⊢
    by_cases hok : s.m.inactive.verify = 0
    · rw [if_pos hok] at honly ⊢
      have hslots := (s.m.onUpd fun u => { u with verifying := false }).onInactive_slots fun y => { y with st := .verified, refusal := 0 }
      have hupd := (Mod.post_within ((s.m.onUpd fun u => { u with verifying := false }).onInactive fun y => { y with st := .verified, refusal := 0 })
        0x0002 0xFF bSup (leN 2 s.m.inactive.hdr.svn)).updEq (by decide)
      refine ⟨by rw [hupd, Mod.onInactive_verifying]; rfl, (Mod.fwSlot_congr hupd _).trans hslots.2.1, fun _ => ⟨?_, ?_⟩, absurd hok, honly⟩
      · exact (Mod.inactive_congr hupd).trans hslots.1
      · exact (Mod.post_recorded ..).of_store rfl
    · rw [if_neg hok] at honly ⊢
      have hslots := (s.m.onUpd fun u => { u with verifying := false }).onInactive_slots fun y => { y with st := .invalid }
      obtain ⟨hinactive, hother, hrun, hver, hposted⟩ := Mod.updRefused_effect ((s.m.onUpd fun u => { u with verifying := false }).onInactive fun y =>
        { y with st := .invalid }) s.m.inactive.verify hok
      refine ⟨by rw [hver, Mod.onInactive_verifying]; rfl, ?_, fun h => absurd h hok, fun _ => ⟨?_, hposted.of_store rfl⟩, honly⟩
      · rw [hslots.2.2] at hother
        exact hother.trans hslots.2.1
      · exact hinactive.trans (by rw [hslots.1, Mod.inactive_onUpd_verifying])
  case status =>
    refine .rv rfl hadmit rfl ?_
    simp only [Mod.rvNoted_inactive]
    rfl
  case activate =>
    have hop := uActivate_of_supervisor { s := x.s, op := 0x0014, rq := rvHost rq } (s.m.rvNoted rq x) (by simpa using hst) (by simpa using hkind)
      (by simpa using hrec)
    obtain ⟨hplan, -, -, hpower, -⟩ := s.m.rvNoted_fields rq x
    have hwarm : s.m.plan.warm = false := by
      have hserved := hadmit.2.1
      simp [Mod.rvServed] at hserved
      exact hserved.2
    have hwithin := hadmit.within hop
    refine .rv rfl hadmit hop ?_
    generalize hm : Mod.rvAfter _ _ = m' at hwithin ⊢
    obtain ⟨hinactive, hrun, hp, hnone⟩ := (s.m.rvNoted rq x).activated_effect rq x (hpower ▸ hrestart) (hpower ▸ hstate) (hplan ▸ hwarm) rfl hm.symm
    rw [hplan] at hp
    rw [Mod.rvNoted_inactive, Mod.rvNoted_runB, Mod.rvNoted_fwSlot] at hinactive
    rw [Mod.rvNoted_runB] at hrun
    dsimp only
    rw [hinactive, hp]
    exact ⟨rfl, rfl, rfl, rfl, rfl, rfl, rfl, hrun, hnone, hwithin.only⟩
  case abort =>
    exact .rv rfl hadmit (uAbort_of_untried { s := x.s, op := 0x0017, rq := rvHost rq } _ (by simpa using hst)) rfl

end Sys2Proof.Machine
end

section
/-! PROOF. A host request that is carried out, as a completion; and the check, the activation and the loading of plans (R64-R75). -/

namespace Sys2Proof.Machine

/-- A host request that is admitted and answered at once completes with what its operation does, its reply, and what follows it. -/
theorem Completes.host {i : Instr} {s : State} {op : Nat} {rq : HostReq} {e : Session} {C : State → Prop} {m' : Mod} {a : Ans}
    (hexec : exec i s = s.on true (hostRow op rq s.dir)) (hadmit : s.m.Admits op rq e)
    (hop : hostOp { s := e, op := op, rq := rq, dir := s.dir } (s.m.noted rq e) = (m', a)) (hheld : a.held = false)
    (h : C { s with m := (m'.replied op rq e a.status a.tlvs a.grain).afterReply rq.session a.after }) : Completes i s C := by
  refine .on hexec rfl hadmit.1 ?_
  rw [hostRow_admitted _ hadmit]
  dsimp only
  rw [hop, if_neg (by simp [hheld])]
  exact h

/-- Noting a request changes its session alone. -/
theorem Mod.noted_fields (m : Mod) (rq : HostReq) (e : Session) :
    (m.noted rq e).plan = m.plan ∧ (m.noted rq e).store = m.store ∧ (m.noted rq e).power = m.power ∧ (m.noted rq e).pair = m.pair ∧
    (m.noted rq e).host.xa = m.host.xa ∧ (m.noted rq e).sent = m.sent := by
  unfold Mod.noted
  split <;> exact ⟨rfl, rfl, rfl, rfl, rfl, rfl⟩

@[simp] theorem Mod.noted_pairOp (m : Mod) (rq : HostReq) (e : Session) : (m.noted rq e).pairOp = m.pairOp := by
  obtain ⟨-, -, hpower, hpair, -, -⟩ := m.noted_fields rq e
  simp only [Mod.pairOp, Mod.paired, hpower, hpair]

/-- PLAN_LOAD of an image that lies clean in the exchange area. -/
theorem hPlanLoad_of_clean (r : Req) (m : Mod) (hlen : 1 ≤ r.num 0x0030 4 4) (htop : r.num 0x0030 4 4 ≤ 12582912)
    (hend : r.num 0x0030 0 4 + r.num 0x0030 4 4 ≤ 0x1000000) (hpoison : m.xaPoisoned (r.num 0x0030 0 4) (r.num 0x0030 4 4) = false)
    (hcheck : m.plan.check = none) (hsched : m.plan.scheduled = none) :
    hPlanLoad r m = ((m.onPlan fun p => { p with
      check := some { image := tgets m.host.xa (r.num 0x0030 0 4) (r.num 0x0030 4 4), loadedLen := r.num 0x0030 4 4, origin := some r.origin }
      staged := none }), { status := 1, grain := m.effGrain }) := by
  have himage : xaImage r m 12582912 = .ok (tgets m.host.xa (r.num 0x0030 0 4) (r.num 0x0030 4 4)) := by
    have hsome : ¬ r.num 0x0030 4 4 = 0 := by omega
    have hroom : ¬ 12582912 < r.num 0x0030 4 4 := by omega
    simp [xaImage, xaBound, hsome, hroom, hend, hpoison]
  have hlength : (tgets m.host.xa (r.num 0x0030 0 4) (r.num 0x0030 4 4)).length = r.num 0x0030 4 4 := by simp [tgets]
  unfold hPlanLoad
  rw [himage]
  simp [planLoad, hcheck, hsched, actSt, Mod.acted, hlength]
  rfl

/-- A candidate whose origin is renewed is scheduled with its tables prepared. -/
theorem Mod.schedule_staged (m : Mod) (c : Candidate) (o : Origin) (g : W32) :
    ((m.onPlan fun p => { p with staged := some { c with origin := some o } }).schedule g) =
      m.onPlan fun p => { p.prepare c with scheduled := some g, staged := some { c with origin := some o } } := by
  simp only [Mod.schedule, Mod.onPlan, PlanSt.prepare]
  split <;> rfl

/-- PLAN_ACTIVATE at a grain far enough ahead, of a staged candidate that nothing bars. -/
theorem hPlanActivate_of_staged (r : Req) (m : Mod) (c : Candidate) (least : Nat) (hleast : least = if m.pairOp then 20 else 10)
    (hne : r.num 0x0060 0 4 ≠ 0) (hlt : r.num 0x0060 0 4 < 2 ^ 32)
    (hmin : least ≤ (BitVec.ofNat 32 (r.num 0x0060 0 4) - m.plan.grainCnt).toNat)
    (hmax : (BitVec.ofNat 32 (r.num 0x0060 0 4) - m.plan.grainCnt).toNat ≤ 60000) (hstaged : m.plan.staged = some c)
    (hbars : m.activationBars c = false) {m' : Mod}
    (hm' : m' = (m.onPlan fun p => { p.prepare c with
      scheduled := some (BitVec.ofNat 32 (r.num 0x0060 0 4)), staged := some { c with origin := some r.origin } }).capture fun x =>
        { x with activate := some (BitVec.ofNat 32 (r.num 0x0060 0 4)) }) :
    hPlanActivate r m = (if m.pairOp && m.pair.role then m'.out (.graft 21 (BitVec.ofNat 32 (r.num 0x0060 0 4)) []) else m',
      { status := 1, grain := (BitVec.ofNat 32 (r.num 0x0060 0 4)).toNat }) := by
  have hzero : ¬ BitVec.ofNat 32 (r.num 0x0060 0 4) = 0 := by
    intro h
    have := congrArg BitVec.toNat h
    rw [BitVec.toNat_ofNat, Nat.mod_eq_of_lt hlt] at this
    exact hne this
  have hplan : m'.plan.scheduled = some (BitVec.ofNat 32 (r.num 0x0060 0 4)) := by
    rw [hm', (Mod.capture_within ..).planEq (by decide)]
    rfl
  have hrole : m'.pairOp = m.pairOp ∧ m'.pair.role = m.pair.role := by
    subst hm'
    unfold Mod.capture
    split <;> exact ⟨rfl, rfl⟩
  have hop : planActivate r.origin (BitVec.ofNat 32 (r.num 0x0060 0 4)) m =
      (if m.pairOp && m.pair.role then m'.out (.graft 21 (BitVec.ofNat 32 (r.num 0x0060 0 4)) []) else m', 1) := by
    rw [← hrole.1, ← hrole.2]
    subst hm' hleast
    simp only [planActivate, if_neg hzero, hstaged, Mod.schedule_staged]
    rw [if_neg (by simp only [Bool.or_eq_true, decide_eq_true_eq]; exact not_or.mpr ⟨Nat.not_lt.mpr hmin, Nat.not_lt.mpr hmax⟩),
      if_neg (by simp [hbars])]
  have hgrain : ((if m.pairOp && m.pair.role then m'.out (.graft 21 (BitVec.ofNat 32 (r.num 0x0060 0 4)) []) else m').plan.scheduled.getD 0) =
      BitVec.ofNat 32 (r.num 0x0060 0 4) := by
    split <;> exact congrArg (fun o : Option W32 => o.getD 0) hplan
  unfold hPlanActivate
  simp only [hop, hgrain]
  rfl

/-- PLAN_DISCARD of a candidate that waits for no grain. -/
theorem hPlanDiscard_of_unscheduled (r : Req) (m : Mod) (hstaged : m.plan.staged.isSome = true) (hsched : m.plan.scheduled = none) :
    hPlanDiscard r m = ((m.tellCancel 0).onPlan fun p => { p.abandon with staged := none, scheduled := none },
      { status := 0, grain := m.effGrain }) := by
  have hplan : (m.tellCancel 0).plan = m.plan := (m.tellCancel_within 0).planEq (by decide)
  have hkept : (m.tellCancel 0).cancelActivation 0 = m.tellCancel 0 := by
    unfold Mod.cancelActivation
    rw [hplan, hsched]
  have hgrain : ((m.tellCancel 0).onPlan fun p => { p.abandon with staged := none, scheduled := none }).effGrain = m.effGrain := by
    simp only [Mod.effGrain, Mod.onPlan_fields, hplan, PlanSt.abandon]
  simp [hPlanDiscard, planDiscard, hsched, Option.isSome_iff_ne_none.mp hstaged, hkept, actSt, Mod.acted, hgrain]

/-- New generations of beds change the account of the beds alone. -/
theorem Mod.newGeneration_plan (m : Mod) (b : Nat) (replant : Bool) : ∃ acct, (m.newGeneration b replant).plan = { m.plan with acct := acct } :=
  ⟨_, rfl⟩

/-- What a restart writes into the plan, but for the account of the beds. -/
def PlanSt.restarted (p : PlanSt) (c : Candidate) : PlanSt :=
  ({ p with
    previous := some p.running, running := c.plan, mode := .restarting, staged := none, scheduled := none
    fallback := p.stored, fallbackImage := p.storedImages.headD [], stored := some c.plan, storedImages := [c.image] } : PlanSt).loadTables

/-- What a replant writes into the plan, but for the account of the beds. -/
def PlanSt.replanted (p : PlanSt) (c : Candidate) : PlanSt :=
  { p.switchBanks c with
    running := planOf p.running c.image, staged := none, scheduled := none, stored := some (planOf p.running c.image)
    storedImages := p.storedImages ++ [c.image] }

/-- A generation more for each of some beds changes the account of the beds alone. -/
theorem Mod.each_newGeneration_plan (m : Mod) (l : List Nat) :
    ∃ acct, (m.each l fun m b => if (m.bed? b).isSome then m.newGeneration b false else m).plan = { m.plan with acct := acct } := by
  refine Mod.each_rel (R := fun a b => ∃ acct, b.plan = { a.plan with acct := acct }) (fun a => ⟨a.plan.acct, rfl⟩) ?_ m l fun m b => ?_
  · rintro a b c ⟨x, hx⟩ ⟨y, hy⟩
    exact ⟨y, by rw [hy, hx]⟩
  · dsimp only
    split
    · exact m.newGeneration_plan b false
    · exact ⟨m.plan.acct, rfl⟩

theorem Mod.ite_clearCommon_plan (m : Mod) (q : Prop) [Decidable q] : (if q then m else m.clearCommon).plan = m.plan := by
  split
  · rfl
  · exact m.clearCommon_within.planEq (by decide)

theorem planRestart_plan (m : Mod) (c : Candidate) (g : W32) (hdue : m.activates 0 = some (c, g)) (hbars : m.activationBars c = false) :
    ∃ acct, (planRestart m).plan = { m.plan.restarted c with acct := acct } := by
  unfold planRestart
  rw [hdue]
  dsimp only
  rw [if_neg (by simp [hbars]), (Mod.activated_within ..).planEq (by decide)]
  rw [Mod.each_keeps Mod.plan]
  · rw [Mod.ite_clearCommon_plan]
    generalize hm' : Mod.onPlan (m.judgeOld c.plan) _ = m'
    have hplan : m'.plan = m.plan.restarted c := by
      rw [← hm', (Mod.onPlan_fields _ _).1, (Mod.judgeOld_within ..).planEq (by decide)]
      rfl
    obtain ⟨acct, hacct⟩ := m'.each_newGeneration_plan (List.range 33)
    exact ⟨acct, by rw [hacct, hplan]⟩
  · intro a n
    split
    · exact (Mod.bedStarts_within ..).planEq (by decide)
    · split
      · exact (Mod.unconfigure_within ..).planEq (by decide)
      · rfl

theorem bedReplant_plan (m : Mod) (c : Candidate) (g : W32) (hdue : m.activates 1 = some (c, g)) (hbars : m.activationBars c = false) :
    ∃ acct, (bedReplant m).plan = { m.plan.replanted c with acct := acct } := by
  unfold bedReplant
  rw [hdue]
  dsimp only
  rw [if_neg (by simp [hbars]), (Mod.activated_within ..).planEq (by decide), (Mod.bedStarts_within ..).planEq (by decide)]
  exact ⟨_, rfl⟩

section
variable {m : Mod} {c : Check} (hno : m.pair.pairCheck = false) (hcheck : m.plan.check = some c)
include hno hcheck

/-- A check that ends with a finding. -/
theorem planCheckComplete_of_found {x : Nat × Nat}
    (hfound : m.checkImage (if m.plan.mode = .admitted then some m.plan.running else none) c.image c.loadedLen = some x) :
    planCheckComplete m = (m.planRefused (imgKind c.image) (imgPlanId c.image) x.1 x.2 0).checkNotice c.origin (imgPlanId c.image) x.1 x.2 := by
  simp only [planCheckComplete, hcheck, hno, hfound, Bool.false_eq_true, if_false]

/-- A check without a finding, in a module that is not paired. -/
theorem planCheckComplete_of_clean (hpair : m.paired = false)
    (hclean : m.checkImage (if m.plan.mode = .admitted then some m.plan.running else none) c.image c.loadedLen = none) :
    planCheckComplete m = m.planStaged c := by
  simp [planCheckComplete, hcheck, hno, hclean, Mod.pairOp, hpair]

end

/-- A refused image is recorded for its bed. -/
theorem Mod.planRefused_recorded (m : Mod) (kind id code bed src : Nat) :
    Recorded 0x1005 (if bed = 0x3F then 0xFF else bed) bFabric m (m.planRefused kind id code bed src) :=
  (Mod.post_recorded ..).of_store rfl

theorem Mod.planRefused_plan (m : Mod) (kind id code bed src : Nat) :
    (m.planRefused kind id code bed src).plan = { m.plan with check := none, refusal := code, refusalBed := bed } := by
  simp [Mod.planRefused]

theorem Mod.planStaged_plan (m : Mod) (c : Check) :
    (m.planStaged c).plan = { m.plan with
      check := none
      staged := some {
        kind := imgKind c.image, bed := if imgKind c.image = 0 then 0xFF else imgBed c.image, plan := planOf m.plan.running c.image
        image := c.image, origin := c.origin } } := by
  unfold Mod.planStaged
  rw [(Mod.checkNotice_within ..).planEq (by decide)]
  rfl

/-- Settles O12: a check by its finding, each switch of plans by what it writes, each command by its operation. -/
theorem planActivation : Obligations.PlanActivation := by
  refine ⟨fun s c hsup hpair hno hcheck => ?check, fun s c g hacts hdue hbars => ?restart, fun s c g hacts hdue hbars => ?replant,
    fun s rq e hadmit hlen htop hend hpoison hcheck hsched => ?load,
    fun s rq e c hadmit hne hlt hpair hmin hmax hstaged hbars => ?activate,
    fun s rq e c hadmit hne hlt hpair hrole hmin hmax hstaged hbars => ?activatePair, fun s rq e hadmit hstaged hsched => ?discard⟩
  case load =>
    obtain ⟨hplan, hstore, -, -, hxa, -⟩ := s.m.noted_fields rq e
    refine .host rfl hadmit (hPlanLoad_of_clean { s := e, op := 0x0301, rq := rq, dir := s.dir } _ hlen htop hend ?_ (hplan ▸ hcheck) (hplan ▸ hsched)) rfl ?_
    · unfold Mod.xaPoisoned
      rw [hstore]
      exact hpoison
    · rw [hxa]
      simp only [Mod.effGrain, hplan]
      rfl
  case activate =>
    obtain ⟨hplan, -, -, -, -, -⟩ := s.m.noted_fields rq e
    refine .host rfl hadmit (hPlanActivate_of_staged { s := e, op := 0x0302, rq := rq, dir := s.dir } _ c 10 (by simp [hpair]) hne hlt (hplan ▸ hmin)
      (hplan ▸ hmax) (hplan ▸ hstaged) hbars rfl) rfl ?_
    simp only [Mod.noted_pairOp, hpair]
    rfl
  case activatePair =>
    obtain ⟨hplan, -, -, hp, -, -⟩ := s.m.noted_fields rq e
    refine .host rfl hadmit (hPlanActivate_of_staged { s := e, op := 0x0302, rq := rq, dir := s.dir } _ c 20 (by simp [hpair]) hne hlt (hplan ▸ hmin)
      (hplan ▸ hmax) (hplan ▸ hstaged) hbars rfl) rfl ?_
    simp only [Mod.noted_pairOp, hp, hpair, hrole]
    rfl
  case discard =>
    obtain ⟨hplan, -, -, -, -, -⟩ := s.m.noted_fields rq e
    refine .host rfl hadmit (hPlanDiscard_of_unscheduled { s := e, op := 0x0303, rq := rq, dir := s.dir } _ (hplan ▸ hstaged) (hplan ▸ hsched)) rfl ?_
    simp only [Mod.effGrain, hplan]
    rfl
  case restart =>
    obtain ⟨acct, hplan⟩ := planRestart_plan s.m c g hdue hbars
    refine .lgc rfl rfl hacts ?_
    dsimp only
    rw [hplan]
    exact ⟨rfl, rfl, rfl, rfl, rfl, rfl, rfl, rfl, rfl, rfl⟩
  case replant =>
    obtain ⟨acct, hplan⟩ := bedReplant_plan s.m c g hdue hbars
    refine .lgc rfl rfl hacts ?_
    dsimp only
    rw [hplan]
    exact ⟨rfl, rfl, rfl, rfl, rfl, rfl, rfl, rfl⟩
  case check =>
    refine .sup rfl rfl hsup ?_
    have honly := (planCheckComplete_within s.m).only
    cases hfound : s.m.checkImage (if s.m.plan.mode = .admitted then some s.m.plan.running else none) c.image c.loadedLen with
    | some x =>
      rw [planCheckComplete_of_found hno hcheck hfound] at honly ⊢
      have hkept := Mod.checkNotice_within (s.m.planRefused (imgKind c.image) (imgPlanId c.image) x.1 x.2 0) c.origin (imgPlanId c.image) x.1 x.2
      dsimp only
      rw [hkept.planEq (by decide), s.m.planRefused_plan]
      exact ⟨rfl, rfl, rfl, ⟨rfl, rfl, rfl, (s.m.planRefused_recorded ..).to_store (hkept.storeEq (by decide))⟩, honly⟩
    | none =>
      rw [planCheckComplete_of_clean hno hcheck hpair hfound] at honly ⊢
      dsimp only
      rw [(Mod.planStaged_within s.m c).storeEq (by decide), s.m.planStaged_plan]
      exact ⟨rfl, rfl, rfl, ⟨rfl, rfl⟩, honly⟩

end Sys2Proof.Machine
end

section
/-! PROOF. The timers of a cell chain: the ring is enumerated (R93, R117-R126). -/

namespace Sys2Proof.Machine

/-- What begins an enumeration of a ring from some ends. -/
def Ring.enumerating (r : Ring) (ends : List RingEnd) : Ring := { r with enum := .inProgress, enumTodo := ends, enumGot := [] }

theorem Mod.ringEnds_congr {m m' : Mod} (hpower : m'.power.straps = m.power.straps) (hpair : m'.pair = m.pair) : m'.ringEnds = m.ringEnds := by
  unfold Mod.ringEnds Mod.fwdEnd Mod.paired Mod.oddSlot
  rw [hpower, hpair]

theorem Mod.monsOf_congr {m m' : Mod} (hplan : m'.plan = m.plan) (n : Nat) : m'.monsOf n = m.monsOf n := by
  unfold Mod.monsOf Mod.layout Mod.bed?
  rw [hplan]

/-- A ring with monitors that does not wake is enumerated from each of the module's ends. -/
theorem Mod.startEnum_of_awake (m : Mod) (n : Nat) (hmons : m.monsOf n ≠ []) (hwake : (m.ring n).wakeSince = none) :
    m.startEnum n false = m.onRing n fun r => r.enumerating m.ringEnds := by
  simp [Mod.startEnum, hmons, hwake]
  rfl

/-- After a wake the monitors hold no result, and the enumeration begins. -/
theorem Mod.wokenEnum_of_monitors (m : Mod) (n : Nat) (hmons : m.monsOf n ≠ []) :
    m.wokenEnum n = ((m.each (m.monAddrs n) fun m a => m.onMon n a fun x => { x with enumPassed := false, sequence := none }).onRing n fun r =>
      { r with wakeFirst := true, wakeSince := none }).onRing n fun r => r.enumerating m.ringEnds := by
  unfold Mod.wokenEnum
  dsimp only
  generalize hm : Mod.onRing (m.each (m.monAddrs n) _) n _ = m'
  have hkept : m'.plan = m.plan ∧ m'.power = m.power ∧ m'.pair = m.pair ∧ (m'.ring n).wakeSince = none := by
    subst hm
    exact ⟨Mod.each_keeps Mod.plan _ _ _ fun m a => by rfl, Mod.each_keeps Mod.power _ _ _ fun m a => by rfl,
      Mod.each_keeps Mod.pair _ _ _ fun m a => by rfl, by simp⟩
  obtain ⟨hplan, hpower, hpair, hwake⟩ := hkept
  rw [Mod.startEnum_of_awake _ _ (Mod.monsOf_congr hplan n ▸ hmons) hwake, Mod.ringEnds_congr (m := m) (congrArg PowerSt.straps hpower) hpair]

/-- A wake tone at an end that carries a signal sets the end's bit and its time. -/
def Ring.toned (r : Ring) (e : RingEnd) (ms : Nat) : Ring :=
  match e with
  | .A => { r with wake := r.wake ||| 1, wakeMsA := ms }
  | .B => { r with wake := r.wake ||| 2, wakeMsB := ms }

@[simp] theorem Ring.toned_wokeMs (r : Ring) (e : RingEnd) (ms : Nat) : (r.toned e ms).wokeMs = r.wokeMs := by cases e <;> rfl

theorem monitorWakeTone_of_monitor (n : Nat) (e : RingEnd) (m : Mod) (hinv : (m.ring n).inverted e = false)
    (hown : ∀ u ∈ (m.ring n).wokeMs, 14 < m.host.ms - u) :
    monitorWakeTone n e m = ((m.onRing n fun r => r.toned e m.host.ms).post 0x2007 n bChain (u8 e.ctorIdx)).wokenEnum n := by
  cases hwoke : (m.ring n).wokeMs with
  | none => cases e <;> simp [monitorWakeTone, hinv, hwoke] <;> rfl
  | some u =>
    have hlate : ¬ m.host.ms - u ≤ 14 := Nat.not_le.mpr (hown u hwoke)
    cases e <;> simp only [monitorWakeTone, hinv, hwoke, Mod.onRing_fields, hlate, decide_false, Bool.false_eq_true, if_false] <;> rfl

theorem monitorWakeTone_of_own (n u : Nat) (e : RingEnd) (m : Mod) (hinv : (m.ring n).inverted e = false)
    (hwoke : (m.ring n).wokeMs = some u) (hu : m.host.ms - u ≤ 14) :
    monitorWakeTone n e m = m.onRing n fun r => r.toned e m.host.ms := by
  cases e <;> simp only [monitorWakeTone, hinv, hwoke, Mod.onRing_fields, hu, decide_true, Bool.false_eq_true, if_false, if_true] <;> rfl

/-- Settles O1: each timer comes down to the enumeration it starts. -/
theorem chainRingTimers : Obligations.ChainRingTimers := by
  refine ⟨fun s n hacts hn hmons hwake hfault hms => ?retry, fun s n w hacts hn hwake => ?waking, fun s n w hacts hn hmons hwake hms => ?woken,
    fun s n e hacts hn hmons hinv hown => ?monitor, fun s n u e hacts hn hinv hwoke hu => ?own, fun s n e hacts hn hinv => ?inverted⟩
  case retry =>
    refine .lgc rfl (okString_of_lt hn) hacts ?_
    unfold enumRetry
    rw [if_pos ⟨hfault, hms⟩, Mod.startEnum_of_awake _ _ hmons hwake]
    rfl
  case waking =>
    refine .lgc rfl (okString_of_lt hn) hacts ?_
    unfold enumRetry
    simp [Mod.startEnum, hwake]
  case woken =>
    refine .lgc rfl (okString_of_lt hn) hacts ?_
    unfold ringWakeDone
    rw [hwake]
    dsimp only
    rw [if_pos hms, Mod.wokenEnum_of_monitors _ _ hmons]
    rfl
  case monitor =>
    refine .lgc rfl (okString_of_lt hn) hacts ?_
    have hkept := Mod.post_within (s.m.onRing n fun r => r.toned e s.m.host.ms) 0x2007 n bChain (u8 e.ctorIdx)
    have hpair := hkept.pairEq (by decide)
    have hplan := hkept.planEq (by decide)
    have hstraps : ((s.m.onRing n fun r => r.toned e s.m.host.ms).post 0x2007 n bChain (u8 e.ctorIdx)).power.straps = s.m.power.straps := by simp
    rw [monitorWakeTone_of_monitor n e s.m hinv hown, Mod.wokenEnum_of_monitors _ _ (Mod.monsOf_congr (m := s.m) hplan n ▸ hmons),
      Mod.ringEnds_congr (m := s.m) hstraps hpair, Mod.monAddrs, Mod.monsOf_congr (m := s.m) hplan]
    cases e <;> rfl
  case own =>
    refine .lgc rfl (okString_of_lt hn) hacts ?_
    rw [monitorWakeTone_of_own n u e s.m hinv hwoke hu]
    cases e <;> rfl
  case inverted =>
    refine .lgc rfl (okString_of_lt hn) hacts ?_
    simp [monitorWakeTone, hinv]

end Sys2Proof.Machine
end

section
/-! PROOF. The authentication of a monitor (R122), and the tones and sense wires of a chain (R144-R159). -/

namespace Sys2Proof.Machine

theorem Mod.mon_congr {m m' : Mod} (h : m'.chain = m.chain) (n a : Nat) : m'.mon n a = m.mon n a := by
  unfold Mod.mon
  rw [h]

theorem Mod.standby_congr {m m' : Mod} (hstraps : m'.power.straps = m.power.straps) (hpair : m'.pair = m.pair) : m'.standby = m.standby := by
  unfold Mod.standby Mod.paired
  rw [hstraps, hpair]

theorem okMon_of_lt {n a : Nat} (hn : n < 32) (ha : a < 40) : okMon n a = true := by
  simp [okMon, okString_of_lt hn, ha]

/-- A chain command that waits and names the monitor under the opcode. -/
theorem not_any_waits {q : List ChainWait} {a op : Nat} (h : ∀ w ∈ q, w.addr = a → w.cmd.opcode ≠ op) :
    (q.any fun w => w.addr == a && w.cmd.opcode == op) = false := by
  simpa using h

theorem authReadDue_of_answered (n a : Nat) (g : W32) (m : Mod) (hsent : (m.mon n a).challengeAt = some g) (hin : (m.mon n a).nMon ≠ [])
    (hdue : 2 ≤ (m.plan.grainCnt - g).toNat) (hnone : ∀ w ∈ (m.ring n).queue, w.addr = a → w.cmd.opcode ≠ 10) :
    authReadDue n a m = m.enqueue n { addr := a, cmd := .authRead, prio := .sequence, origin := m.fwdEnd } := by
  unfold authReadDue
  rw [hsent]
  dsimp only
  rw [not_any_waits hnone, if_pos]
  rw [Bool.not_false, Bool.and_true, Bool.and_eq_true]
  exact ⟨decide_eq_true hdue, by simpa using hin⟩

theorem Mod.afterAuth_of_no_sequence (m : Mod) (n a : Nat) (h : (m.mon n a).sequence = none) : m.afterAuth n a = m := by
  unfold Mod.afterAuth
  rw [h]

theorem authTimeout_of_late (n a : Nat) (g : W32) (m : Mod) (hsent : (m.mon n a).challengeAt = some g) (hlate : 10 ≤ (m.plan.grainCnt - g).toNat)
    (hseq : (m.mon n a).sequence = none) :
    authTimeout n a m = (m.onRing n fun r => { r with queue := r.queue.filter fun w => !(w.addr == a && (w.cmd.opcode == 9 || w.cmd.opcode == 10)) }).authFails
      n a (if m.power.chainRoot.key = [] ∧ m.power.priorRoots = [] then 2 else 1) := by
  unfold authTimeout
  rw [hsent]
  dsimp only
  rw [if_pos hlate, Mod.afterAuth_of_no_sequence]
  · simp
  · rw [Mod.authFails, Mod.mon_congr (Mod.post_fields ..).2.2.1, (Mod.onMon_fields ..).1]
    exact hseq

/-- Settles O2: each row's guard holds, and its one change is the stated one. -/
theorem chainAuthentication : Obligations.ChainAuthentication := by
  refine ⟨fun s n a g hacts hn ha hsent hin hdue hnone => ?read, fun s n a g hacts hn ha hsent hlate hseq => ?timeout,
    fun s n a nonce hacts hn ha hnone hcompat hdue => ?renew⟩
  case read =>
    refine .lgc rfl (okMon_of_lt hn ha) hacts ?_
    rw [authReadDue_of_answered n a g s.m hsent hin hdue hnone]
    rfl
  case timeout =>
    refine .lgc rfl (okMon_of_lt hn ha) hacts ?_
    rw [authTimeout_of_late n a g s.m hsent hlate hseq]
    rfl
  case renew =>
    refine .lgc rfl (okMon_of_lt hn ha) hacts ?_
    have hchallenge : reauthDue n a nonce s.m = s.m.challenge n a nonce := by
      rcases hdue with ⟨hauthed, hold⟩ | ⟨hauthed, hunauth, hold⟩
      · simp only [reauthDue, hauthed, hnone, hcompat, if_true, hold]
        rfl
      · simp only [reauthDue, hauthed, hunauth, hnone, hcompat, Bool.false_eq_true, if_false, hold]
        rfl
    rw [hchallenge]
    rfl

/-- The bit of an end in the tone bits of its ring. -/
def RingEnd.toneBit (e : RingEnd) : BitVec 2 :=
  match e with
  | .A => 1#2
  | .B => 2#2

/-- A ring with the tone bits found at an end. -/
def Mod.toneTold (m : Mod) (n : Nat) (e : RingEnd) : Mod :=
  m.onRing n fun r => { r with tone := (m.ring n).tone ||| e.toneBit, toneAbsent := if !m.standby && m.lockAt n e then 0 else r.toneAbsent }

/-- A ring whose tone trips it. -/
def Ring.toneTripped (r : Ring) (p : PlanSt) : Ring := { r with toneTrip := true, toneSeek := 2, toneGrain := p.grainCnt, toneTick := p.tick }

/-- A module that notes a tone that trips the ring, before its string is opened. -/
def Mod.toneNoted (m : Mod) (n : Nat) (e : RingEnd) : Mod :=
  ((if m.standby then (m.toneTold n e).forward [] [] [(n, (m.ring n).tone ||| e.toneBit)] else m.toneTold n e).onRing n fun r =>
    r.toneTripped m.plan).post 0x200B n bSafety (u8 e.ctorIdx)

theorem alarmToneDeclared_eq (n : Nat) (e : RingEnd) (m : Mod) (hinv : (m.ring n).inverted e = false) (hmons : m.monsOf n ≠ [])
    (htrip : (m.ring n).toneTrip = false) :
    alarmToneDeclared n e m = if m.standby then (m.toneNoted n e).standbySafe n else (m.toneNoted n e).openSeq n cTone noGidx 0 := by
  have hstandby : (m.toneTold n e).standby = m.standby := rfl
  have htone : ((m.toneTold n e).ring n).tone = (m.ring n).tone ||| e.toneBit := by simp [Mod.toneTold]
  generalize hm' : (if m.standby then (m.toneTold n e).forward [] [] [(n, (m.ring n).tone ||| e.toneBit)] else m.toneTold n e) = m'
  have hkept : m'.plan = m.plan ∧ m'.pair = m.pair ∧ m'.power = m.power := by
    subst hm'
    have hforward := Mod.forward_within (m.toneTold n e) [] [] [(n, (m.ring n).tone ||| e.toneBit)]
    split
    · exact ⟨hforward.planEq (by decide), hforward.pairEq (by decide), hforward.powerEq (by decide) (by decide)⟩
    · exact ⟨rfl, rfl, rfl⟩
  obtain ⟨hplan, hpair, hpower⟩ := hkept
  have hnoted : m.toneNoted n e = (m'.onRing n fun r => r.toneTripped m'.plan).post 0x200B n bSafety (u8 e.ctorIdx) := by
    rw [Mod.toneNoted, hm', hplan]
  have hstill : (m.toneNoted n e).standby = m.standby := by
    rw [hnoted]
    refine Mod.standby_congr ?_ ?_
    · simp [hpower]
    · simp [hpair]
  have hdefer : alarmToneDeclared n e m =
      (let a := if (m.toneTold n e).standby then (m.toneTold n e).forward [] [] [(n, ((m.toneTold n e).ring n).tone)] else m.toneTold n e
       if (a.monsOf n).isEmpty || (m.ring n).toneTrip then a else
        let b := (a.onRing n fun r => r.toneTripped a.plan).post 0x200B n bSafety (u8 e.ctorIdx)
        if b.standby then b.standbySafe n else b.openSeq n cTone noGidx 0) := by
    unfold alarmToneDeclared
    simp only [hinv, Bool.false_eq_true, if_false]
    cases e <;> rfl
  rw [hdefer, hstandby, htone, hm']
  dsimp only
  rw [← hnoted, hstill, Mod.monsOf_congr hplan, htrip, if_neg (by simpa using hmons)]

/-- The tone bits of a ring once the tone at an end is absent. -/
def Ring.toneGone (r : Ring) (e : RingEnd) : BitVec 2 := r.tone &&& (match e with | .A => 2#2 | .B => 1#2)

theorem alarmToneAbsent_eq (n : Nat) (e : RingEnd) (m : Mod) :
    alarmToneAbsent n e m = if m.standby then (m.onRing n fun r => { r with tone := (m.ring n).toneGone e }).forward [] [] [(n, (m.ring n).toneGone e)]
      else m.onRing n fun r => { r with tone := (m.ring n).toneGone e } := by
  have hring : m.onRing n (fun r => { r with tone := r.toneGone e }) = m.onRing n fun r => { r with tone := (m.ring n).toneGone e } :=
    congrArg (fun t => ({ m with chain := { m.chain with rings := t } } : Mod)) (tmod_congr rfl)
  have htone : ((m.onRing n fun r => { r with tone := (m.ring n).toneGone e }).ring n).tone = (m.ring n).toneGone e := by simp
  have hdefer : alarmToneAbsent n e m =
      (let a := m.onRing n fun r => { r with tone := r.toneGone e }
       if a.standby then a.forward [] [] [(n, (a.ring n).tone)] else a) := rfl
  rw [hdefer, hring]
  dsimp only
  rw [htone]
  rfl

theorem toneDetectorTest_of_due (n : Nat) (failed : BitVec 2) (m : Mod) (hmons : m.monsOf n ≠ []) (htick : 95 ≤ m.plan.tick)
    (hlast : ∀ u ∈ (m.ring n).toneTestMs, 10000 ≤ m.safety.ms - u) :
    toneDetectorTest n failed m = (((m.onRing n fun r => { r with tonePath := failed, toneTestMs := some m.safety.ms }).out (.toneTest n)).each
      (setBits 2 (failed &&& ~~~(m.ring n).tonePath).toNat) fun m e => m.post 0x200E n bSafety (u8 e)).evalCauses := by
  have hin : ¬ m.plan.tick < 95 := Nat.not_lt.mpr htick
  unfold toneDetectorTest
  cases hms : (m.ring n).toneTestMs with
  | none => simp [hmons, hin, hms]
  | some u =>
    have hold : 10000 ≤ m.safety.ms - u := hlast u hms
    simp only [hms, hold, hin, decide_true, decide_false, Bool.not_true, Bool.or_false]
    rw [if_neg (by simpa using hmons)]

/-- Settles O3: each row's guard holds; what begins with the opening sequence is named by it. -/
theorem chainTones : Obligations.ChainTones := by
  refine ⟨fun s n e hfab hn hmons htrip hinv => ?declared, fun s n e hfab hn hinv => ?inverted, fun s n e hfab hn => ?absent,
    fun s n failed hfab hn hmons htick hlast => ?test, fun s n a tap hacts hn ha hlo hhi hopen hservice hheld => ?sense⟩
  case declared =>
    refine .fab rfl (okString_of_lt hn) hfab ?_
    rw [alarmToneDeclared_eq n e s.m hinv hmons htrip]
    cases e <;> rfl
  case inverted =>
    refine .fab rfl (okString_of_lt hn) hfab ?_
    simp [alarmToneDeclared, hinv]
  case absent =>
    refine .fab rfl (okString_of_lt hn) hfab ?_
    rw [alarmToneAbsent_eq]
    cases e <;> rfl
  case test =>
    refine .fab rfl (okString_of_lt hn) hfab ?_
    rw [toneDetectorTest_of_due n failed s.m hmons htick hlast]
  case sense =>
    have htap : okTap n a tap = true := by simp [okTap, okMon_of_lt hn ha]; exact Nat.le_succ_of_le hhi
    refine .lgc rfl htap hacts ?_
    unfold senseOpenHoldExpiry
    simp only [hopen, hservice, hlo, hhi, hheld]
    rfl

end Sys2Proof.Machine
end

section
/-! PROOF. The tests of the sense wires, the balancing plan and the end of an anomaly (R162-R215). -/

namespace Sys2Proof.Machine

/-- The odd and the even taps together are every tap. -/
theorem odd_or_even_tap : ∀ k < 17, (0x0AAAA#17).getLsbD k = true ∨ (0x15555#17).getLsbD k = true := by decide

/-- Where both halves of the full test wait for a monitor, every tap shows as waiting. -/
theorem Mod.owPending_of_full_test (m : Mod) (n a k : Nat) (q : List ChainWait)
    (hq : (m.ring n).owQueue = q ++ [m.owTest a 0x0AAAA#17, m.owTest a 0x15555#17]) (hk : k < 17) : m.owPending n a k = true := by
  have hwaits : m.owWaits n a k = true := by
    unfold Mod.owWaits
    rw [hq, List.any_append]
    rcases odd_or_even_tap k hk with h | h <;> simp [Mod.owTest, h]
  rw [Mod.owPending, hwaits, Bool.true_or]

/-- The full test of a monitor with no test of the even taps waiting is ordered whole. -/
theorem Mod.orderFullTest_of_not_waiting (m : Mod) (n a : Nat) (hnew : m.owTest a 0x15555#17 ∉ (m.ring n).owQueue) :
    m.orderFullTest n a = (m.onMon n a fun x => { x with owDone := 0 }).onRing n fun r => { r with
      owQueue := (r.owQueue.filter fun w => !(w.addr == a && (w.cmd == .openWire 0x0AAAA#17 || w.cmd == .openWire 0x15555#17))) ++
        [m.owTest a 0x0AAAA#17, m.owTest a 0x15555#17] } := by
  unfold Mod.orderFullTest
  simp only [List.contains_eq_mem, hnew, decide_false, Bool.and_false, Bool.false_and, Bool.false_eq_true, if_false]
  rfl

theorem fullTestDue_of_turn (n a : Nat) (m : Mod) (hcompat : m.compat n = false)
    (hturn : (m.monAddrs n)[(m.ring n).owTurn % (m.monAddrs n).length]? = some a)
    (hdue : ∀ u ∈ (m.ring n).owMs, 1000 * m.parN 0x2145 / (m.monAddrs n).length ≤ m.host.ms - u) :
    fullTestDue n a m =
      (m.onRing n fun r => { r with owTurn := (r.owTurn + 1) % (m.monAddrs n).length, owMs := some m.host.ms }).orderFullTest n a := by
  unfold fullTestDue
  cases hms : (m.ring n).owMs with
  | none => simp [hcompat, hturn, hms]
  | some u =>
    have hpast := hdue u hms
    simp only [hms, hcompat, hturn, hpast, decide_true, ne_eq, not_true_eq_false, Bool.not_true, decide_false, Bool.or_false, Bool.false_eq_true, if_false]

/-- Settles O4: each row's guard holds; the full test leaves every tap of the monitor waiting. -/
theorem chainTestsAndAnomalies : Obligations.ChainTestsAndAnomalies := by
  refine ⟨fun s n a hacts hn ha hcompat hturn hdue hnew => ?full, fun s n hacts hn hconf hdue => ?balance, fun s g hacts hg hon hclean => ?anomaly⟩
  case full =>
    refine .lgc rfl (okMon_of_lt hn ha) hacts ?_
    dsimp only
    rw [fullTestDue_of_turn n a s.m hcompat hturn hdue, Mod.orderFullTest_of_not_waiting _ _ _ (by rw [(Mod.onRing_fields ..).1]; exact hnew)]
    exact ⟨rfl, fun k hk => Mod.owPending_of_full_test _ n a k _ (by rw [(Mod.onRing_fields ..).1]; rfl) hk⟩
  case balance =>
    refine .lgc rfl (okString_of_lt hn) hacts ?_
    unfold balancePlan
    rw [if_pos (by simp [hconf, hdue])]
    rfl
  case anomaly =>
    refine .lgc rfl (by simp [okCell, hg]) hacts ?_
    unfold anomalyClear
    dsimp only
    rw [if_pos (by simp [hon, hclean])]

end Sys2Proof.Machine
end

section
/-! PROOF. The anchors of a rest and the impedance intervals (R193, R202). -/

namespace Sys2Proof.Machine

/-- Two modules that agree in what an anchor of a cell is reckoned from. -/
structure SameInputs (a b : Mod) : Prop where
  plan : b.plan = a.plan
  host : b.host = a.host
  chain : b.chain = a.chain
  safety : b.safety = a.safety

theorem SameInputs.refl (a : Mod) : SameInputs a a := ⟨rfl, rfl, rfl, rfl⟩

theorem SameInputs.trans {a b c : Mod} (h : SameInputs a b) (k : SameInputs b c) : SameInputs a c :=
  ⟨k.plan.trans h.plan, k.host.trans h.host, k.chain.trans h.chain, k.safety.trans h.safety⟩

theorem SameInputs.par {a b : Mod} (h : SameInputs a b) (id : Nat) : b.par id = a.par id := by
  unfold Mod.par
  rw [h.safety, h.host]

theorem SameInputs.chemOf {a b : Mod} (h : SameInputs a b) (n : Nat) : b.chemOf n = a.chemOf n := by
  unfold Mod.chemOf Mod.bed?
  rw [h.plan]

theorem SameInputs.uncE {a b : Mod} (h : SameInputs a b) (e : CellEst) : b.uncE e = a.uncE e := by
  unfold Mod.uncE
  rw [h.par]

theorem SameInputs.anchorBarred {a b : Mod} (h : SameInputs a b) {g : Nat} (hcell : b.cellEst g = a.cellEst g) :
    b.anchorBarred g = a.anchorBarred g := by
  unfold Mod.anchorBarred Mod.cell
  rw [hcell, h.chain]

theorem SameInputs.anchorApplies {a b : Mod} (h : SameInputs a b) {g : Nat} (hcell : b.cellEst g = a.cellEst g) (n : Nat) (t ocv : Rat) :
    b.anchorApplies n g t ocv = a.anchorApplies n g t ocv := by
  unfold Mod.anchorApplies Mod.slopeMin
  rw [h.anchorBarred hcell, h.chemOf, h.par]

theorem Mod.ite_post_est (m : Mod) (q : Prop) [Decidable q] (code item block : Nat) (data : List Byte) :
    (if q then m.post code item block data else m).est = m.est := by
  split <;> simp

theorem Mod.ite_post_cellEst (m : Mod) (q : Prop) [Decidable q] (code item block : Nat) (data : List Byte) (g : Nat) :
    (if q then m.post code item block data else m).cellEst g = m.cellEst g := by
  unfold Mod.cellEst
  rw [Mod.ite_post_est]

/-- An anchor of a cell changes no other cell and no string. -/
theorem Mod.anchor_others (m : Mod) (n g : Nat) (t ocv sigma : Rat) :
    (m.anchor n g t ocv sigma).est.strs = m.est.strs ∧ ∀ k ≠ g, (m.anchor n g t ocv sigma).cellEst k = m.cellEst k := by
  unfold Mod.anchor
  dsimp only
  split
  · exact ⟨rfl, fun k _ => rfl⟩
  · split
    · exact ⟨rfl, fun k hk => by rw [Mod.cellEst_onCellEst, if_neg hk]⟩
    · refine ⟨by rw [Mod.ite_post_est]; rfl, fun k hk => ?_⟩
      rw [Mod.ite_post_cellEst, Mod.cellEst_onCellEst, if_neg hk]

/-- What an anchor makes of its cell is reckoned from the cell and from the inputs alone. -/
theorem SameInputs.anchor {a b : Mod} (h : SameInputs a b) {g : Nat} (hcell : b.cellEst g = a.cellEst g) (n : Nat) (t ocv sigma : Rat) :
    (b.anchor n g t ocv sigma).cellEst g = (a.anchor n g t ocv sigma).cellEst g := by
  unfold Mod.anchor
  simp only [h.anchorBarred hcell, h.anchorApplies hcell, h.chemOf, hcell, h.par, h.uncE, h.host]
  split
  · exact hcell
  · split
    · simp [hcell]
    · simp only [Mod.ite_post_cellEst, Mod.onCellEst_fields]

/-- The anchor of one cell at a rest: from its mean, where it has one. -/
def anchorStep (n grains : Nat) (sigma : Rat) (m : Mod) (x : StepIn) : Mod :=
  let e := m.cellEst x.g
  match e.restMean grains with
  | none => m
  | some v =>
    let ocv := v + e.vFast + e.vSlow - e.m * e.h
    let applied := m.anchorApplies n x.g x.t ocv
    let m := m.anchor n x.g x.t ocv sigma
    if applied then m.onStrEst n fun s => { s with anchorApplied := some m.plan.grainCnt } else m

/-- What a rest makes of one cell. -/
def Mod.restAnchored (m : Mod) (n grains : Nat) (sigma : Rat) (x : StepIn) : CellEst :=
  match (m.cellEst x.g).restMean grains with
  | none => m.cellEst x.g
  | some v => (m.anchor n x.g x.t (v + (m.cellEst x.g).vFast + (m.cellEst x.g).vSlow - (m.cellEst x.g).m * (m.cellEst x.g).h) sigma).cellEst x.g

/-- What an anchor of a cell of a string leaves alone: what anchors are reckoned from, every other cell, every other string, and what its
own string keeps of the rest. -/
structure RestKept (n : Nat) (p : Nat → Prop) (a b : Mod) : Prop where
  inputs : SameInputs a b
  cells : ∀ k, p k → b.cellEst k = a.cellEst k
  strs : ∀ k ≠ n, b.strEst k = a.strEst k
  grain : (b.strEst n).anchorGrain = (a.strEst n).anchorGrain
  anchors : (b.strEst n).restAnchors = (a.strEst n).restAnchors

theorem RestKept.refl (n : Nat) (p : Nat → Prop) (a : Mod) : RestKept n p a a := ⟨.refl a, fun _ _ => rfl, fun _ _ => rfl, rfl, rfl⟩

theorem RestKept.trans {n : Nat} {p : Nat → Prop} {a b c : Mod} (h : RestKept n p a b) (k : RestKept n p b c) : RestKept n p a c :=
  ⟨h.inputs.trans k.inputs, fun i hi => (k.cells i hi).trans (h.cells i hi), fun i hi => (k.strs i hi).trans (h.strs i hi),
    k.grain.trans h.grain, k.anchors.trans h.anchors⟩

theorem RestKept.mono {n : Nat} {p q : Nat → Prop} {a b : Mod} (h : RestKept n p a b) (hpq : ∀ k, q k → p k) : RestKept n q a b :=
  ⟨h.inputs, fun k hk => h.cells k (hpq k hk), h.strs, h.grain, h.anchors⟩

theorem Mod.anchor_kept (m : Mod) (n g : Nat) (t ocv sigma : Rat) : RestKept n (· ≠ g) m (m.anchor n g t ocv sigma) := by
  obtain ⟨hstrs, hcells⟩ := m.anchor_others n g t ocv sigma
  have hwithin := m.anchor_within n g t ocv sigma
  have hstr : ∀ k, (m.anchor n g t ocv sigma).strEst k = m.strEst k := fun k => congrArg (fun s : Tab StrEst => tget s k) hstrs
  exact ⟨⟨hwithin.planEq (by decide), hwithin.hostEq (by decide), hwithin.chainEq (by decide), hwithin.safetyEq (by decide)⟩, hcells,
    fun k _ => hstr k, by rw [hstr], by rw [hstr]⟩

theorem Mod.onStrEst_applied_kept (m : Mod) (n : Nat) (p : Nat → Prop) (g : Option W32) :
    RestKept n p m (m.onStrEst n fun s => { s with anchorApplied := g }) :=
  ⟨⟨rfl, rfl, rfl, rfl⟩, fun _ _ => rfl, fun k hk => by rw [Mod.strEst_onStrEst, if_neg hk], by simp, by simp⟩

section
variable (n grains : Nat) (sigma : Rat)

/-- The anchor of one cell changes that cell alone, into what the rest makes of it. -/
theorem anchorStep_effect (m : Mod) (x : StepIn) :
    RestKept n (· ≠ x.g) m (anchorStep n grains sigma m x) ∧ (anchorStep n grains sigma m x).cellEst x.g = m.restAnchored n grains sigma x := by
  unfold anchorStep Mod.restAnchored
  cases hmean : (m.cellEst x.g).restMean grains with
  | none =>
    dsimp only
    rw [hmean]
    exact ⟨.refl .., rfl⟩
  | some v =>
    dsimp only
    rw [hmean]
    dsimp only
    split
    · exact ⟨(m.anchor_kept ..).trans (Mod.onStrEst_applied_kept ..), rfl⟩
    · exact ⟨m.anchor_kept .., rfl⟩

theorem restAnchored_congr {a b : Mod} (h : SameInputs a b) {x : StepIn} (hcell : b.cellEst x.g = a.cellEst x.g) :
    b.restAnchored n grains sigma x = a.restAnchored n grains sigma x := by
  unfold Mod.restAnchored
  rw [hcell]
  cases (a.cellEst x.g).restMean grains with
  | none => rfl
  | some v => exact h.anchor hcell ..

/-- The anchors of several cells: each cell named is what the rest makes of it, every other is as before. -/
theorem each_anchorStep (l : List StepIn) (m : Mod) (hnodup : (l.map (·.g)).Nodup) :
    RestKept n (· ∉ l.map (·.g)) m (m.each l (anchorStep n grains sigma)) ∧
    ∀ c ∈ l, (m.each l (anchorStep n grains sigma)).cellEst c.g = m.restAnchored n grains sigma c := by
  induction l generalizing m with
  | nil => exact ⟨.refl .., fun c hc => by cases hc⟩
  | cons x l ih =>
    obtain ⟨hkept, hself⟩ := anchorStep_effect n grains sigma m x
    rw [List.map_cons, List.nodup_cons] at hnodup
    obtain ⟨hrest, hcells⟩ := ih (anchorStep n grains sigma m x) hnodup.2
    have heach : m.each (x :: l) (anchorStep n grains sigma) = (anchorStep n grains sigma m x).each l (anchorStep n grains sigma) := rfl
    rw [heach]
    refine ⟨(hkept.mono ?_).trans (hrest.mono ?_), fun c hc => ?_⟩
    · intro k hk
      exact fun h => hk (by simp [h])
    · intro k hk h
      exact hk (by simp [h])
    · rcases List.mem_cons.1 hc with rfl | hc
      · rw [hrest.cells _ hnodup.1, hself]
      · have hne : c.g ≠ x.g := fun h => hnodup.1 (h ▸ List.mem_map_of_mem hc)
        rw [hcells c hc, restAnchored_congr n grains sigma hkept.inputs (hkept.cells _ hne)]

end

/-- A rest whose next anchor is due notes its grain and anchors each cell of the string. -/
theorem restAnchor_of_due (n : Nat) (m : Mod) (hconf : m.configured n = true) (hrest : (m.strEst n).restGrains ≠ 0)
    (hdue : 1000 * m.restDue (m.strEst n).restAnchors ≤ (m.strEst n).restGrains) :
    restAnchor n m = (m.onStrEst n fun s => { s with
      restAnchors := max (s.restAnchors + 1)
        ((List.range ((m.strEst n).restGrains / 1000 / 600 + 3)).filter fun k => decide (m.restDue k ≤ (m.strEst n).restGrains / 1000)).length
      anchorGrain := some m.plan.grainCnt }).each (m.cellIns n) (anchorStep n (m.strEst n).restGrains
        ((if m.parN 0x4065 ≤ (m.strEst n).restGrains / 1000 then 1 else 2) * (m.par 0x4066 : Rat) / 10000)) := by
  unfold restAnchor
  dsimp only
  rw [if_neg (by simp [hconf, hrest, Nat.not_lt.mpr hdue])]
  simp only [decide_eq_true_eq]
  rfl

/-- The beginning of the interval of one string, with the interval before it. -/
def Mod.eisInterval (m : Mod) (n : Nat) (prev : Option W32) (inj : List Nat) (s : Nat) : Mod :=
  let c := if inj.contains n then 0 else match m.eisCode n (m.eisAmps n s) with | 0 => 4 | c => c
  let c := if c = 0 && m.eisBarred s then 7 else c
  let run := decide (c = 0)
  m.onStrEst n fun x => { x with
    eisEnd := prev, eisEndAmp := x.eisAmp, eisEndWhole := x.eisWhole
    eisRun := run, eisWhole := run, eisInhibit := c, eisAmp := if run then m.eisAmps n s else [] }

/-- The interval of one string begins, and the one before is dropped or released. -/
def eisStep (prev : Option W32) (inj : List Nat) (s : Nat) (m : Mod) (n : Nat) : Mod :=
  let m := m.eisInterval n prev inj s
  if prev.isNone then (m.eisClear n).each (m.gcells n) fun m g => m.onCellEst g fun e => { e with impRun := 0, impLowRun := 0 }
  else if (m.strEst n).ranAt = some m.plan.grainCnt then m.eisRelease n
  else m

theorem Mod.eisBegin_eq (m : Mod) (prev : Option W32) :
    m.eisBegin prev =
      let x := m.eisSettle 32 (m.confStrings.filter fun n => m.eisCode n [] == 0)
      (m.onEst fun e => { e with scale := x.2, limited := decide (x.2 < 256), interval := some m.plan.grainCnt }).each m.confStrings
        (eisStep prev x.1 x.2) := by
  rfl

/-- What a step for one string leaves alone: the plan, the interval, and every other string. -/
structure StringKept (n : Nat) (a b : Mod) : Prop where
  plan : b.plan = a.plan
  interval : b.est.interval = a.est.interval
  strs : ∀ k ≠ n, b.strEst k = a.strEst k

theorem StringKept.refl (n : Nat) (a : Mod) : StringKept n a a := ⟨rfl, rfl, fun _ _ => rfl⟩

theorem StringKept.trans {n : Nat} {a b c : Mod} (h : StringKept n a b) (k : StringKept n b c) : StringKept n a c :=
  ⟨k.plan.trans h.plan, k.interval.trans h.interval, fun i hi => (k.strs i hi).trans (h.strs i hi)⟩

theorem StringKept.onStrEst (m : Mod) (n : Nat) (f : StrEst → StrEst) : StringKept n m (m.onStrEst n f) :=
  ⟨rfl, rfl, fun k hk => by rw [Mod.strEst_onStrEst, if_neg hk]⟩

/-- A run of steps, one for each of several strings: every string is what its own step makes of it, and the others are as before. -/
theorem each_string (f : Mod → Nat → Mod) (hf : ∀ m n, StringKept n m (f m n)) (l : List Nat) (hl : l.Nodup) (m : Mod) :
    (m.each l f).plan = m.plan ∧ (m.each l f).est.interval = m.est.interval ∧ (∀ n, n ∉ l → (m.each l f).strEst n = m.strEst n) ∧
    ∀ n ∈ l, ∃ a : Mod, a.plan = m.plan ∧ a.strEst n = m.strEst n ∧ (m.each l f).strEst n = (f a n).strEst n := by
  induction l generalizing m with
  | nil => exact ⟨rfl, rfl, fun n _ => rfl, fun n hn => by cases hn⟩
  | cons x l ih =>
    rw [List.nodup_cons] at hl
    have hx := hf m x
    obtain ⟨hplan, hinterval, hout, hin⟩ := ih hl.2 (f m x)
    have heach : m.each (x :: l) f = (f m x).each l f := rfl
    rw [heach]
    refine ⟨hplan.trans hx.plan, hinterval.trans hx.interval, fun n hn => ?_, fun n hn => ?_⟩
    · rw [List.mem_cons, not_or] at hn
      rw [hout n hn.2, hx.strs n hn.1]
    · rcases List.mem_cons.1 hn with rfl | hn
      · exact ⟨m, rfl, rfl, hout n hl.1⟩
      · have hne : n ≠ x := fun h => hl.1 (h ▸ hn)
        obtain ⟨a, ha, hstr, hstep⟩ := hin n hn
        exact ⟨a, ha.trans hx.plan, hstr.trans (hx.strs n hne), hstep⟩

/-- What changes of cells, and records of them, leave alone. -/
structure CellsOnly (a b : Mod) : Prop where
  plan : b.plan = a.plan
  strs : b.est.strs = a.est.strs
  interval : b.est.interval = a.est.interval

theorem CellsOnly.refl (a : Mod) : CellsOnly a a := ⟨rfl, rfl, rfl⟩

theorem CellsOnly.trans {a b c : Mod} (h : CellsOnly a b) (k : CellsOnly b c) : CellsOnly a c :=
  ⟨k.plan.trans h.plan, k.strs.trans h.strs, k.interval.trans h.interval⟩

theorem CellsOnly.onCellEst (m : Mod) (g : Nat) (f : CellEst → CellEst) : CellsOnly m (m.onCellEst g f) := ⟨rfl, rfl, rfl⟩

theorem CellsOnly.ite_post (m : Mod) (q : Prop) [Decidable q] (code item block : Nat) (data : List Byte) :
    CellsOnly m (if q then m.post code item block data else m) :=
  ⟨by split <;> simp, by rw [Mod.ite_post_est], by rw [Mod.ite_post_est]⟩

theorem CellsOnly.anchor (m : Mod) (n g : Nat) (t ocv sigma : Rat) : CellsOnly m (m.anchor n g t ocv sigma) := by
  unfold Mod.anchor
  dsimp only
  split
  · exact .refl m
  · split
    · exact .onCellEst ..
    · exact (CellsOnly.onCellEst ..).trans (.ite_post ..)

theorem CellsOnly.each {α : Type} (m : Mod) (l : List α) {f : Mod → α → Mod} (h : ∀ m x, CellsOnly m (f m x)) : CellsOnly m (m.each l f) :=
  Mod.each_rel .refl .trans m l h

theorem CellsOnly.string {a b : Mod} (h : CellsOnly a b) (n : Nat) : StringKept n a b ∧ b.strEst n = a.strEst n :=
  ⟨⟨h.plan, h.interval, fun k _ => congrArg (fun t : Tab StrEst => tget t k) h.strs⟩, congrArg (fun t : Tab StrEst => tget t n) h.strs⟩

theorem Mod.eisClear_effect (m : Mod) (n : Nat) :
    StringKept n m (m.eisClear n) ∧
    (m.eisClear n).strEst n = { m.strEst n with eisEnd := none, eisEndAmp := [], eisEndWhole := false, eisI := [] } := by
  unfold Mod.eisClear
  dsimp only
  obtain ⟨hkept, hstr⟩ := (CellsOnly.each (m.onStrEst n fun s => { s with eisEnd := none, eisEndAmp := [], eisEndWhole := false, eisI := [] })
    ((m.onStrEst n fun s => { s with eisEnd := none, eisEndAmp := [], eisEndWhole := false, eisI := [] }).gcells n)
    fun a g => CellsOnly.onCellEst a g fun e => { e with
      eisSum := [], eisLine := if (m.strEst n).eisWhole then [0, 0, 0, 0, 0, 0, 0, 0, e.vFast, e.vSlow] else [], eisClean := (m.strEst n).eisWhole }).string n
  exact ⟨(StringKept.onStrEst ..).trans hkept, hstr.trans (by simp)⟩

theorem CellsOnly.eisCell (m : Mod) (n : Nat) (mc : MonCfg) (k : Nat) (g0 : W32) (zs : List Rat) : CellsOnly m (m.eisCell n mc k g0 zs) :=
  (CellsOnly.onCellEst ..).trans (.anchor ..)

theorem Mod.eisResults_effect (m : Mod) (n : Nat) (g0 : W32) :
    StringKept n m (m.eisResults n g0) ∧ ∃ g, (m.eisResults n g0).strEst n = { m.strEst n with eisLast := g } := by
  unfold Mod.eisResults
  dsimp only
  generalize hm : Mod.each m _ _ = a
  have hcells : CellsOnly m a := by
    subst hm
    refine CellsOnly.each m _ fun b x => ?_
    split
    · exact (CellsOnly.onCellEst ..).trans (.onCellEst ..)
    · exact (((CellsOnly.onCellEst ..).trans (.eisCell ..)).trans (.onCellEst ..)).trans (.ite_post ..)
  obtain ⟨hkept, hstr⟩ := hcells.string n
  split
  · exact ⟨hkept, (m.strEst n).eisLast, hstr⟩
  · exact ⟨hkept.trans (.onStrEst ..), g0, by rw [(Mod.onStrEst_fields ..).1, hstr]⟩

/-- An interval released leaves its string without one before. -/
theorem Mod.eisRelease_effect (m : Mod) (n : Nat) {g0 : W32} (hend : (m.strEst n).eisEnd = some g0) :
    StringKept n m (m.eisRelease n) ∧ (((m.eisRelease n).strEst n).eisRun = (m.strEst n).eisRun ∧
      ((m.eisRelease n).strEst n).eisInhibit = (m.strEst n).eisInhibit) ∧ ((m.eisRelease n).strEst n).eisEnd = none := by
  unfold Mod.eisRelease
  rw [hend]
  obtain ⟨hkept, g, hstr⟩ := m.eisResults_effect n g0
  obtain ⟨hclear, hcleared⟩ := (m.eisResults n g0).eisClear_effect n
  dsimp only
  rw [hcleared, hstr]
  exact ⟨hkept.trans hclear, ⟨rfl, rfl⟩, rfl⟩

theorem eisStep_effect (prev : Option W32) (inj : List Nat) (s : Nat) (m : Mod) (n : Nat) :
    StringKept n m (eisStep prev inj s m n) ∧
    ((eisStep prev inj s m n).strEst n).eisRun = decide (((eisStep prev inj s m n).strEst n).eisInhibit = 0) ∧
    ((eisStep prev inj s m n).strEst n).eisEnd = if (m.strEst n).ranAt = some m.plan.grainCnt then none else prev := by
  unfold eisStep
  dsimp only
  generalize hinterval : Mod.eisInterval m n prev inj s = a
  have hbegun : StringKept n m a ∧ (a.strEst n).eisRun = decide ((a.strEst n).eisInhibit = 0) ∧ (a.strEst n).eisEnd = prev ∧
      (a.strEst n).ranAt = (m.strEst n).ranAt := by
    subst hinterval
    exact ⟨StringKept.onStrEst .., by simp [Mod.eisInterval], by simp [Mod.eisInterval], by simp [Mod.eisInterval]⟩
  obtain ⟨hkept, hrun, hend, hran⟩ := hbegun
  cases prev with
  | none =>
    obtain ⟨hclear, hstr⟩ := a.eisClear_effect n
    obtain ⟨hcells, hsame⟩ := (CellsOnly.each (a.eisClear n) (a.gcells n) fun b g => CellsOnly.onCellEst b g fun e =>
      { e with impRun := 0, impLowRun := 0 }).string n
    simp only [Option.isNone_none, if_true]
    rw [hsame, hstr]
    exact ⟨(hkept.trans hclear).trans hcells, hrun, (ite_self none).symm⟩
  | some g0 =>
    rw [if_neg (by simp), hran, hkept.plan]
    split
    · obtain ⟨hrelease, hr, he⟩ := a.eisRelease_effect n hend
      exact ⟨hkept.trans hrelease, by rw [hr.1, hr.2, hrun], he⟩
    · exact ⟨hkept, hrun, hend⟩

/-- A cell that has nothing of an interval. -/
def CellEst.EisClear (e : CellEst) : Prop := e.eisSum = [] ∧ e.impRun = 0 ∧ e.impLowRun = 0

/-- What clears cells: of no cell cleared does it leave anything. -/
structure Clears (a b : Mod) : Prop where
  gcells : ∀ n, b.gcells n = a.gcells n
  cells : ∀ g, (a.cellEst g).EisClear → (b.cellEst g).EisClear

theorem Clears.refl (a : Mod) : Clears a a := ⟨fun _ => rfl, fun _ => id⟩

theorem Clears.trans {a b c : Mod} (h : Clears a b) (k : Clears b c) : Clears a c :=
  ⟨fun n => (k.gcells n).trans (h.gcells n), fun g hg => k.cells g (h.cells g hg)⟩

theorem Clears.onStrEst (m : Mod) (n : Nat) (f : StrEst → StrEst) : Clears m (m.onStrEst n f) := ⟨fun _ => rfl, fun _ => id⟩

theorem Clears.onCellEst (m : Mod) (g : Nat) (f : CellEst → CellEst) (hf : ∀ e : CellEst, e.EisClear → (f e).EisClear) :
    Clears m (m.onCellEst g f) := by
  refine ⟨fun _ => rfl, fun k hk => ?_⟩
  rw [Mod.cellEst_onCellEst]
  split
  · next h => exact hf _ (h ▸ hk)
  · exact hk

theorem Clears.each_onCellEst (m : Mod) (l : List Nat) (f : CellEst → CellEst) (hf : ∀ e : CellEst, e.EisClear → (f e).EisClear) :
    Clears m (m.each l fun m g => m.onCellEst g f) :=
  Mod.each_rel .refl .trans m l fun _ _ => .onCellEst _ _ _ hf

/-- A change of some cells brings one of them from one condition to another that the change keeps. -/
theorem Mod.each_onCellEst_reaches {P Q : CellEst → Prop} {f : CellEst → CellEst} (hP : ∀ e, P e → P (f e)) (hQ : ∀ e, Q e → Q (f e))
    (hPQ : ∀ e, P e → Q (f e)) {m : Mod} {l : List Nat} {g : Nat} (hg : g ∈ l) (h : P (m.cellEst g)) :
    Q ((m.each l fun m g => m.onCellEst g f).cellEst g) := by
  refine Mod.each_mem (R := fun a b => (P (a.cellEst g) → P (b.cellEst g)) ∧ (Q (a.cellEst g) → Q (b.cellEst g))) (fun _ => ⟨id, id⟩)
    (fun h k => ⟨k.1 ∘ h.1, k.2 ∘ h.2⟩) (fun a k => ?_) hg (P := fun a => Q (a.cellEst g)) (fun _ _ h => h.2) fun a ha => ?_
  · rw [Mod.cellEst_onCellEst]
    split
    · next hk => exact ⟨fun h => hP _ (hk ▸ h), fun h => hQ _ (hk ▸ h)⟩
    · exact ⟨id, id⟩
  · rw [(Mod.onCellEst_fields ..).1]
    exact hPQ _ (ha.1 h)

theorem Clears.eisClear (m : Mod) (n : Nat) : Clears m (m.eisClear n) ∧ ∀ g ∈ m.gcells n, ((m.eisClear n).cellEst g).eisSum = [] := by
  unfold Mod.eisClear
  dsimp only
  refine ⟨(Clears.onStrEst ..).trans (.each_onCellEst _ _ _ fun e he => ⟨rfl, he.2⟩), fun g hg => ?_⟩
  exact Mod.each_onCellEst_reaches (P := fun _ => True) (Q := fun e => e.eisSum = []) (fun _ => id) (fun _ _ => rfl) (fun _ _ => rfl) hg trivial

/-- A step that drops the interval before clears the cells of its string, and leaves the cells cleared before it clear. -/
theorem eisStep_clears (inj : List Nat) (s : Nat) (m : Mod) (n : Nat) :
    Clears m (eisStep none inj s m n) ∧ ∀ g ∈ m.gcells n, ((eisStep none inj s m n).cellEst g).EisClear := by
  unfold eisStep
  dsimp only
  generalize hinterval : Mod.eisInterval m n none inj s = a
  have hbegun : Clears m a := by
    subst hinterval
    exact .onStrEst ..
  obtain ⟨hclears, hsum⟩ := Clears.eisClear a n
  simp only [Option.isNone_none, if_true]
  refine ⟨(hbegun.trans hclears).trans (.each_onCellEst _ _ _ fun e he => ⟨he.1, rfl, rfl⟩), fun g hg => ?_⟩
  rw [← hbegun.gcells n] at hg
  exact Mod.each_onCellEst_reaches (P := fun e => e.eisSum = []) (Q := CellEst.EisClear) (f := fun e => { e with impRun := 0, impLowRun := 0 })
    (fun _ => id) (fun _ h => ⟨h.1, rfl, rfl⟩) (fun _ h => ⟨h, rfl, rfl⟩) hg (hsum g hg)

theorem eisStep_none_within (inj : List Nat) (s : Nat) (m : Mod) (n : Nat) : Within [.est] m (eisStep none inj s m n) := by
  unfold eisStep
  dsimp only
  simp only [Option.isNone_none, if_true]
  exact Within.each (fun a g => a.onCellEst_within g _) ((Mod.onStrEst_within ..).trans (Mod.eisClear_within ..))

/-- At a grain that begins an interval, it begins. -/
theorem impedanceIntervalEnd_of_due (m : Mod) (hgrain : m.plan.grainCnt.toNat % 10000 = 0) (hnew : m.est.interval ≠ some m.plan.grainCnt) :
    impedanceIntervalEnd m = m.eisBegin (m.est.interval.filter fun g0 => decide ((m.plan.grainCnt - g0).toNat = 10000)) := by
  simp [impedanceIntervalEnd, hgrain, hnew]

theorem Mod.confStrings_nodup (m : Mod) : m.confStrings.Nodup := List.nodup_range.filter _

/-- Settles O5: the anchors of a rest one cell at a time, the intervals one string at a time. -/
theorem restAndImpedance : Obligations.RestAndImpedance := by
  refine ⟨fun s n x sigma hacts hn hconf hx hrest hdue hnodup hsigma => ?rest, fun s g0 hacts hgrain hlast hlen => ?interval,
    fun s hacts hgrain hnew hlen => ?first⟩
  case rest =>
    subst hx hsigma
    refine .lgc rfl (okString_of_lt hn) hacts ?_
    have honly := (restAnchor_within n s.m).only
    rw [restAnchor_of_due n s.m hconf hrest hdue] at honly ⊢
    obtain ⟨hkept, hcells⟩ := each_anchorStep n (s.m.strEst n).restGrains
      ((if s.m.parN 0x4065 ≤ (s.m.strEst n).restGrains / 1000 then 1 else 2) * (s.m.par 0x4066 : Rat) / 10000) (s.m.cellIns n)
      (s.m.onStrEst n fun y => { y with
        restAnchors := max (y.restAnchors + 1) ((List.range ((s.m.strEst n).restGrains / 1000 / 600 + 3)).filter fun k =>
          decide (s.m.restDue k ≤ (s.m.strEst n).restGrains / 1000)).length
        anchorGrain := some s.m.plan.grainCnt }) hnodup
    have hinputs : ∀ f, SameInputs s.m (s.m.onStrEst n f) := fun _ => ⟨rfl, rfl, rfl, rfl⟩
    refine ⟨?_, ?_, fun c hc => ?_, fun g hg => ?_, fun k hk => ?_, honly⟩
    · exact hkept.grain.trans (by simp)
    · exact hkept.anchors.trans (by simp)
    · refine (hcells c hc).trans ((restAnchored_congr (a := s.m) n _ _ (hinputs _) rfl).trans ?_)
      unfold Mod.restAnchored
      cases (s.m.cellEst c.g).restMean (s.m.strEst n).restGrains <;> rfl
    · exact (hkept.cells g hg).trans rfl
    · exact (hkept.strs k hk).trans (by rw [Mod.strEst_onStrEst, if_neg hk])
  case interval =>
    refine .lgc rfl rfl hacts ?_
    have honly := (impedanceIntervalEnd_within s.m).only
    have hnew : s.m.est.interval ≠ some s.m.plan.grainCnt := fun h => by
      rw [hlast, Option.some_inj] at h
      subst h
      simp at hlen
    have hprev : (s.m.est.interval.filter fun g0 => decide ((s.m.plan.grainCnt - g0).toNat = 10000)) = some g0 := by
      rw [hlast, Option.filter, hlen]
      rfl
    rw [impedanceIntervalEnd_of_due _ hgrain hnew, hprev, Mod.eisBegin_eq] at honly ⊢
    dsimp only at honly ⊢
    generalize s.m.eisSettle 32 _ = x at honly ⊢
    obtain ⟨-, hinterval, hout, hin⟩ := each_string (eisStep (some g0) x.1 x.2) (fun m n => (eisStep_effect ..).1) s.m.confStrings
      s.m.confStrings_nodup (s.m.onEst fun e => { e with scale := x.2, limited := decide (x.2 < 256), interval := some s.m.plan.grainCnt })
    refine ⟨hinterval, fun n hn => ?_, fun n hn => hout n hn, honly⟩
    obtain ⟨a, hplan, hstr, hstep⟩ := hin n hn
    obtain ⟨-, hrun, hend⟩ := eisStep_effect (some g0) x.1 x.2 a n
    rw [hplan, hstr] at hend
    rw [hstep]
    exact ⟨hrun, hend⟩
  case first =>
    refine .lgc rfl rfl hacts ?_
    have hprev : (s.m.est.interval.filter fun g0 => decide ((s.m.plan.grainCnt - g0).toNat = 10000)) = none := by
      cases hlast : s.m.est.interval with
      | none => rfl
      | some g0 => rw [Option.filter, decide_eq_false (hlen g0 hlast), if_neg Bool.false_ne_true]
    rw [impedanceIntervalEnd_of_due _ hgrain hnew, hprev, Mod.eisBegin_eq]
    dsimp only
    generalize s.m.eisSettle 32 _ = x
    obtain ⟨-, hinterval, hout, hin⟩ := each_string (eisStep none x.1 x.2) (fun m n => (eisStep_effect ..).1) s.m.confStrings
      s.m.confStrings_nodup (s.m.onEst fun e => { e with scale := x.2, limited := decide (x.2 < 256), interval := some s.m.plan.grainCnt })
    refine ⟨hinterval, fun n hn => ?_, fun n hn => hout n hn,
      (Within.each (fun a k => eisStep_none_within x.1 x.2 a k) (Mod.onEst_within ..)).only⟩
    obtain ⟨a, -, -, hstep⟩ := hin n hn
    obtain ⟨-, hrun, hend⟩ := eisStep_effect none x.1 x.2 a n
    rw [hstep]
    refine ⟨hrun, hend.trans (ite_self none), fun g hg => ?_⟩
    exact Mod.each_mem Clears .refl .trans (fun a k => (eisStep_clears x.1 x.2 a k).1) hn (P := fun a => (a.cellEst g).EisClear)
      (fun _ _ h => h.cells g) fun a ha => (eisStep_clears x.1 x.2 a n).2 g ((ha.gcells n).symm ▸ hg)

end Sys2Proof.Machine
end

section
/-! PROOF. The checkpoints of the estimator, the end of a restore, and the archive (R217-R219, R420). -/

namespace Sys2Proof.Machine

theorem checkpointCapture_of_due (n : Nat) (m : Mod) (hconf : m.configured n = true) (hcells : m.gcells n ≠ [])
    (hgrain : m.plan.grainCnt.toNat % 60000 = 1000 * n) (hwrites : m.flashWrites 3 = true) {a : Mod}
    (ha : a = m.onStrEst n fun s => { s with iMax := max s.iMax s.ckptIMax }) :
    checkpointCapture n m = (a.dmaStart 1 (.checkpoint n) (a.strImage n).length).onStrEst n fun s =>
      { s with ckptBuf := a.strImage n, ckptIMax := s.iMax, ckptOpMs := a.power.opMs, iMax := 0 } := by
  subst ha
  simp [checkpointCapture, hconf, hcells, hgrain, hwrites]

theorem Mod.dmaStart_channels (m : Mod) (ch : Nat) (use : DmaUse) (len : Nat) :
    ((m.dmaStart ch use len).dmaCh ch).busy = true ∧ ((m.dmaStart ch use len).dmaCh ch).use = use ∧
    (∀ c ≠ ch, (m.dmaStart ch use len).dmaCh c = m.dmaCh c) ∧ (m.dmaStart ch use len).est = m.est := by
  refine ⟨?_, ?_, fun c hc => ?_, rfl⟩
  · simp [Mod.dmaStart, Mod.onDma, Mod.dmaCh]
  · simp [Mod.dmaStart, Mod.onDma, Mod.dmaCh]
  · simp [Mod.dmaStart, Mod.onDma, Mod.dmaCh, tget_tmod, hc]

/-- The image of a string whose greatest current is renewed. -/
theorem Mod.strImage_onStrEst (m : Mod) (n : Nat) (f : StrEst → StrEst) :
    (m.onStrEst n f).strImage n = estImage 0 ((m.monsOf n).flatMap fun mc => (setBits 16 mc.cellMask.toNat).map fun k =>
      (m.cellEst (gcell n mc.addr k)).record (gcell n mc.addr k) (m.mon n mc.addr).uid
        ((m.chemOf n).tauS (m.cellTemp n mc k (gcell n mc.addr k))) (m.anchorAgeOf (m.cellEst (gcell n mc.addr k)) / 1000)
        m.nowSN.1 m.nowSN.2 (((f (m.strEst n)).iMax : Rat) / 1000)) := by
  unfold Mod.strImage
  rw [(m.onStrEst_fields n f).1]
  rfl

/-- The restore of one record, where nothing speaks against it, with the reason noted. -/
def restoreStep (force : Bool) (acc : Mod × List (Nat × Nat)) (r : EstRec) : Mod × List (Nat × Nat) :=
  (if acc.1.restoreSkip force r ≠ 0 then acc.1 else acc.1.restoreRecord r, (acc.1.restoreSkip force r, r.g) :: acc.2)

/-- The restore of records changes no string and no plan. -/
theorem restoreRecords_kept (force : Bool) (recs : List EstRec) (a : Mod × List (Nat × Nat)) :
    (recs.foldl (restoreStep force) a).1.est.strs = a.1.est.strs ∧ (recs.foldl (restoreStep force) a).1.plan = a.1.plan := by
  induction recs generalizing a with
  | nil => exact ⟨rfl, rfl⟩
  | cons r recs ih =>
    have hstep : (restoreStep force a r).1.est.strs = a.1.est.strs ∧ (restoreStep force a r).1.plan = a.1.plan := by
      unfold restoreStep
      dsimp only
      split
      · exact ⟨rfl, rfl⟩
      · unfold Mod.restoreRecord
        split <;> exact ⟨rfl, rfl⟩
    obtain ⟨hstrs, hplan⟩ := ih (restoreStep force a r)
    exact ⟨hstrs.trans hstep.1, hplan.trans hstep.2⟩

/-- A string that waits for a restore runs once it has ended. -/
def Mod.restoreEnds (m : Mod) (n : Nat) : Mod :=
  if (m.strEst n).restoreWait.isSome then m.onStrEst n fun s => { s with ready := true, restoreWait := none } else m

theorem Mod.restoreEnds_kept (m : Mod) (n : Nat) : StringKept n m (m.restoreEnds n) := by
  unfold Mod.restoreEnds
  split
  · exact .onStrEst ..
  · exact .refl ..

theorem Mod.restoreEnds_ready (m : Mod) (n : Nat) (h : (m.strEst n).restoreWait.isSome = true) : ((m.restoreEnds n).strEst n).ready = true := by
  simp [Mod.restoreEnds, h]

/-- Every string that waits for a restore runs once all have been told its end. -/
theorem Mod.restoreEnds_all (m : Mod) :
    (m.each m.confStrings Mod.restoreEnds).est.restore = m.est.restore ∧
    ∀ n ∈ m.confStrings, (m.strEst n).restoreWait.isSome = true → ((m.each m.confStrings Mod.restoreEnds).strEst n).ready = true := by
  obtain ⟨-, -, -, hin⟩ := each_string Mod.restoreEnds Mod.restoreEnds_kept m.confStrings m.confStrings_nodup m
  refine ⟨Mod.each_keeps (fun m : Mod => m.est.restore) _ _ _ fun a n => ?_, fun n hn hwait => ?_⟩
  · unfold Mod.restoreEnds
    split <;> rfl
  · obtain ⟨a, -, hstr, hstep⟩ := hin n hn
    rw [hstep]
    exact a.restoreEnds_ready n (hstr ▸ hwait)

/-- Settles O6: each row's guard holds; the fold over the records of a restore leaves the strings to what follows it. -/
theorem estimatorCheckpoints : Obligations.EstimatorCheckpoints := by
  refine ⟨fun s n hacts hn hconf hcells hgrain hwrites => ?capture, fun s n ok hon hn hbuf => ?written, fun s j hacts hjob => ?restored,
    fun s n w hacts hn hwait hlate => ?waited, fun s n hsup hn hconf hpar hgrains hdue hwritable => ?fine,
    fun s n hsup hn hconf hpar hdue hwritable hnone => ?bare, fun s n l a z hsup hn hconf hpar hdue hwritable hl ha hz => ?coarse⟩
  case capture =>
    refine .lgc rfl (okString_of_lt hn) hacts ?_
    have honly := (checkpointCapture_within n s.m).only
    rw [checkpointCapture_of_due n s.m hconf hcells hgrain hwrites rfl] at honly ⊢
    rw [Mod.strImage_onStrEst] at honly ⊢
    generalize hstart : Mod.dmaStart _ 1 _ _ = a at honly ⊢
    obtain ⟨hbusy, huse, hother, hest⟩ := hstart ▸ Mod.dmaStart_channels (s.m.onStrEst n fun y => { y with iMax := max y.iMax y.ckptIMax }) 1
      (.checkpoint n) _
    have hstr : ∀ k, a.strEst k = (s.m.onStrEst n fun y => { y with iMax := max y.iMax y.ckptIMax }).strEst k := fun k =>
      congrArg (fun e : EstSt => tget e.strs k) hest
    have hcells := congrArg EstSt.cells hest
    refine ⟨?_, ?_, ?_, ?_, hbusy, huse, fun k hk => ?_, hcells, hother, honly⟩
    · simp
    · simp [hstr]
    · simp
    · simp
    · rw [Mod.strEst_onStrEst, if_neg hk, hstr, Mod.strEst_onStrEst, if_neg hk]
  case written =>
    refine .on rfl (okString_of_lt hn) hon ?_
    unfold checkpointWriteComplete
    rw [if_neg (by simpa using hbuf)]
  case waited =>
    refine .lgc rfl (okString_of_lt hn) hacts ?_
    unfold restoreWaitExpiry
    rw [hwait]
    dsimp only
    rw [if_pos hlate]
  case restored =>
    refine .lgc rfl rfl hacts ?_
    have honly := (estRestoreComplete_within s.m).only
    revert honly
    unfold estRestoreComplete
    rw [hjob]
    dsimp only
    intro honly
    obtain ⟨hstrs, hplan⟩ := restoreRecords_kept ((rdN j.image 6 2).testBit 0) (estRecords j.image s.m.host.ms) (s.m, [])
    generalize hres : List.foldl (α := Mod × List (Nat × Nat)) _ _ _ = res at honly ⊢
    replace hres : (estRecords j.image s.m.host.ms).foldl (restoreStep ((rdN j.image 6 2).testBit 0)) (s.m, []) = res := hres
    rw [hres] at hstrs hplan
    obtain ⟨hrestore, hready⟩ := (res.1.onEst fun e => { e with restore := none }).restoreEnds_all
    have hconf : (res.1.onEst fun e => { e with restore := none }).confStrings = s.m.confStrings := by
      unfold Mod.confStrings Mod.configured Mod.bed?
      rw [(Mod.onEst_fields ..).2.1, hplan]
    have hstr : ∀ n, (res.1.onEst fun e => { e with restore := none }).strEst n = s.m.strEst n := fun n =>
      congrArg (fun t : Tab StrEst => tget t n) hstrs
    generalize hlast : Mod.complete _ _ _ _ = t at honly ⊢
    have hest : t.est = ((res.1.onEst fun e => { e with restore := none }).each (res.1.onEst fun e => { e with restore := none }).confStrings
        Mod.restoreEnds).est := by
      rw [← hlast, (Mod.complete_within ..).estEq (by decide), (Mod.post_within ..).estEq (by decide)]
      rfl
    refine ⟨by rw [hest, hrestore]; rfl, fun n hn hwait => ?_, honly⟩
    rw [← hconf] at hn
    rw [← hstr n] at hwait
    rw [Mod.strEst, hest]
    exact hready n hn hwait
  case fine =>
    refine .sup rfl (okString_of_lt hn) hsup ?_
    have honly := (archiveFinePeriod_within n s.m).only
    rw [archiveFinePeriod, if_pos (by simp [hconf, hpar, hgrains, hdue, hwritable])] at honly ⊢
    refine ⟨?_, ?_, ?_, ⟨_, rfl, rfl, rfl, rfl, rfl, rfl⟩, fun k hk => ?_, rfl, honly⟩
    · simp [Mod.archFine, Mod.archAdd]
    · simp [Mod.archFine, Mod.archAdd]
    · simp [Mod.archFine, Mod.archAdd]
    · simp [Mod.archFine, Mod.archAdd, tget_tmod, hk]
  case bare =>
    refine .sup rfl (okString_of_lt hn) hsup ?_
    unfold archiveCoarseDay
    dsimp only
    rw [if_neg (by simp [hconf, hpar, hdue, hwritable]), hnone]
    rfl
  case coarse =>
    refine .sup rfl (okString_of_lt hn) hsup ?_
    have honly := (archiveCoarseDay_within n s.m).only
    revert honly
    unfold archiveCoarseDay
    dsimp only
    rw [if_neg (by simp [hconf, hpar, hdue, hwritable]), hl, ha, hz]
    dsimp only
    intro honly
    refine ⟨by simp [Mod.archAdd, Mod.onStore], ⟨_, rfl, rfl, rfl, rfl, rfl⟩, rfl, honly⟩

end Sys2Proof.Machine
end

section
/-! PROOF. The slots of a plan: run, published, overrun (R45, R79, R80, R18). -/

namespace Sys2Proof.Machine

theorem okBed_of_le {b : Nat} (h : b ≤ 32) : okBed b = true := by simp [okBed, h]

theorem Mod.not_stopped_of_planOn {m : Mod} (h : m.planOn = true) : m.plan.mode ≠ .stopped := by
  simp only [Mod.planOn, Bool.and_eq_true, decide_eq_true_eq] at h
  exact h.2

/-- A slot that is no publication retires without publishing. -/
theorem Completes.slotRun {s : State} {b k c : Nat} {fault : SlotFault} {readback : Option (Int × Int)} {C : State → Prop} (hb : b ≤ 32)
    (hplan : s.m.planOn = true) (hpub : s.m.publishes b k c fault = false)
    (h : C { s with m := Machine.slotRun b k c fault readback s.m }) : Completes (.slotRun b k c fault readback) s C := by
  refine ⟨_, ?_, h⟩
  show s.slot (okBed b) (s.m.publishes b k c fault) (Machine.slotRun b k c fault readback) = _
  rw [State.slot, if_pos (by simp [okBed_of_le hb, hplan]), hpub]
  rfl

section
variable {m : Mod} {b k : Nat} {x : Slot} (hslot : m.slot? b k = some x)
include hslot

theorem Mod.publishes_of_not_last (hlast : m.lastOfRole x = false) (c : Nat) (fault : SlotFault) : m.publishes b k c fault = false := by
  simp [Mod.publishes, hslot, Mod.working, hlast]

variable (hplan : m.planOn = true) (hruns : m.runs = true) (hdue : runsIn x.startTick x.period m.plan.tick = true)
include hplan hruns hdue

/-- A slot whose tick it is retires. -/
theorem slotRun_of_due (c : Nat) (readback : Option (Int × Int)) :
    slotRun b k c .none readback m = m.retire x c readback ∧
    slotRun b k c .corrected readback m = (m.onPlan fun p => { p with tileEccCorrected := p.tileEccCorrected + 1 }).retire x c readback := by
  have hgo : ¬ (decide (m.plan.mode = .stopped) || !m.runs || !runsIn x.startTick x.period m.plan.tick) = true := by
    simp [Mod.not_stopped_of_planOn hplan, hruns, hdue]
  unfold slotRun
  rw [hslot]
  dsimp only
  rw [if_neg hgo, if_neg hgo]
  exact ⟨rfl, rfl⟩

/-- An overrun of a slot whose tick it is. -/
theorem overrunRow_of_due (cause : OverrunCause) :
    overrunRow b k cause m = (if cause = .ecc then m.onPlan fun p => { p with tileEcc := tput p.tileEcc x.tile (some p.grainCnt) } else m).overrun x cause := by
  have hgo : m.dueSlot? b k = some x := by
    simp [Mod.dueSlot?, hslot, Mod.not_stopped_of_planOn hplan, hruns, hdue]
  unfold overrunRow
  rw [hgo]
  dsimp only
  split
  · next h => subst h; rfl
  · rfl

end

/-- A slot within its reserve that its role's work does not end uses its cycles. -/
theorem Mod.retire_of_not_last (m : Mod) (x : Slot) (c : Nat) (hc : c ≤ x.reserve) (hlast : m.lastOfRole x = false) :
    m.retire x c none = m.useCycles x.tile c := by
  have hworking : (m.useCycles x.tile c).working x = false := by
    have hkept : (m.useCycles x.tile c).lastOfRole x = m.lastOfRole x := rfl
    simp [Mod.working, hkept, hlast]
  unfold Mod.retire
  rw [if_neg (Nat.not_lt.mpr hc)]
  dsimp only
  rw [if_neg (by simp [hworking])]

/-- The last slot of the publication has no work on the module itself. -/
theorem Mod.retire_of_publication (m : Mod) (x : Slot) (c : Nat) (hc : c ≤ x.reserve) (hrole : m.slotRole x = .publication)
    (hact : m.standby = false) : m.retire x c none = m.useCycles x.tile c := by
  have hwork : (m.useCycles x.tile c).kernelWork x none = m.useCycles x.tile c := by
    have hkept : (m.useCycles x.tile c).slotRole x = .publication := hrole
    unfold Mod.kernelWork
    rw [hkept]
  have hstill : (m.useCycles x.tile c).standby = false := hact
  unfold Mod.retire
  rw [if_neg (Nat.not_lt.mpr hc)]
  dsimp only
  split
  · rw [Mod.logical_acts _ hstill, hwork]
  · rfl

/-- The copy that a publication writes, and the one it leaves. -/
theorem State.publish_copy (s : State) (hact : s.m.standby = false) :
    if s.m.plan.grainCnt.getLsbD 0 then s.publish.dir1.complete = true ∧ s.publish.dir1.grain = s.m.plan.grainCnt ∧ s.publish.dir0 = s.dir0
    else s.publish.dir0.complete = true ∧ s.publish.dir0.grain = s.m.plan.grainCnt ∧ s.publish.dir1 = s.dir1 := by
  have hgrain : s.m.valueGrain = s.m.plan.grainCnt := by
    unfold Mod.valueGrain
    rw [hact]
  unfold State.publish
  dsimp only
  rw [hgrain]
  split <;> exact ⟨rfl, rfl, rfl⟩

theorem Mod.onAcct_acct (m : Mod) (b : Nat) (f : BedAcct → BedAcct) : (m.onAcct b f).acct b = f (m.acct b) := by
  simp [Mod.onAcct, Mod.acct]

/-- What an overrun notes in the plan. -/
def PlanSt.overran (p : PlanSt) (x : Slot) (held : List (Nat × Role)) : PlanSt :=
  { p with
    ovrStr := if x.bed < 32 then p.ovrStr ||| BitVec.ofNat 32 (2 ^ x.bed) else p.ovrStr
    commonOvr := p.commonOvr || decide (x.bed = 32)
    tileOvr := p.tileOvr ||| BitVec.ofNat 4 (2 ^ x.tile)
    heldRoles := held }

/-- What an overrun notes of its bed. -/
def BedAcct.overran (a : BedAcct) : BedAcct :=
  { a with count := a.count + 1, total := stopAt 0xFFFFFFFF (a.total + 1), thisGrain := true, cleanGrains := none }

/-- An overrun of a bed with fewer than two before it, outside the fallow mode, is noted and recorded. -/
theorem Mod.overrun_of_few (m : Mod) (x : Slot) (cause : OverrunCause) (hcount : (m.acct x.bed).count < 2) (hfallow : m.overrunFallow x.bed = false) :
    m.overrun x cause = (((m.useCycles x.tile x.reserve).onPlan fun p => p.overran x
      (if m.lastOfRole x then m.plan.heldRoles else (x.bed, m.slotRole x) :: m.plan.heldRoles)).onAcct x.bed BedAcct.overran).post
        0x1004 x.bed bFabric (u8 x.tile ++ u8 cause.ctorIdx ++ leN 2 x.slotId ++ leN 2 x.kernel ++ [0, 0]) := by
  have hacct : (((((m.useCycles x.tile x.reserve).onPlan fun p => p.overran x
      (if m.lastOfRole x then m.plan.heldRoles else (x.bed, m.slotRole x) :: m.plan.heldRoles)).onAcct x.bed BedAcct.overran).post
        0x1004 x.bed bFabric (u8 x.tile ++ u8 cause.ctorIdx ++ leN 2 x.slotId ++ leN 2 x.kernel ++ [0, 0])).acct x.bed).count < 3 := by
    rw [Mod.acct, (Mod.post_fields ..).1, ← Mod.acct, Mod.onAcct_acct]
    exact Nat.succ_lt_succ hcount
  unfold Mod.overrun
  dsimp only
  simp only [hfallow, Bool.not_false, Bool.true_or, if_true]
  exact if_pos (by rw [Bool.or_eq_true]; exact Or.inl (decide_eq_true hacct))

/-- The account of the bed, and the record, of an overrun. -/
theorem Mod.overrun_effect (m : Mod) (x : Slot) (cause : OverrunCause) (hcount : (m.acct x.bed).count < 2) (hfallow : m.overrunFallow x.bed = false) :
    (m.overrun x cause).acct x.bed = (m.acct x.bed).overran ∧ Recorded 0x1004 x.bed bFabric m (m.overrun x cause) ∧
    (∃ acct used peak, (m.overrun x cause).plan = { m.plan.overran x
      (if m.lastOfRole x then m.plan.heldRoles else (x.bed, m.slotRole x) :: m.plan.heldRoles) with
        acct := acct, usedNow := used, peakUsed := peak }) ∧ Within [.plan, .store] m (m.overrun x cause) := by
  rw [m.overrun_of_few x cause hcount hfallow, Mod.acct, (Mod.post_fields ..).1]
  refine ⟨Mod.onAcct_acct .., (Mod.post_recorded ..).of_store rfl, ⟨_, _, _, rfl⟩, ?_⟩
  exact (Mod.post_within ..).step (by decide) ((Mod.onAcct_within ..).step (by decide) (.stepPlan (by decide) (fun _ => ⟨rfl, rfl, rfl⟩)
    ((Mod.useCycles_within ..).mono (by decide))))

/-- Settles O9: a slot whose tick it is retires, publishes or overruns, each by its own equation. -/
theorem slotsAndOverruns : Obligations.SlotsAndOverruns := by
  refine ⟨fun s b k c x hplan hb hslot hruns hdue hc hlast => ?run, fun s b k c x hplan hb hslot hruns hdue hc hlast => ?corrected,
    fun s b k c x hacts hb hslot hdue hc hlast hrole hheld => ?publish, fun s b k cause x hplan hslot hb hruns hdue hcount hfallow => ?late⟩
  case run =>
    refine .slotRun hb hplan (Mod.publishes_of_not_last hslot hlast c .none) ?_
    rw [(slotRun_of_due hslot hplan hruns hdue c none).1, Mod.retire_of_not_last _ _ _ hc hlast]
  case corrected =>
    refine .slotRun hb hplan (Mod.publishes_of_not_last hslot hlast c .corrected) ?_
    have hkept : (s.m.onPlan fun p => { p with tileEccCorrected := p.tileEccCorrected + 1 }).lastOfRole x = false := hlast
    rw [(slotRun_of_due hslot hplan hruns hdue c none).2, Mod.retire_of_not_last _ _ _ hc hkept]
  case publish =>
    have hruns : s.m.runs = true := by simp [Mod.runs, hacts.2]
    have hpub : s.m.publishes b k c .none = true := by
      simp [Mod.publishes, hslot, Mod.not_stopped_of_planOn hacts.1, hruns, hdue, hc, hrole, Mod.working, hlast, hheld]
    refine ⟨({ s with m := s.m.useCycles x.tile c } : State).publish, ?_, State.publish_copy { s with m := s.m.useCycles x.tile c } hacts.2⟩
    show s.slot (okBed b) (s.m.publishes b k c .none) (slotRun b k c .none none) = _
    rw [State.slot, if_pos (by simp [okBed_of_le hb, hacts.1]), hpub, (slotRun_of_due hslot hacts.1 hruns hdue c none).1,
      Mod.retire_of_publication _ _ _ hc hrole hacts.2]
    rfl
  case late =>
    refine .plan rfl (okBed_of_le hb) hplan ?_
    rw [overrunRow_of_due hslot hplan hruns hdue]
    generalize hnoted : (if cause = .ecc then s.m.onPlan fun p => { p with tileEcc := tput p.tileEcc x.tile (some p.grainCnt) } else s.m) = a
    have hkept : a.acct = s.m.acct ∧ a.safety = s.m.safety ∧ a.lastOfRole x = s.m.lastOfRole x ∧ a.slotRole x = s.m.slotRole x ∧
        a.store = s.m.store ∧ (cause = .ecc → tget a.plan.tileEcc x.tile = some s.m.plan.grainCnt) ∧
        (∃ ecc, a.plan = { s.m.plan with tileEcc := ecc }) ∧ Within [.plan, .store] s.m a := by
      subst hnoted
      split
      · exact ⟨rfl, rfl, rfl, rfl, rfl, fun _ => by simp, ⟨_, rfl⟩, .stepPlan (by decide) (fun _ => ⟨rfl, rfl, rfl⟩) (.refl ..)⟩
      · next h => exact ⟨rfl, rfl, rfl, rfl, rfl, fun hc => absurd hc h, ⟨_, rfl⟩, .refl ..⟩
    obtain ⟨hacct, hsafety, hlast, hrole, hstore, hecc, ⟨ecc, hp⟩, hbefore⟩ := hkept
    obtain ⟨haccount, hrecorded, ⟨acct, used, peak, hafter⟩, hwithin⟩ := a.overrun_effect x cause (hacct ▸ hcount)
      (by unfold Mod.overrunFallow; rw [hsafety]; exact hfallow)
    rw [hlast, hrole, hp] at hafter
    refine ⟨haccount.trans (hacct ▸ rfl), ?_, ?_, ?_, ?_, ?_, hrecorded.of_store hstore, (hbefore.trans hwithin).only⟩
    · intro h
      simp only [hafter, PlanSt.overran, h, if_true]
    · intro h
      simp [hafter, PlanSt.overran, h]
    · rw [hafter]
      rfl
    · intro h
      rw [hafter]
      simp [PlanSt.overran, h]
    · intro h
      rw [hafter, ← hecc h, hp]
      rfl

end Sys2Proof.Machine
end

section
/-! PROOF. The restarts of the supervisor, and its mailboxes (R16, R17, R578, R595). -/

namespace Sys2Proof.Machine

/-- A warm restart counts, is the last cause, and is recorded. -/
theorem Mod.warmRestart_noted (m : Mod) (cause : Nat) (hrestart : m.power.restart = none) (hstate : m.power.state ≠ .failing)
    (hwarm : m.plan.warm = false) :
    (m.warmRestart cause).power.lastCause = cause ∧ (m.warmRestart cause).power.warmCount = stopAt 255 (m.power.warmCount + 1) ∧
    Recorded 0xE002 0xFF bSup m (m.warmRestart cause) := by
  have hfree : ¬ (m.power.restart.isSome || m.power.state = .failing || m.plan.warm) = true := by simp [hrestart, hstate, hwarm]
  unfold Mod.warmRestart
  rw [if_neg hfree]
  dsimp only
  generalize hm : (m.onPlan fun p => { p with warm := true, warmCause := cause, sp0Ok := false, sp1Ok := false }).onPower _ = m'
  have hbegun : m'.power.lastCause = cause ∧ m'.power.warmCount = stopAt 255 (m.power.warmCount + 1) ∧ m'.store = m.store := hm ▸ ⟨rfl, rfl, rfl⟩
  obtain ⟨hcause, hcount, hstore⟩ := hbegun
  have htold : Within [.time, .upd, .sent] m' (m'.servoHold.trialAgain.tellPartner 1) :=
    (Mod.tellPartner_within ..).step (by decide) ((Mod.trialAgain_within _).step (by decide) ((Mod.servoHold_within _).mono (by decide)))
  generalize m'.servoHold.trialAgain.tellPartner 1 = a at htold ⊢
  have hpower := htold.powerEq (by decide) (by decide)
  refine ⟨?_, ?_, (Mod.post_recorded ..).of_store ((htold.storeEq (by decide)).trans hstore)⟩
  · rw [← hcause, ← hpower]
    simp
  · rw [← hcount, ← hpower]
    simp

/-- A warm restart of the supervisor, where none is under way: everything that is said of it. -/
theorem Mod.warmRestart_effect (m : Mod) (cause : Nat) (hrestart : m.power.restart = none) (hstate : m.power.state ≠ .failing)
    (hwarm : m.plan.warm = false) {m' : Mod} (hm' : m' = m.warmRestart cause) :
    m'.plan.warm = true ∧ m'.plan.warmCause = cause ∧ m'.plan.sp0Ok = false ∧ m'.plan.sp1Ok = false ∧ m'.power.lastCause = cause ∧
    m'.power.warmCount = stopAt 255 (m.power.warmCount + 1) ∧ Recorded 0xE002 0xFF bSup m m' ∧ m'.plan.running = m.plan.running ∧
    m'.plan.mode = m.plan.mode := by
  subst hm'
  obtain ⟨hplan, -⟩ := m.warmRestart_begins cause hrestart hstate hwarm
  obtain ⟨hcause, hcount, hrecorded⟩ := m.warmRestart_noted cause hrestart hstate hwarm
  rw [hplan]
  exact ⟨rfl, rfl, rfl, rfl, hcause, hcount, hrecorded, rfl, rfl⟩

/-- Fewer than three mismatches within the hour are noted before the restart. -/
theorem lockstepMismatch_of_few (p : Nat) (m : Mod) (hfew : (m.plan.lockstepAt.filter fun u => decide (m.host.ms - u < 3600000)).length < 2) :
    lockstepMismatch p m = (m.onPlan fun q => { q with
      lockstepAt := m.host.ms :: m.plan.lockstepAt.filter fun u => decide (m.host.ms - u < 3600000) }).warmRestart 6 := by
  unfold lockstepMismatch
  dsimp only
  rw [if_neg (by rw [List.length_cons]; omega)]

/-- A notice changes the sessions alone of what the host sees. -/
theorem Mod.notify_host (m : Mod) (sid opcode status : Nat) (tlvs : List Tlv) : ∃ l, (m.notify sid opcode status tlvs).host = { m.host with sessions := l } := by
  unfold Mod.notify
  split
  · exact ⟨_, rfl⟩
  · dsimp only
    unfold Mod.sendNotice
    rw [Mod.each_keeps Mod.host]
    · exact ⟨_, rfl⟩
    · exact fun _ _ => rfl

theorem Mod.mbx_onMbx (m : Mod) (k j : Nat) (f : Mailbox → Mailbox) : (m.onMbx k f).mbx j = if j = k then f (m.mbx k) else m.mbx j :=
  tget_tmod ..

theorem Mod.notify_mbx (m : Mod) (sid opcode status : Nat) (tlvs : List Tlv) (j : Nat) : (m.notify sid opcode status tlvs).mbx j = m.mbx j := by
  obtain ⟨l, hhost⟩ := m.notify_host sid opcode status tlvs
  unfold Mod.mbx
  rw [hhost]

/-- A mailbox once a message of the supervisor fills it. -/
def Mailbox.written (b : Mailbox) (ptr len type domain ms : Nat) : Mailbox :=
  { b with
    outPtr := BitVec.ofNat 32 ptr, outLen := BitVec.ofNat 32 len, outType := BitVec.ofNat 16 type, outDomain := BitVec.ofNat 8 domain
    outFull := true, outColl := b.outColl || b.outFull, outSince := if b.outFull then b.outSince else ms }

/-- A message of the supervisor changes its mailbox alone of them. -/
theorem Mod.mbxOut_mbx (m : Mod) (k ptr len type domain j : Nat) :
    (m.mbxOut k ptr len type domain).mbx j = (m.onMbx k fun b => b.written ptr len type domain m.host.ms).mbx j := by
  unfold Mod.mbxOut
  dsimp only
  split
  · exact Mod.notify_mbx ..
  · rfl

section
variable {m : Mod} {k : Nat} (hk : k < 16) (hin : (m.mbx k).inFull = true) (hout : (m.mbx k).outFull = true) (hcross : (m.mbx k).cross = false)
  (hlong : m.parN 0xA0C1 < m.host.ms - max (m.mbx k).inSince (m.mbx k).outSince)
include hk hin hout hcross hlong

/-- Both mailboxes of a slot full for too long set CROSS of that slot alone. -/
theorem mbxCrossTimeout_mbx (j : Nat) : (mbxCrossTimeout k m).mbx j = (m.onMbx k fun b => { b with cross := true }).mbx j := by
  have hslot : ¬ 16 < k := by omega
  have hne : ¬ k = 16 := by omega
  unfold mbxCrossTimeout
  dsimp only
  rw [if_neg (by simp [hslot, hin, hout, Nat.not_le.mpr hlong, hcross, hne])]
  split
  · exact Mod.notify_mbx ..
  · rfl

end

/-- The end of a session on the port changes nothing of the slots. -/
theorem Mod.rvEnd_upd (m : Mod) : ∃ x v, m.rvEnd.upd = { m.upd with session := x, service := v } := by
  unfold Mod.rvEnd Mod.serviceEnd
  split
  · split
    · exact ⟨_, _, (Mod.post_within ..).updEq (by decide)⟩
    · exact ⟨_, _, rfl⟩
  · exact ⟨_, _, rfl⟩

/-- The loader takes the slot that ran, where it is good and the other is empty. -/
theorem Mod.bootSelect_of_active (m : Mod) (ok : Bool → Bool) (ha : m.upd.slotA.st = .active) (hb : m.upd.slotB.st = .empty) (hok : ok false = true)
    (hsvn : m.upd.minSvn ≤ m.upd.slotA.hdr.svn) : m.bootSelect ok = (m, some false) := by
  have hlive : ∀ l : List Bool, (l = [true, false] ∨ l = [false, true]) →
      (l.filter fun b => (m.fwSlot b).st == .active || (m.fwSlot b).st == .trial) = [false] := by
    rintro l (rfl | rfl) <;> simp [Mod.fwSlot, ha, hb]
  have htry : Mod.bootTry ok (m, none) false = (m, some false) := by
    simp [Mod.bootTry, Mod.fwSlot, ha, hok, hsvn]
  unfold Mod.bootSelect
  dsimp only
  rw [hlive]
  · exact htry
  · split
    · exact .inl rfl
    · exact .inr rfl

/-- A warm restart that completes on the slot that ran. -/
theorem warmRestartComplete_good (bootB : Bool) (m : Mod) (hwarm : m.plan.warm = true) (hver : m.upd.verifying = false) (ha : m.upd.slotA.st = .active)
    (hb : m.upd.slotB.st = .empty) (hrun : m.upd.runB = false) (hsvn : m.upd.minSvn ≤ m.upd.slotA.hdr.svn) :
    (warmRestartComplete true bootB m).plan =
      { m.plan with warm := false, sp0Ok := true, sp1Ok := decide (m.power.state ≠ .parked) } ∧
    (warmRestartComplete true bootB m).host.watches = [] ∧ (warmRestartComplete true bootB m).upd.runB = false ∧
    (warmRestartComplete true bootB m).upd.recovery = m.upd.recovery := by
  unfold warmRestartComplete
  rw [if_neg (by simp [hwarm])]
  dsimp only
  generalize hended : Mod.rvEnd _ = a
  have hsame : a.plan = m.plan ∧ a.power.state = m.power.state ∧ ∃ u x v, a.upd = { m.upd with usbUp := u, session := x, service := v } := by
    obtain ⟨x, v, hupd⟩ := Mod.rvEnd_upd (m.onUpd fun u => { u with usbUp := false })
    have hkept := Mod.rvEnd_within (m.onUpd fun u => { u with usbUp := false })
    rw [hended] at hupd hkept
    exact ⟨hkept.planEq (by decide), (hkept.powerFields (by decide)).1, _, x, v, hupd⟩
  obtain ⟨hplan, hstate, u, x, v, hupd⟩ := hsame
  have hvol := a.supVolatile_within
  have hvolatile : a.supVolatile.plan = m.plan ∧ a.supVolatile.power.state = m.power.state ∧
      a.supVolatile.upd = { m.upd with usbUp := u, session := x, service := v } ∧ a.supVolatile.host.watches = [] :=
    ⟨(hvol.planEq (by decide)).trans hplan, (hvol.powerFields (by decide)).1.trans hstate,
      (hvol.updEq (by decide)).trans hupd, rfl⟩
  rw [if_neg (by rw [hupd]; simp [hver])]
  generalize a.supVolatile = b at hvolatile ⊢
  obtain ⟨hplan, hstate, hupd, hwatches⟩ := hvolatile
  rw [Mod.bootSelect_of_active b _ (by rw [hupd]; exact ha) (by rw [hupd]; exact hb) rfl (by rw [hupd]; exact hsvn)]
  dsimp only
  rw [if_neg (by simp [hrun])]
  generalize htold : Mod.tellPartner _ 0 = c
  have hafter : c.plan = { m.plan with warm := false, sp0Ok := true, sp1Ok := decide (m.power.state ≠ .parked) } ∧ c.host.watches = [] ∧
      c.upd.recovery = m.upd.recovery := by
    have hkept := Mod.tellPartner_within (b.onPlan fun p => { p with warm := false, sp0Ok := true, sp1Ok := decide (b.power.state ≠ .parked) }) 0
    rw [htold] at hkept
    refine ⟨?_, ?_, ?_⟩
    · rw [hkept.planEq (by decide), (Mod.onPlan_fields ..).1, hplan, hstate]
    · rw [hkept.hostEq (by decide), (Mod.onPlan_fields ..).2.1, hwatches]
    · rw [hkept.updEq (by decide)]
      show b.upd.recovery = m.upd.recovery
      rw [hupd]
  exact ⟨hafter.1, hafter.2.1, rfl, hafter.2.2⟩

/-- Settles O10: a warm restart as it begins and as it ends on the slot that ran; a mailbox written and a mailbox crossed. -/
theorem supervisorRestarts : Obligations.SupervisorRestarts := by
  refine ⟨fun s p hon hp hwarm hrestart hstate hfew => ?lockstep, fun s hon hwarm hrestart hstate => ?watchdog,
    fun s bootB hon hwarm hver ha hb hrun hsvn => ?complete, fun s k ptr len type dom hsup hk => ?outbound,
    fun s k hsup hk hin hout hcross hlong => ?cross⟩
  case lockstep =>
    refine .on rfl (by simp [okTwo, hp]) hon ?_
    rw [lockstepMismatch_of_few p s.m hfew]
    have hnoted : Within [.plan] s.m (s.m.onPlan fun q => { q with
        lockstepAt := s.m.host.ms :: s.m.plan.lockstepAt.filter fun u => decide (s.m.host.ms - u < 3600000) }) :=
      .stepPlan (by decide) (fun _ => ⟨rfl, rfl, rfl⟩) (.refl ..)
    generalize ha : Mod.onPlan s.m _ = a at hnoted ⊢
    have hsame : a.power = s.m.power ∧ a.store = s.m.store ∧ a.plan = { s.m.plan with
        lockstepAt := s.m.host.ms :: s.m.plan.lockstepAt.filter fun u => decide (s.m.host.ms - u < 3600000) } := ha ▸ ⟨rfl, rfl, rfl⟩
    obtain ⟨hpower, hstore, hplan⟩ := hsame
    obtain ⟨hw, hc, h0, h1, hcause, hcount, hrecorded, hrunning, hmode⟩ := a.warmRestart_effect 6 (hpower ▸ hrestart) (hpower ▸ hstate)
      (by rw [hplan]; exact hwarm) rfl
    refine ⟨?_, hw, hc, h0, h1, hcause, hpower ▸ hcount, hrecorded.of_store hstore, ?_, ?_, ((Mod.warmRestart_within ..).step (by decide)
      (hnoted.mono (by decide))).only⟩
    · rw [(a.warmRestart_begins 6 (hpower ▸ hrestart) (hpower ▸ hstate) (by rw [hplan]; exact hwarm)).1, hplan]
    · rw [hrunning, hplan]
    · rw [hmode, hplan]
  case watchdog =>
    refine .on rfl rfl hon ?_
    obtain ⟨hw, hc, h0, h1, hcause, hcount, hrecorded, hrunning, hmode⟩ := s.m.warmRestart_effect 7 hrestart hstate hwarm rfl
    exact ⟨hw, hc, h0, h1, hcause, hcount, hrecorded, hrunning, hmode, (Mod.warmRestart_within ..).only⟩
  case complete =>
    refine .on rfl rfl hon ?_
    obtain ⟨hplan, hwatches, hrunB, hrec⟩ := warmRestartComplete_good bootB s.m hwarm hver ha hb hrun hsvn
    dsimp only
    rw [hplan]
    exact ⟨rfl, rfl, rfl, hwatches, hrunB, hrec, rfl, rfl⟩
  case outbound =>
    have hon : s.m.powered = true := Mod.powered_of_supRuns hsup
    refine .on rfl (by simp [okSlot, hk]) hon ?_
    have honly := (outboundMbxWrite_within k ptr len type dom s.m).only
    rw [outboundMbxWrite, if_pos (by simp [hsup, hk])] at honly ⊢
    have hmbx := s.m.mbxOut_mbx k ptr len type dom
    have hself := hmbx k
    rw [Mod.mbx_onMbx, if_pos rfl] at hself
    dsimp only
    rw [hself]
    refine ⟨rfl, rfl, rfl, rfl, rfl, rfl, rfl, rfl, fun j hj => ?_, honly⟩
    rw [hmbx, Mod.mbx_onMbx, if_neg hj]
  case cross =>
    have hon : s.m.powered = true := Mod.powered_of_supRuns hsup
    refine .on rfl (by simp [okSlot]; omega) hon ?_
    have honly := (mbxCrossTimeout_within k s.m).only
    have hmbx := mbxCrossTimeout_mbx hk hin hout hcross hlong
    have hself := hmbx k
    rw [Mod.mbx_onMbx, if_pos rfl] at hself
    dsimp only
    rw [hself]
    refine ⟨rfl, hin, hout, fun j hj => ?_, honly⟩
    rw [hmbx, Mod.mbx_onMbx, if_neg hj]

end Sys2Proof.Machine
end

section
/-! PROOF. The faults of the time base and of the safety cores, the clocks, and the delay of the master (R22-R39, R347, R362). -/

namespace Sys2Proof.Machine

theorem okTwo_of_lt {k : Nat} (h : k < 2) : okTwo k = true := by simp [okTwo, h]

/-- The first measurement of a clock out of tolerance is noted only. -/
theorem clockMeasurement_of_first (c : Nat) (ppm : Int) (m : Mod) (hc : c < 5) (hppm : 20000 < ppm.natAbs) (hfirst : m.plan.clkBad.getLsbD c = false) :
    clockMeasurement c ppm m = m.onPlan fun p => { p with clkBad := p.clkBad ||| BitVec.ofNat 5 (2 ^ c) } := by
  have hin : ¬ 4 < c := by omega
  simp [clockMeasurement, hin, hppm, hfirst]

@[simp] theorem Mod.ptp_onPtp_delayReq (m : Mod) (p : Nat) : ((m.onPtp p fun x => { x with delayReq := none }).time.ptp p).delayReq = none := by
  unfold Mod.onPtp Mod.onTime TimeSt.ptp
  split <;> rfl

/-- Of the time, a change of one port leaves all that is not a port. -/
theorem Mod.onPtp_time (m : Mod) (p : Nat) (f : PtpPort → PtpPort) : ∃ a b, (m.onPtp p f).time = { m.time with portA := a, portB := b } := by
  unfold Mod.onPtp Mod.onTime
  dsimp only
  split
  · exact ⟨_, _, rfl⟩
  · exact ⟨_, _, rfl⟩

section
variable {p : Nat} {f : PtpDelayResp} {q : PendDelay} {m : Mod} {a r : Int} (hreq : (m.time.ptp p).delayReq = some q) (hseq : q.seq = f.seq)
  (hus : f.forUs = true) (hparent : m.fromParent p f.domain f.source = true) (hpair : m.time.lastPair = some (a, r))
include hreq hseq hus hparent hpair

/-- A delay within the limit enters the mean. -/
theorem ptpDelayRespReceive_of_short {d : Int} {l : List Int}
    (hd : d = rnear ((((m.time.epoch + r - a) + ((f.t4 - corrNs f.corr + m.par (0xA00A + 48 * p)) - (m.time.epoch + (q.t3 + m.par (0xA00C + 48 * p)))) : Int) : Rat) / 2))
    (hmax : d ≤ m.par 0xA0DA) (hl : l = (d :: m.time.delays).take (m.parN 0xA0D9)) :
    ptpDelayRespReceive p f m = (m.onPtp p fun x => { x with delayReq := none }).onTime fun t =>
      { t with delays := l, delay := rnear (rdiv ((l.sum : Int) : Rat) (l.length : Rat)) } := by
  obtain ⟨pa, pb, htime⟩ := m.onPtp_time p fun x => { x with delayReq := none }
  unfold ptpDelayRespReceive
  rw [hreq]
  dsimp only
  rw [if_neg (by simp [hparent, hus, hseq]), htime, hpair]
  dsimp only
  subst hl hd
  exact if_neg (Int.not_lt.mpr hmax)

end

/-- Settles O11: each row's guard holds, and its one change is the stated one. -/
theorem timeBaseFaults : Obligations.TimeBaseFaults := by
  refine ⟨fun s hfab hfirst hmissed => ?pulse, fun s cause hon hcause hstops => ?core, fun s cause hon hlo hhi => ?critical,
    fun s c ppm hon hc hppm hfirst => ?clock, fun s n hfab hn => ?unlockLink, fun s n e hfab hn => ?unlockEnd, fun s n e hfab hn => ?lockEnd,
    fun s n inv hfab hn => ?lockLink, fun s p f q a r d t3 t4 l hsup hp hreq hseq hus hparent hpair ht3 ht4 hd hmax hl => ?response,
    fun s p t3 hsup hp hon hbest hdue => ?request⟩
  case pulse =>
    refine .fab rfl rfl hfab ?_
    unfold grainPulseTimeout
    rw [if_neg (by simp [hfirst, hmissed])]
  case core =>
    refine .on rfl (by simp [okCore]; omega) hon ?_
    unfold safetyCoreFault
    rw [if_neg (Nat.not_le.mpr hcause), if_neg (by simpa using hstops)]
  case critical =>
    refine .on rfl (by simp [okCore, hhi]) hon ?_
    unfold safetyCoreFault
    rw [if_pos hlo, Mod.criticalFault]
    have hne : (!(cause == 2)) = decide (cause ≠ 2) := by by_cases h : cause = 2 <;> simp [h]
    rw [hne]
  case clock =>
    refine .on rfl (by simp [okClock, hc]) hon ?_
    rw [clockMeasurement_of_first c ppm s.m hc hppm hfirst]
  case unlockLink =>
    refine .fab rfl (okString_of_lt hn) hfab ?_
    simp [recoveredClockUnlock, Nat.not_le.mpr hn]
  case unlockEnd =>
    refine .fab rfl (okString_of_lt hn) hfab ?_
    simp [recoveredClockUnlock, Nat.not_le.mpr hn]
  case lockEnd =>
    refine .fab rfl (okString_of_lt hn) hfab ?_
    unfold recoveredClockLock
    dsimp only
    rw [if_neg (Nat.not_le.mpr hn)]
    cases e <;> rfl
  case lockLink =>
    refine .fab rfl (okString_of_lt hn) hfab ?_
    simp [recoveredClockLock, Nat.not_le.mpr hn]
  case response =>
    refine .sup rfl (okTwo_of_lt hp) hsup ?_
    have hd' : d = rnear ((((s.m.time.epoch + r - a) + ((f.t4 - corrNs f.corr + s.m.par (0xA00A + 48 * p)) -
        (s.m.time.epoch + (q.t3 + s.m.par (0xA00C + 48 * p)))) : Int) : Rat) / 2) := by
      rw [hd, ht3, ht4, Int.add_assoc s.m.time.epoch q.t3]
    rw [ptpDelayRespReceive_of_short hreq hseq hus hparent hpair hd' hmax hl]
    obtain ⟨pa, pb, htime⟩ := s.m.onPtp_time p fun x => { x with delayReq := none }
    refine ⟨rfl, rfl, s.m.ptp_onPtp_delayReq p, ?_, ?_, ?_, ((Mod.onTime_within ..).step (by decide) ((Mod.onPtp_within ..).mono (by decide))).only⟩
    all_goals
      rw [(Mod.onTime_fields ..).1, htime]
  case request =>
    refine .sup rfl (okTwo_of_lt hp) hsup ?_
    have hdelay : s.m.delayDue p = true := by
      unfold Mod.delayDue
      cases hms : (s.m.time.ptp p).reqMs with
      | none => rfl
      | some u => exact decide_eq_true (hdue u hms)
    unfold delayReqSend
    rw [if_neg (by simp [hon, hdelay, Option.isSome_iff_ne_none.mp hbest])]

end Sys2Proof.Machine
end

section
/-! PROOF. The converter links: frames, training, alignment, loss and trip (R229-R239, R245). -/

namespace Sys2Proof.Machine

/-- In a module that acts, the row of a port is the row of its link. -/
theorem Mod.viaPort_acts (m : Mod) (f : Mod → Mod) (h : m.standby = false) : m.viaPort f = f m := by
  simp [Mod.viaPort, h]

/-- The frame of a link that takes frames, when it is discarded. -/
theorem upstreamFrame_of_discarded (n : Nat) (f : UpFrame) (m : Mod) (hact : m.standby = false) (hconv : (m.convDef? n).isSome = true)
    (hst : (m.link n).st ≠ .dark) (hbad : f.good = false) :
    upstreamFrame n f m = m.onLink n fun k => { k with missed := stopAt 0xFFFF (k.missed + 1), missRun := k.missRun + 1, goodRun := 0 } := by
  simp [upstreamFrame, hbad, Mod.viaPort_acts _ _ hact, Mod.takeFrame, Option.isSome_iff_ne_none.mp hconv, hst]

/-- What an accepted frame says of a link that is being trained. -/
def Link.trainedBy (k : Link) (f : UpFrame) : Link :=
  if !k.training then k
  else { k with
    trainErrs := if k.fibreDelay.isNone && decide (k.trainErrs.length < 16) then k.trainErrs ++ [f.err] else k.trainErrs
    goodRun := if k.fibreDelay.isSome && decide (f.err.natAbs ≤ 40) then k.goodRun + 1 else 0 }

/-- What an accepted frame says of its link, with the sum of its currents. -/
def Link.heardFrom (k : Link) (f : UpFrame) (sum : Int) : Link :=
  { k with
    missRun := 0, badRun := 0, lost := false, rampTicks := none, fstate := f.fstate, conflict := f.conflict, fault := f.fault, vStr := f.vString
    vBus := f.vBus, tHs := f.tHs, enabled := f.enabled, sampleNew := k.sampleNew || !f.carrierStart
    holds := stopAt 0xFFFF (k.holds + b2n (f.fstate == 4 && k.fstate != 4))
    iSum := if !f.carrierStart then sum else k.iSum, iAcc := if !f.carrierStart then k.iAcc + sum else k.iAcc, iAccN := k.iAccN + b2n (!f.carrierStart) }

theorem Link.trainedBy_kept (k : Link) (f : UpFrame) :
    (k.trainedBy f).st = k.st ∧ (k.trainedBy f).regAcc = k.regAcc ∧ (k.trainedBy f).missed = k.missed := by
  unfold Link.trainedBy
  split <;> exact ⟨rfl, rfl, rfl⟩

/-- A far end without a fault bit calls for no reaction. -/
theorem Mod.faultReact_none (m : Mod) (n : Nat) : m.faultReact n 0 = m := by
  have hnone : ∀ i, (0 : W16).getLsbD i = false := fun i => by simp
  unfold Mod.faultReact
  simp only [hnone, Bool.or_self, Bool.false_and, Bool.false_eq_true, if_false]
  exact Mod.each_rel (R := fun a b => b = a) (fun _ => rfl) (fun h k => k.trans h) m _ fun _ _ => rfl

/-- The samples of a frame change phases alone. -/
theorem Mod.takeSamples_links (m : Mod) (n : Nat) (f : UpFrame) : (m.takeSamples n f).conv.links = m.conv.links := by
  unfold Mod.takeSamples
  exact Mod.each_keeps (fun m : Mod => m.conv.links) _ _ _ fun m p => by rfl

/-- An accepted frame of a link that is OFF and reads no register. -/
theorem takeFrame_of_accepted (m : Mod) (n : Nat) (f : UpFrame) (hconv : (m.convDef? n).isSome = true) (hst : (m.link n).st = .off)
    (hgood : f.good = true) (herr : f.err.natAbs ≤ 80) (hnone : (m.link n).regAcc = none) (hfault : f.fault = 0) :
    ∃ sum, m.takeFrame n f true = ((m.onLink n fun k => k.trainedBy f).onLink n fun k => k.heardFrom f sum).takeSamples n f := by
  obtain ⟨hst', hacc', -⟩ := (m.link n).trainedBy_kept f
  refine ⟨((List.range ((m.onLink n fun k => k.trainedBy f).nPh n)).map fun p => 10 * f.iPh.getD p 0).sum, ?_⟩
  generalize hm : Mod.takeSamples _ n f = m'
  have hlink : m'.link n = ((m.link n).trainedBy f).heardFrom f
      ((List.range ((m.onLink n fun k => k.trainedBy f).nPh n)).map fun p => 10 * f.iPh.getD p 0).sum := by
    rw [← hm, Mod.link, Mod.takeSamples_links]
    simp [Mod.onLink, Mod.link]
  have hoff : (m'.link n).st = .off := by
    rw [hlink]
    exact hst'.trans hst
  have hacc : (m'.link n).regAcc = none := by
    rw [hlink]
    exact hacc'.trans hnone
  unfold Link.heardFrom Link.trainedBy at hm
  unfold Mod.takeFrame
  dsimp only at hm ⊢
  rw [if_neg (by simp [Option.isSome_iff_ne_none.mp hconv, hst]), if_neg (by simp [hgood]), if_neg (Nat.not_lt.mpr herr), if_pos rfl]
  rw [hm, hfault, Mod.faultReact_none, hacc]
  dsimp only
  rw [if_neg (by simp [hoff]), if_neg (by simp [hoff])]

/-- An accepted frame of a module that acts, as its links show it. -/
theorem upstreamFrame_of_accepted (n : Nat) (f : UpFrame) (m : Mod) (hact : m.standby = false) (hconv : (m.convDef? n).isSome = true)
    (hst : (m.link n).st = .off) (hlock : m.plan.klnkLock.getLsbD n = true) (hgood : f.good = true) (herr : f.err.natAbs ≤ 80)
    (hnone : (m.link n).regAcc = none) (hfault : f.fault = 0) :
    ∃ sum, (upstreamFrame n f m).conv.links = ((m.onLink n fun k => k.trainedBy f).onLink n fun k => k.heardFrom f sum).conv.links := by
  have hframe : ({ f with good := f.good && m.plan.klnkLock.getLsbD n } : UpFrame) = f := by
    rw [hlock, Bool.and_true]
  obtain ⟨sum, htaken⟩ := takeFrame_of_accepted m n f hconv hst hgood herr hnone hfault
  refine ⟨sum, ?_⟩
  refine Eq.trans ?_ (Mod.takeSamples_links _ n f)
  rw [← htaken]
  unfold upstreamFrame
  dsimp only
  rw [hframe, hact, Mod.viaPort_acts _ _ hact, Bool.not_false]
  split
  · rw [(Mod.capture_within ..).convEq (by decide)]
  · rfl

theorem measureDelay_of_trained (m : Mod) (n : Nat) (hst : (m.link n).st = .training) (haligned : (m.link n).aligned = false)
    (hnone : (m.link n).fibreDelay = none) (hfull : (m.link n).trainErrs.length = 16) {fd : Nat}
    (hfd : fd = (rnear (((m.link n).trainErrs.sum : Rat) / 64)).toNat) :
    m.measureDelay n = if 280 < fd then ((m.post 0x5002 n bLink (leN 2 fd)).linkTo n .fault).onLink n fun k => { k with faultFromTraining := true }
      else m.onLink n fun k => { k with fibreDelay := some fd, goodRun := 0 } := by
  have hmean : (((m.link n).trainErrs.sum : Int) : Rat) / ((m.link n).trainErrs.length : Rat) / 4 = ((m.link n).trainErrs.sum : Rat) / 64 := by
    rw [hfull, div_div]
    norm_num
  unfold Mod.measureDelay
  dsimp only
  rw [if_neg (by simp [Link.training, haligned, hst, hnone, hfull]), hmean, ← hfd]
  split
  · rw [if_neg (by simp [hst])]
  · rfl

theorem nowAligned_of_good (m : Mod) (n : Nat) (hst : (m.link n).st = .training) (haligned : (m.link n).aligned = false)
    (hdelay : (m.link n).fibreDelay.isSome = true) (hgood : 100 ≤ (m.link n).goodRun) :
    m.nowAligned n = m.onLink n fun k =>
      { k with aligned := true, badRun := 0, ident := [], regAcc := identRegs.head?, regQueue := identRegs.drop 1 } :=
  if_pos (by simp [Link.training, haligned, hst, hdelay, hgood])

/-- Whether a link is lost into LOCAL_RAMP. -/
theorem Link.takes_localRamp (k : Link) :
    k.takes LinkState.running .localRamp = (k.st.running || (k.stGrain.running && decide (k.st.ctorIdx < 7))) := rfl

/-- Settles O13: a module that acts runs each row on its links; the state of the link says which branch is taken. -/
theorem linkFrames : Obligations.LinkFrames := by
  refine ⟨fun s n f hfab hn hact hconv hst hbad => ?discarded, fun s n f hfab hn hact hconv hst hlock hgood herr hnone hfault => ?accepted,
    fun s n hfab hn hact hst haligned hnone hfull => ?delay, fun s n hfab hn hact hst haligned hdelay hgood => ?aligned,
    fun s n hfab hn hact hbad hst hswitch => ?unalignedRun, fun s n hfab hn hact hbad hst hbegan => ?unalignedOff,
    fun s n hfab hn hact hmiss hst => ?lostRun, fun s n hfab hn hact hmiss hst hlost => ?lostRamp,
    fun s n hfab hn hact hmiss hst hbegan => ?lostBegan, fun s n hfab hn hact hmiss hst hbegan => ?lostOff,
    fun s n u hacts hn hramp hu hst hmiss => ?timeout, fun s n a hfab hn hact hacc hwait => ?register,
    fun s n hfab hn hact hdark htripped hticks => ?trip⟩
  case discarded =>
    refine .fab rfl (okString_of_lt hn) hfab ?_
    rw [upstreamFrame_of_discarded n f s.m hact hconv hst hbad]
  case accepted =>
    refine .fab rfl (okString_of_lt hn) hfab ?_
    have honly := (upstreamFrame_within n f s.m).only
    obtain ⟨sum, hframe⟩ := upstreamFrame_of_accepted n f s.m hact hconv hst hlock hgood herr hnone hfault
    obtain ⟨-, -, hmissed⟩ := (s.m.link n).trainedBy_kept f
    have hlink : ∀ k, (upstreamFrame n f s.m).link k = ((s.m.onLink n fun k => k.trainedBy f).onLink n fun k => k.heardFrom f sum).link k := fun k => by
      rw [Mod.link, hframe]
      rfl
    have hself := hlink n
    rw [Mod.link_onLink, if_pos rfl, Mod.link_onLink, if_pos rfl] at hself
    dsimp only
    rw [hself]
    refine ⟨rfl, rfl, rfl, rfl, hfault, rfl, rfl, rfl, rfl, hmissed, fun k hk => ?_, honly⟩
    rw [hlink, Mod.link_onLink, if_neg hk, Mod.link_onLink, if_neg hk]
  case delay =>
    refine .fab rfl (okString_of_lt hn) hfab ?_
    have honly := (fibreDelayMeasure_within n s.m).only
    rw [fibreDelayMeasure, Mod.viaPort_acts _ _ hact, measureDelay_of_trained s.m n hst haligned hnone hfull rfl] at honly ⊢
    refine ⟨?_, honly⟩
    split <;> rfl
  case aligned =>
    refine .fab rfl (okString_of_lt hn) hfab ?_
    rw [linkAligned, Mod.viaPort_acts _ _ hact, nowAligned_of_good s.m n hst haligned hdelay hgood]
  case unalignedRun =>
    refine .fab rfl (okString_of_lt hn) hfab ?_
    rw [alignmentLost, Mod.viaPort_acts _ _ hact]
    simp [Mod.unaligned, Nat.not_lt.mpr hbad, hst, LinkState.running, hswitch]
  case unalignedOff =>
    refine .fab rfl (okString_of_lt hn) hfab ?_
    rw [alignmentLost, Mod.viaPort_acts _ _ hact]
    simp [Mod.unaligned, Nat.not_lt.mpr hbad, hst, hbegan]
    rfl
  case lostRun =>
    refine .fab rfl (okString_of_lt hn) hfab ?_
    rw [klinkLost, Mod.viaPort_acts _ _ hact]
    simp [Mod.linkLost, Nat.not_lt.mpr hmiss, hst, Link.takes_localRamp, LinkState.running]
    rfl
  case lostRamp =>
    refine .fab rfl (okString_of_lt hn) hfab ?_
    rw [klinkLost, Mod.viaPort_acts _ _ hact]
    have hstays : (s.m.link n).takes LinkState.running .localRamp = false := by
      rw [Link.takes_localRamp, hst]
      exact Bool.and_false _
    simp [Mod.linkLost, Nat.not_lt.mpr hmiss, hst, hstays, hlost]
    rfl
  case lostBegan =>
    refine .fab rfl (okString_of_lt hn) hfab ?_
    rw [klinkLost, Mod.viaPort_acts _ _ hact]
    simp [Mod.linkLost, Nat.not_lt.mpr hmiss, hst, Link.takes_localRamp, hbegan]
    rfl
  case lostOff =>
    refine .fab rfl (okString_of_lt hn) hfab ?_
    rw [klinkLost, Mod.viaPort_acts _ _ hact]
    simp [Mod.linkLost, Nat.not_lt.mpr hmiss, hst, Link.takes_localRamp, hbegan]
    rfl
  case timeout =>
    refine .lgc rfl (okString_of_lt hn) hacts ?_
    unfold localRampTimeout
    rw [hramp]
    dsimp only
    rw [if_pos (by simp [hu, hst, hmiss])]
  case register =>
    refine .fab rfl (okString_of_lt hn) hfab ?_
    rw [regTimeout, Mod.viaPort_acts _ _ hact, Mod.regExpiry, hacc]
    dsimp only
    rw [if_pos hwait]
  case trip =>
    refine .fab rfl (okString_of_lt hn) hfab ?_
    rw [tripRequestRow, if_neg (Nat.not_le.mpr hn), if_neg (by simp [hact])]
    unfold Mod.tripRequest
    simp only [hticks, decide_true, if_true, hdark, htripped, or_self, if_false]
    rfl

end Sys2Proof.Machine
end

section
/-! PROOF. The states of a phase, and the stops of a link (R244-R250). -/

namespace Sys2Proof.Machine

theorem okPhase_of_lt {n p : Nat} (hn : n < 32) (hp : p < 6) : okPhase n p = true := by
  simp [okPhase, okString_of_lt hn, hp]

/-- Of two phases or more that are able, one stays so whatever becomes of another. -/
theorem Mod.nOk_onPhase_pos (m : Mod) (n p : Nat) (f : Phase → Phase) (h : 2 ≤ m.nOk n) : (m.onPhase n p f).nOk n ≠ 0 := by
  have hconv : (m.onPhase n p f).convDef? n = m.convDef? n := rfl
  unfold Mod.nOk at h ⊢
  rw [hconv]
  cases hd : m.convDef? n with
  | none => simp [hd] at h
  | some d =>
    rw [hd] at h
    dsimp only at h ⊢
    have hpos : 0 < (((List.range d.phases).filter fun q => decide ((m.phase n q).st ≠ .latched ∧ (m.phase n q).st ≠ .hiccup)).erase p).length := by
      rw [List.length_erase]
      split <;> omega
    obtain ⟨q, hq⟩ := List.exists_mem_of_length_pos hpos
    obtain ⟨hne, hq⟩ := ((List.nodup_range.filter _).mem_erase_iff).1 hq
    refine Nat.ne_of_gt (List.length_pos_of_mem (a := q) ?_)
    have hphase : (m.onPhase n p f).phase n q = m.phase n q := by
      rw [Mod.phase_onPhase, if_neg (by omega)]
    rw [List.mem_filter, hphase]
    exact List.mem_filter.1 hq

theorem Mod.phase_onLink (m : Mod) (n k p : Nat) (f : Link → Link) : (m.onLink n f).phase k p = m.phase k p := rfl

/-- A phase limited too often, with retries left, in a link with another phase able. -/
theorem hiccupEntry_of_retries (n p : Nat) (m : Mod) (hst : (m.phase n p).st = .active ∨ (m.phase n p).st = .soft)
    (hrun : m.parN 0x5031 ≤ (m.phase n p).climRun) (hpos : 0 < (m.phase n p).climRun) (hleft : (m.phase n p).retries < m.parN 0x5033)
    (hok : 2 ≤ m.nOk n) :
    hiccupEntry n p m = (m.onPhase n p fun x =>
      { x with st := .hiccup, timer := 0, climRun := 0, cleanTicks := 0, xp := 0, followRun := 0, openRun := 0, devRun := 0 }).onLink n fun k =>
        { k with respread := true } := by
  have hable : ∀ a : Mod, a.nOk n = ((a.onLink n fun k => { k with respread := true })).nOk n := fun _ => rfl
  have hleaves := m.nOk_onPhase_pos n p (fun x =>
    { x with st := .hiccup, timer := 0, climRun := 0, cleanTicks := 0, xp := 0, followRun := 0, openRun := 0, devRun := 0 }) hok
  rw [hable] at hleaves
  have hstate : (decide ((m.phase n p).st = .active) || decide ((m.phase n p).st = .soft)) = true := by simpa using hst
  unfold hiccupEntry
  dsimp only
  rw [if_pos (by simp only [hstate, hrun, hpos, decide_true, Bool.and_self]), if_pos hleft, if_neg (by simp [hleaves])]

/-- Settles O14: the state and the timer of the phase decide each row. -/
theorem phaseStates : Obligations.PhaseStates := by
  refine ⟨fun s n p hacts hn hp hst hshed hadd hticks => ?arm, fun s n p hacts hn hp hst hrun hpos hleft hok => ?hiccup,
    fun s n p hacts hn hp hst hrun hpos hnone => ?used, fun s n p hacts hn hp hst htimer => ?soft, fun s n p hacts hn hp hretries hclean => ?clean,
    fun s n p hacts hn hp hsw hopen => ?openPhase, fun s n p hacts hn hp hst hdev htwo => ?mirror, fun s n p hacts hn hp hst hdev hfew => ?latch,
    fun s n p hacts hn hp hst htimer => ?mirrored, fun s n p hacts hn hp hsw hfollow => ?follow⟩
  case arm =>
    refine .lgc rfl (okPhase_of_lt hn hp) hacts ?_
    simp [armTimerExpiry, hst, hshed, hadd, hticks]
  case hiccup =>
    refine .lgc rfl (okPhase_of_lt hn hp) hacts ?_
    rw [hiccupEntry_of_retries n p s.m hst hrun hpos hleft hok]
    refine ⟨?_, ?_, ?_, ?_, by simp, fun q _ hq => ?_⟩
    all_goals
      rw [Mod.phase_onLink, Mod.phase_onPhase]
      simp
    omega
  case used =>
    refine .lgc rfl (okPhase_of_lt hn hp) hacts ?_
    simp [hiccupEntry, hst, hrun, hpos, Nat.not_lt.mpr hnone]
  case soft =>
    refine .lgc rfl (okPhase_of_lt hn hp) hacts ?_
    simp [hiccupTimeExpiry, hst, htimer]
  case clean =>
    refine .lgc rfl (okPhase_of_lt hn hp) hacts ?_
    simp [hiccupClearExpiry, hretries, hclean]
  case openPhase =>
    refine .lgc rfl (okPhase_of_lt hn hp) hacts ?_
    simp [phaseOpenDetect, hsw, hopen]
  case mirror =>
    refine .lgc rfl (okPhase_of_lt hn hp) hacts ?_
    unfold phaseSenseFail
    dsimp only
    rw [if_pos (by simp [hst, hdev]), if_neg (Nat.not_lt.mpr htwo)]
  case latch =>
    refine .lgc rfl (okPhase_of_lt hn hp) hacts ?_
    unfold phaseSenseFail
    dsimp only
    rw [if_pos (by simp [hst, hdev]), if_pos hfew]
  case mirrored =>
    refine .lgc rfl (okPhase_of_lt hn hp) hacts ?_
    simp [mirrorTimeout, hst, htimer]
  case follow =>
    refine .lgc rfl (okPhase_of_lt hn hp) hacts ?_
    simp [phaseFollowLatch, hsw, hfollow]

theorem Mod.onPhase_congr {m : Mod} {n p : Nat} {f g : Phase → Phase} (h : f (m.phase n p) = g (m.phase n p)) : m.onPhase n p f = m.onPhase n p g :=
  congrArg (fun t => ({ m with conv := { m.conv with phases := t } } : Mod)) (tmod_congr h)

/-- A bit that is set stays so, and changes nothing more. -/
theorem or_bit_of_set {w : Nat} {x : BitVec w} {b : Nat} (h : x.getLsbD b = true) : x ||| BitVec.ofNat w (2 ^ b) = x := by
  refine BitVec.eq_of_getLsbD_eq fun i hi => ?_
  rw [BitVec.getLsbD_or, BitVec.getLsbD_ofNat, Nat.testBit_two_pow]
  by_cases hb : b = i
  · subst hb
    simp [h]
  · simp [hb]

/-- A flag of KLNK_SAT set, whether or not it was before, changes its link alone. -/
theorem Mod.satIf_effect (m : Mod) (n b : Nat) :
    (m.satIf n b true).link n = { m.link n with sat := (m.link n).sat ||| BitVec.ofNat 12 (2 ^ b) } ∧
    (∀ k ≠ n, (m.satIf n b true).link k = m.link k) ∧ (m.satIf n b true).conv.phases = m.conv.phases ∧ (m.satIf n b true).host = m.host ∧
    (m.satIf n b true).store = m.store := by
  unfold Mod.satIf
  split
  · exact ⟨(Mod.onLink_fields ..).1, fun k hk => by rw [Mod.link_onLink, if_neg hk], rfl, rfl, rfl⟩
  · next h =>
    have hset : (m.link n).sat.getLsbD b = true := by simpa using h
    exact ⟨by rw [or_bit_of_set hset], fun _ _ => rfl, rfl, rfl, rfl⟩

/-- What a change of the offsets of phases leaves alone. -/
structure OffsetsOnly (a b : Mod) : Prop where
  state : ∀ k p, (b.phase k p).st = (a.phase k p).st
  shed : ∀ k p, (b.phase k p).armShed = (a.phase k p).armShed
  links : b.conv.links = a.conv.links
  plan : b.plan = a.plan

theorem OffsetsOnly.refl (a : Mod) : OffsetsOnly a a := ⟨fun _ _ => rfl, fun _ _ => rfl, rfl, rfl⟩

theorem OffsetsOnly.trans {a b c : Mod} (h : OffsetsOnly a b) (k : OffsetsOnly b c) : OffsetsOnly a c :=
  ⟨fun i p => (k.state i p).trans (h.state i p), fun i p => (k.shed i p).trans (h.shed i p), k.links.trans h.links, k.plan.trans h.plan⟩

theorem OffsetsOnly.onPhase (m : Mod) (n p off : Nat) : OffsetsOnly m (m.onPhase n p fun x => { x with offset := off, keptOffset := false }) := by
  refine ⟨fun k q => ?_, fun k q => ?_, rfl, rfl⟩
  all_goals
    rw [Mod.phase_onPhase]
    split
    · next h => simp only [Mod.phase, h]
    · rfl

/-- A spread of the offsets of a link changes no state of a phase, and of the link that a spread is due. -/
theorem Mod.spread_effect (m : Mod) (n : Nat) :
    ∃ a : Mod, OffsetsOnly m a ∧ m.spread n = a.onLink n fun k => { k with respread := false } :=
  ⟨_, Mod.each_rel .refl .trans m _ fun _ _ => .onPhase .., rfl⟩

/-- A soft stop of a link that runs. -/
theorem Mod.softStop_of_run (m : Mod) (n : Nat) (toFault : Bool) (hst : (m.link n).st = .run) :
    m.softStop n toFault = m.onLink n fun k =>
      { k with st := .softStop, stopToFault := toFault, stopMs := m.host.ms, stopRun := 0, prune := none } := by
  unfold Mod.softStop
  dsimp only
  rw [hst]

theorem stringFollowStop_of_run (n : Nat) (m : Mod) (hst : (m.link n).st = .run) (hfollow : m.parN 0x5043 ≤ (m.link n).followSt) :
    stringFollowStop n m = ((m.satIf n 10 true).softStop n true).onLink n fun k => { k with strFollow := true, followSt := 0 } := by
  simp [stringFollowStop, hst, LinkState.running, hfollow]

theorem powerFollowFlag_of_run (n : Nat) (m : Mod) (hst : (m.link n).st = .run) (hfollow : m.parN 0x5045 ≤ (m.link n).followPw) :
    powerFollowFlag n m = ((m.satIf n 11 true).onLink n fun k => { k with followPw := 0 }).post 0x5006 n bLink
      (leI 4 (rnear (m.link n).pRef) ++ leI 4 (rnear (m.link n).pMeas)) := by
  simp [powerFollowFlag, hst, LinkState.running, hfollow]

/-- What the entry into BURST makes of a phase. -/
def Phase.bursts (x : Phase) (chosen : Bool) (duty : Nat) : Phase :=
  if chosen then x.join duty else if x.st = .active then x.shed else if x.st = .armed then { x with addPending := false } else x

/-- A link in a BURST of one phase. -/
def Link.bursting (k : Link) (b ms left : Nat) : Link :=
  { k with st := .burst, burstPhase := b, burstMs := ms, burstLeft := left, burstSleep := false, burstRun := 0, prune := none }

theorem burstEntry_of_run (n b : Nat) (m : Mod) (hst : (m.link n).st = .run) (hrun : 100 ≤ (m.link n).burstRun) (hpar : m.par 0x5010 ≠ 0)
    (hpick : m.burstPick n = some b) :
    burstEntry n m = ((m.each (List.range (m.nPh n)) fun a p => a.onPhase n p fun x => x.bursts (decide (p = b)) (m.link n).dutyFf).onLink n fun k =>
      k.bursting b m.host.ms (m.parN 0x5012 + 1)).spread n := by
  unfold burstEntry
  dsimp only
  rw [if_neg (by simp [hst, Nat.not_lt.mpr hrun, hpar]), hpick]
  simp only [Phase.bursts, decide_eq_true_eq]
  generalize hphases : Mod.each m _ _ = a
  have hinputs : SameInputs m a := hphases ▸ Mod.each_rel .refl .trans m _ fun _ _ => ⟨rfl, rfl, rfl, rfl⟩
  rw [hinputs.host, Mod.parN, hinputs.par]
  rfl

/-- A change of several phases of a link: each named is changed by its own, and the links stay. -/
theorem Mod.each_onPhase (m : Mod) (n : Nat) (g : Nat → Phase → Phase) (l : List Nat) (hl : l.Nodup) :
    (∀ p ∈ l, (m.each l fun a p => a.onPhase n p (g p)).phase n p = g p (m.phase n p)) ∧
    (∀ p, p ∉ l → (m.each l fun a p => a.onPhase n p (g p)).phase n p = m.phase n p) ∧
    (m.each l fun a p => a.onPhase n p (g p)).conv.links = m.conv.links := by
  induction l generalizing m with
  | nil => exact ⟨fun p hp => (by cases hp), fun _ _ => rfl, rfl⟩
  | cons x l ih =>
    rw [List.nodup_cons] at hl
    obtain ⟨hin, hout, hlinks⟩ := ih (m.onPhase n x (g x)) hl.2
    have hone : ∀ p, (m.onPhase n x (g x)).phase n p = if p = x then g x (m.phase n x) else m.phase n p := fun p => by
      rw [Mod.phase_onPhase]
      simp only [Nat.add_left_cancel_iff]
    have heach : m.each (x :: l) (fun a p => a.onPhase n p (g p)) = (m.onPhase n x (g x)).each l fun a p => a.onPhase n p (g p) := rfl
    rw [heach]
    refine ⟨fun p hp => ?_, fun p hp => ?_, hlinks⟩
    · rcases List.mem_cons.1 hp with rfl | hp
      · rw [hout p hl.1, hone, if_pos rfl]
      · rw [hin p hp, hone, if_neg fun h => hl.1 (by rwa [← h])]
    · rw [List.mem_cons, not_or] at hp
      rw [hout p hp.2, hone, if_neg hp.1]

/-- In a burst, none but its phase switches. -/
theorem Mod.acts_of_burst (m : Mod) (n b : Nat) (hst : (m.link n).st = .burst) (hb : (m.link n).burstPhase = b) : ∀ p ∈ m.acts n, p = b := by
  intro p hp
  simp only [Mod.acts, List.mem_filter, Bool.and_eq_true, Link.lets, hst, hb] at hp
  simpa using hp.2.2

/-- The link and the phases after a spread that ends a change of one link. -/
theorem Mod.spread_link (m : Mod) (n : Nat) :
    (m.spread n).link n = { m.link n with respread := false } ∧ (∀ k ≠ n, (m.spread n).link k = m.link k) ∧
    (∀ k p, ((m.spread n).phase k p).st = (m.phase k p).st ∧ ((m.spread n).phase k p).armShed = (m.phase k p).armShed) := by
  obtain ⟨a, hkept, hspread⟩ := m.spread_effect n
  have hlink : ∀ k, a.link k = m.link k := fun k => congrArg (fun t : Tab Link => tget t k) hkept.links
  rw [hspread]
  refine ⟨?_, fun k hk => ?_, fun k p => ⟨hkept.state k p, hkept.shed k p⟩⟩
  · rw [Mod.link_onLink, if_pos rfl, hlink]
  · rw [Mod.link_onLink, if_neg hk, hlink]

theorem burstPhaseReselect_of_burst (n b : Nat) (m : Mod) (hst : (m.link n).st = .burst) (hold : 10000 ≤ m.host.ms - (m.link n).burstMs)
    (hpick : m.burstPick n = some b) :
    ∃ a : Mod, a.conv.links = (m.onLink n fun k => { k with burstMs := m.host.ms, burstPhase := b }).conv.links ∧
      (burstPhaseReselect n m = a ∨ burstPhaseReselect n m = a.spread n) := by
  unfold burstPhaseReselect
  dsimp only
  rw [if_neg (by simp [hst, Nat.not_lt.mpr hold]), hpick]
  dsimp only
  split
  · refine ⟨_, ?_, .inl rfl⟩
    rfl
  · refine ⟨_, ?_, .inr rfl⟩
    rfl

/-- Settles O15: what a stop, a burst and a pruning decision make of the link and of its phases. -/
theorem linkStops : Obligations.LinkStops := by
  refine ⟨fun s n hacts hn hst hfollow => ?string, fun s n hacts hn hst hfollow => ?power, fun s n hacts hn hst hrun => ?stopped,
    fun s n hacts hn hst hlate => ?late, fun s n b hacts hn hst hrun hpar hpick => ?burst, fun s n b hacts hn hst hold hpick => ?reselect,
    fun s n x hacts hn hprune hold hshed hst => ?shed, fun s n x hacts hn hprune hold hadd hst => ?add⟩
  case string =>
    refine .lgc rfl (okString_of_lt hn) hacts ?_
    have honly := (stringFollowStop_within n s.m).only
    obtain ⟨hself, hother, hphases, hhost, -⟩ := s.m.satIf_effect n 10
    have hstill : ((s.m.satIf n 10 true).link n).st = .run := by rw [hself]; exact hst
    rw [stringFollowStop_of_run n s.m hst hfollow, Mod.softStop_of_run _ _ _ hstill] at honly ⊢
    dsimp only
    rw [Mod.link_onLink, if_pos rfl, Mod.link_onLink, if_pos rfl, hself]
    refine ⟨rfl, rfl, congrArg HostSt.ms hhost, rfl, rfl, rfl, fun k hk => ?_, hphases, honly⟩
    rw [Mod.link_onLink, if_neg hk, Mod.link_onLink, if_neg hk, hother k hk]
  case power =>
    refine .lgc rfl (okString_of_lt hn) hacts ?_
    have honly := (powerFollowFlag_within n s.m).only
    obtain ⟨hself, hother, hphases, -, hstore⟩ := s.m.satIf_effect n 11
    rw [powerFollowFlag_of_run n s.m hst hfollow] at honly ⊢
    generalize hcleared : Mod.onLink (s.m.satIf n 11 true) n _ = a at honly ⊢
    have hlink : ∀ k, (a.post 0x5006 n bLink (leI 4 (rnear (s.m.link n).pRef) ++ leI 4 (rnear (s.m.link n).pMeas))).link k =
        ((s.m.satIf n 11 true).onLink n fun k => { k with followPw := 0 }).link k := fun k => by
      rw [Mod.link, (Mod.post_within ..).convEq (by decide), ← hcleared]
      rfl
    dsimp only
    rw [hlink, Mod.link_onLink, if_pos rfl, hself]
    refine ⟨rfl, rfl, hst, ?_, fun k hk => ?_, ?_, honly⟩
    · exact (Mod.post_recorded ..).of_store (by rw [← hcleared]; exact hstore)
    · rw [hlink, Mod.link_onLink, if_neg hk, hother k hk]
    · rw [(Mod.post_within ..).convEq (by decide), ← hcleared]
      exact hphases
  case stopped =>
    refine .lgc rfl (okString_of_lt hn) hacts ?_
    have htakes : ∀ dst, (s.m.link n).takes (· == .softStop) dst = true := fun dst => by simp [Link.takes, hst]
    unfold softStopComplete
    dsimp only
    rw [if_pos (by simp [htakes, hrun])]
  case late =>
    refine .lgc rfl (okString_of_lt hn) hacts ?_
    have htakes : ∀ dst, (s.m.link n).takes (· == .softStop) dst = true := fun dst => by simp [Link.takes, hst]
    unfold softStopTimeout
    dsimp only
    rw [if_pos (by simp only [htakes, hlate, decide_true, Bool.and_self])]
    rfl
  case burst =>
    refine .lgc rfl (okString_of_lt hn) hacts ?_
    have honly := (burstEntry_within n s.m).only
    rw [burstEntry_of_run n b s.m hst hrun hpar hpick] at honly ⊢
    obtain ⟨hin, -, hlinks⟩ := s.m.each_onPhase n (fun p x => x.bursts (decide (p = b)) (s.m.link n).dutyFf) _ (List.nodup_range (n := s.m.nPh n))
    generalize hphases : Mod.each s.m _ _ = a at hin hlinks honly ⊢
    have halink : ∀ k, a.link k = s.m.link k := fun k => congrArg (fun t : Tab Link => tget t k) hlinks
    obtain ⟨hself, hother, hstate⟩ := (a.onLink n fun k => k.bursting b s.m.host.ms (s.m.parN 0x5012 + 1)).spread_link n
    rw [Mod.link_onLink, if_pos rfl, halink] at hself
    refine ⟨?_, ?_, ?_, ?_, ?_, ?_, fun p hp hne hactive => ?_, fun k hk => ?_, honly⟩
    any_goals (rw [hself]; rfl)
    · refine Mod.acts_of_burst _ n b ?_ ?_
      all_goals (rw [hself]; rfl)
    · have hshed := hin p (List.mem_range.2 hp)
      simp only [Phase.bursts, decide_eq_true_eq, hne, hactive, if_true, if_false] at hshed
      rw [(hstate n p).1, (hstate n p).2, Mod.phase_onLink, hshed]
      exact ⟨rfl, rfl⟩
    · rw [hother k hk, Mod.link_onLink, if_neg hk, halink]
  case reselect =>
    refine .lgc rfl (okString_of_lt hn) hacts ?_
    have honly := (burstPhaseReselect_within n s.m).only
    obtain ⟨a, hlinks, hend⟩ := burstPhaseReselect_of_burst n b s.m hst hold hpick
    have halink : ∀ k, a.link k = (s.m.onLink n fun k => { k with burstMs := s.m.host.ms, burstPhase := b }).link k := fun k =>
      congrArg (fun t : Tab Link => tget t k) hlinks
    have hlink : (∃ r, (burstPhaseReselect n s.m).link n = { s.m.link n with burstMs := s.m.host.ms, burstPhase := b, respread := r }) ∧
        ∀ k ≠ n, (burstPhaseReselect n s.m).link k = s.m.link k := by
      rcases hend with h | h
      · rw [h]
        exact ⟨⟨_, by rw [halink, Mod.link_onLink, if_pos rfl]⟩, fun k hk => by rw [halink, Mod.link_onLink, if_neg hk]⟩
      · obtain ⟨hself, hother, -⟩ := a.spread_link n
        rw [h]
        exact ⟨⟨_, by rw [hself, halink, Mod.link_onLink, if_pos rfl]⟩, fun k hk => by rw [hother k hk, halink, Mod.link_onLink, if_neg hk]⟩
    obtain ⟨⟨r, hself⟩, hother⟩ := hlink
    refine ⟨?_, ?_, ?_, ?_, hother, honly⟩
    · rw [hself]
    · rw [hself]
    · rw [hself]
      exact hst
    · refine Mod.acts_of_burst _ n b ?_ ?_
      · rw [hself]
        exact hst
      · rw [hself]
  case shed =>
    refine .lgc rfl (okString_of_lt hn) hacts ?_
    unfold pruneCommit
    dsimp only
    rw [hprune]
    dsimp only
    rw [if_neg (Nat.not_lt.mpr hold), Mod.onPhase_congr (g := Phase.shed)]
    simp only [hshed, if_true, Mod.phase_onLink, hst]
  case add =>
    refine .lgc rfl (okString_of_lt hn) hacts ?_
    unfold pruneCommit
    dsimp only
    rw [hprune]
    dsimp only
    rw [if_neg (Nat.not_lt.mpr hold), Mod.onPhase_congr (g := Phase.arm)]
    simp only [hadd, Bool.false_eq_true, if_false, Mod.phase_onLink, hst, if_true]

end Sys2Proof.Machine
end

section
/-! PROOF. The timers of dispatch (R260-R292). -/

namespace Sys2Proof.Machine

/-- A rest window ends with an anchor applied in it, or at its longest. -/
theorem restWindowEnd_of_done (n k : Nat) (m : Mod) (hgrains : (m.strDisp n).restGrains = some k) (hrest : (m.strDisp n).rest = true)
    (hdone : (∃ g, (m.strEst n).anchorApplied = some g ∧ (m.plan.grainCnt - g).toNat ≤ k) ∨ 1000 * m.parN 0x6201 ≤ k) :
    restWindowEnd n m = m.onStrDisp n fun x => { x with rest := false, restGrains := none } := by
  unfold restWindowEnd
  dsimp only
  rw [hgrains]
  dsimp only
  rw [if_pos]
  rw [hrest, Bool.true_and, Bool.or_eq_true]
  rcases hdone with ⟨g, hg, hin⟩ | hlong
  · left
    rw [hg]
    exact decide_eq_true hin
  · exact .inr (decide_eq_true hlong)

/-- A rest request not granted in its time is refused. -/
theorem restPendExpiry_of_late (n : Nat) (m : Mod) (hreq : (m.strEst n).restReq = true) (hdenied : (m.strEst n).restDenied = false)
    (hgranted : (m.strEst n).restGranted = false)
    (hlate : 1000 * m.parN 0x6204 ≤ (m.strEst n).restReqAge + (m.host.ms - (m.strEst n).restReqMs)) : restPendExpiry n m = m.restRefuse n 1 := by
  have hstood : 1000 * m.parN 0x6204 ≤ m.restStood n := hlate
  simp [restPendExpiry, hreq, hdenied, hgranted, hstood]

/-- Settles O16: each timer's guard holds, and its one change is the stated one. -/
theorem dispatchTimers : Obligations.DispatchTimers := by
  refine ⟨fun s hacts howner hlate => ?lease, fun s hacts hsrc hfault hpos hlimit => ?fault, fun s hacts hfault hpos hlimit => ?recover,
    fun s n k g hacts hn hgrains hrest hg hin => ?anchored, fun s n k hacts hn hgrains hrest hlong => ?longest,
    fun s n hacts hn hreq hdenied hgranted hlate hnew => ?denied, fun s n hacts hn hreq hdenied hgranted hlate hold => ?again,
    fun s j hacts hjobs hdone => ?service⟩
  case lease =>
    refine .lgc rfl rfl hacts ?_
    unfold leaseExpiry
    rw [if_pos (by rw [howner, Bool.true_and]; exact decide_eq_true hlate)]
  case fault =>
    refine .lgc rfl rfl hacts ?_
    simp [sourceFault, hsrc, hfault, hpos, hlimit]
  case recover =>
    refine .lgc rfl rfl hacts ?_
    simp [sourceRecover, hfault, hpos, hlimit]
  case anchored =>
    refine .lgc rfl (okString_of_lt hn) hacts ?_
    rw [restWindowEnd_of_done n k s.m hgrains hrest (.inl ⟨g, hg, hin⟩)]
  case longest =>
    refine .lgc rfl (okString_of_lt hn) hacts ?_
    rw [restWindowEnd_of_done n k s.m hgrains hrest (.inr hlong)]
  case denied =>
    refine .lgc rfl (okString_of_lt hn) hacts ?_
    rw [restPendExpiry_of_late n s.m hreq hdenied hgranted hlate]
    simp [Mod.restRefuse, hnew]
  case again =>
    refine .lgc rfl (okString_of_lt hn) hacts ?_
    rw [restPendExpiry_of_late n s.m hreq hdenied hgranted hlate]
    simp [Mod.restRefuse, hold]
  case service =>
    refine .lgc rfl rfl hacts ?_
    have hnone : (s.m.onDisp fun d => { d with jobs := d.jobs.filter fun j => !decide (j.done ||| j.failed = j.named) }) =
        s.m.onDisp fun d => { d with jobs := [] } := by
      simp [Mod.onDisp, hjobs, hdone]
    have hready : s.m.disp.jobs.filter (fun j => decide (j.done ||| j.failed = j.named)) = [j] := by simp [hjobs, hdone]
    unfold serviceComplete
    dsimp only
    rw [hnone, hready]
    rfl

end Sys2Proof.Machine
end

section

/-!
PROOF. Safety inputs (SPEC: "Safety inputs", R329 to R341). A level taken at a channel stays as it is through everything that the evaluation of
the safety functions sets off: that leaves the core of the safety state alone (`SafetySt.core`: the inputs, the safety time and the
configuration), or moves an input's state only (`Levels`).
-/

namespace Sys2Proof.Machine

/- The core of the safety state under what a demand sets off -/

/-- The safety time, the configuration in force and the one committed for the next cycle. -/
def SafetySt.inForce (s : SafetySt) : Nat × Tab (Option Int) × Option (Tab (Option Int)) := (s.ms, s.cfg, s.commitCfg)

/-- What a demand and its stops leave alone of the safety state: the safe inputs, the time and the configuration. -/
def SafetySt.core (s : SafetySt) : Tab SafeIn × Nat × Tab (Option Int) × Option (Tab (Option Int)) := (s.si, s.inForce)

theorem SafetySt.core_eq {a b : SafetySt} (hsi : a.si = b.si) (hms : a.ms = b.ms) (hcfg : a.cfg = b.cfg)
    (hcommit : a.commitCfg = b.commitCfg) : a.core = b.core := by
  rw [SafetySt.core, SafetySt.inForce, hsi, hms, hcfg, hcommit]
  rfl

theorem Mod.trip_keeps_core (m : Mod) (n c gidx : Nat) (val : Int) : ((m.latchCause n c gidx val).tripRequest n).safety.core = m.safety.core := by
  rw [(Mod.tripRequest_within ..).safetyEq (by decide), (Mod.latchCause_within ..).safetyEq (by decide)]

theorem Mod.tripMates_keeps_core (m : Mod) (n g : Nat) : (m.tripMates n g).safety.core = m.safety.core := by
  refine Mod.each_keeps (fun m => m.safety.core) m _ _ fun m k => ?_
  split
  · rfl
  · exact Mod.trip_keeps_core ..

theorem Mod.switchOff_keeps_core (m : Mod) (g : Nat) : (m.switchOff g).safety.core = m.safety.core := by
  unfold Mod.switchOff
  extract_lets o closed judge m1 m2 m3
  split
  · rfl
  · have h3 : m3.safety.core = m.safety.core := Mod.each_keeps (fun m => m.safety.core) m2 _ _ fun _ _ => rfl
    refine (Mod.each_keeps (fun m => m.safety.core) m3 _ _ fun m n => ?_).trans h3
    split
    · exact Mod.trip_keeps_core ..
    · rfl

theorem Mod.requestOpen_keeps_core (m : Mod) (g : Nat) : (m.requestOpen g).safety.core = m.safety.core := by
  unfold Mod.requestOpen
  extract_lets o m1
  have h1 : m1.safety.core = m.safety.core := rfl
  repeat' split
  · exact h1
  · exact (Mod.switchOff_keeps_core ..).trans h1
  · exact h1
  · exact h1

theorem Mod.openGroup_keeps_core (m : Mod) (n : Nat) : (m.openGroup n).safety.core = m.safety.core := by
  unfold Mod.openGroup
  split
  · rfl
  · exact (Mod.requestOpen_keeps_core ..).trans (Mod.tripMates_keeps_core ..)

theorem Mod.openSeqs_keeps_core (m : Mod) (l : List Nat) (c gidx : Nat) (val : Int) : (m.openSeqs l c gidx val).safety.core = m.safety.core := by
  unfold Mod.openSeqs
  exact (Mod.each_keeps (fun m => m.safety.core) _ _ _ fun _ _ => Mod.openGroup_keeps_core ..).trans
    (Mod.each_keeps (fun m => m.safety.core) _ _ _ fun _ _ => Mod.trip_keeps_core ..)

theorem Mod.standbySafe_keeps_core (m : Mod) (n : Nat) : (m.standbySafe n).safety.core = m.safety.core := by
  have hp : (m.portTrip n).safety.core = m.safety.core := by rw [(Mod.portTrip_within ..).safetyEq (by decide)]
  unfold Mod.standbySafe
  dsimp only
  repeat' split
  · exact hp
  · exact (Mod.requestOpen_keeps_core ..).trans hp
  · exact hp

theorem Mod.safeStateStrings_keeps_core (m : Mod) (l : List Nat) : (m.safeStateStrings l).safety.core = m.safety.core := by
  unfold Mod.safeStateStrings
  split
  · exact Mod.each_keeps (fun m => m.safety.core) _ _ _ fun _ _ => Mod.standbySafe_keeps_core ..
  · extract_lets m1 m2
    have h1 : m1.safety.core = m.safety.core := Mod.openSeqs_keeps_core ..
    have h2 : m2.safety.core = m1.safety.core := by
      refine Mod.each_keeps (fun m => m.safety.core) _ _ _ fun m n => ?_
      split
      · rw [(Mod.tripRequest_within ..).safetyEq (by decide)]
      · rfl
    refine (Mod.each_keeps (fun m => m.safety.core) m2 _ _ fun m n => ?_).trans (h2.trans h1)
    repeat' split
    · rfl
    · exact (Mod.requestOpen_keeps_core ..).trans (Mod.tripMates_keeps_core ..)
    · rfl

theorem Mod.fallowAdd_keeps_core (m : Mod) (mod : Bool) (n : Nat) (c : FallowCause) : (m.fallowAdd mod n c).safety.core = m.safety.core := by
  unfold Mod.fallowAdd
  dsimp only [Mod.onSafety]
  split <;> rfl

theorem Mod.evalCauses_keeps_core (m : Mod) : m.evalCauses.safety.core = m.safety.core := by
  unfold Mod.evalCauses
  extract_lets now m1
  have h1 : m1.safety.core = m.safety.core := rfl
  refine (Mod.each_keeps (fun m => m.safety.core) m1 _ _ fun m e => ?_).trans h1
  repeat' split
  · rfl
  · rw [(Mod.yield_within ..).safetyEq (by decide)]
  · exact Mod.fallowAdd_keeps_core ..
  · exact Mod.each_keeps (fun m => m.safety.core) _ _ _ fun _ _ => Mod.fallowAdd_keeps_core ..

theorem Mod.applyHolds_keeps_core (m : Mod) : m.applyHolds.safety.core = m.safety.core := by
  unfold Mod.applyHolds
  extract_lets l kept m1
  have h1 : m1.safety.core = m.safety.core := by
    refine Mod.each_keeps (fun m => m.safety.core) _ _ _ fun m n => ?_
    dsimp only
    repeat' split
    · rw [(Mod.portTrip_within ..).safetyEq (by decide)]
    · exact Mod.trip_keeps_core ..
    · rw [(Mod.latchCause_within ..).safetyEq (by decide)]
  exact (Mod.safeStateStrings_keeps_core ..).trans h1

theorem Mod.post_keeps_core (m : Mod) (c i b : Nat) (d : List Byte) : (m.post c i b d).safety.core = m.safety.core := by
  rw [(Mod.post_within ..).safetyEq (by decide)]

theorem Mod.maintAbort_keeps_core (m : Mod) : m.maintAbort.safety.core = m.safety.core := by
  refine Mod.each_keeps (fun m => m.safety.core) _ _ _ fun m g => ?_
  exact (Mod.post_keeps_core ..).trans (Mod.switchOff_keeps_core ..)

theorem Mod.evalMaint_keeps_core (m : Mod) : m.evalMaint.safety.core = m.safety.core := by
  refine Mod.each_keeps (fun m => m.safety.core) _ _ _ fun m g => ?_
  repeat' split
  · rfl
  · exact Mod.safeStateStrings_keeps_core ..
  · rfl

theorem Mod.evalTwoHand_keeps_core (m : Mod) : m.evalTwoHand.safety.core = m.safety.core := by
  unfold Mod.evalTwoHand
  dsimp only
  split
  case h_1 => split <;> rfl
  case h_2 => repeat' split
              all_goals rfl
  case h_3 =>
    split
    · rfl
    · exact Mod.maintAbort_keeps_core _
  case h_4 => split <;> rfl

theorem Mod.evalPlant_keeps_core (m : Mod) : m.evalPlant.safety.core = m.safety.core := by
  unfold Mod.evalPlant
  split
  · rfl
  · extract_lets x r bad newS wait newR m1 m2
    have h2 : m2.safety.core = m1.safety.core := by
      unfold m2
      split
      · exact Mod.post_keeps_core ..
      · rfl
    split
    · exact (Mod.post_keeps_core ..).trans h2
    · exact h2

theorem Mod.evalOi_keeps_core (m : Mod) (k : Nat) : (m.evalOi k).safety.core = m.safety.core := by
  unfold Mod.evalOi Mod.recordDemand
  extract_lets x s new m1
  repeat' split
  · rfl
  · exact Mod.post_keeps_core ..
  · rfl

theorem Mod.judgeOi_keeps_core (m : Mod) (k : Nat) : (m.judgeOi k).safety.core = m.safety.core := by
  unfold Mod.judgeOi
  extract_lets x y
  split <;> rfl

/- What a channel shows and the time of its press -/

/-- Every safe input shows what it showed, a press noted stays noted, and the time and the configuration are the same. -/
structure Levels (a b : Mod) : Prop where
  input : ∀ i, (b.si i).a = (a.si i).a ∧ (b.si i).pressAt = (a.si i).pressAt
  inForce : b.safety.inForce = a.safety.inForce

theorem Levels.refl (a : Mod) : Levels a a := ⟨fun _ => ⟨rfl, rfl⟩, rfl⟩

theorem Levels.trans {a b c : Mod} (h : Levels a b) (k : Levels b c) : Levels a c :=
  ⟨fun i => ⟨(k.input i).1.trans (h.input i).1, (k.input i).2.trans (h.input i).2⟩, k.inForce.trans h.inForce⟩

theorem Levels.of_core {a b : Mod} (h : b.safety.core = a.safety.core) : Levels a b := by
  refine ⟨fun i => ?_, congrArg Prod.snd h⟩
  rw [show b.si i = a.si i from congrArg (fun t : Tab SafeIn => tget t i) (congrArg Prod.fst h)]
  exact ⟨rfl, rfl⟩

theorem Mod.onSi_levels (m : Mod) (i : Nat) (f : SafeIn → SafeIn) (h : (f (m.si i)).a = (m.si i).a ∧ (f (m.si i)).pressAt = (m.si i).pressAt) :
    Levels m (m.onSi i f) := by
  refine ⟨fun k => ?_, rfl⟩
  rw [Mod.si_onSi]
  split
  · next e => subst e; exact h
  · exact ⟨rfl, rfl⟩

theorem Mod.onSafety_levels (m : Mod) (f : SafetySt → SafetySt) (h : ∀ s, (f s).core = s.core) : Levels m (m.onSafety f) := .of_core (h m.safety)

theorem SafeIn.disagree_level (x : SafeIn) (d : Bool) (n : Nat) : (x.disagree d n).a = x.a ∧ (x.disagree d n).pressAt = x.pressAt := by
  unfold SafeIn.disagree
  repeat' split
  all_goals exact ⟨rfl, rfl⟩

theorem SafeIn.clearStep_level (x : SafeIn) (a b : Bool) : (x.clearStep a b).a = x.a ∧ (x.clearStep a b).pressAt = x.pressAt := by
  unfold SafeIn.clearStep
  repeat' split
  all_goals exact ⟨rfl, rfl⟩

theorem Mod.judgeSi_levels (m : Mod) (i : Nat) : Levels m (m.judgeSi i) := by
  unfold Mod.judgeSi
  extract_lets f x y
  have hy : y.a = x.a ∧ y.pressAt = x.pressAt := by
    unfold y
    repeat' split
    · have hc := SafeIn.clearStep_level (x.disagree (m.siDemandA i != m.siDemandB i) (m.parN (0x8020 + i))) (m.siRawA i) (m.siRawB i)
      have hd := SafeIn.disagree_level x (m.siDemandA i != m.siDemandB i) (m.parN (0x8020 + i))
      exact ⟨hc.1.trans hd.1, hc.2.trans hd.2⟩
    · exact SafeIn.clearStep_level ({ x with discMs := none } : SafeIn) (m.siRawA i) (m.siRawA i)
    · exact ⟨rfl, rfl⟩
  split
  · exact .refl m
  · exact Mod.onSi_levels m i (fun _ => y) hy

theorem Mod.evalSi_levels (m : Mod) (i : Nat) : Levels m (m.evalSi i) := by
  unfold Mod.evalSi Mod.recordDemand
  extract_lets f x s new m1
  have h1 : Levels m m1 := Mod.onSi_levels m i _ ⟨rfl, rfl⟩
  repeat' split
  · exact .refl m
  · exact h1.trans (.of_core (Mod.post_keeps_core ..))
  · exact h1

theorem Levels.each {α : Type} (m : Mod) (l : List α) {f : Mod → α → Mod} (h : ∀ m x, Levels m (f m x)) : Levels m (m.each l f) :=
  Mod.each_rel Levels.refl Levels.trans m l h

theorem Mod.evalMaint_levels (m : Mod) : Levels m m.evalMaint := .of_core m.evalMaint_keeps_core

theorem Mod.evalCauses_levels (m : Mod) : Levels m m.evalCauses := .of_core m.evalCauses_keeps_core

/-- The evaluation of the safety functions takes no level and no press back. -/
theorem Mod.evalSafety_levels (m : Mod) : Levels m m.evalSafety := by
  unfold Mod.evalSafety
  extract_lets m1 m2 m3 m4 m5 bp
  have h1 : Levels m m1 := (Levels.each m _ Mod.judgeSi_levels).trans (.each _ _ fun _ _ => .of_core (Mod.judgeOi_keeps_core ..))
  have h2 : Levels m1 m2 := .each _ _ Mod.evalSi_levels
  have h3 : Levels m2 m3 := .each _ _ fun _ _ => .of_core (Mod.evalOi_keeps_core ..)
  have h4 : Levels m3 m4 :=
    ((Levels.of_core (Mod.evalPlant_keeps_core m3)).trans (.of_core (Mod.evalTwoHand_keeps_core _))).trans (Mod.evalMaint_levels _)
  have h5 : Levels m4 m5 := (Levels.of_core (Mod.applyHolds_keeps_core m4)).trans (Mod.evalCauses_levels _)
  have h6 : Levels m5 (m5.onSafety fun s => { s with bpOut := bp, bpCount := s.bpCount + b2n (bp && !s.bpOut) }) :=
    Mod.onSafety_levels m5 _ fun s => SafetySt.core_eq rfl rfl rfl rfl
  exact ((((h1.trans h2).trans h3).trans h4).trans h5).trans h6

theorem Mod.resetInputs_levels (m : Mod) : Levels m m.resetInputs := by
  unfold Mod.resetInputs
  extract_lets m1
  have h1 : Levels m m1 := .each _ _ fun m i => Mod.onSi_levels m i _ (by dsimp only; split <;> split <;> exact ⟨rfl, rfl⟩)
  exact h1.trans (.each _ _ fun m k => .of_core rfl)

theorem Mod.resetStops_keeps_core (m : Mod) : m.resetStops.safety.core = m.safety.core := by
  unfold Mod.resetStops
  extract_lets s done endStr endMod stops
  rw [(Mod.driverBack_within _).safetyEq (by decide)]
  rfl

theorem Mod.resetOutputs_keeps_core (m : Mod) : m.resetOutputs.safety.core = m.safety.core :=
  Mod.each_keeps (fun m => m.safety.core) _ _ _ fun _ _ => rfl

/-- A reset takes no level and no press back. -/
theorem Mod.giveReset_levels (m : Mod) (src : Nat) : Levels m (m.giveReset src) := by
  unfold Mod.giveReset
  extract_lets acts lacks ev m1 m2 m3 m4 m5 m6
  have h1 : Levels m m1 := ((Levels.of_core (Mod.resetStops_keeps_core m)).trans (Mod.resetInputs_levels _)).trans (.of_core (Mod.resetOutputs_keeps_core _))
  have h2 : Levels m1 m2 := Mod.onSafety_levels m1 _ fun s => SafetySt.core_eq rfl rfl rfl rfl
  have h3 : Levels m2 m3 := Mod.evalCauses_levels m2
  have hev (b : Bool) (m : Mod) (r : Nat) : Levels m (if b then ev m r else m) := by
    split
    · exact .of_core (Mod.post_keeps_core ..)
    · exact .refl m
  have h6 : Levels m3 m6 := ((hev _ m3 0).trans (hev _ m4 2)).trans (hev _ m5 1)
  exact (((h1.trans h2).trans h3).trans h6).trans (Mod.evalSafety_levels _)

/- The rows -/

theorem okInput_of_lt {optical : Bool} {i : Nat} (h : i < if optical then 4 else 16) : okInput optical i = true := decide_eq_true h

theorem safeInputChange_of_function {m : Mod} {i : Nat} (second level : Bool) (hi : i < 16) (h1 : 1 ≤ m.siFunc i) (h5 : m.siFunc i ≤ 5) :
    safeInputChange false i second level m =
      (m.onSi i fun x => if second then { x with b := level } else { x with a := level }).evalSafety := by
  have h0 : m.siFunc i ≠ 0 := by omega
  have h6 : m.siFunc i ≠ 6 := by omega
  have h7 : m.siFunc i ≠ 7 := by omega
  unfold safeInputChange
  dsimp only
  rw [if_neg (by decide), if_neg (Nat.not_le.mpr hi), if_neg h7, if_neg h0, if_neg h6]

theorem safeInputChange_of_none {m : Mod} {i : Nat} (second level : Bool) (hi : i < 16) (h0 : m.siFunc i = 0) :
    safeInputChange false i second level m = m.onSi i fun x => if second then { x with b := level } else { x with a := level } := by
  unfold safeInputChange
  dsimp only
  rw [if_neg (by decide), if_neg (Nat.not_le.mpr hi), if_neg (by rw [h0]; decide), if_pos h0]

theorem safeInputChange_of_press {m : Mod} {i : Nat} (hi : i < 16) (h6 : m.siFunc i = 6) (hf : m.faultA i = false) :
    safeInputChange false i false true m =
      ((m.onSi i fun x => { x with a := true }).onSi i fun x => { x with pressAt := some m.safety.ms }).evalSafety := by
  have hraw : (m.onSi i fun x => { x with a := true }).siDemandA i = false := by
    have hsi : (m.onSi i fun x => { x with a := true }).si i = { m.si i with a := true } := by rw [Mod.si_onSi, if_pos rfl]
    have hft : (m.onSi i fun x => { x with a := true }).faultA i = m.faultA i := by unfold Mod.faultA; rw [hsi]; rfl
    rw [Mod.siDemandA, Mod.siRawA, hft, hsi, hf]
    rfl
  unfold safeInputChange
  dsimp only
  rw [if_neg (by decide), if_neg (Nat.not_le.mpr hi), if_neg (by rw [h6]; decide), if_neg (by rw [h6]; decide), if_pos h6,
    if_neg (by decide), if_pos rfl]
  exact congrArg Mod.evalSafety (if_neg (ne_of_eq_of_ne hraw Bool.false_ne_true))

theorem safeInputChange_of_optical {m : Mod} {i : Nat} (second level : Bool) (hi : i < 4) (h0 : m.oiFunc i ≠ 0) :
    safeInputChange true i second level m =
      (m.onOi i fun x => if second then { x with b := level } else { x with a := level }).evalSafety := by
  unfold safeInputChange
  rw [if_pos rfl, if_neg (Nat.not_le.mpr hi)]
  exact if_neg h0

theorem safeInputChange_of_optical_none {m : Mod} {i : Nat} (second level : Bool) (hi : i < 4) (h0 : m.oiFunc i = 0) :
    safeInputChange true i second level m = m.onOi i fun x => if second then { x with b := level } else { x with a := level } := by
  unfold safeInputChange
  rw [if_pos rfl, if_neg (Nat.not_le.mpr hi)]
  exact if_pos h0

/-- What a powered module does of a level is the row's operation. -/
theorem safeInputChange_completes {s : State} {optical : Bool} {i : Nat} {second level : Bool} {C : State → Prop} (hp : s.m.powered = true)
    (hi : i < if optical then 4 else 16) (h : C { s with m := safeInputChange optical i second level s.m }) :
    Completes (.safeInputChange optical i second level) s C := by
  refine .any (f := fun m => if m.powered then safeInputChange optical i second level m else inputLevel optical i second level m)
    rfl (okInput_of_lt hi) ?_
  rwa [if_pos hp]

theorem discrepancyTimeout_of_limit {m : Mod} {i d : Nat} (h1 : 1 ≤ m.siFunc i) (h5 : m.siFunc i ≤ 5) (hd : (m.si i).discMs = some d)
    (hlim : m.parN (0x8020 + i) ≤ d) (hf : (m.si i).discFault = false) :
    discrepancyTimeout false i m = ((m.onSi i fun x =>
      { x with discFault := true, clrSeq := 0, faultGrain := m.plan.grainCnt }).post 0x8002 i bSafety (u8 0 ++ [0] ++ leN 2 d)).evalCauses := by
  unfold discrepancyTimeout
  dsimp only
  rw [if_neg (by decide), hd]
  exact if_neg (by simp [hf, h1, h5, Nat.not_lt.mpr hlim])

theorem testPulseGap_of_no_readback {m : Mod} (missing : List Nat) (hg : m.plan.grainCnt.toNat % 10 = 5)
    (hl : m.safety.gapTp1 ≠ some m.plan.grainCnt) (hf : m.safety.tpFault.getLsbD 1 = false) :
    testPulseGap 1 false missing m = ((m.onSafety fun x =>
      { x with gapTp1 := some m.plan.grainCnt, tpGood := x.tpGood &&& 1#2, tpFault := x.tpFault ||| 2#2 }).post 0x8004 1 bSafety []).evalSafety := by
  unfold testPulseGap
  dsimp only
  rw [if_neg (by simp [hg, hl]), if_pos (show (!false && !m.safety.tpFault.getLsbD 1) = true by rw [hf]; rfl),
    if_pos (show (!false) = true from rfl)]
  exact congrArg (fun f => Mod.evalSafety (Mod.post (m.onSafety f) 0x8004 1 bSafety [])) (funext fun s => rfl)

theorem testPulseGap_of_readback {m : Mod} (missing : List Nat) (hg : m.plan.grainCnt.toNat % 10 = 0)
    (hl : m.safety.gapTp0 ≠ some m.plan.grainCnt) :
    testPulseGap 0 true missing m = ((m.onSafety fun x =>
      { x with gapTp0 := some m.plan.grainCnt, tpGood := x.tpGood ||| 1#2 }).each
        ((List.range 16).filter fun i => decide (1 ≤ m.siFunc i ∧ m.siFunc i ≤ 6)) fun m i => m.gapJudge i 0 (missing.contains i)).evalSafety := by
  unfold testPulseGap
  dsimp only
  rw [if_neg (by simp [hg, hl]), if_neg (show ¬(!true && !m.safety.tpFault.getLsbD 0) = true by simp),
    if_neg (show ¬(!true) = true by decide)]
  refine congrArg (fun l => Mod.evalSafety (Mod.each _ l _)) (List.filter_congr fun i _ => ?_)
  exact Bool.and_true _

theorem resetInputRelease_of_held {m : Mod} {i : Nat} (h6 : m.siFunc i = 6) (ha : (m.si i).a = true) :
    resetInputRelease i m = (m.onSi i fun x => { x with a := false }).resetRelease i :=
  if_pos (by rw [h6, ha]; rfl)

/-- The end of a press that was noted at `u`: the press is forgotten, and its length and the channel's fault decide. -/
theorem resetInputRelease_of_press {m : Mod} {i u : Nat} (h6 : m.siFunc i = 6) (ha : (m.si i).a = true) (hu : (m.si i).pressAt = some u) :
    resetInputRelease i m =
      if m.faultA i then (m.onSi i fun x => { x with a := false }).onSi i fun x => { x with pressAt := none }
      else if 5000 < m.safety.ms - u then ((m.onSi i fun x => { x with a := false }).onSi i fun x =>
        { x with pressAt := none }).post 0x8009 0xFF bSafety (u8 0 ++ u8 3)
      else if 100 ≤ m.safety.ms - u && m.resetSrc 0 then
        ((m.onSi i fun x => { x with a := false }).onSi i fun x => { x with pressAt := none }).giveReset 0
      else (m.onSi i fun x => { x with a := false }).onSi i fun x => { x with pressAt := none } := by
  have hsi : (m.onSi i fun x => { x with a := false }).si i = { m.si i with a := false } := by rw [Mod.si_onSi, if_pos rfl]
  have hft : ((m.onSi i fun x => { x with a := false }).onSi i fun x => { x with pressAt := none }).faultA i = m.faultA i := by
    unfold Mod.faultA
    rw [Mod.si_onSi, if_pos rfl, hsi]
    rfl
  rw [resetInputRelease_of_held h6 ha, Mod.resetRelease, hsi]
  dsimp only
  rw [hu]
  dsimp only
  rw [hft]
  rfl

/-- Both channels of the released button read open, and no press is noted. -/
theorem Mod.released_si (m : Mod) (i : Nat) :
    (((m.onSi i fun x => { x with a := false }).onSi i fun x => { x with pressAt := none }).si i) = { m.si i with a := false, pressAt := none } := by
  rw [Mod.si_onSi, if_pos rfl, Mod.si_onSi, if_pos rfl]

theorem twoHandSyncExpiry_of_late {m : Mod} (ha : m.safety.twoHand = .arming) (hl : m.parN 0x809B ≤ m.safety.ms - m.safety.armAt) :
    twoHandSyncExpiry m = m.onSafety fun s => { s with twoHand := .blocked } := if_pos ⟨ha, hl⟩

theorem partnerBpTrip_of_asserted {m : Mod} (hp : m.paired = true) (hb : m.safety.bpIn = false) :
    partnerBpTrip true m = ((m.recordDemand 0xFF 4 0 0xFFFFFFFF).onSafety fun s => { s with bpIn := true, bpHold := true }).evalSafety := by
  unfold partnerBpTrip
  dsimp only
  rw [if_neg (by rw [hp]; decide), if_pos (by rw [hb]; rfl)]
  refine congrArg Mod.evalSafety (congrArg (Mod.onSafety _) (funext fun s => ?_))
  rw [Bool.or_true]

theorem partnerBpTrip_of_released {m : Mod} (hp : m.paired = true) :
    partnerBpTrip false m = (m.onSafety fun s => { s with bpIn := false }).evalSafety := by
  unfold partnerBpTrip
  dsimp only
  rw [if_neg (by rw [hp]; decide), if_neg (by simp)]
  refine congrArg Mod.evalSafety (congrArg (Mod.onSafety _) (funext fun s => ?_))
  rw [Bool.or_false]

/-- Settles O17: each row by its equation; the level released stays open through the reset (`Mod.giveReset_levels`). -/
theorem safetyInputs : Obligations.SafetyInputs := by
  unfold Obligations.SafetyInputs
  refine ⟨?_, ?_, ?_, ?_, ?_, ?_, ?_, ?_, ?_, ?_, ?_, ?_, ?_, ?_⟩
  · intro s i second level hp hi h1 h5
    exact safeInputChange_completes hp hi ⟨safeInputChange_of_function second level hi h1 h5, (safeInputChange_within ..).only⟩
  · intro s i second level hp hi h0
    exact safeInputChange_completes hp hi (by rw [safeInputChange_of_none second level hi h0])
  · intro s i hp hi h6 hf
    exact safeInputChange_completes hp hi (by rw [safeInputChange_of_press hi h6 hf])
  · intro s i second level hp hi h0
    exact safeInputChange_completes hp hi (by rw [safeInputChange_of_optical second level hi h0])
  · intro s i second level hp hi h0
    exact safeInputChange_completes hp hi (by rw [safeInputChange_of_optical_none second level hi h0])
  · intro s i d hp hi h1 h5 hd hlim hf
    exact .on rfl (okInput_of_lt hi) hp (by rw [discrepancyTimeout_of_limit h1 h5 hd hlim hf])
  · intro s missing hp hg hl hf
    exact .on rfl (by decide) hp (by rw [testPulseGap_of_no_readback missing hg hl hf])
  · intro s missing hp hg hl
    exact .on rfl (by decide) hp (by rw [testPulseGap_of_readback missing hg hl])
  · intro s i u hp hi h6 ha hu hf h100 h5000 hsrc
    have heq := resetInputRelease_of_press h6 ha hu
    rw [if_neg (by rw [hf]; decide), if_neg (Nat.not_lt.mpr h5000), if_pos (by rw [hsrc]; simp [h100])] at heq
    have hkept := (Mod.giveReset_levels ((s.m.onSi i fun x => { x with a := false }).onSi i fun x => { x with pressAt := none }) 0).input i
    rw [Mod.released_si, ← heq] at hkept
    exact .on rfl (okInput_of_lt hi) hp ⟨heq, hkept.1, hkept.2, (resetInputRelease_within ..).only⟩
  · intro s i u hp hi h6 ha hu hf h5000
    exact .on rfl (okInput_of_lt hi) hp
      (by rw [resetInputRelease_of_press h6 ha hu, if_neg (by rw [hf]; decide), if_pos h5000])
  · intro s i u hp hi h6 ha hu hf
    exact .on rfl (okInput_of_lt hi) hp (by rw [resetInputRelease_of_press h6 ha hu, if_pos hf])
  · intro s hp ha hl
    exact .on rfl rfl hp (by rw [twoHandSyncExpiry_of_late ha hl])
  · intro s hp hpair hb
    exact .on rfl rfl hp (by rw [partnerBpTrip_of_asserted hpair hb])
  · intro s hp hpair
    exact .on rfl rfl hp (by rw [partnerBpTrip_of_released hpair])

end Sys2Proof.Machine

end

section

/-!
PROOF. The safety cycle, the Cloche connections, fallow time, and the supplies (SPEC: "The safety cycle", R325, R326, R344, R351 to R356, R622).
-/

namespace Sys2Proof.Machine

/- The safety cycle, R325 -/

theorem Mod.safeStop_keeps_core (m : Mod) (k : StopKind) (mod : Bool) (scope : Nat) : (m.safeStop k mod scope).safety.core = m.safety.core := by
  unfold Mod.safeStop
  extract_lets x m1 m2 m3
  have h2 : m2.safety = m1.safety := by
    unfold m2
    split
    · rw [(Mod.cancelActivation_within ..).safetyEq (by decide), (Mod.trialAgain_within ..).safetyEq (by decide)]
    · rfl
  have h3 : m3.safety.core = m.safety.core := by
    rw [Mod.safeStateStrings_keeps_core, h2]
    rfl
  repeat' split
  · rfl
  · rw [(Mod.releaseRole_within ..).safetyEq (by decide), h3]
  · exact h3

theorem Mod.sqStuck_keeps_core (m : Mod) (g : Nat) : (m.sqStuck g).safety.core = m.safety.core := by
  unfold Mod.sqStuck
  extract_lets m1
  split
  · rfl
  · exact (Mod.safeStop_keeps_core ..).trans (Mod.post_keeps_core ..)

theorem Mod.sqOverload_keeps_core (m : Mod) (g : Nat) : (m.sqOverload g).safety.core = m.safety.core := by
  unfold Mod.sqOverload
  extract_lets new m1 m2 m3
  have h2 : m2.safety.core = m.safety.core := Mod.switchOff_keeps_core m1 g
  have h3 : m3.safety.core = m2.safety.core := by
    unfold m3
    split
    · exact Mod.post_keeps_core ..
    · rfl
  exact (Mod.openSeqs_keeps_core ..).trans (h3.trans h2)

theorem Mod.sqMeasure_keeps_core (m : Mod) (x : SqMeas) : (m.sqMeasure x).safety.core = m.safety.core := by
  unfold Mod.sqMeasure
  extract_lets g o off excess m1
  have h1 : m1.safety.core = m.safety.core := rfl
  repeat' split
  · rfl
  · exact (Mod.sqStuck_keeps_core ..).trans h1
  · exact (Mod.sqOverload_keeps_core ..).trans h1
  · exact h1

/-- A committed configuration is the one in force, and no other waits. -/
theorem Mod.commitSafety_inForce (m : Mod) (cfg : Tab (Option Int)) : (m.commitSafety cfg).safety.inForce = (m.safety.ms, cfg, none) := by
  unfold Mod.commitSafety
  extract_lets m1 crc m2
  have h1 : m1.safety.inForce = (m.safety.ms, cfg, none) := by
    unfold m1
    rw [(Mod.takeFeedback_within _).safetyEq (by decide)]
    rfl
  have h2 : Levels m1 m2 := Mod.onSafety_levels m1 _ fun s => SafetySt.core_eq rfl rfl rfl rfl
  exact (h2.trans (Mod.evalSafety_levels m2)).inForce.trans h1

theorem safetyCycle_inForce (meas : List SqMeas) (m : Mod) :
    (safetyCycle meas m).safety.inForce = (m.safety.ms + 1, m.safety.commitCfg.getD m.safety.cfg, none) := by
  unfold safetyCycle
  extract_lets m1 m2 m3 step m4 m5 m6 m7
  have h1 : m1.safety = m.safety := by
    unfold m1
    split
    · rfl
    · exact (Mod.idleMs_within m).safetyEq (by decide)
  have h3 : m3.safety.inForce = (m.safety.ms + 1, m.safety.commitCfg.getD m.safety.cfg, none) := by
    have hms : m2.safety.ms = m.safety.ms + 1 := congrArg (fun s => s.ms + 1) h1
    have hcfg : m2.safety.cfg = m.safety.cfg := congrArg (fun s => s.cfg) h1
    have hcommit : m2.safety.commitCfg = m.safety.commitCfg := congrArg (fun s => s.commitCfg) h1
    rw [← hms, ← hcfg, ← hcommit]
    unfold m3
    split
    · next cfg hc => rw [Mod.commitSafety_inForce, hc]; rfl
    · next hc => rw [SafetySt.inForce, hc]; rfl
  have h4 : Levels m3 m4 := .each _ _ fun m i => Mod.onSi_levels m i _ ⟨rfl, rfl⟩
  have h5 : Levels m4 m5 := .each _ _ fun m k => .of_core rfl
  have h6 : Levels m5 m6 := .each _ _ fun _ _ => .of_core (Mod.sqMeasure_keeps_core ..)
  have h7 : Levels m6 m7 := by
    unfold m7
    split
    · exact .each _ _ fun _ _ => .of_core (Mod.switchOff_keeps_core ..)
    · exact .refl m6
  exact ((((h4.trans h5).trans h6).trans h7).trans (Mod.evalSafety_levels m7)).inForce.trans h3

/- The Cloche connections, R353 to R356 -/

theorem Mod.onCloche_congr (m : Mod) (graft : Bool) {f g : Cloche → Cloche} (h : f (m.cloche graft) = g (m.cloche graft)) :
    m.onCloche graft f = m.onCloche graft g := by
  cases graft
  · exact congrArg (fun c : Cloche => { m with safety := { m.safety with plant := c } }) h
  · exact congrArg (fun c : Cloche => { m with safety := { m.safety with graft := c } }) h

theorem clocheSend_of_due {m : Mod} {graft : Bool} (hst : (m.cloche graft).st ≠ .off)
    (hdue : (m.cloche graft).txSeq = 0 ∨ (m.cloche graft).sentMs + m.parN 0x80A3 ≤ m.safety.ms) :
    clocheSend graft m = (m.onCloche graft fun c => { c with txSeq := seqNext c.txSeq, sentMs := m.safety.ms }).out (.cloche graft
      (ClocheFrame.bytes { conn := m.connTx graft, seq := seqNext (m.cloche graft).txSeq, echo := (m.cloche graft).rxSeq
                           flags := BitVec.ofNat 8 (2 * b2n (decide ((m.cloche graft).st = .opening))), data := m.clocheData })) := by
  unfold clocheSend
  dsimp only
  have hg : ¬((decide ((m.cloche graft).st = .off) || ((m.cloche graft).txSeq != 0 &&
      decide (m.safety.ms < (m.cloche graft).sentMs + m.parN 0x80A3))) = true) := by
    rcases hdue with h | h
    · simp [hst, h]
    · simp [hst, Nat.not_lt.mpr h]
  rw [if_neg (by simpa using hg)]
  exact congrArg (fun m' => Mod.out m' _) (Mod.onCloche_congr m graft rfl)

theorem clocheFrameReceive_of_next {m : Mod} {src : NetSrc} {port : Nat} {b : List Byte} {f : ClocheFrame} (hst : (m.cloche true).st = .run)
    (hb : clocheOf b = some f) (hconn : f.conn = m.connRx true) (hseq : f.seq ≠ 0) (h1 : 1 ≤ seqDist (m.cloche true).rxSeq f.seq)
    (h8 : seqDist (m.cloche true).rxSeq f.seq ≤ 8) : clocheFrameReceive true src b port m = (m.clocheAccept true src.net f).evalSafety := by
  unfold clocheFrameReceive
  dsimp only
  rw [if_neg (by simp [hst]), hb]
  dsimp only
  rw [if_neg (by simp), if_pos (by simp [hconn, hseq, h1, h8])]
  exact if_pos rfl

theorem clocheFrameReceive_of_bad {m : Mod} {src : NetSrc} {port : Nat} {b : List Byte} (hst : (m.cloche true).st = .run)
    (hbad : ∀ f ∈ clocheOf b, f.conn ≠ m.connRx true ∨ f.seq = 0 ∨ seqDist (m.cloche true).rxSeq f.seq = 0 ∨
      8 < seqDist (m.cloche true).rxSeq f.seq) : clocheFrameReceive true src b port m = m.clocheDiscard true := by
  unfold clocheFrameReceive
  dsimp only
  rw [if_neg (by simp [hst])]
  cases hb : clocheOf b with
  | none => rfl
  | some f =>
    dsimp only
    rw [if_neg (by simp)]
    refine if_neg ?_
    rcases hbad f hb with h | h | h | h
    · simp [h]
    · simp [h]
    · simp [h, hst]
    · simp [hst, Nat.not_le.mpr h]

theorem clocheFrameReceive_of_filtered {m : Mod} {src : NetSrc} {port : Nat} {b : List Byte}
    (h : port ≠ 50233 ∨ m.netAllows src.net src.addr = false) : clocheFrameReceive false src b port m = m := by
  refine if_pos ?_
  rcases h with h | h <;> simp [h]

theorem clocheWatchdogExpiry_of_run {m : Mod} {graft : Bool} (hw : m.parN 0x80A4 < m.safety.ms - (m.cloche graft).lastMs)
    (hst : (m.cloche graft).st = .run) : clocheWatchdogExpiry graft m = (m.clocheFail graft 0).evalSafety := by
  unfold clocheWatchdogExpiry
  dsimp only
  rw [if_pos hw, hst]

/- Fallow time, the staged configuration, the outputs and their supply -/

theorem fallowExpiry_of_string {m : Mod} {f : FallowScope} (hf : m.safety.fallow = [f]) (hmod : f.mod = false) (hdue : f.expires ≤ m.safety.ms)
    (hnew : m.safety.expiredScope f = false) :
    fallowExpiry m = (((m.onSafety fun x => { x with fallowExp := x.fallowExp ||| BitVec.ofNat 32 (2 ^ f.string) }).post 0x8007 0xFF bSafety
      (u8 0 ++ [0, 0, 0] ++ leN 4 (2 ^ f.string))).safeStop .fallow false (2 ^ f.string)).evalSafety := by
  have hl : (m.safety.fallow.filter fun f => decide (f.expires ≤ m.safety.ms) && !m.safety.expiredScope f) = [f] := by
    simp [hf, hdue, hnew]
  have hscope : maskOf (([f].filter fun f => !f.mod).map (·.string)) = 2 ^ f.string := by simp [hmod, maskOf]
  have hany : [f].any (·.mod) = false := by simp [hmod]
  have hne : ¬(2 ^ f.string = 0) := Nat.ne_of_gt (Nat.two_pow_pos _)
  unfold fallowExpiry
  dsimp only
  rw [hl, hscope, hany, if_neg (by simp), if_neg hne, if_neg (by decide), if_neg (by decide)]
  refine congrArg (fun g => Mod.evalSafety (Mod.safeStop (Mod.post (m.onSafety g) _ _ _ _) _ _ _)) (funext fun s => ?_)
  rw [Bool.or_false]

theorem openLoadTimeout_of_low {m : Mod} {g : Nat} (hon : (m.sq g).on = true) (hlow : 100 ≤ (m.sq g).lowMs) (hnew : (m.sq g).openLoad = false) :
    openLoadTimeout g m = (m.onSq g fun o => { o with openLoad := true }).post 0x8005 g bSafety (u8 4) :=
  if_pos (by simp [hon, hlow, hnew])

theorem contDelayExpiry_of_due {m : Mod} {g u : Nat} (hu : (m.group g).openAt = some u) (hdue : u + m.parN 0x7000 ≤ m.safety.ms) :
    contDelayExpiry g m = m.switchOff g := by
  unfold contDelayExpiry
  rw [hu]
  exact if_pos hdue

/-- The four outputs of supply `k` with the voltage taken. -/
def Mod.supplyTaken (m : Mod) (k mv : Nat) : Mod := m.each (List.range 4) fun m i => m.onSq (4 * k + i) fun o => { o with vField := mv }

theorem fieldSupplyChange_of_low {m : Mod} {k mv : Nat} (hk : k < 2) (hmv : mv < 19200) (hnew : m.safety.fieldLow.getLsbD k = false) :
    fieldSupplyChange k mv m = ((m.supplyTaken k mv).onSafety fun s => { s with fieldLow := s.fieldLow ||| BitVec.ofNat 2 (2 ^ k) }).post
      0x800B k bSafety (u8 1 ++ [0] ++ leN 2 mv) := by
  unfold fieldSupplyChange
  dsimp only
  rw [if_neg (Nat.not_le.mpr hk), hnew, if_neg (by simp [hmv]), Bool.false_and, Bool.or_false, decide_eq_true hmv]
  rfl

theorem Mod.supplyTaken_fieldLow (m : Mod) (k mv : Nat) : (m.supplyTaken k mv).safety.fieldLow = m.safety.fieldLow :=
  Mod.each_keeps (fun m => m.safety.fieldLow) _ _ _ fun _ _ => rfl

/-- Each of the four outputs takes the voltage, and the outputs of the other supply keep theirs. -/
theorem Mod.supplyTaken_sq (m : Mod) (k mv g : Nat) :
    (g / 4 = k → ((m.supplyTaken k mv).sq g).vField = mv) ∧ (g / 4 ≠ k → (m.supplyTaken k mv).sq g = m.sq g) := by
  unfold Mod.supplyTaken Mod.each
  simp only [List.range_succ, List.range_zero, List.nil_append, List.cons_append, List.foldl_cons, List.foldl_nil, Mod.sq_onSq]
  constructor
  · intro h
    obtain h | h | h | h : g = 4 * k + 0 ∨ g = 4 * k + 1 ∨ g = 4 * k + 2 ∨ g = 4 * k + 3 := by omega
    all_goals simp [h]
  · intro h
    rw [if_neg (by omega), if_neg (by omega), if_neg (by omega), if_neg (by omega)]

/-- Settles O19: the core of the safety state through a whole cycle (`safetyCycle_inForce`), and one equation for each other row. -/
theorem safetyCycles : Obligations.SafetyCycles := by
  unfold Obligations.SafetyCycles
  refine ⟨?_, ?_, ?_, ?_, ?_, ?_, ?_, ?_, ?_, ?_, ?_⟩
  · intro s meas hp
    have h := safetyCycle_inForce meas s.m
    obtain ⟨hms, hcfg, hcommit⟩ := Prod.mk.inj h |>.imp_right Prod.mk.inj
    exact .on rfl rfl hp ⟨hms, hcommit, hcfg, (safetyCycle_within ..).only⟩
  · intro s graft hp hst hdue
    exact .on rfl rfl hp (by rw [clocheSend_of_due hst hdue])
  · intro s src port b f hp hnet hst hb hconn hseq h1 h8
    exact .on rfl (okTwo_of_lt hnet) hp ⟨clocheFrameReceive_of_next hst hb hconn hseq h1 h8, (clocheFrameReceive_within ..).only⟩
  · intro s src port b hp hnet hst hbad
    exact .on rfl (okTwo_of_lt hnet) hp (by rw [clocheFrameReceive_of_bad hst hbad]; rfl)
  · intro s src port b hp h
    by_cases hnet : src.net < 2
    · exact .on rfl (okTwo_of_lt hnet) hp (by rw [clocheFrameReceive_of_filtered h])
    · exact ⟨s, s.when_false (by simp [okTwo, hnet]) _, rfl⟩
  · intro s graft hp hw hst
    exact .on rfl rfl hp (by rw [clocheWatchdogExpiry_of_run hw hst])
  · intro s f hp hf hmod _ hdue hnew
    exact .on rfl rfl hp (by rw [fallowExpiry_of_string hf hmod hdue hnew])
  · intro s hp hstaged hold
    exact .on rfl rfl hp (by rw [show safeStageExpiry s.m = _ from if_pos (by simp [hstaged, hold])])
  · intro s g hp hg hon hlow hnew
    exact .on rfl (decide_eq_true hg) hp (by rw [openLoadTimeout_of_low hon hlow hnew])
  · intro s g u hp hg hu hdue
    exact .on rfl (decide_eq_true hg) hp (by rw [contDelayExpiry_of_due hu hdue])
  · intro s k mv hp hk hmv hnew
    have honly := (fieldSupplyChange_within k mv s.m).only (s := s)
    have heq := fieldSupplyChange_of_low hk hmv hnew
    have hsq (g : Nat) : (fieldSupplyChange k mv s.m).sq g = (s.m.supplyTaken k mv).sq g := by
      rw [heq, Mod.sq, (Mod.post_within ..).safetyEq (by decide)]
      rfl
    refine .on rfl (okTwo_of_lt hk) hp ⟨?_, fun i hi => ?_, fun g hg => ?_, ?_, honly⟩
    · rw [heq, (Mod.post_within ..).safetyEq (by decide), Mod.onSafety, Mod.supplyTaken_fieldLow]
    · rw [hsq]
      exact (Mod.supplyTaken_sq s.m k mv _).1 (by omega)
    · rw [hsq]
      exact (Mod.supplyTaken_sq s.m k mv g).2 hg
    · rw [heq]
      exact (Mod.post_recorded ..).of_store (Mod.each_keeps (fun m => m.store) _ _ _ fun _ _ => rfl)

end Sys2Proof.Machine

end


section

/-!
PROOF. What the standby follows (SPEC: "The standby", R375 to R388, R449). A replay record that is taken counts the heartbeat; the grain
that it replays leaves GRAIN_CNT and the heartbeat counts alone (`Follows`).
-/

namespace Sys2Proof.Machine

/- The replay record, R378, R384 -/

/-- What the standby keeps of the heartbeat: whether this grain's record came, how many in a row did not, and the grains without a record. -/
def PairSt.heard (p : PairSt) : Bool × Nat × Nat := (p.hbThis, p.hbMiss, p.noRecord)

/-- GRAIN_CNT and the heartbeat counts are as before. -/
def Follows (a b : Mod) : Prop := b.plan.grainCnt = a.plan.grainCnt ∧ b.pair.heard = a.pair.heard

theorem Follows.refl (a : Mod) : Follows a a := ⟨rfl, rfl⟩

theorem Follows.trans {a b c : Mod} (h : Follows a b) (k : Follows b c) : Follows a c := ⟨k.1.trans h.1, k.2.trans h.2⟩

theorem Follows.each {α : Type} (m : Mod) (l : List α) {f : Mod → α → Mod} (h : ∀ m x, Follows m (f m x)) : Follows m (m.each l f) :=
  Mod.each_rel Follows.refl Follows.trans m l h

/-- An operation outside the clock and the pair leaves both alone. -/
theorem Within.follows {ps : List Part} {a b : Mod} (h : Within ps a b) (hclock : .clock ∉ ps) (hpair : .pair ∉ ps) : Follows a b :=
  ⟨(h.clockEq hclock).1, congrArg PairSt.heard (h.pairEq hpair)⟩

/-- What only copies into the record of the next grain, or tells the partner, leaves the heartbeat alone. -/
theorem Within.follows_of_heard {ps : List Part} {a b : Mod} (h : Within ps a b) (hclock : .clock ∉ ps) (hheard : b.pair.heard = a.pair.heard) :
    Follows a b :=
  ⟨(h.clockEq hclock).1, hheard⟩

theorem Mod.onPair_follows (m : Mod) (f : PairSt → PairSt) (h : (f m.pair).heard = m.pair.heard) : Follows m (m.onPair f) := ⟨rfl, h⟩

/-- Of the pair, only what is copied for the record of the next grain differs. -/
def CapOnly (a b : Mod) : Prop := ∃ cap, b.pair = { a.pair with cap := cap }

theorem CapOnly.refl (a : Mod) : CapOnly a a := ⟨a.pair.cap, rfl⟩

theorem CapOnly.trans {a b c : Mod} (h : CapOnly a b) (k : CapOnly b c) : CapOnly a c := by
  obtain ⟨x, hx⟩ := h
  obtain ⟨y, hy⟩ := k
  exact ⟨y, by rw [hy, hx]⟩

theorem CapOnly.each {α : Type} (m : Mod) (l : List α) {f : Mod → α → Mod} (h : ∀ m x, CapOnly m (f m x)) : CapOnly m (m.each l f) :=
  Mod.each_rel CapOnly.refl CapOnly.trans m l h

theorem Within.capOnly {ps : List Part} {a b : Mod} (h : Within ps a b) (hpair : .pair ∉ ps) : CapOnly a b := ⟨a.pair.cap, h.pairEq hpair⟩

theorem CapOnly.follows {ps : List Part} {a b : Mod} (h : CapOnly a b) (hw : Within ps a b) (hclock : .clock ∉ ps) : Follows a b := by
  obtain ⟨cap, hcap⟩ := h
  exact ⟨(hw.clockEq hclock).1, by rw [hcap]; rfl⟩

theorem Mod.capture_capOnly (m : Mod) (f : ReplayRec → ReplayRec) : CapOnly m (m.capture f) := by
  unfold Mod.capture
  split
  · exact ⟨_, rfl⟩
  · exact .refl m

theorem Mod.openSeq_capOnly (m : Mod) (n c gidx : Nat) (val : Int) : CapOnly m (m.openSeq n c gidx val) :=
  (Mod.openSeqs_within ..).capOnly (by decide)

theorem Mod.readOcLatch_capOnly (m : Mod) (n : Nat) : CapOnly m (m.readOcLatch n) := by
  unfold Mod.readOcLatch
  split
  extract_lets m1 m2
  have h1 : CapOnly m m1 := Mod.capture_capOnly (m.onStrAdc n fun a => { a with ocLatchDis := false, ocLatchChg := false }) _
  have h2 : CapOnly m m2 := by
    unfold m2
    split
    · exact h1.trans (Mod.openSeq_capOnly ..)
    · exact h1
  repeat' split
  · exact .refl m
  · exact h2.trans (Mod.openSeq_capOnly ..)
  · exact h2

theorem Mod.tickStart_capOnly (m : Mod) : CapOnly m m.tickStart := by
  unfold Mod.tickStart
  extract_lets m1
  have h1 : CapOnly m m1 := (CapOnly.each m _ fun _ _ => (Mod.tripDueTick_within ..).capOnly (by decide)).trans
    (.each _ _ fun _ _ => (Mod.chainTick_within ..).capOnly (by decide))
  split
  · exact h1.trans (.each _ _ Mod.readOcLatch_capOnly)
  · exact h1

theorem Mod.ocRead_capOnly (m : Mod) (n : Nat) (rb : Option (Int × Int)) : CapOnly m (m.ocRead n rb) := by
  unfold Mod.ocRead
  extract_lets a rb1 m1 m2
  have h1 : CapOnly m m1 := by
    unfold m1
    cases rb1 with
    | some x => exact Mod.capture_capOnly ..
    | none => exact .refl m
  have h2 : CapOnly m m2 := h1.trans ((Mod.onProt_within ..).capOnly (by decide))
  repeat' split
  · exact .refl m
  · exact h2
  · exact h2.trans (Mod.openSeq_capOnly ..)

theorem Mod.protectSlot_capOnly (m : Mod) (n : Nat) (rb : Option (Int × Int)) : CapOnly m (m.protectSlot n rb) := by
  unfold Mod.protectSlot
  extract_lets m1 m2 m3 bad m4
  have h1 : CapOnly m m1 := (Mod.judgeTherms_within ..).capOnly (by decide)
  have h2 : CapOnly m1 m2 := .each _ _ fun _ _ => (Mod.latchForTrip_within ..).capOnly (by decide)
  have h3 : CapOnly m2 m3 := (Mod.derate_within ..).capOnly (by decide)
  have h4 : CapOnly m3 m4 := (Mod.onStrProt_within ..).capOnly (by decide)
  exact (((h1.trans h2).trans h3).trans h4).trans (Mod.ocRead_capOnly ..)

theorem Mod.judgeOld_follows (m : Mod) (new : Plan) : Follows m (m.judgeOld new) :=
  .each _ _ fun _ _ => ((Mod.evalSweep_within ..).follows (by decide) (by decide)).trans
    ((Mod.protectSlot_capOnly ..).follows (Mod.protectSlot_within ..) (by decide))

theorem Mod.activated_follows (m : Mod) (c : Candidate) : Follows m (m.activated c) := by
  unfold Mod.activated
  extract_lets m1 m2
  have h1 : Follows m m1 := ((Mod.cfgWrite_within _).follows (by decide) (by decide)).trans
    ((Mod.post_within ..).follows (by decide) (by decide))
  have h2 : Follows m1 m2 := by
    unfold m2
    split
    · exact (Mod.complete_within ..).follows (by decide) (by decide)
    · exact .refl m1
  split
  · exact (h1.trans h2).trans ((Mod.sendPlan_within _).follows (by decide) (by decide))
  · exact h1.trans h2

theorem Mod.bedStarts_follows (m : Mod) (n : Nat) (old : Option Bed) : Follows m (m.bedStarts n old) :=
  (Mod.bedStarts_within ..).follows (by decide) (by decide)

theorem Mod.newGeneration_follows (m : Mod) (b : Nat) (replant : Bool) : Follows m (m.newGeneration b replant) :=
  (Mod.newGeneration_within ..).follows (by decide) (by decide)

theorem planRestart_follows (m : Mod) : Follows m (planRestart m) := by
  unfold planRestart
  split
  · exact .refl m
  · split
    · exact (Mod.activationFails_within ..).follows (by decide) (by decide)
    · extract_lets old bedOld m1 m2 m3 m4
      have h1 : Follows m m1 := (Mod.judgeOld_follows ..).trans ⟨by unfold m1; rfl, by unfold m1; rfl⟩
      have h2 : Follows m1 m2 := .each _ _ fun _ _ => by
        split
        · exact Mod.newGeneration_follows ..
        · exact .refl _
      have h3 : Follows m2 m3 := by
        unfold m3
        split
        · exact .refl m2
        · exact (Mod.clearCommon_within _).follows (by decide) (by decide)
      have h4 : Follows m3 m4 := .each _ _ fun _ _ => by
        repeat' split
        · exact Mod.bedStarts_follows ..
        · exact (Mod.unconfigure_within ..).follows (by decide) (by decide)
        · exact .refl _
      exact (((h1.trans h2).trans h3).trans h4).trans (Mod.activated_follows ..)

theorem bedReplant_follows (m : Mod) : Follows m (bedReplant m) := by
  unfold bedReplant
  split
  · exact .refl m
  · split
    · exact (Mod.activationFails_within ..).follows (by decide) (by decide)
    · extract_lets old plan m1 m2
      have h1 : Follows m m1 := ⟨rfl, rfl⟩
      have h2 : Follows m1 m2 := (Mod.newGeneration_follows ..).trans (Mod.bedStarts_follows ..)
      exact (h1.trans h2).trans (Mod.activated_follows ..)

/-- What is run as the active module's own keeps the standby's clock; of the pair it does what it does. -/
theorem Mod.logical_follows (m : Mod) (f : Mod → Mod) (h : ∀ m, Follows m (f m)) : Follows m (m.logical f) := by
  unfold Mod.logical
  split
  · exact h m
  · split
    · exact .refl m
    · exact ⟨rfl, (h _).2⟩

theorem Mod.atTick_follows (m : Mod) (t : Nat) (f : Mod → Mod) (h : ∀ m, Follows m (f m)) : Follows m (m.atTick t f) :=
  ⟨(h _).1, (h _).2⟩

theorem Mod.replayBoundary_follows (m : Mod) (r : ReplayRec) : Follows m (m.replayBoundary r) := by
  unfold Mod.replayBoundary
  extract_lets sw
  refine (Mod.logical_follows m Mod.planBoundary fun m => (Mod.planBoundary_within m).follows (by decide) (by decide)).trans
    (Mod.logical_follows _ _ fun m => ?_)
  split
  · exact (planRestart_follows m).trans (bedReplant_follows _)
  · exact bedReplant_follows m

theorem Mod.catchUp_follows (m : Mod) : Follows m m.catchUp := by
  unfold Mod.catchUp
  have hstart (m : Mod) : Follows m (m.logical Mod.tickStart) :=
    Mod.logical_follows m _ fun m => m.tickStart_capOnly.follows m.tickStart_within (by decide)
  have hran (m : Mod) : Follows m (m.replayTick.logical fun m => m.loopsRan.tickEnd) :=
    ((Mod.replayTick_within m).follows (by decide) (by decide)).trans (Mod.logical_follows _ _ fun m =>
      ((Mod.loopsRan_within m).follows (by decide) (by decide)).trans ((Mod.tickEnd_within _).follows (by decide) (by decide)))
  refine (Mod.atTick_follows m 0 _ hstart).trans (.each _ _ fun m t => ?_)
  exact (Mod.atTick_follows m t _ hran).trans (Mod.atTick_follows _ (t + 1) _ hstart)

theorem Mod.switchOff_follows (m : Mod) (g : Nat) : Follows m (m.switchOff g) := (Mod.switchOff_within ..).follows (by decide) (by decide)

/-- Following the contact request leaves the clock alone, and of the pair it takes the request only. -/
theorem Mod.followContact_follows (m : Mod) (req : BitVec 8) : Follows m (m.followContact req) := by
  unfold Mod.followContact
  extract_lets m1
  refine (Mod.onPair_follows m _ rfl).trans (.each m1 _ fun m g => ?_)
  dsimp only
  repeat' split
  · exact ⟨rfl, rfl⟩
  · exact ⟨rfl, rfl⟩
  · exact Mod.switchOff_follows ..
  · exact ⟨rfl, rfl⟩
  · exact .refl m

/-- A good record within its window, the module waiting for it. -/
structure Mod.Expects (m : Mod) (r : ReplayRec) : Prop where
  standby : m.standby = true
  pairOp : m.pairOp = true
  lanes : m.pair.lanes ≠ 0
  join : m.pair.join.isSome = true
  good : r.good = true
  tick : m.plan.tick ≤ 10
  hbThis : m.pair.hbThis = false
  hbJudged : m.pair.hbJudged = false
  takeover : m.takeoverDue = none
  next : m.pair.sync = .none ∨ r.grain + 1 = m.plan.grainCnt

/-- A record that is taken leaves what it names of the lease and the time; one without commands and parameters counts the heartbeat and
leaves the grain after its own. -/
theorem replayRecordReceive_taken {m : Mod} {r : ReplayRec} (exch : List (Nat × BedImage)) (h : m.Expects r) :
    ((replayRecordReceive r exch m).disp.owner = r.owner ∧ (replayRecordReceive r exch m).disp.ownerPrio = r.ownerPrio ∧
      (replayRecordReceive r exch m).disp.exp = r.exp ∧ (replayRecordReceive r exch m).time.epoch = r.epoch ∧
      (replayRecordReceive r exch m).time.epochNext = none ∧ (replayRecordReceive r exch m).time.timeValid = r.timeValid) ∧
    (r.cmds = [] → r.params = [] → (replayRecordReceive r exch m).plan.grainCnt = r.grain + 1 ∧
      (replayRecordReceive r exch m).pair.heard = (true, 0, 0)) := by
  have htake (n : Nat) : (m.onPair fun p => { p with trailerUs := n }).takeoverDue = m.takeoverDue := rfl
  unfold replayRecordReceive
  extract_lets p inStep late m1 m2 m3 m4 m5 m6 m7 m8 m9 m10 m11 m12
  have hlate : late = 0 := by
    unfold late inStep p
    rcases h.next with hnone | hgrain
    · simp [hnone]
    · rw [hgrain, BitVec.sub_self]
      exact ite_self 0
  obtain ⟨j, hjoin⟩ := Option.isSome_iff_exists.mp h.join
  rw [if_neg (by simpa [p, h.standby, h.pairOp, h.good] using h.lanes),
    if_neg (by simp [p, hjoin, h.tick, h.hbThis, h.hbJudged, m1, htake, h.takeover, hlate])]
  refine ⟨⟨rfl, rfl, rfl, rfl, rfl, rfl⟩, fun hcmds hparams => ?_⟩
  have h3 : m3.plan.grainCnt = r.grain + 1 ∧ m3.pair.heard = (true, 0, 0) := ⟨rfl, rfl⟩
  have h4 : Follows m3 m4 := Mod.followContact_follows ..
  have h5 : Follows m4 m5 := (Mod.resyncGrain_within ..).follows_of_heard (by decide) (by
    unfold Mod.resyncGrain
    dsimp only
    split
    · exact Mod.each_keeps (fun m => m.pair.heard) _ _ _ fun _ _ => by rw [(Mod.copyBed_within ..).pairEq (by decide)]
    · rfl)
  have h6 : Follows m5 m6 := .each _ _ fun _ _ =>
    ((Mod.onRing_within ..).follows (by decide) (by decide)).trans ((Mod.partnerTone_within ..).follows (by decide) (by decide))
  have h7 : Follows m6 m7 := Mod.onPair_follows m6 _ rfl
  have h8 : Follows m7 m8 := by
    unfold m8
    split
    · exact ((Mod.onPair_follows m7 _ rfl).trans (Mod.replayBoundary_follows ..)).trans (Mod.catchUp_follows _)
    · exact .refl m7
  have h9 : m9 = m8 := by unfold m9; rw [hcmds]; rfl
  have h10 : m10 = m8 := by unfold m10; rw [hparams, h9]; rfl
  have h11 : Follows m10 m11 := .each _ _ fun _ _ => (Mod.onObj_within ..).follows (by decide) (by decide)
  have h12 : Follows m11 m12 := by
    unfold m12
    split
    · exact (Mod.schedule_within ..).follows (by decide) (by decide)
    · exact .refl m11
  have hall : Follows m3 m12 := ((((h4.trans h5).trans h6).trans h7).trans h8).trans (h10 ▸ h11.trans h12)
  exact ⟨hall.1.trans h3.1, hall.2.trans h3.2⟩

/-- Whether or not the record brings an image, the module after it is the one that took the record. -/
theorem replayRecordReceive_completes {s : State} (r : ReplayRec) (image : Option BedImage) (exch : List (Nat × BedImage))
    (hfab : s.m.fabricOn = true) : Completes (.replayRecordReceive r image exch) s fun t => t.m = replayRecordReceive r exch s.m := by
  refine ⟨_, show s.replay r image exch = _ from if_pos hfab, ?_⟩
  split <;> rfl

/- The other rows -/

theorem fieldForward_of_standby {m : Mod} (resps : List (Nat × ChainResp)) (ends : List (Nat × EndObs)) (tones : List (Nat × BitVec 2))
    (ready : Bool) (hop : m.pairOp = true) (hst : m.standby = true) (hl : m.pair.lanes ≠ 0) :
    fieldForward resps ends tones ready m = m.out (.field resps ends tones (some m.standbyReady)) := by
  unfold fieldForward
  rw [if_neg (by simp [hop]), if_pos hst, if_neg hl]

theorem fieldForward_of_active {m : Mod} (ends : List (Nat × EndObs)) (ready : Bool) (hop : m.pairOp = true) (hst : m.standby = false) :
    fieldForward [] ends [] ready m = ((m.each ends fun m e => m.onRing e.1 fun r => { r with cont := e.2.cont }).onPair fun p =>
      { p with partnerLock := setLocks p.partnerLock (ends.map fun e => (e.1, e.2.lock)) }).partnerReport ready := by
  unfold fieldForward
  rw [if_neg (by simp [hop]), if_neg (by simp [hst])]
  rfl

theorem Mod.ringConts_quiet (m : Mod) (ends : List (Nat × EndObs)) :
    Within [.chain] m (m.each ends fun m e => m.onRing e.1 fun r => { r with cont := e.2.cont }) :=
  (Within.refl _ _).each fun _ _ => Mod.onRing_within ..

theorem heartbeatMiss_of_third {m : Mod} (hst : m.standby = true) (hop : m.pairOp = true) (hj : m.pair.join.isSome = true)
    (ht : m.pair.hbThis = false) (hd : m.pair.hbJudged = false) (htick : 10 ≤ m.plan.tick) (hm : m.pair.hbMiss = 2)
    (hr : m.pair.partnerRole = true) :
    heartbeatMiss m = (m.onPair fun p => { p with hbJudged := true, hbMiss := 3, hbNoYield := 0, graftLost := true }).post 0x9005 0xFF bFabric [] := by
  obtain ⟨j, hj⟩ := Option.isSome_iff_exists.mp hj
  unfold heartbeatMiss
  dsimp only
  rw [if_neg (by simp [hst, hop, hj, ht, hd, htick]), hm, hr, if_pos (by decide)]
  refine congrArg (fun f => Mod.post (m.onPair f) 0x9005 0xFF bFabric []) (funext fun p => ?_)
  rw [show (p.graftLost || (true && decide (stopAt 3 (2 + 1) = 3) && decide (2 < 3))) = true from Bool.or_true _]
  rfl

theorem heartbeatMiss_of_earlier {m : Mod} (hst : m.standby = true) (hop : m.pairOp = true) (hj : m.pair.join.isSome = true)
    (ht : m.pair.hbThis = false) (hd : m.pair.hbJudged = false) (htick : 10 ≤ m.plan.tick) (hm : m.pair.hbMiss < 2) :
    heartbeatMiss m = m.onPair fun p => { p with hbJudged := true, hbMiss := p.hbMiss + 1, hbNoYield := 0 } := by
  have hn : stopAt 3 (m.pair.hbMiss + 1) = m.pair.hbMiss + 1 := if_neg (by omega)
  have hlost : (m.pair.partnerRole && decide (m.pair.hbMiss + 1 = 3) && decide (m.pair.hbMiss < 3)) = false := by
    rw [decide_eq_false (by omega : ¬m.pair.hbMiss + 1 = 3)]
    simp
  obtain ⟨j, hj⟩ := Option.isSome_iff_exists.mp hj
  unfold heartbeatMiss
  dsimp only
  rw [if_neg (by simp [hst, hop, hj, ht, hd, htick]), hn, hlost, if_neg (by decide)]
  refine congrArg (fun p => { m with pair := p }) ?_
  dsimp only
  rw [Bool.or_false]

/-- The output is off and its low side is not on. -/
def SafeOut.IsOff (o : SafeOut) : Prop := o.on = false ∧ o.lowAt = none

/-- Switching a group off touches its own output only. -/
theorem Mod.switchOff_sq (m : Mod) (g k : Nat) :
    (k = g → ((m.switchOff g).sq k).IsOff) ∧ (k ≠ g → (m.switchOff g).sq k = m.sq k) := by
  unfold Mod.switchOff
  extract_lets o closed judge m1 m2 m3
  split
  · next h =>
    have hoff : o.on = false ∧ o.lowAt = none := by simpa using h
    exact ⟨fun e => by subst e; exact hoff, fun _ => rfl⟩
  · have h3 : m3.safety = m1.safety := Mod.each_keeps (fun m => m.safety) m2 _ _ fun _ _ => rfl
    have hsq : ∀ t : Mod, t.safety = m1.safety → t.sq k = m1.sq k := fun t ht => congrArg (fun x : SafetySt => tget x.sq k) ht
    rw [hsq _ ((Mod.each_keeps (fun m => m.safety) m3 _ _ fun m n => by
      split
      · rw [(Mod.tripRequest_within ..).safetyEq (by decide), (Mod.latchCause_within ..).safetyEq (by decide)]
      · rfl).trans h3), show m1.sq k = _ from Mod.sq_onSq ..]
    exact ⟨fun e => by rw [if_pos e]; exact ⟨rfl, rfl⟩, fun e => if_neg e⟩

/-- No output that is off comes on. -/
def StaysOff (a b : Mod) : Prop := ∀ k, (a.sq k).IsOff → (b.sq k).IsOff

/-- With no contact requested every output is off. -/
theorem Mod.followContact_none (m : Mod) (g : Nat) (hg : g < 8) : ((m.followContact 0).sq g).IsOff := by
  unfold Mod.followContact
  extract_lets m1
  refine Mod.each_mem StaysOff (fun _ _ h => h) (fun h k i x => k i (h i x)) (fun m k i hi => ?_) (List.mem_range.mpr hg)
    (P := fun m => (m.sq g).IsOff) (fun a b h ha => h g ha) fun a _ => ?_
  · dsimp only
    rw [if_neg (by simp)]
    split
    · by_cases e : i = k
      · exact (Mod.switchOff_sq m k i).1 e
      · rw [(Mod.switchOff_sq m k i).2 e]
        exact hi
    · split
      · rw [Mod.sq_onSq]
        split
        · next e => exact e ▸ hi
        · exact hi
      · exact hi
  · dsimp only
    rw [if_neg (by simp)]
    split
    · exact (Mod.switchOff_sq a g g).1 rfl
    · next h =>
      have hoff : (a.sq g).IsOff := by simpa [SafeOut.IsOff] using h
      split
      · rw [Mod.sq_onSq, if_pos rfl]
        exact hoff
      · exact hoff

theorem Mod.followContact_request (m : Mod) (req : BitVec 8) : (m.followContact req).pair.contactReq = req := by
  unfold Mod.followContact
  extract_lets m1
  refine Mod.each_keeps (fun m => m.pair.contactReq) m1 _ _ fun m g => ?_
  dsimp only
  repeat' split
  · rfl
  · rfl
  · rw [(Mod.switchOff_within ..).pairEq (by decide)]
  · rfl
  · rfl

/- Messages of the graft -/

/-- A message but a heartbeat (kind 10) shows that the partner is up, and leaves the rest of the pair as it is. -/
def Mod.partnerUp (m : Mod) : Mod := m.onPair fun p => { p with partnerDown := false }

theorem graftMailboxReceive_of_window {m : Mod} (ptr len type : Nat) (body : List Byte) (hop : m.pairOp = true) (hl : m.pair.lanes ≠ 0)
    (hst : m.standby = true) : graftMailboxReceive 20 ptr len type body m = m.partnerUp.chainWindow body := by
  unfold graftMailboxReceive
  rw [if_neg (by simpa [hop] using hl)]
  exact if_pos hst

theorem graftMailboxReceive_of_activation {m : Mod} (ptr len type : Nat) (body : List Byte) (hop : m.pairOp = true) (hl : m.pair.lanes ≠ 0)
    (hst : m.standby = true) : graftMailboxReceive 21 ptr len type body m = m.partnerUp.schedule (BitVec.ofNat 32 ptr) := by
  unfold graftMailboxReceive
  rw [if_neg (by simpa [hop] using hl)]
  exact if_pos hst

theorem graftMailboxReceive_of_mismatch {m : Mod} (ptr len type : Nat) (body : List Byte) (hop : m.pairOp = true) (hl : m.pair.lanes ≠ 0)
    (hr : m.pair.role = true) :
    graftMailboxReceive 8 ptr len type body m = m.partnerUp.mismatch (BitVec.ofNat 32 ptr) (rdN body 0 5) := by
  unfold graftMailboxReceive
  rw [if_neg (by simpa [hop] using hl)]
  exact if_pos hr

/-- A window sent, with a ring's end forgotten where the transaction is an ENUM. -/
theorem Mod.partnerUp_chainWindow (m : Mod) (body : List Byte) :
    m.partnerUp.chainWindow body = (m.onPair fun p => { p with
      partnerDown := false
      endSeen := if rdN body 10 1 = ChainCmd.enum.opcode then p.endSeen.filter fun e => e.1 != rdN body 0 1 else p.endSeen }).out
      (.chain (rdN body 0 1) (if rdN body 1 1 = 0 then .A else .B) (rdN body 2 4) (body.drop 6)) := by
  refine congrArg (fun m' => Mod.out m' _) ?_
  split <;> rfl

theorem Mod.schedule_of_staged {m : Mod} {c : Candidate} (g : W32) (hc : m.plan.staged = some c) :
    m.schedule g = m.onPlan fun p => { p.prepare c with scheduled := some g } := by
  unfold Mod.schedule
  rw [hc]

/-- Settles O22: the replay record by what its grain leaves alone (`Follows`), each other row by its equation. -/
theorem standbyFollows : Obligations.StandbyFollows := by
  unfold Obligations.StandbyFollows
  refine ⟨?_, ?_, ?_, ?_, ?_, ?_, ?_, ?_, ?_⟩
  · intro s r image exch hfab hst hop hl hj hg ht hthis hjudged htake hnext
    obtain ⟨⟨ho, hp, he, hep, hen, htv⟩, hheard⟩ := replayRecordReceive_taken exch ⟨hst, hop, hl, hj, hg, ht, hthis, hjudged, htake, hnext⟩
    obtain ⟨t, hexec, hm⟩ := replayRecordReceive_completes r image exch hfab
    rw [← hm] at ho hp he hep hen htv hheard
    refine ⟨t, hexec, ho, hp, he, hep, hen, htv, fun hcmds hparams => ?_⟩
    obtain ⟨hcnt, h⟩ := hheard hcmds hparams
    obtain ⟨hseen, hmiss, hnone⟩ := Prod.mk.inj h |>.imp_right Prod.mk.inj
    exact ⟨hcnt, hseen, hmiss, hnone⟩
  · intro s resps ends tones ready hfab hop hst hl
    exact .fab rfl rfl hfab (by rw [fieldForward_of_standby resps ends tones ready hop hst hl])
  · intro s ends ready hfab hop hst
    have hw := Mod.ringConts_quiet s.m ends
    refine .fab rfl rfl hfab ?_
    rw [fieldForward_of_active ends ready hop hst]
    generalize hm : (s.m.each ends fun m e => m.onRing e.1 fun r => { r with cont := e.2.cont }) = m at hw ⊢
    rw [Mod.partnerReport, show (m.onPair _).host = s.m.host from hw.hostEq (by decide),
      show (m.onPair _).plan = m.plan from rfl, (hw.clockEq (by decide)).1]
  · intro s hfab hst hop hj ht hd htick hm hr
    exact .fab rfl rfl hfab (by rw [heartbeatMiss_of_third hst hop hj ht hd htick hm hr])
  · intro s hfab hst hop hj ht hd htick hm
    exact .fab rfl rfl hfab (by rw [heartbeatMiss_of_earlier hst hop hj ht hd htick hm])
  · intro s hp hst hno
    have heq : standbyReplayTimeout s.m = s.m.followContact 0 := if_pos (by simp [hst, hno])
    have honly := (standbyReplayTimeout_within s.m).only (s := s)
    rw [heq] at honly
    refine .on rfl rfl hp ?_
    rw [heq]
    have hreq := Mod.followContact_request s.m 0
    have hoff := Mod.followContact_none s.m
    generalize s.m.followContact 0 = m at honly hreq hoff ⊢
    exact ⟨rfl, hreq, hoff, honly⟩
  · intro s ptr len type body hfab hop hl hst
    exact .fab rfl rfl hfab (by rw [graftMailboxReceive_of_window ptr len type body hop hl hst, Mod.partnerUp_chainWindow])
  · intro s ptr len type body c hfab hop hl hst hc
    exact .fab rfl rfl hfab (by rw [graftMailboxReceive_of_activation ptr len type body hop hl hst, Mod.schedule_of_staged (m := s.m.partnerUp) _ hc]; rfl)
  · intro s ptr len type body hfab hop hl hr
    refine .fab rfl rfl hfab ?_
    rw [graftMailboxReceive_of_mismatch ptr len type body hop hl hr]
    unfold Mod.mismatch
    dsimp only
    rw [(Mod.post_within ..).pairEq (by decide)]
    exact ⟨rfl, rfl, rfl, (Mod.post_recorded ..).of_store rfl⟩

end Sys2Proof.Machine

end

section

/-!
PROOF. Yield, takeover and drills (SPEC: "Handover", R387 to R398, R449). A module that left its role keeps its place in the pair through
the work of a grain (`Placed`), and a takeover's own changes stand through what follows it (`CapOnly`).
-/

namespace Sys2Proof.Machine

/- The place of a module without its role -/

/-- Whether the module has the role, whether it leaves it after this grain, and whether it had it before. -/
def PairSt.place (p : PairSt) : Bool × Option W32 × Bool := (p.role, p.lastRecord, p.formerActive)

/-- A module without the role is as before: without it, with the same last grain, as active before as it was. -/
structure Placed (a b : Mod) : Prop where
  kept : a.pair.role = false → b.pair.place = a.pair.place

theorem Placed.refl (a : Mod) : Placed a a := ⟨fun _ => rfl⟩

theorem Placed.trans {a b c : Mod} (h : Placed a b) (k : Placed b c) : Placed a c :=
  ⟨fun hr => (k.kept ((congrArg Prod.fst (h.kept hr)).trans hr)).trans (h.kept hr)⟩

theorem Placed.each {α : Type} (m : Mod) (l : List α) {f : Mod → α → Mod} (h : ∀ m x, Placed m (f m x)) : Placed m (m.each l f) :=
  Mod.each_rel Placed.refl Placed.trans m l h

theorem Placed.ite {a b c : Mod} {p : Prop} [Decidable p] (hb : Placed a b) (hc : Placed a c) : Placed a (if p then b else c) := by
  split
  · exact hb
  · exact hc

theorem Within.placed {ps : List Part} {a b : Mod} (h : Within ps a b) (hpair : .pair ∉ ps) : Placed a b :=
  ⟨fun _ => congrArg PairSt.place (h.pairEq hpair)⟩

theorem CapOnly.placed {a b : Mod} (h : CapOnly a b) : Placed a b := by
  obtain ⟨cap, hcap⟩ := h
  exact ⟨fun _ => by rw [hcap]; rfl⟩

theorem Mod.onPair_placed (m : Mod) (f : PairSt → PairSt) (h : ∀ p, (f p).place = p.place) : Placed m (m.onPair f) := ⟨fun _ => h _⟩

theorem Mod.yield_placed (m : Mod) (drill : Bool) : Placed m (m.yield drill) := by
  unfold Mod.yield
  extract_lets t m1
  split
  · exact .refl m
  · have h1 : Placed m m1 := (Mod.cancelActivation_within ..).placed (by decide)
    refine (h1.trans (Mod.onPair_placed m1 _ ?_)).trans ((Mod.out_within ..).placed (by decide))
    exact fun _ => rfl

theorem Mod.evalCauses_placed (m : Mod) : Placed m m.evalCauses := by
  unfold Mod.evalCauses
  extract_lets now m1
  refine Placed.trans ((Mod.fallowClear_within ..).placed (by decide)) (.each m1 _ fun m e => ?_)
  repeat' split
  · exact .refl m
  · exact Mod.yield_placed ..
  · exact (Mod.fallowAdd_within ..).placed (by decide)
  · exact .each m _ fun _ _ => (Mod.fallowAdd_within ..).placed (by decide)

theorem Mod.portTrip_placed (m : Mod) (n : Nat) : Placed m (m.portTrip n) := by
  unfold Mod.portTrip
  extract_lets k
  split
  · exact .refl m
  · refine (Mod.onPair_placed m _ ?_).trans ((Mod.out_within ..).placed (by decide))
    exact fun _ => rfl

theorem Mod.standbySafe_placed (m : Mod) (n : Nat) : Placed m (m.standbySafe n) := by
  have hopen (m : Mod) (g : Nat) : Placed m (m.requestOpen g) := (Mod.requestOpen_within ..).placed (by decide)
  unfold Mod.standbySafe
  dsimp only
  repeat' split
  · exact Mod.portTrip_placed ..
  · exact (Mod.portTrip_placed ..).trans (hopen ..)
  · exact Mod.portTrip_placed ..

theorem Mod.safeStateStrings_placed (m : Mod) (l : List Nat) : Placed m (m.safeStateStrings l) := by
  unfold Mod.safeStateStrings
  split
  · exact .each m _ Mod.standbySafe_placed
  · extract_lets m1 m2
    have h1 : Placed m m1 := (Mod.openSeqs_within ..).placed (by decide)
    have h2 : Placed m1 m2 := .each m1 _ fun m n => .ite ((Mod.tripRequest_within ..).placed (by decide)) (.refl m)
    refine (h1.trans h2).trans (.each m2 _ fun m n => ?_)
    repeat' split
    · exact .refl m
    · exact ((Mod.tripMates_within ..).placed (by decide)).trans ((Mod.requestOpen_within ..).placed (by decide))
    · exact .refl m

theorem Mod.releaseRole_placed (m : Mod) : Placed m m.releaseRole := by
  refine ⟨fun hr => ?_⟩
  unfold Mod.releaseRole
  rw [if_neg (by simp [hr])]
  rfl

theorem Mod.safeStop_placed (m : Mod) (k : StopKind) (mod : Bool) (scope : Nat) : Placed m (m.safeStop k mod scope) := by
  unfold Mod.safeStop
  extract_lets x m1 m2 m3
  have h1 : Placed m m1 := (Mod.onSafety_within ..).placed (by decide)
  have h2 : Placed m1 m2 := .ite
    (((Mod.trialAgain_within ..).placed (by decide)).trans ((Mod.cancelActivation_within ..).placed (by decide))) (.refl m1)
  have h3 : Placed m m3 := (h1.trans h2).trans (Mod.safeStateStrings_placed ..)
  exact .ite (.refl m) (.ite (h3.trans (Mod.releaseRole_placed m3)) h3)

theorem Mod.selfFaultMod_placed (m : Mod) (cause : Nat) : Placed m (m.selfFaultMod cause) := by
  unfold Mod.selfFaultMod
  extract_lets m1
  have h1 : Placed m m1 := ((Mod.onPlan_clock ..).placed (by decide)).trans ((Mod.post_within ..).placed (by decide))
  refine .ite (.refl m) ((h1.trans ?_).trans (Mod.evalCauses_placed _))
  exact ((Mod.trialAgain_within ..).placed (by decide)).trans ((Mod.cancelActivation_within ..).placed (by decide))

theorem Mod.selfFaultClear_placed (m : Mod) (cause : Nat) : Placed m (m.selfFaultClear cause) := by
  unfold Mod.selfFaultClear
  split
  · exact (Placed.trans ((Mod.onPlan_clock m _).placed (by decide)) ((Mod.post_within ..).placed (by decide))).trans (Mod.evalCauses_placed _)
  · exact .refl m

theorem Mod.adcGrain_placed (m : Mod) (die : Int) : Placed m (m.adcGrain die) := by
  have htemp (m : Mod) (t : Int) : Placed m (m.modTemp t) := by
    unfold Mod.modTemp
    extract_lets p warn high trip m1 m2 m3 m4
    have h1 : Placed m m1 := (Mod.onProt_within ..).placed (by decide)
    have h2 : Placed m1 m2 := .ite ((Mod.post_within ..).placed (by decide)) (.refl m1)
    have h3 : Placed m2 m3 := .ite (Mod.selfFaultMod_placed ..) (.refl m2)
    have h4 : Placed m3 m4 := .ite (Mod.selfFaultClear_placed ..) (.refl m3)
    exact (((h1.trans h2).trans h3).trans h4).trans (.ite ((Mod.openSeqs_within ..).placed (by decide)) (.refl m4))
  unfold Mod.adcGrain Mod.boardGrain
  extract_lets m1 m2 m3 c down m4 boards
  have h1 : Placed m m1 := .each m _ fun _ _ => (Mod.strGrain_within ..).placed (by decide)
  have h2 : Placed m1 m2 := .each m1 _ fun _ _ => (Mod.aiGrain_within ..).placed (by decide)
  have h3 : Placed m2 m3 := .each m2 _ fun _ _ => (Mod.piGrain_within ..).placed (by decide)
  have h4 : Placed m3 m4 := (Mod.onAdc_within ..).placed (by decide)
  exact ((((h1.trans h2).trans h3).trans h4).trans (htemp ..)).trans (.each _ _ fun _ _ => (Mod.convGrain_within ..).placed (by decide))

theorem Mod.resyncFail_placed (m : Mod) : Placed m m.resyncFail := by
  unfold Mod.resyncFail
  extract_lets n
  refine .ite ((Mod.onPair_placed m _ ?_).trans ((Mod.post_within ..).placed (by decide))) (Mod.onPair_placed m _ fun _ => rfl)
  exact fun _ => rfl

theorem Mod.activationPoint_placed (m : Mod) (g : W32) : Placed m (m.activationPoint g) :=
  .ite (.refl m) (((Mod.onPlan_clock ..).placed (by decide)).trans (Mod.onPair_placed _ _ fun _ => rfl))

theorem Mod.resyncBoundary_placed (m : Mod) (g : W32) : Placed m (m.resyncBoundary g) := by
  unfold Mod.resyncBoundary
  extract_lets m1
  have h1 : Placed m m1 := Mod.activationPoint_placed ..
  refine h1.trans ?_
  split
  · refine (Mod.onPair_placed m1 _ ?_).trans ((Mod.out_within ..).placed (by decide))
    exact fun _ => rfl
  · split
    · exact .refl m1
    · exact .ite (.refl m1) (.ite (Mod.onPair_placed m1 _ fun _ => rfl) (.ite (Mod.resyncFail_placed m1) (Mod.onPair_placed m1 _ fun _ => rfl)))

theorem Mod.canPend_capOnly (m : Mod) (p o : Nat) (data : List Byte) : CapOnly m (m.canPend p o data) := by
  have hobj (m : Mod) (f : CanObj → CanObj) : CapOnly m (m.onObj p o f) := (Mod.onObj_within ..).capOnly (by decide)
  have hport (m : Mod) (f : CanPort → CanPort) : CapOnly m (m.onPort p f) := (Mod.onPort_within ..).capOnly (by decide)
  unfold Mod.canPend
  extract_lets m1 c x m2 off m3
  have h1 : CapOnly m m1 := Mod.capture_capOnly ..
  refine h1.trans ?_
  repeat' split
  · exact (hobj ..).trans (hport ..)
  · exact hobj ..
  · exact (hobj ..).trans (hport ..)
  · exact hobj ..

theorem Mod.canGrain_placed (m : Mod) : Placed m m.canGrain := by
  have hport (m : Mod) (p : Nat) (f : CanPort → CanPort) : Placed m (m.onPort p f) := (Mod.onPort_within ..).placed (by decide)
  have hgrain (m : Mod) (p : Nat) : Placed m (m.canGrainPort p) := by
    unfold Mod.canGrainPort
    extract_lets c mode timing take m1 m2 tt m3 on dead m4 live g m5 due m6 m7
    have h1 : Placed m m1 := .ite (hport ..) (.refl m)
    have h2 : Placed m1 m2 := .ite (hport ..) (.refl m1)
    have h3 : Placed m2 m3 := .ite (hport ..) (.refl m2)
    have h4 : Placed m3 m4 := .each m3 _ fun _ _ => (Mod.onObj_within ..).placed (by decide)
    have h5 : Placed m4 m5 := .ite (hport ..) (.refl m4)
    have h6 : Placed m5 m6 := .ite (.each m5 _ fun _ _ => (Mod.canPend_capOnly ..).placed) (.refl m5)
    have h7 : Placed m6 m7 := .ite (hport ..) (.refl m6)
    exact ((((((h1.trans h2).trans h3).trans h4).trans h5).trans h6).trans h7).trans ((Mod.canNext_within ..).placed (by decide))
  unfold Mod.canGrain
  extract_lets m1
  have h1 : Placed m m1 := (((Mod.canPass_within ..).placed (by decide)).trans ((Mod.canRole_within _).placed (by decide))).trans (.each _ _ hgrain)
  exact h1.trans ((Mod.onCan_within ..).placed (by decide))

theorem Mod.overrunDue_placed (m : Mod) : Placed m m.overrunDue := by
  unfold Mod.overrunDue
  extract_lets due new m1 m2
  have h1 : Placed m m1 := .ite (.refl m) (Placed.trans (.each m _ fun _ _ => (Mod.onAcct_within ..).placed (by decide)) (Mod.evalCauses_placed _))
  have h2 : Placed m1 m2 := (Mod.onPlan_clock ..).placed (by decide)
  exact (h1.trans h2).trans (.each m2 _ fun _ _ => .ite (Mod.safeStop_placed ..) (Mod.safeStop_placed ..))

theorem Mod.logical_placed (m : Mod) (f : Mod → Mod) (h : ∀ m, Placed m (f m)) : Placed m (m.logical f) := by
  unfold Mod.logical
  split
  · exact h m
  · split
    · exact .refl m
    · extract_lets _ adc _ safe _ a
      have ha : Placed _ a := h _
      exact ⟨fun hr => ha.kept hr⟩

theorem Mod.beginTick_placed (m : Mod) : Placed m m.beginTick := by
  unfold Mod.beginTick
  extract_lets m1
  have h0 : Placed m (if m.standby then m.portTrips else m.each strings Mod.tripTick) :=
    .ite (.each m _ fun _ _ => Mod.onPair_placed _ _ fun _ => rfl) (.each m _ fun _ _ => (Mod.tripTick_within ..).placed (by decide))
  exact (h0.trans (Mod.overrunDue_placed _)).trans (Mod.logical_placed m1 _ fun m => m.tickStart_capOnly.placed)

theorem Mod.grainWork_placed (m old : Mod) (dieT : Int) : Placed m (m.grainWork old dieT) := by
  unfold Mod.grainWork
  extract_lets m1 m2 m3 m4 m5 m6 m7 m8 m9 m10
  have h1 : Placed m m1 := Placed.trans (.ite ((Mod.onTime_within ..).placed (by decide)) (.refl m)) ((Mod.msTick_within _).placed (by decide))
  have h2 : Placed m1 m2 := Mod.onPair_placed m1 _ fun _ => rfl
  have h3 : Placed m2 m3 := by
    have hround : Placed m2 (m2.each (List.range 3) Mod.splitRound) := .each m2 _ fun _ _ => (Mod.splitRound_within ..).placed (by decide)
    have hsnap (m : Mod) : Placed m (m.onHost fun h => { h with snap := h.params }) := ⟨fun _ => rfl⟩
    have hforce (m : Mod) : Placed m m.takeForce := m.takeForce_within.placed (by decide)
    exact (hround.trans (hsnap _)).trans (hforce _)
  have h4 : Placed m3 m4 := ((Mod.ocRewrite_within ..).placed (by decide)).trans ((Mod.archPeriodChange_within ..).placed (by decide))
  have h5 : Placed m4 m5 := .ite (.each m4 _ fun _ _ => (Mod.noDecision_within ..).placed (by decide)) (.refl m4)
  have h6 : Placed m5 m6 := (Mod.adcGrain_placed ..).trans ((Mod.grainLabel_within _).placed (by decide))
  have h7 : Placed m6 m7 := .ite (.refl m6) ((Mod.outageRest_within ..).placed (by decide))
  have h8 : Placed m7 m8 := by
    have hplan (m : Mod) : Placed m m.planBoundary := m.planBoundary_within.placed (by decide)
    have hmark (m : Mod) : Placed m m.followMarker := m.followMarker_within.placed (by decide)
    have hmarked : Placed m7 (m7.resyncBoundary m7.plan.grainCnt).followMarker := (Mod.resyncBoundary_placed ..).trans (hmark (m7.resyncBoundary m7.plan.grainCnt))
    exact .ite (hmarked.trans (Mod.onPair_placed _ _ fun _ => rfl)) ((hplan m7).trans (Mod.onPair_placed _ _ fun _ => rfl))
  have h9 : Placed m8 m9 := .each m8 _ fun _ _ => (Mod.serviceCheck_within ..).placed (by decide)
  have h10 : Placed m9 m10 := (Mod.restartGrain_within _).placed (by decide)
  have h11 : Placed m10 ((m10.canFreed old).canGrain.beginTick) :=
    (((Mod.canFreed_within ..).placed (by decide)).trans (Mod.canGrain_placed _)).trans (Mod.beginTick_placed _)
  exact ((((((((((h1.trans h2).trans h3).trans h4).trans h5).trans h6).trans h7).trans h8).trans h9).trans h10)).trans h11

theorem Mod.acctGrain_placed (m : Mod) : Placed m m.acctGrain := by
  have hacct (m : Mod) (b : Nat) (f : BedAcct → BedAcct) : Placed m (m.onAcct b f) := (Mod.onAcct_within ..).placed (by decide)
  have hback (m : Mod) : Placed m m.driverBack := by
    unfold Mod.driverBack
    exact .ite (.refl m) (Mod.onPair_placed m _ fun _ => rfl)
  have hend (m : Mod) : Placed m m.endOverrunStops := Placed.trans ((Mod.onSafety_within ..).placed (by decide)) (hback _)
  unfold Mod.acctGrain
  extract_lets counts m1
  refine Placed.trans ((Mod.onPlan_clock ..).placed (by decide)) (.each m1 _ fun m b => ?_)
  dsimp only
  repeat' split
  · exact hacct ..
  · refine Placed.trans ?_ (Mod.evalCauses_placed _)
    refine Placed.trans ?_ (hend _)
    refine Placed.trans ?_ ((Mod.post_within ..).placed (by decide))
    exact hacct ..
  · exact hacct ..

/-- A module that has left its role becomes at the boundary the standby that formerly was active. -/
theorem Mod.endGrain_of_released {m : Mod} (h : m.pair.lastRecord.isSome = true) : m.endGrain.pair.place = (false, none, true) := by
  have hst : m.standby = false := by
    unfold Mod.standby
    rw [Option.isNone_eq_false_iff.mpr h, Bool.and_false]
  unfold Mod.endGrain
  extract_lets m1 m2 m3
  have h2 : m2.pair = m.pair := by
    have h1 : m1.pair = m.pair := by
      unfold m1 Mod.endTick
      rw [if_neg (by simp [hst]), (Mod.tickEnd_within _).pairEq (by decide)]
    exact (Mod.each_keeps (fun m => m.pair) m1 _ _ fun _ _ => by rw [(Mod.peakGrain_within ..).pairEq (by decide)]).trans h1
  have h3 : m3.pair.place = (false, none, true) := by
    unfold m3
    rw [if_pos (by rw [h2]; exact h)]
    rfl
  have hrole : m3.pair.role = false := congrArg Prod.fst h3
  have h4 : Placed m3 (m3.acctGrain.onPair fun p => { p with digestRan := false, cap := {} }) :=
    (Mod.acctGrain_placed m3).trans (Mod.onPair_placed _ _ fun _ => rfl)
  exact (h4.kept hrole).trans h3

theorem grainBoundary_of_released {m : Mod} (dieT : Int) (hdue : m.boundaryDue = true) (hfirst : m.plan.firstGrain = true)
    (hlast : m.pair.lastRecord.isSome = true) : (grainBoundary dieT m).pair.place = (false, none, true) := by
  have hend := Mod.endGrain_of_released hlast
  unfold grainBoundary
  rw [if_neg (by simp [hdue]), if_pos hfirst]
  exact ((Mod.grainWork_placed m.endGrain.nextGrain m dieT).kept (congrArg Prod.fst hend)).trans hend

/- Takeover, R388 to R393 -/

/-- What a takeover of a ready standby leaves of the pair and of the servo. -/
theorem Mod.takeRole_effect (m : Mod) (kind : Nat) :
    (m.takeRole kind).pair.role = true ∧ (m.takeRole kind).pair.takeovers = stopAt 0xFFFF (m.pair.takeovers + 1) ∧
      (m.takeRole kind).pair.lastTakeoverGrain = m.plan.grainCnt ∧ (m.takeRole kind).pair.lastTakeoverMs = m.power.opMs ∧
      (m.takeRole kind).pair.sync = .none ∧ (m.takeRole kind).pair.ports = [] ∧ (m.takeRole kind).time.servo = .acquiring := by
  unfold Mod.takeRole
  extract_lets m1 s drill missed m2 m3 ports m4 m5
  have h1 := Mod.cancelActivation_within m 2
  have hpair : m1.pair = m.pair := h1.pairEq (by decide)
  have hcnt : m1.plan.grainCnt = m.plan.grainCnt := (h1.clockEq (by decide)).1
  have hms : m1.pw.opMs = m.pw.opMs := congrArg PowerSt.opMs (h1.out .power (by decide))
  have h4 : m4.pair = m3.pair ∧ m4.time = m3.time :=
    ⟨Mod.each_keeps (fun m => m.pair) m3 _ _ fun _ _ => rfl, Mod.each_keeps (fun m => m.time) m3 _ _ fun _ _ => rfl⟩
  have h5 := Mod.forget_within m4 (if kind ≠ 2 ∧ s = 0 then m4.disp.cmds else [])
  rw [(Mod.post_within ..).pairEq (by decide), (Mod.post_within ..).timeEq (by decide)]
  have hpair5 : m5.pair = m3.pair := (h5.pairEq (by decide)).trans h4.1
  have htime5 : m5.time = m3.time := (h5.timeEq (by decide)).trans h4.2
  have htaken : m3.pair.takeovers = stopAt 0xFFFF (m.pair.takeovers + 1) := by rw [← hpair]; rfl
  dsimp only [Mod.onPair]
  rw [hpair5, htime5]
  exact ⟨rfl, htaken, hcnt, hms, rfl, rfl, rfl⟩

/-- What follows a takeover in its first grain leaves the pair and the time alone, but for what it copies for the next record. -/
theorem takeover_of_ready {m : Mod} {k : Nat} (hk : m.takeoverDue = some k) (hready : m.standbyReady = true) :
    CapOnly (m.takeRole k) (takeover m) ∧ (takeover m).time = (m.takeRole k).time := by
  unfold takeover
  rw [hk]
  dsimp only
  rw [if_pos hready]
  generalize m.takeRole k = m1
  have hex : Within [.store, .conv, .disp, .prot] m1 (m1.each m1.linkStrings Mod.examineLink) :=
    (Within.refl _ _).each fun _ _ => Mod.examineLink_within ..
  generalize m1.each m1.linkStrings Mod.examineLink = m2 at hex ⊢
  have hplan := m2.planBoundary_within
  generalize m2.planBoundary = m3 at hplan ⊢
  have htick := m3.tickStart_within
  have hcap := m3.tickStart_capOnly
  generalize m3.tickStart = m4 at htick hcap ⊢
  have hcan := m4.canRole_within
  exact ⟨(((hex.capOnly (by decide)).trans (hplan.capOnly (by decide))).trans hcap).trans (hcan.capOnly (by decide)),
    (hcan.timeEq (by decide)).trans ((htick.timeEq (by decide)).trans ((hplan.timeEq (by decide)).trans (hex.timeEq (by decide))))⟩

theorem Mod.takeoverDue_of_announced {m : Mod} (hst : m.standby = true) (hmode : m.plan.mode ≠ .stopped) (hd : m.pair.driverEnabled = true)
    (ht : m.plan.tick = 0) (hp : m.pair.partnerRole = false)
    (h : (m.pair.announced = some m.plan.grainCnt ∧ 10 ≤ m.pair.releasedUs) ∨ (100 ≤ m.pair.releasedUs ∧ 3 ≤ m.pair.hbMiss)) :
    ∃ k, m.takeoverDue = some k := by
  unfold Mod.takeoverDue
  dsimp only
  rw [if_neg (by simp [hst, hmode, hd, ht, hp])]
  split
  · exact ⟨_, rfl⟩
  · next hno =>
    rcases h with ha | hm
    · exact absurd (decide_eq_true ha) hno
    · exact ⟨1, if_pos (decide_eq_true ⟨hm.1, .inl hm.2⟩)⟩

/- Drills, R397, R398 -/

theorem drillDue_of_period {m : Mod} (hop : m.pairOp = true) (hr : m.pair.role = true) (hpar : m.par 0x9002 = 1) (hy : m.pair.yieldAt = none)
    (hd : m.pair.drillDue = false) (hp : m.pair.partnerReady = false)
    (hms : 1000 * m.parN 0x9003 ≤ m.power.opMs - m.pair.lastTakeoverMs) :
    drillDue m = m.onPair fun p => { p with drillDue := true, drillDueMs := m.host.ms, drillOverdue := false } := by
  unfold drillDue
  extract_lets due m1
  have h1 : m1 = m.onPair fun p => { p with drillDue := true, drillDueMs := m.host.ms, drillOverdue := false } :=
    if_pos (by simp [due, hms, hd])
  have hready : m1.pair.partnerReady = false := by rw [h1]; exact hp
  rw [if_neg (by simp [hop, hr, hpar, hy]), ← h1]
  exact if_neg (by simp [Mod.drillMay, Mod.canYield, hready])

theorem drillCheck_of_passed {m : Mod} {g : W32} (hg : m.pair.drillCheck = some g) (h200 : 200 ≤ (m.plan.grainCnt - g).toNat)
    (hok : m.pair.drillHandoverOk = true) (hready : m.pair.drillReady = true) :
    drillCheck m = m.onPair fun p => { p with drillCheck := none, drills := stopAt 0xFFFF (p.drills + 1) } := by
  unfold drillCheck
  rw [hg]
  extract_lets ok m1
  have hpass : ok = true := by unfold ok; rw [hok, hready]; rfl
  dsimp only
  rw [if_neg (Nat.not_lt.mpr h200), if_pos hpass]
  unfold m1
  rw [hpass]
  refine congrArg (fun p => { m with pair := p }) ?_
  dsimp only
  rw [Bool.not_true, Bool.or_false]
  rfl

theorem drillCheck_of_failed {m : Mod} {g : W32} (hg : m.pair.drillCheck = some g) (h200 : 200 ≤ (m.plan.grainCnt - g).toNat)
    (hok : m.pair.drillHandoverOk = true) (hready : m.pair.drillReady = false) :
    drillCheck m = (m.onPair fun p => { p with drillCheck := none, drillFail := true }).post 0x9007 0xFF bFabric (u8 1) := by
  unfold drillCheck
  rw [hg]
  extract_lets ok m1
  have hfail : ok = false := by unfold ok; rw [hready, Bool.and_false]
  dsimp only
  rw [if_neg (Nat.not_lt.mpr h200), if_neg (by rw [hfail]; decide), show m1.pair.drillHandoverOk = true from hok]
  refine congrArg (fun p => Mod.post { m with pair := p } 0x9007 0xFF bFabric (u8 1)) ?_
  dsimp only
  rw [hfail, Bool.not_false, Bool.or_true]
  rfl

/- What the partner announces, R76, R449 -/

theorem graftMailboxReceive_of_handover {m : Mod} (ptr len type : Nat) (body : List Byte) (hop : m.pairOp = true) (hl : m.pair.lanes ≠ 0)
    (hst : m.standby = true) :
    graftMailboxReceive 4 ptr len type body m = m.partnerUp.yieldAnnounced (BitVec.ofNat 32 ptr) (decide (type = 1)) := by
  unfold graftMailboxReceive
  rw [if_neg (by simpa [hop] using hl)]
  exact if_pos hst

theorem graftMailboxReceive_of_cancellation {m : Mod} (ptr len type : Nat) (body : List Byte) (hop : m.pairOp = true) (hl : m.pair.lanes ≠ 0)
    (hst : m.standby = true) (hc : rdN body 0 1 ≠ 0) :
    graftMailboxReceive 22 ptr len type body m = m.partnerUp.cancelActivation (rdN body 0 1) := by
  unfold graftMailboxReceive
  rw [if_neg (by simpa [hop] using hl)]
  exact (if_pos hst).trans (if_neg hc)

theorem Mod.cancelActivation_of_scheduled {m : Mod} {g : W32} {c : Candidate} (cause : Nat) (hg : m.plan.scheduled = some g)
    (hc : m.plan.staged = some c) :
    m.cancelActivation cause = ((m.tellCancel cause).onPlan fun p => { p with scheduled := none }).post 0x1008
      (if c.kind = 0 then 0xFF else c.bed) bFabric (u8 cause ++ [0, 0, 0] ++ leN 4 g.toNat) := by
  unfold Mod.cancelActivation
  rw [hg, hc]

/-- Settles O23: a grain's work keeps the place of a module without the role (`Placed`), a takeover's changes stand through the first grain
(`takeover_of_ready`), and one equation for each other row. -/
theorem handover : Obligations.Handover := by
  unfold Obligations.Handover
  refine ⟨?_, ?_, ?_, ?_, ?_, ?_, ?_, ?_, ?_⟩
  · intro s g hfab hy hr hcnt htick
    refine .fab rfl rfl hfab ?_
    have heq : yieldRoleRelease s.m = s.m.canInhibit.onPair fun p => { p with role := false, lastRecord := some g } := by
      unfold yieldRoleRelease
      rw [hy]
      exact if_pos (by rw [hr, decide_eq_true hcnt, decide_eq_true htick]; rfl)
    rw [heq]
    exact ⟨rfl, Bool.and_false _⟩
  · intro s d g hplan hfirst hdue hlast
    have hplace (bed : Option Nat) (image : Option BedImage) :
        (grainBoundary d (s.m.resyncGrain bed image [])).pair.place = (false, none, true) := by
      refine grainBoundary_of_released d ((Mod.resyncGrain_boundaryDue ..).trans hdue) ?_ ?_
      · rw [(Mod.resyncGrain_within ..).planEq (by decide), hfirst]
      · obtain ⟨l, b, hpair⟩ := s.m.resyncGrain_pair bed image []
        rw [hpair, hlast]
        rfl
    have hgrain : Completes (.grainBoundary d) s fun t => t.m.pair.place = (false, none, true) := by
      refine ⟨_, show s.grain (grainBoundary d) = _ from if_pos (by rw [hplan, hdue]; rfl), ?_⟩
      split
      · exact hplace ..
      · exact grainBoundary_of_released d hdue hfirst (by rw [hlast]; rfl)
    obtain ⟨t, hexec, ht⟩ := hgrain
    obtain ⟨hrole, hl, hformer⟩ := Prod.mk.inj ht |>.imp_right Prod.mk.inj
    exact ⟨t, hexec, hrole, hformer, hl⟩
  · intro s hplan hd ht hp hdue hready
    obtain ⟨hfab, hmode⟩ : s.m.fabricOn = true ∧ s.m.plan.mode ≠ .stopped := by simpa [Mod.planOn] using hplan
    have hst : s.m.standby = true := by
      unfold Mod.standbyReady at hready
      simp only [Bool.and_eq_true] at hready
      tauto
    obtain ⟨k, hk⟩ := Mod.takeoverDue_of_announced hst hmode hd ht hp hdue
    obtain ⟨⟨cap, hpair⟩, htime⟩ := takeover_of_ready hk hready
    have heff := Mod.takeRole_effect s.m k
    refine .fab rfl rfl hfab ?_
    generalize takeover s.m = m at hpair htime ⊢
    dsimp only
    rw [hpair, htime]
    exact heff
  · intro s hfab hop hr hpar hy hd hp hms
    exact .fab rfl rfl hfab (by rw [drillDue_of_period hop hr hpar hy hd hp hms])
  · intro s hfab hd ho hms
    exact .fab rfl rfl hfab (by rw [show drillOverdue s.m = _ from if_pos (by simp [hd, ho, hms])])
  · intro s g hfab hg h200 hok hready
    exact .fab rfl rfl hfab (by rw [drillCheck_of_passed hg h200 hok hready])
  · intro s g hfab hg h200 hok hready
    exact .fab rfl rfl hfab (by rw [drillCheck_of_failed hg h200 hok hready])
  · intro s ptr len type body hfab hop hl hst
    exact .fab rfl rfl hfab (by rw [graftMailboxReceive_of_handover ptr len type body hop hl hst]; rfl)
  · intro s ptr len type body g c hfab hop hl hst hcause hg hc
    refine .fab rfl rfl hfab ?_
    rw [graftMailboxReceive_of_cancellation ptr len type body hop hl hst hcause,
      Mod.cancelActivation_of_scheduled (m := s.m.partnerUp) _ hg hc]
    have htell := s.m.partnerUp.tellCancel_within (rdN body 0 1)
    have hstore : (s.m.partnerUp.tellCancel (rdN body 0 1)).store = s.m.store := htell.storeEq (by decide)
    have hplan : (s.m.partnerUp.tellCancel (rdN body 0 1)).plan = s.m.plan := htell.planEq (by decide)
    generalize s.m.partnerUp.tellCancel (rdN body 0 1) = m at hstore hplan ⊢
    dsimp only
    rw [(Mod.post_fields ..).1]
    exact ⟨rfl, by rw [Mod.onPlan, hplan]; exact hc, (Mod.post_recorded ..).of_store hstore⟩

end Sys2Proof.Machine

end

section

/-!
PROOF. Sessions (SPEC: "Sessions", chapter 11). A session opened has a number of its own (`freshSid_fresh`); one closed is gone with its streams.
-/

namespace Sys2Proof.Machine

/- A host command that is answered at once: what it may change -/

/-- The parts that a host command may change. -/
def hostParts : List Part :=
  [.plan, .host, .store, .power, .chain, .est, .conv, .disp, .prot, .safety, .pair, .time, .can, .adc, .upd, .sent, .free]

/-- `Completes.host` with the frame of the host commands. -/
theorem Completes.hostWithin {i : Instr} {s : State} {op : Nat} {rq : HostReq} {e : Session} {C : State → Prop} {m' : Mod} {a : Ans}
    (hexec : exec i s = s.on true (hostRow op rq s.dir)) (hadmit : s.m.Admits op rq e)
    (hop : hostOp { s := e, op := op, rq := rq, dir := s.dir } (s.m.noted rq e) = (m', a)) (hheld : a.held = false)
    (h : Within hostParts s.m ((m'.replied op rq e a.status a.tlvs a.grain).afterReply rq.session a.after) →
      C { s with m := (m'.replied op rq e a.status a.tlvs a.grain).afterReply rq.session a.after }) : Completes i s C := by
  refine .host hexec hadmit hop hheld (h ?_)
  have hrow := hostRow_within op rq s.dir s.m
  rw [hostRow_admitted _ hadmit] at hrow
  dsimp only at hrow
  rw [hop, if_neg (by simp [hheld])] at hrow
  exact hrow

/- The numbers of the sessions -/

/-- The numbers of the open sessions. -/
def Mod.sids (m : Mod) : List Nat := m.host.sessions.map (·.sid)

theorem Mod.session?_isSome (m : Mod) (sid : Nat) : (m.session? sid).isSome = true ↔ sid ∈ m.sids := by
  simp [Mod.session?, Mod.sids]

theorem Mod.onSession_sids (m : Mod) (sid : Nat) (f : Session → Session) (h : ∀ x, (f x).sid = x.sid) : (m.onSession sid f).sids = m.sids := by
  simp only [Mod.sids, Mod.onSession, List.map_map]
  refine List.map_congr_left fun x _ => ?_
  simp only [Function.comp]
  split
  · exact h x
  · rfl

theorem Mod.noted_sids (m : Mod) (rq : HostReq) (e : Session) : (m.noted rq e).sids = m.sids := by
  unfold Mod.noted
  split
  · exact Mod.onSession_sids m rq.session _ fun _ => rfl
  · rfl

theorem Mod.replied_sids (m : Mod) (op : Nat) (rq : HostReq) (e : Session) (status : Nat) (tlvs : List Tlv) (grain : Nat) :
    (m.replied op rq e status tlvs grain).sids = m.sids := by
  unfold Mod.replied
  extract_lets x
  have hpass : (m.passOn op rq e grain (some x)).sids = m.sids := by
    rw [Mod.sids, (Mod.passOn_within ..).hostEq (by decide)]
    rfl
  refine Eq.trans ?_ hpass
  exact Mod.onSession_sids _ rq.session (fun y => { y with cache := (x :: y.cache).take 64 }) fun _ => rfl

/-- A session closed is gone, and its streams with it. -/
theorem Mod.closeSession_gone (m : Mod) (sid : Nat) (h : sid ∈ m.sids) :
    (m.closeSession sid).session? sid = none ∧ ∀ x ∈ (m.closeSession sid).host.streams, x.sid ≠ sid := by
  obtain ⟨e, he⟩ := Option.isSome_iff_exists.mp ((m.session?_isSome sid).mpr h)
  have hhost : (m.closeSession sid).host = { m.host with
      sessions := m.host.sessions.filter fun x => x.sid != sid, streams := m.host.streams.filter fun x => x.sid != sid
      mbx := tput m.host.mbx e.slot (tget m.host.mbx e.slot).emptied } := by
    unfold Mod.closeSession
    rw [he]
    dsimp only
    unfold Mod.capture
    split <;> rfl
  unfold Mod.session?
  rw [hhost]
  exact ⟨by simp, fun x hx => by simpa using (List.mem_filter.mp hx).2⟩

/-- With at most 15 numbers in use the number drawn is none of them, and not 0. -/
theorem freshSid_fresh (used : List Nat) (v : Nat) (h : used.length < 16) : freshSid used v ≠ 0 ∧ freshSid used v ∉ used := by
  have hex : ∃ x ∈ (List.range 18).map fun k => (v + k) % 2 ^ 32, x ∉ (0 :: used) := by
    by_contra hno
    push Not at hno
    have hnodup : ((List.range 18).map fun k => (v + k) % 2 ^ 32).Nodup := by
      refine List.Nodup.map_on (fun a ha b hb hab => ?_) List.nodup_range
      have ha := List.mem_range.mp ha
      have hb := List.mem_range.mp hb
      omega
    have hle := (List.subperm_of_subset hnodup hno).length_le
    rw [List.length_map, List.length_range, List.length_cons] at hle
    omega
  obtain ⟨x, hx, hnot⟩ := hex
  have hsome : (((List.range 18).map fun k => (v + k) % 2 ^ 32).find? fun x => x != 0 && !used.contains x).isSome = true := by
    rw [List.find?_isSome]
    simp only [List.mem_cons, not_or] at hnot
    exact ⟨x, hx, by simp [hnot]⟩
  obtain ⟨y, hy⟩ := Option.isSome_iff_exists.mp hsome
  have hp := List.find?_some hy
  unfold freshSid
  rw [hy, Option.getD_some]
  simpa using hp

/- Opening -/

theorem Mod.capture_host (m : Mod) (f : ReplayRec → ReplayRec) : (m.capture f).host = m.host := by
  unfold Mod.capture
  split <;> rfl

theorem Mod.sendReply1_host (m : Mod) (key : List Byte) (net addr port : Nat) (r : Reply) : (m.sendReply1 key net addr port r).host = m.host := rfl

/-- The session that SESSION_OPEN opens: its number and the nonce of its key are the module's. -/
theorem sessionOpen_of_free {m : Mod} {rq : HostReq} (hserves : m.servesHost = true) (hcred : m.credOk (reqNum rq 0x0001 0 2) rq.net rq.addr = true)
    (hform : tlvFault ⟨0x0001, 0, .yes, [0x0001, 0x0002], [], [], true⟩ rq.malformed rq.tlvs = none)
    (hnew : m.openedBy (reqNum rq 0x0001 0 2) (tlvVal rq.tlvs 0x0002) rq.seq = none) (hroom : m.host.sessions.length < 16) :
    (∃ x nM, (sessionOpen rq m).host.sessions = m.host.sessions ++ [x] ∧ x.sid ≠ 0 ∧ x.sid ∉ m.sids ∧ x.cred = reqNum rq 0x0001 0 2 ∧
      x.role = m.cred (reqNum rq 0x0001 0 2) 1 ∧ x.prio = m.cred (reqNum rq 0x0001 0 2) 2 ∧ x.high = rq.seq ∧ x.seen = 1 ∧
      x.lastReq = m.host.ms ∧ x.key = sessionKey (m.credKey (reqNum rq 0x0001 0 2)) "KXHS" (tlvVal rq.tlvs 0x0002) nM x.sid) ∧
    (sessionOpen rq m).host.streams = m.host.streams := by
  unfold sessionOpen
  dsimp only
  rw [if_neg (by simp [hserves]), if_neg (by simp [show m.credOk (rdN (tlvVal rq.tlvs 0x0001) 0 2) rq.net rq.addr = true from hcred]), hform]
  dsimp only
  rw [show m.openedBy (rdN (tlvVal rq.tlvs 0x0001) 0 2) (tlvVal rq.tlvs 0x0002) rq.seq = none from hnew]
  dsimp only
  rw [if_neg (Nat.not_le.mpr hroom)]
  have hdrawn : Within [.free] m (Mod.freeBytes 2 m.free.2).2 := (m.free_within).trans (Mod.freeBytes_within ..)
  generalize Mod.freeBytes 2 m.free.2 = drawn at hdrawn ⊢
  obtain ⟨nM, d⟩ := drawn
  have hhost : d.host = m.host := hdrawn.hostEq (by decide)
  have hkey (c : Nat) : d.credKey c = m.credKey c := by
    rw [Mod.credKey, hdrawn.powerEq (by decide) (by decide)]
    rfl
  have hcredAt (c j : Nat) : d.cred c j = m.cred c j := by
    unfold Mod.cred Mod.parN Mod.par
    rw [hhost, hdrawn.safetyEq (by decide)]
  obtain ⟨hzero, hfresh⟩ := freshSid_fresh m.sids (m.free.1.toNat % 2 ^ 32) (by rw [Mod.sids, List.length_map]; exact hroom)
  dsimp only
  rw [Mod.sendReply1_host, Mod.capture_host]
  dsimp only [Mod.addSession, Mod.onHost]
  rw [hhost]
  exact ⟨⟨_, nM, rfl, hzero, hfresh, rfl, hcredAt .., hcredAt .., rfl, rfl, rfl, by rw [hkey]⟩, rfl⟩

/- Notices, and packets -/

theorem hNoticeAck_of_held (r : Req) (m : Mod) (h : ∀ x ∈ r.rq.tlvs, x.type = 0x0004 → ∃ n ∈ r.s.notices, n.seq = rdN x.value 0 4) :
    hNoticeAck r m = (m.onSession r.rq.session fun s => { s with notices := s.notices.filter fun n =>
      !((r.rq.tlvs.filter fun (y : Tlv) => y.type == 0x0004).map fun (y : Tlv) => rdN y.value 0 4).contains n.seq }, ans 0) := by
  refine if_pos ?_
  simp only [List.all_map, List.all_filter, List.all_eq_true, Function.comp]
  intro x hx
  by_cases ht : x.type = 0x0004
  · obtain ⟨n, hn, hseq⟩ := h x hx ht
    rw [ht]
    simp only [beq_self_eq_true, Bool.not_true, Bool.false_or]
    exact List.any_eq_true.mpr ⟨n, hn, beq_iff_eq.mpr hseq⟩
  · simp [ht]

theorem noticeResend_of_due {m : Mod} {sid q : Nat} {e : Session} {n : Notice} (he : m.session? sid = some e) (hn : e.notices = [n])
    (hq : n.seq = q) (hdue : m.parN 0xA0C2 ≤ m.host.ms - n.sentAt) :
    noticeResend sid q m = if m.parN 0xA0C3 ≤ n.tries - 1 then m.onSession sid fun x => { x with notices := x.notices.filter fun y => y.seq != q }
      else (m.onSession sid fun x => { x with notices := x.notices.map fun (y : Notice) =>
        if y.seq = q then { n with tries := n.tries + 1, sentAt := m.host.ms } else y }).sendNotice e { n with tries := n.tries + 1, sentAt := m.host.ms } := by
  unfold noticeResend
  rw [he]
  dsimp only
  rw [hn, List.find?_cons_of_pos (by simp [hq])]
  dsimp only
  rw [if_neg (Nat.not_lt.mpr hdue)]

/-- A packet at the port of the sessions that the network's filter passes and whose address is not blocked. -/
theorem udpPacketReceive_of_short {m : Mod} {net addr port : Nat} {bytes : List Byte} (dir : Option (W32 × Mod)) (hs : m.servesHost = true)
    (hnet : net < 2) (hallow : m.netAllows net addr = true) (hblock : m.isBlocked addr = false) (hshort : bytes.length < 40) :
    udpPacketReceive net addr port 50231 bytes dir m = m.badForm := by
  unfold udpPacketReceive
  dsimp only
  rw [if_neg (by simp [hs, Nat.not_le.mpr hnet, hallow, hblock]), if_pos (by simp [hshort])]

theorem udpPacketReceive_of_session {m : Mod} {net addr port : Nat} {bytes : List Byte} {e : Session} (dir : Option (W32 × Mod))
    (hs : m.servesHost = true) (hnet : net < 2) (hallow : m.netAllows net addr = true) (hblock : m.isBlocked addr = false)
    (hlen : 40 ≤ bytes.length) (hmagic : rdN bytes 0 2 = 0x4B58) (hver : rdN bytes 2 1 = 1) (hmax : rdN bytes 16 4 ≤ 8192)
    (hbody : rdN bytes 16 4 = bytes.length - 40) (hflags : rdN bytes 3 1 &&& 11 = 0) (hop : rdN bytes 4 2 ≠ 1)
    (he : m.session? (rdN bytes 12 4) = some e)
    (htag : packetTag e.key (bytes.take (bytes.length - 16)) = bytes.drop (bytes.length - 16)) :
    udpPacketReceive net addr port 50231 bytes dir m = hostRow (rdN bytes 4 2)
      { session := rdN bytes 12 4, seq := BitVec.ofNat 32 (rdN bytes 8 4), net := net, addr := addr, port := port
        tlvs := (splitTlvs 8192 ((bytes.take (bytes.length - 16)).drop 24)).1
        malformed := (splitTlvs 8192 ((bytes.take (bytes.length - 16)).drop 24)).2 } dir m := by
  unfold udpPacketReceive
  dsimp only
  rw [if_neg (by simp [hs, Nat.not_le.mpr hnet, hallow, hblock]),
    if_neg (by simp [Nat.not_lt.mpr hlen, hmagic, hver, Nat.not_lt.mpr hmax, ← hbody, hflags]), if_neg hop, he]
  exact if_pos htag

theorem udpPacketReceive_of_filtered {m : Mod} {net addr port : Nat} {bytes : List Byte} (dir : Option (W32 × Mod))
    (h : m.netAllows net addr = false) : udpPacketReceive net addr port 50231 bytes dir m = m := by
  refine if_pos ?_
  simp [h]

theorem Mod.netAllows_of_no_match {m : Mod} {net addr : Nat} (hon : m.parN (0xA00D + 48 * net) = 1)
    (h : ∀ k < 16, m.parN (0xA020 + k + 48 * net) ≠ 0 →
      addr &&& m.parN (0xA020 + k + 48 * net) ≠ m.parN (0xA010 + k + 48 * net) &&& m.parN (0xA020 + k + 48 * net)) :
    m.netAllows net addr = false := by
  have hany : ((List.range 16).any fun k => decide (m.parN (0xA020 + k + 48 * net) ≠ 0) &&
      decide (addr &&& m.parN (0xA020 + k + 48 * net) = m.parN (0xA010 + k + 48 * net) &&& m.parN (0xA020 + k + 48 * net))) = false := by
    rw [List.any_eq_false]
    intro k hk
    by_cases hz : m.parN (0xA020 + k + 48 * net) = 0
    · simp [hz]
    · simp [h k (List.mem_range.mp hk) hz]
  unfold Mod.netAllows
  dsimp only
  rw [hany, Bool.or_false, decide_eq_false (show ¬m.parN (0xA00D + 48 * net) = 0 by rw [hon]; decide), Bool.and_false]

/-- Settles O24: each row by its equation, the number of a new session by `freshSid_fresh`, what closing takes by `closeSession_gone`. -/
theorem sessionRows : Obligations.SessionRows := by
  unfold Obligations.SessionRows
  refine ⟨?_, ?_, ?_, ?_, ?_, ?_, ?_, ?_, ?_, ?_, ?_⟩
  · intro s rq c hp hserves hc _ hform hcred hnew hroom
    subst hc
    obtain ⟨⟨x, nM, hlist, hzero, hfresh, hrest⟩, hstreams⟩ := sessionOpen_of_free hserves hcred hform hnew hroom
    have honly := (sessionOpen_within rq s.m).only (s := s)
    refine .on rfl rfl hp ⟨⟨x, nM, hlist, hzero, fun y hy e => hfresh ?_, hrest⟩, hstreams, honly⟩
    exact List.mem_map.mpr ⟨y, hy, e⟩
  · intro s rq e hadmit
    refine .hostWithin rfl hadmit rfl rfl fun hw => ?_
    have hsid : rq.session ∈ ((s.m.noted rq e).replied 0x0002 rq e 0).sids := by
      rw [Mod.replied_sids, Mod.noted_sids, ← Mod.session?_isSome]
      obtain ⟨-, -, he, -⟩ := hadmit
      rw [he]
      rfl
    obtain ⟨hgone, hstreams⟩ := Mod.closeSession_gone _ _ hsid
    exact ⟨rfl, hgone, hstreams, hw.only⟩
  · intro s rq e hadmit
    exact .host rfl hadmit rfl rfl rfl
  · intro s rq e hadmit hheld
    exact .host rfl hadmit (hNoticeAck_of_held _ _ hheld) rfl rfl
  · intro s sid e hsup he hidle
    have heq : sessionIdleTimeout sid s.m = s.m.closeSession sid := by
      unfold sessionIdleTimeout
      rw [he]
      exact if_pos hidle
    have honly := (sessionIdleTimeout_within sid s.m).only (s := s)
    obtain ⟨hgone, hstreams⟩ := s.m.closeSession_gone sid ((s.m.session?_isSome sid).mp (by rw [he]; rfl))
    refine .sup rfl rfl hsup ?_
    rw [heq] at honly ⊢
    exact ⟨rfl, hgone, hstreams, honly⟩
  · intro s sid q e n hsup he hn hq hdue htries
    exact .sup rfl rfl hsup (by rw [noticeResend_of_due he hn hq hdue, if_neg (Nat.not_le.mpr htries)])
  · intro s sid q e n hsup he hn hq hdue htries
    exact .sup rfl rfl hsup (by rw [noticeResend_of_due he hn hq hdue, if_pos htries])
  · intro s addr hsup
    refine .sup rfl rfl hsup ⟨fun b => ?_, rfl, (authBlockExpiry_within ..).only⟩
    simp [authBlockExpiry, Mod.onHost]
  · intro s net addr port bytes e hp hs hnet hallow hblock hlen hmagic hver hmax hbody hflags hop he htag
    exact .on rfl (okTwo_of_lt hnet) hp
      ⟨udpPacketReceive_of_session s.dir hs hnet hallow hblock hlen hmagic hver hmax hbody hflags hop he htag, rfl⟩
  · intro s net addr port bytes hp hs hnet hallow hblock hshort
    exact .on rfl (okTwo_of_lt hnet) hp (by rw [udpPacketReceive_of_short s.dir hs hnet hallow hblock hshort]; rfl)
  · intro s net addr port bytes hp hnet hon hno
    exact .on rfl (okTwo_of_lt hnet) hp (by rw [udpPacketReceive_of_filtered s.dir (Mod.netAllows_of_no_match hon hno)])

end Sys2Proof.Machine

end

section

/-!
PROOF. Points, streams, parameters and watches (SPEC: chapter 11, the point directory and the streams; chapter 15, the parameters).
-/

namespace Sys2Proof.Machine

/-- Noting a request changes only the sessions of the host interface. -/
theorem Mod.noted_host (m : Mod) (rq : HostReq) (e : Session) : ∃ l, (m.noted rq e).host = { m.host with sessions := l } := by
  unfold Mod.noted
  split
  · exact ⟨_, rfl⟩
  · exact ⟨_, rfl⟩

theorem Mod.noted_streams (m : Mod) (rq : HostReq) (e : Session) :
    (m.noted rq e).host.streams = m.host.streams ∧ (m.noted rq e).streamId = m.streamId ∧ (m.noted rq e).parN 0xA0C5 = m.parN 0xA0C5 := by
  unfold Mod.noted
  split <;> exact ⟨rfl, rfl, rfl⟩

/-- No index into a list whose elements all satisfy `p` finds one that does not. -/
theorem find?_range_getD_none {α : Type} (l : List α) (d : α) (n : Nat) (p : α → Bool) (hn : n = l.length) (h : ∀ x ∈ l, p x = false) :
    ((List.range n).find? fun k => p (l.getD k d)) = none := by
  rw [List.find?_eq_none]
  intro k hk
  have hk : k < l.length := hn ▸ List.mem_range.mp hk
  rw [List.getD_eq_getElem _ _ hk, h _ (List.getElem_mem hk)]
  decide

theorem hPointRead_of_list (r : Req) (m : Mod) {v : List Byte} {g : W32} {d : Mod} (hrun : m.power.state ≠ .parked) (hdir : r.dir = some (g, d))
    (htlvs : r.rq.tlvs = [⟨0x0010, v⟩])
    (hids : ∀ i ∈ (List.range (v.length / 4)).map fun k => rdN v (4 * k) 4, (pointGroup i).isSome = true) :
    hPointRead r m = (m, { tlvs := [⟨0x0012, leN 4 g.toNat ++ leN 4 ((List.range (v.length / 4)).map fun k => rdN v (4 * k) 4).length ++
      (((List.range (v.length / 4)).map fun k => rdN v (4 * k) 4).map (pointOf false d)).flatten⟩], grain := g.toNat }) := by
  have hval : r.val 0x0010 = v := by simp [Req.val, htlvs, tlvVal, tlv?]
  have hnone : tlv? r.rq.tlvs 0x0011 = none := by simp [htlvs, tlv?]
  unfold hPointRead
  dsimp only
  rw [hnone]
  dsimp only
  rw [hval]
  generalize (List.range (v.length / 4)).map (fun k => rdN v (4 * k) 4) = ids at hids ⊢
  rw [find?_range_getD_none ids 0 _ (fun i => (pointGroup i).isNone) rfl fun i hi => by simp [hids i hi], hdir]
  rw [decide_eq_false hrun]
  simp only [Bool.false_eq_true, if_false, List.length_map]

/-- A STREAM_OPEN whose fields are within the limits and whose stream the module has room for. -/
theorem hStreamOpen_of_room (r : Req) (m : Mod) {v : List Byte} {x : Stream} (hv : r.val 0x0013 = v) (hlen : v.length = 8 + 8 * rdN v 5 1)
    (hper : 1 ≤ rdN v 0 2) (hper' : rdN v 0 2 ≤ 60000) (hnet : 1 ≤ rdN v 4 1) (hnet' : rdN v 4 1 ≤ 3) (hn : 1 ≤ rdN v 5 1) (hn' : rdN v 5 1 ≤ 16)
    (hx : x = { id := m.streamId, sid := r.rq.session, period := rdN v 0 2, port := if rdN v 2 2 = 0 then r.rq.port else rdN v 2 2, addr := r.rq.addr
                nets := BitVec.ofNat 2 (rdN v 4 1), ranges := (List.range (rdN v 5 1)).map fun k => (rdN v (8 + 8 * k) 4, rdN v (12 + 8 * k) 4) })
    (hranges : ∀ y ∈ x.ranges, 1 ≤ y.2 ∧ y.2 ≤ 65536 ∧ (pointGroup y.1).isSome = true) (hpoints : x.points ≤ 65536)
    (hown : (m.host.streams.filter fun y => y.sid == r.rq.session).length < 8) (hall : m.host.streams.length < 32)
    (hload : ∀ b < 2, x.nets.getLsbD b = true →
      rsum ((m.host.streams.filter fun y => y.nets.getLsbD b).map Stream.load) + x.load ≤ ((1000000 * m.parN 0xA0C5 : Nat) : Rat)) :
    hStreamOpen r m = (m.onHost fun h => { h with streams := h.streams ++ [x], nextStream := x.id % 65535 + 1 }, { tlvs := [⟨0x0014, leN 2 x.id⟩] }) := by
  have hgood : ((List.range (rdN v 5 1)).find? fun k =>
      let (a, c) := (x.ranges).getD k (0, 0)
      decide (c = 0) || decide (65536 < c) || (pointGroup a).isNone) = none := by
    refine find?_range_getD_none x.ranges (0, 0) (rdN v 5 1) (fun y => decide (y.2 = 0) || decide (65536 < y.2) || (pointGroup y.1).isNone) ?_ ?_
    · rw [hx, List.length_map, List.length_range]
    · intro y hy
      obtain ⟨h1, h2, h3⟩ := hranges y hy
      simp [Nat.ne_of_gt h1, Nat.not_lt.mpr h2, h3]
  have hfits : ((List.range 2).any fun b => x.nets.getLsbD b && decide (((1000000 * m.parN 0xA0C5 : Nat) : Rat) <
      rsum ((m.host.streams.filter fun y => y.nets.getLsbD b).map Stream.load) + x.load)) = false := by
    rw [List.any_eq_false]
    intro b hb
    cases hbit : x.nets.getLsbD b with
    | false => simp
    | true => rw [Bool.true_and, decide_eq_false (not_lt.mpr (hload b (List.mem_range.mp hb) hbit))]; decide
  subst hx
  unfold hStreamOpen
  rw [hv]
  dsimp only at hgood hfits hpoints ⊢
  rw [if_neg (not_not.mpr hlen), if_neg (Nat.ne_of_gt hper), if_neg (Nat.not_lt.mpr hper'), if_neg (Nat.ne_of_gt hnet), if_neg (Nat.not_lt.mpr hnet'),
    if_neg (by omega), hgood]
  dsimp only
  rw [if_neg (Nat.not_lt.mpr hpoints)]
  refine if_neg ?_
  rw [hfits, decide_eq_false (Nat.not_le.mpr hown), decide_eq_false (Nat.not_le.mpr hall)]
  decide

theorem hStreamClose_of_own (r : Req) (m : Mod) (h : ∃ x ∈ m.host.streams, x.id = r.num 0x0014 0 2 ∧ x.sid = r.rq.session) :
    hStreamClose r m = (m.onHost fun h => { h with streams := h.streams.filter fun x => x.id != r.num 0x0014 0 2 }, ans 0) := by
  refine if_pos ?_
  obtain ⟨x, hx, hid, hsid⟩ := h
  exact List.any_eq_true.mpr ⟨x, hx, by simp [hid, hsid]⟩

theorem hParamRead_of_known (r : Req) (m : Mod) {v : List Byte} (hv : r.val 0x0020 = v)
    (hids : ∀ i ∈ (List.range (v.length / 2)).map fun k => rdN v (2 * k) 2, (paramRow i).isSome = true) :
    hParamRead r m = (m, { tlvs := [⟨0x0021, ((List.range (v.length / 2)).map fun k => rdN v (2 * k) 2).flatMap m.paramEntry⟩] }) := by
  unfold hParamRead
  rw [hv]
  dsimp only
  generalize (List.range (v.length / 2)).map (fun k => rdN v (2 * k) 2) = ids at hids ⊢
  rw [find?_range_getD_none ids 0 _ (fun i => (paramRow i).isNone) rfl fun i hi => by simp [hids i hi]]

theorem hParamWrite_of_passed (r : Req) (m : Mod) {es : List (Nat × Nat × List Byte)} (hes : paramEntries (r.val 0x0021) = es)
    (hrole : 1 ≤ r.s.role) (hown : m.ownsNow r.rq.session = true) (hfault : m.paramFault es = none)
    (hcross : m.paramCross (m.paramVals es) = none) : hParamWrite r m = (m.writeParams (m.paramVals es)).acted 0 := by
  have howner : ((List.range es.length).find? fun k => m.notOwner r (es.getD k default).1) = none :=
    find?_range_getD_none es default _ (fun e => m.notOwner r e.1) rfl fun e _ => by simp [Mod.notOwner, hown, hrole]
  unfold hParamWrite
  rw [hes]
  dsimp only
  rw [howner]
  dsimp only
  rw [hfault]
  dsimp only
  rw [hcross]

/- Streams and watches -/

theorem streamCycle_of_fits {m : Mod} {x : Stream} {e : Session} {d : Mod} {g : W32} (hserves : m.servesHost = true) (hfirst : m.plan.firstGrain = true)
    (hx : m.host.streams = [x]) (hper : m.plan.grainCnt.toNat % x.period = 0) (hg : g + 1 = m.plan.grainCnt) (he : m.session? x.sid = some e) :
    streamCycle x.id true (some (g, d)) m =
      (m.each (List.range ((x.indices.length + 680) / 681)) fun m k => m.sendFrag e x g d x.indices ((x.indices.length + 680) / 681) k).onHost fun h =>
        { h with streams := [{ x with sent := x.sent + (x.indices.length + 680) / 681 }] } := by
  unfold streamCycle
  rw [hx, List.find?_cons_of_pos (by simp)]
  dsimp only
  rw [if_neg (by simp [hserves, hfirst, hper]), he]
  dsimp only
  rw [if_pos (by rw [decide_eq_true hg]; rfl)]
  have hkept : (m.each (List.range ((x.indices.length + 680) / 681)) fun m k =>
      m.sendFrag e x g d x.indices ((x.indices.length + 680) / 681) k).host = m.host :=
    Mod.each_keeps (fun m => m.host) _ _ _ fun m k => Mod.each_keeps (fun m => m.host) _ _ _ fun _ _ => rfl
  generalize (m.each (List.range ((x.indices.length + 680) / 681)) fun m k =>
      m.sendFrag e x g d x.indices ((x.indices.length + 680) / 681) k) = m' at hkept ⊢
  refine congrArg (fun h => { m' with host := h }) ?_
  dsimp only
  rw [hkept, hx, List.map_cons, List.map_nil, if_pos rfl]

theorem streamCycle_of_no_room {m : Mod} {x : Stream} (dir : Option (W32 × Mod)) (hserves : m.servesHost = true) (hfirst : m.plan.firstGrain = true)
    (hx : m.host.streams = [x]) (hper : m.plan.grainCnt.toNat % x.period = 0) :
    streamCycle x.id false dir m = m.onHost fun h => { h with streamSkip := stopAt 0xFFFF (h.streamSkip + 1) } := by
  unfold streamCycle
  rw [hx, List.find?_cons_of_pos (by simp)]
  dsimp only
  rw [if_neg (by simp [hserves, hfirst, hper])]
  split
  · rfl
  · rfl

/-- A step of watch `w` leaves every other watch as it is. -/
theorem Mod.watchStep_watch (m d : Mod) (w k : Nat) (h : k ≠ w) : tget (m.watchStep d w).host.watches k = tget m.host.watches k := by
  unfold Mod.watchStep
  extract_lets idx x
  split
  split
  extract_lets held fires y m1 act m2
  have h1 : tget m1.host.watches k = tget m.host.watches k := (tget_tput ..).trans (if_neg h)
  have h2 : m2.host = m1.host := by
    unfold m2
    split
    · exact (Mod.post_within ..).hostEq (by decide)
    · rfl
  split
  · exact h1
  · rw [← h1, ← h2]
    split
    · refine Mod.each_keeps (fun m => tget m.host.watches k) m2 _ _ fun m sid => ?_
      obtain ⟨l, hl⟩ := m.notify_host sid Config.watchOp 0 []
      rw [hl]
    · rfl

theorem watchEvaluation_of_new {m : Mod} {g : W32} {d : Mod} (hsup : m.supRuns = true) (hnew : m.host.watchCopy ≠ some g) :
    watchEvaluation (some (g, d)) m = (m.each m.watchesOn fun m w => m.watchStep d w).onHost fun h => { h with watchCopy := some g } :=
  if_neg (by simp [hsup, hnew])

theorem Mod.watchSteps_watch (m d : Mod) (l : List Nat) (k : Nat) (h : k ∉ l) :
    tget (m.each l fun m w => m.watchStep d w).host.watches k = tget m.host.watches k := by
  unfold Mod.each
  induction l generalizing m with
  | nil => rfl
  | cons w l ih =>
    obtain ⟨hw, hl⟩ := not_or.mp (mt List.mem_cons.mpr h)
    rw [List.foldl_cons, ih _ hl, Mod.watchStep_watch _ _ _ _ hw]

/-- Settles O25: each command by its equation, the watches not enabled by `watchSteps_watch`. -/
theorem pointRows : Obligations.PointRows := by
  unfold Obligations.PointRows
  refine ⟨?_, ?_, ?_, ?_, ?_, ?_, ?_, ?_⟩
  · intro s rq e v ids g d hadmit hrun hdir htlvs hids hknown
    subst hids
    have hpower : (s.m.noted rq e).power.state ≠ .parked := by
      obtain ⟨-, -, hpower, -⟩ := s.m.noted_fields rq e
      rwa [hpower]
    exact .host rfl hadmit (hPointRead_of_list { s := e, op := 0x0101, rq := rq, dir := s.dir } _ hpower hdir htlvs hknown) rfl rfl
  · intro s rq e v x hadmit hv hlen hper hper' hnet hnet' hn hn' hx hranges hpoints hown hall hload
    obtain ⟨hstreams, hid, hpar⟩ := s.m.noted_streams rq e
    rw [← hid] at hx
    rw [← hstreams] at hown hall hload
    rw [← hpar] at hload
    exact .host rfl hadmit (hStreamOpen_of_room { s := e, op := 0x0102, rq := rq, dir := s.dir } _ hv.symm hlen hper hper' hnet hnet' hn hn' hx
      hranges hpoints hown hall hload) rfl rfl
  · intro s rq e hadmit hown
    obtain ⟨hstreams, -, -⟩ := s.m.noted_streams rq e
    rw [← hstreams] at hown
    exact .host rfl hadmit (hStreamClose_of_own { s := e, op := 0x0103, rq := rq, dir := s.dir } _ hown) rfl rfl
  · intro s rq e v ids hadmit hv hids hknown
    subst hids
    exact .host rfl hadmit (hParamRead_of_known { s := e, op := 0x0110, rq := rq, dir := s.dir } _ hv.symm hknown) rfl rfl
  · intro s rq e es hadmit hrole hes _ hown hfault hcross
    refine .host rfl hadmit (hParamWrite_of_passed { s := e, op := 0x0111, rq := rq, dir := s.dir } _ hes.symm hrole hown hfault hcross) rfl ?_
    have hcnt : ((s.m.noted rq e).writeParams ((s.m.noted rq e).paramVals es)).plan.grainCnt = s.m.plan.grainCnt := by
      obtain ⟨hplan, -⟩ := s.m.noted_fields rq e
      rw [((Mod.writeParams_within ..).clockEq (by decide)).1, hplan]
    rw [← hcnt]
    rfl
  · intro s id x e d g hsup hrec hfirst hx hid hper hdir hg he
    subst hid
    refine .sup rfl rfl hsup ?_
    rw [hdir, streamCycle_of_fits (by simp [Mod.servesHost, hsup, hrec]) hfirst hx hper hg he]
  · intro s id x hsup hrec hfirst hx hid hper
    subst hid
    exact .sup rfl rfl hsup (by rw [streamCycle_of_no_room s.dir (by simp [Mod.servesHost, hsup, hrec]) hfirst hx hper])
  · intro s g d hsup hdir hnew
    have honly := (watchEvaluation_within s.dir s.m).only (s := s)
    refine .sup rfl rfl hsup ?_
    rw [hdir, watchEvaluation_of_new hsup hnew] at honly ⊢
    exact ⟨rfl, fun w hw => Mod.watchSteps_watch s.m d _ w hw, honly⟩

end Sys2Proof.Machine

end

section

/-!
PROOF. The exchange area and the mailboxes (SPEC: chapter 11, R440 to R451).
-/

namespace Sys2Proof.Machine

/- A host command and its reply, of the host interface -/

theorem Mod.noted_within (m : Mod) (rq : HostReq) (e : Session) : Within [.host] m (m.noted rq e) := by
  unfold Mod.noted
  split
  · exact Mod.onSession_within ..
  · exact .refl ..

theorem Mod.replied_within (m : Mod) (op : Nat) (rq : HostReq) (e : Session) (status : Nat) (tlvs : List Tlv) (grain : Nat) :
    Within [.host, .pair, .sent] m (m.replied op rq e status tlvs grain) := by
  unfold Mod.replied
  extract_lets x
  exact (Mod.sendReply1_within ..).step (by decide) ((Mod.onSession_within ..).step (by decide) ((Mod.passOn_within ..).mono (by decide)))

/-- A reply changes only the sessions of the host interface. -/
theorem Mod.replied_host (m : Mod) (op : Nat) (rq : HostReq) (e : Session) (status : Nat) (tlvs : List Tlv) (grain : Nat) :
    ∃ l, (m.replied op rq e status tlvs grain).host = { m.host with sessions := l } := by
  unfold Mod.replied
  extract_lets x
  have hpass := (Mod.passOn_within m op rq e grain (some x)).hostEq (by decide)
  have hkept (h : HostSt) (hh : (m.passOn op rq e grain (some x)).host = h) :
      ((m.passOn op rq e grain (some x)).cacheReply rq.session x).host =
        { h with sessions := ((m.passOn op rq e grain (some x)).cacheReply rq.session x).host.sessions } := by
    subst hh
    rfl
  exact ⟨_, hkept _ hpass⟩

theorem Mod.replied_mbx (m : Mod) (op : Nat) (rq : HostReq) (e : Session) (status : Nat) (tlvs : List Tlv) (grain k : Nat) :
    (m.replied op rq e status tlvs grain).mbx k = m.mbx k := by
  obtain ⟨l, hl⟩ := m.replied_host op rq e status tlvs grain
  rw [Mod.mbx, hl]
  rfl

theorem Mod.noted_mbx (m : Mod) (rq : HostReq) (e : Session) (k : Nat) : (m.noted rq e).mbx k = m.mbx k := by
  obtain ⟨l, hl⟩ := m.noted_host rq e
  rw [Mod.mbx, hl]
  rfl

/- The exchange area -/

theorem hXaRead_of_clean (r : Req) (m : Mod) (h1 : 1 ≤ r.num 0x0030 4 4) (h8176 : r.num 0x0030 4 4 ≤ 8176)
    (hend : r.num 0x0030 0 4 + r.num 0x0030 4 4 ≤ 0x1000000) (hp : m.xaPoisoned (r.num 0x0030 0 4) (r.num 0x0030 4 4) = false) :
    hXaRead r m = (m, { tlvs := [⟨0x0031, tgets m.host.xa (r.num 0x0030 0 4) (r.num 0x0030 4 4)⟩] }) := by
  unfold hXaRead
  dsimp only
  rw [if_neg (Nat.ne_of_gt h1), if_neg (not_or.mpr ⟨Nat.not_lt.mpr h8176, by simp [xaBound, hend]⟩), if_neg (by simp [hp])]

theorem hXaWrite_of_fitting (r : Req) (m : Mod) (h1 : 1 ≤ r.num 0x0030 4 4) (h8176 : r.num 0x0030 4 4 ≤ 8176)
    (hlen : r.num 0x0030 4 4 = (r.val 0x0031).length) (hend : r.num 0x0030 0 4 + r.num 0x0030 4 4 ≤ 0x1000000) :
    hXaWrite r m = ((m.xaPut (r.num 0x0030 0 4) (r.val 0x0031)).xaUnpoison (r.num 0x0030 0 4) (r.num 0x0030 4 4), ans 0) := by
  unfold hXaWrite
  dsimp only
  rw [if_neg (not_not.mpr hlen), if_neg (Nat.ne_of_gt h1), if_neg (not_or.mpr ⟨Nat.not_lt.mpr h8176, by simp [xaBound, hend]⟩)]

theorem Mod.replied_xa (m : Mod) (op : Nat) (rq : HostReq) (e : Session) (status : Nat) (tlvs : List Tlv) (grain : Nat) :
    (m.replied op rq e status tlvs grain).host.xa = m.host.xa := by
  obtain ⟨l, hl⟩ := m.replied_host op rq e status tlvs grain
  rw [hl]

/- The mailboxes -/

theorem hMbxPost_of_supervisor (r : Req) (m : Mod) (hend : r.num 0x0070 0 4 + r.num 0x0070 4 4 ≤ 0x1000000) (ht : r.num 0x0070 8 2 = 1)
    (hd : r.num 0x0070 10 1 = 0) :
    hMbxPost r m = (m.onMbx r.s.slot fun b => b.post (r.num 0x0070 0 4) (r.num 0x0070 4 4) (r.num 0x0070 8 2) 0 m.host.ms,
      { tlvs := [(m.onMbx r.s.slot fun b => b.post (r.num 0x0070 0 4) (r.num 0x0070 4 4) (r.num 0x0070 8 2) 0 m.host.ms).mbxStatTlv r.s.slot] }) := by
  unfold hMbxPost
  dsimp only
  rw [if_neg (by simp [xaBound, hend]), ht, hd, if_neg (by decide), if_neg (by decide), if_neg (by decide)]

/-- A post that the partner takes: the module answers at once, and sends the message on. -/
theorem hMbxPost_of_partner (r : Req) (m : Mod) (hend : r.num 0x0070 0 4 + r.num 0x0070 4 4 ≤ 0x1000000)
    (htype : 0x8000 ≤ r.num 0x0070 8 2 ∧ r.num 0x0070 10 1 ≤ 1 ∨ r.num 0x0070 8 2 = 1 ∧ r.num 0x0070 10 1 = 1)
    (hop : m.pairOp = true) (hup : m.pair.partnerDown = false) (hl : m.pair.lanes ≠ 0) :
    ∃ o t, hMbxPost r m =
      ((((m.onMbx r.s.slot fun b => b.post (r.num 0x0070 0 4) (r.num 0x0070 4 4) (r.num 0x0070 8 2) (r.num 0x0070 10 1) m.host.ms).onMbx r.s.slot
        fun b => { b with inFull := false }).mbxOut 16 (r.num 0x0070 0 4) (r.num 0x0070 4 4) (r.num 0x0070 8 2) (r.num 0x0070 10 1)).out o,
      { tlvs := [t] }) := by
  have hdom : r.num 0x0070 10 1 ≤ 1 := by omega
  have hmine : r.num 0x0070 10 1 = 1 ∨ 0x8000 ≤ r.num 0x0070 8 2 := by omega
  have hknown : ¬((r.num 0x0070 8 2 ≠ 1) ∧ r.num 0x0070 8 2 < 0x8000) := by omega
  unfold hMbxPost
  dsimp only
  rw [if_neg (by simp [xaBound, hend]), if_neg (by simpa using hknown), if_neg (Nat.not_lt.mpr hdom), if_pos hmine,
    if_neg (by simpa [hop, hup] using hl)]
  exact ⟨_, _, rfl⟩

/-- The collision and crossing bits that an acknowledgement `f` names are cleared. -/
def Mailbox.cleared (f : Nat) (b : Mailbox) : Mailbox :=
  { b with inColl := b.inColl && !f.testBit 1, outColl := b.outColl && !f.testBit 1, cross := b.cross && !f.testBit 2 }

/-- An acknowledgement at the session's own mailbox, which it also releases, and at the graft mailbox. -/
def Mod.mbxAcked (m : Mod) (slot f : Nat) : Mod :=
  (m.onMbx slot fun b => { b.cleared f with outFull := b.outFull && !f.testBit 0 }).onMbx 16 (Mailbox.cleared f)

theorem hMbxAck_of_known (r : Req) (m : Mod) (h : r.num 0x0072 0 4 ≤ 7) :
    ∃ t, hMbxAck r m = (m.mbxAcked r.s.slot (r.num 0x0072 0 4), { tlvs := [t] }) := by
  unfold hMbxAck
  dsimp only
  rw [if_neg (Nat.not_lt.mpr h)]
  exact ⟨_, rfl⟩

theorem Mod.mbxAcked_within (m : Mod) (slot f : Nat) : Within [.host] m (m.mbxAcked slot f) := (Mod.onMbx_within ..).trans (Mod.onMbx_within ..)

theorem Mod.mbxAcked_mbx (m : Mod) (slot f : Nat) (hslot : slot < 16) (k : Nat) :
    (m.mbxAcked slot f).mbx k = if k = 16 then (m.mbx 16).cleared f
      else if k = slot then { (m.mbx slot).cleared f with outFull := (m.mbx slot).outFull && !f.testBit 0 } else m.mbx k := by
  rw [Mod.mbxAcked, Mod.mbx_onMbx, Mod.mbx_onMbx, if_neg (Nat.ne_of_gt hslot), Mod.mbx_onMbx]

theorem supervisorMbxTake_of_message {m : Mod} {k : Nat} (dir : Option (W32 × Mod)) (hsup : m.supRuns = true) (hk : k < 16)
    (hfull : (m.mbx k).inFull = true) (htype : (m.mbx k).inType ≠ 1) :
    supervisorMbxTake k dir m = m.onMbx k fun b => { b with inFull := false } := by
  unfold supervisorMbxTake
  dsimp only
  rw [if_neg (by simp [hsup, hfull, Nat.le_of_lt hk]), if_neg (Nat.ne_of_lt hk)]
  split
  · exact if_neg htype
  · rfl

theorem supervisorMbxTake_of_batch {m : Mod} {k : Nat} {e : Session} (dir : Option (W32 × Mod)) (hsup : m.supRuns = true) (hk : k < 16)
    (hfull : (m.mbx k).inFull = true) (htype : (m.mbx k).inType = 1) (hs : m.host.sessions = [e]) (he : e.slot = k) :
    supervisorMbxTake k dir m = (m.onMbx k fun b => { b with inFull := false }).takeBatch k dir e := by
  have hposter : (m.onMbx k fun b => { b with inFull := false }).poster k = some e := by
    unfold Mod.poster
    rw [if_neg (Nat.ne_of_lt hk), show (m.onMbx k fun b => { b with inFull := false }).host.sessions = [e] from hs]
    exact List.find?_cons_of_pos (by simp [he])
  unfold supervisorMbxTake
  dsimp only
  rw [if_neg (by simp [hsup, hfull, Nat.le_of_lt hk]), if_neg (Nat.ne_of_lt hk), hposter]
  exact if_pos htype

/-- A batch whose replies are all given is written behind its commands, and is none that waits. -/
theorem Mod.batchDone_of_given {m : Mod} {k sid off : Nat} {its : List (Option (List Byte))} {out : List Byte} (hk : k < 16)
    (hnone : m.host.batches = []) (hits : ∀ x ∈ its, x.isSome = true) (hout : out = its.flatMap (·.getD []))
    (hend : off + out.length ≤ 0x1000000) :
    (m.onHost fun h => { h with batches := h.batches ++ [⟨1, k, sid, off, its⟩] }).batchDone 1 =
      ((m.xaPut off out).xaUnpoison off out.length).mbxOut k off out.length 0x0081 0 := by
  have hall : its.all Option.isSome = true := List.all_eq_true.mpr hits
  have hfind : (m.onHost fun h => { h with batches := h.batches ++ [⟨1, k, sid, off, its⟩] }).host.batches.find?
      (fun b => b.id == 1 && b.items.all Option.isSome) = some ⟨1, k, sid, off, its⟩ := by
    simp [Mod.onHost, hnone, hall]
  have hback : ((m.onHost fun h => { h with batches := h.batches ++ [⟨1, k, sid, off, its⟩] }).onHost fun h =>
      { h with batches := h.batches.filter fun x => x.id != 1 }) = m := by
    have hl : (m.host.batches ++ [(⟨1, k, sid, off, its⟩ : BatchSt)]).filter (fun x => x.id != 1) = m.host.batches := by
      rw [hnone]
      simp
    exact congrArg (fun l => { m with host := { m.host with batches := l } }) hl
  have htake : (its.flatMap (·.getD [])).take (0x1000000 - off) = out := by
    rw [← hout, List.take_of_length_le (by omega)]
  unfold Mod.batchDone
  rw [hfind]
  dsimp only
  rw [hback, Mod.batchEnd]
  dsimp only
  rw [htake]
  exact if_neg (Nat.ne_of_lt hk)

/-- The batch of slot `k` run to its end: the replies are all given, and the module after the last of them writes them. -/
theorem Mod.takeBatch_of_given {m m' : Mod} {k : Nat} {e : Session} {its : List (Option (List Byte))} {out : List Byte} (dir : Option (W32 × Mod))
    (hk : k < 16) (hbatches : m.host.batches = []) (hclean : m.xaPoisoned (m.mbx k).inPtr.toNat (m.mbx k).inLen.toNat = false)
    (hrun : Mod.runBatch dir e.sid 1 ((m.mbx k).inLen.toNat / 24 + 1) (tgets m.host.xa (m.mbx k).inPtr.toNat (m.mbx k).inLen.toNat) [] m = (its, m'))
    (hits : ∀ x ∈ its, x.isSome = true) (hout : out = its.flatMap (·.getD [])) (hserves : m'.servesHost = true) (hnone : m'.host.batches = [])
    (hsid : ∃ x ∈ m'.host.sessions, x.sid = e.sid) (hend : (m.mbx k).inPtr.toNat + (m.mbx k).inLen.toNat + out.length ≤ 0x1000000) :
    m.takeBatch k dir e = ((m'.xaPut ((m.mbx k).inPtr.toNat + (m.mbx k).inLen.toNat) out).xaUnpoison
      ((m.mbx k).inPtr.toNat + (m.mbx k).inLen.toNat) out.length).mbxOut k ((m.mbx k).inPtr.toNat + (m.mbx k).inLen.toNat) out.length 0x0081 0 := by
  have hany : (m'.host.sessions.any fun x => x.sid == e.sid) = true := by
    obtain ⟨x, hx, h⟩ := hsid
    exact List.any_eq_true.mpr ⟨x, hx, beq_iff_eq.mpr h⟩
  have hid : (m.host.batches.map (·.id)).foldl max 0 + 1 = 1 := by rw [hbatches]; rfl
  unfold Mod.takeBatch
  dsimp only
  rw [if_neg (by simp [hclean]), hid, hrun]
  dsimp only
  rw [if_pos (by rw [hserves, hany]; rfl)]
  exact Mod.batchDone_of_given hk hnone hits hout hend

/-- The mailboxes after a post that the partner takes. -/
theorem Mod.mbxPosted_mbx (m : Mod) (slot ptr len type dom : Nat) (o : Output) (hslot : slot < 16) (k : Nat) :
    ((((m.onMbx slot fun b => b.post ptr len type dom m.host.ms).onMbx slot fun b => { b with inFull := false }).mbxOut 16 ptr len type dom).out o).mbx k =
      if k = 16 then (m.mbx 16).written ptr len type dom m.host.ms
      else if k = slot then { (m.mbx slot).post ptr len type dom m.host.ms with inFull := false } else m.mbx k := by
  have hposted (j : Nat) : ((m.onMbx slot fun b => b.post ptr len type dom m.host.ms).onMbx slot fun b => { b with inFull := false }).mbx j =
      if j = slot then { (m.mbx slot).post ptr len type dom m.host.ms with inFull := false } else m.mbx j := by
    rw [Mod.mbx_onMbx, Mod.mbx_onMbx, if_pos rfl, Mod.mbx_onMbx]
    split <;> rfl
  refine (Mod.mbxOut_mbx ..).trans ?_
  rw [Mod.mbx_onMbx, hposted, hposted, if_neg (Nat.ne_of_gt hslot)]
  rfl

theorem Mod.noted_mbxStatTlv (m : Mod) (rq : HostReq) (e : Session) (k : Nat) : (m.noted rq e).mbxStatTlv k = m.mbxStatTlv k := by
  unfold Mod.noted
  split <;> rfl

/-- Settles O26: each row by its equation; the bytes of the exchange area by the laws of `tputs`, the mailboxes by `mbx_onMbx`. -/
theorem exchangeRows : Obligations.ExchangeRows := by
  unfold Obligations.ExchangeRows
  refine ⟨?_, ?_, ?_, ?_, ?_, ?_, ?_, ?_⟩
  · intro s rq e hadmit h1 h8176 hend hclean
    obtain ⟨-, hstore, -, -, hxa, -⟩ := s.m.noted_fields rq e
    have hclean' : (s.m.noted rq e).xaPoisoned (reqNum rq 0x0030 0 4) (reqNum rq 0x0030 4 4) = false := by rwa [Mod.xaPoisoned, hstore]
    refine .host rfl hadmit (hXaRead_of_clean { s := e, op := 0x0130, rq := rq, dir := s.dir } _ h1 h8176 hend hclean') rfl ?_
    rw [hxa]
    rfl
  · intro s rq e hadmit h1 h8176 hlen hend _
    refine .hostWithin rfl hadmit (hXaWrite_of_fitting { s := e, op := 0x0131, rq := rq, dir := s.dir } _ h1 h8176 hlen hend) rfl fun hw => ?_
    have hxa (a : Nat) : tget ((((s.m.noted rq e).xaPut (reqNum rq 0x0030 0 4) (tlvVal rq.tlvs 0x0031)).xaUnpoison (reqNum rq 0x0030 0 4)
        (reqNum rq 0x0030 4 4)).replied 0x0131 rq e 0).host.xa a = tget (tputs s.m.host.xa (reqNum rq 0x0030 0 4) (tlvVal rq.tlvs 0x0031)) a := by
      obtain ⟨-, -, -, -, hnoted, -⟩ := s.m.noted_fields rq e
      rw [Mod.replied_xa, ← hnoted]
      rfl
    refine ⟨rfl, fun k hk => ?_, fun a ha => ?_, hw.only⟩
    · refine (hxa _).trans ?_
      rw [tget_tputs, if_pos (by omega), Nat.add_sub_cancel_left]
    · refine (hxa _).trans ?_
      rw [tget_tputs, if_neg (by omega)]
  · intro s rq e hadmit hend ht hd
    refine .host rfl hadmit (hMbxPost_of_supervisor { s := e, op := 0x0140, rq := rq, dir := s.dir } _ hend ht hd) rfl ?_
    obtain ⟨l, hl⟩ := s.m.noted_host rq e
    rw [show (s.m.noted rq e).host.ms = s.m.host.ms by rw [hl]]
    rfl
  · intro s rq e hadmit hend hslot htype hop hup hl
    obtain ⟨-, -, -, hpair, -, -⟩ := s.m.noted_fields rq e
    obtain ⟨o, t, hpost⟩ := hMbxPost_of_partner { s := e, op := 0x0140, rq := rq, dir := s.dir } (s.m.noted rq e) hend htype
      (by rw [Mod.noted_pairOp]; exact hop) (by rw [hpair]; exact hup) (by rw [hpair]; exact hl)
    refine .host rfl hadmit hpost rfl ?_
    have hmbx := fun k => (Mod.replied_mbx _ 0x0140 rq e 0 [t] 0 k).trans (Mod.mbxPosted_mbx (s.m.noted rq e) e.slot (reqNum rq 0x0070 0 4)
      (reqNum rq 0x0070 4 4) (reqNum rq 0x0070 8 2) (reqNum rq 0x0070 10 1) o hslot k)
    have h16 := (hmbx 16).trans (if_pos rfl)
    have hown := (hmbx e.slot).trans ((if_neg (Nat.ne_of_lt hslot)).trans (if_pos rfl))
    rw [Mod.noted_mbx] at h16
    refine ⟨congrArg Mailbox.outFull h16, congrArg Mailbox.outPtr h16, congrArg Mailbox.outLen h16, congrArg Mailbox.outType h16,
      congrArg Mailbox.outColl h16, congrArg Mailbox.inFull hown, fun k hk hk16 => ?_⟩
    exact (hmbx k).trans ((if_neg hk16).trans ((if_neg hk).trans (Mod.noted_mbx ..)))
  · intro s rq e hadmit
    refine .host (a := { tlvs := [((s.m.noted rq e).mbx e.slot).outTlv, (s.m.noted rq e).mbxStatTlv e.slot] }) rfl hadmit rfl rfl ?_
    rw [Mod.noted_mbx, Mod.noted_mbxStatTlv]
    rfl
  · intro s rq e hadmit hslot h7
    obtain ⟨t, hack⟩ := hMbxAck_of_known { s := e, op := 0x0142, rq := rq, dir := s.dir } (s.m.noted rq e) h7
    have hw : Within [.host, .pair, .sent] s.m (((s.m.noted rq e).mbxAcked e.slot (reqNum rq 0x0072 0 4)).replied 0x0142 rq e 0 [t] 0) :=
      (Mod.replied_within _ 0x0142 rq e 0 [t] 0).step (by decide)
      ((Mod.mbxAcked_within (s.m.noted rq e) e.slot (reqNum rq 0x0072 0 4)).step (by decide) ((s.m.noted_within rq e).mono (by decide)))
    refine .host rfl hadmit hack rfl ?_
    have hmbx := fun k => (Mod.replied_mbx _ 0x0142 rq e 0 [t] 0 k).trans
      (Mod.mbxAcked_mbx (s.m.noted rq e) e.slot (reqNum rq 0x0072 0 4) hslot k)
    have h16 := (hmbx 16).trans (if_pos rfl)
    have hown := (hmbx e.slot).trans ((if_neg (Nat.ne_of_lt hslot)).trans (if_pos rfl))
    rw [Mod.noted_mbx] at h16 hown
    refine ⟨(congrArg Mailbox.outFull hown).trans rfl, (congrArg Mailbox.cross hown).trans rfl, (congrArg Mailbox.inColl hown).trans rfl,
      (congrArg Mailbox.outColl hown).trans rfl, (congrArg Mailbox.inFull hown).trans rfl, fun k hk hk16 => ?_, (congrArg Mailbox.inFull h16).trans rfl,
      (congrArg Mailbox.outFull h16).trans rfl, (congrArg Mailbox.cross h16).trans rfl, hw.only⟩
    exact (hmbx k).trans ((if_neg hk16).trans ((if_neg hk).trans (Mod.noted_mbx ..)))
  · intro s k hsup hk hfull htype
    exact .on rfl (decide_eq_true (by omega)) (Mod.powered_of_supRuns hsup)
      (by rw [supervisorMbxTake_of_message s.dir hsup hk hfull htype])
  · intro s k e its out m hsup hk hfull htype hs he hbatches hclean hrun hits hout hserves hnone hsid hend
    have hmbx : (s.m.onMbx k fun b => { b with inFull := false }).mbx k = { s.m.mbx k with inFull := false } := by
      rw [Mod.mbx_onMbx, if_pos rfl]
    refine .on rfl (decide_eq_true (by omega)) (Mod.powered_of_supRuns hsup) ?_
    rw [supervisorMbxTake_of_batch s.dir hsup hk hfull htype hs he,
      Mod.takeBatch_of_given (m := s.m.onMbx k fun b => { b with inFull := false }) (its := its) (out := out) (m' := m) s.dir hk hbatches
        (by rw [hmbx]; exact hclean) (by rw [hmbx]; exact hrun) hits hout hserves hnone hsid (by rw [hmbx]; exact hend), hmbx]

end Sys2Proof.Machine

end

section

/-!
PROOF. Protection and fault clearing, enumeration (SPEC: chapters 3, 4, 6, 8 and 9; R314, R315).
-/

namespace Sys2Proof.Machine

theorem setBits_two_pow (w n : Nat) (hn : n < w) : setBits w (2 ^ n) = [n] := by
  have hbit : (2 ^ n).testBit = fun k => decide (n = k) := funext fun k => Nat.testBit_two_pow
  rw [setBits, hbit, show (fun k => decide (n = k)) = (· == n) from funext fun k => by simp [eq_comm, beq_eq_decide],
    List.filter_beq, List.count_eq_one_of_mem List.nodup_range (List.mem_range.mpr hn)]
  rfl

theorem Mod.noted_plan (m : Mod) (rq : HostReq) (e : Session) : (m.noted rq e).plan = m.plan := (m.noted_within rq e).planEq (by decide)
theorem Mod.noted_chain (m : Mod) (rq : HostReq) (e : Session) : (m.noted rq e).chain = m.chain := (m.noted_within rq e).chainEq (by decide)
theorem Mod.noted_conv (m : Mod) (rq : HostReq) (e : Session) : (m.noted rq e).conv = m.conv := (m.noted_within rq e).convEq (by decide)
theorem Mod.noted_prot (m : Mod) (rq : HostReq) (e : Session) : (m.noted rq e).prot = m.prot := (m.noted_within rq e).protEq (by decide)

theorem Mod.noted_ring (m : Mod) (rq : HostReq) (e : Session) (n : Nat) : (m.noted rq e).ring n = m.ring n := by
  rw [Mod.ring, Mod.noted_chain, Mod.ring]

theorem Mod.noted_link (m : Mod) (rq : HostReq) (e : Session) (n : Nat) : (m.noted rq e).link n = m.link n := by
  rw [Mod.link, Mod.noted_conv, Mod.link]

theorem Mod.noted_strProt (m : Mod) (rq : HostReq) (e : Session) (n : Nat) : (m.noted rq e).strProt n = m.strProt n := by
  rw [Mod.strProt, Mod.noted_prot, Mod.strProt]

theorem Mod.noted_resetSrc (m : Mod) (rq : HostReq) (e : Session) (b : Nat) : (m.noted rq e).resetSrc b = m.resetSrc b := by
  obtain ⟨l, hl⟩ := m.noted_host rq e
  unfold Mod.resetSrc Mod.parN Mod.par
  rw [hl, (m.noted_within rq e).safetyEq (by decide)]

theorem queueCmd_of_running (r : Req) (args : List Int) (m : Mod) (h : m.plan.mode ≠ .stopped) :
    queueCmd r args m = (m.onDisp fun d => { d with cmds := d.cmds ++
      [{ opcode := r.op, session := r.rq.session, seq := r.rq.seq, prio := r.s.prio, args := args }] }, { held := true }) := if_neg h

/-- A command that waits for the boundary of the next grain, which answers it. -/
theorem Completes.queued {i : Instr} {s : State} {op : Nat} {rq : HostReq} {e : Session} {args : List Int} {C : State → Prop}
    (hexec : exec i s = s.on true (hostRow op rq s.dir)) (hadmit : s.m.Admits op rq e) (hrun : s.m.plan.mode ≠ .stopped)
    (hop : hostOp { s := e, op := op, rq := rq, dir := s.dir } (s.m.noted rq e) =
      queueCmd { s := e, op := op, rq := rq, dir := s.dir } args (s.m.noted rq e))
    (h : C { s with m := (((s.m.noted rq e).onDisp fun d => { d with cmds := d.cmds ++
      [{ opcode := op, session := rq.session, seq := rq.seq, prio := e.prio, args := args }] }).awaited op rq e) }) : Completes i s C := by
  refine .on hexec rfl hadmit.1 ?_
  rw [hostRow_admitted _ hadmit]
  dsimp only
  rw [hop, queueCmd_of_running _ _ _ (by rwa [Mod.noted_plan])]
  exact h

/- PROT_CLEAR of a single cause -/

theorem Mod.dropCause_cause (m : Mod) (n c k : Nat) :
    ((m.dropCause n c).strProt k).cause =
      if k = n then (m.strProt n).cause &&& ~~~(BitVec.ofNat 18 (2 ^ (c - 1))) else (m.strProt k).cause := by
  have hstr : (m.onStrProt n fun p => { p with cause := p.cause &&& ~~~(BitVec.ofNat 18 (2 ^ (c - 1))) }).strProt k =
      if k = n then { m.strProt n with cause := (m.strProt n).cause &&& ~~~(BitVec.ofNat 18 (2 ^ (c - 1))) } else m.strProt k :=
    Mod.strProt_onStrProt ..
  have hend (m : Mod) (g : Nat) : (m.contFaultEnd g).strProt k = m.strProt k := by
    unfold Mod.contFaultEnd
    split <;> rfl
  unfold Mod.dropCause
  dsimp only
  split
  · split
    · rw [hend, hstr]
      split <;> rfl
    · rw [hstr]
      split <;> rfl
  · rw [hstr]
    split <;> rfl

theorem Mod.releaseTrip_strProt (m : Mod) (n k : Nat) : (m.releaseTrip n).strProt k = m.strProt k := by
  unfold Mod.releaseTrip
  split <;> rfl

theorem Mod.hasCause_of_single {m : Mod} {n c : Nat} (k : Nat) (h : (m.strProt n).cause = BitVec.ofNat 18 (2 ^ (c - 1))) (hk : 1 ≤ k) (hk18 : k ≤ 18)
    (hc : 1 ≤ c) : m.hasCause n k = decide (k = c) := by
  rw [Mod.hasCause, h, BitVec.getLsbD_ofNat, Nat.testBit_two_pow]
  simp only [show k - 1 < 18 by omega, decide_true, Bool.true_and]
  exact decide_eq_decide.mpr (by omega)

theorem Mod.hasCause_of_none {m : Mod} {n : Nat} (k : Nat) (h : (m.strProt n).cause = 0) : m.hasCause n k = false := by
  rw [Mod.hasCause, h]
  exact BitVec.getLsbD_zero

/-- A cause of string `n` is dropped where it is latched and its condition is gone. -/
def Mod.clearOne (n : Nat) (m : Mod) (c : Nat) : Mod := if m.hasCause n c && m.clearCond n c then m.dropCause n c else m

theorem Mod.clearOne_of_hasNot {m : Mod} {n c : Nat} (h : m.hasCause n c = false) : Mod.clearOne n m c = m := if_neg (by simp [h])

/-- Of a string without a cause none is dropped. -/
theorem Mod.clearEach_of_none {m : Mod} {n : Nat} (h : (m.strProt n).cause = 0) (l : List Nat) : m.each l (Mod.clearOne n) = m := by
  induction l with
  | nil => rfl
  | cons c l ih => exact (congrArg (·.each l (Mod.clearOne n)) (Mod.clearOne_of_hasNot (Mod.hasCause_of_none c h))).trans ih

/-- Of a string with the one cause `c`, gone, `c` is dropped once its turn comes. -/
theorem Mod.clearEach_of_single {m : Mod} {n c : Nat} (h : (m.strProt n).cause = BitVec.ofNat 18 (2 ^ (c - 1))) (hc : 1 ≤ c)
    (hgone : m.clearCond n c = true) (hdrop : ((m.dropCause n c).strProt n).cause = 0) (l : List Nat) (hl : ∀ k ∈ l, 1 ≤ k ∧ k ≤ 18) (hmem : c ∈ l) :
    m.each l (Mod.clearOne n) = m.dropCause n c := by
  induction l with
  | nil => cases hmem
  | cons k l ih =>
    obtain ⟨hk1, hk18⟩ := hl k List.mem_cons_self
    have hhas := Mod.hasCause_of_single k h hk1 hk18 hc
    change (Mod.clearOne n m k).each l (Mod.clearOne n) = _
    by_cases hkc : k = c
    · have hone : Mod.clearOne n m k = m.dropCause n c := by
        rw [Mod.clearOne, hhas, hkc, hgone]
        exact if_pos (by simp)
      rw [hone]
      exact Mod.clearEach_of_none hdrop l
    · rw [Mod.clearOne_of_hasNot (by rw [hhas]; exact decide_eq_false hkc)]
      exact ih (fun x hx => hl x (List.mem_cons_of_mem _ hx)) ((List.mem_cons.mp hmem).resolve_left fun h => hkc h.symm)

theorem protClear_eq (mask : Nat) (m : Mod) :
    protClear mask false m =
      let ns := setBits 32 mask
      let m := m.each ns fun m n => m.each ((List.range 18).map (· + 1) |>.filter fun c => c != cTone && c != cGroup) (Mod.clearOne n)
      let m := m.each ns fun m n => Mod.clearOne n m cGroup
      let m := m.each ns fun m n => Mod.clearOne n m cGroup
      let m := m.each ns Mod.releaseTrip
      (m, if ns.all fun n => decide ((m.strProt n).cause = 0) then 0 else 0x8007) := by
  have hkept (m : Mod) (l : List Nat) : (m.each l fun m _ => m) = m := Mod.each_keeps id m l _ fun _ _ => rfl
  unfold protClear
  simp only [Bool.false_and, Bool.false_eq_true, if_false, hkept]
  rfl

theorem protClear_of_single {m : Mod} {mask n c : Nat} (hn : n < 32) (hmask : mask = 2 ^ n) (h1 : 1 ≤ c) (h18 : c ≤ 18) (htone : c ≠ cTone)
    (hgroup : c ≠ cGroup) (h : (m.strProt n).cause = BitVec.ofNat 18 (2 ^ (c - 1))) (hgone : m.clearCond n c = true) :
    protClear mask false m = ((m.dropCause n c).releaseTrip n, 0) ∧ (((m.dropCause n c).releaseTrip n).strProt n).cause = 0 := by
  have hdrop : ((m.dropCause n c).strProt n).cause = 0 := by
    rw [Mod.dropCause_cause, if_pos rfl, h]
    exact BitVec.and_not_self _
  have hdone : (((m.dropCause n c).releaseTrip n).strProt n).cause = 0 := by rw [Mod.releaseTrip_strProt, hdrop]
  refine ⟨?_, hdone⟩
  have hcauses := Mod.clearEach_of_single h h1 hgone hdrop ((List.range 18).map (· + 1) |>.filter fun c => c != cTone && c != cGroup)
    (fun k hk => by
      obtain ⟨j, hj, rfl⟩ := List.mem_map.mp (List.mem_filter.mp hk).1
      have := List.mem_range.mp hj
      omega)
    (List.mem_filter.mpr ⟨List.mem_map.mpr ⟨c - 1, List.mem_range.mpr (by omega), by omega⟩, by simp [htone, hgroup]⟩)
  have hnone := Mod.clearOne_of_hasNot (Mod.hasCause_of_none (n := n) cGroup hdrop)
  have hone (m : Mod) (f : Mod → Nat → Mod) : m.each [n] f = f m n := rfl
  rw [protClear_eq, hmask, setBits_two_pow 32 n hn]
  dsimp only
  simp only [hone]
  rw [hcauses, hnone, hnone, if_pos (by simp [hdone])]

theorem hProtClear_of_running (r : Req) (m : Mod) (hopt : r.num 0x0048 0 4 ≤ 1) (hmask : r.mask ≠ 0) (h : m.plan.mode ≠ .stopped) :
    hProtClear r m = queueCmd r [r.mask, r.num 0x0048 0 4] m := by
  unfold hProtClear
  dsimp only
  rw [if_neg (Nat.not_lt.mpr hopt), if_neg hmask, if_neg h]

theorem hProtClear_of_stopped (r : Req) (m : Mod) (hopt : r.num 0x0048 0 4 = 0) (hmask : r.mask ≠ 0) (h : m.plan.mode = .stopped) :
    hProtClear r m = actSt (protClear r.mask false m) := by
  unfold hProtClear
  dsimp only
  rw [hopt, if_neg (by decide), if_neg hmask, if_pos h]
  rfl

/- The clears of a ring, of a link and of its phases -/

theorem toneReset_of_absent {m : Mod} {mask n : Nat} (hn : n < 32) (hmask : mask = 2 ^ n) (htone : (m.ring n).toneTrip = true)
    (habsent : 1000 ≤ (m.ring n).toneAbsent) :
    toneReset mask m = (((m.onRing n fun r => { r with toneTrip := false }).dropCause n cTone).releaseTrip n, 0) := by
  unfold toneReset
  rw [hmask, setBits_two_pow 32 n hn]
  dsimp only
  rw [List.filter_cons_of_pos (p := fun n => (m.ring n).toneTrip) htone, List.filter_nil,
    List.filter_cons_of_pos (p := fun n => decide (1000 ≤ (m.ring n).toneAbsent)) (decide_eq_true habsent), List.filter_nil, if_pos rfl]
  rfl

theorem convFaultClear_of_fault {m : Mod} {mask n : Nat} (hn : n < 32) (hmask : mask = 2 ^ n) (hst : (m.link n).st = .fault)
    (htrain : (m.link n).faultFromTraining = false) (h2 : (m.link n).fault.getLsbD 2 = false) (h6 : (m.link n).fault.getLsbD 6 = false) :
    convFaultClear mask m = ((m.linkTo n .off).onLink n fun k => { k with strFollow := false, stopToFault := false }, 0) := by
  have hone (f : Mod → Nat → Mod) : m.each [n] f = f m n := rfl
  unfold convFaultClear
  rw [hmask, setBits_two_pow 32 n hn]
  dsimp only
  rw [List.filter_cons_of_pos (p := fun n => decide ((m.link n).st = .fault)) (decide_eq_true hst), List.filter_nil, hone]
  rw [htrain, h2, h6, Bool.or_self, if_neg Bool.false_ne_true, if_neg Bool.false_ne_true]
  exact congrArg _ (if_neg (by simp [Mod.linkTo_link]))

theorem two_pow_ne_zero {mask n : Nat} (h : mask = 2 ^ n) : mask ≠ 0 := h ▸ Nat.ne_of_gt (Nat.two_pow_pos n)

theorem phaseClearCmd_of_off {m : Mod} {n p : Nat} (h : (m.link n).st = .off) (hp : p < 64) :
    phaseClearCmd n (BitVec.ofNat 6 p) m = ((m.each (setBits 6 p) fun m q => m.onPhase n q fun x =>
      if x.st = .latched then { x.off with st := .disabled, cause := 0 } else x).onLink n fun k => { k with phaseClear := BitVec.ofNat 6 p }, 0) := by
  unfold phaseClearCmd
  rw [if_neg (not_not.mpr h), BitVec.toNat_ofNat, Nat.mod_eq_of_lt (by omega)]

theorem hPhaseClear_of_named (r : Req) (m : Mod) (hn : r.num 0x0044 0 1 < 32) (h1 : 1 ≤ r.num 0x0044 1 1) (hp : r.num 0x0044 1 1 < 64) :
    hPhaseClear r m = actSt (phaseClearCmd (r.num 0x0044 0 1) (BitVec.ofNat 6 (r.num 0x0044 1 1)) m) := by
  unfold hPhaseClear
  dsimp only
  rw [if_neg (by omega), if_neg (Nat.ne_of_gt h1)]

theorem hSenseClear_of_named (r : Req) (m : Mod) (hn : r.num 0x0042 0 1 < 32) (ha : r.num 0x0042 1 1 < 40) :
    hSenseClear r m = (senseClear (r.num 0x0042 0 1) (r.num 0x0042 1 1) m).acted 0 := by
  unfold hSenseClear
  dsimp only
  rw [if_neg (by omega)]

/-- A command that acts at once answers in the next grain: what it does leaves the number of the grain alone. -/
theorem Completes.acted {i : Instr} {s : State} {op : Nat} {rq : HostReq} {e : Session} {C : State → Prop} {m' : Mod}
    (hexec : exec i s = s.on true (hostRow op rq s.dir)) (hadmit : s.m.Admits op rq e)
    (hop : hostOp { s := e, op := op, rq := rq, dir := s.dir } (s.m.noted rq e) = m'.acted 0)
    {ps : List Part} (hw : Within ps (s.m.noted rq e) m') (hps : .clock ∉ ps)
    (h : C { s with m := m'.replied op rq e 0 [] (s.m.plan.grainCnt + 1).toNat }) : Completes i s C := by
  have hg : m'.plan.grainCnt = s.m.plan.grainCnt := by
    obtain ⟨hcnt, -, -⟩ := hw.clockEq hps
    rw [hcnt, Mod.noted_plan]
  refine .host (m' := m') (a := { grain := (s.m.plan.grainCnt + 1).toNat }) hexec hadmit ?_ rfl h
  rw [hop, ← hg]
  rfl

/-- Settles O29: each command by its equation for the case named, on the module with the request noted. -/
theorem planAndClearRows : Obligations.PlanAndClearRows := by
  unfold Obligations.PlanAndClearRows
  refine ⟨?_, ?_, ?_, ?_, ?_, ?_, ?_, ?_⟩
  · intro s rq e hadmit hrun hmask hopt
    exact .queued rfl hadmit hrun (hProtClear_of_running { s := e, op := 0x0401, rq := rq, dir := s.dir } _ hopt hmask (by rwa [Mod.noted_plan])) rfl
  · intro s rq e n c hadmit hstop hn hmask hopt h1 h18 htone hgroup hcause hgone
    obtain ⟨hclear, hnone⟩ := protClear_of_single (m := s.m.noted rq e) hn hmask h1 h18 htone hgroup (by rwa [Mod.noted_strProt]) hgone
    have hw : Within [.conv, .prot] (s.m.noted rq e) (((s.m.noted rq e).dropCause n c).releaseTrip n) :=
      (Mod.releaseTrip_within ((s.m.noted rq e).dropCause n c) n).step (by decide) ((Mod.dropCause_within (s.m.noted rq e) n c).mono (by decide))
    refine .acted rfl hadmit ((hProtClear_of_stopped { s := e, op := 0x0401, rq := rq, dir := s.dir } _ hopt (two_pow_ne_zero hmask)
      (by rwa [Mod.noted_plan])).trans (congrArg actSt hclear)) hw (by decide) ⟨rfl, ?_, ?_⟩
    · exact (congrArg (fun p => (tget p.strs n).cause) ((Mod.replied_within _ 0x0401 rq e 0 [] _).protEq (by decide))).trans hnone
    · exact ((Mod.replied_within _ 0x0401 rq e 0 [] _).step (by decide) (hw.step (by decide) ((s.m.noted_within rq e).mono (by decide)))).only
  · intro s rq e n hadmit hn hmask htone habsent
    have hreset := toneReset_of_absent (m := s.m.noted rq e) hn hmask (by rwa [Mod.noted_ring]) (by rwa [Mod.noted_ring])
    have hw := toneReset_within (reqMask rq) (s.m.noted rq e)
    rw [hreset] at hw
    exact .acted rfl hadmit ((if_neg (two_pow_ne_zero hmask)).trans (congrArg actSt hreset)) hw (by decide) rfl
  · intro s rq e hadmit hn ha
    refine .acted rfl hadmit (hSenseClear_of_named { s := e, op := 0x0403, rq := rq, dir := s.dir } _ hn ha) (senseClear_within ..) (by decide) rfl
  · intro s rq e g hadmit hsrc hg
    subst hg
    refine .acted rfl hadmit (congrArg actSt (if_pos (by rwa [Mod.noted_resetSrc]))) (Mod.giveReset_within ..) (by decide) rfl
  · intro s rq e n hadmit hn hmask hst htrain h2 h6
    rw [← s.m.noted_link rq e n] at hst htrain h2 h6
    have hclear := convFaultClear_of_fault hn hmask hst htrain h2 h6
    have hw := convFaultClear_within (reqMask rq) (s.m.noted rq e)
    rw [hclear] at hw
    exact .acted rfl hadmit ((if_neg (two_pow_ne_zero hmask)).trans (congrArg actSt hclear)) hw (by decide) rfl
  · intro s rq e hadmit hn h1 hp hst
    rw [← s.m.noted_link rq e] at hst
    have hclear := phaseClearCmd_of_off hst hp
    have hw := phaseClearCmd_within (reqNum rq 0x0044 0 1) (BitVec.ofNat 6 (reqNum rq 0x0044 1 1)) (s.m.noted rq e)
    rw [hclear] at hw
    exact .acted rfl hadmit ((hPhaseClear_of_named { s := e, op := 0x0406, rq := rq, dir := s.dir } _ hn h1 hp).trans
      (congrArg actSt hclear)) hw (by decide) rfl
  · intro s rq e hadmit
    exact .acted rfl hadmit rfl (enumerateCmd_within ..) (by decide) rfl

end Sys2Proof.Machine

end

section

/-!
PROOF. Counters, restart, role swap (SPEC: Table 11.4; R425, R387).
-/

namespace Sys2Proof.Machine

theorem mem_setBits {w mask k : Nat} (hk : k < w) : k ∈ setBits w mask ↔ mask.testBit k = true := by
  rw [setBits, List.mem_filter, List.mem_range, and_iff_right hk]

/-- What clearing listed entries of a table makes of each entry: done twice it does as much as once. -/
theorem Mod.each_get {α : Type} {get : Mod → Nat → α} {upd : Mod → Nat → Mod} {f : α → α} (hf : ∀ x, f (f x) = f x)
    (h : ∀ m n k, get (upd m n) k = if k = n then f (get m n) else get m k) (m : Mod) (l : List Nat) (k : Nat) :
    get (m.each l upd) k = if k ∈ l then f (get m k) else get m k := by
  unfold Mod.each
  induction l generalizing m with
  | nil => rfl
  | cons n l ih =>
    rw [List.foldl_cons, ih, h]
    by_cases hkn : k = n
    · subst hkn; simp [hf]
    · simp [hkn]

/-- The same for the entries that a mask names. -/
theorem Mod.eachBit_get {α : Type} {get : Mod → Nat → α} {upd : Mod → Nat → Mod} {f : α → α} (hf : ∀ x, f (f x) = f x)
    (h : ∀ m n k, get (upd m n) k = if k = n then f (get m n) else get m k) (m : Mod) (mask : Nat) {k : Nat} (hk : k < 32) :
    get (m.each (setBits 32 mask) upd) k = if mask.testBit k then f (get m k) else get m k := by
  rw [Mod.each_get hf h]
  exact if_congr (mem_setBits hk) rfl rfl

theorem Mod.replied_chain (m : Mod) (op : Nat) (rq : HostReq) (e : Session) (status : Nat) (tlvs : List Tlv) (grain : Nat) :
    (m.replied op rq e status tlvs grain).chain = m.chain := (m.replied_within op rq e status tlvs grain).chainEq (by decide)

theorem Mod.replied_conv (m : Mod) (op : Nat) (rq : HostReq) (e : Session) (status : Nat) (tlvs : List Tlv) (grain : Nat) :
    (m.replied op rq e status tlvs grain).conv = m.conv := (m.replied_within op rq e status tlvs grain).convEq (by decide)

theorem Mod.replied_safety (m : Mod) (op : Nat) (rq : HostReq) (e : Session) (status : Nat) (tlvs : List Tlv) (grain : Nat) :
    (m.replied op rq e status tlvs grain).safety = m.safety := (m.replied_within op rq e status tlvs grain).safetyEq (by decide)

/-- A reply changes of the pair only what the standby is told. -/
theorem Mod.replied_capOnly (m : Mod) (op : Nat) (rq : HostReq) (e : Session) (status : Nat) (tlvs : List Tlv) (grain : Nat) :
    CapOnly m (m.replied op rq e status tlvs grain) := by
  unfold Mod.replied
  extract_lets x
  exact ((Mod.capture_capOnly ..).trans ((Mod.onSession_within ..).capOnly (by decide))).trans ((Mod.sendReply1_within ..).capOnly (by decide))

theorem Mod.viaPort_onLink_of_standby (m : Mod) (n : Nat) (f : Link → Link) (h : m.standby = true) :
    (m.viaPort fun x => x.onLink n f) = m.onPair fun p => { p with ports := tmod p.ports n f } := by
  unfold Mod.viaPort
  rw [if_neg (by simp [h])]
  rfl

/-- The link of a string as its port has it, after a change of that of string `n` there. -/
theorem Mod.klnkPort_viaPort (m : Mod) (n k : Nat) (f : Link → Link) :
    (m.viaPort fun x => x.onLink n f).klnkPort k = if k = n then f (m.klnkPort n) else m.klnkPort k := by
  have hport (m : Mod) (h : m.standby = true) (j : Nat) : m.klnkPort j = tget m.pair.ports j := if_pos h
  have hown (m : Mod) (h : m.standby = false) (j : Nat) : m.klnkPort j = m.link j := if_neg (by simp [h])
  cases h : m.standby with
  | false =>
    have hkept : (m.onLink n f).standby = false := h
    rw [Mod.viaPort_acts m _ h, hown _ hkept, hown m h, hown m h]
    exact Mod.link_onLink ..
  | true =>
    have hkept : (m.onPair fun p => { p with ports := tmod p.ports n f }).standby = true := h
    rw [Mod.viaPort_onLink_of_standby m n f h, hport _ hkept, hport m h, hport m h]
    exact tget_tmod ..

theorem Mod.viaPort_onLink_phases (m : Mod) (n : Nat) (f : Link → Link) : (m.viaPort fun x => x.onLink n f).conv.phases = m.conv.phases := by
  unfold Mod.viaPort
  split <;> rfl

theorem Mod.klnkPort_congr {m m' : Mod} (hconv : m'.conv = m.conv) (hstraps : m'.power.straps = m.power.straps) (hpair : CapOnly m m') (k : Nat) :
    m'.klnkPort k = m.klnkPort k := by
  obtain ⟨cap, hcap⟩ := hpair
  unfold Mod.klnkPort Mod.standby Mod.paired Mod.link
  rw [hconv, hstraps, hcap]

theorem Mod.noted_klnkPort (m : Mod) (rq : HostReq) (e : Session) (n : Nat) : (m.noted rq e).klnkPort n = m.klnkPort n := by
  obtain ⟨-, -, hpower, -⟩ := m.noted_fields rq e
  exact Mod.klnkPort_congr (m.noted_conv rq e) (by rw [hpower]) ((m.noted_within rq e).capOnly (by decide)) n

/-- An input with its counts of short pulses cleared. -/
def SafeIn.cleared (x : SafeIn) : SafeIn := { x with short := 0, longest := 0 }

/-- A connection with its flags cleared. -/
def Cloche.cleared (x : Cloche) : Cloche := { x with echoLate := false, wdogExp := false }

theorem Mod.each_onSi_cleared (m : Mod) (l : List Nat) (k : Nat) :
    (m.each l fun m i => m.onSi i SafeIn.cleared).si k = if k ∈ l then (m.si k).cleared else m.si k :=
  Mod.each_get (get := Mod.si) (f := SafeIn.cleared) (fun _ => rfl) (fun m n k => Mod.si_onSi m n k _) m l k

theorem Mod.each_onOi_cleared (m : Mod) (l : List Nat) (k : Nat) :
    (m.each l fun m i => m.onOi i SafeIn.cleared).oi k = if k ∈ l then (m.oi k).cleared else m.oi k :=
  Mod.each_get (get := Mod.oi) (f := SafeIn.cleared) (fun _ => rfl) (fun m n k => Mod.oi_onOi m n k _) m l k

/-- What a clear of safety inputs leaves of the safety functions. -/
theorem Mod.each_onSi_safety (m : Mod) (l : List Nat) :
    ∃ si, (m.each l fun m i => m.onSi i SafeIn.cleared).safety = { m.safety with si := si } := by
  unfold Mod.each
  induction l generalizing m with
  | nil => exact ⟨m.safety.si, rfl⟩
  | cons i l ih => exact ih _

theorem Mod.each_onOi_safety (m : Mod) (l : List Nat) :
    ∃ oi, (m.each l fun m i => m.onOi i SafeIn.cleared).safety = { m.safety with oi := oi } := by
  unfold Mod.each
  induction l generalizing m with
  | nil => exact ⟨m.safety.oi, rfl⟩
  | cons i l ih => exact ih _

/-- The listed safety inputs and optical inputs cleared of their counts, and both connections of their flags. -/
def Mod.safetyCleared (m : Mod) (si oi : List Nat) : Mod :=
  ((m.each si fun m i => m.onSi i SafeIn.cleared).each oi fun m k => m.onOi k SafeIn.cleared).onSafety fun s =>
    { s with plant := s.plant.cleared, graft := s.graft.cleared }

theorem clrSafetyCnt_eq (m : Mod) : clrSafetyCnt m = m.safetyCleared (List.range 16) (List.range 4) := rfl

theorem Mod.safetyCleared_fields (m : Mod) (si oi : List Nat) :
    (∀ i ∈ si, (m.safetyCleared si oi).si i = (m.si i).cleared) ∧ (∀ i ∈ oi, (m.safetyCleared si oi).oi i = (m.oi i).cleared) ∧
      (m.safetyCleared si oi).safety.plant = m.safety.plant.cleared ∧ (m.safetyCleared si oi).safety.graft = m.safety.graft.cleared ∧
      (m.safetyCleared si oi).safety.sq = m.safety.sq := by
  unfold Mod.safetyCleared
  have hsis := fun i => m.each_onSi_cleared si i
  obtain ⟨x, hx⟩ := m.each_onSi_safety si
  generalize (m.each si fun m i => m.onSi i SafeIn.cleared) = m1 at hsis hx ⊢
  have hois := fun i => m1.each_onOi_cleared oi i
  obtain ⟨y, hy⟩ := m1.each_onOi_safety oi
  generalize (m1.each oi fun m k => m.onOi k SafeIn.cleared) = m2 at hois hy ⊢
  rw [hx] at hy
  refine ⟨fun i hi => ?_, fun i hi => ?_, ?_, ?_, ?_⟩
  · have hsi : m2.safety.si = m1.safety.si := by rw [hy, hx]
    exact (congrArg (tget · i) hsi).trans ((hsis i).trans (if_pos hi))
  · have hoi : m1.oi i = m.oi i := by rw [Mod.oi, hx, Mod.oi]
    exact (hois i).trans ((if_pos hi).trans (congrArg SafeIn.cleared hoi))
  · exact congrArg Cloche.cleared (show m2.safety.plant = m.safety.plant by rw [hy])
  · exact congrArg Cloche.cleared (show m2.safety.graft = m.safety.graft by rw [hy])
  · exact show m2.safety.sq = m.safety.sq by rw [hy]

theorem hRestart_of_asked (r : Req) (m : Mod) (h : r.num 0x0061 0 1 = 1 ∨ r.num 0x0061 0 1 = 2) :
    hRestart r m = (m, { after := r.num 0x0061 0 1 }) := if_pos h

/-- An active module that can yield names the grain in which it does. -/
theorem Mod.yield_pair {m : Mod} (drill : Bool) (h : m.pair.yieldAt = none) :
    (m.yield drill).pair = { m.pair with yieldAt := some (m.plan.grainCnt + (if m.plan.tick < 90 then 1 else 2)), yieldDrill := drill } := by
  have hkept := (Mod.cancelActivation_within m 2).pairEq (by decide)
  unfold Mod.yield
  rw [if_neg (by simp [h])]
  exact congrArg (fun p : PairSt => { p with
    yieldAt := some (m.plan.grainCnt + (if m.plan.tick < 90 then 1 else 2)), yieldDrill := drill }) hkept

theorem Mod.noted_canYield (m : Mod) (rq : HostReq) (e : Session) : (m.noted rq e).canYield = m.canYield := by
  obtain ⟨-, -, -, hpair, -⟩ := m.noted_fields rq e
  unfold Mod.canYield
  rw [Mod.noted_pairOp, hpair]

/-- Settles O30: each command by its equation; what a mask names is cleared entry by entry. -/
theorem counterRows : Obligations.CounterRows := by
  unfold Obligations.CounterRows
  refine ⟨?_, ?_, ?_, ?_, ?_, ?_, ?_, ?_, ?_⟩
  · intro s rq e hadmit
    exact .acted rfl hadmit rfl (clrOverrun_within _) (by decide) rfl
  · intro s rq e hadmit
    have hw : Within [.host, .chain, .pair, .sent] s.m ((clrChainCnt (reqMask rq) (s.m.noted rq e)).replied 0x0411 rq e 0 [] (s.m.plan.grainCnt + 1).toNat) :=
      (Mod.replied_within ..).step (by decide) ((clrChainCnt_within ..).step (by decide) ((s.m.noted_within rq e).mono (by decide)))
    refine .acted rfl hadmit rfl (clrChainCnt_within ..) (by decide) ⟨fun n hn => ?_, ?_, hw.only⟩
    · dsimp only
      rw [Mod.ring, Mod.replied_chain]
      refine (Mod.eachBit_get (get := Mod.ring) ?_ (fun m n k => Mod.ring_onRing m n k _) _ _ hn).trans ?_
      · exact fun _ => rfl
      · rw [Mod.noted_ring]
        rfl
    · dsimp only
      rw [Mod.replied_chain, ← s.m.noted_chain rq e]
      exact Mod.each_keeps (·.chain.mons) _ _ _ fun _ _ => rfl
  · intro s rq e hadmit
    have hw : Within [.host, .conv, .pair, .sent] s.m ((clrConvFlags (reqMask rq) (s.m.noted rq e)).replied 0x0412 rq e 0 [] (s.m.plan.grainCnt + 1).toNat) :=
      (Mod.replied_within ..).step (by decide) ((clrConvFlags_within ..).step (by decide) ((s.m.noted_within rq e).mono (by decide)))
    refine .acted rfl hadmit rfl (clrConvFlags_within ..) (by decide) ⟨fun n hn => ?_, ?_, hw.only⟩
    · dsimp only
      rw [Mod.link, Mod.replied_conv]
      refine (Mod.eachBit_get (get := Mod.link) ?_ (fun m n k => Mod.link_onLink m n k _) _ _ hn).trans ?_
      · exact fun _ => rfl
      · rw [Mod.noted_link]
        rfl
    · dsimp only
      rw [Mod.replied_conv, ← s.m.noted_conv rq e]
      exact Mod.each_keeps (·.conv.phases) _ _ _ fun _ _ => rfl
  · intro s rq e hadmit
    have hw : Within [.host, .conv, .pair, .sent] s.m ((clrConvCnt (reqMask rq) (s.m.noted rq e)).replied 0x0413 rq e 0 [] (s.m.plan.grainCnt + 1).toNat) :=
      (Mod.replied_within ..).step (by decide) ((clrConvCnt_within ..).step (by decide) ((s.m.noted_within rq e).mono (by decide)))
    refine .acted rfl hadmit rfl (clrConvCnt_within ..) (by decide) ⟨fun n hn => ?_, ?_, hw.only⟩
    · refine (Mod.klnkPort_congr (Mod.replied_conv ..) ?_ (Mod.replied_capOnly ..) n).trans ?_
      · exact congrArg PowerSt.straps ((Mod.replied_within ..).powerEq (by decide) (by decide))
      refine (Mod.eachBit_get (get := Mod.klnkPort) ?_ (fun m n k => Mod.klnkPort_viaPort m n k _) _ _ hn).trans ?_
      · exact fun _ => rfl
      · rw [Mod.noted_klnkPort]
        rfl
    · dsimp only
      rw [Mod.replied_conv, ← s.m.noted_conv rq e]
      exact Mod.each_keeps (·.conv.phases) _ _ _ fun _ _ => Mod.viaPort_onLink_phases ..
  · intro s rq e hadmit
    have hw : Within [.host, .safety, .pair, .sent] s.m ((clrSafetyCnt (s.m.noted rq e)).replied 0x0414 rq e 0 [] (s.m.plan.grainCnt + 1).toNat) :=
      (Mod.replied_within ..).step (by decide) ((clrSafetyCnt_within ..).step (by decide) ((s.m.noted_within rq e).mono (by decide)))
    have hsafety := Mod.replied_safety (clrSafetyCnt (s.m.noted rq e)) 0x0414 rq e 0 [] (s.m.plan.grainCnt + 1).toNat
    have hnoted := (s.m.noted_within rq e).safetyEq (by decide)
    have hfields := (s.m.noted rq e).safetyCleared_fields (List.range 16) (List.range 4)
    rw [← clrSafetyCnt_eq] at hfields
    obtain ⟨hsi, hoi, hplant, hgraft, hsq⟩ := hfields
    refine .acted rfl hadmit rfl (clrSafetyCnt_within _) (by decide) ⟨fun i hi => ?_, fun i hi => ?_, ?_, ?_, ?_, hw.only⟩
    · exact (congrArg (fun x : SafetySt => tget x.si i) hsafety).trans ((hsi i (List.mem_range.mpr hi)).trans (congrArg (fun x => (tget x.si i).cleared) hnoted))
    · exact (congrArg (fun x : SafetySt => tget x.oi i) hsafety).trans ((hoi i (List.mem_range.mpr hi)).trans (congrArg (fun x => (tget x.oi i).cleared) hnoted))
    · exact (congrArg SafetySt.plant hsafety).trans (hplant.trans (congrArg (·.plant.cleared) hnoted))
    · exact (congrArg SafetySt.graft hsafety).trans (hgraft.trans (congrArg (·.graft.cleared) hnoted))
    · exact (congrArg SafetySt.sq hsafety).trans (hsq.trans (congrArg SafetySt.sq hnoted))
  · intro s rq e hadmit
    exact .acted rfl hadmit rfl (clrPairCnt_within _) (by decide) rfl
  · intro s rq e hadmit hnum
    refine .host rfl hadmit (hRestart_of_asked { s := e, op := 0x0501, rq := rq, dir := s.dir } _ (.inl hnum)) rfl ?_
    exact congrArg (fun k => ({ s with m := ((s.m.noted rq e).replied 0x0501 rq e 0).afterReply rq.session k } : State)) hnum
  · intro s rq e hadmit hnum
    refine .host rfl hadmit (hRestart_of_asked { s := e, op := 0x0501, rq := rq, dir := s.dir } _ (.inr hnum)) rfl ?_
    exact congrArg (fun k => ({ s with m := ((s.m.noted rq e).replied 0x0501 rq e 0).afterReply rq.session k } : State)) hnum
  · intro s rq e hadmit hyield hnone
    obtain ⟨hplan, -, -, hpair, -⟩ := s.m.noted_fields rq e
    have hyielded := Mod.yield_pair (m := s.m.noted rq e) false (by rw [hpair, hnone])
    obtain ⟨cap, hcap⟩ := Mod.replied_capOnly ((s.m.noted rq e).yield false) 0x0502 rq e 0 [] (s.m.plan.grainCnt + 1).toNat
    rw [hyielded, hpair, hplan] at hcap
    have hrole : s.m.pair.role = true := by
      unfold Mod.canYield at hyield
      simp only [Bool.and_eq_true] at hyield
      obtain ⟨⟨⟨-, hrole⟩, -⟩, -⟩ := hyield
      exact hrole
    exact .acted rfl hadmit (if_pos (by rwa [Mod.noted_canYield])) (Mod.yield_within ..) (by decide)
      ⟨rfl, congrArg PairSt.yieldAt hcap, (congrArg PairSt.role hcap).trans hrole⟩

end Sys2Proof.Machine

end

section

/-!
PROOF. Precision time messages: Sync and Follow_Up (SPEC: chapter 12; R459 to R463, R469).
-/

namespace Sys2Proof.Machine

/- The servo -/

/-- A step of the servo's law sets its integral and INCR, with the outputs kept, and nothing else. -/
theorem Mod.servoRun_eq (m : Mod) (o : Int) : ∃ i v c l, m.servoRun o =
    m.onTime fun t => { t with integral := i, incr := v, incrClamp := c, outputs := l } := by
  unfold Mod.servoRun
  dsimp only
  split
  · exact ⟨_, _, _, _, rfl⟩
  · exact ⟨m.time.integral, _, _, _, rfl⟩

theorem Mod.servoJudge_of_jump {m : Mod} (p : Nat) {o : Int} (h : m.parN 0xA0D3 * 1000 < o.natAbs) :
    m.servoJudge p o = (m.onTime fun t => { t with servo := .acquiring, jumpRefused := true, lockRun := 0, unlockRun := 0, holdSince := none }).post
      0xA003 p bNet (leI 8 o) := if_pos h

/-- The fourth offset in succession within the threshold of the lock locks. -/
theorem Mod.servoJudge_of_fourth {m : Mod} (p : Nat) {o : Int} (hjump : o.natAbs ≤ m.parN 0xA0D3 * 1000) (hservo : m.time.servo = .acquiring)
    (hlock : o.natAbs ≤ m.parN 0xA0DC) (hrun : m.time.lockRun = 3) :
    m.servoJudge p o = (m.onTime fun t => { t with servo := .locked, lockRun := 0, unlockRun := 0, integral := ppbOf t.incr }).saveIncr := by
  unfold Mod.servoJudge
  dsimp only
  rw [if_neg (Nat.not_lt.mpr hjump), hservo]
  dsimp only
  rw [hrun, decide_eq_true hlock]
  exact if_pos rfl

/-- What a step of the epoch sets: whether one was done or is armed, the epochs, the offset, and the count. -/
def TimeSt.steps (t : TimeSt) : Bool × Option Nat × Int × Option Int × Int × W32 :=
  (t.stepDone, t.forceArmed, t.epoch, t.epochNext, t.offset, t.nsCnt)

theorem Mod.saveIncr_steps (m : Mod) : m.saveIncr.time.steps = m.time.steps := by
  unfold Mod.saveIncr
  split <;> rfl

theorem Mod.servoJudge_steps (m : Mod) (p : Nat) (o : Int) : (m.servoJudge p o).time.steps = m.time.steps := by
  unfold Mod.servoJudge
  dsimp only
  split
  · exact (congrArg TimeSt.steps ((Mod.post_within ..).timeEq (by decide))).trans rfl
  · split
    · rfl
    · split
      · exact Mod.saveIncr_steps _
      · rfl
    · split <;> rfl
    · split
      · exact Mod.saveIncr_steps _
      · rfl

theorem Mod.servoRun_steps (m : Mod) (o : Int) : (m.servoRun o).time.steps = m.time.steps := by
  obtain ⟨i, v, c, l, h⟩ := m.servoRun_eq o
  rw [h]
  rfl

/-- The milliseconds of an offset, as a step of the epoch takes them, in ns. -/
def wholeMs (o : Int) : Int := rnear ((o : Rat) / 1000000) * 1000000

/-- The epoch that waits once a step by offset `o` is taken. -/
def TimeSt.epochAfter (t : TimeSt) (o : Int) : Int := t.epochNext.getD t.epoch - wholeMs o

theorem Mod.stepEpoch_of_free (m : Mod) (o : Int) :
    m.stepEpoch o false = (m.onTime fun t => { t with epochNext := some (t.epochAfter o) }, o - wholeMs o) := by
  unfold Mod.stepEpoch Mod.onTime
  simp only [Bool.or_false, Bool.false_eq_true, if_false]
  rfl

theorem Mod.stepEpoch_of_armed (m : Mod) (o : Int) : ∃ d,
    m.stepEpoch o true = (((m.onTime fun t => { t with epochNext := some (t.epochAfter o), stepDone := true, forceArmed := none }).setPar 0xA0E4 0).post
      0xA004 0xFF bFabric d, o - wholeMs o) := by
  unfold Mod.stepEpoch Mod.onTime
  simp only [Bool.or_true, if_true]
  exact ⟨_, rfl⟩

/- The cases of an offset that a Sync completes -/

/-- The module once a Sync of the parent has completed its pair of timestamps. -/
def Mod.syncPaired (m : Mod) (p : Nat) (t1 corr t2 : Int) : Mod :=
  m.onTime fun t => { t with
    lastPair := some (t1 + corrNs corr + m.par (0xA00A + 48 * p), t2 - m.par (0xA00B + 48 * p)), pendSync := none }

theorem ptpSyncReceive_of_oneStep {m : Mod} {p : Nat} {f : PtpSync} {o : Int} (hparent : m.fromParent p f.domain f.source = true)
    (hone : f.twoStep = false)
    (ho : o = m.time.epoch + (f.t2 - m.par (0xA00B + 48 * p)) - (f.t1 + corrNs f.corr + m.par (0xA00A + 48 * p)) - m.time.delay) :
    ptpSyncReceive p f m = (m.syncPaired p f.t1 f.corr f.t2).takeOffset p o := by
  subst ho
  unfold ptpSyncReceive
  rw [hparent, hone]
  rfl

theorem Mod.takeOffset_of_free {m : Mod} (p : Nat) (o : Int) (hstandby : m.standby = false) (hfree : m.time.servo = .free)
    (harmed : m.time.forceArmed = none) :
    m.takeOffset p o = (m.onTime fun t => { t with
      lastSync := m.host.ms, epochNext := some (t.epochAfter o), servo := .acquiring, timeValid := true, offset := o - wholeMs o
      offsetMs := m.host.ms, lockRun := 0, unlockRun := 0, outliers := 0 }).servoRun (o - wholeMs o) := by
  unfold Mod.takeOffset
  dsimp only
  rw [if_neg (by exact ne_of_eq_of_ne hstandby Bool.false_ne_true), if_pos hfree, harmed, Option.isSome_none, Mod.stepEpoch_of_free]
  rfl

theorem Mod.takeOffset_of_outlier {m : Mod} (p : Nat) (o : Int) (hstandby : m.standby = false) (hservo : m.time.servo ≠ .free)
    (hout : m.parN 0xA0DB < (o - m.time.offset).natAbs) (hfew : m.time.outliers < 3) :
    m.takeOffset p o = m.onTime fun t => { t with lastSync := m.host.ms, outliers := t.outliers + 1 } := by
  unfold Mod.takeOffset
  dsimp only
  rw [if_neg (by exact ne_of_eq_of_ne hstandby Bool.false_ne_true), if_neg hservo, if_pos (by exact Bool.and_eq_true_iff.mpr ⟨decide_eq_true hout, decide_eq_true hfew⟩)]
  rfl

/-- An offset that is judged: not the first, no outlier. -/
structure Mod.Judges (m : Mod) (o : Int) : Prop where
  acts : m.standby = false
  runs : m.time.servo ≠ .free
  near : (o - m.time.offset).natAbs ≤ m.parN 0xA0DB ∨ 3 ≤ m.time.outliers

theorem Mod.Judges.no_outlier {m : Mod} {o : Int} (h : m.Judges o) :
    ¬(decide (m.parN 0xA0DB < (o - m.time.offset).natAbs) && decide (m.time.outliers < 3)) = true := by
  have hnear := h.near
  rw [Bool.and_eq_true, decide_eq_true_iff, decide_eq_true_iff]
  omega

theorem Mod.takeOffset_of_judged {m : Mod} (p : Nat) {o : Int} (h : m.Judges o) (harmed : m.time.forceArmed = none) :
    m.takeOffset p o = ((m.onTime fun t => { t with
      lastSync := m.host.ms, offset := o, offsetMs := m.host.ms, outliers := 0, timeValid := true }).servoJudge p o).servoRun o := by
  unfold Mod.takeOffset
  dsimp only
  rw [if_neg (by exact ne_of_eq_of_ne h.acts Bool.false_ne_true), if_neg h.runs, if_neg (by exact h.no_outlier), harmed]
  rfl

/-- With the step armed, the first offset and one that is judged take the whole milliseconds, whatever becomes of the rest. -/
theorem Mod.takeOffset_of_armed {m : Mod} (p : Nat) (o : Int) {u : Nat} (hstandby : m.standby = false) (harmed : m.time.forceArmed = some u)
    (h : m.time.servo = .free ∨ m.Judges o) :
    (m.takeOffset p o).time.steps = (true, none, m.time.epoch, some (m.time.epochAfter o), o - wholeMs o, m.time.nsCnt) ∧
      (m.takeOffset p o).host = (m.setPar 0xA0E4 0).host := by
  obtain ⟨d, hstep⟩ := (m.onTime fun t => { t with lastSync := m.host.ms }).stepEpoch_of_armed o
  generalize hm1 : ((((m.onTime fun t => { t with lastSync := m.host.ms }).onTime fun t =>
    { t with epochNext := some (t.epochAfter o), stepDone := true, forceArmed := none }).setPar 0xA0E4 0).post 0xA004 0xFF bFabric d) = m1 at hstep
  have hhost : m1.host = (m.setPar 0xA0E4 0).host := by
    rw [← hm1]
    exact (Mod.post_within ..).hostEq (by decide)
  have htime : m1.time = { m.time with lastSync := m.host.ms, epochNext := some (m.time.epochAfter o), stepDone := true, forceArmed := none } := by
    rw [← hm1]
    exact (Mod.post_within ..).timeEq (by decide)
  unfold Mod.takeOffset
  dsimp only
  rw [if_neg (by exact ne_of_eq_of_ne hstandby Bool.false_ne_true), harmed, Option.isSome_some, hstep]
  have hdone (a : Mod) (hsteps : a.time.steps = (m1.onTime fun t => { t with offset := o - wholeMs o }).time.steps) (ha : a.host = m1.host) :
      (a.servoRun (o - wholeMs o)).time.steps = (true, none, m.time.epoch, some (m.time.epochAfter o), o - wholeMs o, m.time.nsCnt) ∧
        (a.servoRun (o - wholeMs o)).host = (m.setPar 0xA0E4 0).host := by
    refine ⟨(a.servoRun_steps _).trans (hsteps.trans ?_), ((a.servoRun_within _).hostEq (by decide)).trans (ha.trans hhost)⟩
    exact (congrArg (fun t : TimeSt => ({ t with offset := o - wholeMs o } : TimeSt).steps) htime).trans rfl
  rcases h with hfree | hj
  · rw [if_pos hfree]
    exact hdone _ rfl rfl
  · rw [if_neg hj.runs, if_neg (by exact hj.no_outlier), if_pos rfl]
    refine hdone _ (Mod.servoJudge_steps ..) ?_
    exact (Mod.servoJudge_within ..).hostEq (by decide)

theorem Mod.setPar_default_parAcc (m : Mod) : (m.setPar 0xA0E4 0).parAcc 0xA0E4 = paramDefault 0xA0E4 := by
  have hdefault : (0 : Int) = paramDefault 0xA0E4 := by decide
  unfold Mod.parAcc Mod.setPar
  rw [if_neg (by decide), if_pos hdefault, tget_tput, if_pos rfl]
  rfl

theorem Mod.saveIncr_of_responding {m : Mod} (h : m.power.cfResponding = true) :
    m.saveIncr = (m.onPower fun p => { p with savedIncr := BitVec.ofNat 32 m.time.incr }).onTime fun t => { t with lastSave := m.host.ms } := by
  unfold Mod.saveIncr
  rw [if_pos h]

theorem ptpFollowUpReceive_of_pending {m : Mod} {p : Nat} {f : PtpFollowUp} {q : PendSync} (hq : m.time.pendSync = some q) (hp : q.port = p)
    (hseq : q.seq = f.seq) (hparent : m.fromParent p f.domain f.source = true) :
    ptpFollowUpReceive p f m = m.syncOffset p f.t1 (f.corr + q.corr) q.t2 := by
  unfold ptpFollowUpReceive
  rw [hq]
  exact if_pos (by simp [hparent, hp, hseq])

theorem Mod.takeOffset_of_jump {m : Mod} (p : Nat) {o : Int} (h : m.Judges o) (harmed : m.time.forceArmed = none)
    (hjump : m.parN 0xA0D3 * 1000 < o.natAbs) :
    (m.takeOffset p o).time.servo = .acquiring ∧ (m.takeOffset p o).time.jumpRefused = true ∧ (m.takeOffset p o).time.epoch = m.time.epoch ∧
      (m.takeOffset p o).time.epochNext = m.time.epochNext ∧ (m.takeOffset p o).time.offset = o ∧ (m.takeOffset p o).time.outliers = 0 ∧
      Recorded 0xA003 p bNet m (m.takeOffset p o) := by
  rw [Mod.takeOffset_of_judged p h harmed, Mod.servoJudge_of_jump p (by exact hjump)]
  generalize hm1 : ((m.onTime fun t => { t with lastSync := m.host.ms, offset := o, offsetMs := m.host.ms, outliers := 0, timeValid := true }).onTime
    fun t => { t with servo := .acquiring, jumpRefused := true, lockRun := 0, unlockRun := 0, holdSince := none }) = m1
  obtain ⟨i, v, c, l, hrun⟩ := (m1.post 0xA003 p bNet (leI 8 o)).servoRun_eq o
  have htime := (m1.post_within 0xA003 p bNet (leI 8 o)).timeEq (by decide)
  have hrec : Recorded 0xA003 p bNet m (m1.post 0xA003 p bNet (leI 8 o)) := (m1.post_recorded ..).of_store (by rw [← hm1]; rfl)
  rw [hrun]
  simp only [Mod.onTime, htime]
  rw [← hm1]
  exact ⟨rfl, rfl, rfl, rfl, rfl, rfl, hm1 ▸ hrec.to_store rfl⟩

theorem Mod.takeOffset_of_fourth {m : Mod} (p : Nat) {o : Int} (h : m.Judges o) (harmed : m.time.forceArmed = none)
    (hjump : o.natAbs ≤ m.parN 0xA0D3 * 1000) (hservo : m.time.servo = .acquiring) (hlock : o.natAbs ≤ m.parN 0xA0DC) (hrun : m.time.lockRun = 3)
    (hcf : m.power.cfResponding = true) :
    (m.takeOffset p o).time.servo = .locked ∧ (m.takeOffset p o).power.savedIncr = BitVec.ofNat 32 m.time.incr ∧ (m.takeOffset p o).time.offset = o ∧
      (m.takeOffset p o).time.epochNext = m.time.epochNext ∧ (m.takeOffset p o).host = m.host ∧ (m.takeOffset p o).store = m.store := by
  rw [Mod.takeOffset_of_judged p h harmed, Mod.servoJudge_of_fourth p (by exact hjump) (by exact hservo) (by exact hlock) (by exact hrun),
    Mod.saveIncr_of_responding (by exact hcf)]
  generalize hm1 : ((m.onTime fun t => { t with lastSync := m.host.ms, offset := o, offsetMs := m.host.ms, outliers := 0, timeValid := true }).onTime
    fun t => { t with servo := .locked, lockRun := 0, unlockRun := 0, integral := ppbOf t.incr }) = m1
  obtain ⟨i, v, c, l, hrun⟩ := ((m1.onPower fun p => { p with savedIncr := BitVec.ofNat 32 m1.time.incr }).onTime fun t =>
    { t with lastSave := m1.host.ms }).servoRun_eq o
  rw [hrun, ← hm1]
  exact ⟨rfl, rfl, rfl, rfl, rfl, rfl⟩

/-- Settles O32: the offset of a Sync by its cases, then the step of the servo, which sets INCR and the integral alone. -/
theorem timeMessages : Obligations.TimeMessages := by
  unfold Obligations.TimeMessages
  refine ⟨?_, ?_, ?_, ?_, ?_, ?_, ?_⟩
  · intro s p f hsup hp hparent htwo
    refine .sup rfl (okTwo_of_lt hp) hsup ?_
    rw [ptpSyncReceive, hparent, htwo]
    rfl
  · intro s p f o hsup hp hparent hone hstandby hfree harmed ho
    refine .sup rfl (okTwo_of_lt hp) hsup ?_
    have honly := (ptpSyncReceive_within p f s.m).only (s := s)
    rw [ptpSyncReceive_of_oneStep hparent hone ho,
      Mod.takeOffset_of_free (m := s.m.syncPaired p f.t1 f.corr f.t2) p o hstandby hfree harmed] at honly ⊢
    obtain ⟨i, v, c, l, hrun⟩ := Mod.servoRun_eq ((s.m.syncPaired p f.t1 f.corr f.t2).onTime fun t => { t with
      lastSync := (s.m.syncPaired p f.t1 f.corr f.t2).host.ms, epochNext := some (t.epochAfter o), servo := .acquiring, timeValid := true
      offset := o - wholeMs o, offsetMs := (s.m.syncPaired p f.t1 f.corr f.t2).host.ms, lockRun := 0, unlockRun := 0, outliers := 0 }) (o - wholeMs o)
    rw [hrun] at honly ⊢
    exact ⟨rfl, rfl, rfl, rfl, rfl, rfl, rfl, rfl, honly⟩
  · intro s p f o hsup hp hparent hone hstandby hservo ho hout hfew
    refine .sup rfl (okTwo_of_lt hp) hsup ?_
    have honly := (ptpSyncReceive_within p f s.m).only (s := s)
    rw [ptpSyncReceive_of_oneStep hparent hone ho,
      Mod.takeOffset_of_outlier (m := s.m.syncPaired p f.t1 f.corr f.t2) p o hstandby hservo hout hfew] at honly ⊢
    exact ⟨rfl, rfl, rfl, rfl, rfl, rfl, rfl, rfl, rfl, rfl, rfl, honly⟩
  · intro s p f o hsup hp hparent hone hstandby hservo harmed ho hnear hjump
    refine .sup rfl (okTwo_of_lt hp) hsup ?_
    have hfree : s.m.time.servo ≠ .free := fun h => by rcases hservo with k | k <;> cases (k.symm.trans h)
    have hj : (s.m.syncPaired p f.t1 f.corr f.t2).Judges o := ⟨hstandby, hfree, hnear⟩
    have honly := (ptpSyncReceive_within p f s.m).only (s := s)
    obtain ⟨hacq, hrefused, hepoch, hnext, hoff, hout, hrec⟩ := Mod.takeOffset_of_jump p hj harmed hjump
    rw [← ptpSyncReceive_of_oneStep hparent hone ho] at hacq hrefused hepoch hnext hoff hout hrec
    exact ⟨hacq, hrefused, hepoch, hnext, hoff, hout, hrec.of_store rfl, honly⟩
  · intro s p f o u hsup hp hparent hone hstandby harmed ho hcase
    refine .sup rfl (okTwo_of_lt hp) hsup ?_
    have hj : s.m.time.servo = .free ∨ (s.m.syncPaired p f.t1 f.corr f.t2).Judges o := by
      by_cases hfree : s.m.time.servo = .free
      · exact .inl hfree
      · exact .inr ⟨hstandby, hfree, hcase.resolve_left hfree⟩
    have hw := ptpSyncReceive_within p f s.m
    have honly := hw.only (s := s)
    have hplan := hw.planEq (by decide)
    obtain ⟨hsteps, hhost⟩ := Mod.takeOffset_of_armed (m := s.m.syncPaired p f.t1 f.corr f.t2) p o hstandby harmed hj
    rw [← ptpSyncReceive_of_oneStep hparent hone ho] at hsteps hhost
    simp only [TimeSt.steps, Prod.mk.injEq] at hsteps
    obtain ⟨hdone, hnone, hepoch, hnext, hoff, hcnt⟩ := hsteps
    refine ⟨hdone, hnone, ?_, hepoch, hnext, hoff, hcnt, hplan, honly⟩
    exact (congrArg (fun h : HostSt => (tget h.params 0xA0E4).getD (paramDefault 0xA0E4)) hhost).trans (Mod.setPar_default_parAcc s.m)
  · intro s p f o hsup hp hparent hone hstandby hservo harmed hrun hcf ho hnear hlock hjump
    refine .sup rfl (okTwo_of_lt hp) hsup ?_
    have hfree : s.m.time.servo ≠ .free := fun h => by cases (hservo.symm.trans h)
    have hj : (s.m.syncPaired p f.t1 f.corr f.t2).Judges o := ⟨hstandby, hfree, hnear⟩
    have honly := (ptpSyncReceive_within p f s.m).only (s := s)
    obtain ⟨hlocked, hsaved, hoff, hnext, hhost, hstore⟩ := Mod.takeOffset_of_fourth p hj harmed hjump hservo hlock hrun hcf
    rw [← ptpSyncReceive_of_oneStep hparent hone ho] at hlocked hsaved hoff hnext hhost hstore
    exact ⟨hlocked, hsaved, hoff, hnext, hhost, hstore, honly⟩
  · intro s p f q hsup hp hq hqp hseq hparent
    exact .sup rfl (okTwo_of_lt hp) hsup (by rw [ptpFollowUpReceive_of_pending hq hqp hseq hparent])

end Sys2Proof.Machine

end

section

/-!
PROOF. Parents, holdover and the saves of the servo (SPEC: chapter 12; R454, R455, R460, R461, R464, R469).
-/

namespace Sys2Proof.Machine

/- The choice of the parent -/

theorem Mod.ptp_onPtp (m : Mod) {p k : Nat} (hp : p < 2) (hk : k < 2) (f : PtpPort → PtpPort) :
    (m.onPtp p f).time.ptp k = if k = p then f (m.time.ptp p) else m.time.ptp k := by
  unfold Mod.onPtp Mod.onTime TimeSt.ptp
  obtain rfl | rfl : p = 0 ∨ p = 1 := by omega
  all_goals obtain rfl | rfl : k = 0 ∨ k = 1 := by omega
  all_goals rfl

/-- The course of the time: INCR, the state of the servo, the epochs and the offset. -/
def TimeSt.course (t : TimeSt) : Nat × Servo × Int × Option Int × Int := (t.incr, t.servo, t.epoch, t.epochNext, t.offset)

theorem Mod.onPtp_course (m : Mod) (p : Nat) (f : PtpPort → PtpPort) :
    (m.onPtp p f).time.course = m.time.course ∧ (m.onPtp p f).time.parent = m.time.parent := by
  obtain ⟨a, b, h⟩ := m.onPtp_time p f
  rw [h]
  exact ⟨rfl, rfl⟩

theorem Mod.bestPort_of_none {m : Mod} {p : Nat} (hp : p < 2) (h : (m.time.ptp p).best = none) (hother : (m.time.ptp (1 - p)).best = none) :
    m.bestPort = none := by
  unfold Mod.bestPort
  obtain rfl | rfl : p = 0 ∨ p = 1 := by omega
  · rw [show m.time.portA.best = none from h, show m.time.portB.best = none from hother]
  · rw [show m.time.portB.best = none from h, show m.time.portA.best = none from hother]

theorem Mod.bestPort_of_one {m : Mod} {p : Nat} {a : Announce} (hp : p < 2) (h : (m.time.ptp p).best = some a)
    (hother : (m.time.ptp (1 - p)).best = none) : m.bestPort = some (p, a) := by
  unfold Mod.bestPort
  obtain rfl | rfl : p = 0 ∨ p = 1 := by omega
  · rw [show m.time.portA.best = some a from h, show m.time.portB.best = none from hother]
  · rw [show m.time.portB.best = some a from h, show m.time.portA.best = none from hother]

/-- The UTC offset of the parent, as its Announce or the parameter gives it. -/
def Mod.utcOf (m : Mod) (a : Announce) : Nat := if a.ptpScale then a.utcOffset else m.parN 0xA0E5

/-- A change of the UTC offset is reported. -/
def Mod.utcTold (m : Mod) (a : Announce) : Mod := if m.time.utcOffset = m.utcOf a then m else m.out (.utcOffset (m.utcOf a))

/-- The clock of an Announce is the parent, with what was measured of the parent before dropped. -/
def Mod.newParent (m : Mod) (p : Nat) (a : Announce) : Mod :=
  (m.utcTold a).onTime fun t => { t with
    parent := some (p, a.gmId, a.source), utcOffset := m.utcOf a, lastSync := (m.utcTold a).host.ms, lastPair := none, delays := []
    pendSync := none }

theorem Mod.newParent_fields (m : Mod) (p : Nat) (a : Announce) :
    (m.newParent p a).time.course = m.time.course ∧ (m.newParent p a).time.portA = m.time.portA ∧ (m.newParent p a).time.portB = m.time.portB ∧
      (m.newParent p a).store = m.store := by
  have htold : (m.utcTold a).time = m.time ∧ (m.utcTold a).store = m.store := by
    unfold Mod.utcTold
    split
    · exact ⟨rfl, rfl⟩
    · exact ⟨rfl, rfl⟩
  obtain ⟨htime, hstore⟩ := htold
  unfold Mod.newParent Mod.onTime
  rw [htime]
  exact ⟨rfl, rfl, rfl, hstore⟩

theorem Mod.newParent_within (m : Mod) (p : Nat) (a : Announce) : Within [.time, .sent] m (m.newParent p a) := by
  have htold : Within [.time, .sent] m (m.utcTold a) := by
    unfold Mod.utcTold
    split
    · exact .refl ..
    · exact (Mod.out_within ..).mono (by decide)
  exact (Mod.onTime_within ..).step (by decide) htold

theorem Mod.selectParent_of_none {m : Mod} (h : m.bestPort = none) : m.selectParent = m := by
  unfold Mod.selectParent
  rw [h]

theorem Mod.selectParent_of_first {m : Mod} {p : Nat} {a : Announce} (hbest : m.bestPort = some (p, a)) (hold : m.time.parent = none) :
    m.selectParent = m.newParent p a := by
  unfold Mod.selectParent
  rw [hbest]
  dsimp only
  rw [hold]
  rfl

theorem Mod.selectParent_of_change {m : Mod} {p q g c : Nat} {a : Announce} (hbest : m.bestPort = some (p, a)) (hold : m.time.parent = some (q, g, c))
    (h : ¬(q = p ∧ g = a.gmId)) : m.selectParent = (m.newParent p a).post 0xA005 p bNet (be8 g ++ be8 a.gmId) := by
  have hsame : (decide (q = p) && decide (g = a.gmId)) = false := by simpa using h
  unfold Mod.selectParent
  rw [hbest]
  dsimp only
  rw [hold]
  dsimp only
  simp only [hsame, Bool.false_eq_true, if_false]
  rfl

/-- A change of parent is recorded, and leaves the course of the time alone. -/
theorem Mod.selectParent_change_effect {m : Mod} {p q g c : Nat} {a : Announce} (hbest : m.bestPort = some (p, a))
    (hold : m.time.parent = some (q, g, c)) (h : ¬(q = p ∧ g = a.gmId)) :
    m.selectParent.time.parent = some (p, a.gmId, a.source) ∧ m.selectParent.time.course = m.time.course ∧ Recorded 0xA005 p bNet m m.selectParent := by
  obtain ⟨hcourse, -, -, hstore⟩ := m.newParent_fields p a
  have htime := ((m.newParent p a).post_within 0xA005 p bNet (be8 g ++ be8 a.gmId)).timeEq (by decide)
  rw [Mod.selectParent_of_change hbest hold h]
  exact ⟨congrArg TimeSt.parent htime, (congrArg TimeSt.course htime).trans hcourse, (Mod.post_recorded ..).of_store hstore⟩

theorem announceTimeout_of_expired {m : Mod} {p : Nat} {a : Announce} (ha : (m.time.ptp p).best = some a)
    (hms : 1000 * m.parN 0xA0D6 ≤ m.host.ms - a.ms) : announceTimeout p m = (m.onPtp p fun x => { x with best := none }).selectParent := by
  unfold announceTimeout
  rw [ha]
  exact if_pos hms

/-- An Announce that the port takes, as its first or a better one. -/
theorem ptpAnnounceReceive_of_taken {m : Mod} {p : Nat} {f : PtpAnnounce} (hon : m.ptpOn p = true) (hdomain : (f.domain : Int) = m.par 0xA0D1)
    (hclass : f.a.clockClass ≤ m.parN 0xA0E1) (htake : ∀ b, (m.time.ptp p).best = some b → f.a.better b = true) :
    ptpAnnounceReceive p f m = (m.onPtp p fun x => { x with best := some { f.a with ms := m.host.ms } }).selectParent := by
  unfold ptpAnnounceReceive
  dsimp only
  rw [if_neg (by simp [hon, hdomain, hclass])]
  cases hb : (m.time.ptp p).best with
  | none => exact if_pos rfl
  | some b =>
    have hbetter : ({ f.a with ms := m.host.ms } : Announce).better b = true := htake b hb
    exact if_pos (by exact Bool.or_eq_true_iff.mpr (.inr hbetter))

/- The servo's own timers -/

theorem syncLossTimeout_of_lost {m : Mod} (hstandby : m.standby = false) (hservo : m.time.servo = .acquiring ∨ m.time.servo = .locked)
    (hout : m.time.outputs ≠ []) (hlost : 1000 * m.parN 0xA0D7 ≤ m.host.ms - m.time.lastSync) :
    syncLossTimeout m = m.onTime fun t => { t with
      servo := .holdover, holdSince := some m.host.ms, incr := (incrOf (rsum m.time.outputs / m.time.outputs.length)).1
      incrClamp := t.incrClamp || (incrOf (rsum m.time.outputs / m.time.outputs.length)).2, lockRun := 0, unlockRun := 0 } := by
  unfold syncLossTimeout
  dsimp only
  rw [if_pos (by simp [hstandby, hservo, hlost]), if_neg (by simpa using hout)]

/-- Settles O33: each row by its equation; what a change of parent leaves alone by `newParent_fields`. -/
theorem servoTimers : Obligations.ServoTimers := by
  unfold Obligations.ServoTimers
  refine ⟨?_, ?_, ?_, ?_, ?_, ?_, ?_, ?_, ?_, ?_⟩
  · intro s p a hsup hp ha hother hms
    refine .sup rfl (okTwo_of_lt hp) hsup ?_
    rw [announceTimeout_of_expired ha hms, Mod.selectParent_of_none]
    refine Mod.bestPort_of_none hp ?_ ?_
    · rw [Mod.ptp_onPtp _ hp hp, if_pos rfl]
    · rw [Mod.ptp_onPtp _ hp (by omega), if_neg (by omega), hother]
  · intro s p g c a b hsup hp ha hother hparent hms
    refine .sup rfl (okTwo_of_lt hp) hsup ?_
    have honly := (announceTimeout_within p s.m).only (s := s)
    have hbest : (s.m.onPtp p fun x => { x with best := none }).bestPort = some (1 - p, b) := by
      refine Mod.bestPort_of_one (by omega) ?_ ?_
      · rw [Mod.ptp_onPtp _ hp (by omega), if_neg (by omega), hother]
      · rw [show 1 - (1 - p) = p by omega, Mod.ptp_onPtp _ hp hp, if_pos rfl]
    obtain ⟨hkept, hold⟩ := s.m.onPtp_course p fun x => { x with best := none }
    obtain ⟨hnew, hcourse, hrec⟩ := Mod.selectParent_change_effect hbest (hold.trans hparent) (by omega)
    rw [announceTimeout_of_expired ha hms] at honly ⊢
    rw [hkept] at hcourse
    simp only [TimeSt.course, Prod.mk.injEq] at hcourse
    obtain ⟨hincr, hservo, hepoch, hnext, hoff⟩ := hcourse
    exact ⟨hnew, hrec.of_store rfl, hincr, hservo, hoff, honly⟩
  · intro s hsup hstandby hservo hout hlost
    have honly := (syncLossTimeout_within s.m).only (s := s)
    refine .sup rfl rfl hsup ?_
    rw [syncLossTimeout_of_lost hstandby hservo hout hlost] at honly ⊢
    exact ⟨rfl, rfl, rfl, rfl, rfl, rfl, honly⟩
  · intro s u hsup hservo hsince hms
    refine .sup rfl rfl hsup ?_
    rw [holdMaxExpiry, hservo, hsince]
    exact congrArg (fun m => ({ s with m := m } : State)) (if_pos hms)
  · intro s hsup
    exact .sup rfl rfl hsup rfl
  · intro s u hsup harmed hms
    refine .sup rfl rfl hsup ?_
    rw [forceStepExpiry, harmed]
    exact congrArg (fun m => ({ s with m := m } : State)) (if_pos hms)
  · intro s hsup hservo hms hcf
    refine .sup rfl rfl hsup ?_
    rw [incrSave, if_pos (by simp [hservo, hms]), Mod.saveIncr_of_responding hcf]
  · intro s p f hsup hp hon hdomain hclass hA hB hparent
    refine .sup rfl (okTwo_of_lt hp) hsup ?_
    have hnone (q : Nat) : (s.m.time.ptp q).best = none := by
      unfold TimeSt.ptp
      split
      · exact hA
      · exact hB
    have hother : ((s.m.onPtp p fun x => { x with best := some { f.a with ms := s.m.host.ms } }).time.ptp (1 - p)).best = none := by
      rw [Mod.ptp_onPtp _ hp (by omega), if_neg (by omega), hnone]
    have hbest := Mod.bestPort_of_one (m := s.m.onPtp p fun x => { x with best := some { f.a with ms := s.m.host.ms } }) (p := p) hp
      (by rw [Mod.ptp_onPtp _ hp hp, if_pos rfl]) hother
    have htaken := ptpAnnounceReceive_of_taken hon hdomain hclass fun b hb => by cases (hnone p).symm.trans hb
    have hw : Within [.time, .sent] s.m (ptpAnnounceReceive p f s.m) := by
      rw [htaken, Mod.selectParent_of_first hbest ((s.m.onPtp_course _ _).2.trans hparent)]
      exact (Mod.newParent_within ..).step (by decide) ((Mod.onPtp_within ..).mono (by decide))
    have honly := hw.only (s := s)
    obtain ⟨hkept, hold⟩ := s.m.onPtp_course p fun x => { x with best := some { f.a with ms := s.m.host.ms } }
    obtain ⟨hcourse, hptpA, hptpB, -⟩ := Mod.newParent_fields (s.m.onPtp p fun x => { x with best := some { f.a with ms := s.m.host.ms } }) p
      { f.a with ms := s.m.host.ms }
    rw [htaken, Mod.selectParent_of_first hbest (hold.trans hparent)] at honly ⊢
    rw [hkept] at hcourse
    simp only [TimeSt.course, Prod.mk.injEq] at hcourse
    obtain ⟨hincr, hservo, hepoch, hnext, hoff⟩ := hcourse
    refine ⟨rfl, ?_, rfl, hincr, hservo, hepoch, honly⟩
    have hptp : ((s.m.onPtp p fun x => { x with best := some { f.a with ms := s.m.host.ms } }).time.ptp p).best = some { f.a with ms := s.m.host.ms } := by
      rw [Mod.ptp_onPtp _ hp hp, if_pos rfl]
    rw [TimeSt.ptp] at hptp ⊢
    dsimp only
    rw [hptpA, hptpB]
    exact hptp
  · intro s p g c f b hsup hp hon hdomain hclass hb hother hbetter hparent hgm
    refine .sup rfl (okTwo_of_lt hp) hsup ?_
    have hbest := Mod.bestPort_of_one (m := s.m.onPtp p fun x => { x with best := some { f.a with ms := s.m.host.ms } }) (p := p) hp
      (by rw [Mod.ptp_onPtp _ hp hp, if_pos rfl]) (by rw [Mod.ptp_onPtp _ hp (by omega), if_neg (by omega), hother])
    have htaken := ptpAnnounceReceive_of_taken hon hdomain hclass fun x hx => by cases hb.symm.trans hx; exact hbetter
    have honly := (ptpAnnounceReceive_within p f s.m).only (s := s)
    obtain ⟨hkept, hold⟩ := s.m.onPtp_course p fun x => { x with best := some { f.a with ms := s.m.host.ms } }
    obtain ⟨hnew, hcourse, hrec⟩ := Mod.selectParent_change_effect hbest (hold.trans hparent) (fun h => hgm h.2.symm)
    rw [htaken] at honly ⊢
    rw [hkept] at hcourse
    simp only [TimeSt.course, Prod.mk.injEq] at hcourse
    obtain ⟨hincr, hservo, hepoch, hnext, hoff⟩ := hcourse
    exact ⟨hnew, hrec.of_store rfl, hincr, hservo, hepoch, hnext, hoff, honly⟩
  · intro s p domain kind corr ingress egress frame hpow hp htc hdomain
    refine .on rfl (okTwo_of_lt hp) hpow ?_
    rw [ptpTcForward, if_neg (by simp [htc, hdomain]; omega)]
    rfl

end Sys2Proof.Machine

end

section

/-!
PROOF. Reads that latch, and the diagnostic window (SPEC: R42, R293, R441, R467, R550).
-/

namespace Sys2Proof.Machine

theorem diagRange_of_inside {off count top : Nat} (h4 : off % 4 = 0) (hend : off + 4 * count ≤ 0x10000) (h1 : 1 ≤ count) (htop : count ≤ top) :
    diagRange off count top = none := by
  unfold diagRange
  rw [if_neg (by omega), if_neg (by omega), if_neg (by omega), if_neg (by omega)]

theorem hDiagRead_of_inside (r : Req) (m : Mod) (hop : r.op = 0x0120) (h : diagRange (r.num 0x0022 0 4) (r.num 0x0022 4 4) 1024 = none) :
    hDiagRead r m =
      ((Mod.diagReads ((List.range (r.num 0x0022 4 4)).map fun k => hostOff (r.num 0x0022 0 4 + 4 * k)) m).2,
        { tlvs := [⟨0x0023, (Mod.diagReads ((List.range (r.num 0x0022 4 4)).map fun k => hostOff (r.num 0x0022 0 4 + 4 * k)) m).1.flatMap
          fun (v : W32) => leN 4 v.toNat⟩] }) := by
  have hoff (k : Nat) : r.diagOff k = hostOff k := if_pos (.inl hop)
  unfold hDiagRead
  dsimp only
  simp only [h, hoff]

theorem hDiagWrite_of_inside (r : Req) (m : Mod) (hop : r.op = 0x0121) (hlen : (r.val 0x0023).length = 4 * r.num 0x0022 4 4)
    (h : diagRange (r.num 0x0022 0 4) (r.num 0x0022 4 4) 64 = none) :
    hDiagWrite r m = actSt (m.diagWrites ((List.range (r.num 0x0022 4 4)).map fun k =>
      (hostOff (r.num 0x0022 0 4 + 4 * k), BitVec.ofNat 32 (r.num 0x0023 (4 * k) 4)))) := by
  have hoff (k : Nat) : r.diagOff k = hostOff k := if_pos (.inr hop)
  unfold hDiagWrite
  dsimp only
  rw [if_neg (not_not.mpr hlen)]
  simp only [h, hoff]
  rfl

theorem actSt_of_done {r : Mod × Nat} (h : r.2 = 0) : actSt r = (r.1, { grain := r.1.effGrain }) := by
  unfold actSt Mod.acted
  rw [h]
  rfl

/- What each read latches, once the latches before have ended -/

theorem Mod.readEffect_of_grn (m : Mod) : Mod.readEffect 0x100 m = m.latchesEnd.onPlan fun p => { p with grnLatch := some p.grainCnt } := rfl

theorem Mod.readEffect_of_ns (m : Mod) : Mod.readEffect 0x1804 m = m.latchesEnd.onTime fun t => { t with wrapLatch := some t.wrapCnt } := rfl

theorem Mod.readEffect_of_sec (m : Mod) :
    Mod.readEffect 0x1814 m = m.latchesEnd.onTime fun t => { t with secLatch := some (m.latchesEnd.secNow / 2 ^ 32 % 2 ^ 16) } := rfl

theorem Mod.readEffect_of_ue (m : Mod) : Mod.readEffect 0x1D24 m = m.latchesEnd.onStore fun s => { s with ueLatch := some (s.ueAddr / 2 ^ 32) } := rfl

theorem Mod.readEffect_of_wide {m : Mod} {off : Nat} {v : Int} (hv : m.dispWide off = some v) (h : off ∉ [0x100, 0x1804, 0x1814, 0x1D24, 0x217C]) :
    Mod.readEffect off m = m.latchesEnd.onDisp fun d => { d with s64Latch := some (off + 4, BitVec.ofNat 32 (uns 64 v / 2 ^ 32)) } := by
  have hv' : m.latchesEnd.dispWide off = some v := hv
  simp only [List.mem_cons, List.not_mem_nil, or_false, not_or] at h
  obtain ⟨hgrn, hns, hsec, hue, hcur⟩ := h
  unfold Mod.readEffect
  dsimp only
  rw [if_neg hgrn, if_neg hns, if_neg hsec, if_neg hue, if_neg hcur, s64LowRead, hv']

theorem diagRead_completes {s : State} {rq : HostReq} {e : Session} {l : List Nat} (hadmit : s.m.Admits 0x0120 rq e)
    (hl : ((List.range (reqNum rq 0x0022 4 4)).map fun k => hostOff (reqNum rq 0x0022 0 4 + 4 * k)) = l)
    (h : diagRange (reqNum rq 0x0022 0 4) (reqNum rq 0x0022 4 4) 1024 = none) :
    Completes (.diagRead rq) s fun t =>
      t = { s with m := (((Mod.diagReads l (s.m.noted rq e)).2).replied 0x0120 rq e 0
        [⟨0x0023, ((Mod.diagReads l (s.m.noted rq e)).1).flatMap fun (v : W32) => leN 4 v.toNat⟩]) } := by
  have hread := hDiagRead_of_inside { s := e, op := 0x0120, rq := rq, dir := s.dir } (s.m.noted rq e) rfl h
  have hop : hDiagRead { s := e, op := 0x0120, rq := rq, dir := s.dir } (s.m.noted rq e) = ((Mod.diagReads l (s.m.noted rq e)).2,
      { tlvs := [⟨0x0023, ((Mod.diagReads l (s.m.noted rq e)).1).flatMap fun (v : W32) => leN 4 v.toNat⟩] }) := by
    rw [← hl]
    exact hread
  exact .host rfl hadmit hop rfl rfl

theorem diagWrite_completes {s : State} {rq : HostReq} {e : Session} {l : List (Nat × W32)} (hadmit : s.m.Admits 0x0121 rq e)
    (hl : ((List.range (reqNum rq 0x0022 4 4)).map fun k =>
      (hostOff (reqNum rq 0x0022 0 4 + 4 * k), BitVec.ofNat 32 (reqNum rq 0x0023 (4 * k) 4))) = l)
    (hlen : (tlvVal rq.tlvs 0x0023).length = 4 * reqNum rq 0x0022 4 4)
    (h : diagRange (reqNum rq 0x0022 0 4) (reqNum rq 0x0022 4 4) 64 = none) (hst : ((s.m.noted rq e).diagWrites l).2 = 0) :
    Completes (.diagWrite rq) s fun t =>
      t = { s with m := (((s.m.noted rq e).diagWrites l).1).replied 0x0121 rq e 0 [] ((s.m.noted rq e).diagWrites l).1.effGrain } := by
  have hwrite := hDiagWrite_of_inside { s := e, op := 0x0121, rq := rq, dir := s.dir } (s.m.noted rq e) rfl hlen h
  have hop : hDiagWrite { s := e, op := 0x0121, rq := rq, dir := s.dir } (s.m.noted rq e) = actSt ((s.m.noted rq e).diagWrites l) := by
    rw [← hl]
    exact hwrite
  exact .host rfl hadmit (hop.trans (actSt_of_done hst)) rfl rfl

/-- Settles O34: each read by what it latches once the latches before have ended, the diagnostic window by its range. -/
theorem registerLatches : Obligations.RegisterLatches := by
  unfold Obligations.RegisterLatches
  refine ⟨?_, ?_, ?_, ?_, ?_, ?_, ?_⟩
  · intro s hpow
    refine .on rfl rfl hpow ⟨rfl, rfl, rfl, rfl, rfl, ?_, (Mod.readEffect_within 0x100 s.m).only⟩
    rw [Mod.readEffect_of_grn]
    dsimp only [Mod.onPlan, Mod.latchesEnd]
  · intro s hpow
    refine .on rfl rfl hpow ⟨rfl, rfl, rfl, ?_, (Mod.readEffect_within 0x1804 s.m).only⟩
    rw [Mod.readEffect_of_ns]
    dsimp only [Mod.onTime, Mod.latchesEnd]
  · intro s hpow
    refine .on rfl rfl hpow ⟨rfl, rfl, ?_, (Mod.readEffect_within 0x1814 s.m).only⟩
    rw [Mod.readEffect_of_sec]
    dsimp only [Mod.onTime, Mod.latchesEnd]
  · intro s off v hpow hwide hoff
    have hread := Mod.readEffect_of_wide hwide hoff
    refine .on rfl rfl hpow ⟨?_, ?_, ?_, (Mod.readEffect_within off s.m).only⟩
    all_goals
      rw [hread]
      dsimp only [Mod.onDisp, Mod.latchesEnd]
  · intro s hpow
    refine .on rfl rfl hpow ⟨rfl, ?_, rfl, (Mod.readEffect_within 0x1D24 s.m).only⟩
    rw [Mod.readEffect_of_ue]
    dsimp only [Mod.onStore, Mod.latchesEnd]
  · intro s rq e hadmit h4 hend h1 htop
    exact diagRead_completes hadmit rfl (diagRange_of_inside h4 hend h1 htop)
  · intro s rq e g hadmit h4 hend h1 htop hlen hst hg
    subst hg
    exact diagWrite_completes hadmit rfl hlen (diagRange_of_inside h4 hend h1 htop) hst

end Sys2Proof.Machine

end

section

/-!
PROOF. The restart button, the straps, the cell, network links, violations (SPEC: chapters 16 and 18; R565 to R576).
-/

namespace Sys2Proof.Machine

theorem Mod.warm_of_supRuns {m : Mod} (h : m.supRuns = true) : m.plan.warm = false := by
  obtain ⟨hwarm, -⟩ := Bool.and_eq_true_iff.mp h
  simpa using hwarm

/- The release of the restart button -/

/-- The module once a press has ended. -/
def Mod.btnReleased (m : Mod) : Mod := m.onPower fun p => { p with btnHeld := false, btnState := 0, btnSince := m.host.ms }

/-- The press that has ended is recorded, with what it asks for. -/
def Mod.pressNoted (m : Mod) (act : Nat) : Mod :=
  m.btnReleased.post 0xE007 0xFF bSup (leN 4 (m.host.ms - m.power.btnSince) ++ u8 act)

/-- What a press of `ms` milliseconds asks for: nothing, a warm restart, or a module restart. -/
def pressAct (ms : Nat) : Nat := if ms < 200 then 0 else if ms < 3000 then 1 else 2

theorem restartButtonRelease_of_pressed {m : Mod} {act : Nat} (hsup : m.supRuns = true) (hheld : m.power.btnHeld = true) (hstate : m.power.btnState = 1)
    (hlong : m.host.ms - m.power.btnSince ≤ 10000) (hact : pressAct (m.host.ms - m.power.btnSince) = act) :
    restartButtonRelease m =
      if act = 1 then (m.pressNoted act).warmRestart 2 else if act = 2 then (m.pressNoted act).requestRestart 3 else m.pressNoted act := by
  have hreleased : (m.onPower fun p => { p with btnHeld := false, btnState := if p.btnState = 1 then 0 else p.btnState, btnSince := m.host.ms }) =
      m.btnReleased := by simp [Mod.btnReleased, Mod.onPower, hstate]
  subst hact
  unfold restartButtonRelease
  rw [if_neg (by simp [hheld]), if_neg (by simp [hsup])]
  dsimp only
  rw [if_neg (by omega), hreleased]
  rfl

theorem Mod.pressNoted_power (m : Mod) (act : Nat) :
    (m.pressNoted act).power.restart = m.power.restart ∧ (m.pressNoted act).power.state = m.power.state ∧
      (m.pressNoted act).power.straps = m.power.straps ∧ (m.pressNoted act).power.warmCount = m.power.warmCount ∧
      (m.pressNoted act).power.btnHeld = false := by
  unfold Mod.pressNoted
  simp [Mod.btnReleased, Mod.onPower]

theorem Mod.pressNoted_fields (m : Mod) (act : Nat) :
    (m.pressNoted act).plan = m.plan ∧ (m.pressNoted act).host = m.host ∧ (m.pressNoted act).pair = m.pair := by
  obtain ⟨hplan, hhost, -, -, -, -, -, -, hpair, -⟩ := m.btnReleased.post_fields 0xE007 0xFF bSup (leN 4 (m.host.ms - m.power.btnSince) ++ u8 act)
  exact ⟨hplan, hhost, hpair⟩

theorem Mod.warmRestart_btnHeld (m : Mod) (cause : Nat) : (m.warmRestart cause).power.btnHeld = m.power.btnHeld := by
  unfold Mod.warmRestart
  split
  · rfl
  · dsimp only
    generalize hm : (m.onPlan fun p => { p with warm := true, warmCause := cause, sp0Ok := false, sp1Ok := false }).onPower _ = m'
    have htold : Within [.time, .upd, .sent] m' (m'.servoHold.trialAgain.tellPartner 1) :=
      (Mod.tellPartner_within ..).step (by decide) ((Mod.trialAgain_within _).step (by decide) ((Mod.servoHold_within _).mono (by decide)))
    generalize m'.servoHold.trialAgain.tellPartner 1 = a at htold ⊢
    have hheld : (a.post 0xE002 0xFF bSup (u8 cause)).power.btnHeld = a.power.btnHeld := by simp
    rw [hheld, htold.powerEq (by decide) (by decide), ← hm]
    rfl

/-- A module that is not one of a pair stops what it does, and keeps the request. -/
theorem Mod.requestRestart_of_single {m : Mod} (cause : Nat) (hnone : m.power.restart = none) (hstate : m.power.state = .running)
    (hextract : m.pair.extraction = false) (hpaired : m.paired = false) :
    Within [.conv, .disp] (m.onPower fun p => { p with restart := some { cause := cause, startedMs := m.host.ms } }) (m.requestRestart cause) := by
  have hfree : ¬(m.power.restart.isSome || m.power.state = .failing || m.power.state = .off || m.pair.extraction) = true := by
    simp [hnone, hstate, hextract]
  have hyield : m.canYield = false := by
    unfold Mod.canYield Mod.pairOp
    simp [hpaired]
  unfold Mod.requestRestart
  rw [if_neg hfree, if_neg (by simp [hyield])]
  dsimp only
  split
  · exact .refl ..
  · exact Within.each (fun _ _ => (Mod.softStop_within ..).mono (by decide)) ((Mod.performStop_within ..).mono (by decide))

/- The rows beside the button -/

theorem strapRecheck_of_changed {m : Mod} {pins : BitVec 9} (hsup : m.supRuns = true) (hpins : pins ≠ m.power.strapPins) :
    strapRecheck pins m = (m.onPower fun p => { p with strapPins := pins, strapChanged := true }).post 0xE005 0xFF bSup
      (leN 2 m.power.strapPins.toNat ++ leN 2 pins.toNat) := by
  unfold strapRecheck
  rw [if_neg (by simp [hsup, hpins])]

theorem cellLow_of_low {m : Mod} {mv : Nat} (hlow : mv < 2700) (hwas : m.power.cellLow = false) :
    cellLow mv m = (m.onPower fun p => { p with cellMv := mv, cellLow := true }).post 0xE008 0xFF bCold (leN 2 mv) := by
  unfold cellLow
  dsimp only
  rw [decide_eq_true hlow, hwas]
  rfl

theorem secViolation_of_mesh {m : Mod} (hstate : m.power.state = .running) (hmesh : m.power.meshOk = true) (hresp : m.power.respMesh = 0) :
    secViolation 0 true true m = (m.onPower fun p => { p with meshOk := false, meshBreach := true }).post 0xE00A 0xFF bCold (u8 0 ++ u8 1 ++ u8 0) := by
  have hviolation (m : Mod) (h : m.power.respMesh = 0) :
      m.violation 0 = (m.onPower fun p => { p with meshBreach := true }).post 0xE00A 0xFF bCold (u8 0 ++ u8 1 ++ u8 0) := by
    unfold Mod.violation
    simp [h, Mod.onPower]
  unfold secViolation
  rw [if_neg (by decide), if_neg (by simp [hstate]), if_neg (by decide)]
  dsimp only
  rw [hmesh]
  exact hviolation _ hresp

theorem secViolation_of_unpowered {m : Mod} (hstate : m.power.state = .off) :
    secViolation 0 false true m = m.unpoweredErase.onPower fun p => { p with
      unpoweredViolation := some (p.unpoweredViolation.getD 0), meshOk := p.meshOk && decide (0 ≠ 0) } := by
  unfold secViolation
  rw [if_neg (by decide), if_pos (show (!false || decide (m.power.state = .off)) = true from rfl), if_pos (by simp [hstate])]

/-- Settles O43: each row by its equation; what the restarts keep of the power state by the laws of their parts. -/
theorem buttonStrapsCell : Obligations.ButtonStrapsCell := by
  unfold Obligations.ButtonStrapsCell
  refine ⟨?_, ?_, ?_, ?_, ?_, ?_, ?_, ?_, ?_, ?_, ?_, ?_⟩
  · intro s hsup hheld
    exact .of_on rfl (Mod.powered_of_supRuns hsup) (restartButtonPress_of_supRuns hsup hheld)
  · intro s hsup hheld hstate hshort
    exact .of_on rfl (Mod.powered_of_supRuns hsup) (restartButtonRelease_of_pressed hsup hheld hstate (by omega) (if_pos hshort))
  · intro s hsup hheld hstate hlong hshort hnone hrunning
    have hw := restartButtonRelease_within s.m
    have honly := hw.only (s := s)
    obtain ⟨hcnt, -, -⟩ := hw.clockEq (by decide)
    refine .on rfl rfl (Mod.powered_of_supRuns hsup) ?_
    have hrelease := restartButtonRelease_of_pressed hsup hheld hstate (by omega) ((if_neg (Nat.not_lt.mpr hlong)).trans (if_pos hshort))
    rw [if_pos rfl] at hrelease
    obtain ⟨hrestart, hst, -, hcount, hheld'⟩ := s.m.pressNoted_power 1
    obtain ⟨hplan, -, -⟩ := s.m.pressNoted_fields 1
    obtain ⟨hwarm, hcause, -, -, hlast, hwcount, -, hplanrun, hmode⟩ := (s.m.pressNoted 1).warmRestart_effect 2 (hrestart.trans hnone)
      (by rw [hst, hrunning]; decide) (by rw [hplan]; exact Mod.warm_of_supRuns hsup) hrelease
    rw [hplan] at hplanrun hmode
    rw [hcount] at hwcount
    have hbtn : (restartButtonRelease s.m).power.btnHeld = false := by rw [hrelease, Mod.warmRestart_btnHeld, hheld']
    exact ⟨hwarm, hcause, hlast, hwcount, hbtn, hplanrun, hmode, hcnt, honly⟩
  · intro s hsup hheld hstate hlong hten hnone hrunning hextract hpaired
    have honly := (restartButtonRelease_within s.m).only (s := s)
    have hrelease := restartButtonRelease_of_pressed hsup hheld hstate hten
      ((if_neg (Nat.not_lt.mpr (le_trans (by decide) hlong))).trans (if_neg (Nat.not_lt.mpr hlong)))
    rw [if_neg (by decide), if_pos rfl] at hrelease
    obtain ⟨hrestart, hst, hstraps, -, hheld'⟩ := s.m.pressNoted_power 2
    obtain ⟨hplan, hhost, hpair⟩ := s.m.pressNoted_fields 2
    have hw := Mod.requestRestart_of_single (m := s.m.pressNoted 2) 3 (hrestart.trans hnone) (hst.trans hrunning) (by rw [hpair, hextract])
      (by rwa [Mod.paired, hstraps])
    have hpower := hw.powerEq (by decide) (by decide)
    have hplan' := hw.planEq (by decide)
    refine .on rfl rfl (Mod.powered_of_supRuns hsup) ?_
    rw [hrelease] at honly ⊢
    refine ⟨?_, (congrArg PlanSt.warm hplan').trans (congrArg PlanSt.warm hplan), (congrArg PowerSt.btnHeld hpower).trans hheld', honly⟩
    rw [← hhost]
    exact congrArg PowerSt.restart hpower
  · intro s hpow hstate hheld hlong
    exact .of_on rfl hpow (buttonStuck_of_held hstate hheld hlong)
  · intro s hpow hstate hheld hlong
    exact .of_on rfl hpow (buttonRearm_of_released hstate hheld hlong)
  · intro s pins hsup hpins
    exact .of_on rfl (Mod.powered_of_supRuns hsup) (strapRecheck_of_changed hsup hpins)
  · intro s mv hpow hlow hwas
    exact .of_on rfl hpow (cellLow_of_low hlow hwas)
  · intro s net hpow hnet
    exact .on rfl (okTwo_of_lt hnet) hpow (congrArg (fun m => ({ s with m := m } : State)) (if_neg (Nat.not_lt.mpr (Nat.le_of_lt_succ hnet))))
  · intro s net hpow hnet
    exact .on rfl (okTwo_of_lt hnet) hpow (congrArg (fun m => ({ s with m := m } : State)) (if_neg (Nat.not_lt.mpr (Nat.le_of_lt_succ hnet))))
  · intro s hstate hmesh hresp
    refine .any rfl (by decide) ?_
    rw [secViolation_of_mesh hstate hmesh hresp]
  · intro s hstate
    have honly := (secViolation_within 0 false true s.m).only (s := s)
    refine .any rfl (by decide) ?_
    rw [secViolation_of_unpowered hstate] at honly ⊢
    exact ⟨rfl, rfl, rfl, rfl, rfl, rfl, rfl, rfl, rfl, rfl, honly⟩

end Sys2Proof.Machine

end

section

/-!
PROOF. The safety configuration in two steps, keys, calibration, confirmation and rollback (SPEC: chapters 9, 16 and 17; R326, R571,
R597, R598, R601, R603).
-/

namespace Sys2Proof.Machine

theorem Mod.rvNoted_safety (m : Mod) (rq : RvReq) (x : RvSession) : (m.rvNoted rq x).safety = m.safety := by
  obtain ⟨-, -, -, -, hsafety, -⟩ := m.rvNoted_fields rq x
  exact hsafety

theorem Mod.rvNoted_power (m : Mod) (rq : RvReq) (x : RvSession) : (m.rvNoted rq x).power = m.power := by
  obtain ⟨-, -, -, hpower, -⟩ := m.rvNoted_fields rq x
  exact hpower

/- The safety configuration -/

theorem uSafeStage_of_good (r : Req) (m : Mod) (c : Tab (Option Int))
    (hc : c = (m.paramVals (paramEntries (r.val 0x0103))).foldl (fun t e => tput t e.1 (if e.2 = paramDefault e.1 then none else some e.2)) [])
    (honce : ∀ e ∈ paramEntries (r.val 0x0103), safeIds.contains e.1 = true ∧ ((paramEntries (r.val 0x0103)).filter fun y => y.1 == e.1).length = 1)
    (hfault : m.paramFault (paramEntries (r.val 0x0103)) = none) (hok : stageOk (fun i => (tget c i).getD (paramDefault i)) = true) :
    uSafeStage r m = (m.onSafety fun s => { s with staged := some c, stagedMs := s.ms, stagedAgree := s.coresAgree },
      { tlvs := [⟨0x0103, safeSet c⟩, ⟨0x0104, leN 4 (cfgCrcOf fun i => (tget c i).getD (paramDefault i)).toNat⟩,
                 ⟨0x0103, safeSet c⟩, ⟨0x0104, leN 4 (cfgCrcOf fun i => (tget c i).getD (paramDefault i)).toNat⟩] }) := by
  subst hc
  generalize hes : paramEntries (r.val 0x0103) = es at honce hfault hok ⊢
  have hfind : ((List.range es.length).find? fun k => !safeIds.contains (es.getD k default).1 ||
      (es.filter fun x => x.1 == (es.getD k default).1).length != 1) = none := by
    rw [List.find?_eq_none]
    intro k hk
    have hmem : es.getD k default ∈ es := by
      rw [List.getD_eq_getElem _ _ (List.mem_range.mp hk)]
      exact List.getElem_mem _
    obtain ⟨hin, hlen⟩ := honce _ hmem
    rw [hin, hlen]
    decide
  unfold uSafeStage
  dsimp only
  rw [hes, hfind]
  dsimp only
  rw [hfault]
  dsimp only
  rw [hok]
  rfl

theorem uSafeCommit_of_agreed (r : Req) (m : Mod) (c : Tab (Option Int)) (hstaged : m.safety.staged = some c) (hagree : m.safety.stagedAgree = true)
    (hcrc : r.num 0x0104 0 4 = (cfgCrcOf fun i => (tget c i).getD (paramDefault i)).toNat) (hms : m.safety.ms - m.safety.stagedMs < 60000)
    (hoff : ∀ g < 8, (m.sq g).on = false) :
    uSafeCommit r m = ((m.onSafety fun s => { s with staged := none, commitCfg := some c }).post 0x000A 0xFF bSafety
      (leN 4 m.safety.cfgCrc.toNat ++ leN 4 (cfgCrcOf fun i => (tget c i).getD (paramDefault i)).toNat), ans 0) := by
  have hnone : ((List.range 8).any fun g => (m.sq g).on) = false :=
    List.any_eq_false.mpr fun g hg => by simp [hoff g (List.mem_range.mp hg)]
  have hlate : decide (60000 ≤ m.safety.ms - m.safety.stagedMs) = false := decide_eq_false (Nat.not_le.mpr hms)
  have hsame : decide (r.num 0x0104 0 4 ≠ (cfgCrcOf fun i => (tget c i).getD (paramDefault i)).toNat) = false := decide_eq_false (not_not.mpr hcrc)
  unfold uSafeCommit
  rw [hstaged]
  dsimp only
  rw [hagree, hsame, hlate, hnone]
  rfl

/- Keys and calibration -/

theorem uKeyLoadClear_of_newer (r : Req) (m : Mod) (hslot : r.num 0x0105 0 1 < 16) (hzero : r.num 0x0105 1 3 = 0)
    (hgen : (tget m.power.credKeys (r.num 0x0105 0 1)).generation < r.num 0x0105 4 4) (hkey : (((r.val 0x0105).drop 8).take 32).all (· == 0) = false) :
    uKeyLoadClear true r m = (m.storeKey (r.num 0x0105 0 1) (r.num 0x0105 4 4) (((r.val 0x0105).drop 8).take 32), ans 0) := by
  have hold : m.keyGen (r.num 0x0105 0 1) = (tget m.power.credKeys (r.num 0x0105 0 1)).generation := if_neg (Nat.ne_of_lt hslot)
  unfold uKeyLoadClear
  dsimp only
  rw [if_neg (by decide), if_neg (show ¬16 < rdN (r.val 0x0105) 0 1 from Nat.not_lt.mpr (Nat.le_of_lt hslot)),
    if_neg (show ¬rdN (r.val 0x0105) 1 3 ≠ 0 from not_not.mpr hzero),
    if_neg (show ¬rdN (r.val 0x0105) 4 4 ≤ m.keyGen (rdN (r.val 0x0105) 0 1) from hold ▸ Nat.not_le.mpr hgen), hkey]
  rfl

theorem Mod.storeKey_keys (m : Mod) {slot : Nat} (gen : Nat) (key : List Byte) (hslot : slot < 16) :
    tget (m.storeKey slot gen key).power.credKeys slot = ⟨key, gen⟩ ∧ (m.storeKey slot gen key).power.chainRoot = m.power.chainRoot := by
  unfold Mod.storeKey
  dsimp only
  rw [if_neg (Nat.ne_of_lt hslot)]
  have hkept := ((m.onPower fun p => { p with credKeys := tput p.credKeys slot ⟨key, gen⟩ }).credChanged_within slot).powerEq (by decide) (by decide)
  generalize (m.onPower fun p => { p with credKeys := tput p.credKeys slot ⟨key, gen⟩ }).credChanged slot = m1 at hkept ⊢
  have hposted : (m1.post 0xE00E 0xFF bCold (u8 slot ++ [0, 0, 0] ++ leN 4 gen)).power.credKeys = m1.power.credKeys ∧
      (m1.post 0xE00E 0xFF bCold (u8 slot ++ [0, 0, 0] ++ leN 4 gen)).power.chainRoot = m1.power.chainRoot := by simp
  obtain ⟨hkeys, hroot⟩ := hposted
  rw [hkeys, hroot, hkept]
  exact ⟨(tget_tput ..).trans (if_pos rfl), rfl⟩

theorem adcId_inj {s s' f f' : Nat} (hf : f < 2) (hf' : f' < 2) : adcId s f = adcId s' f' ↔ s = s' ∧ f = f' := by
  unfold adcId
  omega

/-- What a parameter outside the safety configuration reads as, once one of them is set. -/
theorem Mod.setPar_parAcc (m : Mod) (id k : Nat) (v : Int) (hk : k / 0x1000 ≠ 8) : (m.setPar id v).parAcc k = if k = id then v else m.parAcc k := by
  unfold Mod.parAcc
  rw [if_neg hk, if_neg hk]
  have hget : tget (m.setPar id v).host.params k = if k = id then (if v = paramDefault id then none else some v) else tget m.host.params k := tget_tput ..
  rw [hget]
  by_cases hkid : k = id
  · rw [if_pos hkid, if_pos hkid, hkid]
    split
    · next hv => rw [hv]; rfl
    · rfl
  · rw [if_neg hkid, if_neg hkid]

/-- The user calibration of an ADC slot. -/
def Mod.calPair (m : Mod) (k : Nat) : Int × Int := (m.parAcc (adcId k 0), m.parAcc (adcId k 1))

theorem Mod.calPair_setPar (m : Mod) (n k : Nat) :
    ((m.setPar (adcId n 0) 0).setPar (adcId n 1) 0).calPair k = if k = n then (0, 0) else m.calPair k := by
  have hid (f : Nat) : adcId k f / 0x1000 ≠ 8 := by
    unfold adcId
    omega
  have hne (a b : Nat) : adcId a 0 ≠ adcId b 1 := fun h => absurd ((adcId_inj (by decide) (by decide)).mp h).2 (by decide)
  have heq (f : Nat) (hf : f < 2) : adcId k f = adcId n f ↔ k = n := by rw [adcId_inj hf hf, and_iff_left rfl]
  unfold Mod.calPair
  rw [Mod.setPar_parAcc _ _ _ _ (hid 0), Mod.setPar_parAcc _ _ _ _ (hid 0), Mod.setPar_parAcc _ _ _ _ (hid 1), Mod.setPar_parAcc _ _ _ _ (hid 1),
    if_neg (hne k n), if_neg (hne n k).symm]
  simp only [heq 0 (by decide), heq 1 (by decide)]
  split <;> rfl

theorem uCalReset_of_named (r : Req) (m : Mod) (hmask : r.num 0x0106 0 8 < 2 ^ 46) (hne : r.num 0x0106 0 8 ≠ 0) :
    uCalReset r m = (((m.each (setBits 46 (r.num 0x0106 0 8)) fun m k => (m.setPar (adcId k 0) 0).setPar (adcId k 1) 0).cfgWrite).post 0x000B 0xFF bSup
      (leN 8 (r.num 0x0106 0 8)), ans 0) := by
  unfold uCalReset
  dsimp only
  rw [if_neg (Nat.not_le.mpr hmask), if_neg hne]

/-- The user calibration of each slot, once the slots a mask names are reset. -/
theorem Mod.calReset_calPair (m : Mod) (mask : Nat) (d : List Byte) {k : Nat} (hk : k < 46) :
    ((((m.each (setBits 46 mask) fun m k => (m.setPar (adcId k 0) 0).setPar (adcId k 1) 0).cfgWrite).post 0x000B 0xFF bSup d).calPair k) =
      if mask.testBit k then (0, 0) else m.calPair k := by
  have heach := Mod.each_get (get := Mod.calPair) (f := fun _ => (0, 0)) (fun _ => rfl) Mod.calPair_setPar m (setBits 46 mask) k
  generalize (m.each (setBits 46 mask) fun m k => (m.setPar (adcId k 0) 0).setPar (adcId k 1) 0) = m1 at heach ⊢
  have hkept (a b : Mod) (hparams : b.host.params = a.host.params) (hcfg : b.safety.cfg = a.safety.cfg) : b.calPair k = a.calPair k := by
    unfold Mod.calPair Mod.parAcc
    rw [hparams, hcfg]
  have hcfgw : m1.cfgWrite.host.params = m1.host.params := by
    unfold Mod.cfgWrite
    dsimp only
    split <;> rfl
  rw [hkept m1.cfgWrite _ (by rw [(Mod.post_within ..).hostEq (by decide)]) (by rw [(Mod.post_within ..).safetyEq (by decide)]),
    hkept m1 m1.cfgWrite hcfgw (by rw [(Mod.cfgWrite_within ..).safetyEq (by decide)]), heach]
  exact if_congr (mem_setBits hk) rfl rfl

/- The trial slot -/

/-- The slots once the running one is ACTIVE, before the floors of its image are taken. -/
def Mod.slotsConfirmed (m : Mod) : Mod :=
  (m.onFwSlot m.upd.runB fun s => { s with st := .active }).onInactive fun s => if s.st = .active then { s with st := .verified } else s

theorem Mod.slotsConfirmed_slots (m : Mod) :
    (m.slotsConfirmed.fwSlot m.upd.runB).st = .active ∧ m.slotsConfirmed.inactive.st = (if m.inactive.st = .active then .verified else m.inactive.st) ∧
      m.slotsConfirmed.upd.runB = m.upd.runB ∧ m.slotsConfirmed.upd.minSvn = m.upd.minSvn ∧
      m.slotsConfirmed.upd.fusesLeft = m.upd.fusesLeft ∧ m.slotsConfirmed.store = m.store := by
  have hverified (s : FwSlot) : (if s.st = .active then { s with st := .verified } else s : FwSlot).st = if s.st = .active then .verified else s.st := by
    split <;> rfl
  cases h : m.upd.runB
  all_goals
    simp [Mod.slotsConfirmed, Mod.inactive, Mod.onInactive, Mod.onFwSlot, Mod.fwSlot, Mod.onUpd, h, hverified]

theorem Mod.confirm_effect (m : Mod) :
    (m.confirm.fwSlot m.upd.runB).st = .active ∧ m.confirm.upd.trialSince = none ∧ m.confirm.upd.runB = m.upd.runB ∧
      m.confirm.upd.minSvn = (if m.upd.minSvn < (m.fwSlot m.upd.runB).hdr.svnFloor ∧ 0 < m.upd.fusesLeft then (m.fwSlot m.upd.runB).hdr.svnFloor
        else m.upd.minSvn) ∧
      m.confirm.inactive.st = (if m.inactive.st = .active then .verified else m.inactive.st) ∧ Recorded 0x0006 0xFF bSup m m.confirm := by
  obtain ⟨hactive, hother, hrun, hsvn, hfuses, hstore⟩ := m.slotsConfirmed_slots
  generalize hm1 : (m.slotsConfirmed.onUpd fun u => { u with
    trialSince := none, trialModule := false
    minSvn := if decide (m.slotsConfirmed.upd.minSvn < (m.fwSlot m.upd.runB).hdr.svnFloor ∧ 0 < m.slotsConfirmed.upd.fusesLeft) then (m.fwSlot m.upd.runB).hdr.svnFloor else u.minSvn
    fusesLeft := if decide (m.slotsConfirmed.upd.minSvn < (m.fwSlot m.upd.runB).hdr.svnFloor ∧ 0 < m.slotsConfirmed.upd.fusesLeft) then u.fusesLeft - 1 else u.fusesLeft
    keyRevoked := if (m.fwSlot m.upd.runB).hdr.kflags.testBit 0 then u.keyRevoked ||| BitVec.ofNat 8 (2 ^ (m.fwSlot m.upd.runB).hdr.keyIndex - 1)
      else u.keyRevoked }) = m1
  have hconfirm : m.confirm = m1.post 0x0006 0xFF bSup (u8 (b2n m.upd.runB)) := by
    rw [← hm1]
    rfl
  have hupd : m.confirm.upd = m1.upd := by rw [hconfirm, (Mod.post_within ..).updEq (by decide)]
  rw [Mod.fwSlot_congr hupd, Mod.inactive_congr hupd, hupd, hconfirm]
  refine ⟨?_, ?_, ?_, ?_, ?_, (m1.post_recorded ..).of_store ?_⟩
  all_goals rw [← hm1]
  · exact hactive
  · rfl
  · exact hrun
  · dsimp only [Mod.onUpd]
    rw [hsvn, hfuses]
    simp only [decide_eq_true_eq]
  · exact hother
  · exact hstore

theorem trialAutoConfirm_of_due {m : Mod} {u : Nat} (hsince : m.upd.trialSince = some u) (hwarm : m.plan.warm = false)
    (hst : (m.fwSlot m.upd.runB).st = .trial) (hms : 600000 ≤ m.host.ms - u) : trialAutoConfirm m = m.confirm := by
  unfold trialAutoConfirm
  rw [hsince]
  exact if_pos (by simp [hwarm, hst, hms])

/-- UPD_ROLLBACK to the other slot, whose other components are those that run: it is on trial under the next generation. -/
theorem uRollback_of_supervisor (r : Req) (m : Mod) (hst : m.inactive.st = .verified ∨ m.inactive.st = .active)
    (hsvn : m.upd.minSvn ≤ m.inactive.hdr.svn) (hkind : m.moduleKind = false) (hrec : m.upd.recovery = false) : ∃ m',
    uRollback r m = (m', { after := 7 }) ∧
      m'.inactive = { m.inactive with st := .trial, generation := (m.fwSlot m.upd.runB).generation + 1, tries := 0 } ∧
      m'.upd.runB = m.upd.runB ∧ m'.plan = m.plan ∧ m'.power.restart = m.power.restart ∧ m'.power.state = m.power.state := by
  have hactivate : m.activate = ((((m.onInactive fun s => { s with st := .trial, generation := (m.fwSlot m.upd.runB).generation + 1, tries := 0 }).onUpd
      fun u => { u with trialModule := false }).post 0x0004 0xFF bSup (u8 0)), { after := 7 }) := by
    simp [Mod.activate, hkind, hrec, b2n]
  unfold uRollback
  dsimp only
  rw [if_neg (by rcases hst with h | h <;> simp [h]), if_neg (Nat.not_lt.mpr hsvn), hactivate]
  obtain ⟨hslot, -, hrun⟩ := m.onInactive_slots fun s => { s with st := .trial, generation := (m.fwSlot m.upd.runB).generation + 1, tries := 0 }
  generalize hm1 : ((m.onInactive fun s => { s with st := .trial, generation := (m.fwSlot m.upd.runB).generation + 1, tries := 0 }).onUpd
      fun u => { u with trialModule := false }) = m1
  have hslot1 : m1.inactive = { m.inactive with st := .trial, generation := (m.fwSlot m.upd.runB).generation + 1, tries := 0 } := by
    rw [← hm1]
    exact hslot
  have hrun1 : m1.upd.runB = m.upd.runB := by
    rw [← hm1]
    exact hrun
  have hw (d d' : List Byte) : Within [.store] m1 ((m1.post 0x0004 0xFF bSup d).post 0x0007 0xFF bSup d') := (Mod.post_within ..).trans (Mod.post_within ..)
  refine ⟨_, rfl, ?_, ?_, ?_, ?_, ?_⟩
  · exact (Mod.inactive_congr ((hw ..).updEq (by decide))).trans hslot1
  · exact (congrArg UpdSt.runB ((hw ..).updEq (by decide))).trans hrun1
  · exact ((hw ..).planEq (by decide)).trans (by rw [← hm1]; rfl)
  · simp [← hm1]
  · simp [← hm1]

/-- The reply to a request on the port and the warm restart that follows it leave the slots, and restart the supervisor. -/
theorem Mod.rvReplied_warmRestart_effect (m : Mod) (op : Nat) (rq : RvReq) (x : RvSession) (hrestart : m.power.restart = none)
    (hstate : m.power.state = .running) (hwarm : m.plan.warm = false) :
    ((m.rvReplied op rq x 0).warmRestart 10).inactive = m.inactive ∧ ((m.rvReplied op rq x 0).warmRestart 10).upd.runB = m.upd.runB ∧
      ((m.rvReplied op rq x 0).warmRestart 10).plan = { m.plan with warm := true, warmCause := 10, sp0Ok := false, sp1Ok := false } := by
  obtain ⟨hinactive, -, hrun, -, hplan, hpower⟩ := m.rvReplied_slots op rq x 0 []
  obtain ⟨hbegun, -⟩ := (m.rvReplied op rq x 0).warmRestart_begins 10 (by rw [hpower, hrestart]) (by rw [hpower, hstate]; decide) (by rw [hplan, hwarm])
  obtain ⟨hkept, hkeptrun⟩ := (m.rvReplied op rq x 0).warmRestart_slots 10
  exact ⟨hkept.trans hinactive, hkeptrun.trans hrun, hbegun.trans (by rw [hplan])⟩

/-- Settles O46: each request's operation is judged once, on the module with the request noted. -/
theorem safetySetKeysCalibration : Obligations.SafetySetKeysCalibration := by
  unfold Obligations.SafetySetKeysCalibration
  refine ⟨?_, ?_, ?_, ?_, ?_, ?_, ?_, ?_⟩
  · intro s rq x c hadmit hc honce hfault hok
    exact .rv rfl hadmit (uSafeStage_of_good { s := x.s, op := 0x0020, rq := rvHost rq } _ c hc honce hfault hok) rfl
  · intro s rq x c hadmit hstaged hagree hcrc hms hoff
    rw [← s.m.rvNoted_safety rq x] at hstaged hagree hms
    refine .rv rfl hadmit (uSafeCommit_of_agreed { s := x.s, op := 0x0021, rq := rvHost rq } (s.m.rvNoted rq x) c hstaged hagree hcrc hms fun g hg => ?_) ?_
    · rw [Mod.sq, Mod.rvNoted_safety]
      exact hoff g hg
    · rw [Mod.rvNoted_safety]
      rfl
  · intro s rq x hadmit hslot hzero hgen hkey
    have hpresence : x.presence = true := by
      obtain ⟨-, -, -, -, -, -, -, -, -, hpresence, -⟩ := hadmit
      exact hpresence rfl
    have hload := uKeyLoadClear_of_newer { s := x.s, op := 0x0030, rq := rvHost rq } (s.m.rvNoted rq x) hslot hzero
      (by rw [Mod.rvNoted_power]; exact hgen) hkey
    rw [← hpresence] at hload
    have hwithin := hadmit.within hload
    obtain ⟨hkeys, hroot⟩ := (s.m.rvNoted rq x).storeKey_keys (reqNum (rvHost rq) 0x0105 4 4) (((tlvVal rq.tlvs 0x0105).drop 8).take 32) hslot
    rw [Mod.rvNoted_power] at hroot
    exact .rv rfl hadmit hload ⟨rfl, congrArg KeySlot.key hkeys, congrArg KeySlot.generation hkeys, hroot, hwithin.only⟩
  · intro s rq x hadmit
    refine .rv rfl hadmit rfl ?_
    obtain ⟨usb, ses, hupd⟩ := s.m.rvNoted_upd rq x
    rw [hupd]
    rfl
  · intro s rq x hadmit hmask hne
    have hreset := uCalReset_of_named { s := x.s, op := 0x0041, rq := rvHost rq } (s.m.rvNoted rq x) hmask hne
    have hcal : ∀ k < 46, _ := fun k hk =>
      (s.m.rvNoted rq x).calReset_calPair (reqNum (rvHost rq) 0x0106 0 8) (leN 8 (reqNum (rvHost rq) 0x0106 0 8)) hk
    generalize hm : (((s.m.rvNoted rq x).each (setBits 46 (reqNum (rvHost rq) 0x0106 0 8)) fun m k =>
      (m.setPar (adcId k 0) 0).setPar (adcId k 1) 0).cfgWrite).post 0x000B 0xFF bSup (leN 8 (reqNum (rvHost rq) 0x0106 0 8)) = m' at hcal ⊢
    have hop : rvOp x.presence { s := x.s, op := 0x0041, rq := rvHost rq } (s.m.rvNoted rq x) = (m', ans 0) := by
      rw [← hm]
      exact hreset
    have hwithin := hadmit.within hop
    refine .rv rfl hadmit hop ⟨rfl, fun k hk hbit => ?_, fun k hk hbit => ?_, hwithin.only⟩
    · exact Prod.mk.inj ((hcal k hk).trans (if_pos hbit))
    · refine Prod.mk.inj (((hcal k hk).trans (if_neg (by simp [hbit]))).trans ?_)
      obtain ⟨-, hhost, -, -, hsafety, -⟩ := s.m.rvNoted_fields rq x
      unfold Mod.calPair Mod.parAcc
      rw [hhost, hsafety]
  · intro s rq x hadmit hst
    refine .rv (m' := (s.m.rvNoted rq x).confirm) (a := ans 0) rfl hadmit (if_pos ?_) rfl
    rw [Mod.rvNoted_runB, Mod.rvNoted_fwSlot, hst]
  · intro s u hpow hsince hwarm hst hms
    have honly := (trialAutoConfirm_within s.m).only (s := s)
    refine .on rfl rfl hpow ?_
    rw [trialAutoConfirm_of_due hsince hwarm hst hms] at honly ⊢
    obtain ⟨hactive, hnone, hrun, hsvn, hother, hrec⟩ := s.m.confirm_effect
    exact ⟨hactive, hnone, hrun, hsvn, hother, hrec, honly⟩
  · intro s rq x hadmit hst hsvn hkind hrec hrestart hstate
    obtain ⟨hplan, -, -, hpower, -⟩ := s.m.rvNoted_fields rq x
    have hwarm : s.m.plan.warm = false := by
      obtain ⟨-, hserved, -⟩ := hadmit
      simp only [Mod.rvServed, Bool.and_eq_true, Bool.not_eq_true'] at hserved
      exact hserved.2
    obtain ⟨usb, ses, hupd⟩ := s.m.rvNoted_upd rq x
    obtain ⟨m', hback, hslot, hrun, hplan', hnone, hrunning⟩ := uRollback_of_supervisor { s := x.s, op := 0x0016, rq := rvHost rq } (s.m.rvNoted rq x)
      (by simpa using hst) (by rw [hupd, Mod.rvNoted_inactive]; exact hsvn) (by simpa using hkind) (by simpa using hrec)
    have hwithin := hadmit.within hback
    rw [hpower] at hnone hrunning
    rw [hplan] at hplan'
    rw [Mod.rvNoted_inactive, Mod.rvNoted_runB, Mod.rvNoted_fwSlot] at hslot
    rw [Mod.rvNoted_runB] at hrun
    obtain ⟨hinactive, hrunB, hbegun⟩ := m'.rvReplied_warmRestart_effect 0x0016 rq x (hnone.trans hrestart) (hrunning.trans hstate) (by rw [hplan', hwarm])
    rw [hslot] at hinactive
    rw [hplan'] at hbegun
    exact .rv rfl hadmit hback ⟨congrArg FwSlot.st hinactive, congrArg FwSlot.generation hinactive, congrArg PlanSt.warm hbegun,
      congrArg PlanSt.warmCause hbegun, (congrArg PlanSt.running hbegun).trans rfl, hrunB.trans hrun, hwithin.only⟩

end Sys2Proof.Machine

end
